-- ==== Sys2Proof/Word.lean ====
section
/-!
DEFINITION. Word.lean: the words of the KZ9680 and the two carriers every other file uses:
bit vectors where the spec numbers bits, and sparse tables keyed by an index.
-/
namespace Sys2Proof

/-- One byte. -/
abbrev Byte := BitVec 8
/-- A 16-bit field. -/
abbrev Half := BitVec 16
/-- A 32-bit register or descriptor word. -/
abbrev Word := BitVec 32
/-- A 64-bit register. -/
abbrev DWord := BitVec 64

/-- An instant of working time, counted in units of 1/256 ns (R7: the fraction is 8 bits). -/
abbrev STime := Nat

/-- A sparse table: an entry that is not listed holds its owner's reset value. -/
abbrev Tab (α : Type) := List (Nat × α)

end Sys2Proof
end

