-- ==== Sys2Proof/Syntax.lean ====
section
/-!
DEFINITION. Syntax.lean: the commands the KZ9680 takes, one constructor for each row of the table of
operations, and the operands they carry. An operand is what the outside gives the step: a descriptor, what host
memory returned, a received frame, a sampled level or code, an instant.
-/
namespace Sys2Proof

/-- How an access to host memory ended (R69): data, a failed read (Unsupported Request, Completer Abort
or poisoned data), or a read that timed out. -/
inductive Access where
  | ok
  | error
  | timeout
deriving DecidableEq, Repr

/-- The host buffer of a command as the device's accesses find it: how they end, and the bytes read (R61, R69). -/
structure HostBuf where
  acc   : Access := .ok
  bytes : List Byte := []
deriving DecidableEq, Repr

/-- A command descriptor (R60, Table HIF-3) in ring `ring`, with the host buffer it names. -/
structure Desc where
  ring    : Nat := 0
  opcode  : Half := 0
  flags   : Half := 0
  tag     : Word := 0
  target  : Word := 0
  bufLen  : Word := 0
  bufAddr : DWord := 0
  p0 : Word := 0
  p1 : Word := 0
  p2 : Word := 0
  p3 : Word := 0
  p4 : Word := 0
  p5 : Word := 0
  p6 : Word := 0
  p7 : Word := 0
  resv : DWord := 0
  buf  : HostBuf := {}
  /-- the environment's answer to the command's writes into the Keep: the sectors whose verify fails (R591, R723) -/
  bad  : List Nat := []
deriving DecidableEq, Repr

/-- An edge at the urgent pin of a converter: its number, and whether the pin rises (R276, R301). -/
structure PinEdge where
  conv   : Nat
  rising : Bool
deriving DecidableEq, Repr

/-- An edge with its time (R322). -/
structure TimedEdge where
  rising : Bool
  at_    : STime
deriving DecidableEq, Repr

/-- A character as a UART line carried it: the data bits, and the parity bit where the format has one (R329). -/
structure LineChar where
  data   : Byte
  parity : Bool
deriving DecidableEq, Repr

/-- What the read of a slot of a command ring brings: the 64 bytes of Table HIF-3, or a failure (R60, R69). -/
inductive SlotRead where
  | bytes (b : List Byte)
  | fail (a : Access)
deriving DecidableEq, Repr

/-- Where a host write or read goes: a BAR, or the configuration space of the endpoint (R48, R50). -/
inductive HostSpace where
  | bar0
  | bar2
  | bar4
  | config
deriving DecidableEq, Repr

/-- A fetched slot: its descriptor, or the failure of its read (R68, R69). -/
inductive Fetched where
  | desc (d : Desc)
  | fail (a : Access)
deriving DecidableEq, Repr

/-- A host write: byte offset, width in bytes and the data, in its low bits. -/
structure BusWrite where
  off   : Nat
  width : Nat
  value : DWord
deriving DecidableEq, Repr

/-- A segment of a window as the device reads it from host memory: header and payload bytes (R84). -/
structure HostSeg where
  acc   : Access := .ok
  bytes : List Byte := []
deriving DecidableEq, Repr

/-- A token (R150, Table DPT-1). `epoch` is KIND 1, `bf` is FORMAT 1. -/
structure Token where
  time    : STime
  epoch   : Bool := false
  stale   : Bool := false
  bf      : Bool := false
  /-- the value was sampled while OVERSPEED was set (R323); Table DPT-1 gives no bit for it (log 86) -/
  overspeed : Bool := false
  version : Nat := 0
  slot    : Nat := 0
  operand : Nat := 0
  source  : Nat := 0
  value   : Word := 0
  seq     : Half := 0
deriving DecidableEq, Repr

/-- What resets HIF alone (R99). -/
inductive LinkLoss where
  | linkDown
  | hotReset
  | flr
deriving DecidableEq, Repr

/-- How a transmission of a CAN controller ended: sent, arbitration lost, an ACK error, a bit error that R528 counts, or
any other error (R520, R527, R528). -/
inductive CanEnd where
  | sent
  | lost
  | ack
  | bit
  | other
deriving DecidableEq, Repr

/-- A frame that a CAN controller has received, or a receive error with the amount it adds to REC: start-of-frame time,
identifier word, DLC with FDF, BRS and ESI, data (R518, R522). -/
structure CanRx where
  err  : Option Nat := none
  at_  : STime := 0
  id   : Nat := 0
  ctl  : Nat := 0
  data : List Byte := []
deriving DecidableEq, Repr

/-- What a packet of the pair link completes (R632): the sender's firmware versions and safety configuration, its
persistent configuration with the cause of R634 that sends it again (0 for a first join), its image, a record, or an update
of the persistent configuration. The layout of the bytes is not in the spec. -/
inductive PairMsg where
  | info (versions : List Nat) (configId crcA crcB : Nat)
  | config (cause : Nat) (bytes : List Byte)
  | image (bytes : List Byte)
  | record (bytes : List Byte)
  | update (bytes : List Byte)
deriving DecidableEq, Repr

/-- The commands: one constructor for each row of spec/opcode_table.json, in its order. -/
inductive Instr where
/-- RING_DOORBELL (R56): The host writes a new producer index to a command-ring doorbell. -/
  | ringDoorbell (n : Nat) (b : BusWrite)
/-- EVENT_RING_DOORBELL (R78): The host writes its consumer index to the event-ring doorbell, freeing slots. -/
  | eventRingDoorbell (b : BusWrite)
/-- WINDOW_DOORBELL (R91): The host names segment k of a window, and the device reads OWN flags from its next
  segment up to k and takes every segment passed to it. -/
  | windowDoorbell (n : Nat) (b : BusWrite) (segs : List HostSeg)
/-- DESCRIPTOR_FETCH (R68): The device fetches pending descriptors of a ring, up to 8 ahead of execution. -/
  | descriptorFetch (n : Nat) (got : List SlotRead)
/-- COMMAND_DISPATCH (R64): The next descriptor of a served ring starts once the previous descriptor of that
  ring has completed, with rings chosen by priority and round-robin. -/
  | commandDispatch (buf : HostBuf) (got : List SlotRead) (bad : List Nat)
/-- UNSUPPORTED_OPCODE (R30): A command with an unassigned block ID, or a PMC, CLK or TST opcode, completes with
  UNSUPPORTED. -/
  | unsupportedOpcode (d : Desc)
/-- NOP (R102): Does nothing and completes. -/
  | nop (d : Desc)
/-- RING_RESUME (R72): Resumes a halted ring in CONTINUE or FLUSH mode. -/
  | ringResume (d : Desc) (got : List SlotRead)
/-- WINDOW_BIND (R102): Binds a data source to a window and resets the window to segment 0. -/
  | windowBind (d : Desc)
/-- WINDOW_RELEASE (R102): Stops the source at a record boundary, hands back a partly filled segment and unbinds
  the window. -/
  | windowRelease (d : Desc)
/-- QRESUME_CONTINUE (R74): Writing MODE CONTINUE to HIF_QRESUMEn resumes the ring as RING_RESUME CONTINUE does.
  -/
  | qresumeContinue (n : Nat)
/-- QRESUME_FLUSH (R74): Writing MODE FLUSH to HIF_QRESUMEn flushes the ring as RING_RESUME FLUSH does. -/
  | qresumeFlush (n : Nat) (got : List SlotRead)
/-- RING_ENABLE (R75): Setting ENABLE of a ring resets CI, PI and phase and clears HALTED. -/
  | ringEnable (n v : Nat)
/-- RING_DISABLE (R75): Clearing ENABLE of a ring lets the executing descriptor complete and drops pending
  descriptors without completion. -/
  | ringDisable (n v : Nat)
/-- EVENT_RING_ENABLE (R77): Setting ENABLE of the event ring resets its indices and phase, and may deliver
  EVENT_RING_GAP first. -/
  | eventRingEnable (v : Nat)
/-- EVENT_RING_DISABLE (R77): Clearing ENABLE of the event ring discards the held records. -/
  | eventRingDisable (v : Nat)
/-- WINDOW_CONFIG_WRITE (R106): A write to HIF_WBASEw or HIF_WCFGw is checked and takes effect or sets CFG_ERR.
  -/
  | windowConfigWrite (n : Nat) (b : BusWrite)
/-- HIF_STATUS_READ (R105): A read of HIF_STATUS returns it and clears CFG_ERR. -/
  | hifStatusRead
/-- REGISTER_WRITE (R16): A host write to a register that has no row of its own takes effect at once, and narrow
  writes are ignored and counted. -/
  | registerWrite (sp : HostSpace) (b : BusWrite)
/-- MSIX_VECTOR_UNMASK (R95): Unmasking an MSI-X vector sends the interrupt recorded as pending. -/
  | msixVectorUnmask (v : Nat)
/-- INTERRUPT_COALESCE_TIMEOUT (R94): TIME_US after the first gathered signal, a vector fires. -/
  | interruptCoalesceTimeout (v : Nat)
/-- EVENT_DELIVERY (R82): An admitted event of sufficient severity is written to the event ring, waiting while
  the ring is full. -/
  | eventDelivery
/-- SEGMENT_HANDBACK (R86): The device fills a device-to-host segment and hands it back with OWN = 0 and the
  next SEQ. -/
  | segmentHandback (n : Nat)
/-- WINDOW_FLUSH_TIMEOUT (R88): When the flush interval expires, a partly filled or empty segment is handed
  back. -/
  | windowFlushTimeout (n : Nat)
/-- PCIE_LINK_DOWN (R99): A PCIe link-down, hot reset or FLR resets HIF alone and disables every ring and
  window. -/
  | pcieLinkDown (why : LinkLoss) (ltssm lost : Nat)
/-- PERST_N_ASSERT (R790): PERST_N resets HIF and the PCIe link, and training begins 1 ms after its release. -/
  | perstNAssert (ltssm lost : Nat)
/-- PCIE_D3HOT_ENTRY (R49): Entry into D3hot stops host-memory access and interrupts, while control continues.
  -/
  | pcieD3hotEntry
/-- CFG_LOAD_BASE (R806): Checks a base image, stores it in the Keep, loads it and enters LOADED. -/
  | cfgLoadBase (d : Desc)
/-- CFG_RUN (R111): Moves CFG from LOADED to RUNNING, subject to time, pair and Belfry checks. -/
  | cfgRun (d : Desc)
/-- CFG_STOP (R112): With every loop open and every axis at rest, disarms overlays, halts the engines and hands
  control to FBL. -/
  | cfgStop (d : Desc)
/-- CFG_OVERLAY_LOAD (R116): Checks an overlay in full and stores it in a slot. -/
  | cfgOverlayLoad (d : Desc)
/-- CFG_OVERLAY_ARM (R120): Binds a resident overlay to a commit time and starts staging it. -/
  | cfgOverlayArm (d : Desc)
/-- OVERLAY_STAGING_DONE (R120): Staging has finished in every unit and the arming record is in the Keep (and
  acknowledged by a synced peer), so the arming takes effect. -/
  | overlayStagingDone
/-- STAGE_GUARD_TIMEOUT (R122): Staging unfinished t_STAGE_GUARD before the commit time completes the arming
  with TIMEOUT and withdraws the staged values. -/
  | stageGuardTimeout
/-- CFG_OVERLAY_DISARM (R127): Withdraws the latest armed overlay unless its commit time is too close. -/
  | cfgOverlayDisarm (d : Desc)
/-- CFG_OVERLAY_DELETE (R146): Frees an unarmed overlay slot. -/
  | cfgOverlayDelete (d : Desc)
/-- CFG_READ_RECORD (R146): Copies a configuration record of a given version to the host buffer. -/
  | cfgReadRecord (d : Desc)
/-- CFG_COMMIT (R128): Working time reaches an armed commit time, and the new version comes into force in every
  unit. -/
  | cfgCommit
/-- VERSION_RECORD_EXPIRY (R132): A superseded record is dropped t_VERSION_KEEP after the commit that superseded
  it. -/
  | versionRecordExpiry
/-- TOKEN_ARRIVAL (R155): A token reaches the matching store and is queued, replaces a value, or is discarded.
  -/
  | tokenArrival (source slot operand : Nat)
/-- FIRING_DISPATCH (R171): The head of the ready queue goes to the lowest-numbered free active lane once one is
  free. -/
  | firingDispatch
/-- PRIMARY_WAIT_EXPIRY (R160): No primary has arrived by S + P + W, so the task fires with a stale primary at
  sample time S + P. -/
  | primaryWaitExpiry (slot : Nat)
/-- FRESH_WAIT_EXPIRY (R161): A FRESH or never-filled HELD operand is missing at S' + W, so the task fires with
  it marked stale. -/
  | freshWaitExpiry (slot : Nat)
/-- DPT_TICK (R169): At each tick boundary, due program releases move to their cores' ready queues. -/
  | dptTick
/-- LOOP_EVALUATION (R189): A lane completes a loop evaluation, emits its outputs, writes state and reports
  completion. -/
  | loopEvaluation (lane : Nat)
/-- LANE_ERROR (R174): A lane reports a residue or parity error, and DPT reissues the firing to a spare lane or
  the head of the queue. -/
  | laneError (l check : Nat)
/-- EPOCH_BOUNDARY (R178): At T_e, DPT places epoch markers and opens a cut. -/
  | epochBoundary
/-- EPOCH_MARKER_TIMEOUT (R808): A silent or disabled stream passes its marker at T_e plus its marker latency.
  -/
  | epochMarkerTimeout (source slot operand : Nat)
/-- TASK_CAPTURE (R179): A task's state as of T_e is captured on an active lane before its first firing at or
  after T_e. -/
  | taskCapture (slot : Nat)
/-- DPT_CUT_REPORT (R180): All tasks are captured and all markers passed, so DPT reports its part of the cut. -/
  | dptCutReport
/-- DPT_CUT_PENDING (R180): A firing stamped before T_e is still waiting one epoch length after T_e. -/
  | dptCutPending (slot : Nat)
/-- DISABLED_TASK_OPERAND_EXPIRY (R159): t_VERSION_KEEP after a disabling commit, the task discards its held
  operands. -/
  | disabledTaskOperandExpiry (slot : Nat)
/-- DPT_READ_TASK (R185): Returns a task status record. -/
  | dptReadTask (d : Desc)
/-- DPT_CLEAR_COUNTERS (R185): Clears the selected DPT counters. -/
  | dptClearCounters (d : Desc)
/-- DPT_CHECK_LOAD (R185): Applies the schedulability test without changing anything. -/
  | dptCheckLoad (d : Desc)
/-- LPE_SET_MODE (R230): Writes MODE_CMD of a loop and clears a latched stale-open. -/
  | lpeSetMode (d : Desc)
/-- LPE_SET_COEF (R220): Writes one coefficient of an open loop. -/
  | lpeSetCoef (d : Desc)
/-- LPE_SET_LIMIT (R230): Writes one limit of a loop. -/
  | lpeSetLimit (d : Desc)
/-- LPE_SET_SP (R201): Places a HOST set-point token in operand 1. -/
  | lpeSetSp (d : Desc)
/-- LPE_SET_OUTPUT (R218): Writes MAN_OUT of a MANUAL loop. -/
  | lpeSetOutput (d : Desc)
/-- LPE_READ_STATE (R231): Returns a loop state record. -/
  | lpeReadState (d : Desc)
/-- LPE_CLEAR_COUNTERS (R230): Clears the selected LPE counters. -/
  | lpeClearCounters (d : Desc)
/-- LPE_LANE_EN_WRITE (R234): A write to LPE_LANE_EN removes or returns lanes, and SPR fills any empty active
  position. -/
  | lpeLaneEnWrite (b : BusWrite)
/-- LTN_TRACE_SET (R253): Forms a trace group in IDLE. -/
  | ltnTraceSet (d : Desc)
/-- LTN_TRACE_ARM (R253): Clears the buffers of a group and arms it with a trigger. -/
  | ltnTraceArm (d : Desc)
/-- LTN_TRACE_FORCE (R253): Gives a HOST trigger to an armed group. -/
  | ltnTraceForce (d : Desc)
/-- LTN_TRACE_STOP (R253): Stops an armed or triggered group. -/
  | ltnTraceStop (d : Desc)
/-- LTN_TRACE_READ (R249): Copies a finished group into its window. -/
  | ltnTraceRead (d : Desc)
/-- CONVERSION_END (R267): A conversion ends, and its sample is corrected, summed and, where a result is due,
  emitted. -/
  | conversionEnd (c : Nat) (raw : Int) (at_ : STime)
/-- SCAN_START (R269): A periodic or triggered scan start begins a scan, or is deferred or dropped. -/
  | scanStart (c : Nat)
/-- URGENT_PIN_REQUEST (R276): An edge on URG_PIN requests an urgent conversion. -/
  | urgentPinRequest (e : PinEdge)
/-- ADC_RANGE_WRITE (R263): A write to ADC_RANGEn switches a channel's front end and raises ADC_RANGE_SET. -/
  | adcRangeWrite (n v : Nat)
/-- RANGE_SETTLE_EXPIRY (R263): t_RANGE_SETTLE after a range write, the channel rejoins the scans. -/
  | rangeSettleExpiry (n : Nat)
/-- CALIBRATION_TAKEOVER (R296): At the next scan boundary, a spare takes over the logical converter under
  calibration. -/
  | calibrationTakeover (c : Nat)
/-- CALIBRATION_TABLE_FIT (R296): The converter finishes measuring and fitting a correction table. -/
  | calibrationTableFit (c : Nat) (ofs16 : Int) (g noise : Nat)
/-- CALIBRATION_HANDBACK (R296): At the next scan boundary the converter is handed back, and ADC_CAL_DONE or
  ADC_CAL_FAIL is raised. -/
  | calibrationHandback (c : Nat)
/-- ADC_URGENT (R276): Requests an urgent conversion and completes with its data word. -/
  | adcUrgent (d : Desc)
/-- ADC_CALIBRATE (R295): Requests the calibration activity for a logical converter. -/
  | adcCalibrate (d : Desc)
/-- ADC_READ_CAL (R302): Returns the correction tables of a logical converter. -/
  | adcReadCal (d : Desc)
/-- ADC_CLEAR_COUNTERS (R302): Clears the selected ADC counters. -/
  | adcClearCounters (d : Desc)
/-- DAC_OUTPUT_ARRIVAL (R308): An output reaches a DAC channel and is latched, held, or discarded by sample-time
  order. -/
  | dacOutputArrival (n : Nat)
/-- DAC_HOLD_LATCH (R309): 1 µs after the previous latch, the waiting code is latched. -/
  | dacHoldLatch (n : Nat)
/-- DAC_OE_WRITE (R307): A write to DAC_OE enables or releases analog outputs at once. -/
  | dacOeWrite (v : Nat)
/-- DAC_SET (R311): Writes a code to a HOST-owned DAC channel. -/
  | dacSet (d : Desc)
/-- DIO_OE_WRITE (R313): A write to DIO_OEw enables or releases digital outputs at once. -/
  | dioOeWrite (w v : Nat)
/-- DIO_INPUT_ACCEPT (R315): A raw level held for FILT_US is accepted as an edge. -/
  | dioInputAccept (n : Nat) (level : Bool) (at_ : STime)
/-- DIO_RAW_EXCURSION_SUPPRESS (R316): A raw excursion that returns before FILT_US is suppressed and counted. -/
  | dioRawExcursionSuppress (n : Nat)
/-- PWM_CODE_ARRIVAL (R321): A PWM code arrives and waits for the next period start. -/
  | pwmCodeArrival (n : Nat)
/-- PWM_PERIOD_START (R321): At a PWM period start, the newest code takes effect. -/
  | pwmPeriodStart (n : Nat)
/-- PULSE_EDGE (R322): A counted pulse edge advances DIO_PCNTp. -/
  | pulseEdge (p : Nat) (e : TimedEdge)
/-- PULSE_SAMPLE (R324): Every SAMPLE_NS, a pulse input sends a count or frequency token. -/
  | pulseSample (p : Nat)
/-- QUADRATURE_TRANSITION (R325): An ABZ transition updates the count or counts a quadrature error. -/
  | quadratureTransition (q : Nat) (a b : Bool)
/-- Z_INDEX_EDGE (R325): A qualified Z edge latches the count when Z_LATCH is set. -/
  | zIndexEdge (q : Nat) (a b : Bool)
/-- SSI_FRAME (R326): An SSI frame completes and is decoded, or is discarded. -/
  | ssiFrame (q raw : Nat) (high low : Bool) (at_ : STime)
/-- POSITION_SAMPLE (R327): Every SAMPLE_NS, a port sends a position token. -/
  | positionSample (q : Nat)
/-- UART_RX_BYTE (R331): A received UART byte becomes an 8-byte record, or is buffered or lost while the window
  is starved. -/
  | uartRxByte (u : Nat) (c : LineChar) (flags : Nat) (at_ : STime)
/-- UART_RX_IDLE (R331): After RX_IDLE bit times of idle line, the receive segment is handed back. -/
  | uartRxIdle (u : Nat)
/-- UART_TX_DONE (R331): The last byte of a transmit segment has been sent, and the segment is returned. -/
  | uartTxDone (u : Nat)
/-- DIO_PSTAT_CLEAR (R323): A W1C write clears OVERSPEED in DIO_PSTATp. -/
  | dioPstatClear (p v : Nat)
/-- DIO_SET (R335): Sets masked HOST-owned output pins. -/
  | dioSet (d : Desc)
/-- DIO_POS_PRESET (R335): Loads an ABZ port count. -/
  | dioPosPreset (d : Desc)
/-- DIO_CLEAR_COUNTERS (R335): Clears the selected DIO counters. -/
  | dioClearCounters (d : Desc)
/-- SERVO_TICK (R340): At each servo period start, TIM sends the axis its primary tick token. -/
  | servoTick (a : Nat)
/-- MOTION_FIRING (R343): MOT completes an axis firing, replanning if needed, and emits the set-point. -/
  | motionFiring
/-- LIMIT_PIN_CHANGE (R354): DIO passes an accepted change of a limit pin to MOT. -/
  | limitPinChange (a : Nat) (pos : Bool)
/-- LIMIT_QUALIFICATION (R355): An activation still active LIM_FILT_US after its edge is qualified and latches
  its limit. -/
  | limitQualification (a : Nat) (pos : Bool)
/-- MOT_MOVE (R382): Places a HOST target token in operand 1 of an axis. -/
  | motMove (d : Desc)
/-- MOT_STOP (R382): Stops an axis normally or as an emergency. -/
  | motStop (d : Desc)
/-- MOT_HOME (R360): Starts HOMING_SEEK. -/
  | motHome (d : Desc)
/-- MOT_SET_POS (R382): Sets HOFS so that p equals the given value, and sets HOMED. -/
  | motSetPos (d : Desc)
/-- MOT_READ_STATE (R382): Returns the axis state. -/
  | motReadState (d : Desc)
/-- MOT_CLEAR_COUNTERS (R382): Clears the selected MOT counters. -/
  | motClearCounters (d : Desc)
/-- CCR_PWM_PERIOD (R370): A PWM period loads new duties, measures the current and runs the regulator. -/
  | ccrPwmPeriod (m : Nat) (sa sb : List Int)
/-- FULL_STEP_LOAD (R373): At each full step in STRONG, LOAD is formed and a stall may be reported. -/
  | fullStepLoad (m : Nat)
/-- SETPOINT_LOSS_EXPIRY (R375): Two servo periods without a set-point start the loss ramp and raise
  CCR_SP_LOSS. -/
  | setpointLossExpiry (m : Nat)
/-- HOLD_DELAY_EXPIRY (R369): After HOLD_DELAY_MS without position change, the current ramps to I_HOLD. -/
  | holdDelayExpiry (m : Nat)
/-- CCR_OE_WRITE (R379): A write to CCR_OE permits or releases drive switching at once. -/
  | ccrOeWrite (v : Nat)
/-- CCR_CLEAR_FAULT (R382): Leaves FAULT and resumes the drive. -/
  | ccrClearFault (d : Desc)
/-- PROGRAM_CYCLE_START (R399): A core starts a ready cycle by reading its input image and runs its entries. -/
  | programCycleStart (c : Nat)
/-- PROGRAM_CYCLE_END (R401): A cycle ends, and its output image is published or discarded. -/
  | programCycleEnd (c : Nat)
/-- CYCLE_OVERRUN (R402): T_MAX_US after release with the cycle unfinished, its outputs are to be discarded. -/
  | cycleOverrun (c : Nat)
/-- CYCLE_ABORT (R403): T_ABORT_US after release, the cycle is aborted and rolled back, and the program enters
  FAULT. -/
  | cycleAbort (c : Nat)
/-- PROGRAM_FAULT (R388): An illegal instruction, access fault, misalignment, ECALL or EBREAK puts the program
  in FAULT. -/
  | programFault (c : Nat)
/-- CORE_ERROR (R405): A core error rolls back the cycle and reruns it on a spare. -/
  | coreError (c : Nat)
/-- PROGRAM_INSTRUCTION (R385): A core executes an RV32IMC instruction of the running program. -/
  | programInstruction (c : Nat)
/-- FB_TON (R409): On-delay timer instruction. -/
  | fbTon (c : Nat)
/-- FB_TOF (R409): Off-delay timer instruction. -/
  | fbTof (c : Nat)
/-- FB_TP (R409): Pulse timer instruction. -/
  | fbTp (c : Nat)
/-- FB_RTRIG (R409): Rising-edge detection instruction. -/
  | fbRtrig (c : Nat)
/-- FB_FTRIG (R409): Falling-edge detection instruction. -/
  | fbFtrig (c : Nat)
/-- FB_CTU (R409): Up-counter instruction. -/
  | fbCtu (c : Nat)
/-- FB_CTD (R409): Down-counter instruction. -/
  | fbCtd (c : Nat)
/-- FB_NOW (R407): Returns the low 32 bits of S. -/
  | fbNow (c : Nat)
/-- FB_NOWH (R407): Returns the high 32 bits of S. -/
  | fbNowh (c : Nat)
/-- PROGRAM_EXCHANGE_BOUNDARY (R410): At the first cycle boundary after staging, the new image replaces the old
  with instances carried over. -/
  | programExchangeBoundary (n : Nat)
/-- PGM_LOAD (R396): Loads and checks a program image. -/
  | pgmLoad (d : Desc)
/-- PGM_EXCHANGE (R410): Stages a new image for online exchange. -/
  | pgmExchange (d : Desc)
/-- PGM_RESTART (R413): Restarts a program WARM or COLD. -/
  | pgmRestart (d : Desc)
/-- PGM_READ_INSTANCE (R429): Copies an instance to the host. -/
  | pgmReadInstance (d : Desc)
/-- PGM_CLEAR_COUNTERS (R429): Clears the selected PGM counters. -/
  | pgmClearCounters (d : Desc)
/-- FBL_SCAN (R419): Every 50 µs, FBL latches its inputs, executes to END and forms its output image. -/
  | fblScan
/-- FBL_TAKE_CONTROL (R425): FBL takes control within 1 µs of CFG leaving RUNNING, Spire reset or link down. -/
  | fblTakeControl
/-- FBL_LOAD (R424): Loads and checks an FBL image. -/
  | fblLoad (d : Desc)
/-- FBL_READ (R429): Returns FBL state at a scan end. -/
  | fblRead (d : Desc)
/-- FRAME_RECEIVE (R433): A received Ethernet frame is time-stamped and routed to exactly one consumer. -/
  | frameReceive (p : Nat) (at_ : STime) (bytes : List Byte)
/-- HOST_FRAME_QUEUE (R437): The device reads a transmit segment once its frames fit the FIFOs, and queues them.
  -/
  | hostFrameQueue (p : Nat)
/-- FRAME_LAUNCH (R442): A frame at the head of its class leaves when its launch time, gate and port allow. -/
  | frameLaunch (p : Nat)
/-- GATE_CYCLE_START (R440): A gate cycle begins and the gate control list runs. -/
  | gateCycleStart (p : Nat)
/-- NZ_REQUEST_BUILD (R449): t_NZ_BUILD before launch, the REQUEST is built from the held output words. -/
  | nzRequestBuild (st : Nat)
/-- NZ_RESPONSE (R452): A station RESPONSE is validated and updates the input image and sends tokens. -/
  | nzResponse (st : Nat)
/-- NZ_RESPONSE_DEADLINE (R452): A cycle without a valid response by its deadline is a miss. -/
  | nzResponseDeadline (st : Nat)
/-- PARAM_ACK (R461): A station acknowledges a parameter piece. -/
  | paramAck (st : Nat)
/-- NZ_PARAM_PIECE_TIMEOUT (R461): An unacknowledged parameter piece or delay exchange is repeated after 1 ms,
  or fails after 3 attempts. -/
  | nzParamPieceTimeout (st : Nat)
/-- DELAY_RESP (R455): A DELAY_RESP supplies a path-delay measurement. -/
  | delayResp (st : Nat)
/-- PROBE_REPLY (R458): A frame from a LOST station moves it to PARAM. -/
  | probeReply (st : Nat)
/-- NZ_PROBE_TIMER (R460): Every PROBE_US, a PROBE is sent to a LOST station. -/
  | nzProbeTimer (st : Nat)
/-- ETH_LINK_UP (R469): A port link comes up. -/
  | ethLinkUp (p : Nat)
/-- ETH_LINK_DOWN (R459): A port link goes down, and its stations are lost. -/
  | ethLinkDown (p : Nat)
/-- PRP_SUPERVISION_TIMER (R432): Every 2,000 ms, a PRP supervision frame is sent. -/
  | prpSupervisionTimer (p : Nat)
/-- ETH_PORT_EN_WRITE (R471): A write to ETH_PORT_EN takes links down or lets them train. -/
  | ethPortEnWrite (v : Nat)
/-- ETH_READ_STATION (R468): Returns station status. -/
  | ethReadStation (d : Desc)
/-- ETH_REPARAM (R468): Forces a loss of cause 5 and reparameterises a station. -/
  | ethReparam (d : Desc)
/-- ETH_CB_RESET (R468): Resets an 802.1CB stream's sequence recovery. -/
  | ethCbReset (d : Desc)
/-- ETH_CLEAR_COUNTERS (R468): Clears the selected ETH counters. -/
  | ethClearCounters (d : Desc)
/-- ALIGNMENT_STROBE (R475): Every 2^20 CK_TIME cycles, the Spire copy is aligned to the Dome counter and a new
  RATE or step takes effect. -/
  | alignmentStrobe
/-- SYNC_MEASUREMENT (R486): A Sync, with its Follow_Up when two-step, gives an offset measurement and a servo
  update. -/
  | syncMeasurement (dom : Nat)
/-- ANNOUNCE_RECEIVE (R495): An Announce of the selected domain supplies the UTC offset. -/
  | announceReceive (dom : Nat)
/-- PDELAY_REQ_RECEIVE (R498): A Pdelay_Req is answered on a P2P or GPTP port. -/
  | pdelayReqReceive (dom : Nat)
/-- MASTER_SYNC_TRANSMIT (R498): A MASTER domain sends Sync, Follow_Up and Announce on schedule. -/
  | masterSyncTransmit (dom : Nat)
/-- DOMAIN_LOSS_TIMEOUT (R492): LOSS_MS without a valid measurement switches domain or enters HOLDOVER. -/
  | domainLossTimeout (dom : Nat)
/-- PPS_IN_EDGE (R501): A PPS_IN edge is stamped and measured for a PPS domain. -/
  | ppsInEdge (at_ : STime)
/-- PPS_OUT_EDGE (R501): PPS_OUT rises at each whole second and falls after PPS_W_US. -/
  | ppsOutEdge
/-- TRIGGER_FIRING (R503): A trigger-table entry fires, starting scans and program releases. -/
  | triggerFiring (e : Nat)
/-- TIM_SET_TIME (R480): Steps working time from UNSET to the given time. -/
  | timSetTime (d : Desc)
/-- TIM_SELECT (R493): Selects a domain. -/
  | timSelect (d : Desc)
/-- TIM_RESTEP (R485): Returns working time to UNSET. -/
  | timRestep (d : Desc)
/-- TIM_SET_UTC (R495): Sets the UTC offset and leap flags. -/
  | timSetUtc (d : Desc)
/-- TIM_READ_DOMAIN (R506): Returns domain status. -/
  | timReadDomain (d : Desc)
/-- TIM_CLEAR_COUNTERS (R506): Clears the selected TIM counters. -/
  | timClearCounters (d : Desc)
/-- TIM_NOW_READ (R508): A read of TIM_NOW latches TIM_NOWF. -/
  | timNowRead
/-- CAN_FRAME_RECEIVE (R522): A received CAN frame is filtered and goes to the host or a token. -/
  | canFrameReceive (n : Nat) (f : CanRx)
/-- CAN_TX_START (R516): At bus idle, the pending buffer with the lowest identifier starts. -/
  | canTxStart (n : Nat)
/-- CAN_TX_END (R520): A transmission ends, successfully or with an error, and the frame is retransmitted if
  needed. -/
  | canTxEnd (n : Nat) (how : CanEnd) (tdc : Nat)
/-- PERIODIC_BUFFER_FIRING (R515): A PERIODIC buffer falls due, or skips the firing if still pending. -/
  | periodicBufferFiring (n b : Nat)
/-- CAN_TX_LATE (R519): A frame not started 1 ms after its launch time is dropped. -/
  | canTxLate (n b : Nat)
/-- BUS_OFF_RECOVERY_DONE (R526): 128 occurrences of 11 recessive bits return the controller to ERROR_ACTIVE. -/
  | busOffRecoveryDone (n : Nat)
/-- TT_REFERENCE_SEND (R531): A time master sends the reference message of a basic cycle. -/
  | ttReferenceSend (n : Nat)
/-- TT_REF_LOST (R532): No reference for 2 × BC_NS stops TT frames. -/
  | ttRefLost (n : Nat)
/-- TT_WINDOW (R533): A TT buffer's window opens and the frame is sent or dropped. -/
  | ttWindow (n b : Nat)
/-- CAN_EN_WRITE (R541): A write to CAN_EN permits controllers or forces them OFF at bus idle. -/
  | canEnWrite (v : Nat)
/-- CAN_TX_SET (R538): Replaces buffer data and arms a ONESHOT buffer. -/
  | canTxSet (d : Desc)
/-- CAN_TX_ABORT (R521): Removes a pending frame. -/
  | canTxAbort (d : Desc)
/-- CAN_RECOVER (R538): Starts bus-off recovery. -/
  | canRecover (d : Desc)
/-- CAN_SET_MODE (R538): Switches between NORMAL and LISTEN_ONLY at bus idle. -/
  | canSetMode (d : Desc)
/-- CAN_CLEAR_COUNTERS (R538): Clears the selected CAN counters. -/
  | canClearCounters (d : Desc)
/-- SAF_INPUT_SAMPLE (R548): Every t_SAMP, a channel samples its contacts and accepts changes after FILT_US. -/
  | safInputSample (b : Bool) (contacts fb : Nat)
/-- SAFETY_CYCLE (R543): A channel's safety cycle latches inputs and exchange, evaluates functions and applies
  outputs. -/
  | safetyCycle (b : Bool)
/-- DISCREPANCY_TIMEOUT (R549): A discrepancy lasting longer than DISC_MS latches DISC_FAULT. -/
  | discrepancyTimeout (n : Nat)
/-- TEST_PULSE (R561): Every TP_PERIOD_MS, a switch of an energised output is pulsed off and its feedback
  checked. -/
  | testPulse (n : Nat) (low off on_ : Bool)
/-- FEEDBACK_TIMEOUT (R560): A feedback not matching its command within FB_US latches OUTPUT_FAULT. -/
  | feedbackTimeout (n : Nat) (low : Bool)
/-- CHANNEL_FAULT (R574): A detected fault is attributed, and Belfry degrades or enters SAFE_FAULT. -/
  | channelFault (cause attr : Nat)
/-- DEGRADED_TIMEOUT (R576): T_DEG expires in degraded mode, and Belfry enters SAFE_FAULT. -/
  | degradedTimeout
/-- SAF_INIT_DONE (R577): INIT self-tests complete, and Belfry enters RUN, UNCONFIGURED or SAFE_FAULT. -/
  | safInitDone (ok : Bool)
/-- SAFE_FRAME_PRODUCE (R568): Every SF_CYC_US, a producer sends a safe frame. -/
  | safeFrameProduce (p : Nat)
/-- SAFE_FRAME_RECEIVE (R570): A safe-frame copy is checked by both channels and accepted or discarded. -/
  | safeFrameReceive
/-- SF_WATCHDOG_TIMEOUT (R572): SF_WD_MS without a valid copy on one or both LANs enters SINGLE or FAULT. -/
  | sfWatchdogTimeout (k : Nat)
/-- SINGLE_LAN_TIMEOUT (R572): T_DEG in SINGLE puts the consumer in FAULT. -/
  | singleLanTimeout (k : Nat)
/-- CONFIRM_TIMEOUT (R581): A pending safety configuration unconfirmed for 60 s is discarded. -/
  | confirmTimeout
/-- SAF_LOAD_CONFIG (R579): Verifies and stores a pending safety configuration. -/
  | safLoadConfig (d : Desc)
/-- SAF_CONFIRM (R580): Puts the pending safety configuration into force. -/
  | safConfirm (d : Desc)
/-- SAF_SET_REQUEST (R559): Sets or clears output request bits. -/
  | safSetRequest (d : Desc)
/-- SAF_FAULT_RESET (R562): Clears an output or consumer fault. -/
  | safFaultReset (d : Desc)
/-- SAF_CLEAR_COUNTERS (R586): Clears the selected SAF counters. -/
  | safClearCounters (d : Desc)
/-- CUT_PART_READY (R593): A unit's part of the cut becomes ready and is drawn into the journal. -/
  | cutPartReady (blk : Nat) (bad : List Nat)
/-- CUT_COMMIT (R595): The trailer verify completes and the record is committed. -/
  | cutCommit (bad : List Nat)
/-- JOURNAL_RECORD_APPLY (R605): The housekeeping core applies a committed record to both slots. -/
  | journalRecordApply
/-- SLOT_COPY (R606): After a full cut, slot 0 is copied into slot 1. -/
  | slotCopy
/-- GAP_MOVE (R590): After 4,096 sector units written, the hot-region gap moves one place. -/
  | gapMove
/-- SPIRE_WARM_RESTART (R609): A Spire-only restart begins: the Spire die resets while the Dome die runs on. -/
  | spireWarmRestart (cause : Nat)
/-- BOOT_VERIFY (R758): The boot ROM verifies a firmware image and falls back if needed. -/
  | bootVerify (dirs : List (List Byte)) (imgs : List (Nat × Nat × List Byte))
/-- IMAGE_RESTORE (R610): The Spire die requests the image, and the latest valid slot is restored. -/
  | imageRestore (ecc : Bool) (bad : List Nat) (badRec : Option (Nat × Nat))
/-- CONTROL_RESUME (R612): Units resume in order, and FBL yields at the resume instant. -/
  | controlResume
/-- DEVICE_RESTART (R615): After a device reset, the base image is reloaded and a warm or cold restart runs if
  RUN_AT_LOSS is set. -/
  | deviceRestart
/-- KEP_RESTART (R619): Requests a restart of a given kind 100 µs after it takes effect. -/
  | kepRestart (d : Desc)
/-- KEP_RESTART_DELAY_EXPIRY (R619): 100 µs after KEP_RESTART takes effect, the restart begins. -/
  | kepRestartDelayExpiry
/-- KEP_READ_IMAGE (R619): Copies an image slot into its window. -/
  | kepReadImage (d : Desc)
/-- KEP_CLEAR_COUNTERS (R619): Clears the selected KEP counters. -/
  | kepClearCounters (d : Desc)
/-- HEARTBEAT_SEND (R626): Every 100 µs, a heartbeat is sent on each lane that is up. -/
  | heartbeatSend
/-- HEARTBEAT_RECEIVE (R626): A peer heartbeat is received and drives join, YIELD and REQ-clearing rules. -/
  | heartbeatReceive (lane : Nat) (bytes : List Byte) (pact fenced : Bool)
/-- HEARTBEAT_LOSS (R635): 1 ms without a heartbeat declares the peer lost. -/
  | heartbeatLoss (pact : Bool)
/-- TAKEOVER_FENCE_DONE (R637): PR_PACT_N deasserts after fencing, and the drain begins. -/
  | takeoverFenceDone
/-- FENCE_TIMEOUT (R637): PR_PACT_N still asserted after t_FENCE sends the device to ORPHAN. -/
  | fenceTimeout
/-- TAKEOVER_ENABLE (R637): After restore, OUT codes are written and the device becomes ACTIVE. -/
  | takeoverEnable
/-- PR_FENCED_N_ASSERT (R630): An asserted fence releases outputs and puts the device in FENCED. -/
  | prFencedNAssert
/-- PAIR_PACKET_RECEIVE (R625): A pair-link packet is received, acknowledged and delivered in sequence. -/
  | pairPacketReceive (lane : Nat) (packet : Option (Nat × Option PairMsg)) (acks : List Nat) (crcOk : Bool)
/-- PAIR_RETRANSMIT_TIMEOUT (R625): A packet unacknowledged after 20 µs is retransmitted. -/
  | pairRetransmitTimeout (q : Nat)
/-- PAI_LANE_DOWN (R625): A pair lane goes down, and traffic moves to the other lane. -/
  | paiLaneDown (l : Nat)
/-- SYNC_ACK_TIMEOUT (R634): A missing acknowledgement of a persistent update takes the standby out of SYNCED.
  -/
  | syncAckTimeout
/-- CLAIM_WAIT_EXPIRY (R628): 20 µs after asserting PR_ACT_N, the device becomes ACTIVE or backs off. -/
  | claimWaitExpiry (pact : Bool)
/-- POWER_UP_LISTEN_EXPIRY (R629): The power-up listen time ends without an active peer, and the device
  restarts. -/
  | powerUpListenExpiry
/-- YIELD_TIMEOUT (R640): YIELD_MS after a Spire reset without resume, YIELD is set. -/
  | yieldTimeout
/-- PAI_JOIN (R631): Starts a join after its checks. -/
  | paiJoin (d : Desc)
/-- PAI_SWITCHOVER (R641): Hands the active role to the synced standby. -/
  | paiSwitchover (d : Desc)
/-- PAI_LEAVE (R643): Leaves JOINING or SYNCED for LISTEN. -/
  | paiLeave (d : Desc)
/-- PAI_READ_PEER (R643): Returns the last peer heartbeat. -/
  | paiReadPeer (d : Desc)
/-- PAI_CLEAR_COUNTERS (R643): Clears the selected PAI counters. -/
  | paiClearCounters (d : Desc)
/-- LANTERN_RECORD (R649): A record bound for Lantern is queued and written into the ring with anchors, versions
  and gaps. -/
  | lanternRecord
/-- LTN_READ_CHANNEL (R679): Returns recorder channel status. -/
  | ltnReadChannel (d : Desc)
/-- LTN_CLEAR_COUNTERS (R679): Clears the Lantern counters. -/
  | ltnClearCounters (d : Desc)
/-- EVENT_RAISE (R664): A block raises an event, subject to its rate limit, and passes it to EVR. -/
  | eventRaise (code : Nat) (payload : List Byte)
/-- EVENT_ADMISSION (R666): Once no earlier record can arrive, EVR admits a record with the next SEQ. -/
  | eventAdmission (ok : Bool) (unread : List Nat)
/-- SUMMARY_TIMEOUT (R669): 1 s after the first suppressed occurrence, EVR_SUPPRESSED is issued. -/
  | summaryTimeout (code : Nat)
/-- EVR_EXPORT (R679): Copies event records in order to the host window. -/
  | evrExport (d : Desc) (bad : List Nat)
/-- EVR_READ_LASTGASP (R679): Returns the last-gasp records. -/
  | evrReadLastgasp (d : Desc)
/-- EVR_CLEAR_LASTGASP (R676): Clears the last-gasp store. -/
  | evrClearLastgasp (d : Desc)
/-- EVR_CLEAR_COUNTERS (R679): Clears the selected EVR counters. -/
  | evrClearCounters (d : Desc)
/-- FLIT_CRC_ERROR (R28): A flit with a CRC error is discarded and replayed. -/
  | flitCrcError (dir accepted : Nat)
/-- REPLAY_TIMEOUT (R684): t_BTR_ACK without acknowledgement replays from the first unacknowledged flit. -/
  | replayTimeout (dir accepted : Nat)
/-- RETRAIN_END (R685): The training pattern ends, failed lanes are replaced, and sending restarts. -/
  | retrainEnd (failed : Nat)
/-- LINK_IDLE_TIMEOUT (R687): No flit accepted for t_BTR_DOWN takes the link down. -/
  | linkIdleTimeout
/-- CROSSING_HANDSHAKE (R690): The reset side leaves reset, and the crossing queues restart. -/
  | crossingHandshake (k : Nat)
/-- SPIRE_WATCHDOG (R692): 1 ms without a Spire heartbeat begins a SPIRE_WARM. -/
  | spireWatchdog
/-- DOME_WATCHDOG (R693): 10 ms without a housekeeping signal resets the device. -/
  | domeWatchdog
/-- SPIRE_FATAL (R694): A fatal Spire error begins a SPIRE_WARM. -/
  | spireFatal (code detail : Nat)
/-- SIDEBAND_READ_TIMEOUT (R704): A sideband read without data at 40 µs completes with Completer Abort. -/
  | sidebandReadTimeout (off repeats : Nat)
/-- DRAM_SCRUB (R698): The scrubber reads a row and corrects errors. -/
  | dramScrub (row : Nat) (addrs : List Nat) (last : Bool)
/-- MEM_UE (R700): An uncorrectable DRAM error is handled according to its region. -/
  | memUe (region addr window segment off prog : Nat)
/-- WEAR_MONITOR_EVALUATION (R711): Every 10 ms, SPR evaluates wear monitors, warns, or starts swaps. -/
  | wearMonitorEvaluation (readings : List (Nat × Nat × Nat × Nat))
/-- SWAP_CHANGEOVER (R715): At its change-over instant, a spare replaces the worn unit. -/
  | swapChangeover (slot : Nat)
/-- KEEP_SCRUB_DONE (R722): The full Keep scrub ends. -/
  | keepScrubDone (bad : List Nat)
/-- DRAM_REPAIR_DONE (R725): DRAM_REPAIR finishes converting soft remaps. -/
  | dramRepairDone
/-- SPR_RESERVE_SWAP (R728): Requests a unit swap. -/
  | sprReserveSwap (d : Desc)
/-- SPR_KEEP_SCRUB (R722): Requests a full Keep scrub. -/
  | sprKeepScrub (d : Desc)
/-- SPR_DRAM_REPAIR (R725): Requests post-package repair. -/
  | sprDramRepair (d : Desc)
/-- SPR_CLEAR_COUNTERS (R728): Clears the selected SPR counters. -/
  | sprClearCounters (d : Desc)
/-- PMC_SEL_WRITE (R735): Writing a counter selection restarts the counter at 0, or is ignored with CFG_ERR. -/
  | pmcSelWrite (n v : Nat)
/-- PMC_SNAP_WRITE (R737): Writing GO opens a snapshot at the next µs multiple after the lead. -/
  | pmcSnapWrite (v : Nat)
/-- SNAPSHOT_INSTANT (R737): At T_S, counters and positions are latched into the holding registers. -/
  | snapshotInstant
/-- PMC_DUMP_CFG_WRITE (R743): Sets the dump period from the next multiple. -/
  | pmcDumpCfgWrite (v : Nat)
/-- PMC_DUMP_MASK_WRITE (R743): Changes the dumped banks from the next dump. -/
  | pmcDumpMaskWrite (v : Nat)
/-- DUMP_INSTANT (R739): At each dump instant, the counters are latched and written to the window, or counted
  lost. -/
  | dumpInstant
/-- PMC_STATUS_READ (R746): A read of PMC_STATUS clears CFG_ERR and OVERRUN. -/
  | pmcStatusRead
/-- SEC_CHALLENGE (R768): Issues a challenge nonce. -/
  | secChallenge (d : Desc)
/-- SEC_OPEN (R769): Opens a scope with a signed response. -/
  | secOpen (d : Desc)
/-- SEC_OPEN_PW (R770): Opens MAINT with a password. -/
  | secOpenPw (d : Desc)
/-- SEC_CLOSE (R771): Closes scopes. -/
  | secClose (d : Desc)
/-- SEC_QUOTE (R766): Returns a signed quote. -/
  | secQuote (d : Desc)
/-- SEC_READ_IDENTITY (R765): Returns the identity record. -/
  | secReadIdentity (d : Desc)
/-- SEC_FW_STAGE (R762): Requests the firmware staging activity. -/
  | secFwStage (d : Desc)
/-- FW_STAGE_DONE (R762): Staging finishes, and the slot is marked TRIAL or left EMPTY. -/
  | fwStageDone (written : Bool)
/-- SEC_SVN_COMMIT (R763): Commits a TRIAL image and raises its SVN. -/
  | secSvnCommit (d : Desc)
/-- SEC_PROVISION (R752): Programs an OTP security item. -/
  | secProvision (d : Desc)
/-- SCOPE_EXPIRY (R771): An open scope's duration expires and it closes. -/
  | scopeExpiry (k : Nat)
/-- NONCE_EXPIRY (R768): A nonce expires after 60 s. -/
  | nonceExpiry
/-- LOCKOUT_EXPIRY (R772): The authentication lockout counts down to zero. -/
  | lockoutExpiry
/-- EXTEST (R774): TAP boundary test, gated by scope and state. -/
  | extest
/-- IDCODE (R775): TAP reads the IDCODE. -/
  | idcode
/-- SAMPLE_PRELOAD (R773): TAP samples the boundary register. -/
  | samplePreload (sampled shifted : Nat)
/-- INTEST (R774): TAP internal test, gated. -/
  | intest
/-- EXTEST_PULSE (R774): IEEE 1149.6 pulse test, gated. -/
  | extestPulse
/-- EXTEST_TRAIN (R774): IEEE 1149.6 train test, gated. -/
  | extestTrain
/-- CLAMP (R774): TAP clamp, gated. -/
  | clamp
/-- HIGHZ (R774): TAP high-impedance, gated. -/
  | highz
/-- LOCK_CHALLENGE (R768): TAP loads a new nonce. -/
  | lockChallenge
/-- LOCK_RESPONSE (R769): TAP response checked on Update-DR, opening a scope. -/
  | lockResponse (response : List Byte)
/-- LOCK_STATUS (R773): TAP reads SEC_SCOPE. -/
  | lockStatus
/-- DEBUG_ACCESS (R773): TAP debug access under the DEBUG scope. -/
  | debugAccess
/-- BYPASS (R773): TAP bypass, also used for refused or undefined codes. -/
  | bypass (code : Nat)
/-- POWER_ON (R795): All rails come into window with RESET_N high, and the start-up sequence runs. -/
  | powerOn
/-- RESET_N_ASSERT (R789): RESET_N low for 10 µs resets the device. -/
  | resetNAssert (testMode : Bool)
/-- PWRFAIL_N_ASSERT (R788): PWRFAIL_N asserted for 2 µs stores last-gasp data and stops slot application. -/
  | pwrfailNAssert
/-- PWRFAIL_N_RELEASE (R788): PWRFAIL_N released with the rails in window resumes normal operation. -/
  | pwrfailNRelease
/-- RAIL_OUT_OF_WINDOW (R787): A rail out of window for 20 µs resets the device, faults a channel, or restarts
  the Spire die. -/
  | railOutOfWindow (r : Nat)
/-- REFERENCE_LOSS (R792): A lost REF25 resets the device as a power loss. -/
  | referenceLoss (why : Nat)
/-- THERMAL_SAMPLE (R799): Every 1 ms, die temperatures are read and warnings or trips acted on. -/
  | thermalSample (spire dome : Int)
/-- CLKFORCE_WRITE (R803): A write of FORCE_LOW switches the lane and core clocks. -/
  | clkforceWrite (b : BusWrite)
/-- CLK_RAIL_EVT_CLEAR (R749): A W1C write clears rail event bits unless set in the same cycle. -/
  | clkRailEvtClear (b : BusWrite)
/-- PCIE_LINK_UP (R790): The PCIe link trains after PERST_N release or link loss, HIF leaves reset with
  HIF_LOST_CPL restored from its Dome copy, and configuration requests are completed normally. -/
  | pcieLinkUp
/-- D3HOT_EXIT (R49): A return from D3hot to D0 resumes host-memory access and interrupt delivery. -/
  | d3hotExit
/-- ADC_URGENT_TIMEOUT (R302): ADC_URGENT with no result within 100 µs completes with TIMEOUT. -/
  | adcUrgentTimeout (c : Nat)
/-- AT_PPS_TIMEOUT (R506): TIM_SET_TIME with AT_PPS and no PPS_IN edge within 2 s completes with TIMEOUT. -/
  | atPpsTimeout
/-- PGM_EXCHANGE_TIMEOUT (R429): PGM_EXCHANGE with no cycle boundary within T_ABORT_US + 10 ms is withdrawn and
  completes with TIMEOUT. -/
  | pgmExchangeTimeout (n : Nat)
/-- SWITCHOVER_TIMEOUT (R643): PAI_SWITCHOVER whose final record is not acknowledged within 20 ms is withdrawn
  and completes with TIMEOUT. -/
  | switchoverTimeout
/-- CCR_SETPOINT_ARRIVAL (R375): A set-point from MOT reaches a coil drive on the Dome die, is placed for
  interpolation, and ends any extrapolation. -/
  | ccrSetpointArrival (m : Nat)
/-- DESTINATION_REPORT (R229): A destination's report of what became of an output (applied, discarded or
  superseded) reaches the loop, restoring OUT_LAST and forming the LOOP_OUT or AXIS record. -/
  | destinationReport
/-- PTP_DELAY_RESPONSE (R486): A Delay_Resp, or a Pdelay_Resp with its follow-up, is received and updates the
  domain's mean path delay. -/
  | ptpDelayResponse (dom : Nat)
/-- PDELAY_REQ_TIMER (R497): Every 1 s, a Pdelay_Req is sent on each port of a P2P or GPTP slave domain. -/
  | pdelayReqTimer (dom : Nat)
/-- STREAM_RECOVERY_RESET (R444): RESET_MS without a frame of an 802.1CB listener stream resets its vector
  recovery. -/
  | streamRecoveryReset (k : Nat)
/-- REFERENCE_REQUALIFIED (R792): After a loss of REF25, the reference qualifies again and the device is
  released from the reset it was held in. -/
  | referenceRequalified
/-- RAIL_RETURN (R787): A Spire or DRAM rail has been back in window for 10 ms, so the pending SPIRE_WARM
  proceeds. -/
  | railReturn (r : Nat)
/-- PAI_LANE_UP (R625): A pair-link lane that was down comes up again, and heartbeats and packets use it again.
  -/
  | paiLaneUp (l : Nat)
/-- CAN_BUS_IDLE (R526): On the bus integration of 11 recessive bits or at bus idle, an enabled controller
  enters ERROR_ACTIVE or LISTEN_ONLY, and a pending mode change or disable takes effect. -/
  | canBusIdle (n : Nat)
deriving DecidableEq, Repr

end Sys2Proof
end

