-- ==== Sys2Proof/Decode.lean ====
section
/-!
DEFINITION. Decode.lean: the words of the table of operations. No row of the table gives bits: the block takes
commands, not encoded words, so no word spells one.
-/
namespace Sys2Proof

/-- The command that a word spells by the table's bits. No row has bits, so no word spells a command. -/
def decodeTableWord (_nbits _w : Nat) : Option Instr := none

end Sys2Proof
end

