-- ==== Sys2Proof/Config.lean ====
section
/-!
DEFINITION. Config.lean: the values the spec leaves open: what an implementation fixes, and free values. Each is
opaque, so a statement about one holds for every value.
-/
namespace Sys2Proof.Config

/-- Factory correction table `t` of physical converter `p` in OTP: OFS16 (R293, R294). Free (log 14). -/
opaque factoryOfs (p t : Nat) : BitVec 32
/-- Factory correction table `t` of physical converter `p` in OTP: G (R293, R294). Free (log 14). -/
opaque factoryG (p t : Nat) : BitVec 24

/-- The cause code in MOT_STATE for a change from one axis state to another, which the spec does not number (R359).
Free (log 17). -/
opaque motCause (old new : Nat) : BitVec 8
/-- LOAD of a full step when KE is 0, for which R373 states no result. Free (log 18). -/
opaque loadFree (n : Nat) : BitVec 10

/-- Ingress and egress latency of a port in OTP, in ns (R486). Free (log 20). -/
opaque ingressNs (port : Nat) : Nat
opaque egressNs (port : Nat) : Nat
/-- The loss cause reported when a station's parameterisation fails, which R459 does not number. Free (log 21). -/
opaque nzParamCause (n : Nat) : BitVec 8

/-- A signature verifies under Falcon-1024 over SHAKE256: key, message, signature (R754). Uninterpreted (log 28). -/
opaque falconVerify (key msg sig : List (BitVec 8)) : Bool
/-- The n-th signature the identity key makes over a message (R766). Uninterpreted (log 28). -/
opaque falconSign (n : Nat) (msg : List (BitVec 8)) : List (BitVec 8)
/-- Public identity key, 1,793 bytes, with the manufacturer's signature over the identity record (R764, R765). Free (log 28). -/
opaque identityKey : List (BitVec 8)
opaque makerSig : List (BitVec 8)
/-- Manufacturer code and VERSION of the part (R752, R775). Free (log 28). -/
opaque makerCode : BitVec 11
opaque partVersion : BitVec 4
/-- What key slot `k` of the one-time store was given at manufacture (R752). Free (log 28). -/
opaque otpKey (k : Nat) : List (BitVec 8)
/-- The n-th nonce of the true random generator (R768). Free. -/
opaque nonce (n : Nat) : List (BitVec 8)
/-- The code of an image kind in SEC_IMAGE_REJECT: 1 to 3 boot kinds; 4 program, 5 FBL and 6 safety configuration have
no code in the spec (R777). Free (log 31). -/
opaque imageKindCode (k : Nat) : BitVec 8
/-- The address held in ra at an entry of a program (R392). Free (log 32). -/
opaque returnAddress (n : Nat) : BitVec 32
/-- A scratch byte not written in a cycle, by the cycle's index and its offset (R387). Free (log 32). -/
opaque scratchByte (n off : Nat) : BitVec 8

/-- The code with which WINDOW_CHECK names a transmit record that R518 returns unsent; the spec gives codes to SEQ and
CRC only. Free (log 36). -/
opaque canCheckCode (n : Nat) : BitVec 8
/-- The filter number of a received frame that no filter took (R518, R522). Free (log 36). -/
opaque canNoFilter (n : Nat) : BitVec 8
/-- By how much REC stands above 119, at most 8, after a reception while it was above 127 (ISO 11898-1 leaves the choice).
Free (log 37). -/
opaque canRecAbove (n : Nat) : BitVec 3

/-- The monitor value of an SPR_WEAR_WARN with unit 0xFFFF, which R727 does not state. Free (log 40). -/
opaque poolWarnValue (n : Nat) : BitVec 16

/-- The DRAM bank, 16 × die + bank, of a row address (R709, R725). Free (log 41). -/
opaque rowBank (row : Nat) : BitVec 8

/-- The spare sector in an EVR_SECTOR_REMAP record when no spare was free, which R677 does not state. Free (log 42). -/
opaque remapNoSpare (n : Nat) : BitVec 16

/-- Cumulative count of an activity signal that depends on how flits, bursts and bus bits fall, by its PMC_SELn value and
the CK_TIME cycle it is read in: BTR FLITS and REPLAY_ACTIVE, MEM bursts, CAN BUS_BUSY (R734). Free (log 43). -/
opaque activityCount (sel cycle : Nat) : Nat

/-- Entries in flight in a crossing at the n-th one-sided reset that the step does not name (R690). Free (log 45). -/
opaque crossingEntries (n : Nat) : BitVec 16

/-- Subsystem Vendor ID and Subsystem ID, which OTP gives (R48). Free (log 76). -/
opaque subsystemIds : BitVec 32

end Sys2Proof.Config
end

