-- ==== Sys2Proof/Machine/Bits.lean ====
section
/-!
DEFINITION. Machine/Bits.lean: byte order, field extraction, saturation, rounding and the two cyclic
redundancy checks. Every multi-byte quantity of the device is little-endian (R2).
-/
namespace Sys2Proof.Machine

/-- The `n` low bytes of `v`, least significant first (R2). -/
def le : Nat → Nat → List Byte
  | 0, _ => []
  | n + 1, v => BitVec.ofNat 8 v :: le n (v / 256)

/-- The number that a little-endian byte string spells (R2). -/
def unle : List Byte → Nat
  | [] => 0
  | b :: bs => b.toNat + 256 * unle bs

/-- The `n`-byte little-endian field at byte `off`; bytes past the end count as 0. -/
def fld (off n : Nat) (bs : List Byte) : Nat := unle ((bs.drop off).take n)

/-- A number of `8 * n` bits read as two's complement. -/
def signed (bits v : Nat) : Int :=
  let m := v % 2 ^ bits
  if m < 2 ^ (bits - 1) then (m : Int) else (m : Int) - (2 ^ bits : Nat)

/-- The signed `n`-byte field at byte `off` (R2). -/
def sfld (off n : Nat) (bs : List Byte) : Int := signed (8 * n) (fld off n bs)

/-- Two's complement of an integer in `bits` bits. -/
def wrapInt (bits : Nat) (v : Int) : Nat := (v % (2 ^ bits : Nat)).toNat

/-- Bit `k` of a number. -/
def bit (k v : Nat) : Bool := (v / 2 ^ k) % 2 == 1

/-- Bits [hi:lo] of a number (R2: both ends included). -/
def bits (hi lo v : Nat) : Nat := (v / 2 ^ lo) % 2 ^ (hi + 1 - lo)

/-- A truth value as the number 0 or 1, placed at bit `k`. -/
def flag (k : Nat) (b : Bool) : Nat := if b then 2 ^ k else 0

/-- An unsigned number saturated at `bits` bits. -/
def sat (bits v : Nat) : Nat := min v (2 ^ bits - 1)

/-- A signed number saturated to `bits` bits of two's complement. -/
def ssat (bits : Nat) (v : Int) : Int :=
  let hi : Int := (2 ^ (bits - 1) : Nat) - 1
  max (-hi - 1) (min hi v)

/-- `v` clamped to the interval from `lo` to `hi`. -/
def clampI (lo hi v : Int) : Int := max lo (min hi v)

/-- Writes `d` over the bytes of `bs` from offset `off`, never past the end of `bs`. -/
def overwrite (off : Nat) (d bs : List Byte) : List Byte :=
  bs.take off ++ (d.take (bs.length - off)) ++ bs.drop (off + d.length)

/-- A byte string cut or padded with zero bytes to length `n`. -/
def padTo (n : Nat) (bs : List Byte) : List Byte := (bs ++ List.replicate n 0#8).take n

/-- The integer quotient rounded to nearest, ties to even. -/
def roundDivEven (a : Int) (b : Nat) : Int :=
  if b = 0 then 0 else
  let q := a / (b : Int)
  let r := a % (b : Int)
  if 2 * r < b then q else if (b : Int) < 2 * r then q + 1 else if q % 2 = 0 then q else q + 1

/-- The quotient of two integers rounded to nearest, ties to even. -/
def roundQuot (a b : Int) : Int :=
  if b < 0 then roundDivEven (-a) b.natAbs else roundDivEven a b.natAbs

/-- `n` shifts of a reflected 32-bit CRC with polynomial `poly`. -/
def crcShift (poly : Nat) : Nat → Nat → Nat
  | 0, c => c
  | n + 1, c => crcShift poly n (if c % 2 = 1 then Nat.xor (c / 2) poly else c / 2)

/-- A reflected CRC over a byte string from remainder `c`. The match turns each remainder into a numeral, so that a check
over a long image evaluates. -/
def crcBytes (poly : Nat) : List Byte → Nat → Nat
  | [], c => c
  | b :: bs, c =>
    match crcShift poly 8 (Nat.xor c b.toNat) with
    | 0 => crcBytes poly bs 0
    | n + 1 => crcBytes poly bs (n + 1)

/-- A reflected CRC-32 over a byte string, initial value and final inversion all ones. -/
def crcReflected (poly : Word) (bs : List Byte) : Word := ~~~ BitVec.ofNat 32 (crcBytes poly.toNat bs 0xFFFFFFFF)

/-- CRC-32C (Castagnoli). PRESUMED: the spec names the check, the polynomial is the published one (log 3). -/
def crc32c (bs : List Byte) : Word := crcReflected 0x82F63B78#32 bs

/-- The IEEE 802.3 CRC-32 of an Ethernet frame. PRESUMED: the published polynomial (log 3). -/
def crc32e (bs : List Byte) : Word := crcReflected 0xEDB88320#32 bs

/-- Instants: nanoseconds, microseconds and milliseconds in units of 1/256 ns. -/
def nsT (n : Nat) : STime := n * 256
def usT (n : Nat) : STime := n * 256000
def msT (n : Nat) : STime := n * 256000000
def secT (n : Nat) : STime := n * 256000000000

/-- The whole nanoseconds of an instant. -/
def STime.toNs (t : STime) : Nat := t / 256

/-- The fraction of an instant, in 1/256 ns. -/
def STime.frac (t : STime) : Nat := t % 256

/-- Full time (R7), 16 bytes: seconds, nanoseconds, fraction, zero. -/
def fullTime (t : STime) : List Byte :=
  le 8 (t / 256 / 1000000000) ++ le 4 (t / 256 % 1000000000) ++ le 1 (t % 256) ++ le 3 0

/-- Compact time (R8), 12 bytes: low 48 bits of the seconds, nanoseconds, fraction, zero. -/
def compactTime (t : STime) : List Byte :=
  le 6 (t / 256 / 1000000000) ++ le 4 (t / 256 % 1000000000) ++ le 1 (t % 256) ++ le 1 0

/-- The low 32 bits of an instant's nanosecond count. -/
def nsLow (t : STime) : Nat := (t / 256) % 2 ^ 32

/-- The first multiple of `m` at or after `t` (0 when `m` is 0). -/
def ceilTo (m t : Nat) : Nat := if m = 0 then 0 else (t + m - 1) / m * m

/-- The first multiple of `m` after `t`. -/
def nextMul (m t : Nat) : Nat := if m = 0 then 0 else (t / m + 1) * m

end Sys2Proof.Machine
end

