-- ==== Sys2Proof/Machine/Events.lean ====
section
/-!
DEFINITION. Machine/Events.lean: the event codes of the part with the severities their chapters list
(R12, R13 and the event table of each chapter).
-/
namespace Sys2Proof.Machine.Ev

/-- RING_HALTED (02_host_rings_windows): WARNING; payload Ring, index, status -/
abbrev ringHalted : Nat := 0x0001
/-- RING_RESUMED (02_host_rings_windows): INFO; payload Ring, mode, count flushed -/
abbrev ringResumed : Nat := 0x0002
/-- DOORBELL_RANGE (02_host_rings_windows): WARNING; payload BAR2 offset, value written -/
abbrev doorbellRange : Nat := 0x0003
/-- EVENT_RING_GAP (02_host_rings_windows): ERROR; payload First sequence number, count -/
abbrev eventRingGap : Nat := 0x0004
/-- WINDOW_CHECK (02_host_rings_windows): ERROR; payload Window, segment, 1 = SEQ or 2 = CRC -/
abbrev windowCheck : Nat := 0x0005
/-- WINDOW_STARVED (02_host_rings_windows): NOTICE; payload Window, segment awaited -/
abbrev windowStarved : Nat := 0x0006
/-- PCIE_LINK_DOWN (02_host_rings_windows): CRITICAL; payload LTSSM state, count of completions lost so far -/
abbrev pcieLinkDown : Nat := 0x0007
/-- PCIE_AER (02_host_rings_windows): WARNING; payload AER status bits -/
abbrev pcieAer : Nat := 0x0008
/-- CFG_BASE_LOADED (03_configuration_overlays): INFO; payload Version, BUILD_ID low 32 bits -/
abbrev cfgBaseLoaded : Nat := 0x0801
/-- CFG_ARMED (03_configuration_overlays): INFO; payload Slot, version, commit time low 32 bits of nanoseconds -/
abbrev cfgArmed : Nat := 0x0802
/-- CFG_COMMITTED (03_configuration_overlays): INFO; payload Version, OVERLAY_ID -/
abbrev cfgCommitted : Nat := 0x0803
/-- CFG_DISARMED (03_configuration_overlays): INFO; payload Slot, version -/
abbrev cfgDisarmed : Nat := 0x0804
/-- CFG_ARM_FAIL (03_configuration_overlays): WARNING; payload Slot, status, reason, patch index -/
abbrev cfgArmFail : Nat := 0x0805
/-- CFG_VERSION_DROP (03_configuration_overlays): ERROR; payload Block ID, version, count -/
abbrev cfgVersionDrop : Nat := 0x0806
/-- CFG_COMMIT_UNLOCKED (03_configuration_overlays): WARNING; payload Version -/
abbrev cfgCommitUnlocked : Nat := 0x0807
/-- CFG_STATE (03_configuration_overlays): INFO; payload Old state, new state -/
abbrev cfgState : Nat := 0x0808
/-- DPT_STALE_BEGIN (04_dispatch_matching): WARNING; payload Slot, stale operand mask, sample time low 32 bits -/
abbrev dptStaleBegin : Nat := 0x1001
/-- DPT_STALE_END (04_dispatch_matching): INFO; payload Slot, count of stale firings in the run -/
abbrev dptStaleEnd : Nat := 0x1002
/-- DPT_LATE_DROP_EVENT (04_dispatch_matching): NOTICE; payload Slot, operand, STIME low 32 bits -/
abbrev dptLateDropEvent : Nat := 0x1003
/-- DPT_PRIMARY_OVERRUN (04_dispatch_matching): WARNING; payload Slot, STIME low 32 bits of the dropped primary -/
abbrev dptPrimaryOverrun : Nat := 0x1004
/-- DPT_LANE_REISSUE (04_dispatch_matching): ERROR; payload Failed lane, slot, lane used or 0xFF (R174) -/
abbrev dptLaneReissue : Nat := 0x1005
/-- DPT_REISSUE_FAIL (04_dispatch_matching): CRITICAL; payload Slot, both lanes -/
abbrev dptReissueFail : Nat := 0x1006
/-- DPT_SEQ_GAP_EVENT (04_dispatch_matching): WARNING; payload Source, missing count -/
abbrev dptSeqGapEvent : Nat := 0x1007
/-- DPT_UNSCHEDULABLE (04_dispatch_matching): WARNING; payload First failing slot, envelope -/
abbrev dptUnschedulable : Nat := 0x1008
/-- DPT_CUT_PENDING (04_dispatch_matching): NOTICE; payload Epoch number low 32 bits, slot -/
abbrev dptCutPending : Nat := 0x1009
/-- LPE_MODE (05_loop_engine): INFO; payload Loop, old actual mode, new actual mode, cause: 0 command, 1 commit, 2 stale, 3 cascade, 4 resume -/
abbrev lpeMode : Nat := 0x1801
/-- LPE_STALE_OPEN (05_loop_engine): ERROR; payload Loop, stale operand mask -/
abbrev lpeStaleOpen : Nat := 0x1802
/-- LPE_BUMP_LIMITED (05_loop_engine): WARNING; payload Loop, output difference -/
abbrev lpeBumpLimited : Nat := 0x1803
/-- LPE_SATURATE (05_loop_engine): NOTICE; payload Loop, stage; raised on the first saturation after an evaluation with none -/
abbrev lpeSaturate : Nat := 0x1804
/-- LPE_LANE_ERROR (05_loop_engine): ERROR; payload Lane, loop, check: 1 residue, 2 parity -/
abbrev lpeLaneError : Nat := 0x1805
/-- LPE_FORMAT_OVF (05_loop_engine): WARNING; payload Loop, stage -/
abbrev lpeFormatOvf : Nat := 0x1806
/-- LPE_CASCADE_TRACK (05_loop_engine): INFO; payload Outer loop, inner loop -/
abbrev lpeCascadeTrack : Nat := 0x1807
/-- LPE_ORDER_DRIFT (05_loop_engine): ERROR; payload Loop, destination kind and index -/
abbrev lpeOrderDrift : Nat := 0x1808
/-- LTN_TRACE_TRIGGERED (06_loop_tracing_tuning): INFO; payload First buffer, kind, T_TRIG low 32 bits of ns -/
abbrev ltnTraceTriggered : Nat := 0x8820
/-- LTN_TRACE_DONE (06_loop_tracing_tuning): INFO; payload First buffer, ENTRIES -/
abbrev ltnTraceDone : Nat := 0x8821
/-- LTN_TRACE_STOPPED (06_loop_tracing_tuning): NOTICE; payload First buffer, cause: 1 command, 2 loop disabled, 3 time span exceeded (R241) -/
abbrev ltnTraceStopped : Nat := 0x8822
/-- LTN_TRACE_LOST (06_loop_tracing_tuning): WARNING; payload Bit mask of groups' first buffers, low 32 bits -/
abbrev ltnTraceLost : Nat := 0x8823
/-- ADC_CLIP (07_analog_inputs): NOTICE; payload Logical channel; raised on the first clipped result after one without -/
abbrev adcClip : Nat := 0x4001
/-- ADC_BUF_GAP (07_analog_inputs): WARNING; payload Buffer, count lost, first lost sample time low 32 bits -/
abbrev adcBufGap : Nat := 0x4002
/-- ADC_SCAN_SLIP (07_analog_inputs): NOTICE; payload Logical converter, starts dropped -/
abbrev adcScanSlip : Nat := 0x4003
/-- ADC_URG_OVF (07_analog_inputs): WARNING; payload Logical channel -/
abbrev adcUrgOvf : Nat := 0x4004
/-- ADC_RANGE_SET (07_analog_inputs): NOTICE; payload Logical channel, old range, new range -/
abbrev adcRangeSet : Nat := 0x4005
/-- ADC_CAL_DONE (07_analog_inputs): INFO; payload Logical converter, physical converter, table mask -/
abbrev adcCalDone : Nat := 0x4006
/-- ADC_CAL_FAIL (07_analog_inputs): ERROR; payload Logical converter, physical converter, table, reason: 1 offset, 2 gain, 3 noise -/
abbrev adcCalFail : Nat := 0x4007
/-- ADC_SELFTEST_FAIL (07_analog_inputs): ERROR; payload Logical channel, corrected code -/
abbrev adcSelftestFail : Nat := 0x4008
/-- ADC_HANDOVER (07_analog_inputs): INFO; payload Logical converter, physical converter before, physical converter after -/
abbrev adcHandover : Nat := 0x4009
/-- DAC_ORDER_DROP (08_outputs_digital_pulse): ERROR; payload Channel, sample time low 32 bits -/
abbrev dacOrderDrop : Nat := 0x4801
/-- DIO_EDGE (08_outputs_digital_pulse): INFO; payload Pin, level -/
abbrev dioEdge : Nat := 0x5001
/-- DIO_CHATTER (08_outputs_digital_pulse): NOTICE; payload Pin, DIO_CHATn -/
abbrev dioChatter : Nat := 0x5002
/-- DIO_OVERSPEED (08_outputs_digital_pulse): WARNING; payload Pulse input -/
abbrev dioOverspeed : Nat := 0x5003
/-- DIO_QUAD_ERR (08_outputs_digital_pulse): WARNING; payload Port, DIO_POSERRq -/
abbrev dioQuadErr : Nat := 0x5004
/-- DIO_SSI_ERR (08_outputs_digital_pulse): WARNING; payload Port, DIO_POSERRq -/
abbrev dioSsiErr : Nat := 0x5005
/-- DIO_UART_LOST (08_outputs_digital_pulse): WARNING; payload UART, bytes lost -/
abbrev dioUartLost : Nat := 0x5006
/-- MOT_STATE (09_motion): INFO; payload Axis, old state, new state, cause -/
abbrev motState : Nat := 0x3001
/-- MOT_TARGET_CLAMP (09_motion): NOTICE; payload Axis, requested target -/
abbrev motTargetClamp : Nat := 0x3002
/-- SOFT_LIMIT_DECEL (09_motion): WARNING; payload Axis, normal stop end -/
abbrev softLimitDecel : Nat := 0x3003
/-- SOFT_LIMIT_OVERRUN (09_motion): ERROR; payload Axis, emergency stop end -/
abbrev softLimitOverrun : Nat := 0x3004
/-- MOT_LIMIT (09_motion): WARNING; payload Axis, side: 0 negative, 1 positive, p_L -/
abbrev motLimit : Nat := 0x3005
/-- MOT_LIMIT_BOTH (09_motion): ERROR; payload Axis -/
abbrev motLimitBoth : Nat := 0x3006
/-- MOT_HOMED (09_motion): INFO; payload Axis, HOFS low 32 bits -/
abbrev motHomed : Nat := 0x3007
/-- MOT_HOME_FAIL (09_motion): ERROR; payload Axis, reason (R362) -/
abbrev motHomeFail : Nat := 0x3008
/-- MOT_FOLLOW_ERR (09_motion): ERROR; payload Axis, following error -/
abbrev motFollowErr : Nat := 0x3009
/-- MOT_FB_STALE (09_motion): WARNING; payload Axis -/
abbrev motFbStale : Nat := 0x300A
/-- MOT_RESUME_HELD (09_motion): NOTICE; payload Axis, kept target -/
abbrev motResumeHeld : Nat := 0x300B
/-- MOT_HOME_LOST (09_motion): WARNING; payload Axis -/
abbrev motHomeLost : Nat := 0x300C
/-- CCR_SP_LOSS (09_motion): ERROR; payload Drive, CCR_POSm -/
abbrev ccrSpLoss : Nat := 0x3801
/-- CCR_OVERCURRENT (09_motion): CRITICAL; payload Drive, phase, sample code -/
abbrev ccrOvercurrent : Nat := 0x3802
/-- CCR_STALL (09_motion): NOTICE; payload Drive, LOAD -/
abbrev ccrStall : Nat := 0x3803
/-- CCR_FAULT_CLEARED (09_motion): INFO; payload Drive -/
abbrev ccrFaultCleared : Nat := 0x3804
/-- PGM_START (10_program_execution): INFO; payload Program, start kind, cause: 0 as requested, 1 IMAGE_ID mismatch -/
abbrev pgmStart : Nat := 0x2001
/-- CYCLE_OVERRUN (10_program_execution): ERROR; payload Program, cycle time µs, T_MAX_US -/
abbrev cycleOverrun : Nat := 0x2002
/-- PGM_FAULT (10_program_execution): CRITICAL; payload Program, cause: 1 illegal instruction, 2 access, 3 misaligned, 4 ECALL or EBREAK, 5 abort, 6 no image, 7 core lost; pc -/
abbrev pgmFault : Nat := 0x2003
/-- PGM_CORE_ERROR (10_program_execution): ERROR; payload Physical core, logical core, program -/
abbrev pgmCoreError : Nat := 0x2004
/-- PGM_CORE_LOST (10_program_execution): CRITICAL; payload Logical core -/
abbrev pgmCoreLost : Nat := 0x2005
/-- PGM_ROLLBACK_EPOCH (10_program_execution): ERROR; payload Program, epoch number low 32 bits -/
abbrev pgmRollbackEpoch : Nat := 0x2006
/-- PGM_EXCHANGED (10_program_execution): INFO; payload Program, kept, cold, dropped -/
abbrev pgmExchanged : Nat := 0x2007
/-- PGM_STATION_LOST (10_program_execution): WARNING; payload Program, station, words undelivered -/
abbrev pgmStationLost : Nat := 0x2008
/-- PGM_STATION_RETURN (10_program_execution): INFO; payload Program, station -/
abbrev pgmStationReturn : Nat := 0x2009
/-- PGM_IMAGE_RELOAD (10_program_execution): WARNING; payload Program -/
abbrev pgmImageReload : Nat := 0x200A
/-- FBL_CONTROL (10_program_execution): CRITICAL; payload 1 take or 0 yield; cause: 1 CFG, 2 Spire reset, 3 link down -/
abbrev fblControl : Nat := 0x2801
/-- FBL_LOADED (10_program_execution): INFO; payload FBL_ID -/
abbrev fblLoaded : Nat := 0x2802
/-- FBL_COMPARE_STALE (10_program_execution): WARNING; payload Compare input -/
abbrev fblCompareStale : Nat := 0x2803
/-- FBL_MAP_IGNORED (10_program_execution): WARNING; payload Output bit, pin -/
abbrev fblMapIgnored : Nat := 0x2804
/-- ETH_LINK_UP (11_ethernet_nelzer): INFO; payload Port, speed -/
abbrev ethLinkUp : Nat := 0x6001
/-- ETH_LINK_DOWN (11_ethernet_nelzer): ERROR; payload Port -/
abbrev ethLinkDown : Nat := 0x6002
/-- NZ_STATION_LOST (11_ethernet_nelzer): ERROR; payload Station, cause (R459), t_L low 32 bits of ns -/
abbrev nzStationLost : Nat := 0x6003
/-- NZ_STATION_LIVE (11_ethernet_nelzer): INFO; payload Station, 1 if returned, D of LAN A -/
abbrev nzStationLive : Nat := 0x6004
/-- NZ_PARAM_FAIL (11_ethernet_nelzer): WARNING; payload Station, failing piece offset or 0xFFFF for a delay exchange -/
abbrev nzParamFail : Nat := 0x6005
/-- NZ_SLIP (11_ethernet_nelzer): NOTICE; payload Station, slip in ns -/
abbrev nzSlip : Nat := 0x6006
/-- NZ_DELAY_DEV (11_ethernet_nelzer): WARNING; payload Station, LAN, delay computed -/
abbrev nzDelayDev : Nat := 0x6007
/-- NZ_ORDER_DROP (11_ethernet_nelzer): ERROR; payload Station, word -/
abbrev nzOrderDrop : Nat := 0x6008
/-- ETH_LATE_LAUNCH (11_ethernet_nelzer): WARNING; payload Port, traffic class -/
abbrev ethLateLaunch : Nat := 0x6009
/-- PRP_LAN_DOWN (11_ethernet_nelzer): WARNING; payload Even port of the pair, LAN: 0 A, 1 B -/
abbrev prpLanDown : Nat := 0x600A
/-- ETH_RX_DROP (11_ethernet_nelzer): NOTICE; payload Port -/
abbrev ethRxDrop : Nat := 0x600B
/-- TIME_STEPPED (12_time): INFO; payload Step in ns, low 32 bits; cause: 0 domain, 1 host, 2 AUTOSET -/
abbrev timeStepped : Nat := 0x5801
/-- TIME_LOCKED (12_time): INFO; payload Domain -/
abbrev timeLocked : Nat := 0x5802
/-- TIME_UNLOCKED (12_time): WARNING; payload Domain, o -/
abbrev timeUnlocked : Nat := 0x5803
/-- TIME_HOLDOVER (12_time): WARNING; payload Domain; cause: 0 lost, 1 Spire down -/
abbrev timeHoldover : Nat := 0x5804
/-- TIME_FAR (12_time): WARNING; payload Domain, o saturated to 32 bits -/
abbrev timeFar : Nat := 0x5805
/-- TIME_NEAR (12_time): INFO; payload Domain -/
abbrev timeNear : Nat := 0x5806
/-- TIME_DOMAIN_SWITCH (12_time): NOTICE; payload Old, new; cause: 0 command, 1 automatic, 2 commit -/
abbrev timeDomainSwitch : Nat := 0x5807
/-- TIME_RESET (12_time): NOTICE; payload Working time, low 32 bits of ns -/
abbrev timeReset : Nat := 0x5808
/-- TIME_GM_CHANGE (12_time): NOTICE; payload Domain, new identity, low 32 bits -/
abbrev timeGmChange : Nat := 0x5809
/-- TIME_RATE_LIMIT (12_time): ERROR; payload Requested ppb -/
abbrev timeRateLimit : Nat := 0x580A
/-- TIME_COPY_FAULT (12_time): ERROR; payload Difference in ns -/
abbrev timeCopyFault : Nat := 0x580B
/-- TIME_STEP_REFUSED (12_time): WARNING; payload Domain, backward size in ns -/
abbrev timeStepRefused : Nat := 0x580C
/-- CAN_ERROR_PASSIVE (13_can): WARNING; payload Controller, TEC, REC -/
abbrev canErrorPassive : Nat := 0x6801
/-- CAN_ERROR_ACTIVE (13_can): INFO; payload Controller -/
abbrev canErrorActive : Nat := 0x6802
/-- CAN_BUS_OFF (13_can): ERROR; payload Controller -/
abbrev canBusOff : Nat := 0x6803
/-- CAN_ALONE (13_can): WARNING; payload Controller, consecutive ACK errors -/
abbrev canAlone : Nat := 0x6804
/-- CAN_ID_COLLISION (13_can): ERROR; payload Controller, buffer, identifier -/
abbrev canIdCollision : Nat := 0x6805
/-- CAN_RX_DROP (13_can): NOTICE; payload Controller -/
abbrev canRxDrop : Nat := 0x6806
/-- CAN_TX_LATE (13_can): WARNING; payload Controller, buffer -/
abbrev canTxLate : Nat := 0x6807
/-- TT_REF_LOST (13_can): ERROR; payload Controller, last cycle count -/
abbrev ttRefLost : Nat := 0x6808
/-- SAF_STATE (14_belfry_safety): SAFETY; payload Old state, new state, cause (Table SAF-4, or 0) -/
abbrev safState : Nat := 0x7001
/-- SAF_DEMAND (14_belfry_safety): SAFETY; payload Function, input or consumer -/
abbrev safDemand : Nat := 0x7002
/-- SAF_PERMIT (14_belfry_safety): SAFETY; payload Function -/
abbrev safPermit : Nat := 0x7003
/-- SAF_DISCREPANCY (14_belfry_safety): SAFETY; payload Input, contact states -/
abbrev safDiscrepancy : Nat := 0x7004
/-- SAF_CHANNEL_FAULT (14_belfry_safety): SAFETY; payload Cause, attribution: 0 A, 1 B, 0xE neither, 0xF CK_AON -/
abbrev safChannelFault : Nat := 0x7005
/-- SAF_OUTPUT_FAULT (14_belfry_safety): SAFETY; payload Output, switch: 0 high-side, 1 low-side; cause: 1 feedback, 2 test pulse -/
abbrev safOutputFault : Nat := 0x7006
/-- SAF_OUTPUT (14_belfry_safety): SAFETY; payload Output, 1 energised or 0 de-energised -/
abbrev safOutput : Nat := 0x7007
/-- SF_MISMATCH (14_belfry_safety): SAFETY; payload Consumer, SEQ -/
abbrev sfMismatch : Nat := 0x7008
/-- SF_TIMEOUT (14_belfry_safety): SAFETY; payload Consumer -/
abbrev sfTimeout : Nat := 0x7009
/-- SF_LAN_SINGLE (14_belfry_safety): WARNING; payload Consumer, missing LAN: 0 A, 1 B -/
abbrev sfLanSingle : Nat := 0x700A
/-- SAF_CONFIG (14_belfry_safety): SAFETY; payload CONFIG_ID, code: 0 pending, 1 in force, 2 discarded -/
abbrev safConfig : Nat := 0x700B
/-- SAF_TWO_HAND_TIME (14_belfry_safety): NOTICE; payload Function, interval in ms -/
abbrev safTwoHandTime : Nat := 0x700C
/-- SF_BAD (14_belfry_safety): WARNING; payload Consumer, reason: 1 CRC_A, 2 CRC_B, 3 SEQ, 4 VER -/
abbrev sfBad : Nat := 0x700D
/-- KEP_EPOCH_STRETCH (15_keep_restart): NOTICE; payload Epoch low 32 bits, multiples skipped, cause (R598), block ID -/
abbrev kepEpochStretch : Nat := 0x7801
/-- KEP_CUT_DISCARDED (15_keep_restart): WARNING; payload Epoch low 32 bits, cause: 1 Spire restart, 2 link down -/
abbrev kepCutDiscarded : Nat := 0x7802
/-- KEP_RESTORED (15_keep_restart): INFO; payload Kind, slot, epoch low 32 bits, restore time in µs -/
abbrev kepRestored : Nat := 0x7803
/-- KEP_RESTORE_FAIL (15_keep_restart): CRITICAL; payload Kind attempted; reason: 1 no VALID slot, 2 BASE_CRC, 3 ECC -/
abbrev kepRestoreFail : Nat := 0x7804
/-- KEP_RESTART (15_keep_restart): CRITICAL; payload Kind; cause: 1 power loss, 2 RESET_N, 3 command, 4 Spire fatal error, 5 Spire watchdog, 6 Dome watchdog -/
abbrev kepRestart : Nat := 0x7805
/-- KEP_RECORD_BAD (15_keep_restart): ERROR; payload Epoch low 32 bits, 1 HCRC or 2 RCRC -/
abbrev kepRecordBad : Nat := 0x7806
/-- PAI_STATE (16_pair): INFO; payload Old state, new state -/
abbrev paiState : Nat := 0x8001
/-- PAI_PEER_LOST (16_pair): CRITICAL; payload Cause: 1 heartbeat, 2 YIELD; peer's last state; PR_PACT_N level -/
abbrev paiPeerLost : Nat := 0x8002
/-- PAI_TAKEOVER (16_pair): CRITICAL; payload Epoch restored low 32 bits, takeover time µs -/
abbrev paiTakeover : Nat := 0x8003
/-- PAI_SYNCED (16_pair): INFO; payload Epoch applied low 32 bits -/
abbrev paiSynced : Nat := 0x8004
/-- PAI_SYNC_LOST (16_pair): WARNING; payload Cause (R634) -/
abbrev paiSyncLost : Nat := 0x8005
/-- PAI_JOIN_REFUSED (16_pair): WARNING; payload Check mask (Table PAI-3) -/
abbrev paiJoinRefused : Nat := 0x8006
/-- PAI_LANE_DOWN (16_pair): WARNING; payload Lane -/
abbrev paiLaneDown : Nat := 0x8007
/-- PAI_FENCE_FAIL (16_pair): CRITICAL; payload Time PR_PACT_N stayed asserted, µs -/
abbrev paiFenceFail : Nat := 0x8008
/-- PAI_TAKEOVER_IMPOSSIBLE (16_pair): CRITICAL; payload Epoch applied low 32 bits -/
abbrev paiTakeoverImpossible : Nat := 0x8009
/-- PAI_FENCED (16_pair): CRITICAL; payload Previous state -/
abbrev paiFenced : Nat := 0x800A
/-- LTN_GAP (17_recording_events): WARNING; payload Channel, count, first lost time low 32 bits -/
abbrev ltnGap : Nat := 0x8801
/-- LTN_RING_FULL (17_recording_events): WARNING; payload LTN_RD low 32 bits -/
abbrev ltnRingFull : Nat := 0x8802
/-- LTN_OVERLOAD (17_recording_events): ERROR; payload Records lost -/
abbrev ltnOverload : Nat := 0x8803
/-- EVR_BOOT (17_recording_events): NOTICE; payload KEP_RESTARTS low 32 bits, restart kind 0xFF (R666), cause of the device reset (R666) -/
abbrev evrBoot : Nat := 0x9001
/-- EVR_SUPPRESSED (17_recording_events): As the summarised code; payload R669 -/
abbrev evrSuppressed : Nat := 0x9002
/-- EVR_SECTOR_REMAP (17_recording_events): ERROR; payload Logical sector, spare sector, records lost -/
abbrev evrSectorRemap : Nat := 0x9003
/-- EVR_LOG_DEGRADED (17_recording_events): CRITICAL; payload Logical sector, slots remaining -/
abbrev evrLogDegraded : Nat := 0x9004
/-- EVR_OVERLOAD (17_recording_events): WARNING; payload Records lost during the overload (R673) -/
abbrev evrOverload : Nat := 0x9005
/-- BTR_REPLAY (18_errors_ordering): NOTICE; payload Direction: 0 to Dome, 1 to Spire; sequence number -/
abbrev btrReplay : Nat := 0x9801
/-- BTR_RETRAIN (18_errors_ordering): WARNING; payload Direction, failed lane mask, duration in ns -/
abbrev btrRetrain : Nat := 0x9802
/-- BTR_LANE_SPARED (18_errors_ordering): ERROR; payload Direction, lane replaced -/
abbrev btrLaneSpared : Nat := 0x9803
/-- BTR_LINK_DOWN (18_errors_ordering): CRITICAL; payload Cause (R687) -/
abbrev btrLinkDown : Nat := 0x9804
/-- BTR_XING_RESET (18_errors_ordering): WARNING; payload k, entries discarded -/
abbrev btrXingReset : Nat := 0x9805
/-- SPIRE_FATAL (18_errors_ordering): CRITICAL; payload Code (Table ERR-5), detail -/
abbrev spireFatal : Nat := 0x9806
/-- SPIRE_HELD (18_errors_ordering): CRITICAL; payload Restarts counted under R696 -/
abbrev spireHeld : Nat := 0x9807
/-- BTR_SIDEBAND_ERR (18_errors_ordering): ERROR; payload Transfers repeated -/
abbrev btrSidebandErr : Nat := 0x9808
/-- MEM_CE_EVENT (18_errors_ordering): NOTICE; payload Address, low 32 bits -/
abbrev memCeEvent : Nat := 0xA001
/-- MEM_UE (18_errors_ordering): ERROR; payload R701 -/
abbrev memUe : Nat := 0xA002
/-- MEM_SCRUB_DONE (18_errors_ordering): INFO; payload Pass count, corrected errors in the pass -/
abbrev memScrubDone : Nat := 0xA003
/-- SPR_WEAR_WARN (19_reserves_maintenance): WARNING; payload Kind, unit, monitor value -/
abbrev sprWearWarn : Nat := 0xA801
/-- SPR_SWAP_DONE (19_reserves_maintenance): NOTICE; payload Kind, unit retired, spare used; cause: 1 fault, 2 wear, 3 request -/
abbrev sprSwapDone : Nat := 0xA802
/-- SPR_SWAP_DEFERRED (19_reserves_maintenance): NOTICE; payload Kind, unit, blocking handle -/
abbrev sprSwapDeferred : Nat := 0xA803
/-- SPR_POOL_EMPTY (19_reserves_maintenance): ERROR; payload Kind, unit retired without replacement or 0xFFFF -/
abbrev sprPoolEmpty : Nat := 0xA804
/-- SPR_ACTIVITY_END (19_reserves_maintenance): INFO; payload Handle, code, status -/
abbrev sprActivityEnd : Nat := 0xA805
/-- PMC_DUMP_GAP (20_counters_registers): NOTICE; payload Dumps lost, first lost instant low 32 bits -/
abbrev pmcDumpGap : Nat := 0xB001
/-- PMC_DUMP_FIT (20_counters_registers): WARNING; payload Dump bytes, segment payload bytes -/
abbrev pmcDumpFit : Nat := 0xB002
/-- SEC_BOOT (21_security_access): INFO; payload Kind, slot, VERSION -/
abbrev secBoot : Nat := 0xB801
/-- SEC_BOOT_FALLBACK (21_security_access): ERROR; payload Kind, slot failed, check -/
abbrev secBootFallback : Nat := 0xB802
/-- SEC_BOOT_FAIL (21_security_access): CRITICAL; payload Kind -/
abbrev secBootFail : Nat := 0xB803
/-- SEC_IMAGE_REJECT (21_security_access): ERROR; payload Image kind, check 1–6 of R754 -/
abbrev secImageReject : Nat := 0xB804
/-- SEC_SCOPE_OPEN (21_security_access): NOTICE; payload Scope, method: 0 challenge, 1 password; duration -/
abbrev secScopeOpen : Nat := 0xB805
/-- SEC_SCOPE_CLOSE (21_security_access): INFO; payload Scope; cause: 1 timer, 2 command, 3 reset -/
abbrev secScopeClose : Nat := 0xB806
/-- SEC_AUTH_FAIL (21_security_access): WARNING; payload Scope, method, F -/
abbrev secAuthFail : Nat := 0xB807
/-- SEC_TAP_REFUSED (21_security_access): WARNING; payload Instruction -/
abbrev secTapRefused : Nat := 0xB808
/-- SEC_STAGE_DONE (21_security_access): INFO; payload Kind, slot, VERSION -/
abbrev secStageDone : Nat := 0xB809
/-- SEC_SVN_COMMIT (21_security_access): NOTICE; payload Kind, SVN -/
abbrev secSvnCommit : Nat := 0xB80A
/-- CLK_RAIL_FAULT (22_pins_power_startup): CRITICAL; payload Rail bit of CLK_RAILS -/
abbrev clkRailFault : Nat := 0xC001
/-- CLK_PWRFAIL (22_pins_power_startup): CRITICAL; payload CLK_PWRFAILS -/
abbrev clkPwrfail : Nat := 0xC002
/-- CLK_REF_FAULT (22_pins_power_startup): CRITICAL; payload 1 no edge, 2 out of range -/
abbrev clkRefFault : Nat := 0xC003
/-- CLK_THERM_WARN (22_pins_power_startup): WARNING; payload Die: 0 Spire, 1 Dome; temperature in 1/8 °C -/
abbrev clkThermWarn : Nat := 0xC004
/-- CLK_THERM_TRIP (22_pins_power_startup): CRITICAL; payload Die, temperature -/
abbrev clkThermTrip : Nat := 0xC005

end Sys2Proof.Machine.Ev

namespace Sys2Proof.Machine

/-- Codes of severity 2 (Table SCOPE-1). -/
def sevCodes2 : List Nat :=
  [0x0002, 0x0801, 0x0802, 0x0803, 0x0804, 0x0808, 0x1002, 0x1801, 0x1807, 0x8820, 0x8821, 0x4006, 0x4009, 0x5001, 0x3001, 0x3007, 0x3804, 0x2001, 0x2007, 0x2009, 0x2802, 0x6001, 0x6004, 0x5801, 0x5802, 0x5806, 0x6802, 0x7803, 0x8001, 0x8004, 0xA003, 0xA805, 0xB801, 0xB806, 0xB809]

/-- Codes of severity 3 (Table SCOPE-1). -/
def sevCodes3 : List Nat :=
  [0x0006, 0x1003, 0x1009, 0x1804, 0x8822, 0x4001, 0x4003, 0x4005, 0x5002, 0x3002, 0x300B, 0x3803, 0x6006, 0x600B, 0x5807, 0x5808, 0x5809, 0x6806, 0x700C, 0x7801, 0x9001, 0x9801, 0xA001, 0xA802, 0xA803, 0xB001, 0xB805, 0xB80A]

/-- Codes of severity 4 (Table SCOPE-1). -/
def sevCodes4 : List Nat :=
  [0x0001, 0x0003, 0x0008, 0x0805, 0x0807, 0x1001, 0x1004, 0x1007, 0x1008, 0x1803, 0x1806, 0x8823, 0x4002, 0x4004, 0x5003, 0x5004, 0x5005, 0x5006, 0x3003, 0x3005, 0x300A, 0x300C, 0x2008, 0x200A, 0x2803, 0x2804, 0x6005, 0x6007, 0x6009, 0x600A, 0x5803, 0x5804, 0x5805, 0x580C, 0x6801, 0x6804, 0x6807, 0x700A, 0x700D, 0x7802, 0x8005, 0x8006, 0x8007, 0x8801, 0x8802, 0x9005, 0x9802, 0x9805, 0xA801, 0xB002, 0xB807, 0xB808, 0xC004]

/-- Codes of severity 5 (Table SCOPE-1). -/
def sevCodes5 : List Nat :=
  [0x0004, 0x0005, 0x0806, 0x1005, 0x1802, 0x1805, 0x1808, 0x4007, 0x4008, 0x4801, 0x3004, 0x3006, 0x3008, 0x3009, 0x3801, 0x2002, 0x2004, 0x2006, 0x6002, 0x6003, 0x6008, 0x580A, 0x580B, 0x6803, 0x6805, 0x6808, 0x7806, 0x8803, 0x9003, 0x9803, 0x9808, 0xA002, 0xA804, 0xB802, 0xB804]

/-- Codes of severity 6 (Table SCOPE-1). -/
def sevCodes6 : List Nat :=
  [0x0007, 0x1006, 0x3802, 0x2003, 0x2005, 0x2801, 0x7804, 0x7805, 0x8002, 0x8003, 0x8008, 0x8009, 0x800A, 0x9004, 0x9804, 0x9806, 0x9807, 0xB803, 0xC001, 0xC002, 0xC003, 0xC005]

/-- Codes of severity 7 (Table SCOPE-1). -/
def sevCodes7 : List Nat :=
  [0x7001, 0x7002, 0x7003, 0x7004, 0x7005, 0x7006, 0x7007, 0x7008, 0x7009, 0x700B]

/-- The severity that the raising block's table lists for a code (R664). EVR_SUPPRESSED takes that of the code it
summarises, so it is not listed; an unlisted code counts as TRACE. -/
def sevOf (code : Nat) : Nat :=
  if code ∈ sevCodes7 then 7
  else if code ∈ sevCodes6 then 6
  else if code ∈ sevCodes5 then 5
  else if code ∈ sevCodes4 then 4
  else if code ∈ sevCodes3 then 3
  else if code ∈ sevCodes2 then 2
  else 0

/-- The source block of an event code (R12). -/
def evBlock (code : Nat) : Nat := code / 2048

/-- A code whose block stands on the Spire die. The events of TIM and BTR are Dome records, MEM's are Spire
records (R804, Table ARCH-1). -/
def spireCode (code : Nat) : Bool :=
  [0x00, 0x01, 0x02, 0x03, 0x04, 0x06, 0x0C, 0x11, 0x14, 0x15, 0x16, 0x17].contains (evBlock code)

/-- Codes that the rate limit leaves alone: severity SAFETY, the codes of EVR and EVENT_RING_GAP (R668). -/
def unlimited (code : Nat) : Bool :=
  sevOf code == 7 || evBlock code == 0x12 || code == 0x0004

end Sys2Proof.Machine
end

