-- ==== Sys2Proof/Machine/State.lean ====
section
/-!
DEFINITION. Machine/State.lean: everything the KZ9680 holds, as plain data. Every field's docstring ends with
[rule that names it; value at reset].
-/
namespace Sys2Proof.Machine

/-! ## What leaves the device -/

/-- What the device sends out, in the order in which it leaves. -/
inductive Out where
  /-- a posted memory write to host memory (R96) -/
  | write (addr : Nat) (bytes : List Byte)
  /-- an MSI-X message of a vector (R92) -/
  | msix (vector : Nat)
  /-- a read of host memory: address and length (R68) -/
  | read (addr : Nat) (len : Nat)
  /-- the data a register read returns: BAR0 offset and value (R51) -/
  | reg (off : Nat) (value : Nat)
  /-- a register read completed with Completer Abort (R704) -/
  | abort (off : Nat)
  /-- an Ethernet frame: port, SFD instant, bytes from destination address to FCS (R433) -/
  | frame (port : Nat) (at_ : STime) (bytes : List Byte)
  /-- a CAN frame started on a controller: start of frame, bytes 8 to 11 and 12 of R518, and its data (R516) -/
  | can (ctrl : Nat) (at_ : STime) (id ctl : Nat) (data : List Byte)
  /-- a heartbeat on a lane of the pair link (R626) -/
  | beat (lane : Nat) (bytes : List Byte)
  /-- a packet on a lane of the pair link: its sequence number and payload (R625) -/
  | pair (lane seq : Nat) (payload : List Byte)
  /-- the acknowledgement of a packet (R625) -/
  | pairAck (lane seq : Nat)
  /-- the data bits of a frame sent by a UART, with its parity bit where it has one (R329, R331) -/
  | uart (u : Nat) (byte : Byte) (parity : Option Bool)
  /-- a level change of an output ball that no register holds: 0x0B00 PPS_OUT (R501) -/
  | pin (name : Nat) (level : Bool)
  /-- bits shifted out of the test access port (R773) -/
  | tap (reg : Nat) (value : Nat)
deriving DecidableEq, Repr

/-! ## Host interface (02) -/

/-- A record waiting in a buffer of the device: its bytes, the time a segment header takes from it, and the
instant it was written (R84, R281). -/
structure BufRec where
  bytes : List Byte
  time  : Option STime := none
  at_   : STime := 0
deriving DecidableEq, Repr

/-- A command handed to its block: its descriptor, the slot index it completes in, the count of HIF resets
seen when it started (R100), whether its ring was enabled then, and the ring's session, completion ring and phase (R57, R75). -/
structure Pend where
  desc  : Desc := {}
  index : Nat := 0
  gen   : Nat := 0
  live  : Bool := true
  session : Nat := 0
  cpl   : DWord := 0
  phase : Bool := true
deriving DecidableEq, Repr

/-- One command ring and its completion ring. -/
structure Ring where
  /-- HIF_CMDQ_BASEn: host address of the command ring, 64 bits [R105; 0] -/
  base : DWord := 0
  /-- HIF_CPLQ_BASEn: host address of the completion ring, 64 bits [R105; 0] -/
  cpl : DWord := 0
  /-- HIF_QCFGn.SIZE_LOG2, 5 bits [R105; 0] -/
  sizeLog2 : Nat := 0
  /-- HIF_QCFGn.VECTOR, 6 bits [R105; n] -/
  vector : Nat := 0
  /-- HIF_QCFGn.ENABLE, 1 bit [R105; 0] -/
  enable : Bool := false
  /-- HIF_QCFGn.PRIO, 1 bit [R105; 0] -/
  prio : Bool := false
  /-- HIF_QSTATn.CI: consumer index, 16 bits [R105; 0] -/
  ci : Nat := 0
  /-- the device's producer index (PI), 16 bits [R54; 0 on setting ENABLE (R75), DESIGN CHOICE 0 before, log 1] -/
  pi : Nat := 0
  /-- HIF_QSTATn.HALTED, 1 bit [R105; 0] -/
  halted : Bool := false
  /-- HIF_QSTATn.BUSY, 1 bit [R105; 0] -/
  busy : Bool := false
  /-- HIF_QFAILn.FAIL_INDEX, 16 bits [R105; 0] -/
  failIndex : Nat := 0
  /-- HIF_QFAILn.FAIL_STATUS, 8 bits [R105; 0] -/
  failStatus : Nat := 0
  /-- the PHASE the device writes next, 1 bit [R63; 1 on setting ENABLE (R75), DESIGN CHOICE 1 before, log 1] -/
  phase : Bool := true
  /-- descriptors fetched ahead of execution, at most 8 [R59; DESIGN CHOICE none, log 1] -/
  prefetch : List Fetched := []
  /-- settings of ENABLE so far: the completion of a descriptor that started under an older count leaves the indices alone
  [R75; DESIGN CHOICE 0, log 75] -/
  session : Nat := 0
deriving DecidableEq, Repr

/-- One shared memory window. -/
structure Window where
  /-- HIF_WBASEw, 64 bits [R105; 0] -/
  base : DWord := 0
  /-- HIF_WCFGw.SEG_LOG2, 5 bits [R105; 0] -/
  segLog2 : Nat := 0
  /-- HIF_WCFGw.DIR: true is device to host, 1 bit [R105; 0] -/
  d2h : Bool := false
  /-- HIF_WCFGw.ENABLE, 1 bit [R105; 0] -/
  enable : Bool := false
  /-- HIF_WCFGw.VECTOR, 6 bits [R105; 33 + w] -/
  vector : Nat := 0
  /-- HIF_WCFGw.COUNT_M1, 12 bits [R105; 0] -/
  countM1 : Nat := 0
  /-- HIF_WSTATw next segment index, 12 bits [R105; 0] -/
  next : Nat := 0
  /-- the bound source, HIF_WSTATw.BOUND when present, 13 bits [R105; none bound] -/
  bound : Option Nat := none
  /-- HIF_WSTATw.STARVED, 1 bit [R105; 0] -/
  starved : Bool := false
  /-- flush interval in µs given at the bind (P2), 20 bits [R102; DESIGN CHOICE 0, log 1] -/
  flushUs : Nat := 0
  /-- SEQ of the next segment handed back, or expected, 32 bits [R86; DESIGN CHOICE 0, log 1] -/
  seq : Word := 0
  /-- segments the device holds from `next` on (found at OWN = 1) [R91; DESIGN CHOICE 0, log 1] -/
  owned : Nat := 0
  /-- payload of the segment being filled [R86; DESIGN CHOICE empty, log 1] -/
  fill : List Byte := []
  /-- TYPE of the segment being filled, 8 bits [R84; DESIGN CHOICE 0, log 1] -/
  fillType : Nat := 0
  /-- time of the first record of the segment being filled [R84; DESIGN CHOICE none, log 1] -/
  fillTime : Option STime := none
  /-- instant of the first payload byte of the segment being filled [R88; DESIGN CHOICE 0, log 1] -/
  fillAt : STime := 0
  /-- the later of the bind and the last hand-back [R88; DESIGN CHOICE 0, log 1] -/
  idleFrom : STime := 0
  /-- payloads of host-to-device segments accepted and not yet consumed [R89; DESIGN CHOICE empty, log 1] -/
  rx : List (List Byte) := []
  /-- host-to-device segments taken into use and not yet read, which their consumer returns [R331, R437; DESIGN CHOICE empty, log 1] -/
  hold : List HostSeg := []
  /-- a host-to-device segment since the bind failed its check [R90; DESIGN CHOICE false, log 1] -/
  bad : Bool := false
deriving DecidableEq, Repr

/-- One MSI-X vector: moderation register, gathering and BAR4 table entry. -/
structure Vector where
  /-- HIF_IMODv.COUNT, 8 bits [R105; 0] -/
  count : Nat := 0
  /-- HIF_IMODv.TIME_US, 16 bits [R105; 0] -/
  timeUs : Nat := 0
  /-- signals gathered since the vector last fired [R94; DESIGN CHOICE 0, log 1] -/
  gathered : Nat := 0
  /-- instant of the first gathered signal [R94; DESIGN CHOICE 0, log 1] -/
  firstAt : STime := 0
  /-- message address of the BAR4 table entry, 64 bits [R50; DESIGN CHOICE 0, log 1] -/
  addr : DWord := 0
  /-- message data of the BAR4 table entry, 32 bits [R50; DESIGN CHOICE 0, log 1] -/
  data : Word := 0
  /-- mask bit of the BAR4 table entry, 1 bit [R95; PRESUMED 1 (PCIe MSI-X), log 4] -/
  masked : Bool := true
  /-- bit of the pending-bit array, 1 bit [R95; PRESUMED 0 (PCIe MSI-X), log 4] -/
  pba : Bool := false
deriving DecidableEq, Repr

/-- An event record (R79, R664). -/
structure EvRec where
  time    : STime := 0
  code    : Nat := 0
  sev     : Nat := 0
  flags   : Nat := 0
  seq     : Word := 0
  payload : List Byte := []
deriving DecidableEq, Repr

/-- The HIF block. -/
structure Hif where
  /-- HIF_STATUS.CFG_ERR, 1 bit [R105; 0] -/
  cfgErr : Bool := false
  /-- HIF_STATUS.LINK_UP, 1 bit [R105; 0] -/
  linkUp : Bool := false
  /-- HIF_STATUS.D3HOT, 1 bit [R105; 0] -/
  d3hot : Bool := false
  /-- HIF_LOST_CPL and its copy on the Dome die, 32 bits [R105; 0] -/
  lostCpl : Word := 0
  /-- HIF_ACCERR, 32 bits [R105; 0] -/
  accErr : Word := 0
  /-- HIF_ERRVEC, 6 bits [R105; 0x31] -/
  errVec : Nat := 0x31
  /-- HIF_EVQ_BASE, 64 bits [R105; 0] -/
  evqBase : DWord := 0
  /-- HIF_EVQ_CFG.SIZE_LOG2, 5 bits [R105; 0] -/
  evqSize : Nat := 0
  /-- HIF_EVQ_CFG.ENABLE, 1 bit [R105; 0] -/
  evqEnable : Bool := false
  /-- HIF_EVQ_CFG.VECTOR, 6 bits [R105; 32] -/
  evqVector : Nat := 32
  /-- HIF_EVQ_CFG.MIN_SEV, 3 bits [R105; 2] -/
  evqMinSev : Nat := 2
  /-- HIF_EVQ_PROD: device producer index, 16 bits [R105; 0] -/
  evqProd : Nat := 0
  /-- the consumer index the host reported, 16 bits [R78; DESIGN CHOICE 0, log 1] -/
  evqCons : Nat := 0
  /-- the PHASE the event ring writes next, 1 bit [R80; DESIGN CHOICE 1, log 1] -/
  evqPhase : Bool := true
  /-- HIF_EVQ_GAPS, 32 bits [R105; 0] -/
  evqGaps : Word := 0
  /-- records held for the event ring, oldest first, at most 4,096 [R82; DESIGN CHOICE empty, log 1] -/
  evqHeld : List EvRec := []
  /-- first undelivered SEQ and count of undelivered records awaiting EVENT_RING_GAP [R82; DESIGN CHOICE none, log 1] -/
  evqMiss : Option (Word × Nat) := none
  /-- EVENT_RING_GAP is raised and not yet on the ring [R82; DESIGN CHOICE false, log 1] -/
  evqGapOwed : Bool := false
  /-- the admitted EVENT_RING_GAP record that the ring receives next [R82; none] -/
  evqGapRec : Option EvRec := none
  /-- the command rings 0–31 [R53; see Ring] -/
  rings : Tab Ring := []
  /-- the windows 0–15 [R83; see Window] -/
  windows : Tab Window := []
  /-- the MSI-X vectors 0–63 [R92; see Vector] -/
  vectors : Tab Vector := []
  /-- ring served last in each class, for the round-robin turn [R67; DESIGN CHOICE 31, log 1] -/
  lastRing : Nat × Nat := (31, 31)
  /-- HIF resets so far: a command started under an older count has lost its completion [R100; DESIGN CHOICE 0, log 1] -/
  gen : Nat := 0
  /-- writes and interrupts held back while in D3hot, in order [R49; none] -/
  heldOut : List Out := []
  /-- window doorbells that came in D3hot, with what their reads bring on the return to D0 [R49, R91; none] -/
  heldBells : List (Nat × BusWrite × List HostSeg) := []
  /-- Max_Payload_Size code of Device Control: 128 bytes × 2^code [R48; PRESUMED 0 (PCI Express), log 76] -/
  maxPayload : Nat := 0
  /-- Max_Read_Request_Size code of Device Control [R48; PRESUMED 2 (PCI Express), log 76] -/
  maxRead : Nat := 2
  /-- completion time-out code of Device Control 2 [R48; default 10 ms, code PRESUMED 0, log 76] -/
  cplTimeout : Nat := 0
deriving DecidableEq, Repr

/-! ## Configuration manager (03) -/

/-- A superseded record kept for data of earlier sample times (R132): its interval of validity and its bytes. -/
structure OldRec where
  since : STime
  till  : STime
  bytes : List Byte
deriving DecidableEq, Repr

/-- One configured object: base record, record in force, and the superseded records kept (R109, R129, R132). -/
structure CfgObj where
  blk  : Nat
  kind : Nat
  obj  : Nat
  base : List Byte
  cur  : List Byte
  since : STime := 0
  old  : List OldRec := []
deriving DecidableEq, Repr

/-- A patch entry of an overlay (Table CFG-4). -/
structure Patch where
  blk  : Nat := 0
  open_ : Bool := false
  obj  : Nat := 0
  kind : Nat := 0
  off  : Nat := 0
  data : List Byte := []
deriving DecidableEq, Repr

/-- A resident overlay (Table CFG-3). -/
structure Overlay where
  id      : Nat := 0
  baseCrc : Word := 0
  length  : Nat := 0
  patches : List Patch := []
deriving DecidableEq, Repr

/-- An armed overlay: slot, version and commit time (R123). -/
structure Armed where
  slot    : Nat := 0
  version : Nat := 0
  commit  : STime := 0
  id      : Nat := 0
  patches : List Patch := []
deriving DecidableEq, Repr

/-- An arming that has not taken effect (R120): its receipt, its command, and the pair packet that waits for its
acknowledgement. -/
structure Staging where
  slot   : Nat := 0
  commit : STime := 0
  recv   : STime := 0
  pend   : Pend := {}
  seq    : Option Nat := none
deriving DecidableEq, Repr

/-- Configuration states (Table CFG-2). -/
inductive CfgMode where
  | unconfigured
  | loaded
  | running
deriving DecidableEq, Repr

/-- The CFG block. -/
structure Cfg where
  /-- CFG_STATE.STATE, 2 bits [R149; 0 UNCONFIGURED] -/
  mode : CfgMode := .unconfigured
  /-- CFG_VERSION [15:0]: version in force, 16 bits [R149; 0] -/
  version : Nat := 0
  /-- CFG_BASE_CRC, 32 bits [R149; 0] -/
  baseCrc : Word := 0
  /-- VERSION of the loaded base image, 16 bits [R107; DESIGN CHOICE 0, log 1] -/
  baseVersion : Nat := 0
  /-- BUILD_ID of the loaded base image, 64 bits [R107; DESIGN CHOICE 0, log 1] -/
  buildId : DWord := 0
  /-- bytes of the loaded base image [R107; DESIGN CHOICE 0, log 1] -/
  baseLen : Nat := 0
  /-- CFG_ERRINFO patch index, 12 bits [R149; 0] -/
  errIndex : Nat := 0
  /-- CFG_ERRINFO reason, 8 bits [R149; 0] -/
  errReason : Nat := 0
  /-- CFG_ERRINFO status, 8 bits [R149; 0] -/
  errStatus : Nat := 0
  /-- CFG_VDROP, 32 bits [R149; 0] -/
  vdrop : Word := 0
  /-- CFG_LATE_ARMS, 32 bits [R149; 0] -/
  lateArms : Word := 0
  /-- CFG_KEEP_US: t_VERSION_KEEP in µs, 32 bits [R149; 0x7D0] -/
  keepUs : Nat := 0x7D0
  /-- the configured objects with their kept records [R107, R132; DESIGN CHOICE none, log 1] -/
  objs : List CfgObj := []
  /-- overlay slots 0–511; CFG_RESIDENTi and CFG_STORE_FREE follow from it [R117; none resident] -/
  overlays : Tab Overlay := []
  /-- the armed overlays, earliest commit first, at most 8; CFG_ARMEDi, CFG_NEXT_* follow from it [R123; none armed] -/
  armed : List Armed := []
  /-- the armings still staging, oldest first [R120; none] -/
  staging : List Staging := []
  /-- commit instants since the load with the versions they put in force, newest first [R128; DESIGN CHOICE none, log 1] -/
  history : List (STime × Nat) := []
  /-- commit time of the last commit [R123; DESIGN CHOICE none, log 1] -/
  lastCommit : Option STime := none
deriving DecidableEq, Repr

/-! ## Working time (12) -/

/-- A frame taken at a port (R433, R434): port, SFD instant, the uncorrected count at that instant, and its bytes
without FCS. -/
structure RxFrame where
  port  : Nat
  at_   : STime
  ck    : Nat := 0
  bytes : List Byte
deriving DecidableEq, Repr

/-- A TIM_SET_TIME in progress (R480, R484): its command, the time given in ns, whether it waits for PPS_IN, the CK_TIME
cycle it took effect, and the step found at the PPS_IN edge. -/
structure SetTime where
  pend  : Pend
  given : Nat
  pps   : Bool
  from_ : Nat
  step  : Option Int := none
deriving DecidableEq, Repr

/-- A peer-delay exchange (R486, R497): port and sequenceId of the Pdelay_Req and the instant it left. -/
structure Pdelay where
  port : Nat
  seq  : Nat
  sent : STime
deriving DecidableEq, Repr

/-- Working-time states (Table TIM-1). -/
inductive TimeMode where
  | unset
  | free
  | holdover
  | tracking
  | locked
deriving DecidableEq, Repr

/-- One network time domain. -/
structure TimDomain where
  /-- the domain is LOCKED under R489, 1 bit [R489; DESIGN CHOICE false, log 1] -/
  locked : Bool := false
  /-- CK_TIME cycle of the latest valid measurement; VALID follows from it [R491; DESIGN CHOICE none, log 1] -/
  lastValid : Option Nat := none
  /-- TIM_OFFd: o in ns, signed 64 bits [R508; 0] -/
  o : Int := 0
  /-- TIM_FFd: frequency term in ppb, signed 32 bits [R508; 0] -/
  ff : Int := 0
  /-- TIM_MPDd: mean path delay in ns, 32 bits [R508; 0] -/
  mpd : Nat := 0
  /-- TIM_GMIDd: grandmaster clockIdentity, 64 bits [R508; 0] -/
  gmid : DWord := 0
  /-- measurements, 32 bits [R506; DESIGN CHOICE 0, log 1] -/
  meas : Word := 0
  /-- grandmaster changes, 32 bits [R506; DESIGN CHOICE 0, log 1] -/
  gmChanges : Word := 0
  /-- sequenceId accepted last, 16 bits [R486; DESIGN CHOICE none, log 1] -/
  lastSeq : Option Nat := none
  /-- consecutive measurements within LOCK_NS [R489; DESIGN CHOICE 0, log 1] -/
  good : Nat := 0
  /-- consecutive measurements beyond 2 × LOCK_NS, saturating at 4 [R489; DESIGN CHOICE 0, log 1] -/
  bad : Nat := 0
  /-- last 8 measurements: uncorrected count and domain time, ns, newest first [R487; DESIGN CHOICE none, log 1] -/
  hist : List (Nat × Int) := []
  /-- offsets of the consecutive measurements considered for the step, newest first [R480; DESIGN CHOICE none, log 1] -/
  agree : List Int := []
  /-- the domain was LOCKED when the Spire die went down [R496; DESIGN CHOICE false, log 1] -/
  wasLocked : Bool := false
  /-- instant of the last Sync sent as MASTER [R498; DESIGN CHOICE none, log 1] -/
  lastSync : Option STime := none
  /-- instant of the last Announce sent as MASTER [R497; DESIGN CHOICE none, log 1] -/
  lastAnnounce : Option STime := none
  /-- instant of the last Pdelay_Req sent [R497; DESIGN CHOICE none, log 1] -/
  lastPdelay : Option STime := none
  /-- sequenceId of the next message sent, 16 bits [R498; DESIGN CHOICE 0, log 1] -/
  txSeq : Nat := 0
  /-- receipt less origin time of the last Sync, in ns, and the Delay_Req sent for it: sequenceId and the instant it left [R497; DESIGN CHOICE none, log 1] -/
  sync : Int := 0
  delayReq : Option (Nat × STime) := none
  /-- the peer-delay exchanges under way, one for each port [R497; DESIGN CHOICE none, log 1] -/
  pdelay : List Pdelay := []
deriving DecidableEq, Repr

/-- One trigger-table entry. -/
structure TrigEntry where
  /-- TIM_TRIGCNTe: firings, 32 bits [R508; 0] -/
  count : Word := 0
  /-- instant of the last firing [R503; DESIGN CHOICE none, log 1] -/
  last : Option STime := none
  /-- instant from which the entry's firings count (enable or commit) [R503; DESIGN CHOICE 0, log 1] -/
  from_ : STime := 0
deriving DecidableEq, Repr

/-- The TIM block. -/
structure Tim where
  /-- CK_TIME cycles since power-on: the uncorrected count [R34; DESIGN CHOICE 0, log 1] -/
  ck : Nat := 0
  /-- the Dome counter, 64-bit ns with a 32-bit fraction, in 2⁻³² ns [R479; 0] -/
  dome : Nat := 0
  /-- the Spire copy, same layout [R475; DESIGN CHOICE 0, log 1] -/
  spire : Nat := 0
  /-- RATE in force (TIM_RATE), signed [R508; 0] -/
  rate : Int := 0
  /-- RATE that takes effect at the next strobe [R488; DESIGN CHOICE none, log 1] -/
  nextRate : Option Int := none
  /-- step, in ns, that takes effect at the next strobe, with its cause [R480; DESIGN CHOICE none, log 1] -/
  nextStep : Option (Nat × Nat) := none
  /-- CK_TIME cycle of the last alignment strobe [R475; DESIGN CHOICE 0, log 1] -/
  lastStrobe : Nat := 0
  /-- TIM_STATE [2:0] [R508; 0 UNSET] -/
  mode : TimeMode := .unset
  /-- TIM_STATE.FAR: TIME_FAR is active, 1 bit [R508; 0] -/
  far : Bool := false
  /-- TIM_STATE.SEL: 0, 1 or 2 NONE, 2 bits [R508; 2] -/
  sel : Nat := 2
  /-- TIM_NOWF: fraction latched at the last TIM_NOW read, 8 bits [R508; 0] -/
  nowf : Nat := 0
  /-- TIM_RATE_FF: frequency term held for holdover, ppb, signed 32 bits [R508; 0] -/
  rateFf : Int := 0
  /-- TIM_STEP_NS, 64 bits [R508; 0] -/
  stepNs : Nat := 0
  /-- TIM_UTC offset, signed 16 bits [R508; 0] -/
  utc : Int := 0
  /-- TIM_UTC.LEAP61, 1 bit [R508; 0] -/
  leap61 : Bool := false
  /-- TIM_UTC.LEAP59, 1 bit [R508; 0] -/
  leap59 : Bool := false
  /-- TIM_UTC.VALID, 1 bit [R508; 0] -/
  utcValid : Bool := false
  /-- TIM_PPSIN: working time of the last PPS_IN edge, ns, 64 bits [R508; 0] -/
  ppsIn : Nat := 0
  /-- TIM_STEPS, 32 bits [R508; 0] -/
  steps : Word := 0
  /-- TIM_COPY_ERR, 32 bits [R508; 0] -/
  copyErr : Word := 0
  /-- TIM_TXDROP, 32 bits [R508; 0] -/
  txDrop : Word := 0
  /-- TIM_TRIGDROP, 32 bits [R508; 0] -/
  trigDrop : Word := 0
  /-- the two domains [R491; see TimDomain] -/
  domains : Tab TimDomain := []
  /-- the 64 trigger entries [R503; see TrigEntry] -/
  trigs : Tab TrigEntry := []
  /-- PPS_OUT level, 1 bit [R501; low] -/
  ppsOut : Bool := false
  /-- working time in ns from which PPS_OUT has whole seconds: the step [R477, R501; DESIGN CHOICE 0, log 1] -/
  ppsFrom : Nat := 0
  /-- instant of the last PPS_OUT rise [R501; DESIGN CHOICE 0, log 1] -/
  ppsRise : STime := 0
  /-- RATE is being clamped in the present excursion [R488; DESIGN CHOICE false, log 1] -/
  limited : Bool := false
  /-- TIM_SET_TIME in progress [R484; none] -/
  setTime : Option SetTime := none
  /-- time frames routed to TIM and not yet handled, oldest first [R433; DESIGN CHOICE empty, log 1] -/
  rx : List RxFrame := []
  /-- the Spire copy has been set since link training [R496; DESIGN CHOICE false, log 1] -/
  copySet : Bool := false
  /-- FREE_PPB that takes effect at the next strobe while UNSET or FREE [R479; none] -/
  nextFree : Option Int := none
deriving DecidableEq, Repr

/-! ## Recorders (17) -/

/-- The window of an AVERAGED channel being summed (R658). -/
structure AvgWin where
  k : Nat
  sum : Int
  n : Nat
  flags : Nat
  first : STime
  version : Nat
  avgUs : Nat
deriving DecidableEq, Repr

/-- Lost records of a channel awaiting a GAP (R654): count and channel time of the first. -/
structure GapPend where
  count : Nat
  first : STime
deriving DecidableEq, Repr

/-- A record bound for Lantern (R646): channel, channel time, version, value, AUX and flags. -/
structure LtnIn where
  channel : Nat
  time    : STime
  version : Nat
  value   : Word
  aux     : Nat := 0
  flags   : Nat := 0
deriving DecidableEq, Repr

/-- One recorder channel. -/
structure Channel where
  /-- the channel is enabled (LTN_CHSTATc.ENABLED), 1 bit [R681; 0] -/
  enabled : Bool := false
  /-- FIDELITY in force (LTN_CHSTATc.AVERAGED), 1 bit [R681; 0] -/
  averaged : Bool := false
  /-- channel time of the last record [R647; DESIGN CHOICE none, log 1] -/
  last : Option STime := none
  /-- version of the last record, 16 bits [R652; DESIGN CHOICE none, log 1] -/
  version : Option Nat := none
  /-- an ANCHOR is due before the next record [R651; DESIGN CHOICE true, log 1] -/
  anchor : Bool := true
  /-- records since the last ANCHOR [R651; DESIGN CHOICE 0, log 1] -/
  since : Nat := 0
  /-- records written, 32 bits [R679; DESIGN CHOICE 0, log 1] -/
  records : Word := 0
  /-- records lost, 32 bits [R679; DESIGN CHOICE 0, log 1] -/
  lost : Word := 0
  /-- gaps, 32 bits [R679; DESIGN CHOICE 0, log 1] -/
  gaps : Word := 0
  /-- lost records awaiting a GAP (LTN_CHSTATc.GAP_PENDING when present) [R681; none] -/
  gap : Option GapPend := none
  /-- instant LTN_GAP was last raised [R657; DESIGN CHOICE none, log 1] -/
  gapAt : Option STime := none
  /-- averaging window [R658; DESIGN CHOICE none, log 1] -/
  win : Option AvgWin := none
deriving DecidableEq, Repr

/-- The recording part of LTN. -/
structure Ltn where
  /-- LTN_STATUS.RUN, 1 bit [R681; 0] -/
  run : Bool := false
  /-- LTN_STATUS.RING_FULL: records are being lost to a full ring, 1 bit [R681; 0] -/
  ringFull : Bool := false
  /-- LTN_WR: byte offset, 64 bits [R681; 0] -/
  wr : Nat := 0
  /-- LTN_RD: byte offset, 64 bits [R681; 0] -/
  rd : Nat := 0
  /-- LTN_RING: RING_MIB in force, 32 bits [R681; 0] -/
  ringMib : Nat := 0
  /-- LTN_LOST, 32 bits [R681; 0] -/
  lost : Word := 0
  /-- LTN_GAPS, 32 bits [R681; 0] -/
  gaps : Word := 0
  /-- LTN_RECORDS, 64 bits [R681; 0] -/
  records : DWord := 0
  /-- records in the DRAM ring from LTN_RD on, 16 bytes each, with the full channel time of SAMPLE and AVERAGE records [R661; empty] -/
  ring : List BufRec := []
  /-- input queue, oldest first, at most 4,096 [R649; DESIGN CHOICE empty, log 1] -/
  inq : List LtnIn := []
  /-- recorder channels 0–4,095 [R646; see Channel] -/
  chans : Tab Channel := []
  /-- bytes of records in the last whole ms and in the running ms, for LTN_LOAD [R681; 0] -/
  load : Nat × Nat := (0, 0)
  /-- the ms of working time being counted for LTN_LOAD [R681; DESIGN CHOICE 0, log 1] -/
  loadMs : Nat := 0
  /-- records lost at the full input queue in the present overload [R649; DESIGN CHOICE 0, log 1] -/
  overload : Nat := 0
  /-- FLAGS of the START that is due before the next record, if one is due [R663; device reset: FLAGS 1] -/
  startDue : Option Nat := some 1
deriving DecidableEq, Repr

/-- A record in a slot of the event region with the instant it was written. -/
structure EvSlot where
  /-- the record and the working time of its writing [R670; an empty slot holds none] -/
  rec_ : EvRec
  at_  : STime := 0
  /-- run counter of the record's run, so records order across runs [R666] -/
  run  : Nat := 0
deriving DecidableEq, Repr

/-- Suppressed occurrences of one code awaiting their summary (R669). -/
structure EvSum where
  count : Nat := 0
  first : STime := 0
deriving DecidableEq, Repr

/-- An event record waiting for admission, with the block that orders it (R666). -/
structure EvWait where
  rec_ : EvRec
  blk  : Nat
deriving DecidableEq, Repr

/-- The EVR block, with the rate limits kept at the raising blocks. -/
structure Evr where
  /-- records waiting for admission, at most 4,096, in the order they were raised [R673; DESIGN CHOICE empty, log 1] -/
  queue : List EvWait := []
  /-- EVR_SEQ: next SEQ, 32 bits [R682; 1] -/
  seq : Word := 1
  /-- time stamp of the record admitted last [R666; DESIGN CHOICE 0, log 1] -/
  lastTime : STime := 0
  /-- EVR_BOOT of this run has been admitted [R666; DESIGN CHOICE true in State.reset, whose EVR_SEQ is 1, log 5] -/
  booted : Bool := true
  /-- the event region: slots 0–65,535 of the Keep [R670; DESIGN CHOICE empty, log 1] -/
  region : Tab EvSlot := []
  /-- sectors of the region that are retired [R677; none] -/
  retiredSectors : List Nat := []
  /-- DROPS is owed to the next record written [R671; DESIGN CHOICE false, log 1] -/
  dropsOwed : Bool := false
  /-- EVR_STATUS.LOG_DEGRADED, 1 bit [R682; 0] -/
  degraded : Bool := false
  /-- EVR_STATUS.SPIRE_CLOSED, 1 bit [R682; 0] -/
  spireClosed : Bool := false
  /-- EVR_LOST, 32 bits [R682; 0] -/
  lost : Word := 0
  /-- EVR_XLOST, 32 bits [R682; 0] -/
  xlost : Word := 0
  /-- EVR_SUPPR, 32 bits [R682; 0] -/
  suppr : Word := 0
  /-- EVR_CRCBAD, 32 bits [R682; 0] -/
  crcBad : Word := 0
  /-- EVR_REMAPS, 32 bits [R682; 0] -/
  remaps : Word := 0
  /-- EVR_RETIRED, 32 bits [R682; 0] -/
  retired : Word := 0
  /-- EVR_DROP0–EVR_DROP7, 32 bits each [R682; 0] -/
  drops : Tab Word := []
  /-- credit of each limited code in 10⁻⁹ record, with the time of its last occurrence [R668; full] -/
  credit : Tab (Nat × STime) := []
  /-- summaries being kept [R669; none] -/
  sums : Tab EvSum := []
  /-- records lost in the present overload [R673; 0] -/
  overload : Nat := 0
  /-- last-gasp store, oldest first, at most 16 [R676; DESIGN CHOICE empty, log 1] -/
  lastGasp : List EvRec := []
  /-- export in progress: command, the records still to copy with their slots, records copied [R679; none] -/
  export_ : Option (Pend × List (Nat × EvRec) × Nat) := none
  /-- RUN: KEP_RESTARTS at the start of the run, 32 bits [R664; 0] -/
  run : Nat := 0
deriving DecidableEq, Repr

/-! ## Performance counters (20) -/

/-- The PMC block. -/
structure Pmc where
  /-- PMC_SELn written since reset, 24 bits each; an unlisted one holds its Table PMC-3 value [R736; Table PMC-3] -/
  sel : Tab Word := []
  /-- cumulative counts in the source domains: EDGE occurrences, LEVEL in 1/10,000 cycle [R732; 0] -/
  cum : Tab Nat := []
  /-- cumulative count of the selected signal when PMC_SELn was written, 64 bits [R735; 0] -/
  start : Tab Nat := []
  /-- PMC_STATUS.SNAP_BUSY with its instant T_S [R746; 0] -/
  snapAt : Option STime := none
  /-- PMC_STATUS.CFG_ERR, 1 bit [R746; 0] -/
  cfgErr : Bool := false
  /-- PMC_STATUS.OVERRUN, 1 bit [R746; 0] -/
  overrun : Bool := false
  /-- PMC_SNAP_SEQ, 32 bits [R746; 0] -/
  snapSeq : Word := 0
  /-- PMC_SNAP_T: T_S in ns, 64 bits [R746; 0] -/
  snapT : Nat := 0
  /-- PMC_GEN, 16 bits [R746; 0] -/
  gen : Nat := 0
  /-- PMC_DUMP_CFG.PERIOD_US, 20 bits [R746; 0] -/
  period : Nat := 0
  /-- instant of the write of PMC_DUMP_CFG, or of the last dump instant handled [R743; DESIGN CHOICE 0, log 1] -/
  dumpFrom : STime := 0
  /-- PMC_DUMP_MASK, 20 bits [R746; 0xFFFFF] -/
  mask : Nat := 0xFFFFF
  /-- PMC_DUMP_SEQ, 32 bits [R746; 0] -/
  dumpSeq : Word := 0
  /-- PMC_DUMP_LOST, 32 bits [R746; 0] -/
  dumpLost : Word := 0
  /-- PMC_DUMP_SKIP, 32 bits [R746; 0] -/
  dumpSkip : Word := 0
  /-- PMC_HAZ_WR, 32 bits [R746; 0] -/
  hazWr : Word := 0
  /-- PMC_HAZ_LAST, 21 bits [R746; 0] -/
  hazLast : Nat := 0
  /-- PMC_H_LTNWR, 64 bits [R746; 0] -/
  hLtnWr : Nat := 0
  /-- PMC_H_LTNRD, 64 bits [R746; 0] -/
  hLtnRd : Nat := 0
  /-- PMC_H_EVRSEQ, 32 bits [R746; 0] -/
  hEvrSeq : Nat := 0
  /-- PMC_H_KEPEP, 64 bits [R746; 0] -/
  hKepEp : Nat := 0
  /-- PMC_H_ADCWRc, 32 bits each [R746; 0] -/
  hAdcWr : Tab Nat := []
  /-- PMC_HOLDn, 64 bits each [R746; 0] -/
  hold : Tab Nat := []
  /-- dumps lost since the previous dump written, with the first lost instant [R740; 0] -/
  lostRun : Nat := 0
  firstLost : STime := 0
  /-- dumps since the binding: SEQ of the next dump [R740; 0] -/
  bindSeq : Nat := 0
  /-- PMC_DUMP_GAP has been raised for the present stall [R741; false] -/
  stalled : Bool := false
  /-- PMC_DUMP_FIT has been raised for the present binding [R741; false] -/
  fitRaised : Bool := false
deriving DecidableEq, Repr

/-! ## Buttress link and memory (18) -/

/-- One direction of the Buttress link. -/
structure BtrDir where
  /-- lanes in use (BTR_LANES), 5 bits [R708; 0x0F] -/
  lanes : Nat := 0x0F
  /-- lanes marked failed, 5 bits [R685; none] -/
  failed : Nat := 0
  /-- replays of the flit now first unacknowledged [R685; 0] -/
  tries : Nat := 0
  /-- instants of the replays within the last 10 µs, newest first [R685; none] -/
  recent : List STime := []
  /-- sequence number of the first unacknowledged flit, 4 bits [R684; DESIGN CHOICE 0, log 1] -/
  seq : Nat := 0
deriving DecidableEq, Repr

/-- The BTR block. -/
structure Btr where
  /-- BTR_STATUS.LINK_UP, 1 bit [R708; 0] -/
  linkUp : Bool := false
  /-- BTR_STATUS.RETRAINING, 1 bit [R708; 0] -/
  retraining : Bool := false
  /-- BTR_STATUS.SPIRE_UP, 1 bit [R708; 0] -/
  spireUp : Bool := false
  /-- BTR_STATUS.SPIRE_HELD, 1 bit [R708; 0] -/
  spireHeld : Bool := false
  /-- BTR_STATUS.SIDEBAND, 1 bit [R708; 0] -/
  sideband : Bool := false
  /-- the two directions: 0 to Dome, 1 to Spire [R707; see BtrDir] -/
  dirs : Tab BtrDir := []
  /-- BTR_REPLAYS, 32 bits [R708; 0] -/
  replays : Word := 0
  /-- BTR_RETRAINS, 32 bits [R708; 0] -/
  retrains : Word := 0
  /-- BTR_DOWNS, 32 bits [R708; 0] -/
  downs : Word := 0
  /-- BTR_RDABORT, 32 bits [R708; 0] -/
  rdAbort : Word := 0
  /-- BTR_FATAL: last fatal code, 8 bits [R708; 0] -/
  fatal : Nat := 0
  /-- BTR_FATAL [15:8]: restarts counted under R696, 8 bits [R708; 0] -/
  quick : Nat := 0
  /-- BTR_XDROP0–2, 32 bits each [R708; 0] -/
  xdrop : Tab Word := []
  /-- crossings whose reset side is still in reset: their queues read full [R690; none] -/
  xreset : List Nat := []
  /-- retrain in progress: direction and start [R685; none] -/
  retrain : Option (Nat × STime) := none
  /-- retrains in succession that failed to deliver a flit [R687; 0] -/
  failedRetrains : Nat := 0
  /-- instant a flit was last accepted in either direction [R687; DESIGN CHOICE 0, log 1] -/
  lastFlit : STime := 0
  /-- instant of the last Spire heartbeat [R692; DESIGN CHOICE 0, log 1] -/
  heartbeat : STime := 0
  /-- instant of the last signal of the housekeeping core [R693; DESIGN CHOICE 0, log 1] -/
  houseSignal : STime := 0
deriving DecidableEq, Repr

/-- The MEM block. -/
structure Mem where
  /-- MEM_STATUS.SELF_REFRESH, 1 bit [R708; 0] -/
  selfRefresh : Bool := false
  /-- MEM_STATUS.SCRUBBING, 1 bit [R708; 0] -/
  scrubbing : Bool := false
  /-- MEM_CE, 32 bits [R708; 0] -/
  ce : Word := 0
  /-- MEM_UE, 32 bits [R708; 0] -/
  ue : Word := 0
  /-- MEM_SCRUB_PASS, 32 bits [R708; 0] -/
  scrubPass : Word := 0
  /-- MEM_UE_ADDR, 64 bits [R708; 0] -/
  ueAddr : DWord := 0
  /-- corrected errors of the running scrub pass [R707; 0] -/
  passErrors : Nat := 0
  /-- instants of corrected errors per DRAM row within 24 h [R699; none] -/
  rowErrors : Tab (List STime) := []
deriving DecidableEq, Repr

/-! ## Dispatch (04) -/

/-- The newest token of a FRESH or HELD operand, and whether it came since the last firing (R157). -/
structure OpVal where
  tok   : Token
  fresh : Bool := true
deriving DecidableEq, Repr

/-- An operand as passed to an engine (R173). -/
structure OpIn where
  idx   : Nat
  time  : STime := 0
  value : Word := 0
  stale : Bool := false
  bf    : Bool := false
deriving DecidableEq, Repr

/-- A firing in flight, or one being reissued (R173, R174). -/
structure Firing where
  slot    : Nat
  time    : STime
  version : Nat
  ops     : List OpIn := []
  readyAt : STime := 0
  reissued : Bool := false
  /-- lane that reported an error in this firing -/
  failed  : Option Nat := none
  /-- what a loop firing took when it started (R230, R224): its configuration record, its manual output, a latched
  stale-open, and SP_LAST of its inner loop when that loop was open -/
  cfg     : List Byte := []
  man     : Word := 0
  latched : Bool := false
  manSet  : Bool := false
  casc    : Option Word := none
deriving DecidableEq, Repr

/-- An entry of the ready queue (R171): slot, ready instant, sample time of the firing, whether its primary is
stale, and the firing itself when it is a reissue at the head of the queue (R174). An entry that an expired wait made has
the instant of the expiry and the operands that the expiry found missing, which fire stale (R160 to R163). -/
structure ReadyEntry where
  slot    : Nat
  at_     : STime
  time    : STime
  stalePrim : Bool := false
  expired : Option STime := none
  stales  : List OpIn := []
  again   : Option Firing := none
deriving DecidableEq, Repr

/-- Observable task states other than DISABLED (Table DPT-4). -/
inductive TaskRun where
  | waiting
  | ready
  | running
  | reissue
deriving DecidableEq, Repr

/-- One task slot of the matching store. -/
structure Task where
  /-- queued primaries, oldest first, at most 4 [R155; DESIGN CHOICE empty, log 1] -/
  prim : List Token := []
  /-- newest FRESH and HELD values by operand index [R155; DESIGN CHOICE empty, log 1] -/
  ops : Tab OpVal := []
  /-- sample time and version of the last firing since the task was enabled [R160; DESIGN CHOICE none, log 1] -/
  last : Option (STime × Nat) := none
  /-- instant at which the running primary wait expires [R160; DESIGN CHOICE none, log 1] -/
  primWait : Option STime := none
  /-- value and format of the last primary received [R163; DESIGN CHOICE none, log 1] -/
  lastPrim : Option (Word × Bool) := none
  /-- sample time of the stale primary that would fire at the wait's expiry [R160; DESIGN CHOICE 0, log 1] -/
  staleAt : STime := 0
  /-- task state [R185; DESIGN CHOICE waiting, log 1] -/
  run : TaskRun := .waiting
  /-- the stale firing of a wait that expired while a firing was in flight [R166; DESIGN CHOICE none, log 1] -/
  owed : Option ReadyEntry := none
  /-- P and W of the version of the last firing [R160; DESIGN CHOICE 0, log 1] -/
  lastPW : STime × STime := (0, 0)
  /-- operands stale at the last firing, bit per operand, 8 bits [R185; DESIGN CHOICE 0, log 1] -/
  staleMask : Nat := 0
  /-- stale firings in the present run [R165; DESIGN CHOICE 0, log 1] -/
  staleRun : Nat := 0
  /-- firings since enable, 32 bits [R185; DESIGN CHOICE 0, log 1] -/
  firings : Word := 0
  /-- stale firings since enable, 32 bits [R185; DESIGN CHOICE 0, log 1] -/
  staleFirings : Word := 0
  /-- late drops since enable, 32 bits [R185; DESIGN CHOICE 0, log 1] -/
  lateDrops : Word := 0
  /-- longest dispatch wait since enable, ns, 32 bits [R185; DESIGN CHOICE 0, log 1] -/
  waitMax : Nat := 0
  /-- instant the task was enabled [R157; DESIGN CHOICE 0, log 1] -/
  enabledAt : STime := 0
  /-- resume instant from which the primary wait counts until the next firing [R614; none] -/
  resumeAt : Option STime := none
  /-- release of the program that an earlier one of the trigger table replaced [R504; DESIGN CHOICE 0, log 1] -/
  dropped : STime := 0
  /-- commit instant that disabled the task while it holds operands [R159; none] -/
  disabledAt : Option STime := none
  /-- the state as of the open cut's T_e has been captured [R179; DESIGN CHOICE false, log 1] -/
  captured : Bool := false
deriving DecidableEq, Repr


/-- DPT's part of an open cut (R178 to R180). -/
structure DptCut where
  epoch : Nat
  te    : STime
  /-- streams that have passed their marker -/
  passed : List Nat := []
  /-- FRESH and HELD values stamped before T_e that later tokens replaced before their task was captured: slot, operand -/
  overlay : List (Nat × Nat × OpVal) := []
  reported : Bool := false
  /-- slots that DPT_CUT_PENDING has named -/
  pending : List Nat := []
deriving DecidableEq, Repr

/-- The DPT block. -/
structure Dpt where
  /-- DPT_STATUS.RUN, 1 bit [R187; 0] -/
  run : Bool := false
  /-- DPT_STATUS.UNSCHED, 1 bit [R187; 0] -/
  unsched : Bool := false
  /-- DPT_LANE_ACTIVE, 18 bits [R187; 0xFFFF] -/
  active : Nat := 0xFFFF
  /-- DPT_LANE_SPARE, 18 bits [R187; 0x30000] -/
  spare : Nat := 0x30000
  /-- DPT_STALE, 32 bits [R187; 0] -/
  stale : Word := 0
  /-- DPT_LATE_DROP, 32 bits [R187; 0] -/
  lateDrop : Word := 0
  /-- DPT_PRIM_OVF, 32 bits [R187; 0] -/
  primOvf : Word := 0
  /-- DPT_REISSUE, 32 bits [R187; 0] -/
  reissue : Word := 0
  /-- DPT_SEQ_GAP, 32 bits [R187; 0] -/
  seqGap : Word := 0
  /-- DPT_DIS_DROP, 32 bits [R187; 0] -/
  disDrop : Word := 0
  /-- DPT_WAIT_MAX, ns, 32 bits [R187; 0] -/
  waitMax : Nat := 0
  /-- DPT_READY_MAX, 32 bits [R187; 0] -/
  readyMax : Nat := 0
  /-- DPT_EPOCH, 32 bits [R187; 0] -/
  epoch : Word := 0
  /-- DPT_TICK: TICK_US in force, 32 bits [R187; 10] -/
  tick : Nat := 10
  /-- the 4,096 task slots [R153; see Task] -/
  tasks : Tab Task := []
  /-- ready queue, head first [R171; DESIGN CHOICE empty, log 1] -/
  ready : List ReadyEntry := []
  /-- firings on lanes, by physical lane [R173; DESIGN CHOICE none, log 1] -/
  lanes : Tab Firing := []
  /-- firings passed to the motion engine, in order [R172; DESIGN CHOICE none, log 1] -/
  mot : List Firing := []
  /-- delay lists: release instant, slot and core of each pending program release, sorted [R168; DESIGN CHOICE empty, log 1] -/
  delay : List (STime × Nat × Nat) := []
  /-- ready queues of the cores: release instant and slot [R169; DESIGN CHOICE empty, log 1] -/
  coreReady : Tab (List (STime × Nat)) := []
  /-- last tick boundary handled [R169; DESIGN CHOICE 0, log 1] -/
  lastTick : STime := 0
  /-- tokens on their way to the matching store [R150; DESIGN CHOICE empty, log 1] -/
  inflight : List Token := []
  /-- SEQ last received of each stream since CFG_LOAD_BASE [R152; none] -/
  seqIn : Tab Half := []
  /-- SEQ of the next token of each stream [R151; 0] -/
  seqOut : Tab Half := []
  /-- the open cut; DPT_STATUS.CUT_PENDING is set once its `pending` names a slot [R178; none] -/
  cut : Option DptCut := none
deriving DecidableEq, Repr

/-! ## Loop engine (05) -/

/-- One loop's state (Table LPE-5). In a block-floating loop the words hold the form of R203. -/
structure LoopSt where
  /-- MODE_ACT, 3 bits [R231; DESIGN CHOICE 0 OFF, log 1] -/
  modeAct : Nat := 0
  /-- STATUS.STALE_OPEN: a stale-open HOLD is latched [R223; DESIGN CHOICE 0, log 1] -/
  staleOpen : Bool := false
  /-- STATUS.SAT [R204; DESIGN CHOICE 0, log 1] -/
  sat : Bool := false
  /-- STATUS.I_CLAMP [R231; DESIGN CHOICE 0, log 1] -/
  iClamp : Bool := false
  /-- STATUS.RATE_LIM [R231; DESIGN CHOICE 0, log 1] -/
  rateLim : Bool := false
  /-- STATUS.BUMP_LIMITED [R216; DESIGN CHOICE 0, log 1] -/
  bumpLim : Bool := false
  /-- STATUS.CASC_TRACK [R224; DESIGN CHOICE 0, log 1] -/
  cascTrack : Bool := false
  /-- STATUS.FIRST_TRACK: the last evaluation was a single TRACK evaluation on entry to CLOSED [R214; DESIGN CHOICE 0, log 1] -/
  firstTrack : Bool := false
  /-- VERSION of the last evaluation, 16 bits [R231; DESIGN CHOICE 0, log 1] -/
  version : Nat := 0
  /-- EVALS, 32 bits [R231; DESIGN CHOICE 0, log 1] -/
  evals : Word := 0
  /-- STIME of the last evaluation [R231; DESIGN CHOICE 0, log 1] -/
  stime : STime := 0
  /-- the integrator: I48, or M40 of a block-floating loop [R205, R210; DESIGN CHOICE 0, log 1] -/
  i : Int := 0
  /-- exponent of a block-floating integrator, 8 bits signed [R210; DESIGN CHOICE −128, log 1] -/
  iExp : Int := -128
  /-- D, 32 bits [R231; DESIGN CHOICE 0, log 1] -/
  d : Word := 0
  /-- PV_LAST, 32 bits [R231; DESIGN CHOICE 0, log 1] -/
  pvLast : Word := 0
  /-- SP_LAST, 32 bits [R231; DESIGN CHOICE 0, log 1] -/
  spLast : Word := 0
  /-- OUT_LAST, 32 bits [R231; DESIGN CHOICE 0, log 1] -/
  outLast : Word := 0
  /-- MAN_OUT, 32 bits [R231; DESIGN CHOICE 0, log 1] -/
  manOut : Word := 0
  /-- LPE_SET_OUTPUT has written MAN_OUT and no MANUAL evaluation has used it yet [R218, R230; DESIGN CHOICE false, log 1] -/
  manSet : Bool := false
  /-- E_LAST, 32 bits [R231; DESIGN CHOICE 0, log 1] -/
  eLast : Word := 0
  /-- FF_LAST, 32 bits [R231; DESIGN CHOICE 0, log 1] -/
  ffLast : Word := 0
  /-- CODE_LAST, 32 bits [R231; DESIGN CHOICE 0, log 1] -/
  codeLast : Word := 0
  /-- CODE2_LAST, 32 bits [R231; DESIGN CHOICE 0, log 1] -/
  code2Last : Word := 0
  /-- no evaluation has run since CFG_RUN, a cold restart or the enabling commit [R215; DESIGN CHOICE true, log 1] -/
  first : Bool := true
  /-- the next evaluation is the first after a resume or takeover [R219; DESIGN CHOICE false, log 1] -/
  resume : Bool := false
  /-- commit instants of OPEN_FOR_PATCH changes, rising; the first evaluation from each on runs as TRACK [R136; none] -/
  patchAt : List STime := []
  /-- OUT_LAST before the last emission, with that emission's sample time, until its report [R229; none] -/
  before : Option (STime × Word) := none
  /-- sample times of emissions whose next firing has started and whose report has not come [R229; none] -/
  lateBefore : List STime := []
  /-- cause code of the mode change pending for LPE_MODE [R232; DESIGN CHOICE 0, log 1] -/
  cause : Nat := 0
deriving DecidableEq, Repr

/-- The LPE block. -/
structure Lpe where
  /-- LPE_STATUS.RUN, 1 bit [R233; 0] -/
  run : Bool := false
  /-- LPE_LANE_FAULT, 18 bits [R233; 0] -/
  laneFault : Nat := 0
  /-- LPE_LANE_EN, 18 bits [R233; 0x3FFFF] -/
  laneEn : Nat := 0x3FFFF
  /-- LPE_SAT_CNT, 32 bits [R233; 0] -/
  satCnt : Word := 0
  /-- LPE_BUMP_LIM, 32 bits [R233; 0] -/
  bumpLim : Word := 0
  /-- LPE_STALE_OPEN_CNT, 32 bits [R233; 0] -/
  staleOpen : Word := 0
  /-- LPE_LANE_ERR, 32 bits [R233; 0] -/
  laneErr : Word := 0
  /-- LPE_FMT_OVF, 32 bits [R233; 0] -/
  fmtOvf : Word := 0
  /-- LPE_ORDER_DRIFT_CNT, 32 bits [R233; 0] -/
  orderDrift : Word := 0
  /-- the loops 0–1,023 [R196; see LoopSt] -/
  loops : Tab LoopSt := []
deriving DecidableEq, Repr

/-- An output on its way to a destination (Table LPE-7), or from a program or the host: destination kind and
index, code, sample time, version and the loop or axis to report to. -/
structure OutItem where
  kind    : Nat
  index   : Nat
  code    : Int
  time    : STime
  version : Nat := 0
  loop    : Option Nat := none
  axis    : Option Nat := none
  /-- q of an axis set-point, before any scaling (R359) -/
  q       : Int := 0
  first   : Bool := true
deriving DecidableEq, Repr

/-- What became of an output (R648). -/
inductive Fate where
  | applied
  | discarded
  | superseded
deriving DecidableEq, Repr

/-- A destination's report to the loop or axis that sent the output (R229, R648). -/
structure DestReport where
  item  : OutItem
  fate  : Fate
  issue : STime := 0
deriving DecidableEq, Repr

/-! ## Tracing (06) -/

/-- Trace group states (Table LTN-3). -/
inductive TraceMode where
  | idle
  | armed
  | triggered
  | done
  | stopped
deriving DecidableEq, Repr

/-- One trace group, kept under its first buffer (R236). -/
structure TraceGroup where
  first  : Nat
  count  : Nat
  loop   : Nat
  nodes  : List Nat
  decim  : Nat
  tunit  : Bool
  pre    : Nat
  mode   : TraceMode := .idle
  kind   : Nat := 0
  node   : Nat := 0
  trigLoop : Nat := 0
  a      : Word := 0
  b      : Word := 0
  trigVersion : Nat := 0
  trigTime : STime := 0
  ofGroup : Nat := 0
  /-- entries, oldest first, at most 32,768: sample time and one word for each buffer -/
  entries : List (STime × List Word) := []
  /-- evaluations seen since the last recorded one -/
  skip   : Nat := 0
  /-- entries written since arming -/
  written : Nat := 0
  /-- entries at or after T_TRIG -/
  post   : Nat := 0
  /-- node value and actual mode at the trigger loop's previous evaluation -/
  prev   : Option (Word × Nat) := none
  tTrig  : Option STime := none
  /-- VERSION in force at T_TRIG -/
  version : Nat := 0
  abandoned : Nat := 0
deriving DecidableEq, Repr

/-- The tracing part of LTN. -/
structure Trc where
  /-- trace groups by first buffer; LTN_TRSTATb and LTN_TRACTIVE follow from it [R255; none] -/
  groups : Tab TraceGroup := []
  /-- LTN_TRACE_READ in progress: command, bytes written, payloads still to write with their TYPE [R252; none] -/
  read : Option (Pend × Nat × List (Nat × List Byte)) := none
  /-- groups lost to a restart, for LTN_TRACE_LOST after the resume [R248; none] -/
  lostMask : Nat := 0
deriving DecidableEq, Repr

/-! ## Analog inputs (07) -/

/-- An urgent request (R276): channel 0–7 and the command that waits for it. -/
structure Urgent where
  chan : Nat
  pend : Option Pend := none
  at_  : STime := 0
deriving DecidableEq, Repr

/-- A calibration of a logical converter (R296): tables asked for and still to measure, the spare and the physical
converter it relieves, the step (0 waits for the take-over, 1 measures, 2 waits for the hand-back), and the first table
that failed with its reason. -/
structure CalRun where
  mask  : Nat
  left  : Nat
  spare : Nat
  owner : Nat
  step  : Nat := 0
  fail  : Option (Nat × Nat) := none
deriving DecidableEq, Repr

/-- One logical converter. -/
structure Conv where
  /-- physical converter serving c (ADC_CONVc [5:0]), 6 bits [R304; c] -/
  phys : Nat := 0
  /-- channels still to convert in the running scan, the first one converting; empty: not SCANNING [R268; none] -/
  scan : List Nat := []
  /-- a PERIODIC or TRIGGER start is deferred [R271; false] -/
  deferred : Bool := false
  /-- starts dropped since the last scan start, for ADC_SCAN_SLIP [R271; DESIGN CHOICE 0, log 1] -/
  dropped : Nat := 0
  /-- urgent requests, oldest first, at most 4; the head converts when `urgRun` [R278; none] -/
  urg : List Urgent := []
  /-- the head urgent request is converting [R276; false] -/
  urgRun : Bool := false
  /-- urgent requests whose conversion fell in the settling time of their channel and gave no result [R263, R302; none] -/
  mute : List Urgent := []
  /-- instant of the last PERIODIC start handled [R269; DESIGN CHOICE none, log 1] -/
  lastStart : Option STime := none
  /-- a running calibration [R296; none] -/
  cal : Option CalRun := none
  /-- physical converter waiting to take over at its change-over instant [R715; none] -/
  swapTo : Option Nat := none
deriving DecidableEq, Repr

/-- One logical channel. -/
structure AdcChan where
  /-- partial sum [R272; 0] -/
  sum : Int := 0
  /-- samples in the partial sum [R272; 0] -/
  n : Nat := 0
  /-- sample time of the first sample in the sum [R274; 0] -/
  stime : STime := 0
  /-- CLIP of the partial sum [R272; 0] -/
  clip : Bool := false
  /-- the previous result had CLIP [R303; false] -/
  lastClip : Bool := false
  /-- ADC_RANGEn, 3 bits [R304; 0] -/
  range : Nat := 0
  /-- instant until which the channel is passed over after a range write [R263; none] -/
  settle : Option STime := none
  /-- a PARAM mark is owed before the next result (R263) [R263; false] -/
  paramOwed : Bool := false
  /-- AVG, SHIFT and RANGE of the channel's previous result written [R284; none] -/
  param : Option (Nat × Nat × Nat) := none
  /-- latest regular RESULT, 24 bits signed, and the instant it came [R394, R423; DESIGN CHOICE 0 and none, log 1] -/
  result : Int := 0
  resultAt : Option STime := none
  /-- the self-test sample before was failing [R298; false] -/
  testFail : Bool := false
deriving DecidableEq, Repr

/-- One ADC buffer. -/
structure AdcBuf where
  /-- ADC_BWRc, 32 bits [R304; 0] -/
  wr : Nat := 0
  /-- ADC_BRDc, 32 bits [R304; 0] -/
  rd : Nat := 0
  /-- ADC_BLOSTc, 32 bits [R304; 0] -/
  lost : Word := 0
  /-- unread records, 8 bytes each, with the sample time of results [R286; empty] -/
  recs : List BufRec := []
  /-- results lost and the sample time of the first, awaiting a GAP [R287; none] -/
  gap : Option (Nat × STime) := none
  /-- an ANCHOR is due before the next result [R283; DESIGN CHOICE true, log 1] -/
  anchor : Bool := true
  /-- result records since the last ANCHOR [R283; 0] -/
  since : Nat := 0
  /-- bits [63:32] of the previous result record's nanosecond count [R283; DESIGN CHOICE 0, log 1] -/
  hi : Nat := 0
deriving DecidableEq, Repr

/-- Correction tables measured in the field for one table of one physical converter (R293). -/
structure CalTable where
  ofs16 : Int
  g     : Nat
deriving DecidableEq, Repr

/-- The ADC block. -/
structure Adc where
  /-- ADC_ABORTS, 32 bits [R304; 0] -/
  aborts : Word := 0
  /-- ADC_URGENTS, 32 bits [R304; 0] -/
  urgents : Word := 0
  /-- ADC_URG_OVF, 32 bits [R304; 0] -/
  urgOvf : Word := 0
  /-- ADC_SLIP, 32 bits [R304; 0] -/
  slip : Word := 0
  /-- ADC_CLIPS, 32 bits [R304; 0] -/
  clips : Word := 0
  /-- ADC_LOST, 32 bits [R304; 0] -/
  lost : Word := 0
  /-- logical converters 0–31 [R256; see Conv] -/
  convs : Tab Conv := []
  /-- logical channels 0–255 [R257; see AdcChan] -/
  chans : Tab AdcChan := []
  /-- buffers 0–31 [R285; see AdcBuf] -/
  bufs : Tab AdcBuf := []
  /-- field correction tables in the Keep, at 8 × physical converter + table [R294; none] -/
  cal : Tab CalTable := []
deriving DecidableEq, Repr

/-! ## Analog outputs, digital pins, pulse, position and UART units (08) -/

/-- One DAC channel. -/
structure DacCh where
  /-- DAC_CODEn: code latched, 18 bits signed [R337; 0] -/
  code : Int := 0
  /-- sample time of the last code latched [R308; DESIGN CHOICE none, log 1] -/
  time : Option STime := none
  /-- issue time of the last latch [R309; DESIGN CHOICE none, log 1] -/
  issue : Option STime := none
  /-- the one-deep holding register [R309; empty] -/
  wait : Option OutItem := none
deriving DecidableEq, Repr

/-- The DAC block. -/
structure Dac where
  /-- DAC_OE, 32 bits [R337; 0] -/
  oe : Nat := 0
  /-- DAC_ORDER_DROP, 32 bits [R337; 0] -/
  orderDrop : Word := 0
  /-- DAC_SUPERSEDE, 32 bits [R337; 0] -/
  supersede : Word := 0
  /-- channels 0–31 [R305; see DacCh] -/
  chans : Tab DacCh := []
deriving DecidableEq, Repr

/-- One DIO pin. -/
structure Pin where
  /-- accepted level before INVERT (DIO_INw follows), 1 bit [R337; 0] -/
  level : Bool := false
  /-- instant of the last accepted edge [R315; DESIGN CHOICE 0, log 1] -/
  edgeAt : STime := 0
  /-- DIO_CHATn, 32 bits [R337; 0] -/
  chat : Word := 0
  /-- instant of the last suppression [R316; DESIGN CHOICE none, log 1] -/
  chatAt : Option STime := none
  /-- level driven in OUTPUT and OUTPUT_OD, 1 bit [R313; DESIGN CHOICE 0, log 1] -/
  out : Bool := false
  /-- sample time of the last level applied [R20; DESIGN CHOICE none, log 1] -/
  outTime : Option STime := none
  /-- PWM code in effect, 17 bits [R320; DESIGN CHOICE 0, log 1] -/
  pwm : Nat := 0
  /-- sample time of the PWM code in effect [R321; DESIGN CHOICE none, log 1] -/
  pwmTime : Option STime := none
  /-- high time of the running PWM period in ns, a multiple of 5 [R320; DESIGN CHOICE 0, log 1] -/
  pwmHigh : Nat := 0
  /-- newest PWM code waiting for the next period start [R321; none] -/
  pwmWait : Option OutItem := none
deriving DecidableEq, Repr

/-- One pulse input. -/
structure Pulse where
  /-- DIO_PCNTp, 32 bits [R337; 0] -/
  count : Word := 0
  /-- DIO_PSTATp.OVERSPEED, 1 bit [R337; 0] -/
  overspeed : Bool := false
  /-- instants of the counted edges within the last 100 ns, newest first [R323; none] -/
  recent : List STime := []
  /-- counted edges of the sample interval: number, first and last instant [R324; 0] -/
  n : Nat := 0
  firstEdge : STime := 0
  lastEdge : STime := 0
  /-- end of the last sample interval [R324; DESIGN CHOICE 0, log 1] -/
  sampleAt : STime := 0
deriving DecidableEq, Repr

/-- One position-sensor port. -/
structure Port where
  /-- DIO_POSq: position, signed 32 bits [R337; 0] -/
  pos : Int := 0
  /-- DIO_POSERRq, 32 bits [R337; 0] -/
  err : Word := 0
  /-- DIO_ZLATq, signed 32 bits [R337; 0] -/
  zlat : Int := 0
  /-- last sampled levels of A and B [R325; DESIGN CHOICE 0, log 1] -/
  a : Bool := false
  b : Bool := false
  /-- capture instant of the position [R327; DESIGN CHOICE 0, log 1] -/
  capture : STime := 0
  /-- the last SSI frame was good, so a sample is due [R326; DESIGN CHOICE true, log 1] -/
  good : Bool := true
  /-- end of the last sample interval [R327; DESIGN CHOICE 0, log 1] -/
  sampleAt : STime := 0
deriving DecidableEq, Repr

/-- One UART. -/
structure Uart where
  /-- DIO_USTATu: receive bytes lost, 32 bits [R337; 0] -/
  lost : Word := 0
  /-- records buffered while the window is starved, at most 256 [R332; empty] -/
  buf : List BufRec := []
  /-- LOST_BEFORE is owed to the next record [R332; false] -/
  lostBefore : Bool := false
  /-- instant of the last received byte's start bit [R331; DESIGN CHOICE none, log 1] -/
  lastRx : Option STime := none
  /-- instant at which DE falls after the last stop bit sent; DE is high until then and while a segment is being
  sent [R330; DESIGN CHOICE 0, log 1] -/
  deUntil : STime := 0
deriving DecidableEq, Repr

/-- The DIO block. -/
structure Dio where
  /-- DIO_OE0–2 as one mask of 96 bits [R337; 0] -/
  oe : Nat := 0
  /-- DIO_PWM_SUPERSEDE, 32 bits [R337; 0] -/
  pwmSupersede : Word := 0
  /-- levels for digital outputs discarded under R20; no register shows them [R20; DESIGN CHOICE 0, log 1] -/
  orderDrop : Word := 0
  /-- pins 0–95 [R312; see Pin] -/
  pins : Tab Pin := []
  /-- pulse inputs 0–15 [R322; see Pulse] -/
  pulses : Tab Pulse := []
  /-- position ports 0–7 [R325; see Port] -/
  ports : Tab Port := []
  /-- UARTs 0–3 [R329; see Uart] -/
  uarts : Tab Uart := []
deriving DecidableEq, Repr

/-! ## Motion and coil current (09) -/

/-- An IEEE 754 binary64 value m × 2^e with a 53-bit m, or 0 (R344). -/
structure F64 where
  m : Int := 0
  e : Int := 0
deriving DecidableEq, Repr

/-- An exact fraction (R371). -/
structure Frac where
  n : Int := 0
  d : Nat := 1
deriving DecidableEq, Repr

/-- A jerk piece (R345): signed jerk and duration in s. -/
structure Piece where
  j   : F64
  tau : F64
deriving DecidableEq, Repr

/-- A plan (R345 to R349): its start, the stop it begins with, the rest, its direction and target, and the profile
bytes it was made with. -/
structure Plan where
  t0   : STime
  p0   : F64
  v0   : F64
  a0   : F64
  stop : List Piece
  rest : List Piece
  dir  : Int
  x    : F64
  prof : List Byte
  /-- the plan is an emergency stop (R352) -/
  em   : Bool := false
deriving DecidableEq, Repr

/-- Axis states (Table MOT-3). -/
inductive AxMode where
  | disabled
  | standstill
  | moving
  | estop
  | homingSeek
  | homingBackoff
  | homingFailed
deriving DecidableEq, Repr

/-- One side's limit switch of an axis (R354 to R357). -/
structure Limit where
  /-- an activation not yet qualified: its edge time -/
  pend : Option STime := none
  /-- a qualified activation not yet acted on: its edge time -/
  qual : Option STime := none
  /-- latched, with p_L -/
  latch : Option Int := none
  /-- edge time of the last change taken from the pin -/
  seen : STime := 0
deriving DecidableEq, Repr

/-- One axis. -/
structure Axis where
  /-- state (MOT_AXSTATa [3:0]) [R384; 0 DISABLED] -/
  mode : AxMode := .disabled
  /-- HOMED, 1 bit [R384; 0] -/
  homed : Bool := false
  /-- limit switch on the negative side; LIM_NEG latched follows [R384; 0] -/
  neg : Limit := {}
  /-- limit switch on the positive side; LIM_POS latched follows [R384; 0] -/
  pos : Limit := {}
  /-- MOT_SPa: latest set-point q, signed 32 bits [R384; 0] -/
  q : Int := 0
  /-- position p, binary64 [R382; DESIGN CHOICE 0, log 1] -/
  p : F64 := {}
  /-- velocity v, binary64 [R382; DESIGN CHOICE 0, log 1] -/
  v : F64 := {}
  /-- acceleration a, binary64 [R382; DESIGN CHOICE 0, log 1] -/
  a : F64 := {}
  /-- plan in force [R345; DESIGN CHOICE none, log 1] -/
  plan : Option Plan := none
  /-- plans that were replaced, newest first, for the position at an earlier edge [R361; DESIGN CHOICE none, log 1] -/
  past : List Plan := []
  /-- target, signed 32 bits [R341; DESIGN CHOICE none received, log 1] -/
  target : Option Int := none
  /-- sample time of the newest target taken from operand 1, or instant of a stop or homing that overrides it [R349; DESIGN CHOICE none, log 1] -/
  askedAt : Option STime := none
  /-- HOFS, binary64 [R359; DESIGN CHOICE 0, log 1] -/
  hofs : F64 := {}
  /-- HOFS before the seek that is running or was the last [R362; DESIGN CHOICE 0, log 1] -/
  hofs0 : F64 := {}
  /-- newest feedback received, with its sample time [R364; DESIGN CHOICE 0, log 1] -/
  fb : Int := 0
  fbTime : STime := 0
  /-- feedback the last firing used: that one, or the set-point under SUBSTITUTE [R342; DESIGN CHOICE 0, log 1] -/
  fbUsed : Int := 0
  /-- following error [R382; DESIGN CHOICE 0, log 1] -/
  ferr : Int := 0
  /-- the last 16 set-points with their period starts, newest first [R364; DESIGN CHOICE none, log 1] -/
  hist : List (STime × Int) := []
  /-- version of the last period, 16 bits [R382; DESIGN CHOICE 0, log 1] -/
  version : Nat := 0
  /-- a MOT_STOP that acts at the next period start: true is emergency [R382; DESIGN CHOICE none, log 1] -/
  stopReq : Option Bool := none
  /-- a MOT_HOME that acts at the next period start [R360; DESIGN CHOICE false, log 1] -/
  homeReq : Bool := false
  /-- period start from which HOME_VEL has been held in the seek [R361; DESIGN CHOICE none, log 1] -/
  velFrom : Option STime := none
  /-- a stall reported and not yet acted on: p of the stall period [R361; DESIGN CHOICE none, log 1] -/
  stall : Option Int := none
  /-- held after an overcurrent of its drive until CCR_CLEAR_FAULT [R374; DESIGN CHOICE false, log 1] -/
  held : Bool := false
  /-- period start of the last servo tick [R340; DESIGN CHOICE 0, log 1] -/
  tickAt : STime := 0
  /-- the OPEN policy has acted on the present run of stale feedback [R342; DESIGN CHOICE false, log 1] -/
  fbOpen : Bool := false
deriving DecidableEq, Repr

/-- The MOT block. -/
structure Mot where
  /-- MOT_STATUS.RUN, 1 bit [R384; 0] -/
  run : Bool := false
  /-- MOT_ESTOPS, 32 bits [R384; 0] -/
  estops : Word := 0
  /-- MOT_CLAMPS, 32 bits [R384; 0] -/
  clamps : Word := 0
  /-- MOT_LIMIGN, 32 bits [R384; 0] -/
  limIgn : Word := 0
  /-- MOT_LIMCHAT, 32 bits [R384; 0] -/
  limChat : Word := 0
  /-- MOT_REPLANS, 32 bits [R384; 0] -/
  replans : Word := 0
  /-- MOT_FOLLOW, 32 bits [R384; 0] -/
  follow : Word := 0
  /-- the axes 0–63 [R338; see Axis] -/
  axes : Tab Axis := []
deriving DecidableEq, Repr

/-- One coil drive. -/
structure Drive where
  /-- the drive is in FAULT (CCR_STATm) [R384; 0] -/
  fault : Bool := false
  /-- the regulator is in STRONG rather than QUIET [R384; 0 QUIET] -/
  strong : Bool := false
  /-- placed set-points: placement time and position in 1/256 count, oldest first [R367; DESIGN CHOICE none, log 1] -/
  points : List (STime × Int) := []
  /-- sample time of the last set-point placed [R20; DESIGN CHOICE none, log 1] -/
  time : Option STime := none
  /-- electrical position in 1/256 count; CCR_POSm is its integer part [R384; 0] -/
  pos : Int := 0
  /-- extrapolating (CCR_STATm) [R384; 0] -/
  extra : Bool := false
  /-- loss ramp: start, position in 1/256 count and speed in counts/s [R384; 0] -/
  ramp : Option (STime × Int × Frac) := none
  /-- instant since which the electrical position is unchanged [R369; DESIGN CHOICE 0, log 1] -/
  since : STime := 0
  /-- PWM periods of the ramp to I_HOLD done, 64 when it is reached (HOLD current) [R384; 0] -/
  hold : Option Nat := none
  /-- outputs u of phases A and B computed for the next period and in force [R370; DESIGN CHOICE 0, log 1] -/
  uA : Frac := {}
  uB : Frac := {}
  uA0 : Frac := {}
  uB0 : Frac := {}
  /-- high times of outputs A1, A2, B1, B2 in force, in 5 ns steps [R366; DESIGN CHOICE 0, log 1] -/
  highA1 : Nat := 0
  highA2 : Nat := 0
  highB1 : Nat := 0
  highB2 : Nat := 0
  /-- integral sums [R371; DESIGN CHOICE 0, log 1] -/
  sumA : Frac := {}
  sumB : Frac := {}
  /-- PWM periods, for the 16th in QUIET [R372; DESIGN CHOICE 0, log 1] -/
  tick : Nat := 0
  /-- PWM periods since the last mode change [R372; DESIGN CHOICE 16, log 1] -/
  sinceSw : Nat := 16
  /-- CCR_LOADm.LOAD, 10 bits [R384; 0] -/
  load : Nat := 0
  /-- CCR_LOADm: consecutive low steps, 8 bits [R384; 0] -/
  low : Nat := 0
  /-- sum and count of the terms of E in this full step [R373; DESIGN CHOICE 0, log 1] -/
  eSum : Frac := {}
  eCnt : Nat := 0
  /-- CCR_IMEASm: phase A mA, signed 16 bits [R384; 0] -/
  imA : Int := 0
  /-- CCR_IMEASm: phase B mA, signed 16 bits [R384; 0] -/
  imB : Int := 0
  /-- CCR_MODESWm, 32 bits [R384; 0] -/
  modeSw : Word := 0
  /-- a sample of the last period lay over the threshold of R374 [R382; DESIGN CHOICE false, log 1] -/
  overRange : Bool := false
deriving DecidableEq, Repr

/-- The CCR block. -/
structure Ccr where
  /-- CCR_OE, 16 bits [R384; 0] -/
  oe : Nat := 0
  /-- CCR_SPLOSS_CNT, 32 bits [R384; 0] -/
  spLoss : Word := 0
  /-- CCR_OVC_CNT, 32 bits [R384; 0] -/
  ovc : Word := 0
  /-- set-points discarded under R20; no register shows them [R20; DESIGN CHOICE 0, log 1] -/
  orderDrop : Word := 0
  /-- the drives 0–15 [R365; see Drive] -/
  drives : Tab Drive := []
deriving DecidableEq, Repr

/-! ## Ethernet and Nelzer (11) -/

/-- What a queued frame is, beyond its bytes: who reacts when it leaves. -/
inductive FrTag where
  | host
  /-- a time message: domain, message type, sequenceId -/
  | tim (dom typ seq : Nat)
  /-- a Nelzer frame: station, TYPE, LAN and cycle number -/
  | nz (st typ lan cycle : Nat)
  /-- a Belfry safe frame of a producer -/
  | safe (producer : Nat)
  /-- a PRP supervision frame -/
  | supervision
deriving DecidableEq, Repr

/-- A frame waiting in a transmit FIFO: bytes without FCS, launch time (0: as soon as possible) and what it is (R437). -/
structure QFrame where
  bytes  : List Byte
  launch : STime := 0
  tag    : FrTag := .host
deriving DecidableEq, Repr

/-- One traffic class of a port. -/
structure EthClass where
  /-- transmit FIFO, head first, at most 64 host frames [R437; DESIGN CHOICE empty, log 1] -/
  fifo : List QFrame := []
  /-- shaper credit in 10⁻⁶ bit, and the instant it holds at [R439; DESIGN CHOICE 0, log 1] -/
  credit : Int := 0
  creditAt : STime := 0
deriving DecidableEq, Repr

/-- One Ethernet port. -/
structure EthPort where
  /-- ETH_PSTATp.LINK, 1 bit [R470; 0] -/
  link : Bool := false
  /-- ETH_PSTATp speed: 1 100, 2 1,000, 3 2,500 Mb/s, 2 bits [R470; 0] -/
  speed : Nat := 0
  /-- ETH_TXFRp, 32 bits [R470; 0] -/
  txFr : Word := 0
  /-- ETH_RXFRp, 32 bits [R470; 0] -/
  rxFr : Word := 0
  /-- ETH_RXERRp, 32 bits [R470; 0] -/
  rxErr : Word := 0
  /-- ETH_RXDROPp, 32 bits [R470; 0] -/
  rxDrop : Word := 0
  /-- ETH_LATEp, 32 bits [R470; 0] -/
  late : Word := 0
  /-- ETH_GATEDROPp, 32 bits [R470; 0] -/
  gateDrop : Word := 0
  /-- ETH_PRPDUPp, 32 bits [R470; 0] -/
  prpDup : Word := 0
  /-- instant of the last frame dropped at a starved window [R438; DESIGN CHOICE none, log 1] -/
  dropAt : Option STime := none
  /-- the frame being sent ends at this instant [R442; DESIGN CHOICE 0, log 1] -/
  busy : STime := 0
  /-- start of the running gate cycle [R440; DESIGN CHOICE 0, log 1] -/
  gateAt : STime := 0
  /-- traffic classes 0–7 [R439; see EthClass] -/
  classes : Tab EthClass := []
  /-- next PRP sequence number of the pair, kept at its even port, 16 bits [R445; DESIGN CHOICE 0, log 1] -/
  prpSeq : Nat := 0
  /-- duplicate-discard entries, newest first: source MAC, sequence number, arrival [R446; DESIGN CHOICE empty, log 1] -/
  dups : List (Nat × Nat × STime) := []
  /-- instant of the last supervision frame sent [R432; DESIGN CHOICE none, log 1] -/
  supAt : Option STime := none
  /-- supervision frames received, 32 bits [R432; DESIGN CHOICE 0, log 1] -/
  supRx : Word := 0
deriving DecidableEq, Repr

/-- An output word held for a station (R451): value, sample time, not yet carried by a request, and the output waiting
for its report. -/
structure StWord where
  value : Word := 0
  time  : STime := 0
  fresh : Bool := false
  item  : Option OutItem := none
deriving DecidableEq, Repr

/-- Station states (Table ETH-3). -/
inductive StnMode where
  | disabled
  | param
  | live
  | lost
deriving DecidableEq, Repr

/-- A cycle whose response is awaited (R449 to R452): number, departures by LAN, and the new words it carried. -/
structure NzCycle where
  m     : Nat
  sent  : List (Nat × STime) := []
  words : List (Nat × StWord) := []
  /-- reports of later outputs of its words that wait behind its own, with the word (R23) -/
  later : List (Nat × DestReport) := []
deriving DecidableEq, Repr

/-- Progress of parameterisation (R461): bytes acknowledged, or the delay exchange of a LAN; attempts, instant of the
last one, whether a reply is awaited, its departure, and the delays measured on each LAN. -/
structure NzParam where
  offset  : Nat := 0
  delays  : Bool := false
  lan     : Nat := 0
  tries   : Nat := 1
  sentAt  : STime := 0
  left    : Option STime := none
  got     : List (Nat × Int) := []
deriving DecidableEq, Repr

/-- One Nelzer station. -/
structure Station where
  /-- ETH_STNs state, 2 bits [R470; 0 DISABLED] -/
  mode : StnMode := .disabled
  /-- ETH_STNs last copy latched on LAN B, 1 bit [R470; 0] -/
  lanB : Bool := false
  /-- ETH_STNs consecutive misses, 4 bits [R470; 0] -/
  missRun : Nat := 0
  /-- ETH_STNs last loss cause, 8 bits [R470; 0] -/
  cause : Nat := 0
  /-- DELAY_NS of LAN A; ETH_STNDLYs is it plus LATCH_NS once parameterised [R470; 0] -/
  delayA : Int := 0
  /-- DELAY_NS of LAN B [R455; DESIGN CHOICE 0, log 1] -/
  delayB : Int := 0
  /-- LATCH_NS [R468; DESIGN CHOICE 0, log 1] -/
  latch : Nat := 0
  /-- last valid CYCLE, 32 bits [R468; DESIGN CHOICE 0, log 1] -/
  lastCycle : Nat := 0
  /-- misses, 32 bits [R468; DESIGN CHOICE 0, log 1] -/
  misses : Word := 0
  /-- losses, 32 bits [R468; DESIGN CHOICE 0, log 1] -/
  losses : Word := 0
  /-- the cycle before slipped [R450; DESIGN CHOICE false, log 1] -/
  slipped : Bool := false
  /-- output words [R451; DESIGN CHOICE 0 with sample time 0 before CFG_RUN, log 1] -/
  outs : Tab StWord := []
  /-- input image and its sample time [R453; DESIGN CHOICE 0, log 1] -/
  ins : List Word := []
  inTime : STime := 0
  /-- number of the next cycle to build, once requests run [R449; none] -/
  next : Option Nat := none
  /-- cycles awaiting their response [R452; DESIGN CHOICE none, log 1] -/
  open_ : List NzCycle := []
  /-- CRC of the parameter block in force, 32 bits [R448; 0] -/
  pcrc : Word := 0
  /-- parameterisation under way [R461; none] -/
  param : Option NzParam := none
  /-- PARAM was entered from LOST [R461; DESIGN CHOICE false, log 1] -/
  fromLost : Bool := false
  /-- instant of the last PROBE [R460; DESIGN CHOICE 0, log 1] -/
  probeAt : STime := 0
  /-- instant NZ_DELAY_DEV was last raised [R455; DESIGN CHOICE none, log 1] -/
  devAt : Option STime := none
  /-- t_L of the last loss and t_R of the last entry into LIVE [R459, R461; DESIGN CHOICE none, log 1] -/
  lostAt : Option STime := none
  liveAt : Option STime := none
  /-- the last entry into LIVE was a return [R461; DESIGN CHOICE false, log 1] -/
  returned : Bool := false
deriving DecidableEq, Repr

/-- One 802.1CB stream. -/
structure CbStream where
  /-- next sequence number sent, 16 bits [R444; DESIGN CHOICE 0, log 1] -/
  txSeq : Nat := 0
  /-- last sequence number recovered, none after a reset [R444; DESIGN CHOICE none, log 1] -/
  seq : Option Nat := none
  /-- sequence history: numbers accepted within HISTORY of the last [R444; DESIGN CHOICE empty, log 1] -/
  hist : List Nat := []
  /-- instant of the last frame of the stream [R444; DESIGN CHOICE 0, log 1] -/
  at_ : STime := 0
deriving DecidableEq, Repr

/-- The ETH block. -/
structure Eth where
  /-- ETH_STATUS.RUN, 1 bit [R470; 0] -/
  run : Bool := false
  /-- ETH_PORT_EN, 8 bits [R470; 0] -/
  portEn : Nat := 0
  /-- copy of ETH_PORT_EN on the Dome die, 8 bits [R472; DESIGN CHOICE 0, log 1] -/
  portEnCopy : Nat := 0
  /-- ETH_NZ_MISS, 32 bits [R470; 0] -/
  miss : Word := 0
  /-- ETH_NZ_BAD, 32 bits [R470; 0] -/
  bad : Word := 0
  /-- ETH_NZ_LATE, 32 bits [R470; 0] -/
  late : Word := 0
  /-- ETH_NZ_SLIP, 32 bits [R470; 0] -/
  slip : Word := 0
  /-- ETH_ORDER_DROP, 32 bits [R470; 0] -/
  orderDrop : Word := 0
  /-- ETH_NZ_SUPERSEDE, 32 bits [R470; 0] -/
  supersede : Word := 0
  /-- ETH_NZ_DELAY_DEV, 32 bits [R470; 0] -/
  delayDev : Word := 0
  /-- ETH_LOSSES, 32 bits [R470; 0] -/
  losses : Word := 0
  /-- ports 0–7 [R432; see EthPort] -/
  ports : Tab EthPort := []
  /-- stations 0–127 [R458; see Station] -/
  stations : Tab Station := []
  /-- 802.1CB streams 0–63 [R444; see CbStream] -/
  streams : Tab CbStream := []
  /-- frames routed to Nelzer and not yet handled, oldest first [R433; DESIGN CHOICE empty, log 1] -/
  rx : List RxFrame := []
deriving DecidableEq, Repr

/-! ## Security and the test access port (21) -/

/-- The one-time store (Table SEC-1). -/
structure Otp where
  /-- key slots 0–15 programmed by SEC_PROVISION: SHAKE256 output of 64 bytes each; an unlisted slot holds what it was given
  at manufacture (Config.otpKey) [R752; DESIGN CHOICE none, log 28] -/
  keys : Tab (List Byte) := []
  /-- revocation, 16 bits [R752; DESIGN CHOICE 0, log 28] -/
  revoked : Nat := 0
  /-- SVN counters of SPIRE_FW, DOME_FW, SAFA_FW, APP and SAFETY, 0 to 64 each [R752; DESIGN CHOICE 0, log 28] -/
  svn : Tab Nat := []
  /-- password hashes, 32 bytes each [R752; DESIGN CHOICE none, log 28] -/
  passwords : Tab (List Byte) := []
  /-- policy fuses blown: APP_SIGNED in [0], MAX_OPEN_S in [31:16], whose default 3,600 stands while none of its fuses is
  blown [R752; DESIGN CHOICE 0, log 28] -/
  policy : Nat := 0
deriving DecidableEq, Repr

/-- A directory entry of the boot flash (R756). STATE: 0 EMPTY, 1 ACTIVE, 2 TRIAL, 3 OLD. -/
structure FlashEntry where
  kind  : Nat
  slot  : Nat
  state : Nat := 0
deriving DecidableEq, Repr

/-- A boot image in use (R758, R761): slot, TRIAL, fallback taken, VERSION, SVN and measurement. -/
structure BootUse where
  slot     : Nat := 0
  trial    : Bool := false
  fallback : Bool := false
  version  : Nat := 0
  svn      : Nat := 0
  meas     : List Byte := []
deriving DecidableEq, Repr

/-- The SEC block. -/
structure Sec where
  /-- SEC_SCOPE: open scopes with the CK_TIME cycle at which each closes; SEC_OPEN_Ss follows [R778; 0 none open] -/
  scopes : Tab Nat := []
  /-- SEC_FAILS: F, 8 bits [R778; 0] -/
  fails : Nat := 0
  /-- CK_TIME cycle at which the lockout ends; SEC_LOCKOUT_S follows [R778; 0] -/
  lockUntil : Nat := 0
  /-- the outstanding nonce with the CK_TIME cycle it was drawn in [R768; none] -/
  nonce : Option (List Byte × Nat) := none
  /-- the one-time store [R752; see Otp] -/
  otp : Otp := {}
  /-- directory of the boot flash: the copy in use [R756; DESIGN CHOICE empty, log 28] -/
  flash : List FlashEntry := []
  /-- GEN of the directory copy in use, 32 bits [R756; DESIGN CHOICE 0, log 28] -/
  gen : Word := 0
  /-- boot images in use by kind 1–3; SEC_BOOTSLOT and SEC_MEASi follow [R778; 0] -/
  boot : Tab BootUse := []
  /-- rollback records in the persistent settings: kind and ACTIVE slot [R762; none] -/
  rollback : Tab Nat := []
  /-- RESET_N came while the Spire die was held: the next boot takes the rollback slots [R763; DESIGN CHOICE false, log 1] -/
  rollbackBoot : Bool := false
  /-- kind and image length of the FIRMWARE_STAGE activity under way [R762; none] -/
  staging : Option (Nat × Nat) := none
deriving DecidableEq, Repr

/-! ## Programs and fallback bit logic (10) -/

/-- A program cycle on a core (R399 to R406). -/
structure Cycle where
  prog    : Nat
  release : STime
  start   : STime
  version : Nat := 0
  input   : List Byte := []
  output  : List Byte := []
  /-- all entries of the cycle, as code offset and argument, and those still to be entered -/
  entries : List (Nat × Nat) := []
  rest    : List (Nat × Nat) := []
  pc      : Nat := 0
  /-- the address held in ra at the entry's start -/
  ret     : Word := 0
  /-- scratch bytes written in this cycle, and the index of the free value the others read as -/
  scratch : Tab Byte := []
  nonce   : Nat := 0
  /-- undo log: old contents of 64-byte instance lines, and its overflow -/
  undo    : Tab (List Byte) := []
  undoOver : Bool := false
  /-- the output image is to be discarded -/
  overran : Bool := false
  /-- every entry has returned -/
  ended   : Bool := false
deriving DecidableEq, Repr

/-- A logical core. -/
structure Core where
  /-- x0 to x31, 32 bits each [R385; DESIGN CHOICE 0, log 1] -/
  regs : List Word := List.replicate 32 0
  /-- the running cycle, with its pc [R399; none] -/
  cyc : Option Cycle := none
deriving DecidableEq, Repr

/-- Program states (Table PGM-5). -/
inductive PgmMode where
  | disabled
  | noImage
  | idle
  | running
  | fault
deriving DecidableEq, Repr

/-- One program. -/
structure Prog where
  /-- PGM_PSTATp state, 3 bits [R431; 0 DISABLED] -/
  mode : PgmMode := .disabled
  /-- PGM_PSTATp last start kind, 2 bits [R431; 0] -/
  kind : Nat := 0
  /-- PGM_PSTATp.HOST_RELOAD, 1 bit [R431; 0] -/
  hostReload : Bool := false
  /-- PGM_PSTATp fault cause, 8 bits [R431; 0] -/
  cause : Nat := 0
  /-- PGM_CYCp last cycle in µs, 16 bits [R431; 0] -/
  lastUs : Nat := 0
  /-- PGM_CYCp longest cycle in µs, 16 bits [R431; 0] -/
  maxUs : Nat := 0
  /-- the image in DRAM; empty when there is none [R397; none] -/
  image : List Byte := []
  /-- instance region [R387; DESIGN CHOICE empty, log 1] -/
  inst : List Byte := []
  /-- the output words last published, by map kind and index [R401; DESIGN CHOICE none, log 1] -/
  out : Tab Nat := []
  /-- start kind and PGM_START cause pending for the next cycle [R413; DESIGN CHOICE none, log 1] -/
  pend : Option (Nat × Nat) := none
  /-- the program has run since its image was loaded [R413; DESIGN CHOICE false, log 1] -/
  ran : Bool := false
  /-- S of the previous input image [R400; DESIGN CHOICE none, log 1] -/
  last : Option STime := none
  /-- end of the last cycle [R416; DESIGN CHOICE 0, log 1] -/
  endAt : STime := 0
  /-- stations whose status word carries UNDELIVERED next [R416; DESIGN CHOICE none, log 1] -/
  undelivered : List Nat := []
  /-- staged image of an exchange: its command, its bytes and the instant it was staged [R410; none] -/
  exch : Option (Pend × List Byte × STime) := none
  /-- the peer has acknowledged the staged image [R410; DESIGN CHOICE false, log 1] -/
  exchAck : Bool := false
  /-- the instance data as of the open cut's T_e has been captured [R406; DESIGN CHOICE false, log 1] -/
  captured : Bool := false
deriving DecidableEq, Repr

/-- The PGM block. -/
structure Pgm where
  /-- PGM_STATUS.RUN, 1 bit [R431; 0] -/
  run : Bool := false
  /-- PGM_CORES: physical core of each logical core, 4 bits each [R431; 0x76543210] -/
  cores : Tab Nat := []
  /-- PGM_CORE_SPARE, 9 bits [R431; 0x100] -/
  spare : Nat := 0x100
  /-- PGM_OVERRUN, 32 bits [R431; 0] -/
  overrun : Word := 0
  /-- PGM_FAULTS, 32 bits [R431; 0] -/
  faults : Word := 0
  /-- PGM_UNDELIVERED, 32 bits [R431; 0] -/
  undelivered : Word := 0
  /-- PGM_CORE_ERR, 32 bits [R431; 0] -/
  coreErr : Word := 0
  /-- PGM_ROLLBACK, 32 bits [R431; 0] -/
  rollback : Word := 0
  /-- PGM_SEC_CORR, 32 bits [R431; 0] -/
  secCorr : Word := 0
  /-- programs 0–255 [R390; see Prog] -/
  progs : Tab Prog := []
  /-- logical cores 0–7 with their cycles [R399; see Core] -/
  run_ : Tab Core := []
  /-- logical cores without a healthy physical core [R405; none] -/
  lost : Nat := 0
deriving DecidableEq, Repr

/-- A timer of FBL (R409, R420). -/
structure FbTimer where
  start  : STime := 0
  inLast : Bool := false
  q      : Bool := false
  run    : Bool := false
deriving DecidableEq, Repr

/-- The FBL block. -/
structure Fbl where
  /-- image in force; FBL_STATUS.LOADED is its presence [R431; none] -/
  image : List Byte := []
  /-- accepted image that takes effect at the next scan boundary [R424; none] -/
  next : Option (List Byte) := none
  /-- FBL_STATUS.IN_CONTROL, 1 bit: FBL has taken control (log 30) [R431; 0] -/
  control : Bool := false
  /-- FBL_STATUS cause of the last take, 2 bits [R431; 0] -/
  takeCause : Nat := 0
  /-- FBL_ID, 32 bits [R431; 0] -/
  id : Nat := 0
  /-- FBL_SCANS, 32 bits [R431; 0] -/
  scans : Word := 0
  /-- FBL_MAXSCAN, 32 bits [R431; 0] -/
  maxScan : Nat := 0
  /-- FBL_TAKES, 32 bits [R431; 0] -/
  takes : Word := 0
  /-- FBL_ERRINFO instruction index, 12 bits [R431; 0] -/
  errIndex : Nat := 0
  /-- FBL_ERRINFO reason, 8 bits [R431; 0] -/
  errReason : Nat := 0
  /-- FBL_OUTw: output bits 0–63 [R431; 0] -/
  outs : Nat := 0
  /-- FBL_FLAGw: flags 0–255 [R431; 0] -/
  flags : Nat := 0
  /-- timers 0–31 [R420; DESIGN CHOICE cleared, log 1] -/
  timers : Tab FbTimer := []
  /-- compare inputs 0–31 as one mask [R423; DESIGN CHOICE 0, log 1] -/
  cmp : Nat := 0
  /-- compare inputs reading FAIL for want of a result, as a mask [R423; DESIGN CHOICE 0, log 1] -/
  cmpStale : Nat := 0
  /-- DIO levels latched by the last scan, 96 bits [R429; DESIGN CHOICE 0, log 1] -/
  levels : Nat := 0
  /-- FIRST_SCAN is set for the next scan [R424; DESIGN CHOICE true, log 1] -/
  first : Bool := true
  /-- start of the last scan [R419; DESIGN CHOICE 0, log 1] -/
  scanAt : STime := 0
  /-- output bits whose mapped pin FBL_MAP_IGNORED has named [R426; none] -/
  ignored : List Nat := []
deriving DecidableEq, Repr

/-! ## The Keep (15) -/

/-- A program's part of a cut (R406, R414): state, IMAGE_ID, instance data and whether it has run. -/
structure PgmCap where
  mode  : PgmMode
  imageId : Nat
  inst  : List Byte
  ran   : Bool
deriving DecidableEq, Repr

/-- What an image or a committed record holds (Tables KEP-2 and KEP-5). A record is held as the whole state it leaves. -/
structure KepImage where
  policy   : Nat := 0
  version  : Nat := 0
  baseCrc  : Word := 0
  cfg      : Cfg := {}
  tasks    : Tab Task := []
  delay    : List (STime × Nat × Nat) := []
  loops    : Tab LoopSt := []
  axes     : Tab Axis := []
  progs    : Tab PgmCap := []
  stations : Tab Station := []
  /-- code and sample time of each DAC channel, and of each pin at 32 + its number -/
  outs     : Tab (Int × STime) := []
deriving DecidableEq, Repr

/-- A journal record (R600): epoch, T_e, bytes, PREV, flags and the state it leaves. -/
structure KepRec where
  epoch  : Nat
  te     : STime
  len    : Nat
  prev   : Nat
  full   : Bool := false
  direct : Bool := false
  /-- STRETCH: multiples of EPOCH_US skipped before this cut -/
  stretch : Nat := 0
  img    : KepImage
  /-- its parts as bytes (R601) -/
  parts  : List (List Byte) := []
deriving DecidableEq, Repr

/-- An image slot (Table KEP-4). STATE: 0 EMPTY, 1 APPLYING, 2 VALID. -/
structure KepSlot where
  state : Nat := 0
  epoch : Nat := 0
  te    : STime := 0
  img   : KepImage := {}
  /-- the entries of its sections as bytes, under section kind × 65,536 + object (R604) -/
  sect  : Tab (List Byte) := []
deriving DecidableEq, Repr

/-- An open cut (R592 to R598): epoch, T_e, whether it is full, the state captured, the blocks whose part is ready with
the last of them, the parts drawn so far, the station words that a write sampled at or after T_e has replaced, and what has
delayed it. -/
structure KepCut where
  epoch : Nat
  te    : STime
  full  : Bool
  img   : KepImage := {}
  ready : List Nat := []
  parts : List (List Byte) := []
  words : Tab StWord := []
  cause : Nat := 1
deriving DecidableEq, Repr

/-- How far the Spire die has come since its last reset: up, to be booted, to load the base image, to restore its image, to
resume control. -/
inductive Phase where
  | up
  | boot
  | reload
  | image
  | resume
deriving DecidableEq, Repr

/-- The KEP block. -/
structure Kep where
  /-- base image in the Keep; empty when none is held [R110; DESIGN CHOICE none, log 1] -/
  base : List Byte := []
  /-- program images in the program store [R397; DESIGN CHOICE none, log 1] -/
  programs : Tab (List Byte) := []
  /-- programs whose loaded image did not fit the program store: Keep metadata behind HOST_RELOAD [R397; DESIGN CHOICE none, log 1] -/
  reload : List Nat := []
  /-- restart record: RUN_AT_LOSS, 1 bit [R617; DESIGN CHOICE 0, log 1] -/
  runAtLoss : Bool := false
  /-- KEP_LAST_RESTART kind, 2 bits [R621; 0] -/
  kind : Nat := 0
  /-- KEP_LAST_RESTART cause, 3 bits [R621; 0] -/
  cause : Nat := 0
  /-- KEP_LAST_RESTART restore time in µs, 16 bits [R621; 0] -/
  restoreUs : Nat := 0
  /-- KEP_RESTARTS, 32 bits [R621; 0] -/
  restarts : Word := 0
  /-- image slots 0 and 1 [R604; EMPTY] -/
  slots : Tab KepSlot := []
  /-- committed records not yet applied to both slots, oldest first [R602; DESIGN CHOICE none, log 1] -/
  journal : List KepRec := []
  /-- slot 0 waits to be copied into slot 1 [R606; false] -/
  copy : Bool := false
  /-- the open cut; KEP_STATUS.CUT_OPEN and FULL_CUT follow [R621; none] -/
  cut : Option KepCut := none
  /-- KEP_STATUS.JOURNAL_ON, 1 bit [R621; 0] -/
  journalOn : Bool := false
  /-- KEP_STATUS.RESTORING, 1 bit [R621; 0] -/
  restoring : Bool := false
  /-- KEP_EPOCH, 64 bits [R621; 0] -/
  epoch : Nat := 0
  /-- KEP_TE: T_e of that record [R621; 0] -/
  te : STime := 0
  /-- KEP_REC_BYTES, 32 bits [R621; 0] -/
  recBytes : Nat := 0
  /-- multiples of EPOCH_US skipped before the next cut (STRETCH of its record) [R600; DESIGN CHOICE 0, log 1] -/
  skipped : Nat := 0
  /-- bytes written into the hot region in the last whole second and in the running one, for KEP_RATE [R621; 0] -/
  rate : Nat × Nat := (0, 0)
  rateSec : Nat := 0
  /-- KEP_STRETCHES, 32 bits [R621; 0] -/
  stretches : Word := 0
  /-- KEP_STRETCH_MAX, µs, 32 bits [R621; 0] -/
  stretchMax : Nat := 0
  /-- KEP_DISCARDS, 32 bits [R621; 0] -/
  discards : Word := 0
  /-- KEP_HOT_WRITES, 64 bits [R621; 0] -/
  hotWrites : Nat := 0
  /-- bytes written since the last gap move [R590; DESIGN CHOICE 0, log 1] -/
  gapBytes : Nat := 0
  /-- KEP_GAP, 9 bits [R621; 0] -/
  gap : Nat := 0
  /-- number of the next cut opened [R596; 1] -/
  nextEpoch : Nat := 1
  /-- the next cut is a full cut [R594; DESIGN CHOICE true, log 1] -/
  needFull : Bool := true
  /-- last epoch boundary handled [R597; DESIGN CHOICE 0, log 1] -/
  lastBoundary : STime := 0
  /-- EPOCH_US of the running epoch, as its first marker found it [R138; 1000] -/
  epochUs : Nat := 1000
  /-- the restart under way or pending: kind, cause and the CK_TIME cycle at which it begins [R618, R619; none] -/
  restart : Option (Nat × Nat × Nat) := none
  /-- how far the Spire die has come since its last reset [R609, R615; the device has not restarted] -/
  phase : Phase := .boot
  /-- CFG_RUN restores under the choice of R615 [R615; DESIGN CHOICE false, log 1] -/
  choice : Bool := false
  /-- CFG as the cut and the arming records in the Keep hold it through a device reset [R120, R141; none] -/
  saved : Option Cfg := none
  /-- the slot that the running restart has restored [R612; none] -/
  restored : Option KepSlot := none
  /-- cause of the last device reset, as in KEP_RESTART [R620; DESIGN CHOICE 1 power loss, log 1] -/
  lossCause : Nat := 1
  /-- CK_TIME cycle of the last resume instant, or of the start-up [R696; DESIGN CHOICE 0, log 1] -/
  resumedAt : Nat := 0
  /-- a restart of the Spire die is in progress: kind and cause [R612; none] -/
  running : Option (Nat × Nat) := none
  /-- instant the running restore was asked for [R611; DESIGN CHOICE 0, log 1] -/
  askedAt : Nat := 0
  /-- slot being read out: slot, offset, command [R619; none] -/
  read : Option (Nat × Nat × Pend) := none
deriving DecidableEq, Repr

/-! ## CAN (13) -/

/-- Controller states (Table CAN-2). -/
inductive CanMode where
  | off
  | errorActive
  | errorPassive
  | busOff
  | listenOnly
deriving DecidableEq, Repr

/-- A frame of a controller: identifier word, DLC with FDF and BRS, data, and launch time (R518). -/
structure CanFrame where
  launch : STime := 0
  id   : Nat
  ctl  : Nat
  data : List Byte
deriving DecidableEq, Repr

/-- One transmit buffer. -/
structure CanBuf where
  /-- data last set; none: never set [R515; DESIGN CHOICE none, log 1] -/
  data : Option (List Byte) := none
  /-- a frame is pending: its launch time, or 0 [R515; DESIGN CHOICE none, log 1] -/
  pend : Option STime := none
  /-- the pending frame has started at least once [R519; DESIGN CHOICE false, log 1] -/
  started : Bool := false
  /-- ALONE_STOPPED, 1 bit [R527; DESIGN CHOICE false, log 1] -/
  stopped : Bool := false
  /-- consecutive attempts ended by a bit error [R528; DESIGN CHOICE 0, log 1] -/
  collRun : Nat := 0
  /-- CAN_ID_COLLISION is raised and no frame has been sent since [R528; DESIGN CHOICE false, log 1] -/
  collRaised : Bool := false
  /-- last firing instant of a PERIODIC buffer handled [R515; DESIGN CHOICE 0, log 1] -/
  fired : STime := 0
  /-- reference start-of-frame whose window has been opened [R533; DESIGN CHOICE none, log 1] -/
  served : Option STime := none
deriving DecidableEq, Repr

/-- One controller. -/
structure CanCtl where
  /-- CAN_STATn [2:0] [R540; 0 OFF] -/
  mode : CanMode := .off
  /-- CAN_STATn.REC, 8 bits [R540; 0] -/
  rec_ : Nat := 0
  /-- CAN_STATn.TEC, 9 bits [R540; 0] -/
  tec : Nat := 0
  /-- CAN_TXFRn, 32 bits [R540; 0] -/
  txFr : Word := 0
  /-- CAN_RXFRn, 32 bits [R540; 0] -/
  rxFr : Word := 0
  /-- CAN_ERRFRn, 32 bits [R540; 0] -/
  errFr : Word := 0
  /-- CAN_NOMATCHn, 32 bits [R540; 0] -/
  noMatch : Word := 0
  /-- CAN_RXDROPn, 32 bits [R540; 0] -/
  rxDrop : Word := 0
  /-- CAN_SHORTn, 32 bits [R540; 0] -/
  short : Word := 0
  /-- CAN_LATEn, 32 bits [R540; 0] -/
  late : Word := 0
  /-- CAN_ALONEn, 32 bits [R540; 0] -/
  alone : Word := 0
  /-- CAN_COLLn, 32 bits [R540; 0] -/
  coll : Word := 0
  /-- CAN_ACKRUNn, 16 bits [R540; 0] -/
  ackRun : Nat := 0
  /-- CAN_ALONE is raised since the count was last cleared [R527; DESIGN CHOICE false, log 1] -/
  aloneRaised : Bool := false
  /-- CAN_TDCn, 7 bits [R540; 0] -/
  tdc : Nat := 0
  /-- CAN_TTREFn [R540; 0] -/
  ttRef : STime := 0
  /-- CAN_TTn cycle count, 6 bits [R540; 0] -/
  ttCount : Nat := 0
  /-- CAN_TTn.SYNCED, 1 bit [R540; 0] -/
  synced : Bool := false
  /-- instant from which a time slave awaits its next reference; none when TT_REF_LOST is raised [R532; DESIGN CHOICE none,
  log 1] -/
  refFrom : Option STime := none
  /-- basic cycle whose reference message a time master sent last [R531; DESIGN CHOICE none, log 1] -/
  ttCycle : Option Nat := none
  /-- buffer whose frame is on the bus, 16 for the reference message [R516; DESIGN CHOICE none, log 1] -/
  sending : Option Nat := none
  /-- a mode change that waits for bus idle: true is LISTEN_ONLY, with its command if one waits [R538; none] -/
  modeReq : Option (Bool × Option Pend) := none
  /-- CAN_RECOVER has started bus-off recovery [R538; DESIGN CHOICE false, log 1] -/
  recovering : Bool := false
  /-- CAN_TX_ABORT commands waiting for the frame on the bus [R521; none] -/
  aborts : List Pend := []
  /-- transmit buffers 0–15 [R515; see CanBuf] -/
  bufs : Tab CanBuf := []
  /-- host queue, at most 32 records [R517; DESIGN CHOICE empty, log 1] -/
  queue : List CanFrame := []
  /-- frames for the host held at a starved window, at most 64 [R523; DESIGN CHOICE empty, log 1] -/
  held : List BufRec := []
  /-- LOST_BEFORE is owed to the next record [R523; DESIGN CHOICE false, log 1] -/
  lostBefore : Bool := false
deriving DecidableEq, Repr

/-- The CAN block. -/
structure Can where
  /-- CAN_EN, 8 bits [R540; 0] -/
  en : Nat := 0
  /-- controllers 0–7 [R509; see CanCtl] -/
  ctls : Tab CanCtl := []
deriving DecidableEq, Repr

/-! ## Belfry (14) -/

/-- Function states (R552). -/
inductive FnMode where
  | permit
  | demand
  | resetWait
deriving DecidableEq, Repr

/-- Belfry states (Table SAF-5). -/
inductive SafMode where
  | init
  | unconfigured
  | run
  | degradedA
  | degradedB
  | safeFault
deriving DecidableEq, Repr

/-- One function as a channel holds it: its state, whether a two-hand function may permit again, and consecutive cycles in
which the partner's state differed (R552, R554). -/
structure SafFn where
  mode   : FnMode := .demand
  armed  : Bool := false
  differ : Nat := 0
deriving DecidableEq, Repr

/-- What a channel sends its partner at the end of a cycle (R544): accepted contacts, function states, functions whose
input is in demand, output commands. -/
structure SafExch where
  contacts : Nat := 0
  fns      : Tab FnMode := []
  demands  : Nat := 0
  gates    : Nat := 0
deriving DecidableEq, Repr

/-- One channel. Times are CK_TIME cycles. -/
structure SafChan where
  /-- accepted contact levels of the 16 inputs, 16 bits [R548; DESIGN CHOICE 0 open, log 1] -/
  acc : Nat := 0
  /-- first sample of a level that is not yet accepted, by input [R548; DESIGN CHOICE none, log 1] -/
  since : Tab Nat := []
  /-- last sample of the inputs [R543; DESIGN CHOICE none, log 1] -/
  sampledAt : Option Nat := none
  /-- feedback of the channel's 8 switches, 1 while a switch conducts [R560; 0] -/
  fb : Nat := 0
  /-- contacts latched by the running cycle, 16 bits [R543; DESIGN CHOICE 0, log 1] -/
  latched : Nat := 0
  /-- start of the running cycle [R543; DESIGN CHOICE none, log 1] -/
  cycleAt : Option Nat := none
  /-- functions 0–31 [R552; see SafFn] -/
  fns : Tab SafFn := []
  /-- what the running cycle will publish and apply at its end [R543; DESIGN CHOICE empty, log 1] -/
  stage : SafExch := {}
  /-- the latest exchange published [R544; DESIGN CHOICE empty, log 1] -/
  exch : SafExch := {}
  /-- inputs that are OK, and the time each became so [R554; DESIGN CHOICE none, log 1] -/
  okAt : Tab Nat := []
  /-- the reset button is closed since, and was opened again first at [R555; DESIGN CHOICE none, log 1] -/
  press : Option (Nat × Option Nat) := none
  /-- gates driven, 8 bits [R557; 0] -/
  gates : Nat := 0
  /-- last change of each gate [R560; DESIGN CHOICE 0, log 1] -/
  changed : Tab Nat := []
  /-- the channel's copy of the safety configuration in force [R542; DESIGN CHOICE none, log 1] -/
  cfg : List Byte := []
deriving DecidableEq, Repr

/-- What the SAF page shows of functions, contacts, outputs and feedback: the state at the last cycle of channel A (R588). -/
structure SafView where
  /-- SAF_PERMIT, 32 bits [R588; 0] -/
  permit : Nat := 0
  /-- SAF_DISC, 16 bits [R588; 0] -/
  disc : Nat := 0
  /-- SAF_INA, 16 bits [R588; 0] -/
  inA : Nat := 0
  /-- SAF_INB, 16 bits [R588; 0] -/
  inB : Nat := 0
  /-- SAF_OUT energised, 8 bits [R588; 0] -/
  energised : Nat := 0
  /-- SAF_OUT REQ, 8 bits [R588; 0] -/
  req : Nat := 0
  /-- SAF_OUT OUTPUT_FAULT, 8 bits [R588; 0] -/
  fault : Nat := 0
  /-- SAF_FB, 16 bits [R588; 0] -/
  fb : Nat := 0
deriving DecidableEq, Repr

/-- Consumer states (R572). -/
inductive ConsMode where
  | off
  | dual
  | single
  | fault
deriving DecidableEq, Repr

/-- One safe-frame consumer. Times are CK_TIME cycles. -/
structure SafCons where
  /-- SAF_CONSc [1:0] [R588; 0 OFF] -/
  mode : ConsMode := .off
  /-- last valid copy on LAN A and on LAN B [R572; DESIGN CHOICE none, log 1] -/
  seenA : Option Nat := none
  seenB : Option Nat := none
  /-- the consumer started [R572; DESIGN CHOICE 0, log 1] -/
  from_ : Nat := 0
  /-- SEQ accepted last, the LAN of that copy (true is B) and its bytes 0–23 [R570, R571; DESIGN CHOICE none, log 1] -/
  last : Option (Nat × Bool × List Byte) := none
  /-- SAFE bits accepted, 32 bits [R571; DESIGN CHOICE 0, log 1] -/
  bits : Nat := 0
  /-- SAF_CONSBITSc: bits in force at channel A's last cycle, 32 bits [R588; 0] -/
  shown : Nat := 0
  /-- entry into SINGLE, and whether LAN B is the one missing [R572; DESIGN CHOICE 0, log 1] -/
  singleAt : Nat := 0
  missingB : Bool := false
deriving DecidableEq, Repr

/-- One safe-frame producer: next SEQ and the CK_TIME cycle of the last frame (R569). -/
structure SafProd where
  /-- SEQ of the next frame, 32 bits [R569; DESIGN CHOICE 0, log 1] -/
  seq : Word := 0
  /-- the last frame [R568; DESIGN CHOICE none, log 1] -/
  sentAt : Option Nat := none
deriving DecidableEq, Repr

/-- The SAF block. -/
structure Saf where
  /-- SAF_STATE [2:0] [R588; 0 INIT] -/
  mode : SafMode := .init
  /-- the confirmed configuration held in the Keep; SAF_CONFIG_ID, SAF_CRC_A and SAF_CRC_B follow [R588; none] -/
  cfg : List Byte := []
  /-- the pending configuration with the CK_TIME cycle of its load; SAF_PEND_ID and PENDING follow [R588; none] -/
  pend : Option (List Byte × Nat) := none
  /-- SAF_PCRC_A, 32 bits [R588; 0] -/
  pcrcA : Nat := 0
  /-- SAF_PCRC_B, 32 bits [R588; 0] -/
  pcrcB : Nat := 0
  /-- channels A and B [R542; see SafChan] -/
  a : SafChan := {}
  b : SafChan := {}
  /-- SAF_DISC: inputs with DISC_FAULT, 16 bits [R588; 0] -/
  disc : Nat := 0
  /-- discrepancies under way, by input, with their start [R549; DESIGN CHOICE none, log 1] -/
  discAt : Tab Nat := []
  /-- inputs whose contacts have stood in demand together since DISC_FAULT was latched [R550; DESIGN CHOICE 0, log 1] -/
  discSeen : Nat := 0
  /-- SAF_OUT REQ, 8 bits [R588; 0] -/
  req : Nat := 0
  /-- SAF_OUT OUTPUT_FAULT, 8 bits [R588; 0] -/
  outFault : Nat := 0
  /-- SAF_OUT energised, as last announced, 8 bits [R588; 0] -/
  energised : Nat := 0
  /-- last test pulse of each switch, at 2 × output + switch [R561; DESIGN CHOICE none, log 1] -/
  pulseAt : Tab Nat := []
  /-- end of T_DEG; SAF_DEG_LEFT follows [R588; 0] -/
  degUntil : Nat := 0
  /-- SAF_FAULT cause, 4 bits [R588; 0] -/
  cause : Nat := 0
  /-- SAF_FAULT attribution, 4 bits [R588; 0] -/
  attr : Nat := 0
  /-- SAF_ERRINFO record, 8 bits [R588; 0] -/
  errRecord : Nat := 0
  /-- SAF_ERRINFO reason, 8 bits [R588; 0] -/
  errReason : Nat := 0
  /-- SAF_DEMANDS, 32 bits [R588; 0] -/
  demands : Word := 0
  /-- SAF_DISC_CNT, 32 bits [R588; 0] -/
  discCnt : Word := 0
  /-- SAF_OUTFLT_CNT, 32 bits [R588; 0] -/
  outFlt : Word := 0
  /-- SAF_SF_BAD, 32 bits [R588; 0] -/
  sfBad : Word := 0
  /-- SAF_SF_MISMATCH, 32 bits [R588; 0] -/
  sfMismatch : Word := 0
  /-- SAF_SF_TIMEOUT, 32 bits [R588; 0] -/
  sfTimeout : Word := 0
  /-- consumers 0–15 [R572; see SafCons] -/
  cons : Tab SafCons := []
  /-- producers 0–15 [R568; see SafProd] -/
  prods : Tab SafProd := []
  /-- safe frames routed to SAF and not yet handled, oldest first [R570; DESIGN CHOICE empty, log 1] -/
  rx : List RxFrame := []
  /-- what the register page shows of the last cycle of channel A [R588; see SafView] -/
  view : SafView := {}
  /-- every REQ bit is to be cleared at the next cycle [R636; false] -/
  clearReq : Bool := false
deriving DecidableEq, Repr

/-! ## Pair (16) -/

/-- Pair states (Table PAI-2). -/
inductive PaiMode where
  | off
  | listen
  | active
  | joining
  | synced
  | takeover
  | fenced
  | orphan
deriving DecidableEq, Repr

/-- A heartbeat received: bytes, working time and CK_TIME cycle of its receipt (R645). -/
structure PeerBeat where
  bytes : List Byte
  at_   : STime
  ck    : Nat
deriving DecidableEq, Repr

/-- What the acknowledgement of a packet releases: a record's epoch, an update a command waits for, a staged program
image, or nothing. -/
inductive ShipTag where
  | other
  | record (epoch bytes : Nat)
  | update
  | image (program : Nat)
deriving DecidableEq, Repr

/-- A packet sent and not yet acknowledged: number, lane, payload, CK_TIME cycle it was sent last, and its tag (R625). -/
structure PairTx where
  seq   : Nat
  lane  : Nat
  payload : List Byte
  sentAt : Nat
  tag   : ShipTag := .other
deriving DecidableEq, Repr

/-- A command whose completion waits for the acknowledgement of a persistent update (R634). -/
structure SyncWait where
  pend   : Pend
  detail : Nat
  seq    : Nat
  till   : Nat
deriving DecidableEq, Repr

/-- The PAI block. -/
structure Pai where
  /-- PAI_STATE [2:0] [R645; 0 OFF] -/
  mode : PaiMode := .off
  /-- the last heartbeat received; the peer state and PEER_SEEN follow [R645; none] -/
  peer : Option PeerBeat := none
  /-- PAI_STATE.LANE0_UP and LANE1_UP, 2 bits [R645; 0] -/
  lanes : Nat := 0
  /-- CK_TIME cycle at which the last lane went down [R634; DESIGN CHOICE 0, log 1] -/
  downAt : Nat := 0
  /-- CK_TIME cycle of the last heartbeat on each lane [R645; DESIGN CHOICE none, log 1] -/
  laneBeat : Tab Nat := []
  /-- PAI_STATE: PR_PACT_N asserted, 1 bit [R645; 0] -/
  pact : Bool := false
  /-- PAI_STATE: PR_FENCED_N asserted, 1 bit [R645; 0] -/
  fenced : Bool := false
  /-- PAI_STATE: PR_FENCE_N asserted, 1 bit [R645; 0] -/
  fence : Bool := false
  /-- the claim of R628: the CFG_RUN that makes it, or none for a restart, and the CK_TIME cycle it began [R628; none] -/
  claim : Option (Option Pend × Nat) := none
  /-- end of the power-up listen time, CK_TIME cycles [R629; none] -/
  listenUntil : Option Nat := none
  /-- what a peer has told of its boot firmware versions and safety configuration: versions, CONFIG_ID, CRC_A, CRC_B
  [R631; DESIGN CHOICE none, log 1] -/
  peerInfo : Option (List Nat × Nat × Nat × Nat) := none
  /-- PAI_CHECK, 4 bits [R645; 0] -/
  check : Nat := 0
  /-- PAI_SHIP_EPOCH, 64 bits [R645; 0] -/
  shipEpoch : Nat := 0
  /-- PAI_BACKLOG, 32 bits [R645; 0] -/
  backlog : Nat := 0
  /-- PAI_HB_MISS, 32 bits [R645; 0] -/
  hbMiss : Word := 0
  /-- PAI_RETX, 32 bits [R645; 0] -/
  retx : Word := 0
  /-- PAI_RESYNCS, 32 bits [R645; 0] -/
  resyncs : Word := 0
  /-- PAI_TAKEOVERS, 32 bits [R645; 0] -/
  takeovers : Word := 0
  /-- PAI_LAST_TK, µs, 16 bits [R645; 0] -/
  lastTk : Nat := 0
  /-- last multiple of 100 µs of working time at which heartbeats were sent [R626; DESIGN CHOICE 0, log 1] -/
  sentAt : STime := 0
  /-- SEQ of the next heartbeat, 32 bits [R626; DESIGN CHOICE 0, log 1] -/
  seq : Word := 0
  /-- YIELD, 1 bit [R640; 0] -/
  yield : Bool := false
  /-- CK_TIME cycle of the Spire reset that control has not been resumed from [R640; none] -/
  resetAt : Option Nat := none
  /-- PAI_SWITCHOVER under way: its command, start, and the number of its cut once opened [R641; none] -/
  switch : Option (Pend × Nat × Option Nat) := none
  /-- TAKEOVER: CK_TIME cycle of the declaration, and whether the fence is done and the image restored [R637; none] -/
  tk : Option (Nat × Bool × Bool) := none
  /-- the active device ships its journal to a joining or synced peer [R632; false] -/
  shipping : Bool := false
  /-- no slot was VALID when shipping began: the image and its records are still to be sent [R632; false] -/
  imageOwed : Bool := false
  /-- the joining device holds the persistent configuration and the image of its peer [R633; false] -/
  gotConfig : Bool := false
  gotImage : Bool := false
  /-- cause of R634 with which the persistent configuration is sent again, 0 for a first join [R634; 0] -/
  resyncCause : Nat := 0
  /-- number of the next packet sent [R625; DESIGN CHOICE 0, log 1] -/
  txSeq : Nat := 0
  /-- packets not yet acknowledged, oldest first [R625; DESIGN CHOICE none, log 1] -/
  tx : List PairTx := []
  /-- number of the next packet to deliver [R625; DESIGN CHOICE 0, log 1] -/
  rxNext : Nat := 0
  /-- packets received ahead of their turn [R625; DESIGN CHOICE none, log 1] -/
  rxBuf : Tab (Option PairMsg) := []
  /-- commands that wait for an acknowledgement [R634; none] -/
  waits : List SyncWait := []
deriving DecidableEq, Repr

/-! ## Reserves and maintenance (19) -/

/-- A running maintenance activity (Tables SPR-4 and SPR-10): code, kind and unit of a swap or the unit of the activity,
handle, cause of a swap, the spare it holds, and the CK_TIME cycle it was admitted. -/
structure Activity where
  code   : Nat
  kind   : Nat := 0
  unit   : Nat := 0
  handle : Nat
  cause  : Nat := 3
  spare  : Option Nat := none
  from_  : Nat := 0
deriving DecidableEq, Repr

/-- The SPR block. Units are keyed by 65,536 × kind + unit, kinds 0 LANE, 1 CORE, 2 ADC, 3 BTR, 4 KEEP, 5 DRAM. -/
structure Spr where
  /-- SPR_CFG.AUTO, 6 bits [R730; 0x3F] -/
  auto : Nat := 0x3F
  /-- SPR_SWAPS, 32 bits [R730; 0] -/
  swaps : Word := 0
  /-- SPR_REFUSED, 32 bits [R730; 0] -/
  refused : Word := 0
  /-- SPR_DEFERRED_CNT, 32 bits [R730; 0] -/
  deferredCnt : Word := 0
  /-- the map of retired units in the Keep; SPR_RETIRED is its length [R710; DESIGN CHOICE none, log 1] -/
  retired : List Nat := []
  /-- the numbers of lanes that a wear-driven or requested swap has renumbered, by physical lane; kept with the map of
  substitutions in the Keep [R716, R710; DESIGN CHOICE none, log 1] -/
  laneNos : Tab Nat := []
  /-- activity slots 0–3; SPR_ACTa and SPR_STATUS follow [R730; none] -/
  acts : Tab Activity := []
  /-- handle assigned last [R720; DESIGN CHOICE 0, log 1] -/
  handle : Nat := 0
  /-- deferred wear swaps, oldest first [R717; none] -/
  deferred : List Nat := []
  /-- last monitor value by unit: margin in ps, self-test failures, eye margin in 1/256 UI [R730; 0] -/
  monitor : Tab Nat := []
  /-- units whose WARN has been crossed [R711; DESIGN CHOICE none, log 1] -/
  warned : List Nat := []
  /-- free ADC spares [R709; 32 and 33] -/
  adcFree : List Nat := [32, 33]
  /-- free KEEP spares, SPR_POOL1 [7:0] [R730; 0x80] -/
  keepFree : Nat := 0x80
  /-- DRAM rows remapped to the reserved region; the DRAM_SOFT pool has 64 less these [R724; none] -/
  softRows : List Nat := []
  /-- rows repaired in each bank, at 16 × die + bank, at most 1; the DRAM_HARD pool has 256 less these [R725; none] -/
  hardUsed : List Nat := []
  /-- CK_TIME cycle of the last wear evaluation [R711; DESIGN CHOICE 0, log 1] -/
  wearAt : Nat := 0
  /-- hot-region failures without a spare [R723; 0] -/
  hotFails : Nat := 0
  /-- instants of ADC_SELFTEST_FAIL within 24 h, by physical converter [R711; none] -/
  selfFails : Tab (List STime) := []
  /-- handle, code and status of activities that have ended while the Spire die was down [R721; none] -/
  endsDue : List (Nat × Nat × Nat) := []
  /-- physical converters that have failed a calibration [R711; none] -/
  calFailed : List Nat := []
deriving DecidableEq, Repr

/-! ## Clocks, supplies and test access (21, 22) -/

/-- The CLK block. -/
structure Clk where
  /-- CLK_STATUS.REF_OK, 1 bit [R802; 1] -/
  refOk : Bool := true
  /-- CLK_STATUS.DOME_PLLS, 1 bit [R802; 1] -/
  domePlls : Bool := true
  /-- CLK_STATUS.SPIRE_PLLS, 1 bit [R802; 0] -/
  spirePlls : Bool := false
  /-- CLK_STATUS.PWRFAIL, 1 bit [R802; 0] -/
  pwrfail : Bool := false
  /-- dies at or above WARN and not yet HYST below, 2 bits; CLK_STATUS.THERM_WARN follows [R802; 0] -/
  warm : Nat := 0
  /-- CLK_RAILS, 15 bits [R802; 0x7FFF] -/
  rails : Nat := 0x7FFF
  /-- CLK_RAIL_EVT, 15 bits [R802; 0] -/
  railEvt : Nat := 0
  /-- CLK_TEMPS Spire and Dome, signed 16 bits each [R802 measured; DESIGN CHOICE 0, log 1] -/
  tempS : Int := 0
  tempD : Int := 0
  /-- CLK_TEMP_MAX Spire and Dome, signed 16 bits each [R802 measured; DESIGN CHOICE 0, log 1] -/
  maxS : Int := 0
  maxD : Int := 0
  /-- CLK_THERM_CFG.WARN, °C, 8 bits [R802; 0x6E] -/
  warn : Nat := 0x6E
  /-- CLK_THERM_CFG.HYST, °C, 8 bits [R802; 5] -/
  hyst : Nat := 5
  /-- CLK_RESET_CAUSE, 4 bits [R802; 1, as after power-on] -/
  cause : Nat := 1
  /-- CLK_PWRFAILS, 32 bits [R802 count; DESIGN CHOICE 0, log 1] -/
  pwrfails : Word := 0
  /-- CLK_REF_FAULTS, 32 bits [R802 count; DESIGN CHOICE 0, log 1] -/
  refFaults : Word := 0
  /-- CLK_CLKFORCE.FORCE_LOW, 1 bit [R802; 0] -/
  forceLow : Bool := false
  /-- the device is held in reset: 2 RESET_N, 5 reference loss, 6 thermal trip, 4 a rail [R787, R789, R792, R799; not held] -/
  held : Option Nat := none
  /-- a Spire or DRAM rail is out of window, or has been back for less than 10 ms: whether a DRAM rail was [R787; none] -/
  railWait : Option Bool := none
  /-- CK_TIME cycle of the last temperature sample [R799; DESIGN CHOICE 0, log 1] -/
  sampleAt : Nat := 0
deriving DecidableEq, Repr

/-- The test access port. -/
structure Tst where
  /-- TST_IR [7:0]: instruction in the register [R802; 0xFF] -/
  ir : Nat := 0xFF
  /-- TST_IR [8]: executed as BYPASS [R802; 0] -/
  bypassed : Bool := false
  /-- TST_REFUSED, 32 bits [R802; 0] -/
  refused : Word := 0
  /-- the boundary register as SAMPLE/PRELOAD left it, 648 bits [R800; DESIGN CHOICE 0, log 1] -/
  bsr : Nat := 0
deriving DecidableEq, Repr

/-- All the block holds but the commands that wait for it. -/
structure Device where
  /-- what has left the device for the host and its pins, in order [R47, R96; empty] -/
  out : List Out := []
  /-- the model's own counter of free values; no statement rests on it [the model's; DESIGN CHOICE 0, log 1] -/
  draws : Nat := 0
  /-- the HIF block [R105; see its fields] -/
  hif : Hif := {}
  /-- the CFG block [R142; see its fields] -/
  cfg : Cfg := {}
  /-- the DPT block [R187; see its fields] -/
  dpt : Dpt := {}
  /-- the LPE block [R233; see its fields] -/
  lpe : Lpe := {}
  /-- the tracing part of the LTN block [R236; see its fields] -/
  trc : Trc := {}
  /-- the ADC block [R303; see its fields] -/
  adc : Adc := {}
  /-- the DAC block [R308; see its fields] -/
  dac : Dac := {}
  /-- the DIO block [R312; see its fields] -/
  dio : Dio := {}
  /-- the TIM block [R473; see its fields] -/
  tim : Tim := {}
  /-- the LTN block [R646; see its fields] -/
  ltn : Ltn := {}
  /-- the EVR block [R664; see its fields] -/
  evr : Evr := {}
  /-- the PMC block [R732; see its fields] -/
  pmc : Pmc := {}
  /-- the BTR block [R684; see its fields] -/
  btr : Btr := {}
  /-- the MEM block [R692; see its fields] -/
  mem : Mem := {}
  /-- the MOT block [R344; see its fields] -/
  mot : Mot := {}
  /-- the CCR block [R371; see its fields] -/
  ccr : Ccr := {}
  /-- the ETH block [R433; see its fields] -/
  eth : Eth := {}
  /-- the SEC block [R752; see its fields] -/
  sec : Sec := {}
  /-- the PGM block [R386; see its fields] -/
  pgm : Pgm := {}
  /-- the PAI block [R623; see its fields] -/
  pai : Pai := {}
  /-- the KEP block [R588; see its fields] -/
  kep : Kep := {}
  /-- the FBL block [R420; see its fields] -/
  fbl : Fbl := {}
  /-- the CAN block [R518; see its fields] -/
  can : Can := {}
  /-- the SAF block [R543; see its fields] -/
  saf : Saf := {}
  /-- the SPR block [R709; see its fields] -/
  spr : Spr := {}
  /-- the CLK block [R787; see its fields] -/
  clk : Clk := {}
  /-- the TST block [R775; see its fields] -/
  tst : Tst := {}
  /-- outputs on their way to their destinations [R226; DESIGN CHOICE none, log 1] -/
  outputs : List OutItem := []
  /-- what destinations report of outputs [R229, R648; DESIGN CHOICE none, log 1] -/
  reports : List DestReport := []
deriving DecidableEq, Repr

/-- The block and the queue of the commands that wait for it, first in, first out. -/
structure State where
  /-- the commands that wait, the next at the front [the row's cut; empty] -/
  pending : List Instr := []
  /-- the block itself [see Device] -/
  dev : Device := {}
deriving DecidableEq, Repr

/-- Why a step can stop: the spec gives no command of this block such an end, so no meaning raises it. -/
inductive Fault where
  /-- Raised by no meaning: an access the spec says does not exist completes with a status or is ignored and
  counted (R17, R51). Safe. -/
  | none_
deriving DecidableEq, Repr

/-- Why a command has no meaning. -/
inductive Refusal where
  /-- Raised by an arm of exec whose command has no meaning yet. Safe. -/
  | notModelled (mnemonic : String)
deriving DecidableEq, Repr

/-- The block right after reset, every field at the value its docstring names. -/
def Device.reset : Device := {}

/-- The block right after reset, with no command waiting. -/
def State.reset : State := {}

end Sys2Proof.Machine
end

