-- ==== Sys2Proof/Machine/Ops.lean ====
section
/-!
DEFINITION. Machine/Ops.lean: the shared operations of the model: the clock, the configuration store, raising
an event, writing host memory, completing a command, windows, tokens, recorder records and counters.
-/
namespace Sys2Proof.Machine

/-! ## Time -/

/-- Working time on the Dome die, in 1/256 ns (R473). -/
def nowD (s : Device) : STime := s.tim.dome / 2 ^ 24

/-- Working time as the Spire die's copy shows it, used by Spire units (R476). -/
def nowS (s : Device) : STime := s.tim.spire / 2 ^ 24

/-- A fresh index for a free value; the step reads it and advances the counter. -/
def draw (s : Device) : Nat × Device := (s.draws, { s with draws := s.draws + 1 })

/-! ## Standing in a pair -/

/-- In every pair state but OFF and ACTIVE the device counts as a standby (R623). -/
def Pai.standby (p : Pai) : Bool := p.mode != .off && p.mode != .active

/-- The balls are in use: the device is out of reset and every rail is in window; otherwise each class of ball takes its harmless
state (R794, Table CLK-4; log 100). -/
def ballsLive (s : Device) : Bool := s.clk.held.isNone && s.clk.rails % 2 ^ 15 == 0x7FFF

/-- The field outputs may be driven: the balls are in use, a base image is loaded and the device is no standby (R306, R313,
R334, R794). -/
def fieldOn (s : Device) : Bool := ballsLive s && s.cfg.mode != .unconfigured && !s.pai.standby

/-- A write to a register of the Dome die; one that comes while that die is held in reset does nothing (R39, R792). -/
def domeWrite (f : Device → Device) (s : Device) : Device := if s.clk.held.isSome then s else f s

/-- State of the peer from its last heartbeat, 0 before one has come (R645). -/
def Pai.peerState (p : Pai) : Nat := (p.peer.map (fun b => fld 0 1 b.bytes % 8)).getD 0

/-- The device is ACTIVE and its standby SYNCED (R634). -/
def Pai.synced (p : Pai) : Bool := p.mode == .active && p.shipping && p.peerState == 4

/-! ## The configuration store -/

/-- Object `obj` of record kind `kind` of block `blk`, if the configuration created it (R109). -/
def cfgObj (s : Device) (blk kind obj : Nat) : Option CfgObj :=
  s.cfg.objs.find? (fun o => o.blk == blk && o.kind == kind && o.obj == obj)

/-- The base configuration created the object (R109). -/
def created (s : Device) (blk kind obj : Nat) : Bool := (cfgObj s blk kind obj).isSome

/-- A record with the patches of one overlay applied (Table CFG-4). -/
def applyPatches (ps : List Patch) (blk kind obj : Nat) (bs : List Byte) : List Byte :=
  ps.foldl (fun b p => if p.blk == blk && p.kind == kind && p.obj == obj then overwrite p.off p.data b else b) bs

/-- The record as the base image and the commits made so far leave it at sample time `t`: the record in force, or
the kept record whose interval of validity holds `t` (R132); none when it is no longer kept. -/
def keptAt (o : CfgObj) (t : STime) : Option (List Byte) :=
  if o.since ≤ t then some o.cur
  else (o.old.find? (fun r => r.since ≤ t && t < r.till)).map (·.bytes)

/-- The record of an object that governs a datum of sample time `t` (R128, R129, R132): armed overlays whose commit
time is at or before `t` count as in force. -/
def recAt (s : Device) (blk kind obj : Nat) (t : STime) : Option (List Byte) :=
  (cfgObj s blk kind obj).bind fun o => (keptAt o t).map fun b =>
    s.cfg.armed.foldl (fun b a => if a.commit ≤ t then applyPatches a.patches blk kind obj b else b) b

/-- The record in force now, empty when the object does not exist. -/
def recNow (s : Device) (blk kind obj : Nat) : List Byte := (recAt s blk kind obj (nowD s)).getD []

/-- The numbers of the objects of one record kind, rising. -/
def objsOf (s : Device) (blk kind : Nat) : List Nat :=
  (s.cfg.objs.filter (fun o => o.blk == blk && o.kind == kind)).map (·.obj)

/-- The configuration version in force at working time `t` (R128). -/
def versionAt (s : Device) (t : STime) : Nat :=
  match (s.cfg.armed.filter (fun a => a.commit ≤ t)).getLast? with
  | some a => a.version
  | none =>
    match s.cfg.history.find? (fun h => h.1 ≤ t) with
    | some h => h.2
    | none => s.cfg.baseVersion

/-- The record in force is changed in place (R139): armed overlays that patch the item still override it, and
superseded records stay. -/
def setRec (s : Device) (blk kind obj : Nat) (f : List Byte → List Byte) : Device :=
  { s with cfg.objs := s.cfg.objs.map fun o =>
      if o.blk == blk && o.kind == kind && o.obj == obj then { o with cur := f o.cur } else o }

/-! ## Activity signals and events -/

/-- The value of PMC_SELn that selects a signal (Table PMC-1). -/
def pmcKey (blk sig idx : Nat) (level : Bool) : Nat := sig + blk * 256 + flag 15 level + idx * 65536

/-- One occurrence of an EDGE activity signal (R732). -/
def pmcEdge (blk sig idx : Nat) (s : Device) : Device :=
  { s with pmc.cum := tmod s.pmc.cum (pmcKey blk sig idx false) 0 (· + 1) }

/-- Packs payload fields (R665): (width in bytes, value), saturating, cut at 8 bytes. -/
def packFields : Nat → List (Nat × Nat) → List Byte
  | room, [] => List.replicate room 0#8
  | room, (w, v) :: rest =>
    let w' := min w room
    le w' (sat (8 * w') v) ++ packFields (room - w') rest

/-- A field "low 32 bits": 4 bytes (R665). -/
def lo32 (v : Nat) : Nat × Nat := (4, v % 2 ^ 32)

/-- A signed field of `w` bytes, saturated (R665). -/
def sgn (w : Nat) (v : Int) : Nat × Nat := (w, wrapInt (8 * w) (ssat (8 * w) v))

/-- BURST and RATE of a code: its override entry, or the default of its severity (R668, Table EVR-3). -/
def rateLimit (s : Device) (code : Nat) : Nat × Nat :=
  let overflow := (objsOf s 0x12 2).findSome? fun o =>
    let b := recNow s 0x12 2 o
    if fld 0 2 b == code && fld 0 2 b != 0 then some (fld 2 2 b, fld 4 4 b) else none
  match overflow with
  | some r => r
  | none =>
    let sev := sevOf code
    match cfgObj s 0x12 1 0 with
    | some _ => let b := recNow s 0x12 1 0; (fld (32 + 2 * sev) 2 b, fld (4 * sev) 4 b)
    | none => ([1000, 1000, 100, 100, 100, 1000, 1000].getD sev 1000, [1000, 1000, 100, 100, 100, 100, 100].getD sev 100)

/-- A record enters EVR's waiting queue, or is lost at a closed link or a full queue (R667, R673). The first record
accepted after an overload brings EVR_OVERLOAD with it. -/
def evEnqueue (w : EvWait) (s : Device) : Device :=
  if spireCode (w.blk * 2048) && !s.btr.linkUp then
    { s with evr.xlost := s.evr.xlost + 1, evr.dropsOwed := true }
  else if 4096 ≤ s.evr.queue.length then
    { s with evr.lost := s.evr.lost + 1, evr.dropsOwed := true, evr.overload := s.evr.overload + 1 }
  else if s.evr.overload = 0 then
    { s with evr.queue := s.evr.queue ++ [w] }
  else
    let o : EvWait := ⟨{ time := nowD s, code := Ev.evrOverload, sev := sevOf Ev.evrOverload,
                         payload := packFields 8 [(2, s.evr.overload)] }, 0x12⟩
    pmcEdge 0x12 0x05 0 { s with evr.queue := s.evr.queue ++ [w, o], evr.overload := 0 }

/-- The summary of a code's suppressed occurrences is issued at instant `t` (R669). -/
def issueSummary (code : Nat) (t : STime) (s : Device) : Device :=
  match tfind s.evr.sums code with
  | none => s
  | some q =>
    let r : EvRec := { time := t, code := Ev.evrSuppressed, sev := sevOf code, flags := 2,
                       payload := packFields 8 [(2, code), (2, q.count), lo32 (nsLow q.first)] }
    pmcEdge 0x12 0x02 0 (evEnqueue ⟨r, evBlock code⟩ { s with evr.sums := tdel s.evr.sums code })

/-- A block raises an event stamped `t` with the given payload (R664, R668, R669, R733). -/
def raiseAt (t : STime) (code : Nat) (pl : List Byte) (s : Device) : Device :=
  let s := pmcEdge (evBlock code) (code % 2048) 0 s
  let r : EvRec := { time := t, code, sev := sevOf code, payload := padTo 8 pl }
  if unlimited code then evEnqueue ⟨r, evBlock code⟩ s
  else
    let (burst, rate) := rateLimit s code
    let (credit, last) := tget s.evr.credit code (burst * 1000000000, t)
    let credit := min (burst * 1000000000) (credit + rate * (STime.toNs t - STime.toNs last))
    if 1000000000 ≤ credit then
      let s := { s with evr.credit := tset s.evr.credit code (credit - 1000000000, t) }
      evEnqueue ⟨r, evBlock code⟩ (issueSummary code t s)
    else
      { s with
        evr.credit := tset s.evr.credit code (credit, t)
        evr.suppr := s.evr.suppr + 1
        evr.sums := tmod s.evr.sums code { count := 0, first := t } (fun q => { q with count := q.count + 1 }) }

/-! ## Host memory and interrupts -/

/-- `k` occurrences of an EDGE activity signal (R732). -/
def pmcEdges (blk sig idx k : Nat) (s : Device) : Device :=
  { s with pmc.cum := tmod s.pmc.cum (pmcKey blk sig idx false) 0 (· + k) }

/-- A write of a hazard register is counted, with its BAR0 offset (R751). -/
def hazard (off : Nat) (s : Device) : Device :=
  if s.btr.spireUp then { s with pmc.hazWr := s.pmc.hazWr + 1, pmc.hazLast := off } else s

/-- Greatest payload of a memory-write packet: Max_Payload_Size, and never more than 256 bytes (R47, R48). -/
def maxWrite (s : Device) : Nat := min 256 (128 * 2 ^ s.hif.maxPayload)

/-- Greatest length of a memory-read request: Max_Read_Request_Size, and never more than 512 bytes (R48). -/
def maxReadReq (s : Device) : Nat := min 512 (128 * 2 ^ s.hif.maxRead)

/-- The packets of a write of `bs` at `a`, of at most `m` bytes each, in address order; the fuel is their number. -/
def writePackets (m : Nat) : Nat → Nat → List Byte → List Out
  | 0, _, _ => []
  | k + 1, a, bs => .write a (bs.take m) :: writePackets m k (a + m) (bs.drop m)

/-- The requests of a read of `len` bytes at `a`, of at most `m` bytes each; the fuel is their number. -/
def readPackets (m : Nat) : Nat → Nat → Nat → List Out
  | 0, _, _ => []
  | k + 1, a, len => .read a (min m len) :: readPackets m k (a + m) (len - m)

/-- The packets in which an item leaves (R47, R48). -/
def packetsOf (s : Device) : Out → List Out
  | .write a bs => let m := maxWrite s; writePackets m ((bs.length + m - 1) / m) a bs
  | .read a len => let m := maxReadReq s; readPackets m ((len + m - 1) / m) a len
  | o => [o]

/-- Memory-write packets among packets that leave; an MSI-X message is one (Table PMC-2 TLP_WR). -/
def tlpCount (ps : List Out) : Nat :=
  (ps.filter fun
    | .write _ _ => true
    | .msix _ => true
    | _ => false).length

/-- One item leaves for the host (R47, Table PMC-2 TLP_WR). -/
def sendHost (s : Device) (o : Out) : Device :=
  pmcEdges 0x00 0x81 0 (tlpCount (packetsOf s o)) { s with out := s.out ++ packetsOf s o }

/-- Sends one item to the host; in D3hot it is held back and sent on the return to D0 (R49, R96). -/
def toHost (o : Out) (s : Device) : Device :=
  if s.hif.d3hot then { s with hif.heldOut := s.hif.heldOut ++ [o] } else sendHost s o

/-- Sends one item anywhere else. -/
def emit (o : Out) (s : Device) : Device := { s with out := s.out ++ [o] }

/-- A ring, a window and a vector with their reset values (Table HIF-9). -/
def ringOf (s : Device) (n : Nat) : Ring := tget s.hif.rings n { vector := n }
def winOf (s : Device) (w : Nat) : Window := tget s.hif.windows w { vector := 33 + w }
def vecOf (s : Device) (v : Nat) : Vector := tget s.hif.vectors v {}

def modRing (n : Nat) (f : Ring → Ring) (s : Device) : Device :=
  { s with hif.rings := tset s.hif.rings n (f (ringOf s n)) }
def modWin (w : Nat) (f : Window → Window) (s : Device) : Device :=
  { s with hif.windows := tset s.hif.windows w (f (winOf s w)) }
def modVec (v : Nat) (f : Vector → Vector) (s : Device) : Device :=
  { s with hif.vectors := tset s.hif.vectors v (f (vecOf s v)) }

/-- A vector fires: its message is sent, or recorded in the pending-bit array while masked (R94, R95). -/
def fireVector (v : Nat) (s : Device) : Device :=
  let s := modVec v (fun q => { q with gathered := 0 }) s
  if (vecOf s v).masked then modVec v (fun q => { q with pba := true }) s else toHost (.msix v) s

/-- One signal for a vector, gathered under its moderation register (R94). -/
def signalVector (v : Nat) (s : Device) : Device :=
  let q := vecOf s v
  if q.count ≤ 1 || q.count ≤ q.gathered + 1 then fireVector v s
  else modVec v (fun q => { q with gathered := q.gathered + 1,
                                   firstAt := if q.gathered = 0 then nowS s else q.firstAt }) s

/-- A block raises an event at the working time of the occurrence (R664); the errors of HIF also signal
HIF_ERRVEC (R92). Which HIF events count as errors is a DESIGN CHOICE: severity ERROR and above (log 6). -/
def raise (code : Nat) (fields : List (Nat × Nat)) (s : Device) : Device :=
  let s := raiseAt (if spireCode code then nowS s else nowD s) code (packFields 8 fields) s
  if evBlock code = 0 && 5 ≤ sevOf code then signalVector s.hif.errVec s else s

/-! ## Commands -/

/-- Status codes (Table SCOPE-3). -/
inductive Status where
  | ok | rejectedState | badField | busyConflict | haltedRing | authRequired | notFound | timeout
  | dataError | unsupported | late
deriving DecidableEq, Repr

/-- The code of a status (R17). -/
def Status.code : Status → Nat
  | .ok => 0x00 | .rejectedState => 0x01 | .badField => 0x02 | .busyConflict => 0x03 | .haltedRing => 0x04
  | .authRequired => 0x05 | .notFound => 0x06 | .timeout => 0x07 | .dataError => 0x08 | .unsupported => 0x09
  | .late => 0x0A

/-- The completion record of Table HIF-4. -/
def completionRec (tag index status : Nat) (phase : Bool) (t : STime) (detail : Nat) : List Byte :=
  le 4 tag ++ le 2 index ++ le 1 status ++ le 1 (flag 0 phase) ++ le 4 (nsLow t) ++ le 4 detail

/-- A ring whose descriptor at CI has completed: CI, PI and PHASE move on (R54, R63). -/
def stepRing (r : Ring) : Ring :=
  let next := (r.ci + 1) % 2 ^ r.sizeLog2
  { r with ci := next, pi := if r.pi = r.ci then next else r.pi, busy := false,
           phase := if next = 0 then !r.phase else r.phase, prefetch := r.prefetch.drop 1 }

/-- The ring halts at slot `idx` with a status other than OK (R70). -/
def haltRing (n idx : Nat) (st : Status) (s : Device) : Device :=
  raise Ev.ringHalted [(1, n), (2, idx), (1, st.code)] (modRing n (fun r => { r with
    halted := true, failIndex := idx, failStatus := st.code }) s)

/-- Writes the completion of the slot at CI of ring `n` and moves CI on; a status other than OK halts the ring
(R57, R62, R63, R70, R96). -/
def writeCompletion (n tag : Nat) (int_ : Bool) (st : Status) (detail : Nat) (s : Device) : Device :=
  let r := ringOf s n
  let s := toHost (.write (r.cpl.toNat + 16 * r.ci) (completionRec tag r.ci st.code r.phase (nowS s) detail)) s
  let s := modRing n stepRing s
  let s := if st = .ok then s else haltRing n r.ci st s
  if int_ then signalVector (ringOf s n).vector s else s

/-- The completion of a descriptor whose ring was disabled and enabled again while it executed: it goes to its own slot
of the completion ring it started under, and the indices of the new session stay (R57, R64, R75; log 75). -/
def writeLateCompletion (p : Pend) (st : Status) (detail : Nat) (s : Device) : Device :=
  let n := p.desc.ring
  let s := toHost (.write (p.cpl.toNat + 16 * p.index)
    (completionRec p.desc.tag.toNat p.index st.code p.phase (nowS s) detail)) s
  let s := modRing n (fun r => { r with busy := false }) s
  let s := if st = .ok then s else haltRing n p.index st s
  if bit 0 p.desc.flags.toNat then signalVector (ringOf s n).vector s else s

/-- A command ends: its completion is written, or discarded and counted when HIF has been reset since it started
or its ring was not enabled (R57, R100). The host buffer's data is written first (R96). -/
def finish (p : Pend) (st : Status) (detail : Nat) (buf : List Byte) (s : Device) : Device :=
  if p.live && p.gen == s.hif.gen then
    let s := if buf.isEmpty then s else toHost (.write p.desc.bufAddr.toNat buf) s
    if p.session = (ringOf s p.desc.ring).session then
      writeCompletion p.desc.ring p.desc.tag.toNat (bit 0 p.desc.flags.toNat) st detail s
    else writeLateCompletion p st detail s
  else { s with hif.lostCpl := s.hif.lostCpl + 1 }

/-- How a command's work ends: completed now, or in progress with its completion left to a later step. -/
inductive CmdEnd where
  | done (st : Status) (detail : Nat) (buf : List Byte) (s : Device)
  | wait (s : Device)

/-- A command completes with a failure and has no effect. -/
def CmdEnd.fail (st : Status) (detail : Nat) (s : Device) : CmdEnd := .done st detail [] s

/-- The descriptor at CI of its ring executes (R57, R64, R71): not while the Spire die is down or in D3hot, where the host
memory it works on is out of reach (R49), nor on a ring that is halted or executing another descriptor. -/
def runCmd (body : Pend → Device → CmdEnd) (d : Desc) (s : Device) : Device :=
  let r := ringOf s d.ring
  if !s.btr.spireUp || s.hif.d3hot || (r.enable && (r.halted || r.busy)) then s
  else
    let p : Pend := { desc := d, index := r.ci, gen := s.hif.gen, live := r.enable, session := r.session, cpl := r.cpl, phase := r.phase }
    let s := pmcEdge 0x00 0x80 d.ring s
    match body p s with
    | .done st det buf s' => finish p st det buf s'
    | .wait s' => if r.enable then modRing d.ring (fun r => { r with busy := true }) s' else s'

/-! ## Windows -/

/-- The window bound to a source, if one is (R102). -/
def windowOf (s : Device) (src : Nat) : Option Nat :=
  (s.hif.windows.find? (fun e => e.2.bound == some src)).map (·.1)

/-- Payload bytes a segment of the window holds (R84). -/
def segRoom (w : Window) : Nat := 2 ^ w.segLog2 - 32

/-- A source has data for a window whose next segment the host owns: WINDOW_STARVED once for each stall (R87). -/
def starve (n : Nat) (s : Device) : Device :=
  let w := winOf s n
  if w.starved then s
  else raise Ev.windowStarved [(1, n), (2, w.next)] (modWin n (fun w => { w with starved := true }) s)

/-- Header bytes 1–31 of a segment handed back; the CRC covers bytes 1–27 and the payload (R84). -/
def segHeader (typ src seq : Nat) (payload : List Byte) (t : STime) : List Byte :=
  let h := le 1 typ ++ le 2 src ++ le 4 seq ++ le 4 payload.length ++ le 4 0 ++ compactTime t
  h ++ le 4 (crc32c (h ++ payload)).toNat

/-- Hands segment `next` of window `n` back to the host, with the payload filled so far (R86, R96, R97). -/
def handBack (n : Nat) (s : Device) : Device :=
  let w := winOf s n
  let at_ := w.base.toNat + w.next * 2 ^ w.segLog2
  let typ := if w.fill.isEmpty then 0 else w.fillType
  let t := w.fillTime.getD (nowS s)
  let s := if w.fill.isEmpty then s else toHost (.write (at_ + 32) w.fill) s
  let s := toHost (.write (at_ + 1) (segHeader typ (w.bound.getD 0) w.seq.toNat w.fill t)) s
  let s := toHost (.write at_ [0#8]) s
  let s := modWin n (fun w => { w with
    next := (w.next + 1) % (w.countM1 + 1), owned := w.owned - 1, seq := w.seq + 1,
    fill := [], fillTime := none, idleFrom := nowS s }) s
  signalVector (winOf s n).vector s

/-- Puts one whole record into the segment being filled, handing a full segment back first; answers whether there
was a segment for it. -/
def pushRecord (n typ : Nat) (t : Option STime) (bs : List Byte) (s : Device) : Bool × Device :=
  let w := winOf s n
  let s := if w.fill ≠ [] ∧ segRoom w < w.fill.length + bs.length then handBack n s else s
  let w := winOf s n
  if s.hif.d3hot then (false, s)
  else if w.owned = 0 then (false, starve n s)
  else
    let s := modWin n (fun w => { w with
      fill := w.fill ++ bs, fillType := if w.fill.isEmpty then typ else w.fillType,
      fillTime := match w.fillTime with | some x => some x | none => t,
      fillAt := if w.fill.isEmpty then nowS s else w.fillAt }) s
    let w := winOf s n
    (true, if w.fill.length = segRoom w then handBack n s else s)

/-! ## Units in service -/

/-- Physical core of a logical core (PGM_CORES). -/
def physCore (s : Device) (c : Nat) : Nat := tget s.pgm.cores c c

/-- The physical converter of a logical one. -/
def physConv (s : Device) (c : Nat) : Nat := (tget s.adc.convs c { phys := c }).phys

/-- A unit that a running RESERVE_SWAP is draining (R716, R730). -/
def draining (s : Device) (kind unit : Nat) : Bool :=
  s.spr.acts.any (fun e => e.2.code == 1 && e.2.kind == kind && e.2.unit == unit)

/-- DRAM_REPAIR has stopped access to DRAM (R725). -/
def dramStopped (s : Device) : Bool := s.spr.acts.any (fun e => e.2.code == 4)

/-! ## Recorder records -/

/-- A record of a channel is lost (R654, R655). -/
def ltnLose (c : Nat) (t : STime) (s : Device) : Device :=
  { s with ltn.chans := tmod s.ltn.chans c {} fun c => { c with
      gap := match c.gap with | some g => some { g with count := g.count + 1 } | none => some ⟨1, t⟩ } }

/-- 16 bytes of input count towards LTN_LOAD: bytes of the last whole ms and of the running one (R681). -/
def ltnCount (s : Device) : Device :=
  let ms := nowS s / msT 1
  { s with
    ltn.loadMs := ms
    ltn.load := if ms = s.ltn.loadMs then (s.ltn.load.1, s.ltn.load.2 + 16)
      else if ms = s.ltn.loadMs + 1 then (s.ltn.load.2, 16) else (0, 16) }

/-- A record bound for Lantern enters the input queue, or is lost there (R649, R655); nothing records while RUN is
clear. -/
def ltnEnqueue (r : LtnIn) (s : Device) : Device :=
  if !s.ltn.run then s
  else if !s.btr.spireUp || dramStopped s then ltnLose r.channel r.time s
  else
    let s := ltnCount s
    if 4096 ≤ s.ltn.inq.length then
      let s := ltnLose r.channel r.time { s with ltn.overload := s.ltn.overload + 1 }
      if s.ltn.overload = 1 then raise Ev.ltnOverload [(2, 1)] s else s
    else { s with ltn.inq := s.ltn.inq ++ [r], ltn.overload := 0 }

/-- The recorder channels of one source that are enabled at `t` (Table LTN-9): KIND, INDEX and, for loop nodes, NODE, which the
base fixes. A channel whose record of that time is no longer kept is among them: Lantern discards what comes for it (R132). -/
def ltnChannels (s : Device) (kind index node : Nat) (t : STime) : List Nat :=
  (objsOf s 0x11 1).filter fun c =>
    let b := recNow s 0x11 1 c
    fld 1 1 b == kind && fld 2 2 b == index && (kind != 4 || fld 4 1 b == node) &&
      (recAt s 0x11 1 c t).all (fun b => bit 0 (fld 0 1 b))

/-- One record for each channel that records this source (R646). -/
def ltnRecord (kind index node : Nat) (t : STime) (version : Nat) (value : Word) (aux flags : Nat) (s : Device) : Device :=
  (ltnChannels s kind index node t).foldl
    (fun s c => ltnEnqueue { channel := c, time := t, version, value, aux, flags } s) s

/-- AUX and AUX_FAR for a second time beside the channel time (R653). -/
def auxTime (t other : STime) : Nat × Nat :=
  if (if other < t then t / 256 - other / 256 else other / 256 - t / 256) < 2 ^ 32 then (nsLow other, 0)
  else (0xFFFFFFFF, 32)

/-! ## Tokens -/

/-- The key of a source stream: its source ID and its destination operand (R151). -/
def streamKey (source slot operand : Nat) : Nat := source * 65536 + operand * 4096 + slot

/-- A token leaves its source with its SEQ; a Dome source that finds the link down loses it (R151, R691). -/
def launchToken (t : Token) (s : Device) : Device :=
  if s.btr.linkUp && s.btr.spireUp && !s.btr.xreset.contains 0 then { s with dpt.inflight := s.dpt.inflight ++ [t] } else s

/-- Sends a token on its way to the matching store with the next SEQ of its stream. A Dome source that finds the
link down loses it, and SEQ advances all the same (R151, R691). -/
def sendToken (t : Token) (s : Device) : Device :=
  let k := streamKey t.source t.slot t.operand
  let q := tget s.dpt.seqOut k 0
  let s := { s with dpt.seqOut := tset s.dpt.seqOut k (q + 1) }
  launchToken { t with seq := q } s

/-- A destination reports what became of an output (R229, R648). Only loops and axes take reports. -/
def report (o : OutItem) (f : Fate) (issue : STime) (s : Device) : Device :=
  if o.loop.isSome || o.axis.isSome then { s with reports := s.reports ++ [⟨o, f, issue⟩] } else s

/-- A station and a port with their reset values. -/
def stnOf (s : Device) (n : Nat) : Station := tget s.eth.stations n {}
def modStn (n : Nat) (f : Station → Station) (s : Device) : Device :=
  { s with eth.stations := tset s.eth.stations n (f (stnOf s n)) }

/-- An output that a newer one replaced before any request carried it is reported superseded (R451), behind the report of an
earlier output that a running cycle still owes (R23). -/
def supersede (st w : Nat) (o : OutItem) (s : Device) : Device :=
  let cs := (stnOf s st).open_
  match (cs.filter (fun c => c.words.any (fun x => x.1 == w && x.2.item.isSome))).getLast? with
  | none => report o .superseded 0 s
  | some c =>
    if o.loop.isSome || o.axis.isSome then
      modStn st (fun q => { q with open_ := q.open_.map fun x =>
        if x.m = c.m then { x with later := x.later ++ [(w, ⟨o, .superseded, 0⟩)] } else x }) s
    else s

/-- While a cut is open, a station's state enters it before a datum sampled at `t`, at or after T_e, changes it (Table KEP-2,
R592). -/
def cutStation (st : Nat) (t : STime) (s : Device) : Device :=
  match s.kep.cut with
  | none => s
  | some k =>
    if k.te ≤ t && !k.ready.contains 0x0C && (tfind k.img.stations st).isNone then
      { s with kep.cut := some { k with img := { k.img with stations := tset k.img.stations st (stnOf s st) } } }
    else s

/-- The same for an output word, which stands in the cut as the last write sampled before T_e left it. -/
def cutWord (o : OutItem) (s : Device) : Device :=
  let old := tget (stnOf s (o.index / 512)).outs (o.index % 512) {}
  match s.kep.cut with
  | none => s
  | some k =>
    if k.te ≤ o.time && old.time < k.te && !k.ready.contains 0x0C && (tfind k.words o.index).isNone then
      { s with kep.cut := some { k with words := tset k.words o.index old } }
    else s

/-- A write of an output word of a station: [15:9] station, [8:0] word (R451). -/
def stationWrite (o : OutItem) (s : Device) : Device :=
  let st := o.index / 512
  let w := o.index % 512
  let old := tget (stnOf s st).outs w {}
  if o.time < old.time then
    report o .discarded 0 (raise Ev.nzOrderDrop [(1, st), (2, w)] { s with eth.orderDrop := s.eth.orderDrop + 1 })
  else
    let s := cutWord o s
    let s := if old.fresh then { s with eth.supersede := s.eth.supersede + 1 } else s
    let s := match old.fresh, old.item with
      | true, some q => supersede st w q s
      | _, _ => s
    let word : StWord := { value := BitVec.ofInt 32 o.code, time := o.time, fresh := true, item := some o }
    modStn st (fun q => { q with outs := tset q.outs w word }) s

/-- Sends an output on its way to its destination (R226); a station word is written where it is held (R451). -/
def sendOutput (o : OutItem) (s : Device) : Device :=
  if o.kind = 4 then stationWrite o s else { s with outputs := s.outputs ++ [o] }

/-- A datum needs a record that is no longer kept: it is discarded, counted and named (R132). -/
def versionDrop (blk version : Nat) (s : Device) : Device :=
  raise Ev.cfgVersionDrop [(1, blk), (2, version), (2, 1)] { s with cfg.vdrop := s.cfg.vdrop + 1 }

/-- A datum of sample time `t` is handled under the record of its object that was in force then (R129). Where the object exists
and keeps that record no longer, the datum is discarded, counted and named (R132). -/
def underRec (blk kind obj : Nat) (t : STime) (f : List Byte → Device → Device) (s : Device) : Device :=
  match recAt s blk kind obj t with
  | some b => f b s
  | none => if created s blk kind obj then versionDrop blk (versionAt s t) s else s

end Sys2Proof.Machine
end

