-- ==== Sys2Proof/Machine/Operands.lean ====
section
/-!
DEFINITION. Machine/Operands.lean: the operand forms of a command descriptor (Table HIF-3) and the checks every
command makes on them.
-/
namespace Sys2Proof.Machine

/-- The descriptor that the 64 bytes of a slot of ring `n` hold (Table HIF-3). -/
def descOf (n : Nat) (b : List Byte) : Desc :=
  let w := fun (k : Nat) => BitVec.ofNat 32 (fld (24 + 4 * k) 4 b)
  { ring := n, opcode := BitVec.ofNat 16 (fld 0 2 b), flags := BitVec.ofNat 16 (fld 2 2 b), tag := BitVec.ofNat 32 (fld 4 4 b)
    target := BitVec.ofNat 32 (fld 8 4 b), bufLen := BitVec.ofNat 32 (fld 12 4 b), bufAddr := BitVec.ofNat 64 (fld 16 8 b)
    p0 := w 0, p1 := w 1, p2 := w 2, p3 := w 3, p4 := w 4, p5 := w 5, p6 := w 6, p7 := w 7
    resv := BitVec.ofNat 64 (fld 56 8 b) }

/-- A slot of ring `n` as it was read (R60, R69). -/
def fetchedOf (n : Nat) : SlotRead → Fetched
  | .bytes b => .desc (descOf n b)
  | .fail a => .fail a

/-- Which fields of the descriptor a command uses: TARGET, the P words (bit k for Pk) and the host buffer's least
and greatest length; every other field is reserved (R3, R61). -/
structure Form where
  target : Bool := true
  pmask  : Nat := 0
  bufMin : Nat := 0
  bufMax : Nat := 0

/-- A form with no P word and no buffer. -/
def plain : Form := {}

/-- The P words of a descriptor, P0 first. -/
def pwords (d : Desc) : List Word := [d.p0, d.p1, d.p2, d.p3, d.p4, d.p5, d.p6, d.p7]

/-- The reserved P words that are not zero, as (offends, byte offset). -/
def pOffends (mask : Nat) : Nat → List Word → List (Bool × Nat)
  | _, [] => []
  | k, w :: ws => (!bit k mask && w != 0, 24 + 4 * k) :: pOffends mask (k + 1) ws

/-- The least offset that offends. -/
def leastOffence : List (Bool × Nat) → Option Nat
  | [] => none
  | (b, o) :: rest =>
    match leastOffence rest with
    | none => if b then some o else none
    | some m => some (if b then min o m else m)

/-- The byte offset of the first offending field of a descriptor (R3, R60, R61, R62): the reserved fields, the
buffer, and what the command adds. -/
def badField (f : Form) (extra : List (Bool × Nat)) (d : Desc) : Option Nat :=
  leastOffence ([
    (d.flags.toNat / 2 != 0, 2),
    (!f.target && d.target != 0, 8),
    (d.bufLen.toNat < f.bufMin || min f.bufMax 16777216 < d.bufLen.toNat, 12),
    (d.bufAddr.toNat % 4 != 0 || (d.bufLen == 0 && d.bufAddr != 0), 16),
    (d.resv != 0, 56)] ++ pOffends f.pmask 0 (pwords d) ++ extra)

/-- The first check that fails decides the status (R809 and the chapters' own orders). -/
inductive Check where
  | bad (f : Form) (extra : List (Bool × Nat))
  | when (cond : Bool) (st : Status) (detail : Nat)
  | buffer

/-- The status and DETAIL with which a check fails. -/
def checkFails (d : Desc) (c : Check) : Option (Status × Nat) :=
  match c with
  | .bad f e => (badField f e d).map (fun o => (.badField, o))
  | .when c st det => if c then some (st, det) else none
  | .buffer =>
    match d.buf.acc with
    | .ok => none
    | .error => some (.dataError, 0)
    | .timeout => some (.timeout, 0)

/-- The status and DETAIL of the first failing check. -/
def firstFail (d : Desc) (checks : List Check) : Option (Status × Nat) := checks.findSome? (checkFails d)

/-- Runs a command's effect when every check passes, and fails it with the first failing check otherwise. -/
def checked (checks : List Check) (body : Pend → Device → CmdEnd) (p : Pend) (s : Device) : CmdEnd :=
  match firstFail p.desc checks with
  | some (st, det) => .fail st det s
  | none => body p s

/-- A command that completes OK with a DETAIL. -/
def okWith (detail : Nat) (s : Device) : CmdEnd := .done .ok detail [] s

/-- A command that completes OK after writing its host buffer. -/
def okBuf (detail : Nat) (buf : List Byte) (s : Device) : CmdEnd := .done .ok detail buf s

/-- The signed value of a parameter word. -/
def sword (w : Word) : Int := w.toInt

end Sys2Proof.Machine
end

