-- ==== Sys2Proof/Machine/Hif.lean ====
section
/-!
DEFINITION. Machine/Hif.lean: doorbells, command rings, the event ring, windows and interrupts
(02_host_rings_windows).
-/
namespace Sys2Proof.Machine

/-- An access that is ignored and counted in HIF_ACCERR (R51, R52). -/
def accError (s : Device) : Device := { s with hif.accErr := s.hif.accErr + 1 }

/-- A write is ignored and sets HIF_STATUS.CFG_ERR (R76, R77, R106). -/
def cfgErr (s : Device) : Device := { s with hif.cfgErr := true }

/-- A doorbell write of valid width and alignment carries its low 32 bits (R52). -/
def doorbellWord (w : BusWrite) : Option Nat :=
  if w.off = 0 ∧ (w.width = 4 ∨ w.width = 8) then some (w.value.toNat % 2 ^ 32) else none

/-! ## Command rings -/

/-- RING_DOORBELL (R52, R54, R56). -/
def ringDoorbell (n : Nat) (w : BusWrite) (s : Device) : Device :=
  match doorbellWord w with
  | none => accError s
  | some v =>
    let r := ringOf s n
    if 32 ≤ n || !r.enable then accError s
    else if 2 ^ 16 ≤ v || 2 ^ r.sizeLog2 ≤ v then raise Ev.doorbellRange [(2, 8 * n), (4, v)] s
    else modRing n (fun r => { r with pi := v }) s

/-- Descriptors from CI to PI − 1, modulo the ring size (R54). -/
def pendingCount (r : Ring) : Nat := (r.pi + 2 ^ r.sizeLog2 - r.ci) % 2 ^ r.sizeLog2

/-- The slot at CI could not be fetched: it completes with TAG 0 (R69). Its INT bit is not known, and the completion signals
no vector (DESIGN CHOICE, log 77). -/
def fetchFailed (n : Nat) (a : Access) (s : Device) : Device :=
  writeCompletion n 0 false (if a = .timeout then .timeout else .dataError) 0 s

/-- DESCRIPTOR_FETCH (R59, R68, R69): reads pending descriptors, up to 8 ahead of execution. A failed read
of the slot due for execution on an idle ring completes that slot. -/
def descriptorFetch (n : Nat) (slots : List SlotRead) (s : Device) : Device :=
  let got := slots.map (fetchedOf n)
  let r := ringOf s n
  if !r.enable || r.halted || s.hif.d3hot || 32 ≤ n then s
  else
    let have_ := r.prefetch.length
    let k := min got.length (min (pendingCount r - have_) (8 - have_))
    let s := (List.range k).foldl (fun s j =>
      toHost (.read (r.base.toNat + 64 * ((r.ci + have_ + j) % 2 ^ r.sizeLog2)) 64) s) s
    let s := modRing n (fun r => { r with prefetch := r.prefetch ++ got.take k }) s
    match (ringOf s n).prefetch.head? with
    | some (.fail a) => if r.busy then s else fetchFailed n a s
    | _ => s

/-- Completes one pending slot with HALTED_RING and no execution (R73). DETAIL is 0, and the vector is signalled where the
descriptor carries INT (R93); the spec gives neither for a flushed slot (DESIGN CHOICE, log 77). -/
def flushOne (n : Nat) (s : Device) (f : Option Fetched) : Device :=
  let r := ringOf s n
  let (tag, int_) := match f with
    | some (.desc d) => (d.tag.toNat, bit 0 d.flags.toNat)
    | _ => (0, false)
  let s := toHost (.write (r.cpl.toNat + 16 * r.ci)
    (completionRec tag r.ci Status.haltedRing.code r.phase (nowS s) 0)) s
  let next := (r.ci + 1) % 2 ^ r.sizeLog2
  let s := modRing n (fun r => { r with ci := next, phase := if next = 0 then !r.phase else r.phase }) s
  if int_ then signalVector r.vector s else s

/-- Resuming a halted ring: CONTINUE discards what was fetched; FLUSH completes every pending descriptor with
HALTED_RING; `slots` is what reading the pending slots brings, on the return to D0 where D3hot holds the reads back
(R49, R72, R73). Answers the count flushed. -/
def resumeRing (n : Nat) (flush : Bool) (slots : List SlotRead) (s : Device) : Nat × Device :=
  let r := ringOf s n
  let k := if flush then pendingCount r else 0
  let got := slots.map (fetchedOf n)
  let s := modRing n (fun r => { r with prefetch := [], halted := false }) s
  let s := (List.range k).foldl (fun s j => toHost (.read (r.base.toNat + 64 * ((r.ci + j) % 2 ^ r.sizeLog2)) 64) s) s
  let s := ((List.range k).map (fun j => got[j]?)).foldl (flushOne n) s
  (k, raise Ev.ringResumed [(1, n), (1, if flush then 2 else 1), (2, k)] s)

/-- RING_RESUME (R72, R73, R102, order of checks R809). -/
def ringResume (got : List SlotRead) (p : Pend) (s : Device) : CmdEnd :=
  let d := p.desc
  let n := d.target.toNat
  let r := ringOf s n
  checked [
    .when (31 < n) .notFound 0,
    .bad { pmask := 1 } [(d.p0 != 1 && d.p0 != 2, 24)],
    .when (!r.enable || !r.halted) .rejectedState 0]
    (fun _ s => let (k, s) := resumeRing n (d.p0 == 2) got s; okWith k s) p s

/-- A write of MODE to HIF_QRESUMEn acts as RING_RESUME on a ring that is enabled and halted (R74). -/
def qresume (n : Nat) (flush : Bool) (got : List SlotRead) (s : Device) : Device :=
  let r := ringOf s n
  if 32 ≤ n || !r.enable || !r.halted then s else (resumeRing n flush got s).2

/-- A write to HIF_QCFGn (R75, R76). A changed SIZE_LOG2 of an enabled ring is left out of the write. -/
def qcfgWrite (n v : Nat) (s : Device) : Device :=
  let r := ringOf s n
  let size := bits 4 0 v
  let en := bit 16 v
  if en && !r.enable && (size < 6 || 16 < size) then cfgErr s
  else
    let s := if r.enable && size != r.sizeLog2 then cfgErr s else s
    let s := modRing n (fun r => { r with
      sizeLog2 := if r.enable then r.sizeLog2 else size, vector := bits 13 8 v, prio := bit 17 v, enable := en }) s
    if en && !r.enable then
      modRing n (fun r => { r with
        ci := 0, pi := 0, phase := true, halted := false, prefetch := [], session := r.session + 1 }) s
    else if !en && r.enable then
      modRing n (fun r => { r with prefetch := [], pi := if r.busy then (r.ci + 1) % 2 ^ r.sizeLog2 else r.ci }) s
    else s

/-! ## Event ring -/

/-- The bytes of an event record as delivered on the event ring; the CRC takes PHASE as 0 (R79). -/
def eventBytes (r : EvRec) (phase : Bool) : List Byte :=
  let head := compactTime r.time ++ le 2 r.code ++ le 1 (r.sev % 8)
  let tail := le 4 r.seq.toNat ++ padTo 8 r.payload
  head ++ le 1 (r.flags % 128 + flag 7 phase) ++ tail ++ le 4 (crc32c (head ++ le 1 (r.flags % 128) ++ tail)).toNat

/-- Undelivered records are counted towards EVENT_RING_GAP and HIF_EVQ_GAPS (R82). -/
def missEvents (rs : List EvRec) (s : Device) : Device :=
  match rs with
  | [] => s
  | r :: _ =>
    { s with
      hif.evqGaps := s.hif.evqGaps + BitVec.ofNat 32 rs.length
      hif.evqMiss := match s.hif.evqMiss with
        | some (f, k) => some (f, k + rs.length)
        | none => some (r.seq, rs.length) }

/-- The records held for the event ring, a gap record of its own severity among them (R82). -/
def undelivered (s : Device) : List EvRec :=
  s.hif.evqHeld ++ s.hif.evqGapRec.toList.filter (fun r => s.hif.evqMinSev ≤ r.sev)

/-- HIF raises EVENT_RING_GAP for the undelivered records (R82). A record that the recorder cannot take is lost there
(R667, R673): the ring then owes none, and the next delivery raises the event again (DESIGN CHOICE, log 77). -/
def raiseRingGap (s : Device) : Device :=
  match s.hif.evqMiss with
  | none => s
  | some (first, k) =>
    let t := raise Ev.eventRingGap [lo32 first.toNat, (2, k)] s
    if t.evr.queue.length = s.evr.queue.length then t
    else { t with hif.evqMiss := none, hif.evqGapOwed := true }

/-- An admitted record is offered to the event ring (R81, R82). -/
def offerEvent (r : EvRec) (s : Device) : Device :=
  if r.code = Ev.eventRingGap then
    if s.hif.evqEnable then { s with hif.evqGapRec := some r } else s
  else if r.sev < s.hif.evqMinSev then s
  else if !s.hif.evqEnable then missEvents [r] s
  else
    let held := s.hif.evqHeld ++ [r]
    let s := missEvents (held.take (held.length - 4096)) s
    { s with hif.evqHeld := held.drop (held.length - 4096) }

/-- The event ring has a free slot (R77). -/
def evqSpace (s : Device) : Bool :=
  (s.hif.evqProd + 1) % 2 ^ s.hif.evqSize != s.hif.evqCons

/-- Writes one record onto the event ring and signals it (R79, R80, R93, R97). -/
def writeEvent (r : EvRec) (s : Device) : Device :=
  let s := toHost (.write (s.hif.evqBase.toNat + 32 * s.hif.evqProd) (eventBytes r s.hif.evqPhase)) s
  let next := (s.hif.evqProd + 1) % 2 ^ s.hif.evqSize
  signalVector s.hif.evqVector { s with
    hif.evqProd := next, hif.evqPhase := if next = 0 then !s.hif.evqPhase else s.hif.evqPhase }

/-- EVENT_DELIVERY (R79 to R82): the gap record first, when one is owed, and then the oldest held record. -/
def eventDelivery (s : Device) : Device :=
  if !s.hif.evqEnable || !evqSpace s || s.hif.d3hot then s
  else
  let s := if s.hif.evqGapOwed then s else raiseRingGap s
  if s.hif.evqGapOwed then
    match s.hif.evqGapRec with
    | none => s
    | some r => { writeEvent r s with hif.evqGapOwed := false, hif.evqGapRec := none }
  else
    match s.hif.evqHeld with
    | [] => s
    | r :: rest => writeEvent r { s with hif.evqHeld := rest }

/-- EVENT_RING_DOORBELL (R52, R78, R82). -/
def eventRingDoorbell (w : BusWrite) (s : Device) : Device :=
  match doorbellWord w with
  | none => accError s
  | some v =>
    if !s.hif.evqEnable then accError s
    else
      let size := 2 ^ s.hif.evqSize
      let used := (s.hif.evqProd + size - s.hif.evqCons) % size
      if size ≤ v || used < (v + size - s.hif.evqCons) % size then
        raise Ev.doorbellRange [(2, 0x100), (4, v)] s
      else
        let s := { s with hif.evqCons := v }
        if evqSpace s && !s.hif.evqGapOwed then raiseRingGap s else s

/-- A write to HIF_EVQ_CFG (R77, R82). -/
def evqCfgWrite (v : Nat) (s : Device) : Device :=
  let size := bits 4 0 v
  let en := bit 5 v
  let was := s.hif.evqEnable
  if en && !was && (size < 6 || 16 < size) then cfgErr s
  else
    let s := if was && size != s.hif.evqSize then cfgErr s else s
    let s := { s with
      hif.evqSize := if was then s.hif.evqSize else size
      hif.evqVector := bits 13 8 v
      hif.evqMinSev := bits 18 16 v
      hif.evqEnable := en }
    if en && !was then
      raiseRingGap { s with hif.evqProd := 0, hif.evqCons := 0, hif.evqPhase := true }
    else if !en && was then
      missEvents (undelivered s) { s with hif.evqHeld := [], hif.evqGapOwed := false, hif.evqGapRec := none }
    else s

/-! ## Windows -/

/-- Whether a defined source feeds a device-to-host window; none for a source ID that no chapter defines. -/
def sourceDir (src : Nat) : Option Bool :=
  if 0x0800 ≤ src ∧ src < 0x0820 then some true
  else if 0x0A90 ≤ src ∧ src < 0x0A94 then some true
  else if 0x0A94 ≤ src ∧ src < 0x0A98 then some false
  else if 0x0C00 ≤ src ∧ src < 0x0C08 then some true
  else if 0x0C08 ≤ src ∧ src < 0x0C10 then some false
  else if 0x0D00 ≤ src ∧ src < 0x0D08 then some true
  else if 0x0D08 ≤ src ∧ src < 0x0D10 then some false
  else if src ∈ [0x0401, 0x0501, 0x1701] then some false
  else if src ∈ [0x0F10, 0x1100, 0x11C0, 0x1200, 0x1600] then some true
  else none

/-- The object a source names stands in the loaded configuration; sources that name no object always exist. -/
def sourceExists (s : Device) (src : Nat) : Bool :=
  let k := src % 256
  if src / 256 = 0x08 then created s 0x08 1 k
  else if src / 256 = 0x0A then created s 0x0A 4 (k % 4)
  else if src / 256 = 0x0C then created s 0x0C 1 (k % 8)
  else if src / 256 = 0x0D then created s 0x0D 1 (k % 8)
  else if src = 0x1100 then created s 0x11 0 0
  else true

/-- WINDOW_BIND (R102, R103, order of checks R809). No defined source is a debug stream (Table SEC-7), so none
needs an access scope. P3 of a device-to-host window is not used (DESIGN CHOICE, log 77). -/
def windowBind (p : Pend) (s : Device) : CmdEnd :=
  let d := p.desc
  let n := d.target.toNat
  let w := winOf s n
  let src := d.p0.toNat
  checked [
    .when (15 < n) .notFound 0,
    .bad { pmask := 0xF } [(1000000 < d.p2.toNat, 32)],
    .when (sourceDir src).isNone .unsupported 0,
    .when (d.p1 != 0 || !sourceExists s src) .notFound 0,
    .when (sourceDir src != some w.d2h) .badField 24,
    .when (!w.enable || w.bound.isSome || (windowOf s src).isSome) .rejectedState 0]
    (fun _ s =>
      let s := modWin n (fun w => { w with
        bound := some src, next := 0, owned := 0, starved := false, flushUs := d.p2.toNat,
        seq := if w.d2h then 0 else d.p3, fill := [], fillTime := none, idleFrom := nowS s,
        rx := [], hold := [], bad := false }) s
      let s := if src = 0x1600 then { s with pmc.bindSeq := 0, pmc.fitRaised := false } else s
      okWith (segRoom w) s) p s

/-- Returns the oldest segment taken into use of a host-to-device window with OWN = 0 (R89, R93). -/
def returnSegment (n : Nat) (s : Device) : Device :=
  let w := winOf s n
  let s := toHost (.write (w.base.toNat + w.next * 2 ^ w.segLog2) [0#8]) s
  let s := modWin n (fun w => { w with
    next := (w.next + 1) % (w.countM1 + 1), owned := w.owned - 1, seq := w.seq + 1 }) s
  signalVector w.vector s

/-- The check of a host-to-device segment: 0 passes, 1 SEQ fails, 2 CRC fails (R89, R90). A segment the device
could not read counts as a CRC failure (DEDUCED, log 7). -/
def segCheck (w : Window) (g : HostSeg) : Nat :=
  let len := fld 8 4 g.bytes
  if g.acc ≠ .ok then 2
  else if fld 4 4 g.bytes ≠ w.seq.toNat then 1
  else if fld 28 4 g.bytes ≠ (crc32c ((g.bytes.drop 1).take 27 ++ (g.bytes.drop 32).take len)).toNat
       ∨ segRoom w < len then 2
  else 0

/-- Reads a segment: its payload, or none after WINDOW_CHECK (R89, R90). -/
def readSegment (n : Nat) (g : HostSeg) (s : Device) : Option (List Byte) × Device :=
  let w := winOf s n
  match segCheck w g with
  | 0 => (some ((g.bytes.drop 32).take (fld 8 4 g.bytes)), s)
  | c + 1 => (none, raise Ev.windowCheck [(1, n), (2, w.next), (1, c + 1)]
      (modWin n (fun w => { w with bad := true }) s))

/-- Takes one segment found at OWN = 1 into use. A source whose consumer returns the segment later keeps it
(R331, R435); any other reads it and returns it at once (R89). -/
def takeSegment (n : Nat) (s : Device) (g : HostSeg) : Device :=
  let w := winOf s n
  match w.bound with
  | none => s
  | some src =>
    let s := modWin n (fun w => { w with owned := w.owned + 1 }) s
    if src / 256 = 0x0A ∨ src / 256 = 0x0C ∨ src / 256 = 0x0D then
      modWin n (fun w => { w with hold := w.hold ++ [g] }) s
    else
      let (pl, s) := readSegment n g s
      let s := match pl with
        | some b => modWin n (fun w => { w with rx := w.rx ++ [b] }) s
        | none => s
      returnSegment n s

/-- The segments at OWN = 1 that a doorbell naming segment k covers: `segs` is what reading the window from the
device's next segment brings (R91). -/
def coveredSegs (w : Window) (k : Nat) (segs : List HostSeg) : List HostSeg :=
  let size := w.countM1 + 1
  let reach := (k + size - w.next % size) % size + 1
  (segs.take reach).takeWhile (fun g => bit 0 (fld 0 1 g.bytes))

/-- WINDOW_DOORBELL (R52, R86, R87, R89 to R91). In D3hot the reads of OWN wait for the return to D0 (R49). A doorbell to a
window that is enabled and not bound has nothing to take into use and is ignored (DESIGN CHOICE, log 77). -/
def windowDoorbell (n : Nat) (b : BusWrite) (segs : List HostSeg) (s : Device) : Device :=
  match doorbellWord b with
  | none => accError s
  | some v =>
    let w := winOf s n
    if 16 ≤ n || !w.enable then accError s
    else if w.countM1 + 1 ≤ v then raise Ev.doorbellRange [(2, 0x200 + 8 * n), (4, v)] s
    else if w.bound.isNone then s
    else if s.hif.d3hot then { s with hif.heldBells := s.hif.heldBells ++ [(n, b, segs)] }
    else
      let got := coveredSegs w v segs
      if w.d2h then
        modWin n (fun w => { w with owned := max w.owned got.length, starved := w.starved && got.isEmpty }) s
      else (got.drop w.owned).foldl (takeSegment n) s

/-- HIF_WCFGw as a word (Table HIF-12). -/
def wcfgWord (w : Window) : Nat :=
  w.segLog2 + flag 5 w.d2h + flag 6 w.enable + w.vector * 2 ^ 8 + w.countM1 * 2 ^ 16

/-- A write that leaves HIF_WBASEw and HIF_WCFGw at the given values (R106). -/
def windowWrite (n : Nat) (base : DWord) (v : Nat) (s : Device) : Device :=
  let w := winOf s n
  let seg := bits 4 0 v
  let bad := seg < 12 || 20 < seg || bits 27 16 v == 0 || base.toNat % 2 ^ seg != 0
  if 16 ≤ n || w.bound.isSome || (bit 6 v && bad) then cfgErr s
  else modWin n (fun w => { w with
    base := base, segLog2 := seg, d2h := bit 5 v, enable := bit 6 v, vector := bits 13 8 v, countM1 := bits 27 16 v }) s

/-- Replaces one half, or all, of a 64-bit register by an aligned 32-bit or 64-bit write (R51). -/
def merge64 (old : DWord) (off width : Nat) (v : DWord) : DWord :=
  if width = 8 then v
  else if off % 8 = 0 then BitVec.ofNat 64 (old.toNat / 2 ^ 32 * 2 ^ 32 + v.toNat % 2 ^ 32)
  else BitVec.ofNat 64 (old.toNat % 2 ^ 32 + v.toNat % 2 ^ 32 * 2 ^ 32)

/-- WINDOW_CONFIG_WRITE: an aligned 32-bit or 64-bit write at offset `b.off` of window `n`'s registers: 0 and 4
are the halves of HIF_WBASEw, 8 is HIF_WCFGw, 12 is read-only (R51, R106). -/
def windowConfigWrite (n : Nat) (b : BusWrite) (s : Device) : Device :=
  let w := winOf s n
  if !s.btr.spireUp || !(b.width = 4 || b.width = 8) || b.off % b.width != 0 then accError s
  else if b.off = 0 ∨ (b.off = 4 ∧ b.width = 4) then windowWrite n (merge64 w.base b.off b.width b.value) (wcfgWord w) s
  else if b.off = 8 then windowWrite n w.base (b.value.toNat % 2 ^ 32) s
  else s

/-! ## Interrupts -/

/-- MSIX_VECTOR_UNMASK (R95). -/
def msixUnmask (v : Nat) (s : Device) : Device :=
  let q := vecOf s v
  let s := modVec v (fun q => { q with masked := false, pba := false }) s
  if q.masked && q.pba then toHost (.msix v) s else s

/-- INTERRUPT_COALESCE_TIMEOUT (R94): a COUNT above 1 with TIME_US 0 has a limit of 100 µs. -/
def coalesceTimeout (v : Nat) (s : Device) : Device :=
  let q := vecOf s v
  let limit := if q.timeUs = 0 then 100 else q.timeUs
  if 0 < q.gathered && q.firstAt + usT limit ≤ nowS s then fireVector v s else s

/-! ## Link -/

/-- HIF registers take their reset values and every ring and window is disabled; HIF_LOST_CPL keeps its Dome copy
(R99, R100). -/
def hifReset (s : Device) : Device :=
  let s := missEvents (undelivered s) s
  { s with hif := {
      lostCpl := s.hif.lostCpl, linkUp := s.hif.linkUp, gen := s.hif.gen + 1,
      evqMiss := s.hif.evqMiss } }

/-- One side of crossing `k` is reset: the entries in flight are discarded, counted and named (R690). -/
def crossingReset (k count : Nat) (s : Device) : Device :=
  raise Ev.btrXingReset [(1, k), (2, count)] { s with
    btr.xdrop := tmod s.btr.xdrop k 0 (· + BitVec.ofNat 32 count)
    btr.xreset := if k ∈ s.btr.xreset then s.btr.xreset else s.btr.xreset ++ [k] }

/-- PCIE_LINK_DOWN (R99 to R101, R689): `lost` entries were in flight in the crossing. A Function Level Reset, in which the
link stays up, raises PCIE_LINK_DOWN as well: R99 names it beside the others (DESIGN CHOICE, log 77). -/
def pcieLinkDown (why : LinkLoss) (ltssm lost : Nat) (s : Device) : Device :=
  let s := hifReset s
  let s := crossingReset 1 lost s
  let s := raise Ev.pcieLinkDown [(1, ltssm), (2, s.hif.lostCpl.toNat)] s
  { s with hif.linkUp := s.hif.linkUp && why == .flr }

/-- PCIE_D3HOT_ENTRY (R49). -/
def d3hotEntry (s : Device) : Device := { s with hif.d3hot := true }

/-- D3HOT_EXIT (R49): what was held back is sent, in order, and the window doorbells that came are served. -/
def d3hotExit (s : Device) : Device :=
  if s.hif.d3hot then
    let bells := s.hif.heldBells
    let s := { s.hif.heldOut.foldl sendHost s with hif.heldOut := [], hif.heldBells := [], hif.d3hot := false }
    bells.foldl (fun s e => windowDoorbell e.1 e.2.1 e.2.2 s) s
  else s

/-- HIF_STATUS as a word (Table HIF-9). -/
def hifStatus (s : Device) : Nat := flag 0 s.hif.cfgErr + flag 1 s.hif.linkUp + flag 2 s.hif.d3hot

/-- HIF_STATUS_READ (R105, R705): CFG_ERR clears on a read. -/
def hifStatusRead (s : Device) : Device :=
  if s.btr.spireUp then emit (.reg 0x8 (hifStatus s)) { s with hif.cfgErr := false } else emit (.reg 0x8 0) s

/-! ## The rows of the table of operations -/

/-- RING_DOORBELL (R56): The host writes a new producer index to a command-ring doorbell. -/
def execRingDoorbell (n : Nat) (b : BusWrite) (s : State) : Host.Outcome State Fault Refusal :=
  .next { s with dev := ringDoorbell n b s.dev }

/-- EVENT_RING_DOORBELL (R78): The host writes its consumer index to the event-ring doorbell, freeing slots. -/
def execEventRingDoorbell (b : BusWrite) (s : State) : Host.Outcome State Fault Refusal :=
  .next { s with dev := eventRingDoorbell b s.dev }

/-- DESCRIPTOR_FETCH (R68): The device fetches pending descriptors of a ring, up to 8 ahead of execution. -/
def execDescriptorFetch (n : Nat) (got : List SlotRead) (s : State) : Host.Outcome State Fault Refusal :=
  .next { s with dev := descriptorFetch n got s.dev }

/-- RING_RESUME (R72): Resumes a halted ring in CONTINUE or FLUSH mode. -/
def execRingResume (d : Desc) (got : List SlotRead) (s : State) : Host.Outcome State Fault Refusal :=
  .next { s with dev := runCmd (ringResume got) d s.dev }

/-- WINDOW_BIND (R102): Binds a data source to a window and resets the window to segment 0. -/
def execWindowBind (d : Desc) (s : State) : Host.Outcome State Fault Refusal :=
  .next { s with dev := runCmd windowBind d s.dev }

/-- WINDOW_CONFIG_WRITE (R106): A write to HIF_WBASEw or HIF_WCFGw is checked and takes effect or sets CFG_ERR.
-/
def execWindowConfigWrite (n : Nat) (b : BusWrite) (s : State) : Host.Outcome State Fault Refusal :=
  .next { s with dev := windowConfigWrite n b s.dev }

/-- HIF_STATUS_READ (R105): A read of HIF_STATUS returns it and clears CFG_ERR. -/
def execHifStatusRead (s : State) : Host.Outcome State Fault Refusal :=
  .next { s with dev := hifStatusRead s.dev }

/-- MSIX_VECTOR_UNMASK (R95): Unmasking an MSI-X vector sends the interrupt recorded as pending. -/
def execMsixVectorUnmask (v : Nat) (s : State) : Host.Outcome State Fault Refusal :=
  .next { s with dev := msixUnmask v s.dev }

/-- INTERRUPT_COALESCE_TIMEOUT (R94): TIME_US after the first gathered signal, a vector fires. -/
def execInterruptCoalesceTimeout (v : Nat) (s : State) : Host.Outcome State Fault Refusal :=
  .next { s with dev := coalesceTimeout v s.dev }

/-- EVENT_DELIVERY (R82): An admitted event of sufficient severity is written to the event ring, waiting while
the ring is full. -/
def execEventDelivery (s : State) : Host.Outcome State Fault Refusal :=
  .next { s with dev := eventDelivery s.dev }

/-- PCIE_LINK_DOWN (R99): A PCIe link-down, hot reset or FLR resets HIF alone and disables every ring and
window. -/
def execPcieLinkDown (why : LinkLoss) (ltssm lost : Nat) (s : State) : Host.Outcome State Fault Refusal :=
  .next { s with dev := pcieLinkDown why ltssm lost s.dev }

/-- PCIE_D3HOT_ENTRY (R49): Entry into D3hot stops host-memory access and interrupts, while control continues.
-/
def execPcieD3hotEntry (s : State) : Host.Outcome State Fault Refusal :=
  .next { s with dev := d3hotEntry s.dev }

end Sys2Proof.Machine
end

