-- ==== Sys2Proof/Machine/Checks.lean ====
section
/-!
DEFINITION. Machine/Checks.lean: the value ranges of every configuration record and the fields the base fixes
(R114, R116, R806), as each owning chapter states them.
-/
namespace Sys2Proof.Machine

/-- A configuration as a list of objects; the records checked are their `cur` bytes. -/
abbrev View := List CfgObj

/-- A record of a view, empty when absent. -/
def vrec (v : View) (blk kind obj : Nat) : List Byte :=
  match v.find? (fun o => o.blk == blk && o.kind == kind && o.obj == obj) with
  | some o => o.cur
  | none => []

/-- The object exists in the view. -/
def vhas (v : View) (blk kind obj : Nat) : Bool :=
  v.any (fun o => o.blk == blk && o.kind == kind && o.obj == obj)

/-- The objects of one record kind: number and bytes. -/
def vall (v : View) (blk kind : Nat) : List (Nat × List Byte) :=
  (v.filter (fun o => o.blk == blk && o.kind == kind)).map (fun o => (o.obj, o.cur))

/-- Record size in bytes and number of objects of each record kind. -/
def recordShape (blk kind : Nat) : Option (Nat × Nat) :=
  match blk, kind with
  | 0x01, 1 => some (32, 1)
  | 0x02, 0 => some (16, 1)
  | 0x02, 1 => some (32, 4096)
  | 0x03, 1 => some (128, 1024)
  | 0x04, 1 => some (32, 256)
  | 0x06, 1 => some (80, 64)
  | 0x07, 1 => some (48, 16)
  | 0x08, 1 => some (32, 32)
  | 0x08, 2 => some (16, 256)
  | 0x09, 1 => some (16, 32)
  | 0x0A, 1 => some (16, 96)
  | 0x0A, 2 => some (16, 16)
  | 0x0A, 3 => some (16, 8)
  | 0x0A, 4 => some (8, 4)
  | 0x0B, 0 => some (32, 1)
  | 0x0B, 1 => some (32, 2)
  | 0x0B, 2 => some (32, 64)
  | 0x0C, 0 => some (16, 1)
  | 0x0C, 1 => some (64, 8)
  | 0x0C, 2 => some (2064, 8)
  | 0x0C, 3 => some (64, 128)
  | 0x0C, 4 => some (2880, 128)
  | 0x0C, 5 => some (1024, 128)
  | 0x0C, 6 => some (8, 256)
  | 0x0C, 7 => some (32, 64)
  | 0x0D, 1 => some (48, 8)
  | 0x0D, 2 => some (32, 128)
  | 0x0D, 3 => some (16, 256)
  | 0x10, 1 => some (16, 1)
  | 0x11, 0 => some (16, 1)
  | 0x11, 1 => some (16, 4096)
  | 0x12, 1 => some (64, 1)
  | 0x12, 2 => some (8, 256)
  | _, _ => none

/-- The blocks a patch may target (R114). -/
def patchable (blk kind : Nat) : Bool :=
  [0x02, 0x03, 0x04, 0x06, 0x07, 0x08, 0x09, 0x0A, 0x0B, 0x0C, 0x0D, 0x11, 0x12].contains blk || (blk == 0x01 && kind == 1)

/-- Bytes and bit masks that the base fixes, as (first byte, last byte, mask) (R114 and the owning chapters). -/
def fixedFields (blk kind : Nat) : List (Nat × Nat × Nat) :=
  match blk, kind with
  | 0x02, 0 => [(0, 15, 0xFF)]
  | 0x02, 1 => [(0, 0, 0x02), (1, 1, 0xFF), (2, 6, 0xFF), (8, 9, 0xFF), (16, 16, 0xFF)]
  | 0x03, 1 => [(1, 1, 0x07), (2, 2, 0xFF), (4, 13, 0xFF)]
  | 0x04, 1 => [(2, 3, 0xFF), (24, 27, 0xFF)]
  | 0x06, 1 => [(1, 7, 0xFF), (44, 45, 0xFF)]
  | 0x07, 1 => [(1, 3, 0xFF), (16, 17, 0xFF)]
  | 0x08, 1 => [(13, 15, 0xFF)]
  | 0x08, 2 => [(0, 0, 0xFF), (2, 3, 0xFF)]
  | 0x09, 1 => [(0, 0, 0x02), (4, 7, 0xFF)]
  | 0x0A, 1 => [(0, 0, 0xFF), (4, 5, 0xFF)]
  | 0x0A, 2 => [(2, 3, 0xFF)]
  | 0x0A, 3 => [(0, 0, 0x02), (2, 3, 0xFF)]
  | 0x0B, 0 => [(0, 0, 0x01)]
  | 0x0B, 1 => [(0, 3, 0xFF)]
  | 0x0C, 0 => [(0, 7, 0xFF)]
  | 0x0C, 1 => [(0, 0, 0x17), (2, 7, 0xFF)]
  | 0x0C, 3 => [(0, 0, 0x32), (1, 19, 0xFF), (26, 31, 0xFF)]
  | 0x0C, 4 => [(1440, 2879, 0xFF)]
  | 0x0C, 5 => [(0, 1023, 0xFF)]
  | 0x0C, 6 => [(0, 3, 0xFF)]
  | 0x0C, 7 => [(0, 7, 0xFF), (9, 9, 0xFF)]
  | 0x0D, 1 => [(0, 0, 0x06), (2, 11, 0xFF), (16, 31, 0xFF)]
  | 0x0D, 2 => [(0, 0, 0x03), (4, 8, 0xFF)]
  | 0x0D, 3 => [(0, 0, 0x06), (14, 15, 0xFF)]
  | 0x10, 1 => [(0, 15, 0xFF)]
  | 0x11, 0 => [(0, 3, 0xFF)]
  | 0x11, 1 => [(1, 4, 0xFF)]
  | _, _ => []

/-- A record keeps every field that the base fixes (R114, R805). -/
def fixedKept (blk kind : Nat) (base new : List Byte) : Bool :=
  (fixedFields blk kind).all fun f =>
    (List.range (f.2.1 + 1 - f.1)).all fun j =>
      (base.getD (f.1 + j) 0).toNat &&& f.2.2 == (new.getD (f.1 + j) 0).toNat &&& f.2.2

/-- Bits of each record that no field takes, as (first byte, last byte, mask): fields marked reserved and, where the owning
chapter says that fields not listed are reserved, those not listed (R3, R115, R153, R167, R196, R301, R333, R381, R389,
R466, R505, R537, R642, R678). -/
def reservedFields (blk kind : Nat) : List (Nat × Nat × Nat) :=
  match blk, kind with
  | 0x01, 1 => [(12, 31, 0xFF)]
  | 0x02, 0 => [(4, 15, 0xFF)]
  | 0x02, 1 => [(0, 0, 0xFC), (7, 7, 0xFF), (17, 31, 0xFF)]
  | 0x03, 1 => [(0, 0, 0xF8), (1, 1, 0xF0), (2, 2, 0xF8), (3, 3, 0xFC), (4, 5, 0xF8), (11, 11, 0xF0), (14, 15, 0xFF), (81, 83, 0xFF)]
  | 0x04, 1 => [(0, 0, 0xFC), (1, 1, 0xFF), (3, 3, 0xF0), (28, 31, 0xFF)]
  | 0x06, 1 => [(0, 0, 0xC0), (2, 2, 0xF8), (7, 7, 0xF0), (52, 52, 0xF8), (54, 55, 0xFF)]
  | 0x07, 1 => [(0, 0, 0xF8), (21, 23, 0xFF), (44, 47, 0xFF)]
  | 0x08, 1 => [(0, 0, 0xE0), (3, 3, 0xF0), (15, 15, 0xF0), (16, 31, 0xFF)]
  | 0x08, 2 => [(0, 0, 0xF8), (1, 1, 0xFE), (3, 3, 0x80), (4, 15, 0xFF)]
  | 0x09, 1 => [(0, 0, 0xFC), (1, 3, 0xFF)]
  | 0x0A, 1 => [(0, 1, 0xE0), (5, 5, 0x80), (6, 7, 0xFF), (12, 15, 0xFF)]
  | 0x0A, 2 => [(0, 0, 0xF8), (1, 1, 0xFF), (3, 3, 0x80), (8, 15, 0xFF)]
  | 0x0A, 3 => [(0, 0, 0xF0), (3, 3, 0x80), (12, 15, 0xFF)]
  | 0x0A, 4 => [(2, 2, 0xE0), (5, 7, 0xFF)]
  | 0x0B, 0 => [(0, 0, 0xF0), (2, 3, 0xFF)]
  | 0x0B, 1 => [(9, 11, 0xFF), (20, 31, 0xFF)]
  | 0x0B, 2 => [(0, 0, 0xFC), (24, 31, 0xFF)]
  | 0x0C, 0 => [(9, 9, 0xF0), (10, 10, 0xF8), (12, 15, 0xFF)]
  | 0x0C, 1 => [(0, 0, 0xC0), (1, 1, 0xFF), (8, 31, 0xFF)]
  | 0x0C, 2 => (10, 15, 0xFF) :: (List.range 256).map (fun i => (17 + 8 * i, 19 + 8 * i, 0xFF))
  | 0x0C, 3 => [(0, 0, 0xC0), (25, 25, 0xFF), (40, 63, 0xFF)]
  | 0x0C, 6 => [(3, 3, 0x80), (4, 4, 0xFE), (5, 7, 0xFF)]
  | 0x0C, 7 => [(8, 8, 0xF8), (11, 11, 0xFF), (14, 31, 0xFF)]
  | 0x0D, 1 => [(1, 1, 0xFF), (15, 15, 0xFF), (21, 23, 0xFF), (32, 47, 0xFF)]
  | 0x0D, 2 => [(0, 0, 0xF0), (1, 3, 0xFF), (7, 8, 0x80), (9, 11, 0xFF), (26, 27, 0xFF)]
  | 0x0D, 3 => [(0, 0, 0xC0), (1, 3, 0xFF), (7, 7, 0xE0), (11, 11, 0xE0), (15, 15, 0x80)]
  | 0x10, 1 => [(0, 0, 0xF8), (1, 3, 0xFF), (6, 15, 0xFF)]
  | 0x11, 0 => [(4, 15, 0xFF)]
  | 0x11, 1 => [(0, 0, 0xFC), (5, 7, 0xFF), (12, 15, 0xFF)]
  | 0x12, 1 => [(28, 31, 0xFF), (46, 63, 0xFF)]
  | _, _ => []

/-- Every reserved bit of a record is 0 (R3). -/
def reservedZero (blk kind : Nat) (b : List Byte) : Bool :=
  (reservedFields blk kind).all fun f =>
    ((b.drop f.1).take (f.2.1 + 1 - f.1)).all (fun x => x.toNat &&& f.2.2 == 0)

def within (lo hi v : Nat) : Bool := lo ≤ v && v ≤ hi
def withinI (lo hi v : Int) : Bool := lo ≤ v && v ≤ hi

/-- A power of two from 1 to 64. -/
def powerTo64 (n : Nat) : Bool := [1, 2, 4, 8, 16, 32, 64].contains n

/-- The block-floating order of two words: exact comparison of M × 2^(E − 23) (R203). -/
def bfLe (a b : Nat) : Bool :=
  let m := signed 24 (a / 256); let e := signed 8 a
  let n := signed 24 (b / 256); let g := signed 8 b
  m * (2 ^ (e + 128).toNat : Nat) ≤ n * (2 ^ (g + 128).toNat : Nat)

/-- Comparison of two loop words in the loop's format. -/
def wordLe (bf : Bool) (a b : Nat) : Bool := if bf then bfLe a b else signed 32 a ≤ signed 32 b

/-- OPKIND of operand n: kind and AGE (Table DPT-2). -/
def opKind (task : List Byte) (n : Nat) : Nat := (fld 4 3 task / 8 ^ n) % 4
def opAge (task : List Byte) (n : Nat) : Bool := bit (3 * n + 2) (fld 4 3 task)

/-- A station word reference [15:9] station, [8:0] word lies within the station's words (R467). -/
def stationWordOk (v : View) (out : Bool) (ref : Nat) : Bool :=
  let st := vrec v 0x0C 3 (ref / 512)
  ref % 512 < min 360 (fld (if out then 10 else 8) 2 st)

/-- The operand kinds of a loop's task agree with the loop (R199). -/
def loopTaskOk (loop task : List Byte) : Bool :=
  let sp := fld 2 1 loop % 8
  opKind task 0 == 1 &&
  (match sp with
    | 0 => opKind task 1 == 0
    | 1 | 2 => opKind task 1 == 3 && opAge task 1
    | 3 => opKind task 1 == 2
    | 4 => opKind task 1 == 3 && !opAge task 1
    | _ => false) &&
  (opKind task 2 == 0 || opKind task 2 == 3 || (opKind task 2 == 2 && !opAge task 2)) &&
  (opKind task 3 == 0 || (opKind task 3 == 3 && !opAge task 3)) &&
  [4, 5, 6, 7].all (fun n => opKind task n == 0)

/-- The operand kinds of an axis's task agree with Table MOT-1, and its period with SERVO_NS (R339, R340). -/
def axisTaskOk (axis task : List Byte) : Bool :=
  opKind task 0 == 1 && opKind task 1 == 3 && !opAge task 1 &&
  (if fld 2 1 axis % 4 == 0 then opKind task 2 == 0 else opKind task 2 == 3 && opAge task 2) &&
  [3, 4, 5, 6, 7].all (fun n => opKind task n == 0) &&
  fld 12 4 task == 31250 * 2 ^ (fld 3 1 axis)

/-- Rate of a port in kb/s from its MODE (Table ETH-5). -/
def portRate (mode : Nat) : Nat :=
  match mode % 8 with
  | 1 | 2 => 1000000
  | 3 => 100000
  | 4 => 2500000
  | _ => 0

/-- Converters with START PERIODIC: conversions per scan (R268, R270). -/
def scanConversions (conv : List Byte) : Nat :=
  let n := (List.range 8).countP (fun k => bit k (fld 1 1 conv))
  if bit 3 (fld 0 1 conv) then n * (fld 2 1 conv + 1) else n

/-- A destination and its index agree with Table LPE-7: an index of a unit that exists, a pin in PWM mode, an axis or an
inner loop that the base creates, 0 for none. -/
def destinationOk (v : View) (kind index : Nat) : Bool :=
  match kind with
  | 0 => index == 0
  | 1 => index ≤ 31
  | 2 => fld 0 1 (vrec v 0x0A 1 index) % 8 == 4
  | 3 => vhas v 0x06 1 index
  | 4 => stationWordOk v true index
  | 5 => vhas v 0x03 1 index
  | _ => false

/-- The destination of an axis: none, a CCR drive, a DAC channel or a station output word (Table MOT-6). -/
def axisOutOk (v : View) (kind index : Nat) : Bool :=
  match kind with
  | 0 => index == 0
  | 1 => index ≤ 15
  | 2 => index ≤ 31
  | 3 => stationWordOk v true index
  | _ => false

/-- SP_INDEX agrees with SP_SRC (Table LPE-2). -/
def spIndexOk (src index : Nat) : Bool :=
  match src with
  | 1 => index ≤ 127
  | 2 => index ≤ 15
  | 3 => index ≤ 1023
  | _ => index == 0

/-- A code of an analog output (R305). -/
def dacCode (v : Int) : Bool := withinI (-131072) 131071 v

/-- The values of one record lie in the ranges its chapter states. -/
def fieldsOk (v : View) (blk kind obj : Nat) (b : List Byte) : Bool :=
  match blk, kind with
  | 0x01, 1 => within 0 2 (fld 0 4 b) && within 0 1 (fld 4 4 b) && within 250 10000 (fld 8 4 b)
  | 0x02, 0 => [1, 2, 5, 10, 20, 50, 100, 200, 500, 1000].contains (fld 0 4 b)
  | 0x02, 1 =>
    if bit 1 (fld 0 1 b) then fld 4 3 b == 0 && fld 1 1 b == 0x04 && fld 16 1 b < 8 && fld 8 2 b == 0
    else (List.range 8).countP (fun n => opKind b n == 1) == 1 && within 1 64 (fld 10 2 b) &&
      within 500 1000000000 (fld 12 4 b) &&
      (match fld 1 1 b with
        | 0x03 =>
          let l := vrec v 0x03 1 (fld 2 2 b)
          l != [] && loopTaskOk l b && fld 8 2 b == (if bit 2 (fld 1 1 l) then 72 else 64)
        | 0x06 => let a := vrec v 0x06 1 (fld 2 2 b); fld 8 2 b == 0 && (a == [] || axisTaskOk a b)
        | _ => false)
  | 0x03, 1 =>
    let bf := bit 0 (fld 1 1 b)
    let l := fun j => fld (84 + 4 * j) 4 b
    fld 0 1 b % 8 ≤ 4 && fld 2 1 b % 8 ≤ 4 && fld 3 1 b % 4 ≤ 2 && spIndexOk (fld 2 1 b % 8) (fld 12 2 b) &&
    destinationOk v (fld 4 1 b % 8) (fld 6 2 b) && destinationOk v (fld 5 1 b % 8) (fld 8 2 b) &&
    (bit 2 (fld 1 1 b) || fld 5 1 b % 8 == 0) &&
    wordLe bf (l 0) (l 1) && wordLe bf (l 3) (l 4) && wordLe bf (l 5) (l 6) &&
    [2, 7, 8].all (fun j => if bf then 0 ≤ signed 24 (l j / 256) else 0 ≤ signed 32 (l j)) &&
    (List.range 13).all (fun i =>
      let s := fld (68 + i) 1 b
      if bf || [1, 3, 10, 12].contains i then s == 0 else s ≤ 31)
  | 0x04, 1 =>
    let cont := bit 1 (fld 0 1 b)
    (cont || (within 10 10000000 (fld 4 4 b) && fld 8 4 b < fld 4 4 b && fld 12 4 b ≤ fld 4 4 b)) &&
    within 1 10000000 (fld 12 4 b) && fld 12 4 b + 100 ≤ fld 16 4 b && fld 16 4 b ≤ 10000000 &&
    (!cont || fld 20 4 b ≤ 1000000)
  | 0x06, 1 =>
    let f := fun k => fld (8 + 4 * k) 4 b
    (List.range 6).all (fun k => f k != 0) && f 2 ≤ f 4 && f 3 ≤ f 5 &&
    sfld 32 4 b ≤ sfld 36 4 b && fld 3 1 b ≤ 7 && fld 2 1 b % 4 ≤ 2 &&
    bits 4 3 (fld 0 1 b) ≤ 2 && within 100 20000 (fld 46 2 b) && fld 52 1 b % 4 ≤ 2 &&
    axisOutOk v (fld 1 1 b) (fld 4 2 b) &&
    (let t := vrec v 0x02 1 (fld 6 2 b); t == [] || (fld 1 1 t == 0x06 && fld 2 2 t == obj && axisTaskOk b t))
  | 0x07, 1 =>
    bits 2 1 (fld 0 1 b) ≤ 2 && fld 10 2 b ≤ 10000 && fld 18 2 b ≤ 1023 && within 1 255 (fld 20 1 b) &&
    fld 24 4 b != 0 && fld 1 1 b ≤ 8 && within 20 100 (fld 2 2 b)
  | 0x08, 1 =>
    let f := fld 0 1 b
    bits 2 1 f ≤ 2 && fld 3 1 b % 16 ≤ 8 && within 16 28 (fld 13 1 b) &&
    (bits 2 1 f != 1 || (within 1500 1000000000 (fld 4 4 b) && fld 8 4 b < fld 4 4 b &&
      scanConversions b * 500 + 1000 ≤ fld 4 4 b)) &&
    (fld 14 1 b ≤ 95 || fld 14 1 b == 0xFF) && (bits 2 1 f != 2 || fld 12 1 b ≤ 63)
  | 0x08, 2 => (4 ≤ obj % 8 || fld 0 1 b % 8 ≤ 4)
  | 0x09, 1 => dacCode (sfld 4 4 b) && dacCode (sfld 8 4 b) && dacCode (sfld 12 4 b) && sfld 8 4 b ≤ sfld 12 4 b
  | 0x0A, 1 =>
    let m := fld 0 1 b % 8
    m ≤ 5 && fld 2 2 b ≤ 10000 && (m != 4 || (within 1000 100000000 (fld 8 4 b) && fld 8 4 b % 5 == 0))
  | 0x0A, 2 => within 1000 1000000000 (fld 4 4 b)
  | 0x0A, 3 =>
    within 1000 1000000000 (fld 4 4 b) &&
    (!bit 1 (fld 0 1 b) || (within 8 32 (fld 1 1 b) && within 100 10000 (fld 8 4 b)))
  | 0x0A, 4 => within 10 65535 (fld 0 2 b) && fld 3 1 b ≤ 15 && within 2 255 (fld 4 1 b) && bits 3 2 (fld 2 1 b) ≤ 2
  | 0x0B, 0 =>
    let sel := fld 1 1 b
    within 1000 1000000000 (fld 4 4 b) && within 10 100000 (fld 8 4 b) && within 100 60000 (fld 12 4 b) &&
    within 1000 200000 (fld 16 4 b) && within 10 60000 (fld 20 4 b) && withinI (-200000) 200000 (sfld 24 4 b) &&
    within 1 500000 (fld 28 4 b) && sel ≤ 2 &&
    (sel == 2 || (let d := vrec v 0x0B 1 sel; fld 0 1 d != 0 && fld 1 1 d == 0))
  | 0x0B, 1 =>
    let o := vrec v 0x0B 1 (1 - obj)
    fld 0 1 b ≤ 4 && fld 1 1 b ≤ 1 && !(fld 0 1 b == 4 && fld 1 1 b == 1) && fld 2 1 b ≤ 127 &&
    fld 4 1 b ≤ 7 && withinI (-7) 4 (sfld 5 1 b) &&
    (fld 0 1 b == 0 || o == [] || !(fld 2 1 o == fld 2 1 b && fld 0 1 o == fld 0 1 b && fld 3 1 o &&& fld 3 1 b != 0))
  | 0x0B, 2 =>
    fld 4 4 b < 1000000000 && fld 1 1 b ≤ 1 && fld 2 2 b ≤ 255 &&
    (!bit 1 (fld 0 1 b) || within 1000 4000000000 (fld 16 4 b))
  | 0x0C, 0 => fld 8 2 b < 4096 && fld 10 1 b ≤ 7 && fld 11 1 b ≤ 7
  | 0x0C, 1 =>
    fld 0 1 b % 8 ≤ 4 && !(bit 4 (fld 0 1 b) && obj % 2 == 1) &&
    ((List.range 8).map (fun k => fld (32 + 4 * k) 4 b)).sum * 4 ≤ 3 * portRate (fld 0 1 b)
  | 0x0C, 2 =>
    let n := fld 8 2 b
    within 10000 1000000000 (fld 0 4 b) && fld 4 4 b < fld 0 4 b && n ≤ 256 &&
    (n == 0 || (((List.range n).map (fun k => fld (16 + 8 * k + 4) 4 b)).sum == fld 0 4 b &&
      (List.range n).all (fun k => 100 ≤ fld (16 + 8 * k + 4) 4 b)))
  | 0x0C, 3 =>
    bits 3 2 (fld 0 1 b) ≤ 2 && bits 5 4 (fld 0 1 b) ≤ 2 && fld 1 1 b ≤ 7 && !(bit 1 (fld 0 1 b) && fld 1 1 b % 2 == 1) &&
    fld 8 2 b ≤ 360 && fld 10 2 b ≤ 360 && within 10000 100000000 (fld 12 4 b) && fld 16 4 b < fld 12 4 b &&
    within 1000 (fld 12 4 b) (fld 20 4 b) && within 1 15 (fld 24 1 b) && fld 26 2 b ≤ 1024 &&
    within 100 10000000 (fld 28 4 b) && within 100 1000000 (fld 32 4 b)
  | 0x0C, 6 => !bit 0 (fld 4 1 b) || stationWordOk v false (fld 0 2 b)
  | 0x0C, 7 =>
    !bit 0 (fld 8 1 b) || (within 1 32 (fld 10 1 b) && within 1 1000 (fld 12 2 b) &&
      (List.range 8).all (fun p => !bit p (fld 9 1 b) || !bit 4 (fld 0 1 (vrec v 0x0C 1 (p / 2 * 2)))))
  | 0x0D, 1 =>
    let f := fld 0 1 b
    let tq := fld 2 2 b * (1 + fld 4 2 b + fld 6 1 b)
    let dq := fld 8 1 b * (1 + fld 9 1 b + fld 10 1 b)
    within 1 256 (fld 2 2 b) && within 2 256 (fld 4 2 b) && within 1 128 (fld 6 1 b) && within 1 (fld 6 1 b) (fld 7 1 b) &&
    80 ≤ tq && fld 12 1 b ≤ 127 && fld 14 1 b ≤ 15 &&
    within 1 32 (fld 8 1 b) && within 1 32 (fld 9 1 b) && within 1 16 (fld 10 1 b) &&
    within 1 (fld 10 1 b) (fld 11 1 b) && 10 ≤ dq && (80 ≤ dq || bit 6 f) &&
    (!bit 2 f || (fld 28 4 b < fld 24 4 b && powerTo64 (fld 20 1 b)))
  | 0x0D, 2 =>
    let m := fld 0 1 b % 4
    m ≤ 2 && (m != 1 || within 100000 4000000000 (fld 20 4 b)) &&
    (m != 2 || (powerTo64 (fld 25 1 b) && fld 24 1 b < fld 25 1 b &&
      fld 25 1 b ≤ fld 20 1 (vrec v 0x0D 1 (obj / 16))))
  | 0x0D, 3 => fld 12 1 b ≤ 63 && (!bit 2 (fld 0 1 b) || [1, 2, 4].contains (fld 13 1 b))
  | 0x10, 1 => within 10 1000 (fld 4 2 b)
  | 0x11, 0 => within 16 24576 (fld 0 4 b) && fld 0 4 b % 16 == 0
  | 0x11, 1 =>
    let k := fld 1 1 b
    let index := fld 2 2 b
    let loop := vrec v 0x03 1 index
    let floats := bit 0 (fld 1 1 loop) && ((k == 3 && fld 4 1 loop % 8 == 5) || (k == 4 && fld 4 1 b ≤ 10))
    within 1 9 k && index < [256, 8192, 1024, 1024, 64, 32, 96, 96, 65536].getD (k - 1) 0 && (k != 4 || within 1 12 (fld 4 1 b)) &&
    (!bit 1 (fld 0 1 b) || (within 1 1000000 (fld 8 4 b) && k != 8 && !floats))
  | 0x12, 1 =>
    (List.range 7).all (fun k => within 1 1000000 (fld (4 * k) 4 b) && within 1 65535 (fld (32 + 2 * k) 2 b))
  | 0x12, 2 =>
    fld 0 2 b == 0 || ((vall v 0x12 2).all (fun e => e.1 == obj || fld 0 2 e.2 != fld 0 2 b) &&
      within 1 65535 (fld 2 2 b) && within 1 1000000 (fld 4 4 b))
  | _, _ => true

/-- A record keeps its reserved bits at 0 and its values in range; what fails is reported with reason 0x06 (R3, R116,
R806; DEDUCED for reserved bits, log 78). -/
def valuesOk (v : View) (blk kind obj : Nat) (b : List Byte) : Bool :=
  reservedZero blk kind b && fieldsOk v blk kind obj b

/-- The pins of function units (Table DIO-1) whose MODE must be FUNCTION (R312). -/
def functionPins (v : View) : List Nat :=
  ((vall v 0x0A 2).filter (fun e => bit 0 (fld 0 1 e.2))).map (·.1) ++
  ((vall v 0x0A 3).filter (fun e => bit 0 (fld 0 1 e.2))).flatMap (fun e =>
    if bit 1 (fld 0 1 e.2) then [16 + 3 * e.1, 17 + 3 * e.1] else [16 + 3 * e.1, 17 + 3 * e.1, 18 + 3 * e.1]) ++
  ((vall v 0x0A 4).filter (fun e => bit 0 (fld 2 1 e.2))).flatMap (fun e => [40 + 3 * e.1, 41 + 3 * e.1, 42 + 3 * e.1])

/-- The field outputs that loops and axes write: 1000 + DAC channel, 2000 + pin, 65536 + station word (R395). -/
def fieldWriters (v : View) : List Nat :=
  let key := fun (kind index : Nat) =>
    if kind = 1 then [1000 + index] else if kind = 2 then [2000 + index] else if kind = 4 then [65536 + index] else []
  (vall v 0x03 1).flatMap (fun e =>
    key (fld 4 1 e.2 % 8) (fld 6 2 e.2) ++ (if bit 2 (fld 1 1 e.2) then key (fld 5 1 e.2 % 8) (fld 8 2 e.2) else [])) ++
  (vall v 0x06 1).flatMap (fun e =>
    let k := fld 1 1 e.2
    if k = 2 then key 1 (fld 4 2 e.2) else if k = 3 then key 4 (fld 4 2 e.2) else [])

/-- No entry of a list occurs twice. -/
def noRepeat : List Nat → Bool
  | [] => true
  | x :: xs => !xs.contains x && noRepeat xs

/-- A port is the even port of a pair with PRP_PAIR set, or one of its two ports (R445). -/
def viewPrp (v : View) (port : Nat) : Bool := bit 4 (fld 0 1 (vrec v 0x0C 1 (port / 2 * 2)))

/-- Wire bytes of one Nelzer frame with `words` payload words: preamble, SFD and inter-frame gap, and the frame of R448
with its tag and its PRP trailer where it has them, at least 64 bytes (R448, R457; log 8). -/
def nzWireBytes (v : View) (port words : Nat) : Nat :=
  20 + max 64 (42 + 4 * words + (if fld 8 2 (vrec v 0x0C 0 0) % 4096 = 0 then 0 else 4) + (if viewPrp v port then 6 else 0))

/-- The Nelzer load of a port stays within 50 % of its rate, requests and responses each; a frame on a PRP pair loads both
ports (R445, R457). Loads are summed as exact fractions of bits per ns. -/
def nelzerLoadOk (v : View) (port : Nat) : Bool :=
  let rate := portRate (fld 0 1 (vrec v 0x0C 1 port))
  let sts := (vall v 0x0C 3).filter (fun e => bit 0 (fld 0 1 e.2) &&
    (fld 1 1 e.2 % 8 == port || (fld 1 1 e.2 % 8 / 2 == port / 2 && (bit 1 (fld 0 1 e.2) || viewPrp v port))))
  let load := fun off => sts.foldl (fun (x : Nat × Nat) e =>
    let c := max 1 (fld 12 4 e.2)
    (x.1 * c + nzWireBytes v port (fld off 2 e.2) * 8 * x.2, x.2 * c)) (0, 1)
  let fits := fun (x : Nat × Nat) => decide (x.1 * 2 * 1000000 ≤ rate * x.2)
  fits (load 8) && fits (load 10)

/-- What no single record shows: function pins, the DRAM of the ADC buffers, drives, field writers and Nelzer load
(R285, R312, R365, R395, R457). The answer names the offending block. -/
def imageFault (v : View) : Option Nat :=
  if !(functionPins v).all (fun p => fld 0 1 (vrec v 0x0A 1 p) % 8 == 5) then some 0x0A
  else if 2 ^ 31 < ((vall v 0x08 1).map (fun e => if bit 4 (fld 0 1 e.2) then 2 ^ fld 13 1 e.2 else 0)).sum then some 0x08
  else if !noRepeat (((vall v 0x06 1).filter (fun e => fld 1 1 e.2 == 1)).map (fun e => fld 4 2 e.2)) then some 0x06
  else if !noRepeat (fieldWriters v) then some 0x03
  else if !(List.range 8).all (nelzerLoadOk v) then some 0x0C
  else none

end Sys2Proof.Machine
end

