-- ==== Sys2Proof/Machine/Sched.lean ====
section
/-!
DEFINITION. Machine/Sched.lean: power envelopes and the schedulability test (R43, R44, R181 to R184, R386).
-/
namespace Sys2Proof.Machine

/-- Active lanes of an envelope: 0 FULL, 1 BALANCED, 2 THRIFT (Table ARCH-5). -/
def envLanes (e : Nat) : Nat := if e = 0 then 16 else if e = 1 then 12 else 8

/-- Active cores of an envelope (Table ARCH-5, R386). -/
def envCores (e : Nat) : Nat := if e = 0 then 8 else if e = 1 then 6 else 4

/-- Period of the core and lane clocks in quarter nanoseconds: 1.0 GHz, or 0.8 GHz in THRIFT and under FORCE_LOW
(Table ARCH-5, R803). -/
def clockQ (e : Nat) (forceLow : Bool) : Nat := if e = 2 || forceLow then 5 else 4

/-- ENVELOPE, RESTART_POLICY and EPOCH_US of a device modes record; an absent record holds the defaults of R115. -/
def modeEnvelope (b : List Byte) : Nat := fld 0 4 b
def modePolicy (b : List Byte) : Nat := fld 4 4 b
def modeEpochUs (b : List Byte) : Nat := if b = [] then 1000 else fld 8 4 b

/-- Enabled LPE tasks of a configuration: slot, CYCLES and PERIOD_NS, slots rising. -/
def lpeTasks (v : View) : List (Nat × Nat × Nat) :=
  ((vall v 0x02 1).filter (fun e => bit 0 (fld 0 1 e.2) && fld 1 1 e.2 == 0x03)).map
    (fun e => (e.1, fld 8 2 e.2, fld 12 4 e.2))

/-- The sum of CYCLES / PERIOD_NS over tasks, as numerator and denominator. -/
def cycleSum (ts : List (Nat × Nat × Nat)) : Nat × Nat :=
  ts.foldl (fun a t =>
    let n := a.1 * t.2.2 + t.2.1 * a.2
    let d := a.2 * t.2.2
    let g := Nat.gcd n d
    if g = 0 then (n, d) else (n / g, d / g)) (0, 1)

/-- The load exceeds the guaranteed schedulable load 0.8 × m × f / 64 (R181); `q` is the lane clock's period in
quarter nanoseconds. -/
def overload (m q : Nat) (sum : Nat × Nat) : Bool := 16 * m * sum.2 < 5 * q * sum.1

/-- W_i + c_i > P_i for a task, with t_QREISSUE 0 (R181, R182); times in quarter nanoseconds, multiplied by m. -/
def waitTooLong (m q total n : Nat) (t : Nat × Nat × Nat) : Bool :=
  4 * m * t.2.2 < (total - t.2.1) * q + 8 * n * q + 24 * m + m * (t.2.1 * q)

/-- The first slot at which the running sum of loads exceeds the guaranteed load (R184). -/
def firstOver (m q : Nat) : List (Nat × Nat × Nat) → List (Nat × Nat × Nat) → Option Nat
  | _, [] => none
  | seen, t :: rest => if overload m q (cycleSum (seen ++ [t])) then some t.1 else firstOver m q (seen ++ [t]) rest

/-- The first failing slot of the schedulability test, or none when the set is schedulable (R182, R184). -/
def firstFailingSlot (v : View) (m q : Nat) : Option Nat :=
  let ts := lpeTasks v
  let total := (ts.map (·.2.1)).sum
  match ts.find? (waitTooLong m q total ts.length) with
  | some t => some t.1
  | none => firstOver m q [] ts

/-- L in units of 10⁵ evaluations/s, saturating at 65,535 (R185). -/
def loadUnits (v : View) : Nat :=
  let s := cycleSum (lpeTasks v)
  sat 16 (s.1 * 10000 / (64 * s.2))

/-- Cores a configuration needs: one more than the highest CORE of an enabled program-class task (R386). -/
def coresNeeded (v : View) : Nat :=
  ((vall v 0x02 1).filter (fun e => bit 0 (fld 0 1 e.2) && bit 1 (fld 0 1 e.2))).foldl
    (fun a e => max a (fld 16 1 e.2 + 1)) 0

/-- The arming that a staging becomes, under a version. -/
def stagedArm (s : Device) (v : Nat) (g : Staging) : Armed :=
  let o := tget s.cfg.overlays g.slot {}
  { slot := g.slot, version := v, commit := g.commit, id := o.id, patches := o.patches }

/-- The overlays that come into force later, in the order of their commit times: those armed, then those still staging
(log 11). -/
def waitingArms (s : Device) : List Armed := s.cfg.armed ++ s.cfg.staging.map (stagedArm s 0)

/-- The configuration as it will stand at a commit time: in force, with every overlay that comes into force before it and
then the given patches applied (R125, R805). -/
def viewWith (s : Device) (extra : List Patch) : View :=
  s.cfg.objs.map fun o =>
    let b := (waitingArms s).foldl (fun b a => applyPatches a.patches o.blk o.kind o.obj b) o.cur
    { o with cur := applyPatches extra o.blk o.kind o.obj b }

/-- The configuration in force now. -/
def viewNow (s : Device) : View := s.cfg.objs.map fun o => { o with cur := recNow s o.blk o.kind o.obj }

/-- The envelope in force. -/
def envelope (s : Device) : Nat := modeEnvelope (recNow s 0x01 1 0)

end Sys2Proof.Machine
end

