-- ==== Sys2Proof/Machine/Pmc.lean ====
section
/-!
DEFINITION. Machine/Pmc.lean: performance counters, snapshots and dumps (20_counters_registers).
-/
namespace Sys2Proof.Machine

/-- A write to a Spire page: ignored and counted while the Spire die is not up (R705). -/
def spireWrite (f : Device → Device) (s : Device) : Device := if s.btr.spireUp then f s else accError s

/-- The reset value of PMC_SELn (Table PMC-3). -/
def selReset (n : Nat) : Nat :=
  let at_ := fun (k base : Nat) => (n - k) * 65536 + base
  if n < 18 then at_ 0 0x8380 else if n < 36 then at_ 18 0x0381 else if n < 45 then at_ 36 0x8480
  else if n < 54 then at_ 45 0x0481 else if n < 88 then at_ 54 0x0880 else if n < 96 then at_ 88 0x8C82
  else [0x8280, 0x0281, 0x0282, 0x1380, 0x11380, 0x8F81, 0x1180, 0x1480, 0x1481].getD (n - 96) 0

/-- PMC_SELn. -/
def pmcSel (s : Device) (n : Nat) : Nat := (tget s.pmc.sel n (BitVec.ofNat 32 (selReset n))).toNat

/-- INDEX values and mode of an activity signal: (instances, LEVEL) (Table PMC-2). -/
def activity (blk sig : Nat) : Option (Nat × Bool) :=
  match blk, sig with
  | 0x00, 0x80 => some (32, false)
  | 0x00, 0x81 => some (1, false)
  | 0x02, 0x80 => some (1, true)
  | 0x02, 0x81 => some (2, false)
  | 0x02, 0x82 => some (1, false)
  | 0x03, 0x80 => some (18, true)
  | 0x03, 0x81 => some (18, false)
  | 0x04, 0x80 => some (9, true)
  | 0x04, 0x81 => some (9, false)
  | 0x06, 0x80 => some (1, false)
  | 0x08, 0x80 => some (34, false)
  | 0x0C, 0x80 | 0x0C, 0x81 => some (8, false)
  | 0x0C, 0x82 => some (8, true)
  | 0x0D, 0x80 => some (8, true)
  | 0x0F, 0x80 => some (1, false)
  | 0x0F, 0x81 => some (1, true)
  | 0x11, 0x80 => some (1, false)
  | 0x13, 0x80 => some (2, false)
  | 0x13, 0x81 => some (2, true)
  | 0x14, 0x80 | 0x14, 0x81 => some (1, false)
  | _, _ => none

/-- Signals whose count the model leaves free. -/
def freeSignal (blk sig : Nat) : Bool :=
  blk == 0x13 || blk == 0x14 || (blk == 0x0D && sig == 0x80)

/-- A selection is one that R735 takes. -/
def selValid (v : Nat) : Bool :=
  let sig := bits 7 0 v
  let blk := bits 12 8 v
  let idx := bits 23 16 v
  if sig = 0 then true
  else if sig < 0x80 then
    (sevOf (blk * 2048 + sig) != 0 || blk * 2048 + sig == Ev.evrSuppressed) && !bit 15 v && idx == 0
  else (activity blk sig).any (fun a => idx < a.1 && a.2 == bit 15 v)

/-- The cumulative count of a selected signal; LEVEL counts in 1/10,000 of a cycle (R732). -/
def cumOf (s : Device) (sel : Nat) : Nat :=
  let sig := bits 7 0 sel
  if sig = 0 then 0
  else if 0x80 ≤ sig ∧ freeSignal (bits 12 8 sel) sig then
    Config.activityCount sel s.tim.ck * (if bit 15 sel then 10000 else 1)
  else tget s.pmc.cum sel 0

/-- PMC_CNTn (R731, R732). -/
def pmcCount (s : Device) (n : Nat) : Nat :=
  let sel := pmcSel s n
  ((cumOf s sel - tget s.pmc.start n 0) / (if bit 15 sel && bits 7 0 sel != 0 then 10000 else 1)) % 2 ^ 64

/-- PMC_SEL_WRITE (R735). -/
def pmcSelWrite (n v : Nat) (s : Device) : Device :=
  let v := bits 12 0 v + flag 15 (bit 15 v) + bits 23 16 v * 65536
  spireWrite (fun s =>
    if 639 < n then s
    else if !selValid v then { s with pmc.cfgErr := true }
    else { s with pmc.sel := tset s.pmc.sel n (BitVec.ofNat 32 v), pmc.start := tset s.pmc.start n (cumOf s v) }) s

/-- Working time `k` CK_TIME cycles from now, at the rate in force. -/
def inCycles (s : Device) (k : Nat) : STime := (s.tim.spire + (k * ((2 : Int) ^ 32 + s.tim.rate)).toNat) / 2 ^ 24

/-- PMC_SNAP_WRITE (R737, R738). -/
def pmcSnapWrite (v : Nat) (s : Device) : Device :=
  spireWrite (fun s =>
    if !bit 0 v then s
    else if s.pmc.snapAt.isSome then { s with pmc.overrun := true }
    else { s with pmc.snapAt := some (ceilTo (nsT 1000) (inCycles s 4000)) }) s

/-- SNAPSHOT_INSTANT (R737): the counters and positions at T_S. -/
def snapshotInstant (s : Device) : Device :=
  match s.pmc.snapAt with
  | none => s
  | some t =>
    if nowS s < t then s
    else { s with
      pmc.snapAt := none, pmc.snapSeq := s.pmc.snapSeq + 1, pmc.snapT := t / 256
      pmc.hLtnWr := s.ltn.wr, pmc.hLtnRd := s.ltn.rd, pmc.hEvrSeq := s.evr.seq.toNat, pmc.hKepEp := s.kep.epoch
      pmc.hAdcWr := (List.range 32).map (fun c => (c, (tget s.adc.bufs c {}).wr))
      pmc.hold := (List.range 640).map (fun n => (n, pmcCount s n)) }

/-- PMC_DUMP_CFG_WRITE (R743). -/
def dumpCfgWrite (v : Nat) (s : Device) : Device :=
  spireWrite (fun s =>
    let p := bits 19 0 v
    if (1 ≤ p && p < 100) || 1000000 < p then { s with pmc.cfgErr := true }
    else { s with pmc.period := p, pmc.dumpFrom := nowS s }) s

/-- PMC_DUMP_MASK_WRITE (R743). -/
def dumpMaskWrite (v : Nat) (s : Device) : Device := spireWrite (fun s => { s with pmc.mask := bits 19 0 v }) s

/-- The dump of instant `t` (Table PMC-4). -/
def dumpBytes (s : Device) (t : STime) : List Byte :=
  let banks := (List.range 20).filter (fun k => bit k s.pmc.mask)
  le 8 (t / 256) ++ le 1 0 ++ le 1 banks.length ++ le 2 s.pmc.gen ++ le 4 s.pmc.bindSeq ++ le 4 s.pmc.mask ++
  le 4 (sat 32 s.pmc.lostRun) ++ le 8 s.ltn.wr ++ le 8 s.ltn.rd ++ le 4 s.evr.seq.toNat ++ le 8 s.kep.epoch ++ le 12 0 ++
  banks.flatMap (fun k => (List.range 32).flatMap (fun j => le 8 (pmcCount s (32 * k + j))))

/-- A dump that the window cannot take (R741). -/
def loseDump (t : STime) (s : Device) : Device :=
  let first := if s.pmc.lostRun = 0 then t else s.pmc.firstLost
  let s := { s with pmc.dumpLost := s.pmc.dumpLost + 1, pmc.lostRun := s.pmc.lostRun + 1, pmc.firstLost := first }
  if s.pmc.stalled then s
  else raise Ev.pmcDumpGap [(2, s.pmc.lostRun), lo32 (nsLow first)] { s with pmc.stalled := true }

/-- A dump is written, lost, or skipped because it cannot fit (R739 to R741). -/
def writeDump (t : STime) (s : Device) : Device :=
  let bs := dumpBytes s t
  match windowOf s 0x1600 with
  | none => loseDump t s
  | some w =>
    let room := segRoom (winOf s w)
    if room < bs.length then
      let s := { s with pmc.dumpSkip := s.pmc.dumpSkip + 1 }
      if s.pmc.fitRaised then s
      else raise Ev.pmcDumpFit [(2, bs.length), (4, room)] { s with pmc.fitRaised := true }
    else
      match pushRecord w 0xA0 (some t) bs s with
      | (true, s) => { s with
          pmc.dumpSeq := s.pmc.dumpSeq + 1, pmc.bindSeq := s.pmc.bindSeq + 1, pmc.lostRun := 0, pmc.stalled := false }
      | (false, s) => loseDump t s

/-- DUMP_INSTANT (R739, R743). -/
def dumpInstant (s : Device) : Device :=
  let t := nextMul (usT s.pmc.period) s.pmc.dumpFrom
  if s.pmc.period = 0 || !s.btr.spireUp || nowS s < t then s
  else writeDump t { s with pmc.dumpFrom := t }

/-- PMC_STATUS as a word, and its read, which clears CFG_ERR and OVERRUN (R746). -/
def pmcStatus (s : Device) : Nat :=
  flag 0 s.pmc.snapAt.isSome + flag 1 s.pmc.cfgErr + flag 2 s.pmc.overrun + flag 3 (s.pmc.period != 0)
def pmcStatusRead (s : Device) : Device :=
  if s.btr.spireUp then emit (.reg 0x160000 (pmcStatus s)) { s with pmc.cfgErr := false, pmc.overrun := false }
  else emit (.reg 0x160000 0) s

/-- A restart returns every PMC register to its reset value (R744); `gen` is KEP_RESTARTS then. -/
def pmcReset (s : Device) : Device := { s with pmc := { gen := s.kep.restarts.toNat % 65536 } }

/-! ## LEVEL signals -/

/-- Units of 1/10,000 cycle that one CK_TIME cycle adds at CK_CORE and CK_LANE (Table ARCH-2, R803). -/
def coreUnits (s : Device) : Nat := 40000 / clockQ (envelope s) s.clk.forceLow

/-- The LEVEL signals that are true, with what one CK_TIME cycle adds to each (Table PMC-2). -/
def liveLevels (s : Device) : List (Nat × Nat) :=
  let u := coreUnits s
  (if s.dpt.ready.isEmpty then [] else [(pmcKey 0x02 0x80 0 true, u)]) ++
  s.dpt.lanes.map (fun e => (pmcKey 0x03 0x80 e.1 true, u)) ++
  (s.pgm.run_.filter (fun e => e.2.cyc.isSome)).map (fun e => (pmcKey 0x04 0x80 (physCore s e.1) true, u)) ++
  (s.eth.ports.filter (fun e => nowS s < e.2.busy)).map (fun e =>
    (pmcKey 0x0C 0x82 e.1 true, if e.2.speed = 3 then 3125 else 1250)) ++
  (if s.kep.cut.isSome then [(pmcKey 0x0F 0x81 0 true, 2000)] else [])

/-- One CK_TIME cycle of the LEVEL signals (R732). -/
def pmcTick (s : Device) : Device :=
  { s with pmc.cum := (liveLevels s).foldl (fun t e => tmod t e.1 0 (· + e.2)) s.pmc.cum }

/-! ## The rows of the table of operations -/

/-- QRESUME_CONTINUE (R74): Writing MODE CONTINUE to HIF_QRESUMEn resumes the ring as RING_RESUME CONTINUE does.
-/
def execQresumeContinue (n : Nat) (s : State) : Host.Outcome State Fault Refusal :=
  .next { s with dev := spireWrite (qresume n false []) s.dev }

/-- QRESUME_FLUSH (R74): Writing MODE FLUSH to HIF_QRESUMEn flushes the ring as RING_RESUME FLUSH does. -/
def execQresumeFlush (n : Nat) (got : List SlotRead) (s : State) : Host.Outcome State Fault Refusal :=
  .next { s with dev := spireWrite (qresume n true got) s.dev }

/-- PMC_SEL_WRITE (R735): Writing a counter selection restarts the counter at 0, or is ignored with CFG_ERR. -/
def execPmcSelWrite (n v : Nat) (s : State) : Host.Outcome State Fault Refusal :=
  .next { s with dev := Sys2Proof.Machine.pmcSelWrite n v s.dev }

/-- PMC_SNAP_WRITE (R737): Writing GO opens a snapshot at the next µs multiple after the lead. -/
def execPmcSnapWrite (v : Nat) (s : State) : Host.Outcome State Fault Refusal :=
  .next { s with dev := Sys2Proof.Machine.pmcSnapWrite v s.dev }

/-- SNAPSHOT_INSTANT (R737): At T_S, counters and positions are latched into the holding registers. -/
def execSnapshotInstant (s : State) : Host.Outcome State Fault Refusal :=
  .next { s with dev := Sys2Proof.Machine.snapshotInstant s.dev }

/-- PMC_DUMP_CFG_WRITE (R743): Sets the dump period from the next multiple. -/
def execPmcDumpCfgWrite (v : Nat) (s : State) : Host.Outcome State Fault Refusal :=
  .next { s with dev := Sys2Proof.Machine.dumpCfgWrite v s.dev }

/-- PMC_DUMP_MASK_WRITE (R743): Changes the dumped banks from the next dump. -/
def execPmcDumpMaskWrite (v : Nat) (s : State) : Host.Outcome State Fault Refusal :=
  .next { s with dev := Sys2Proof.Machine.dumpMaskWrite v s.dev }

/-- DUMP_INSTANT (R739): At each dump instant, the counters are latched and written to the window, or counted
lost. -/
def execDumpInstant (s : State) : Host.Outcome State Fault Refusal :=
  .next { s with dev := Sys2Proof.Machine.dumpInstant s.dev }

/-- PMC_STATUS_READ (R746): A read of PMC_STATUS clears CFG_ERR and OVERRUN. -/
def execPmcStatusRead (s : State) : Host.Outcome State Fault Refusal :=
  .next { s with dev := Sys2Proof.Machine.pmcStatusRead s.dev }

end Sys2Proof.Machine
end

