-- ==== Sys2Proof/Machine/Clock.lean ====
section
/-!
DEFINITION. Machine/Clock.lean: one cycle of CK_TIME, which passes when no command waits.
-/
namespace Sys2Proof.Machine

/-- One CK_TIME cycle (R34, R473, R475, R732): the Dome counter and its Spire copy add ADDEND = 2³² + RATE, in units of
2⁻³² ns, and the LEVEL signals count. While the device is held in reset its working time stands (R479). -/
def clockCycle (s : Device) : Device :=
  let s := { s with tim.ck := s.tim.ck + 1 }
  if s.clk.held.isSome then s
  else
    let add := (2 ^ 32 + s.tim.rate).toNat
    pmcTick { s with tim.dome := s.tim.dome + add, tim.spire := s.tim.spire + add }

end Sys2Proof.Machine
end

