-- ==== Sys2Proof/Machine/Dpt.lean ====
section
/-!
DEFINITION. Machine/Dpt.lean: tokens, the matching store, waits, dispatch and the program-class delay lists
(04_dispatch_matching).
-/
namespace Sys2Proof.Machine

/-- A task slot, with its reset value. -/
def taskOf (s : Device) (slot : Nat) : Task := tget s.dpt.tasks slot {}

def modTask (slot : Nat) (f : Task → Task) (s : Device) : Device :=
  { s with dpt.tasks := tset s.dpt.tasks slot (f (taskOf s slot)) }

/-- A task record enables its task (Table DPT-2). -/
def taskEnabled (b : List Byte) : Bool := bit 0 (fld 0 1 b)

/-- A task record is of the program class. -/
def taskProgram (b : List Byte) : Bool := bit 1 (fld 0 1 b)

/-- P and W of a task record (R160). -/
def recPW (b : List Byte) : STime × STime := (nsT (fld 12 4 b), fld 10 2 b * nsT (fld 12 4 b) / 4)

/-- P and W of a task: of the version of its last firing, or of its oldest queued primary before the first firing. A
primary whose record is no longer kept waits for nothing: its dispatch discards it (R132). -/
def taskPW (s : Device) (slot : Nat) : STime × STime :=
  let t := taskOf s slot
  match t.last, t.prim.head? with
  | some _, _ => t.lastPW
  | none, some p => ((recAt s 0x02 1 slot p.time).map recPW).getD (0, 0)
  | none, none => recPW (recNow s 0x02 1 slot)

/-- Operand indices 0–7. -/
def opIndices : List Nat := [0, 1, 2, 3, 4, 5, 6, 7]

/-- A FRESH operand without a new token, or a HELD operand that has none (R157). -/
def operandMissing (b : List Byte) (t : Task) (n : Nat) : Bool :=
  match opKind b n with
  | 2 => !((tfind t.ops n).any (·.fresh))
  | 3 => (tfind t.ops n).isNone
  | _ => false

/-- Every operand that R157 asks for is there. -/
def operandsReady (b : List Byte) (t : Task) : Bool := opIndices.all (fun n => !operandMissing b t n)

/-- The oldest queued primary of a task can fire: its operands are there, by the record of its sample time. A primary whose
record is no longer kept goes to dispatch, which discards it (R132). -/
def primReady (s : Device) (slot : Nat) (p : Token) (t : Task) : Bool :=
  (recAt s 0x02 1 slot p.time).all (fun b => operandsReady b t)

/-- The record in force at sample time `t` enables the task; one that is no longer kept is left to dispatch (R132, R159). -/
def enabledFor (s : Device) (slot : Nat) (t : STime) : Bool := (recAt s 0x02 1 slot t).all taskEnabled

/-- One operand of a firing with sample time `at_` (R156, R162, R163). -/
def operandFor (b : List Byte) (t : Task) (at_ : STime) (pw : STime × STime) (prim : Option Token) (n : Nat) :
    Option OpIn :=
  match opKind b n with
  | 1 =>
    match prim with
    | some p => some { idx := n, time := p.time, value := p.value, stale := p.stale, bf := p.bf }
    | none =>
      match t.lastPrim with
      | some (v, f) => some { idx := n, value := v, stale := true, bf := f }
      | none => some { idx := n, stale := true }
  | 2 =>
    match tfind t.ops n with
    | some v => some { idx := n, time := v.tok.time, value := v.tok.value, stale := v.tok.stale || !v.fresh, bf := v.tok.bf }
    | none => some { idx := n, stale := true }
  | 3 =>
    match tfind t.ops n with
    | some v =>
      let old := opAge b n && v.tok.time + pw.1 + pw.2 < at_
      some { idx := n, time := v.tok.time, value := v.tok.value, stale := v.tok.stale || old, bf := v.tok.bf }
    | none => some { idx := n, stale := true }
  | _ => none

/-! ## The ready queue -/

/-- The cycle of CK_CORE that holds an instant. -/
def coreCycle (s : Device) (t : STime) : Nat := t / (64 * clockQ (envelope s) s.clk.forceLow)

/-- An entry goes before another: earlier cycle, then sample time, then slot (R171). -/
def readyBefore (s : Device) (a b : ReadyEntry) : Bool :=
  let x := coreCycle s a.at_
  let y := coreCycle s b.at_
  x < y || (x == y && (a.time < b.time || (a.time == b.time && a.slot < b.slot)))

/-- Inserts an entry behind every entry that does not come after it; reissued firings stay at the head (R171, R174). -/
def readyInsert (s : Device) (e : ReadyEntry) : List ReadyEntry → List ReadyEntry
  | [] => [e]
  | x :: xs => if x.again.isNone && readyBefore s e x then e :: x :: xs else x :: readyInsert s e xs

/-- An entry joins the ready queue; DPT_READY_MAX follows the length (R171, R187). -/
def setReady (q : List ReadyEntry) (s : Device) : Device :=
  { s with dpt.ready := q, dpt.readyMax := max s.dpt.readyMax q.length }

/-- A task becomes READY with a firing (R157, R171). -/
def makeReady (e : ReadyEntry) (s : Device) : Device :=
  let s := modTask e.slot (fun k => { k with run := .ready, staleAt := e.time }) s
  setReady (readyInsert s { e with at_ := nowS s } s.dpt.ready) s

/-- A WAITING task that meets R157 joins the ready queue. -/
def checkReady (slot : Nat) (s : Device) : Device :=
  let t := taskOf s slot
  match t.prim.head? with
  | none => s
  | some p =>
    if s.dpt.run && t.run == .waiting && primReady s slot p t then makeReady { slot, at_ := 0, time := p.time } s else s

/-! ## Waits -/

/-- The instant the primary wait counts from: the last firing, or a later resume (R160, R614). -/
def waitBase (t : Task) : Option STime :=
  match t.resumeAt with
  | some r => some r
  | none => t.last.map (·.1)

/-- A wait has expired: its firing joins the ready queue, or is owed until the firing in flight completes (R166). -/
def expire (e : ReadyEntry) (s : Device) : Device :=
  match (taskOf s e.slot).run with
  | .waiting => makeReady e s
  | .ready => s
  | _ => modTask e.slot (fun k => { k with owed := if k.owed.isSome then k.owed else some e }) s

/-- PRIMARY_WAIT_EXPIRY (R159, R160, R166). -/
def primaryWaitExpiry (slot : Nat) (s : Device) : Device :=
  let t := taskOf s slot
  match t.primWait, waitBase t with
  | some w, some at_ =>
    if !s.dpt.run || nowS s < w || !t.prim.isEmpty || t.run == .ready then s
    else
      let next := at_ + (taskPW s slot).1
      let s := modTask slot (fun k => { k with primWait := none }) s
      if !enabledFor s slot next then s
      else expire { slot, at_ := 0, time := next, stalePrim := true, expired := some w } s
  | _, _ => s

/-- The operands that keep a task waiting, as they fire when the fresh wait expires: stale, with the last value received
(R161 to R163). -/
def missingOps (b : List Byte) (t : Task) (p : Token) (pw : STime × STime) : List OpIn :=
  (opIndices.filter (operandMissing b t)).filterMap (operandFor b t p.time pw (some p))

/-- FRESH_WAIT_EXPIRY (R161, R162, R166). -/
def freshWaitExpiry (slot : Nat) (s : Device) : Device :=
  let t := taskOf s slot
  match t.prim.head? with
  | none => s
  | some p =>
    let pw := taskPW s slot
    if !s.dpt.run || nowS s < p.time + pw.2 || primReady s slot p t then s
    else expire {
      slot, at_ := 0, time := p.time, expired := some (p.time + pw.2)
      stales := ((recAt s 0x02 1 slot p.time).map (fun b => missingOps b t p pw)).getD [] } s

/-- The expired wait that a task's next firing comes from. -/
def expiryOf (s : Device) (slot : Nat) : Option ReadyEntry :=
  match (taskOf s slot).owed with
  | some e => some e
  | none => s.dpt.ready.find? (fun e => e.slot == slot && e.again.isNone && e.expired.isSome)

/-- A token that arrives in the same CK_CORE cycle as the expiry that missed it is taken first: the expiry has not
happened (R164). -/
def undoExpiry (t : Token) (s : Device) : Device :=
  match expiryOf s t.slot with
  | none => s
  | some e =>
    let lacks := if e.stalePrim then opKind (recNow s 0x02 1 t.slot) t.operand == 1 else e.stales.any (fun o => o.idx == t.operand)
    if !lacks || !e.expired.any (fun x => coreCycle s x == coreCycle s (nowS s)) then s
    else modTask t.slot (fun k => { k with
        run := if k.run == .ready then .waiting else k.run, owed := none
        primWait := if e.stalePrim then e.expired else k.primWait })
      { s with dpt.ready := s.dpt.ready.erase e }

/-- What a task does once a token has been taken: it becomes READY; where the token undid an expiry and something is still
missing, that expiry stands (R157, R160, R161, R164). -/
def settleTask (slot : Nat) (undone : Bool) (s : Device) : Device :=
  let s := checkReady slot s
  if undone && (expiryOf s slot).isNone && (taskOf s slot).run != .ready then primaryWaitExpiry slot (freshWaitExpiry slot s)
  else s

/-! ## Tokens -/

/-- A token is discarded as late or out of order (R156). -/
def lateDrop (t : Token) (s : Device) : Device :=
  raise Ev.dptLateDropEvent [(2, t.slot), (1, t.operand), lo32 (nsLow t.time)]
    (modTask t.slot (fun k => { k with lateDrops := k.lateDrops + 1 })
      { s with dpt.lateDrop := s.dpt.lateDrop + 1 })

/-- The sample time that a new primary must follow: the last firing's, or that of a stale firing already READY or owed. -/
def lateBound (t : Task) : Option STime :=
  match t.owed with
  | some e => if e.stalePrim then some e.time else t.last.map (·.1)
  | none => if t.run == .ready && t.prim.isEmpty then some t.staleAt else t.last.map (·.1)

/-- A PRIMARY token: refused late, or queued, the oldest of 4 making room (R155, R156). -/
def takePrimary (t : Token) (s : Device) : Device :=
  let k := taskOf s t.slot
  if (lateBound k).any (fun x => t.time ≤ x) || (k.prim.getLast?).any (fun q => t.time ≤ q.time) then lateDrop t s
  else
    let s := match k.prim with
      | old :: rest =>
        if 4 ≤ k.prim.length then
          raise Ev.dptPrimaryOverrun [(2, t.slot), lo32 (nsLow old.time)]
            (modTask t.slot (fun k => { k with prim := rest }) { s with dpt.primOvf := s.dpt.primOvf + 1 })
        else s
      | [] => s
    modTask t.slot (fun k => { k with prim := k.prim ++ [t], lastPrim := some (t.value, t.bf) }) s

/-- While a cut is open, a value stamped before T_e belongs to it: one that a later token replaces before its task is
captured, and one that reaches a task already captured (R180, R592). -/
def cutOperand (t : Token) (s : Device) : Device :=
  let k := taskOf s t.slot
  match s.dpt.cut, s.kep.cut with
  | some c, some q =>
    if c.reported then s
    else if t.time < c.te then
      match tfind q.img.tasks t.slot with
      | none => s
      | some x =>
        let x := { x with ops := tset x.ops t.operand { tok := t } }
        { s with kep.cut := some { q with img := { q.img with tasks := tset q.img.tasks t.slot x } } }
    else match k.captured, tfind k.ops t.operand with
      | false, some v =>
        if v.tok.time < c.te then { s with dpt.cut := some { c with overlay := c.overlay ++ [(t.slot, t.operand, v)] } } else s
      | _, _ => s
  | _, _ => s

/-- A FRESH or HELD token replaces the value it finds unless it is older (R155, R156). -/
def takeOperand (t : Token) (s : Device) : Device :=
  if (tfind (taskOf s t.slot).ops t.operand).any (fun v => t.time < v.tok.time) then lateDrop t s
  else
    let s := cutOperand t s
    modTask t.slot (fun k => { k with ops := tset k.ops t.operand { tok := t } }) s

/-- A STREAM token that was lost on its way is a gap of the channels that record the stream (R656). -/
def streamGap (source missing : Nat) (t : STime) (s : Device) : Device :=
  (if s.ltn.run then ltnChannels s 2 source 0 t else []).foldl (fun s c =>
    { s with ltn.chans := tmod s.ltn.chans c {} fun ch => { ch with
        gap := match ch.gap with
          | some g => some { g with count := g.count + missing }
          | none => some ⟨missing, (ch.last.getD 0) + nsT 1⟩ } }) s

/-- The SEQ of a token against the one before it in its stream (R152). -/
def checkSeq (t : Token) (s : Device) : Device :=
  let k := streamKey t.source t.slot t.operand
  let s' := { s with dpt.seqIn := tset s.dpt.seqIn k t.seq }
  match tfind s.dpt.seqIn k with
  | none => s'
  | some q =>
    let missing := (t.seq - q - 1).toNat
    if missing = 0 then s'
    else streamGap t.source missing t.time
      (raise Ev.dptSeqGapEvent [(2, t.source), (2, missing)]
        { s' with dpt.seqGap := s'.dpt.seqGap + BitVec.ofNat 32 missing })

/-- A stream whose token is stamped at or after T_e has passed its marker, and so has one whose EPOCH token arrives
(R178). -/
def passMarker (key : Nat) (s : Device) : Device :=
  { s with dpt.cut := s.dpt.cut.map fun c =>
      if c.passed.contains key then c else { c with passed := c.passed ++ [key] } }

/-- A token reaches the matching store (R152, R155, R156, R646, R807). -/
def tokenArrive (t : Token) (s : Device) : Device :=
  let key := streamKey t.source t.slot t.operand
  let s := checkSeq t s
  if t.epoch then passMarker key s
  else
    let s := if s.dpt.cut.any (fun c => c.te ≤ t.time) then passMarker key s else s
    let s := ltnRecord 2 t.source 0 t.time t.version t.value t.seq.toNat (flag 0 t.stale) s
    match cfgObj s 0x02 1 t.slot, recAt s 0x02 1 t.slot t.time with
    | some _, none => versionDrop 0x02 t.version s
    | none, _ => { s with dpt.disDrop := s.dpt.disDrop + 1 }
    | some _, some b =>
      if !taskEnabled b || opKind b t.operand == 0 then { s with dpt.disDrop := s.dpt.disDrop + 1 }
      else
        let had := (expiryOf s t.slot).isSome
        let s := undoExpiry t s
        settleTask t.slot had (if opKind b t.operand = 1 then takePrimary t s else takeOperand t s)

/-- TOKEN_ARRIVAL: the oldest token on its way in a stream reaches the store. -/
def tokenArrival (source slot operand : Nat) (s : Device) : Device :=
  let mine := fun (t : Token) => t.source == source && t.slot == slot && t.operand == operand
  match s.dpt.inflight.find? mine with
  | none => s
  | some t => tokenArrive t { s with dpt.inflight := s.dpt.inflight.eraseP mine }

/-- A loop or axis output to another task's operand enters the store before its firing completes (R158). -/
def tokenDirect (t : Token) (s : Device) : Device :=
  let k := streamKey t.source t.slot t.operand
  let q := tget s.dpt.seqOut k 0
  tokenArrive { t with seq := q } { s with dpt.seqOut := tset s.dpt.seqOut k (q + 1) }

/-! ## Dispatch -/

/-- A task whose firing has ended: the firing of a wait that expired while it ran, or the next that is due by its tokens
(R157, R166). -/
def afterFiring (slot : Nat) (s : Device) : Device :=
  let t := taskOf s slot
  let s := modTask slot (fun k => { k with run := .waiting, owed := none }) s
  match t.owed with
  | some e => if s.dpt.run && (!e.stalePrim || enabledFor s slot e.time) then makeReady e s else checkReady slot s
  | none => checkReady slot s

/-- The mask of stale operands. -/
def staleMask (ops : List OpIn) : Nat := (ops.map (fun o => flag o.idx o.stale)).sum

/-- A firing's stale operands are counted and named (R165). -/
def noteStale (slot mask : Nat) (at_ : STime) (s : Device) : Device :=
  let t := taskOf s slot
  if mask ≠ 0 then
    let s := modTask slot (fun k => { k with
      staleMask := mask, staleRun := t.staleRun + 1, staleFirings := k.staleFirings + 1 })
      { s with dpt.stale := s.dpt.stale + 1 }
    if t.staleRun = 0 then raise Ev.dptStaleBegin [(2, slot), (1, mask), lo32 (nsLow at_)] s else s
  else
    let s := modTask slot (fun k => { k with staleMask := 0, staleRun := 0 }) s
    if t.staleRun = 0 then s else raise Ev.dptStaleEnd [(2, slot), (2, t.staleRun)] s

/-- A firing leaves the ready queue: its operands, its version, its task's record of it (R157 to R165, R173). None when
the task is disabled, or its record no longer kept, at the firing's sample time. An operand that an expired wait missed fires
stale even where a token of it has come since; that token stays fresh for the next firing (DEDUCED, log 79). -/
def buildFiring (e : ReadyEntry) (s : Device) : Option Firing × Device :=
  let t := taskOf s e.slot
  let prim := if e.stalePrim then none else t.prim.head?
  let at_ := match prim with | some p => p.time | none => e.time
  let drop := fun (s : Device) => modTask e.slot (fun k => { k with
    run := .waiting, prim := if e.stalePrim then k.prim else k.prim.drop 1 }) s
  match recAt s 0x02 1 e.slot at_ with
  | none => (none, versionDrop 0x02 (versionAt s at_) (drop s))
  | some b =>
    if !taskEnabled b then
      (none, checkReady e.slot { drop s with dpt.disDrop := s.dpt.disDrop + (if e.stalePrim then 0 else 1) })
    else
      let pw := taskPW s e.slot
      let missed := fun (n : Nat) => e.stales.find? (fun o => o.idx == n)
      let ops := opIndices.filterMap fun n => (missed n).or (operandFor b t at_ pw prim n)
      let v := versionAt s at_
      let wait := sat 32 ((nowS s - e.at_) / 256)
      let (p, w) := recPW b
      let s := modTask e.slot (fun k => { k with
        run := .running, prim := if e.stalePrim then k.prim else k.prim.drop 1,
        ops := tmap k.ops (fun n x => if opKind b n = 2 && (missed n).isNone then { x with fresh := false } else x),
        last := some (at_, v), lastPW := (p, w), resumeAt := none, primWait := some (at_ + p + w), firings := k.firings + 1,
        waitMax := max k.waitMax wait }) s
      let s := pmcEdge 0x02 0x81 0 { s with dpt.waitMax := max s.dpt.waitMax wait }
      let s := noteStale e.slot (staleMask ops) at_ (if staleMask ops = 0 then s else pmcEdge 0x02 0x82 0 s)
      (some { slot := e.slot, time := at_, version := v, ops, readyAt := e.at_ }, s)

/-- The engine of a task. -/
def taskEngine (s : Device) (slot : Nat) : Nat := fld 1 1 (recNow s 0x02 1 slot)

/-- The number of a lane in dispatch order: its own, or the one it took over from a lane it replaced (R716). -/
def laneNo (s : Device) (l : Nat) : Nat := tget s.spr.laneNos l l

/-- The lanes of a mask in the order of their numbers. -/
def lanesByNo (s : Device) (mask : Nat) : List Nat :=
  (List.range 18).filterMap fun k => (List.range 18).find? (fun l => bit l mask && laneNo s l == k)

/-- The lowest-numbered lane of a mask that runs nothing (R171). -/
def freeLane (s : Device) (mask : Nat) : Option Nat :=
  (lanesByNo s mask).find? (fun l => bit l s.lpe.laneEn && !draining s 0 l && (tfind s.dpt.lanes l).isNone)

/-- A firing at or after T_e waits for its task's capture (R179). -/
def awaitsCapture (s : Device) (e : ReadyEntry) : Bool :=
  s.dpt.cut.any (fun c => c.te ≤ e.time) && !(taskOf s e.slot).captured

/-- A new firing of a loop starts: an output of the last one whose fate has not been reported is no longer
restored (R229). -/
def loopStarts (slot : Nat) (s : Device) : Device :=
  let n := fld 2 2 (recNow s 0x02 1 slot)
  { s with lpe.loops := tmod s.lpe.loops n {} fun l =>
      { l with lateBefore := l.lateBefore ++ (l.before.map (·.1)).toList, before := none } }

/-- The entry can leave the ready queue now: a motion task at once, a loop when an active lane is free. -/
def canLeave (s : Device) (e : ReadyEntry) : Bool :=
  !awaitsCapture s e && (taskEngine s e.slot == 0x06 || (freeLane s s.dpt.active).isSome)

/-- FIRING_DISPATCH (R171 to R173). -/
def firingDispatch (s : Device) : Device :=
  match s.dpt.ready.find? (canLeave s) with
  | none => s
  | some e =>
    let s := { s with dpt.ready := s.dpt.ready.erase e }
    if taskEngine s e.slot = 0x06 then
      match buildFiring e s with
      | (none, s) => s
      | (some f, s) => { s with dpt.mot := s.dpt.mot ++ [f] }
    else match freeLane s s.dpt.active with
      | none => s
      | some l =>
        match e.again with
        | some f => modTask e.slot (fun k => { k with run := .reissue }) { s with dpt.lanes := tset s.dpt.lanes l f }
        | none =>
          match buildFiring e s with
          | (none, s) => s
          | (some f, s) => { loopStarts e.slot s with dpt.lanes := tset s.dpt.lanes l f }

/-- A lane reports completion (R158). -/
def completeLane (lane : Nat) (s : Device) : Device :=
  match tfind s.dpt.lanes lane with
  | none => s
  | some f => afterFiring f.slot { s with dpt.lanes := tdel s.dpt.lanes lane }

/-! ## Program-class release -/

/-- TICK_US of a configuration (R167). -/
def tickOf (b : List Byte) : Nat := if b = [] then 10 else fld 0 4 b

/-- An entry of a delay list or ready queue goes before another (R169). -/
def releaseInsert (e : STime × Nat × Nat) : List (STime × Nat × Nat) → List (STime × Nat × Nat)
  | [] => [e]
  | x :: xs => if e.1 < x.1 || (e.1 == x.1 && e.2.1 < x.2.1) then e :: x :: xs else x :: releaseInsert e xs

/-- A program's release time is rounded up to a tick and entered in its core's delay list; a task has at most one
pending release (R168). -/
def setRelease (slot : Nat) (t : STime) (s : Device) : Device :=
  let core := fld 16 1 (recNow s 0x02 1 slot)
  let rest := s.dpt.delay.filter (fun e => e.2.1 != slot)
  { s with dpt.delay := releaseInsert (ceilTo (usT s.dpt.tick) t, slot, core) rest }

/-- A release is entered beside one that may be pending: the earlier stands and the other is counted (R504). -/
def enterRelease (slot : Nat) (t : STime) (s : Device) : Device :=
  match s.dpt.delay.find? (fun r => r.2.1 == slot) with
  | some r =>
    let s := { s with tim.trigDrop := s.tim.trigDrop + 1 }
    if ceilTo (usT s.dpt.tick) t < r.1 then
      setRelease slot t (modTask slot (fun k => { k with dropped := max k.dropped r.1 }) s)
    else s
  | none => setRelease slot t s

/-- The program record that a program-class task serves. -/
def programOf (s : Device) (slot : Nat) : Nat := fld 2 2 (recNow s 0x02 1 slot)

/-- The first release of a PERIODIC program after an instant (R398). -/
def nextPeriodic (b : List Byte) (t : STime) : STime :=
  let p := usT (fld 4 4 b)
  let ph := usT (fld 8 4 b)
  if t < ph then ph else nextMul p (t - ph) + ph

/-- The program can be released: not DISABLED, NO_IMAGE or FAULT (R398, R403). -/
def programReady (s : Device) (p : Nat) : Bool :=
  let m := (tget s.pgm.progs p {}).mode
  m == .idle || m == .running

/-- One release falls due: the task is ready on its core, unless a release is held already, and a PERIODIC program's
next release is entered (R168 to R170, R398). -/
def releaseDue (e : STime × Nat × Nat) (s : Device) : Device :=
  let p := programOf s e.2.1
  let b := recNow s 0x04 1 p
  let queued := (tget s.dpt.coreReady e.2.2 []).any (fun x => x.2 == e.2.1)
  let s := if queued || !programReady s p then s else
    modTask e.2.1 (fun k => if k.run == .waiting then { k with run := .ready } else k)
      { s with dpt.coreReady := tmod s.dpt.coreReady e.2.2 [] (· ++ [(e.1, e.2.1)]) }
  if bit 0 (fld 0 1 b) && !bit 1 (fld 0 1 b) && fld 4 4 b != 0 then setRelease e.2.1 (nextPeriodic b (max e.1 (taskOf s e.2.1).dropped)) s
  else s

/-- DPT_TICK (R169): every entry due at or before the boundary moves to its core's ready queue. -/
def dptTick (s : Device) : Device :=
  let b := nowS s / usT s.dpt.tick * usT s.dpt.tick
  if !s.dpt.run || s.dpt.tick = 0 || b ≤ s.dpt.lastTick then s
  else
    let due := s.dpt.delay.filter (fun e => e.1 ≤ b)
    due.foldl (fun s e => releaseDue e s)
      { s with dpt.lastTick := b, dpt.delay := s.dpt.delay.filter (fun e => !(e.1 ≤ b)) }

/-! ## Disabling and enabling at a commit -/

/-- DISABLED_TASK_OPERAND_EXPIRY (R159). -/
def disabledExpiry (slot : Nat) (s : Device) : Device :=
  match (taskOf s slot).disabledAt with
  | none => s
  | some t =>
    if t + usT s.cfg.keepUs ≤ nowS s then
      modTask slot (fun k => { k with prim := [], ops := [], disabledAt := none }) s
    else s

/-- The tasks whose ENABLE a commit changes: enabled tasks start anew, disabled ones keep what they hold for
t_VERSION_KEEP (R157, R159). `old` gives the records before the commit. -/
def commitTasks (t : STime) (old : Nat → List Byte) (s : Device) : Device :=
  (objsOf s 0x02 1).foldl (fun s slot =>
    let was := taskEnabled (old slot)
    let is := taskEnabled (recNow s 0x02 1 slot)
    if is && !was then
      let k := taskOf s slot
      modTask slot (fun _ => { run := k.run, enabledAt := t, captured := k.captured,
                               prim := k.prim.filter (fun q => t ≤ q.time) }) s
    else if was && !is then
      modTask slot (fun k => { k with disabledAt := some t }) s
    else s) s

/-! ## Commands -/

/-- State code of Table DPT-4 (R185). -/
def taskState (s : Device) (slot : Nat) : Nat :=
  if !taskEnabled (recNow s 0x02 1 slot) then 0
  else match (taskOf s slot).run with
    | .waiting => 1
    | .ready => 2
    | .running => 3
    | .reissue => 4

/-- Nanoseconds at which the running wait expires, 0 if none (Table DPT-7). -/
def waitExpiry (s : Device) (slot : Nat) : Nat :=
  let t := taskOf s slot
  match t.prim.head?, t.primWait with
  | some p, _ => if primReady s slot p t then 0 else (p.time + (taskPW s slot).2) / 256
  | none, some w => w / 256
  | none, none => 0

/-- The task status record of Table DPT-7. -/
def taskStatus (s : Device) (slot : Nat) : List Byte :=
  let t := taskOf s slot
  let held := (t.ops.map (fun e => flag e.1 true)).sum +
    (if t.prim.isEmpty then 0 else
      ((opIndices.filter (fun n => opKind (recNow s 0x02 1 slot) n == 1)).map (fun n => flag n true)).sum)
  le 1 (taskState s slot) ++ le 1 t.prim.length ++ le 1 held ++ le 1 t.staleMask ++
  le 8 (match t.last with | some l => l.1 / 256 | none => 0) ++ le 8 (waitExpiry s slot) ++
  le 2 (match t.last with | some l => l.2 | none => 0) ++ le 2 0 ++
  le 4 t.firings.toNat ++ le 4 t.staleFirings.toNat ++ le 4 t.lateDrops.toNat ++ le 4 t.waitMax ++ le 24 0

/-- DPT_READ_TASK (R185). -/
def readTask (p : Pend) (s : Device) : CmdEnd :=
  let n := p.desc.target.toNat
  checked [
    .when (!created s 0x02 1 n) .notFound 0,
    .bad { bufMin := 64, bufMax := 16777216 } []]
    (fun _ s => okBuf (taskState s n) (taskStatus s n) s) p s

/-- Zero when bit `k` of a mask is set, the counter otherwise. -/
def clr (m k : Nat) (c : Word) : Word := if bit k m then 0 else c
def clrN (m k c : Nat) : Nat := if bit k m then 0 else c

/-- DPT_CLEAR_COUNTERS (R185, R187). -/
def dptClear (p : Pend) (s : Device) : CmdEnd :=
  let m := p.desc.p0.toNat
  checked [.bad { target := false, pmask := 1 } [(2 ^ 8 ≤ m, 24)]]
    (fun _ s => okWith 0 { s with dpt := { s.dpt with
      stale := clr m 0 s.dpt.stale, lateDrop := clr m 1 s.dpt.lateDrop, primOvf := clr m 2 s.dpt.primOvf,
      reissue := clr m 3 s.dpt.reissue, seqGap := clr m 4 s.dpt.seqGap, disDrop := clr m 5 s.dpt.disDrop,
      waitMax := clrN m 6 s.dpt.waitMax, readyMax := clrN m 7 s.dpt.readyMax } }) p s

/-- DPT_CHECK_LOAD (R182, R184, R185). -/
def checkLoad (p : Pend) (s : Device) : CmdEnd :=
  let d := p.desc
  let e := d.p0.toNat
  checked [
    .bad { target := false, pmask := 3 } [(2 < e, 24), (1 < d.p1.toNat, 28)],
    .when (s.cfg.mode == .unconfigured) .rejectedState 0]
    (fun _ s =>
      let v := if bit 0 d.p1.toNat then viewWith s [] else viewNow s
      let f := match firstFailingSlot v (envLanes e) (clockQ e false) with
        | some n => n + 1
        | none => 0
      okWith (loadUnits v + f * 2 ^ 16) s) p s

/-- DPT_SLOTS (Table DPT-9). -/
def dptSlots (s : Device) : Nat :=
  let en := (objsOf s 0x02 1).filter (fun n => taskEnabled (recNow s 0x02 1 n))
  en.countP (fun n => !taskProgram (recNow s 0x02 1 n)) + 2 ^ 16 * en.countP (fun n => taskProgram (recNow s 0x02 1 n))

/-! ## The rows of the table of operations -/

/-- TOKEN_ARRIVAL (R155): A token reaches the matching store and is queued, replaces a value, or is discarded.
-/
def execTokenArrival (source slot operand : Nat) (s : State) : Host.Outcome State Fault Refusal :=
  .next { s with dev := tokenArrival source slot operand s.dev }

/-- PRIMARY_WAIT_EXPIRY (R160): No primary has arrived by S + P + W, so the task fires with a stale primary at
sample time S + P. -/
def execPrimaryWaitExpiry (slot : Nat) (s : State) : Host.Outcome State Fault Refusal :=
  .next { s with dev := primaryWaitExpiry slot s.dev }

/-- FRESH_WAIT_EXPIRY (R161): A FRESH or never-filled HELD operand is missing at S' + W, so the task fires with
it marked stale. -/
def execFreshWaitExpiry (slot : Nat) (s : State) : Host.Outcome State Fault Refusal :=
  .next { s with dev := freshWaitExpiry slot s.dev }

/-- DPT_TICK (R169): At each tick boundary, due program releases move to their cores' ready queues. -/
def execDptTick (s : State) : Host.Outcome State Fault Refusal :=
  .next { s with dev := dptTick s.dev }

/-- DISABLED_TASK_OPERAND_EXPIRY (R159): t_VERSION_KEEP after a disabling commit, the task discards its held
operands. -/
def execDisabledTaskOperandExpiry (slot : Nat) (s : State) : Host.Outcome State Fault Refusal :=
  .next { s with dev := disabledExpiry slot s.dev }

/-- DPT_READ_TASK (R185): Returns a task status record. -/
def execDptReadTask (d : Desc) (s : State) : Host.Outcome State Fault Refusal :=
  .next { s with dev := runCmd readTask d s.dev }

/-- DPT_CLEAR_COUNTERS (R185): Clears the selected DPT counters. -/
def execDptClearCounters (d : Desc) (s : State) : Host.Outcome State Fault Refusal :=
  .next { s with dev := runCmd dptClear d s.dev }

/-- DPT_CHECK_LOAD (R185): Applies the schedulability test without changing anything. -/
def execDptCheckLoad (d : Desc) (s : State) : Host.Outcome State Fault Refusal :=
  .next { s with dev := runCmd checkLoad d s.dev }

end Sys2Proof.Machine
end

