-- ==== Sys2Proof/Machine/Flags.lean ====
section
/-!
DEFINITION. Machine/Flags.lean: the two number formats of the loop engine and the flags their arithmetic sets: SAT
and exponent overflow, each with the stage it arose in (R202 to R211).
-/
namespace Sys2Proof.Machine

/-- A loop value: a fixed-point integer with E = 0, or a block-floating mantissa and exponent of value
M × 2^(E − 23) (R203). -/
structure Num where
  m : Int := 0
  e : Int := 0
deriving DecidableEq, Repr

/-- Flags of an evaluation: stages that saturated and stages whose exponent overflowed, oldest first. -/
structure Fx where
  sat : List Nat := []
  ovf : List Nat := []
deriving DecidableEq, Repr

/-- Arithmetic that may set flags. -/
abbrev Arith (α : Type) := StateM Fx α

/-- A saturation in a stage sets SAT (R204). -/
def setSat (stage : Nat) : Arith Unit := modify fun f => { f with sat := f.sat ++ [stage] }

/-- An exponent above +127 sets SAT and raises LPE_FORMAT_OVF (R209). -/
def setOvf (stage : Nat) : Arith Unit :=
  modify fun f => { sat := f.sat ++ [stage], ovf := f.ovf ++ [stage] }

/-- Saturation to `bits` bits, with its flag (R204). -/
def satA (stage bits : Nat) (v : Int) : Arith Int := do
  if ssat bits v ≠ v then setSat stage
  return ssat bits v

/-- Arithmetic shift right with convergent rounding (R204). -/
def rshiftConv (v : Int) (s : Nat) : Int := roundDivEven v (2 ^ s)

/-- Bits below the sign of an integer: 2^(L−1) ≤ v < 2^L, and the mirror for negative v. -/
def magBits (v : Int) : Nat :=
  let u := if v < 0 then (-v - 1).toNat else v.toNat
  if u = 0 then 0 else Nat.log2 u + 1

/-- The block-floating zero (R206). -/
def bfZero : Num := { m := 0, e := -128 }

/-- The exponent range of a normalised result (R209): saturates above +127, becomes zero below −128. -/
def bfRange (stage n : Nat) (v : Num) : Arith Num := do
  if 127 < v.e then
    setOvf stage
    return { m := if v.m < 0 then -(2 ^ (n - 1) : Nat) else (2 ^ (n - 1) : Nat) - 1, e := 127 }
  else if v.e < -128 then return bfZero
  else return v

/-- The exact value v × 2^w normalised and rounded convergently to an n-bit mantissa (R206, R207, R209, R210). -/
def bfNorm (stage n : Nat) (v w : Int) : Arith Num :=
  if v = 0 then pure bfZero
  else
    let sh : Int := (magBits v : Int) - (n - 1 : Nat)
    let m := if 0 ≤ sh then rshiftConv v sh.toNat else v * (2 ^ (-sh).toNat : Nat)
    let e := w + (n - 1 : Nat) + sh
    if m = (2 ^ (n - 1) : Nat) then bfRange stage n { m := m / 2, e := e + 1 }
    else if m = -(2 ^ (n - 2) : Nat) then bfRange stage n { m := m * 2, e := e - 1 }
    else bfRange stage n { m, e }

/-- A block-floating stage result that is passed on unchanged is normalised like every other (R206). -/
def normA (stage : Nat) (bf : Bool) (v : Num) : Arith Num := if bf then bfNorm stage 24 v.m (v.e - 23) else pure v

/-- A loop word as a value (R203). -/
def ofWord (bf : Bool) (w : Nat) : Num :=
  if bf then { m := signed 24 (w / 256), e := signed 8 w } else { m := signed 32 w }

/-- A value as a loop word. -/
def toWord (bf : Bool) (v : Num) : Word :=
  BitVec.ofNat 32 (if bf then wrapInt 24 v.m * 256 + wrapInt 8 v.e else wrapInt 32 v.m)

/-- Exact comparison. -/
def numLe (bf : Bool) (a b : Num) : Bool :=
  if bf then decide (a.m * (2 ^ (a.e + 128).toNat : Nat) ≤ b.m * (2 ^ (b.e + 128).toNat : Nat)) else decide (a.m ≤ b.m)

def numLt (bf : Bool) (a b : Num) : Bool := !numLe bf b a

/-- `v` clamped to the interval from `lo` to `hi`. -/
def numClamp (bf : Bool) (lo hi v : Num) : Num :=
  if numLt bf v lo then lo else if numLt bf hi v then hi else v

/-- The negative of a value, exact. -/
def numNeg (v : Num) : Num := { v with m := -v.m }

/-- The product of coefficient `k` with shift `sh` and a value (R204, R207). -/
def mulA (stage : Nat) (bf : Bool) (k : Num) (sh : Nat) (y : Num) : Arith Num :=
  if bf then bfNorm stage 24 (k.m * y.m) (k.e + y.e - 46)
  else do return { m := ← satA stage 32 (rshiftConv (k.m * y.m) sh) }

/-- A sum on one shared exponent of mantissas at scale 2^(E − (n − 1)), each extended by `ext` bits (R208, R210);
the result has an n-bit mantissa. -/
def bfSum (stage n ext : Nat) (xs : List Num) : Arith Num :=
  match xs.filter (fun x => x.m ≠ 0) with
  | [] => pure bfZero
  | x :: rest =>
    let es := rest.foldl (fun a y => max a y.e) x.e + 2
    let v := ((x :: rest).map (fun y => rshiftConv (y.m * (2 ^ ext : Nat)) (es - y.e).toNat)).sum
    bfNorm stage n v (es - (n - 1 : Nat) - ext)

/-- A saturating running sum of fixed-point values (R204). -/
def fixSum (stage : Nat) : Int → List Num → Arith Int
  | a, [] => pure a
  | a, x :: xs => do fixSum stage (← satA stage 32 (a + x.m)) xs

/-- The sum of a stage's terms in the loop's format (R204, R208). -/
def sumA (stage : Nat) (bf : Bool) (xs : List Num) : Arith Num :=
  if bf then bfSum stage 24 8 xs
  else match xs with
    | [] => pure {}
    | x :: rest => do return { m := ← fixSum stage x.m rest }

/-- An operand in the loop's format (R202). -/
def convertA (stage : Nat) (bf : Bool) (isBf : Bool) (w : Nat) : Arith Num :=
  let v := ofWord isBf w
  if bf == isBf then normA stage bf v
  else if bf then bfNorm stage 24 v.m 0
  else do
    let x := if 23 ≤ v.e then v.m * (2 ^ (v.e - 23).toNat : Nat) else rshiftConv v.m (23 - v.e).toNat
    return { m := ← satA stage 32 x }

/-- A value bound for an integer destination (R211). -/
def toCode (stage : Nat) (bf : Bool) (v : Num) : Arith Int :=
  if bf then do return (← convertA stage false true (toWord true v).toNat).m else pure v.m

/-! ## The integrator: I48, or M40 with its exponent (R205, R210) -/

/-- The integrator that stands for a loop value. -/
def intOf (bf : Bool) (v : Num) : Num := if bf then { m := v.m * 65536, e := v.e } else { m := v.m * 65536 }

/-- The integrator as stage 6 uses it: rounded to the loop's word (R205, R210). -/
def intTerm (stage : Nat) (bf : Bool) (i : Num) : Arith Num :=
  if bf then bfNorm stage 24 i.m (i.e - 39) else do return { m := ← satA stage 32 (rshiftConv i.m 16) }

/-- A limit as an integrator value, normalised (R206, R210). -/
def intLimit (bf : Bool) (v : Num) : Num :=
  if bf then ((bfNorm 5 40 v.m (v.e - 23)).run {}).1 else intOf bf v

/-- Clamps the integrator to [IMIN, IMAX], comparing exact values; says whether the clamp acted (R205, R210). -/
def intClamp (bf : Bool) (lo hi : Num) (i : Num) : Num × Bool :=
  let l := intLimit bf lo
  let h := intLimit bf hi
  if numLt bf i l then (l, true) else if numLt bf h i then (h, true) else (i, false)

/-- The integrator with the increment KI·e added (R205, R210). -/
def intAdd (stage : Nat) (bf : Bool) (k : Num) (sh : Nat) (e : Num) (i : Num) : Arith Num :=
  if bf then do
    let inc ← bfNorm stage 24 (k.m * e.m) (k.e + e.e - 46)
    -- both stand at the 48-bit scale: M40 × 2^8 and M × 2^24
    bfSum stage 40 8 [i, { m := inc.m * 65536, e := inc.e }]
  else do
    let p := k.m * e.m
    let inc ← satA stage 48 (if 16 ≤ sh then rshiftConv p (sh - 16) else p * (2 ^ (16 - sh) : Nat))
    return { m := ← satA stage 48 (i.m + inc) }

end Sys2Proof.Machine
end

