-- ==== Sys2Proof/Machine/Adc.lean ====
section
/-!
DEFINITION. Machine/Adc.lean: converters, scans, averaging, urgent conversions, ADC buffers and calibration
(07_analog_inputs).
-/
namespace Sys2Proof.Machine

def convOf (s : Device) (c : Nat) : Conv := tget s.adc.convs c { phys := c }
def modConv (c : Nat) (f : Conv → Conv) (s : Device) : Device :=
  { s with adc.convs := tset s.adc.convs c (f (convOf s c)) }
def chanOf (s : Device) (n : Nat) : AdcChan := tget s.adc.chans n {}
def modChan (n : Nat) (f : AdcChan → AdcChan) (s : Device) : Device :=
  { s with adc.chans := tset s.adc.chans n (f (chanOf s n)) }
def abufOf (s : Device) (c : Nat) : AdcBuf := tget s.adc.bufs c {}
def modAbuf (c : Nat) (f : AdcBuf → AdcBuf) (s : Device) : Device :=
  { s with adc.bufs := tset s.adc.bufs c (f (abufOf s c)) }

/-- Converter record in force (Table ADC-7). -/
def convRec (s : Device) (c : Nat) : List Byte := recNow s 0x08 1 c

/-- The converter is enabled: in the configuration in force, once one is loaded (R111, R302). -/
def convEnabled (s : Device) (c : Nat) : Bool := s.cfg.mode != .unconfigured && bit 0 (fld 0 1 (convRec s c))

/-- START of a converter record: 0 CONTINUOUS, 1 PERIODIC, 2 TRIGGER. -/
def convStart (b : List Byte) : Nat := bits 2 1 (fld 0 1 b)

/-- The correction tables of physical converter `p`, table `t`: measured in the field, or the factory's (R294). -/
def calTable (s : Device) (p t : Nat) : CalTable :=
  match tfind s.adc.cal (8 * p + t) with
  | some c => c
  | none => { ofs16 := (Config.factoryOfs p t).toInt, g := (Config.factoryG p t).toNat }

/-- The table of a channel in a range: range 4 shares that of range 1, internal channels use the core's (R293). -/
def tableOf (k range : Nat) : Nat := if 4 ≤ k then 4 else if range = 4 then 1 else range

/-- A raw code corrected by a table (R293). -/
def correct (t : CalTable) (raw : Int) : Int :=
  clampI (-131072) 131071 (rshiftConv ((16 * raw - t.ofs16) * t.g) 27)

/-- A sample at a limit code (R262, R272). -/
def atLimit (v : Int) : Bool := v == -131072 || v == 131071

/-! ## Scans -/

/-- A handover of the converter is waiting for the scan boundary (R296, R715). -/
def handoverDue (v : Conv) : Bool := v.swapTo.isSome || v.cal.any (fun c => c.step == 0 || c.step == 2)

/-- The channels of a scan (R263, R268): those of the mask in rising order, settling ones passed over. -/
def scanList (s : Device) (c : Nat) : List Nat :=
  (List.range 8).filter (fun k => bit k (fld 1 1 (convRec s c)) && (chanOf s (8 * c + k)).settle.isNone)

/-- A scan begins; channels that have left the mask discard their partial sums (R268, R275). -/
def beginScan (c : Nat) (s : Device) : Device :=
  let mask := fld 1 1 (convRec s c)
  let s := (List.range 8).foldl (fun s k =>
    if bit k mask || (chanOf s (8 * c + k)).n = 0 then s
    else modChan (8 * c + k) (fun a => { a with sum := 0, n := 0, clip := false }) s) s
  modConv c (fun v => { v with scan := scanList s c, deferred := false, dropped := 0 }) s

/-- A scan boundary with nothing converting: a pending handover comes first, then a deferred start, then the next
CONTINUOUS scan (R269, R271, R296). -/
def scanBoundary (c : Nat) (s : Device) : Device :=
  let v := convOf s c
  if handoverDue v || !v.scan.isEmpty || v.urgRun || !convEnabled s c then s
  else if v.deferred || convStart (convRec s c) = 0 then beginScan c s
  else s

/-- A PERIODIC or TRIGGER start (R269, R271). -/
def scanRequest (c : Nat) (s : Device) : Device :=
  let v := convOf s c
  if !convEnabled s c then s
  else if v.scan.isEmpty && !v.urgRun && !handoverDue v then beginScan c s
  else
    let s := { s with adc.slip := s.adc.slip + 1 }
    if v.deferred then
      raise Ev.adcScanSlip [(1, c), (2, v.dropped + 1)] (modConv c (fun v => { v with dropped := v.dropped + 1 }) s)
    else modConv c (fun v => { v with deferred := true }) s

/-- The latest PERIODIC start instant at or before `t` (R269). -/
def lastPeriodic (b : List Byte) (t : STime) : Option STime :=
  let p := nsT (fld 4 4 b)
  let ph := nsT (fld 8 4 b)
  if p = 0 || t < ph then none else some ((t - ph) / p * p + ph)

/-- SCAN_START (R269): a PERIODIC start that has fallen due. -/
def scanStart (c : Nat) (s : Device) : Device :=
  let b := convRec s c
  match lastPeriodic b (nowD s) with
  | some t =>
    if convStart b = 1 && convEnabled s c && (convOf s c).lastStart.all (fun l => l < t) then
      scanRequest c (modConv c (fun v => { v with lastStart := some t }) s)
    else s
  | none => s

/-- The converters whose TRIGGER start entry `e` of the trigger table gives (R269). -/
def scanTriggered (e : Nat) (s : Device) : Device :=
  (objsOf s 0x08 1).foldl (fun s c =>
    if convStart (convRec s c) = 2 && fld 12 1 (convRec s c) = e then scanRequest c s else s) s

/-! ## Buffers -/

/-- The data word of Table ADC-4. -/
def dataWord (result : Int) (chan : Nat) (clip urg : Bool) : Nat :=
  wrapInt 26 result + chan * 2 ^ 26 + flag 29 clip + flag 30 urg

/-- A mark of Table ADC-5 as a record. -/
def adcMark (kind payload time : Nat) : BufRec :=
  { bytes := le 4 (payload + kind * 2 ^ 26 + 2 ^ 31) ++ le 4 time }

/-- Free record slots of buffer `c` (R286). -/
def abufFree (s : Device) (c : Nat) : Nat := 2 ^ fld 13 1 (convRec s c) / 8 - 1 - (abufOf s c).recs.length

/-- Writes records at the write pointer. -/
def abufPut (c : Nat) (rs : List BufRec) (s : Device) : Device :=
  let size := 2 ^ fld 13 1 (convRec s c)
  modAbuf c (fun b => { b with recs := b.recs ++ rs, wr := (b.wr + 8 * rs.length) % size }) s

/-- DRAM can be reached from the Dome die (R288). -/
def dramReach (s : Device) : Bool := s.btr.linkUp && s.btr.spireUp && !s.btr.xreset.contains 0 && !s.mem.selfRefresh && !dramStopped s

/-- A result enters buffer `c` with the marks it calls for, or is lost (R281 to R288). `n` is the logical channel,
`par` the AVG − 1, SHIFT and RANGE it was formed under. -/
def writeResult (n : Nat) (word : Nat) (t : STime) (version : Nat) (par : Nat × Nat × Nat) (s : Device) : Device :=
  let c := n / 8
  let b := abufOf s c
  if !bit 4 (fld 0 1 (convRec s c)) then s
  else
    let ch := chanOf s n
    let hi := t / 256 / 2 ^ 32
    let parDue := ch.paramOwed || ch.param != some par
    let pm := if parDue then [adcMark 3 (par.1 + par.2.1 * 2 ^ 8 + par.2.2 * 2 ^ 12 + (n % 8) * 2 ^ 15) version] else []
    let anchorDue := b.gap.isSome || b.anchor || 2 ^ 20 ≤ b.since || b.hi ≠ hi
    let am := if anchorDue then [adcMark 1 (t % 256) hi] else []
    let gm := match b.gap with
      | some (k, t0) => [adcMark 2 (min k (2 ^ 26 - 1)) (nsLow t0)]
      | none => []
    let rs := gm ++ pm ++ am ++ [{ bytes := le 4 word ++ le 4 (nsLow t), time := some t }]
    if dramReach s && rs.length ≤ abufFree s c then
      let s := abufPut c rs s
      let s := modChan n (fun a => { a with param := some par, paramOwed := false }) s
      let s := modAbuf c (fun b => { b with
        gap := none, anchor := false, hi := hi, since := if anchorDue then 1 else b.since + 1 }) s
      match b.gap with
      | some (k, t0) =>
        raise Ev.adcBufGap [(1, c), (2, k), lo32 (nsLow t0)]
          (modAbuf c (fun b => { b with lost := b.lost + BitVec.ofNat 32 k }) s)
      | none => s
    else
      modAbuf c (fun b => { b with gap := match b.gap with | some (k, t0) => some (k + 1, t0) | none => some (1, t) })
        { s with adc.lost := s.adc.lost + 1 }

/-- CLIP of a result is counted, and named when the result before had none (R262, Table ADC-10). -/
def noteClip (n : Nat) (clip : Bool) (s : Device) : Device :=
  let last := (chanOf s n).lastClip
  let s := modChan n (fun a => { a with lastClip := clip }) s
  if !clip then s
  else
    let s := { s with adc.clips := s.adc.clips + 1 }
    if last then s else raise Ev.adcClip [(1, n)] s

/-! ## Conversions -/

/-- AVG − 1, SHIFT and RANGE of a channel under a converter record. -/
def chanParams (s : Device) (n : Nat) (b : List Byte) : Nat × Nat × Nat :=
  (fld 2 1 b, fld 3 1 b % 16, if 4 ≤ n % 8 then 0 else (chanOf s n).range)

/-- The token of a regular result, where its channel sends tokens (R291). -/
def resultToken (n : Nat) (v : Word) (t : STime) (version : Nat) (b : List Byte) (s : Device) : Device :=
  if bit 0 (fld 1 1 b) then
    sendToken { time := t, version, slot := fld 2 2 b % 4096, operand := fld 2 2 b / 4096 % 8, source := 0x0800 + n,
                value := v } s
  else s

/-- A regular result leaves: buffer, token, recorder (R272, R286, R291, R394, R423,
R646). -/
def regularResult (n : Nat) (result : Int) (t : STime) (version : Nat) (par : Nat × Nat × Nat) (clip : Bool) (s : Device) :
    Device :=
  let s := noteClip n clip (modChan n (fun k => { k with result, resultAt := some (nowD s) }) s)
  let s := writeResult n (dataWord result (n % 8) clip false) t version par s
  let v := BitVec.ofInt 32 result
  ltnRecord 1 n 0 t version v 0 (flag 1 clip) (underRec 0x08 2 n t (resultToken n v t version) s)

/-- A self-test channel's sample deviates too far (R298). -/
def selfTestBad (k : Nat) (v : Int) : Bool := (k == 4 && 33 < (v - 65536).natAbs) || (k == 5 && 16 < v.natAbs)

/-- The check of channels 4 and 5 (R298). -/
def selfTest (n : Nat) (v : Int) (s : Device) : Device :=
  let bad := selfTestBad (n % 8) v
  let was := (chanOf s n).testFail
  let s := modChan n (fun a => { a with testFail := bad }) s
  if bad && !was then
    raise Ev.adcSelftestFail [(1, n), sgn 4 v] { s with
      spr.selfFails := tmod s.spr.selfFails (convOf s (n / 8)).phys [] (fun l => nowD s :: l) }
  else s

/-- A channel's sum, begun anew. -/
def clearSum (n : Nat) (s : Device) : Device := modChan n (fun a => { a with sum := 0, n := 0, clip := false }) s

/-- The sum of a channel after one more sample `v` held at `at_`, under the record of its first sample's time (R272 to R274). -/
def sumSample (n : Nat) (v : Int) (at_ : STime) (b : List Byte) (s : Device) : Device :=
  let a := chanOf s n
  let t := if a.n = 0 then at_ else a.stime
  let sum := (if a.n = 0 then 0 else a.sum) + v
  let clip := (a.n ≠ 0 && a.clip) || atLimit v
  let par := chanParams s n b
  if a.n = par.1 then regularResult n (rshiftConv sum par.2.1) t (versionAt s t) par clip (clearSum n s)
  else modChan n (fun a => { a with sum := sum, n := a.n + 1, clip := clip, stime := t }) s

/-- One corrected sample enters its channel's sum (R272 to R274, R298). A sum whose record is no longer kept is discarded with
it (R132). -/
def addSample (n : Nat) (v : Int) (at_ : STime) (s : Device) : Device :=
  let s := selfTest n v s
  let a := chanOf s n
  let t := if a.n = 0 then at_ else a.stime
  match recAt s 0x08 1 (n / 8) t with
  | some b => sumSample n v at_ b s
  | none => versionDrop 0x08 (versionAt s t) (clearSum n s)

/-- The urgent conversion at the head of the queue ends (R276, R279). A channel that settles emits no result: its request then
waits for its time-out (R263, R302; DEDUCED, log 84). -/
def urgentResult (c : Nat) (u : Urgent) (v : Int) (at_ : STime) (s : Device) : Device :=
  let n := 8 * c + u.chan
  let word := dataWord v u.chan (atLimit v) true
  let s := modConv c (fun k => { k with urg := k.urg.drop 1, urgRun := !(k.urg.drop 1).isEmpty })
    { s with adc.urgents := s.adc.urgents + 1 }
  if (chanOf s n).settle.isSome then modConv c (fun k => { k with mute := k.mute ++ (if u.pend.isSome then [u] else []) }) s
  else
    let s := underRec 0x08 1 c at_ (fun b s => writeResult n word at_ (versionAt s at_) (chanParams s n b) s)
      (noteClip n (atLimit v) s)
    match u.pend with
    | some p => finish p .ok word [] s
    | none => s

/-- The first channel of the running scan converts again: its sum was begun in BURST order and is not complete (R268, R273,
R274). -/
def burstGoesOn (n : Nat) (s : Device) : Bool :=
  let a := chanOf s n
  a.n != 0 && a.settle.isNone && (recAt s 0x08 1 (n / 8) a.stime).any (fun b => bit 3 (fld 0 1 b))

/-- The next conversion of the running scan, settling channels passed over (R263). -/
def nextConversion (c : Nat) (s : Device) : Device :=
  if (convOf s c).scan.head?.any (fun k => burstGoesOn (8 * c + k) s) then s
  else modConv c (fun v => { v with
    scan := (v.scan.drop 1).dropWhile (fun k => (chanOf s (8 * c + k)).settle.isSome) }) s

/-- CONVERSION_END (R262, R267, R272, R279): the running conversion of logical converter `c`, held at working time
`at_`, ends with raw code `raw`. -/
def conversionEnd (c : Nat) (raw : Int) (at_ : STime) (s : Device) : Device :=
  let v := convOf s c
  let code := fun (k : Nat) => correct (calTable s v.phys (tableOf k (chanOf s (8 * c + k)).range)) (clampI (-131072) 131071 raw)
  let s := if v.urg.isEmpty && v.scan.isEmpty then s else pmcEdge 0x08 0x80 v.phys s
  match v.urgRun, v.urg.head?, v.scan.head? with
  | true, some u, _ => scanBoundary c (urgentResult c u (code u.chan) at_ s)
  | _, _, some k =>
    let s := if (chanOf s (8 * c + k)).settle.isSome then s else addSample (8 * c + k) (code k) at_ s
    scanBoundary c (nextConversion c s)
  | _, _, none => s

/-! ## Urgent requests -/

/-- An urgent request joins the queue, aborting the running conversion (R276 to R278); false where it is refused. -/
def urgentRequest (c chan : Nat) (p : Option Pend) (s : Device) : Bool × Device :=
  let v := convOf s c
  if 4 ≤ v.urg.length then (false, { s with adc.urgOvf := s.adc.urgOvf + 1 })
  else
    let s := if !v.scan.isEmpty && !v.urgRun then { s with adc.aborts := s.adc.aborts + 1 } else s
    (true, modConv c (fun v => { v with urg := v.urg ++ [{ chan, pend := p, at_ := nowD s }], urgRun := true }) s)

/-- URGENT_PIN_REQUEST (R276, R278, R301): a rising or a falling edge on the converter's URG_PIN; that of URG_CFG is a
request. -/
def urgentPin (c : Nat) (rising : Bool) (s : Device) : Device :=
  let b := convRec s c
  if !convEnabled s c || fld 14 1 b = 0xFF || bit 3 (fld 15 1 b) == rising then s
  else
    let k := fld 15 1 b % 8
    match urgentRequest c k none s with
    | (true, s) => s
    | (false, s) => raise Ev.adcUrgOvf [(1, 8 * c + k)] s

/-- ADC_URGENT (R276 to R280, R302). -/
def adcUrgent (p : Pend) (s : Device) : CmdEnd :=
  let n := p.desc.target.toNat
  checked [
    .when (255 < n) .notFound 0,
    .bad plain [],
    .when (!convEnabled s (n / 8)) .rejectedState 0]
    (fun p s => match urgentRequest (n / 8) (n % 8) (some p) s with
      | (true, s) => .wait s
      | (false, s) => .fail .rejectedState 0 s) p s

/-- ADC_URGENT_TIMEOUT (R302): an ADC_URGENT without a result for 100 µs completes with TIMEOUT. -/
def urgentTimeout (c : Nat) (s : Device) : Device :=
  let late := fun (u : Urgent) => u.pend.isSome && u.at_ + usT 100 ≤ nowD s
  let v := convOf s c
  match (v.mute ++ v.urg).find? late with
  | some u =>
    match u.pend with
    | some p =>
      finish p .timeout 0 [] (modConv c (fun v => { v with
        mute := v.mute.filter (fun x => x != u)
        urg := v.urg.map (fun x => if x == u then { x with pend := none } else x) }) s)
    | none => s
  | none => s

/-! ## Ranges -/

/-- ADC_RANGE_WRITE (R263): a write to ADC_RANGEn. -/
def rangeWrite (n v : Nat) (s : Device) : Device :=
  let code := v % 8
  if s.clk.held.isSome then s else
  let s := hazard (0x80200 + 4 * n) s
  if 255 < n || 4 ≤ n % 8 || 4 < code then s
  else
    let old := (chanOf s n).range
    raise Ev.adcRangeSet [(1, n), (1, old), (1, code)] (modChan n (fun a => { a with
      range := code, settle := some (nowD s + usT 20), paramOwed := true, sum := 0, n := 0, clip := false }) s)

/-- RANGE_SETTLE_EXPIRY (R263): the channel rejoins the scans. -/
def rangeSettled (n : Nat) (s : Device) : Device :=
  if (chanOf s n).settle.any (fun t => t ≤ nowD s) then
    scanBoundary (n / 8) (modChan n (fun a => { a with settle := none }) s)
  else s

/-! ## Handover and calibration -/

/-- A handover of converter `c` to physical converter `p` at a scan boundary (R297). -/
def handover (c p : Nat) (s : Device) : Device :=
  let old := (convOf s c).phys
  raise Ev.adcHandover [(1, c), (1, old), (1, p)] (modConv c (fun v => { v with phys := p, swapTo := none }) s)

/-- CALIBRATION_TAKEOVER (R296, R297): at the scan boundary the spare takes over. -/
def calTakeover (c : Nat) (s : Device) : Device :=
  let v := convOf s c
  match v.cal with
  | some r =>
    if r.step = 0 && v.scan.isEmpty && !v.urgRun then
      scanBoundary c (handover c r.spare (modConv c (fun v => { v with cal := some { r with step := 1 } }) s))
    else s
  | none => s

/-- A fit is out of its limits (R296): reason 1 offset, 2 gain, 3 noise; `noise` is in thousandths of an LSB rms. -/
def fitFault (ofs16 : Int) (g noise : Nat) : Option Nat :=
  if 4096 < ofs16.natAbs then some 1
  else if 100 * g < 99 * 2 ^ 23 ∨ 101 * 2 ^ 23 < 100 * g then some 2
  else if 2000 < noise then some 3
  else none

/-- CALIBRATION_TABLE_FIT (R294, R296): the next table of the mask is measured; a good one goes into the Keep. -/
def calFit (c : Nat) (ofs16 : Int) (g noise : Nat) (s : Device) : Device :=
  match (convOf s c).cal with
  | some r =>
    match (List.range 5).find? (fun t => bit t r.left) with
    | some t =>
      if r.step ≠ 1 then s
      else
        let left := r.left - 2 ^ t
        let r' := { r with left := left, step := if left = 0 then 2 else 1 }
        match fitFault ofs16 g noise with
        | some why =>
          modConv c (fun v => { v with cal := some { r' with fail := match r.fail with | some f => some f | none => some (t, why) } }) s
        | none =>
          modConv c (fun v => { v with cal := some r' })
            { s with adc.cal := tset s.adc.cal (8 * r.owner + t) { ofs16, g } }
    | none => s
  | none => s

/-- CALIBRATION_HANDBACK (R296, R297): at the scan boundary the converter is handed back. Answers whether it was. -/
def calHandback (c : Nat) (s : Device) : Bool × Device :=
  let v := convOf s c
  match v.cal with
  | some r =>
    if r.step = 2 && v.scan.isEmpty && !v.urgRun then
      let s := handover c r.owner (modConv c (fun v => { v with cal := none }) s)
      let s := match r.fail with
        | some (t, why) => raise Ev.adcCalFail [(1, c), (1, r.owner), (1, t), (1, why)]
            { s with spr.calFailed := s.spr.calFailed ++ [r.owner] }
        | none => raise Ev.adcCalDone [(1, c), (1, r.owner), (1, r.mask)] s
      (true, scanBoundary c s)
    else (false, s)
  | none => (false, s)

/-- ADC_READ_CAL (R302). -/
def readCal (p : Pend) (s : Device) : CmdEnd :=
  let n := p.desc.target.toNat
  let ph := (convOf s n).phys
  let field := (List.range 5).map (fun t => flag t (tfind s.adc.cal (8 * ph + t)).isSome)
  let tabs := (List.range 5).flatMap (fun t =>
    le 4 (wrapInt 32 (calTable s ph t).ofs16) ++ le 4 (calTable s ph t).g)
  checked [
    .when (31 < n) .notFound 0,
    .bad { bufMin := 48, bufMax := 16777216 } []]
    (fun _ s => okBuf ph (le 1 ph ++ le 1 field.sum ++ le 6 0 ++ tabs) s) p s

/-- ADC_CLEAR_COUNTERS (R302, R304). -/
def adcClear (p : Pend) (s : Device) : CmdEnd :=
  let m := p.desc.p0.toNat
  checked [.bad { target := false, pmask := 1 } [(2 ^ 6 ≤ m, 24)]]
    (fun _ s => okWith 0 { s with adc := { s.adc with
      aborts := clr m 0 s.adc.aborts, urgents := clr m 1 s.adc.urgents, urgOvf := clr m 2 s.adc.urgOvf,
      slip := clr m 3 s.adc.slip, clips := clr m 4 s.adc.clips, lost := clr m 5 s.adc.lost } }) p s

/-! ## Load and commit -/

/-- A converter is enabled from instant `t` on; a PERIODIC start at `t` itself counts (R269, R275, R283). -/
def convStartUp (c : Nat) (t : STime) (s : Device) : Device :=
  scanBoundary c (modConv c (fun v => { v with lastStart := some (t - 1) }) s)

/-- A converter is disabled: partial sums and the scan go, queued urgent requests are dropped, the one converting
completes (R275, R277). -/
def convShutDown (c : Nat) (s : Device) : Device :=
  let v := convOf s c
  let keep := if v.urgRun then v.urg.take 1 else []
  let s := (List.range 8).foldl (fun s k => modChan (8 * c + k) (fun a => { a with sum := 0, n := 0, clip := false }) s) s
  let s := modConv c (fun v => { v with scan := [], deferred := false, urg := keep }) s
  (v.urg.drop keep.length).foldl (fun s u =>
    let s := { s with adc.urgOvf := s.adc.urgOvf + 1 }
    match u.pend with
    | some p => finish p .rejectedState 0 [] s
    | none => raise Ev.adcUrgOvf [(1, 8 * c + u.chan)] s) s

/-- Converters and buffers across a commit or a restart that changes records at `t` (R269, R275, R277, R283). `old` gives the
records before it. A converter that stays enabled starts a scan where CONTINUOUS now has one to make, and takes PERIODIC starts
from `t` on. -/
def commitAdc (t : STime) (old : Nat → List Byte) (s : Device) : Device :=
  (objsOf s 0x08 1).foldl (fun s c =>
    let o := fld 0 1 (old c)
    let n := fld 0 1 (convRec s c)
    let s := if bit 4 n && !bit 4 o then modAbuf c (fun b => { b with anchor := true }) s else s
    if bit 0 n && !bit 0 o then convStartUp c t s
    else if bit 0 o && !bit 0 n then convShutDown c s
    else if bit 0 n && old c != convRec s c then
      scanBoundary c (modConv c (fun v => { v with lastStart := some (max (v.lastStart.getD 0) (t - 1)) }) s)
    else s) s

/-- ADC as CFG_LOAD_BASE and a restart from it leave it: ranges of the base image, fresh sums, buffers enabled
(R264, R283, R291). A buffer that changes its size begins empty, so that its pointers delimit its records (R286; DESIGN CHOICE,
log 85). `size` gives BUF_LOG2 before. -/
def loadAdc (t : STime) (size : Nat → Nat) (s : Device) : Device :=
  let s := { s with
    adc.chans := (objsOf s 0x08 2).map (fun n => (n, { chanOf s n with
      range := fld 0 1 (recNow s 0x08 2 n) % 8, sum := 0, n := 0, clip := false, settle := none, paramOwed := false }))
    adc.convs := tmap s.adc.convs (fun _ v => { v with scan := [], deferred := false, lastStart := none })
    adc.bufs := tmap s.adc.bufs (fun c b =>
      if size c = fld 13 1 (convRec s c) then { b with anchor := true } else { lost := b.lost : AdcBuf }) }
  (objsOf s 0x08 1).foldl (fun s c => if convEnabled s c then convStartUp c t s else s) s

/-- ADC_CONVc (Table ADC-11). -/
def adcConvReg (s : Device) (c : Nat) : Nat :=
  let v := convOf s c
  v.phys + flag 8 (convEnabled s c) + flag 9 (!v.scan.isEmpty) + flag 10 (v.phys != c) + flag 11 v.cal.isSome

/-- ADC_BSIZEc (Table ADC-11). -/
def adcBsize (s : Device) (c : Nat) : Nat :=
  let b := convRec s c
  fld 13 1 b + flag 8 (bit 4 (fld 0 1 b)) + flag 9 (bit 4 (fld 0 1 b) && abufFree s c == 0)

/-! ## The rows of the table of operations -/

/-- CONVERSION_END (R267): A conversion ends, and its sample is corrected, summed and, where a result is due,
emitted. -/
def execConversionEnd (c : Nat) (raw : Int) (at_ : STime) (s : State) : Host.Outcome State Fault Refusal :=
  .next { s with dev := conversionEnd c raw at_ s.dev }

/-- SCAN_START (R269): A periodic or triggered scan start begins a scan, or is deferred or dropped. -/
def execScanStart (c : Nat) (s : State) : Host.Outcome State Fault Refusal :=
  .next { s with dev := scanStart c s.dev }

/-- URGENT_PIN_REQUEST (R276): An edge on URG_PIN requests an urgent conversion. -/
def execUrgentPinRequest (e : PinEdge) (s : State) : Host.Outcome State Fault Refusal :=
  .next { s with dev := urgentPin e.conv e.rising s.dev }

/-- ADC_RANGE_WRITE (R263): A write to ADC_RANGEn switches a channel's front end and raises ADC_RANGE_SET. -/
def execAdcRangeWrite (n v : Nat) (s : State) : Host.Outcome State Fault Refusal :=
  .next { s with dev := rangeWrite n v s.dev }

/-- RANGE_SETTLE_EXPIRY (R263): t_RANGE_SETTLE after a range write, the channel rejoins the scans. -/
def execRangeSettleExpiry (n : Nat) (s : State) : Host.Outcome State Fault Refusal :=
  .next { s with dev := rangeSettled n s.dev }

/-- CALIBRATION_TABLE_FIT (R296): The converter finishes measuring and fitting a correction table. -/
def execCalibrationTableFit (c : Nat) (ofs16 : Int) (g noise : Nat) (s : State) : Host.Outcome State Fault Refusal :=
  .next { s with dev := calFit c ofs16 g noise s.dev }

/-- ADC_URGENT (R276): Requests an urgent conversion and completes with its data word. -/
def execAdcUrgent (d : Desc) (s : State) : Host.Outcome State Fault Refusal :=
  .next { s with dev := runCmd adcUrgent d s.dev }

/-- ADC_READ_CAL (R302): Returns the correction tables of a logical converter. -/
def execAdcReadCal (d : Desc) (s : State) : Host.Outcome State Fault Refusal :=
  .next { s with dev := runCmd readCal d s.dev }

/-- ADC_CLEAR_COUNTERS (R302): Clears the selected ADC counters. -/
def execAdcClearCounters (d : Desc) (s : State) : Host.Outcome State Fault Refusal :=
  .next { s with dev := runCmd adcClear d s.dev }

/-- ADC_URGENT_TIMEOUT (R302): ADC_URGENT with no result within 100 µs completes with TIMEOUT. -/
def execAdcUrgentTimeout (c : Nat) (s : State) : Host.Outcome State Fault Refusal :=
  .next { s with dev := urgentTimeout c s.dev }

end Sys2Proof.Machine
end

