-- ==== Sys2Proof/Machine/Reserve.lean ====
section
/-!
DEFINITION. Machine/Reserve.lean: spare pools, substitution and the arbiter of maintenance activities
(19_reserves_maintenance).
-/
namespace Sys2Proof.Machine

/-! ## Pools (Table SPR-1): 0 LANE, 1 CORE, 2 ADC, 3 BTR_D, 4 BTR_S, 5 KEEP, 6 DRAM_SOFT, 7 DRAM_HARD -/

/-- The key of a unit in the retirement map. -/
def unitKey (kind unit : Nat) : Nat := 65536 * kind + unit

/-- The pool that serves a unit of a kind 0 LANE, 1 CORE, 2 ADC, 3 BTR, 4 KEEP, 5 DRAM. -/
def poolOf (kind unit : Nat) : Nat :=
  match kind with
  | 3 => if unit < 5 then 3 else 4
  | 4 => 5
  | 5 => 6
  | k => k

/-- The kind of the units of a pool. -/
def kindOf (pool : Nat) : Nat :=
  match pool with
  | 3 | 4 => 3
  | 5 => 4
  | 6 | 7 => 5
  | k => k

def retired (s : Device) (kind unit : Nat) : Bool := s.spr.retired.contains (unitKey kind unit)

/-- One direction of the Buttress link. -/
def btrDir (s : Device) (d : Nat) : BtrDir := tget s.btr.dirs d {}

/-- Healthy units of a pool that serve nothing, in rising order: lanes, cores, converters and sectors by number, link
lanes by unit number, and as many row numbers as rows are free. -/
def spares (s : Device) (pool : Nat) : List Nat :=
  match pool with
  | 0 => (List.range 18).filter (fun l => bit l s.dpt.spare)
  | 1 => (List.range 9).filter (fun l => bit l s.pgm.spare)
  | 2 => s.spr.adcFree.filter (fun p => !(List.range 32).any (fun c => physConv s c == p))
  | 3 | 4 =>
    let d := pool - 3
    let b := btrDir s d
    ((List.range 5).filter (fun l => !bit l b.lanes && !bit l b.failed && !retired s 3 (5 * d + l))).map (5 * d + ·)
  | 5 => (List.range s.spr.keepFree).map (1152 - s.spr.keepFree + ·)
  | 6 => (List.range (64 - s.spr.softRows.length)).map (s.spr.softRows.length + ·)
  | _ => (List.range 256).filter (fun k => !s.spr.hardUsed.contains k)

/-- The spare of a pool that a running activity holds (R718): a swap the one it was admitted with, and an activity on the
Keep or on DRAM rows, whose spares are told apart by their order alone, the last one free. -/
def heldBy (s : Device) (pool : Nat) (a : Activity) : Option Nat :=
  if pool = 5 ∧ (a.code = 3 ∨ (a.code = 1 ∧ a.kind = 4)) ∨ pool = 6 ∧ a.code = 4 then (spares s pool).getLast?
  else if a.code = 1 ∧ poolOf a.kind a.unit = pool then a.spare
  else none

/-- Spares that running activities hold (R718). -/
def heldSpares (s : Device) (pool : Nat) : List Nat := s.spr.acts.filterMap (fun e => heldBy s pool e.2)

/-- A pool has just been left with one free spare or none (R727). -/
def poolNotice (pool : Nat) (s : Device) : Device :=
  match (spares s pool).length with
  | 0 => raise Ev.sprPoolEmpty [(1, kindOf pool), (2, 0xFFFF)] s
  | 1 =>
    let (n, s) := draw s
    raise Ev.sprWearWarn [(1, kindOf pool), (2, 0xFFFF), (2, (Config.poolWarnValue n).toNat)] s
  | _ => s

/-! ## Lanes -/

def popcount (m : Nat) : Nat := (List.range 18).countP (fun l => bit l m)

/-- The schedulability test over the lanes now active (R182, R184). -/
def retestLoad (s : Device) : Device :=
  match firstFailingSlot (viewNow s) (popcount s.dpt.active) (clockQ (envelope s) s.clk.forceLow) with
  | none => { s with dpt.unsched := false }
  | some slot =>
    raise Ev.dptUnschedulable [(2, slot), (1, envelope s)] { s with dpt.unsched := true }

/-- SPR fills the empty active positions with free spares (R234); the fuel bounds how many. -/
def fillLanes : Nat → Device → Device
  | 0, s => s
  | n + 1, s =>
    if envLanes (envelope s) ≤ popcount s.dpt.active then s
    else match (spares s 0).find? (fun l => !(heldSpares s 0).contains l) with
      | none => s
      | some l =>
        fillLanes n { s with dpt.active := s.dpt.active + 2 ^ l, dpt.spare := s.dpt.spare - flag l (bit l s.dpt.spare) }


/-- Fills the empty positions at once, whatever made the spares free (R234), with the notice of a pool that this leaves
with one spare or none (R727), and tests the load again when the number of active lanes has changed (R184). -/
def refillLanes (before : Nat) (s : Device) : Device :=
  let t := fillLanes 18 s
  let t := if (spares t 0).length < (spares s 0).length then poolNotice 0 t else t
  if popcount t.dpt.active = popcount before then t else retestLoad t

/-! ## The arbiter -/

/-- What an activity occupies (Table SPR-4): (0, unit), (1, pool), (2, logical converter), (3, 0) the Keep scan, (4, 0)
MEM, (5, 0) the time unit, (6, 0) the boot flash. -/
def footprint (code kind unit : Nat) : List (Nat × Nat) :=
  match code with
  | 1 => [(0, unitKey kind unit), (1, poolOf kind unit)]
  | 2 => [(2, unit), (1, 2)]
  | 3 => [(3, 0), (1, 5)]
  | 4 => [(4, 0), (1, 7), (1, 6)]
  | 5 => [(5, 0)]
  | _ => [(6, 0)]

/-- Two activities form a pair of Table SPR-5; a swap counts with its kind. -/
def conflictPair (c k c' k' : Nat) : Bool :=
  let one := fun (c _k c' k' : Nat) =>
    (c == 4 && c' == 6) || (c == 4 && c' == 1 && k' ≤ 1) || (c == 3 && c' == 6)
  one c k c' k' || one c' k' c k

/-- Whether an activity is admitted, and the DETAIL of the refusal (R719). -/
def refusal (code kind unit : Nat) (s : Device) : Option Nat :=
  let foot := footprint code kind unit
  if 4 ≤ s.spr.acts.length then some 0
  else match s.spr.acts.find? (fun e =>
      (footprint e.2.code e.2.kind e.2.unit).any (fun f => foot.contains f) ||
      conflictPair code kind e.2.code e.2.kind) with
    | some e => some e.2.handle
    | none => if foot.any (fun f => f.1 == 1 && (spares s f.2).isEmpty) then some 0 else none

/-- Admits an activity: its handle and slot (R719, R720), or the DETAIL of BUSY_CONFLICT. -/
def admitActivity (code kind unit cause : Nat) (spare : Option Nat) (s : Device) : Except Nat Nat × Device :=
  match refusal code kind unit s with
  | some d => (.error d, { s with spr.refused := s.spr.refused + 1 })
  | none =>
    let h := s.spr.handle % 255 + 1
    let slot := ((List.range 4).find? (fun k => (tfind s.spr.acts k).isNone)).getD 0
    (.ok h, { s with
      spr.handle := h
      spr.acts := tset s.spr.acts slot { code, kind, unit, handle := h, cause, spare, from_ := s.tim.ck } })

/-- Admits a wear-driven or requested swap and sets it going (R712, R716). A converter's swap waits for its scan
boundary. -/
def startSwap (kind unit cause : Nat) (s : Device) : Except Nat Nat × Device :=
  let spare := (spares s (poolOf kind unit)).head?
  let (r, s) := admitActivity 1 kind unit cause spare s
  match r, kind with
  | .ok h, 2 =>
    match (List.range 32).find? (fun c => physConv s c == unit) with
    | some c => (.ok h, { s with adc.convs := tmod s.adc.convs c { phys := c } (fun v => { v with swapTo := spare }) })
    | none => (.ok h, s)
  | r, _ => (r, s)

/-- Deferred wear swaps are submitted again, in order; those still refused stay (R717). -/
def resubmit : List Nat → Device → Device
  | [], s => s
  | k :: rest, s =>
    match startSwap (k / 65536) (k % 65536) 2 s with
    | (.ok _, s) => resubmit rest { s with spr.deferred := s.spr.deferred.erase k }
    | (.error _, s) => resubmit rest s

/-- An activity releases its footprint: 0 done, 1 aborted, 2 failed (R717, R720). A lane it held fills a position of the
envelope that is empty (R234). While the Spire die is down the event
waits for its return (R721). -/
def endActivity (slot status : Nat) (s : Device) : Device :=
  match tfind s.spr.acts slot with
  | none => s
  | some a =>
    let s := { s with spr.acts := tdel s.spr.acts slot }
    let s := if a.code = 1 ∧ a.kind = 0 then refillLanes s.dpt.active s else s
    if s.btr.spireUp then
      resubmit s.spr.deferred (raise Ev.sprActivityEnd [(1, a.handle), (1, a.code), (1, status)] s)
    else { s with spr.endsDue := s.spr.endsDue ++ [(a.handle, a.code, status)] }

/-- The slot of the running activity of a code for a unit. -/
def actSlot (s : Device) (code kind unit : Nat) : Option Nat :=
  (s.spr.acts.find? (fun e => e.2.code == code && e.2.kind == kind && e.2.unit == unit)).map (·.1)

/-- Ends the running activity of a code for a unit. -/
def endOf (code kind unit status : Nat) (s : Device) : Device :=
  match actSlot s code kind unit with
  | some slot => endActivity slot status s
  | none => s

/-! ## Substitution -/

/-- A unit enters the map of retired units (R709, R710), and no wear swap of it is wanted any more (R717); a logical
sector enters it once for each sector it loses. What serves under its number later is watched anew (R711). -/
def retire (kind unit : Nat) (s : Device) : Device :=
  let k := unitKey kind unit
  { s with
    spr.retired := if s.spr.retired.contains k && kind != 4 then s.spr.retired else s.spr.retired ++ [k]
    spr.warned := s.spr.warned.erase k
    spr.deferred := s.spr.deferred.erase k }

/-- A spare leaves its pool; a row of the reserved region, and a link lane, leave theirs where they are put in service. -/
def leavePool (kind spare : Nat) (s : Device) : Device :=
  match kind with
  | 0 => { s with dpt.spare := s.dpt.spare - flag spare (bit spare s.dpt.spare) }
  | 1 => { s with pgm.spare := s.pgm.spare - flag spare (bit spare s.pgm.spare) }
  | 2 => { s with spr.adcFree := s.spr.adcFree.erase spare }
  | 4 => { s with spr.keepFree := s.spr.keepFree - 1 }
  | _ => s

/-- A swap is complete: the map, the count and the event (R710, Table SPR-9). -/
def swapDone (kind unit spare cause : Nat) (s : Device) : Device :=
  raise Ev.sprSwapDone [(1, kind), (2, unit), (2, spare), (1, cause)]
    (retire kind unit { s with spr.swaps := s.spr.swaps + 1 })

/-- The spare a fault-driven swap takes: a free one, else one that a running activity holds, which is aborted (R712,
R713). -/
def takeSpare (kind unit : Nat) (s : Device) : Option Nat × Device :=
  let pool := poolOf kind unit
  let all := spares s pool
  let held := heldSpares s pool
  match all.find? (fun x => !held.contains x) with
  | some x => (some x, leavePool kind x s)
  | none =>
    match all.head? with
    | none => (none, s)
    | some x =>
      match s.spr.acts.find? (fun e => heldBy s pool e.2 == some x) with
      | some e => (some x, endActivity e.1 1 (leavePool kind x s))
      | none => (some x, leavePool kind x s)

/-- A fault-driven swap: the spare that serves in the unit's place, put in service by `install`, or none (R712 to R714,
R727). A DRAM row that no spare replaces stays in service and out of the map. -/
def faultSwap (kind unit : Nat) (install : Nat → Device → Device) (s : Device) : Option Nat × Device :=
  match takeSpare kind unit { s with spr.deferred := s.spr.deferred.erase (unitKey kind unit) } with
  | (some x, s) => (some x, poolNotice (poolOf kind unit) (swapDone kind unit x 1 (install x s)))
  | (none, s) => (none, raise Ev.sprPoolEmpty [(1, kind), (2, unit)] (if kind = 5 then s else retire kind unit s))

/-- A lane that has reported an error, or been disabled, leaves the active set, and a spare fills its position (R177,
R234, R712, R714). -/
def faultLane (l : Nat) (s : Device) : Device :=
  let before := s.dpt.active
  if !bit l before then s
  else
    let s := endOf 1 0 l 1 s
    let s := { s with dpt.active := s.dpt.active - flag l (bit l s.dpt.active) }
    let (_, s) := faultSwap 0 l (fun x s => { s with dpt.active := s.dpt.active + 2 ^ x }) s
    refillLanes before s

/-- A Keep sector fails a write's verify; answers whether a spare replaced it (R591, R712). -/
def faultSector (sector : Nat) (s : Device) : Bool × Device :=
  let (x, s) := faultSwap 4 sector (fun _ s => s) (endOf 1 4 sector 1 s)
  (x.isSome, s)

/-- A logical sector outside the event region and the hot region (Table KEP-1). -/
def storeSector (sec : Nat) : Bool := sec < 15 || (47 ≤ sec && sec ≤ 686)

/-- A command writes into the Keep; the writes of the sectors of `bad` fail their verify. Where no spare replaces one of them the
write is not completed, and the command completes with DATA_ERROR (R591, R712, R723). -/
def keepWrite (bad : List Nat) (f : Device → CmdEnd) (s : Device) : CmdEnd :=
  let (ok, s) := (bad.filter storeSector).foldl
    (fun (r : Bool × Device) sec => let (x, s) := faultSector sec r.2; (r.1 && x, s)) (true, s)
  if ok then f s else .fail .dataError 0 s

end Sys2Proof.Machine
end

