-- ==== Sys2Proof/Machine/Shake.lean ====
section
/-!
DEFINITION. Machine/Shake.lean: SHAKE256, which the security chapter names (R752, R754). PRESUMED: the function is that
of FIPS 202 (log 27).
-/
namespace Sys2Proof.Machine

/-- Rotation amounts of the 25 lanes: the walk from lane (1, 0) visits each other lane once, and its step number t gives
the amount (t + 1) (t + 2) / 2. -/
def keccakRot : List Nat :=
  ((List.range 24).foldl (fun (w : List Nat × Nat × Nat) t =>
    (w.1.set (w.2.1 + 5 * w.2.2) ((t + 1) * (t + 2) / 2 % 64), w.2.2, (2 * w.2.1 + 3 * w.2.2) % 5))
    (List.replicate 25 0, 1, 0)).1

/-- One step of the shift register x⁸ + x⁶ + x⁵ + x⁴ + 1 that makes the round constants. -/
def rcStep (r : Nat) : Nat := if 128 ≤ r then (2 * r) ^^^ 0x171 else 2 * r

/-- The constant of the round that starts at register value `r`: seven output bits, bit j at place 2^j - 1. -/
def rcFrom (r : Nat) : Nat × Nat :=
  (List.range 7).foldl (fun a j => (a.1 + (a.2 % 2) * 2 ^ (2 ^ j - 1), rcStep a.2)) (0, r)

/-- The constants of `n` rounds. -/
def keccakRcs : Nat → Nat → List DWord
  | 0, _ => []
  | n + 1, r => BitVec.ofNat 64 (rcFrom r).1 :: keccakRcs n (rcFrom r).2

/-- Round constants. -/
def keccakRc : List DWord := keccakRcs 24 1

/-- One round of the permutation. -/
def keccakRound (a : List DWord) (rc : DWord) : List DWord :=
  let at_ := fun (l : List DWord) (i : Nat) => l.getD i 0
  let column := fun (x : Nat) => (List.range 5).foldl (fun p y => p ^^^ at_ a (x % 5 + 5 * y)) 0
  let c := (List.range 5).map column
  let d := (List.range 5).map fun x => at_ c ((x + 4) % 5) ^^^ (at_ c ((x + 1) % 5)).rotateLeft 1
  let t := (List.range 25).map fun i => (at_ a i ^^^ at_ d (i % 5)).rotateLeft (keccakRot.getD i 0)
  let b := (List.range 25).map fun i => at_ t ((i % 5 + 3 * (i / 5)) % 5 + 5 * (i % 5))
  let r := (List.range 25).map fun i =>
    let y := i / 5 * 5
    at_ b i ^^^ (~~~ at_ b (y + (i + 1) % 5) &&& at_ b (y + (i + 2) % 5))
  match r with
  | [] => []
  | h :: rest => (h ^^^ rc) :: rest

/-- The permutation. -/
def keccakF (a : List DWord) : List DWord := keccakRc.foldl keccakRound a

/-- Bytes as 64-bit lanes; the fuel is the number of lanes. -/
def lanesOf : Nat → List Byte → List DWord
  | 0, _ => []
  | n + 1, b => BitVec.ofNat 64 (unle (b.take 8)) :: lanesOf n (b.drop 8)

/-- Absorbs whole blocks of 136 bytes. -/
def absorb : Nat → List Byte → List DWord → List DWord
  | 0, _, a => a
  | n + 1, b, a => absorb n (b.drop 136) (keccakF (List.zipWith (· ^^^ ·) a (lanesOf 25 (padTo 200 (b.take 136)))))

/-- Squeezes blocks of 136 bytes. -/
def squeeze : Nat → List DWord → List Byte
  | 0, _ => []
  | n + 1, a => ((a.take 17).flatMap (fun l => le 8 l.toNat)) ++ squeeze n (keccakF a)

/-- The first `n` bytes of the SHAKE256 output over a message. -/
def shake256 (n : Nat) (m : List Byte) : List Byte :=
  let r := m.length % 136
  let pad := if r = 135 then [0x9F#8] else [0x1F#8] ++ List.replicate (134 - r) 0#8 ++ [0x80#8]
  let m := m ++ pad
  (squeeze ((n + 135) / 136) (absorb (m.length / 136) m (List.replicate 25 0))).take n

end Sys2Proof.Machine
end

