-- ==== Sys2Proof/Machine/Sign.lean ====
section
/-!
DEFINITION. Machine/Sign.lean: signature blocks (R753 to R755).
-/
namespace Sys2Proof.Machine

/-- The contents of a key slot; all zero is unprogrammed (Table SEC-1). -/
def otpKey (s : Device) (k : Nat) : List Byte := tget s.sec.otp.keys k (padTo 64 (Config.otpKey k))
def keyProgrammed (s : Device) (k : Nat) : Bool := (otpKey s k).any (· != 0#8)

/-- A key slot is programmed and not revoked (R754). -/
def keyUsable (s : Device) (k : Nat) : Bool := keyProgrammed s k && !bit k s.sec.otp.revoked

/-- The public key hashes to a key slot (R754). -/
def keyMatches (s : Device) (k : Nat) (pub : List Byte) : Bool := shake256 64 pub == otpKey s k

/-- DEVICE_ID (R764). -/
def deviceId : List Byte := shake256 16 Config.identityKey

/-- The first check of R754 that the block at `off` of an image fails. `role` is 0 BOOT, 1 APP or 2 SAFETY; `svn` is the
counter of the image kind. A SIG_LEN outside 1 to 1,280 names no signature and fails check 6 (DEDUCED, log 99). -/
def sigFault (s : Device) (img : List Byte) (off role svn : Nat) : Option Nat :=
  let b := (img.drop off).take 3096
  let k := fld 6 1 b
  let pub := (b.drop 16).take 1793
  if b.length < 3096 ∨ fld 0 4 b ≠ 0x47535A4B ∨ fld 4 1 b ≠ 1 then some 1
  else if fld 5 1 b ≠ role then some 2
  else if k / 4 ≠ role ∨ !keyUsable s k then some 3
  else if !keyMatches s k pub then some 4
  else if fld 7 1 b < tget s.sec.otp.svn svn 0 then some 5
  else if fld 8 2 b = 0 ∨ 1280 < fld 8 2 b ∨
      !Config.falconVerify pub (shake256 64 (img.take off) ++ b.take 16) ((b.drop 1816).take (fld 8 2 b)) then some 6
  else none

/-- APP_SIGNED (Table SEC-1). -/
def appSigned (s : Device) : Bool := bit 0 s.sec.otp.policy

/-- The signature of a loaded image: the block at `off`, or no block when `off` is 0. A failure is named by
SEC_IMAGE_REJECT; the answer tells whether the image is accepted (R755). -/
def checkSigned (img : List Byte) (off role svn kind : Nat) (required : Bool) (s : Device) : Bool × Device :=
  let bad := fun (c : Nat) => (false, raise Ev.secImageReject [(1, (Config.imageKindCode kind).toNat), (1, c)] s)
  if off = 0 then (if required then bad 1 else (true, s))
  else match sigFault s img off role svn with
    | some c => bad c
    | none => (true, s)


/-- An access scope is open: 0 DEBUG, 1 TEST, 2 MAINT, 3 PROVISION (Table SEC-7). -/
def scopeOpen (s : Device) (k : Nat) : Bool := (tfind s.sec.scopes k).any (fun till => s.tim.ck < till)

/-- A command of the MAINT scope while it is closed (R767). -/
def needMaint (s : Device) : Bool := !scopeOpen s 2

end Sys2Proof.Machine
end

