-- ==== Sys2Proof/Machine/Evr.lean ====
section
/-!
DEFINITION. Machine/Evr.lean: raising, admission, the event region, the last-gasp store and the commands of the event
recorder (17_recording_events).
-/
namespace Sys2Proof.Machine

/-- EVENT_RAISE (R664, R665, R668, R673): a block raises an event of a code its table lists. -/
def eventRaise (code : Nat) (payload : List Byte) (s : Device) : Device :=
  if sevOf code = 0 then s
  else
    let s := raiseAt (if spireCode code then nowS s else nowD s) code payload s
    if evBlock code = 0 && 5 ≤ sevOf code then signalVector s.hif.errVec s else s

/-- A record comes before another in the order of admission; the earlier raised wins a tie (R666). -/
def evBefore (a b : EvWait) : Bool :=
  a.rec_.time < b.rec_.time || (a.rec_.time == b.rec_.time && a.blk < b.blk)

/-- The waiting record that is admitted next (R666). -/
def evNext : List EvWait → Option EvWait
  | [] => none
  | w :: rest =>
    match evNext rest with
    | none => some w
    | some v => some (if evBefore v w then v else w)

/-- Usable slots (EVR_SLOTS). -/
def evSlots (s : Device) : Nat := 65536 - 2048 * s.evr.retiredSectors.length

/-- The order of records across runs (R666). -/
def slotBefore (a b : EvSlot) : Bool :=
  a.run < b.run || (a.run == b.run && (a.rec_.time < b.rec_.time ||
    (a.rec_.time == b.rec_.time && a.rec_.seq.toNat < b.rec_.seq.toNat)))

/-- The lowest free number, from `k` on, of a rising table, passing over what `skip` names. -/
def firstFree (skip : Nat → Bool) : Nat → Nat → Tab EvSlot → Option Nat
  | 0, _, _ => none
  | n + 1, k, t =>
    if skip k then firstFree skip n (k + 1) (t.dropWhile (fun e => e.1 ≤ k))
    else match t with
      | [] => some k
      | e :: rest => if k < e.1 then some k else firstFree skip n (k + 1) rest

/-- An empty slot in a sector that is not retired (R670). -/
def emptySlot (s : Device) : Option Nat :=
  firstFree (fun k => s.evr.retiredSectors.contains (k / 2048)) 65536 0 s.evr.region

/-- The slot of the oldest of some records (R666). -/
def oldestSlot (l : Tab EvSlot) : Option Nat :=
  (l.foldl (fun (a : Option (Nat × EvSlot)) e =>
    match a with | none => some e | some b => if slotBefore e.2 b.2 then some e else some b) none).map (·.1)

/-- The oldest record whose slot a record of severity `sev` may take (R670, R672). -/
def eligible (s : Device) (sev : Nat) : Option Nat :=
  oldestSlot (s.evr.region.filter (fun e => e.2.rec_.sev ≤ sev && (e.2.run != s.evr.run || e.2.at_ + msT 10 ≤ nowD s)))

/-- The slot a record goes to. -/
def slotFor (s : Device) (sev : Nat) : Option Nat :=
  match emptySlot s with
  | some k => some k
  | none => eligible s sev

def putSlot (k : Nat) (r : EvRec) (s : Device) : Device :=
  { s with evr.region := tset s.evr.region k { rec_ := r, at_ := nowD s, run := s.evr.run } }

/-- A record enters the last-gasp store; the oldest leaves a full one (R676). -/
def lastGaspPut (r : EvRec) (s : Device) : Device :=
  let l := s.evr.lastGasp ++ [r]
  { s with evr.lastGasp := l.drop (l.length - 16) }

/-- The next record admitted: SEQ, RUN and, when it is written to the region, DROPS (R664, R666, R671). -/
def stampRec (r : EvRec) (written : Bool) (s : Device) : EvRec × Device :=
  ({ r with seq := s.evr.seq,
            flags := r.flags + flag 0 (written && s.evr.dropsOwed) + (s.evr.run % 16) * 8 },
   { s with evr.seq := s.evr.seq + 1, evr.lastTime := r.time,
            evr.dropsOwed := !written && s.evr.dropsOwed })

/-- No slot is eligible: the record goes to the event ring only (R670). -/
def dropRecord (r : EvRec) (s : Device) : Device :=
  let (r, s) := stampRec r false s
  offerEvent r { s with
    evr.drops := tmod s.evr.drops r.sev 0 (· + 1), evr.dropsOwed := true }

/-- The numbers of the slots of one sector of the region. -/
def sectorSlots (sec : Nat) : List Nat := (List.range 2048).map (2048 * sec + ·)

/-- The EVR_SECTOR_REMAP record, stamped as the record whose write failed (R675). -/
def remapRec (t : STime) (sec spare lost : Nat) : EvRec :=
  { time := t, code := Ev.evrSectorRemap, sev := sevOf Ev.evrSectorRemap,
    payload := packFields 8 [(2, 15 + sec), (2, spare), (2, lost)] }

/-- The records of a failed sector that go into the spare after two others: of a full sector the oldest gives way (R675; DESIGN
CHOICE, log 97). -/
def sectorFit (l : Tab EvSlot) : Tab EvSlot :=
  if l.length ≤ 2046 then l else l.filter (fun e => some e.1 != oldestSlot l)

/-- The verify of the write of `r` to slot `k` fails, and records in `unread` cannot be read (R675, R677). -/
def sectorFails (k : Nat) (r : EvRec) (unread : List Nat) (s : Device) : Device :=
  let sec := k / 2048
  let old := s.evr.region.filter (fun e => e.1 / 2048 == sec && e.1 != k)
  let (x, s) := faultSwap 4 (15 + sec) (fun _ s => s) (endOf 1 4 (15 + sec) 1 (pmcEdge 0x12 0x03 0 s))
  match x with
  | some spare =>
    let read_ := old.filter (fun e => !unread.contains e.1)
    let good := (sectorFit read_).map (·.2)
    let lost := old.length - read_.length
    let s := { s with
      evr.region := s.evr.region.filter (fun e => e.1 / 2048 != sec)
      evr.crcBad := s.evr.crcBad + BitVec.ofNat 32 lost, evr.remaps := s.evr.remaps + 1 }
    let (m, s) := stampRec (remapRec r.time sec spare lost) true s
    let own := [m, r].map (fun r => { rec_ := r, at_ := nowD s, run := s.evr.run : EvSlot })
    let s := { s with evr.region := ((sectorSlots sec).zip (own ++ good)).foldl (fun t e => tset t e.1 e.2) s.evr.region }
    offerEvent m (offerEvent r (lastGaspPut m s))
  | none =>
    let (n, s) := draw s
    let s := { s with
      evr.region := s.evr.region.filter (fun e => e.1 / 2048 != sec)
      evr.retiredSectors := s.evr.retiredSectors ++ [sec], evr.retired := s.evr.retired + 1, evr.degraded := true }
    let (m, s) := stampRec (remapRec r.time sec (Config.remapNoSpare n).toNat (old.length + 1)) false s
    let s := offerEvent m (offerEvent r (lastGaspPut m { s with evr.dropsOwed := true }))
    raise Ev.evrLogDegraded [(2, 15 + sec), (2, evSlots s)] s

/-- A record is admitted (R666, R670, R671): `ok` tells whether the verify of its write succeeds. -/
def admitRecord (r : EvRec) (ok : Bool) (unread : List Nat) (s : Device) : Device :=
  match slotFor s r.sev with
  | none => dropRecord r s
  | some k =>
    let (r, s) := stampRec r true s
    if ok then offerEvent r (putSlot k r s) else sectorFails k r unread s

/-- EVENT_ADMISSION (R666, R667): the record due next, once no record with an earlier time stamp can still arrive; one
that comes too late is counted in EVR_XLOST. -/
def eventAdmission (ok : Bool) (unread : List Nat) (s : Device) : Device :=
  match evNext s.evr.queue with
  | none => s
  | some w =>
    if nowD s ≤ w.rec_.time then s
    else
      let s := { s with evr.queue := s.evr.queue.erase w }
      if w.rec_.time < s.evr.lastTime then
        { s with evr.xlost := s.evr.xlost + 1, evr.dropsOwed := true }
      else admitRecord w.rec_ ok unread s

/-- SUMMARY_TIMEOUT (R669). -/
def summaryTimeout (code : Nat) (s : Device) : Device :=
  match tfind s.evr.sums code with
  | none => s
  | some q => if q.first + secT 1 ≤ nowD s then issueSummary code (q.first + secT 1) s else s

/-- The Buttress link goes down: EVR stops waiting for Spire blocks, and Spire records that have not crossed are lost
(R667). Records in the queue have crossed. -/
def evrLinkDown (s : Device) : Device := { s with evr.spireClosed := true }
def evrLinkUp (s : Device) : Device := { s with evr.spireClosed := false }

/-- Every waiting record is admitted, oldest first; the fuel bounds how many. -/
def evrFlush : Nat → Device → Device
  | 0, s => s
  | n + 1, s =>
    match evNext s.evr.queue with
    | none => s
    | some w =>
      let s := { s with evr.queue := s.evr.queue.erase w }
      evrFlush n (if w.rec_.time < s.evr.lastTime then s else admitRecord w.rec_ true [] s)

/-- A run begins with EVR_BOOT, SEQ 0 (R666): `cause` is 1 power loss, 2 RESET_N or 6 Dome watchdog. -/
def evrBoot (cause : Nat) (s : Device) : Device :=
  let run := s.kep.restarts.toNat
  let s := { s with evr := {
    seq := 0, booted := true, region := s.evr.region, retiredSectors := s.evr.retiredSectors,
    lastGasp := s.evr.lastGasp, run } }
  admitRecord { time := nowD s, code := Ev.evrBoot, sev := sevOf Ev.evrBoot,
                payload := packFields 8 [lo32 run, (1, 0xFF), (1, cause)] } true [] s

/-! ## Commands (Table EVR-4) -/

/-- The slots of the region in the order of R666. -/
def regionOrder (t : Tab EvSlot) : List (Nat × EvSlot) :=
  t.foldl (fun l e => l.takeWhile (fun x => !slotBefore e.2 x.2) ++ [e] ++ l.dropWhile (fun x => !slotBefore e.2 x.2)) []

/-- EVR_EXPORT (R674, R679): slots in `bad` fail their CRC. -/
def evrExport (bad : List Nat) (p : Pend) (s : Device) : CmdEnd :=
  let d := p.desc
  checked [
    .bad { target := false, pmask := 3 } [(2 ≤ d.p1.toNat, 28)],
    .when ((windowOf s 0x1200).isNone || s.evr.export_.isSome) .rejectedState 0]
    (fun p s =>
      let want := (regionOrder s.evr.region).filter (fun e =>
        d.p1 == 1 || (e.2.run == s.evr.run && d.p0.toNat ≤ e.2.rec_.seq.toNat))
      let good := want.filter (fun e => !bad.contains e.1)
      let s := { s with evr.crcBad := s.evr.crcBad + BitVec.ofNat 32 (want.length - good.length) }
      if good.isEmpty then okWith 0 s
      else .wait { s with evr.export_ := some (p, good.map (fun e => (e.1, e.2.rec_)), 0) }) p s

/-- EVR_READ_LASTGASP (R676, R679). -/
def readLastGasp (p : Pend) (s : Device) : CmdEnd :=
  checked [.bad { target := false, bufMin := 512, bufMax := 16777216 } [], .buffer]
    (fun _ s =>
      let rs := s.evr.lastGasp.map (fun r => eventBytes { r with flags := r.flags ||| 4 } false)
      okBuf rs.length (padTo 512 rs.flatten) s) p s

/-- EVR_CLEAR_LASTGASP (R676). -/
def clearLastGasp (p : Pend) (s : Device) : CmdEnd :=
  checked [.bad { target := false } [], .when (needMaint s) .authRequired 0]
    (fun _ s => okWith s.evr.lastGasp.length { s with evr.lastGasp := [] }) p s

/-- EVR_CLEAR_COUNTERS (R679). -/
def evrClear (p : Pend) (s : Device) : CmdEnd :=
  let m := p.desc.p0.toNat
  let clr := fun (k : Nat) (w : Word) => if bit k m then 0 else w
  checked [.bad { target := false, pmask := 1 } [(65536 ≤ m || bits 7 6 m != 0, 24)]]
    (fun _ s => okWith 0 { s with
      evr.lost := clr 0 s.evr.lost, evr.xlost := clr 1 s.evr.xlost, evr.suppr := clr 2 s.evr.suppr
      evr.crcBad := clr 3 s.evr.crcBad, evr.remaps := clr 4 s.evr.remaps, evr.retired := clr 5 s.evr.retired
      evr.drops := s.evr.drops.filter (fun e => !bit (8 + e.1) m) }) p s

/-- EVR_STATUS as a word (Table EVR-7). -/
def evrStatus (s : Device) : Nat :=
  flag 0 s.evr.degraded + flag 1 s.evr.spireClosed + flag 2 s.evr.export_.isSome + (s.evr.run % 16) * 8

/-! ## The rows of the table of operations -/

/-- EVENT_RAISE (R664): A block raises an event, subject to its rate limit, and passes it to EVR. -/
def execEventRaise (code : Nat) (payload : List Byte) (s : State) : Host.Outcome State Fault Refusal :=
  .next { s with dev := Sys2Proof.Machine.eventRaise code payload s.dev }

/-- EVENT_ADMISSION (R666): Once no earlier record can arrive, EVR admits a record with the next SEQ. -/
def execEventAdmission (ok : Bool) (unread : List Nat) (s : State) : Host.Outcome State Fault Refusal :=
  .next { s with dev := Sys2Proof.Machine.eventAdmission ok unread s.dev }

/-- SUMMARY_TIMEOUT (R669): 1 s after the first suppressed occurrence, EVR_SUPPRESSED is issued. -/
def execSummaryTimeout (code : Nat) (s : State) : Host.Outcome State Fault Refusal :=
  .next { s with dev := Sys2Proof.Machine.summaryTimeout code s.dev }

/-- EVR_EXPORT (R679): Copies event records in order to the host window. -/
def execEvrExport (d : Desc) (bad : List Nat) (s : State) : Host.Outcome State Fault Refusal :=
  .next { s with dev := runCmd (Sys2Proof.Machine.evrExport bad) d s.dev }

/-- EVR_READ_LASTGASP (R679): Returns the last-gasp records. -/
def execEvrReadLastgasp (d : Desc) (s : State) : Host.Outcome State Fault Refusal :=
  .next { s with dev := runCmd readLastGasp d s.dev }

/-- EVR_CLEAR_LASTGASP (R676): Clears the last-gasp store. -/
def execEvrClearLastgasp (d : Desc) (s : State) : Host.Outcome State Fault Refusal :=
  .next { s with dev := runCmd clearLastGasp d s.dev }

/-- EVR_CLEAR_COUNTERS (R679): Clears the selected EVR counters. -/
def execEvrClearCounters (d : Desc) (s : State) : Host.Outcome State Fault Refusal :=
  .next { s with dev := runCmd evrClear d s.dev }

end Sys2Proof.Machine
end

