-- ==== Sys2Proof/Machine/Trace.lean ====
section
/-!
DEFINITION. Machine/Trace.lean: trace buffers, triggers and the reading of a trace (06_loop_tracing_tuning).
-/
namespace Sys2Proof.Machine

/-- What stage 8 of an evaluation shows to traces and recorder channels (Table LTN-1): nodes 0–16 as words. -/
structure Eval where
  loop    : Nat
  time    : STime
  version : Nat
  mode    : Nat
  stale   : Nat
  bf      : Bool
  /-- the nodes that hold whole numbers whatever the loop's format: codes (Table LTN-1) -/
  whole   : List Nat := []
  nodes   : List Word
deriving DecidableEq, Repr

/-- Entries of one buffer (R235). -/
def traceDepth : Nat := 32768

/-- The unit of STIME_LO in nanoseconds (R241). -/
def traceUnit (g : TraceGroup) : Nat := if g.tunit then 1000 else 1

/-- The value a group's buffer records for a node; STIME_LO is in the group's unit (R237, R241). -/
def nodeWord (g : TraceGroup) (ev : Eval) (node : Nat) : Word :=
  if node = 13 then BitVec.ofNat 32 (ev.time / 256 / traceUnit g) else ev.nodes.getD node 0

def setGroup (g : TraceGroup) (s : Device) : Device := { s with trc.groups := tset s.trc.groups g.first g }

/-- A group leaves ARMED or TRIGGERED for STOPPED (Table LTN-3). -/
def traceStop (g : TraceGroup) (cause : Nat) (s : Device) : Device :=
  raise Ev.ltnTraceStopped [(1, g.first), (1, cause)] (setGroup { g with mode := .stopped } s)

/-- The entries a read shows: at most PRE before the trigger entry (R243). -/
def keptEntries (g : TraceGroup) : List (STime × List Word) :=
  match g.tTrig with
  | none => g.entries
  | some t => g.entries.drop (g.entries.countP (fun e => e.1 < t) - g.pre)

/-- A triggered group with its post-trigger entries complete goes to DONE (R242, R246). -/
def traceDone (first : Nat) (s : Device) : Device :=
  match tfind s.trc.groups first with
  | none => s
  | some g =>
    if g.mode == .triggered && traceDepth - g.pre ≤ g.post then
      raise Ev.ltnTraceDone [(1, first), (2, (keptEntries g).length)] (setGroup { g with mode := .done } s)
    else s

/-- An ARMED group triggers at T_TRIG (R242, R246, R247). -/
def triggerOne (first : Nat) (t : STime) (s : Device) : Device :=
  match tfind s.trc.groups first with
  | none => s
  | some g =>
    if g.mode != .armed then s
    else
      let g := { g with mode := .triggered, tTrig := some t, version := versionAt s t,
                        post := g.entries.countP (fun e => t ≤ e.1) }
      traceDone first (raise Ev.ltnTraceTriggered [(1, first), (1, g.kind), lo32 (nsLow t)] (setGroup g s))

/-- A group triggers, and every ARMED group that names it follows (kind GROUP); the fuel bounds the chain (R244). -/
def traceTrigger : Nat → Nat → STime → Device → Device
  | 0, _, _, s => s
  | fuel + 1, first, t, s =>
    if (tfind s.trc.groups first).any (fun g => g.mode == .armed) then
      let s := triggerOne first t s
      let next := (s.trc.groups.filter (fun e => e.2.mode == .armed && e.2.kind == 8 && e.2.ofGroup == first)).map (·.1)
      next.foldl (fun s f => traceTrigger fuel f t s) s
    else s

/-- The value that a node's word stands for, exactly: a code of a block-floating loop is a whole number, which in the form of
R203 has the exponent 23 (R245, Table LTN-1). -/
def nodeNum (ev : Eval) (node : Nat) (w : Word) : Num :=
  if ev.bf && ev.whole.contains node then { m := w.toInt, e := 23 } else ofWord ev.bf w.toNat

/-- T_TRIG of a trigger condition that an evaluation of the trigger loop meets (Table LTN-2, R245). A and B are in the loop's
number format. -/
def triggerTime (g : TraceGroup) (ev : Eval) : Option STime :=
  let bf := ev.bf
  let v := nodeNum ev g.node (ev.nodes.getD g.node 0)
  let a := ofWord bf g.a.toNat
  let b := ofWord bf g.b.toNat
  let prev := g.prev.map (fun p => nodeNum ev g.node p.1)
  let at_ := fun (c : Bool) => if c then some ev.time else none
  match g.kind with
  | 1 => at_ (numLe bf a v && prev.any (fun p => numLt bf p a))
  | 2 => at_ (numLe bf v a && prev.any (fun p => numLt bf a p))
  | 3 => at_ (numLt bf v a || numLt bf b v)
  | 4 => at_ (g.prev.any (fun p => p.2 != ev.mode))
  | 5 => at_ (ev.stale != 0)
  | 6 => at_ (ev.version == g.trigVersion)
  | 7 => if g.trigTime ≤ ev.time then some g.trigTime else none
  | _ => none

/-- A group that watches the evaluated loop for its trigger. -/
def traceWatch (ev : Eval) (s : Device) (first : Nat) : Device :=
  match tfind s.trc.groups first with
  | none => s
  | some g =>
    if g.mode != .armed || g.trigLoop != ev.loop then s
    else
      let s := setGroup { g with prev := some (ev.nodes.getD g.node 0, ev.mode) } s
      match triggerTime g ev with
      | some t => traceTrigger 64 first t s
      | none => s

/-- A group that captures the evaluated loop (R239, R241 to R243). -/
def traceWrite (ev : Eval) (s : Device) (first : Nat) : Device :=
  match tfind s.trc.groups first with
  | none => s
  | some g =>
    if !(g.mode == .armed || g.mode == .triggered) || g.loop != ev.loop then s
    else if g.skip ≠ 0 then setGroup { g with skip := g.skip - 1 } s
    else
      let u := 256 * traceUnit g
      if (g.entries.getLast?).any (fun e => 2 ^ 32 ≤ ev.time / u - e.1 / u) then traceStop g 3 s
      else
        let es := g.entries ++ [(ev.time, g.nodes.map (nodeWord g ev))]
        let g := { g with
          entries := es.drop (es.length - traceDepth), written := g.written + 1, skip := g.decim - 1,
          post := g.post + (if g.tTrig.any (fun t => t ≤ ev.time) then 1 else 0) }
        traceDone first (setGroup g s)

/-- Stage 8 as traces see it: triggers first, then the entries (R239, R244). -/
def traceEval (ev : Eval) (s : Device) : Device :=
  let s := (s.trc.groups.map (·.1)).foldl (traceWatch ev) s
  (s.trc.groups.map (·.1)).foldl (traceWrite ev) s

/-- An abandoned firing of a loop (R176, R239). -/
def traceAbandon (loop : Nat) (s : Device) : Device :=
  { s with trc.groups := tmap s.trc.groups fun _ g =>
      if g.loop == loop && (g.mode == .armed || g.mode == .triggered) then { g with abandoned := g.abandoned + 1 } else g }

/-- A commit disables a traced loop (Table LTN-3). -/
def traceDisabled (loop : Nat) (s : Device) : Device :=
  (s.trc.groups.map (·.1)).foldl (fun s f =>
    match tfind s.trc.groups f with
    | some g => if g.loop == loop && (g.mode == .armed || g.mode == .triggered) then traceStop g 2 s else s
    | none => s) s

/-- A group in IDLE, as LTN_TRACE_SET forms it: its buffers hold nothing (R236, R246, R248). -/
def idleGroup (g : TraceGroup) : TraceGroup :=
  { first := g.first, count := g.count, loop := g.loop, nodes := g.nodes, decim := g.decim, tunit := g.tunit, pre := g.pre }

/-- A restart takes every group to IDLE, and its contents are lost (R246, R248); answers the mask for LTN_TRACE_LOST. -/
def traceLose (s : Device) : Nat × Device :=
  let live := s.trc.groups.filter (fun e => e.2.mode != .idle)
  ((live.map (fun e => flag e.1 true)).sum,
    { s with trc.groups := tmap s.trc.groups (fun _ g => idleGroup g), trc.read := none })

/-! ## Commands (Table LTN-5) -/

/-- Node code of buffer `k` of the group (P2–P5, one byte each). -/
def setNodes (d : Desc) : List Nat :=
  ((le 4 d.p2.toNat ++ le 4 d.p3.toNat ++ le 4 d.p4.toNat ++ le 4 d.p5.toNat).take (bits 4 0 d.p0.toNat)).map (·.toNat)

/-- The buffers of a group reach into buffers `first` to `first + count - 1`. -/
def overlapsGroup (first count : Nat) (g : TraceGroup) : Bool := first < g.first + g.count && g.first < first + count

/-- LTN_TRACE_SET (R236, R241, R253). A group that loses a buffer to the new one ceases to exist (DEDUCED, log 12). -/
def traceSet (p : Pend) (s : Device) : CmdEnd :=
  let d := p.desc
  let first := d.target.toNat
  let count := bits 4 0 d.p0.toNat
  let loop := bits 9 0 d.p1.toNat
  let decim := bits 8 0 d.p6.toNat
  let unit := bit 16 d.p6.toNat
  let slot := fld 10 2 (recNow s 0x03 1 loop)
  let (pp, w) := recPW (recNow s 0x02 1 slot)
  let limit := 2 ^ 32 * (if unit then 256000 else 256)
  checked [
    .when (!created s 0x03 1 loop || 64 < first + count) .notFound 0,
    .bad { pmask := 0xFF }
      ([(count == 0 || 16 < d.p0.toNat, 24), (1023 < d.p1.toNat, 28), (decim == 0 || 256 < decim || limit ≤ (pp + w) * decim ||
          d.p6.toNat != decim + flag 16 unit, 48), (32767 < d.p7.toNat, 52)] ++
        (List.range (setNodes d).length).map (fun k => (decide (16 < (setNodes d).getD k 0), 32 + k))),
    .when (s.trc.groups.any (fun e => overlapsGroup first count e.2 && (e.2.mode == .armed || e.2.mode == .triggered)))
      .rejectedState 0]
    (fun _ s =>
      let s := { s with trc.groups := s.trc.groups.filter (fun e => !overlapsGroup first count e.2) }
      okWith 0 (setGroup { first, count, loop, nodes := setNodes d, decim, tunit := unit, pre := d.p7.toNat } s)) p s

/-- LTN_TRACE_ARM (R244, R245, R253). -/
def traceArm (p : Pend) (s : Device) : CmdEnd :=
  let d := p.desc
  let kind := bits 3 0 d.p0.toNat
  let node := bits 12 8 d.p0.toNat
  let loop := bits 25 16 d.p0.toNat
  let bf := bit 0 (fld 1 1 (recNow s 0x03 1 loop))
  let g := tfind s.trc.groups d.target.toNat
  let needs := 1 ≤ kind && kind ≤ 7
  let t := nsT ((d.p3.toNat * 2 ^ 32 + d.p2.toNat) * 1000000000 + d.p1.toNat)
  checked [
    .when (g.isNone || (needs && !created s 0x03 1 loop)) .notFound 0,
    .bad { pmask := 0x1F } [
      (8 < kind || (kind ∈ [1, 2, 3] && (node == 0 || 12 < node)) ||
        d.p0.toNat != kind + node * 2 ^ 8 + loop * 2 ^ 16, 24),
      ((kind == 3 && numLt bf (ofWord bf d.p2.toNat) (ofWord bf d.p1.toNat)) ||
        (kind == 7 && 1000000000 ≤ d.p1.toNat), 28)],
    .when (g.any (fun g => g.mode == .armed || g.mode == .triggered)) .rejectedState 0,
    .when (kind == 7 && t < nowS s) .late 0]
    (fun _ s => match g with
      | none => .fail .notFound 0 s
      | some g => okWith 0 (setGroup { idleGroup g with
          mode := .armed, kind, node, trigLoop := loop, a := d.p1, b := d.p2,
          trigVersion := d.p1.toNat, trigTime := t, ofGroup := d.p4.toNat } s)) p s

/-- LTN_TRACE_FORCE (R253). -/
def traceForce (p : Pend) (s : Device) : CmdEnd :=
  let first := p.desc.target.toNat
  let t := nowS s
  checked [
    .bad plain [],
    .when (!(tfind s.trc.groups first).any (fun g => g.mode == .armed && g.kind == 0)) .rejectedState 0]
    (fun _ s => okWith (nsLow t) (traceTrigger 64 first t s)) p s

/-- LTN_TRACE_STOP (R253). -/
def traceStopCmd (p : Pend) (s : Device) : CmdEnd :=
  match tfind s.trc.groups p.desc.target.toNat with
  | none => checked [.bad plain [], .when true .rejectedState 0] (fun _ s => okWith 0 s) p s
  | some g =>
    checked [.bad plain [], .when (!(g.mode == .armed || g.mode == .triggered)) .rejectedState 0]
      (fun _ s => okWith (keptEntries g).length (traceStop g 1 s)) p s

/-- PRE_ACTUAL (R243, Table LTN-4). -/
def preActual (g : TraceGroup) : Nat :=
  match g.tTrig with
  | none => g.entries.length
  | some t => (keptEntries g).countP (fun e => e.1 < t)

/-- The trace head of Table LTN-4. -/
def traceHead (s : Device) (g : TraceGroup) : List Byte :=
  let bf := bit 0 (fld 1 1 (recNow s 0x03 1 g.loop))
  le 1 g.first ++ le 1 g.count ++ le 2 g.loop ++ le 4 (keptEntries g).length ++ le 4 (preActual g) ++
  le 1 (if g.tTrig.isSome then g.kind else 0xFF) ++
  le 1 (flag 0 bf + flag 1 g.tunit + flag 2 (g.mode == .stopped)) ++ le 2 g.decim ++
  (match g.tTrig with | some t => fullTime t | none => le 16 0) ++
  padTo 16 (g.nodes.map (BitVec.ofNat 8 ·)) ++ le 2 g.version ++ le 2 0 ++ le 4 g.abandoned ++ le 8 0

/-- One chunk (R251): buffer, index of its first entry relative to the trigger entry, entries. -/
def traceChunk (buf : Nat) (idx : Int) (ws : List Word) : List Byte :=
  le 1 buf ++ le 3 0 ++ le 4 (wrapInt 32 idx) ++ le 4 ws.length ++ le 4 0 ++ ws.flatMap (fun w => le 4 w.toNat)

/-- Cuts one buffer's entries into chunks over segments of `room` payload bytes (R250, R251); `cur` is the segment
being formed and `done` the finished ones. -/
def traceFill (room buf : Nat) :
    Nat → Int → List Word → List Byte → List (List Byte) → List Byte × List (List Byte)
  | 0, _, _, cur, done => (cur, done)
  | fuel + 1, idx, ws, cur, done =>
    if ws.isEmpty then (cur, done)
    else if room < cur.length + 20 then traceFill room buf fuel idx ws [] (done ++ [cur])
    else
      let n := min ws.length ((room - cur.length - 16) / 4)
      traceFill room buf fuel (idx + n) (ws.drop n) (cur ++ traceChunk buf idx (ws.take n)) done

/-- The segments of a read: TYPE and payload (R250). -/
def traceSegments (s : Device) (g : TraceGroup) (room : Nat) : List (Nat × List Byte) :=
  let es := keptEntries g
  let (cur, done) := (List.range g.count).foldl (fun (a : List Byte × List (List Byte)) k =>
    traceFill room (g.first + k) 131072 (-(preActual g : Int)) (es.map (fun e => e.2.getD k 0)) a.1 a.2)
    (traceHead s g, [])
  match done ++ [cur] with
  | [] => []
  | x :: rest => (0x20, x) :: rest.map (fun y => (0x21, y))

/-- LTN_TRACE_READ (R249 to R252): the segments are written as the window has room, and the command completes after
the last. -/
def traceRead (p : Pend) (s : Device) : CmdEnd :=
  let g := tfind s.trc.groups p.desc.target.toNat
  checked [
    .bad plain [],
    .when (!g.any (fun g => g.mode == .done || g.mode == .stopped) || (windowOf s 0x11C0).isNone) .rejectedState 0,
    .when s.trc.read.isSome .busyConflict 0]
    (fun p s => match g, windowOf s 0x11C0 with
      | some g, some w => .wait { s with trc.read := some (p, 0, traceSegments s g (segRoom (winOf s w))) }
      | _, _ => .fail .rejectedState 0 s) p s

/-- State code of a group (Table LTN-7). -/
def traceCode (m : TraceMode) : Nat :=
  match m with | .idle => 0 | .armed => 1 | .triggered => 2 | .done => 3 | .stopped => 4

/-- LTN_TRSTATb (Table LTN-7). -/
def trStat (s : Device) (b : Nat) : Nat :=
  match s.trc.groups.find? (fun e => e.2.first ≤ b && b < e.2.first + e.2.count) with
  | none => 0
  | some (_, g) => traceCode g.mode + g.first * 2 ^ 8 + min 32768 g.written * 2 ^ 16

/-- LTN_TRACTIVE (Table LTN-7). -/
def trActive (s : Device) : Nat :=
  ((List.range 64).map (fun b => flag b (trStat s b % 8 == 1 || trStat s b % 8 == 2))).sum

/-! ## The rows of the table of operations -/

/-- LTN_TRACE_SET (R253): Forms a trace group in IDLE. -/
def execLtnTraceSet (d : Desc) (s : State) : Host.Outcome State Fault Refusal :=
  .next { s with dev := runCmd traceSet d s.dev }

/-- LTN_TRACE_ARM (R253): Clears the buffers of a group and arms it with a trigger. -/
def execLtnTraceArm (d : Desc) (s : State) : Host.Outcome State Fault Refusal :=
  .next { s with dev := runCmd traceArm d s.dev }

/-- LTN_TRACE_FORCE (R253): Gives a HOST trigger to an armed group. -/
def execLtnTraceForce (d : Desc) (s : State) : Host.Outcome State Fault Refusal :=
  .next { s with dev := runCmd traceForce d s.dev }

/-- LTN_TRACE_STOP (R253): Stops an armed or triggered group. -/
def execLtnTraceStop (d : Desc) (s : State) : Host.Outcome State Fault Refusal :=
  .next { s with dev := runCmd traceStopCmd d s.dev }

/-- LTN_TRACE_READ (R249): Copies a finished group into its window. -/
def execLtnTraceRead (d : Desc) (s : State) : Host.Outcome State Fault Refusal :=
  .next { s with dev := runCmd traceRead d s.dev }

end Sys2Proof.Machine
end

