-- ==== Sys2Proof/Machine/Lpe.lean ====
section
/-!
DEFINITION. Machine/Lpe.lean: the control law, loop modes, stale policies and the commands of the loop engine
(05_loop_engine).
-/
namespace Sys2Proof.Machine

def loopOf (s : Device) (n : Nat) : LoopSt := tget s.lpe.loops n {}
def modLoop (n : Nat) (f : LoopSt → LoopSt) (s : Device) : Device :=
  { s with lpe.loops := tset s.lpe.loops n (f (loopOf s n)) }

/-- A loop's configuration record, read (Table LPE-2). -/
structure LoopCfg where
  mode    : Nat
  bf      : Bool
  reverse : Bool
  split   : Bool
  spTrack : Bool
  spSrc   : Nat
  policy  : Nat
  kind    : Nat
  kind2   : Nat
  index   : Nat
  index2  : Nat
  slot    : Nat
  raw     : List Byte
deriving DecidableEq, Repr

/-- Reads a loop record (Table LPE-2). -/
def loopCfg (b : List Byte) : LoopCfg :=
  { mode := fld 0 1 b % 8, bf := bit 0 (fld 1 1 b), reverse := bit 1 (fld 1 1 b), split := bit 2 (fld 1 1 b),
    spTrack := bit 3 (fld 1 1 b), spSrc := fld 2 1 b % 8, policy := fld 3 1 b % 4, kind := fld 4 1 b % 8,
    kind2 := fld 5 1 b % 8, index := fld 6 2 b, index2 := fld 8 2 b, slot := fld 10 2 b % 4096, raw := b }

/-- Coefficient K[i] (R198): KPV, OPV, KSP, OSP, KP, KI, KD, KDF, KFF, KOUT, OOUT, KOUT2, OOUT2. -/
def LoopCfg.k (c : LoopCfg) (i : Nat) : Num := ofWord c.bf (fld (16 + 4 * i) 4 c.raw)
/-- Shift S[i]. -/
def LoopCfg.sh (c : LoopCfg) (i : Nat) : Nat := fld (68 + i) 1 c.raw
/-- Limit L[j] (R198): SPMIN, SPMAX, SPRATE, IMIN, IMAX, OMIN, OMAX, ORATE, DBAND, SUBST, FIXED_SP. -/
def LoopCfg.l (c : LoopCfg) (j : Nat) : Num := ofWord c.bf (fld (84 + 4 * j) 4 c.raw)
/-- The product K[i]·y in a stage. -/
def LoopCfg.mul (c : LoopCfg) (stage i : Nat) (y : Num) : Arith Num := mulA stage c.bf (c.k i) (c.sh i) y
/-- The zero of the loop's format. -/
def LoopCfg.zero (c : LoopCfg) : Num := if c.bf then bfZero else {}

/-- |a − b| > lim, on exact values (R190, R194). -/
def farApart (bf : Bool) (a b lim : Num) : Bool :=
  if bf then
    let x := fun (v : Num) => v.m * (2 ^ (v.e + 128).toNat : Nat)
    decide (x lim < (x a - x b).natAbs)
  else decide (lim.m < (a.m - b.m).natAbs)

/-- Limits the change from `last` to `rate`, 0 meaning no limit; says whether it acted (R190, R194). -/
def rateStep (stage : Nat) (bf : Bool) (last rate v : Num) : Arith (Num × Bool) :=
  if rate.m = 0 || !farApart bf v last rate then pure (v, false)
  else do
    let r ← sumA stage bf [last, if numLt bf last v then rate else numNeg rate]
    return (r, true)

/-- How an evaluation runs: its actual mode and what makes it differ from the commanded one (R212 to R219, R224). -/
structure Run where
  mode    : Nat
  latched : Bool := false
  newLatch : Bool := false
  casc    : Option Num := none
  single  : Bool := false
  patch   : Bool := false
deriving DecidableEq, Repr

/-- What a law evaluation produces: the nodes of Table LTN-1 and the new state. -/
structure Law where
  x : Num
  pv : Num
  sp : Num
  e : Num
  p : Num
  i : Num
  d : Num
  ff : Num
  v : Num
  u : Num
  code : Int := 0
  code2 : Int := 0
  integ : Num
  emits : Bool := false
  iClamp : Bool := false
  rateLim : Bool := false
  /-- output difference of a back-calculation that the clamp limited (R216) -/
  bump : Option Num := none
  man : Num
deriving DecidableEq, Repr

def opOf (ops : List OpIn) (n : Nat) : Option OpIn := ops.find? (fun o => o.idx == n)
def opStale (ops : List OpIn) (n : Nat) : Bool := (opOf ops n).any (·.stale)

/-- Stage 1: an operand in the loop's format, zero when the task has none (R199, R202). -/
def loadOp (c : LoopCfg) (ops : List OpIn) (n : Nat) : Arith Num :=
  match opOf ops n with
  | some o => convertA 1 c.bf o.bf o.value.toNat
  | none => pure c.zero

/-- The actual mode of an evaluation, by the order of R212. -/
def loopMode (c : LoopCfg) (st : LoopSt) (ops : List OpIn) (inner : Option Num) (patch : Bool) : Run :=
  let newLatch := c.policy == 2 && (opStale ops 0 || opStale ops 1 || opStale ops 2) && !st.staleOpen
  if st.staleOpen || newLatch then { mode := 3, latched := true, newLatch }
  else if c.mode = 4 then
    match inner with
    | some t => { mode := 1, casc := some t }
    | none =>
      if patch then { mode := 1, single := true, patch := true }
      else if st.first || st.resume || st.modeAct = 0 || st.modeAct = 3 then { mode := 1, single := true }
      else { mode := 4 }
  else { mode := c.mode }

/-- A stale set-point, which takes SP_LAST under HOLD_LAST and SUBSTITUTE (Table LPE-6). -/
def staleSp (c : LoopCfg) (ops : List OpIn) : Bool := c.spSrc != 0 && opStale ops 1 && c.policy != 2

/-- The set-point before clamp and ramp (R190, R200): the source value, scaled for ANALOG and PULSE. -/
def sourceSp (c : LoopCfg) (ops : List OpIn) : Arith Num := do
  if c.spSrc = 0 then return c.l 10
  else
    let v ← loadOp c ops 1
    if c.spSrc = 1 || c.spSrc = 2 then sumA 2 c.bf [← c.mul 2 2 v, c.k 3] else return v

/-- The output and the integrator of stages 5 and 6 (R193, R194, R205, R210, R213, R218). -/
def stages56 (c : LoopCfg) (st : LoopSt) (ops : List OpIn) (run : Run) (first : Bool) (base : Law) : Arith Law := do
  let bf := c.bf
  let fft ← c.mul 6 8 base.ff
  let i0 : Num := { m := st.i, e := if bf then st.iExp else 0 }
  let outLast := ofWord bf st.outLast.toNat
  let total := fun (i : Num) => do sumA 6 bf [base.p, ← intTerm 6 bf i, base.d, fft]
  -- back-calculation to an output u (R213)
  let back := fun (l : Law) (u : Num) => do
    let needed ← sumA 6 bf [u, numNeg l.p, numNeg l.d, numNeg fft]
    let (i, hit) := intClamp bf (c.l 3) (c.l 4) (intOf bf needed)
    let lim ← intTerm 6 bf i
    let diff := ((sumA 6 bf [needed, numNeg lim]).run {}).1
    return { l with integ := i, iClamp := hit, bump := if hit then some diff else none }
  -- the output of a sum: clamped first, then limited in its change (R194)
  let limited := fun (v : Num) => do
    let (u, lim) ← rateStep 6 bf outLast (c.l 7) (numClamp bf (c.l 5) (c.l 6) v)
    return (← normA 6 bf u, lim)
  match run.mode with
  | 1 => do
    let track ← if run.patch || (opOf ops 3).isNone || opStale ops 3 then pure outLast else loadOp c ops 3
    let u ← normA 6 bf (match run.casc with | some t => t | none => track)
    let l := { base with i := ← intTerm 6 bf i0, v := ← total i0, u := u, emits := true }
    back l u
  | 2 => do
    let man := if (first || st.modeAct ≠ 2) && !st.manSet then outLast else ofWord bf st.manOut.toNat
    let (u, lim) ← rateStep 6 bf outLast (c.l 7) man
    let u ← normA 6 bf u
    let l := { base with i := ← intTerm 6 bf i0, v := ← total i0, u := u, emits := true, rateLim := lim, man := man }
    back l u
  | 3 => do
    let v ← total i0
    let (u, lim) ← limited v
    return { base with i := ← intTerm 6 bf i0, v := v, u := u, rateLim := lim }
  | _ => do
    let (i1, hit1) := intClamp bf (c.l 3) (c.l 4) (← intAdd 5 bf (c.k 5) (c.sh 5) base.e i0)
    let v1 ← total i1
    let ke := (c.k 5).m * base.e.m
    if (numLt bf (c.l 6) v1 && 0 < ke) || (numLt bf v1 (c.l 5) && ke < 0) then
      let (i, hit) := intClamp bf (c.l 3) (c.l 4) i0
      let v ← total i
      let (u, lim) ← limited v
      return { base with integ := i, iClamp := hit, i := ← intTerm 6 bf i, v := v, u := u, emits := true, rateLim := lim }
    else
      let (u, lim) ← limited v1
      return { base with integ := i1, iClamp := hit1, i := ← intTerm 6 bf i1, v := v1, u := u, emits := true, rateLim := lim }

/-- Stage 7: the code of an output through KOUT and OOUT, or u itself for a loop set-point (R189, R211, R227). -/
def outCode (c : LoopCfg) (kind ko : Nat) (u : Num) : Arith Int := do
  if kind = 5 then return (toWord c.bf u).toNat
  else toCode 7 c.bf (← sumA 7 c.bf [← c.mul 7 ko u, c.k (ko + 1)])

/-- The standard law (R189 to R194, R212 to R218, R222). -/
def runLaw (c : LoopCfg) (st : LoopSt) (ops : List OpIn) (run : Run) : Arith Law := do
  let bf := c.bf
  let x ← if opStale ops 0 && c.policy = 1 then normA 1 bf (c.l 9) else loadOp c ops 0
  let ff ← if opStale ops 2 && c.policy = 1 then pure c.zero else loadOp c ops 2
  let pv ← sumA 2 bf [← c.mul 2 0 x, c.k 1]
  let tracks := c.spTrack && (c.mode ≤ 3 || run.latched)
  let sp ← if tracks then pure pv
    else if staleSp c ops then normA 2 bf (ofWord bf st.spLast.toNat)
    else do
      let src ← sourceSp c ops
      let spLast := if st.first then (if c.spTrack then pv else src) else ofWord bf st.spLast.toNat
      let (v, _) ← rateStep 2 bf spLast (c.l 2) (numClamp bf (c.l 0) (c.l 1) src)
      normA 2 bf v
  let i0 : Num := { m := st.i, e := if bf then st.iExp else 0 }
  let held := fun (w : Word) => ofWord bf w.toNat
  let base : Law := {
    x, pv, sp, ff := held st.ffLast, e := held st.eLast, p := c.zero, i := (← intTerm 6 bf i0), d := held st.d,
    v := c.zero, u := held st.outLast, code := st.codeLast.toInt, code2 := st.code2Last.toInt, integ := i0,
    man := held st.manOut }
  if run.mode = 0 then return base
  else
    let e ← if c.reverse then sumA 3 bf [pv, numNeg sp] else sumA 3 bf [sp, numNeg pv]
    let e := if farApart bf e c.zero (c.l 8) then e else c.zero
    let p ← c.mul 4 4 e
    let prev := if st.first then pv else held st.pvLast
    let dpv ← if c.reverse then sumA 4 bf [pv, numNeg prev] else sumA 4 bf [prev, numNeg pv]
    let d ← sumA 4 bf [← c.mul 4 7 (held st.d), ← c.mul 4 6 dpv]
    let l ← stages56 c st ops run st.first { base with ff, e, p, d }
    let code ← outCode c c.kind 9 l.u
    let code2 ← if c.split then outCode c c.kind2 11 l.u else pure 0
    return { l with code, code2 }

/-- The STATUS byte of a loop (Table LPE-5). -/
def loopStatus (st : LoopSt) : Nat :=
  flag 0 st.staleOpen + flag 1 st.sat + flag 2 st.iClamp + flag 3 st.rateLim + flag 4 st.bumpLim +
  flag 5 (st.modeAct != 4) + flag 6 st.cascTrack + flag 7 st.firstTrack

/-- The task slot of an axis (Table MOT-6). -/
def axisSlot (s : Device) (a : Nat) : Nat := fld 6 2 (recNow s 0x06 1 a) % 4096

/-- A destination reports what became of an output of a loop (R229, R648): a discard reported before the next firing starts
restores OUT_LAST, and a later one is a drift. -/
def loopReport (n : Nat) (r : DestReport) (s : Device) : Device :=
  let st := loopOf s n
  let t := r.item.time
  if !r.item.first then s
  else if st.lateBefore.contains t then
    let s := modLoop n (fun l => { l with lateBefore := l.lateBefore.erase t }) s
    if r.fate != .discarded then s
    else raise Ev.lpeOrderDrift [(2, n), (1, r.item.kind), (2, r.item.index)] { s with lpe.orderDrift := s.lpe.orderDrift + 1 }
  else match st.before with
  | some (t', w) =>
    if t' ≠ t then s
    else modLoop n (fun l => { l with
      before := none, outLast := if r.fate == .discarded then w else l.outLast }) s
  | none => s

/-- An output goes straight into the operand of another task (R158); a token older than the value it would replace is
discarded there, and the loop hears of it at once (R20, R156, R229). -/
def emitToken (o : OutItem) (loop : Nat) (t : Token) (s : Device) : Device :=
  let late := (tfind (taskOf s t.slot).ops t.operand).any (fun v => t.time < v.tok.time)
  let s := tokenDirect t s
  loopReport loop { item := o, fate := if late then .discarded else .applied, issue := nowS s } s

/-- Emits one output of a loop to its destination (R226, R227, Table LPE-7). A loop's stream number is its loop number
modulo 256 (DESIGN CHOICE, log 13). -/
def emitLoop (loop : Nat) (bf : Bool) (kind index : Nat) (first : Bool) (code : Int) (t : STime) (ver : Nat)
    (s : Device) : Device :=
  let o : OutItem := { kind, index, code, time := t, version := ver, loop := some loop, first }
  let tok : Token := {
    time := t, version := ver, slot := 0, operand := 1, source := 0x0300 + loop % 256, value := BitVec.ofInt 32 code }
  match kind with
  | 1 | 2 | 4 => sendOutput o s
  | 3 => emitToken o loop { tok with slot := axisSlot s index } s
  | 5 => emitToken o loop { tok with bf, slot := fld 10 2 (recNow s 0x03 1 index) % 4096 } s
  | _ => s

/-- The inner loop of a cascade, when it is open: its SP_LAST (R224). -/
def openInner (s : Device) (c : LoopCfg) : Option Word :=
  if c.kind = 5 && (loopOf s c.index).modeAct ≠ 4 then some (loopOf s c.index).spLast else none

/-- What a loop's firing takes when it starts (R224, R230). -/
def captureLoop (f : Firing) (s : Device) : Firing :=
  let n := fld 2 2 (recNow s 0x02 1 f.slot)
  match recAt s 0x03 1 n f.time with
  | none => f
  | some b =>
    let st := loopOf s n
    { f with cfg := b, man := st.manOut, manSet := st.manSet, latched := st.staleOpen, casc := openInner s (loopCfg b) }

/-- FIRING_DISPATCH (R171 to R173): a loop's firing takes its configuration as it starts. -/
def dispatchFiring (s : Device) : Device :=
  let s := firingDispatch s
  { s with dpt.lanes := tmap s.dpt.lanes fun _ f => if f.cfg.isEmpty then captureLoop f s else f }

/-- Events of an evaluation (Table LPE-9). -/
def loopEvents (n : Nat) (run : Run) (cause : Nat) (mask : Nat) (old st : LoopSt) (l : Law) (fx : Fx) (c : LoopCfg)
    (s : Device) : Device :=
  let s := if old.modeAct = st.modeAct then s else
    raise Ev.lpeMode [(2, n), (1, old.modeAct), (1, st.modeAct), (1, cause)] s
  let s := if run.newLatch then
    raise Ev.lpeStaleOpen [(2, n), (1, mask)] { s with lpe.staleOpen := s.lpe.staleOpen + 1 } else s
  let s := match l.bump with
    | some d => raise Ev.lpeBumpLimited [(2, n), (4, (toWord c.bf d).toNat)] { s with lpe.bumpLim := s.lpe.bumpLim + 1 }
    | none => s
  let s := if run.casc.isSome && !old.cascTrack then raise Ev.lpeCascadeTrack [(2, n), (2, c.index)] s else s
  let s := if fx.sat.isEmpty then s else
    let s := { s with lpe.satCnt := s.lpe.satCnt + 1 }
    if old.sat then s else raise Ev.lpeSaturate [(2, n), (1, fx.sat.headD 0)] s
  fx.ovf.foldl (fun s stage =>
    raise Ev.lpeFormatOvf [(2, n), (1, stage)] { s with lpe.fmtOvf := s.lpe.fmtOvf + 1 }) s

/-- The nodes of Table LTN-1 as words, codes 0 to 16; node 13 is filled in by each trace group. -/
def lawNodes (c : LoopCfg) (st : LoopSt) (l : Law) (f : Firing) (lane mask : Nat) : List Word :=
  let w := toWord c.bf
  let i32 := fun (v : Int) => BitVec.ofInt 32 v
  [0, w l.x, w l.pv, w l.sp, w l.e, w l.p, w l.i, w l.d, w l.ff, w l.v, w l.u, i32 l.code, i32 l.code2, 0,
   BitVec.ofNat 32 (loopStatus st + st.modeAct * 2 ^ 8 + mask * 2 ^ 16), BitVec.ofNat 32 f.version,
   BitVec.ofNat 32 (lane + flag 8 f.reissued)]

/-- The recorder's view of an evaluation (R646): nodes 1–12. -/
def recordNodes (n : Nat) (f : Firing) (mask : Nat) (nodes : List Word) (s : Device) : Device :=
  (List.range 12).foldl (fun s k =>
    ltnRecord 4 n (k + 1) f.time f.version (nodes.getD (k + 1) 0) 0 (flag 0 (mask != 0) + flag 2 f.reissued) s) s

/-- The law ran: state, outputs and events (R189, R226 to R229). `hold` says that a stale measurement held everything under
HOLD_LAST (Table LPE-6): a TRACK evaluation that was due stays due, since none has set the integrator (R213 to R216). -/
def applyLaw (n lane : Nat) (f : Firing) (c : LoopCfg) (run : Run) (cur : LoopSt) (l : Law) (fx : Fx) (hold : Bool)
    (s : Device) : Device :=
  let w := toWord c.bf
  let mask := staleMask f.ops
  let cause := if run.newLatch then 2 else if run.casc.isSome || cur.cascTrack then 3 else if cur.resume then 4 else cur.cause
  let cleared := f.latched && !cur.staleOpen
  let st : LoopSt := { cur with
    modeAct := run.mode, staleOpen := run.latched && !cleared, sat := !fx.sat.isEmpty, iClamp := l.iClamp,
    rateLim := l.rateLim, bumpLim := l.bump.isSome, cascTrack := run.casc.isSome, firstTrack := run.single,
    version := f.version, evals := cur.evals + 1, stime := f.time, i := l.integ.m, iExp := l.integ.e,
    d := w l.d, pvLast := w l.pv, spLast := w l.sp, eLast := w l.e, ffLast := w l.ff,
    outLast := if l.emits then w l.u else cur.outLast,
    manOut := if cur.manOut = f.man then w l.man else cur.manOut,
    manSet := cur.manSet && !(run.mode = 2 && f.manSet && !hold),
    codeLast := if l.emits then BitVec.ofInt 32 l.code else cur.codeLast,
    code2Last := if l.emits then BitVec.ofInt 32 l.code2 else cur.code2Last,
    first := hold && cur.first, resume := hold && (cur.resume || (run.single && !run.patch)),
    patchAt := if hold then cur.patchAt else cur.patchAt.filter (fun t => f.time < t),
    before := if l.emits then some (f.time, cur.outLast) else none }
  let s := modLoop n (fun _ => st) s
  let s := if l.emits then
      let s := emitLoop n c.bf c.kind c.index true l.code f.time f.version s
      if c.split then emitLoop n c.bf c.kind2 c.index2 false l.code2 f.time f.version s else s
    else s
  let s := loopEvents n run cause mask cur st l fx c s
  let nodes := lawNodes c st l f lane mask
  let s := recordNodes n f mask nodes s
  let whole := (if c.kind = 5 then [] else [11]) ++ (if c.kind2 = 5 then [] else [12])
  traceEval { loop := n, time := f.time, version := f.version, mode := st.modeAct, stale := mask, bf := c.bf, whole, nodes } s

/-- A stale measurement under HOLD_LAST: no output, and the integrator, D and the last values stay (Table LPE-6). -/
def heldLaw (c : LoopCfg) (ops : List OpIn) (st : LoopSt) : Arith Law := do
  let h := fun (x : Word) => ofWord c.bf x.toNat
  let i0 : Num := { m := st.i, e := if c.bf then st.iExp else 0 }
  return {
    x := ← loadOp c ops 0, pv := h st.pvLast, sp := h st.spLast, e := h st.eLast, p := c.zero, i := ← intTerm 6 c.bf i0,
    d := h st.d, ff := h st.ffLast, v := c.zero, u := h st.outLast, code := st.codeLast.toInt,
    code2 := st.code2Last.toInt, integ := { m := st.i, e := st.iExp }, man := h st.manOut }

/-- OUT_LAST from a held code by the inversion of R613; none when KOUT is 0 and OUT_LAST keeps its value. -/
def invertOut (c : LoopCfg) (kind : Nat) (held : Int) : Option Num :=
  let bf := c.bf
  let clampO := numClamp bf (c.l 5) (c.l 6)
  if kind = 5 then some (clampO (ofWord bf (wrapInt 32 held)))
  else
    let k := c.k 9
    if k.m = 0 then none
    else if bf then
      -- the quotient at 64 extra bits, rounded to 24 bits
      let x := ((sumA 7 true [((bfNorm 7 24 held 0).run {}).1, numNeg (c.k 10)]).run {}).1
      some (clampO (((bfNorm 7 24 (roundQuot (x.m * (2 ^ 64 : Nat)) k.m) (x.e - k.e - 64)).run {}).1))
    else some (clampO { m := roundQuot ((held - (c.k 10).m) * (2 ^ c.sh 9 : Nat)) k.m })

/-- A loop's first evaluation takes OUT_LAST from what its destination holds (R215), 0 where OUT_KIND is 0; D is 0, and a
MANUAL loop starts with MAN_OUT = OUT_LAST where no command has written it since. -/
def firstState (c : LoopCfg) (held : Option Int) (manSet : Bool) (st : LoopSt) : LoopSt :=
  if !st.first then st
  else
    let u := match held with
      | none => c.zero
      | some h => (invertOut c c.kind h).getD (ofWord c.bf st.outLast.toNat)
    { st with outLast := toWord c.bf u, d := toWord c.bf c.zero
              manOut := if c.mode = 2 && !manSet then toWord c.bf u else st.manOut }

/-- LOOP_EVALUATION on a lane (R189): `held` is the held value of the loop's first destination. -/
def evalLane (lane : Nat) (held : LoopCfg → Device → Option Int) (s : Device) : Device :=
  match tfind s.dpt.lanes lane with
  | none => s
  | some f =>
    let n := fld 2 2 (recNow s 0x02 1 f.slot)
    if f.cfg.isEmpty then completeLane lane (versionDrop 0x03 f.version s)
    else
      let c := loopCfg f.cfg
      let cur := firstState c (held c s) f.manSet (loopOf s n)
      let man := if cur.first && !f.manSet then cur.manOut else f.man
      let st := { cur with staleOpen := f.latched, manOut := man, manSet := f.manSet }
      let innerBf := (loopCfg (recNow s 0x03 1 c.index)).bf
      let inner := f.casc.map (fun w => ((convertA 1 c.bf innerBf w.toNat).run {}).1)
      let run := loopMode c st f.ops inner (c.mode = 4 && st.patchAt.any (fun t => t ≤ f.time))
      let hold := opStale f.ops 0 && c.policy = 0
      let (l, fx) := (if hold then heldLaw c f.ops st else runLaw c st f.ops run).run {}
      completeLane lane (applyLaw n lane { f with man } c run cur l fx hold (modLoop n (fun _ => cur) s))

/-! ## Commands (Table LPE-8) -/

/-- A loop that does not exist. -/
def noLoop (s : Device) (d : Desc) : Bool := 1023 < d.target.toNat || !created s 0x03 1 d.target.toNat

/-- An armed overlay changes a coefficient of the loop without OPEN_FOR_PATCH (R137, R805). -/
def armedCoef (s : Device) (n : Nat) : Bool :=
  (s.cfg.armed.foldl (fun (a : Bool × List Byte) m =>
    let hit := m.patches.any (fun q => q.blk == 0x03 && q.kind == 1 && q.obj == n && !q.open_ &&
      coefOf (overwrite q.off q.data a.2) != coefOf a.2)
    (a.1 || hit, applyPatches m.patches 0x03 1 n a.2)) (false, recNow s 0x03 1 n)).1
where
  /-- The coefficient bytes of a loop record (R198). -/
  coefOf (b : List Byte) : List Byte := (b.drop 16).take 65

/-- LPE_SET_MODE (R137, R139, R223, R230). -/
def setMode (p : Pend) (s : Device) : CmdEnd :=
  let d := p.desc
  let n := d.target.toNat
  let b := recNow s 0x03 1 n
  checked [
    .when (noLoop s d) .notFound 0,
    .bad { pmask := 1 } [(4 < d.p0.toNat, 24)],
    .when (d.p0.toNat == 4 && armedCoef s n) .rejectedState 0]
    (fun _ s =>
      let old := (loopOf s n).modeAct
      let s := setRec s 0x03 1 n (overwrite 0 (le 1 d.p0.toNat))
      okWith old (modLoop n (fun l => { l with
        staleOpen := false, cause := 0, manSet := l.manSet && fld 0 1 b % 8 == d.p0.toNat }) s)) p s

/-- LPE_SET_COEF (R139, R198, R220). -/
def setCoef (p : Pend) (s : Device) : CmdEnd :=
  let d := p.desc
  let n := d.target.toNat
  let i := d.p0.toNat
  let b := recNow s 0x03 1 n
  let c := loopCfg b
  checked [
    .when (noLoop s d) .notFound 0,
    .bad { pmask := 7 } [(12 < i, 24), (31 < d.p2.toNat || (d.p2 != 0 && (c.bf || i ∈ [1, 3, 10, 12])), 32)],
    .when (c.mode == 4) .rejectedState 0]
    (fun _ s => okWith (fld (16 + 4 * i) 4 b)
      (setRec s 0x03 1 n (fun r => overwrite (68 + i) (le 1 d.p2.toNat) (overwrite (16 + 4 * i) (le 4 d.p1.toNat) r)))) p s

/-- LPE_SET_LIMIT (R139, R197, R221). -/
def setLimit (p : Pend) (s : Device) : CmdEnd :=
  let d := p.desc
  let n := d.target.toNat
  let j := d.p0.toNat
  let b := recNow s 0x03 1 n
  let new := overwrite (84 + 4 * j) (le 4 d.p1.toNat)
  checked [
    .when (noLoop s d) .notFound 0,
    .bad { pmask := 3 } [(10 < j, 24), (j ≤ 10 && !valuesOk (viewNow s) 0x03 1 n (new b), 28)]]
    (fun _ s => okWith (fld (84 + 4 * j) 4 b) (setRec s 0x03 1 n new)) p s

/-- LPE_SET_SP (R201): a HOST token with STIME the instant of the command. A host path's stream is block 0x03 with the
loop number modulo 256 (log 13). -/
def setSp (p : Pend) (s : Device) : CmdEnd :=
  let d := p.desc
  let n := d.target.toNat
  let c := loopCfg (recNow s 0x03 1 n)
  checked [
    .when (noLoop s d) .notFound 0,
    .bad { pmask := 1 } [],
    .when (c.spSrc != 4 || !taskEnabled (recNow s 0x02 1 c.slot)) .rejectedState 0]
    (fun _ s =>
      let t := nowS s
      okWith 0 (tokenDirect { time := t, version := versionAt s t, bf := c.bf, slot := c.slot, operand := 1,
                              source := 0x0300 + n % 256, value := d.p0 } s)) p s

/-- LPE_SET_OUTPUT (R218, R230). One accepted before the first MANUAL evaluation stands in that evaluation too, since a command
takes effect for every evaluation that starts after it (DEDUCED, log 80). -/
def setOutput (p : Pend) (s : Device) : CmdEnd :=
  let d := p.desc
  let n := d.target.toNat
  let c := loopCfg (recNow s 0x03 1 n)
  let v := ofWord c.bf d.p0.toNat
  checked [
    .when (noLoop s d) .notFound 0,
    .bad { pmask := 1 } [(numLt c.bf v (c.l 5) || numLt c.bf (c.l 6) v, 24)],
    .when (c.mode != 2) .rejectedState 0]
    (fun _ s => okWith (loopOf s n).outLast.toNat (modLoop n (fun l => { l with manOut := d.p0, manSet := true }) s)) p s

/-- The loop state record of Table LPE-5. -/
def loopRecord (bf : Bool) (st : LoopSt) : List Byte :=
  le 1 st.modeAct ++ le 1 (loopStatus st) ++ le 2 st.version ++ le 4 st.evals.toNat ++ le 8 (st.stime / 256) ++
  le 6 (if bf then wrapInt 40 st.i * 256 + wrapInt 8 st.iExp else wrapInt 48 st.i) ++ le 2 0 ++
  le 4 st.d.toNat ++ le 4 st.pvLast.toNat ++ le 4 st.spLast.toNat ++ le 4 st.outLast.toNat ++ le 4 st.manOut.toNat ++
  le 4 st.eLast.toNat ++ le 4 st.ffLast.toNat ++ le 4 st.codeLast.toNat ++ le 4 st.code2Last.toNat ++ le 4 0

/-- LPE_READ_STATE (R231). -/
def readLoop (p : Pend) (s : Device) : CmdEnd :=
  let n := p.desc.target.toNat
  checked [
    .when (noLoop s p.desc) .notFound 0,
    .bad { bufMin := 64, bufMax := 16777216 } []]
    (fun _ s => okBuf (loopOf s n).modeAct (loopRecord (loopCfg (recNow s 0x03 1 n)).bf (loopOf s n)) s) p s

/-- LPE_CLEAR_COUNTERS (R230, R233). -/
def lpeClear (p : Pend) (s : Device) : CmdEnd :=
  let m := p.desc.p0.toNat
  checked [.bad { target := false, pmask := 1 } [(2 ^ 6 ≤ m, 24)]]
    (fun _ s => okWith 0 { s with lpe := { s.lpe with
      satCnt := clr m 0 s.lpe.satCnt, bumpLim := clr m 1 s.lpe.bumpLim, staleOpen := clr m 2 s.lpe.staleOpen,
      laneErr := clr m 3 s.lpe.laneErr, fmtOvf := clr m 4 s.lpe.fmtOvf, orderDrift := clr m 5 s.lpe.orderDrift } }) p s

/-- LPE_LOOPS (Table LPE-10). -/
def lpeLoops (s : Device) : Nat :=
  let all := objsOf s 0x03 1
  all.length + 2 ^ 16 * all.countP (fun n => (loopOf s n).modeAct == 4)

/-- The loops whose record a commit changes (R135, R136, R223, R805): a change of the coefficients of a loop that is CLOSED
before the commit, or that the commit sets CLOSED, makes its first evaluation from the commit on TRACK; a change of MODE_CMD
clears a latched stale-open. -/
def commitLoops (a : Armed) (old : Nat → List Byte) (s : Device) : Device :=
  (objsOf s 0x03 1).foldl (fun s n =>
    let o := old n
    let b := recNow s 0x03 1 n
    if o = b then s
    else
      let coef := (o.drop 16).take 65 != (b.drop 16).take 65
      let mode := fld 0 1 o % 8 != fld 0 1 b % 8
      modLoop n (fun l => { l with
        patchAt := if coef && (fld 0 1 o % 8 == 4 || fld 0 1 b % 8 == 4) then l.patchAt ++ [a.commit] else l.patchAt,
        staleOpen := l.staleOpen && !mode, manSet := l.manSet && !mode, cause := if mode then 1 else l.cause }) s) s

/-! ## The rows of the table of operations -/

/-- FIRING_DISPATCH (R171): The head of the ready queue goes to the lowest-numbered free active lane once one is
free. -/
def execFiringDispatch (s : State) : Host.Outcome State Fault Refusal :=
  .next { s with dev := dispatchFiring s.dev }

/-- LPE_SET_MODE (R230): Writes MODE_CMD of a loop and clears a latched stale-open. -/
def execLpeSetMode (d : Desc) (s : State) : Host.Outcome State Fault Refusal :=
  .next { s with dev := runCmd setMode d s.dev }

/-- LPE_SET_COEF (R220): Writes one coefficient of an open loop. -/
def execLpeSetCoef (d : Desc) (s : State) : Host.Outcome State Fault Refusal :=
  .next { s with dev := runCmd setCoef d s.dev }

/-- LPE_SET_LIMIT (R230): Writes one limit of a loop. -/
def execLpeSetLimit (d : Desc) (s : State) : Host.Outcome State Fault Refusal :=
  .next { s with dev := runCmd setLimit d s.dev }

/-- LPE_SET_SP (R201): Places a HOST set-point token in operand 1. -/
def execLpeSetSp (d : Desc) (s : State) : Host.Outcome State Fault Refusal :=
  .next { s with dev := runCmd setSp d s.dev }

/-- LPE_SET_OUTPUT (R218): Writes MAN_OUT of a MANUAL loop. -/
def execLpeSetOutput (d : Desc) (s : State) : Host.Outcome State Fault Refusal :=
  .next { s with dev := runCmd setOutput d s.dev }

/-- LPE_READ_STATE (R231): Returns a loop state record. -/
def execLpeReadState (d : Desc) (s : State) : Host.Outcome State Fault Refusal :=
  .next { s with dev := runCmd readLoop d s.dev }

/-- LPE_CLEAR_COUNTERS (R230): Clears the selected LPE counters. -/
def execLpeClearCounters (d : Desc) (s : State) : Host.Outcome State Fault Refusal :=
  .next { s with dev := runCmd lpeClear d s.dev }

end Sys2Proof.Machine
end

