-- ==== Sys2Proof/Machine/Image.lean ====
section
/-!
DEFINITION. Machine/Image.lean: the bytes of journal records and image slots: entries, parts, items, directory (R600, R601,
R604, Tables KEP-3 to KEP-5).
-/
namespace Sys2Proof.Config

/-- What an entry holds beyond the fields whose places the spec gives: the CFG entry, a task's control word, an axis, a
program's first 64 bytes, a station's first 64 bytes (Table KEP-5). Free (log 47). -/
opaque cfgEntry : Sys2Proof.Machine.Cfg → List (BitVec 8)
opaque taskControl : Sys2Proof.Machine.Task → List (BitVec 8)
opaque axisEntry : Sys2Proof.Machine.Axis → List (BitVec 8)
opaque progEntry : Sys2Proof.Machine.PgmCap → List (BitVec 8)
opaque stationEntry : Sys2Proof.Machine.Station → List (BitVec 8)
/-- The record size that an image's directory gives a section whose entries differ in size. Free (log 47). -/
opaque imageRecord : Nat → Nat

end Sys2Proof.Config

namespace Sys2Proof.Machine

/-! ## Entries (Table KEP-5) -/

/-- A token in 16 bytes: value, STIME, VERSION, flags (Table KEP-5); the bits of the flags are the model's (log 47). -/
def tokenSlot (fresh : Bool) (t : Token) : List Byte :=
  le 4 t.value.toNat ++ le 8 (t.time / 256) ++ le 2 t.version ++ le 2 (1 + flag 1 fresh + flag 2 t.stale + flag 3 t.bf)

/-- A task's entry of 192 bytes: 8 operand slots, the oldest primary in slot 0, 3 further primaries, the control word. -/
def taskEntry (k : Task) : List Byte :=
  let slot := fun (i : Nat) => match if i = 0 then k.prim.head? else none, tfind k.ops i with
    | some t, _ => tokenSlot true t
    | none, some v => tokenSlot v.fresh v.tok
    | none, none => le 16 0
  let later := fun (i : Nat) => match k.prim[i + 1]? with
    | some t => tokenSlot true t
    | none => le 16 0
  (List.range 8).flatMap slot ++ (List.range 3).flatMap later ++ padTo 16 (Config.taskControl k)

/-- A station's entry: 64 bytes, the input image, the output words with the low half of their sample times. -/
def stationImage (b : List Byte) (q : Station) : List Byte :=
  padTo 64 (Config.stationEntry q) ++
  (List.range (fld 8 2 b)).flatMap (fun w => le 4 (q.ins.getD w 0).toNat) ++
  (List.range (fld 10 2 b)).flatMap fun w => let o := tget q.outs w {}; le 4 o.value.toNat ++ le 4 (nsLow o.time)

/-- The OUT section: code and sample-time low half of each DAC channel and DIO pin. -/
def outSection (outs : Tab (Int × STime)) : List Byte :=
  (List.range 128).flatMap fun k => match tfind outs k with
    | some (code, t) => le 4 (wrapInt 32 code) ++ le 4 (nsLow t)
    | none => le 8 0

/-- The objects of a record kind that an image's configuration has, with their records. -/
def imageObjs (i : KepImage) (blk kind : Nat) : List CfgObj := i.cfg.objs.filter fun o => o.blk == blk && o.kind == kind

/-- The blocks of Table KEP-5 in section order; 0x09 stands for DAC and DIO. -/
def sectionBlocks : List Nat := [0x01, 0x02, 0x03, 0x06, 0x04, 0x0C, 0x09]

/-- Section kind of a reporting block (Table KEP-5). -/
def sectionKind (blk : Nat) : Nat := sectionBlocks.idxOf blk + 1

/-- The entries of a block's section, each under its object (Table KEP-5). The OUT section is one entry of object 0 (log 47). -/
def sectionEntries (i : KepImage) (blk : Nat) : List (Nat × List Byte) :=
  match blk with
  | 0x01 => [(0, padTo 4096 (Config.cfgEntry i.cfg))]
  | 0x02 => (imageObjs i 0x02 1).map fun o => (o.obj, taskEntry (tget i.tasks o.obj {}))
  | 0x03 => (imageObjs i 0x03 1).map fun o => (o.obj, loopRecord (loopCfg o.cur).bf (tget i.loops o.obj {}))
  | 0x06 => (imageObjs i 0x06 1).map fun o => (o.obj, padTo 128 (Config.axisEntry (tget i.axes o.obj {})))
  | 0x04 => (imageObjs i 0x04 1).map fun o => (o.obj, match tfind i.progs o.obj with
    | some c => padTo 64 (Config.progEntry c) ++ c.inst
    | none => le 64 0)
  | 0x0C => (imageObjs i 0x0C 3).map fun o => (o.obj, stationImage o.cur (tget i.stations o.obj {}))
  | 0x09 => [(0, outSection i.outs)]
  | _ => []

/-! ## Items and parts (R601) -/

/-- An item: OBJECT, OFFSET within its entry, data. -/
structure Item where
  obj  : Nat
  off  : Nat
  data : List Byte
deriving DecidableEq, Repr

/-- A part: block, section kind, items. -/
structure Part where
  blk   : Nat
  kind  : Nat
  items : List Item
deriving DecidableEq, Repr

/-- The piece of an entry that changes as a whole, and whether pieces that follow each other make one item. The examples of
R601 and R608 give them: a loop and a program line of 64 bytes, slots of a task, an axis, the words of a station, the OUT
section (log 92). -/
def itemPiece (blk : Nat) : Nat × Bool :=
  match blk with
  | 0x02 => (16, true)
  | 0x06 => (128, false)
  | 0x0C => (8, true)
  | 0x09 => (1024, false)
  | _ => (64, false)

/-- A byte string in pieces of `n`, the last filled up to a multiple of 8 (R601); `k` bounds their number. -/
def pieces (n : Nat) : Nat → List Byte → List (List Byte)
  | 0, _ => []
  | _, [] => []
  | k + 1, bs => padTo ((min n bs.length + 7) / 8 * 8) (bs.take n) :: pieces n k (bs.drop n)

/-- The pieces that differ from those of an earlier entry, with their offsets; all of them where there is none. -/
def changedPieces (n : Nat) (join : Bool) : Nat → List (List Byte) → List (List Byte) → List (Nat × List Byte)
  | _, _, [] => []
  | off, old, p :: rest =>
    let later := changedPieces n join (off + n) old.tail rest
    if old.head? = some p then later
    else match join, later with
      | true, (o, d) :: more => if o = off + n then (off, p ++ d) :: more else (off, p) :: later
      | _, _ => (off, p) :: later

/-- The items of a part: what has changed since the last committed record, or everything (R594). -/
def partItems (blk : Nat) (old : List (Nat × List Byte)) (new : List (Nat × List Byte)) : List Item :=
  let (n, join) := itemPiece blk
  let cut := fun (bs : List Byte) => pieces n bs.length bs
  new.flatMap fun e =>
    let was := ((old.find? (fun o => o.1 == e.1)).map (fun o => cut o.2)).getD []
    (changedPieces n join 0 was (cut e.2)).map fun d => { obj := e.1, off := d.1, data := d.2 }

/-- An item: OBJECT, LEN, OFFSET, data (R601). -/
def itemBytes (i : Item) : List Byte := le 2 i.obj ++ le 2 i.data.length ++ le 4 i.off ++ i.data

/-- A part: a head of 16 bytes, then its items (R601). -/
def partBytes (p : Part) : List Byte :=
  let body := p.items.flatMap itemBytes
  le 1 p.blk ++ le 1 p.kind ++ le 2 0 ++ le 4 (16 + body.length) ++ le 4 p.items.length ++ le 4 0 ++ body

/-- The items that bytes spell, `k` of them. -/
def parseItems : Nat → List Byte → List Item
  | 0, _ => []
  | k + 1, bs =>
    { obj := fld 0 2 bs, off := fld 4 4 bs, data := (bs.drop 8).take (fld 2 2 bs) } :: parseItems k (bs.drop (8 + fld 2 2 bs))

/-- The part that bytes spell. -/
def parsePart (bs : List Byte) : Part :=
  { blk := fld 0 1 bs, kind := fld 1 1 bs, items := parseItems (fld 8 4 bs) ((bs.take (fld 4 4 bs)).drop 16) }

/-- A block's part of a record, from the image that the last committed record left; none where nothing has changed (R594,
R600). -/
def buildPart (blk : Nat) (old : Option KepImage) (new : KepImage) : List Byte :=
  let items := partItems blk ((old.map (sectionEntries · blk)).getD []) (sectionEntries new blk)
  if items.isEmpty then [] else partBytes { blk, kind := sectionKind blk, items }

/-! ## Records (R600, Table KEP-3) -/

/-- A journal record as it stands in the ring: header, parts, trailer. The parts of a DIRECT record stand in the slots (R603). -/
def recordBytes (r : KepRec) : List Byte :=
  let parts := if r.direct then [] else r.parts
  let body := parts.flatMap id
  let head := le 4 0x524A5A4B ++ le 2 1 ++ le 2 parts.length ++ le 8 r.epoch ++ le 8 (r.te / 256) ++ le 4 (80 + body.length) ++
    le 2 r.img.version ++ le 2 (min r.stretch 65535) ++ le 8 r.prev ++ le 1 (flag 0 r.full + flag 1 r.direct) ++ le 19 0
  let all := head ++ le 4 (crc32c head).toNat ++ body
  all ++ le 4 0x544D4F43 ++ le 4 r.epoch ++ le 4 (crc32c all).toNat ++ le 4 0

/-! ## Slots (R604, R605) -/

/-- An item is written at its offset within its object's entry. -/
def applyItem (kind : Nat) (t : Tab (List Byte)) (i : Item) : Tab (List Byte) :=
  let key := kind * 65536 + i.obj
  let e := tget t key []
  tset t key (overwrite i.off i.data (padTo (max e.length (i.off + i.data.length)) e))

/-- A part is applied to the sections of a slot (R601, R605). -/
def applyPart (t : Tab (List Byte)) (bs : List Byte) : Tab (List Byte) :=
  let p := parsePart bs
  p.items.foldl (applyItem p.kind) t

/-- The slot that a record makes of a slot (R605). -/
def applyRecord (q : KepSlot) (r : KepRec) : KepSlot :=
  { state := 2, epoch := r.epoch, te := r.te, img := r.img, sect := r.parts.foldl applyPart (if r.full then [] else q.sect) }

/-- Record size that the directory gives a section. -/
def sectionRecord (kind : Nat) : Nat :=
  match kind with
  | 1 => 4096 | 2 => 192 | 3 => 64 | 4 => 128 | 7 => 8 | k => Config.imageRecord k

/-- The sections of a slot: block, kind, entries. -/
def slotSections (q : KepSlot) : List (Nat × Nat × List (List Byte)) :=
  sectionBlocks.map fun blk =>
    (blk, sectionKind blk, (q.sect.filter (fun e => e.1 / 65536 == sectionKind blk)).map (·.2))

/-- The directory entries, each laid out as in R108, with their sections from offset `off` on. -/
def imageDirectory : Nat → List (Nat × Nat × List (List Byte)) → List Byte
  | _, [] => []
  | off, (blk, kind, es) :: rest =>
    let size := (es.map List.length).sum
    let count := if kind = 7 then size / 8 else es.length
    le 1 blk ++ le 1 kind ++ le 2 (sectionRecord kind) ++ le 4 count ++ le 4 off ++ le 4 0 ++ imageDirectory (off + size) rest

/-- An image slot as bytes (R604). -/
def imageBytes (q : KepSlot) : List Byte :=
  let secs := slotSections q
  let dir := imageDirectory 176 secs
  let body := secs.flatMap fun e => e.2.2.flatMap id
  let head := fun (state : Nat) =>
    le 4 0x4D495A4B ++ le 2 1 ++ le 1 state ++ le 1 q.img.policy ++ le 8 q.epoch ++ le 8 (q.te / 256) ++
    le 4 (176 + body.length) ++ le 2 q.img.version ++ le 2 7 ++ le 4 q.img.baseCrc.toNat ++ le 24 0
  head q.state ++ le 4 (crc32c (head 0 ++ dir)).toNat ++ dir ++ body

end Sys2Proof.Machine
end

