-- ==== Sys2Proof/Machine/Dio.lean ====
section
/-!
DEFINITION. Machine/Dio.lean: analog outputs, digital pins, PWM, pulse inputs, position ports and UARTs
(08_outputs_digital_pulse).
-/
namespace Sys2Proof.Machine

def dacOf (s : Device) (n : Nat) : DacCh := tget s.dac.chans n {}
def modDac (n : Nat) (f : DacCh → DacCh) (s : Device) : Device :=
  { s with dac.chans := tset s.dac.chans n (f (dacOf s n)) }
def pinOf (s : Device) (n : Nat) : Pin := tget s.dio.pins n {}
def modPin (n : Nat) (f : Pin → Pin) (s : Device) : Device :=
  { s with dio.pins := tset s.dio.pins n (f (pinOf s n)) }
def pulseOf (s : Device) (n : Nat) : Pulse := tget s.dio.pulses n {}
def modPulse (n : Nat) (f : Pulse → Pulse) (s : Device) : Device :=
  { s with dio.pulses := tset s.dio.pulses n (f (pulseOf s n)) }
def portOf (s : Device) (n : Nat) : Port := tget s.dio.ports n {}
def modPort (n : Nat) (f : Port → Port) (s : Device) : Device :=
  { s with dio.ports := tset s.dio.ports n (f (portOf s n)) }
def uartOf (s : Device) (n : Nat) : Uart := tget s.dio.uarts n {}
def modUart (n : Nat) (f : Uart → Uart) (s : Device) : Device :=
  { s with dio.uarts := tset s.dio.uarts n (f (uartOf s n)) }

/-! ## Analog outputs -/

/-- The channel takes codes only from DAC_SET (R311). -/
def dacHost (s : Device) (n : Nat) : Bool := bit 1 (fld 0 1 (recNow s 0x09 1 n))

/-- CMIN and CMAX of a channel record. -/
def dacLimits (b : List Byte) : Int × Int := (sfld 8 4 b, sfld 12 4 b)

/-- An output is discarded at a DAC channel (R308, R311). -/
def dacDrop (o : OutItem) (s : Device) : Device :=
  report o .discarded 0 (raise Ev.dacOrderDrop [(1, o.index), lo32 (nsLow o.time)]
    { s with dac.orderDrop := s.dac.orderDrop + 1 })

/-- While a cut is open, an output stamped at or after T_e that replaces one stamped before it leaves the latter's code
to the cut (Table KEP-2, R592). Keys: the channel, or 32 + the pin. -/
def cutOutput (key : Nat) (code : Int) (held : Option STime) (new : STime) (s : Device) : Device :=
  match s.kep.cut with
  | none => s
  | some k =>
    let at_ := held.getD 0
    if k.te ≤ new && at_ < k.te && !k.ready.contains 0x09 && (tfind k.img.outs key).isNone then
      { s with kep.cut := some { k with img := { k.img with outs := tset k.img.outs key (code, at_) } } }
    else s

/-- A code is latched: the issue time is now (R309, R646). -/
def dacLatch (o : OutItem) (s : Device) : Device :=
  let now := nowD s
  let s := cutOutput o.index (dacOf s o.index).code (dacOf s o.index).time o.time s
  let s := modDac o.index (fun c => { c with code := o.code, time := some o.time, issue := some now, wait := none }) s
  let (aux, far) := auxTime now o.time
  report o .applied now (ltnRecord 6 o.index 0 now o.version (BitVec.ofInt 32 o.code) aux far s)

/-- A channel can latch now: 1 µs after the latch before, and not while FBL is in control, when every output that FBL does not
map holds (R309, R314). -/
def dacFree (c : DacCh) (s : Device) : Bool := c.issue.all (fun t => t + usT 1 ≤ nowD s) && !s.fbl.control

/-- DAC_HOLD_LATCH (R309, R314). -/
def dacHold (n : Nat) (s : Device) : Device :=
  let c := dacOf s n
  match c.wait with
  | some o => if dacFree c s then dacLatch o s else s
  | none => s

/-- A code meets the order rule and the 1 µs limit of its channel (R308, R309), and waits while FBL is in control (R314); a
waiting code whose instant has come is latched before it. -/
def dacAccept (o : OutItem) (s : Device) : Device :=
  let s := dacHold o.index s
  let c := dacOf s o.index
  let held := match c.wait with | some w => some w.time | none => c.time
  if held.any (fun t => o.time < t) then dacDrop o s
  else match recAt s 0x09 1 o.index o.time with
  | none => report o .discarded 0 (versionDrop 0x09 o.version s)
  | some b =>
    let o := { o with code := clampI (dacLimits b).1 (dacLimits b).2 o.code }
    if dacFree c s then dacLatch o s
    else
      let s := match c.wait with
        | some w => report w .superseded 0 { s with dac.supersede := s.dac.supersede + 1 }
        | none => s
      modDac o.index (fun c => { c with wait := some o }) s

/-- The oldest output on its way to a destination. -/
def takeOutput (kind index : Nat) (s : Device) : Option OutItem × Device :=
  let mine := fun (o : OutItem) => o.kind == kind && o.index == index
  (s.outputs.find? mine, { s with outputs := s.outputs.eraseP mine })

/-- DAC_OUTPUT_ARRIVAL (R308, R309, R311). -/
def dacArrival (n : Nat) (s : Device) : Device :=
  match takeOutput 1 n s with
  | (none, _) => s
  | (some o, s) => if dacHost s n then dacDrop o s else dacAccept o s

/-- DAC_OE_WRITE (R307). -/
def dacOeWrite (v : Nat) (s : Device) : Device :=
  domeWrite (fun s => { hazard 0x90000 s with dac.oe := v % 2 ^ 32 }) s

/-- The ball of an analog output is driven (R306, R334). -/
def dacDrives (s : Device) (n : Nat) : Bool := bit n s.dac.oe && fieldOn s

/-- DAC_SET (R309, R311, R335). -/
def dacSet (p : Pend) (s : Device) : CmdEnd :=
  let d := p.desc
  let n := d.target.toNat
  let v := sword d.p0
  let (lo, hi) := dacLimits (recNow s 0x09 1 n)
  checked [
    .when (31 < n || !created s 0x09 1 n) .notFound 0,
    .bad { pmask := 1 } [(v < lo || hi < v, 24)],
    .when (!dacHost s n) .rejectedState 0]
    (fun _ s =>
      let t := nowD s
      okWith (wrapInt 32 (dacOf s n).code)
        (dacAccept { kind := 1, index := n, code := v, time := t, version := versionAt s t } s)) p s

/-- DAC across CFG_LOAD_BASE: INIT first, then the enables (R307). -/
def loadDac (s : Device) : Device :=
  let chans := objsOf s 0x09 1
  let s := { s with dac.chans := chans.map (fun n => (n, { code := sfld 4 4 (recNow s 0x09 1 n) : DacCh })) }
  { s with dac.oe := (chans.map (fun n => flag n (bit 0 (fld 0 1 (recNow s 0x09 1 n))))).sum }

/-- One bit of a mask set or cleared. -/
def putBit (k : Nat) (b : Bool) (m : Nat) : Nat := m - flag k (bit k m) + flag k b

/-- A commit that changes ENABLE of a channel sets or clears its bit of DAC_OE (R307). -/
def commitDac (old : Nat → List Byte) (s : Device) : Device :=
  (objsOf s 0x09 1).foldl (fun s n =>
    let was := bit 0 (fld 0 1 (old n))
    let is := bit 0 (fld 0 1 (recNow s 0x09 1 n))
    if was = is then s else { s with dac.oe := putBit n is s.dac.oe }) s

/-! ## Digital pins -/

/-- MODE, INVERT and OWNER of a pin record (Table DIO-2). -/
def pinMode (b : List Byte) : Nat := fld 0 1 b % 8
def pinInvert (b : List Byte) : Bool := bit 3 (fld 0 1 b)
def pinHost (b : List Byte) : Bool := bit 4 (fld 0 1 b)

/-- The accepted level of a pin as programs, tokens and registers see it, INVERT applied (R318). -/
def pinLevel (s : Device) (n : Nat) : Bool := (pinOf s n).level != pinInvert (recNow s 0x0A 1 n)

/-- An accepted change matches EDGE: 1 rising, 2 falling, 3 both (R318). -/
def edgeMatches (sel : Nat) (level : Bool) : Bool := if level then bit 0 sel else bit 1 sel

/-- An accepted change sends its token, raises its event and is recorded (R318, R646), under the record of its edge time. -/
def pinEdge (n : Nat) (at_ : STime) (b : List Byte) (s : Device) : Device :=
  let lv := (pinOf s n).level != pinInvert b
  let e := fld 1 1 b
  let v := versionAt s at_
  let val : Word := if lv then 1 else 0
  let hit := edgeMatches (e % 4) lv
  let s := if hit && bit 2 e then
      sendToken { time := at_, version := v, slot := fld 4 2 b % 4096, operand := fld 4 2 b / 4096 % 8,
                  source := 0x0A00 + n, value := val } s else s
  let s := if hit && bit 3 e then raise Ev.dioEdge [(1, n), (1, val.toNat)] s else s
  ltnRecord 8 n 0 at_ v val (pinOf s n).chat.toNat 0 s

/-- DIO_INPUT_ACCEPT (R129, R315, R317): the raw level of pin `n` has been `level` since `at_`. FILT_US is that of the raw
transition; a change whose record is no longer kept still moves the accepted level, but sends nothing (R132). -/
def inputAccept (n : Nat) (level : Bool) (at_ : STime) (s : Device) : Device :=
  let b := (recAt s 0x0A 1 n at_).getD (recNow s 0x0A 1 n)
  if pinMode b = 0 || (pinOf s n).level == level || nowD s < at_ + usT (fld 2 2 b) then s
  else underRec 0x0A 1 n at_ (pinEdge n at_) (modPin n (fun p => { p with level := level, edgeAt := at_ }) s)

/-- DIO_RAW_EXCURSION_SUPPRESS (R316). -/
def excursion (n : Nat) (s : Device) : Device :=
  let b := recNow s 0x0A 1 n
  if pinMode b = 0 || fld 2 2 b = 0 then s
  else
    let now := nowD s
    let quiet := (pinOf s n).chatAt.all (fun t => t + secT 1 ≤ now)
    let s := modPin n (fun p => { p with chat := p.chat + 1, chatAt := some now }) s
    if quiet then raise Ev.dioChatter [(1, n), (4, (pinOf s n).chat.toNat)] s else s

/-- DIO_OE_WRITE (R313): word `w` of the enables. -/
def dioOeWrite (w v : Nat) (s : Device) : Device :=
  if 2 < w then s
  else domeWrite (fun s => { hazard (0xA0020 + 4 * w) s with
    dio.oe := s.dio.oe - bits (32 * w + 31) (32 * w) s.dio.oe * 2 ^ (32 * w) + v % 2 ^ 32 * 2 ^ (32 * w) }) s

/-- The pin is a digital output. -/
def pinIsOutput (b : List Byte) : Bool := pinMode b == 2 || pinMode b == 3

/-- The ball of a pin is driven (R313, R334). -/
def pinDrives (s : Device) (n : Nat) : Bool :=
  bit n s.dio.oe && fieldOn s && (pinIsOutput (recNow s 0x0A 1 n) || pinMode (recNow s 0x0A 1 n) == 4)

/-- A level reaches a digital output in sample-time order (R20). While FBL is in control its map drives the mapped pins and
every other output holds, so the level is not applied (R314; DEDUCED, log 87). -/
def pinWrite (n : Nat) (level : Bool) (t : STime) (s : Device) : Device :=
  if s.fbl.control then s
  else if (pinOf s n).outTime.any (fun x => t < x) then { s with dio.orderDrop := s.dio.orderDrop + 1 }
  else
    let s := cutOutput (32 + n) (flag 0 (pinOf s n).out) (pinOf s n).outTime t s
    modPin n (fun p => { p with out := level, outTime := some t }) s

/-- The pins 32w to 32w + 31 as a word of the given truth values. -/
def pinWord (w : Nat) (f : Nat → Bool) : Nat := ((List.range 32).map (fun k => flag k (f (32 * w + k)))).sum

/-- DIO_SET (R335). -/
def dioSet (p : Pend) (s : Device) : CmdEnd :=
  let d := p.desc
  let w := d.target.toNat
  let m := d.p0.toNat
  checked [
    .when (2 < w) .notFound 0,
    .bad { pmask := 3 } [],
    .when (!(List.range 32).all (fun k => !bit k m ||
      (pinIsOutput (recNow s 0x0A 1 (32 * w + k)) && pinHost (recNow s 0x0A 1 (32 * w + k))))) .rejectedState 0]
    (fun _ s =>
      let t := nowD s
      let prev := pinWord w (fun n => (pinOf s n).out)
      okWith prev ((List.range 32).foldl (fun s k =>
        if bit k m then pinWrite (32 * w + k) (bit k d.p1.toNat) t s else s) s)) p s

/-! ### PWM -/

/-- A code older than the one a PWM pin holds is discarded and counted (R20, R321). -/
def pwmDrop (o : OutItem) (s : Device) : Device :=
  report o .discarded 0 { s with dio.pwmSupersede := s.dio.pwmSupersede + 1 }

/-- PWM_CODE_ARRIVAL (R320, R321): the newest code by sample time waits for the next period start. -/
def pwmArrival (n : Nat) (s : Device) : Device :=
  match takeOutput 2 n s with
  | (none, _) => s
  | (some o, s) =>
    let p := pinOf s n
    let held := match p.pwmWait with | some w => some w.time | none => p.pwmTime
    if pinMode (recNow s 0x0A 1 n) ≠ 4 then report o .discarded 0 s
    else if held.any (fun t => o.time < t) then pwmDrop o s
    else
      let s := match p.pwmWait with
        | some w => report w .superseded 0 { s with dio.pwmSupersede := s.dio.pwmSupersede + 1 }
        | none => s
      modPin n (fun p => { p with pwmWait := some { o with code := clampI 0 65536 o.code } }) s

/-- The high time of a PWM pin in ns: its part of the period, to the nearest 5 ns (R320). -/
def pwmHigh (b : List Byte) (code : Nat) : Nat := 5 * (roundQuot (code * fld 8 4 b : Nat) (5 * 65536)).toNat

/-- A PWM code as a pin latches it at a period start. -/
def pwmLatch (n code : Nat) (t : STime) (s : Device) : Device :=
  let high := pwmHigh (recNow s 0x0A 1 n) code
  modPin n (fun p => { p with pwm := code, pwmTime := some t, pwmHigh := high, pwmWait := none }) s

/-- PWM_PERIOD_START (R314, R320, R321, R646): a period begins, under the PWM_PERIOD_NS in force. -/
def pwmStart (n : Nat) (s : Device) : Device :=
  match (pinOf s n).pwmWait with
  | none => modPin n (fun p => { p with pwmHigh := pwmHigh (recNow s 0x0A 1 n) p.pwm }) s
  | some o =>
    if s.fbl.control then s else
    let now := nowD s
    let s := cutOutput (32 + n) (pinOf s n).pwm (pinOf s n).pwmTime o.time s
    let s := pwmLatch n o.code.toNat o.time s
    let (aux, far) := auxTime now o.time
    report o .applied now (ltnRecord 7 n 0 now o.version (BitVec.ofInt 32 o.code) aux far s)

/-! ## Pulse inputs -/

/-- A pulse input's record flags: ENABLE, FREQ, both edges. -/
def pulseOn (s : Device) (p : Nat) : Bool := bit 0 (fld 0 1 (recNow s 0x0A 2 p))

/-- More than 5 counted edges lie within the 100 ns before `t` (R323). -/
def overspeedNow (t : STime) (recent : List STime) : Bool := 5 < recent.countP (fun x => t < x + nsT 100)

/-- OVERSPEED is set, and named, when the condition holds and it was clear (R323). -/
def checkOverspeed (p : Nat) (t : STime) (s : Device) : Device :=
  let u := pulseOf s p
  if !u.overspeed && overspeedNow t u.recent then
    raise Ev.dioOverspeed [(1, p)] (modPulse p (fun u => { u with overspeed := true }) s)
  else s

/-- An edge counts under a record of its pulse input: EDGE selects rising edges, or both (R322). -/
def edgeCounts (b : List Byte) (rising : Bool) : Bool := bit 0 (fld 0 1 b) && (rising || bit 2 (fld 0 1 b))

/-- PULSE_EDGE (R322, R323): a rising or falling edge at `at_`. -/
def pulseEdge (p : Nat) (rising : Bool) (at_ : STime) (s : Device) : Device :=
  if !edgeCounts (recNow s 0x0A 2 p) rising then s
  else checkOverspeed p at_ (modPulse p (fun u => { u with
    count := u.count + 1, recent := (at_ :: u.recent).take 6, n := u.n + 1,
    firstEdge := if u.n = 0 then at_ else u.firstEdge, lastEdge := at_ }) s)

/-- The value of a sample interval (R324). -/
def pulseValue (freq : Bool) (u : Pulse) : Nat :=
  if !freq then u.count.toNat
  else if u.n < 2 || u.lastEdge ≤ u.firstEdge then 0
  else (roundQuot (16 * (u.n - 1) * 1000000000 * 256 : Nat) (u.lastEdge - u.firstEdge : Nat)).toNat

/-- PULSE_SAMPLE (R323, R324): the sample interval has ended. -/
def pulseSample (p : Nat) (s : Device) : Device :=
  let b := recNow s 0x0A 2 p
  let u := pulseOf s p
  let end_ := u.sampleAt + nsT (fld 4 4 b)
  if !pulseOn s p || nowD s < end_ then s
  else
    underRec 0x0A 2 p end_ (fun b s =>
      sendToken { time := end_, version := versionAt s end_, slot := fld 2 2 b % 4096, operand := fld 2 2 b / 4096 % 8,
                  source := 0x0A60 + p, overspeed := u.overspeed
                  value := BitVec.ofNat 32 (pulseValue (bit 1 (fld 0 1 b)) u) } s)
      (modPulse p (fun u => { u with n := 0, sampleAt := end_ }) s)

/-- DIO_PSTAT_CLEAR (R323): a W1C write to DIO_PSTATp; OVERSPEED is set again while its condition still holds. -/
def pstatClear (p v : Nat) (s : Device) : Device :=
  if bit 0 v then
    domeWrite (fun s => checkOverspeed p (nowD s) (modPulse p (fun u => { u with overspeed := false }) s)) s
  else s

/-! ## Position ports -/

/-- A port is an enabled ABZ, or SSI, port. -/
def portAbz (s : Device) (q : Nat) : Bool := let f := fld 0 1 (recNow s 0x0A 3 q); bit 0 f && !bit 1 f
def portSsi (s : Device) (q : Nat) : Bool := let f := fld 0 1 (recNow s 0x0A 3 q); bit 0 f && bit 1 f

/-- The step of a quadrature transition; A leading B counts up (PRESUMED, log 15). -/
def quadStep (a b a' b' : Bool) : Int :=
  if a != a' then (if a' != b then 1 else -1) else if b != b' then (if a == b' then 1 else -1) else 0

/-- QUADRATURE_TRANSITION (R325): the levels of A and B in a CK_DOME sample. -/
def quadrature (q : Nat) (a b : Bool) (s : Device) : Device :=
  let p := portOf s q
  if !portAbz s q then s
  else if p.a != a && p.b != b then
    let s := modPort q (fun p => { p with a := a, b := b, err := p.err + 1 }) s
    raise Ev.dioQuadErr [(1, q), (4, (portOf s q).err.toNat)] s
  else modPort q (fun p => { p with
    a := a, b := b, pos := signed 32 (wrapInt 32 (p.pos + quadStep p.a p.b a b)), capture := nowD s }) s

/-- Z_INDEX_EDGE (R325): a qualified Z edge, in a sample in which A and B stand as given. -/
def zEdge (q : Nat) (a b : Bool) (s : Device) : Device :=
  let s := quadrature q a b s
  if portAbz s q && bit 3 (fld 0 1 (recNow s 0x0A 3 q)) then modPort q (fun p => { p with zlat := p.pos }) s else s

/-- Gray code to binary over `n` bits. -/
def grayDecode : Nat → Nat → Nat
  | 0, _ => 0
  | n + 1, g => Nat.xor g (grayDecode n (g / 2))

/-- The position that a good SSI frame of first falling clock edge `at_` gives under a record (R326). -/
def ssiPosition (q raw : Nat) (at_ : STime) (b : List Byte) (s : Device) : Device :=
  let n := fld 1 1 b
  let v := raw % 2 ^ n
  let v := if bit 2 (fld 0 1 b) then grayDecode n v else v
  modPort q (fun p => { p with pos := signed n v, capture := at_, good := true }) s

/-- SSI_FRAME (R129, R326): the data line was high before the clock burst and low after the last bit, or not. -/
def ssiFrame (q raw : Nat) (high low : Bool) (at_ : STime) (s : Device) : Device :=
  if !portSsi s q then s
  else if high && low then underRec 0x0A 3 q at_ (ssiPosition q raw at_) s
  else
    let s := modPort q (fun p => { p with err := p.err + 1, good := false }) s
    raise Ev.dioSsiErr [(1, q), (4, (portOf s q).err.toNat)] s

/-- POSITION_SAMPLE (R327): an ABZ port samples its count; an SSI port sends the frame it has received. -/
def positionSample (q : Nat) (s : Device) : Device :=
  let b := recNow s 0x0A 3 q
  let p := portOf s q
  let end_ := p.sampleAt + nsT (fld 4 4 b)
  if !(portAbz s q || portSsi s q) || nowD s < end_ then s
  else
    let s := modPort q (fun p => { p with sampleAt := end_ }) s
    if portSsi s q && !p.good then s
    else
      let t := if portSsi s q then p.capture else end_
      underRec 0x0A 3 q t (fun b s =>
        sendToken { time := t, version := versionAt s t, slot := fld 2 2 b % 4096, operand := fld 2 2 b / 4096 % 8,
                    source := 0x0A70 + q, value := BitVec.ofInt 32 p.pos } s)
        (modPort q (fun p => { p with good := !portSsi s q && p.good }) s)

/-! ## UARTs -/

/-- One bit time of a UART (R329). -/
def bitTime (b : List Byte) : STime := nsT (5 * fld 0 2 b)

/-- Bits of a frame: start, data, parity and stop. -/
def frameBits (b : List Byte) : Nat :=
  let f := fld 2 1 b
  1 + (if bit 1 f then 7 else 8) + (if bits 3 2 f = 0 then 0 else 1) + (if bit 4 f then 2 else 1)

/-- The data bits of a frame: 7 or 8 (R329). -/
def frameData (b : List Byte) (data : Byte) : Byte := if bit 1 (fld 2 1 b) then data &&& 0x7F else data

/-- The parity bit of a frame: none, or that which makes the number of ones even or odd (R329). -/
def frameParity (b : List Byte) (data : Byte) : Option Bool :=
  let odd := (List.range 8).countP (fun k => bit k (frameData b data).toNat) % 2 == 1
  match bits 3 2 (fld 2 1 b) with
  | 1 => some odd
  | 2 => some (!odd)
  | _ => none

/-- The UART is enabled. -/
def uartOn (s : Device) (u : Nat) : Bool := bit 0 (fld 2 1 (recNow s 0x0A 4 u))

/-- The window that feeds a UART's transmitter has a segment in use. -/
def uartSending (s : Device) (u : Nat) : Bool :=
  match windowOf s (0x0A94 + u) with
  | some w => !(winOf s w).hold.isEmpty
  | none => false

/-- DE is high (R330). -/
def uartDe (s : Device) (u : Nat) : Bool := uartSending s u || nowD s < (uartOf s u).deUntil

/-- Moves buffered records into the window's segments while there is room (R332). -/
def uartFlush (u : Nat) : Nat → Device → Device
  | 0, s => s
  | k + 1, s =>
    match windowOf s (0x0A90 + u), (uartOf s u).buf with
    | some w, r :: rest =>
      match pushRecord w 0x40 none r.bytes s with
      | (true, s) => uartFlush u k (modUart u (fun x => { x with buf := rest }) s)
      | (false, s) => s
    | _, _ => s

/-- UART_RX_BYTE (R329 to R332): the data bits, the parity bit where the frame has one, and flags [1] FRAME_ERR and [2] BREAK;
`at_` is the start bit. -/
def uartRx (u : Nat) (data : Byte) (parity : Bool) (flags : Nat) (at_ : STime) (s : Device) : Device :=
  if 3 < u || !uartOn s u || uartDe s u then s
  else
    let x := uartOf s u
    let b := recNow s 0x0A 4 u
    let wrong := (frameParity b data).any (fun p => p != parity)
    let s := modUart u (fun x => { x with lastRx := some at_ }) s
    if 256 ≤ x.buf.length then
      let s := modUart u (fun x => { x with lost := x.lost + 1, lostBefore := true }) s
      raise Ev.dioUartLost [(1, u), (2, (uartOf s u).lost.toNat)] s
    else
      let marks := flag 0 wrong + flag 1 (bit 1 flags) + flag 2 (bit 2 flags) + flag 3 x.lostBefore
      let r : BufRec := { bytes := le 4 (nsLow at_) ++ [frameData b data] ++ le 1 marks ++ le 2 0 }
      uartFlush u 257 (modUart u (fun x => { x with buf := x.buf ++ [r], lostBefore := false }) s)

/-- UART_RX_IDLE (R331): the line has been idle for RX_IDLE bit times. Records that still wait for a segment keep the idle line
in mind: their segment is handed back once they have one. -/
def uartIdle (u : Nat) (s : Device) : Device :=
  let b := recNow s 0x0A 4 u
  match (uartOf s u).lastRx, windowOf s (0x0A90 + u) with
  | some t, some w =>
    if nowD s < t + (frameBits b + fld 4 1 b) * bitTime b then s
    else
      let s := uartFlush u 257 s
      let s := if (uartOf s u).buf.isEmpty then modUart u (fun x => { x with lastRx := none }) s else s
      if (winOf s w).fill.isEmpty then s else handBack w s
  | _, _ => s

/-- A byte leaves a UART as one frame (R329, R331). -/
def uartSend (u : Nat) (b : List Byte) (s : Device) (data : Byte) : Device :=
  emit (.uart u (frameData b data) (frameParity b data)) s

/-- UART_TX_DONE (R329 to R331): the bytes of the oldest transmit segment have been sent, and the segment is
returned. While its pins are off a UART sends nothing, and the segment waits (R334). -/
def uartTxDone (u : Nat) (s : Device) : Device :=
  match windowOf s (0x0A94 + u) with
  | none => s
  | some w =>
    match (winOf s w).hold with
    | [] => s
    | g :: rest =>
      if !fieldOn s then s else
      let b := recNow s 0x0A 4 u
      let (pl, s) := readSegment w g s
      let s := match pl with
        | some bs => if uartOn s u then bs.foldl (uartSend u b) s else s
        | none => s
      returnSegment w (modUart u (fun x => { x with deUntil := nowD s + fld 3 1 b * bitTime b })
        (modWin w (fun v => { v with hold := rest }) s))

/-! ## Commands and configuration -/

/-- DIO_POS_PRESET (R335). -/
def posPreset (p : Pend) (s : Device) : CmdEnd :=
  let d := p.desc
  let q := d.target.toNat
  checked [
    .when (7 < q) .notFound 0,
    .bad { pmask := 1 } [],
    .when (!portAbz s q) .rejectedState 0]
    (fun _ s => okWith (wrapInt 32 (portOf s q).pos) (modPort q (fun x => { x with pos := sword d.p0 }) s)) p s

/-- DIO_CLEAR_COUNTERS (R335). -/
def dioClear (p : Pend) (s : Device) : CmdEnd :=
  let m := p.desc.p0.toNat
  checked [.bad { target := false, pmask := 1 } [(2 ^ 4 ≤ m, 24)]]
    (fun _ s => okWith 0 { s with
      dio.pins := tmap s.dio.pins (fun _ x => { x with chat := clr m 0 x.chat })
      dio.ports := tmap s.dio.ports (fun _ x => { x with err := clr m 1 x.err })
      dio.uarts := tmap s.dio.uarts (fun _ x => { x with lost := clr m 2 x.lost })
      dio.pwmSupersede := clr m 3 s.dio.pwmSupersede
      dac.supersede := clr m 3 s.dac.supersede }) p s

/-- DIO across CFG_LOAD_BASE: INIT first, then the enables of every output and PWM pin (R313); sampled inputs start a
new interval at `t`. -/
def loadDio (t : STime) (s : Device) : Device :=
  let pins := objsOf s 0x0A 1
  let s := pins.foldl (fun s n => modPin n (fun p => { p with
    out := bit 4 (fld 1 1 (recNow s 0x0A 1 n)), outTime := none, pwm := 0, pwmTime := none, pwmWait := none }) s) s
  let s := { s with dio.oe := (pins.map (fun n =>
    let m := pinMode (recNow s 0x0A 1 n)
    flag n (m == 2 || m == 3 || m == 4))).sum }
  { s with dio.pulses := (objsOf s 0x0A 2).map (fun p => (p, { pulseOf s p with n := 0, sampleAt := t }))
           dio.ports := (objsOf s 0x0A 3).map (fun q => (q, { portOf s q with sampleAt := t })) }

/-- A pulse input or port enabled at a commit starts its first sample interval there. -/
def commitDio (t : STime) (old2 old3 : Nat → List Byte) (s : Device) : Device :=
  let on := fun (b : List Byte) => bit 0 (fld 0 1 b)
  let s := (objsOf s 0x0A 2).foldl (fun s p =>
    if on (recNow s 0x0A 2 p) && !on (old2 p) then modPulse p (fun u => { u with n := 0, sampleAt := t }) s else s) s
  (objsOf s 0x0A 3).foldl (fun s q =>
    if on (recNow s 0x0A 3 q) && !on (old3 q) then modPort q (fun u => { u with sampleAt := t }) s else s) s

/-! ## The rows of the table of operations -/

/-- DAC_OUTPUT_ARRIVAL (R308): An output reaches a DAC channel and is latched, held, or discarded by sample-time
order. -/
def execDacOutputArrival (n : Nat) (s : State) : Host.Outcome State Fault Refusal :=
  .next { s with dev := dacArrival n s.dev }

/-- DAC_HOLD_LATCH (R309): 1 µs after the previous latch, the waiting code is latched. -/
def execDacHoldLatch (n : Nat) (s : State) : Host.Outcome State Fault Refusal :=
  .next { s with dev := dacHold n s.dev }

/-- DAC_OE_WRITE (R307): A write to DAC_OE enables or releases analog outputs at once. -/
def execDacOeWrite (v : Nat) (s : State) : Host.Outcome State Fault Refusal :=
  .next { s with dev := dacOeWrite v s.dev }

/-- DAC_SET (R311): Writes a code to a HOST-owned DAC channel. -/
def execDacSet (d : Desc) (s : State) : Host.Outcome State Fault Refusal :=
  .next { s with dev := runCmd dacSet d s.dev }

/-- DIO_OE_WRITE (R313): A write to DIO_OEw enables or releases digital outputs at once. -/
def execDioOeWrite (w v : Nat) (s : State) : Host.Outcome State Fault Refusal :=
  .next { s with dev := dioOeWrite w v s.dev }

/-- DIO_INPUT_ACCEPT (R315): A raw level held for FILT_US is accepted as an edge. -/
def execDioInputAccept (n : Nat) (level : Bool) (at_ : STime) (s : State) : Host.Outcome State Fault Refusal :=
  .next { s with dev := inputAccept n level at_ s.dev }

/-- DIO_RAW_EXCURSION_SUPPRESS (R316): A raw excursion that returns before FILT_US is suppressed and counted. -/
def execDioRawExcursionSuppress (n : Nat) (s : State) : Host.Outcome State Fault Refusal :=
  .next { s with dev := excursion n s.dev }

/-- PWM_CODE_ARRIVAL (R321): A PWM code arrives and waits for the next period start. -/
def execPwmCodeArrival (n : Nat) (s : State) : Host.Outcome State Fault Refusal :=
  .next { s with dev := pwmArrival n s.dev }

/-- PWM_PERIOD_START (R321): At a PWM period start, the newest code takes effect. -/
def execPwmPeriodStart (n : Nat) (s : State) : Host.Outcome State Fault Refusal :=
  .next { s with dev := pwmStart n s.dev }

/-- PULSE_EDGE (R322): A counted pulse edge advances DIO_PCNTp. -/
def execPulseEdge (p : Nat) (e : TimedEdge) (s : State) : Host.Outcome State Fault Refusal :=
  .next { s with dev := pulseEdge p e.rising e.at_ s.dev }

/-- PULSE_SAMPLE (R324): Every SAMPLE_NS, a pulse input sends a count or frequency token. -/
def execPulseSample (p : Nat) (s : State) : Host.Outcome State Fault Refusal :=
  .next { s with dev := pulseSample p s.dev }

/-- QUADRATURE_TRANSITION (R325): An ABZ transition updates the count or counts a quadrature error. -/
def execQuadratureTransition (q : Nat) (a b : Bool) (s : State) : Host.Outcome State Fault Refusal :=
  .next { s with dev := quadrature q a b s.dev }

/-- Z_INDEX_EDGE (R325): A qualified Z edge latches the count when Z_LATCH is set. -/
def execZIndexEdge (q : Nat) (a b : Bool) (s : State) : Host.Outcome State Fault Refusal :=
  .next { s with dev := zEdge q a b s.dev }

/-- SSI_FRAME (R326): An SSI frame completes and is decoded, or is discarded. -/
def execSsiFrame (q raw : Nat) (high low : Bool) (at_ : STime) (s : State) : Host.Outcome State Fault Refusal :=
  .next { s with dev := ssiFrame q raw high low at_ s.dev }

/-- POSITION_SAMPLE (R327): Every SAMPLE_NS, a port sends a position token. -/
def execPositionSample (q : Nat) (s : State) : Host.Outcome State Fault Refusal :=
  .next { s with dev := positionSample q s.dev }

/-- UART_RX_BYTE (R331): A received UART byte becomes an 8-byte record, or is buffered or lost while the window
is starved. -/
def execUartRxByte (u : Nat) (c : LineChar) (flags : Nat) (at_ : STime) (s : State) : Host.Outcome State Fault Refusal :=
  .next { s with dev := uartRx u c.data c.parity flags at_ s.dev }

/-- UART_RX_IDLE (R331): After RX_IDLE bit times of idle line, the receive segment is handed back. -/
def execUartRxIdle (u : Nat) (s : State) : Host.Outcome State Fault Refusal :=
  .next { s with dev := uartIdle u s.dev }

/-- UART_TX_DONE (R331): The last byte of a transmit segment has been sent, and the segment is returned. -/
def execUartTxDone (u : Nat) (s : State) : Host.Outcome State Fault Refusal :=
  .next { s with dev := uartTxDone u s.dev }

/-- DIO_PSTAT_CLEAR (R323): A W1C write clears OVERSPEED in DIO_PSTATp. -/
def execDioPstatClear (p v : Nat) (s : State) : Host.Outcome State Fault Refusal :=
  .next { s with dev := pstatClear p v s.dev }

/-- DIO_SET (R335): Sets masked HOST-owned output pins. -/
def execDioSet (d : Desc) (s : State) : Host.Outcome State Fault Refusal :=
  .next { s with dev := runCmd dioSet d s.dev }

/-- DIO_POS_PRESET (R335): Loads an ABZ port count. -/
def execDioPosPreset (d : Desc) (s : State) : Host.Outcome State Fault Refusal :=
  .next { s with dev := runCmd posPreset d s.dev }

/-- DIO_CLEAR_COUNTERS (R335): Clears the selected DIO counters. -/
def execDioClearCounters (d : Desc) (s : State) : Host.Outcome State Fault Refusal :=
  .next { s with dev := runCmd dioClear d s.dev }

end Sys2Proof.Machine
end

