-- ==== Sys2Proof/Machine/Can.lean ====
section
/-!
DEFINITION. Machine/Can.lean: the CAN FD controllers (13_can).
-/
namespace Sys2Proof.Machine

def ctlOf (s : Device) (n : Nat) : CanCtl := tget s.can.ctls n {}
def modCtl (n : Nat) (f : CanCtl → CanCtl) (s : Device) : Device :=
  { s with can.ctls := tset s.can.ctls n (f (ctlOf s n)) }
def canBuf (s : Device) (n b : Nat) : CanBuf := tget (ctlOf s n).bufs b {}
def modBuf (n b : Nat) (f : CanBuf → CanBuf) (s : Device) : Device :=
  modCtl n (fun c => { c with bufs := tset c.bufs b (f (tget c.bufs b {})) }) s

/-! ## Records (Table CAN-3) -/

def canRec (s : Device) (n : Nat) : List Byte := recNow s 0x0D 1 n
def canFlag (s : Device) (n k : Nat) : Bool := bit k (fld 0 1 (canRec s n))
def bufRec (s : Device) (n b : Nat) : List Byte := recNow s 0x0D 2 (16 * n + b)
/-- MODE of a buffer: 0 ONESHOT, 1 PERIODIC, 2 TT, 3 HOST. -/
def bufMode (s : Device) (n b : Nat) : Nat := if b = 15 then 3 else fld 0 1 (bufRec s n b) % 4
/-- ALONE_N and COLL_N; 0 stands for the default (DEDUCED, log 38). -/
def aloneN (s : Device) (n : Nat) : Nat := let v := fld 13 1 (canRec s n); if v = 0 then 64 else v
def collN (s : Device) (n : Nat) : Nat := let v := fld 14 1 (canRec s n); if v = 0 then 3 else v

/-- Bytes that a DLC stands for; a remote frame carries none (R510). -/
def dlcBytes (id ctl : Nat) : Nat :=
  let d := ctl % 16
  if bit 30 id then 0
  else if d ≤ 8 then d
  else if bit 4 ctl then [12, 16, 20, 24, 32, 48, 64].getD (d - 9) 64
  else 8

/-- One nominal bit time, in 1/256 ns (R512). -/
def canBit (s : Device) (n : Nat) : STime :=
  let b := canRec s n
  3200 * (fld 2 2 b * (1 + fld 4 2 b + fld 6 1 b))

/-- Identifier of a frame as arbitration compares it (R516). -/
def arbId (id : Nat) : Nat := if bit 29 id then id % 2 ^ 29 else id % 2 ^ 11 * 2 ^ 18

/-! ## Host queue (R515, R517, R518) -/

/-- Frame records of a transmit segment; the fuel bounds their number. -/
def canRecords : Nat → List Byte → List CanFrame
  | 0, _ => []
  | k + 1, b =>
    let id := fld 8 4 b
    let ctl := fld 12 1 b
    let n := dlcBytes id ctl
    if b.length < 16 + n then []
    else
      let f : CanFrame := { launch := nsT (fld 0 8 b), id, ctl := ctl % 64, data := (b.drop 16).take n }
      f :: canRecords k (b.drop (16 + (n + 7) / 8 * 8))

/-- RTR with FDF, or BRS without FDF (R518). -/
def canIllFormed (f : CanFrame) : Bool := (bit 30 f.id && bit 4 f.ctl) || (bit 5 f.ctl && !bit 4 f.ctl)

/-- The frame has a format that the controller runs: FDF needs FD of its record (Table CAN-1, R537; DEDUCED, log 95). -/
def canFormat (s : Device) (n : Nat) (f : CanFrame) : Bool := !bit 4 f.ctl || canFlag s n 1

/-- One record of a segment enters the host queue, or is returned unsent with WINDOW_CHECK (R518). -/
def canQueue (n w : Nat) (f : CanFrame) (s : Device) : Device :=
  if canIllFormed f || !canFormat s n f then
    let (k, s) := draw s
    raise Ev.windowCheck [(1, w), (2, (winOf s w).next), (1, (Config.canCheckCode k).toNat)] s
  else modCtl n (fun c => { c with queue := c.queue ++ [f] }) s

/-- Segments of the host queue's window are read while all their records fit the queue (R517). -/
def canFeed (n : Nat) : Nat → Device → Device
  | 0, s => s
  | k + 1, s =>
    match windowOf s (0x0D08 + n) with
    | none => s
    | some w =>
      match (winOf s w).hold with
      | [] => s
      | g :: rest =>
        let fs := canRecords 65536 ((g.bytes.drop 32).take (fld 8 4 g.bytes))
        let good := fs.filter (fun f => !canIllFormed f && canFormat s n f)
        if segCheck (winOf s w) g = 0 ∧ 32 < (ctlOf s n).queue.length + good.length then s
        else
          let (pl, s) := readSegment w g s
          let s := if pl.isSome then fs.foldl (fun s f => canQueue n w f s) s else s
          canFeed n k (returnSegment w (modWin w (fun q => { q with hold := rest }) s))

/-- Every controller reads what its queue has room for. -/
def canFeedAll (s : Device) : Device := (List.range 8).foldl (fun s n => canFeed n 4096 s) s

/-! ## Error states (R526) -/

/-- TEC and REC decide between ERROR_ACTIVE, ERROR_PASSIVE and BUS_OFF; each transition raises its event. -/
def canErrors (n : Nat) (s : Device) : Device :=
  let c := ctlOf s n
  match c.mode with
  | .errorActive =>
    if 255 < c.tec then raise Ev.canBusOff [(1, n)] (modCtl n (fun c => { c with mode := .busOff, recovering := false }) s)
    else if 128 ≤ c.tec ∨ 128 ≤ c.rec_ then
      raise Ev.canErrorPassive [(1, n), (2, c.tec), (1, c.rec_)] (modCtl n (fun c => { c with mode := .errorPassive }) s)
    else s
  | .errorPassive =>
    if 255 < c.tec then raise Ev.canBusOff [(1, n)] (modCtl n (fun c => { c with mode := .busOff, recovering := false }) s)
    else if c.tec < 128 ∧ c.rec_ < 128 then
      raise Ev.canErrorActive [(1, n)] (modCtl n (fun c => { c with mode := .errorActive }) s)
    else s
  | _ => s

/-- The controller sends and acknowledges. -/
def canLive (c : CanCtl) : Bool := c.mode == .errorActive || c.mode == .errorPassive

/-! ## Transmission -/

/-- The frame a buffer has, with its identifier word, control byte and data: the head of the host queue in buffer 15
(R515, R518). -/
def canFrame (s : Device) (n b : Nat) : Option CanFrame :=
  if b = 15 then (ctlOf s n).queue.head?
  else
    let q := canBuf s n b
    let r := bufRec s n b
    q.pend.map fun t => { launch := t, id := fld 4 4 r, ctl := fld 8 1 r % 64, data := q.data.getD [] }

/-- End of the window of a TT frame that opened at `t` (R533). -/
def ttTill (s : Device) (n b : Nat) (t : STime) : STime :=
  let r := bufRec s n b
  if bit 3 (fld 0 1 r) then t + canBit s n else t + usT (fld 30 2 r)

/-- The frame of a buffer that is pending at this instant: its launch time has come, a TT frame has its reference and its
window, and any other that has not started is not 1 ms late (R516, R519, R532, R533). -/
def canCandidate (s : Device) (n b : Nat) : Option CanFrame :=
  (canFrame s n b).filter fun f =>
    let m := bufMode s n b
    f.launch ≤ nowD s && canFormat s n f &&
    (if m = 2 then (ctlOf s n).synced && nowD s ≤ ttTill s n b f.launch
     else m == 0 || f.launch == 0 || (canBuf s n b).started || nowD s < f.launch + msT 1)

/-- The controller drives CANn_TXD: out of reset, not OFF or LISTEN_ONLY, and not in a standby (R534). -/
def canDrives (s : Device) (n : Nat) : Bool :=
  ballsLive s && (ctlOf s n).mode != .off && (ctlOf s n).mode != .listenOnly && !s.pai.standby

/-- The buffer with the lowest identifier, the lower number breaking ties (R516). -/
def canPick (s : Device) (n : Nat) : Option (Nat × CanFrame) :=
  (List.range 16).foldl (fun a b =>
    match canCandidate s n b, a with
    | some f, some (k, g) => if arbId f.id < arbId g.id then some (b, f) else some (k, g)
    | some f, none => some (b, f)
    | none, a => a) none

/-- CAN_TX_START (R516, R519): at bus idle the pending buffer with the lowest identifier starts. -/
def canTxStart (n : Nat) (s : Device) : Device :=
  let c := ctlOf s n
  if !canLive c || !canDrives s n || c.sending.isSome || c.modeReq.isSome then s
  else match canPick s n with
    | none => s
    | some (b, f) =>
      let s := modBuf n b (fun q => { q with started := true }) (modCtl n (fun c => { c with sending := some b }) s)
      emit (.can n (nowD s) f.id f.ctl f.data) s

/-- The commands that wait for the frame on the bus complete (R521). -/
def canAborted (n : Nat) (sent : Bool) (s : Device) : Device :=
  let ps := (ctlOf s n).aborts
  ps.foldl (fun s p => finish p .ok (if sent then 1 else 0) [] s) (modCtl n (fun c => { c with aborts := [] }) s)

/-- A buffer has no pending frame any more. -/
def canIdle (n b : Nat) (s : Device) : Device :=
  if b = 15 then canFeed n 4096 (modBuf n b (fun q => { q with started := false })
    (modCtl n (fun c => { c with queue := c.queue.drop 1 }) s))
  else modBuf n b (fun q => { q with pend := none, started := false }) s

/-- The buffer stops retransmitting: the count of ACK errors has reached ALONE_N, and STOP_ALONE is set (R527). -/
def canStops (s : Device) (n b : Nat) : Bool :=
  aloneN s n ≤ (ctlOf s n).ackRun && b < 15 && bufMode s n b != 2 && bit 2 (fld 0 1 (bufRec s n b))

/-- Whether a frame that was not sent stays pending (R520, R521, R527). -/
def canRetry (s : Device) (n b : Nat) : Bool :=
  (ctlOf s n).aborts.isEmpty && bufMode s n b != 2 && !canStops s n b

/-- The frame of a buffer is marked ALONE_STOPPED and counted (R527). -/
def canStop (n b : Nat) (s : Device) : Device :=
  canIdle n b (modBuf n b (fun q => { q with stopped := true }) (modCtl n (fun c => { c with alone := c.alone + 1 }) s))

/-- The other buffers whose frames wait for a retransmission stop with this one (R527). -/
def canStopOthers (n b : Nat) (s : Device) : Device :=
  (List.range 15).foldl (fun s k =>
    let q := canBuf s n k
    if k != b && q.pend.isSome && q.started && canStops s n k then canStop n k s else s) s

/-- A bit error after arbitration counts against its buffer (R528). -/
def canCollision (n b : Nat) (how : CanEnd) (s : Device) : Device :=
  let q := canBuf s n b
  if how ≠ .bit then modBuf n b (fun q => { q with collRun := 0 }) s
  else
    let k := q.collRun + 1
    let s := modBuf n b (fun q => { q with collRun := k }) s
    if k < collN s n || q.collRaised then s
    else
      let id := if b = 15 then (((ctlOf s n).queue.head?).map (·.id)).getD 0 else fld 4 4 (bufRec s n b)
      raise Ev.canIdCollision [(1, n), (1, b), (4, id % 2 ^ 29)]
        (modBuf n b (fun q => { q with collRaised := true }) (modCtl n (fun c => { c with coll := c.coll + 1 }) s))

/-- An ACK error counts towards ALONE_N (R527). -/
def canAckError (n : Nat) (s : Device) : Device :=
  let s := modCtl n (fun c => { c with ackRun := min (c.ackRun + 1) 65535 }) s
  let c := ctlOf s n
  if c.ackRun < aloneN s n || c.aloneRaised then s
  else raise Ev.canAlone [(1, n), (2, c.ackRun)] (modCtl n (fun c => { c with aloneRaised := true }) s)

/-- TEC and REC after a transmission (ISO 11898-1, PRESUMED, log 37): an error adds 8 unless it is the ACK error of an
error-passive transmitter. -/
def canTec (c : CanCtl) (how : CanEnd) : Nat :=
  match how with
  | .sent => c.tec - 1
  | .lost => c.tec
  | .ack => if c.mode == .errorPassive then c.tec else c.tec + 8
  | _ => c.tec + 8

/-- CAN_TX_END (R520, R521, R526 to R528): how the frame on the bus ended, with the transmitter delay measured. A reference
message that was not sent is sent again (R520; DEDUCED, log 95). -/
def canTxEnd (n : Nat) (how : CanEnd) (tdc : Nat) (s : Device) : Device :=
  let c := ctlOf s n
  match c.sending with
  | none => s
  | some b =>
    let ctl := ((canFrame s n b).map (·.ctl)).getD 0
    let err := how != .sent && how != .lost
    let s := modCtl n (fun c => { c with sending := none, tec := canTec c how, errFr := if err then c.errFr + 1 else c.errFr }) s
    let s := if bit 4 ctl && bit 5 ctl then modCtl n (fun c => { c with tdc := tdc % 128 }) s else s
    let s := if how = .sent then modCtl n (fun c => { c with txFr := c.txFr + 1, ackRun := 0, aloneRaised := false }) s else s
    let s := if how = .ack then canStopOthers n b (canAckError n s) else s
    if b = 16 then canErrors n (if how = .sent then s else modCtl n (fun c => { c with ttCycle := none }) s)
    else
      let s := canCollision n b how s
      if how = .sent then
        let s := modBuf n b (fun q => { q with collRaised := false, stopped := false }) s
        canErrors n (canIdle n b (canAborted n true s))
      else if canRetry s n b then canErrors n s
      else if (ctlOf s n).aborts.isEmpty && canStops s n b then canErrors n (canStop n b s)
      else canErrors n (canIdle n b (canAborted n false s))

/-- The newest firing instant of a PERIODIC buffer, if START has come (R515). -/
def canFiring (r : List Byte) (t : STime) : Option STime :=
  let start := nsT (fld 12 8 r)
  let period := nsT (fld 20 4 r)
  if t < start ∨ period = 0 then none else some (start + (t - start) / period * period)

/-- PERIODIC_BUFFER_FIRING (R515, R519). -/
def canFire (n b : Nat) (s : Device) : Device :=
  let q := canBuf s n b
  match canFiring (bufRec s n b) (nowD s) with
  | none => s
  | some t =>
    if 14 < b || bufMode s n b != 1 || t = q.fired || !created s 0x0D 2 (16 * n + b) then s
    else
      let s := modBuf n b (fun q => { q with fired := t }) s
      let c := ctlOf s n
      if q.data.isNone || c.mode == .off || c.mode == .listenOnly then s
      else if q.pend.isSome then modCtl n (fun c => { c with late := c.late + 1 }) s
      else modBuf n b (fun q => { q with pend := some t, started := false, stopped := false }) s

/-- CAN_TX_LATE (R519): a frame that has not started 1 ms after its launch time is dropped. -/
def canTxLate (n b : Nat) (s : Device) : Device :=
  let c := ctlOf s n
  let launch := if b = 15 then (c.queue.head?).map (·.launch) else if bufMode s n b = 1 then (canBuf s n b).pend else none
  match launch with
  | none => s
  | some t =>
    if t = 0 || nowD s < t + msT 1 || (canBuf s n b).started then s
    else raise Ev.canTxLate [(1, n), (1, b)] (canIdle n b (modCtl n (fun c => { c with late := c.late + 1 }) s))

/-! ## Reception -/

/-- The first enabled filter that takes a frame (R522). A filter whose record of the frame's time is no longer kept stops the
search: the frame needs that record (R132). -/
def canFilter (s : Device) (n : Nat) (f : CanRx) : Option Nat :=
  (List.range 32).find? fun k =>
    created s 0x0D 3 (32 * n + k) &&
    (recAt s 0x0D 3 (32 * n + k) f.at_).all fun r =>
      bit 0 (fld 0 1 r) && bit 3 (fld 0 1 r) == bit 29 f.id &&
      ((f.id % 2 ^ 29) ^^^ (fld 4 4 r % 2 ^ 29)) &&& (fld 8 4 r % 2 ^ 29) == 0

/-- Held frames are delivered while the window takes them (R523). -/
def canFlush (n : Nat) : Nat → Device → Device
  | 0, s => s
  | k + 1, s =>
    match (ctlOf s n).held, windowOf s (0x0D00 + n) with
    | r :: rest, some w =>
      let bs := if (ctlOf s n).lostBefore then overwrite 14 (le 1 (fld 14 1 r.bytes + 1)) r.bytes else r.bytes
      let (ok, s) := pushRecord w 0x60 (some r.at_) bs s
      if ok then canFlush n k (modCtl n (fun c => { c with held := rest, lostBefore := false }) s) else s
    | _, _ => s

/-- A frame goes to the host, is held, or is lost (R518, R523). -/
def canToHost (n filter : Nat) (f : CanRx) (s : Device) : Device :=
  let s := canFlush n 65 s
  let c := ctlOf s n
  if 64 ≤ c.held.length then
    raise Ev.canRxDrop [(1, n)] (modCtl n (fun c => { c with rxDrop := c.rxDrop + 1, lostBefore := true }) s)
  else
    let body := padTo ((f.data.length + 7) / 8 * 8) f.data
    let head := le 8 (f.at_ / 256) ++ le 4 (f.id % 2 ^ 31) ++ le 1 (f.ctl % 128) ++ le 1 filter ++
      le 1 (flag 1 (c.mode == .listenOnly)) ++ le 1 0
    canFlush n 65 (modCtl n (fun c => { c with held := c.held ++ [{ bytes := head ++ body, time := some f.at_, at_ := f.at_ }] }) s)

/-- The token of a filter (R524). SEQ counts the frames the filter has taken, sent or not. -/
def canToken (n k : Nat) (f : CanRx) (r : List Byte) (s : Device) : Device :=
  let off := fld 12 1 r
  let w := fld 13 1 r
  let raw := (f.data.drop off).take w
  let raw := if bit 5 (fld 0 1 r) then raw.reverse else raw
  let v : Int := if bit 4 (fld 0 1 r) then signed (8 * w) (unle raw) else unle raw
  let dest := fld 14 2 r
  let t : Token := {
    time := f.at_, version := versionAt s f.at_, slot := dest % 4096, operand := dest / 4096 % 8,
    source := 0x0D00 + 32 * n + k, value := BitVec.ofInt 32 v }
  let key := streamKey t.source t.slot t.operand
  let taken := { s with dpt.seqOut := tset s.dpt.seqOut key (tget s.dpt.seqOut key 0 + 1) }
  if s.pai.standby then taken
  else if f.data.length < off + w then modCtl n (fun c => { c with short := c.short + 1 }) taken
  else sendToken t s

/-- A frame that is a valid reference message, bits [7:6] of its first byte 0, starts a basic cycle of a time slave (R530,
R532). -/
def canReference (n : Nat) (f : CanRx) (s : Device) : Device :=
  let r := canRec s n
  if !canFlag s n 2 || canFlag s n 3 || f.id % 2 ^ 30 ≠ fld 16 4 r % 2 ^ 30 || f.data.isEmpty || 63 < fld 0 1 f.data
  then s
  else modCtl n (fun c => { c with ttRef := f.at_, ttCount := fld 0 1 f.data, synced := true, refFrom := some f.at_ }) s

/-- REC after a reception without and with an error (ISO 11898-1, PRESUMED, log 37); in LISTEN_ONLY the counters are
frozen. -/
def canRec' (n : Nat) (f : CanRx) (s : Device) : Device :=
  let c := ctlOf s n
  if c.mode == .listenOnly then s
  else match f.err with
    | some k => modCtl n (fun c => { c with rec_ := min 255 (c.rec_ + k) }) s
    | none =>
      if 127 < c.rec_ then
        let (i, s) := draw s
        modCtl n (fun c => { c with rec_ := 119 + (Config.canRecAbove i).toNat }) s
      else modCtl n (fun c => { c with rec_ := c.rec_ - 1 }) s

/-- CAN_FRAME_RECEIVE (R522 to R524, R526, R527, R530). -/
def canReceive (n : Nat) (f : CanRx) (s : Device) : Device :=
  let c := ctlOf s n
  if c.mode == .off || c.mode == .busOff then s
  else
    let s := canErrors n (canRec' n f s)
    if f.err.isSome then modCtl n (fun c => { c with errFr := c.errFr + 1 }) s
    else
      let s := modCtl n (fun c => { c with rxFr := c.rxFr + 1, ackRun := 0, aloneRaised := false }) s
      let s := canReference n f s
      match canFilter s n f with
      | some k =>
        underRec 0x0D 3 (32 * n + k) f.at_ (fun r s =>
          let s := if bit 1 (fld 0 1 r) then canToHost n k f s else s
          if bit 2 (fld 0 1 r) then canToken n k f r s else s) s
      | none =>
        if canFlag s n 7 then
          let (i, s) := draw s
          canToHost n (Config.canNoFilter i).toNat f s
        else modCtl n (fun c => { c with noMatch := c.noMatch + 1 }) s

/-! ## Bus idle, recovery and enables -/

/-- Code of a controller state (Table CAN-6). -/
def canCode : CanMode → Nat
  | .off => 0 | .errorActive => 1 | .errorPassive => 2 | .busOff => 3 | .listenOnly => 4

/-- The controller may run: its record has ENABLE and CAN_EN permits it (R526, R541). -/
def canPermitted (s : Device) (n : Nat) : Bool :=
  bit n s.can.en && s.cfg.mode != .unconfigured && created s 0x0D 1 n && canFlag s n 0

/-- CAN_BUS_IDLE (R526, R529, R534, R535, R538, R541): what waits for bus idle takes effect. -/
def canBusIdle (n : Nat) (s : Device) : Device :=
  let c := ctlOf s n
  let answer := fun (st : Status) (s : Device) => match c.modeReq with
    | some (_, some p) => finish p st (canCode c.mode) [] s
    | _ => s
  if c.sending.isSome then s
  else if !canPermitted s n then
    if c.mode == .off then s
    else answer .rejectedState (modCtl n (fun c => { c with
      mode := .off, modeReq := none, recovering := false, synced := false, refFrom := none }) s)
  else if c.mode == .off then
    let m : CanMode := if canFlag s n 4 || s.pai.standby then .listenOnly else .errorActive
    modCtl n (fun c => { c with mode := m, tec := 0, rec_ := 0, refFrom := some (nowD s) }) s
  else if s.pai.standby then
    answer .rejectedState (modCtl n (fun c => { c with
      mode := if canLive c then .listenOnly else c.mode, modeReq := none }) s)
  else match c.modeReq with
    | none => s
    | some (listen, _) =>
      if c.mode == .busOff then s
      else
        let normal : CanMode := if c.mode != .listenOnly then c.mode
          else if 128 ≤ c.tec ∨ 128 ≤ c.rec_ then .errorPassive else .errorActive
        answer .ok (modCtl n (fun c => { c with mode := if listen then .listenOnly else normal, modeReq := none }) s)

/-- BUS_OFF_RECOVERY_DONE (R526): 128 occurrences of 11 recessive bits have passed. -/
def busOffDone (n : Nat) (s : Device) : Device :=
  let c := ctlOf s n
  if c.mode == .busOff && (canFlag s n 5 || c.recovering) then
    raise Ev.canErrorActive [(1, n)]
      (modCtl n (fun c => { c with mode := .errorActive, tec := 0, rec_ := 0, recovering := false }) s)
  else s

/-- CAN_EN_WRITE (R541). -/
def canEnWrite (v : Nat) (s : Device) : Device := domeWrite (fun s => { hazard 0xD0000 s with can.en := v % 256 }) s

/-! ## Time-triggered communication (R530 to R533) -/

/-- TT_REFERENCE_SEND (R531): the newest basic cycle of a time master. -/
def ttReference (n : Nat) (s : Device) : Device :=
  let c := ctlOf s n
  let r := canRec s n
  let bc := nsT (fld 24 4 r)
  let ph := nsT (fld 28 4 r)
  if !canFlag s n 2 || !canFlag s n 3 || !canLive c || c.sending.isSome || bc = 0 || nowD s < ph || s.pai.standby then s
  else
    let k := (nowD s - ph) / bc
    if c.ttCycle = some k then s
    else
      let cyc := k % max 1 (fld 20 1 r)
      let s := modCtl n (fun c => { c with
        ttCycle := some k, ttRef := nowD s, ttCount := cyc, synced := true, sending := some 16 }) s
      emit (.can n (nowD s) (fld 16 4 r) 1 (le 1 cyc)) s

/-- TT_REF_LOST (R532): no reference for 2 × BC_NS, counted from the last one or from when the controller began to run;
once until the next one. -/
def ttRefLost (n : Nat) (s : Device) : Device :=
  let c := ctlOf s n
  match c.refFrom with
  | none => s
  | some t =>
    if canFlag s n 2 && !canFlag s n 3 && c.mode != .off && t + 2 * nsT (fld 24 4 (canRec s n)) ≤ nowD s then
      raise Ev.ttRefLost [(1, n), (1, c.ttCount)] (modCtl n (fun c => { c with synced := false, refFrom := none }) s)
    else s

/-- TT_WINDOW (R533): the window of a TT buffer opens, or closes on a frame that has not started. -/
def ttWindow (n b : Nat) (s : Device) : Device :=
  let c := ctlOf s n
  let q := canBuf s n b
  let r := bufRec s n b
  let open_ := c.ttRef + usT (fld 28 2 r)
  if 14 < b || bufMode s n b != 2 || !created s 0x0D 2 (16 * n + b) then s
  else match q.pend with
    | some t =>
      if c.sending = some b || nowD s ≤ ttTill s n b t then s
      else canIdle n b (modCtl n (fun c => { c with late := c.late + 1 }) s)
    | none =>
      if !c.synced || q.served = some c.ttRef || nowD s < open_ ||
        c.ttCount % max 1 (fld 25 1 r) ≠ fld 24 1 r then s
      else
        let s := modBuf n b (fun q => { q with served := some c.ttRef }) s
        if q.data.isNone || c.mode == .off || c.mode == .listenOnly then s
        else modBuf n b (fun q => { q with pend := some open_, started := false }) s

/-! ## Commands (Table CAN-4) -/

/-- CAN_TX_SET. -/
def canTxSet (p : Pend) (s : Device) : CmdEnd :=
  let d := p.desc
  let t := d.target.toNat
  let n := t / 16
  let b := t % 16
  let len := dlcBytes (fld 4 4 (bufRec s n b)) (fld 8 1 (bufRec s n b))
  let c := ctlOf s n
  checked [
    .when (127 < t || b = 15 || !created s 0x0D 2 t) .notFound 0,
    .bad { bufMin := len, bufMax := len } [],
    .when (c.mode == .off || c.mode == .listenOnly || (bufMode s n b == 0 && (canBuf s n b).pend.isSome)) .rejectedState 0,
    .buffer]
    (fun _ s =>
      let s := modBuf n b (fun q => { q with data := some (d.buf.bytes.take len) }) s
      okWith 0 (if bufMode s n b = 0 then
        modBuf n b (fun q => { q with pend := some 0, started := false, stopped := false }) s else s)) p s

/-- CAN_TX_ABORT (R521): at once, or when the frame on the bus has ended. -/
def canTxAbort (p : Pend) (s : Device) : CmdEnd :=
  let t := p.desc.target.toNat
  let n := t / 16
  let b := t % 16
  let c := ctlOf s n
  let some_ := if b = 15 then !c.queue.isEmpty else (canBuf s n b).pend.isSome
  checked [
    .when (127 < t || !created s 0x0D 1 n || (b != 15 && !created s 0x0D 2 t)) .notFound 0,
    .bad plain [],
    .when (!some_) .rejectedState 0]
    (fun p s =>
      if c.sending = some b then .wait (modCtl n (fun c => { c with aborts := c.aborts ++ [p] }) s)
      else okWith 0 (canIdle n b s)) p s

/-- CAN_RECOVER. -/
def canRecover (p : Pend) (s : Device) : CmdEnd :=
  let n := p.desc.target.toNat
  checked [
    .when (7 < n) .notFound 0,
    .bad plain [],
    .when ((ctlOf s n).mode != .busOff) .rejectedState 0]
    (fun _ s => okWith 0 (modCtl n (fun c => { c with recovering := true }) s)) p s

/-- CAN_SET_MODE: it completes at bus idle. -/
def canSetMode (p : Pend) (s : Device) : CmdEnd :=
  let d := p.desc
  let n := d.target.toNat
  let c := ctlOf s n
  checked [
    .when (7 < n) .notFound 0,
    .bad { pmask := 1 } [(1 < d.p0.toNat, 24)],
    .when (c.mode == .off || s.pai.standby) .rejectedState 0,
    .when c.modeReq.isSome .busyConflict 0]
    (fun p s => .wait (modCtl n (fun c => { c with modeReq := some (d.p0 == 1, some p) }) s)) p s

/-- CAN_CLEAR_COUNTERS. -/
def canClear (p : Pend) (s : Device) : CmdEnd :=
  let d := p.desc
  let n := d.target.toNat
  let m := d.p0.toNat
  checked [.when (7 < n) .notFound 0, .bad { pmask := 1 } [(512 ≤ m, 24)]]
    (fun _ s => okWith 0 (modCtl n (fun c => { c with
      txFr := clr m 0 c.txFr, rxFr := clr m 1 c.rxFr, errFr := clr m 2 c.errFr, noMatch := clr m 3 c.noMatch,
      rxDrop := clr m 4 c.rxDrop, short := clr m 5 c.short, late := clr m 6 c.late, alone := clr m 7 c.alone,
      coll := clr m 8 c.coll }) s)) p s

/-! ## Configuration and takeover -/

/-- PERIODIC firings before now are not owed. -/
def canSkip (s : Device) : Device :=
  (objsOf s 0x0D 2).foldl (fun s o =>
    match canFiring (recNow s 0x0D 2 o) (nowD s) with
    | some t => modBuf (o / 16) (o % 16) (fun q => { q with fired := t }) s
    | none => s) s

/-- The commands that wait at a controller complete: nothing of theirs goes on the bus any more. -/
def canRelease (s : Device) (n : Nat) : Device :=
  let s := canAborted n false s
  match (ctlOf s n).modeReq with
  | some (_, some p) => finish p .rejectedState (canCode (ctlOf s n).mode) [] s
  | _ => s

/-- CAN at CFG_LOAD_BASE (R536, R541): controllers start in OFF with every buffer unset; counters stay. -/
def loadCan (s : Device) : Device :=
  let s := (List.range 8).foldl canRelease s
  let ctls := tmap s.can.ctls (fun _ c => { c with
    mode := .off, sending := none, modeReq := none, recovering := false, aborts := [], bufs := [], queue := [],
    synced := false, ttCycle := none, refFrom := none })
  canSkip { s with can.ctls := ctls, can.en := ((objsOf s 0x0D 1).map (fun n => flag n (n < 8))).sum }

/-- A commit that enables a filter restarts its SEQ (R524); one that moves START or PERIOD_NS skips past firings. -/
def commitCan (oldBuf oldFilter : Nat → List Byte) (s : Device) : Device :=
  let s := (objsOf s 0x0D 3).foldl (fun s o =>
    let r := recNow s 0x0D 3 o
    let key := streamKey (0x0D00 + o) (fld 14 2 r % 4096) (fld 14 2 r / 4096 % 8)
    if bit 0 (fld 0 1 r) && !bit 0 (fld 0 1 (oldFilter o)) then { s with dpt.seqOut := tset s.dpt.seqOut key 0 } else s) s
  (objsOf s 0x0D 2).foldl (fun s o =>
    let r := recNow s 0x0D 2 o
    if (r.drop 12).take 12 = ((oldBuf o).drop 12).take 12 then s
    else match canFiring r (nowD s) with
      | some t => modBuf (o / 16) (o % 16) (fun q => { q with fired := t }) s
      | none => s) s

/-- Takeover (R535): every controller that its record does not hold in LISTEN_ONLY enters NORMAL at bus idle with TEC and
REC from 0. -/
def takeoverCan (s : Device) : Device :=
  (objsOf s 0x0D 1).foldl (fun s n =>
    if canFlag s n 4 || (ctlOf s n).mode == .off then s
    else modCtl n (fun c => { c with tec := 0, rec_ := 0, modeReq := some (false, none) }) s) s

/-! ## The rows of the table of operations -/

/-- WINDOW_DOORBELL (R91): The host names segment k of a window, and the device reads OWN flags from its next
segment up to k and takes every segment passed to it. -/
def execWindowDoorbell (n : Nat) (b : BusWrite) (segs : List HostSeg) (s : State) : Host.Outcome State Fault Refusal :=
  .next { s with dev := canFeedAll (windowDoorbell n b segs s.dev) }

/-- CAN_FRAME_RECEIVE (R522): A received CAN frame is filtered and goes to the host or a token. -/
def execCanFrameReceive (n : Nat) (f : CanRx) (s : State) : Host.Outcome State Fault Refusal :=
  .next { s with dev := canReceive n f s.dev }

/-- CAN_TX_START (R516): At bus idle, the pending buffer with the lowest identifier starts. -/
def execCanTxStart (n : Nat) (s : State) : Host.Outcome State Fault Refusal :=
  .next { s with dev := Sys2Proof.Machine.canTxStart n s.dev }

/-- CAN_TX_END (R520): A transmission ends, successfully or with an error, and the frame is retransmitted if
needed. -/
def execCanTxEnd (n : Nat) (how : CanEnd) (tdc : Nat) (s : State) : Host.Outcome State Fault Refusal :=
  .next { s with dev := Sys2Proof.Machine.canTxEnd n how tdc s.dev }

/-- PERIODIC_BUFFER_FIRING (R515): A PERIODIC buffer falls due, or skips the firing if still pending. -/
def execPeriodicBufferFiring (n b : Nat) (s : State) : Host.Outcome State Fault Refusal :=
  .next { s with dev := canFire n b s.dev }

/-- CAN_TX_LATE (R519): A frame not started 1 ms after its launch time is dropped. -/
def execCanTxLate (n b : Nat) (s : State) : Host.Outcome State Fault Refusal :=
  .next { s with dev := Sys2Proof.Machine.canTxLate n b s.dev }

/-- BUS_OFF_RECOVERY_DONE (R526): 128 occurrences of 11 recessive bits return the controller to ERROR_ACTIVE. -/
def execBusOffRecoveryDone (n : Nat) (s : State) : Host.Outcome State Fault Refusal :=
  .next { s with dev := busOffDone n s.dev }

/-- TT_REFERENCE_SEND (R531): A time master sends the reference message of a basic cycle. -/
def execTtReferenceSend (n : Nat) (s : State) : Host.Outcome State Fault Refusal :=
  .next { s with dev := ttReference n s.dev }

/-- TT_REF_LOST (R532): No reference for 2 × BC_NS stops TT frames. -/
def execTtRefLost (n : Nat) (s : State) : Host.Outcome State Fault Refusal :=
  .next { s with dev := Sys2Proof.Machine.ttRefLost n s.dev }

/-- TT_WINDOW (R533): A TT buffer's window opens and the frame is sent or dropped. -/
def execTtWindow (n b : Nat) (s : State) : Host.Outcome State Fault Refusal :=
  .next { s with dev := Sys2Proof.Machine.ttWindow n b s.dev }

/-- CAN_EN_WRITE (R541): A write to CAN_EN permits controllers or forces them OFF at bus idle. -/
def execCanEnWrite (v : Nat) (s : State) : Host.Outcome State Fault Refusal :=
  .next { s with dev := Sys2Proof.Machine.canEnWrite v s.dev }

/-- CAN_TX_SET (R538): Replaces buffer data and arms a ONESHOT buffer. -/
def execCanTxSet (d : Desc) (s : State) : Host.Outcome State Fault Refusal :=
  .next { s with dev := runCmd canTxSet d s.dev }

/-- CAN_TX_ABORT (R521): Removes a pending frame. -/
def execCanTxAbort (d : Desc) (s : State) : Host.Outcome State Fault Refusal :=
  .next { s with dev := runCmd canTxAbort d s.dev }

/-- CAN_RECOVER (R538): Starts bus-off recovery. -/
def execCanRecover (d : Desc) (s : State) : Host.Outcome State Fault Refusal :=
  .next { s with dev := runCmd canRecover d s.dev }

/-- CAN_SET_MODE (R538): Switches between NORMAL and LISTEN_ONLY at bus idle. -/
def execCanSetMode (d : Desc) (s : State) : Host.Outcome State Fault Refusal :=
  .next { s with dev := runCmd canSetMode d s.dev }

/-- CAN_CLEAR_COUNTERS (R538): Clears the selected CAN counters. -/
def execCanClearCounters (d : Desc) (s : State) : Host.Outcome State Fault Refusal :=
  .next { s with dev := runCmd canClear d s.dev }

/-- D3HOT_EXIT (R49): A return from D3hot to D0 resumes host-memory access and interrupt delivery. -/
def execD3hotExit (s : State) : Host.Outcome State Fault Refusal :=
  .next { s with dev := canFeedAll (d3hotExit s.dev) }

/-- CAN_BUS_IDLE (R526): On the bus integration of 11 recessive bits or at bus idle, an enabled controller
enters ERROR_ACTIVE or LISTEN_ONLY, and a pending mode change or disable takes effect. -/
def execCanBusIdle (n : Nat) (s : State) : Host.Outcome State Fault Refusal :=
  .next { s with dev := Sys2Proof.Machine.canBusIdle n s.dev }

end Sys2Proof.Machine
end

