-- ==== Sys2Proof/Machine/Float.lean ====
section
/-!
DEFINITION. Machine/Float.lean: IEEE 754 binary64 with round-to-nearest-even as MOT computes it (R344), and exact
fractions for the coil regulators (R371). Subnormal and infinite values do not occur in a profile, so the exponent of a
value has no bound here (DEDUCED, log 16).
-/
namespace Sys2Proof.Machine

/-- m × 2^e rounded to 53 bits, ties to even. -/
def fRound (m e : Int) : F64 :=
  if m = 0 then {}
  else
    let u := m.natAbs
    let sh : Int := (Nat.log2 u : Int) - 52
    let r := if 0 ≤ sh then (roundDivEven u (2 ^ sh.toNat)).toNat else u * 2 ^ (-sh).toNat
    let (r, sh) := if r = 2 ^ 53 then (2 ^ 52, sh + 1) else (r, sh)
    { m := if m < 0 then -(r : Int) else r, e := e + sh }

/-- An integer as binary64. -/
def fInt (v : Int) : F64 := fRound v 0

/-- The exact sum of two values, as mantissa and exponent. -/
def fExactAdd (a b : F64) : Int × Int :=
  if a.m = 0 then (b.m, b.e)
  else if b.m = 0 then (a.m, a.e)
  else
    let e := min a.e b.e
    (a.m * (2 ^ (a.e - e).toNat : Nat) + b.m * (2 ^ (b.e - e).toNat : Nat), e)

def fAdd (a b : F64) : F64 := let (m, e) := fExactAdd a b; fRound m e
def fNeg (a : F64) : F64 := { a with m := -a.m }
def fSub (a b : F64) : F64 := fAdd a (fNeg b)
def fMul (a b : F64) : F64 := fRound (a.m * b.m) (a.e + b.e)

/-- The quotient; a zero divisor, which no profile has, gives 0. -/
def fDiv (a b : F64) : F64 :=
  if b.m = 0 || a.m = 0 then {}
  else
    let n := a.m.natAbs * 2 ^ 60
    let d := b.m.natAbs
    let q := 2 * (n / d) + (if n % d = 0 then 0 else 1)
    let q : Int := q
    fRound (if (a.m < 0) != (b.m < 0) then -q else q) (a.e - b.e - 61)

/-- The integer square root by bits, most significant first. -/
def isqrt : Nat → Nat → Nat → Nat
  | 0, _, r => r
  | k + 1, n, r => let t := r + 2 ^ k; isqrt k n (if t * t ≤ n then t else r)

/-- The correctly rounded square root of a value at or above 0 (R344). -/
def fSqrt (a : F64) : F64 :=
  if a.m ≤ 0 then {}
  else
    let (m, e) := if a.e % 2 = 0 then (a.m.toNat * 2 ^ 64, a.e - 64) else (a.m.toNat * 2 ^ 65, a.e - 65)
    let r := isqrt 62 m 0
    fRound ((2 * r + (if r * r = m then 0 else 1) : Nat) : Int) (e / 2 - 1)

/-- Exact comparison. -/
def fLe (a b : F64) : Bool := decide ((fExactAdd a (fNeg b)).1 ≤ 0)
def fLt (a b : F64) : Bool := !fLe b a
def fMax (a b : F64) : F64 := if fLt a b then b else a
def fMin (a b : F64) : F64 := if fLt b a then b else a
def fAbs (a : F64) : F64 := { a with m := a.m.natAbs }
/-- −1, 0 or 1. -/
def fSign (a : F64) : Int := if a.m < 0 then -1 else if a.m = 0 then 0 else 1
/-- A value times −1, 0 or 1. -/
def fSgnMul (d : Int) (a : F64) : F64 := if d = 0 then {} else if d < 0 then fNeg a else a
def fHalf (a : F64) : F64 := if a.m = 0 then a else { a with e := a.e - 1 }
def fTwice (a : F64) : F64 := if a.m = 0 then a else { a with e := a.e + 1 }

/-- The nearest integer, ties to even. -/
def fRoundInt (a : F64) : Int :=
  if 0 ≤ a.e then a.m * (2 ^ a.e.toNat : Nat) else roundDivEven a.m (2 ^ (-a.e).toNat)

/-- The bits of a binary64 value in its normal range. -/
def fBits (a : F64) : Nat :=
  if a.m = 0 then 0
  else (if a.m < 0 then 2 ^ 63 else 0) + (a.e + 1075).toNat * 2 ^ 52 + (a.m.natAbs - 2 ^ 52)

/-- A rational n / d as binary64. -/
def fRatio (n : Int) (d : Nat) : F64 := fDiv (fInt n) (fInt d)

/-! ## Exact fractions -/

/-- A fraction in lowest terms. -/
def frac (n : Int) (d : Nat) : Frac :=
  if d = 0 then {} else
  let g := Nat.gcd n.natAbs d
  { n := n / g, d := d / g }

def qAdd (a b : Frac) : Frac := frac (a.n * b.d + b.n * a.d) (a.d * b.d)
def qNeg (a : Frac) : Frac := { a with n := -a.n }
def qSub (a b : Frac) : Frac := qAdd a (qNeg b)
def qMul (a b : Frac) : Frac := frac (a.n * b.n) (a.d * b.d)
def qInt (v : Int) : Frac := { n := v }
/-- The quotient, 0 for a zero divisor. -/
def qDiv (a b : Frac) : Frac :=
  if b.n = 0 then {} else frac (if b.n < 0 then -(a.n * b.d) else a.n * b.d) (a.d * b.n.natAbs)
def qLe (a b : Frac) : Bool := decide (a.n * b.d ≤ b.n * a.d)
def qLt (a b : Frac) : Bool := !qLe b a
def qAbs (a : Frac) : Frac := { a with n := a.n.natAbs }
def qClamp (lo hi v : Frac) : Frac := if qLt v lo then lo else if qLt hi v then hi else v
/-- The nearest integer, ties to even. -/
def qRound (a : Frac) : Int := roundDivEven a.n a.d

end Sys2Proof.Machine
end

