-- ==== Sys2Proof/Machine/Mot.lean ====
section
/-!
DEFINITION. Machine/Mot.lean: jerk-limited profiles, axis states, limits, homing and the commands of the motion engine
(09_motion).
-/
namespace Sys2Proof.Machine

def axisOf (s : Device) (a : Nat) : Axis := tget s.mot.axes a {}
def modAxis (a : Nat) (f : Axis → Axis) (s : Device) : Device :=
  { s with mot.axes := tset s.mot.axes a (f (axisOf s a)) }

/-! ## Profiles (R344 to R348) -/

/-- The limits a plan is made with: J, A, D, V. -/
structure Limits where
  j : F64
  a : F64
  d : F64
  v : F64
deriving DecidableEq, Repr

/-- Pieces along the direction of travel with the distance they cover. -/
abbrev Run_ := List Piece × F64

def fZero : F64 := {}

/-- The S-curve between two speeds (R347, function ramp). -/
def ramp (j lim u w : F64) : Run_ :=
  let dv := fAbs (fSub w u)
  let g := fSign (fSub w u)
  let (tj, tc) :=
    if fLe (fDiv (fMul lim lim) j) dv then
      let tj := fDiv lim j
      (tj, fSub (fDiv dv lim) tj)
    else (fSqrt (fDiv dv j), fZero)
  ([⟨fSgnMul g j, tj⟩, ⟨fZero, tc⟩, ⟨fSgnMul (-g) j, tj⟩],
   fMul (fHalf (fAdd u w)) (fAdd (fTwice tj) tc))

/-- The stop to (0, 0) from speed v ≥ 0 and acceleration a along d (R347, function stop). -/
def stopRun (j dlim v a : F64) : List Piece :=
  let (pre, v, a) :=
    if 0 < a.m then ([⟨fNeg j, fDiv a j⟩], fAdd v (fDiv (fMul a a) (fTwice j)), fZero) else ([], v, a)
  let m := fNeg a
  let ap := fMax m (fMin dlim (fSqrt (fAdd (fMul v j) (fHalf (fMul m m)))))
  let tb := fMax fZero (fDiv (fSub v (fDiv (fSub (fMul (fTwice ap) ap) (fMul m m)) (fTwice j))) ap)
  pre ++ [⟨fNeg j, fDiv (fSub ap m) j⟩, ⟨fZero, tb⟩, ⟨j, fDiv ap j⟩]

/-- The two ramps of a cruise at speed c fit into distance r (R347). -/
def cruiseFits (l : Limits) (u r c : F64) : Bool :=
  fLe (fAdd (ramp l.j (if fLe u c then l.a else l.d) u c).2 (ramp l.j l.d c fZero).2) r

/-- The 64 halvings of function cruise. -/
def bisect (l : Limits) (u r : F64) : Nat → F64 → F64 → F64
  | 0, lo, _ => lo
  | n + 1, lo, hi =>
    let mid := fHalf (fAdd lo hi)
    if cruiseFits l u r mid then bisect l u r n mid hi else bisect l u r n lo mid

/-- From speed u ≥ 0 along d to rest at x (R347, function cruise). -/
def cruise (l : Limits) (p0 u x : F64) : List Piece :=
  let r := fAbs (fSub x p0)
  if r.m = 0 && u.m = 0 then []
  else
    let c :=
      if fLt l.v u then (if cruiseFits l u r l.v then l.v else u)
      else if cruiseFits l u r l.v then l.v
      else bisect l u r 64 u l.v
    let up := ramp l.j (if fLe u c then l.a else l.d) u c
    let down := ramp l.j l.d c fZero
    up.1 ++ (if c.m = 0 then [] else [⟨fZero, fDiv (fSub (fSub r up.2) down.2) c⟩]) ++ down.1

/-- Position, velocity and acceleration. -/
structure Kin where
  p : F64 := {}
  v : F64 := {}
  a : F64 := {}
deriving DecidableEq, Repr

/-- The state at elapsed time t of a piece (R345). -/
def pieceAt (k : Kin) (j t : F64) : Kin :=
  let t2 := fMul t t
  { a := fAdd k.a (fMul j t)
    v := fAdd (fAdd k.v (fMul k.a t)) (fHalf (fMul j t2))
    p := fAdd (fAdd (fAdd k.p (fMul k.v t)) (fHalf (fMul k.a t2))) (fDiv (fMul j (fMul t2 t)) (fInt 6)) }

/-- The state at the end of pieces. -/
def runEnd (k : Kin) : List Piece → Kin
  | [] => k
  | x :: xs => runEnd (pieceAt k x.j x.tau) xs

/-- The state at elapsed time t within pieces, or what is left of t after their end. -/
def runAt (k : Kin) (t : F64) : List Piece → Kin ⊕ F64
  | [] => .inr t
  | x :: xs => if fLt t x.tau then .inl (pieceAt k x.j t) else runAt (pieceAt k x.j x.tau) (fSub t x.tau) xs

/-- Pieces along d as signed pieces. -/
def signRun (d : Int) (ps : List Piece) : List Piece := ps.map (fun x => { x with j := fSgnMul d x.j })

/-- The direction of a state: the sign of its velocity, or of its acceleration (R347). -/
def kinDir (k : Kin) : Int := if k.v.m ≠ 0 then fSign k.v else fSign k.a

/-- The signed stop from a state. -/
def stopPieces (j dlim : F64) (k : Kin) : List Piece :=
  if k.v.m = 0 && k.a.m = 0 then []
  else signRun (kinDir k) (stopRun j dlim (fSgnMul (kinDir k) k.v) (fSgnMul (kinDir k) k.a))

/-- A cruise from rest with its own direction. -/
def cruiseFrom (l : Limits) (p x : F64) : List Piece := signRun (fSign (fSub x p)) (cruise l p fZero x)

/-- The direct way of function plan, where there is one (R347). -/
def directRun (l : Limits) (k : Kin) (x : F64) : Option (List Piece) :=
  if k.v.m = 0 && k.a.m = 0 then some (cruiseFrom l k.p x)
  else
    let d := kinDir k
    let vn := fSgnMul d k.v
    let an := fSgnMul d k.a
    let t1 := fDiv (fAbs an) l.j
    let v1 := fAdd vn (fHalf (fMul an t1))
    let p1 := fAdd k.p (fSgnMul d (fSub (fAdd (fMul vn t1) (fHalf (fMul (fMul an t1) t1)))
      (fDiv (fMul (fSgnMul (fSign an) l.j) (fMul (fMul t1 t1) t1)) (fInt 6))))
    if 0 ≤ v1.m && fLe (ramp l.j l.d v1 fZero).2 (fSgnMul d (fSub x p1)) then
      some (signRun d (⟨fSgnMul (-fSign an) l.j, t1⟩ :: cruise l p1 v1 x))
    else none

/-! ## Axis record -/

/-- Profile fields in force: VMAX, AMAX, DMAX, JMAX, EDEC, EJERK (Table MOT-6). -/
def axLimits (b : List Byte) : Limits :=
  { v := fInt (fld 8 4 b), a := fInt (fld 12 4 b), d := fInt (fld 16 4 b), j := fInt (fld 20 4 b) }
def axEdec (b : List Byte) : F64 := fInt (fld 24 4 b)
def axEjerk (b : List Byte) : F64 := fInt (fld 28 4 b)
def axSl (b : List Byte) : Int × Int := (sfld 32 4 b, sfld 36 4 b)
/-- The profile fields whose change makes a new plan (R349). -/
def axProf (b : List Byte) : List Byte := (b.drop 8).take 32
/-- SERVO_NS (R339). -/
def servo (b : List Byte) : STime := nsT (31250 * 2 ^ (fld 3 1 b))
def axRec (s : Device) (a : Nat) : List Byte := recNow s 0x06 1 a
/-- The sign given by HOME_DIR (R360). -/
def homeSign (b : List Byte) : Int := if bit 2 (fld 52 1 b) then 1 else -1
def homeRef (b : List Byte) : Nat := fld 52 1 b % 4

/-- State code of MOT_AXSTATa. -/
def axCode (m : AxMode) : Nat :=
  match m with
  | .disabled => 0 | .standstill => 1 | .moving => 2 | .estop => 3
  | .homingSeek => 4 | .homingBackoff => 5 | .homingFailed => 6

/-- An axis changes state (R359). The cause code is a free value. -/
def setAxMode (a : Nat) (m : AxMode) (s : Device) : Device :=
  let old := (axisOf s a).mode
  if old = m then s
  else raise Ev.motState [(1, a), (1, axCode old), (1, axCode m), (1, (Config.motCause (axCode old) (axCode m)).toNat)]
    (modAxis a (fun x => { x with mode := m }) s)

/-- The axis is homing. -/
def axHoming (m : AxMode) : Bool := m == .homingSeek || m == .homingBackoff

/-- Soft limits apply (R350). -/
def softOn (b : List Byte) (x : Axis) : Bool := bit 2 (fld 0 1 b) && x.homed && !axHoming x.mode

/-- The axis position as a set-point (R346). -/
def setPoint (x : Axis) : Int := ssat 32 (fRoundInt x.p)

def axKin (x : Axis) : Kin := { p := x.p, v := x.v, a := x.a }

/-- An emergency stop is running (R352), in ESTOP or after a failed homing (R362, log 88). -/
def emRunning (x : Axis) : Bool := x.plan.any (·.em)

/-- The target of an axis: the one it holds, or where its plan ends, or its position (R342, R349). -/
def axTarget (x : Axis) : Int :=
  match x.target, x.plan with
  | some v, _ => v
  | none, some pl => ssat 32 (fRoundInt pl.x)
  | none, none => setPoint x

/-- A plan in coordinates moved by d. -/
def shiftPlan (d : F64) (pl : Plan) : Plan := { pl with p0 := fAdd pl.p0 d, x := fAdd pl.x d }

/-- A change of HOFS by d moves the coordinates of the axis, not the motor (R359): p, its plans, the positions of latches, the
set-points kept and a stall point (log 89). -/
def shiftAxis (d : F64) (x : Axis) : Axis :=
  let n := fRoundInt d
  { x with
    hofs := fAdd x.hofs d, p := fAdd x.p d, plan := x.plan.map (shiftPlan d), past := x.past.map (shiftPlan d)
    neg := { x.neg with latch := x.neg.latch.map (· + n) }, pos := { x.pos with latch := x.pos.latch.map (· + n) }
    hist := x.hist.map (fun h => (h.1, h.2 + n)), stall := x.stall.map (· + n) }

/-- The state of an axis's plan at working time `t`: the state, whether it lies within the stop, and whether the plan
has ended (R345, R346). -/
def planAt (pl : Plan) (t : STime) : Kin × Bool × Bool :=
  let el := fRatio (t - pl.t0 : Nat) 256000000000
  let k0 : Kin := { p := pl.p0, v := pl.v0, a := pl.a0 }
  match runAt k0 el pl.stop with
  | .inl k => (k, true, false)
  | .inr left =>
    match runAt (runEnd k0 pl.stop) left pl.rest with
    | .inl k => (k, false, false)
    | .inr _ => ({ p := pl.x }, false, true)

/-! ## Making plans (R347, R349 to R352) -/

/-- Puts a plan in force (R349). -/
def putPlan (a : Nat) (t : STime) (k : Kin) (em : Bool) (stop rest : List Piece) (x : F64) (prof : List Byte) (s : Device) :
    Device :=
  modAxis a (fun ax => { ax with
    p := k.p, v := k.v, a := k.a, past := (ax.plan.toList ++ ax.past).take 8
    plan := some { t0 := t, p0 := k.p, v0 := k.v, a0 := k.a, stop, rest, dir := kinDir k, x, prof, em } })
    { pmcEdge 0x06 0x80 0 s with mot.replans := s.mot.replans + 1 }

/-- The stop a plan begins with: made as an emergency stop when a normal one would end outside the soft limits (R351). -/
def softStop (a : Nat) (b : List Byte) (k : Kin) (s : Device) : List Piece × Device :=
  let l := axLimits b
  let norm := stopPieces l.j l.d k
  let (lo, hi) := axSl b
  let inside := fun (p : F64) => fLe (fInt lo) p && fLe p (fInt hi)
  let nEnd := (runEnd k norm).p
  if softOn b (axisOf s a) && inside k.p && !inside nEnd then
    let em := stopPieces (axEjerk b) (axEdec b) k
    let eEnd := (runEnd k em).p
    let s := raise Ev.softLimitDecel [(1, a), sgn 4 (fRoundInt nEnd)] s
    (em, if inside eEnd then s else raise Ev.softLimitOverrun [(1, a), sgn 4 (fRoundInt eEnd)] s)
  else (norm, s)

/-- A plan to x from state k at period start t with velocity limit `vl` (R347, R351). -/
def planTo (a : Nat) (b : List Byte) (t : STime) (k : Kin) (vl x : F64) (s : Device) : Device :=
  let l := { axLimits b with v := vl }
  match directRun l k x with
  | some ps => putPlan a t k false [] ps x (axProf b) s
  | none =>
    let (st, s) := softStop a b k s
    putPlan a t k false st (cruiseFrom l (runEnd k st).p x) x (axProf b) s

/-- A normal stop as a plan (MOT_STOP). -/
def planStop (a : Nat) (b : List Byte) (t : STime) (k : Kin) (s : Device) : Device :=
  let (st, s) := softStop a b k s
  putPlan a t k false st [] (runEnd k st).p (axProf b) s

/-- The plan of an emergency stop from a state (R352). -/
def putEstop (a : Nat) (b : List Byte) (t : STime) (k : Kin) (s : Device) : Device :=
  let st := stopPieces (axEjerk b) (axEdec b) k
  putPlan a t k true st [] (runEnd k st).p (axProf b) s

/-- An emergency stop begins (R352). -/
def planEstop (a : Nat) (b : List Byte) (t : STime) (k : Kin) (s : Device) : Device :=
  putEstop a b t k { s with mot.estops := s.mot.estops + 1 }

/-- The axis goes into ESTOP, unless it is DISABLED or an emergency stop is running; only a target that arrives from then on
is planned after the stop (R352, Table MOT-3). -/
def estopAxis (a : Nat) (b : List Byte) (t : STime) (s : Device) : Device :=
  let x := axisOf s a
  if x.mode = .estop || x.mode = .disabled || emRunning x then s
  else setAxMode a .estop (modAxis a (fun x => { x with target := none, askedAt := some t, homeReq := false, stall := none, velFrom := none })
    (planEstop a b t (axKin x) s))

/-- The axis stands at its stall point, or where it is, without a plan (R362). -/
def holdAtStall (a : Nat) (s : Device) : Device :=
  modAxis a (fun x => { x with
    p := match x.stall with | some p => fInt p | none => x.p, v := {}, a := {}, plan := none }) s

/-- How a failed homing stops the axis: `stop` is 0 none, 1 normal, 2 emergency, 3 immediate hold. An emergency stop that
runs already goes on (R352). -/
def homeStop (a : Nat) (b : List Byte) (t : STime) (stop : Nat) (s : Device) : Device :=
  let x := axisOf s a
  match stop with
  | 1 => if emRunning x then s else planStop a b t (axKin x) s
  | 2 => if emRunning x then s else planEstop a b t (axKin x) s
  | 3 => holdAtStall a s
  | _ => s

/-- HOFS gets the value it had before the seek, with the coordinates of the axis (R362). -/
def restoreHofs (a : Nat) (s : Device) : Device :=
  modAxis a (fun x => { shiftAxis (fSub x.hofs0 x.hofs) x with hofs := x.hofs0 }) s

/-- Homing fails (R362); `stop` as in homeStop. -/
def homeFail (a : Nat) (b : List Byte) (t : STime) (reason stop : Nat) (s : Device) : Device :=
  let s := restoreHofs a s
  let s := modAxis a (fun x => { x with target := none, askedAt := some t, stall := none, velFrom := none, homeReq := false })
    (homeStop a b t stop s)
  raise Ev.motHomeFail [(1, a), (1, reason)] (setAxMode a .homingFailed s)

/-- The reference has been found at position `p` (R361): HOFS and the plan's coordinates move so that it equals
HOME_POS, and the back-off is planned from state k. -/
def homeFound (a : Nat) (b : List Byte) (t : STime) (p : F64) (k : Kin) (s : Device) : Device :=
  let home := fInt (sfld 64 4 b)
  let shift := fSub home p
  let k := { k with p := fAdd k.p shift }
  let x := fSub home (fInt (homeSign b * fld 60 4 b))
  let s := modAxis a (fun ax => { shiftAxis shift ax with
    p := k.p, v := k.v, a := k.a, homeReq := false, stall := none, velFrom := none }) s
  planTo a b t k (axLimits b).v x (setAxMode a .homingBackoff s)

/-! ## Targets -/

/-- A target as soft limits allow it (R350). -/
def softClamp (b : List Byte) (x : Axis) (t : Int) : Int :=
  if softOn b x then clampI (axSl b).1 (axSl b).2 t else t

/-- A target as soft limits and latched limits allow it (R350, R357). -/
def clampTarget (b : List Byte) (x : Axis) (t : Int) : Int :=
  let t := softClamp b x t
  let sp := setPoint x
  let t := if x.neg.latch.isSome && t < sp then sp else t
  if x.pos.latch.isSome && sp < t then sp else t

/-- The target is held as it was clamped (R350, R357): a clamp is named and counted. -/
def holdTarget (a : Nat) (v clamped : Int) (s : Device) : Device :=
  let s := modAxis a (fun x => { x with target := some clamped }) s
  if clamped = v then s else raise Ev.motTargetClamp [(1, a), sgn 4 v] { s with mot.clamps := s.mot.clamps + 1 }

/-- A new target is taken (R341, R349, R350, R357, R358). -/
def takeTarget (a : Nat) (b : List Byte) (v : Int) (at_ : STime) (s : Device) : Device :=
  let x := axisOf s a
  if x.neg.latch.isSome && x.pos.latch.isSome then s
  else holdTarget a v (clampTarget b x v) (modAxis a (fun x => { x with askedAt := some at_ }) s)

/-- A held target that the soft limits of this period no longer allow is clamped (R350). -/
def reclamp (a : Nat) (b : List Byte) (s : Device) : Device :=
  let x := axisOf s a
  match x.target with
  | some v => if softClamp b x v = v then s else holdTarget a v (softClamp b x v) s
  | none => s

/-! ## One period (R343, R348 to R364) -/

/-- The state at the period start, with the end of a plan or of a stop (R346, R348, Table MOT-3). -/
def advanceAxis (a : Nat) (b : List Byte) (t : STime) (s : Device) : Device :=
  let x := axisOf s a
  match x.plan with
  | none => s
  | some pl =>
    let (k, inStop, ended) := planAt pl t
    if inStop && k.v.m ≠ 0 && fSign k.v = -pl.dir then
      let k : Kin := { p := k.p }
      if pl.rest.isEmpty then
        modAxis a (fun x => { x with p := k.p, v := {}, a := {}, plan := none }) s
      else planTo a b t k (if x.mode = .homingSeek then fInt (fld 56 4 b) else (axLimits b).v) pl.x s
    else modAxis a (fun x => { x with p := k.p, v := k.v, a := k.a, plan := if ended then none else x.plan }) s

/-- What the end of a plan does to the axis state (Table MOT-3, R362). -/
def endOfPlan (a : Nat) (b : List Byte) (t : STime) (s : Device) : Device :=
  let x := axisOf s a
  if x.plan.isSome || x.held then s
  else match x.mode with
  | .moving => setAxMode a .standstill s
  | .estop =>
    match x.target with
    | some v =>
      let g := fInt (softClamp b x v)
      if g = x.p || !bit 0 (fld 0 1 b) then setAxMode a .standstill s
      else setAxMode a .moving (planTo a b t (axKin x) (axLimits b).v g s)
    | none => setAxMode a .standstill s
  | .homingSeek => if x.homeReq then s else homeFail a b t 2 0 s
  | .homingBackoff =>
    let s := modAxis a (fun x => { x with homed := true, target := none, askedAt := some t }) s
    raise Ev.motHomed [(1, a), lo32 (wrapInt 32 (fRoundInt x.hofs))] (setAxMode a .standstill s)
  | _ => s

/-- ENABLE of the axis record (Table MOT-3). -/
def enableAxis (a : Nat) (b : List Byte) (t : STime) (s : Device) : Device :=
  let x := axisOf s a
  if bit 0 (fld 0 1 b) then
    if x.mode = .disabled then setAxMode a .standstill s else s
  else if x.mode = .disabled then s
  else if x.plan.isSome then estopAxis a b t s
  else setAxMode a .disabled s

/-- A MOT_STOP acts (R349, R352, R362). -/
def stopAxis (a : Nat) (b : List Byte) (t : STime) (s : Device) : Device :=
  let x := axisOf s a
  match x.stopReq with
  | none => s
  | some em =>
    let s := modAxis a (fun x => { x with stopReq := none }) s
    if axHoming x.mode then homeFail a b t 4 (if em then 2 else 1) s
    else if x.mode = .estop || x.mode = .disabled || emRunning x then s
    else
      let s := if em then estopAxis a b t s else if x.plan.isSome then planStop a b t (axKin x) s else s
      modAxis a (fun y => { y with target := none, askedAt := some t }) s

/-- The set-point of the latest period start at or before an instant, the period that starts at `t` included (R364). -/
def setPointAt (x : Axis) (t at_ : STime) : Option Int :=
  if t ≤ at_ then some (setPoint x) else (x.hist.find? (fun h => h.1 ≤ at_)).map (·.2)

/-- Stall detection is armed: HOME_VEL has been held for STALL_BLANK_MS in the seek (R361). -/
def stallArmed (b : List Byte) (x : Axis) (t : STime) : Bool :=
  x.mode == .homingSeek && x.velFrom.any (fun v => v + msT (fld 53 1 b) ≤ t)

/-- A feedback value is compared with its set-point (R361, R364). -/
def followAxis (a : Nat) (b : List Byte) (t : STime) (v sp : Int) (s : Device) : Device :=
  let x := axisOf s a
  let err := v - sp
  let s := modAxis a (fun x => { x with ferr := err }) s
  let fe := fld 40 4 b
  if fe = 0 || err.natAbs ≤ fe then s
  else if x.mode = .homingSeek then
    if fld 1 1 b ≠ 1 && stallArmed b x t then modAxis a (fun x => { x with stall := some sp }) s else s
  else raise Ev.motFollowErr [(1, a), sgn 4 err] (estopAxis a b t { s with mot.follow := s.mot.follow + 1 })

/-- The feedback of a firing (R342, R364). Under OPEN a run of stale feedback acts once, and again on a move that begins while
it lasts. -/
def feedbackAxis (a : Nat) (b : List Byte) (t : STime) (op : Option OpIn) (s : Device) : Device :=
  let x := axisOf s a
  if fld 2 1 b % 4 = 0 || x.mode = .disabled then s
  else match op with
  | none => s
  | some o =>
    if o.stale then
      match bits 4 3 (fld 0 1 b) with
      | 1 => modAxis a (fun x => { x with fbUsed := setPoint x, ferr := 0 }) s
      | 2 =>
        if x.fbOpen && (x.plan.isNone || x.mode == .estop || emRunning x) then s
        else raise Ev.motFbStale [(1, a)] (estopAxis a b t (modAxis a (fun x => { x with fbOpen := true }) s))
      | _ => s
    else
      let v := o.value.toInt
      let new := x.fbTime < o.time
      let s := modAxis a (fun x => { x with fb := v, fbUsed := v, fbTime := o.time, fbOpen := false }) s
      match if new then setPointAt x t o.time else none with
      | none => s
      | some sp => followAxis a b t v sp s

/-- The pin of a side (Table MOT-6). -/
def limPin (b : List Byte) (pos : Bool) : Nat := fld (if pos then 45 else 44) 1 b
def axLim (x : Axis) (pos : Bool) : Limit := if pos then x.pos else x.neg
def modLim (a : Nat) (pos : Bool) (f : Limit → Limit) (s : Device) : Device :=
  modAxis a (fun x => if pos then { x with pos := f x.pos } else { x with neg := f x.neg }) s

/-- The position of the axis's plans at an earlier instant (R361). -/
def planPos (x : Axis) (at_ : STime) : F64 :=
  match (x.plan.toList ++ x.past).find? (fun pl => pl.t0 ≤ at_), x.plan with
  | some pl, _ => (planAt pl at_).1.p
  | none, some pl => pl.p0
  | none, none => x.p

/-- A qualified activation acts at the first period start LIM_FILT_US after its edge (R355, R356, R358, R361, R362). -/
def latchLimit (a : Nat) (b : List Byte) (t : STime) (pos : Bool) (s : Device) : Device :=
  let x := axisOf s a
  match (axLim x pos).qual with
  | none => s
  | some edge =>
    if t < edge + usT (fld 46 2 b) then s
    else
      let sp := setPoint x
      let dir : Int := if pos then 1 else -1
      let seek := x.mode == .homingSeek
      let ref := seek && homeRef b == (if pos then 2 else 1)
      let both := (axLim x (!pos)).latch.isSome
      let towards := fSign x.v = dir || 0 < dir * (axTarget x - sp)
      let s := modLim a pos (fun l => { l with qual := none, latch := some sp }) s
      let s := if both then raise Ev.motLimitBoth [(1, a)] s else s
      let s := if towards && !ref then raise Ev.motLimit [(1, a), (1, if pos then 1 else 0), sgn 4 sp] s else s
      if ref && !both then homeFound a b t (planPos x edge) (axKin x) s
      else if seek && !ref then homeFail a b t 1 2 s
      else if both || towards then estopAxis a b t s
      else s

/-- A latch clears once the set-point is LIM_HYST away on the other side and the pin is inactive (R357). -/
def clearLatch (a : Nat) (b : List Byte) (pos : Bool) (s : Device) : Device :=
  let x := axisOf s a
  match (axLim x pos).latch with
  | none => s
  | some pl =>
    let away := if pos then pl - setPoint x else setPoint x - pl
    if (fld 48 4 b : Int) ≤ away && !pinLevel s (limPin b pos) then modLim a pos (fun l => { l with latch := none }) s else s

/-- A stall that was reported acts in the seek (R361, R362). -/
def stallAxis (a : Nat) (b : List Byte) (t : STime) (s : Device) : Device :=
  let x := axisOf s a
  match x.stall with
  | none => s
  | some p =>
    if x.mode ≠ .homingSeek then modAxis a (fun x => { x with stall := none }) s
    else if homeRef b = 0 then homeFound a b t (fInt p) { p := fInt p } s
    else homeFail a b t 3 3 s

/-- The target operand of a firing (R341, R342, R363). A loop's target does not lead out of HOMING_FAILED (Table MOT-3), and
one that R363 turns away is held as the axis position. -/
def targetAxis (a : Nat) (b : List Byte) (op : Option OpIn) (s : Device) : Device :=
  let x := axisOf s a
  let loop := bit 2 (fld 2 1 b)
  if axHoming x.mode || x.mode = .disabled || (loop && x.mode == .homingFailed) then s
  else match op with
  | none => s
  | some o =>
    if o.stale || x.askedAt.any (fun t => o.time ≤ t) then s
    else if loop && bit 1 (fld 0 1 b) && !x.homed then takeTarget a b (setPoint x) o.time s
    else takeTarget a b ((convertA 1 false o.bf o.value.toNat).run {}).1.m o.time s

/-- The plan that a changed target or profile field asks for, outside homing (R349). -/
def replanMove (a : Nat) (b : List Byte) (t : STime) (changed : Bool) (s : Device) : Device :=
  let x := axisOf s a
  let k := axKin x
  match x.target, x.plan with
  | none, none => s
  | none, some pl =>
    if !changed then s
    else if pl.rest.isEmpty then planStop a b t k s
    else planTo a b t k (axLimits b).v pl.x s
  | some v, pl =>
    let g := fInt v
    if pl.any (fun pl => pl.x = g) && !changed then s
    else if pl.isNone && g = k.p then (if x.mode = .homingFailed then setAxMode a .standstill s else s)
    else setAxMode a .moving (planTo a b t k (axLimits b).v g s)

/-- A new plan where R349 asks for one. An emergency stop is made again when its profile changes and nothing else replaces it
(R352). -/
def replanAxis (a : Nat) (b : List Byte) (t : STime) (s : Device) : Device :=
  let x := axisOf s a
  let k := axKin x
  let changed := x.plan.any (fun pl => pl.prof ≠ axProf b)
  if x.mode = .disabled || x.held then s
  else if emRunning x then (if changed then putEstop a b t k s else s)
  else match x.mode with
  | .homingSeek =>
    let vl := fInt (fld 56 4 b)
    if x.homeReq then
      planTo a b t k vl (fAdd k.p (fInt (homeSign b * fld 68 4 b))) (modAxis a (fun x => { x with homeReq := false }) s)
    else match x.plan with
      | some pl => if changed then planTo a b t k vl pl.x s else s
      | none => s
  | .homingBackoff =>
    match x.plan with
    | some pl => if changed then planTo a b t k (axLimits b).v pl.x s else s
    | none => s
  | .disabled | .estop => s
  | .standstill | .moving | .homingFailed => replanMove a b t changed (reclamp a b s)

/-- The set-point of the period leaves for its destination, whatever the state (R343, R346, R359, R364). HOME_VEL is held while
the speed is HOME_VEL to the nearest count/s (R361, log 90). -/
def emitAxis (a : Nat) (b : List Byte) (t : STime) (ver : Nat) (s : Device) : Device :=
  let x := axisOf s a
  let q := ssat 32 (fRoundInt (fSub x.p x.hofs))
  let vel := x.mode == .homingSeek && fRoundInt (fAbs x.v) == (fld 56 4 b : Int)
  let s := modAxis a (fun x => { x with
    q := q, version := ver, hist := ((t, setPoint x) :: x.hist).take 16,
    velFrom := if vel then (match x.velFrom with | some v => some v | none => some t) else none }) s
  let index := fld 4 2 b
  let scaled := ssat 32 (ssat 32 (sfld 72 4 b * q / 65536) + sfld 76 4 b)
  let send := fun (kind : Nat) (code : Int) =>
    sendOutput { kind, index, code, time := t, version := ver, axis := some a, q } s
  match fld 1 1 b with
  | 1 => send 6 q
  | 2 => send 1 scaled
  | 3 => send 4 scaled
  | _ => s

/-- MOTION_FIRING (R343): the oldest firing passed to MOT completes. -/
def motionFiring (s : Device) : Device :=
  match s.dpt.mot with
  | [] => s
  | f :: rest =>
    let a := fld 2 2 (recNow s 0x02 1 f.slot)
    let s := { s with dpt.mot := rest }
    let s := match recAt s 0x06 1 a f.time with
      | none => versionDrop 0x06 f.version s
      | some b =>
        let t := f.time
        let s := if (axisOf s a).held then s else advanceAxis a b t s
        let s := endOfPlan a b t s
        let s := enableAxis a b t s
        let s := stopAxis a b t s
        let s := feedbackAxis a b t (opOf f.ops 2) s
        let s := latchLimit a b t true (latchLimit a b t false s)
        let s := clearLatch a b true (clearLatch a b false s)
        let s := stallAxis a b t s
        let s := targetAxis a b (opOf f.ops 1) s
        emitAxis a b t f.version (replanAxis a b t s)
    afterFiring f.slot s

/-- SERVO_TICK (R340): the period start of an axis that has been reached sends its tick. -/
def servoTick (a : Nat) (s : Device) : Device :=
  let b := axRec s a
  let next := nowD s / servo b * servo b
  if b = [] || s.cfg.mode == .unconfigured || next = (axisOf s a).tickAt then s
  else
    sendToken { time := next, version := versionAt s next, slot := axisSlot s a, operand := 0, source := 0x0B80 + a, value := 0 }
      (modAxis a (fun x => { x with tickAt := next }) s)

/-! ## Limit switches (R354 to R357) -/

/-- LIMIT_PIN_CHANGE (R354, R355, R357): the accepted change of a limit pin that DIO holds. -/
def limitPinChange (a : Nat) (pos : Bool) (s : Device) : Device :=
  let b := axRec s a
  let pin := limPin b pos
  let l := axLim (axisOf s a) pos
  let edge := (pinOf s pin).edgeAt
  if b = [] || pin = 0xFF || edge ≤ l.seen then s
  else
    let s := modLim a pos (fun l => { l with seen := edge }) s
    if l.latch.isSome then { s with mot.limIgn := s.mot.limIgn + 1 }
    else if pinLevel s pin then modLim a pos (fun l => { l with pend := some edge }) s
    else if l.pend.isSome then modLim a pos (fun l => { l with pend := none }) { s with mot.limChat := s.mot.limChat + 1 }
    else s

/-- LIMIT_QUALIFICATION (R355). -/
def limitQualify (a : Nat) (pos : Bool) (s : Device) : Device :=
  let b := axRec s a
  match (axLim (axisOf s a) pos).pend with
  | none => s
  | some e =>
    if nowD s < e + usT (fld 46 2 b) || !pinLevel s (limPin b pos) then s
    else modLim a pos (fun l => { l with pend := none, qual := some e }) s

/-! ## Commands (Table MOT-7) -/

def noAxis (s : Device) (d : Desc) : Bool := 63 < d.target.toNat || !created s 0x06 1 d.target.toNat

/-- MOT_MOVE (R350, R358, R363). -/
def motMove (p : Pend) (s : Device) : CmdEnd :=
  let d := p.desc
  let a := d.target.toNat
  let b := axRec s a
  let x := axisOf s a
  checked [
    .when (noAxis s d) .notFound 0,
    .bad { pmask := 1 } [],
    .when (bit 2 (fld 2 1 b) || x.mode == .disabled || axHoming x.mode || (x.neg.latch.isSome && x.pos.latch.isSome) ||
      (bit 1 (fld 0 1 b) && !x.homed)) .rejectedState 0]
    (fun _ s =>
      let t := nowS s
      okWith (wrapInt 32 (clampTarget b x (sword d.p0)))
        (tokenDirect { time := t, version := versionAt s t, slot := axisSlot s a, operand := 1, source := 0x0600 + a,
                       value := d.p0 } s)) p s

/-- Where a stop made at the next period start ends (MOT_STOP). -/
def stopEnd (b : List Byte) (x : Axis) (em : Bool) (now : STime) : Int :=
  match x.plan with
  | none => setPoint x
  | some pl =>
    if x.mode = .estop || pl.em then ssat 32 (fRoundInt pl.x)
    else
      let k := (planAt pl (ceilTo (servo b) now)).1
      let l := axLimits b
      ssat 32 (fRoundInt (runEnd k (if em then stopPieces (axEjerk b) (axEdec b) k else stopPieces l.j l.d k)).p)

/-- MOT_STOP (R349, R352): acts at the next period start. -/
def motStop (p : Pend) (s : Device) : CmdEnd :=
  let d := p.desc
  let a := d.target.toNat
  let x := axisOf s a
  checked [
    .when (noAxis s d) .notFound 0,
    .bad { pmask := 1 } [(1 < d.p0.toNat, 24)],
    .when (x.mode == .disabled) .rejectedState 0]
    (fun _ s => okWith (wrapInt 32 (stopEnd (axRec s a) x (d.p0 == 1) (nowS s)))
      (modAxis a (fun x => { x with stopReq := some (d.p0 == 1) }) s)) p s

/-- MOT_HOME (R360): the seek is planned at the next period start, from the state of a plan that still runs then, or after an
emergency stop (R349, R352). -/
def motHome (p : Pend) (s : Device) : CmdEnd :=
  let a := p.desc.target.toNat
  let x := axisOf s a
  checked [
    .when (noAxis s p.desc) .notFound 0,
    .bad plain [],
    .when (x.mode != .standstill && x.mode != .homingFailed) .rejectedState 0]
    (fun _ s => okWith 0 (setAxMode a .homingSeek (modAxis a (fun x => { x with
      homed := false, homeReq := true, hofs0 := x.hofs, target := none, stall := none, velFrom := none }) s))) p s

/-- MOT_SET_POS (Table MOT-7): HOFS changes and the coordinates with it; a stop that still runs goes on in the new ones (R359). -/
def motSetPos (p : Pend) (s : Device) : CmdEnd :=
  let d := p.desc
  let a := d.target.toNat
  let x := axisOf s a
  let new := fInt (sword d.p0)
  checked [
    .when (noAxis s d) .notFound 0,
    .bad { pmask := 1 } [],
    .when (x.mode != .standstill && x.mode != .homingFailed) .rejectedState 0]
    (fun _ s => okWith (wrapInt 32 (setPoint x)) (setAxMode a .standstill (modAxis a (fun x => {
      shiftAxis (fSub new x.p) x with p := new, homed := true, target := none, askedAt := some (nowS s) }) s))) p s

/-- MOT_AXSTATa (Table MOT-9). -/
def axStat (s : Device) (a : Nat) : Nat :=
  let x := axisOf s a
  axCode x.mode + flag 8 x.homed + flag 9 x.neg.latch.isSome + flag 10 x.pos.latch.isSome +
  flag 11 (softOn (axRec s a) x)

/-- The axis state record of MOT_READ_STATE (Table MOT-7). -/
def axRecord (s : Device) (a : Nat) : List Byte :=
  let x := axisOf s a
  let pl := match x.pos.latch, x.neg.latch with | some v, _ => v | none, some v => v | none, none => 0
  le 1 (axCode x.mode) ++ le 1 (axStat s a / 256) ++ le 2 x.version ++ le 4 0 ++
  le 8 (fBits x.p) ++ le 8 (fBits x.v) ++ le 8 (fBits x.a) ++
  le 4 (wrapInt 32 (axTarget x)) ++ le 4 (wrapInt 32 x.fbUsed) ++ le 8 (fBits x.hofs) ++
  le 4 (wrapInt 32 x.ferr) ++ le 4 (wrapInt 32 pl) ++ le 8 0

/-- MOT_READ_STATE. -/
def readAxis (p : Pend) (s : Device) : CmdEnd :=
  let a := p.desc.target.toNat
  checked [
    .when (noAxis s p.desc) .notFound 0,
    .bad { bufMin := 64, bufMax := 16777216 } []]
    (fun _ s => okBuf (axCode (axisOf s a).mode) (axRecord s a) s) p s

/-- MOT_CLEAR_COUNTERS. -/
def motClear (p : Pend) (s : Device) : CmdEnd :=
  let m := p.desc.p0.toNat
  checked [.bad { target := false, pmask := 1 } [(2 ^ 6 ≤ m, 24)]]
    (fun _ s => okWith 0 { s with mot := { s.mot with
      estops := clr m 0 s.mot.estops, clamps := clr m 1 s.mot.clamps, limIgn := clr m 2 s.mot.limIgn,
      limChat := clr m 3 s.mot.limChat, replans := clr m 4 s.mot.replans, follow := clr m 5 s.mot.follow } }) p s

/-! ## The rows of the table of operations -/

/-- SERVO_TICK (R340): At each servo period start, TIM sends the axis its primary tick token. -/
def execServoTick (a : Nat) (s : State) : Host.Outcome State Fault Refusal :=
  .next { s with dev := servoTick a s.dev }

/-- MOTION_FIRING (R343): MOT completes an axis firing, replanning if needed, and emits the set-point. -/
def execMotionFiring (s : State) : Host.Outcome State Fault Refusal :=
  .next { s with dev := motionFiring s.dev }

/-- LIMIT_PIN_CHANGE (R354): DIO passes an accepted change of a limit pin to MOT. -/
def execLimitPinChange (a : Nat) (pos : Bool) (s : State) : Host.Outcome State Fault Refusal :=
  .next { s with dev := limitPinChange a pos s.dev }

/-- LIMIT_QUALIFICATION (R355): An activation still active LIM_FILT_US after its edge is qualified and latches
its limit. -/
def execLimitQualification (a : Nat) (pos : Bool) (s : State) : Host.Outcome State Fault Refusal :=
  .next { s with dev := limitQualify a pos s.dev }

/-- MOT_MOVE (R382): Places a HOST target token in operand 1 of an axis. -/
def execMotMove (d : Desc) (s : State) : Host.Outcome State Fault Refusal :=
  .next { s with dev := runCmd motMove d s.dev }

/-- MOT_STOP (R382): Stops an axis normally or as an emergency. -/
def execMotStop (d : Desc) (s : State) : Host.Outcome State Fault Refusal :=
  .next { s with dev := runCmd motStop d s.dev }

/-- MOT_HOME (R360): Starts HOMING_SEEK. -/
def execMotHome (d : Desc) (s : State) : Host.Outcome State Fault Refusal :=
  .next { s with dev := runCmd motHome d s.dev }

/-- MOT_SET_POS (R382): Sets HOFS so that p equals the given value, and sets HOMED. -/
def execMotSetPos (d : Desc) (s : State) : Host.Outcome State Fault Refusal :=
  .next { s with dev := runCmd motSetPos d s.dev }

/-- MOT_READ_STATE (R382): Returns the axis state. -/
def execMotReadState (d : Desc) (s : State) : Host.Outcome State Fault Refusal :=
  .next { s with dev := runCmd readAxis d s.dev }

/-- MOT_CLEAR_COUNTERS (R382): Clears the selected MOT counters. -/
def execMotClearCounters (d : Desc) (s : State) : Host.Outcome State Fault Refusal :=
  .next { s with dev := runCmd motClear d s.dev }

end Sys2Proof.Machine
end

