-- ==== Sys2Proof/Machine/Ccr.lean ====
section
/-!
DEFINITION. Machine/Ccr.lean: the coil current regulators and the reports of destinations (09_motion, R229, R648).
-/
namespace Sys2Proof.Machine

def driveOf (s : Device) (m : Nat) : Drive := tget s.ccr.drives m {}
def modDrive (m : Nat) (f : Drive → Drive) (s : Device) : Device :=
  { s with ccr.drives := tset s.ccr.drives m (f (driveOf s m)) }

/-- Drive record in force (Table MOT-6). -/
def ccrRec (s : Device) (m : Nat) : List Byte := recNow s 0x07 1 m

/-- The axis that feeds drive m (R365). -/
def driveAxis (s : Device) (m : Nat) : Option Nat :=
  (objsOf s 0x06 1).find? (fun a => fld 1 1 (axRec s a) == 1 && fld 4 2 (axRec s a) == m)

/-- The four outputs of drive m are high-impedance (R378, R379): the Dome die in reset, CCR_OE, FAULT or a standby. -/
def driveReleased (s : Device) (m : Nat) : Bool := !(bit m s.ccr.oe && fieldOn s) || (driveOf s m).fault

/-- The drive regulates: enabled and not released (R379, Table MOT-6). -/
def driveOn (s : Device) (m : Nat) : Bool := bit 0 (fld 0 1 (ccrRec s m)) && !driveReleased s m

/-- What the outputs A1, A2, B1, B2 do in a PWM period: the time each is high, in 5 ns steps; none while they are
high-impedance (R366, R379). A drive that is not enabled holds them low (log 91). -/
def driveBalls (s : Device) (m : Nat) : Option (List Nat) :=
  let d := driveOf s m
  if driveReleased s m then none
  else some (if driveOn s m then [d.highA1, d.highA2, d.highB1, d.highB2] else [0, 0, 0, 0])

/-- The drive's axis is homing (R360, R369). -/
def driveHoming (s : Device) (m : Nat) : Bool := (driveAxis s m).any (fun a => axHoming (axisOf s a).mode)

/-! ## Set-points (R367, R375) -/

/-- The two placed points between which, or from which on, instant t lies: the last at or before t, and the next. -/
def around (t : STime) : List (STime × Int) → Option (STime × Int) × Option (STime × Int)
  | [] => (none, none)
  | p :: rest =>
    if p.1 ≤ t then
      match around t rest with
      | (none, nx) => (some p, nx)
      | r => r
    else (none, some p)

/-- A rate in counts/s between two placed points. -/
def slope (p q : STime × Int) : Frac :=
  if q.1 ≤ p.1 then {} else frac ((q.2 - p.2) * 1000000000) (q.1 - p.1)

/-- The last two of a list of points. -/
def lastTwo : List (STime × Int) → Option ((STime × Int) × (STime × Int))
  | [] => none
  | [_] => none
  | [p, q] => some (p, q)
  | _ :: q :: r :: rest => lastTwo (q :: r :: rest)

/-- The slope an extrapolation continues at: that of the last two points (R375). -/
def lastSlope (d : Drive) : Frac :=
  match lastTwo d.points with
  | some (p, q) => slope p q
  | none => {}

/-- Position in 1/256 count reached from `p` at a speed after dt (R367, R375). -/
def moveBy (p : Int) (speed : Frac) (dt : STime) : Int :=
  p + qRound (qMul speed (frac (256 * dt) 256000000000))

/-- The loss ramp at instant t: position in 1/256 count, the speed falling at LOSS_DEC to zero (R375). -/
def rampPos (b : List Byte) (r : STime × Int × Frac) (t : STime) : Int :=
  let dec := qInt (fld 24 4 b)
  let el := frac (t - r.1 : Nat) 256000000000
  let stopAt := qDiv (qAbs r.2.2) dec
  let tau := if qLt el stopAt then el else stopAt
  let dist := qSub (qMul (qAbs r.2.2) tau) (qMul (qMul dec (qMul tau tau)) (frac 1 2))
  r.2.1 + qRound (qMul (if r.2.2.n < 0 then qNeg dist else dist) (qInt 256))

/-- The loss ramp has come to rest by instant t (R375). -/
def rampDone (b : List Byte) (r : STime × Int × Frac) (t : STime) : Bool :=
  qLe (qDiv (qAbs r.2.2) (qInt (fld 24 4 b))) (frac (t - r.1 : Nat) 256000000000)

/-- Electrical position in 1/256 count, speed in counts/s and extrapolation at instant t (R367, R375). -/
def drivePos (b : List Byte) (d : Drive) (t : STime) : Int × Frac × Bool :=
  match d.ramp with
  | some r => (rampPos b r t, {}, false)
  | none =>
    match around t d.points with
    | (some p, some q) =>
      let v := slope p q
      (moveBy p.2 v (t - p.1), v, false)
    | (some p, none) => (moveBy p.2 (lastSlope d) (t - p.1), lastSlope d, true)
    | (none, some q) => if d.points.length = 1 then (d.pos, {}, false) else (q.2, {}, false)
    | (none, none) => (d.pos, {}, false)

/-- A set-point that a drive takes is placed at t_k + SERVO_NS + 8 µs (R367); one that comes during extrapolation resumes from
the extrapolated position (R375). -/
def placeSetpoint (m : Nat) (o : OutItem) (b : List Byte) (s : Device) : Device :=
  let d := driveOf s m
  let place := o.time + servo b + usT 8
  let (pos, _, ex) := drivePos (ccrRec s m) d (nowD s)
  let base := if ex || d.points.isEmpty then d.points ++ [(nowD s, pos)] else d.points
  let pts := base ++ [(place, 256 * o.code)]
  report o .applied place (modDrive m (fun d => { d with
    points := pts.drop (pts.length - 8), time := some o.time, extra := false }) s)

/-- CCR_SETPOINT_ARRIVAL (R20, R132, R367, R375). A drive that does not regulate, or that has ramped down and waits for its axis,
does not apply it; an older one is discarded and counted, as is one whose record is no longer kept. -/
def setpointArrival (m : Nat) (s : Device) : Device :=
  match takeOutput 6 m s with
  | (none, _) => s
  | (some o, s) =>
    let a := o.axis.getD 0
    let d := driveOf s m
    if d.time.any (fun t => o.time < t) then report o .discarded 0 { s with ccr.orderDrop := s.ccr.orderDrop + 1 }
    else if !driveOn s m || d.ramp.isSome then report o .discarded 0 s
    else match recAt s 0x06 1 a o.time with
      | some b => placeSetpoint m o b s
      | none => report o .discarded 0 (versionDrop 0x06 o.version s)

/-- SETPOINT_LOSS_EXPIRY (R375): two servo periods of extrapolation have passed. -/
def setpointLoss (m : Nat) (s : Device) : Device :=
  let d := driveOf s m
  match d.points.getLast?, driveAxis s m with
  | some p, some a =>
    if d.ramp.isSome || nowD s < p.1 + 2 * servo (axRec s a) then s
    else
      let t := p.1 + 2 * servo (axRec s a)
      let (pos, v, _) := drivePos (ccrRec s m) d t
      raise Ev.ccrSpLoss [(1, m), sgn 4 (pos / 256)]
        (modDrive m (fun d => { d with ramp := some (t, pos, v), extra := false }) { s with ccr.spLoss := s.ccr.spLoss + 1 })
  | _, _ => s

/-! ## Current -/

/-- Electrical angle index (R368). -/
def theta (b : List Byte) (pos : Int) : Nat :=
  let n : Nat := 4 * 2 ^ fld 1 1 b * 256
  let r : Nat := (pos % (n : Int)).toNat
  r * 4096 / n

/-- The current amplitude I in mA (R369). -/
def amplitude (s : Device) (m : Nat) : Frac :=
  let b := ccrRec s m
  let d := driveOf s m
  let run : Int := fld 4 2 b
  let hold : Int := fld 6 2 b
  if d.ramp.any (fun r => rampDone b r (nowD s)) then qInt hold
  else if driveHoming s m then qInt (fld 8 2 b)
  else match d.hold with
    | some k => qAdd (qInt run) (frac ((hold - run) * (min k 64 : Nat)) 64)
    | none => qInt run

/-- A sample over the threshold of R374: more than 1.5 × I_RUN, or a limit code. -/
def sampleOver (b : List Byte) (code : Int) : Bool :=
  code == 2047 || code == -2048 || 3 * fld 4 2 b * 2047 < 2 * code.natAbs * fld 16 2 b

/-- The second of two consecutive samples over the threshold. -/
def overPair (b : List Byte) : List Int → Option Int
  | x :: y :: rest => if sampleOver b x && sampleOver b y then some y else overPair b (y :: rest)
  | _ => none

/-- The measured current of a phase in mA: the mean of the 8 samples (R370). -/
def meanCurrent (b : List Byte) (xs : List Int) : Frac :=
  if xs.isEmpty then {} else frac (xs.sum * fld 16 2 b) (2047 * xs.length)

/-- The regulator of one phase (R371, R372): command, measurement, integral sum, whether the terms act this period.
Answers the new sum and u. -/
def regulate (b : List Byte) (strong update : Bool) (cmd meas sum u : Frac) : Frac × Frac :=
  if !update then (sum, u)
  else
    let e := qSub cmd meas
    let sum := qClamp (qInt (-4096)) (qInt 4096) (qAdd sum (qMul (qInt (fld 30 2 b)) e))
    let prop := if strong then qMul (qInt (fld 28 2 b)) e else {}
    let ff := qDiv (qMul cmd (qInt (fld 36 4 b))) (qInt (1000 * fld 32 4 b))
    (sum, qClamp (qInt (-1)) (qInt 1) (qAdd ff (qMul (qAdd prop sum) (frac 1 4096))))

/-- The mode a drive runs in at a period start (R360, R372): STRONG is true. -/
def wantStrong (b : List Byte) (d : Drive) (homing : Bool) (speed : Frac) : Bool :=
  if homing then true
  else match bits 2 1 (fld 0 1 b) with
  | 1 => false
  | 2 => true
  | _ =>
    let vt := fld 12 4 b
    if vt = 0 || qLe (qInt vt) (qAbs speed) then true
    else if qLt (qAbs speed) (qSub (qInt vt) (frac vt 8)) then false
    else d.strong

/-- The axis of a drive with an overcurrent (R374): ESTOP, plan ended, HOMED clear, held. -/
def holdAxis (a : Nat) (s : Device) : Device :=
  setAxMode a .estop (modAxis a (fun x => { x with
    v := {}, a := {}, plan := none, homed := false, held := true, homeReq := false, stall := none, velFrom := none,
    target := none, askedAt := some (nowD s) }) s)

/-- The axis a drive belongs to, if it has one, is held. -/
def holdIfAxis (a : Option Nat) (s : Device) : Device :=
  match a with
  | none => s
  | some a => holdAxis a s

/-- An overcurrent (R374): outputs low, FAULT, and the axis in ESTOP with its plan ended, HOMED clear, held. -/
def overcurrent (m phase : Nat) (code : Int) (s : Device) : Device :=
  let s := raise Ev.ccrOvercurrent [(1, m), (1, phase), sgn 2 code]
    (modDrive m (fun d => { d with fault := true, highA1 := 0, highA2 := 0, highB1 := 0, highB2 := 0 }) { s with ccr.ovc := s.ccr.ovc + 1 })
  holdIfAxis (driveAxis s m) s

/-- The high times of the two outputs of a phase at voltage fraction u, (1 + u) / 2 and (1 - u) / 2 of the period, to the nearest
5 ns (R366). -/
def highTimes (b : List Byte) (u : Frac) : Nat × Nat :=
  let steps := qDiv (qInt 100000) (qInt (fld 2 2 b))
  ((qRound (qMul steps (qAdd (qInt 1) u))).toNat, (qRound (qMul steps (qSub (qInt 1) u))).toNat)

/-- CCR_PWM_PERIOD (R366, R367 to R374): a PWM period of drive m with the 8 sample codes of each phase. -/
def pwmPeriod (m : Nat) (sa sb : List Int) (s : Device) : Device :=
  let b := ccrRec s m
  let d := driveOf s m
  if b = [] || 15 < m then s
  else
    let now := nowD s
    let overRange := sa.any (sampleOver b) || sb.any (sampleOver b)
    let ma := meanCurrent b sa
    let mb := meanCurrent b sb
    let s := modDrive m (fun d => { d with overRange := overRange, imA := ssat 16 (qRound ma), imB := ssat 16 (qRound mb) }) s
    if !driveOn s m then s
    else
      let (pos, speed, ex) := drivePos b d now
      let moved := pos != d.pos
      let want := wantStrong b d (driveHoming s m) speed
      let sw := want != d.strong && 16 ≤ d.sinceSw
      let strong := if sw then want else d.strong
      let (a1, a2) := highTimes b d.uA
      let (b1, b2) := highTimes b d.uB
      let s := modDrive m (fun d => { d with
        highA1 := a1, highA2 := a2, highB1 := b1, highB2 := b2
        pos := pos, extra := ex, since := if moved then now else d.since,
        hold := if moved then none else d.hold.map (fun k => min 64 (k + 1)),
        uA0 := d.uA, uB0 := d.uB, strong := strong, tick := d.tick + 1,
        sinceSw := if sw then 1 else min 16 (d.sinceSw + 1),
        modeSw := if sw then d.modeSw + 1 else d.modeSw,
        load := if strong && speed.n != 0 then d.load else 0 }) s
      match overPair b sa, overPair b sb with
      | some c, _ => overcurrent m 0 c s
      | none, some c => overcurrent m 1 c s
      | none, none =>
        let amp := amplitude s m
        let th := theta b pos
        let ca := qMul amp (frac (sine (th + 1024)) 32767)
        let cb := qMul amp (frac (sine th) 32767)
        let d := driveOf s m
        let update := strong || d.tick % 16 = 0
        let (sumA, uA) := regulate b strong update ca ma d.sumA d.uA
        let (sumB, uB) := regulate b strong update cb mb d.sumB d.uB
        let small := qLe (qAbs ca) (qAbs cb)
        let u0 := if small then d.uA0 else d.uB0
        let im := if small then ma else mb
        let term := qAbs (qSub (qMul u0 (qInt (fld 32 4 b * 1000))) (qMul im (qInt (fld 36 4 b))))
        modDrive m (fun d => { d with
          sumA := sumA, sumB := sumB, uA := uA, uB := uB
          eSum := if strong then qAdd d.eSum term else {}, eCnt := if strong then d.eCnt + 1 else 0 }) s

/-- LOAD of a full step: mean E, KE and speed (R373). -/
def loadOf (b : List Byte) (d : Drive) (speed : Frac) (free : Nat) : Nat :=
  if speed.n = 0 || d.eCnt = 0 then 0
  else if fld 40 4 b = 0 then free
  else
    let e := qMul d.eSum (frac 1 d.eCnt)
    min 1023 (qRound (qDiv (qMul (qInt 512) e) (qMul (qInt (fld 40 4 b)) (qAbs speed)))).toNat

/-- A stall of drive m reaches its axis (R361, R362, R373). -/
def stallReport (m : Nat) (s : Device) : Device :=
  match driveAxis s m with
  | none => s
  | some a =>
    let x := axisOf s a
    if stallArmed (axRec s a) x (nowD s) then
      modAxis a (fun x => { x with stall := some (match x.hist.head? with | some h => h.2 | none => setPoint x) }) s
    else s

/-- FULL_STEP_LOAD (R373): a full step of drive m ends. -/
def fullStep (m : Nat) (s : Device) : Device :=
  let b := ccrRec s m
  let d := driveOf s m
  if !driveOn s m || !d.strong || d.eCnt = 0 then s
  else
    let (i, s) := draw s
    let (_, speed, _) := drivePos b d (nowD s)
    let load := loadOf b d speed (Config.loadFree i).toNat
    let low := if load < fld 18 2 b then min 255 (d.low + 1) else 0
    let s := modDrive m (fun d => { d with load := load, low := low, eSum := {}, eCnt := 0 }) s
    if low = fld 20 1 b && d.low < low then stallReport m (raise Ev.ccrStall [(1, m), (2, load)] s) else s

/-- HOLD_DELAY_EXPIRY (R369): the electrical position has been unchanged for HOLD_DELAY_MS. -/
def holdDelay (m : Nat) (s : Device) : Device :=
  let d := driveOf s m
  if d.hold.isSome || nowD s < d.since + msT (fld 10 2 (ccrRec s m)) then s
  else modDrive m (fun d => { d with hold := some 0 }) s

/-- CCR_OE_WRITE (R379, R380). -/
def ccrOeWrite (v : Nat) (s : Device) : Device := domeWrite (fun s => { hazard 0x70000 s with ccr.oe := v % 2 ^ 16 }) s

/-- CCR_CLEAR_FAULT (R374, R382): the drive resumes at its axis position. -/
def clearFault (p : Pend) (s : Device) : CmdEnd :=
  let m := p.desc.target.toNat
  let d := driveOf s m
  checked [
    .when (15 < m) .notFound 0,
    .bad plain [],
    .when (!d.fault || d.overRange) .rejectedState 0]
    (fun _ s =>
      let q := match driveAxis s m with | some a => (axisOf s a).q | none => d.pos / 256
      let s := modDrive m (fun d => { d with
        fault := false, pos := 256 * q, points := [], ramp := none, extra := false, time := none }) s
      let s := match driveAxis s m with
        | some a => modAxis a (fun x => { x with held := false }) s
        | none => s
      okWith 0 (raise Ev.ccrFaultCleared [(1, m)] s)) p s

/-- CCR_OE across CFG_LOAD_BASE: the drives that an axis names (R380). -/
def loadCcr (s : Device) : Device :=
  { s with ccr.oe := ((List.range 16).map (fun m => flag m (driveAxis s m).isSome)).sum }

/-- CCR_STATm (Table MOT-9). -/
def ccrStat (s : Device) (m : Nat) : Nat :=
  let d := driveOf s m
  (if d.fault then 3 else if !driveOn s m then 0 else if d.strong then 2 else 1) +
  flag 2 (d.hold.any (fun k => 64 ≤ k)) + flag 3 d.extra + flag 4 d.ramp.isSome

/-! ## Reports of destinations -/

/-- The recorder's view of a report (R648): LOOP_OUT for a loop's first destination, AXIS for an axis. -/
def recordReport (r : DestReport) (s : Device) : Device :=
  let o := r.item
  let (aux, fl) := match r.fate with
    | .applied => auxTime o.time r.issue
    | .discarded => (0, 8)
    | .superseded => (0, 16)
  let s := match o.loop with
    | some n => if o.first then ltnRecord 3 n 0 o.time o.version (BitVec.ofInt 32 o.code) aux fl s else s
    | none => s
  match o.axis with
  | some a => ltnRecord 5 a 0 o.time o.version (BitVec.ofInt 32 o.q) aux fl s
  | none => s

/-- DESTINATION_REPORT (R229, R648): the oldest report reaches its loop or axis. -/
def destinationReport (s : Device) : Device :=
  match s.reports with
  | [] => s
  | r :: rest =>
    let s := recordReport r { s with reports := rest }
    match r.item.loop with
    | some n => loopReport n r s
    | none => s

/-! ## The rows of the table of operations -/

/-- CCR_PWM_PERIOD (R370): A PWM period loads new duties, measures the current and runs the regulator. -/
def execCcrPwmPeriod (m : Nat) (sa sb : List Int) (s : State) : Host.Outcome State Fault Refusal :=
  .next { s with dev := pwmPeriod m sa sb s.dev }

/-- FULL_STEP_LOAD (R373): At each full step in STRONG, LOAD is formed and a stall may be reported. -/
def execFullStepLoad (m : Nat) (s : State) : Host.Outcome State Fault Refusal :=
  .next { s with dev := fullStep m s.dev }

/-- SETPOINT_LOSS_EXPIRY (R375): Two servo periods without a set-point start the loss ramp and raise
CCR_SP_LOSS. -/
def execSetpointLossExpiry (m : Nat) (s : State) : Host.Outcome State Fault Refusal :=
  .next { s with dev := setpointLoss m s.dev }

/-- HOLD_DELAY_EXPIRY (R369): After HOLD_DELAY_MS without position change, the current ramps to I_HOLD. -/
def execHoldDelayExpiry (m : Nat) (s : State) : Host.Outcome State Fault Refusal :=
  .next { s with dev := holdDelay m s.dev }

/-- CCR_OE_WRITE (R379): A write to CCR_OE permits or releases drive switching at once. -/
def execCcrOeWrite (v : Nat) (s : State) : Host.Outcome State Fault Refusal :=
  .next { s with dev := ccrOeWrite v s.dev }

/-- CCR_CLEAR_FAULT (R382): Leaves FAULT and resumes the drive. -/
def execCcrClearFault (d : Desc) (s : State) : Host.Outcome State Fault Refusal :=
  .next { s with dev := runCmd clearFault d s.dev }

/-- CCR_SETPOINT_ARRIVAL (R375): A set-point from MOT reaches a coil drive on the Dome die, is placed for
interpolation, and ends any extrapolation. -/
def execCcrSetpointArrival (m : Nat) (s : State) : Host.Outcome State Fault Refusal :=
  .next { s with dev := setpointArrival m s.dev }

/-- DESTINATION_REPORT (R229): A destination's report of what became of an output (applied, discarded or
superseded) reaches the loop, restoring OUT_LAST and forming the LOOP_OUT or AXIS record. -/
def execDestinationReport (s : State) : Host.Outcome State Fault Refusal :=
  .next { s with dev := destinationReport s.dev }

end Sys2Proof.Machine
end

