-- ==== Sys2Proof/Machine/Ship.lean ====
section
/-!
DEFINITION. Machine/Ship.lean: what an active device sends over the pair link, and how a command waits for its
acknowledgement (16_pair). The spec does not lay out these messages, so their bytes are uninterpreted (log 46).
-/
namespace Sys2Proof.Machine

/-- The persistent configuration of a device (R632). -/
structure PersistCfg where
  base     : List Byte
  programs : Tab (List Byte)
  overlays : Tab Overlay
  fbl      : List Byte
  armed    : List Armed
deriving DecidableEq, Repr

end Sys2Proof.Machine

namespace Sys2Proof.Config

/-- The bytes of the persistent configuration, and what such bytes spell (R632). Uninterpreted (log 46). -/
opaque configWire : Sys2Proof.Machine.PersistCfg → List (BitVec 8)
opaque wireConfig : List (BitVec 8) → Option Sys2Proof.Machine.PersistCfg
/-- The bytes of a committed record as shipped, and what they spell (R632). Uninterpreted (log 46). -/
opaque recordWire : Sys2Proof.Machine.KepRec → List (BitVec 8)
opaque wireRecord : List (BitVec 8) → Option Sys2Proof.Machine.KepRec
/-- The bytes of an image slot as shipped, and what they spell (R632). Uninterpreted (log 46). -/
opaque imageWire : Sys2Proof.Machine.KepSlot → List (BitVec 8)
opaque wireImage : List (BitVec 8) → Option Sys2Proof.Machine.KepSlot
/-- The bytes that tell a peer of the firmware versions and the safety configuration (R631). Uninterpreted (log 46). -/
opaque infoWire : List Nat → Nat → Nat → Nat → List (BitVec 8)

end Sys2Proof.Config

namespace Sys2Proof.Machine

/-! ## Packets (R625) -/

/-- The lane a packet takes: alternating over lanes that are up. -/
def shipLane (s : Device) (seq : Nat) : Nat :=
  if bit (seq % 2) s.pai.lanes then seq % 2 else if bit 0 s.pai.lanes then 0 else 1

/-- One packet is sent, and kept until it is acknowledged. -/
def sendPacket (payload : List Byte) (tag : ShipTag) (s : Device) : Device :=
  let q := s.pai.txSeq
  let lane := shipLane s q
  let s := { s with
    pai.txSeq := q + 1
    pai.tx := s.pai.tx ++ [{ seq := q, lane, payload, sentAt := s.tim.ck, tag }] }
  if bit lane s.pai.lanes then { s with out := s.out ++ [.pair lane q payload] } else s

/-- Payload bytes of a packet of 2,048 bytes, beside its header and CRC. -/
def packetRoom : Nat := 2028

/-- A message is sent as packets of at most 2,048 bytes; the answer is the number of its last one, which carries the tag. -/
def sendMessage (bytes : List Byte) (tag : ShipTag) (s : Device) : Nat × Device :=
  let n := (bytes.length + packetRoom - 1) / packetRoom - 1
  let s := (List.range n).foldl (fun s k => sendPacket ((bytes.drop (packetRoom * k)).take packetRoom) .other s) s
  (s.pai.txSeq, sendPacket (bytes.drop (packetRoom * n)) tag s)

/-! ## Persistent updates (R632, R634) -/

/-- The persistent configuration the device holds. -/
def persistCfg (s : Device) : PersistCfg :=
  { base := s.kep.base, programs := s.kep.programs, overlays := s.cfg.overlays
    fbl := match s.fbl.next with | some i => i | none => s.fbl.image
    armed := s.cfg.armed }

def addArmed (a : Armed) (p : PersistCfg) : PersistCfg := { p with armed := p.armed ++ [a] }

/-- A persistent update is shipped; the answer is the packet whose acknowledgement it waits for. -/
def shipUpdate (p : PersistCfg) (tag : ShipTag) (s : Device) : Nat × Device := sendMessage (Config.configWire p) tag s

/-- A command that has changed the persistent configuration completes OK: at once, or with a SYNCED standby when that has
acknowledged the update (R634). -/
def syncOk (detail : Nat) (p : Pend) (s : Device) : CmdEnd :=
  if s.pai.synced then
    let (q, s) := shipUpdate (persistCfg s) .update s
    .wait { s with pai.waits := s.pai.waits ++ [{ pend := p, detail, seq := q, till := s.tim.ck + 100000 }] }
  else okWith detail s

/-- The standby of an active device leaves SYNCED: the join runs again from the persistent configuration (R634). -/
def resync (cause : Nat) (s : Device) : Device :=
  if s.pai.synced then
    raise Ev.paiSyncLost [(1, cause)] { s with
      pai.resyncs := s.pai.resyncs + 1, pai.shipping := false, pai.resyncCause := cause, pai.backlog := 0
      pai.tx := s.pai.tx.map (fun t => { t with tag := match t.tag with | .record _ _ => .other | x => x }) }
  else s

/-- A committed record is shipped (R632), unless it goes later with the image; more than 64 MiB unacknowledged ends the
synchronisation (R634). -/
def shipRecord (r : KepRec) (s : Device) : Device :=
  if !s.pai.shipping || s.pai.imageOwed then s
  else
    let (_, s) := sendMessage (Config.recordWire r) (.record r.epoch r.len) { s with pai.backlog := s.pai.backlog + r.len }
    if 67108864 < s.pai.backlog then resync 2 s else s

end Sys2Proof.Machine
end

