-- ==== Sys2Proof/Machine/Cfg.lean ====
section
/-!
DEFINITION. Machine/Cfg.lean: base images, overlays, arming and the commands of the configuration manager
(03_configuration_overlays).
-/
namespace Sys2Proof.Machine

/-! ## Failure report -/

/-- A failed load or arming: CFG_ERRINFO and CFG_ARM_FAIL (R118). -/
def armFail (slot : Nat) (st : Status) (reason index : Nat) (s : Device) : Device :=
  raise Ev.cfgArmFail [(2, slot), (1, st.code), (1, reason), (2, index)]
    { s with cfg.errIndex := index, cfg.errReason := reason, cfg.errStatus := st.code }

/-- Status of each reason (Table CFG-8). -/
def reasonStatus (r : Nat) : Status :=
  if r ≤ 8 then .badField else if r = 9 then .dataError else .rejectedState

/-- A command fails on the content of its image: DETAIL names the descriptor field, and the reason is reported (R118). -/
def contentFail (slot reason index detail : Nat) (s : Device) : CmdEnd :=
  let st := reasonStatus reason
  .fail st (if st = .badField then detail else 0) (armFail slot st reason index s)

/-! ## Base images (R107, R108, R806) -/

/-- A section directory entry (R108). -/
structure Section where
  blk   : Nat
  kind  : Nat
  size  : Nat
  count : Nat
  off   : Nat
  resv  : Nat
deriving DecidableEq, Repr

/-- The section directory of a base image. -/
def sections (img : List Byte) : List Section :=
  (List.range (fld 12 2 img)).map fun i =>
    let e := (img.drop (32 + 16 * i)).take 16
    { blk := fld 0 1 e, kind := fld 1 1 e, size := fld 2 2 e, count := fld 4 4 e, off := fld 8 4 e, resv := fld 12 4 e }

/-- The bytes of an image or overlay with its CRC field taken as 0. -/
def crcZeroed (at_ : Nat) (b : List Byte) : List Byte := overwrite at_ (le 4 0) b

/-- The objects a base image creates, in directory order, and the default device modes record of R115. -/
def imageObjects (img : List Byte) : List CfgObj :=
  let objs := (sections img).flatMap fun t => (List.range t.count).map fun i =>
    let r := padTo t.size (img.drop (t.off + t.size * i))
    { blk := t.blk, kind := t.kind, obj := i, base := r, cur := r : CfgObj }
  if objs.any (fun o => o.blk == 0x01 && o.kind == 1) then objs
  else
    let r := le 4 0 ++ le 4 0 ++ le 4 1000 ++ List.replicate 20 0#8
    objs ++ [{ blk := 0x01, kind := 1, obj := 0, base := r, cur := r }]

/-- The fault of a directory entry: a kind that no chapter gives, or a size, a count, an offset or a reserved field that is
not right (R108, R806 step 5). -/
def entryFault (len : Nat) (t : Section) : Option Nat :=
  match recordShape t.blk t.kind with
  | none => some 0x03
  | some (size, cap) =>
    if t.size ≠ size ∨ cap < t.count ∨ t.off % 8 ≠ 0 ∨ len < t.off + t.size * t.count ∨ t.resv ≠ 0 then some 0x01 else none

/-- The first section, by its place in the directory, that holds a record with a value out of range (R806 step 6). -/
def sectionFault (v : View) (ts : List Section) : Option Nat :=
  ts.findIdx? fun t => !(vall v t.blk t.kind).all (fun e => valuesOk v t.blk t.kind e.1 e.2)

/-- The directory entry whose block a whole-image check names. -/
def sectionOfBlock (ts : List Section) (blk : Nat) : Nat :=
  (ts.findIdx? (fun t => t.blk == blk)).getD 0xFFF

/-- How the check of a base image ends: passes, or fails with a status, a reason and an index (R806). -/
inductive ImageCheck where
  | good
  | unsupported
  | bad (reason index : Nat)
deriving DecidableEq, Repr

/-- The checks of CFG_LOAD_BASE in their order (R107, R108, R806). LENGTH must equal BUF_LEN: the spec says that it is
checked against it and not how (DESIGN CHOICE, log 78). -/
def checkBase (img : List Byte) (bufLen : Nat) : ImageCheck :=
  let len := fld 8 4 img
  let ts := sections img
  let v := imageObjects img
  if fld 0 4 img ≠ 0x46435A4B then .bad 0x01 0xFFF
  else if fld 4 2 img ≠ 1 then .unsupported
  else if fld 6 2 img ≠ 0x9680 ∨ len < 64 ∨ 16777216 < len ∨ len ≠ bufLen then .bad 0x01 0xFFF
  else if fld 28 4 img ≠ (crc32c (crcZeroed 28 (img.take len))).toNat then .bad 0x09 0xFFF
  else if fld 12 2 img = 0 ∨ 256 < fld 12 2 img ∨ fld 14 2 img = 0 ∨ fld 24 4 img ≠ 0 ∨ len < 32 + 16 * fld 12 2 img
       ∨ !noRepeat (ts.map (fun t => t.blk * 256 + t.kind)) then .bad 0x01 0xFFF
  else match ts.findSome? (entryFault len) with
    | some r => .bad r 0xFFF
    | none =>
      match sectionFault v ts with
      | some i => .bad 0x06 i
      | none =>
        match imageFault v with
        | some blk => .bad 0x06 (sectionOfBlock ts blk)
        | none => .good

/-! ## Version retention (R132) -/

/-- Conversions of a scan as nanoseconds (R270). -/
def scanNs (conv : List Byte) : Nat := scanConversions conv * 500

/-- S of R292: PERIOD_NS in PERIODIC, or the scan duration otherwise. -/
def convS (conv : List Byte) : Nat := if bits 2 1 (fld 0 1 conv) = 1 then fld 4 4 conv else scanNs conv

/-- t_VERSION_KEEP of a configuration, in ns (R132). -/
def versionKeepNs (v : View) : Nat :=
  let conv := (vall v 0x08 1).filter (fun e => bit 0 (fld 0 1 e.2))
  let convT := conv.map fun e =>
    if bit 3 (fld 0 1 e.2) then convS e.2 + 2000 else (fld 2 1 e.2 + 1) * convS e.2 + 2000
  let taskT := ((vall v 0x02 1).filter (fun e => bit 0 (fld 0 1 e.2) && !bit 1 (fld 0 1 e.2))).map fun e =>
    fld 12 4 e.2 + fld 10 2 e.2 * fld 12 4 e.2 / 4
  let pgmT := ((vall v 0x04 1).filter (fun e => bit 0 (fld 0 1 e.2))).map fun e => fld 16 4 e.2 * 1000
  let stT := ((vall v 0x0C 3).filter (fun e => bit 0 (fld 0 1 e.2))).map fun e => fld 12 4 e.2 + fld 20 4 e.2
  (convT ++ taskT ++ pgmT ++ stT).foldl max 2000000

/-- CFG_KEEP_US of a configuration: t_VERSION_KEEP in µs, rounded up and saturating. Rounding up is DEDUCED (log 9). -/
def keepUsOf (v : View) : Nat := sat 32 ((versionKeepNs v + 999) / 1000)

/-! ## Overlays (R113 to R117, R805, R806) -/

/-- The reserved fields of a patch entry are 0 (Table CFG-4, R3). -/
def patchClean (b : List Byte) : Bool := bits 7 5 (fld 0 1 b) == 0 && fld 1 1 b / 2 == 0 && fld 12 4 b == 0

/-- The first patch entry, by its index, with a reserved field that is not 0; the fuel is the number of entries. -/
def dirtyPatch : Nat → List Byte → Option Nat
  | 0, _ => none
  | n + 1, b => if patchClean b then (dirtyPatch n (b.drop (16 + fld 2 2 b))).map (· + 1) else some 0

/-- Patch entries from the bytes after the header; the fuel is the number of entries. -/
def parsePatches : Nat → List Byte → List Patch × Nat
  | 0, _ => ([], 0)
  | n + 1, b =>
    let len := fld 2 2 b
    let (ps, used) := parsePatches n (b.drop (16 + len))
    ({ blk := fld 0 1 b % 32, open_ := bit 0 (fld 1 1 b), obj := fld 4 4 b, kind := fld 8 2 b, off := fld 10 2 b,
       data := (b.drop 16).take len } :: ps, used + 16 + len)

/-- Two patches cover a common byte (R116). -/
def patchesOverlap (p q : Patch) : Bool :=
  p.blk == q.blk && p.kind == q.kind && p.obj == q.obj && p.off < q.off + q.data.length && q.off < p.off + p.data.length

/-- The first failing patch of an overlay: reason and patch index (R114, R116, R805). -/
def patchFault (s : Device) : List Patch → Nat → List Patch → Option (Nat × Nat)
  | _, _, [] => none
  | seen, i, p :: rest =>
    if !patchable p.blk p.kind then some (0x02, i)
    else match cfgObj s p.blk p.kind p.obj with
    | none => some (0x03, i)
    | some o =>
      let len := p.data.length
      if len < 4 ∨ 256 < len ∨ len % 4 ≠ 0 ∨ p.off % 4 ≠ 0 ∨ o.base.length < p.off + len then some (0x04, i)
      else if !fixedKept p.blk p.kind o.base (overwrite p.off p.data o.base) then some (0x05, i)
      else if !valuesOk (viewWith s (seen ++ [p])) p.blk p.kind p.obj
          (vrec (viewWith s (seen ++ [p])) p.blk p.kind p.obj) && rest.all (fun q => !(q.blk == p.blk && q.kind == p.kind && q.obj == p.obj))
        then some (0x06, i)
      else if seen.any (patchesOverlap p) then some (0x07, i)
      else patchFault s (seen ++ [p]) (i + 1) rest

/-- Parses an overlay that has passed its header checks. -/
def parseOverlay (b : List Byte) : Overlay :=
  { id := fld 12 4 b, baseCrc := BitVec.ofNat 32 (fld 16 4 b), length := fld 8 4 b,
    patches := (parsePatches (fld 6 2 b) (b.drop 32)).1 }

/-- The failure with the lower patch index; of two on one patch, its reserved fields come first (log 78). -/
def firstFault (dirty : Option Nat) (f : Option (Nat × Nat)) : Option (Nat × Nat) :=
  match dirty, f with
  | some i, some (r, j) => if j < i then some (r, j) else some (0x01, i)
  | some i, none => some (0x01, i)
  | none, f => f

/-- The checks of CFG_OVERLAY_LOAD in their order: reason and index of the first failure (R113, R116, R806). A fault of the
header, the CRC or BASE_CRC has no patch, and its index reads 0 (DESIGN CHOICE, log 78); so does LENGTH against BUF_LEN. -/
def overlayFault (s : Device) (b : List Byte) (bufLen : Nat) : Option (Nat × Nat) :=
  let len := fld 8 4 b
  let n := fld 6 2 b
  let (ps, used) := parsePatches n (b.drop 32)
  if fld 0 4 b ≠ 0x564F5A4B then some (0x01, 0)
  else if fld 4 2 b ≠ 1 then some (0x01, 0)
  else if len < 52 ∨ 65536 < len ∨ len ≠ bufLen ∨ len ≠ 32 + used then some (0x01, 0)
  else if fld 28 4 b ≠ (crc32c (crcZeroed 28 (b.take len))).toNat then some (0x09, 0)
  else if n = 0 ∨ 4096 < n ∨ fld 20 8 b ≠ 0 then some (0x01, 0)
  else if fld 16 4 b ≠ s.cfg.baseCrc.toNat then some (0x08, 0)
  else firstFault (dirtyPatch n (b.drop 32)) (patchFault s [] 0 ps)

/-- Free bytes of the 8 MiB overlay store (R117). -/
def storeFree (s : Device) : Nat := 8388608 - (s.cfg.overlays.map (fun e => e.2.length)).sum

/-- The slot is armed, or its arming is staging. -/
def slotArmed (s : Device) (n : Nat) : Bool :=
  s.cfg.armed.any (fun a => a.slot == n) || s.cfg.staging.any (fun g => g.slot == n)

/-! ## Overlay commands -/

/-- CFG_OVERLAY_LOAD (R116, R117, R118). -/
def overlayLoad (bad : List Nat) (p : Pend) (s : Device) : CmdEnd :=
  let d := p.desc
  let n := d.target.toNat
  checked [
    .when (511 < n) .notFound 0,
    .bad { bufMin := 1, bufMax := 65536 } [],
    .when (s.cfg.mode == .unconfigured || slotArmed s n) .rejectedState 0,
    .buffer]
    (fun p s =>
      match overlayFault s d.buf.bytes d.bufLen.toNat with
      | some (r, i) => contentFail n r i 16 s
      | none =>
        let o := parseOverlay d.buf.bytes
        let s' := { s with cfg.overlays := tdel s.cfg.overlays n }
        if storeFree s' < o.length then .fail .rejectedState (storeFree s) s
        else keepWrite bad (fun s =>
          let s := { s with cfg.overlays := tset s.cfg.overlays n o }
          syncOk (storeFree s) p s) s) p s

/-- CFG_OVERLAY_DELETE (R146). -/
def overlayDelete (bad : List Nat) (p : Pend) (s : Device) : CmdEnd :=
  let n := p.desc.target.toNat
  checked [
    .when (511 < n || (tfind s.cfg.overlays n).isNone) .notFound 0,
    .bad plain [],
    .when (slotArmed s n) .rejectedState 0]
    (fun p s => keepWrite bad (fun s =>
      let s := { s with cfg.overlays := tdel s.cfg.overlays n }
      syncOk (storeFree s) p s) s) p s

/-- A coefficient byte range of a loop record: K[0] to K[12] and their shifts (R198). -/
def coefBytes (b : List Byte) : List Byte := (b.drop 16).take 65

/-- The patches change a coefficient of a closed loop without OPEN_FOR_PATCH: the index of such a patch (R135, R805).
`before` and `after` are the configuration at the commit time without and with the overlay. -/
def closedCoef (before after : View) (ps : List Patch) : Option Nat :=
  ps.findIdx? fun p =>
    p.blk == 0x03 && p.kind == 1 && !p.open_ &&
    (let o := vrec before 0x03 1 p.obj
     let one := overwrite p.off p.data o
     coefBytes one != coefBytes o &&
     (fld 0 1 o % 8 == 4 || fld 0 1 (vrec after 0x03 1 p.obj) % 8 == 4))

/-- Superseded records of an object that would be kept within t_VERSION_KEEP of a new commit (R133). -/
def keptCount (s : Device) (ps : List Patch) (commit : STime) (o : CfgObj) : Nat :=
  let keep := usT s.cfg.keepUs
  let old := o.old.countP (fun r => commit < r.till + keep)
  let armedN := (waitingArms s).foldl (fun (a : Nat × List Byte) m =>
    let b := applyPatches m.patches o.blk o.kind o.obj a.2
    (if b ≠ a.2 ∧ commit < m.commit + keep then a.1 + 1 else a.1, b)) (0, o.cur)
  let last := applyPatches ps o.blk o.kind o.obj armedN.2
  old + armedN.1 + (if last ≠ armedN.2 then 1 else 0)

/-- Working time is locked: the selected domain is LOCKED (R489). -/
def timeLocked (s : Device) : Bool := s.tim.mode != .unset && (tget s.tim.domains s.tim.sel {}).locked

/-- The load of a view in its envelope: it needs more cores than it has, or is not schedulable (R44, R183). -/
def exceedsEnvelope (v : View) : Bool :=
  let e := modeEnvelope (vrec v 0x01 1 0)
  envCores e < coresNeeded v || (firstFailingSlot v (envLanes e) (clockQ e false)).isSome

/-- The checks that an arming makes on content and state after its lead time is known good: reason and patch
index. Their order is a DESIGN CHOICE (log 10); the conditions are R119, R123, R125, R126, R133, R135, R44, R183. -/
def armFault (s : Device) (o : Overlay) (commit : STime) (lock : Bool) : Option (Nat × Nat) :=
  let before := viewWith s []
  let after := viewWith s o.patches
  let latest := match (waitingArms s).getLast? with
    | some a => some a.commit
    | none => s.cfg.lastCommit
  if o.baseCrc ≠ s.cfg.baseCrc then some (0x08, 0)
  else if 8 ≤ (waitingArms s).length then some (0x0B, 0)
  else if latest.any (fun t => commit < t + usT 250) then some (0x0B, 0)
  else if s.tim.far || (lock && !timeLocked s) then some (0x0D, 0)
  else match o.patches.findIdx? (fun p => !valuesOk after p.blk p.kind p.obj (vrec after p.blk p.kind p.obj)) with
  | some i => some (0x06, i)
  | none =>
    if (imageFault after).isSome then some (0x06, 0)
    else match closedCoef before after o.patches with
    | some i => some (0x0A, i)
    | none =>
      if s.cfg.objs.any (fun c => 16 < keptCount s o.patches commit c) then some (0x0B, 0)
      else if exceedsEnvelope after then some (0x0C, 0)
      else none

/-- Commit time of CFG_OVERLAY_ARM: P0 nanoseconds, P1 and P2 seconds, low and high (Table CFG-7). -/
def armCommit (d : Desc) : STime := nsT (((d.p2.toNat * 2 ^ 32) + d.p1.toNat) * 1000000000 + d.p0.toNat)

/-- CFG_OVERLAY_ARM: binds the overlay and starts staging it (R119 to R126, R133, R135, R44). Armings from several rings may
stage together, and the earlier ones count as armed for the later ones' checks (DESIGN CHOICE, log 11). -/
def overlayArm (p : Pend) (s : Device) : CmdEnd :=
  let d := p.desc
  let n := d.target.toNat
  let commit := armCommit d
  checked [
    .when (511 < n || (tfind s.cfg.overlays n).isNone) .notFound 0,
    .bad { pmask := 0xF } [(1000000000 ≤ d.p0.toNat, 24), (1 < d.p3.toNat, 36)],
    .when (s.cfg.mode != .running || slotArmed s n) .rejectedState 0]
    (fun p s =>
      let o := tget s.cfg.overlays n {}
      if commit < nowS s + usT 200 then
        .fail .late 0 { s with cfg.lateArms := s.cfg.lateArms + 1 }
      else match armFault s o commit (bit 0 d.p3.toNat) with
      | some (r, i) => contentFail n r i 8 s
      | none => .wait { s with cfg.staging := s.cfg.staging ++ [{ slot := n, commit, recv := nowS s, pend := p }] }) p s

/-- The version above another, wrapping past 65,535 to 1 (R124). -/
def nextVersion (v : Nat) : Nat := if 65535 ≤ v then 1 else v + 1

/-- The latest armed version, or the version in force if none is armed (R124). -/
def latestVersion (s : Device) : Nat :=
  match s.cfg.armed.getLast? with
  | some a => a.version
  | none => s.cfg.version

/-- A staged arming takes effect (R120, R124, R147, R148). -/
def armNow (g : Staging) (s : Device) : Device :=
  let a := stagedArm s (nextVersion (latestVersion s)) g
  let s := { s with cfg.staging := s.cfg.staging.filter (fun x => x.slot != g.slot), cfg.armed := s.cfg.armed ++ [a] }
  let s := raise Ev.cfgArmed [(2, a.slot), (2, a.version), lo32 (nsLow a.commit)] s
  finish g.pend .ok a.version [] s

/-- The guard before a commit time has begun (R122). -/
def pastGuard (s : Device) (g : Staging) : Bool := decide (g.commit ≤ nowS s + usT 20)

/-- OVERLAY_STAGING_DONE: the oldest staging has finished and its arming record stands in the Keep, so the arming takes
effect, in a pair with a SYNCED standby once that has acknowledged it (R120, R634). Past the guard it can only time out
(R122). -/
def stagingDone (s : Device) : Device :=
  match s.cfg.staging with
  | [] => s
  | g :: rest =>
    if pastGuard s g || g.seq.isSome then s
    else if s.pai.synced then
      let a := stagedArm s (nextVersion (latestVersion s)) g
      let (q, s) := shipUpdate (addArmed a (persistCfg s)) .update s
      { s with cfg.staging := { g with seq := some q } :: rest }
    else armNow g s

/-- STAGE_GUARD_TIMEOUT (R122): an arming unfinished 20 µs before its commit time completes with TIMEOUT and its staged
values are withdrawn, at a SYNCED standby that has been sent its record too. -/
def stageGuard (s : Device) : Device :=
  let late := s.cfg.staging.filter (pastGuard s)
  let s := { s with cfg.staging := s.cfg.staging.filter (fun g => !pastGuard s g) }
  let s := if late.any (·.seq.isSome) && s.pai.synced then (shipUpdate (persistCfg s) .update s).2 else s
  late.foldl (fun s g => finish g.pend .timeout 0 [] s) s

/-- CFG_OVERLAY_DISARM (R127). -/
def overlayDisarm (p : Pend) (s : Device) : CmdEnd :=
  let n := p.desc.target.toNat
  checked [
    .bad plain [],
    .when (!(s.cfg.armed.getLast?.any (fun a => a.slot == n))) .rejectedState 0]
    (fun p s =>
      match s.cfg.armed.getLast? with
      | none => .fail .rejectedState 0 s
      | some a =>
        if a.commit < nowS s + usT 50 then .fail .late 0 s
        else syncOk a.version p (raise Ev.cfgDisarmed [(2, n), (2, a.version)]
          { s with cfg.armed := s.cfg.armed.dropLast })) p s

/-- The record of an object under a configuration version: 0 is the one in force; an armed version gives its staged
record; a superseded one is given while it is kept (R132, R146). Answers the version with it. -/
def recOfVersion (s : Device) (o : CfgObj) (v : Nat) : Option (Nat × List Byte) :=
  if v = 0 ∨ v = versionAt s (nowS s) then some (versionAt s (nowS s), recNow s o.blk o.kind o.obj)
  else match s.cfg.armed.find? (fun a => a.version == v) with
  | some a => (recAt s o.blk o.kind o.obj a.commit).map (fun b => (v, b))
  | none =>
    match s.cfg.history.find? (fun h => h.2 == v) with
    | some h => (keptAt o h.1).map (fun b => (v, b))
    | none => if v = s.cfg.baseVersion then (keptAt o 0).map (fun b => (v, b)) else none

/-- CFG_READ_RECORD (R146). -/
def readRecord (p : Pend) (s : Device) : CmdEnd :=
  let d := p.desc
  let o := cfgObj s d.p0.toNat d.p1.toNat d.target.toNat
  let got := o.bind (fun o => recOfVersion s o d.p2.toNat)
  let size := (o.map (·.base.length)).getD 0
  checked [
    .when got.isNone .notFound 0,
    .bad { pmask := 7, bufMin := size, bufMax := 16777216 } []]
    (fun _ s => match got with
      | some (v, b) => okBuf v b s
      | none => .fail .notFound 0 s) p s

/-- VERSION_RECORD_EXPIRY: superseded records are dropped t_VERSION_KEEP after the commit that superseded them
(R132). -/
def recordExpiry (s : Device) : Device :=
  { s with cfg.objs := s.cfg.objs.map fun o =>
      { o with old := o.old.filter (fun r => nowD s < r.till + usT s.cfg.keepUs) } }

/-- One object across a commit: a changed record supersedes the one it held (R128, R132). -/
def commitObj (a : Armed) (o : CfgObj) : CfgObj :=
  let b := applyPatches a.patches o.blk o.kind o.obj o.cur
  if b = o.cur then o
  else { o with cur := b, since := a.commit,
                old := ({ since := o.since, till := a.commit, bytes := o.cur } :: o.old).take 16 }

/-- The CFG side of a commit: the version and the records of the earliest armed overlay come into force (R128, R145,
R148). -/
def commitCfg (a : Armed) (s : Device) : Device :=
  let s := { s with
    cfg.objs := s.cfg.objs.map (commitObj a)
    cfg.armed := s.cfg.armed.drop 1
    cfg.version := a.version
    cfg.history := (a.commit, a.version) :: s.cfg.history
    cfg.lastCommit := some a.commit }
  let s := { s with cfg.keepUs := keepUsOf (viewNow s) }
  let s := raiseAt a.commit Ev.cfgCommitted (packFields 8 [(2, a.version), (4, a.id)]) s
  if s.tim.far then raiseAt a.commit Ev.cfgCommitUnlocked (packFields 8 [(2, a.version)]) s else s

/-- CFG enters a state and reports it (R111, R148). -/
def cfgState (m : CfgMode) (s : Device) : Device :=
  let c := fun (m : CfgMode) => match m with | .unconfigured => 0 | .loaded => 1 | .running => 2
  raise Ev.cfgState [(1, c s.cfg.mode), (1, c m)] { s with cfg.mode := m }

/-! ## The rows of the table of operations -/

/-- CFG_OVERLAY_LOAD (R116): Checks an overlay in full and stores it in a slot. -/
def execCfgOverlayLoad (d : Desc) (s : State) : Host.Outcome State Fault Refusal :=
  .next { s with dev := runCmd (overlayLoad d.bad) d s.dev }

/-- CFG_OVERLAY_ARM (R120): Binds a resident overlay to a commit time and starts staging it. -/
def execCfgOverlayArm (d : Desc) (s : State) : Host.Outcome State Fault Refusal :=
  .next { s with dev := runCmd overlayArm d s.dev }

/-- OVERLAY_STAGING_DONE (R120): Staging has finished in every unit and the arming record is in the Keep (and
acknowledged by a synced peer), so the arming takes effect. -/
def execOverlayStagingDone (s : State) : Host.Outcome State Fault Refusal :=
  .next { s with dev := stagingDone s.dev }

/-- STAGE_GUARD_TIMEOUT (R122): Staging unfinished t_STAGE_GUARD before the commit time completes the arming
with TIMEOUT and withdraws the staged values. -/
def execStageGuardTimeout (s : State) : Host.Outcome State Fault Refusal :=
  .next { s with dev := stageGuard s.dev }

/-- CFG_OVERLAY_DISARM (R127): Withdraws the latest armed overlay unless its commit time is too close. -/
def execCfgOverlayDisarm (d : Desc) (s : State) : Host.Outcome State Fault Refusal :=
  .next { s with dev := runCmd overlayDisarm d s.dev }

/-- CFG_OVERLAY_DELETE (R146): Frees an unarmed overlay slot. -/
def execCfgOverlayDelete (d : Desc) (s : State) : Host.Outcome State Fault Refusal :=
  .next { s with dev := runCmd (overlayDelete d.bad) d s.dev }

/-- CFG_READ_RECORD (R146): Copies a configuration record of a given version to the host buffer. -/
def execCfgReadRecord (d : Desc) (s : State) : Host.Outcome State Fault Refusal :=
  .next { s with dev := runCmd readRecord d s.dev }

/-- VERSION_RECORD_EXPIRY (R132): A superseded record is dropped t_VERSION_KEEP after the commit that superseded
it. -/
def execVersionRecordExpiry (s : State) : Host.Outcome State Fault Refusal :=
  .next { s with dev := recordExpiry s.dev }

end Sys2Proof.Machine
end

