-- ==== Sys2Proof/Machine/Frames.lean ====
section
/-!
DEFINITION. Machine/Frames.lean: Ethernet frames and transmit FIFOs: tags, trailers, shapers and gates
(11_ethernet_nelzer, R432 to R446).
-/
namespace Sys2Proof.Machine

/-- The `n` low bytes of `v`, most significant first: the byte order of Ethernet and time-message fields. -/
def be (n v : Nat) : List Byte := (le n v).reverse

/-- The number that a big-endian byte string spells. -/
def unbe (bs : List Byte) : Nat := unle bs.reverse

/-- The big-endian `n`-byte field at byte `off`. -/
def fldBe (off n : Nat) (bs : List Byte) : Nat := unbe ((bs.drop off).take n)

def eportOf (s : Device) (p : Nat) : EthPort := tget s.eth.ports p {}
def modEport (p : Nat) (f : EthPort → EthPort) (s : Device) : Device :=
  { s with eth.ports := tset s.eth.ports p (f (eportOf s p)) }

/-- One traffic class of a port. -/
def classOf (s : Device) (p c : Nat) : EthClass := tget (eportOf s p).classes c {}
def modClass (p c : Nat) (f : EthClass → EthClass) (s : Device) : Device :=
  modEport p (fun q => { q with classes := tmod q.classes c {} f }) s

/-- The record of a port, the global record, and the port's MAC address. -/
def ethRec (s : Device) (p : Nat) : List Byte := recNow s 0x0C 1 p
def ethGlobal (s : Device) : List Byte := recNow s 0x0C 0 0
def portMac (s : Device) (p : Nat) : List Byte := padTo 6 ((ethRec s p).drop 2)

/-- The port is the even port of a PRP pair, or one of its two ports (R445). -/
def prpPair (s : Device) (p : Nat) : Bool := bit 4 (fld 0 1 (ethRec s (p / 2 * 2)))

/-- Rate of a port's link in kb/s. -/
def linkRate (s : Device) (p : Nat) : Nat := portRate (fld 0 1 (ethRec s p))

/-- Time from the SFD to the last bit of a frame of `n` bytes with its FCS, and the time its preamble and gap add. -/
def txTime (s : Device) (p n : Nat) : STime := (max 64 (n + 4)) * 8 * 256000000 / max 1 (linkRate s p)
def gapTime (s : Device) (p : Nat) : STime := 20 * 8 * 256000000 / max 1 (linkRate s p)

/-! ## Gates (R440, R441) -/

/-- The entries of the running gate cycle, as gate bits and interval in 1/256 ns; none when every gate stays open. -/
def gateEntries (s : Device) (p : Nat) : List (Nat × Nat) :=
  let b := (recAt s 0x0C 2 p (eportOf s p).gateAt).getD (recNow s 0x0C 2 p)
  (List.range (fld 8 2 b)).map fun i => (fld (16 + 8 * i) 1 b, nsT (fld (16 + 8 * i + 4) 4 b))

/-- How long the gate of class `c` stays open from the start of a list of entries. -/
def openLead (c : Nat) : List (Nat × Nat) → Nat
  | [] => 0
  | (g, d) :: rest => if bit c g then d + openLead c rest else 0

/-- How long the gate of class `c` stays open from offset `off`; 0 while it is closed. -/
def openFrom (c : Nat) : List (Nat × Nat) → Nat → Nat
  | [], _ => 0
  | (g, d) :: rest, off =>
    if d ≤ off then openFrom c rest (off - d) else if bit c g then d - off + openLead c rest else 0

/-- The longest open interval of class `c`. -/
def longestOpen (c : Nat) : List (Nat × Nat) → Nat
  | [] => 0
  | e :: rest => max (openLead c (e :: rest)) (longestOpen c rest)

/-- A frame of the given duration started now would end before the gate of its class closes. -/
def gateAllows (s : Device) (p c : Nat) (dur : Nat) : Bool :=
  let es := gateEntries s p
  es.isEmpty ||
    (let cyc := (es.map (·.2)).sum
     let off := if cyc = 0 then 0 else (nowS s - (eportOf s p).gateAt) % cyc
     dur ≤ openFrom c (es ++ es ++ es) off)

/-- A frame of the given duration fits no open interval of its class. -/
def gateNever (s : Device) (p c : Nat) (dur : Nat) : Bool :=
  let es := gateEntries s p
  !es.isEmpty && longestOpen c (es ++ es) < dur

/-! ## Shaper (R439) -/

/-- IDLE_SLOPE of a class, kb/s. -/
def idleSlope (s : Device) (p c : Nat) : Nat := fld (32 + 4 * c) 4 (ethRec s p)

/-- The credit of a class brought up to now: it rises at idleSlope, and above 0 only while frames wait. -/
def creditNow (s : Device) (p c : Nat) : Int :=
  let q := classOf s p c
  let cr := q.credit + ((idleSlope s p c * ((nowS s - q.creditAt) / 256) : Nat) : Int)
  if q.fifo.isEmpty then min 0 cr else cr

def creditUpdate (p c : Nat) (s : Device) : Device :=
  let cr := creditNow s p c
  modClass p c (fun q => { q with credit := cr, creditAt := max q.creditAt (nowS s) }) s

/-! ## FIFOs -/

/-- Drops the frames that reach the head of a FIFO too late for their launch time or too long for their gate
(R441, R443). -/
def settleHead (p c : Nat) (s : Device) : List QFrame → Device
  | [] => modClass p c (fun q => { q with fifo := [] }) s
  | f :: rest =>
    if f.launch ≠ 0 ∧ f.launch + usT 1 < nowS s then
      settleHead p c (raise Ev.ethLateLaunch [(1, p), (1, c)]
        (modEport p (fun q => { q with late := q.late + 1 }) s)) rest
    else if gateNever s p c (txTime s p f.bytes.length) then
      settleHead p c (modEport p (fun q => { q with gateDrop := q.gateDrop + 1 }) s) rest
    else modClass p c (fun q => { q with fifo := f :: rest }) s

/-- A frame enters the FIFO of a class (R437). -/
def enqueueFrame (p c : Nat) (f : QFrame) (s : Device) : Device :=
  let s := creditUpdate p c s
  let q := (classOf s p c).fifo
  if q.isEmpty then settleHead p c s [f] else modClass p c (fun k => { k with fifo := k.fifo ++ [f] }) s

/-- A class may send its head frame now (R439, R441, R442). -/
def canLaunch (s : Device) (p c : Nat) : Bool :=
  match (classOf s p c).fifo with
  | [] => false
  | f :: _ => f.launch ≤ nowS s && 0 ≤ creditNow s p c && gateAllows s p c (txTime s p f.bytes.length)

/-! ## Tags and trailers -/

/-- A C-tag, or nothing where VID is 0 (R448). -/
def vlanTag (pcp vid : Nat) : List Byte := if vid = 0 then [] else be 2 0x8100 ++ be 2 (pcp * 8192 + vid)

/-- A frame carries a C-tag; its EtherType; the offset of what follows the EtherType. -/
def tagged (b : List Byte) : Bool := fldBe 12 2 b == 0x8100
def etherType (b : List Byte) : Nat := if tagged b then fldBe 16 2 b else fldBe 12 2 b
def bodyAt (b : List Byte) : Nat := if tagged b then 18 else 14

/-- The PRP redundancy control trailer: sequence number, LAN, size and suffix. The layout is that of IEC 62439-3,
which the spec names (PRESUMED, log 19). -/
def prpTrailer (b : List Byte) (seq : Nat) (lanB : Bool) : List Byte :=
  be 2 seq ++ be 2 ((if lanB then 0xB else 0xA) * 4096 + (b.length - bodyAt b + 6) % 4096) ++ be 2 0x88FB

/-- The copy of a frame for one LAN: padded to the shortest frame and with its trailer (R445). -/
def prpCopy (f : QFrame) (seq lan : Nat) : QFrame :=
  let b := padTo (max 54 f.bytes.length) f.bytes
  { f with bytes := b ++ prpTrailer b seq (lan == 1) }

/-- Queues a Nelzer or safe frame: on both ports of a PRP pair, with one sequence number, or on its port (R445).
`build` gives the frame for a LAN. -/
def queuePair (p c : Nat) (both : Bool) (build : Nat → QFrame) (s : Device) : Device :=
  if both then
    let e := p / 2 * 2
    let seq := (eportOf s e).prpSeq
    let copy := fun (lan : Nat) => prpCopy (build lan) seq lan
    let s := modEport e (fun q => { q with prpSeq := (q.prpSeq + 1) % 65536 }) s
    enqueueFrame (e + 1) c (copy 1) (enqueueFrame e c (copy 0) s)
  else enqueueFrame p c (build 0) s

end Sys2Proof.Machine
end

