-- ==== Sys2Proof/Machine/Tim.lean ====
section
/-!
DEFINITION. Machine/Tim.lean: working time, network time and the trigger table (12_time). Message layouts are those of
IEEE 1588-2019 and IEEE 802.1AS-2020, which the spec names (PRESUMED, log 22).
-/
namespace Sys2Proof.Machine

def domOf (s : Device) (d : Nat) : TimDomain := tget s.tim.domains d {}
def modDom (d : Nat) (f : TimDomain → TimDomain) (s : Device) : Device :=
  { s with tim.domains := tset s.tim.domains d (f (domOf s d)) }

/-! ## Records (R505) -/

def timRec (s : Device) : List Byte := recNow s 0x0B 0 0
def domRec (s : Device) (d : Nat) : List Byte := recNow s 0x0B 1 d

/-- A field of the TIM record, or its default where no record is loaded. -/
def timField (s : Device) (off dflt : Nat) : Nat := if timRec s = [] then dflt else fld off 4 (timRec s)

def farNs (s : Device) : Nat := timField s 4 1000000
def lockNs (s : Device) : Nat := timField s 8 100
def tcMs (s : Device) : Nat := timField s 12 2000
def slewPpb (s : Device) : Nat := timField s 16 100000
def lossMs (s : Device) : Nat := timField s 20 3000
def freePpb (s : Device) : Int := sfld 24 4 (timRec s)
def selAuto (s : Device) : Bool := bit 1 (fld 0 1 (timRec s))
def utcDomain (s : Device) : Bool := bit 2 (fld 0 1 (timRec s))

def domKind (s : Device) (d : Nat) : Nat := fld 0 1 (domRec s d)
def domMaster (s : Device) (d : Nat) : Bool := fld 1 1 (domRec s d) == 1
def domPorts (s : Device) (d : Nat) : List Nat := (List.range 8).filter (fun p => bit p (fld 3 1 (domRec s d)))

/-- The domain is measured (R491). -/
def domSlave (s : Device) (d : Nat) : Bool := d < 2 && domKind s d != 0 && !domMaster s d

/-- RATE of a rate in ppb given as a fraction, held within ±858,993 (R473). -/
def rateOf (num : Int) (den : Nat) : Int :=
  clampI (-858993) 858993 (roundQuot (num * 4294967296) (den * 1000000000 : Nat))

/-! ## States (Table TIM-1) -/

/-- The domain is VALID (R491). -/
def domValid (s : Device) (d : Nat) : Bool :=
  domSlave s d && (domOf s d).lastValid.any (fun c => s.tim.ck < c + lossMs s * 1000000)

/-- The domain leaves LOCKED; working time does so with it when the domain is selected (R489). -/
def unlockDomain (d : Nat) (s : Device) : Device :=
  let q := domOf s d
  let s := modDom d (fun q => { q with locked := false, good := 0 }) s
  if q.locked && s.tim.sel == d && s.tim.mode == .locked then
    raise Ev.timeUnlocked [(1, d), sgn 4 q.o] { s with tim.mode := .tracking }
  else s

/-- TIME_FAR of the selected domain (R490). -/
def farCheck (d : Nat) (s : Device) : Device :=
  let o := (domOf s d).o
  if s.tim.mode == .unset || s.tim.sel != d then s
  else if !s.tim.far && farNs s < o.natAbs then
    unlockDomain d (raise Ev.timeFar [(1, d), sgn 4 o] { s with tim.far := true })
  else if s.tim.far && 2 * o.natAbs ≤ farNs s then raise Ev.timeNear [(1, d)] { s with tim.far := false }
  else s

/-- The state of working time by the lock of the selected domain, after a measurement or a selection (R478, R489,
R494). -/
def followState (d : Nat) (s : Device) : Device :=
  let lk := (domOf s d).locked
  match s.tim.mode with
  | .holdover => { s with tim.mode := if lk then .locked else .tracking }
  | .tracking => if lk then raise Ev.timeLocked [(1, d)] { s with tim.mode := .locked } else s
  | _ => s

/-- A selection of a domain, or of none (R493): a domain that is LOCKED already makes working time LOCKED at once
(R489). -/
def followSelection (old new : Nat) (s : Device) : Device :=
  if old == new || s.tim.mode == .unset then s
  else if new = 2 then { s with tim.mode := .free, tim.nextFree := some (freePpb s) }
  else
    let s := { s with tim.mode := .tracking }
    followState new (if (domOf s new).lastValid.isSome && !s.tim.far then farCheck new s else s)

/-- TIME_DOMAIN_SWITCH and what follows from the selection (R493). -/
def selectDomain (new cause : Nat) (s : Device) : Device :=
  followSelection s.tim.sel new
    (raise Ev.timeDomainSwitch [(1, s.tim.sel), (1, new), (1, cause)] { s with tim.sel := new })

/-- Whole ns of the Dome counter as an integer. -/
def domeNs (s : Device) : Nat := s.tim.dome / 4294967296

/-! ## The counter (R473 to R480) -/

/-- Working time takes its step: TIM_STEP_NS, TIM_STEPS and the state (R478, R480). What is scheduled falls at its
boundaries after the step (R477): the trigger entries count from it, and PPS_OUT rises at the whole seconds after it. -/
def stepped (step cause : Nat) (s : Device) : Device :=
  let s := { s with
    tim.stepNs := step, tim.steps := s.tim.steps + 1, tim.ppsFrom := domeNs s
    tim.trigs := tmap s.tim.trigs (fun _ e => { e with from_ := nowD s, last := none })
    tim.mode := if s.tim.sel = 2 then .free else .tracking
    tim.nextFree := if s.tim.sel = 2 then some (freePpb s) else s.tim.nextFree }
  raise Ev.timeStepped [lo32 step, (1, cause)] s

/-- The step of TIM_SET_TIME at a strobe (R480, R481, R484). -/
def setTimeStep (g : SetTime) (s : Device) : Device :=
  let s := { s with tim.setTime := none }
  let target : Int := match g.step with
    | some n => s.tim.dome + n * 4294967296
    | none => (g.given % 2 ^ 64 : Nat) * 4294967296
  if s.tim.mode != .unset then finish g.pend .rejectedState 0 [] s
  else if target < s.tim.dome then finish g.pend .late 0 [] s
  else
    let step := (target.toNat - s.tim.dome) / 4294967296
    finish g.pend .ok (step % 4294967296) [] (stepped step 1 { s with tim.dome := target.toNat })

/-- The steps due at a strobe: the domain's, then TIM_SET_TIME's (R480). -/
def strobeSteps (s : Device) : Device :=
  let s : Device := match s.tim.nextStep with
    | some (n, cause) => if s.tim.mode == .unset then
        stepped n cause { s with tim.dome := s.tim.dome + n * 4294967296, tim.nextStep := none }
        else { s with tim.nextStep := none }
    | none => s
  match s.tim.setTime with
  | some g => if g.pps then s else setTimeStep g s
  | none => s

/-- RATE in force from a strobe (R475, R479). -/
def strobeRate (s : Device) : Device :=
  let free := s.tim.mode == .unset || s.tim.mode == .free
  let s := match s.tim.nextRate with
    | some r => { s with tim.rate := r, tim.nextRate := none }
    | none => s
  match s.tim.nextFree with
  | some f => { s with tim.rate := if free then rateOf f 1 else s.tim.rate, tim.nextFree := none }
  | none => s

/-- The copy is compared with the Dome counter and set equal to it; the first strobe after link training only sets it
(R475, R496). -/
def strobeCopy (s : Device) : Device :=
  if !s.btr.linkUp then s
  else
    let diff := if s.tim.spire < s.tim.dome then s.tim.dome - s.tim.spire else s.tim.spire - s.tim.dome
    let bad := s.tim.copySet && 4294967296 < diff
    let s := { s with tim.spire := s.tim.dome, tim.copySet := true }
    if bad then raise Ev.timeCopyFault [(4, diff / 4294967296)] { s with tim.copyErr := s.tim.copyErr + 1 } else s

/-- ALIGNMENT_STROBE (R475, R480), due every 2²⁰ CK_TIME cycles. -/
def alignmentStrobe (s : Device) : Device :=
  if s.tim.ck / 1048576 ≤ s.tim.lastStrobe / 1048576 then s
  else
    let s := strobeRate (strobeSteps (strobeCopy { s with tim.lastStrobe := s.tim.ck }))
    if s.btr.linkUp then { s with tim.spire := s.tim.dome } else s

/-- What the Dome die does when the Spire die goes down (R496). UNSET and FREE follow no domain and stay. -/
def timSpireDown (s : Device) : Device :=
  let drop := fun (d : Nat) (s : Device) =>
    modDom d (fun q => { q with wasLocked := q.locked, locked := false, good := 0 }) s
  let s := { drop 1 (drop 0 s) with tim.copySet := false }
  if s.tim.mode == .tracking || s.tim.mode == .locked || s.tim.mode == .holdover then
    let t := { s with tim.mode := .holdover, tim.nextRate := some (rateOf s.tim.rateFf 1) }
    if s.tim.mode == .holdover then t else raise Ev.timeHoldover [(1, s.tim.sel), (1, 1)] t
  else s

/-! ## Measurements (R486 to R494) -/

/-- ff from the measurements kept, newest first: the rate of domain time against the uncorrected count between the
oldest and the newest, in ppb (R487; DEDUCED, log 23). -/
def estimateFf (h : List (Nat × Int)) : Int :=
  match h, h.getLast? with
  | (c1, t1) :: _, some (c0, t0) =>
    if c1 ≤ c0 then 0 else roundQuot ((t1 - t0 - (c1 - c0 : Nat)) * 1000000000) (c1 - c0 : Nat)
  | _, _ => 0

/-- The servo (R488). -/
def timServo (d : Nat) (s : Device) : Device :=
  let q := domOf s d
  let tc := tcMs s
  let lim : Int := (slewPpb s * tc : Nat)
  let total := q.ff * tc + clampI (-lim) lim (-q.o * 1000)
  let cap : Int := (200000 * tc : Nat)
  let fast := cap < (total.natAbs : Int)
  let s := if fast && !s.tim.limited then raise Ev.timeRateLimit [sgn 4 (roundQuot total tc)] s else s
  { s with tim.limited := fast, tim.rateFf := q.ff, tim.nextRate := some (rateOf (clampI (-cap) cap total) tc) }

/-- Lock of a domain after a measurement (R489, R496). -/
def lockCheck (d : Nat) (s : Device) : Device :=
  let q := domOf s d
  let at_ := q.wasLocked && q.o.natAbs ≤ lockNs s
  let s := modDom d (fun q => { q with wasLocked := false }) s
  if q.locked then (if 4 ≤ q.bad then unlockDomain d s else s)
  else if 8 ≤ q.good || at_ then modDom d (fun q => { q with locked := true }) s
  else s

/-- The step of UNSET is found when four consecutive offsets agree within 1 µs, unless one is due at the next strobe
already (R480, R481). -/
def findStep (d : Nat) (s : Device) : Device :=
  let a := (domOf s d).agree
  match a with
  | o :: _ =>
    if a.length < 4 || a.any (fun x => a.any (fun y => 1000 < x - y)) then s
    else if 0 < o then raise Ev.timeStepRefused [(1, d), (4, o.toNat)] s
    else if s.tim.nextStep.isSome || s.tim.setTime.any (fun g => !g.pps) then s
    else { s with tim.nextStep := some ((-o).toNat, 0) }
  | [] => s

/-- A valid measurement of domain `d` with offset `o` at uncorrected count `ck` (R486 to R494). -/
def measure (d : Nat) (o domTime : Int) (ck : Nat) (pps : Bool) (s : Device) : Device :=
  let near := o.natAbs ≤ lockNs s
  let beyond := 2 * lockNs s < o.natAbs
  let s := modDom d (fun q =>
    let h := ((ck, domTime) :: q.hist).take 8
    { q with o, ff := if h.length < 2 then q.ff else estimateFf h, hist := h, meas := q.meas + 1, lastValid := some ck,
             good := if near then min 8 (q.good + 1) else 0, bad := if beyond then min 4 (q.bad + 1) else 0,
             agree := if pps then [] else (o :: q.agree).take 4 }) s
  let s := if s.tim.mode == .holdover && selAuto s && s.tim.sel == 1 - d then selectDomain d 1 s else s
  if s.tim.sel != d then lockCheck d s
  else if s.tim.mode == .unset then findStep d (lockCheck d s)
  else timServo d (followState d (lockCheck d (farCheck d s)))

/-- DOMAIN_LOSS_TIMEOUT (R489, R492). -/
def domainLoss (d : Nat) (s : Device) : Device :=
  if !domSlave s d || domValid s d || s.tim.ck < lossMs s * 1000000 then s
  else
    let s := unlockDomain d s
    if s.tim.sel != d || !(s.tim.mode == .tracking || s.tim.mode == .locked) then s
    else if selAuto s && domValid s (1 - d) then selectDomain (1 - d) 1 s
    else raise Ev.timeHoldover [(1, d), (1, 0)]
      { s with tim.mode := .holdover, tim.nextRate := some (rateOf (domOf s d).ff 1), tim.rateFf := (domOf s d).ff }

/-! ## Time messages -/

/-- Types of message. -/
abbrev ptpSync : Nat := 0
abbrev ptpDelayReq : Nat := 1
abbrev ptpPdelayReq : Nat := 2
abbrev ptpPdelayResp : Nat := 3
abbrev ptpFollowUp : Nat := 8
abbrev ptpDelayResp : Nat := 9
abbrev ptpPdelayFu : Nat := 10
abbrev ptpAnnounce : Nat := 11

/-- clockIdentity and portIdentity of a port. -/
def clockId (s : Device) (p : Nat) : List Byte :=
  (portMac s p).take 3 ++ [0xFF#8, 0xFE#8] ++ (portMac s p).drop 3
def portId (s : Device) (p : Nat) : List Byte := clockId s p ++ be 2 (p + 1)

/-- A time stamp of 48 bits of seconds and 32 bits of nanoseconds. -/
def ptpStamp (ns : Nat) : List Byte := be 6 (ns / 1000000000) ++ be 4 (ns % 1000000000)

/-- The message of a received frame. -/
def ptpOf (f : RxFrame) : List Byte := f.bytes.drop (bodyAt f.bytes)
def ptpType (f : RxFrame) : Nat := fld 0 1 (ptpOf f) % 16
def ptpGptp (f : RxFrame) : Bool := fld 0 1 (ptpOf f) / 16 == 1
def ptpTwoStep (f : RxFrame) : Bool := bit 1 (fld 6 1 (ptpOf f))
def ptpSeq (f : RxFrame) : Nat := fldBe 30 2 (ptpOf f)
def ptpSource (f : RxFrame) : List Byte := ((ptpOf f).drop 20).take 10
/-- correctionField in ns, and the time stamp of the body in ns. -/
def ptpCorr (f : RxFrame) : Int := signed 64 (fldBe 8 8 (ptpOf f)) / 65536
def ptpTime (f : RxFrame) : Int := (fldBe 34 6 (ptpOf f) * 1000000000 + fldBe 40 4 (ptpOf f) : Nat)
def ptpRequester (f : RxFrame) : List Byte := ((ptpOf f).drop 44).take 10

/-- Messages that TIM takes: those of Table TIM-3; the others are received and discarded (R497). -/
def ptpTaken (f : RxFrame) : Bool :=
  [ptpSync, ptpPdelayReq, ptpPdelayResp, ptpFollowUp, ptpDelayResp, ptpPdelayFu, ptpAnnounce].contains (ptpType f)

/-- A received message belongs to domain `d`: its kind, its domainNumber and a port in PORTS (R486). -/
def forDomain (s : Device) (d : Nat) (f : RxFrame) : Bool :=
  let k := domKind s d
  k != 0 && k != 4 && ptpGptp f == (k == 3) && fld 4 1 (ptpOf f) == fld 2 1 (domRec s d) &&
  (domPorts s d).contains f.port

/-- A message of the device: header and body. -/
def ptpMessage (s : Device) (p d typ seq : Nat) (flags : Nat) (logInt : Int) (body : List Byte) : List Byte :=
  le 1 ((if domKind s d = 3 then 16 else 0) + typ) ++ le 1 0x12 ++ be 2 (34 + body.length) ++
  le 1 (fld 2 1 (domRec s d)) ++ le 1 0 ++ be 2 flags ++ be 8 0 ++ be 4 0 ++ portId s p ++ be 2 seq ++
  le 1 (if typ = 0 then 0 else if typ = 1 then 1 else if typ = 8 then 2 else 5) ++ le 1 (wrapInt 8 logInt) ++ body

/-- The frame that carries a message. -/
def ptpFrame (s : Device) (p d typ : Nat) (msg : List Byte) : List Byte :=
  let peer := domKind s d = 3 || [ptpPdelayReq, ptpPdelayResp, ptpPdelayFu].contains typ
  (if peer then be 6 0x0180C200000E else be 6 0x011B19000000) ++ portMac s p ++ be 2 0x88F7 ++ msg

/-- A message joins TIM's queue of 8 on a port, in the domain's traffic class, or is dropped (R499). -/
def sendTime (p d typ seq flags : Nat) (logInt : Int) (body : List Byte) (s : Device) : Device :=
  let c := fld 4 1 (domRec s d) % 8
  let waiting : Nat := ((eportOf s p).classes.map (fun e => e.2.fifo.countP (fun f => match f.tag with
    | .tim _ _ _ => true
    | _ => false))).sum
  if 8 ≤ waiting then { s with tim.txDrop := s.tim.txDrop + 1 }
  else enqueueFrame p c
    { bytes := ptpFrame s p d typ (ptpMessage s p d typ seq flags logInt body), tag := .tim d typ seq } s

/-- A message has left at working time `t`: event messages are stamped, and the follow-up of a Sync or a Pdelay_Resp
is sent (R497, R499). -/
def timLaunched (p d typ seq : Nat) (f : List Byte) (t : STime) (s : Device) : Device :=
  let ns := t / 256 + Config.egressNs p
  let ls := sfld 5 1 (domRec s d)
  if typ = ptpSync then
    sendTime p d ptpFollowUp seq 0 ls (ptpStamp ns ++ (if domKind s d = 3 then
      be 2 3 ++ be 2 28 ++ be 3 0x0080C2 ++ be 3 1 ++ List.replicate 22 0#8 else [])) s
  else if typ = ptpDelayReq then modDom d (fun q => { q with delayReq := some (seq, nsT ns) }) s
  else if typ = ptpPdelayReq then
    modDom d (fun q => { q with pdelay := q.pdelay.filter (fun x => x.port != p) ++ [⟨p, seq, nsT ns⟩] }) s
  else if typ = ptpPdelayResp then
    sendTime p d ptpPdelayFu seq 0 0x7F (ptpStamp ns ++ (f.drop (14 + 44)).take 10) s
  else s

/-- Takes the oldest received message that meets a test. -/
def takeTime (t : RxFrame → Bool) (s : Device) : Option RxFrame × Device :=
  (s.tim.rx.find? t, { s with tim.rx := s.tim.rx.eraseP t })

/-- sequenceId `b` is later than `a`. -/
def seqLater (a : Option Nat) (b : Nat) : Bool := a.all (fun a => 0 < (b + 65536 - a) % 65536 && (b + 65536 - a) % 65536 < 32768)

/-- Receipt time of a message in ns, its ingress latency taken off (R486). -/
def rxNs (f : RxFrame) : Int := (f.at_ / 256 : Nat) - (Config.ingressNs f.port : Nat)

/-- A Sync with its origin time (R486, R497). -/
def useSync (d : Nat) (f : RxFrame) (origin corr : Int) (s : Device) : Device :=
  if !domSlave s d || !seqLater (domOf s d).lastSeq (ptpSeq f) then s
  else
    let diff := rxNs f - origin - corr
    let o := diff - (domOf s d).mpd - sfld 16 4 (domRec s d)
    let s := modDom d (fun q => { q with lastSeq := some (ptpSeq f), sync := diff }) s
    let s := measure d o (rxNs f - o) f.ck false s
    if domKind s d = 1 then
      let q := (domOf s d).txSeq
      sendTime f.port d ptpDelayReq q 0 0x7F (ptpStamp 0) (modDom d (fun q => { q with txSeq := (q.txSeq + 1) % 65536 }) s)
    else s

/-- The message `g` is the Follow_Up of the Sync `f` in domain `d` (R486). -/
def followUpOf (s : Device) (d : Nat) (f g : RxFrame) : Bool :=
  forDomain s d g && ptpType g == ptpFollowUp && g.port == f.port && ptpSeq g == ptpSeq f && ptpSource g == ptpSource f

/-- SYNC_MEASUREMENT (R486): the oldest Sync of the domain that is complete, a two-step one with its Follow_Up. -/
def syncMeasurement (d : Nat) (s : Device) : Device :=
  let ready := fun (f : RxFrame) =>
    forDomain s d f && ptpType f == ptpSync && (!ptpTwoStep f || s.tim.rx.any (followUpOf s d f))
  match takeTime ready s with
  | (none, _) => s
  | (some f, s') =>
    match if ptpTwoStep f then takeTime (followUpOf s d f) s' else (none, s') with
    | (some g, s') => useSync d f (ptpTime g) (ptpCorr f + ptpCorr g) s'
    | (none, s') => useSync d f (ptpTime f) (ptpCorr f) s'

/-- ANNOUNCE_RECEIVE (R495). -/
def announceReceive (d : Nat) (s : Device) : Device :=
  match takeTime (fun f => forDomain s d f && ptpType f == ptpAnnounce) s with
  | (none, _) => s
  | (some f, s) =>
    if !domSlave s d then s
    else
      let m := ptpOf f
      let id := BitVec.ofNat 64 (fldBe 53 8 m)
      let old := (domOf s d).gmid
      let s := modDom d (fun q => { q with gmid := id }) s
      let s := if old != 0 && old != id then
        raise Ev.timeGmChange [(1, d), lo32 id.toNat] (modDom d (fun q => { q with gmChanges := q.gmChanges + 1 }) s) else s
      if s.tim.sel == d && utcDomain s && bit 2 (fld 7 1 m) then
        { s with tim.utc := signed 16 (fldBe 44 2 m), tim.leap61 := bit 0 (fld 7 1 m),
                 tim.leap59 := bit 1 (fld 7 1 m), tim.utcValid := true }
      else s

/-- PDELAY_REQ_RECEIVE (R498): answered on every port of a P2P or GPTP domain. -/
def pdelayReqReceive (d : Nat) (s : Device) : Device :=
  match takeTime (fun f => forDomain s d f && ptpType f == ptpPdelayReq) s with
  | (none, _) => s
  | (some f, s) =>
    if domKind s d = 2 ∨ domKind s d = 3 then
      sendTime f.port d ptpPdelayResp (ptpSeq f) 0x0200 0x7F (ptpStamp (rxNs f).toNat ++ ptpSource f) s
    else s

/-- Body of an Announce (R498). -/
def announceBody (s : Device) (p d : Nat) : List Byte :=
  let b := domRec s d
  ptpStamp 0 ++ be 2 (wrapInt 16 s.tim.utc) ++ le 1 0 ++ le 1 (fld 6 1 b) ++ le 1 (fld 8 1 b) ++ le 1 0xFE ++
  be 2 0xFFFF ++ le 1 (fld 7 1 b) ++ clockId s p ++ be 2 0 ++ le 1 (if s.tim.sel = 2 then 0xA0 else 0x40)

/-- Interval of 2^LOG_SYNC seconds (R497). -/
def syncInterval (s : Device) (d : Nat) : STime :=
  let l := sfld 5 1 (domRec s d)
  if 0 ≤ l then secT 1 * 2 ^ l.toNat else secT 1 / 2 ^ (-l).toNat

/-- MASTER_SYNC_TRANSMIT (R497, R498): what is due of Sync and Announce, on each port in PORTS. -/
def masterSync (d : Nat) (s : Device) : Device :=
  if 1 < d || domKind s d = 0 || !domMaster s d then s
  else
    let q := domOf s d
    let now := nowS s
    let sync := q.lastSync.all (fun t => t + syncInterval s d ≤ now)
    let ann := q.lastAnnounce.all (fun t => t + secT 1 ≤ now)
    let each := fun (typ flags : Nat) (l : Int) (body : Nat → List Byte) (s : Device) =>
      let seq := (domOf s d).txSeq
      (domPorts s d).foldl (fun s p => sendTime p d typ seq flags l (body p) s)
        (modDom d (fun q => { q with txSeq := (q.txSeq + 1) % 65536 }) s)
    let s := if sync then each ptpSync 0x0200 (sfld 5 1 (domRec s d)) (fun _ => ptpStamp 0)
      (modDom d (fun q => { q with lastSync := some now }) s) else s
    if ann then each ptpAnnounce (8 + flag 0 s.tim.leap61 + flag 1 s.tim.leap59 + flag 2 s.tim.utcValid) 0
      (fun p => announceBody s p d) (modDom d (fun q => { q with lastAnnounce := some now }) s) else s

/-- PDELAY_REQ_TIMER (R497): every 1 s on each port of a P2P or GPTP slave domain. -/
def pdelayTimer (d : Nat) (s : Device) : Device :=
  let q := domOf s d
  if !domSlave s d || !(domKind s d = 2 || domKind s d = 3) || !(q.lastPdelay.all (fun t => t + secT 1 ≤ nowS s)) then s
  else (domPorts s d).foldl (fun s p => sendTime p d ptpPdelayReq q.txSeq 0 0 (ptpStamp 0 ++ List.replicate 10 0#8) s)
    (modDom d (fun k => { k with lastPdelay := some (nowS s), txSeq := (k.txSeq + 1) % 65536 }) s)

/-- The mean path delay of a domain is updated (R486). -/
def setMpd (d : Nat) (v : Int) (s : Device) : Device := modDom d (fun q => { q with mpd := v.toNat }) s

/-- PTP_DELAY_RESPONSE (R486): a Delay_Resp, or a Pdelay_Resp with its follow-up. -/
def delayResponse (d : Nat) (s : Device) : Device :=
  let q := domOf s d
  let mine := fun (typ : Nat) (f : RxFrame) =>
    forDomain s d f && ptpType f == typ && ptpRequester f == portId s f.port
  match takeTime (fun f => mine ptpDelayResp f && q.delayReq.any (fun r => r.1 == ptpSeq f)) s, q.delayReq with
  | (some f, s'), some (_, t3) =>
    setMpd d ((q.sync + ptpTime f - (t3 / 256 : Nat) - ptpCorr f) / 2) (modDom d (fun q => { q with delayReq := none }) s')
  | _, _ =>
    match takeTime (fun f => mine ptpPdelayResp f && q.pdelay.any (fun x => x.port == f.port && x.seq == ptpSeq f)) s with
    | (none, _) => s
    | (some f, s') =>
      match q.pdelay.find? (fun x => x.port == f.port) with
      | none => s
      | some x =>
        let turn := rxNs f - (x.sent / 256 : Nat) - ptpCorr f
        let done := fun (m : Int) (s : Device) =>
          setMpd d m (modDom d (fun q => { q with pdelay := q.pdelay.filter (fun y => y.port != f.port) }) s)
        if ptpTwoStep f then
          match takeTime (fun g => mine ptpPdelayFu g && g.port == f.port && ptpSeq g == ptpSeq f) s' with
          | (none, _) => s
          | (some g, s') => done ((turn - ptpCorr g - (ptpTime g - ptpTime f)) / 2) s'
        else done (turn / 2) s'

/-! ## PPS -/

/-- PPS_DELAY_NS of the PPS domain, if there is one. -/
def ppsDomain (s : Device) : Option Nat := [0, 1].find? (fun d => domKind s d == 4 && domSlave s d)

/-- The offset of a PPS edge from the nearest whole second (R487). -/
def ppsOffset (e : Int) : Int :=
  let r := e % 1000000000
  if 2 * r ≤ 1000000000 then r else r - 1000000000

/-- PPS_IN_EDGE at working time `at_` (R484, R487, R501). -/
def ppsInEdge (at_ : STime) (s : Device) : Device :=
  let e : Int := (at_ / 256 : Nat)
  let s := { s with tim.ppsIn := at_ / 256 }
  match ppsDomain s with
  | none => s
  | some d =>
    let delay := sfld 12 4 (domRec s d)
    let s := match s.tim.setTime with
      | some g => if g.pps then { s with tim.setTime := some { g with pps := false, step := some (g.given + delay - e) } }
                  else s
      | none => s
    let o := ppsOffset (e - delay)
    measure d o (e - o) s.tim.ck true s

/-- PPS_OUT_EDGE (R501): the level due now. PPS_OUT rises at a whole second only: one after the step at which PPS_OUT_EN
was set. -/
def ppsOutEdge (s : Device) : Device :=
  let b := timRec s
  let ns := domeNs s
  let second := ns / 1000000000 * 1000000000
  let due := s.tim.ppsFrom ≤ second && (recAt s 0x0B 0 0 (nsT second)).any (fun r => bit 3 (fld 0 1 r))
  let high := bit 3 (fld 0 1 b) && s.tim.mode != .unset && ns % 1000000000 < 1000 * fld 28 4 b && (s.tim.ppsOut || due)
  if high == s.tim.ppsOut then s
  else emit (.pin 0x0B00 high) { s with
    tim.ppsOut := high, tim.ppsRise := if high then nsT (ns / 1000000000 * 1000000000) else s.tim.ppsRise }

/-! ## Trigger table -/

def trigOf (s : Device) (e : Nat) : TrigEntry := tget s.tim.trigs e {}

/-- Working time of firing k of an entry (R503). -/
def trigStart (b : List Byte) : STime := nsT (fld 8 8 b * 1000000000 + fld 4 4 b)
def trigPeriod (b : List Byte) : STime := nsT (fld 16 4 b)

/-- The next firing of an entry at or after `from_`: k is 0 only unless PERIODIC is set, and below COUNT (R503). -/
def nextFiring (b : List Byte) (from_ : STime) : Option STime :=
  let p := if bit 1 (fld 0 1 b) then trigPeriod b else 0
  let k := if from_ ≤ trigStart b || p = 0 then 0 else (from_ - trigStart b + p - 1) / p
  let t := trigStart b + k * p
  if !bit 0 (fld 0 1 b) || t < from_ || (p != 0 && fld 20 4 b != 0 && fld 20 4 b ≤ k) then none else some t

/-- The instant from which the next firing of an entry counts. -/
def trigFrom (s : Device) (e : Nat) : STime :=
  let q := trigOf s e
  match q.last with
  | some t => max q.from_ (t + 1)
  | none => q.from_

/-- A release entered by the trigger table: the earlier one stands (R504). -/
def trigRelease (program : Nat) (t : STime) (s : Device) : Device :=
  let slot := (objsOf s 0x02 1).find? fun k =>
    let b := recNow s 0x02 1 k
    taskEnabled b && taskProgram b && fld 2 2 b == program
  match slot with
  | none => s
  | some k =>
    let queued := s.dpt.coreReady.any (fun c => c.2.any (fun r => r.2 == k))
    if queued && !s.dpt.delay.any (fun r => r.2.1 == k) then { s with tim.trigDrop := s.tim.trigDrop + 1 }
    else enterRelease k t s

/-- TRIGGER_FIRING (R477, R503, R504): none falls before the step. -/
def triggerFiring (e : Nat) (s : Device) : Device :=
  let b := recNow s 0x0B 2 e
  match nextFiring b (trigFrom s e) with
  | none => s
  | some t =>
    if nowS s < t || s.tim.mode == .unset then s
    else
      let q := { trigOf s e with count := (trigOf s e).count + 1, last := some t }
      let s := scanTriggered e { s with tim.trigs := tset s.tim.trigs e q }
      if fld 1 1 b = 1 && s.dpt.run then trigRelease (fld 2 2 b) t s else s

/-! ## Commands (Table TIM-6) -/

/-- TIM_SET_TIME (R480, R481, R484). A second one while one is under way meets BUSY_CONFLICT (DESIGN CHOICE, log 24). -/
def setTimeCmd (p : Pend) (s : Device) : CmdEnd :=
  let d := p.desc
  let given := (d.p2.toNat * 4294967296 + d.p1.toNat) * 1000000000 + d.p0.toNat
  let pps := bit 0 d.p3.toNat
  checked [
    .bad { target := false, pmask := 0xF } [(1000000000 ≤ d.p0.toNat, 24), (1 < d.p3.toNat, 36)],
    .when (s.tim.mode != .unset || (pps && (ppsDomain s).isNone)) .rejectedState 0,
    .when s.tim.setTime.isSome .busyConflict 0]
    (fun p s => .wait { s with tim.setTime := some { pend := p, given, pps, from_ := s.tim.ck } }) p s

/-- AT_PPS_TIMEOUT (R506). -/
def atPpsTimeout (s : Device) : Device :=
  match s.tim.setTime with
  | some g => if g.pps && g.from_ + 2000000000 ≤ s.tim.ck then finish g.pend .timeout 0 [] { s with tim.setTime := none } else s
  | none => s

/-- TIM_SELECT (R493). -/
def timSelect (p : Pend) (s : Device) : CmdEnd :=
  let n := p.desc.p0.toNat
  checked [
    .bad { target := false, pmask := 1 } [(2 < n, 24)],
    .when (n != 2 && !domSlave s n) .rejectedState 0]
    (fun _ s => okWith s.tim.sel (selectDomain n 0 s)) p s

/-- TIM_SET_UTC (R495). -/
def setUtc (p : Pend) (s : Device) : CmdEnd :=
  let d := p.desc
  let v := sword d.p0
  let f := d.p1.toNat
  checked [
    .bad { target := false, pmask := 3 } [(v < -32767 || 32767 < v, 24), (2 < f, 28)],
    .when (utcDomain s) .rejectedState 0]
    (fun _ s => okWith (wrapInt 32 s.tim.utc)
      { s with tim.utc := v, tim.leap61 := bit 0 f, tim.leap59 := bit 1 f, tim.utcValid := true }) p s

/-- State of a domain: TIM_DSTATd [1:0] (Table TIM-8). -/
def domState (s : Device) (d : Nat) : Nat :=
  if domKind s d = 0 then 0 else if (domOf s d).locked then 3 else if domValid s d then 2 else 1

/-- TIM_READ_DOMAIN (R506). -/
def readDomain (p : Pend) (s : Device) : CmdEnd :=
  let n := p.desc.target.toNat
  checked [
    .when (1 < n) .notFound 0,
    .bad { bufMin := 64, bufMax := 16777216 } []]
    (fun _ s =>
      let q := domOf s n
      okBuf (domState s n) (le 8 (domState s n) ++ le 8 (wrapInt 64 q.o) ++ le 4 (wrapInt 32 q.ff) ++ le 8 q.gmid.toNat ++
        le 4 q.mpd ++ le 4 q.meas.toNat ++ le 4 q.gmChanges.toNat ++ List.replicate 24 0#8) s) p s

/-- TIM_CLEAR_COUNTERS (R506). -/
def timClear (p : Pend) (s : Device) : CmdEnd :=
  let m := p.desc.p0.toNat
  checked [.bad { target := false, pmask := 1 } [(8 ≤ m, 24)]]
    (fun _ s => okWith 0 { s with tim := { s.tim with
      copyErr := clr m 0 s.tim.copyErr, txDrop := clr m 1 s.tim.txDrop, trigDrop := clr m 2 s.tim.trigDrop } }) p s

/-- TIM_NOW_READ (R508): a read of TIM_NOW latches TIM_NOWF. -/
def timNowRead (s : Device) : Device :=
  emit (.reg 0xB8008 (domeNs s)) { s with tim.nowf := STime.frac (nowD s) }

/-! ## Configuration -/

/-- A domain whose KIND, ROLE, DOMAIN_NUM or PORTS an image changes is another domain: its measurements start anew
(DESIGN CHOICE, log 94). -/
def loadDomain (old : Nat → List Byte) (s : Device) (d : Nat) : Device :=
  if (old d).take 4 = (domRec s d).take 4 then s else modDom d (fun _ => {}) (unlockDomain d s)

/-- TIM at CFG_LOAD_BASE: SEL and FREE_PPB of the image (R479, R493), and the trigger entries start anew (R503). `old`
gives the domain records before it. -/
def loadTim (old : Nat → List Byte) (s : Device) : Device :=
  let s := [0, 1].foldl (loadDomain old) s
  let sel := if timRec s = [] then 2 else fld 1 1 (timRec s)
  let s := if sel == s.tim.sel then s else selectDomain sel 2 s
  { s with tim.nextFree := some (freePpb s),
           tim.trigs := (objsOf s 0x0B 2).map (fun e => (e, { (trigOf s e) with from_ := nowS s, last := none })) }

/-- TIM at a commit at `t`: a changed SEL selects, FREE_PPB takes effect at the next strobe, and a changed trigger entry
counts from the commit (R479, R493, R503). -/
def commitTim (t : STime) (oldRec : List Byte) (oldTrig : Nat → List Byte) (s : Device) : Device :=
  let sel := fld 1 1 (timRec s)
  let s := if timRec s ≠ [] ∧ fld 1 1 oldRec ≠ sel then selectDomain sel 2 s else s
  let s := if sfld 24 4 oldRec = freePpb s then s else { s with tim.nextFree := some (freePpb s) }
  (objsOf s 0x0B 2).foldl (fun s e =>
    if oldTrig e = recNow s 0x0B 2 e then s
    else { s with tim.trigs := tset s.tim.trigs e { trigOf s e with from_ := t } }) s

/-! ## The rows of the table of operations -/

/-- ALIGNMENT_STROBE (R475): Every 2^20 CK_TIME cycles, the Spire copy is aligned to the Dome counter and a new
RATE or step takes effect. -/
def execAlignmentStrobe (s : State) : Host.Outcome State Fault Refusal :=
  .next { s with dev := alignmentStrobe s.dev }

/-- SYNC_MEASUREMENT (R486): A Sync, with its Follow_Up when two-step, gives an offset measurement and a servo
update. -/
def execSyncMeasurement (dom : Nat) (s : State) : Host.Outcome State Fault Refusal :=
  .next { s with dev := syncMeasurement dom s.dev }

/-- ANNOUNCE_RECEIVE (R495): An Announce of the selected domain supplies the UTC offset. -/
def execAnnounceReceive (dom : Nat) (s : State) : Host.Outcome State Fault Refusal :=
  .next { s with dev := announceReceive dom s.dev }

/-- PDELAY_REQ_RECEIVE (R498): A Pdelay_Req is answered on a P2P or GPTP port. -/
def execPdelayReqReceive (dom : Nat) (s : State) : Host.Outcome State Fault Refusal :=
  .next { s with dev := pdelayReqReceive dom s.dev }

/-- MASTER_SYNC_TRANSMIT (R498): A MASTER domain sends Sync, Follow_Up and Announce on schedule. -/
def execMasterSyncTransmit (dom : Nat) (s : State) : Host.Outcome State Fault Refusal :=
  .next { s with dev := masterSync dom s.dev }

/-- DOMAIN_LOSS_TIMEOUT (R492): LOSS_MS without a valid measurement switches domain or enters HOLDOVER. -/
def execDomainLossTimeout (dom : Nat) (s : State) : Host.Outcome State Fault Refusal :=
  .next { s with dev := domainLoss dom s.dev }

/-- PPS_IN_EDGE (R501): A PPS_IN edge is stamped and measured for a PPS domain. -/
def execPpsInEdge (at_ : STime) (s : State) : Host.Outcome State Fault Refusal :=
  .next { s with dev := ppsInEdge at_ s.dev }

/-- PPS_OUT_EDGE (R501): PPS_OUT rises at each whole second and falls after PPS_W_US. -/
def execPpsOutEdge (s : State) : Host.Outcome State Fault Refusal :=
  .next { s with dev := ppsOutEdge s.dev }

/-- TRIGGER_FIRING (R503): A trigger-table entry fires, starting scans and program releases. -/
def execTriggerFiring (e : Nat) (s : State) : Host.Outcome State Fault Refusal :=
  .next { s with dev := triggerFiring e s.dev }

/-- TIM_SET_TIME (R480): Steps working time from UNSET to the given time. -/
def execTimSetTime (d : Desc) (s : State) : Host.Outcome State Fault Refusal :=
  .next { s with dev := runCmd setTimeCmd d s.dev }

/-- TIM_SELECT (R493): Selects a domain. -/
def execTimSelect (d : Desc) (s : State) : Host.Outcome State Fault Refusal :=
  .next { s with dev := runCmd timSelect d s.dev }

/-- TIM_SET_UTC (R495): Sets the UTC offset and leap flags. -/
def execTimSetUtc (d : Desc) (s : State) : Host.Outcome State Fault Refusal :=
  .next { s with dev := runCmd setUtc d s.dev }

/-- TIM_READ_DOMAIN (R506): Returns domain status. -/
def execTimReadDomain (d : Desc) (s : State) : Host.Outcome State Fault Refusal :=
  .next { s with dev := runCmd readDomain d s.dev }

/-- TIM_CLEAR_COUNTERS (R506): Clears the selected TIM counters. -/
def execTimClearCounters (d : Desc) (s : State) : Host.Outcome State Fault Refusal :=
  .next { s with dev := runCmd timClear d s.dev }

/-- TIM_NOW_READ (R508): A read of TIM_NOW latches TIM_NOWF. -/
def execTimNowRead (s : State) : Host.Outcome State Fault Refusal :=
  .next { s with dev := timNowRead s.dev }

/-- AT_PPS_TIMEOUT (R506): TIM_SET_TIME with AT_PPS and no PPS_IN edge within 2 s completes with TIMEOUT. -/
def execAtPpsTimeout (s : State) : Host.Outcome State Fault Refusal :=
  .next { s with dev := atPpsTimeout s.dev }

/-- PTP_DELAY_RESPONSE (R486): A Delay_Resp, or a Pdelay_Resp with its follow-up, is received and updates the
domain's mean path delay. -/
def execPtpDelayResponse (dom : Nat) (s : State) : Host.Outcome State Fault Refusal :=
  .next { s with dev := delayResponse dom s.dev }

/-- PDELAY_REQ_TIMER (R497): Every 1 s, a Pdelay_Req is sent on each port of a P2P or GPTP slave domain. -/
def execPdelayReqTimer (dom : Nat) (s : State) : Host.Outcome State Fault Refusal :=
  .next { s with dev := pdelayTimer dom s.dev }

end Sys2Proof.Machine
end

