-- ==== Sys2Proof/Machine/Eth.lean ====
section
/-!
DEFINITION. Machine/Eth.lean: Ethernet ports, host frames, replication and Nelzer stations (11_ethernet_nelzer).
-/
namespace Sys2Proof.Machine

/-! ## Nelzer frames (R448, R449) -/

def stnRec (s : Device) (st : Nat) : List Byte := recNow s 0x0C 3 st
def stnPort (b : List Byte) : Nat := fld 1 1 b % 8
def stnPrp (b : List Byte) : Bool := bit 1 (fld 0 1 b)
def stnMac (b : List Byte) : Nat := fldBe 2 6 b
def stnCycle (b : List Byte) : STime := nsT (fld 12 4 b)
def stnPhase (b : List Byte) : STime := nsT (fld 16 4 b)
def stnResp (b : List Byte) : STime := nsT (fld 20 4 b)

/-- NZ_ETYPE of the configuration. -/
def nzEtype (s : Device) : Nat := if ethGlobal s = [] then 0x88B5 else fld 0 2 (ethGlobal s)

/-- The address Nelzer frames are sent from (R448). -/
def nzSource (s : Device) (p : Nat) : List Byte :=
  let m := padTo 6 ((ethGlobal s).drop 2)
  if m = List.replicate 6 0#8 then portMac s p else m

/-- The 24-byte header of Table ETH-2; the CRC covers bytes 0–19 and the payload. -/
def nzHeader (typ st lan words cycle time status : Nat) (pcrc : Word) (payload : List Byte) : List Byte :=
  let h := le 1 (1 + typ * 16) ++ le 1 (st + lan * 128) ++ le 2 words ++ le 4 cycle ++ le 4 time ++ le 2 status ++
    le 2 0 ++ le 4 pcrc.toNat
  h ++ le 4 (crc32c (h ++ payload)).toNat

/-- A Nelzer frame of the device (R448). -/
def nzFrame (s : Device) (st typ lan cycle time : Nat) (payload : List Byte) : List Byte :=
  let b := stnRec s st
  let g := ethGlobal s
  let p := stnPort b
  padTo 6 (b.drop 2) ++ nzSource s (p + lan) ++ vlanTag (fld 10 1 g % 8) (fld 8 2 g % 4096) ++ be 2 (nzEtype s) ++
  nzHeader typ st lan (payload.length / 4) cycle time 0 (stnOf s st).pcrc payload ++ payload

/-- The frames of a station leave on both ports of a pair (R445, R449). -/
def stnPaired (s : Device) (b : List Byte) : Bool := stnPrp b || prpPair s (stnPort b)

/-- Queues a Nelzer frame on the ports of its station; a standby sends none (R445, R448, R464). -/
def nzSend (st typ cycle time : Nat) (launch : Nat → STime) (payload : List Byte) (s : Device) : Device :=
  if s.pai.standby then s
  else
    let b := stnRec s st
    queuePair (stnPort b) (fld 11 1 (ethGlobal s) % 8) (stnPaired s b) (fun lan =>
      { bytes := nzFrame s st typ lan cycle time payload, launch := launch lan, tag := .nz st typ lan cycle }) s

/-- D of a LAN (R449). -/
def stnD (q : Station) (lan : Nat) : Int := (if lan = 0 then q.delayA else q.delayB) + q.latch

/-! ## Losses and entry into LIVE (R458 to R461) -/

/-- A word of a request that never left: it waits for the next request, unless a newer value has replaced it (R451). -/
def wordBack (st : Nat) (w : Nat × StWord) (s : Device) : Device :=
  let x := tget (stnOf s st).outs w.1 {}
  if x.time == w.2.time && !x.fresh then
    modStn st (fun q => { q with outs := tset q.outs w.1 { x with fresh := true, item := w.2.item } }) s
  else
    let s := { s with eth.supersede := s.eth.supersede + 1 }
    match w.2.item with
    | some o => report o .superseded 0 s
    | none => s

/-- The reports that waited behind those of a cycle's own words (R23). -/
def laterReports (c : NzCycle) (s : Device) : Device :=
  { s with reports := s.reports ++ c.later.map (·.2) }

/-- The departure of a cycle's request, `slip` behind its launch time (R450). -/
def slipCheck (st : Nat) (slip : STime) (s : Device) : Device :=
  if slip ≤ nsT 100 then modStn st (fun q => { q with slipped := false }) s
  else
    let was := (stnOf s st).slipped
    let s := modStn st (fun q => { q with slipped := true }) { s with eth.slip := s.eth.slip + 1 }
    if was then s else raise Ev.nzSlip [(1, st), (4, slip / 256)] s

/-- A cycle is concluded: the newly written words it carried are reported and recorded with its sample time, by the
copy that the station latched, or the first that left; words of a request that never left wait for the next one
(R229, R450, R451, R646; DEDUCED, log 25). On a pair the slip is that of this copy (R450). -/
def concludeCycle (st : Nat) (c : NzCycle) (lan : Option Nat) (s : Device) : Device :=
  let left : Option (Nat × STime) := match lan with
    | some l => c.sent.find? (fun x => x.1 == l)
    | none => c.sent.head?
  match left with
  | some (l, t) =>
    let b := stnRec s st
    let at_ := ((t : Int) + 256 * stnD (stnOf s st) l).toNat
    let s := if stnPaired s b then slipCheck st (at_ - (c.m * stnCycle b + stnPhase b)) s else s
    laterReports c (c.words.foldl (fun s w =>
      let (aux, far) := auxTime at_ w.2.time
      let s := ltnRecord 9 (st * 512 + w.1) 0 at_ (versionAt s at_) w.2.value aux far s
      match w.2.item with
      | some o => report o .applied at_ s
      | none => s) s)
  | none => laterReports c (c.words.foldl (fun s w => wordBack st w s) s)

/-- A station enters LOST at working time t_L (R459). -/
def nzLoss (st cause : Nat) (t : STime) (s : Device) : Device :=
  let s := cutStation st t ((stnOf s st).open_.foldl (fun s c => concludeCycle st c none s) s)
  let s := modStn st (fun q => { q with
    mode := .lost, cause := cause, losses := q.losses + 1, lostAt := some t, next := none, open_ := [], param := none,
    probeAt := nowS s }) s
  raise Ev.nzStationLost [(1, st), (1, cause), lo32 (nsLow t)] { s with eth.losses := s.eth.losses + 1 }

/-! ## Parameterisation (R455, R461) -/

/-- The parameter block: head, output substitutes, station data. -/
def nzBlock (s : Device) (st : Nat) : List Byte :=
  let b := stnRec s st
  le 2 (fld 8 2 b) ++ le 2 (fld 10 2 b) ++ le 4 (fld 28 4 b) ++ le 1 (bits 5 4 (fld 0 1 b)) ++ List.replicate 7 0#8 ++
  padTo (4 * fld 10 2 b) ((recNow s 0x0C 4 st).drop 1440) ++ padTo (fld 26 2 b) (recNow s 0x0C 5 st)

/-- Sends the piece at an offset, up to 1,024 bytes, padded with zero bytes to whole words. -/
def sendPiece (st off : Nat) (s : Device) : Device :=
  let d := ((nzBlock s st).drop off).take 1024
  nzSend st 3 off 0 (fun _ => 0) (padTo ((d.length + 3) / 4 * 4) d) s

/-- Sends a DELAY_REQ on one LAN, with the trailer of that copy under PRP (R445, R455). -/
def sendDelay (st lan : Nat) (s : Device) : Device :=
  if s.pai.standby then s
  else
    let b := stnRec s st
    let e := stnPort b / 2 * 2
    let f : QFrame := { bytes := nzFrame s st 7 lan 0 0 [], tag := .nz st 7 lan 0 }
    if stnPrp b || prpPair s e then
      enqueueFrame (e + lan) (fld 11 1 (ethGlobal s) % 8) (prpCopy f (eportOf s e).prpSeq lan)
        (modEport e (fun q => { q with prpSeq := (q.prpSeq + 1) % 65536 }) s)
    else enqueueFrame (stnPort b) (fld 11 1 (ethGlobal s) % 8) f s

/-- A station enters PARAM (R458, R461). -/
def startParam (st : Nat) (fromLost : Bool) (s : Device) : Device :=
  sendPiece st 0 (modStn st (fun q => { q with
    mode := .param, fromLost, pcrc := 0, next := none, open_ := [], param := some { sentAt := nowS s } }) s)

/-- Changes the parameterisation under way. -/
def modParam (st : Nat) (f : NzParam → NzParam) (s : Device) : Device :=
  modStn st (fun q => { q with param := q.param.map f }) s

/-- Number of the first cycle boundary after an instant. -/
def nextCycle (b : List Byte) (t : STime) : Nat :=
  if t < stnPhase b then 0 else (t - stnPhase b) / max 1 (stnCycle b) + 1

/-- DELAY_NS: the mean of the 4th and 5th smallest of 8 doubled values, rounded to the nearest ns (R455). -/
def delayOf (xs : List Int) : Int :=
  let ys := xs.foldl (fun l x => l.takeWhile (· ≤ x) ++ [x] ++ l.dropWhile (· ≤ x)) []
  roundDivEven (ys.getD 3 0 + ys.getD 4 0) 4

/-! ## Receiving Nelzer frames -/

/-- The Nelzer part of a received frame: header and payload. -/
def nzOf (f : RxFrame) : List Byte := f.bytes.drop (bodyAt f.bytes)
def nzType (f : RxFrame) : Nat := fld 0 1 (nzOf f) / 16
def nzStation (f : RxFrame) : Nat := fld 1 1 (nzOf f) % 128
def nzWords (f : RxFrame) : Nat := fld 2 2 (nzOf f)
def nzPayload (f : RxFrame) : List Byte := ((nzOf f).drop 24).take (4 * nzWords f)
def nzSrc (f : RxFrame) : Nat := fldBe 6 6 f.bytes

/-- The CRC of a Nelzer header and payload checks. -/
def nzCrcOk (f : RxFrame) : Bool :=
  fld 20 4 (nzOf f) == (crc32c ((nzOf f).take 20 ++ nzPayload f)).toNat && fld 0 1 (nzOf f) % 16 == 1

/-- Takes the oldest frame waiting for Nelzer that meets a test. -/
def takeNz (t : RxFrame → Bool) (s : Device) : Option RxFrame × Device :=
  (s.eth.rx.find? t, { s with eth.rx := s.eth.rx.eraseP t })

/-- Any frame from a LOST station moves it to PARAM (R458). -/
def wakeStation (st : Nat) (s : Device) : Device := if (stnOf s st).mode = .lost then startParam st true s else s

/-- PROBE_REPLY (R458). -/
def probeReply (st : Nat) (s : Device) : Device :=
  match takeNz (fun f => nzSrc f == stnMac (stnRec s st) && (nzType f == 6 || (stnOf s st).mode == .lost)) s with
  | (none, _) => s
  | (some _, s) => wakeStation st s

/-- Nelzer handles a received frame (R452, R458, Table ETH-2): a RESPONSE that names a station, and a reply or, from a LOST
station, anything that comes from the station's address. Other types are discarded. -/
def nzTakes (s : Device) (f : RxFrame) : Bool :=
  (nzType f == 2 && created s 0x0C 3 (nzStation f)) ||
  (objsOf s 0x0C 3).any fun st =>
    nzSrc f == stnMac (stnRec s st) &&
      ((nzStation f == st && [4, 6, 8].contains (nzType f)) || (stnOf s st).mode == .lost)

/-- PARAM_ACK (R461). -/
def paramAck (st : Nat) (s : Device) : Device :=
  match takeNz (fun f => nzType f == 4 && nzStation f == st && nzSrc f == stnMac (stnRec s st)) s with
  | (none, _) => s
  | (some f, s) =>
    match (stnOf s st).param with
    | none => wakeStation st s
    | some k =>
      let blk := nzBlock s st
      let last := blk.length ≤ k.offset + 1024
      let crc := crc32c blk
      if k.delays || !nzCrcOk f || fld 4 4 (nzOf f) != k.offset || (last && fld 16 4 (nzOf f) != crc.toNat) then s
      else if last then
        let s := modStn st (fun q => { q with latch := fld 8 4 (nzOf f), pcrc := crc }) s
        sendDelay st 0 (modParam st (fun k => { k with delays := true, lan := 0, tries := 1, sentAt := nowS s, left := none }) s)
      else
        sendPiece st (k.offset + 1024) (modParam st (fun k => { k with offset := k.offset + 1024, tries := 1, sentAt := nowS s }) s)

/-- NZ_PARAM_PIECE_TIMEOUT (R461): a repeat after 1 ms, a failure after the third attempt. -/
def paramTimeout (st : Nat) (s : Device) : Device :=
  match (stnOf s st).param with
  | none => s
  | some k =>
    if nowS s < k.sentAt + msT 1 then s
    else if 3 ≤ k.tries then
      let (n, s) := draw s
      nzLoss st (Config.nzParamCause n).toNat (nowS s)
        (raise Ev.nzParamFail [(1, st), (2, if k.delays then 0xFFFF else k.offset)] s)
    else
      let s := modParam st (fun k => { k with tries := k.tries + 1, sentAt := nowS s, left := none }) s
      if k.delays then sendDelay st k.lan s else sendPiece st k.offset s

/-- Twice the path delay that a reply shows (R455). -/
def twiceDelay (f : RxFrame) (sent : STime) : Int :=
  ((f.at_ / 256 : Nat) : Int) - (sent / 256 : Nat) - (fld 8 4 (nzOf f) : Nat)

/-- DELAY_RESP (R455, R461): 8 exchanges on each LAN, and then requests start at the next cycle boundary. -/
def delayResp (st : Nat) (s : Device) : Device :=
  match takeNz (fun f => nzType f == 8 && nzStation f == st && nzSrc f == stnMac (stnRec s st)) s with
  | (none, _) => s
  | (some f, s) =>
    let b := stnRec s st
    match (stnOf s st).param with
    | none => wakeStation st s
    | some k =>
      match k.left with
      | none => s
      | some t =>
        if !k.delays || !nzCrcOk f then s
        else
          let got := k.got ++ [(k.lan, twiceDelay f t)]
          let mine := (got.filter (fun g => g.1 == k.lan)).map (·.2)
          let again := fun (lan : Nat) (s : Device) => sendDelay st lan
            (modParam st (fun k => { k with lan, got, tries := 1, sentAt := nowS s, left := none }) s)
          if mine.length < 8 then again k.lan s
          else
            let s := modStn st (fun q =>
              if k.lan = 0 then { q with delayA := delayOf mine } else { q with delayB := delayOf mine }) s
            if stnPrp b && k.lan == 0 then again 1 s
            else modStn st (fun q => { q with param := none, next := some (nextCycle b (nowS s)) }) s

/-- NZ_PROBE_TIMER (R460). -/
def probeTimer (st : Nat) (s : Device) : Device :=
  let q := stnOf s st
  if q.mode != .lost || nowS s < q.probeAt + usT (fld 32 4 (stnRec s st)) then s
  else nzSend st 5 0 0 (fun _ => 0) [] (modStn st (fun q => { q with probeAt := nowS s }) s)

/-! ## The station cycle -/

/-- NZ_REQUEST_BUILD (R449, R451, R465): the request of the next cycle is built 1 µs before its launch. -/
def requestBuild (st : Nat) (s : Device) : Device :=
  let q := stnOf s st
  let b0 := stnRec s st
  match q.next with
  | none => s
  | some m =>
    let l := m * stnCycle b0 + stnPhase b0
    underRec 0x0C 3 st l (fun b s =>
    let launch := fun lan => ((l : Int) - 256 * stnD q lan).toNat
    let first := if stnPaired s b0 then min (launch 0) (launch 1) else launch 0
    if !bit 0 (fld 0 1 b) || s.pai.standby || nowS s + usT 1 < first then s
    else
      let n := fld 10 2 b
      let payload := (List.range n).flatMap fun w => le 4 (tget q.outs w {}).value.toNat
      let news := q.outs.filter (fun w => w.2.fresh && w.1 < n)
      let s := modStn st (fun q => { q with
        next := some (m + 1), open_ := q.open_ ++ [{ m, words := news }],
        outs := q.outs.map (fun w => (w.1, if w.1 < n then { w.2 with fresh := false, item := none } else w.2)) }) s
      nzSend st 1 (m % 2 ^ 32) (nsLow l) launch payload s) s

/-- A station enters LIVE at t_R (R458, R461). -/
def nzLive (st : Nat) (t : STime) (s : Device) : Device :=
  let q := stnOf s st
  raise Ev.nzStationLive [(1, st), (1, if q.fromLost then 1 else 0), sgn 4 (stnD q 0)]
    (modStn st (fun q => { q with mode := .live, liveAt := some t, returned := q.fromLost }) (cutStation st t s))

/-- The tokens of a valid response (R453). -/
def nzTokens (st m : Nat) (t : STime) (s : Device) : Device :=
  (objsOf s 0x0C 6).foldl (fun s e =>
    underRec 0x0C 6 e t (fun b s =>
      if bit 0 (fld 4 1 b) && fld 0 2 b / 512 == st then
        launchToken { time := t, version := versionAt s t, slot := fld 2 2 b % 4096, operand := fld 2 2 b / 4096 % 8,
                      source := 0x0C00 + e, value := (stnOf s st).ins.getD (fld 0 2 b % 512) 0,
                      seq := BitVec.ofNat 16 m } s
      else s) s) s

/-- The path delay of a valid response deviates (R455). -/
def delayCheck (st lan : Nat) (f : RxFrame) (sent : STime) (s : Device) : Device :=
  let q := stnOf s st
  let tol := fld 36 4 (stnRec s st)
  let d := roundDivEven (twiceDelay f sent) 2
  let ref := if lan = 0 then q.delayA else q.delayB
  if tol = 0 || (d - ref).natAbs ≤ tol then s
  else
    let s := { s with eth.delayDev := s.eth.delayDev + 1 }
    if q.devAt.any (fun t => nowS s < t + secT 1) then s
    else raise Ev.nzDelayDev [(1, st), (1, lan), sgn 4 d] (modStn st (fun q => { q with devAt := some (nowS s) }) s)

/-- A valid response is used (R450, R453, R455, R458). -/
def useResponse (st : Nat) (c : NzCycle) (f : RxFrame) (s : Device) : Device :=
  let b := stnRec s st
  let lan := fld 1 1 (nzOf f) / 128
  let sent := ((c.sent.find? (fun x => x.1 == lan)).map (·.2)).getD ((c.sent.head?.map (·.2)).getD f.at_)
  let sample := nsT ((((sent / 256 : Nat) : Int) + stnD (stnOf s st) lan).toNat)
  let n := fld 8 2 b
  let p := nzPayload f
  let s := cutStation st sample (concludeCycle st c (some lan) s)
  let s := modStn st (fun q => { q with
    ins := (List.range n).map (fun w => BitVec.ofNat 32 (fld (4 * w) 4 p)), inTime := sample,
    lastCycle := c.m % 2 ^ 32, missRun := 0, lanB := lan == 1, open_ := q.open_.filter (fun x => x.m != c.m) }) s
  let at_ := if stnPrp b then f.port % 2 else 0
  let s := match c.sent.find? (fun x => x.1 == at_) with
    | some (_, t) => delayCheck st at_ f t s
    | none => s
  let s := if (stnOf s st).mode = .param then nzLive st f.at_ s else s
  nzTokens st c.m sample s

/-- NZ_RESPONSE (R452, R453, R459). -/
def nzResponse (st : Nat) (s : Device) : Device :=
  match takeNz (fun f => nzType f == 2 && nzStation f == st) s with
  | (none, _) => s
  | (some f, s) =>
    let b := stnRec s st
    let q := stnOf s st
    let h := nzOf f
    let bad := fun (s : Device) => { s with eth.bad := s.eth.bad + 1 }
    let live := q.mode = .live
    if q.mode = .lost ∧ nzSrc f = stnMac b then startParam st true s
    else if !(q.mode = .live || q.mode = .param) then s
    else if nzSrc f ≠ stnMac b ∨ nzWords f ≠ fld 8 2 b ∨ !nzCrcOk f then bad s
    else if fld 16 4 h ≠ q.pcrc.toNat then (if live then nzLoss st 3 f.at_ (bad s) else bad s)
    else match q.open_.find? (fun c => c.m % 2 ^ 32 == fld 4 4 h) with
    | none => { s with eth.late := s.eth.late + 1 }
    | some c =>
      let l := c.m * stnCycle b + stnPhase b
      if l + stnResp b < f.at_ then bad s
      else if live && bit 0 (fld 12 2 h) then nzLoss st 4 f.at_ s
      else useResponse st c f s

/-- NZ_RESPONSE_DEADLINE (R452, R459): the oldest cycle past its deadline is a miss. -/
def responseDeadline (st : Nat) (s : Device) : Device :=
  let b := stnRec s st
  match (stnOf s st).open_ with
  | [] => s
  | c :: rest =>
    let dead := c.m * stnCycle b + stnPhase b + stnResp b
    if nowS s ≤ dead then s
    else
      let s := concludeCycle st c none { s with eth.miss := s.eth.miss + 1 }
      let s := modStn st (fun q => { q with open_ := rest, misses := q.misses + 1, missRun := min 15 (q.missRun + 1) }) s
      let q := stnOf s st
      if q.mode = .live ∧ fld 24 1 b ≤ q.missRun then nzLoss st 1 dead s else s

/-- A REQUEST or a DELAY_REQ has left (R450, R455). -/
def nzLaunched (st typ lan cycle : Nat) (launch : STime) (s : Device) : Device :=
  let now := nowS s
  if typ = 7 then modParam st (fun k => if k.lan = lan then { k with left := some now } else k) s
  else if typ ≠ 1 then s
  else
    let s := modStn st (fun q => { q with open_ := q.open_.map fun c =>
      if c.m % 2 ^ 32 = cycle then { c with sent := c.sent ++ [(lan, now)] } else c }) s
    if stnPaired s (stnRec s st) then s else slipCheck st (now - launch) s

/-! ## Transmission -/

/-- The head frame of a class leaves port `p` (R434, R439, R442). -/
def launchHead (p c : Nat) (s : Device) : Device :=
  match (classOf s p c).fifo with
  | [] => s
  | f :: rest =>
    let now := nowS s
    let dur := txTime s p f.bytes.length
    let slope := idleSlope s p c
    let s := creditUpdate p c s
    let wire := padTo (max 60 f.bytes.length) f.bytes
    let s := emit (.frame p now (wire ++ le 4 (crc32e wire).toNat)) s
    let s := modEport p (fun q => { q with txFr := q.txFr + 1, busy := now + dur + gapTime s p })
      (pmcEdge 0x0C 0x80 p s)
    let cost : Int := ((linkRate s p : Int) - slope) * (dur / 256 : Nat)
    let s := if slope = 0 then s else
      modClass p c (fun q => { q with credit := q.credit - cost, creditAt := now + dur }) s
    let s := settleHead p c s rest
    match f.tag with
    | .tim d typ seq => timLaunched p d typ seq f.bytes now s
    | .nz st typ lan cycle => nzLaunched st typ lan cycle f.launch s
    | _ => s

/-- FRAME_LAUNCH (R439, R442): the highest class that may send, when the port is idle. -/
def frameLaunch (p : Nat) (s : Device) : Device :=
  let q := eportOf s p
  if !q.link || nowS s < q.busy then s
  else
    match [7, 6, 5, 4, 3, 2, 1, 0].find? (canLaunch s p) with
    | some c => launchHead p c s
    | none => s

/-- GATE_CYCLE_START (R440): the newest boundary becomes the running cycle's start. -/
def gateCycleStart (p : Nat) (s : Device) : Device :=
  let b := recNow s 0x0C 2 p
  let cyc := nsT (fld 0 4 b)
  let ph := nsT (fld 4 4 b)
  if cyc = 0 || nowS s < ph then s
  else modEport p (fun q => { q with gateAt := max q.gateAt ((nowS s - ph) / cyc * cyc + ph) }) s

/-- PRP_SUPERVISION_TIMER (R432): every 2,000 ms on both ports of a pair. The layout is that of IEC 62439-3
(PRESUMED, log 19). -/
def prpSupervision (p : Nat) (s : Device) : Device :=
  let e := p / 2 * 2
  let q := eportOf s e
  if !prpPair s e || q.supAt.any (fun t => nowS s < t + msT 2000) then s
  else
    let s := modEport e (fun q => { q with supAt := some (nowS s) }) s
    queuePair e 0 true (fun lan =>
      { bytes := be 6 0x01154E000100 ++ portMac s (e + lan) ++ be 2 0x88FB ++ be 2 1 ++ be 2 q.prpSeq ++ [20#8, 6#8] ++
          portMac s e ++ List.replicate 32 0#8, tag := .supervision }) s

/-! ## Host frames -/

/-- Frame records of a transmit segment: launch time, class and frame; the fuel is the bytes left (R436). -/
def frameRecords : Nat → List Byte → List (STime × Nat × List Byte)
  | 0, _ => []
  | n + 1, b =>
    let len := fld 8 2 b
    if b.length < 16 ∨ len < 60 ∨ 1518 < len ∨ b.length < 16 + len then []
    else (nsT (fld 0 8 b), fld 10 1 b % 8, (b.drop 16).take len) :: frameRecords n (b.drop (16 + (len + 7) / 8 * 8))

/-- The 802.1CB stream of a frame by its destination and VID (R444). -/
def streamOf (s : Device) (role : Nat) (b : List Byte) : Option Nat :=
  (objsOf s 0x0C 7).find? fun k =>
    let r := recNow s 0x0C 7 k
    bit 0 (fld 8 1 r) && bit role (fld 8 1 r) && padTo 6 r == b.take 6 &&
    fld 6 2 r % 4096 == (if tagged b then fldBe 14 2 b % 4096 else 0)

/-- The frame with an R-TAG after its addresses and tag (R444). -/
def withRtag (b : List Byte) (seq : Nat) : List Byte :=
  let k := bodyAt b - 2
  b.take k ++ be 2 0xF1C1 ++ be 2 0 ++ be 2 seq ++ b.drop k

/-- The ports and bytes that a host frame of port `p` becomes (R444). -/
def hostCopies (s : Device) (p : Nat) (b : List Byte) : List (Nat × List Byte) :=
  match streamOf s 1 b with
  | none => [(p, b)]
  | some k =>
    ((List.range 8).filter (fun j => bit j (fld 9 1 (recNow s 0x0C 7 k)))).map fun j =>
      (j, withRtag b (tget s.eth.streams k {}).txSeq)

/-- Queues one host frame (R437, R444). -/
def queueHost (p : Nat) (r : STime × Nat × List Byte) (s : Device) : Device :=
  let cs := hostCopies s p r.2.2
  let s := match streamOf s 1 r.2.2 with
    | some k => { s with eth.streams := tmod s.eth.streams k {} (fun q => { q with txSeq := (q.txSeq + 1) % 65536 }) }
    | none => s
  cs.foldl (fun s c => enqueueFrame c.1 r.2.1 { bytes := c.2, launch := r.1 } s) s

/-- Every frame of a segment fits the FIFOs (R437). -/
def framesFit (s : Device) (p : Nat) (rs : List (STime × Nat × List Byte)) : Bool :=
  (List.range 8).all fun c => (List.range 8).all fun j =>
    (classOf s j c).fifo.length +
      (rs.filter (fun r => r.2.1 == c && (hostCopies s p r.2.2).any (fun x => x.1 == j))).length ≤ 64

/-- HOST_FRAME_QUEUE (R435, R437): the oldest segment is read once its frames fit, and returned. -/
def hostFrameQueue (p : Nat) (s : Device) : Device :=
  match windowOf s (0x0C08 + p) with
  | none => s
  | some w =>
    match (winOf s w).hold with
    | [] => s
    | g :: rest =>
      let rs := frameRecords 4096 ((g.bytes.drop 32).take (fld 8 4 g.bytes))
      if segCheck (winOf s w) g = 0 ∧ !framesFit s p rs then s
      else
        let (pl, s) := readSegment w g s
        let s := if pl.isSome then rs.foldl (fun s r => queueHost p r s) s else s
        returnSegment w (modWin w (fun q => { q with hold := rest }) s)

/-- A received frame goes to the host window of its port, or is dropped (R436, R438). -/
def hostDeliver (f : RxFrame) (flags : Nat) (s : Device) : Device :=
  let n := f.bytes.length
  let rec_ := padTo ((16 + n + 7) / 8 * 8) (le 8 (f.at_ / 256) ++ le 2 n ++ le 1 f.port ++ le 1 flags ++ le 4 0 ++ f.bytes)
  let drop := fun (s : Device) =>
    let first := (eportOf s f.port).dropAt.all (fun t => t + secT 1 ≤ nowS s)
    let s := modEport f.port (fun q => { q with rxDrop := q.rxDrop + 1, dropAt := some (nowS s) }) s
    if first then raise Ev.ethRxDrop [(1, f.port)] s else s
  match windowOf s (0x0C00 + f.port) with
  | none => drop s
  | some w =>
    let (ok, s) := pushRecord w 0x50 (some f.at_) rec_ s
    if ok then s else drop s

/-- The vector recovery algorithm of IEEE 802.1CB: the frame is the first copy of its number (R444; PRESUMED, log 26). -/
def recoverSeq (k seq : Nat) (s : Device) : Bool × Device :=
  let q := tget s.eth.streams k {}
  let h := fld 10 1 (recNow s 0x0C 7 k)
  let put := fun (x : CbStream) => { s with eth.streams := tset s.eth.streams k { x with at_ := nowS s } }
  match q.seq with
  | none => (true, put { q with seq := some seq, hist := [seq] })
  | some last =>
    let d := signed 16 (seq + 65536 - last)
    if (h : Int) ≤ d.natAbs then (false, put q)
    else if 0 < d then
      (true, put { q with seq := some seq, hist := (seq :: q.hist).filter (fun x => (signed 16 (x + 65536 - seq)).natAbs < h) })
    else if q.hist.contains seq then (false, put q)
    else (true, put { q with hist := seq :: q.hist })

/-- STREAM_RECOVERY_RESET (R444). -/
def recoveryReset (k : Nat) (s : Device) : Device :=
  let q := tget s.eth.streams k {}
  if q.seq.isSome && q.at_ + msT (fld 12 2 (recNow s 0x0C 7 k)) ≤ nowS s then
    { s with eth.streams := tset s.eth.streams k { q with seq := none, hist := [] } }
  else s

/-- The PRP trailer of a received frame: sequence number and LAN (R446). -/
def trailerOf (b : List Byte) : Option (Nat × Bool) :=
  let t := b.drop (b.length - 6)
  if 60 ≤ b.length ∧ fldBe 4 2 t = 0x88FB then some (fldBe 0 2 t, fldBe 2 2 t / 4096 == 0xB) else none

/-- PRP duplicate discard: the answer tells whether a copy has already been accepted (R446). -/
def prpDuplicate (f : RxFrame) (s : Device) : Bool × Device :=
  let e := f.port / 2 * 2
  match trailerOf f.bytes with
  | none => (false, s)
  | some (seq, _) =>
    if !prpPair s f.port then (false, s)
    else
      let src := nzSrc f
      let live := (eportOf s e).dups.filter (fun x => nowS s < x.2.2 + msT 400)
      if live.any (fun x => x.1 == src && x.2.1 == seq) then
        (true, modEport f.port (fun q => { q with prpDup := q.prpDup + 1 }) (modEport e (fun q => { q with dups := live }) s))
      else
        let mine := (live.filter (fun x => x.1 == src)).take 63
        (false, modEport e (fun q => { q with
          dups := (src, seq, nowS s) :: mine ++ live.filter (fun x => x.1 != src) }) s)

/-- A frame that belongs to the host: its address, its stream and its copies are checked (R433, R444, R446). -/
def hostFrame (f : RxFrame) (s : Device) : Device :=
  let b := f.bytes
  let dst := b.take 6
  let sup := etherType b = 0x88FB
  let s := if sup then modEport f.port (fun q => { q with supRx := q.supRx + 1 }) s else s
  let multi := bit 0 (fld 0 1 b) && bit 5 (fld 0 1 (ethRec s f.port))
  if dst ≠ portMac s f.port ∧ dst ≠ List.replicate 6 0xFF#8 ∧ !multi then s
  else
    let (dup, s) := prpDuplicate f s
    if dup then s
    else
      let lanB := flag 0 (((trailerOf b).map (·.2)).getD false && prpPair s f.port)
      match (if etherType b = 0xF1C1 then streamOf s 2 b else none) with
      | some k =>
        let (ok, s) := recoverSeq k (fldBe (bodyAt b + 2) 2 b) s
        if ok then hostDeliver f (lanB + 2) s else s
      | none => hostDeliver f lanB s

/-- A length field, up to 1,500, agrees with the frame (IEEE 802.3, PRESUMED, log 19). -/
def lengthOk (b : List Byte) : Bool :=
  let n := etherType b
  1500 < n || b.length == max 64 (bodyAt b + n + 4)

/-- Size, length and FCS of a received frame are good (Table ETH-1, ETH_RXERRp). -/
def frameGood (b : List Byte) : Bool :=
  64 ≤ b.length && b.length ≤ (if tagged b then 1522 else 1518) && lengthOk b &&
  fld (b.length - 4) 4 b == (crc32e (b.take (b.length - 4))).toNat

/-! ## Links -/

/-- The stations that a port serves are lost when its link, or under PRP the last link of the pair, goes down
(R459, R462). -/
def linkLosses (p : Nat) (s : Device) : Device :=
  (objsOf s 0x0C 3).foldl (fun s st =>
    let b := stnRec s st
    let e := p / 2 * 2
    let hit := if stnPrp b then stnPort b == e && !(eportOf s e).link && !(eportOf s (e + 1)).link else stnPort b == p
    if hit && (stnOf s st).mode == .live then nzLoss st 2 (nowS s) s else s) s

/-- ETH_LINK_DOWN (R459, R462, R469). -/
def ethLinkDown (p : Nat) (s : Device) : Device :=
  if !(eportOf s p).link then s
  else
    let s := raise Ev.ethLinkDown [(1, p)] (modEport p (fun q => { q with link := false, speed := 0 }) s)
    let s := if prpPair s p then raise Ev.prpLanDown [(1, p / 2 * 2), (1, p % 2)] s else s
    linkLosses p s

/-- Speed code of a MODE (Table ETH-8). -/
def speedCode (mode : Nat) : Nat := match mode % 8 with
  | 1 | 2 => 2
  | 3 => 1
  | 4 => 3
  | _ => 0

/-- ETH_LINK_UP (R469, R471): only on a port whose link is permitted and which is not DISABLED. -/
def ethLinkUp (p : Nat) (s : Device) : Device :=
  let m := fld 0 1 (ethRec s p)
  if 7 < p || (eportOf s p).link || !bit p s.eth.portEn || m % 8 = 0 || !s.btr.spireUp then s
  else raise Ev.ethLinkUp [(1, p), (1, speedCode m)] (modEport p (fun q => { q with link := true, speed := speedCode m }) s)

/-- ETH_PORT_EN_WRITE (R471, R472). -/
def portEnWrite (v : Nat) (s : Device) : Device :=
  let s := hazard 0xC0004 s
  let s := { s with eth.portEn := v % 256, eth.portEnCopy := v % 256 }
  (List.range 8).foldl (fun s p => if bit p v then s else ethLinkDown p s) s

/-! ## Commands (Table ETH-6) -/

/-- State code of a station. -/
def stnCode (m : StnMode) : Nat := match m with
  | .disabled => 0
  | .param => 1
  | .live => 2
  | .lost => 3

/-- ETH_READ_STATION (R468). -/
def readStation (p : Pend) (s : Device) : CmdEnd :=
  let n := p.desc.target.toNat
  checked [
    .when (127 < n || !created s 0x0C 3 n) .notFound 0,
    .bad { bufMin := 64, bufMax := 16777216 } []]
    (fun _ s =>
      let q := stnOf s n
      okBuf (stnCode q.mode) (le 1 (stnCode q.mode) ++ le 1 q.cause ++ le 2 0 ++ le 4 (wrapInt 32 q.delayA) ++
        le 4 (wrapInt 32 q.delayB) ++ le 4 q.latch ++ le 4 q.lastCycle ++ le 4 q.misses.toNat ++ le 4 q.losses.toNat ++
        List.replicate 36 0#8) s) p s

/-- ETH_REPARAM (R459, R461). -/
def reparam (p : Pend) (s : Device) : CmdEnd :=
  let n := p.desc.target.toNat
  let m := (stnOf s n).mode
  checked [
    .when (127 < n || !created s 0x0C 3 n) .notFound 0,
    .bad plain [],
    .when (m = .disabled || m = .param || s.cfg.mode != .running) .rejectedState 0]
    (fun _ s =>
      let s := if m = .live then nzLoss n 5 (nowS s) s else s
      okWith (stnCode m) (startParam n true s)) p s

/-- ETH_CB_RESET (R444). -/
def cbReset (p : Pend) (s : Device) : CmdEnd :=
  let n := p.desc.target.toNat
  let f := fld 8 1 (recNow s 0x0C 7 n)
  checked [
    .when (63 < n || !created s 0x0C 7 n || !bit 0 f) .notFound 0,
    .bad plain [],
    .when (!bit 2 f) .rejectedState 0]
    (fun _ s => okWith 0 { s with eth.streams := tmod s.eth.streams n {} (fun q => { q with seq := none, hist := [] }) }) p s

/-- ETH_CLEAR_COUNTERS (R468). -/
def ethClear (p : Pend) (s : Device) : CmdEnd :=
  let m := p.desc.p0.toNat
  checked [.bad { target := false, pmask := 1 } [(512 ≤ m, 24)]]
    (fun _ s =>
      let e := s.eth
      let e := { e with miss := clr m 0 e.miss, bad := clr m 1 e.bad, late := clr m 2 e.late, slip := clr m 3 e.slip,
                        orderDrop := clr m 4 e.orderDrop, supersede := clr m 5 e.supersede,
                        delayDev := clr m 6 e.delayDev, losses := clr m 7 e.losses }
      let e := if bit 8 m then { e with ports := tmap e.ports fun _ q => { q with
        txFr := 0, rxFr := 0, rxErr := 0, rxDrop := 0, late := 0, gateDrop := 0, prpDup := 0 } } else e
      okWith 0 { s with eth := e }) p s

/-! ## Configuration -/

/-- ETH at CFG_LOAD_BASE: the ports permitted, and everything else as at reset (R466, R472). -/
def loadEth (s : Device) : Device :=
  let en := ((List.range 8).map (fun p => flag p (fld 0 1 (ethRec s p) % 8 != 0))).sum
  let s := { s with eth.portEn := en, eth.portEnCopy := en, eth.stations := [], eth.streams := [] }
  (List.range 8).foldl (fun s p => if bit p en then s else ethLinkDown p s) s

/-- CFG_RUN: output words hold their substitutes with sample time 0, and enabled stations enter PARAM (R451, R458). -/
def runEth (s : Device) : Device :=
  (objsOf s 0x0C 3).foldl (fun s st =>
    let b := stnRec s st
    let subs := (recNow s 0x0C 4 st).drop 1440
    let s := modStn st (fun q => { q with
      outs := (List.range (fld 10 2 b)).map (fun w => (w, { value := BitVec.ofNat 32 (fld (4 * w) 4 subs) : StWord })) }) s
    if bit 0 (fld 0 1 b) then startParam st false s else s) { s with eth.run := true }

/-- A station is disabled: no loss (R458, R465). -/
def stnDisable (st : Nat) (s : Device) : Device :=
  modStn st (fun q => { q with mode := .disabled, next := none, open_ := [], param := none }) s

/-- CFG_STOP (R458). -/
def stopEth (s : Device) : Device := (objsOf s 0x0C 3).foldl (fun s st => stnDisable st s) { s with eth.run := false }

/-- A commit that changes ENABLE of a station (R458, R465). -/
def commitEth (old : Nat → List Byte) (s : Device) : Device :=
  (objsOf s 0x0C 3).foldl (fun s st =>
    let was := bit 0 (fld 0 1 (old st))
    let is := bit 0 (fld 0 1 (stnRec s st))
    if is && !was then startParam st false s else if was && !is then
      stnDisable st ((stnOf s st).open_.foldl (fun s c => concludeCycle st c none s) s)
    else s) s

/-! ## The rows of the table of operations -/

/-- HOST_FRAME_QUEUE (R437): The device reads a transmit segment once its frames fit the FIFOs, and queues them.
-/
def execHostFrameQueue (p : Nat) (s : State) : Host.Outcome State Fault Refusal :=
  .next { s with dev := hostFrameQueue p s.dev }

/-- FRAME_LAUNCH (R442): A frame at the head of its class leaves when its launch time, gate and port allow. -/
def execFrameLaunch (p : Nat) (s : State) : Host.Outcome State Fault Refusal :=
  .next { s with dev := frameLaunch p s.dev }

/-- GATE_CYCLE_START (R440): A gate cycle begins and the gate control list runs. -/
def execGateCycleStart (p : Nat) (s : State) : Host.Outcome State Fault Refusal :=
  .next { s with dev := gateCycleStart p s.dev }

/-- NZ_REQUEST_BUILD (R449): t_NZ_BUILD before launch, the REQUEST is built from the held output words. -/
def execNzRequestBuild (st : Nat) (s : State) : Host.Outcome State Fault Refusal :=
  .next { s with dev := requestBuild st s.dev }

/-- NZ_RESPONSE (R452): A station RESPONSE is validated and updates the input image and sends tokens. -/
def execNzResponse (st : Nat) (s : State) : Host.Outcome State Fault Refusal :=
  .next { s with dev := nzResponse st s.dev }

/-- NZ_RESPONSE_DEADLINE (R452): A cycle without a valid response by its deadline is a miss. -/
def execNzResponseDeadline (st : Nat) (s : State) : Host.Outcome State Fault Refusal :=
  .next { s with dev := responseDeadline st s.dev }

/-- PARAM_ACK (R461): A station acknowledges a parameter piece. -/
def execParamAck (st : Nat) (s : State) : Host.Outcome State Fault Refusal :=
  .next { s with dev := paramAck st s.dev }

/-- NZ_PARAM_PIECE_TIMEOUT (R461): An unacknowledged parameter piece or delay exchange is repeated after 1 ms,
or fails after 3 attempts. -/
def execNzParamPieceTimeout (st : Nat) (s : State) : Host.Outcome State Fault Refusal :=
  .next { s with dev := paramTimeout st s.dev }

/-- DELAY_RESP (R455): A DELAY_RESP supplies a path-delay measurement. -/
def execDelayResp (st : Nat) (s : State) : Host.Outcome State Fault Refusal :=
  .next { s with dev := delayResp st s.dev }

/-- PROBE_REPLY (R458): A frame from a LOST station moves it to PARAM. -/
def execProbeReply (st : Nat) (s : State) : Host.Outcome State Fault Refusal :=
  .next { s with dev := probeReply st s.dev }

/-- NZ_PROBE_TIMER (R460): Every PROBE_US, a PROBE is sent to a LOST station. -/
def execNzProbeTimer (st : Nat) (s : State) : Host.Outcome State Fault Refusal :=
  .next { s with dev := probeTimer st s.dev }

/-- ETH_LINK_UP (R469): A port link comes up. -/
def execEthLinkUp (p : Nat) (s : State) : Host.Outcome State Fault Refusal :=
  .next { s with dev := ethLinkUp p s.dev }

/-- ETH_LINK_DOWN (R459): A port link goes down, and its stations are lost. -/
def execEthLinkDown (p : Nat) (s : State) : Host.Outcome State Fault Refusal :=
  .next { s with dev := ethLinkDown p s.dev }

/-- PRP_SUPERVISION_TIMER (R432): Every 2,000 ms, a PRP supervision frame is sent. -/
def execPrpSupervisionTimer (p : Nat) (s : State) : Host.Outcome State Fault Refusal :=
  .next { s with dev := prpSupervision p s.dev }

/-- ETH_READ_STATION (R468): Returns station status. -/
def execEthReadStation (d : Desc) (s : State) : Host.Outcome State Fault Refusal :=
  .next { s with dev := runCmd readStation d s.dev }

/-- ETH_REPARAM (R468): Forces a loss of cause 5 and reparameterises a station. -/
def execEthReparam (d : Desc) (s : State) : Host.Outcome State Fault Refusal :=
  .next { s with dev := runCmd reparam d s.dev }

/-- ETH_CB_RESET (R468): Resets an 802.1CB stream's sequence recovery. -/
def execEthCbReset (d : Desc) (s : State) : Host.Outcome State Fault Refusal :=
  .next { s with dev := runCmd cbReset d s.dev }

/-- ETH_CLEAR_COUNTERS (R468): Clears the selected ETH counters. -/
def execEthClearCounters (d : Desc) (s : State) : Host.Outcome State Fault Refusal :=
  .next { s with dev := runCmd ethClear d s.dev }

/-- STREAM_RECOVERY_RESET (R444): RESET_MS without a frame of an 802.1CB listener stream resets its vector
recovery. -/
def execStreamRecoveryReset (k : Nat) (s : State) : Host.Outcome State Fault Refusal :=
  .next { s with dev := recoveryReset k s.dev }

end Sys2Proof.Machine
end

