-- ==== Sys2Proof/Machine/Rv.lean ====
section
/-!
DEFINITION. Machine/Rv.lean: the RV32I base with the M and C extensions, and the function-block extension's encoding
(R385, R407). PRESUMED: encodings and effects are those of the RISC-V unprivileged specification (log 33).
-/
namespace Sys2Proof.Machine

/-- A decoded instruction of a program core. -/
inductive Rv where
  | lui (rd imm : Nat)
  | auipc (rd imm : Nat)
  | jal (rd : Nat) (off : Int)
  | jalr (rd rs1 : Nat) (imm : Int)
  | branch (f rs1 rs2 : Nat) (off : Int)
  | load (f rd rs1 : Nat) (imm : Int)
  | store (f rs1 rs2 : Nat) (imm : Int)
  /-- `f` is funct3; `alt` marks SRAI -/
  | opImm (f : Nat) (alt : Bool) (rd rs1 : Nat) (imm : Int)
  /-- `f7` is 0, 32 (SUB, SRA) or 1 (M extension) -/
  | op (f f7 rd rs1 rs2 : Nat)
  | fence
  | trap
  /-- the function-block extension: funct3 and funct7 -/
  | fb (f f7 rd rs1 rs2 : Nat)
deriving DecidableEq, Repr

/-- The function-block combinations of Table PGM-6. -/
def fbDefined (f f7 rs1 rs2 : Nat) : Bool :=
  (f == 0 && f7 < 3) || (f == 1 && f7 < 2) || (f == 2 && f7 < 2) || (f == 4 && f7 < 2 && rs1 == 0 && rs2 == 0)

/-- Decodes a 32-bit instruction. -/
def decode32 (w : Nat) : Option Rv :=
  let rd := bits 11 7 w
  let f := bits 14 12 w
  let rs1 := bits 19 15 w
  let rs2 := bits 24 20 w
  let f7 := bits 31 25 w
  let immI := signed 12 (bits 31 20 w)
  match bits 6 0 w with
  | 0x37 => some (.lui rd (bits 31 12 w * 4096))
  | 0x17 => some (.auipc rd (bits 31 12 w * 4096))
  | 0x6F => some (.jal rd (signed 21 (bits 31 31 w * 2 ^ 20 + bits 19 12 w * 4096 + bits 20 20 w * 2048 + bits 30 21 w * 2)))
  | 0x67 => if f = 0 then some (.jalr rd rs1 immI) else none
  | 0x63 => if f = 2 ∨ f = 3 then none else
      some (.branch f rs1 rs2 (signed 13 (bits 31 31 w * 4096 + bits 7 7 w * 2048 + bits 30 25 w * 32 + bits 11 8 w * 2)))
  | 0x03 => if f = 3 ∨ 5 < f then none else some (.load f rd rs1 immI)
  | 0x23 => if 2 < f then none else some (.store f rs1 rs2 (signed 12 (f7 * 32 + rd)))
  | 0x13 =>
    if f = 1 then (if f7 = 0 then some (.opImm 1 false rd rs1 rs2) else none)
    else if f = 5 then (if f7 = 0 ∨ f7 = 32 then some (.opImm 5 (f7 == 32) rd rs1 rs2) else none)
    else some (.opImm f false rd rs1 immI)
  | 0x33 => if f7 = 0 ∨ f7 = 1 ∨ (f7 = 32 ∧ (f = 0 ∨ f = 5)) then some (.op f f7 rd rs1 rs2) else none
  | 0x0F => if f = 0 then some .fence else none
  | 0x73 => if w = 0x73 ∨ w = 0x100073 then some .trap else none
  | 0x0B => if fbDefined f f7 rs1 rs2 then some (.fb f f7 rd rs1 rs2) else none
  | _ => none

/-- Decodes a compressed instruction. -/
def decode16 (w : Nat) : Option Rv :=
  let b := fun (k : Nat) => bits k k w
  let rd := bits 11 7 w
  let rs2 := bits 6 2 w
  let p1 := 8 + bits 9 7 w
  let p2 := 8 + bits 4 2 w
  let imm6 := signed 6 (b 12 * 32 + bits 6 2 w)
  let lwOff : Int := (bits 12 10 w * 8 + b 6 * 4 + b 5 * 64 : Nat)
  let jOff := signed 12 (b 12 * 2048 + b 11 * 16 + bits 10 9 w * 256 + b 8 * 1024 + b 7 * 64 + b 6 * 128 +
    bits 5 3 w * 2 + b 2 * 32)
  let bOff := signed 9 (b 12 * 256 + bits 11 10 w * 8 + bits 6 5 w * 64 + bits 4 3 w * 2 + b 2 * 32)
  match bits 1 0 w, bits 15 13 w with
  | 0, 0 =>
    let i := bits 12 11 w * 16 + bits 10 7 w * 64 + b 6 * 4 + b 5 * 8
    if i = 0 then none else some (.opImm 0 false p2 2 i)
  | 0, 2 => some (.load 2 p2 p1 lwOff)
  | 0, 6 => some (.store 2 p1 p2 lwOff)
  | 1, 0 => some (.opImm 0 false rd rd imm6)
  | 1, 1 => some (.jal 1 jOff)
  | 1, 2 => some (.opImm 0 false rd 0 imm6)
  | 1, 3 =>
    if rd = 2 then
      let i := signed 10 (b 12 * 512 + b 6 * 16 + b 5 * 64 + bits 4 3 w * 128 + b 2 * 32)
      if i = 0 then none else some (.opImm 0 false 2 2 i)
    else if imm6 = 0 then none else some (.lui rd (wrapInt 32 (imm6 * 4096)))
  | 1, 4 =>
    match bits 11 10 w with
    | 0 => if b 12 = 0 then some (.opImm 5 false p1 p1 rs2) else none
    | 1 => if b 12 = 0 then some (.opImm 5 true p1 p1 rs2) else none
    | 2 => some (.opImm 7 false p1 p1 imm6)
    | _ =>
      if b 12 = 1 then none
      else match bits 6 5 w with
        | 0 => some (.op 0 32 p1 p1 p2)
        | 1 => some (.op 4 0 p1 p1 p2)
        | 2 => some (.op 6 0 p1 p1 p2)
        | _ => some (.op 7 0 p1 p1 p2)
  | 1, 5 => some (.jal 0 jOff)
  | 1, 6 => some (.branch 0 p1 0 bOff)
  | 1, 7 => some (.branch 1 p1 0 bOff)
  | 2, 0 => if b 12 = 0 then some (.opImm 1 false rd rd rs2) else none
  | 2, 2 => if rd = 0 then none else some (.load 2 rd 2 (b 12 * 32 + bits 6 4 w * 4 + bits 3 2 w * 64 : Nat))
  | 2, 4 =>
    if b 12 = 0 then
      if rs2 = 0 then (if rd = 0 then none else some (.jalr 0 rd 0)) else some (.op 0 0 rd 0 rs2)
    else if rs2 = 0 then (if rd = 0 then some .trap else some (.jalr 1 rd 0))
    else some (.op 0 0 rd rd rs2)
  | 2, 6 => some (.store 2 2 rs2 (bits 12 9 w * 4 + bits 8 7 w * 64 : Nat))
  | _, _ => none

/-- An arithmetic operation of OP and OP-IMM on 32-bit words. -/
def rvAlu (f : Nat) (alt : Bool) (a b : Nat) : Nat :=
  match f with
  | 0 => if alt then (a + 2 ^ 32 - b) % 2 ^ 32 else (a + b) % 2 ^ 32
  | 1 => a * 2 ^ (b % 32) % 2 ^ 32
  | 2 => if signed 32 a < signed 32 b then 1 else 0
  | 3 => if a < b then 1 else 0
  | 4 => a ^^^ b
  | 5 => if alt then wrapInt 32 (signed 32 a / (2 ^ (b % 32) : Nat)) else a / 2 ^ (b % 32)
  | 6 => a ||| b
  | _ => a &&& b

/-- An operation of the M extension. -/
def rvMul (f a b : Nat) : Nat :=
  let x := signed 32 a
  let y := signed 32 b
  match f with
  | 0 => a * b % 2 ^ 32
  | 1 => wrapInt 32 (x * y / (2 ^ 32 : Nat))
  | 2 => wrapInt 32 (x * (b : Int) / (2 ^ 32 : Nat))
  | 3 => a * b / 2 ^ 32
  | 4 => if b = 0 then 2 ^ 32 - 1 else wrapInt 32 (x.tdiv y)
  | 5 => if b = 0 then 2 ^ 32 - 1 else a / b
  | 6 => if b = 0 then a else wrapInt 32 (x.tmod y)
  | _ => if b = 0 then a else a % b

/-- A branch is taken. -/
def rvTaken (f a b : Nat) : Bool :=
  match f with
  | 0 => a == b
  | 1 => a != b
  | 4 => signed 32 a < signed 32 b
  | 5 => !(signed 32 a < signed 32 b)
  | 6 => a < b
  | _ => !(a < b)

end Sys2Proof.Machine
end

