-- ==== Sys2Proof/Machine/Pgm.lean ====
section
/-!
DEFINITION. Machine/Pgm.lean: cyclic programs on the program processors (10_program_execution).
-/
namespace Sys2Proof.Machine

def progOf (s : Device) (p : Nat) : Prog := tget s.pgm.progs p {}
def modProg (p : Nat) (f : Prog → Prog) (s : Device) : Device :=
  { s with pgm.progs := tset s.pgm.progs p (f (progOf s p)) }
def coreOf (s : Device) (c : Nat) : Core := tget s.pgm.run_ c {}
def modCore (c : Nat) (f : Core → Core) (s : Device) : Device :=
  { s with pgm.run_ := tset s.pgm.run_ c (f (coreOf s c)) }

/-- The record of a program, and its dispatch slot (Table PGM-2). -/
def pgmRec (s : Device) (p : Nat) : List Byte := recNow s 0x04 1 p
def pgmSlot (s : Device) (p : Nat) : Nat := fld 2 2 (pgmRec s p) % 4096
def pgmContinuous (b : List Byte) : Bool := bit 1 (fld 0 1 b)

/-! ## Images (R391 to R394) -/

def imgCodeOff (i : List Byte) : Nat := fld 16 4 i
def imgCodeSize (i : List Byte) : Nat := fld 20 4 i
def imgInstSize (i : List Byte) : Nat := fld 24 4 i
def imgInit (i : List Byte) : List Byte := padTo (imgInstSize i) (i.drop (fld 28 4 i))
def imgId (i : List Byte) : Nat := fld 12 4 i

/-- A map entry: kind, index and image offset (R394). -/
structure MapEntry where
  kind  : Nat
  index : Nat
  off   : Nat
deriving DecidableEq, Repr

def mapEntry (i : List Byte) (k : Nat) : MapEntry :=
  let e := (i.drop (fld 48 4 i + 8 * k)).take 8
  { kind := fld 0 1 e, index := fld 2 2 e, off := fld 4 2 e }

def inMap (i : List Byte) : List MapEntry := (List.range (fld 44 2 i)).map (mapEntry i)
def outMap (i : List Byte) : List MapEntry := (List.range (fld 46 2 i)).map (fun k => mapEntry i (fld 44 2 i + k))

/-- Image size: the highest OFFSET + 4. -/
def mapSize (m : List MapEntry) : Nat := m.foldl (fun a e => max a (e.off + 4)) 0

/-- An instance: IID, TYPE_ID, OFFSET and SIZE (R393). -/
structure Inst where
  iid  : Nat
  typ  : Nat
  off  : Nat
  size : Nat
deriving DecidableEq, Repr

def instances (i : List Byte) : List Inst :=
  (List.range (fld 36 2 i)).map fun k =>
    let e := (i.drop (fld 32 4 i + 16 * k)).take 16
    { iid := fld 0 4 e, typ := fld 4 4 e, off := fld 8 4 e, size := fld 12 4 e }

/-- A member of a type: MEMBER_ID, OFFSET, SIZE and KIND (R393). -/
structure Member where
  id   : Nat
  off  : Nat
  size : Nat
  kind : Nat
deriving DecidableEq, Repr

/-- The types of the type table, in order; the first number is the count of types. -/
def typesFrom : Nat → List Byte → List (Nat × List Member)
  | 0, _ => []
  | n + 1, b =>
    let m := fld 4 2 b
    let ms := (List.range m).map fun k =>
      let e := (b.drop (8 + 12 * k)).take 12
      { id := fld 0 4 e, off := fld 4 4 e, size := fld 8 2 e, kind := fld 10 1 e : Member }
    (fld 0 4 b, ms) :: typesFrom n (b.drop (8 + 12 * m))

def imgTypes (i : List Byte) : List (Nat × List Member) := typesFrom (fld 38 2 i) (i.drop (fld 40 4 i))

/-- The reserved bytes of type heads and members, and of map entries, are 0 (R3, R393, R394). -/
def imgReservedOk (i : List Byte) : Bool :=
  let types := fun (n : Nat) (b : List Byte) => (typesFrom n b).foldl (fun (a : Bool × List Byte) t =>
    (a.1 && fld 6 2 a.2 == 0 && (List.range t.2.length).all (fun k => fld (8 + 12 * k + 11) 1 a.2 == 0),
     a.2.drop (8 + 12 * t.2.length))) (true, b)
  (types (fld 38 2 i) (i.drop (fld 40 4 i))).1 &&
  (List.range (fld 44 2 i + fld 46 2 i)).all fun k =>
    let e := (i.drop (fld 48 4 i + 8 * k)).take 8
    fld 1 1 e == 0 && fld 6 2 e == 0

/-- The members of a type. -/
def membersOf (i : List Byte) (t : Nat) : List Member :=
  (((imgTypes i).find? (fun x => x.1 == t)).map (·.2)).getD []

/-- The entry offsets: MAIN, COLD_INIT, WARM_INIT, RESUME_INIT, STN_ERR, STN_RET (Table PGM-3). -/
def imgEntry (i : List Byte) (k : Nat) : Option Nat :=
  let v := fld (fld 52 4 i + 4 * k) 4 i
  if v = 0xFFFFFFFF then none else some v

/-! ### Checks -/

/-- Bytes of the type table. -/
def typeBytes (i : List Byte) : Nat := ((imgTypes i).map (fun t => 8 + 12 * t.2.length)).sum

/-- A directory entry keeps the rules of R393. -/
def instOk (i : List Byte) (e : Inst) : Bool :=
  e.iid != 0 && e.off % 8 == 0 && e.off + e.size ≤ imgInstSize i && (imgTypes i).any (fun t => t.1 == e.typ) &&
  (membersOf i e.typ).all (fun m => m.off + m.size ≤ e.size && m.kind ≤ 4)

/-- An input entry keeps Table PGM-4. -/
def inEntryOk (s : Device) (e : MapEntry) : Bool :=
  e.off % 4 == 0 &&
  (match e.kind with
    | 1 => e.index ≤ 2
    | 2 => e.index ≤ 255
    | 3 => stationWordOk (viewNow s) false e.index
    | 4 => e.index ≤ 127
    | 5 => e.index ≤ 15
    | 6 => e.index ≤ 7
    | 7 => e.index ≤ 1023
    | _ => false)

/-- An output entry keeps Table PGM-4. -/
def outEntryOk (s : Device) (e : MapEntry) : Bool :=
  e.off % 4 == 0 &&
  (match e.kind with
    | 1 => e.index ≤ 95 && pinIsOutput (recNow s 0x0A 1 e.index) && !pinHost (recNow s 0x0A 1 e.index)
    | 2 => e.index ≤ 31 && created s 0x09 1 e.index && !dacHost s e.index
    | 3 => stationWordOk (viewNow s) true e.index
    | 4 => created s 0x03 1 e.index && (loopCfg (recNow s 0x03 1 e.index)).spSrc == 4
    | 5 => created s 0x06 1 e.index && fld 2 1 (recNow s 0x06 1 e.index) / 4 % 2 == 0
    | _ => false)

/-- The field outputs a program writes, in the coding of `fieldWriters` (R395). -/
def pgmWriters (i : List Byte) : List Nat :=
  (outMap i).filterMap fun e =>
    if e.kind = 1 then some (2000 + e.index) else if e.kind = 2 then some (1000 + e.index)
    else if e.kind = 3 then some (65536 + e.index) else none

/-- The header and the tables of a program image keep R391 to R395. -/
def imageOk (s : Device) (p : Nat) (i : List Byte) : Bool :=
  let len := fld 8 4 i
  let fits := fun (off size : Nat) => off + size ≤ len
  let others := ((s.pgm.progs.filter (fun e => e.1 != p)).flatMap (fun e => pgmWriters e.2.image)) ++ fieldWriters (viewNow s)
  fld 6 2 i == 0 && imgId i != 0 && fits (imgCodeOff i) (imgCodeSize i) && imgCodeSize i ≤ 268435456 &&
  imgInstSize i % 64 == 0 && imgInstSize i ≤ 8388608 && fits (fld 28 4 i) (imgInstSize i) &&
  fld 36 2 i != 0 && fits (fld 32 4 i) (16 * fld 36 2 i) && fits (fld 40 4 i) (typeBytes i) &&
  fld 44 2 i ≤ 8192 && fld 46 2 i ≤ 8192 && fits (fld 48 4 i) (8 * (fld 44 2 i + fld 46 2 i)) &&
  fits (fld 52 4 i) 24 && (imgEntry i 0).isSome &&
  (List.range 6).all (fun k => (imgEntry i k).all (fun v => v < imgCodeSize i && v % 2 == 0)) &&
  noRepeat ((instances i).map (·.iid)) && (instances i).all (instOk i) && imgReservedOk i &&
  (inMap i).all (inEntryOk s) && (outMap i).all (outEntryOk s) &&
  (pgmWriters i).all (fun w => !others.contains w)

/-! ## Memory of a running program (R387) -/

/-- A scratch byte: one written in this cycle, or a free value (R387). -/
def scratchAt (y : Cycle) (off : Nat) : Byte :=
  match tfind y.scratch off with
  | some b => b
  | none => Config.scratchByte y.nonce off

/-- The bytes an access reads, or none where Table PGM-1 permits no read. -/
def memRead (g : Prog) (y : Cycle) (a n : Nat) : Option (List Byte) :=
  if a + n ≤ imgCodeSize g.image then some ((g.image.drop (imgCodeOff g.image + a)).take n)
  else if 0x20000000 ≤ a ∧ a + n ≤ 0x20000000 + imgInstSize g.image then some (padTo n (g.inst.drop (a - 0x20000000)))
  else if 0x30000000 ≤ a ∧ a + n ≤ 0x30008000 then some ((List.range n).map (fun k => scratchAt y (a - 0x30000000 + k)))
  else if 0x40000000 ≤ a ∧ a + n ≤ 0x40000000 + y.input.length then some ((y.input.drop (a - 0x40000000)).take n)
  else if 0x50000000 ≤ a ∧ a + n ≤ 0x50000000 + y.output.length then some ((y.output.drop (a - 0x50000000)).take n)
  else none

/-- The undo log takes the old content of a line on its first write in a cycle; past 4,096 lines it has overflowed
(R404). The lines past them are kept too, since PGM_READ_INSTANCE copies an instance as of the last cycle end (log 32). -/
def logLine (g : Prog) (a : Nat) (y : Cycle) : Cycle :=
  let line := a / 64
  if (tfind y.undo line).isSome then y
  else { y with
    undo := tset y.undo line (padTo 64 (g.inst.drop (64 * line)))
    undoOver := y.undoOver || 4096 ≤ y.undo.length }

/-- A write, or none where Table PGM-1 permits none. -/
def memWrite (g : Prog) (y : Cycle) (a : Nat) (d : List Byte) : Option (Prog × Cycle) :=
  let n := d.length
  if 0x20000000 ≤ a ∧ a + n ≤ 0x20000000 + imgInstSize g.image then
    let o := a - 0x20000000
    some ({ g with inst := overwrite o d g.inst }, logLine g (o + n - 1) (logLine g o y))
  else if 0x30000000 ≤ a ∧ a + n ≤ 0x30008000 then
    some (g, { y with scratch := ((List.range n).zip d).foldl (fun t x => tset t (a - 0x30000000 + x.1) x.2) y.scratch })
  else if 0x50000000 ≤ a ∧ a + n ≤ 0x50000000 + y.output.length then
    some (g, { y with output := overwrite (a - 0x50000000) d y.output })
  else none

/-! ## Instructions -/

/-- What one instruction does: registers and next pc with its writes, or a program fault of the given cause
(Table PGM-10). -/
inductive CpuRes where
  | ok (rd : Nat) (v : Nat) (pc : Nat) (writes : List (Nat × List Byte))
  | fault (cause : Nat)
deriving DecidableEq, Repr

/-- The instruction at pc and its length, or the cause of the fault that fetching it raises (R387, R388). -/
def fetchInstr (g : Prog) (y : Cycle) : Except Nat (Rv × Nat) :=
  let at_ := fun (n : Nat) => fld (imgCodeOff g.image + y.pc) n g.image
  if imgCodeSize g.image < y.pc + 2 then .error 2
  else if at_ 2 % 4 = 3 then
    if imgCodeSize g.image < y.pc + 4 then .error 2
    else match decode32 (at_ 4) with
      | some i => .ok (i, 4)
      | none => .error 1
  else match decode16 (at_ 2) with
    | some i => .ok (i, 2)
    | none => .error 1

/-- A register; x0 reads as 0. -/
def xreg (k : Core) (r : Nat) : Nat := if r = 0 then 0 else (k.regs.getD r 0).toNat

/-- S of a cycle as a nanosecond count (R409). -/
def cycleNs (y : Cycle) : Nat := y.start / 256

/-- A timer member (R408): START, PT, IN_LAST, Q and RUN. -/
structure TimerMem where
  start  : Nat
  pt     : Nat
  inLast : Bool
  q      : Bool
  run    : Bool
deriving DecidableEq, Repr

def timerOf (b : List Byte) : TimerMem :=
  { start := fld 0 8 b, pt := fld 8 4 b, inLast := bit 0 (fld 12 1 b), q := bit 1 (fld 12 1 b), run := bit 2 (fld 12 1 b) }
def timerBytes (b : List Byte) (t : TimerMem) : List Byte :=
  le 8 t.start ++ le 4 t.pt ++ le 1 (fld 12 1 b / 8 * 8 + flag 0 t.inLast + flag 1 t.q + flag 2 t.run) ++ (b.drop 13).take 3

/-- `s - start >= pt * unit`, with `unit` ns in the count of PT (R409, R421). -/
def elapsed (s unit : Nat) (t : TimerMem) : Bool := t.start + t.pt * unit ≤ s

/-- TON, TOF and TP of R409, at time `s` in ns with PT in units of `unit` ns. -/
def timTon (s unit : Nat) (t : TimerMem) (i : Bool) : TimerMem :=
  let t := if !i then { t with run := false, q := false }
    else
      let t := if !t.inLast then { t with start := s, run := true } else t
      if t.run && elapsed s unit t then { t with q := true, run := false } else t
  { t with inLast := i }

def timTof (s unit : Nat) (t : TimerMem) (i : Bool) : TimerMem :=
  let t := if i then { t with run := false, q := true }
    else
      let t := if t.inLast then { t with start := s, run := true } else t
      if t.run && elapsed s unit t then { t with q := false, run := false } else t
  { t with inLast := i }

def timTp (s unit : Nat) (t : TimerMem) (i : Bool) : TimerMem :=
  let t := if i && !t.inLast && !t.q then { t with start := s, q := true } else t
  let t := if t.q && elapsed s unit t then { t with q := false } else t
  { t with inLast := i }

/-- An edge member of two bits, PREV and VALID (R409): the result and the new byte. -/
def edgeStep (b : Nat) (clk rising : Bool) : Bool × Nat :=
  let prev := bit 0 b
  let rest := b / 4 * 4 + 2 + flag 0 clk
  if !bit 1 b then (false, rest) else (if rising then clk && !prev else prev && !clk, rest)

/-- A function-block instruction on the member bytes at its address (R408, R409): result and new bytes. -/
def fbMember (f f7 s : Nat) (clk : Bool) (b : List Byte) : Nat × List Byte :=
  let one := fun (c : Bool) => if c then 1 else 0
  if f = 0 then
    let t := (if f7 = 0 then timTon else if f7 = 1 then timTof else timTp) s 1000 (timerOf b) clk
    (one t.q, timerBytes b t)
  else if f = 1 then
    let (r, e) := edgeStep (fld 0 1 b) clk (f7 == 0)
    (one r, le 1 e)
  else
    let (r, e) := edgeStep (fld 8 1 b) clk true
    let cv := sfld 0 4 b
    let cv := if r then ssat 32 (if f7 = 0 then cv + 1 else cv - 1) else cv
    (one (if f7 = 0 then sfld 4 4 b ≤ cv else cv ≤ 0), le 4 (wrapInt 32 cv) ++ (b.drop 4).take 4 ++ le 1 e)

/-- A function-block instruction (R407 to R409). -/
def fbExec (g : Prog) (y : Cycle) (f f7 rd a clk next : Nat) : CpuRes :=
  if f = 4 then .ok rd (if f7 = 0 then cycleNs y % 2 ^ 32 else cycleNs y / 2 ^ 32 % 2 ^ 32) next []
  else
    let (size, align) := if f = 0 then (16, 8) else if f = 1 then (1, 4) else (9, 4)
    if a % align ≠ 0 then .fault 3
    else match memRead g y a size with
      | none => .fault 2
      | some b =>
        let (r, d) := fbMember f f7 (cycleNs y) (clk != 0) b
        if (memWrite g y a d).isNone then .fault 2 else .ok rd r next [(a, d)]

/-- One instruction on a core (R385, R388). A misaligned address is found before an access that is not permitted
(DESIGN CHOICE, log 32). -/
def cpuExec (g : Prog) (y : Cycle) (k : Core) (i : Rv) (len : Nat) : CpuRes :=
  let x := xreg k
  let next := (y.pc + len) % 2 ^ 32
  let wrap := fun (a : Int) => wrapInt 32 a
  match i with
  | .lui rd imm => .ok rd imm next []
  | .auipc rd imm => .ok rd ((y.pc + imm) % 2 ^ 32) next []
  | .jal rd off => .ok rd next (wrap (y.pc + off)) []
  | .jalr rd rs1 imm => .ok rd next (wrap (x rs1 + imm) / 2 * 2) []
  | .branch f a b off => .ok 0 0 (if rvTaken f (x a) (x b) then wrap (y.pc + off) else next) []
  | .load f rd rs1 imm =>
    let a := wrap (x rs1 + imm)
    let n := 2 ^ (f % 4)
    if a % n ≠ 0 then .fault 3
    else match memRead g y a n with
      | none => .fault 2
      | some b => .ok rd (if f < 3 then wrapInt 32 (sfld 0 n b) else unle b) next []
  | .store f rs1 rs2 imm =>
    let a := wrap (x rs1 + imm)
    let n := 2 ^ (f % 4)
    if a % n ≠ 0 then .fault 3
    else if (memWrite g y a (le n (x rs2))).isNone then .fault 2 else .ok 0 0 next [(a, le n (x rs2))]
  | .opImm f alt rd rs1 imm => .ok rd (rvAlu f alt (x rs1) (wrap imm)) next []
  | .op f f7 rd a b => .ok rd (if f7 = 1 then rvMul f (x a) (x b) else rvAlu f (f7 == 32) (x a) (x b)) next []
  | .fence => .ok 0 0 next []
  | .trap => .fault 4
  | .fb f f7 rd a b => fbExec g y f f7 rd (x a) (x b) next

/-! ## Cycles -/

/-- The start kind's code offset among the entries: COLD_INIT, WARM_INIT, RESUME_INIT follow MAIN. -/
def initEntry (i : List Byte) (kind : Nat) : List (Nat × Nat) :=
  match imgEntry i (1 + kind) with
  | some v => [(v, kind)]
  | none => []

/-- Stations whose number meets a test, rising. -/
def stationsWhere (s : Device) (t : Station → Bool) : List Nat := (s.eth.stations.filter (fun e => t e.2)).map (·.1)

/-- Stations lost, and stations returned, since the previous image (R400, R416 to R418). -/
def lostSince (s : Device) (from_ upTo : STime) : List Nat :=
  stationsWhere s (fun q => q.lostAt.any (fun t => from_ < t && t ≤ upTo))
def returnedSince (s : Device) (from_ upTo : STime) : List Nat :=
  stationsWhere s (fun q => q.returned && q.liveAt.any (fun t => from_ < t && t ≤ upTo))

/-- One entry call for each station of a list, when the image has the entry. -/
def stationEntries (i : List Byte) (k : Nat) (ss : List Nat) : List (Nat × Nat) :=
  match imgEntry i k with
  | some v => ss.map (fun n => (v, n))
  | none => []

/-- A station is LIVE. -/
def stnLive (s : Device) (st : Nat) : Bool := (stnOf s st).mode == .live

/-- A station input word as programs read it (R417, R460). -/
def stationInput (s : Device) (ref : Nat) : Nat :=
  let st := ref / 512
  let w := ref % 512
  let held := ((stnOf s st).ins.getD w 0).toNat
  if stnLive s st then held
  else match bits 3 2 (fld 0 1 (stnRec s st)) with
    | 0 => held
    | 1 => fld (4 * w) 4 (recNow s 0x0C 4 st)
    | _ => 0

/-- An input word (Table PGM-4). -/
def inputWord (s : Device) (g : Prog) (e : MapEntry) : Nat :=
  match e.kind with
  | 1 => pinWord e.index (pinLevel s)
  | 2 => wrapInt 32 (chanOf s e.index).result
  | 3 => stationInput s e.index
  | 4 => flag 0 (stnLive s e.index) + flag 1 (g.undelivered.contains e.index) + flag 2 (!stnLive s e.index)
  | 5 => (pulseOf s e.index).count.toNat
  | 6 => wrapInt 32 (portOf s e.index).pos
  | 7 => (loopOf s e.index).outLast.toNat
  | _ => 0

/-- The words of an image laid out by its map. -/
def layImage (m : List MapEntry) (f : MapEntry → Nat) : List Byte :=
  m.foldl (fun b e => overwrite e.off (le 4 (f e)) b) (List.replicate (mapSize m) 0#8)

/-- Members of one kind class of every instance take their initial values (Table PGM-7): DATA members, or all. -/
def initData (i inst : List Byte) : List Byte :=
  (instances i).foldl (fun b e => (membersOf i e.typ).foldl (fun b m =>
    if m.kind = 0 then overwrite (e.off + m.off) (((imgInit i).drop (e.off + m.off)).take m.size) b else b) b) inst

/-- Instance data before the first cycle of a start kind: 0 COLD, 1 WARM, 2 RESUME (Table PGM-7). -/
def startData (g : Prog) (kind : Nat) : List Byte :=
  match kind with
  | 0 => imgInit g.image
  | 1 => initData g.image g.inst
  | _ => g.inst

/-- The program's part of the open cut is captured: its state before any cycle with S at or after T_e (R406). -/
def capturePgm (p : Nat) (s : Device) : Device :=
  match s.kep.cut with
  | none => s
  | some k =>
    let g := progOf s p
    if g.captured then s
    else
      let c : PgmCap := { mode := g.mode, imageId := imgId g.image, inst := g.inst, ran := g.ran }
      modProg p (fun g => { g with captured := true })
        { s with kep.cut := some { k with img := { k.img with progs := tset k.img.progs p c } } }

/-- The key of an output word among those published. -/
def outKey (e : MapEntry) : Nat := e.kind * 65536 + e.index

/-- The image of a program reads or writes a station. -/
def pgmNames (g : Prog) (st : Nat) : Bool :=
  (inMap g.image ++ outMap g.image).any (fun e =>
    (e.kind == 3 && e.index / 512 == st) || (e.kind == 4 && e.index == st))

/-- The output image at a cycle's start: the values last published, 0 for a word never published (R387; log 32). -/
def lastImage (g : Prog) : List Byte := layImage (outMap g.image) (fun e => tget g.out (outKey e) 0)

/-- Enters the next entry of a cycle, or ends the cycle (R392, R400). -/
def enterNext (c : Nat) (y : Cycle) (s : Device) : Device :=
  match y.rest with
  | [] => modCore c (fun k => { k with cyc := some { y with ended := true } }) s
  | (pc, arg) :: rest =>
    let (n, s) := draw s
    let ra : Word := Config.returnAddress n
    let y := { y with rest, pc, ret := ra }
    modCore c (fun k => { k with
      regs := ((k.regs.set 1 ra).set 2 0x30008000#32).set 10 (BitVec.ofNat 32 arg), cyc := some y }) s

/-- PROGRAM_CYCLE_START (R399, R400): the head of a core's ready queue reads its input image and starts. A station that the
program names and that was lost between its cycles is reported here, with no word undelivered (DESIGN CHOICE, log 93). -/
def cycleStart (c : Nat) (s : Device) : Device :=
  match (tget s.dpt.coreReady c []), (coreOf s c).cyc with
  | (release, slot) :: rest, none =>
    if s.cfg.mode != .running || !s.dpt.run || envCores (envelope s) ≤ c || bit c s.pgm.lost then s
    else
      let s := { s with dpt.coreReady := tset s.dpt.coreReady c rest }
      let p := programOf s slot
      if (progOf s p).mode != .idle then
        modTask slot (fun k => { k with run := .waiting }) s
      else
        let now := nowS s
        let s := if s.kep.cut.any (fun k => k.te ≤ now) then capturePgm p s else s
        let g := progOf s p
        let (kind, cause, starting) := match g.pend with
          | some (k, z) => (k, z, true)
          | none => (g.kind, 0, false)
        let g := if starting then { g with inst := startData g kind, pend := none, kind } else g
        let from_ := g.last.getD now
        let err := lostSince s from_ now
        let ret := returnedSince s from_ now
        let i := g.image
        let main := ((imgEntry i 0).map (fun v => [(v, 0)])).getD []
        let entries := (if starting then initEntry i kind else []) ++ stationEntries i 4 err ++ stationEntries i 5 ret ++ main
        let (n, s) := draw s
        let y : Cycle := {
          prog := p, release, start := now, version := versionAt s now,
          input := layImage (inMap i) (inputWord s g), output := lastImage g,
          entries, rest := entries, nonce := n }
        let s := modProg p (fun _ => { g with mode := .running, ran := true, last := some now, undelivered := [] }) s
        let s := modTask slot (fun k => { k with run := .running, firings := k.firings + 1, last := some (now, y.version) }) s
        let s := pmcEdge 0x02 0x81 1 s
        let s := if starting then raise Ev.pgmStart [(1, p), (1, kind), (1, cause)] s else s
        let s := (err.filter (fun st => pgmNames g st && (stnOf s st).lostAt.any (fun t => g.endAt < t))).foldl
          (fun s st => raise Ev.pgmStationLost [(1, p), (1, st), (2, 0)] s) s
        let s := ret.foldl (fun s st => raise Ev.pgmStationReturn [(1, p), (1, st)] s) s
        enterNext c y s
  | _, _ => s

/-- Instance data as of the last committed epoch (R404). -/
def epochInst (s : Device) (p : Nat) : Option (Nat × List Byte) :=
  let valid := (s.kep.slots.map (·.2)).filter (fun q => q.state == 2)
  let best := valid.foldl (fun (a : Option KepSlot) q => match a with
    | some b => if b.epoch < q.epoch then some q else some b
    | none => some q) none
  match s.kep.journal.getLast? with
  | some r => (tfind r.img.progs p).map (fun c => (r.epoch, c.inst))
  | none => best.bind (fun q => (tfind q.img.progs p).map (fun c => (q.epoch, c.inst)))

/-- The instance data of a cycle is rolled back (R404). With no committed epoch the region stays as it is (log 32). -/
def rollback (y : Cycle) (s : Device) : Device :=
  if y.undoOver then
    match epochInst s y.prog with
    | some (e, inst) =>
      raise Ev.pgmRollbackEpoch [(1, y.prog), lo32 e]
        (modProg y.prog (fun g => { g with inst }) { s with pgm.rollback := s.pgm.rollback + 1 })
    | none => s
  else modProg y.prog (fun g => { g with inst := y.undo.foldl (fun b l => overwrite (64 * l.1) l.2 b) g.inst }) s

/-- The core is free and the task's cycle is over; a held release makes it ready again (R170). -/
def freeCore (c slot : Nat) (s : Device) : Device :=
  let held := (tget s.dpt.coreReady c []).any (fun x => x.2 == slot)
  modTask slot (fun k => { k with run := if held then .ready else .waiting }) (modCore c (fun k => { k with cyc := none }) s)

/-- A program enters FAULT (R388, R403): the image is discarded, the instance data rolled back. One that a commit has disabled
meanwhile ends DISABLED (Table PGM-5). -/
def faultProgram (c cause : Nat) (y : Cycle) (s : Device) : Device :=
  let s := freeCore c (pgmSlot s y.prog) (rollback y s)
  let mode : PgmMode := if bit 0 (fld 0 1 (pgmRec s y.prog)) then .fault else .disabled
  let s := modProg y.prog (fun g => { g with mode, cause, endAt := nowS s }) { s with pgm.faults := s.pgm.faults + 1 }
  raise Ev.pgmFault [(1, y.prog), (1, cause), (4, y.pc)] s

/-- One instruction takes effect (R385). -/
def applyInstr (c : Nat) (y : Cycle) (rd v pc : Nat) (writes : List (Nat × List Byte)) (s : Device) : Device :=
  let gy := writes.foldl (fun (a : Prog × Cycle) w => (memWrite a.1 a.2 w.1 w.2).getD a) (progOf s y.prog, y)
  let s := modProg y.prog (fun _ => gy.1) s
  let s := if rd = 0 then s else modCore c (fun k => { k with regs := k.regs.set rd (BitVec.ofNat 32 v) }) s
  let y := { gy.2 with pc }
  if BitVec.ofNat 32 pc = y.ret then enterNext c y s else modCore c (fun k => { k with cyc := some y }) s

/-- Runs the instruction at a core's pc when it meets a test; one that faults puts the program in FAULT. -/
def runInstr (c : Nat) (want : Rv → Bool) (s : Device) : Device :=
  match (coreOf s c).cyc with
  | none => s
  | some y =>
    if y.ended then s
    else
      let g := progOf s y.prog
      match fetchInstr g y with
      | .error cause => faultProgram c cause y s
      | .ok (i, len) =>
        if !want i then s
        else match cpuExec g y (coreOf s c) i len with
          | .ok rd v pc ws => applyInstr c y rd v pc ws s
          | .fault cause => faultProgram c cause y s

/-- The instruction belongs to the function-block extension. -/
def isFb (i : Rv) : Bool := match i with
  | .fb _ _ _ _ _ => true
  | _ => false

/-- The instruction is the function-block instruction with this funct3 and funct7. -/
def isFbOf (f f7 : Nat) (i : Rv) : Bool := match i with
  | .fb a b _ _ _ => a == f && b == f7
  | _ => false

/-- PROGRAM_FAULT (R388): the instruction at a core's pc faults. -/
def programFault (c : Nat) (s : Device) : Device :=
  match (coreOf s c).cyc with
  | none => s
  | some y =>
    if y.ended then s
    else match fetchInstr (progOf s y.prog) y with
      | .error cause => faultProgram c cause y s
      | .ok (i, len) =>
        match cpuExec (progOf s y.prog) y (coreOf s c) i len with
        | .fault cause => faultProgram c cause y s
        | .ok _ _ _ _ => s

/-- One changed output word leaves (R401, Table PGM-4). -/
def publishWord (p : Nat) (y : Cycle) (e : MapEntry) (v : Nat) (s : Device) : Device :=
  let tok := fun (slot : Nat) (bf : Bool) (s : Device) =>
    sendToken { time := y.start, version := y.version, bf, slot, operand := 1, source := 0x0400 + p,
                value := BitVec.ofNat 32 v } s
  match e.kind with
  | 1 => pinWrite e.index (bit 0 v) y.start s
  | 2 => sendOutput { kind := 1, index := e.index, code := signed 32 v, time := y.start, version := y.version } s
  | 3 => sendOutput { kind := 4, index := e.index, code := signed 32 v, time := y.start, version := y.version } s
  | 4 => let c := loopCfg (recNow s 0x03 1 e.index); tok c.slot c.bf s
  | 5 => tok (axisSlot s e.index) false s
  | _ => s

/-- The words of the output image that differ from those last published, and those never published (R401; log 32). -/
def changedWords (g : Prog) (y : Cycle) : List (MapEntry × Nat) :=
  ((outMap g.image).filter (fun e => tfind g.out (outKey e) != some (fld e.off 4 y.output))).map
    (fun e => (e, fld e.off 4 y.output))

/-- The words published once those of a cycle's output image have been (R401). -/
def publishedWords (g : Prog) (y : Cycle) : Tab Nat :=
  (outMap g.image).foldl (fun t e => tset t (outKey e) (fld e.off 4 y.output)) g.out

/-- Writes to a station lost during the cycle are undelivered, and the loss is reported to the program (R416). -/
def undeliveredTo (p : Nat) (y : Cycle) (ws : List (MapEntry × Nat)) (st : Nat) (s : Device) : Device :=
  let n := ws.countP (fun w => w.1.kind == 3 && w.1.index / 512 == st)
  if !pgmNames (progOf s p) st || !(stnOf s st).lostAt.any (fun t => y.start < t) then s
  else raise Ev.pgmStationLost [(1, p), (1, st), (2, n)]
    (modProg p (fun g => { g with undelivered := if n = 0 then g.undelivered else g.undelivered ++ [st] })
      { s with pgm.undelivered := s.pgm.undelivered + BitVec.ofNat 32 n })

/-- A cycle overruns T_MAX_US (R402). -/
def overrun (c : Nat) (y : Cycle) (tmax : Nat) (s : Device) : Device :=
  raise Ev.cycleOverrun [(1, y.prog), (4, (nowS s - y.start) / 256000), (4, tmax)]
    (modCore c (fun k => { k with cyc := some { y with overran := true } }) { s with pgm.overrun := s.pgm.overrun + 1 })

/-- The words `ws` that the cycle `y` changed are published, and the stations they did not reach reported (R401, R416). -/
def cyclePublish (y : Cycle) (ws : List (MapEntry × Nat)) (s : Device) : Device :=
  (s.eth.stations.map (·.1)).foldl (fun s st => undeliveredTo y.prog y ws st s)
    (ws.foldl (fun s w => publishWord y.prog y w.1 w.2 s) s)

/-- The core of the cycle `y` becomes free, and a continuous program is due again (R401). -/
def cycleClose (c : Nat) (y : Cycle) (s : Device) : Device :=
  let us := sat 16 ((nowS s - y.start) / 256000)
  let on := bit 0 (fld 0 1 (pgmRec s y.prog))
  let s := modProg y.prog (fun g => { g with
    out := if y.overran then g.out else publishedWords g y, mode := if on then .idle else .disabled,
    lastUs := us, maxUs := max g.maxUs us, endAt := nowS s }) s
  let slot := pgmSlot s y.prog
  let s := pmcEdge 0x04 0x81 (physCore s c) (freeCore c slot s)
  if on && pgmContinuous (pgmRec s y.prog) then enterRelease slot (nowS s + usT (fld 20 4 (pgmRec s y.prog))) s else s

/-- PROGRAM_CYCLE_END (R401, R402, R416): every entry has returned. -/
def cycleEnd (c : Nat) (s : Device) : Device :=
  match (coreOf s c).cyc with
  | none => s
  | some y0 =>
    if !y0.ended then s
    else match recAt s 0x04 1 y0.prog y0.start with
    | none => cycleClose c y0 (versionDrop 0x04 (versionAt s y0.start) s)
    | some b =>
      let late := y0.release + usT (fld 12 4 b) < nowS s
      let s := if late && !y0.overran then overrun c y0 (fld 12 4 b) s else s
      let y := { y0 with overran := y0.overran || late }
      cycleClose c y (cyclePublish y (if y.overran then [] else changedWords (progOf s y0.prog) y) s)

/-- CYCLE_OVERRUN (R402): T_MAX_US after its release the cycle is unfinished. -/
def cycleOverrun (c : Nat) (s : Device) : Device :=
  match (coreOf s c).cyc with
  | none => s
  | some y =>
    match recAt s 0x04 1 y.prog y.start with
    | none => s
    | some b => if y.overran || y.ended || nowS s < y.release + usT (fld 12 4 b) then s else overrun c y (fld 12 4 b) s

/-- CYCLE_ABORT (R403). -/
def cycleAbort (c : Nat) (s : Device) : Device :=
  match (coreOf s c).cyc with
  | none => s
  | some y =>
    match recAt s 0x04 1 y.prog y.start with
    | none => s
    | some b => if y.ended || nowS s < y.release + usT (fld 16 4 b) then s else faultProgram c 5 y s

/-! ## Loading and exchange (R396, R397, R410 to R412) -/

/-- The image of a command: its host buffer, or the window bound to `src` when BUF_LEN is 0, P0 giving the length
(R429). Data that has not come, or came damaged, is a data error, which drops what the window has brought; bytes beyond the
image wait for the next one (DESIGN CHOICE, log 34). -/
def imageOf (src : Nat) (d : Desc) (s : Device) : Option (List Byte) × Device :=
  if d.bufLen != 0 then (some (d.buf.bytes.take d.bufLen.toNat), s)
  else match windowOf s src with
    | none => (none, s)
    | some w =>
      let q := winOf s w
      let all := q.rx.flatten
      let ok := !q.bad && d.p0.toNat ≤ all.length
      let rest := if ok then all.drop d.p0.toNat else []
      let s := modWin w (fun q => { q with rx := if rest.isEmpty then [] else [rest], bad := false }) s
      (if ok then some (all.take d.p0.toNat) else none, s)

/-- Bytes free in the program store, program `p` left out (R397). -/
def programRoom (s : Device) (p : Nat) : Nat :=
  33554432 - s.kep.base.length - ((s.kep.programs.filter (fun e => e.1 != p)).map (fun e => e.2.length)).sum

/-- An image is kept in the Keep program store while the store has room; the answer is HOST_RELOAD (R397). -/
def storeImage (p : Nat) (i : List Byte) (s : Device) : Bool × Device :=
  if i.length ≤ programRoom s p then
    (false, { s with kep.programs := tset s.kep.programs p i, kep.reload := s.kep.reload.erase p })
  else (true, { s with kep.programs := tdel s.kep.programs p, kep.reload := p :: s.kep.reload.erase p })

/-- The Keep holds the image in force again after an exchange that did not take effect (R412). -/
def restoreImage (p : Nat) (s : Device) : Device :=
  let (host, s) := storeImage p (progOf s p).image s
  modProg p (fun g => { g with exch := none, exchAck := false, hostReload := host }) s

/-- Exchanges that are not in effect are dropped, and the old images resume (R412). -/
def dropExchanges (s : Device) : Device :=
  ((s.pgm.progs.filter (fun e => e.2.exch.isSome)).map (·.1)).foldl (fun s p => restoreImage p s) s

/-- A program without an image, because the store did not hold it, is named (R397). -/
def nameReload (s : Device) : Device :=
  (s.pgm.progs.filter (fun e => e.2.hostReload && e.2.image.isEmpty)).foldl
    (fun s e => raise Ev.pgmImageReload [(1, e.1)] s) s

/-- Instance bytes of all programs, with a new size for program `p`. -/
def instTotal (s : Device) (p n : Nat) : Nat :=
  n + ((s.pgm.progs.filter (fun e => e.1 != p)).map (fun e => imgInstSize e.2.image)).sum

/-- The checks of a program image in their order: a status with its DETAIL, or the image (R391, R395, R396). -/
def checkProgram (p : Nat) (d : Desc) (s : Device) : Except (Status × Nat) (List Byte) × Device :=
  match imageOf 0x0401 d s with
  | (none, s) => (.error (.dataError, 0), s)
  | (some i, s) =>
    if fld 0 4 i ≠ 0x47505A4B then (.error (.badField, 16), s)
    else if fld 4 2 i ≠ 1 then (.error (.unsupported, 0), s)
    else if fld 8 4 i ≠ i.length ∨ i.length < 64 then (.error (.badField, 16), s)
    else if fld 60 4 i ≠ (crc32c (crcZeroed 60 i)).toNat then (.error (.dataError, 0), s)
    else match checkSigned i (fld 56 4 i) 1 3 4 (appSigned s) s with
      | (false, s) => (.error (.dataError, 0), s)
      | (true, s) =>
        if !imageOk s p i then (.error (.badField, 16), s)
        else if 8388608 < instTotal s p (imgInstSize i) then (.error (.rejectedState, 0), s)
        else (.ok i, s)

/-- Form of a command that brings an image: P0 gives its length when BUF_LEN is 0 (R429). -/
def imageForm (d : Desc) : Form := { pmask := if d.bufLen == 0 then 1 else 0, bufMax := 16777216 }

/-- PGM_LOAD (R396, R397, Table PGM-9). -/
def pgmLoad (bad : List Nat) (p : Pend) (s : Device) : CmdEnd :=
  let d := p.desc
  let n := d.target.toNat
  let m := (progOf s n).mode
  checked [
    .when (255 < n || !created s 0x04 1 n) .notFound 0,
    .bad (imageForm d) [],
    .when (s.cfg.mode == .running && (m == .idle || m == .running)) .rejectedState 0,
    .buffer]
    (fun p s =>
      match checkProgram n d s with
      | (.error (st, det), s) => .fail st det s
      | (.ok i, s) => keepWrite bad (fun s =>
        let (host, s) := storeImage n i s
        let on := bit 0 (fld 0 1 (pgmRec s n))
        let s := modProg n (fun g => { g with
          image := i, inst := imgInit i, hostReload := host, ran := false, pend := some (0, 0)
          last := none, undelivered := [], mode := if on then .idle else .disabled }) s
        let b := pgmRec s n
        let s := if on && s.cfg.mode == .running then
          setRelease (pgmSlot s n) (if pgmContinuous b then nowS s else nextPeriodic b (nowS s)) s else s
        syncOk (imgId i) p s) s) p s

/-- PGM_EXCHANGE (R410): the image is staged and stored; the exchange completes at a boundary. -/
def pgmExchange (bad : List Nat) (p : Pend) (s : Device) : CmdEnd :=
  let d := p.desc
  let n := d.target.toNat
  let g := progOf s n
  checked [
    .when (255 < n || !created s 0x04 1 n) .notFound 0,
    .bad (imageForm d) [],
    .when (s.cfg.mode != .running || g.mode == .disabled || g.mode == .noImage || g.exch.isSome) .rejectedState 0,
    .buffer]
    (fun p s =>
      match checkProgram n d s with
      | (.error (st, det), s) => .fail st det s
      | (.ok i, s) => keepWrite bad (fun s =>
        let (host, s) := storeImage n i s
        let s := modProg n (fun g => { g with exch := some (p, i, nowS s), exchAck := false, hostReload := host }) s
        .wait (if s.pai.synced then (shipUpdate (persistCfg s) (.image n) s).2 else s)) s) p s

/-- The instance data of a new image, members kept from the old one (R411). -/
def carryOver (old new inst : List Byte) : List Byte :=
  (instances new).foldl (fun b e =>
    match (instances old).find? (fun o => o.iid == e.iid && o.typ == e.typ) with
    | none => b
    | some o => (membersOf new e.typ).foldl (fun b m =>
      match (membersOf old o.typ).find? (fun x => x.id == m.id && x.kind == m.kind && x.size == m.size) with
      | some x => overwrite (e.off + m.off) ((inst.drop (o.off + x.off)).take x.size) b
      | none => b) b) (imgInit new)

/-- Instances kept, started cold and dropped by an exchange (R411). -/
def carryCounts (old new : List Byte) : Nat × Nat × Nat :=
  let kept := (instances new).countP (fun e => (instances old).any (fun o => o.iid == e.iid && o.typ == e.typ))
  (kept, (instances new).length - kept,
   (instances old).countP (fun o => !(instances new).any (fun e => e.iid == o.iid)))

/-- PROGRAM_EXCHANGE_BOUNDARY (R410 to R412): between cycles, or at once in FAULT, and in a pair whose standby is
SYNCED once the peer has acknowledged the image. -/
def exchangeBoundary (n : Nat) (s : Device) : Device :=
  let g := progOf s n
  match g.exch with
  | none => s
  | some (p, i, _) =>
    if g.mode == .running || (s.pai.synced && !g.exchAck) then s
    else
      let s := if s.kep.cut.any (fun k => k.te ≤ nowS s) then capturePgm n s else s
      let (kept, cold, drop) := carryCounts g.image i
      let was := g.mode
      let (host, s) := storeImage n i s
      let s := modProg n (fun g => { g with
        image := i, hostReload := host, inst := carryOver g.image i g.inst, exch := none, exchAck := false,
        mode := if g.mode == .fault then .idle else g.mode }) s
      let s := if was == .fault && pgmContinuous (pgmRec s n) then setRelease (pgmSlot s n) (nowS s) s else s
      let s := raise Ev.pgmExchanged [(1, n), (2, kept), (2, cold), (2, drop)] s
      finish p .ok (min kept 4095 + min cold 4095 * 4096) [] s

/-- PGM_EXCHANGE_TIMEOUT (R429): no boundary within T_ABORT_US + 10 ms. -/
def exchangeTimeout (n : Nat) (s : Device) : Device :=
  match (progOf s n).exch with
  | none => s
  | some (p, _, at_) =>
    if nowS s < at_ + usT (fld 16 4 (pgmRec s n)) + msT 10 then s
    else
      let s := restoreImage n s
      let s := if s.pai.synced then (shipUpdate (persistCfg s) .update s).2 else s
      finish p .timeout 0 [] s

/-- State code of a program (Table PGM-11). -/
def pgmCode (m : PgmMode) : Nat := match m with
  | .disabled => 0
  | .noImage => 1
  | .idle => 2
  | .running => 3
  | .fault => 4

/-- PGM_RESTART (R413). -/
def pgmRestart (p : Pend) (s : Device) : CmdEnd :=
  let d := p.desc
  let n := d.target.toNat
  let m := (progOf s n).mode
  checked [
    .when (255 < n || !created s 0x04 1 n) .notFound 0,
    .bad { pmask := 1 } [(1 < d.p0.toNat, 24)],
    .when (m == .disabled || m == .noImage) .rejectedState 0]
    (fun _ s =>
      let s := modProg n (fun g => { g with
        pend := some (if d.p0 = 0 then 1 else 0, 0), mode := if g.mode == .fault then .idle else g.mode }) s
      let s := if m == .fault && pgmContinuous (pgmRec s n) then setRelease (pgmSlot s n) (nowS s) s else s
      okWith (pgmCode m) s) p s

/-- Instance data as of the last cycle end: a running cycle's writes undone (R404, R429). -/
def instAtEnd (s : Device) (n : Nat) : List Byte :=
  let g := progOf s n
  match (s.pgm.run_.filterMap (fun c => c.2.cyc)).find? (fun y => y.prog == n) with
  | some y => y.undo.foldl (fun b l => overwrite (64 * l.1) l.2 b) g.inst
  | none => g.inst

/-- PGM_READ_INSTANCE (R429). -/
def readInstance (p : Pend) (s : Device) : CmdEnd :=
  let d := p.desc
  let n := d.target.toNat
  let e := (instances (progOf s n).image).find? (fun e => e.iid == d.p0.toNat)
  let size := (e.map (·.size)).getD 0
  checked [
    .when (255 < n || !created s 0x04 1 n || e.isNone) .notFound 0,
    .bad { pmask := 1, bufMin := size, bufMax := 16777216 } []]
    (fun _ s => okBuf size (((instAtEnd s n).drop ((e.map (·.off)).getD 0)).take size) s) p s

/-- PGM_CLEAR_COUNTERS (R429). -/
def pgmClear (p : Pend) (s : Device) : CmdEnd :=
  let m := p.desc.p0.toNat
  checked [.bad { target := false, pmask := 1 } [(64 ≤ m, 24)]]
    (fun _ s => okWith 0 { s with pgm := { s.pgm with
      overrun := clr m 0 s.pgm.overrun, faults := clr m 1 s.pgm.faults, undelivered := clr m 2 s.pgm.undelivered,
      coreErr := clr m 3 s.pgm.coreErr, rollback := clr m 4 s.pgm.rollback, secCorr := clr m 5 s.pgm.secCorr } }) p s

/-! ## Configuration -/

/-- The releases of an enabled program after a commit that changes its start, period or phase (R398). -/
def restartReleases (n : Nat) (old : List Byte) (s : Device) : Device :=
  let b := pgmRec s n
  let slot := pgmSlot s n
  if !pgmContinuous b then
    if pgmContinuous old || fld 4 8 old != fld 4 8 b then setRelease slot (nextPeriodic b (nowS s)) s else s
  else if pgmContinuous old then s
  else if (taskOf s slot).run == .waiting then setRelease slot (nowS s) s
  else { s with dpt.delay := s.dpt.delay.filter (fun e => e.2.1 != slot) }

/-- A program starts anew or stops at a commit of ENABLE (Table PGM-5). -/
def commitPgm (old : Nat → List Byte) (s : Device) : Device :=
  (objsOf s 0x04 1).foldl (fun s n =>
    let b := pgmRec s n
    let was := bit 0 (fld 0 1 (old n))
    let is := bit 0 (fld 0 1 b)
    let g := progOf s n
    if is && !was then
      let s := modProg n (fun g => { g with mode :=
        if g.mode == .running then g.mode else if g.image.isEmpty then .noImage else .idle }) s
      setRelease (pgmSlot s n) (if pgmContinuous b then nowS s else nextPeriodic b (nowS s)) s
    else if was && !is then
      let s := if g.mode == .running then s else modProg n (fun g => { g with mode := .disabled }) s
      { s with dpt.delay := s.dpt.delay.filter (fun e => e.2.1 != pgmSlot s n) }
    else if is && s.cfg.mode == .running then restartReleases n (old n) s
    else s) s

/-- The image of a program: that of the Keep, or one that DRAM alone holds (R397). -/
def heldImage (s : Device) (n : Nat) : List Byte := (tfind s.kep.programs n).getD (progOf s n).image

/-- PGM at CFG_LOAD_BASE: programs of the new configuration, with the images held for them (R397). -/
def loadPgm (s : Device) : Device :=
  let progs := (objsOf s 0x04 1).map fun n =>
    let i := heldImage s n
    let on := bit 0 (fld 0 1 (pgmRec s n))
    let g : Prog := { image := i, hostReload := s.kep.reload.contains n, inst := imgInit i, pend := if i.isEmpty then none else some (0, 0),
                      mode := if !on then .disabled else if i.isEmpty then .noImage else .idle }
    (n, g)
  { s with pgm.progs := progs, pgm.run_ := [] }

/-- CFG_RUN: programs start COLD where that is pending or they have not run since their image was loaded, else WARM,
and are released (R398, R413). -/
def runPgm (s : Device) : Device :=
  (objsOf s 0x04 1).foldl (fun s n =>
    let b := pgmRec s n
    let s := modProg n (fun g => { g with pend := match g.pend with
      | some (0, z) => some (0, z)
      | _ => if g.ran then some (1, 0) else some (0, 0) }) s
    if bit 0 (fld 0 1 b) then
      setRelease (pgmSlot s n) (if pgmContinuous b then nowS s else nextPeriodic b (nowS s)) s else s) { s with pgm.run := true }

/-- CFG_STOP, or the loss of the Spire die: cycles end where they are and nothing is released. -/
def stopPgm (s : Device) : Device :=
  let s := (s.pgm.run_.filterMap (fun c => c.2.cyc)).foldl (fun s y =>
    modProg y.prog (fun g => { g with mode := if g.mode == .running then .idle else g.mode }) (rollback y s)) s
  { s with pgm.run := false, pgm.run_ := tmap s.pgm.run_ (fun _ k => { k with cyc := none }), dpt.delay := [], dpt.coreReady := [] }

/-! ## The rows of the table of operations -/

/-- PROGRAM_CYCLE_START (R399): A core starts a ready cycle by reading its input image and runs its entries. -/
def execProgramCycleStart (c : Nat) (s : State) : Host.Outcome State Fault Refusal :=
  .next { s with dev := cycleStart c s.dev }

/-- PROGRAM_CYCLE_END (R401): A cycle ends, and its output image is published or discarded. -/
def execProgramCycleEnd (c : Nat) (s : State) : Host.Outcome State Fault Refusal :=
  .next { s with dev := cycleEnd c s.dev }

/-- CYCLE_OVERRUN (R402): T_MAX_US after release with the cycle unfinished, its outputs are to be discarded. -/
def execCycleOverrun (c : Nat) (s : State) : Host.Outcome State Fault Refusal :=
  .next { s with dev := Sys2Proof.Machine.cycleOverrun c s.dev }

/-- CYCLE_ABORT (R403): T_ABORT_US after release, the cycle is aborted and rolled back, and the program enters
FAULT. -/
def execCycleAbort (c : Nat) (s : State) : Host.Outcome State Fault Refusal :=
  .next { s with dev := cycleAbort c s.dev }

/-- PROGRAM_FAULT (R388): An illegal instruction, access fault, misalignment, ECALL or EBREAK puts the program
in FAULT. -/
def execProgramFault (c : Nat) (s : State) : Host.Outcome State Fault Refusal :=
  .next { s with dev := programFault c s.dev }

/-- PROGRAM_INSTRUCTION (R385): A core executes an RV32IMC instruction of the running program. -/
def execProgramInstruction (c : Nat) (s : State) : Host.Outcome State Fault Refusal :=
  .next { s with dev := runInstr c (fun x => !isFb x) s.dev }

/-- FB_TON (R409): On-delay timer instruction. -/
def execFbTon (c : Nat) (s : State) : Host.Outcome State Fault Refusal :=
  .next { s with dev := runInstr c (isFbOf 0 0) s.dev }

/-- FB_TOF (R409): Off-delay timer instruction. -/
def execFbTof (c : Nat) (s : State) : Host.Outcome State Fault Refusal :=
  .next { s with dev := runInstr c (isFbOf 0 1) s.dev }

/-- FB_TP (R409): Pulse timer instruction. -/
def execFbTp (c : Nat) (s : State) : Host.Outcome State Fault Refusal :=
  .next { s with dev := runInstr c (isFbOf 0 2) s.dev }

/-- FB_RTRIG (R409): Rising-edge detection instruction. -/
def execFbRtrig (c : Nat) (s : State) : Host.Outcome State Fault Refusal :=
  .next { s with dev := runInstr c (isFbOf 1 0) s.dev }

/-- FB_FTRIG (R409): Falling-edge detection instruction. -/
def execFbFtrig (c : Nat) (s : State) : Host.Outcome State Fault Refusal :=
  .next { s with dev := runInstr c (isFbOf 1 1) s.dev }

/-- FB_CTU (R409): Up-counter instruction. -/
def execFbCtu (c : Nat) (s : State) : Host.Outcome State Fault Refusal :=
  .next { s with dev := runInstr c (isFbOf 2 0) s.dev }

/-- FB_CTD (R409): Down-counter instruction. -/
def execFbCtd (c : Nat) (s : State) : Host.Outcome State Fault Refusal :=
  .next { s with dev := runInstr c (isFbOf 2 1) s.dev }

/-- FB_NOW (R407): Returns the low 32 bits of S. -/
def execFbNow (c : Nat) (s : State) : Host.Outcome State Fault Refusal :=
  .next { s with dev := runInstr c (isFbOf 4 0) s.dev }

/-- FB_NOWH (R407): Returns the high 32 bits of S. -/
def execFbNowh (c : Nat) (s : State) : Host.Outcome State Fault Refusal :=
  .next { s with dev := runInstr c (isFbOf 4 1) s.dev }

/-- PROGRAM_EXCHANGE_BOUNDARY (R410): At the first cycle boundary after staging, the new image replaces the old
with instances carried over. -/
def execProgramExchangeBoundary (n : Nat) (s : State) : Host.Outcome State Fault Refusal :=
  .next { s with dev := exchangeBoundary n s.dev }

/-- PGM_LOAD (R396): Loads and checks a program image. -/
def execPgmLoad (d : Desc) (s : State) : Host.Outcome State Fault Refusal :=
  .next { s with dev := runCmd (pgmLoad d.bad) d s.dev }

/-- PGM_EXCHANGE (R410): Stages a new image for online exchange. -/
def execPgmExchange (d : Desc) (s : State) : Host.Outcome State Fault Refusal :=
  .next { s with dev := runCmd (pgmExchange d.bad) d s.dev }

/-- PGM_RESTART (R413): Restarts a program WARM or COLD. -/
def execPgmRestart (d : Desc) (s : State) : Host.Outcome State Fault Refusal :=
  .next { s with dev := runCmd pgmRestart d s.dev }

/-- PGM_READ_INSTANCE (R429): Copies an instance to the host. -/
def execPgmReadInstance (d : Desc) (s : State) : Host.Outcome State Fault Refusal :=
  .next { s with dev := runCmd readInstance d s.dev }

/-- PGM_CLEAR_COUNTERS (R429): Clears the selected PGM counters. -/
def execPgmClearCounters (d : Desc) (s : State) : Host.Outcome State Fault Refusal :=
  .next { s with dev := runCmd pgmClear d s.dev }

/-- PGM_EXCHANGE_TIMEOUT (R429): PGM_EXCHANGE with no cycle boundary within T_ABORT_US + 10 ms is withdrawn and
completes with TIMEOUT. -/
def execPgmExchangeTimeout (n : Nat) (s : State) : Host.Outcome State Fault Refusal :=
  .next { s with dev := exchangeTimeout n s.dev }

end Sys2Proof.Machine
end

