-- ==== Sys2Proof/Machine/Fbl.lean ====
section
/-!
DEFINITION. Machine/Fbl.lean: the fallback bit logic (10_program_execution, R419 to R428).
-/
namespace Sys2Proof.Machine

/-! ## Images (R420 to R424) -/

def fblInstr (i : List Byte) : Nat := fld 6 2 i
/-- T: where the tables of an image start (R422). -/
def fblTables (i : List Byte) : Nat := (32 + 2 * fblInstr i + 7) / 8 * 8
def fblLength (i : List Byte) : Nat := fblTables i + 448
def fblPt (i : List Byte) (k : Nat) : Nat := fld (fblTables i + 4 * k) 2 i
def fblCompare (i : List Byte) (k : Nat) : List Byte := (i.drop (fblTables i + 128 + 8 * k)).take 8
/-- The pin output bit `k` is mapped to, if one is. -/
def fblPin (i : List Byte) (k : Nat) : Option Nat :=
  let p := fld (fblTables i + 384 + k) 1 i
  if p = 0xFF then none else some p

/-- The instruction words of an image. -/
def fblCode (i : List Byte) : List Nat := (List.range (fblInstr i)).map (fun k => fld (32 + 2 * k) 2 i)

/-- The operand is legal for the opcode (Tables FBL-1 and FBL-2). NOP takes any operand (DESIGN CHOICE, log 35). -/
def fblOperandOk (op v : Nat) : Bool :=
  let writable := (0x80 ≤ v && v < 0xC0) || (0x100 ≤ v && v < 0x200)
  if op = 0 then true
  else if op ≤ 7 then v < 0x200
  else if op ≤ 0x0A then v == 0
  else if op ≤ 0x0E then writable
  else if op ≤ 0x11 then 0xC0 ≤ v && v < 0xE0
  else if op ≤ 0x13 then 0x100 ≤ v && v < 0x200
  else if op ≤ 0x15 then v != 0
  else v == 0

/-- Nesting depth after an instruction, none where a bracket does not match or the depth passes 16. -/
def fblDepth (d op : Nat) : Option Nat :=
  if op = 8 ∨ op = 9 then (if d < 16 then some (d + 1) else none)
  else if op = 0x0A then (if d = 0 then none else some (d - 1))
  else some d

/-- Depths before each instruction; the list ends where one does not match. -/
def fblDepths : Nat → List Nat → List Nat
  | _, [] => []
  | d, w :: rest =>
    d :: (match fblDepth d (w / 1024) with
      | some e => fblDepths e rest
      | none => [])

/-- The first fault of R424 in one instruction, with what follows it. -/
def fblFaultAt (code depths : List Nat) (k : Nat) : Option Nat :=
  let w := code.getD k 0
  let op := w / 1024
  let v := w % 1024
  let d := depths.getD k 0
  let nextOp := code.getD (k + 1) 0xFFFF / 1024
  if 0x17 < op ∧ op ≠ 0x3F then some 2
  else if !fblOperandOk op v then some 3
  else if (fblDepth d op).isNone ∨ (op = 0x3F ∧ d ≠ 0) ∨ ((op = 8 ∨ op = 9) ∧ nextOp ≠ 1 ∧ nextOp ≠ 2) then some 4
  else if (op = 0x14 ∨ op = 0x15) ∧ (code.length ≤ k + 1 + v ∨ depths.getD (k + 1 + v) 17 ≠ d) then some 5
  else if 0x0F ≤ op ∧ op ≤ 0x11 ∧
      (code.take k).any (fun u => 0x0F ≤ u / 1024 && u / 1024 ≤ 0x11 && u % 1024 == v) then some 7
  else none

/-- A table field out of range: reserved bits of the timer words and compare entries, and a pin over 95. -/
def fblTableBad (i : List Byte) : Bool :=
  (List.range 32).any (fun k => fld (fblTables i + 4 * k + 2) 2 i != 0 || 7 < fld 1 1 (fblCompare i k)) ||
  (List.range 64).any (fun k => (fblPin i k).any (fun p => 95 < p))

/-- What FBL_LOAD refuses an image for: instruction index and reason (R424). -/
def fblFault (i : List Byte) : Option (Nat × Nat) :=
  let code := fblCode i
  let depths := fblDepths 0 code
  let first := (List.range code.length).findSome? (fun k => (fblFaultAt code depths k).map (fun r => (k, r)))
  match first with
  | some x => some x
  | none =>
    if !code.any (fun w => w / 1024 == 0x3F) then some (code.length - 1, 6)
    else if fblTableBad i then some (0, 8) else none

/-- The header keeps R422, the FORMAT apart. -/
def fblHeaderOk (i : List Byte) (given : Nat) : Bool :=
  fld 0 4 i == 0x42465A4B && 1 ≤ fblInstr i && fblInstr i ≤ 4096 && fld 8 4 i == fblLength i &&
  (given == fblLength i || given == fblLength i + 3096) && fld 16 4 i == 0 && fld 20 4 i == 0 && fld 24 4 i == 0

/-! ## The scan -/

/-- FBL during a scan: RLO, nesting stack, outputs, flags, timers, instructions to skip, instructions executed, and
whether END was reached. -/
structure Scan where
  rlo   : Bool := false
  stack : List (Bool × Bool) := []
  outs  : Nat
  flags : Nat
  timers : Tab FbTimer
  skip  : Nat := 0
  done  : Nat := 0
  ended : Bool := false
deriving DecidableEq, Repr

/-- What a scan latched at its start: levels, compare inputs, and ONE, FIRST_SCAN, IN_CONTROL, SPIRE_UP, STANDBY. -/
structure Latch where
  levels : Nat
  cmp    : Nat
  fixed  : Nat
  ns     : Nat
deriving DecidableEq, Repr

/-- The bit an operand names (Table FBL-1). -/
def scanBit (l : Latch) (c : Scan) (v : Nat) : Bool :=
  if v < 0x60 then bit v l.levels
  else if v < 0x80 then bit (v - 0x60) l.cmp
  else if v < 0xC0 then bit (v - 0x80) c.outs
  else if v < 0xE0 then (tget c.timers (v - 0xC0) {}).q
  else if v < 0x100 then bit (v - 0xE0) l.fixed
  else bit (v - 0x100) c.flags

/-- Writes an output bit or a flag. -/
def scanPut (v : Nat) (b : Bool) (c : Scan) : Scan :=
  if v < 0x100 then { c with outs := putBit (v - 0x80) b c.outs } else { c with flags := putBit (v - 0x100) b c.flags }

/-- A timer instruction: R409 with PT in ms. -/
def scanTimer (op k pt ns : Nat) (c : Scan) : Scan :=
  let m := tget c.timers k {}
  let t : TimerMem := { start := m.start / 256, pt, inLast := m.inLast, q := m.q, run := m.run }
  let t := (if op = 0x0F then timTon else if op = 0x10 then timTof else timTp) ns 1000000 t c.rlo
  { c with timers := tset c.timers k { start := t.start * 256, inLast := t.inLast, q := t.q, run := t.run } }

/-- One instruction (Table FBL-2). -/
def scanExec (i : List Byte) (l : Latch) (w : Nat) (c : Scan) : Scan :=
  let op := w / 1024
  let v := w % 1024
  let b := scanBit l c v
  let c := { c with done := c.done + 1 }
  match op with
  | 0x01 => { c with rlo := b }
  | 0x02 => { c with rlo := !b }
  | 0x03 => { c with rlo := c.rlo && b }
  | 0x04 => { c with rlo := c.rlo && !b }
  | 0x05 => { c with rlo := c.rlo || b }
  | 0x06 => { c with rlo := c.rlo || !b }
  | 0x07 => { c with rlo := c.rlo != b }
  | 0x08 => { c with stack := (c.rlo, true) :: c.stack }
  | 0x09 => { c with stack := (c.rlo, false) :: c.stack }
  | 0x0A => match c.stack with
    | (r, conj) :: rest => { c with rlo := if conj then r && c.rlo else r || c.rlo, stack := rest }
    | [] => c
  | 0x0B => scanPut v c.rlo c
  | 0x0C => scanPut v (!c.rlo) c
  | 0x0D => if c.rlo then scanPut v true c else c
  | 0x0E => if c.rlo then scanPut v false c else c
  | 0x12 => { scanPut v c.rlo c with rlo := c.rlo && !b }
  | 0x13 => { scanPut v c.rlo c with rlo := !c.rlo && b }
  | 0x14 => if c.rlo then { c with skip := v } else c
  | 0x15 => { c with skip := v }
  | 0x16 => { c with rlo := true }
  | 0x17 => { c with rlo := false }
  | 0x3F => { c with ended := true }
  | _ => if 0x0F ≤ op ∧ op ≤ 0x11 then scanTimer op (v - 0xC0) (fblPt i (v - 0xC0)) l.ns c else c

/-- One instruction of the list, executed, skipped, or after END. -/
def scanStep (i : List Byte) (l : Latch) (c : Scan) (w : Nat) : Scan :=
  if c.ended then c
  else if 0 < c.skip then { c with skip := c.skip - 1 }
  else scanExec i l w c

/-- No result of the channel has arrived for 10 ms, or the input is not enabled (R423). -/
def compareStale (s : Device) (e : List Byte) (t : STime) : Bool :=
  !bit 2 (fld 1 1 e) || (chanOf s (fld 0 1 e)).resultAt.all (fun x => x + msT 10 ≤ t)

/-- A compare input at a scan (R423). -/
def compareInput (s : Device) (e : List Byte) (t : STime) (was : Bool) : Bool :=
  let f := fld 1 1 e
  let r := (chanOf s (fld 0 1 e)).result
  let th := sfld 4 4 e
  let hyst : Int := fld 2 2 e
  if compareStale s e t then bit 1 f
  else if bit 0 f then (if r ≤ th then true else if th + hyst < r then false else was)
  else if th ≤ r then true else if r < th - hyst then false else was

/-- A mask of 32 truth values. -/
def mask32 (f : Nat → Bool) : Nat := ((List.range 32).map (fun k => flag k (f k))).sum

/-- The mapped pins follow the output image while FBL is in control; a mapped pin that cannot is named once (R426). -/
def fblDrive (s : Device) : Device :=
  if !s.fbl.control || s.pai.standby || s.fbl.image.isEmpty then s
  else (List.range 64).foldl (fun s k =>
    match fblPin s.fbl.image k with
    | none => s
    | some p =>
      if pinIsOutput (recNow s 0x0A 1 p) && bit p s.dio.oe then modPin p (fun q => { q with out := bit k s.fbl.outs }) s
      else if s.fbl.ignored.contains p then s
      else raise Ev.fblMapIgnored [(1, k), (1, p)] { s with fbl.ignored := s.fbl.ignored ++ [p] }) s

/-- The image that was accepted takes effect at a scan boundary (R424). -/
def fblSwap (s : Device) : Device :=
  match s.fbl.next with
  | none => s
  | some i => { s with
      fbl.image := i, fbl.next := none, fbl.id := fld 12 4 i, fbl.flags := 0, fbl.timers := [], fbl.outs := 0,
      fbl.first := true, fbl.ignored := [], fbl.cmp := 0, fbl.cmpStale := 0 }

/-- What the scan at `t` latches, with compare inputs going stale named (R419, R423). -/
def fblLatch (t : STime) (s : Device) : Latch × Device :=
  let i := s.fbl.image
  let stale := mask32 (fun k => compareStale s (fblCompare i k) t)
  let cmp := mask32 (fun k => compareInput s (fblCompare i k) t (bit k s.fbl.cmp))
  let levels := ((List.range 96).map (fun n => flag n (pinLevel s n))).sum
  let fresh := (List.range 32).filter (fun k => bit k stale && !bit k s.fbl.cmpStale)
  let s := fresh.foldl (fun s k => raise Ev.fblCompareStale [(1, k)] s) s
  let fixed := 1 + flag 1 s.fbl.first + flag 2 s.fbl.control + flag 3 s.btr.spireUp + flag 4 s.pai.standby
  (⟨levels, cmp, fixed, t / 256⟩, { s with fbl.cmp := cmp, fbl.cmpStale := stale, fbl.levels := levels })

/-- FBL_SCAN (R419, R424 to R428): the scan of the last multiple of 50 µs, when it has not been made. A scan's cycle count
is the instructions it executes and 64. -/
def fblScan (s : Device) : Device :=
  let t := nowD s / usT 50 * usT 50
  if t = s.fbl.scanAt || s.clk.held.isSome then s
  else
    let s := fblSwap { s with fbl.scanAt := t }
    let i := s.fbl.image
    if i.isEmpty then s
    else
      let (l, s) := fblLatch t s
      let c : Scan := { outs := s.fbl.outs, flags := s.fbl.flags, timers := s.fbl.timers }
      let c := (fblCode i).foldl (scanStep i l) c
      fblDrive { s with
        fbl.outs := c.outs, fbl.flags := c.flags, fbl.timers := c.timers, fbl.first := false,
        fbl.scans := s.fbl.scans + 1, fbl.maxScan := max s.fbl.maxScan (c.done + 64) }

/-! ## Control -/

/-- Why FBL has to be in control: 1 CFG, 2 Spire reset, 3 link down (R425). -/
def fblCause (s : Device) : Option Nat :=
  if s.cfg.mode != .running then some 1
  else if !s.btr.spireUp then some 2
  else if !s.btr.linkUp then some 3
  else none

/-- FBL_TAKE_CONTROL (R425): FBL takes control by applying the output image of its last completed scan. -/
def fblTake (s : Device) : Device :=
  match fblCause s with
  | none => s
  | some c =>
    if s.fbl.control || s.clk.held.isSome then s
    else fblDrive (raise Ev.fblControl [(1, 1), (1, c)]
      { s with fbl.control := true, fbl.takeCause := c, fbl.takes := s.fbl.takes + 1 })

/-- FBL yields when the Spire die is in control with CFG RUNNING (R427). -/
def fblYield (s : Device) : Device :=
  if !s.fbl.control || (fblCause s).isSome then s
  else raise Ev.fblControl [(1, 0), (1, s.fbl.takeCause)] { s with fbl.control := false }

/-! ## Commands -/

/-- An image FBL_LOAD refuses: FBL_ERRINFO and BAD_FIELD. -/
def fblRefuse (index reason : Nat) (s : Device) : CmdEnd :=
  .fail .badField 16 { s with fbl.errIndex := index, fbl.errReason := reason }

/-- FBL_LOAD (R422 to R424, R428): refused while FBL has taken control or has to (log 30). -/
def fblLoad (bad : List Nat) (p : Pend) (s : Device) : CmdEnd :=
  let d := p.desc
  checked [.bad { imageForm d with target := false } [], .when (s.fbl.control || (fblCause s).isSome) .rejectedState 0, .buffer]
    (fun p s =>
      match imageOf 0x0501 d s with
      | (none, s) => .fail .dataError 0 s
      | (some g, s) =>
        let i := g.take (fblLength g)
        if fld 0 4 g = 0x42465A4B ∧ fld 4 2 g ≠ 1 then .fail .unsupported 0 s
        else if !fblHeaderOk g g.length then fblRefuse 0 1 s
        else if fld 28 4 i ≠ (crc32c (crcZeroed 28 i)).toNat then .fail .dataError 0 s
        else
          let off := if g.length = i.length then 0 else i.length
          match checkSigned g off 1 3 5 (appSigned s) s with
          | (false, s) => .fail .dataError 0 s
          | (true, s) =>
            match fblFault i with
            | some (k, r) => fblRefuse k r s
            | none => keepWrite bad
                (fun s => syncOk (fld 12 4 i) p (raise Ev.fblLoaded [lo32 (fld 12 4 i)] { s with fbl.next := some i })) s) p s

/-- FBL_READ (R429). -/
def fblRead (p : Pend) (s : Device) : CmdEnd :=
  checked [.bad { target := false, bufMin := 64, bufMax := 16777216 } []]
    (fun _ s =>
      let q := mask32 (fun k => (tget s.fbl.timers k {}).q)
      okBuf s.fbl.scans.toNat
        (le 32 s.fbl.flags ++ le 8 s.fbl.outs ++ le 4 q ++ le 4 s.fbl.cmp ++ le 12 s.fbl.levels ++ le 4 0) s) p s

/-! ## The rows of the table of operations -/

/-- FBL_SCAN (R419): Every 50 µs, FBL latches its inputs, executes to END and forms its output image. -/
def execFblScan (s : State) : Host.Outcome State Fault Refusal :=
  .next { s with dev := fblScan s.dev }

/-- FBL_TAKE_CONTROL (R425): FBL takes control within 1 µs of CFG leaving RUNNING, Spire reset or link down. -/
def execFblTakeControl (s : State) : Host.Outcome State Fault Refusal :=
  .next { s with dev := fblTake s.dev }

/-- FBL_LOAD (R424): Loads and checks an FBL image. -/
def execFblLoad (d : Desc) (s : State) : Host.Outcome State Fault Refusal :=
  .next { s with dev := runCmd (fblLoad d.bad) d s.dev }

/-- FBL_READ (R429): Returns FBL state at a scan end. -/
def execFblRead (d : Desc) (s : State) : Host.Outcome State Fault Refusal :=
  .next { s with dev := runCmd fblRead d s.dev }

end Sys2Proof.Machine
end

