-- ==== Sys2Proof/Machine/Ltn.lean ====
section
/-!
DEFINITION. Machine/Ltn.lean: the Lantern ring: samples, averages, anchors, versions and gaps (17_recording_events).
-/
namespace Sys2Proof.Machine

def lchan (s : Device) (c : Nat) : Channel := tget s.ltn.chans c {}
def modLchan (c : Nat) (f : Channel → Channel) (s : Device) : Device :=
  { s with ltn.chans := tmod s.ltn.chans c {} f }

/-- A Lantern record (Table LTN-10). -/
def ltnBytes (c typ flags frac value b8 b12 : Nat) : List Byte :=
  le 2 (c + typ * 2 ^ 12) ++ le 1 flags ++ le 1 frac ++ le 4 value ++ le 4 b8 ++ le 4 b12

/-- A record whose bytes 8–15 hold a full time (Table LTN-11). -/
def ltnTimed (c typ flags frac value : Nat) (t : STime) : List Byte :=
  ltnBytes c typ flags frac value (t / 256 % 2 ^ 32) (t / 256 / 2 ^ 32)

/-- The ring has room for `n` more records (R661). -/
def ltnRoom (s : Device) (n : Nat) : Bool := 16 * (s.ltn.ring.length + n) < s.ltn.ringMib * 2 ^ 20

/-- Records enter the ring (R661). -/
def ltnPut (rs : List BufRec) (s : Device) : Device :=
  { pmcEdges 0x11 0x80 0 rs.length s with
    ltn.ring := s.ltn.ring ++ rs
    ltn.wr := (s.ltn.wr + 16 * rs.length) % (s.ltn.ringMib * 2 ^ 20)
    ltn.records := s.ltn.records + BitVec.ofNat 64 rs.length
    ltn.ringFull := false }

/-- LTN_RING_FULL is raised once for each fill (R661). -/
def ltnFull (s : Device) : Device :=
  if s.ltn.ringFull then s
  else raise Ev.ltnRingFull [lo32 s.ltn.rd] { s with ltn.ringFull := true }

/-- The START that is due goes first; after it every channel owes an ANCHOR (R651, R663). -/
def putStart (s : Device) : Device :=
  match s.ltn.startDue with
  | none => s
  | some f =>
    if ltnRoom s 1 then
      ltnPut [{ bytes := ltnTimed 0 5 f 0 (s.kep.restarts.toNat) (nowS s) }]
        { s with ltn.startDue := none, ltn.chans := tmap s.ltn.chans fun _ c => { c with anchor := true } }
    else s

/-- The GAP record of a channel (Table LTN-11). -/
def gapRec (c : Nat) (g : GapPend) : BufRec := { bytes := ltnTimed c 3 0 (g.first % 256) (sat 32 g.count) g.first }

/-- A GAP has been written: counters, and LTN_GAP at most once in a second (R657). -/
def noteGap (c : Nat) (g : GapPend) (s : Device) : Device :=
  let n := BitVec.ofNat 32 g.count
  let ch := lchan s c
  let now := nowS s
  let s := { s with ltn.lost := s.ltn.lost + n, ltn.gaps := s.ltn.gaps + 1 }
  let s := modLchan c (fun k => { k with gap := none, lost := k.lost + n, gaps := k.gaps + 1, anchor := true }) s
  if ch.gapAt.any (fun t => now < t + secT 1) then s
  else raise Ev.ltnGap [(2, c), (2, g.count), lo32 (nsLow g.first)] (modLchan c (fun k => { k with gapAt := some now }) s)

/-- A SAMPLE or AVERAGE record (TYPE 0 or 1) of channel `c` with the marks it calls for, or its loss (R651, R652, R654,
R655, R661). A pending GAP goes before it when its first lost record lies before `limit`. -/
def ltnWrite (c typ flags : Nat) (t : STime) (value : Word) (aux version : Nat) (limit : STime) (s : Device) : Device :=
  let s := putStart s
  let ch := lchan s c
  let gap := ch.gap.filter (fun g => g.first < limit)
  let hi := t / 256 / 2 ^ 32
  let anchor := gap.isSome || ch.anchor || 2 ^ 20 ≤ ch.since || ch.last.any (fun p => p / 256 / 2 ^ 32 != hi)
  let ver := ch.version != some version
  let marks :=
    (if anchor then [{ bytes := ltnBytes c 2 0 0 hi 0 0 : BufRec }] else []) ++
    (if ver then [{ bytes := ltnBytes c 4 0 0 (version % 65536) 0 0 }] else [])
  let data : BufRec := { bytes := ltnBytes c typ flags (t % 256) value.toNat (nsLow t) aux, time := some t }
  let rs := (gap.map (gapRec c)).toList ++ marks ++ [data]
  if s.ltn.startDue.isSome || !ltnRoom s rs.length then ltnFull (ltnLose c t s)
  else
    let s := ltnPut rs s
    let s := match gap with | some g => noteGap c g s | none => s
    modLchan c (fun k => { k with
      last := some t, version := some version, anchor := false, since := if anchor then 1 else k.since + 1,
      records := k.records + 1 }) s

/-- The open averaging window of a channel is written (R658). -/
def closeWindow (c : Nat) (s : Device) : Device :=
  match (lchan s c).win with
  | none => s
  | some w =>
    ltnWrite c 1 w.flags w.first (BitVec.ofInt 32 (roundQuot w.sum w.n)) w.n w.version ((w.k + 1) * usT w.avgUs)
      (modLchan c (fun k => { k with win := none }) s)

/-- An averaging window opens with its first record (R658). -/
def openWindow (r : LtnIn) (avgUs : Nat) (s : Device) : Device :=
  let w : AvgWin := { k := r.time / usT avgUs, sum := r.value.toInt, n := 1, flags := r.flags, first := r.time,
                      version := r.version, avgUs }
  modLchan r.channel (fun c => { c with win := some w }) s

/-- One record of an averaged channel (R658). -/
def averageRecord (r : LtnIn) (avgUs : Nat) (s : Device) : Device :=
  match (lchan s r.channel).win with
  | none => openWindow r avgUs s
  | some w =>
    if w.k = r.time / usT avgUs ∧ w.avgUs = avgUs then
      let w' := { w with sum := w.sum + r.value.toInt, n := w.n + 1, flags := w.flags ||| r.flags }
      modLchan r.channel (fun c => { c with win := some w' }) s
    else openWindow r avgUs (closeWindow r.channel s)

/-- A record whose time does not follow the channel's last one cannot be written, since channel times rise strictly (R23, R647).
The sources keep that order; a record that breaks it is lost, from the instant after the last one on (DESIGN CHOICE, log 83). -/
def ltnOrder (s : Device) (c : Nat) (t : STime) : Option STime :=
  let ch := lchan s c
  let floor := match ch.win, ch.last with
    | some w, _ => some w.first
    | none, l => l
  match floor with
  | some p => if t ≤ p then some (p + nsT 1) else none
  | none => none

/-- LANTERN_RECORD (R649 to R661): the oldest record of the input queue. -/
def lanternRecord (s : Device) : Device :=
  if !s.ltn.run || !s.btr.spireUp || dramStopped s then s
  else match s.ltn.inq with
    | [] => s
    | r :: rest =>
      let s := { s with ltn.inq := rest }
      match ltnOrder s r.channel r.time, recAt s 0x11 1 r.channel r.time with
      | some t, _ => ltnLose r.channel t s
      | none, none => versionDrop 0x11 r.version (ltnLose r.channel r.time s)
      | none, some b =>
        if bit 1 (fld 0 1 b) then averageRecord r (max 1 (fld 8 4 b)) s
        else ltnWrite r.channel 0 r.flags r.time r.value r.aux r.version (r.time + 1) (closeWindow r.channel s)

/-! ## Configuration -/

/-- A STATE record, after the GAP it ends, or its loss (R654, R655, Table LTN-11). -/
def stateRec (c : Nat) (on_ : Bool) (t : STime) (s : Device) : Device :=
  let s := putStart s
  let ch := lchan s c
  let rs := (ch.gap.map (gapRec c)).toList ++ [{ bytes := ltnTimed c 6 0 0 (flag 0 on_) t }]
  if s.ltn.startDue.isSome || !ltnRoom s rs.length then ltnFull (ltnLose c t s)
  else
    let s := ltnPut rs s
    match ch.gap with | some g => noteGap c g s | none => s

/-- A channel takes the setting of its record at the commit or load instant `t` (R650, R651, R659). -/
def setChannel (t : STime) (reload : Bool) (s : Device) (c : Nat) : Device :=
  let b := recNow s 0x11 1 c
  let on_ := bit 0 (fld 0 1 b)
  let avg := bit 1 (fld 0 1 b)
  let ch := lchan s c
  let changed := ch.win.any (fun w => !on_ || !avg || w.avgUs != fld 8 4 b)
  let s := if changed then closeWindow c s else s
  let s := if on_ != ch.enabled || (reload && on_) then stateRec c on_ t s else s
  modLchan c (fun k => { k with
    enabled := on_, averaged := avg,
    anchor := k.anchor || (on_ && !ch.enabled), version := if on_ && !ch.enabled then none else k.version }) s

/-- Lantern takes a base image (R646, R661); another ring size empties the ring. -/
def loadLtn (s : Device) : Device :=
  let mib := fld 0 4 (recNow s 0x11 0 0)
  let s := if mib = s.ltn.ringMib then s else
    { s with ltn.ringMib := mib, ltn.ring := [], ltn.wr := 0, ltn.rd := 0, ltn.ringFull := false }
  let s := { s with ltn.run := mib != 0 && !s.pai.standby }
  let gone := (s.ltn.chans.filter (fun e => e.2.enabled && !created s 0x11 1 e.1)).map (·.1)
  if !s.ltn.run then s
  else (gone ++ objsOf s 0x11 1).foldl (setChannel (nowS s) true) s

/-- Lantern at a commit time (R659). -/
def commitLtn (t : STime) (s : Device) : Device :=
  if s.ltn.run then (objsOf s 0x11 1).foldl (setChannel t false) s else s

/-- The Spire die is reset: queued records are lost, and a START with FLAGS `f` is due (R655, R663). -/
def ltnSpireReset (f : Nat) (s : Device) : Device :=
  let s := s.ltn.inq.foldl (fun s r => ltnLose r.channel r.time s) s
  { s with
    ltn.inq := [], ltn.startDue := some (s.ltn.startDue.getD 0 ||| f), ltn.lost := 0, ltn.gaps := 0
    ltn.load := (0, 0), ltn.overload := 0 }

/-- A device reset empties the ring and begins it with a START (R663). -/
def ltnDeviceReset (s : Device) : Device := { s with ltn := {} }

/-- The new active device begins to record (R663). -/
def takeoverLtn (s : Device) : Device :=
  let s := { s with ltn.startDue := some (s.ltn.startDue.getD 0 ||| 2), ltn.run := s.ltn.ringMib != 0 }
  if s.ltn.run then (objsOf s 0x11 1).foldl (setChannel (nowS s) true) s else s

/-! ## Commands and registers -/

/-- LTN_READ_CHANNEL (R679). -/
def ltnRead (p : Pend) (s : Device) : CmdEnd :=
  let c := p.desc.target.toNat
  let ch := lchan s c
  checked [
    .when (4095 < c || !created s 0x11 1 c) .notFound 0,
    .bad { bufMin := 32, bufMax := 16777216 } [],
    .buffer]
    (fun _ s => okBuf ch.records.toNat (le 8 (flag 0 ch.enabled + flag 1 ch.averaged) ++ le 8 ((ch.last.getD 0) / 256) ++
      le 4 ch.records.toNat ++ le 4 ch.lost.toNat ++ le 4 ch.gaps.toNat ++ le 4 0) s) p s

/-- LTN_CLEAR_COUNTERS (R679). -/
def ltnClear (p : Pend) (s : Device) : CmdEnd :=
  let m := p.desc.p0.toNat
  checked [.bad { target := false, pmask := 1 } [(4 ≤ m, 24)]]
    (fun _ s => okWith 0 { s with
      ltn.lost := if bit 0 m then 0 else s.ltn.lost, ltn.gaps := if bit 1 m then 0 else s.ltn.gaps }) p s

/-- LTN_STATUS, LTN_LOAD and LTN_CHSTATc as words (Table EVR-6). -/
def ltnStatus (s : Device) : Nat :=
  flag 0 s.ltn.run + flag 1 s.ltn.ringFull + flag 2 (windowOf s 0x1100).isSome
def ltnLoadReg (s : Device) : Nat :=
  let ms := nowS s / msT 1
  let bytes := if ms = s.ltn.loadMs then s.ltn.load.1 else if ms = s.ltn.loadMs + 1 then s.ltn.load.2 else 0
  sat 16 (bytes / 1000)
def ltnChStat (s : Device) (c : Nat) : Nat :=
  let ch := lchan s c
  flag 0 ch.enabled + flag 1 ch.averaged + flag 2 ch.gap.isSome

/-! ## The rows of the table of operations -/

/-- LANTERN_RECORD (R649): A record bound for Lantern is queued and written into the ring with anchors, versions
and gaps. -/
def execLanternRecord (s : State) : Host.Outcome State Fault Refusal :=
  .next { s with dev := Sys2Proof.Machine.lanternRecord s.dev }

/-- LTN_READ_CHANNEL (R679): Returns recorder channel status. -/
def execLtnReadChannel (d : Desc) (s : State) : Host.Outcome State Fault Refusal :=
  .next { s with dev := runCmd ltnRead d s.dev }

/-- LTN_CLEAR_COUNTERS (R679): Clears the Lantern counters. -/
def execLtnClearCounters (d : Desc) (s : State) : Host.Outcome State Fault Refusal :=
  .next { s with dev := runCmd ltnClear d s.dev }

end Sys2Proof.Machine
end

