-- ==== Sys2Proof/Machine/Saf.lean ====
section
/-!
DEFINITION. Machine/Saf.lean: Belfry, the two-channel safety unit (14_belfry_safety). Its timers count CK_TIME cycles of
1 ns (DEDUCED, log 39).
-/
namespace Sys2Proof.Machine

/-! ## The safety configuration (Table SAF-6) -/

def scTDeg (c : List Byte) : Nat := fld 64 2 c
def scNode (c : List Byte) : Nat := fld 66 2 c
def scPort (c : List Byte) : Nat := fld 70 1 c
def scClass (c : List Byte) : Nat := fld 71 1 c % 8
def scReset (c : List Byte) : Nat := fld 72 1 c
def scIn (c : List Byte) (n : Nat) : List Byte := (c.drop (96 + 8 * n)).take 8
def scFn (c : List Byte) (f : Nat) : List Byte := (c.drop (224 + 16 * f)).take 16
def scOut (c : List Byte) (n : Nat) : List Byte := (c.drop (736 + 16 * n)).take 16
def scProd (c : List Byte) (p : Nat) : List Byte := (c.drop (864 + 16 * p)).take 16
def scCons (c : List Byte) (k : Nat) : List Byte := (c.drop (1120 + 16 * k)).take 16

def inType (c : List Byte) (n : Nat) : Nat := fld 0 1 (scIn c n)
def fnType (c : List Byte) (f : Nat) : Nat := fld 0 1 (scFn c f)
def fnManual (c : List Byte) (f : Nat) : Bool := bit 0 (fld 1 1 (scFn c f))
def outOn (c : List Byte) (n : Nat) : Bool := bit 0 (fld 0 1 (scOut c n))

/-- The safe-frame EtherType in force (R569). -/
def safEtype (s : Device) : Nat := let v := fld 68 2 s.saf.cfg; if v = 0 then 0x88B6 else v

/-- Functions mapped to an output. -/
def fnsOf (c : List Byte) (n : Nat) : List Nat :=
  (List.range 32).filter (fun f => fnType c f != 0 && bit n (fld 4 1 (scFn c f)))

/-! ### Checks (R551, R556, R578, R579) -/

/-- The given bytes of a record are 0. -/
def zeroBytes (b : List Byte) (os : List Nat) : Bool := os.all (fun o => fld o 1 b == 0)

/-- The type rule of a function: 2 where R551 or R556 is broken, 3 where its inputs are (Tables SAF-2 and SAF-10). -/
def fnFault (c : List Byte) (f : Nat) : Option Nat :=
  let b := scFn c f
  let t := fnType c f
  let in1 := fld 2 1 b
  let in2 := fld 3 1 b
  let man := fnManual c f
  let contactPair := fun (n : Nat) => inType c n == 1 || inType c n == 2
  if t = 0 then none
  else if 5 < t ∨ 1 < fld 1 1 b ∨ (t ≠ 5 ∧ 15 < in1) ∨ (t = 3 ∧ 15 < in2) ∨ (t = 5 ∧ (15 < fld 5 1 b ∨ 31 < fld 6 1 b)) ∨
    !zeroBytes b [7, 8, 9, 10, 11, 12, 13, 14, 15] then some 1
  else if (t = 1 ∧ !man) ∨ (t = 3 ∧ man) ∨ (man ∧ scReset c = 0xFF) then some 2
  else if ((t = 1 ∨ t = 2) ∧ !contactPair in1) ∨ (t = 3 ∧ (inType c in1 ≠ 2 ∨ inType c in2 ≠ 2)) ∨
    (t = 4 ∧ inType c in1 ≠ 3) then some 3
  else none

def inFault (c : List Byte) (n : Nat) : Option Nat :=
  let b := scIn c n
  let t := inType c n
  if 4 < t ∨ !zeroBytes b [1, 6, 7] ∨ (t ≠ 0 ∧ !within 100 1000 (fld 2 2 b)) ∨
    (1 ≤ t ∧ t ≤ 3 ∧ !within 10 3000 (fld 4 2 b)) then some 1
  else if t = 4 ∧ scReset c ≠ n then some 3
  else none

def outFault (c : List Byte) (n : Nat) : Option Nat :=
  let b := scOut c n
  if 1 < fld 0 1 b ∨ !zeroBytes b [1, 8, 9, 10, 11, 12, 13, 14, 15] then some 1
  else if !outOn c n then none
  else if !within 50 2000 (fld 2 2 b) ∨ !within 100 1000 (fld 4 2 b) ∨ !within 100 60000 (fld 6 2 b) then some 1
  else if (fnsOf c n).isEmpty then some 3
  else none

def prodFault (c : List Byte) (p : Nat) : Option Nat :=
  let b := scProd c p
  if 1 < fld 0 1 b ∨ !zeroBytes b [1, 14, 15] ∨
    (bit 0 (fld 0 1 b) ∧ (!within 500 100000 (fld 4 4 b) ∨ !bit 0 (fld 8 1 b))) then some 1 else none

def consOn (c : List Byte) (k : Nat) : Bool := bit 0 (fld 0 1 (scCons c k))

def consFault (c : List Byte) (k : Nat) : Option Nat :=
  let b := scCons c k
  if 1 < fld 0 1 b ∨ !zeroBytes b [1, 14, 15] ∨ (consOn c k ∧ !within 2 1000 (fld 6 2 b)) then some 1
  else if consOn c k ∧ (List.range k).any (fun j => consOn c j && fld 2 4 (scCons c j) == fld 2 4 b) then some 3
  else none

def globalFault (c : List Byte) : Option Nat :=
  let r := scReset c
  if !within 1 3600 (scTDeg c) ∨ scNode c = 0 ∨ !([0, 2, 4, 6].contains (scPort c)) ∨ 7 < fld 71 1 c ∨ (15 < r ∧ r ≠ 0xFF) ∨
    !zeroBytes c ((List.range 23).map (· + 73)) then some 1
  else if r ≠ 0xFF ∧ inType c r ≠ 4 then some 2
  else none

def headerFault (c : List Byte) : Bool :=
  fld 6 2 c != 0x9680 || fld 8 4 c != c.length || fld 12 4 c == 0 || fld 24 4 c != 1376 || c.length != 4472 ||
  !zeroBytes c ((List.range 36).map (· + 28))

/-- The first record that breaks a rule, with its reason. -/
def configFault (c : List Byte) : Option (Nat × Nat) :=
  let scan := fun (base n : Nat) (f : List Byte → Nat → Option Nat) =>
    (List.range n).findSome? (fun k => (f c k).map (fun r => (base + k, r)))
  ((globalFault c).map (fun r => (1, r))) <|> scan 0x10 16 inFault <|> scan 0x20 32 fnFault <|> scan 0x40 8 outFault <|>
  scan 0x50 16 prodFault <|> scan 0x60 16 consFault

/-! ## Channels -/

def safChan (s : Device) (b : Bool) : SafChan := if b then s.saf.b else s.saf.a
def modChanSaf (b : Bool) (f : SafChan → SafChan) (s : Device) : Device :=
  if b then { s with saf.b := f s.saf.b } else { s with saf.a := f s.saf.a }
def fnOf (k : SafChan) (f : Nat) : SafFn := tget k.fns f {}
def consOf (s : Device) (c : Nat) : SafCons := tget s.saf.cons c {}
def modCons (c : Nat) (f : SafCons → SafCons) (s : Device) : Device :=
  { s with saf.cons := tset s.saf.cons c (f (consOf s c)) }

/-- Belfry drives its outputs (R557). -/
def safLive (s : Device) : Bool := s.saf.mode == .run || s.saf.mode == .degradedA || s.saf.mode == .degradedB

/-- The channel takes no part: it is the faulty one of a degraded Belfry (R576). -/
def chanOut (s : Device) (b : Bool) : Bool := if b then s.saf.mode == .degradedA else s.saf.mode == .degradedB

/-- Code of a state (Table SAF-10). -/
def safCode (m : SafMode) : Nat := match m with
  | .init => 0 | .unconfigured => 1 | .run => 2 | .degradedA => 3 | .degradedB => 4 | .safeFault => 5

/-- Outputs on which both channels drive their gates. -/
def gatesBoth (s : Device) : Nat := s.saf.a.gates &&& s.saf.b.gates

/-- Changes of the energised outputs are named by SAF_OUTPUT. -/
def announceOutputs (s : Device) : Device :=
  let now := gatesBoth s
  let was := s.saf.energised
  (List.range 8).foldl (fun s n =>
    if bit n now = bit n was then s else raise Ev.safOutput [(1, n), (1, flag 0 (bit n now))] s)
    { s with saf.energised := now }

/-- Functions in PERMIT at the last cycle of channel A, or of B where it is alone in control (SAF_PERMIT, R588). -/
def permitBits (s : Device) : Nat :=
  let k := safChan s (chanOut s false)
  ((List.range 32).map (fun f => flag f (fnType k.cfg f != 0 && (fnOf k f).mode == .permit))).sum

/-- The registers of functions, contacts, outputs and feedback show the state at this cycle (R588). -/
def safShow (s : Device) : Device :=
  { s with saf.view := {
      permit := permitBits s, disc := s.saf.disc
      inA := if chanOut s false then s.saf.a.acc else s.saf.a.latched
      inB := if chanOut s false then s.saf.b.latched else s.saf.b.exch.contacts
      energised := s.saf.energised, req := s.saf.req, fault := s.saf.outFault, fb := s.saf.a.fb + s.saf.b.fb * 2 ^ 8 } }

/-- A channel drives its gates; each change is timed for its feedback (R560) and the test pulses of an output that
energises start (R561). -/
def driveGates (b : Bool) (g : Nat) (s : Device) : Device :=
  let k := safChan s b
  let diff := (List.range 8).filter (fun n => bit n g != bit n k.gates)
  let s := modChanSaf b (fun k => { k with
    gates := g, changed := diff.foldl (fun t n => tset t n s.tim.ck) k.changed }) s
  let s := diff.foldl (fun s n =>
    if bit n g then
      let half := fld 6 2 (scOut s.saf.cfg n) * 500000
      { s with saf.pulseAt := tset (tset s.saf.pulseAt (2 * n) s.tim.ck) (2 * n + 1) (s.tim.ck + half) }
    else s) s
  announceOutputs s

/-- Both gates of every output go low and nothing staged raises them again. -/
def allOff (s : Device) : Device :=
  let s := driveGates true 0 (driveGates false 0 s)
  let clear := fun (k : SafChan) => { k with stage := { k.stage with gates := 0 } }
  { s with saf.req := 0, saf.a := clear s.saf.a, saf.b := clear s.saf.b }

/-- Belfry changes its state (R575). -/
def safState (m : SafMode) (cause : Nat) (s : Device) : Device :=
  if s.saf.mode = m then s
  else
    let s := raise Ev.safState [(1, safCode s.saf.mode), (1, safCode m), (1, cause)] { s with saf.mode := m }
    if m = .safeFault then safShow (allOff s) else s

/-- A function of the healthy view is in DEMAND or RESET_WAIT (R576). -/
def inDemandNow (s : Device) (b : Bool) : Bool :=
  (List.range 32).any (fun f => fnType (safChan s b).cfg f != 0 && (fnOf (safChan s b) f).mode != .permit)

/-- A detected fault and its attribution: 0 A, 1 B, 0xE neither, 0xF CK_AON (R574 to R576). -/
def safFault (cause attr : Nat) (s : Device) : Device :=
  let s := raise Ev.safChannelFault [(1, cause), (1, attr)] { s with saf.cause := cause, saf.attr := attr }
  if attr = 0xF then s
  else match s.saf.mode with
    | .run =>
      if attr = 0 ∧ !inDemandNow s true then
        safState .degradedB cause { s with saf.degUntil := s.tim.ck + scTDeg s.saf.cfg * 1000000000 }
      else if attr = 1 ∧ !inDemandNow s false then
        safState .degradedA cause { s with saf.degUntil := s.tim.ck + scTDeg s.saf.cfg * 1000000000 }
      else safState .safeFault cause s
    | .degradedA => safState .safeFault cause s
    | .degradedB => safState .safeFault cause s
    | _ => s

/-- CHANNEL_FAULT (R574): causes 1 to 6 as their detectors report them, with the channel of causes 3 to 5; cause 7 is
found by SAFETY_CYCLE. -/
def channelFault (cause attr : Nat) (s : Device) : Device :=
  match cause with
  | 1 => safFault 1 0 s
  | 2 => safFault 2 1 s
  | 3 => safFault 3 (attr % 2) s
  | 4 => safFault 4 (attr % 2) s
  | 5 => safFault 5 (if attr < 2 then attr else 0xF) s
  | 6 => safFault 6 0xE s
  | _ => s

/-! ## Inputs (R547 to R550) -/

/-- A contact stands in its OK state: `b` is the B contact (Table SAF-1). -/
def contactOk (typ : Nat) (b closed : Bool) : Bool := if typ = 2 ∧ b then !closed else closed

/-- A new level of one contact is timed, or accepted after FILT_US (R548). -/
def sampleContact (ck : Nat) (cfg : List Byte) (levels : Nat) (k : SafChan) (n : Nat) : SafChan :=
  let lv := bit n levels
  if lv = bit n k.acc then { k with since := tdel k.since n }
  else match tfind k.since n with
    | none => { k with since := tset k.since n ck }
    | some t =>
      if t + fld 2 2 (scIn cfg n) * 1000 ≤ ck then { k with acc := putBit n lv k.acc, since := tdel k.since n } else k

/-- The contacts of an input disagree, or stand in demand together, or are both OK, by the accepted levels (R549). -/
def contactsOf (s : Device) (n : Nat) : Bool × Bool × Bool :=
  let t := inType s.saf.cfg n
  let a := contactOk t false (bit n s.saf.a.acc)
  let b := contactOk t true (bit n s.saf.b.acc)
  (1 ≤ t && t ≤ 3 && a != b, !a && !b, a && b)

/-- Discrepancies begin and end, and DISC_FAULT clears (R549, R550). A degraded Belfry goes by the contacts of one channel,
which cannot disagree (R576; DEDUCED, log 96). -/
def discrepancies (s : Device) : Device :=
  (List.range 16).foldl (fun s n =>
    let (dis, low, ok) := contactsOf s n
    let at_ := if !dis || chanOut s false || chanOut s true then tdel s.saf.discAt n
      else match tfind s.saf.discAt n with
        | some _ => s.saf.discAt
        | none => tset s.saf.discAt n s.tim.ck
    let latched := bit n s.saf.disc
    let seen := latched && (bit n s.saf.discSeen || low)
    let done := seen && ok
    { s with saf.discAt := at_, saf.disc := putBit n (latched && !done) s.saf.disc,
             saf.discSeen := putBit n (seen && !done) s.saf.discSeen }) s

/-- SAF_INPUT_SAMPLE (R543, R547 to R550, R564): a channel samples its contacts, and the levels at its feedback balls. -/
def inputSample (b : Bool) (contacts fb : Nat) (s : Device) : Device :=
  let k := safChan s b
  let ck := s.tim.ck
  if k.sampledAt.any (fun t => ck < t + 49000) then s
  else
    let fb := if b then 0xFF - fb % 256 else fb % 256
    discrepancies (modChanSaf b (fun k =>
      { (List.range 16).foldl (sampleContact ck s.saf.cfg contacts) k with sampledAt := some ck, fb }) s)

/-- DISCREPANCY_TIMEOUT (R549). -/
def discTimeout (n : Nat) (s : Device) : Device :=
  match tfind s.saf.discAt n with
  | none => s
  | some t =>
    if bit n s.saf.disc || s.tim.ck ≤ t + fld 4 2 (scIn s.saf.cfg n) * 1000000 then s
    else raise Ev.safDiscrepancy [(1, n), (1, flag 0 (bit n s.saf.a.acc) + flag 1 (bit n s.saf.b.acc))]
      { s with saf.disc := putBit n true s.saf.disc, saf.discSeen := putBit n false s.saf.discSeen,
               saf.discCnt := s.saf.discCnt + 1 }

/-- The contacts of an input as a channel treats them in its running cycle: its own sample, and the partner's latest
exchange, or its own sample alone in degraded mode (R544, R576). -/
def contactView (s : Device) (b : Bool) (n : Nat) : Bool × Bool :=
  let k := safChan s b
  let t := inType k.cfg n
  let mine := contactOk t b (bit n k.latched)
  let other := if chanOut s (!b) then mine else contactOk t (!b) (bit n (safChan s (!b)).exch.contacts)
  if b then (other, mine) else (mine, other)

/-- A channel has sampled its inputs within 3 cycles (R550). -/
def freshSamples (s : Device) (b : Bool) : Bool :=
  chanOut s b || (safChan s b).sampledAt.any (fun t => s.tim.ck < t + 3000000)

/-- An input is in demand in a channel's view (R550). -/
def inDemand (s : Device) (b : Bool) (n : Nat) : Bool :=
  let t := inType (safChan s b).cfg n
  let (x, y) := contactView s b n
  1 ≤ t && t ≤ 3 && (!x || !y || bit n s.saf.disc || !freshSamples s false || !freshSamples s true)

/-! ## The safety cycle -/

/-- The running cycle ends: its outputs are applied, requests that no channel allows are cleared, and the exchange is
published (R543, R544, R557, R558, R583). -/
def endCycle (b : Bool) (s : Device) : Device :=
  let k := safChan s b
  let req := if s.saf.clearReq then 0 else s.saf.req
  let req := if s.pai.standby then req else req &&& k.stage.gates
  let want := if !safLive s then 0 else if s.pai.standby then k.stage.gates else req
  let s := { s with saf.req := req, saf.clearReq := false }
  let s := driveGates b want s
  let s := if chanOut s (!b) then driveGates (!b) want s else s
  modChanSaf b (fun k => { k with exch := { k.stage with gates := want } }) s

/-- The reset button in a channel's view: the new press, and whether a reset acts in this cycle (R555). -/
def resetButton (s : Device) (b : Bool) (press : Option (Nat × Option Nat)) : Option (Nat × Option Nat) × Bool :=
  let r := scReset (safChan s b).cfg
  let (x, y) := contactView s b r
  let ck := s.tim.ck
  if 15 < r then (none, false)
  else match press with
    | none => (if x && y then some (ck, none) else none, false)
    | some (t, opened) =>
      let opened := if x && y then opened else some (opened.getD ck)
      if x || y then (some (t, opened), false)
      else
        let held := opened.getD ck - t
        (none, 100000000 ≤ held && held ≤ 5000000000)

/-- The demand of a function that is not two-handed. -/
def fnDemand (s : Device) (b : Bool) (f : Nat) : Bool :=
  let c := (safChan s b).cfg
  let r := scFn c f
  if fnType c f = 5 then
    let q := consOf s (fld 5 1 r)
    !(bit (fld 6 1 r) q.bits && (q.mode == .dual || q.mode == .single))
  else inDemand s b (fld 2 1 r)

/-- A two-hand function (R554): its new state, and the interval in ms that was too long. -/
def twoHand (s : Device) (b : Bool) (okAt : Tab Nat) (f : Nat) (q : SafFn) : SafFn × Option Nat :=
  let r := scFn (safChan s b).cfg f
  let n1 := fld 2 1 r
  let n2 := fld 3 1 r
  let d1 := inDemand s b n1
  let d2 := inDemand s b n2
  let armed := q.armed || (d1 && d2)
  if d1 || d2 then ({ q with mode := .demand, armed }, none)
  else if q.mode = .permit || !armed then (q, none)
  else
    let t1 := tget okAt n1 s.tim.ck
    let t2 := tget okAt n2 s.tim.ck
    let gap := max t1 t2 - min t1 t2
    if gap ≤ 500000000 then ({ q with mode := .permit, armed := false }, none)
    else ({ q with armed := false }, some (gap / 1000000))

/-- The state a function takes in a channel's cycle (R552, R556). -/
def fnNext (s : Device) (b reset : Bool) (okAt : Tab Nat) (f : Nat) : SafFn × Option Nat :=
  let k := safChan s b
  let q := fnOf k f
  if fnType k.cfg f = 3 then twoHand s b okAt f q
  else if fnDemand s b f then ({ q with mode := .demand }, none)
  else match q.mode with
    | .demand => ({ q with mode := if fnManual k.cfg f then .resetWait else .permit }, none)
    | .resetWait => ({ q with mode := if reset then .permit else .resetWait }, none)
    | .permit => (q, none)

/-- The input of a function is in demand, as a channel tells its partner. -/
def fnInputDemand (s : Device) (b : Bool) (f : Nat) : Bool :=
  let c := (safChan s b).cfg
  if fnType c f = 3 then inDemand s b (fld 2 1 (scFn c f)) || inDemand s b (fld 3 1 (scFn c f)) else fnDemand s b f

/-- The events of a function that changes its state; the channel that sees a change first names it. -/
def fnEvents (b : Bool) (f : Nat) (old new : FnMode) (late : Option Nat) (s : Device) : Device :=
  let k := safChan s b
  let partner := if chanOut s (!b) then old else (fnOf (safChan s (!b)) f).mode
  let cause := match fnType k.cfg f with
    | 5 => fld 5 1 (scFn k.cfg f)
    | 3 => if inDemand s b (fld 2 1 (scFn k.cfg f)) then fld 2 1 (scFn k.cfg f) else fld 3 1 (scFn k.cfg f)
    | _ => fld 2 1 (scFn k.cfg f)
  let s := match late with
    | some ms => if b && !chanOut s false then s else raise Ev.safTwoHandTime [(1, f), (2, ms)] s
    | none => s
  if old = new || partner = new then s
  else match new with
    | .demand => raise Ev.safDemand [(1, f), (1, cause)] { s with saf.demands := s.saf.demands + 1 }
    | .permit => raise Ev.safPermit [(1, f)] s
    | .resetWait => s

/-- Each function takes its next state. -/
def stepFns (b reset : Bool) (okAt : Tab Nat) (s : Device) : Device :=
  let k := safChan s b
  (List.range 32).foldl (fun s' f =>
    if fnType k.cfg f = 0 then s'
    else
      let (q, late) := fnNext s b reset okAt f
      let other := (safChan s (!b)).exch
      let differ := if !chanOut s (!b) && tget other.fns f .demand != q.mode &&
        bit f other.demands == fnInputDemand s b f then q.differ + 1 else 0
      fnEvents b f (fnOf k f).mode q.mode late
        (modChanSaf b (fun k => { k with fns := tset k.fns f { q with differ } }) s')) s

/-- A channel allows an output: it is enabled, has no OUTPUT_FAULT, and every mapped function permits (R557). -/
def outputAllowed (s : Device) (b : Bool) (n : Nat) : Bool :=
  let k := safChan s b
  outOn k.cfg n && !bit n s.saf.outFault && (fnsOf k.cfg n).all (fun f => (fnOf k f).mode == .permit)

def allowedOutputs (s : Device) (b : Bool) : Nat := ((List.range 8).map (fun n => flag n (outputAllowed s b n))).sum

/-- The level of a gate ball: none while it is high-impedance, in reset, with a rail out, and in INIT (R585, R794). -/
def gateBall (s : Device) (b : Bool) (n : Nat) : Option Bool :=
  if !ballsLive s || s.saf.mode == .init then none else some (bit n (safChan s b).gates)

/-- A cycle begins: a confirmed configuration is adopted, the inputs are latched and the functions evaluated. -/
def beginCycle (b : Bool) (s : Device) : Device :=
  let s := modChanSaf b (fun k =>
    let k := if k.cfg = s.saf.cfg then k else { k with cfg := s.saf.cfg, fns := [], okAt := [], press := none }
    { k with latched := k.acc, cycleAt := some s.tim.ck }) s
  let k := safChan s b
  let okAt := (List.range 16).foldl (fun t n =>
    if inDemand s b n then tdel t n else match tfind t n with
      | some _ => t
      | none => tset t n s.tim.ck) k.okAt
  let (press, reset) := resetButton s b k.press
  let s := stepFns b reset okAt (modChanSaf b (fun k => { k with okAt, press }) s)
  let k := safChan s b
  let used := (List.range 32).filter (fun f => fnType k.cfg f != 0)
  let stage : SafExch := {
    contacts := k.latched, fns := used.map (fun f => (f, (fnOf k f).mode)),
    demands := (used.map (fun f => flag f (fnInputDemand s b f))).sum, gates := allowedOutputs s b }
  let s := modChanSaf b (fun k => { k with stage }) s
  let s := if b then s else { s with saf.cons := tmap s.saf.cons (fun _ q => { q with
    shown := if q.mode == .dual || q.mode == .single then q.bits else 0 }) }
  if used.any (fun f => 3 < (fnOf k f).differ) && s.saf.mode == .run then safFault 7 0xE s else s

/-- SAFETY_CYCLE (R543, R544, R550 to R558, R583): a channel's running cycle ends and the next begins. Channel A's cycle, or
B's where it is alone in control, sets what the register page shows. -/
def safetyCycle (b : Bool) (s : Device) : Device :=
  let k := safChan s b
  if s.saf.mode == .init || s.saf.mode == .safeFault || chanOut s b || k.cycleAt.any (fun t => s.tim.ck < t + 980000) then s
  else
    let s := beginCycle b (if k.cycleAt.isSome then endCycle b s else s)
    if b = chanOut s false then safShow s else s

/-! ## Outputs (R560 to R562) -/

/-- OUTPUT_FAULT latches (R562): `low` is the low-side switch. -/
def latchOutputFault (n : Nat) (low : Bool) (cause : Nat) (s : Device) : Device :=
  let drop := fun (k : SafChan) => { k with stage := { k.stage with gates := putBit n false k.stage.gates } }
  let s := { s with
    saf.outFault := putBit n true s.saf.outFault, saf.outFlt := s.saf.outFlt + 1, saf.req := putBit n false s.saf.req,
    saf.a := drop s.saf.a, saf.b := drop s.saf.b }
  let s := raise Ev.safOutputFault [(1, n), (1, flag 0 low), (1, cause)] s
  let s := driveGates false (putBit n false s.saf.a.gates) s
  driveGates true (putBit n false s.saf.b.gates) s

/-- A test pulse of one switch of an energised output is due (R561). -/
def pulseDue (s : Device) (n : Nat) (low : Bool) : Bool :=
  (tfind s.saf.pulseAt (2 * n + flag 0 low)).any fun t =>
    bit n s.saf.energised && t + fld 6 2 (scOut s.saf.cfg n) * 1000000 ≤ s.tim.ck

/-- FEEDBACK_TIMEOUT (R560): a switch's feedback does not equal its command FB_US after the last change. What it reads in a
test pulse is TEST_PULSE's to judge. -/
def feedbackTimeout (n : Nat) (low : Bool) (s : Device) : Device :=
  let k := safChan s low
  let at_ := tget k.changed n 0
  if 7 < n || s.saf.mode == .init || pulseDue s n low || !outOn s.saf.cfg n || bit n s.saf.outFault || bit n k.fb == bit n k.gates ||
    s.tim.ck ≤ at_ + fld 2 2 (scOut s.saf.cfg n) * 1000 then s
  else latchOutputFault n low 1 s

/-- TEST_PULSE (R561): a due pulse of one switch of an energised output: whether its feedback read 0 at the last sample
within the pulse and 1 again in time. -/
def testPulse (n : Nat) (low off on_ : Bool) (s : Device) : Device :=
  if 7 < n || !pulseDue s n low then s
  else
    let s := modChanSaf low (fun k => { k with changed := tset k.changed n s.tim.ck })
      { s with saf.pulseAt := tset s.saf.pulseAt (2 * n + flag 0 low) s.tim.ck }
    if off && on_ then s else latchOutputFault n low 2 s

/-- DEGRADED_TIMEOUT (R576). -/
def degradedTimeout (s : Device) : Device :=
  if (s.saf.mode == .degradedA || s.saf.mode == .degradedB) && s.saf.degUntil ≤ s.tim.ck then safState .safeFault 0 s else s

/-- Consumers of the configuration in force start (R572): in DUAL, with their watchdogs running. -/
def startConsumers (s : Device) : Device :=
  let c := s.saf.cfg
  { s with saf.cons := (List.range 16).map (fun k =>
      (k, { mode := if consOn c k then .dual else .off, from_ := s.tim.ck : SafCons })) }

/-- Each channel's CRC over its copy of the pending configuration (R579). -/
def pendingCrcs (s : Device) : Device :=
  match s.saf.pend with
  | none => s
  | some (c, _) =>
    let body := (c.drop 64).take 1312
    { s with saf.pcrcA := (crc32c body).toNat, saf.pcrcB := (crc32e body).toNat }

/-- SAF_INIT_DONE (R575, R577): the self-tests and the checks of the copies have ended. -/
def initDone (ok : Bool) (s : Device) : Device :=
  if s.saf.mode != .init || (tfind s.sec.boot 2).isNone || (tfind s.sec.boot 3).isNone then s
  else if !ok then safState .safeFault 0 s
  else if s.saf.cfg.isEmpty then safState .unconfigured 0 (pendingCrcs s)
  else safState .run 0 (startConsumers (pendingCrcs s))

/-! ## Safe frames (R568 to R572) -/

/-- Functions that both channels have in PERMIT. -/
def safeBits (s : Device) : Nat :=
  ((List.range 32).map (fun f => flag f (fnType s.saf.cfg f != 0 &&
    (chanOut s false || tget s.saf.a.exch.fns f .demand == .permit) &&
    (chanOut s true || tget s.saf.b.exch.fns f .demand == .permit)))).sum

/-- The payload of Table SAF-3. -/
def safePayload (s : Device) (p : Nat) (seq : Word) : List Byte :=
  let b := le 1 0x11 ++ le 1 0 ++ le 2 (scNode s.saf.cfg) ++ le 2 (fld 2 2 (scProd s.saf.cfg p)) ++ le 2 0 ++
    le 4 seq.toNat ++ le 4 (safeBits s) ++ le 4 (nsLow (nowD s)) ++ le 4 0
  b ++ le 4 (crc32c b).toNat ++ le 4 (crc32e b).toNat

/-- SAFE_FRAME_PRODUCE (R568, R569, R573, R582, R583). -/
def safeProduce (p : Nat) (s : Device) : Device :=
  let r := scProd s.saf.cfg p
  let q := tget s.saf.prods p {}
  if !bit 0 (fld 0 1 r) || !(safLive s) || s.pai.standby || !s.btr.spireUp || !s.btr.linkUp ||
    q.sentAt.any (fun t => s.tim.ck < t + fld 4 4 r * 1000) then s
  else
    let e := scPort s.saf.cfg
    let body := safePayload s p q.seq
    let s := { s with saf.prods := tset s.saf.prods p { seq := q.seq + 1, sentAt := some s.tim.ck } }
    let build := fun (lan : Nat) =>
      ({ bytes := padTo 54 (padTo 6 (r.drop 8) ++ nzSource s (e + lan) ++ be 2 (safEtype s) ++ body), tag := .safe p } : QFrame)
    queuePair e (scClass s.saf.cfg) true build s

/-- SF_BAD (R570). -/
def sfBad (k reason : Nat) (s : Device) : Device :=
  raise Ev.sfBad [(1, k), (1, reason)] { s with saf.sfBad := s.saf.sfBad + 1 }

/-- A valid copy arrived on a LAN: a missing LAN is back (R572). -/
def consSeen (k : Nat) (lanB : Bool) (s : Device) : Device :=
  modCons k (fun q =>
    let q := if lanB then { q with seenB := some s.tim.ck } else { q with seenA := some s.tim.ck }
    if q.mode == .single && q.missingB == lanB then { q with mode := .dual } else q) s

/-- A copy for consumer `k` with payload `b` (R570, R571). -/
def consumeCopy (k : Nat) (lanB : Bool) (b : List Byte) (s : Device) : Device :=
  let q := consOf s k
  let seq := fld 8 4 b
  let head := b.take 24
  if fld 0 1 b ≠ 0x11 then sfBad k 4 s
  else if fld 24 4 b ≠ (crc32c head).toNat then sfBad k 1 s
  else if fld 28 4 b ≠ (crc32e head).toNat then sfBad k 2 s
  else
    let accept := fun (s : Device) =>
      consSeen k lanB (modCons k (fun q => { q with last := some (seq, lanB, head), bits := fld 12 4 b }) s)
    match q.last with
    | none => accept s
    | some (last, wasB, old) =>
      let step := (seq + 2 ^ 32 - last) % 2 ^ 32
      if step = 0 ∧ wasB ≠ lanB then
        if old = head then consSeen k lanB s
        else raise Ev.sfMismatch [(1, k), (4, seq)] (modCons k (fun q => { q with mode := .fault, bits := 0 })
          { s with saf.sfMismatch := s.saf.sfMismatch + 1 })
      else if 1 ≤ step ∧ step ≤ 1000 then accept s
      else sfBad k 3 s

/-- A standby follows the SEQ of the connections that its pair produces (R583). -/
def trackProducer (b : List Byte) (s : Device) : Device :=
  if !s.pai.standby || fld 2 2 b ≠ scNode s.saf.cfg || fld 0 1 b ≠ 0x11 || fld 24 4 b ≠ (crc32c (b.take 24)).toNat ||
    fld 28 4 b ≠ (crc32e (b.take 24)).toNat then s
  else match (List.range 16).find? (fun p => bit 0 (fld 0 1 (scProd s.saf.cfg p)) && fld 2 2 (scProd s.saf.cfg p) == fld 4 2 b) with
    | some p => { s with saf.prods := tmod s.saf.prods p {} (fun q => { q with seq := BitVec.ofNat 32 (fld 8 4 b + 1) }) }
    | none => s

/-- SAFE_FRAME_RECEIVE (R570, R571): the oldest copy routed to SAF. -/
def safeReceive (s : Device) : Device :=
  match s.saf.rx with
  | [] => s
  | f :: rest =>
    let s := { s with saf.rx := rest }
    let b := (f.bytes.drop (bodyAt f.bytes)).take 32
    let c := s.saf.cfg
    let mine := fun (k : Nat) =>
      (consOf s k).mode != .off && fld 2 4 (scCons c k) == fld 2 4 b && ((scCons c k).drop 8).take 6 == f.bytes.take 6
    if f.port / 2 * 2 ≠ scPort c ∨ c = [] then s
    else
      let s := trackProducer b s
      match (List.range 16).find? mine with
      | some k => consumeCopy k (f.port % 2 == 1) b s
      | none => s

/-- No valid copy has arrived on a LAN for SF_WD_MS (R572). -/
def lanSilent (s : Device) (k : Nat) (lanB : Bool) : Bool :=
  let q := consOf s k
  let t := ((if lanB then q.seenB else q.seenA).getD q.from_)
  t + fld 6 2 (scCons s.saf.cfg k) * 1000000 ≤ s.tim.ck

/-- SF_WATCHDOG_TIMEOUT (R572). -/
def sfWatchdog (k : Nat) (s : Device) : Device :=
  let q := consOf s k
  let a := lanSilent s k false
  let b := lanSilent s k true
  if q.mode != .dual && q.mode != .single then s
  else if a && b then
    raise Ev.sfTimeout [(1, k)] (modCons k (fun q => { q with mode := .fault, bits := 0 })
      { s with saf.sfTimeout := s.saf.sfTimeout + 1 })
  else if q.mode == .dual && (a || b) then
    raise Ev.sfLanSingle [(1, k), (1, flag 0 b)]
      (modCons k (fun q => { q with mode := .single, singleAt := s.tim.ck, missingB := b }) s)
  else s

/-- SINGLE_LAN_TIMEOUT (R572). -/
def singleTimeout (k : Nat) (s : Device) : Device :=
  let q := consOf s k
  if q.mode == .single && q.singleAt + scTDeg s.saf.cfg * 1000000000 ≤ s.tim.ck then
    modCons k (fun q => { q with mode := .fault, bits := 0 }) s
  else s

/-- FRAME_RECEIVE (R433, R434, R438, R446, R447): a frame with its FCS, whose SFD came at `at_`, goes to one consumer. -/
def frameReceive (p : Nat) (at_ : STime) (bytes : List Byte) (s : Device) : Device :=
  if !(eportOf s p).link then s
  else if !frameGood bytes then modEport p (fun q => { q with rxErr := q.rxErr + 1 }) s
  else
    let s := modEport p (fun q => { q with rxFr := q.rxFr + 1 }) (pmcEdge 0x0C 0x81 p s)
    let b := bytes.take (bytes.length - 4)
    let f : RxFrame := { port := p, at_, ck := s.tim.ck, bytes := b }
    let e := etherType b
    if e = 0x8808 then s
    else if e = nzEtype s then
      if s.pai.standby then s
      else
        let (dup, s) := prpDuplicate f s
        if dup || !nzTakes s f then s else { s with eth.rx := s.eth.rx ++ [f] }
    else if e = 0x88F7 then
      if ptpTaken f && (forDomain s 0 f || forDomain s 1 f) then { s with tim.rx := s.tim.rx ++ [f] } else s
    else if e = safEtype s then { s with saf.rx := s.saf.rx ++ [f] }
    else hostFrame f s

/-! ## Configuration and commands (R579 to R581, R586) -/

/-- The pending configuration is discarded (R581). -/
def discardPending (s : Device) : Device :=
  match s.saf.pend with
  | none => s
  | some (c, _) => raise Ev.safConfig [(4, fld 12 4 c), (1, 2)] { s with saf.pend := none, saf.pcrcA := 0, saf.pcrcB := 0 }

/-- CONFIRM_TIMEOUT (R581). -/
def confirmTimeout (s : Device) : Device :=
  match s.saf.pend with
  | some (_, t) => if t + 60000000000 < s.tim.ck then discardPending s else s
  | none => s

/-- SAF_LOAD_CONFIG (R578, R579): the signature is verified first, then the header, the CRCs and the records. -/
def safLoad (bad : List Nat) (p : Pend) (s : Device) : CmdEnd :=
  let d := p.desc
  checked [
    .bad { target := false, bufMax := 16777216 } [],
    .when (needMaint s) .authRequired 0,
    .when (s.saf.energised != 0 || s.saf.mode == .init || s.saf.mode == .safeFault) .rejectedState 0,
    .buffer]
    (fun _ s =>
      let c := d.buf.bytes.take d.bufLen.toNat
      match checkSigned c 1376 2 4 6 true s with
      | (false, s) => .fail .dataError 0 s
      | (true, s) =>
        let refuse := fun (r why : Nat) => CmdEnd.fail .badField 16 { s with saf.errRecord := r, saf.errReason := why }
        let body := (c.drop 64).take 1312
        if fld 0 4 c ≠ 0x46535A4B then refuse 0 1
        else if fld 4 2 c ≠ 1 then .fail .unsupported 0 s
        else if headerFault c then refuse 0 1
        else if fld 16 4 c ≠ (crc32c body).toNat ∨ fld 20 4 c ≠ (crc32e body).toNat then .fail .dataError 0 s
        else match configFault c with
          | some (r, why) => refuse r why
          | none => keepWrite bad (fun s =>
            okWith (fld 12 4 c) (raise Ev.safConfig [(4, fld 12 4 c), (1, 0)]
              (pendingCrcs { s with saf.pend := some (c, s.tim.ck) }))) s) p s

/-- The first parameter of SAF_CONFIRM that does not equal the pending image (R580). -/
def confirmOffence (d : Desc) (s : Device) (c : List Byte) : Option Nat :=
  if d.p0.toNat ≠ fld 12 4 c then some 24
  else if d.p1.toNat ≠ fld 16 4 c ∨ d.p1.toNat ≠ s.saf.pcrcA then some 28
  else if d.p2.toNat ≠ fld 20 4 c ∨ d.p2.toNat ≠ s.saf.pcrcB then some 32
  else none

/-- SAF_CONFIRM (R580, R581). -/
def safConfirm (bad : List Nat) (p : Pend) (s : Device) : CmdEnd :=
  let d := p.desc
  checked [.bad { target := false, pmask := 7 } [], .when (needMaint s) .authRequired 0]
    (fun _ s =>
      match s.saf.pend with
      | none => .fail .notFound 0 s
      | some (c, t) =>
        if t + 60000000000 < s.tim.ck then .fail .timeout 0 (discardPending s)
        else match confirmOffence d s c with
          | some o => .fail .badField o (discardPending s)
          | none =>
            if s.saf.energised ≠ 0 then .fail .rejectedState 0 s
            else keepWrite bad (fun s =>
              let old := fld 12 4 s.saf.cfg
              let s := { s with
                saf.cfg := c, saf.pend := none, saf.pcrcA := 0, saf.pcrcB := 0, saf.req := 0, saf.disc := 0,
                saf.discSeen := 0, saf.discAt := [] }
              let s := raise Ev.safConfig [(4, fld 12 4 c), (1, 1)] (startConsumers s)
              okWith old (if s.saf.mode = .unconfigured then safState .run 0 s else s)) s) p s

/-- A request bit may be set now (R559). -/
def requestOk (s : Device) (n : Nat) : Bool :=
  let ok := fun (b : Bool) => chanOut s b ||
    (fnsOf s.saf.cfg n).all (fun f => (fnOf (safChan s b) f).mode == .permit && (safChan s b).cfg == s.saf.cfg)
  outOn s.saf.cfg n && !bit n s.saf.outFault && ok false && ok true

/-- SAF_SET_REQUEST (R558, R559, R583). -/
def setRequest (p : Pend) (s : Device) : CmdEnd :=
  let d := p.desc
  let m := d.p0.toNat
  let v := d.p1.toNat
  checked [
    .bad { target := false, pmask := 3 } [(256 ≤ m, 24), (256 ≤ v, 28)],
    .when (!safLive s || s.pai.standby || (List.range 8).any (fun n => bit n m && bit n v && !requestOk s n)) .rejectedState 0]
    (fun _ s =>
      let req := (List.range 8).foldl (fun r n => if bit n m then putBit n (bit n v) r else r) s.saf.req
      okWith s.saf.req { s with saf.req := req }) p s

/-- SAF_FAULT_RESET (R562, R572): an output whose fault is cleared is judged anew in the running cycles. -/
def faultReset (p : Pend) (s : Device) : CmdEnd :=
  let d := p.desc
  let n := d.target.toNat
  let cons := d.p0 == 1
  checked [
    .when (d.p0.toNat ≤ 1 && (if cons then 15 < n else 7 < n)) .notFound 0,
    .bad { pmask := 1 } [(1 < d.p0.toNat, 24)],
    .when (if cons then (consOf s n).mode != .fault || lanSilent s n false || lanSilent s n true
      else !bit n s.saf.outFault || bit n s.saf.a.fb || bit n s.saf.b.fb) .rejectedState 0]
    (fun _ s => okWith 0 (if cons then modCons n (fun q => { q with mode := .dual }) s
      else
        let s := { s with saf.outFault := putBit n false s.saf.outFault }
        let stage := fun (b : Bool) => modChanSaf b fun k =>
          { k with stage := { k.stage with gates := putBit n (outputAllowed s b n) k.stage.gates } }
        stage true (stage false s))) p s

/-- SAF_CLEAR_COUNTERS. -/
def safClear (p : Pend) (s : Device) : CmdEnd :=
  let m := p.desc.p0.toNat
  checked [.bad { target := false, pmask := 1 } [(64 ≤ m, 24)]]
    (fun _ s => okWith 0 { s with saf := { s.saf with
      demands := clr m 0 s.saf.demands, discCnt := clr m 1 s.saf.discCnt, outFlt := clr m 2 s.saf.outFlt,
      sfBad := clr m 3 s.saf.sfBad, sfMismatch := clr m 4 s.saf.sfMismatch, sfTimeout := clr m 5 s.saf.sfTimeout } }) p s

/-! ## Resets and pairs -/

/-- Belfry after a reset of the Dome die (R546, R582, R585): INIT with every gate low; the confirmed and the pending
configuration stay in the Keep. -/
def safReset (s : Device) : Device :=
  { s with saf := { cfg := s.saf.cfg, pend := s.saf.pend } }

/-- A takeover changes no safety output (R584). -/
def takeoverSaf (s : Device) : Device := { s with saf.req := s.saf.energised }

/-- Safe frames of the base configuration in force name a port pair with PRP_PAIR (R573). -/
def safPortsOk (s : Device) : Bool :=
  let c := s.saf.cfg
  !(List.range 16).any (fun k => bit 0 (fld 0 1 (scProd c k)) || consOn c k) || prpPair s (scPort c)

/-! ## The rows of the table of operations -/

/-- FRAME_RECEIVE (R433): A received Ethernet frame is time-stamped and routed to exactly one consumer. -/
def execFrameReceive (p : Nat) (at_ : STime) (bytes : List Byte) (s : State) : Host.Outcome State Fault Refusal :=
  .next { s with dev := Sys2Proof.Machine.frameReceive p at_ bytes s.dev }

/-- SAF_INPUT_SAMPLE (R548): Every t_SAMP, a channel samples its contacts and accepts changes after FILT_US. -/
def execSafInputSample (b : Bool) (contacts fb : Nat) (s : State) : Host.Outcome State Fault Refusal :=
  .next { s with dev := inputSample b contacts fb s.dev }

/-- SAFETY_CYCLE (R543): A channel's safety cycle latches inputs and exchange, evaluates functions and applies
outputs. -/
def execSafetyCycle (b : Bool) (s : State) : Host.Outcome State Fault Refusal :=
  .next { s with dev := Sys2Proof.Machine.safetyCycle b s.dev }

/-- DISCREPANCY_TIMEOUT (R549): A discrepancy lasting longer than DISC_MS latches DISC_FAULT. -/
def execDiscrepancyTimeout (n : Nat) (s : State) : Host.Outcome State Fault Refusal :=
  .next { s with dev := discTimeout n s.dev }

/-- TEST_PULSE (R561): Every TP_PERIOD_MS, a switch of an energised output is pulsed off and its feedback
checked. -/
def execTestPulse (n : Nat) (low off on_ : Bool) (s : State) : Host.Outcome State Fault Refusal :=
  .next { s with dev := Sys2Proof.Machine.testPulse n low off on_ s.dev }

/-- FEEDBACK_TIMEOUT (R560): A feedback not matching its command within FB_US latches OUTPUT_FAULT. -/
def execFeedbackTimeout (n : Nat) (low : Bool) (s : State) : Host.Outcome State Fault Refusal :=
  .next { s with dev := Sys2Proof.Machine.feedbackTimeout n low s.dev }

/-- CHANNEL_FAULT (R574): A detected fault is attributed, and Belfry degrades or enters SAFE_FAULT. -/
def execChannelFault (cause attr : Nat) (s : State) : Host.Outcome State Fault Refusal :=
  .next { s with dev := Sys2Proof.Machine.channelFault cause attr s.dev }

/-- DEGRADED_TIMEOUT (R576): T_DEG expires in degraded mode, and Belfry enters SAFE_FAULT. -/
def execDegradedTimeout (s : State) : Host.Outcome State Fault Refusal :=
  .next { s with dev := Sys2Proof.Machine.degradedTimeout s.dev }

/-- SAF_INIT_DONE (R577): INIT self-tests complete, and Belfry enters RUN, UNCONFIGURED or SAFE_FAULT. -/
def execSafInitDone (ok : Bool) (s : State) : Host.Outcome State Fault Refusal :=
  .next { s with dev := initDone ok s.dev }

/-- SAFE_FRAME_PRODUCE (R568): Every SF_CYC_US, a producer sends a safe frame. -/
def execSafeFrameProduce (p : Nat) (s : State) : Host.Outcome State Fault Refusal :=
  .next { s with dev := safeProduce p s.dev }

/-- SAFE_FRAME_RECEIVE (R570): A safe-frame copy is checked by both channels and accepted or discarded. -/
def execSafeFrameReceive (s : State) : Host.Outcome State Fault Refusal :=
  .next { s with dev := safeReceive s.dev }

/-- SF_WATCHDOG_TIMEOUT (R572): SF_WD_MS without a valid copy on one or both LANs enters SINGLE or FAULT. -/
def execSfWatchdogTimeout (k : Nat) (s : State) : Host.Outcome State Fault Refusal :=
  .next { s with dev := sfWatchdog k s.dev }

/-- SINGLE_LAN_TIMEOUT (R572): T_DEG in SINGLE puts the consumer in FAULT. -/
def execSingleLanTimeout (k : Nat) (s : State) : Host.Outcome State Fault Refusal :=
  .next { s with dev := singleTimeout k s.dev }

/-- CONFIRM_TIMEOUT (R581): A pending safety configuration unconfirmed for 60 s is discarded. -/
def execConfirmTimeout (s : State) : Host.Outcome State Fault Refusal :=
  .next { s with dev := Sys2Proof.Machine.confirmTimeout s.dev }

/-- SAF_LOAD_CONFIG (R579): Verifies and stores a pending safety configuration. -/
def execSafLoadConfig (d : Desc) (s : State) : Host.Outcome State Fault Refusal :=
  .next { s with dev := runCmd (safLoad d.bad) d s.dev }

/-- SAF_CONFIRM (R580): Puts the pending safety configuration into force. -/
def execSafConfirm (d : Desc) (s : State) : Host.Outcome State Fault Refusal :=
  .next { s with dev := runCmd (Sys2Proof.Machine.safConfirm d.bad) d s.dev }

/-- SAF_SET_REQUEST (R559): Sets or clears output request bits. -/
def execSafSetRequest (d : Desc) (s : State) : Host.Outcome State Fault Refusal :=
  .next { s with dev := runCmd setRequest d s.dev }

/-- SAF_FAULT_RESET (R562): Clears an output or consumer fault. -/
def execSafFaultReset (d : Desc) (s : State) : Host.Outcome State Fault Refusal :=
  .next { s with dev := runCmd faultReset d s.dev }

/-- SAF_CLEAR_COUNTERS (R586): Clears the selected SAF counters. -/
def execSafClearCounters (d : Desc) (s : State) : Host.Outcome State Fault Refusal :=
  .next { s with dev := runCmd safClear d s.dev }

end Sys2Proof.Machine
end

