-- ==== Sys2Proof/Machine/Spr.lean ====
section
/-!
DEFINITION. Machine/Spr.lean: wear monitors, change-overs, maintenance activities and the commands of the reserve manager
(19_reserves_maintenance).
-/
namespace Sys2Proof.Machine

/-- STATE of a unit: 0 IN_USE, 1 SPARE, 2 DRAINING, 3 RETIRED, 4 GATED (R730). -/
def unitState (s : Device) (kind unit : Nat) : Nat :=
  if draining s kind unit then 2
  else match kind with
    | 0 =>
      if bit unit s.dpt.active then 0 else if bit unit s.dpt.spare then 1
      else if retired s 0 unit || !bit unit s.lpe.laneEn then 3 else 4
    | 1 =>
      if retired s 1 unit then 3 else if bit unit s.pgm.spare then 1
      else match (List.range 8).find? (fun c => physCore s c == unit) with
        | some c => if c < envCores (envelope s) then 0 else 4
        | none => 3
    | 2 => if retired s 2 unit then 3 else if (spares s 2).contains unit then 1 else 0
    | 3 =>
      let b := btrDir s (unit / 5)
      if bit (unit % 5) b.lanes then 0 else if retired s 3 unit || bit (unit % 5) b.failed then 3 else 1
    | _ => if 15 ≤ unit && s.evr.retiredSectors.contains (unit - 15) then 3 else 0

/-- Units of a kind (Table SPR-1). -/
def unitCount (kind : Nat) : Nat := [18, 9, 34, 10, 1024].getD kind 0

/-! ## Wear (R711, R717) -/

/-- Self-test failures of a physical converter in the last 24 h. -/
def selfFails (s : Device) (p : Nat) : Nat :=
  (tget s.spr.selfFails p []).countP (fun t => nowD s < t + secT 86400)

/-- Offset drift of a converter's tables from the factory's, in LSB. -/
def offsetDrift (s : Device) (p : Nat) : Nat :=
  (List.range 5).foldl (fun a t =>
    max a (((calTable s p t).ofs16 - (Config.factoryOfs p t).toInt).natAbs / 16)) 0

/-- Whether a reading crosses WARN and SWAP (Table SPR-2); `extra` is the CRC errors of a link lane in 1 s. -/
def wearCross (kind value extra : Nat) : Bool × Bool :=
  match kind with
  | 0 | 1 => (value < 40, value < 25)
  | 3 => (value < 52, value < 31 || 16 ≤ extra)
  | _ => (4 ≤ value, 16 ≤ value)

/-- A wear-driven swap is asked for; a refused one is deferred (R711, R717). -/
def wearSwap (kind unit : Nat) (s : Device) : Device :=
  let k := unitKey kind unit
  if !bit kind s.spr.auto || unitState s kind unit ≠ 0 || s.spr.deferred.contains k then s
  else match startSwap kind unit 2 s with
    | (.ok _, s) => s
    | (.error h, s) =>
      raise Ev.sprSwapDeferred [(1, kind), (2, unit), (1, h)]
        { s with spr.deferredCnt := s.spr.deferredCnt + 1, spr.deferred := s.spr.deferred ++ [k] }

/-- One monitor reading acts (R711). -/
def wearUnit (kind unit shown value : Nat) (cross : Bool × Bool) (s : Device) : Device :=
  let k := unitKey kind unit
  let s := { s with spr.monitor := tset s.spr.monitor k shown }
  let s := if cross.1 && !s.spr.warned.contains k then
      raise Ev.sprWearWarn [(1, kind), (2, unit), (2, value)] { s with spr.warned := s.spr.warned ++ [k] }
    else s
  if cross.2 then wearSwap kind unit s else s

/-- The reading of a physical converter, which the device keeps itself (Table SPR-2). -/
def wearConverter (s : Device) (p : Nat) : Device :=
  let n := selfFails s p
  let d := offsetDrift s p
  wearUnit 2 p n d (decide (128 < d), decide (3 ≤ n) || s.spr.calFailed.contains p) s

/-- WEAR_MONITOR_EVALUATION (R711): every 10 ms. `readings` holds (kind, unit, value, CRC errors in 1 s) of the lane,
core, link-lane and sector monitors. -/
def wearEvaluate (readings : List (Nat × Nat × Nat × Nat)) (s : Device) : Device :=
  if !s.btr.spireUp || s.tim.ck < s.spr.wearAt + 10000000 then s
  else
    let s := { s with spr.wearAt := s.tim.ck }
    let s := readings.foldl (fun s r =>
      if r.1 ∈ [0, 1, 3, 4] ∧ r.2.1 < unitCount r.1 ∧ unitState s r.1 r.2.1 ∈ [0, 2] then
        wearUnit r.1 r.2.1 r.2.2.1 r.2.2.1 (wearCross r.1 r.2.2.1 r.2.2.2) s
      else s) s
    ((List.range 34).filter (fun p => unitState s 2 p == 0)).foldl wearConverter s

/-! ## Change-over (R715, R716) -/

/-- The change-over instant of a swap has come (Table SPR-3). -/
def changeoverDue (s : Device) (a : Activity) : Bool :=
  match a.kind with
  | 0 => (tfind s.dpt.lanes a.unit).isNone
  | 1 => a.from_ + 10000000 ≤ s.tim.ck &&
      (s.pgm.run_.all fun e => physCore s e.1 != a.unit || e.2.cyc.isNone)
  | 2 => (List.range 32).all fun c =>
      physConv s c != a.unit || ((convOf s c).scan.isEmpty && !(convOf s c).urgRun)
  | 3 => a.from_ + 100000 ≤ s.tim.ck
  | _ => true

/-- The spare takes the worn unit's place and number (R716). -/
def installSpare (kind unit x : Nat) (s : Device) : Device :=
  match kind with
  | 0 =>
    if bit unit s.dpt.active then { s with
      dpt.active := s.dpt.active - 2 ^ unit + 2 ^ x
      spr.laneNos := tset (tset s.spr.laneNos x (laneNo s unit)) unit (laneNo s x) }
    else s
  | 1 => { s with pgm.cores := (List.range 8).foldl (fun t c =>
        if physCore s c = unit then tset t c x else t) s.pgm.cores }
  | 2 => (List.range 32).foldl (fun s c => if physConv s c = unit then scanBoundary c (handover c x s) else s) s
  | 3 =>
    let d := unit / 5
    { s with btr.dirs := tmod s.btr.dirs d {} fun b =>
        { b with lanes := b.lanes - flag (unit % 5) (bit (unit % 5) b.lanes) + 2 ^ (x % 5) } }
  | _ => s

/-- SWAP_CHANGEOVER (R715, R716, R720, R727): the swap in activity slot `slot`. -/
def swapChangeover (slot : Nat) (s : Device) : Device :=
  match tfind s.spr.acts slot with
  | none => s
  | some a =>
    match a.code, a.spare with
    | 1, some x =>
      if !changeoverDue s a then s
      else
        let x := if a.kind = 4 then (spares s 5).headD x else x
        let s := swapDone a.kind a.unit x a.cause (installSpare a.kind a.unit x (leavePool a.kind x s))
        poolNotice (poolOf a.kind a.unit) (endActivity slot 0 s)
    | _, _ => s

/-! ## Calibration and restep -/

/-- ADC_CALIBRATE (R294 to R296, R719): FACTORY restores the tables at once. -/
def adcCalibrate (p : Pend) (s : Device) : CmdEnd :=
  let d := p.desc
  let c := d.target.toNat
  let mask := if d.p0 = 0 then 31 else d.p0.toNat
  checked [
    .when (31 < c) .notFound 0,
    .bad { pmask := 3 } [(32 ≤ d.p0.toNat, 24), (2 ≤ d.p1.toNat, 28)]]
    (fun _ s =>
      let spare := (spares s 2).head?
      match admitActivity 2 0 c 3 none s with
      | (.error h, s) => .fail .busyConflict h s
      | (.ok _, s) =>
        let ph := physConv s c
        if d.p1 = 1 then
          okWith 0xFF (endOf 2 0 c 0 { s with
            adc.cal := s.adc.cal.filter (fun e => !(e.1 / 8 == ph && bit (e.1 % 8) mask)) })
        else
          okWith (spare.getD 0) (modConv c (fun v => { v with
            cal := some { mask, left := mask, spare := spare.getD 0, owner := ph } }) s)) p s

/-- CALIBRATION_TAKEOVER (R296, R297, R727). -/
def calibrationTakeover (c : Nat) (s : Device) : Device :=
  let t := calTakeover c s
  if physConv t c = physConv s c then t else poolNotice 2 t

/-- CALIBRATION_HANDBACK (R296, R297, R720). -/
def calibrationHandback (c : Nat) (s : Device) : Device :=
  let failed := ((convOf s c).cal.bind (·.fail)).isSome
  match calHandback c s with
  | (true, s) => endOf 2 0 c (if failed then 2 else 0) s
  | (false, s) => s

/-- TIM_RESTEP (R485, R506): working time returns to UNSET. -/
def timRestep (p : Pend) (s : Device) : CmdEnd :=
  checked [
    .bad { target := false } [],
    .when (needMaint s) .authRequired 0,
    .when (s.cfg.mode == .running || s.tim.mode == .unset) .rejectedState 0]
    (fun _ s =>
      match admitActivity 5 0 0 3 none s with
      | (.error h, s) => .fail .busyConflict h s
      | (.ok _, s) =>
        let s := raise Ev.timeReset [lo32 (nsLow (nowD s))] { s with
          tim.mode := .unset, tim.far := false, tim.domains := tmap s.tim.domains (fun _ q => { q with agree := [] }) }
        okWith 0 (endOf 5 0 0 0 s)) p s

/-! ## The Keep and DRAM -/

/-- KEEP_SCRUB_DONE (R722): the sectors in `bad` have reached SWAP. -/
def keepScrubDone (bad : List Nat) (s : Device) : Device :=
  match actSlot s 3 0 0 with
  | none => s
  | some slot =>
    let n := s.spr.keepFree
    let s := bad.foldl (fun s sec =>
      if s.spr.keepFree = 0 ∨ 1024 ≤ sec then s
      else swapDone 4 sec (1152 - s.spr.keepFree) 2 (leavePool 4 0 s)) s
    let s := endActivity slot 0 s
    if s.spr.keepFree = n then s else poolNotice 5 s

/-- A row is remapped to the reserved region (R724). The AUTO bit of DRAM permits it (DEDUCED, log 44). -/
def softRemap (row : Nat) (s : Device) : Device :=
  if !bit 5 s.spr.auto || s.spr.softRows.contains row then s
  else (faultSwap 5 row (fun _ s => { s with spr.softRows := s.spr.softRows ++ [row] }) s).2

/-- DRAM_REPAIR_DONE (R725): each soft remap becomes a repair of its bank, where the bank has a row left. -/
def dramRepairDone (s : Device) : Device :=
  match actSlot s 4 0 0 with
  | none => s
  | some slot =>
    let n := s.spr.hardUsed.length
    let s := s.spr.softRows.foldl (fun s row =>
      let b := (Config.rowBank row).toNat
      if s.spr.hardUsed.contains b then s
      else { s with spr.hardUsed := s.spr.hardUsed ++ [b], spr.softRows := s.spr.softRows.erase row }) s
    let s := endActivity slot (if s.spr.softRows.isEmpty then 0 else 2) s
    if s.spr.hardUsed.length = n then s else poolNotice 7 s

/-! ## Commands (Table SPR-8) -/

/-- SPR_RESERVE_SWAP (R728). -/
def reserveSwap (p : Pend) (s : Device) : CmdEnd :=
  let d := p.desc
  let kind := d.p0.toNat
  let unit := d.target.toNat
  checked [
    .when (kind ≤ 4 && unitCount kind ≤ unit) .notFound 0,
    .bad { pmask := 1 } [(4 < kind, 24)],
    .when (unitState s kind unit != 0) .rejectedState 0]
    (fun _ s => match startSwap kind unit 3 s with
      | (.ok h, s) => okWith h s
      | (.error h, s) => .fail .busyConflict h s) p s

/-- SPR_KEEP_SCRUB (R722, R728). -/
def keepScrub (p : Pend) (s : Device) : CmdEnd :=
  checked [.bad { target := false } []]
    (fun _ s => match admitActivity 3 0 0 3 (spares s 5).head? s with
      | (.ok h, s) => okWith h s
      | (.error h, s) => .fail .busyConflict h s) p s

/-- SPR_DRAM_REPAIR (R725, R728). -/
def dramRepair (p : Pend) (s : Device) : CmdEnd :=
  checked [
    .bad { target := false } [],
    .when (needMaint s) .authRequired 0,
    .when (s.cfg.mode == .running || s.spr.softRows.isEmpty) .rejectedState 0]
    (fun _ s => match admitActivity 4 0 0 3 none s with
      | (.ok h, s) => okWith h s
      | (.error h, s) => .fail .busyConflict h s) p s

/-- SPR_CLEAR_COUNTERS (R728). -/
def sprClear (p : Pend) (s : Device) : CmdEnd :=
  let m := p.desc.p0.toNat
  let clr := fun (k : Nat) (w : Word) => if bit k m then 0 else w
  checked [.bad { target := false, pmask := 1 } [(8 ≤ m, 24)]]
    (fun _ s => okWith 0 { s with
      spr.swaps := clr 0 s.spr.swaps, spr.refused := clr 1 s.spr.refused, spr.deferredCnt := clr 2 s.spr.deferredCnt }) p s

/-! ## Restarts (R710, R721) -/

/-- A Spire-only restart aborts the activities of codes 1, 4 and 6 on the Spire die and returns SPR's registers to their
reset values; the Dome activities run on (R721, R730). -/
def sprSpireReset (s : Device) : Device :=
  let gone := s.spr.acts.filter (fun e => (e.2.code == 1 && e.2.kind != 2 && e.2.kind != 4) || e.2.code == 4 || e.2.code == 6)
  let s := gone.foldl (fun s e => endActivity e.1 1 s) s
  { s with
    spr.auto := 0x3F, spr.swaps := 0, spr.refused := 0, spr.deferredCnt := 0, spr.deferred := []
    spr.monitor := [], spr.warned := [] }

/-- On resume SPR raises the end events that fell due (R721). -/
def sprResume (s : Device) : Device :=
  s.spr.endsDue.foldl (fun s e => raise Ev.sprActivityEnd [(1, e.1), (1, e.2.1), (1, e.2.2)] s)
    { s with spr.endsDue := [] }

/-- A device reset aborts every activity; the map of retired units and the pools come from the Keep (R710, R721). -/
def sprDeviceReset (s : Device) : Device :=
  { s with spr := {
      retired := s.spr.retired, adcFree := s.spr.adcFree, keepFree := s.spr.keepFree, softRows := s.spr.softRows,
      hardUsed := s.spr.hardUsed, hotFails := s.spr.hotFails, laneNos := s.spr.laneNos } }

/-! ## Registers (Table SPR-10) -/

def sprStatus (s : Device) : Nat := s.spr.acts.length + flag 4 (!s.spr.deferred.isEmpty)
def sprPool0 (s : Device) : Nat :=
  ((List.range 5).map (fun k => (spares s k).length * 2 ^ (4 * k))).sum
def sprPool1 (s : Device) : Nat :=
  s.spr.keepFree + (spares s 6).length * 2 ^ 8 + (spares s 7).length * 2 ^ 16
/-- Per mille of the spares of a pool of `n` consumed, saturating at 255. -/
def perMille (n left : Nat) : Nat := sat 8 ((n - left) * 1000 / n)
def sprLife (s : Device) : Nat :=
  perMille 2 (spares s 0).length + perMille 1 (spares s 1).length * 2 ^ 8 + perMille 2 s.spr.adcFree.length * 2 ^ 16 +
  perMille 128 s.spr.keepFree * 2 ^ 24
def sprAct (s : Device) (a : Nat) : Nat :=
  match tfind s.spr.acts a with
  | none => 0
  | some x => x.code + (if x.code = 1 then x.kind * 2 ^ 4 else 0) + x.handle * 2 ^ 8 + x.unit * 2 ^ 16
def sprUnit (s : Device) (kind unit : Nat) : Nat :=
  tget s.spr.monitor (unitKey kind unit) 0 % 256 + unitState s kind unit * 2 ^ 8

/-! ## The rows of the table of operations -/

/-- CALIBRATION_TAKEOVER (R296): At the next scan boundary, a spare takes over the logical converter under
calibration. -/
def execCalibrationTakeover (c : Nat) (s : State) : Host.Outcome State Fault Refusal :=
  .next { s with dev := Sys2Proof.Machine.calibrationTakeover c s.dev }

/-- CALIBRATION_HANDBACK (R296): At the next scan boundary the converter is handed back, and ADC_CAL_DONE or
ADC_CAL_FAIL is raised. -/
def execCalibrationHandback (c : Nat) (s : State) : Host.Outcome State Fault Refusal :=
  .next { s with dev := Sys2Proof.Machine.calibrationHandback c s.dev }

/-- ADC_CALIBRATE (R295): Requests the calibration activity for a logical converter. -/
def execAdcCalibrate (d : Desc) (s : State) : Host.Outcome State Fault Refusal :=
  .next { s with dev := runCmd Sys2Proof.Machine.adcCalibrate d s.dev }

/-- TIM_RESTEP (R485): Returns working time to UNSET. -/
def execTimRestep (d : Desc) (s : State) : Host.Outcome State Fault Refusal :=
  .next { s with dev := runCmd Sys2Proof.Machine.timRestep d s.dev }

/-- WEAR_MONITOR_EVALUATION (R711): Every 10 ms, SPR evaluates wear monitors, warns, or starts swaps. -/
def execWearMonitorEvaluation (readings : List (Nat × Nat × Nat × Nat)) (s : State) : Host.Outcome State Fault Refusal :=
  .next { s with dev := wearEvaluate readings s.dev }

/-- SWAP_CHANGEOVER (R715): At its change-over instant, a spare replaces the worn unit. -/
def execSwapChangeover (slot : Nat) (s : State) : Host.Outcome State Fault Refusal :=
  .next { s with dev := Sys2Proof.Machine.swapChangeover slot s.dev }

/-- KEEP_SCRUB_DONE (R722): The full Keep scrub ends. -/
def execKeepScrubDone (bad : List Nat) (s : State) : Host.Outcome State Fault Refusal :=
  .next { s with dev := Sys2Proof.Machine.keepScrubDone bad s.dev }

/-- DRAM_REPAIR_DONE (R725): DRAM_REPAIR finishes converting soft remaps. -/
def execDramRepairDone (s : State) : Host.Outcome State Fault Refusal :=
  .next { s with dev := Sys2Proof.Machine.dramRepairDone s.dev }

/-- SPR_RESERVE_SWAP (R728): Requests a unit swap. -/
def execSprReserveSwap (d : Desc) (s : State) : Host.Outcome State Fault Refusal :=
  .next { s with dev := runCmd reserveSwap d s.dev }

/-- SPR_KEEP_SCRUB (R722): Requests a full Keep scrub. -/
def execSprKeepScrub (d : Desc) (s : State) : Host.Outcome State Fault Refusal :=
  .next { s with dev := runCmd keepScrub d s.dev }

/-- SPR_DRAM_REPAIR (R725): Requests post-package repair. -/
def execSprDramRepair (d : Desc) (s : State) : Host.Outcome State Fault Refusal :=
  .next { s with dev := runCmd dramRepair d s.dev }

/-- SPR_CLEAR_COUNTERS (R728): Clears the selected SPR counters. -/
def execSprClearCounters (d : Desc) (s : State) : Host.Outcome State Fault Refusal :=
  .next { s with dev := runCmd sprClear d s.dev }

end Sys2Proof.Machine
end

