-- ==== Sys2Proof/Machine/Load.lean ====
section
/-!
DEFINITION. Machine/Load.lean: what a base image does to every unit, how the engines start and halt, CFG_LOAD_BASE,
CFG_STOP and commits (03_configuration_overlays).
-/
namespace Sys2Proof.Machine

/-! ## Standing in a pair (R627, R642) -/

/-- The pair record (R642). -/
def paiRec (s : Device) : List Byte := recNow s 0x10 1 0
def pairEn (s : Device) : Bool := bit 0 (fld 0 1 (paiRec s))
def pairUnit (s : Device) : Nat := bits 1 1 (fld 0 1 (paiRec s))
def autoJoin (s : Device) : Bool := bit 2 (fld 0 1 (paiRec s))
def yieldMs (s : Device) : Nat := fld 4 2 (paiRec s)

/-- The code of a pair state (Table PAI-8). -/
def paiCode : PaiMode → Nat
  | .off => 0 | .listen => 1 | .active => 2 | .joining => 3 | .synced => 4 | .takeover => 5 | .fenced => 6 | .orphan => 7

/-- The device enters a pair state and reports it (R627). -/
def paiState (m : PaiMode) (s : Device) : Device :=
  if s.pai.mode == m then s
  else raise Ev.paiState [(1, paiCode s.pai.mode), (1, paiCode m)] { s with pai.mode := m }

/-- The state a base image leaves the device in: LISTEN with PAIR_EN, OFF without (R627). Shipping stops. -/
def paiLoaded (s : Device) : Device :=
  paiState (if pairEn s then .listen else .off)
    { s with pai.shipping := false, pai.switch := none, pai.yield := false, pai.gotConfig := false, pai.gotImage := false }

/-! ## Lanes of the envelope (R43, R45) -/

/-- Healthy lanes outside the envelope: clock-gated, neither active nor spare. -/
def gatedLanes (s : Device) : List Nat :=
  (List.range 18).filter fun l => !bit l s.dpt.active && !bit l s.dpt.spare && bit l s.lpe.laneEn && !retired s 0 l

/-- The active lanes grow to the envelope by the lowest gated lanes and then by free spares (R234), and shrink to it by the
highest numbers; the fuel bounds how many. -/
def fitLanes : Nat → Device → Device
  | 0, s => s
  | n + 1, s =>
    let want := envLanes (envelope s)
    let have_ := popcount s.dpt.active
    if have_ < want then
      match gatedLanes s with
      | l :: _ => fitLanes n { s with dpt.active := s.dpt.active + 2 ^ l }
      | [] => refillLanes s.dpt.active s
    else if want < have_ then
      match (lanesByNo s s.dpt.active).getLast? with
      | some l => fitLanes n { s with dpt.active := s.dpt.active - 2 ^ l }
      | none => s
    else s

/-- The lanes as a reset of their registers leaves them: the healthy lanes by the map of retired units, 16 of them active and
the rest spare, fitted to the envelope (R187, R710). -/
def resetLanes (s : Device) : Device :=
  let well := (List.range 18).filter (fun l => !retired s 0 l)
  let mask := fun (ls : List Nat) => (ls.map (2 ^ ·)).sum
  fitLanes 18 { s with dpt.active := mask (well.take 16), dpt.spare := mask (well.drop 16) }

/-! ## Engines -/

/-- A task as a start or a halt leaves it: waiting, with its HELD values and its counts, and without primaries and FRESH
values (R614). -/
def restTask (now : STime) (b : List Byte) (k : Task) : Task :=
  { k with
    prim := [], ops := k.ops.filter (fun v => opKind b v.1 == 3), primWait := none, run := .waiting, owed := none
    captured := false, enabledAt := now }

/-- The engines of the Spire die halt: what is in flight on them ends (R112, R630). -/
def haltEngines (s : Device) : Device :=
  let s := stopEth (stopPgm s)
  { s with
    dpt.run := false, dpt.ready := [], dpt.lanes := [], dpt.mot := [], dpt.delay := [], dpt.coreReady := []
    dpt.cut := none, lpe.run := false, mot.run := false, kep.journalOn := false, kep.cut := none
    dpt.tasks := tmap s.dpt.tasks (fun slot k => restTask k.enabledAt (recNow s 0x02 1 slot) k) }

/-- The engines run (Table CFG-2, R168). -/
def runEngines (s : Device) : Device :=
  let tick := usT s.dpt.tick
  { s with
    dpt.run := true, lpe.run := true, mot.run := true, pgm.run := true, eth.run := true
    dpt.lastTick := if tick = 0 then 0 else nowS s / tick * tick }

/-- The journal starts: cuts are numbered from 1, and the first is a full cut (R594, R596). -/
def startJournal (s : Device) : Device :=
  { s with kep.journalOn := true, kep.needFull := true, kep.nextEpoch := 1, kep.lastBoundary := nowS s, kep.skipped := 0
           kep.epochUs := modeEpochUs (recNow s 0x01 1 0) }

/-- The engines start from initial values: every loop's next evaluation is its first, tasks begin anew, programs and
stations start (R184, R215, R413, R451). -/
def startEngines (s : Device) : Device :=
  let now := nowS s
  let s := { s with
    lpe.loops := (objsOf s 0x03 1).map (fun n => (n, { loopOf s n with first := true, evals := 0 }))
    dpt.tasks := tmap s.dpt.tasks (fun slot k => { restTask now (recNow s 0x02 1 slot) k with last := none }) }
  startJournal (retestLoad (runEth (runPgm (runEngines s))))

/-- CFG is RUNNING, and FBL yields (R111, R427, R617). -/
def enterRunning (s : Device) : Device :=
  let s := if s.cfg.mode == .running then s else cfgState .running s
  fblYield { s with kep.runAtLoss := true }

/-- CFG goes to LOADED from RUNNING, with FBL in control (R112, R425, R617). -/
def enterLoaded (s : Device) : Device :=
  let s := { haltEngines s with kep.runAtLoss := false }
  fblTake (if s.cfg.mode == .running then cfgState .loaded s else s)

/-! ## Base images -/

/-- Every unit takes a base image that has been checked (R107 to R110, R152, R264, R291, R307, R313, R380, R397, R472,
R541). -/
def applyImage (img : List Byte) (s : Device) : Device :=
  let img := img.take (fld 8 4 img)
  let objs := imageObjects img
  let oldDom := fun (d : Nat) => domRec s d
  let size := fun (c : Nat) => fld 13 1 (convRec s c)
  let s := { s with
    cfg := { s.cfg with
      mode := .loaded, version := fld 14 2 img, baseCrc := BitVec.ofNat 32 (fld 28 4 img), baseVersion := fld 14 2 img
      buildId := BitVec.ofNat 64 (fld 16 8 img), baseLen := img.length, objs := objs, armed := [], staging := []
      history := [], lastCommit := none, keepUs := keepUsOf objs }
    kep.base := img, kep.runAtLoss := false, kep.journalOn := false, kep.cut := none
    dpt := { s.dpt with
      run := false, unsched := false, tasks := [], ready := [], lanes := [], mot := [], delay := [], coreReady := []
      inflight := [], seqIn := [], seqOut := [], cut := none }
    lpe.run := false, lpe.loops := [], mot.run := false, mot.axes := [] }
  let s := fitLanes 18 { s with dpt.tick := tickOf (recNow s 0x02 0 0) }
  let s := loadAdc (nowD s) size s
  let s := loadDac s
  let s := loadDio (nowD s) s
  let s := loadCcr s
  let s := loadTim oldDom s
  let s := loadEth s
  let s := loadCan s
  let s := loadPgm s
  fblDrive (loadLtn s)

/-- CFG_BASE_LOADED (R148). -/
def baseLoaded (s : Device) : Device :=
  raise Ev.cfgBaseLoaded [(2, s.cfg.baseVersion), lo32 s.cfg.buildId.toNat] s

/-- A program image that is held writes a field output that a loop, an axis or another program writes (R395). -/
def imageWriters (s : Device) (v : View) : Bool :=
  !noRepeat (fieldWriters v ++ (vall v 0x04 1).flatMap (fun e => (pgmWriters (heldImage s e.1)).eraseDups))

/-- CFG_LOAD_BASE (R107 to R111, R118, R806). -/
def loadBase (bad : List Nat) (p : Pend) (s : Device) : CmdEnd :=
  let d := p.desc
  checked [
    .bad { target := false, bufMin := 1, bufMax := 16777216 } [],
    .when (s.cfg.mode == .running) .rejectedState 0,
    .buffer]
    (fun _ s =>
      match checkBase d.buf.bytes d.bufLen.toNat with
      | .unsupported => .fail .unsupported 0 s
      | .bad r i => contentFail 0xFFFF r i 16 s
      | .good =>
        if imageWriters s (imageObjects d.buf.bytes) then
          contentFail 0xFFFF 0x06 (sectionOfBlock (sections d.buf.bytes) 0x04) 16 s
        else keepWrite bad (fun s =>
          let s := baseLoaded (paiLoaded (applyImage d.buf.bytes (resync 3 s)))
          okWith s.cfg.baseVersion { s with kep.choice := false }) s) p s

/-! ## CFG_STOP -/

/-- Every loop is in an open mode and every axis at rest (R112). -/
def allOpen (s : Device) : Bool :=
  s.lpe.loops.all (fun l => l.2.modeAct != 4) &&
  s.mot.axes.all (fun a => (a.2.mode == .disabled || a.2.mode == .standstill || a.2.mode == .homingFailed) && a.2.plan.isNone)

/-- The armings still staging when CFG_STOP takes effect are withdrawn (R112). No patch is at fault, and the index that
CFG_ARM_FAIL carries is 0xFFF (DESIGN CHOICE, log 78). -/
def withdrawStaging (s : Device) : Device :=
  s.cfg.staging.foldl (fun s g => finish g.pend .rejectedState 0 [] (armFail g.slot .rejectedState 0x0E 0xFFF s))
    { s with cfg.staging := [] }

/-- CFG_STOP (R112). -/
def cfgStop (p : Pend) (s : Device) : CmdEnd :=
  checked [
    .bad { target := false } [],
    .when (s.cfg.mode != .running || !allOpen s) .rejectedState 0]
    (fun p s =>
      let s := withdrawStaging s
      let k := s.cfg.armed.length
      let s := s.cfg.armed.foldl (fun s a => raise Ev.cfgDisarmed [(2, a.slot), (2, a.version)] s) { s with cfg.armed := [] }
      syncOk k p (enterLoaded s)) p s

/-! ## Commits -/

/-- A loop whose task is enabled at a commit evaluates first from its destination, and counts its evaluations from the enabling
(R215, R231). -/
def freshLoops (old : Nat → List Byte) (s : Device) : Device :=
  (objsOf s 0x02 1).foldl (fun s slot =>
    let b := recNow s 0x02 1 slot
    if taskEnabled b && !taskEnabled (old slot) && fld 1 1 b == 0x03 then
      modLoop (fld 2 2 b) (fun l => { l with first := true, evals := 0 }) s
    else s) s

/-- The record in force of an object among those of another instant. -/
def recIn (objs : List CfgObj) (blk kind obj : Nat) : List Byte :=
  ((objs.find? (fun o => o.blk == blk && o.kind == kind && o.obj == obj)).map (·.cur)).getD []

/-- The units that run through a restart of the Spire die, and Lantern, take the records that come into force at `t`; `before`
are the objects as they stood (R142, R805). -/
def commitHeld (t : STime) (before : List CfgObj) (s : Device) : Device :=
  let old := recIn before
  let s := commitAdc t (old 0x08 1) s
  let s := commitDac (old 0x09 1) s
  let s := commitDio t (old 0x0A 2) (old 0x0A 3) s
  let s := commitTim t (old 0x0B 0 0) (old 0x0B 2) s
  let s := commitCan (old 0x0D 2) (old 0x0D 3) s
  commitLtn t s

/-- The loops whose task a commit disables: their traces stop (Table LTN-3). -/
def stopTraces (old : Nat → List Byte) (s : Device) : Device :=
  (objsOf s 0x02 1).foldl (fun s slot =>
    let b := recNow s 0x02 1 slot
    if !taskEnabled b && taskEnabled (old slot) && fld 1 1 b == 0x03 then traceDisabled (fld 2 2 b) s else s) s

/-- A standby holds the arming records of its peer and commits none of them: they stay armed for its takeover (R632, R638). -/
def holdsArmed (s : Device) : Bool := s.pai.mode == .joining || s.pai.mode == .synced || s.pai.mode == .takeover

/-- CFG_COMMIT (R128, R134, R138, R142, R148): working time reaches the earliest armed commit time, and the version comes
into force in every unit. -/
def cfgCommit (s : Device) : Device :=
  match s.cfg.armed with
  | [] => s
  | a :: _ =>
    if nowD s < a.commit || holdsArmed s then s
    else
      let before := s.cfg.objs
      let old := recIn before
      let t := a.commit
      let s := commitCfg a s
      let s := commitTasks t (old 0x02 1) s
      let s := stopTraces (old 0x02 1) (freshLoops (old 0x02 1) s)
      let s := commitLoops a (old 0x03 1) s
      let s := commitEth (old 0x0C 3) s
      let s := commitPgm (old 0x04 1) s
      let s := commitHeld t before s
      let s := { s with dpt.tick := tickOf (recNow s 0x02 0 0) }
      let was := popcount s.dpt.active
      let s := fitLanes 18 s
      if popcount s.dpt.active = was then s else retestLoad s

/-! ## The rows of the table of operations -/

/-- CFG_LOAD_BASE (R806): Checks a base image, stores it in the Keep, loads it and enters LOADED. -/
def execCfgLoadBase (d : Desc) (s : State) : Host.Outcome State Fault Refusal :=
  .next { s with dev := runCmd (loadBase d.bad) d s.dev }

/-- CFG_STOP (R112): With every loop open and every axis at rest, disarms overlays, halts the engines and hands
control to FBL. -/
def execCfgStop (d : Desc) (s : State) : Host.Outcome State Fault Refusal :=
  .next { s with dev := runCmd cfgStop d s.dev }

/-- CFG_COMMIT (R128): Working time reaches an armed commit time, and the new version comes into force in every
unit. -/
def execCfgCommit (s : State) : Host.Outcome State Fault Refusal :=
  .next { s with dev := cfgCommit s.dev }

end Sys2Proof.Machine
end

