-- ==== Sys2Proof/Machine/Restart.lean ====
section
/-!
DEFINITION. Machine/Restart.lean: the resets of the dies, booting, restoring an image of the Keep, resuming control, and
CFG_RUN (15_keep_restart, 18_errors_ordering, 21_security_access).
-/
namespace Sys2Proof.Machine

/-! ## Restart kinds (Table KEP-6): 0 SPIRE_WARM, 1 SPIRE_COLD, 2 DEVICE_WARM, 3 DEVICE_COLD; 4 stands for a takeover -/

def coldKind (kind : Nat) : Bool := kind == 1 || kind == 3

/-- A restart requested while another is in progress is merged into it (R618). -/
def mergeKind (a b : Nat) : Nat := 2 * max (a / 2) (b / 2) + max (a % 2) (b % 2)

/-- The kind that a device reset of a requested kind, or of none, takes from the restart it finds in progress (R618): a
takeover counts as warm, and a power loss ends what was in progress. -/
def absorbed (s : Device) (cause : Nat) (kind : Option Nat) : Option Nat :=
  match s.kep.running.filter (fun _ => cause != 1) with
  | none => kind
  | some (r, _) =>
    match kind with
    | some k => some (mergeKind (r % 4) k)
    | none => if coldKind (r % 4) then some 3 else none

/-- A restart begins: it is counted, recorded and reported (R617, R620). -/
def noteRestart (kind cause : Nat) (s : Device) : Device :=
  raise Ev.kepRestart [(1, kind), (1, cause)]
    { s with kep.restarts := s.kep.restarts + 1, kep.kind := kind, kep.cause := cause, kep.restoreUs := 0 }

/-! ## The Spire die goes down -/

/-- An open cut is discarded (R599): 1 Spire restart, 2 link down. -/
def discardCut (cause : Nat) (s : Device) : Device :=
  match s.kep.cut with
  | none => { s with dpt.cut := none }
  | some k =>
    raise Ev.kepCutDiscarded [lo32 k.epoch, (1, cause)]
      { s with kep.cut := none, dpt.cut := none, kep.discards := s.kep.discards + 1 }

/-- Every open scope closes (R771): 1 timer, 2 command, 3 reset. A closed TEST scope returns the TAP to BYPASS (R767). -/
def closeScopes (mask cause : Nat) (s : Device) : Device :=
  [0, 1, 2, 3].foldl (fun s k =>
    if !bit k mask || (tfind s.sec.scopes k).isNone then s
    else
      let s := { s with sec.scopes := tdel s.sec.scopes k }
      let s := if k = 1 then { s with tst.ir := 0xFF, tst.bypassed := false } else s
      raise Ev.secScopeClose [(1, k), (1, cause)] s) s

/-- Commands of Spire units whose work the reset ends, and with it their completion (R100). -/
def spireCommands (s : Device) : Nat :=
  s.cfg.staging.length + s.trc.read.toList.length + (s.pgm.progs.filter (fun g => g.2.exch.isSome)).length +
  s.pai.waits.length

/-- A program as DRAM keeps it: its image alone (R39, R397). -/
def progImage (g : Prog) : Prog := { image := g.image, hostReload := g.hostReload }

/-- The state of a slot of the boot flash. -/
def flashState (s : Device) (kind slot : Nat) : Nat :=
  ((s.sec.flash.find? (fun e => e.kind == kind && e.slot == slot)).map (·.state)).getD 0

/-- The boot flash slot a stage of a kind writes: the one that is EMPTY, else the OLD one (R762). -/
def stageSlot (s : Device) (kind : Nat) : Option Nat :=
  match [0, 1].find? (fun n => flashState s kind n == 0) with
  | some n => some n
  | none => [0, 1].find? (fun n => flashState s kind n == 3)

/-- A slot of the boot flash takes a state in the directory (R756, R762, R763). -/
def setFlash (kind slot state : Nat) (s : Device) : Device :=
  { s with sec.flash :=
      s.sec.flash.filter (fun e => !(e.kind == kind && e.slot == slot)) ++ [{ kind, slot, state : FlashEntry }] }

/-- A stage that fails, or that a reset aborts, leaves its slot EMPTY (R762). -/
def stageFails (s : Device) : Device :=
  match s.sec.staging with
  | none => s
  | some (kind, _) =>
    let s := { s with sec.staging := none }
    match stageSlot s kind with
    | some n => setFlash kind n 0 s
    | none => s

/-- The blocks of the Spire die that configuration records belong to: after a reset their units hold the version in force and
the staged ones, and no superseded record (R132, R134). -/
def spireBlock (blk : Nat) : Bool := [0x01, 0x02, 0x03, 0x04, 0x06, 0x0C, 0x11].contains blk

/-- LPE_LANE_EN is reset: a lane that it had excluded, and that no fault excludes, serves again (R234, R710). -/
def returnLanes (s : Device) : Device :=
  let back := (List.range 18).filter (fun l => !bit l s.lpe.laneEn && !bit l s.lpe.laneFault)
  { s with spr.retired := back.foldl (fun r l => r.erase (unitKey 0 l)) s.spr.retired }

/-- Spire registers and engines take their reset values; what stands in DRAM and in the map of retired units stays (R39,
R187, R233, R708, R710, R713). -/
def resetSpireUnits (s : Device) : Device :=
  let s := returnLanes s
  resetLanes { s with
    cfg := { s.cfg with
      staging := [], errIndex := 0, errReason := 0, errStatus := 0, vdrop := 0, lateArms := 0
      objs := s.cfg.objs.map (fun (o : CfgObj) => if spireBlock o.blk then { o with old := [] } else o) }
    dpt := { tick := s.dpt.tick, seqOut := s.dpt.seqOut, seqIn := s.dpt.seqIn }
    lpe := {}
    mot := {}
    pgm := { cores := s.pgm.cores, spare := s.pgm.spare, lost := s.pgm.lost,
             progs := tmap s.pgm.progs (fun _ g => progImage g) }
    eth := { portEnCopy := s.eth.portEnCopy }
    mem := { selfRefresh := true, rowErrors := s.mem.rowErrors }
    sec := { s.sec with nonce := none, staging := none, boot := tdel s.sec.boot 1 }
    outputs := [], reports := [], pai.waits := [] }

/-- DRAM has lost its contents (R787): Lantern's ring begins anew, each ADC buffer with an ANCHOR, and program code comes
from the Keep again. -/
def loseDram (s : Device) : Device :=
  { s with
    ltn.ring := [], ltn.wr := 0, ltn.rd := 0, ltn.ringFull := false
    adc.bufs := tmap s.adc.bufs (fun _ b => { b with recs := [], rd := b.wr, anchor := true })
    pgm.progs := tmap s.pgm.progs (fun n g => { g with image := tget s.kep.programs n [] }) }

/-- A crossing's reset with the entries that were in flight there (R690). -/
def resetCrossing (k : Nat) (s : Device) : Device :=
  let (n, s) := draw s
  crossingReset k (Config.crossingEntries n).toNat s

/-- The Spire die is reset (R39, R99, R100, R496, R599, R609, R663, R688, R705, R771): `cause` is 1 for a restart, 2 for a
link down, and `dram` says that DRAM is lost. -/
def spireDown (cause : Nat) (dram : Bool) (s : Device) : Device :=
  let lost := spireCommands s
  let s := dropExchanges (stageFails (closeScopes 15 3 s))
  let (mask, s) := traceLose s
  let s := { s with trc.lostMask := s.trc.lostMask ||| mask, hif.lostCpl := s.hif.lostCpl + BitVec.ofNat 32 lost }
  let s := sprSpireReset s
  let s := resetSpireUnits (ltnSpireReset (if dram then 1 else 0) (pmcReset (hifReset s)))
  let s := if dram then nameReload (loseDram s) else s
  let s := { s with btr.linkUp := false, btr.spireUp := false, btr.retraining := false, btr.retrain := none
                    btr.sideband := true, clk.spirePlls := false }
  let s := evrLinkDown (discardCut cause s)
  let s := timSpireDown (resetCrossing 1 (resetCrossing 0 s))
  let s := { s with pai.resetAt := match s.pai.resetAt with | some t => some t | none => some s.tim.ck }
  fblTake s

/-- The Spire die is held in reset (R696, R759). -/
def holdSpire (s : Device) : Device :=
  raise Ev.spireHeld [(1, s.btr.quick)] { s with btr.spireHeld := true }

/-- A Spire-only restart begins (R609, R618, R696): `kind` 0 or 1; `cause` as in KEP_RESTART; `down` the cause of a
discarded cut. A restart that is already in progress takes the new one in and runs from its beginning. -/
def spireRestart (kind cause down : Nat) (dram : Bool) (s : Device) : Device :=
  if s.kep.phase != .up then
    let merged := match s.kep.running with
      | some (k, c) => some (mergeKind k kind, c)
      | none => none
    let s := if s.btr.spireUp then spireDown down dram s else if dram then loseDram s else s
    { s with kep.running := merged, kep.phase := .boot }
  else
    let quick := if s.tim.ck < s.kep.resumedAt + 10000000000 then s.btr.quick + 1 else 0
    let s := noteRestart kind cause { s with btr.quick := quick }
    let s := spireDown down dram s
    let s := { s with kep.running := some (kind, cause), kep.phase := .boot }
    if 3 ≤ quick then holdSpire s else s

/-- A fatal Spire error (R694, R695). -/
def spireFatal (code detail : Nat) (dram : Bool) (s : Device) : Device :=
  spireRestart 0 4 (if code = 1 then 2 else 1) dram
    (raise Ev.spireFatal [(1, code), (2, detail)] { s with btr.fatal := code })

/-- SPIRE_WARM_RESTART (R609, R618): by command, a fatal error or the Spire watchdog. -/
def spireWarm (cause : Nat) (s : Device) : Device :=
  if cause < 3 ∨ 5 < cause ∨ !s.btr.spireUp then s else spireRestart 0 cause 1 false s

/-! ## The device is reset -/

/-- One direction of the link after training: the lanes that have not failed. -/
def trainedDir (d : BtrDir) : BtrDir := { lanes := d.lanes, failed := d.failed }

/-- Both dies are reset (R479, R546, R587, R609, R666, R676, R710, R771): what the Keep, the one-time store, the boot flash
and the always-on domain hold stays, and so do the levels that others drive. `cause` is as in KEP_RESTART; `kind` is given
by KEP_RESTART alone. -/
def deviceReset (cause : Nat) (kind : Option Nat) (s : Device) : Device :=
  let (mask, s) := traceLose (returnLanes (dropExchanges (stageFails s)))
  let r : Device := {}
  let s := { r with
    out := s.out, draws := s.draws
    cfg := { overlays := s.cfg.overlays }
    kep := { s.kep with
      cut := none, journalOn := false, restoring := false, read := none, restart := none, phase := .boot, choice := false
      running := (absorbed s cause kind).map (fun k => (k, cause))
      saved := if s.cfg.objs.isEmpty then s.kep.saved else some s.cfg
      rate := (0, 0), rateSec := 0, stretches := 0, stretchMax := 0, discards := 0, lastBoundary := 0 }
    fbl := { image := match s.fbl.next with | some i => i | none => s.fbl.image, id := s.fbl.id }
    adc := { convs := s.adc.convs.map (fun e =>
               (e.1, { phys := match e.2.cal with | some r => r.owner | none => e.2.phys : Conv })), cal := s.adc.cal }
    trc := { groups := s.trc.groups, lostMask := s.trc.lostMask ||| mask }
    pgm := { cores := s.pgm.cores, spare := s.pgm.spare, lost := s.pgm.lost }
    pmc := { gen := s.kep.restarts.toNat % 65536 }
    btr := { dirs := tmap s.btr.dirs (fun _ d => trainedDir d) }
    sec := { s.sec with scopes := [], nonce := none, staging := none, boot := [] }
    clk := { s.clk with spirePlls := false, pwrfail := s.clk.pwrfail, railEvt := 0, forceLow := false, warn := 0x6E, hyst := 5
                        maxS := s.clk.tempS, maxD := s.clk.tempD, warm := 0
                        railWait := if s.clk.rails % 128 = 127 then none else some (s.clk.rails / 8 % 16 != 15) }
    saf := s.saf, spr := s.spr, evr := s.evr
    tim := { ck := s.tim.ck }
    pai := { pact := s.pai.pact, fenced := s.pai.fenced } }
  let s := resetLanes (sprDeviceReset (safReset s))
  let base := (imageObjects s.kep.base).find? (fun o => !s.kep.base.isEmpty && o.blk == 0x0B && o.kind == 0)
  let s := match base with
    | none => s
    | some o =>
      let sel := fld 1 1 o.base
      { s with
        tim.rate := rateOf (sfld 24 4 o.base) 1
        tim.sel := sel
        tim.mode := if bit 0 (fld 0 1 o.base) then (if sel = 2 then .free else .tracking) else .unset }
  let s := evrBoot cause { s with btr.heartbeat := nowD s, btr.houseSignal := nowD s }
  if s.tim.mode == .unset then s else raise Ev.timeStepped [(4, 0), (1, 2)] { s with tim.steps := 1 }

/-- A device reset, with the cause CLK keeps (Table CLK-9) and what holds the device in reset after it. -/
def resetDevice (clkCause cause : Nat) (kind : Option Nat) (held : Option Nat) (s : Device) : Device :=
  let s := deviceReset cause kind s
  { s with clk.cause := clkCause, clk.held := held }

/-! ## Images of the Keep (R604, R605, R610) -/

def kepSlot (s : Device) (n : Nat) : KepSlot := tget s.kep.slots n {}

def putKepSlot (n : Nat) (q : KepSlot) (s : Device) : Device := { s with kep.slots := tset s.kep.slots n q }

/-- The slot a restore uses, or the reason why none qualifies: 1 no VALID slot, 2 BASE_CRC (R610). `bad` are the slots whose
CRC does not check. -/
def restoreSlot (s : Device) (bad : List Nat) : Except Nat (Nat × KepSlot) :=
  let valid := [0, 1].filter (fun n => (kepSlot s n).state == 2 && !bad.contains n)
  match valid.filter (fun n => (kepSlot s n).img.baseCrc == s.cfg.baseCrc) with
  | [] => .error (if valid.isEmpty then 1 else 2)
  | [n] => .ok (n, kepSlot s n)
  | n :: m :: _ => if (kepSlot s n).epoch < (kepSlot s m).epoch then .ok (m, kepSlot s m) else .ok (n, kepSlot s n)

/-- The records of the journal that follow an epoch by their PREV chain, up to the first bad one. -/
def goodRecords (bad : Option (Nat × Nat)) : Nat → List KepRec → List KepRec
  | _, [] => []
  | e, r :: rest =>
    if bad.any (fun b => b.1 == r.epoch) then []
    else if r.epoch ≤ e then goodRecords bad e rest
    else if r.prev = e then r :: goodRecords bad r.epoch rest
    else []

/-- Before a restore every committed record that follows the slot it would use is applied (R610). `slots` are those whose CRC
fails, and `bad` names the epoch of a record whose HCRC (1) or RCRC (2) fails. -/
def drainJournal (slots : List Nat) (bad : Option (Nat × Nat)) (s : Device) : Device :=
  let base := match restoreSlot s slots with
    | .ok (_, q) => q
    | .error _ => {}
  let from_ := base.epoch
  let rs := goodRecords bad from_ s.kep.journal
  let s := match bad with
    | some (e, why) =>
      if s.kep.journal.any (fun r => from_ < r.epoch && r.epoch == e) then raise Ev.kepRecordBad [lo32 e, (1, why)] s else s
    | none => s
  let s := { s with kep.journal := [] }
  if rs.isEmpty then s
  else
    let q := rs.foldl applyRecord base
    putKepSlot 0 q (putKepSlot 1 q s)

/-- The image's state enters the Spire units, as the units above use it (Tables KEP-5 and KEP-7). -/
def loadKepImage (q : KepSlot) (s : Device) : Device :=
  let i := q.img
  { s with
    dpt.tasks := i.tasks, lpe.loops := i.loops, mot.axes := i.axes
    eth.stations := tmap i.stations (fun _ x => { x with next := none, open_ := [], param := none })
    pgm.progs := tmap s.pgm.progs (fun n g =>
      match tfind i.progs n with
      | none => g
      | some c => { g with inst := c.inst, ran := c.ran && imgId g.image == c.imageId, mode := c.mode }) }

/-! ## Held values (R613) -/

/-- The value that a loop's first destination holds: the target of an axis that has received none is its position (R342), and
an inner loop's set-point is taken in the outer loop's number format (R202). -/
def heldValue (c : LoopCfg) (s : Device) : Option Int :=
  match c.kind with
  | 1 => some (dacOf s c.index).code
  | 2 => some ((pinOf s c.index).pwm : Nat)
  | 3 => some (axTarget (axisOf s c.index))
  | 4 => some (tget (stnOf s (c.index / 512)).outs (c.index % 512) {}).value.toInt
  | 5 =>
    let inner := loopCfg (recNow s 0x03 1 c.index)
    let (bf, w) := match tfind (taskOf s inner.slot).ops 1 with
      | some v => (v.tok.bf, v.tok.value)
      | none => (inner.bf, (loopOf s c.index).spLast)
    some (toWord c.bf ((convertA 7 c.bf bf w.toNat).run {}).1).toInt
  | _ => none

/-- A loop resumes from the value its destination holds (R219, R613). -/
def resumeLoop (s : Device) (n : Nat) : Device :=
  let c := loopCfg (recNow s 0x03 1 n)
  let l := loopOf s n
  let u := match (heldValue c s).bind (invertOut c c.kind) with
    | some u => toWord c.bf u
    | none => l.outLast
  let man := if l.modeAct = 2 then u else l.manOut
  modLoop n (fun l => { l with outLast := u, manOut := man, resume := l.modeAct == 4, cause := 4, before := none,
                               lateBefore := [], manSet := false }) s

/-! ## Axes on resume (R376 to R378) -/

/-- The newest feedback of an axis: that of the position port which feeds it, or the newest value it has. -/
def newestFeedback (s : Device) (a : Nat) : Int :=
  let b := axRec s a
  let port := (objsOf s 0x0A 3).find? fun q =>
    let r := recNow s 0x0A 3 q
    fld 2 2 r % 4096 == axisSlot s a && fld 2 2 r / 4096 % 8 == 2
  match port with
  | some q => if fld 2 1 b % 4 = 1 then (portOf s q).pos else (axisOf s a).fb
  | none => (axisOf s a).fb

/-- The position an axis takes on resume: from its drive, from its feedback, or its last set-point (R376). -/
def resumePos (s : Device) (a : Nat) : F64 :=
  let b := axRec s a
  let x := axisOf s a
  if fld 1 1 b = 1 then fAdd (fInt ((driveOf s (fld 4 2 b)).pos / 256)) x.hofs
  else if fld 2 1 b % 4 = 0 then fInt (setPoint x)
  else fInt (newestFeedback s a)

/-- A limit pin found active at resume latches again under R355 (R377). -/
def resumeLimit (a : Nat) (pos keep : Bool) (s : Device) : Device :=
  let pin := limPin (axRec s a) pos
  modLim a pos (fun l =>
    let latch := if keep then l.latch else none
    { latch, seen := (pinOf s pin).edgeAt,
      pend := if latch.isNone && pin != 0xFF && pinLevel s pin then some (nowD s) else none }) s

/-- The axis's drive is in FAULT: the axis stays held until CCR_CLEAR_FAULT (R374). -/
def axisFault (s : Device) (a : Nat) : Bool := fld 1 1 (axRec s a) = 1 && (driveOf s (fld 4 2 (axRec s a))).fault

/-- MOT takes the drive's position: a drive that ramped down accepts set-points again (R375). -/
def resumeDrive (s : Device) (a : Nat) : Device :=
  let b := axRec s a
  if fld 1 1 b = 1 then
    modDrive (fld 4 2 b) (fun d => if d.ramp.isSome then { d with ramp := none, points := [], time := none } else d) s
  else s

/-- The axis's target is where it stands (R376). -/
def heldTarget (a : Nat) (t : STime) (s : Device) : Device :=
  modAxis a (fun x => { x with target := none, askedAt := some t }) s

/-- An axis whose kept target is not resumed stays in STANDSTILL (R376). -/
def heldAxis (a : Nat) (t : STime) (kept : Int) (s : Device) : Device :=
  raise Ev.motResumeHeld [(1, a), sgn 4 kept] (setAxMode a .standstill (heldTarget a t s))

/-- An axis resumes (R376 to R378). -/
def resumeAxis (kind : Nat) (s : Device) (a : Nat) : Device :=
  let b := axRec s a
  let x := axisOf s a
  let src := fld 2 1 b % 4
  let t := nowS s
  let held := axisFault s a
  let s := resumeLimit a true (!coldKind kind) (resumeLimit a false (!coldKind kind) (resumeDrive s a))
  if coldKind kind then
    let p := if fld 1 1 b = 1 || src != 0 then resumePos (modAxis a (fun x => { x with hofs := {} }) s) a else {}
    let on_ := bit 0 (fld 0 1 b)
    modAxis a (fun x => { neg := x.neg, pos := x.pos, p, mode := if on_ then .standstill else .disabled, held, tickAt := x.tickAt }) s
  else
    let p := if kind = 4 && src = 0 then fInt (setPoint x) else resumePos s a
    let lost := (kind = 2 && src != 2) || (kind = 4 && src = 0)
    let kept := axTarget x
    let s := modAxis a (fun x => { x with
      p, v := {}, a := {}, plan := none, homed := x.homed && !lost, stopReq := none, homeReq := false, velFrom := none,
      stall := none, hist := [], past := [], held := held, fbOpen := false, tickAt := t / servo b * servo b }) s
    let s := if kind = 4 && lost then raise Ev.motHomeLost [(1, a)] s else s
    match x.mode with
    | .disabled | .homingFailed => s
    | .homingSeek | .homingBackoff => homeFail a b t 5 0 s
    | .moving =>
      if bit 5 (fld 0 1 b) then planTo a b (ceilTo (servo b) t) { p } (axLimits b).v (fInt kept) s
      else heldAxis a t kept s
    | .standstill => if fInt kept = p || x.target.isNone then heldTarget a t s else heldAxis a t kept s
    | .estop =>
      if held then heldTarget a t s
      else if x.target.isSome then heldAxis a t kept s
      else setAxMode a .standstill (heldTarget a t s)

/-! ## Programs on resume (R413, R414) -/

/-- The members of TIMER type with their offsets in the instance region. -/
def timerMembers (i : List Byte) : List Nat :=
  (instances i).flatMap fun e => ((membersOf i e.typ).filter (fun m => m.kind == 2)).map (fun m => e.off + m.off)

/-- Each running timer's START moved on by a span, in ns (Table PGM-7). -/
def advanceTimers (i : List Byte) (ns : Nat) (inst : List Byte) : List Byte :=
  (timerMembers i).foldl (fun b off =>
    let t := timerOf ((b.drop off).take 16)
    if t.run then overwrite off (timerBytes ((b.drop off).take 16) { t with start := (t.start + ns) % 2 ^ 64 }) b else b) inst

/-- A program resumes: RESUME after a Spire-only restart or a takeover, WARM or COLD after a power loss (R413, R414). -/
def resumeProgram (kind : Nat) (img : KepImage) (te : STime) (s : Device) (n : Nat) : Device :=
  let b := pgmRec s n
  let on_ := bit 0 (fld 0 1 b)
  let g := progOf s n
  let was := (tfind img.progs n).map (·.mode)
  let same := (tfind img.progs n).any (fun c => c.imageId == imgId g.image)
  let pend := if g.image.isEmpty then none
    else if kind = 2 then (if same then some (1, 0) else some (0, 1))
    else if same then some (2, 0) else some (0, 1)
  let inst := if kind = 2 && same then advanceTimers g.image ((nowS s - te) / 256) g.inst else g.inst
  let mode : PgmMode := if !on_ then .disabled else if g.image.isEmpty then .noImage
    else if was == some .fault then .fault else .idle
  let s := modProg n (fun g => { g with pend, inst, mode }) s
  if on_ then setRelease (pgmSlot s n) (if pgmContinuous b then nowS s else nextPeriodic b (nowS s + 1)) s else s

/-! ## Stations on resume (R463) -/

/-- A station that was LIVE stays LIVE, with requests from its first cycle boundary; one in PARAM begins again. -/
def resumeStation (s : Device) (st : Nat) : Device :=
  let q := stnOf s st
  match q.mode with
  | .live => modStn st (fun q => { q with next := some (nextCycle (stnRec s st) (nowS s)) }) s
  | .param => startParam st q.fromLost s
  | .lost => modStn st (fun q => { q with probeAt := nowS s }) s
  | .disabled => if bit 0 (fld 0 1 (stnRec s st)) then startParam st false s else s

/-! ## Tasks on resume (R614) -/

/-- A data-class task resumes: its HELD values, and a primary wait as though it had last fired at the resume instant. -/
def resumeTask (s : Device) (slot : Nat) : Device :=
  let b := recNow s 0x02 1 slot
  let now := nowS s
  let s := modTask slot (restTask (taskOf s slot).enabledAt b) s
  if taskEnabled b && !taskProgram b then
    let (p, w) := taskPW s slot
    modTask slot (fun k => { k with resumeAt := some now, primWait := some (now + p + w) }) s
  else s

/-! ## Resume -/

/-- Control resumes from an image (Table KEP-7, R612 to R614). -/
def resumeWarm (kind : Nat) (q : KepSlot) (s : Device) : Device :=
  let s := (objsOf s 0x0C 3).foldl resumeStation s
  let s := (objsOf s 0x06 1).foldl (resumeAxis kind) s
  let s := (objsOf s 0x02 1).foldl resumeTask s
  let s := (objsOf s 0x03 1).foldl resumeLoop s
  let s := runEngines s
  let s := (objsOf s 0x04 1).foldl (resumeProgram kind q.img q.te) s
  let nextEpoch := if kind = 0 then s.kep.nextEpoch else q.epoch + 1
  let needFull := (kepSlot s 0).state != 2 && (kepSlot s 1).state != 2
  retestLoad (fitLanes 18 { s with
    kep.journalOn := true, kep.lastBoundary := nowS s, kep.nextEpoch := nextEpoch, kep.needFull := needFull
    kep.epoch := q.epoch, kep.te := q.te, kep.epochUs := modeEpochUs (recNow s 0x01 1 0) })

/-- The units hold what the base image gives them, before a cold kind (R143, R463, R609). -/
def coldUnits (s : Device) : Device :=
  let s := s.cfg.armed.foldl (fun s a => raise Ev.cfgDisarmed [(2, a.slot), (2, a.version)] s) s
  let before := s.cfg.objs
  let s := { s with
    cfg := { s.cfg with
      armed := [], staging := [], history := [], version := s.cfg.baseVersion, lastCommit := none
      objs := s.cfg.objs.map (fun (o : CfgObj) => { o with cur := o.base, since := 0, old := [] }) }
    lpe.loops := [], mot.axes := [], eth.stations := []
    dpt.tasks := [], dpt.ready := [], dpt.lanes := [], dpt.mot := [], dpt.delay := [], dpt.coreReady := [] }
  commitHeld (nowD s) before (fitLanes 18 (loadPgm { s with cfg.keepUs := keepUsOf (viewNow s) }))

/-- Control resumes from initial values (R377, R596, R609, R616). -/
def resumeCold (kind : Nat) (s : Device) : Device :=
  startEngines ((objsOf s 0x06 1).foldl (resumeAxis kind) s)

/-- What stands at the resume instant for every kind (R248, R427, R612, R696, R721). -/
def resumed (s : Device) : Device :=
  let s := if s.trc.lostMask = 0 then s
    else raise Ev.ltnTraceLost [lo32 s.trc.lostMask] { s with trc.lostMask := 0 }
  sprResume { s with kep.phase := .up, kep.running := none, kep.restoring := false, kep.resumedAt := s.tim.ck
                     pai.resetAt := none }

/-! ## Boot (R756 to R761) -/

/-- The directory that a copy spells, if its CRC is correct (R756). -/
def readDirectory (b : List Byte) : Option (Nat × List FlashEntry) :=
  if fld 100 4 b ≠ (crc32c (b.take 100)).toNat ∨ b.length < 104 then none
  else some (fld 96 4 b, (List.range 6).map fun i =>
    { kind := fld (16 * i) 1 b, slot := fld (16 * i + 1) 1 b, state := fld (16 * i + 2) 1 b })

/-- The copy with the higher GEN of those whose CRC is correct. -/
def chooseDirectory (copies : List (List Byte)) : Option (Nat × List FlashEntry) :=
  copies.foldl (fun best c => match best, readDirectory c with
    | some (g, d), some (g', d') => if g < g' then some (g', d') else some (g, d)
    | none, x => x
    | x, none => x) none

/-- The slot the ROM tries first: the rollback slot, TRIAL, else ACTIVE (R758, R763). -/
def firstSlot (s : Device) (kind : Nat) : Option Nat :=
  match (if s.sec.rollbackBoot then tfind s.sec.rollback kind else none) with
  | some n => some n
  | none =>
    match [0, 1].find? (fun n => flashState s kind n == 2) with
    | some n => some n
    | none => [0, 1].find? (fun n => flashState s kind n == 1)

/-- The first check a boot image fails (R754, R757); a bad header counts as check 1. -/
def bootFault (s : Device) (kind : Nat) (img : List Byte) : Option Nat :=
  if fld 0 4 img ≠ 0x54425A4B ∨ fld 4 2 img ≠ 1 ∨ fld 6 1 img ≠ kind ∨ fld 60 4 img ≠ (crc32c (img.take 60)).toNat
     ∨ (if kind = 1 then 8388608 else 2097152) < fld 8 4 img then some 1
  else sigFault s (img.take (fld 8 4 img)) (fld 16 4 img) 0 (kind - 1)

/-- A verified image comes into use (R758, R761). -/
def useImage (kind slot : Nat) (fallback : Bool) (img : List Byte) (s : Device) : Device :=
  let u : BootUse := {
    slot, trial := flashState s kind slot == 2, fallback, version := fld 12 4 img,
    svn := fld (fld 16 4 img + 7) 1 img, meas := (shake256 64 (img.take (fld 16 4 img))).take 32 }
  raise Ev.secBoot [(1, kind), (1, slot), (4, u.version)] { s with sec.boot := tset s.sec.boot kind u }

/-- The ROM loads one kind, falling back to its other slot (R758); answers whether it started. -/
def bootKind (imgs : List (Nat × Nat × List Byte)) (kind : Nat) (s : Device) : Bool × Device :=
  let img := fun (slot : Nat) => ((imgs.find? (fun e => e.1 == kind && e.2.1 == slot)).map (·.2.2)).getD []
  match firstSlot s kind with
  | none => (false, s)
  | some n =>
    match bootFault s kind (img n) with
    | none => (true, useImage kind n false (img n) s)
    | some c =>
      let m := 1 - n
      if flashState s kind m != 1 && flashState s kind m != 3 then (false, s)
      else
        let s := raise Ev.secBootFallback [(1, kind), (1, n), (1, c)] s
        match bootFault s kind (img m) with
        | none => (true, useImage kind m true (img m) s)
        | some _ => (false, s)

/-- No slot of a kind verifies (R759): the Spire die is held; without DOME_FW or SAFA_FW the failure is also written into
the last-gasp store. -/
def bootFailed (kind : Nat) (s : Device) : Device :=
  let s := raise Ev.secBootFail [(1, kind)] s
  let s := if kind = 1 then s else
    lastGaspPut { time := nowD s, code := Ev.secBootFail, sev := sevOf Ev.secBootFail, payload := packFields 8 [(1, kind)] } s
  holdSpire s

/-- The kinds in their order, each once the one before it has started. -/
def bootKinds (imgs : List (Nat × Nat × List Byte)) : List Nat → Device → Bool × Device
  | [], s => (true, s)
  | k :: rest, s =>
    match bootKind imgs k s with
    | (true, s) => bootKinds imgs rest s
    | (false, s) => (false, bootFailed k s)

/-- The Spire die may leave reset: nothing holds it or the device (R696, R787, R792, R799). -/
def mayBoot (s : Device) : Bool :=
  s.kep.phase == .boot && !s.btr.spireHeld && s.clk.held.isNone && s.clk.railWait.isNone

/-- Fewer than 4 good lanes remain in a direction (R687). -/
def linkShort (s : Device) : Bool := [0, 1].any (fun d => popcount (btrDir s d).lanes < 4)

/-- After a boot the Spire die is up: DRAM leaves self-refresh and the ports train again (R472, R667, R690). -/
def spireStarted (s : Device) : Device :=
  evrLinkUp { s with
    btr.linkUp := true, btr.spireUp := true, btr.sideband := false, clk.spirePlls := true, mem.selfRefresh := false
    mem.scrubbing := true, eth.portEn := s.eth.portEnCopy, btr.heartbeat := nowD s, btr.lastFlit := nowD s
    btr.failedRetrains := 0, btr.dirs := tmap s.btr.dirs (fun _ d => trainedDir d) }

/-- What follows a boot (R609, R612, R615): a device reset reloads the base image, a Spire-only restart asks for its image
when CFG was RUNNING, and otherwise the units stand as the base image leaves them. -/
def bootDone (device : Bool) (s : Device) : Device :=
  let s := spireStarted s
  if device then { s with kep.phase := .reload }
  else if s.kep.runAtLoss then { s with kep.phase := .image, kep.restoring := true, kep.askedAt := s.tim.ck }
  else
    let s := if s.cfg.mode == .loaded then loadPgm { s with lpe.loops := [], mot.axes := [] } else s
    resumed s

/-- BOOT_VERIFY (R758 to R761): `dirs` are the copies of the flash directory and `imgs` the images by kind and slot. If the
link cannot train the die is held (R688, R696). -/
def bootVerify (dirs : List (List Byte)) (imgs : List (Nat × Nat × List Byte)) (s : Device) : Device :=
  if !mayBoot s then s
  else if linkShort s then holdSpire s
  else
    let s := match chooseDirectory dirs with
      | some (g, d) => { s with sec.gen := BitVec.ofNat 32 g, sec.flash := d }
      | none => { s with sec.flash := [] }
    let device := match s.kep.running with
      | some (k, _) => decide (2 ≤ k)
      | none => true
    match bootKinds imgs (if device then [2, 3, 1] else [1]) { s with btr.linkUp := true } with
    | (false, s) => { s with btr.linkUp := false }
    | (true, s) => bootDone device { s with sec.rollbackBoot := s.sec.rollbackBoot && !device }

/-! ## The image is restored (R610, R611) -/

/-- YIELD is set on the active device of a synced pair (R640). -/
def setYield (s : Device) : Device := if s.pai.synced then { s with pai.yield := true } else s

/-- No slot qualifies, or the restore meets an uncorrectable error (R610). -/
def restoreFails (kind reason : Nat) (s : Device) : Device :=
  setYield (raise Ev.kepRestoreFail [(1, kind), (1, reason)] s)

/-- Restores for a kind: the kind that the restart ends as, with the slot a warm one used. -/
def restoreFor (kind : Nat) (ecc : Bool) (bad : List Nat) (rec_ : Option (Nat × Nat)) (s : Device) :
    Nat × Option KepSlot × Device :=
  let cold := fun (k : Nat) (s : Device) => (k, (none : Option KepSlot), coldUnits s)
  let colder := if kind = 4 then 1 else kind + 1
  if coldKind kind then cold kind s
  else
    let s := drainJournal bad rec_ s
    match restoreSlot s bad with
    | .error why => cold colder (restoreFails (kind % 4) why s)
    | .ok (n, q) =>
      if ecc then cold colder (restoreFails (kind % 4) 3 s)
      else
        let us := sat 16 ((s.tim.ck - s.kep.askedAt) / 1000)
        let s := loadKepImage q { s with kep.restoreUs := us }
        (kind, some q, raise Ev.kepRestored [(1, kind % 4), (1, n), lo32 q.epoch, (2, us)] s)

/-- IMAGE_RESTORE (R610, R611): `ecc` tells of an uncorrectable error, `bad` are slots whose CRC fails, and `rec_` a bad
journal record. -/
def imageRestore (ecc : Bool) (bad : List Nat) (rec_ : Option (Nat × Nat)) (s : Device) : Device :=
  match s.kep.running with
  | some (kind, cause) =>
    if s.kep.phase != .image || !s.btr.spireUp then s
    else
      let (kind', q, s) := restoreFor kind ecc bad rec_ s
      { s with kep.running := some (kind', cause), kep.kind := if kind = 4 then s.kep.kind else kind', kep.phase := .resume, kep.restoring := false
               kep.restored := q }
  | none => s

/-- CONTROL_RESUME (R612 to R614): units resume in order, and FBL yields; after a device reset not before working time has
been stepped (R483). -/
def controlResume (s : Device) : Device :=
  match s.kep.running with
  | some (kind, _) =>
    if s.kep.phase != .resume || !s.btr.spireUp || s.pai.mode == .takeover || (2 ≤ kind && s.tim.mode == .unset) then s
    else
      let s := match s.kep.restored with
        | some q => if coldKind kind then resumeCold kind s else resumeWarm kind q s
        | none => resumeCold kind s
      enterRunning (resumed { s with kep.restored := none })
  | none => s

/-! ## After a device reset (R615) -/

/-- RESTART_POLICY that a power loss meets: that in force at the loss, which the Keep holds with the configuration, else that
of the selected image (R115, R138, R615; DEDUCED, log 82). -/
def lossPolicy (q : KepSlot) (s : Device) : Nat :=
  match s.kep.saved with
  | some c =>
    if c.baseCrc == s.cfg.baseCrc then
      modePolicy (((c.objs.find? (fun o => o.blk == 0x01 && o.kind == 1 && o.obj == 0)).map (·.cur)).getD [])
    else q.img.policy
  | none => q.img.policy

/-- The kind R615 chooses: DEVICE_WARM if RESTART_POLICY is WARM, else DEVICE_COLD, as also where no image qualifies. -/
def lossKind (s : Device) : Nat :=
  match restoreSlot s [] with
  | .ok (_, q) => if lossPolicy q s = 0 then 2 else 3
  | .error _ => 3

/-- What the Keep holds of CFG for a warm restart: the version in force, kept and armed versions (R120, R141). -/
def savedCfg (s : Device) : Device :=
  match s.kep.saved with
  | some c =>
    if c.baseCrc == s.cfg.baseCrc then
      commitHeld (nowD s) s.cfg.objs { s with cfg := { s.cfg with
          version := c.version, objs := c.objs, armed := c.armed, history := c.history, lastCommit := c.lastCommit
          keepUs := c.keepUs } }
    else s
  | none => s

/-- A device restart of a kind begins: the Spire die asks for the image (R609). -/
def beginRestart (kind cause : Nat) (s : Device) : Device :=
  let s := noteRestart kind cause s
  let s := if coldKind kind then s else savedCfg s
  { s with kep.running := some (kind, cause), kep.phase := .image, kep.restoring := true, kep.askedAt := s.tim.ck
           kep.runAtLoss := true, kep.choice := false }

/-- DEVICE_RESTART (R110, R615, R627, R629): the base image is reloaded from the Keep, and with RUN_AT_LOSS the device
restarts by itself, in a pair after its listen time. -/
def deviceRestart (s : Device) : Device :=
  if s.kep.phase != .reload || !s.btr.spireUp then s
  else if s.kep.base.isEmpty then resumed { s with kep.runAtLoss := false }
  else
    let run := s.kep.runAtLoss
    let asked := s.kep.running
    let s := nameReload (paiLoaded (baseLoaded (applyImage s.kep.base s)))
    match asked with
    | some (kind, cause) =>
      if run then { beginRestart kind cause s with kep.runAtLoss := true }
      else { resumed s with kep.choice := true }
    | none =>
      if !run then { resumed s with kep.choice := true }
      else if pairEn s then
        { resumed s with kep.runAtLoss := true, kep.choice := true
                         pai.listenUntil := some (s.tim.ck + 5000000 + pairUnit s * 5000000) }
      else beginRestart (lossKind s) s.kep.lossCause s

/-! ## CFG_RUN -/

/-- CFG_RUN proceeds: from a device reset that no restart followed it restores under the choice of R615, otherwise the
engines start from what they hold (R111, R184, R215, R413, R615). -/
def goRunning (s : Device) : Device :=
  if s.kep.choice then
    let kind := lossKind s
    let s := { s with kep.choice := false, kep.askedAt := s.tim.ck }
    let s := if coldKind kind then s else savedCfg s
    let (kind', q, s) := restoreFor kind false [] none s
    enterRunning (match q with
      | some q => if coldKind kind' then resumeCold kind' s else resumeWarm kind' q s
      | none => resumeCold kind' s)
  else enterRunning (startEngines s)

/-- A heartbeat of an ACTIVE peer has arrived within the last 1 ms (R628). -/
def activePeer (s : Device) : Bool :=
  s.pai.peerState == 2 && s.pai.peer.any (fun b => s.tim.ck < b.ck + 1000000)

/-- CFG_RUN (R111, R483, R573, R628): a paired device first claims its role. -/
def cfgRun (p : Pend) (s : Device) : CmdEnd :=
  let m := s.pai.mode
  let claims := m == .listen || m == .orphan
  checked [
    .bad { target := false } [],
    .when (s.cfg.mode != .loaded || s.saf.cfg.isEmpty || s.tim.mode == .unset || !safPortsOk s || s.kep.phase != .up)
      .rejectedState 0,
    .when (s.pai.claim.isSome || (m != .off && m != .active && !claims) || (claims && activePeer s)) .rejectedState 0]
    (fun p s =>
      if claims then .wait { s with pai.claim := some (some p, s.tim.ck), pai.listenUntil := none }
      else
        let s := goRunning s
        okWith s.cfg.version s) p s

/-! ## KEP commands (R619) -/

/-- KEP_RESTART (R619): the restart begins 100 µs after it takes effect. -/
def kepRestart (p : Pend) (s : Device) : CmdEnd :=
  let d := p.desc
  checked [
    .bad { target := false, pmask := 1 } [(3 < d.p0.toNat, 24)],
    .when (needMaint s) .authRequired 0,
    .when (s.cfg.mode == .unconfigured) .rejectedState 0]
    (fun _ s =>
      let k := match s.kep.restart with
        | some (k, _, _) => mergeKind k d.p0.toNat
        | none => d.p0.toNat
      okWith (s.kep.epoch % 2 ^ 32) { s with kep.restart := some (k, 3, s.tim.ck + 100000) }) p s

/-- KEP_RESTART_DELAY_EXPIRY (R619). -/
def restartDelay (s : Device) : Device :=
  match s.kep.restart with
  | none => s
  | some (k, c, at_) =>
    if s.tim.ck < at_ then s
    else
      let s := { s with kep.restart := none }
      if k < 2 then spireRestart k c 1 false s else deviceReset c (some k) { s with kep.lossCause := c }

/-- KEP_READ_IMAGE (R619): the slot is copied into its window, and is not applied to meanwhile. -/
def kepReadImage (p : Pend) (s : Device) : CmdEnd :=
  let n := p.desc.target.toNat
  checked [
    .when (1 < n) .notFound 0,
    .bad plain [],
    .when ((kepSlot s n).state != 2 || (windowOf s 0x0F10).isNone || s.kep.read.isSome) .rejectedState 0]
    (fun p s => .wait { s with kep.read := some (n, 0, p) }) p s

/-- KEP_CLEAR_COUNTERS (R619). -/
def kepClear (p : Pend) (s : Device) : CmdEnd :=
  let m := p.desc.p0.toNat
  checked [.bad { target := false, pmask := 1 } [(8 ≤ m, 24)]]
    (fun _ s => okWith 0 { s with
      kep.stretches := clr m 0 s.kep.stretches, kep.stretchMax := clrN m 1 s.kep.stretchMax
      kep.discards := clr m 2 s.kep.discards }) p s

/-! ## The rows of the table of operations -/

/-- CFG_RUN (R111): Moves CFG from LOADED to RUNNING, subject to time, pair and Belfry checks. -/
def execCfgRun (d : Desc) (s : State) : Host.Outcome State Fault Refusal :=
  .next { s with dev := runCmd cfgRun d s.dev }

/-- SPIRE_WARM_RESTART (R609): A Spire-only restart begins: the Spire die resets while the Dome die runs on. -/
def execSpireWarmRestart (cause : Nat) (s : State) : Host.Outcome State Fault Refusal :=
  .next { s with dev := spireWarm cause s.dev }

/-- BOOT_VERIFY (R758): The boot ROM verifies a firmware image and falls back if needed. -/
def execBootVerify (dirs : List (List Byte)) (imgs : List (Nat × Nat × List Byte)) (s : State) : Host.Outcome State Fault Refusal :=
  .next { s with dev := bootVerify dirs imgs s.dev }

/-- IMAGE_RESTORE (R610): The Spire die requests the image, and the latest valid slot is restored. -/
def execImageRestore (ecc : Bool) (bad : List Nat) (badRec : Option (Nat × Nat)) (s : State) : Host.Outcome State Fault Refusal :=
  .next { s with dev := imageRestore ecc bad badRec s.dev }

/-- CONTROL_RESUME (R612): Units resume in order, and FBL yields at the resume instant. -/
def execControlResume (s : State) : Host.Outcome State Fault Refusal :=
  .next { s with dev := controlResume s.dev }

/-- DEVICE_RESTART (R615): After a device reset, the base image is reloaded and a warm or cold restart runs if
RUN_AT_LOSS is set. -/
def execDeviceRestart (s : State) : Host.Outcome State Fault Refusal :=
  .next { s with dev := deviceRestart s.dev }

/-- KEP_RESTART (R619): Requests a restart of a given kind 100 µs after it takes effect. -/
def execKepRestart (d : Desc) (s : State) : Host.Outcome State Fault Refusal :=
  .next { s with dev := runCmd kepRestart d s.dev }

/-- KEP_RESTART_DELAY_EXPIRY (R619): 100 µs after KEP_RESTART takes effect, the restart begins. -/
def execKepRestartDelayExpiry (s : State) : Host.Outcome State Fault Refusal :=
  .next { s with dev := restartDelay s.dev }

/-- KEP_READ_IMAGE (R619): Copies an image slot into its window. -/
def execKepReadImage (d : Desc) (s : State) : Host.Outcome State Fault Refusal :=
  .next { s with dev := runCmd kepReadImage d s.dev }

/-- KEP_CLEAR_COUNTERS (R619): Clears the selected KEP counters. -/
def execKepClearCounters (d : Desc) (s : State) : Host.Outcome State Fault Refusal :=
  .next { s with dev := runCmd kepClear d s.dev }

end Sys2Proof.Machine
end

