-- ==== Sys2Proof/Machine/Btr.lean ====
section
/-!
DEFINITION. Machine/Btr.lean: errors of the Buttress link, its crossings, the watchdogs, fatal Spire errors and DRAM errors
(18_errors_ordering).
-/
namespace Sys2Proof.Machine

def modDir (d : Nat) (f : BtrDir → BtrDir) (s : Device) : Device := { s with btr.dirs := tmod s.btr.dirs d {} f }

/-! ## The link goes down (R687, R688) -/

/-- BTR_LINK_DOWN with its cause, and the SPIRE_WARM that follows (R687, R688, R694). -/
def linkDown (cause : Nat) (s : Device) : Device :=
  let s := raise Ev.btrLinkDown [(1, cause)] { s with btr.linkUp := false, btr.downs := s.btr.downs + 1 }
  spireFatal 1 cause false s

/-! ## Replay and retrain (R28, R684, R685) -/

/-- A retrain begins, unless three in succession have delivered no flit (R685, R687). -/
def beginRetrain (d : Nat) (s : Device) : Device :=
  if 3 ≤ s.btr.failedRetrains then linkDown 2 s
  else { s with btr.retraining := true, btr.retrain := some (d, nowD s) }

/-- The transmitter of a direction replays from its first unacknowledged flit. `accepted` flits of the direction have been
accepted since the event before. Fifteen flits at most are unacknowledged, so the number has 4 bits (R27, R28). -/
def replay (d accepted : Nat) (s : Device) : Device :=
  if !s.btr.linkUp || s.btr.retraining || 2 ≤ d then s
  else
    let s := if accepted = 0 then s else
      modDir d (fun b => { b with tries := 0, seq := (b.seq + accepted) % 16 })
        { s with btr.failedRetrains := 0, btr.lastFlit := nowD s }
    let b := btrDir s d
    if 4 ≤ b.tries then beginRetrain d s
    else
      let now := nowD s
      let recent := now :: b.recent.filter (fun t => now < t + usT 10)
      let s := modDir d (fun b => { b with tries := b.tries + 1, recent }) { s with btr.replays := s.btr.replays + 1 }
      let s := raise Ev.btrReplay [(1, d), (1, b.seq)] s
      if 16 ≤ recent.length then beginRetrain d s else s

/-- A lane of a direction has failed the training pattern: the spare lane takes its place (R685, R712, R714). -/
def failLane (d l : Nat) (s : Device) : Device :=
  let used := bit l (btrDir s d).lanes
  let s := modDir d (fun b => { b with lanes := b.lanes - flag l used, failed := b.failed ||| 2 ^ l }) s
  if !used then s
  else match faultSwap 3 (5 * d + l) (fun x s => modDir d (fun b => { b with lanes := b.lanes ||| 2 ^ (x % 5) }) s)
      (endOf 1 3 (5 * d + l) 1 s) with
    | (some _, s) => raise Ev.btrLaneSpared [(1, d), (1, l)] s
    | (none, s) => s

/-- RETRAIN_END (R685, R687): the lanes of `failed` showed errors in the 4 µs pattern, a mask over both directions with the
numbers of Table SPR-1. -/
def retrainEnd (failed : Nat) (s : Device) : Device :=
  match s.btr.retrain with
  | none => s
  | some (d, from_) =>
    let now := nowD s
    if now < from_ + usT 4 then s
    else
      let s := (List.range 10).foldl (fun s u =>
        if bit u failed && !bit (u % 5) (btrDir s (u / 5)).failed then failLane (u / 5) (u % 5) s else s) s
      let s := modDir d (fun b => { b with tries := 0, recent := [] }) { s with
        btr.retraining := false, btr.retrain := none, btr.retrains := s.btr.retrains + 1
        btr.failedRetrains := s.btr.failedRetrains + 1 }
      let s := raise Ev.btrRetrain [(1, d), (1, failed / 32 ^ d % 32), (4, (now - from_) / 256)] s
      if linkShort s then linkDown 1 s else s

/-- LINK_IDLE_TIMEOUT (R687): no flit has been accepted for 100 µs. -/
def linkIdle (s : Device) : Device :=
  if !s.btr.linkUp || nowD s < s.btr.lastFlit + usT 100 then s else linkDown 3 s

/-! ## Crossings (R689, R690) -/

/-- The reset side of a crossing is out of reset (Table ERR-3). -/
def crossingReady (s : Device) : Nat → Bool
  | 0 => s.btr.linkUp && s.btr.spireUp
  | 1 => s.btr.spireUp && s.hif.linkUp
  | _ => s.btr.spireUp

/-- CROSSING_HANDSHAKE (R690): the queues of crossing `k` restart. -/
def crossingHandshake (k : Nat) (s : Device) : Device :=
  if s.btr.xreset.contains k && crossingReady s k then { s with btr.xreset := s.btr.xreset.filter (· != k) } else s

/-! ## Supervision (R692 to R695) -/

/-- SPIRE_WATCHDOG (R692): no Spire heartbeat for 1 ms while the link is up. -/
def spireWatchdog (s : Device) : Device :=
  if !s.btr.linkUp || !s.btr.spireUp || nowD s < s.btr.heartbeat + msT 1 then s else spireRestart 0 5 1 false s

/-- DOME_WATCHDOG (R693): no signal of the housekeeping core for 10 ms. -/
def domeWatchdog (s : Device) : Device :=
  if s.clk.held.isSome || nowD s < s.btr.houseSignal + msT 10 then s
  else resetDevice 3 6 none none { s with kep.lossCause := 6 }

/-- SPIRE_FATAL (R694, R695): an error of codes 2 to 6 of Table ERR-5, with its detail. One that comes while the Spire die
starts is merged into that start. -/
def fatalError (code detail : Nat) (s : Device) : Device :=
  if s.btr.spireHeld || s.clk.held.isSome || code < 2 || 6 < code then s else spireFatal code detail false s

/-- SIDEBAND_READ_TIMEOUT (R704): a read of the Dome register at `off` has no data at 40 µs, after `repeats` transfers were
repeated. -/
def sidebandTimeout (off repeats : Nat) (s : Device) : Device :=
  if s.btr.linkUp then s
  else
    let s := if repeats = 0 then s else raise Ev.btrSidebandErr [(2, repeats)] s
    { s with out := s.out ++ [.abort off], btr.rdAbort := s.btr.rdAbort + 1 }

/-! ## DRAM (R698 to R701) -/

/-- One corrected error of a row (R698, R699). -/
def correctedError (row addr : Nat) (s : Device) : Device :=
  let now := nowD s
  let times := (now :: (tget s.mem.rowErrors row [])).filter (fun t => now < t + secT 86400)
  let s := raise Ev.memCeEvent [lo32 addr] { s with
    mem.ce := s.mem.ce + 1, mem.passErrors := s.mem.passErrors + 1, mem.rowErrors := tset s.mem.rowErrors row times }
  if times.length < 8 then s else softRemap row s

/-- DRAM_SCRUB (R698, R699): a row is read, its errors at `addrs` are corrected, and `last` ends the pass. -/
def dramScrub (row : Nat) (addrs : List Nat) (last : Bool) (s : Device) : Device :=
  if !s.btr.spireUp || s.mem.selfRefresh then s
  else
    let s := addrs.foldl (fun s a => correctedError row a s) s
    if !last then s
    else
      let n := s.mem.passErrors
      let s := { s with mem.scrubPass := s.mem.scrubPass + 1, mem.passErrors := 0 }
      raise Ev.memScrubDone [(4, s.mem.scrubPass.toNat), (2, n)] s

/-- An uncorrectable error in a program's code: FAULT with cause 6, and the code comes from the Keep again (R700, R397). -/
def codeError (n : Nat) (s : Device) : Device :=
  let running := s.pgm.run_.findSome? (fun c => match c.2.cyc with
    | some y => if y.prog = n then some (c.1, y) else none
    | none => none)
  let s := match running with
    | some (c, y) => faultProgram c 6 y s
    | none =>
      raise Ev.pgmFault [(1, n), (1, 6), (4, 0)]
        (modProg n (fun g => { g with mode := .fault, cause := 6 }) { s with pgm.faults := s.pgm.faults + 1 })
  match tfind s.kep.programs n with
  | some i => modProg n (fun g => { g with image := i }) s
  | none => modProg n (fun g => { g with hostReload := true }) s

/-- MEM_UE (R700, R701): `region` 1 Lantern, 2 ADC, 3 code of program `prog`, 4 control. -/
def memUe (region addr window segment off prog : Nat) (s : Device) : Device :=
  if !s.btr.spireUp || s.mem.selfRefresh || region = 0 || 4 < region || (region == 3 && (progOf s prog).image.isEmpty) then s
  else
    let w := if region ≤ 2 then window else 0xFF
    let s := raise Ev.memUe [(1, region), (1, w), (2, segment), (4, off)]
      { s with mem.ue := s.mem.ue + 1, mem.ueAddr := BitVec.ofNat 64 addr }
    match region with
    | 3 => codeError prog s
    | 4 => spireFatal 3 0 false s
    | _ => s

/-! ## The rows of the table of operations -/

/-- FLIT_CRC_ERROR (R28): A flit with a CRC error is discarded and replayed. -/
def execFlitCrcError (dir accepted : Nat) (s : State) : Host.Outcome State Fault Refusal :=
  .next { s with dev := replay dir accepted s.dev }

/-- REPLAY_TIMEOUT (R684): t_BTR_ACK without acknowledgement replays from the first unacknowledged flit. -/
def execReplayTimeout (dir accepted : Nat) (s : State) : Host.Outcome State Fault Refusal :=
  .next { s with dev := replay dir accepted s.dev }

/-- RETRAIN_END (R685): The training pattern ends, failed lanes are replaced, and sending restarts. -/
def execRetrainEnd (failed : Nat) (s : State) : Host.Outcome State Fault Refusal :=
  .next { s with dev := retrainEnd failed s.dev }

/-- LINK_IDLE_TIMEOUT (R687): No flit accepted for t_BTR_DOWN takes the link down. -/
def execLinkIdleTimeout (s : State) : Host.Outcome State Fault Refusal :=
  .next { s with dev := linkIdle s.dev }

/-- CROSSING_HANDSHAKE (R690): The reset side leaves reset, and the crossing queues restart. -/
def execCrossingHandshake (k : Nat) (s : State) : Host.Outcome State Fault Refusal :=
  .next { s with dev := crossingHandshake k s.dev }

/-- SPIRE_WATCHDOG (R692): 1 ms without a Spire heartbeat begins a SPIRE_WARM. -/
def execSpireWatchdog (s : State) : Host.Outcome State Fault Refusal :=
  .next { s with dev := spireWatchdog s.dev }

/-- DOME_WATCHDOG (R693): 10 ms without a housekeeping signal resets the device. -/
def execDomeWatchdog (s : State) : Host.Outcome State Fault Refusal :=
  .next { s with dev := domeWatchdog s.dev }

/-- SPIRE_FATAL (R694): A fatal Spire error begins a SPIRE_WARM. -/
def execSpireFatal (code detail : Nat) (s : State) : Host.Outcome State Fault Refusal :=
  .next { s with dev := fatalError code detail s.dev }

/-- SIDEBAND_READ_TIMEOUT (R704): A sideband read without data at 40 µs completes with Completer Abort. -/
def execSidebandReadTimeout (off repeats : Nat) (s : State) : Host.Outcome State Fault Refusal :=
  .next { s with dev := sidebandTimeout off repeats s.dev }

/-- DRAM_SCRUB (R698): The scrubber reads a row and corrects errors. -/
def execDramScrub (row : Nat) (addrs : List Nat) (last : Bool) (s : State) : Host.Outcome State Fault Refusal :=
  .next { s with dev := dramScrub row addrs last s.dev }

/-- MEM_UE (R700): An uncorrectable DRAM error is handled according to its region. -/
def execMemUe (region addr window segment off prog : Nat) (s : State) : Host.Outcome State Fault Refusal :=
  .next { s with dev := memUe region addr window segment off prog s.dev }

end Sys2Proof.Machine
end

