-- ==== Sys2Proof/Machine/Pair.lean ====
section
/-!
DEFINITION. Machine/Pair.lean: active and standby pairs (16_pair).
-/
namespace Sys2Proof.Machine

/-! ## Heartbeats (R626) -/

/-- Last epoch applied to both image slots. -/
def appliedBoth (s : Device) : Nat :=
  if (kepSlot s 0).state = 2 ∧ (kepSlot s 1).state = 2 then min (kepSlot s 0).epoch (kepSlot s 1).epoch else 0

/-- The heartbeat the device sends now (Table PAI-1). -/
def beatBytes (s : Device) : List Byte :=
  let flags := flag 0 (pairUnit s == 1) + flag 1 s.btr.spireUp + flag 2 (s.cfg.mode == .running) + flag 3 s.pai.yield +
    flag 4 (s.tim.mode != .unset)
  let epoch := if s.pai.mode == .active then s.kep.epoch else appliedBoth s
  let b := le 1 (paiCode s.pai.mode) ++ le 1 flags ++ le 1 (safCode s.saf.mode) ++ [0#8] ++ le 4 s.pai.seq.toNat ++
    le 8 (nowD s / 256) ++ le 8 epoch ++ le 2 (versionAt s (nowD s)) ++ le 2 0
  b ++ le 4 (crc32c b).toNat

/-- The device asserts PR_ACT_N (R624, R637): in the claim of a role, or ACTIVE with a heartbeat within the last 200 µs, and
never while PR_FENCED_N is asserted or the balls are harmless (R794). With no lane up a heartbeat counts as sent, as R634 has
the signal stay asserted then (DEDUCED, log 97). -/
def prAct (s : Device) : Bool :=
  ballsLive s && !s.pai.fenced && (s.pai.claim.isSome || (s.pai.mode == .active && decide (nowD s ≤ s.pai.sentAt + usT 200)))

/-- PAI_SWITCHOVER completes when YIELD has been sent (R643). -/
def switchDone (s : Device) : Device :=
  match s.pai.switch, s.pai.yield with
  | some (p, _, some e), true => finish p .ok (e % 2 ^ 32) [] { s with pai.switch := none }
  | _, _ => s

/-- HEARTBEAT_SEND (R626, R645): at every multiple of 100 µs of working time, on each lane that is up. -/
def heartbeatSend (s : Device) : Device :=
  let due := nowD s / usT 100 * usT 100
  if s.pai.mode == .off || due ≤ s.pai.sentAt then s
  else
    let b := beatBytes s
    let up := [0, 1].filter (fun l => bit l s.pai.lanes)
    let missed := up.countP (fun l => tget s.pai.laneBeat l 0 + 100000 < s.tim.ck)
    let s := { s with
      pai.sentAt := due, pai.seq := s.pai.seq + 1, pai.hbMiss := s.pai.hbMiss + BitVec.ofNat 32 missed
      out := s.out ++ up.map (fun l => Out.beat l b) }
    if up.isEmpty then s else switchDone s

/-! ## Shipping (R632) -/

/-- The newer VALID slot and every record from its epoch onward are shipped, once a slot is VALID. -/
def shipImage (s : Device) : Device :=
  match restoreSlot s [] with
  | .error _ => s
  | .ok (_, q) =>
    let (_, s) := sendMessage (Config.imageWire q) .other { s with pai.imageOwed := false }
    (s.kep.journal.filter (fun r => q.epoch ≤ r.epoch)).foldl (fun s r => shipRecord r s) s

/-- The active device ships its persistent configuration, then the image and the records. -/
def startShipping (s : Device) : Device :=
  let (_, s) := sendMessage (Config.configWire (persistCfg s)) .other
    { s with pai.shipping := true, pai.imageOwed := true, pai.resyncCause := 0, pai.backlog := 0 }
  shipImage s

/-- The joining device takes a persistent configuration into its Keep and loads its base image (R632). -/
def takeConfig (c : PersistCfg) (s : Device) : Device :=
  let s := { s with
    kep.programs := c.programs, cfg.overlays := c.overlays, kep.slots := [], kep.journal := [], kep.copy := false
    fbl.next := if c.fbl.isEmpty then s.fbl.next else some c.fbl
    pai.gotConfig := true, pai.gotImage := false }
  if c.base.isEmpty then s
  else
    let s := baseLoaded (applyImage c.base s)
    { s with cfg.armed := c.armed }

/-- An update of the persistent configuration (R634). -/
def takeUpdate (c : PersistCfg) (s : Device) : Device :=
  { s with kep.programs := c.programs, cfg.overlays := c.overlays, cfg.armed := c.armed
           fbl.next := if c.fbl.isEmpty ∨ c.fbl = s.fbl.image then s.fbl.next else some c.fbl
           pgm.progs := tmap s.pgm.progs (fun n g => { g with image := tget c.programs n g.image }) }

/-- The device is a standby that receives a shipment. -/
def receives (s : Device) : Bool := s.pai.mode == .joining || s.pai.mode == .synced

/-- A shipped record enters the journal ring; one that the active device wrote into its slot 0 is written the same way (R603,
R606, R632). -/
def receiveRecord (r : KepRec) (s : Device) : Device :=
  let s := { s with kep.epoch := r.epoch, kep.te := r.te, kep.recBytes := if r.direct then 80 else r.len }
  if r.full || r.direct then
    let s := if r.direct then
        s.kep.journal.foldl (fun s q => putKepSlot 1 (applyRecord (kepSlot s 1) q) (putKepSlot 0 (applyRecord (kepSlot s 0) q) s))
          { s with kep.journal := [] }
      else s
    { putKepSlot 0 (applyRecord (kepSlot s 0) r) s with kep.copy := true }
  else { s with kep.journal := s.kep.journal ++ [r] }

/-- A message of the peer is delivered (R631 to R634). -/
def deliver (m : PairMsg) (s : Device) : Device :=
  match m with
  | .info v i a b => { s with pai.peerInfo := some (v, i, a, b) }
  | .config cause b =>
    match receives s, Config.wireConfig b with
    | true, some c =>
      let s := if s.pai.mode == .synced then
          paiState .joining (raise Ev.paiSyncLost [(1, cause)] { s with pai.resyncs := s.pai.resyncs + 1 })
        else s
      takeConfig c s
    | _, _ => s
  | .image b =>
    match receives s && s.pai.gotConfig, Config.wireImage b with
    | true, some q => { s with kep.slots := [(0, q), (1, q)], kep.journal := [], pai.gotImage := true }
    | _, _ => s
  | .record b =>
    match receives s && s.pai.gotImage, Config.wireRecord b with
    | true, some r => receiveRecord r s
    | _, _ => s
  | .update b =>
    match receives s && s.pai.gotConfig, Config.wireConfig b with
    | true, some c => takeUpdate c s
    | _, _ => s

/-- Packets that have come ahead of their turn are delivered once it comes (R625); the fuel bounds how many. -/
def deliverNext : Nat → Device → Device
  | 0, s => s
  | n + 1, s =>
    match tfind s.pai.rxBuf s.pai.rxNext with
    | none => s
    | some m =>
      let s := { s with pai.rxBuf := tdel s.pai.rxBuf s.pai.rxNext, pai.rxNext := s.pai.rxNext + 1 }
      deliverNext n (match m with | some m => deliver m s | none => s)

/-- The final record of a switch-over has been acknowledged: YIELD is set (R641). -/
def switchAcked (epoch : Nat) (s : Device) : Device :=
  match s.pai.switch with
  | some (p, t, some e) => if e ≤ epoch then { s with pai.yield := true, pai.switch := some (p, t, some epoch) } else s
  | _ => s

/-- The peer acknowledges packet `q`. -/
def acked (s : Device) (q : Nat) : Device :=
  match s.pai.tx.find? (fun t => t.seq == q) with
  | none => s
  | some t =>
    let s := { s with pai.tx := s.pai.tx.filter (fun t => t.seq != q) }
    match t.tag with
    | .other => s
    | .record e n =>
      switchAcked e { s with pai.shipEpoch := max s.pai.shipEpoch e, pai.backlog := s.pai.backlog - n }
    | .image p => modProg p (fun g => { g with exchAck := g.exch.isSome }) s
    | .update =>
      match s.cfg.staging.find? (fun g => g.seq == some q) with
      | some g => if pastGuard s g then s else armNow g s
      | none =>
        match s.pai.waits.find? (fun w => w.seq == q) with
        | some w => finish w.pend .ok w.detail [] { s with pai.waits := s.pai.waits.filter (fun w => w.seq != q) }
        | none => s

/-- PAIR_PACKET_RECEIVE (R625): a packet, by its number and the message it completes, with the numbers it acknowledges. -/
def packetReceive (lane : Nat) (packet : Option (Nat × Option PairMsg)) (acks : List Nat) (crcOk : Bool) (s : Device) : Device :=
  if !bit lane s.pai.lanes || 1 < lane || !crcOk then s
  else
    let s := acks.foldl acked s
    match packet with
    | none => s
    | some (q, m) =>
      let s := { s with out := s.out ++ [.pairAck lane q] }
      if q < s.pai.rxNext then s
      else
        let s := { s with pai.rxBuf := tset s.pai.rxBuf q m }
        deliverNext s.pai.rxBuf.length s

/-- PAIR_RETRANSMIT_TIMEOUT (R625): packet `q` has not been acknowledged for 20 µs. -/
def retransmit (q : Nat) (s : Device) : Device :=
  match s.pai.tx.find? (fun t => t.seq == q) with
  | none => s
  | some t =>
    if s.tim.ck < t.sentAt + 20000 ∨ s.pai.lanes % 4 = 0 then s
    else
      let lane := if bit t.lane s.pai.lanes then t.lane else 1 - t.lane
      { s with
        pai.tx := s.pai.tx.map (fun t => if t.seq = q then { t with lane, sentAt := s.tim.ck } else t)
        pai.retx := s.pai.retx + 1, out := s.out ++ [.pair lane q t.payload] }

/-- SYNC_ACK_TIMEOUT (R634): the acknowledgement of a persistent update is missing; the command completes without it. -/
def syncTimeout (s : Device) : Device :=
  let late := s.pai.waits.filter (fun w => w.till ≤ s.tim.ck)
  let arm := s.cfg.staging.find? (fun g =>
    g.seq.isSome && decide (g.recv + usT 30 + nsT (tget s.cfg.overlays g.slot {}).length ≤ nowS s))
  if late.isEmpty && arm.isNone then s
  else
    let s := resync 1 s
    let s := match arm with
      | some g => if pastGuard s g then s else armNow g s
      | none => s
    late.foldl (fun s w => finish w.pend .ok w.detail [] s)
      { s with pai.waits := s.pai.waits.filter (fun w => s.tim.ck < w.till) }

/-! ## Lanes (R625) -/

/-- PAI_LANE_UP: the lane carries heartbeats and packets again. When both were down numbering begins anew; the peer is told
of the firmware and the safety configuration (DESIGN CHOICE, log 46). -/
def laneUp (l : Nat) (s : Device) : Device :=
  if 1 < l ∨ bit l s.pai.lanes then s
  else
    let fresh := s.pai.lanes % 4 = 0
    let s := { s with pai.lanes := s.pai.lanes + 2 ^ l, pai.laneBeat := tset s.pai.laneBeat l s.tim.ck }
    if fresh then
      let s := { s with pai.tx := [], pai.txSeq := 0, pai.rxNext := 0, pai.rxBuf := [] }
      (sendMessage (Config.infoWire ([1, 2, 3].map (fun k => (tget s.sec.boot k {}).version)) (fld 12 4 s.saf.cfg)
        (fld 16 4 s.saf.cfg) (fld 20 4 s.saf.cfg)) .other s).2
    else s

/-- PAI_LANE_DOWN: all traffic uses the other lane. -/
def laneDown (l : Nat) (s : Device) : Device :=
  if 1 < l ∨ !bit l s.pai.lanes then s
  else
    let s := { s with pai.lanes := s.pai.lanes - 2 ^ l }
    raise Ev.paiLaneDown [(1, l)] (if s.pai.lanes % 4 = 0 then { s with pai.downAt := s.tim.ck } else s)

/-! ## Joining (R631, R633) -/

/-- The failing checks of Table PAI-3. -/
def joinCheck (s : Device) : Nat :=
  let b := (s.pai.peer.map (·.bytes)).getD []
  let mine := [1, 2, 3].map (fun k => (tget s.sec.boot k {}).version)
  let same := s.pai.peerInfo.any (fun i => i.1 == mine)
  let safe := s.pai.peerInfo.any (fun i =>
    i.2.1 == fld 12 4 s.saf.cfg && i.2.2.1 == fld 16 4 s.saf.cfg && i.2.2.2 == fld 20 4 s.saf.cfg)
  flag 0 (!same) + flag 1 (!safe || s.saf.mode != .run || fld 2 1 b % 8 != 2) +
  flag 2 (bits 0 0 (fld 1 1 b) == pairUnit s) + flag 3 (s.tim.mode == .unset)

/-- A join is attempted: it begins, or the device returns to LISTEN (R631). -/
def tryJoin (s : Device) : Device :=
  let m := joinCheck s
  let s := { s with pai.check := m, pai.listenUntil := none }
  if m = 0 then paiState .joining { s with pai.gotConfig := false, pai.gotImage := false }
  else paiState .listen (raise Ev.paiJoinRefused [(1, m)] s)

/-- A joining device that has everything is SYNCED (R633). -/
def trySync (s : Device) : Device :=
  let e := (s.pai.peer.map (fun b => fld 16 8 b.bytes)).getD 0
  let a := appliedBoth s
  if s.pai.mode == .joining && s.pai.gotConfig && s.pai.gotImage && (kepSlot s 0).state == 2 && (kepSlot s 1).state == 2 &&
      (decide (e ≤ a + 1) || s.kep.journal.any (fun r => r.epoch == e && decide (r.prev ≤ a))) then
    raise Ev.paiSynced [lo32 (appliedBoth s)] (paiState .synced s)
  else s

/-! ## Loss and takeover (R635 to R640) -/

/-- The standby declares its peer lost: 1 heartbeat, 2 YIELD (R635). -/
def peerLost (cause : Nat) (s : Device) : Device :=
  match s.pai.mode with
  | .synced =>
    let s := paiState .takeover { s with pai.fence := true, pai.tk := some (s.tim.ck, false, false) }
    raise Ev.paiPeerLost [(1, cause), (1, s.pai.peerState), (1, flag 0 s.pai.pact)] s
  | .joining => raise Ev.paiTakeoverImpossible [lo32 (appliedBoth s)] (paiState .orphan s)
  | _ => s

/-- A heartbeat of the peer acts on the state of the pair. -/
def beatActs (s : Device) : Device :=
  let b := (s.pai.peer.map (·.bytes)).getD []
  let st := s.pai.peerState
  let yields := bit 3 (fld 1 1 b)
  let s := if st ∈ [1, 3, 6] then { s with pai.fence := s.pai.fence && s.pai.mode == .takeover } else s
  match s.pai.mode with
  | .active =>
    let s := if fld 2 1 b % 8 = 0 then { s with saf.clearReq := true } else s
    if st = 3 ∨ st = 4 then (if !s.pai.shipping then startShipping s else if s.pai.imageOwed then shipImage s else s) else { s with pai.shipping := false }
  | .listen => if st = 2 ∧ s.pai.claim.isNone ∧ (autoJoin s ∨ s.pai.listenUntil.isSome) then tryJoin s else s
  | .fenced => if st = 2 ∧ !s.pai.fenced ∧ autoJoin s then tryJoin s else s
  | .joining => if yields then peerLost 2 s else trySync s
  | .synced => if yields then peerLost 2 s else s
  | _ => s

/-- HEARTBEAT_RECEIVE (R626): a heartbeat on a lane, with the levels of PR_PACT_N and PR_FENCED_N asserted then. -/
def heartbeatReceive (lane : Nat) (bytes : List Byte) (pact fenced : Bool) (s : Device) : Device :=
  if 1 < lane ∨ !bit lane s.pai.lanes ∨ bytes.length ≠ 32 ∨ fld 28 4 bytes ≠ (crc32c (bytes.take 28)).toNat
     ∨ s.pai.mode = .off then s
  else
    beatActs { s with
      pai.peer := some { bytes, at_ := nowD s, ck := s.tim.ck }, pai.laneBeat := tset s.pai.laneBeat lane s.tim.ck
      pai.pact := pact, pai.fenced := s.pai.fenced && fenced }

/-- Both lanes have been down for 1 ms while PR_PACT_N stays asserted (R634). -/
def lanesLost (s : Device) : Bool := s.pai.lanes % 4 = 0 && decide (s.pai.downAt + 1000000 ≤ s.tim.ck) && s.pai.pact

/-- HEARTBEAT_LOSS (R634, R635): no heartbeat on either lane for 1 ms. -/
def heartbeatLoss (pact : Bool) (s : Device) : Device :=
  if s.pai.peer.all (fun b => s.tim.ck < b.ck + 1000000) then s
  else
    let s := { s with pai.pact := pact }
    match s.pai.mode with
    | .active =>
      let s := if lanesLost s then resync 4 s else s
      { s with pai.shipping := false }
    | .synced =>
      if lanesLost s then
        paiState .joining (raise Ev.paiSyncLost [(1, 4)]
          { s with pai.resyncs := s.pai.resyncs + 1, pai.gotConfig := false, pai.gotImage := false })
      else peerLost 1 s
    | _ => peerLost 1 s

/-- TAKEOVER_FENCE_DONE (R637): PR_PACT_N is found deasserted; what has been received is applied. -/
def fenceDone (s : Device) : Device :=
  match s.pai.mode, s.pai.tk with
  | .takeover, some (t, false, _) =>
    let s := drainJournal [] none { s with pai.pact := false, pai.rxBuf := [], pai.tk := some (t, true, false) }
    { s with kep.running := some (4, s.kep.cause), kep.phase := .image, kep.restoring := true, kep.askedAt := s.tim.ck }
  | _, _ => s

/-- FENCE_TIMEOUT (R637): PR_PACT_N is still asserted after 100 µs. -/
def fenceTimeout (s : Device) : Device :=
  match s.pai.mode, s.pai.tk with
  | .takeover, some (t, false, _) =>
    if s.tim.ck < t + 100000 then s
    else
      raise Ev.paiFenceFail [(4, (s.tim.ck - t) / 1000)]
        (paiState .orphan { s with pai.pact := true, pai.tk := none, pai.fence := false })
  | _, _ => s

/-- The codes of the OUT section reach every DAC channel and pin (R637). -/
def writeOuts (q : KepSlot) (s : Device) : Device :=
  q.img.outs.foldl (fun s e =>
    let (code, t) := e.2
    if e.1 < 32 then modDac e.1 (fun c => { c with code, time := some t }) s
    else if pinMode (recNow s 0x0A 1 (e.1 - 32)) = 4 then
      pwmLatch (e.1 - 32) code.toNat t s
    else modPin (e.1 - 32) (fun p => { p with out := code != 0, outTime := some t }) s) s

/-- CFG as of the image's epoch, with the arming records that the image has not committed (R141, R638). -/
def takeoverCfg (q : KepSlot) (s : Device) : Device :=
  let armed := s.cfg.armed.filter (fun a => q.img.cfg.lastCommit.all (fun t => decide (t < a.commit)))
  let s := savedCfg { s with kep.saved := some q.img.cfg }
  { s with cfg.armed := armed }

/-- TAKEOVER_ENABLE (R637 to R639): the outputs are written and the device becomes ACTIVE. -/
def takeoverEnable (s : Device) : Device :=
  match s.pai.mode, s.pai.tk, s.kep.phase with
  | .takeover, some (t, true, _), .resume =>
    let run := (s.pai.peer.map (fun b => bit 2 (fld 1 1 b.bytes))).getD false
    let q := s.kep.restored
    let s := match q with
      | some q => writeOuts q (takeoverCfg q s)
      | none => s
    let us := (s.tim.ck - t) / 1000
    let s := paiState .active { s with
      pai.tk := none, pai.takeovers := s.pai.takeovers + 1, pai.lastTk := sat 16 us, pai.yield := false
      kep.restored := none }
    let s := match q with
      | some q => resumeWarm 4 q s
      | none => resumeCold 1 s
    let s := takeoverLtn (takeoverSaf (takeoverCan (resumed s)))
    let s := raise Ev.paiTakeover [lo32 ((q.map (·.epoch)).getD 0), (4, us)] s
    if run then enterRunning s else enterLoaded s
  | _, _, _ => s

/-- PR_FENCED_N_ASSERT (R627, R630, R637). -/
def fencedAssert (s : Device) : Device :=
  let s := { s with pai.fenced := true }
  if s.pai.mode != .active then s
  else
    let s := raise Ev.paiFenced [(1, paiCode .active)] (paiState .fenced { s with pai.shipping := false, pai.yield := false })
    if s.cfg.mode == .unconfigured then s else enterLoaded s

/-- YIELD_TIMEOUT (R640): the Spire die has not resumed control YIELD_MS after its reset. -/
def yieldTimeout (s : Device) : Device :=
  match s.pai.resetAt with
  | some t => if t + yieldMs s * 1000000 ≤ s.tim.ck then setYield s else s
  | none => s

/-! ## The claim of a role (R628, R629) -/

/-- CLAIM_WAIT_EXPIRY (R628): 20 µs after PR_ACT_N was asserted, with the level of PR_PACT_N. -/
def claimExpiry (pact : Bool) (s : Device) : Device :=
  match s.pai.claim with
  | none => s
  | some (p, t) =>
    if s.tim.ck < t + 20000 then s
    else
      let s := { s with pai.claim := none, pai.pact := pact }
      let refuse := fun (s : Device) => match p with
        | some p => finish p .rejectedState 0 [] s
        | none => s
      if (pact && pairUnit s == 1) || !s.btr.spireUp || s.cfg.mode != .loaded then refuse s
      else
        let s := paiState .active s
        match p with
        | some p =>
          let s := goRunning s
          finish p .ok s.cfg.version [] s
        | none => beginRestart (lossKind s) s.kep.lossCause s

/-- POWER_UP_LISTEN_EXPIRY (R629): no ACTIVE peer has been heard, so the device claims the role. -/
def listenExpiry (s : Device) : Device :=
  match s.pai.listenUntil with
  | none => s
  | some t =>
    if s.tim.ck < t then s
    else if s.pai.mode == .listen && !activePeer s then
      { s with pai.listenUntil := none, pai.claim := some (none, s.tim.ck) }
    else { s with pai.listenUntil := none }

/-! ## Commands (Table PAI-6) -/

/-- PAI_JOIN. -/
def paiJoin (p : Pend) (s : Device) : CmdEnd :=
  let m := s.pai.mode
  checked [
    .bad { target := false } [],
    .when (!pairEn s || !(m == .listen || (m == .fenced && !s.pai.fenced) || m == .orphan) || !activePeer s ||
      s.pai.claim.isSome) .rejectedState 0]
    (fun _ s =>
      let s := tryJoin s
      if s.pai.check = 0 then okWith 0 s else .fail .busyConflict s.pai.check s) p s

/-- PAI_SWITCHOVER (R641). -/
def paiSwitch (p : Pend) (s : Device) : CmdEnd :=
  checked [
    .bad { target := false } [],
    .when (needMaint s) .authRequired 0,
    .when (!s.pai.synced || s.cfg.mode != .running || s.pai.switch.isSome) .rejectedState 0]
    (fun p s => .wait { s with pai.switch := some (p, s.tim.ck, none) }) p s

/-- SWITCHOVER_TIMEOUT (R643): the final record is not acknowledged within 20 ms. -/
def switchTimeout (s : Device) : Device :=
  match s.pai.switch with
  | none => s
  | some (p, t, _) =>
    if s.tim.ck < t + 20000000 || s.pai.yield then s
    else finish p .timeout 0 [] { s with pai.switch := none }

/-- PAI_LEAVE. -/
def paiLeave (p : Pend) (s : Device) : CmdEnd :=
  checked [.bad { target := false } [], .when (!receives s) .rejectedState 0]
    (fun _ s => okWith 0 (paiState .listen s)) p s

/-- PAI_READ_PEER. -/
def paiReadPeer (p : Pend) (s : Device) : CmdEnd :=
  checked [
    .when s.pai.peer.isNone .notFound 0,
    .bad { target := false, bufMin := 64, bufMax := 16777216 } []]
    (fun _ s => match s.pai.peer with
      | none => .fail .notFound 0 s
      | some b => okBuf s.pai.peerState (padTo 64 (b.bytes.take 32 ++ le 8 (b.at_ / 256) ++ le 4 s.pai.check)) s) p s

/-- PAI_CLEAR_COUNTERS. -/
def paiClear (p : Pend) (s : Device) : CmdEnd :=
  let m := p.desc.p0.toNat
  checked [.bad { target := false, pmask := 1 } [(32 ≤ m, 24)]]
    (fun _ s => okWith 0 { s with
      pai.hbMiss := clr m 0 s.pai.hbMiss, pai.retx := clr m 1 s.pai.retx, pai.resyncs := clr m 2 s.pai.resyncs
      pai.takeovers := clr m 3 s.pai.takeovers, pai.lastTk := clrN m 4 s.pai.lastTk }) p s

/-! ## The rows of the table of operations -/

/-- HEARTBEAT_SEND (R626): Every 100 µs, a heartbeat is sent on each lane that is up. -/
def execHeartbeatSend (s : State) : Host.Outcome State Fault Refusal :=
  .next { s with dev := Sys2Proof.Machine.heartbeatSend s.dev }

/-- HEARTBEAT_RECEIVE (R626): A peer heartbeat is received and drives join, YIELD and REQ-clearing rules. -/
def execHeartbeatReceive (lane : Nat) (bytes : List Byte) (pact fenced : Bool) (s : State) : Host.Outcome State Fault Refusal :=
  .next { s with dev := Sys2Proof.Machine.heartbeatReceive lane bytes pact fenced s.dev }

/-- HEARTBEAT_LOSS (R635): 1 ms without a heartbeat declares the peer lost. -/
def execHeartbeatLoss (pact : Bool) (s : State) : Host.Outcome State Fault Refusal :=
  .next { s with dev := Sys2Proof.Machine.heartbeatLoss pact s.dev }

/-- TAKEOVER_FENCE_DONE (R637): PR_PACT_N deasserts after fencing, and the drain begins. -/
def execTakeoverFenceDone (s : State) : Host.Outcome State Fault Refusal :=
  .next { s with dev := fenceDone s.dev }

/-- FENCE_TIMEOUT (R637): PR_PACT_N still asserted after t_FENCE sends the device to ORPHAN. -/
def execFenceTimeout (s : State) : Host.Outcome State Fault Refusal :=
  .next { s with dev := Sys2Proof.Machine.fenceTimeout s.dev }

/-- TAKEOVER_ENABLE (R637): After restore, OUT codes are written and the device becomes ACTIVE. -/
def execTakeoverEnable (s : State) : Host.Outcome State Fault Refusal :=
  .next { s with dev := Sys2Proof.Machine.takeoverEnable s.dev }

/-- PR_FENCED_N_ASSERT (R630): An asserted fence releases outputs and puts the device in FENCED. -/
def execPrFencedNAssert (s : State) : Host.Outcome State Fault Refusal :=
  .next { s with dev := fencedAssert s.dev }

/-- PAIR_PACKET_RECEIVE (R625): A pair-link packet is received, acknowledged and delivered in sequence. -/
def execPairPacketReceive (lane : Nat) (packet : Option (Nat × Option PairMsg)) (acks : List Nat) (crcOk : Bool) (s : State) : Host.Outcome State Fault Refusal :=
  .next { s with dev := packetReceive lane packet acks crcOk s.dev }

/-- PAIR_RETRANSMIT_TIMEOUT (R625): A packet unacknowledged after 20 µs is retransmitted. -/
def execPairRetransmitTimeout (q : Nat) (s : State) : Host.Outcome State Fault Refusal :=
  .next { s with dev := retransmit q s.dev }

/-- PAI_LANE_DOWN (R625): A pair lane goes down, and traffic moves to the other lane. -/
def execPaiLaneDown (l : Nat) (s : State) : Host.Outcome State Fault Refusal :=
  .next { s with dev := laneDown l s.dev }

/-- SYNC_ACK_TIMEOUT (R634): A missing acknowledgement of a persistent update takes the standby out of SYNCED.
-/
def execSyncAckTimeout (s : State) : Host.Outcome State Fault Refusal :=
  .next { s with dev := syncTimeout s.dev }

/-- CLAIM_WAIT_EXPIRY (R628): 20 µs after asserting PR_ACT_N, the device becomes ACTIVE or backs off. -/
def execClaimWaitExpiry (pact : Bool) (s : State) : Host.Outcome State Fault Refusal :=
  .next { s with dev := claimExpiry pact s.dev }

/-- POWER_UP_LISTEN_EXPIRY (R629): The power-up listen time ends without an active peer, and the device
restarts. -/
def execPowerUpListenExpiry (s : State) : Host.Outcome State Fault Refusal :=
  .next { s with dev := listenExpiry s.dev }

/-- YIELD_TIMEOUT (R640): YIELD_MS after a Spire reset without resume, YIELD is set. -/
def execYieldTimeout (s : State) : Host.Outcome State Fault Refusal :=
  .next { s with dev := Sys2Proof.Machine.yieldTimeout s.dev }

/-- PAI_JOIN (R631): Starts a join after its checks. -/
def execPaiJoin (d : Desc) (s : State) : Host.Outcome State Fault Refusal :=
  .next { s with dev := runCmd Sys2Proof.Machine.paiJoin d s.dev }

/-- PAI_SWITCHOVER (R641): Hands the active role to the synced standby. -/
def execPaiSwitchover (d : Desc) (s : State) : Host.Outcome State Fault Refusal :=
  .next { s with dev := runCmd paiSwitch d s.dev }

/-- PAI_LEAVE (R643): Leaves JOINING or SYNCED for LISTEN. -/
def execPaiLeave (d : Desc) (s : State) : Host.Outcome State Fault Refusal :=
  .next { s with dev := runCmd Sys2Proof.Machine.paiLeave d s.dev }

/-- PAI_READ_PEER (R643): Returns the last peer heartbeat. -/
def execPaiReadPeer (d : Desc) (s : State) : Host.Outcome State Fault Refusal :=
  .next { s with dev := runCmd Sys2Proof.Machine.paiReadPeer d s.dev }

/-- PAI_CLEAR_COUNTERS (R643): Clears the selected PAI counters. -/
def execPaiClearCounters (d : Desc) (s : State) : Host.Outcome State Fault Refusal :=
  .next { s with dev := runCmd paiClear d s.dev }

/-- SWITCHOVER_TIMEOUT (R643): PAI_SWITCHOVER whose final record is not acknowledged within 20 ms is withdrawn
and completes with TIMEOUT. -/
def execSwitchoverTimeout (s : State) : Host.Outcome State Fault Refusal :=
  .next { s with dev := switchTimeout s.dev }

/-- PAI_LANE_UP (R625): A pair-link lane that was down comes up again, and heartbeats and packets use it again.
-/
def execPaiLaneUp (l : Nat) (s : State) : Host.Outcome State Fault Refusal :=
  .next { s with dev := laneUp l s.dev }

end Sys2Proof.Machine
end

