-- ==== Sys2Proof/Machine/Lanes.lean ====
section
/-!
DEFINITION. Machine/Lanes.lean: errors of lanes and cores, and the enables of lanes (R174 to R177, R234, R405).
-/
namespace Sys2Proof.Machine

/-- A healthy spare lane that is free (R174). -/
def reissueLane (s : Device) : Option Nat := freeLane s s.dpt.spare

/-- A lane that has reported an error receives no further firings (R177). -/
def dropLane (l : Nat) (s : Device) : Device :=
  if bit l s.dpt.active then faultLane l s
  else if bit l s.dpt.spare then poolNotice 0 (retire 0 l { s with dpt.spare := s.dpt.spare - 2 ^ l })
  else s

/-- LANE_ERROR is recorded and lane `l` is taken off its firing (R174). -/
def laneErrorNoted (l check : Nat) (f : Firing) (s : Device) : Device :=
  raise Ev.lpeLaneError [(1, l), (2, fld 2 2 (recNow s 0x02 1 f.slot)), (1, check)] { s with
    lpe.laneErr := s.lpe.laneErr + 1, lpe.laneFault := s.lpe.laneFault ||| 2 ^ l, dpt.lanes := tdel s.dpt.lanes l }

/-- The firing `f` goes to another lane, or waits as the first of the ready firings where none is free (R175, R176). -/
def reissueFlight (l : Nat) (f : Firing) (s : Device) : Device :=
  match reissueLane s with
  | some x => raise Ev.dptLaneReissue [(1, l), (2, f.slot), (1, x)] { s with dpt.lanes := tset s.dpt.lanes x f }
  | none => raise Ev.dptLaneReissue [(1, l), (2, f.slot), (1, 0xFF)]
      (setReady ({ slot := f.slot, at_ := f.readyAt, time := f.time, again := some f } :: s.dpt.ready) s)

/-- LANE_ERROR (R174 to R177, R195, R239): a check of the firing on lane `l` fails, 1 residue or 2 parity. -/
def laneError (l check : Nat) (s : Device) : Device :=
  match tfind s.dpt.lanes l with
  | none => s
  | some f =>
    if f.reissued then
      afterFiring f.slot (dropLane l (traceAbandon (fld 2 2 (recNow s 0x02 1 f.slot))
        (raise Ev.dptReissueFail [(2, f.slot), (1, f.failed.getD 0xFF), (1, l)] (laneErrorNoted l check f s))))
    else
      dropLane l (reissueFlight l { f with reissued := true, failed := some l }
        (modTask f.slot (fun k => { k with run := .reissue })
          { laneErrorNoted l check f s with dpt.reissue := s.dpt.reissue + 1 }))

/-- Programs of a logical core that are not DISABLED and have an image. -/
def corePrograms (s : Device) (c : Nat) : List Nat :=
  (objsOf s 0x04 1).filter fun p =>
    let m := (progOf s p).mode
    fld 16 1 (recNow s 0x02 1 (pgmSlot s p)) == c && (m == .idle || m == .running || m == .fault)

/-- No healthy core serves logical core `c` any more (R405, R714). -/
def loseCore (c : Nat) (y : Cycle) (s : Device) : Device :=
  let s := faultProgram c 7 y { s with pgm.lost := s.pgm.lost ||| 2 ^ c }
  let s := (corePrograms s c).foldl (fun s p =>
    if p = y.prog then s
    else raise Ev.pgmFault [(1, p), (1, 7), (4, 0)]
      (modProg p (fun g => { g with mode := .fault, cause := 7 }) { s with pgm.faults := s.pgm.faults + 1 })) s
  raise Ev.pgmCoreLost [(1, c)] s

/-- CORE_ERROR is recorded and any activity on core `c` ends (R405, R712). -/
def coreErrorNoted (c : Nat) (y : Cycle) (s : Device) : Device :=
  endOf 1 1 (physCore s c) 1 (raise Ev.pgmCoreError [(1, physCore s c), (1, c), (1, y.prog)]
    { s with pgm.coreErr := s.pgm.coreErr + 1 })

/-- The cycle `y` begins again from its entry state on the core that took over (R405). -/
def cycleAgain (c : Nat) (y : Cycle) (s : Device) : Device :=
  let (n, s) := draw (rollback y s)
  let g := progOf s y.prog
  enterNext c { y with
    output := lastImage g, rest := y.entries, undo := [], undoOver := false, scratch := []
    nonce := n, ended := false } s

/-- A spare core takes the place of the core of logical core `c` (R712). -/
def coreSwap (c : Nat) (s : Device) : Option Nat × Device :=
  faultSwap 1 (physCore s c) (fun x s => { s with pgm.cores := tset s.pgm.cores c x }) s

/-- What becomes of the cycle `y` once a spare was sought: with one it runs again, without one the core is lost (R405). -/
def coreMoved (c : Nat) (y : Cycle) : Option Nat × Device → Device
  | (none, s) => loseCore c y s
  | (some _, s) => cycleAgain c y s

/-- CORE_ERROR (R405, R712): the cycle on logical core `c` is rolled back and run again on a spare. -/
def coreError (c : Nat) (s : Device) : Device :=
  match (coreOf s c).cyc with
  | none => s
  | some y => coreMoved c y (coreSwap c (coreErrorNoted c y s))

/-- LPE_LANE_EN_WRITE (R234, R751). -/
def laneEnWrite (b : BusWrite) (s : Device) : Device :=
  match doorbellWord b with
  | none => accError s
  | some v => spireWrite (fun s =>
      let old := s.lpe.laneEn
      let new := v % 2 ^ 18
      let before := s.dpt.active
      let s := hazard 0x3000C { s with lpe.laneEn := new }
      let s := (List.range 18).foldl (fun s l =>
        if bit l old && !bit l new then
          if bit l s.dpt.active then faultLane l s
          else if bit l s.dpt.spare then poolNotice 0 { s with dpt.spare := s.dpt.spare - 2 ^ l }
          else s
        else if !bit l old && bit l new && !bit l s.dpt.active && !bit l s.dpt.spare then
          { s with dpt.spare := s.dpt.spare + 2 ^ l, spr.retired := s.spr.retired.erase (unitKey 0 l) }
        else s) s
      refillLanes before s) s

/-! ## The rows of the table of operations -/

/-- LANE_ERROR (R174): A lane reports a residue or parity error, and DPT reissues the firing to a spare lane or
the head of the queue. -/
def execLaneError (l check : Nat) (s : State) : Host.Outcome State Fault Refusal :=
  .next { s with dev := Sys2Proof.Machine.laneError l check s.dev }

/-- LPE_LANE_EN_WRITE (R234): A write to LPE_LANE_EN removes or returns lanes, and SPR fills any empty active
position. -/
def execLpeLaneEnWrite (b : BusWrite) (s : State) : Host.Outcome State Fault Refusal :=
  .next { s with dev := laneEnWrite b s.dev }

/-- CORE_ERROR (R405): A core error rolls back the cycle and reruns it on a spare. -/
def execCoreError (c : Nat) (s : State) : Host.Outcome State Fault Refusal :=
  .next { s with dev := Sys2Proof.Machine.coreError c s.dev }

end Sys2Proof.Machine
end

