-- ==== Sys2Proof/Machine/Cut.lean ====
section
/-!
DEFINITION. Machine/Cut.lean: epoch boundaries, the consistent cut and its record, and what the housekeeping core does
with committed records (R178 to R180, R589 to R607, R808).
-/
namespace Sys2Proof.Machine

/-! ## Sizes -/

/-- Image bytes of the configuration in force (KEP_IMG_SIZE, Table KEP-5). -/
def imageSize (s : Device) : Nat :=
  let programs := (objsOf s 0x04 1).map fun p => 64 + imgInstSize (progOf s p).image
  let stations := (objsOf s 0x0C 3).map fun st => 64 + 4 * fld 8 2 (stnRec s st) + 8 * fld 10 2 (stnRec s st)
  176 + 4096 + 192 * (objsOf s 0x02 1).length + 64 * (objsOf s 0x03 1).length + 128 * (objsOf s 0x06 1).length +
  programs.sum + stations.sum + 1024

/-- The length of the running epoch: EPOCH_US as its first marker found it (R138). -/
def epochLen (s : Device) : STime := usT s.kep.epochUs

/-- `n` bytes are written into the hot region (R590, KEP_HOT_WRITES). -/
def hotWrite (n : Nat) (s : Device) : Device :=
  { s with kep.hotWrites := s.kep.hotWrites + n, kep.gapBytes := s.kep.gapBytes + n }

/-- `n` bytes that count against the cap of R607 are written (KEP_RATE, Table PMC-2 JOURNAL_UNITS). -/
def journalWrite (n : Nat) (s : Device) : Device :=
  let sec := nowD s / secT 1
  let s := pmcEdges 0x0F 0x80 0 ((n + 63) / 64) (hotWrite n s)
  { s with
    kep.rateSec := sec
    kep.rate := if sec = s.kep.rateSec then (s.kep.rate.1, s.kep.rate.2 + n)
      else if sec = s.kep.rateSec + 1 then (s.kep.rate.2, n) else (0, n) }

/-! ## Source streams (R178, R808) -/

/-- A source stream: its key, its destination slot, when it passes its marker if it is silent, and the producing task of a
loop's output stream, which passes it when that task is captured. -/
structure SrcStream where
  key  : Nat
  slot : Nat
  due  : STime := 0
  prod : Option Nat := none

/-- The stream of a source to a destination word (slot in [11:0], operand in [14:12]). A disabled source or task passes the
marker at T_e + 2 µs. -/
def srcStream (s : Device) (te : STime) (source dest : Nat) (on_ : Bool) (due : STime) (prod : Option Nat := none) :
    SrcStream :=
  let slot := dest % 4096
  let live := on_ && taskEnabled (recNow s 0x02 1 slot)
  { key := streamKey source slot (dest / 4096 % 8), slot, due := if live then due else te + usT 2,
    prod := if live then prod else none }

/-- S of a converter: PERIOD_NS in PERIODIC, else the duration of its scan (R292). -/
def scanS (b : List Byte) : STime := if bits 2 1 (fld 0 1 b) = 1 then nsT (fld 4 4 b) else nsT (500 * scanConversions b)

/-- The streams of ADC channels (R292), under the converter record of T_e, or of the first sample of a sum begun before it:
the stream's last result stamped before T_e is then still to come, after that record's AVG. -/
def adcStreams (s : Device) (te : STime) : List SrcStream :=
  ((objsOf s 0x08 2).filter (fun n => bit 0 (fld 1 1 (recNow s 0x08 2 n)))).map fun n =>
    let b := recNow s 0x08 2 n
    let a := chanOf s n
    let at_ := if a.n != 0 && a.stime < te then a.stime else te
    let r := (recAt s 0x08 1 (n / 8) at_).getD (convRec s (n / 8))
    let on_ := bit 0 (fld 0 1 r) && bit (n % 8) (fld 1 1 r)
    let avg := if bit 3 (fld 0 1 r) then 1 else fld 2 1 r + 1
    srcStream s te (0x0800 + n) (fld 2 2 b) on_ (te + avg * scanS r + usT 2)

/-- The streams of pins, pulse inputs, position ports and CAN filters (R314, R324, R327, R524). -/
def inputStreams (s : Device) (te : STime) : List SrcStream :=
  ((objsOf s 0x0A 1).filter (fun n => bit 2 (fld 1 1 (recNow s 0x0A 1 n)))).map (fun n =>
    srcStream s te (0x0A00 + n) (fld 4 2 (recNow s 0x0A 1 n)) true (te + usT 2)) ++
  (objsOf s 0x0A 2).map (fun p =>
    let b := recNow s 0x0A 2 p
    srcStream s te (0x0A60 + p) (fld 2 2 b) (bit 0 (fld 0 1 b)) (te + nsT (fld 4 4 b) + usT 2)) ++
  (objsOf s 0x0A 3).map (fun q =>
    let b := recNow s 0x0A 3 q
    srcStream s te (0x0A70 + q) (fld 2 2 b) (bit 0 (fld 0 1 b)) (te + nsT (fld 4 4 b) + usT 2)) ++
  ((objsOf s 0x0D 3).filter (fun o => bit 2 (fld 0 1 (recNow s 0x0D 3 o)))).map (fun o =>
    srcStream s te (0x0D00 + o) (fld 14 2 (recNow s 0x0D 3 o)) true (te + usT 2))

/-- The streams of station input words (R454). -/
def ethStreams (s : Device) (te : STime) : List SrcStream :=
  ((objsOf s 0x0C 6).filter (fun e => bit 0 (fld 4 1 (recNow s 0x0C 6 e)))).map fun e =>
    let b := recNow s 0x0C 6 e
    let r := stnRec s (fld 0 2 b / 512)
    let first := if te < stnPhase r then stnPhase r else ceilTo (stnCycle r) (te - stnPhase r) + stnPhase r
    srcStream s te (0x0C00 + e) (fld 2 2 b) (stnLive s (fld 0 2 b / 512)) (first + stnResp r + usT 2)

/-- The destinations of a loop's outputs that are tasks (OUT_KIND 3 and 5). -/
def loopDests (s : Device) (c : LoopCfg) : List Nat :=
  let dest := fun (kind index : Nat) =>
    if kind = 3 then [axisSlot s index + 4096] else if kind = 5 then [fld 10 2 (recNow s 0x03 1 index) % 4096 + 4096] else []
  dest c.kind c.index ++ (if c.split then dest c.kind2 c.index2 else [])

/-- The streams of loops, axes and programs: outputs to tasks, servo ticks and the host's paths (R340, R406, R808). -/
def engineStreams (s : Device) (te : STime) : List SrcStream :=
  (objsOf s 0x03 1).flatMap (fun n =>
    let c := loopCfg (recNow s 0x03 1 n)
    let on_ := taskEnabled (recNow s 0x02 1 c.slot)
    (loopDests s c).map (fun d => srcStream s te (0x0300 + n % 256) d on_ 0 (some c.slot)) ++
    (if c.spSrc = 4 then [srcStream s te (0x0300 + n % 256) (c.slot + 4096) true (te + usT 2)] else [])) ++
  (objsOf s 0x06 1).flatMap (fun a =>
    [srcStream s te (0x0B80 + a) (axisSlot s a) true (te + usT 2),
     srcStream s te (0x0600 + a) (axisSlot s a + 4096) true (te + usT 2)]) ++
  (objsOf s 0x04 1).flatMap (fun p =>
    (outMap (progOf s p).image).filterMap fun e =>
      if e.kind = 4 then some (srcStream s te (0x0400 + p) ((loopCfg (recNow s 0x03 1 e.index)).slot + 4096) true (te + usT 2))
      else if e.kind = 5 then some (srcStream s te (0x0400 + p) (axisSlot s e.index + 4096) true (te + usT 2))
      else none)

/-- Every source stream of the configuration. -/
def srcStreams (s : Device) (te : STime) : List SrcStream :=
  adcStreams s te ++ inputStreams s te ++ ethStreams s te ++ engineStreams s te

/-- A cycle that reads its inputs before T_e runs: of any program, or of one. -/
def cycleBefore (s : Device) (te : STime) (p : Option Nat) : Bool :=
  s.pgm.run_.any fun e => e.2.cyc.any fun y => y.start < te && !p.any (fun p => p != y.prog)

/-- The stream has passed its marker. -/
def streamPassed (s : Device) (c : DptCut) (q : SrcStream) : Bool :=
  match q.prod with
  | some p => (taskOf s p).captured
  | none => c.passed.contains q.key

/-- EPOCH_MARKER_TIMEOUT (R178, R406, R808): a silent stream passes its marker at its marker latency, behind every token of
it that is stamped before T_e. -/
def markerTimeout (source slot operand : Nat) (s : Device) : Device :=
  match s.dpt.cut with
  | none => s
  | some c =>
    let key := streamKey source slot operand
    let flying := s.dpt.inflight.any fun t => streamKey t.source t.slot t.operand == key && t.time < c.te
    let busy := source / 256 == 4 && cycleBefore s c.te (some (source % 256))
    if (srcStreams s c.te).any (fun q => q.key == key && q.prod.isNone && q.due ≤ nowS s) && !flying && !busy then
      passMarker key s
    else s

/-! ## The boundary (R178, R596, R597) -/

/-- EPOCH_BOUNDARY: DPT places its markers, and a cut opens. A full cut goes straight into slot 0 (R594, R606). -/
def epochBoundary (s : Device) : Device :=
  let len := epochLen s
  let te := if len = 0 then 0 else nowS s / len * len
  if !s.kep.journalOn || s.cfg.mode != .running || !s.btr.spireUp || s.kep.cut.isSome || te ≤ s.kep.lastBoundary then s
  else
    let e := s.kep.nextEpoch
    let full := s.kep.needFull
    let img : KepImage := {
      policy := modePolicy ((recAt s 0x01 1 0 te).getD (recNow s 0x01 1 0)), version := versionAt s te, baseCrc := s.cfg.baseCrc, cfg := s.cfg }
    let s := { s with
      dpt.cut := some { epoch := e, te }, kep.cut := some { epoch := e, te, full, img }
      kep.nextEpoch := e + 1, kep.lastBoundary := te
      kep.epochUs := modeEpochUs ((recAt s 0x01 1 0 te).getD (recNow s 0x01 1 0))
      dpt.tasks := tmap s.dpt.tasks (fun _ (k : Task) => { k with captured := false })
      pgm.progs := tmap s.pgm.progs (fun _ (g : Prog) => { g with captured := false })
      pai.switch := s.pai.switch.map (fun w => (w.1, w.2.1, match w.2.2 with | some x => some x | none => some e)) }
    if full then putKepSlot 0 { kepSlot s 0 with state := 1 } (putKepSlot 1 {} s) else s

/-! ## Captures (R179, R180) -/

/-- Nothing stamped before T_e is left for the task to fire. -/
def capturable (s : Device) (c : DptCut) (slot : Nat) : Bool :=
  let k := taskOf s slot
  match k.run with
  | .running | .reissue => false
  | .ready => (s.dpt.ready.filter (fun e => e.slot == slot)).all (fun e => c.te ≤ e.time)
  | .waiting =>
    k.prim.all (fun p => c.te ≤ p.time) && k.owed.isNone &&
    (srcStreams s c.te).all (fun q => q.slot != slot || streamPassed s c q)

/-- What the cut takes of a task: nothing stamped at or after T_e (R592). -/
def cutTask (c : DptCut) (slot : Nat) (k : Task) : Task :=
  let laid := (c.overlay.filter (fun o => o.1 == slot)).map (·.2)
  let ops := k.ops.filter (fun o => o.2.tok.time < c.te)
  { k with prim := k.prim.filter (fun p => p.time < c.te), captured := false
           ops := laid.foldl (fun t o => if (tfind t o.1).isNone then tset t o.1 o.2 else t) ops }

/-- Changes what the open cut holds. -/
def modCut (f : KepImage → KepImage) (s : Device) : Device :=
  { s with kep.cut := s.kep.cut.map fun k => { k with img := f k.img } }

/-- A task's state enters the cut, with the loop or the axis it serves. -/
def captureTask (c : DptCut) (slot : Nat) (s : Device) : Device :=
  let b := recNow s 0x02 1 slot
  let n := fld 2 2 b
  let t := cutTask c slot (taskOf s slot)
  let s := modCut (fun i => { i with tasks := tset i.tasks slot t }) s
  if fld 1 1 b = 0x03 then
    let l := loopOf s n
    modCut (fun i => { i with loops := tset i.loops n l }) s
  else if fld 1 1 b = 0x06 then
    let x := axisOf s n
    modCut (fun i => { i with axes := tset i.axes n x }) s
  else s

/-- TASK_CAPTURE (R179): a capture takes 8 cycles of an active lane. -/
def taskCapture (slot : Nat) (s : Device) : Device :=
  let b := recNow s 0x02 1 slot
  match s.dpt.cut, freeLane s s.dpt.active with
  | some c, some l =>
    if !taskEnabled b || taskProgram b || (taskOf s slot).captured || !capturable s c slot then s
    else
      let s := modTask slot (fun k => { k with captured := true }) (captureTask c slot s)
      { s with pmc.cum := tmod s.pmc.cum (pmcKey 0x03 0x80 l true) 0 (· + 80000) }
  | _, _ => s

/-- The enabled data-class tasks. -/
def dataTasks (s : Device) : List Nat :=
  (objsOf s 0x02 1).filter fun n => let b := recNow s 0x02 1 n; taskEnabled b && !taskProgram b

/-- DPT_CUT_REPORT (R180): every task is captured and every stream has passed its marker. -/
def cutReport (s : Device) : Device :=
  match s.dpt.cut with
  | none => s
  | some c =>
    let ready := (dataTasks s).all (fun n => (taskOf s n).captured) && (srcStreams s c.te).all (streamPassed s c)
    if c.reported || !ready then s
    else
      let rest := (objsOf s 0x02 1).filter fun n => !(taskOf s n).captured
      let s := rest.foldl (fun s n => captureTask c n s) s
      let delay := s.dpt.delay
      modCut (fun i => { i with delay }) { s with
        dpt.cut := some { c with reported := true }, dpt.epoch := BitVec.ofNat 32 c.epoch }

/-- DPT_CUT_PENDING (R180): a firing stamped before T_e is still WAITING one epoch length after T_e. -/
def cutPending (slot : Nat) (s : Device) : Device :=
  match s.dpt.cut with
  | none => s
  | some c =>
    let k := taskOf s slot
    if c.pending.contains slot || nowS s < c.te + epochLen s || k.run != .waiting || !k.prim.any (fun p => p.time < c.te) then s
    else raise Ev.dptCutPending [lo32 c.epoch, (2, slot)] { s with dpt.cut := some { c with pending := c.pending ++ [slot] } }

/-! ## Parts (R593, Table KEP-2) -/

/-- The blocks that report, in the order of Table KEP-2; 0x09 stands for DAC and DIO. -/
def cutBlocks : List Nat := [0x01, 0x02, 0x03, 0x06, 0x04, 0x0C, 0x09]

/-- The part's condition of Table KEP-2 holds. -/
def partReady (blk : Nat) (k : KepCut) (s : Device) : Bool :=
  let now := nowS s
  let reported := s.dpt.cut.any (·.reported)
  k.te + usT 2 ≤ now && (match blk with
    | 0x01 => true
    | 0x02 => reported
    | 0x03 => k.ready.contains 0x02
    | 0x06 => (objsOf s 0x06 1).all fun a =>
        !taskEnabled (recNow s 0x02 1 (axisSlot s a)) || (taskOf s (axisSlot s a)).captured
    | 0x04 => !cycleBefore s k.te none
    | 0x0C => (ethStreams s k.te).all fun q => s.dpt.cut.any fun c => c.passed.contains q.key
    | 0x09 => k.ready.contains 0x02 && s.outputs.all (fun o => !(o.kind == 1 || o.kind == 2) || k.te ≤ o.time)
    | _ => false)

/-- A table with the entries it lacks taken from the unit. -/
def fillTab {α : Type} (t : Tab α) (keys : List Nat) (f : Nat → α) : Tab α :=
  keys.foldl (fun t k => if (tfind t k).isNone then tset t k (f k) else t) t

/-- The outputs that DAC channels and PWM pins hold. -/
def heldOuts (s : Device) (t : Tab (Int × STime)) : Tab (Int × STime) :=
  let t := fillTab t (objsOf s 0x09 1) (fun n => ((dacOf s n).code, (dacOf s n).time.getD 0))
  fillTab t (((objsOf s 0x0A 1).filter (fun n => pinMode (recNow s 0x0A 1 n) == 4)).map (32 + ·)) fun k =>
    (((pinOf s (k - 32)).pwm : Int), (pinOf s (k - 32)).pwmTime.getD 0)

/-- The part enters the cut: what the captures have not taken is held as it stands. -/
def takePart (blk : Nat) (s : Device) : Device :=
  match blk with
  | 0x03 => let loops := objsOf s 0x03 1; modCut (fun i => { i with loops := fillTab i.loops loops (loopOf s) }) s
  | 0x06 => let axes := objsOf s 0x06 1; modCut (fun i => { i with axes := fillTab i.axes axes (axisOf s) }) s
  | 0x04 => (objsOf s 0x04 1).foldl (fun s p => capturePgm p s) s
  | 0x0C =>
    let before := fun (k : KepCut) (st : Nat) => (stnOf s st).outs.map fun e => (e.1, (tfind k.words (512 * st + e.1)).getD e.2)
    let stns := objsOf s 0x0C 3
    { s with kep.cut := s.kep.cut.map fun k => { k with img := { k.img with
        stations := (fillTab k.img.stations stns (stnOf s)).map fun e => (e.1, { e.2 with outs := before k e.1 }) } } }
  | 0x09 => modCut (fun i => { i with outs := heldOuts s i.outs }) s
  | _ => s

/-- The image that the last committed record left: that of the newest record waiting, or of the newest slot (R594). -/
def committedImage (s : Device) : Option KepImage :=
  match s.kep.journal.getLast? with
  | some r => some r.img
  | none => ([0, 1].find? (fun n => (kepSlot s n).state == 2 && (kepSlot s n).epoch == s.kep.epoch)).map (fun n => (kepSlot s n).img)

/-- The part drawn into the record: the items that have changed, or, in a full cut, all of them (R594, R601). -/
def drawPart (blk : Nat) (s : Device) : Device :=
  match s.kep.cut with
  | none => s
  | some k =>
    let part := buildPart blk (if k.full then none else committedImage s) k.img
    { s with kep.cut := some { k with
        ready := k.ready ++ [blk], parts := if part.isEmpty then k.parts else k.parts ++ [part] } }

/-! ## Commit (R595, R598, R602, R603, R607) -/

/-- Bytes of the journal ring of 32 sectors. -/
def ringBytes : Nat := 2097152

/-- A sector of the hot region that failed a verify (R723): without a spare the first failure ends the rotation, and the
second the journal. -/
def hotFailure (s : Device) (sector : Nat) : Device :=
  match faultSector sector s with
  | (true, s) => s
  | (false, s) =>
    let s := { s with spr.hotFails := s.spr.hotFails + 1 }
    if s.spr.hotFails = 1 then s
    else { s with kep.journalOn := false, kep.cut := none, dpt.cut := none, kep.slots := [], kep.journal := [], kep.copy := false }

/-- CUT_PART_READY (R593 to R595, R601): the part is drawn into the journal, where the writes of the sectors of `bad` fail
their verify (R723). -/
def cutPart (blk : Nat) (bad : List Nat) (s : Device) : Device :=
  match s.kep.cut with
  | none => s
  | some k =>
    if k.ready.contains blk || !partReady blk k s then s else bad.foldl hotFailure (drawPart blk (takePart blk s))

/-- The cut waits, for a cause of R598. -/
def cutWaits (cause : Nat) (s : Device) : Device :=
  { s with kep.cut := s.kep.cut.map fun k => { k with cause } }

/-- The record of a cut is committed (R595 to R598, R600, R606). -/
def commitCut (k : KepCut) (len : Nat) (s : Device) : Device :=
  let now := nowS s
  let direct := !k.full && ringBytes < len
  let r : KepRec := {
    epoch := k.epoch, te := k.te, len, prev := if k.full then 0 else s.kep.epoch, full := k.full, direct, img := k.img
    stretch := s.kep.skipped, parts := k.parts }
  let shown := if direct then 80 else len
  let span := now - k.te
  let skipped := if epochLen s = 0 then 0 else span / epochLen s
  let s := { s with
    kep.epoch := k.epoch, kep.te := k.te, kep.recBytes := shown, kep.cut := none, dpt.cut := none
    kep.lastBoundary := now, kep.stretchMax := max s.kep.stretchMax (sat 32 (span / usT 1))
    kep.needFull := s.kep.needFull && !k.full, kep.skipped := skipped }
  let s := journalWrite len s
  let s := if k.full || direct then { putKepSlot 0 (applyRecord (kepSlot s 0) r) s with kep.copy := true }
    else { s with kep.journal := s.kep.journal ++ [r] }
  let s := if skipped = 0 then s
    else raise Ev.kepEpochStretch [lo32 k.epoch, (2, skipped), (1, if k.full || direct then 4 else k.cause),
      (1, k.ready.getLastD 0)] { s with kep.stretches := s.kep.stretches + 1 }
  shipRecord r s

/-- CUT_COMMIT: the trailer's verify completes; `bad` are the sectors whose verify failed and were substituted (R591). The
record waits for room in the ring and for the bandwidth cap of 400 MB/s, and one that goes straight into slot 0 for the end of
a read of that slot (R619). -/
def cutCommit (bad : List Nat) (s : Device) : Device :=
  match s.kep.cut with
  | none => s
  | some k =>
    let len := 80 + (k.parts.map List.length).sum
    let ring := (s.kep.journal.map (·.len)).sum
    if !cutBlocks.all (fun b => k.ready.contains b) || s.clk.pwrfail then s
    else if !k.full && len ≤ ringBytes && ringBytes < ring + len then cutWaits 3 s
    else if !k.full && ringBytes < len && !s.kep.journal.isEmpty then s
    else if (k.full || ringBytes < len) && s.kep.read.any (fun r => r.1 == 0) then s
    else if nowS s < k.te + 640 * len then cutWaits 2 s
    else
      let s := bad.foldl hotFailure s
      if s.kep.cut.isNone then s else commitCut k len s

/-! ## The housekeeping core (R590, R605, R606, R619) -/

/-- The slot holds the record's state. -/
def slotHas (s : Device) (n : Nat) (r : KepRec) : Bool := (kepSlot s n).state == 2 && r.epoch ≤ (kepSlot s n).epoch

/-- A slot that is being read out is not applied to; nor is slot 1 while it waits for its copy. -/
def slotOpen (s : Device) (n : Nat) : Bool := !(s.kep.read.any (fun r => r.1 == n)) && !(n == 1 && s.kep.copy)

/-- The next record and slot to apply: slot 0 before slot 1. -/
def nextApply (s : Device) : Option (KepRec × Nat) :=
  s.kep.journal.findSome? fun r => ([0, 1].find? (fun n => slotOpen s n && !slotHas s n r)).map fun n => (r, n)

/-- JOURNAL_RECORD_APPLY (R605): one step of an application: the slot becomes APPLYING, or is written and becomes VALID. -/
def recordApply (s : Device) : Device :=
  match nextApply s with
  | none => s
  | some (r, n) =>
    if s.clk.pwrfail then s
    else if (kepSlot s n).state ≠ 1 then putKepSlot n { kepSlot s n with state := 1 } s
    else
      let s := hotWrite r.len (putKepSlot n (applyRecord (kepSlot s n) r) s)
      { s with kep.journal := s.kep.journal.filter fun q => !(slotHas s 0 q && slotHas s 1 q) }

/-- SLOT_COPY (R603, R606): slot 0, VALID, is copied into slot 1. -/
def slotCopy (s : Device) : Device :=
  let q := kepSlot s 0
  if !s.kep.copy || q.state ≠ 2 || s.kep.read.any (fun r => r.1 == 1) || s.clk.pwrfail then s
  else
    let s := journalWrite (imageSize s) { putKepSlot 1 q s with kep.copy := false }
    { s with kep.journal := s.kep.journal.filter fun r => !(slotHas s 0 r && slotHas s 1 r) }

/-- GAP_MOVE (R590): after 4,096 sectors' worth of writes the gap moves one place. -/
def gapMove (s : Device) : Device :=
  if s.kep.gapBytes < 268435456 || s.spr.hotFails ≠ 0 || s.clk.pwrfail then s
  else
    let s := { s with kep.gapBytes := s.kep.gapBytes - 268435456, kep.gap := (s.kep.gap + 1) % 337 }
    { s with kep.hotWrites := s.kep.hotWrites + 65536 }

/-! ## Evaluation -/

/-- LOOP_EVALUATION (R189, Table PMC-2 EVAL). -/
def loopEvaluation (lane : Nat) (s : Device) : Device :=
  match tfind s.dpt.lanes lane with
  | none => s
  | some _ => pmcEdge 0x03 0x81 lane (evalLane lane heldValue s)

/-! ## The rows of the table of operations -/

/-- LOOP_EVALUATION (R189): A lane completes a loop evaluation, emits its outputs, writes state and reports
completion. -/
def execLoopEvaluation (lane : Nat) (s : State) : Host.Outcome State Fault Refusal :=
  .next { s with dev := Sys2Proof.Machine.loopEvaluation lane s.dev }

/-- EPOCH_BOUNDARY (R178): At T_e, DPT places epoch markers and opens a cut. -/
def execEpochBoundary (s : State) : Host.Outcome State Fault Refusal :=
  .next { s with dev := Sys2Proof.Machine.epochBoundary s.dev }

/-- EPOCH_MARKER_TIMEOUT (R808): A silent or disabled stream passes its marker at T_e plus its marker latency.
-/
def execEpochMarkerTimeout (source slot operand : Nat) (s : State) : Host.Outcome State Fault Refusal :=
  .next { s with dev := markerTimeout source slot operand s.dev }

/-- TASK_CAPTURE (R179): A task's state as of T_e is captured on an active lane before its first firing at or
after T_e. -/
def execTaskCapture (slot : Nat) (s : State) : Host.Outcome State Fault Refusal :=
  .next { s with dev := Sys2Proof.Machine.taskCapture slot s.dev }

/-- DPT_CUT_REPORT (R180): All tasks are captured and all markers passed, so DPT reports its part of the cut. -/
def execDptCutReport (s : State) : Host.Outcome State Fault Refusal :=
  .next { s with dev := cutReport s.dev }

/-- DPT_CUT_PENDING (R180): A firing stamped before T_e is still waiting one epoch length after T_e. -/
def execDptCutPending (slot : Nat) (s : State) : Host.Outcome State Fault Refusal :=
  .next { s with dev := cutPending slot s.dev }

/-- CUT_PART_READY (R593): A unit's part of the cut becomes ready and is drawn into the journal. -/
def execCutPartReady (blk : Nat) (bad : List Nat) (s : State) : Host.Outcome State Fault Refusal :=
  .next { s with dev := cutPart blk bad s.dev }

/-- CUT_COMMIT (R595): The trailer verify completes and the record is committed. -/
def execCutCommit (bad : List Nat) (s : State) : Host.Outcome State Fault Refusal :=
  .next { s with dev := Sys2Proof.Machine.cutCommit bad s.dev }

/-- JOURNAL_RECORD_APPLY (R605): The housekeeping core applies a committed record to both slots. -/
def execJournalRecordApply (s : State) : Host.Outcome State Fault Refusal :=
  .next { s with dev := recordApply s.dev }

/-- SLOT_COPY (R606): After a full cut, slot 0 is copied into slot 1. -/
def execSlotCopy (s : State) : Host.Outcome State Fault Refusal :=
  .next { s with dev := Sys2Proof.Machine.slotCopy s.dev }

/-- GAP_MOVE (R590): After 4,096 sector units written, the hot-region gap moves one place. -/
def execGapMove (s : State) : Host.Outcome State Fault Refusal :=
  .next { s with dev := Sys2Proof.Machine.gapMove s.dev }

end Sys2Proof.Machine
end

