-- ==== Sys2Proof/Machine/Drain.lean ====
section
/-!
DEFINITION. Machine/Drain.lean: how the sources fill device-to-host windows, and the release of a window (R86 to R88,
R102, R249 to R252, R289, R619, R662, R674).
-/
namespace Sys2Proof.Machine

/-! ## Rings that a window empties (R289, R662) -/

/-- The unread records of the ring that feeds a source, its TYPE, or none for a source that is no ring. -/
def ringSource (s : Device) (src : Nat) : Option (Nat × List BufRec) :=
  if 0x0800 ≤ src ∧ src < 0x0820 then some (0x30, (abufOf s (src - 0x0800)).recs)
  else if src = 0x1100 then some (0x90, s.ltn.ring)
  else none

/-- Bytes of one record of a ring. -/
def ringUnit (typ : Nat) : Nat := if typ = 0x30 then 8 else 16

/-- The read pointer of a ring passes `k` records, which the host has now. -/
def ringAdvance (src k : Nat) (s : Device) : Device :=
  if src = 0x1100 then
    { s with ltn.ring := s.ltn.ring.drop k, ltn.ringFull := s.ltn.ringFull && k == 0, ltn.rd := (s.ltn.rd + 16 * min k s.ltn.ring.length) % max 1 (s.ltn.ringMib * 2 ^ 20) }
  else
    let c := src - 0x0800
    let size := 2 ^ fld 13 1 (convRec s c)
    modAbuf c (fun b => { b with recs := b.recs.drop k, rd := (b.rd + 8 * min k b.recs.length) % size }) s

/-- Hands back the segment being filled; the ring that filled it moves on by what it held (R289, R662). -/
def handBackRing (n : Nat) (s : Device) : Device :=
  let w := winOf s n
  let src := w.bound.getD 0
  match ringSource s src with
  | none => handBack n s
  | some (typ, _) => ringAdvance src (w.fill.length / ringUnit typ) (handBack n s)

/-- The instant from which the flush interval of a window counts: its first payload byte, which a ring gives at the write
of its oldest unread record, and with no data the later of the bind and the last hand-back (R88). -/
def flushFrom (n : Nat) (s : Device) : STime :=
  let w := winOf s n
  if !w.fill.isEmpty then w.fillAt
  else match ringSource s (w.bound.getD 0) with
    | some (_, r :: _) => max r.at_ w.idleFrom
    | _ => w.idleFrom

/-- Copies whole records of a ring into the segment, and hands the segment back when it holds all it can. -/
def drainRing (n typ : Nat) (recs : List BufRec) (s : Device) : Device :=
  let w := winOf s n
  let room := segRoom w / ringUnit typ
  if recs.isEmpty || s.hif.d3hot then s
  else if w.owned = 0 then starve n s
  else
    let take := recs.take room
    let at_ := flushFrom n s
    let s := modWin n (fun w => { w with
      fill := take.flatMap (·.bytes), fillType := typ, fillTime := take.findSome? (·.time), fillAt := at_ }) s
    if take.length = room then handBackRing n s else s

/-- Hands back what the source of a window holds for its next segment, a segment that is not full included: the records of
a ring that wait, or what has been put into the segment (R88, R102). `empty` says that a segment with no data goes too. -/
def handBackPart (n : Nat) (empty : Bool) (s : Device) : Device :=
  let w := winOf s n
  match ringSource s (w.bound.getD 0) with
  | some (typ, r :: rs) =>
    let s' := drainRing n typ (r :: rs) s
    if (winOf s' n).fill.isEmpty then s' else handBackRing n s'
  | _ => if !w.fill.isEmpty || empty then handBackRing n s else s

/-! ## Copies that a command asks for -/

/-- One segment with the given payload is handed back. TIME is the hand-back time: a piece of a trace or of an image holds no
record with a time of its own (DESIGN CHOICE, log 77). -/
def handPayload (n typ : Nat) (bs : List Byte) (s : Device) : Device :=
  handBack n (modWin n (fun w => { w with fill := bs, fillType := typ, fillTime := none, fillAt := nowS s }) s)

/-- The next segment of a trace read, and the command's completion after the last (R249 to R252). -/
def drainTrace (n : Nat) (s : Device) : Device :=
  match s.trc.read with
  | none => s
  | some (_, _, []) => s
  | some (p, done, (typ, bs) :: rest) =>
    if s.hif.d3hot then s
    else if (winOf s n).owned = 0 then starve n s
    else
      let done := done + bs.length
      let s := handPayload n typ bs s
      if rest.isEmpty then finish p .ok done [] { s with trc.read := none }
      else { s with trc.read := some (p, done, rest) }

/-- The records of an export enter the window as long as it has segments (R674); the command completes after the last. -/
def drainExport (n : Nat) : Nat → Device → Device
  | 0, s => s
  | k + 1, s =>
    match s.evr.export_ with
    | none => s
    | some (p, [], done) =>
      let s := if (winOf s n).fill.isEmpty then s else handBack n s
      finish p .ok done [] { s with evr.export_ := none }
    | some (p, (slot, r) :: rest, done) =>
      if !((tfind s.evr.region slot).any fun e => e.rec_ == r) then
        drainExport n k { s with evr.export_ := some (p, rest, done) }
      else
        match pushRecord n 0x80 (some r.time) (eventBytes r false) s with
        | (true, s) => drainExport n k { s with evr.export_ := some (p, rest, done + 1) }
        | (false, s) => s

/-! ## Images (R619) -/

/-- The next segment of a slot that is being read out (R619). -/
def drainImage (n : Nat) (s : Device) : Device :=
  match s.kep.read with
  | none => s
  | some (slot, off, p) =>
    if s.hif.d3hot then s
    else if (winOf s n).owned = 0 then starve n s
    else
      let all := imageBytes (kepSlot s slot)
      let piece := (all.drop off).take (segRoom (winOf s n))
      let s := handPayload n 0x70 piece s
      if off + piece.length < all.length then { s with kep.read := some (slot, off + piece.length, p) }
      else finish p .ok all.length [] { s with kep.read := none }

/-! ## The rows -/

/-- SEGMENT_HANDBACK (R86): the source of window `n` fills the next segment, which goes back to the host when it is full or
the copy it belongs to is complete. -/
def segmentHandback (n : Nat) (s : Device) : Device :=
  let w := winOf s n
  match w.bound with
  | none => s
  | some src =>
    if !w.d2h || !w.enable then s
    else match ringSource s src with
    | some (typ, recs) => drainRing n typ recs s
    | none =>
      if src = 0x11C0 then drainTrace n s
      else if src = 0x1200 then drainExport n 65537 s
      else if src = 0x0F10 then drainImage n s
      else if 0x0A90 ≤ src ∧ src < 0x0A94 then uartFlush (src - 0x0A90) 257 s
      else if 0x0D00 ≤ src ∧ src < 0x0D08 then canFlush (src - 0x0D00) 65 s
      else s

/-- WINDOW_FLUSH_TIMEOUT (R87, R88): the interval has passed since the first payload byte of the segment, or, with no data,
since the later of the bind and the last hand-back. A window whose next segment the host owns is starved. -/
def windowFlush (n : Nat) (s : Device) : Device :=
  let w := winOf s n
  if w.bound.isNone || !w.d2h || w.flushUs = 0 || nowS s < flushFrom n s + usT w.flushUs || s.hif.d3hot then s
  else if w.owned = 0 then starve n s
  else handBackPart n true s

/-- WINDOW_RELEASE (R102, order of checks R809). -/
def windowRelease (p : Pend) (s : Device) : CmdEnd :=
  let n := p.desc.target.toNat
  checked [
    .when (15 < n) .notFound 0,
    .bad plain [],
    .when (winOf s n).bound.isNone .rejectedState 0]
    (fun _ s =>
      let w := winOf s n
      let s := if w.d2h && 0 < w.owned then handBackPart n false s else s
      okWith ((winOf s n).seq - 1).toNat (modWin n (fun w => { w with bound := none, hold := [], rx := [] }) s)) p s

/-! ## The rows of the table of operations -/

/-- WINDOW_RELEASE (R102): Stops the source at a record boundary, hands back a partly filled segment and unbinds
the window. -/
def execWindowRelease (d : Desc) (s : State) : Host.Outcome State Fault Refusal :=
  .next { s with dev := runCmd Sys2Proof.Machine.windowRelease d s.dev }

/-- SEGMENT_HANDBACK (R86): The device fills a device-to-host segment and hands it back with OWN = 0 and the
next SEQ. -/
def execSegmentHandback (n : Nat) (s : State) : Host.Outcome State Fault Refusal :=
  .next { s with dev := Sys2Proof.Machine.segmentHandback n s.dev }

/-- WINDOW_FLUSH_TIMEOUT (R88): When the flush interval expires, a partly filled or empty segment is handed
back. -/
def execWindowFlushTimeout (n : Nat) (s : State) : Host.Outcome State Fault Refusal :=
  .next { s with dev := windowFlush n s.dev }

end Sys2Proof.Machine
end

