-- ==== Sys2Proof/Machine/Power.lean ====
section
/-!
DEFINITION. Machine/Power.lean: supplies, resets, clocks and temperature (22_pins_power_startup).
-/
namespace Sys2Proof.Machine

/-- An event of CLK that is also written into the last-gasp store (R788, R792, R799). -/
def raiseGasp (code : Nat) (fields : List (Nat × Nat)) (s : Device) : Device :=
  lastGaspPut { time := nowD s, code, sev := sevOf code, payload := packFields 8 fields } (raise code fields s)

/-- A device reset of a CLK cause that restarts as after a power loss (R615, R787, R792, R799). A rail that is out holds the
device until the power is back (R795), whatever else would hold it. -/
def powerLoss (clkCause : Nat) (held : Option Nat) (s : Device) : Device :=
  resetDevice clkCause 1 none (if held.isSome && s.clk.held == some 4 then some 4 else held) { s with kep.lossCause := 1 }

/-! ## Rails (R787) -/

/-- The Spire PLLs stop for a rail; a DRAM rail loses DRAM (R694, R787). -/
def spireRail (dram : Bool) (s : Device) : Device :=
  let lost := dram || s.clk.railWait == some true
  spireFatal 4 0 dram { s with clk.railWait := some lost }

/-- RAIL_OUT_OF_WINDOW (R787): rail `r` by its bit of CLK_RAILS. -/
def railOut (r : Nat) (s : Device) : Device :=
  if 14 < r ∨ !bit r s.clk.rails then s
  else
    let s := { s with clk.rails := s.clk.rails - 2 ^ r }
    if s.clk.held.isSome then (if r < 7 ∨ r = 9 ∨ r = 10 then s else { s with clk.held := some 4 })
    else
      let s := raise Ev.clkRailFault [(1, r)] { s with clk.railEvt := s.clk.railEvt ||| 2 ^ r }
      if r < 3 then spireRail false s
      else if r < 7 then spireRail true s
      else if r = 9 then channelFault 4 0 s
      else if r = 10 then channelFault 4 1 s
      else
        let s := powerLoss 4 (some 4) s
        { s with clk.railEvt := 2 ^ r }

/-- RAIL_RETURN (R787): a rail has been back in window for 10 ms; a pending SPIRE_WARM proceeds once no Spire or DRAM rail
is out. -/
def railReturn (r : Nat) (s : Device) : Device :=
  if 14 < r ∨ bit r s.clk.rails then s
  else
    let s := { s with clk.rails := s.clk.rails + 2 ^ r }
    if s.clk.rails % 128 = 127 then { s with clk.railWait := none } else s

/-! ## Power, resets and the reference -/

/-- POWER_ON (R795): every rail is in window and RESET_N is high. The counts survive unless VDD_AON was lost (R802). -/
def powerOn (s : Device) : Device :=
  let kept := s.clk.held == some 4 && bit 8 s.clk.rails
  let s := powerLoss 1 none s
  let s := if kept then s else { s with clk.pwrfails := 0, clk.refFaults := 0 }
  { s with clk.rails := 0x7FFF, clk.railEvt := 0, clk.pwrfail := false, clk.refOk := true, clk.railWait := none, sec.rollbackBoot := false }

/-- RESET_N_ASSERT (R763, R789): low for 10 µs and released again; `testMode` is the level of TEST_MODE at the release. -/
def resetN (testMode : Bool) (s : Device) : Device :=
  let roll := s.btr.spireHeld && !s.sec.rollback.isEmpty
  let held := if s.clk.held == some 4 then some 4
    else if testMode then some 2
    else if s.clk.held != some 2 then s.clk.held
    else if s.clk.refOk then none else some 5
  resetDevice 2 2 none held { s with kep.lossCause := 2, sec.rollbackBoot := roll }

/-- PWRFAIL_N_ASSERT (R788). -/
def pwrfailAssert (s : Device) : Device :=
  if s.clk.pwrfail then s
  else
    let s := { s with clk.pwrfail := true, clk.pwrfails := s.clk.pwrfails + 1 }
    raiseGasp Ev.clkPwrfail [(4, s.clk.pwrfails.toNat)] s

/-- PWRFAIL_N_RELEASE (R788): before any rail has left its window. -/
def pwrfailRelease (s : Device) : Device := if s.clk.rails = 0x7FFF then { s with clk.pwrfail := false } else s

/-- REFERENCE_LOSS (R792): `why` is 1 no edge, 2 out of range. -/
def referenceLoss (why : Nat) (s : Device) : Device :=
  if !s.clk.refOk ∨ why < 1 ∨ 2 < why then s
  else
    let s := { s with clk.refOk := false, clk.refFaults := s.clk.refFaults + 1 }
    powerLoss 5 (some 5) (raiseGasp Ev.clkRefFault [(1, why)] s)

/-- REFERENCE_REQUALIFIED (R792). -/
def referenceBack (s : Device) : Device :=
  { s with clk.refOk := true, clk.held := if s.clk.held == some 5 then none else s.clk.held }

/-- PERST_N_ASSERT (R790): as a hot reset. -/
def perst (ltssm lost : Nat) (s : Device) : Device := pcieLinkDown .hotReset ltssm lost s

/-- PCIE_LINK_UP (R790): the link has trained, after PERST_N and the lock of the Spire PLLs. -/
def pcieLinkUp (s : Device) : Device :=
  if s.clk.spirePlls && s.btr.spireUp then { s with hif.linkUp := true } else s

/-! ## Temperature (R799) -/

/-- A die at or above WARN raises CLK_THERM_WARN, again only after it has been HYST below; temperatures in 1/8 °C. -/
def thermWarn (die : Nat) (t : Int) (s : Device) : Device :=
  if !bit die s.clk.warm && (s.clk.warn * 8 : Nat) ≤ t then
    raise Ev.clkThermWarn [(1, die), sgn 2 t] { s with clk.warm := s.clk.warm + 2 ^ die }
  else if bit die s.clk.warm && t ≤ ((s.clk.warn : Int) - s.clk.hyst) * 8 then
    { s with clk.warm := s.clk.warm - 2 ^ die }
  else s

/-- The Spire die is held in reset for its temperature, as R696 states. -/
def spireTrip (t : Int) (s : Device) : Device :=
  let s := raiseGasp Ev.clkThermTrip [(1, 0), sgn 2 t] s
  let s := if s.btr.spireUp then spireDown 1 false s else s
  holdSpire { s with kep.phase := .boot, kep.running := none, kep.restoring := false }

/-- THERMAL_SAMPLE (R799): every 1 ms; both temperatures in 1/8 °C. -/
def thermalSample (spire dome : Int) (s : Device) : Device :=
  if s.tim.ck < s.clk.sampleAt + 1000000 then s
  else
    let s := { s with
      clk.sampleAt := s.tim.ck, clk.tempS := spire, clk.tempD := dome
      clk.maxS := max s.clk.maxS spire, clk.maxD := max s.clk.maxD dome }
    match s.clk.held with
    | some 6 => if dome < 880 then { s with clk.held := none } else s
    | some _ => s
    | none =>
      let s := thermWarn 1 dome (thermWarn 0 spire s)
      if 1000 ≤ dome then powerLoss 6 (some 6) (raiseGasp Ev.clkThermTrip [(1, 1), sgn 2 dome] s)
      else if 1000 ≤ spire && !s.btr.spireHeld then spireTrip spire s
      else s

/-! ## Register writes of CLK with rows of their own -/

/-- CLKFORCE_WRITE (R751, R803). -/
def clkForce (b : BusWrite) (s : Device) : Device :=
  match doorbellWord b with
  | none => accError s
  | some v =>
    let s := hazard 0x180030 { s with clk.forceLow := bit 0 v }
    if s.cfg.mode == .running then retestLoad s else s

/-- CLK_RAIL_EVT_CLEAR (R749). -/
def railEvtClear (b : BusWrite) (s : Device) : Device :=
  match doorbellWord b with
  | none => accError s
  | some v => { s with clk.railEvt := (List.range 15).foldl (fun e r => if bit r v && bit r e then e - 2 ^ r else e) s.clk.railEvt }

/-! ## The rows of the table of operations -/

/-- PERST_N_ASSERT (R790): PERST_N resets HIF and the PCIe link, and training begins 1 ms after its release. -/
def execPerstNAssert (ltssm lost : Nat) (s : State) : Host.Outcome State Fault Refusal :=
  .next { s with dev := perst ltssm lost s.dev }

/-- POWER_ON (R795): All rails come into window with RESET_N high, and the start-up sequence runs. -/
def execPowerOn (s : State) : Host.Outcome State Fault Refusal :=
  .next { s with dev := Sys2Proof.Machine.powerOn s.dev }

/-- RESET_N_ASSERT (R789): RESET_N low for 10 µs resets the device. -/
def execResetNAssert (testMode : Bool) (s : State) : Host.Outcome State Fault Refusal :=
  .next { s with dev := resetN testMode s.dev }

/-- PWRFAIL_N_ASSERT (R788): PWRFAIL_N asserted for 2 µs stores last-gasp data and stops slot application. -/
def execPwrfailNAssert (s : State) : Host.Outcome State Fault Refusal :=
  .next { s with dev := pwrfailAssert s.dev }

/-- PWRFAIL_N_RELEASE (R788): PWRFAIL_N released with the rails in window resumes normal operation. -/
def execPwrfailNRelease (s : State) : Host.Outcome State Fault Refusal :=
  .next { s with dev := pwrfailRelease s.dev }

/-- RAIL_OUT_OF_WINDOW (R787): A rail out of window for 20 µs resets the device, faults a channel, or restarts
the Spire die. -/
def execRailOutOfWindow (r : Nat) (s : State) : Host.Outcome State Fault Refusal :=
  .next { s with dev := railOut r s.dev }

/-- REFERENCE_LOSS (R792): A lost REF25 resets the device as a power loss. -/
def execReferenceLoss (why : Nat) (s : State) : Host.Outcome State Fault Refusal :=
  .next { s with dev := Sys2Proof.Machine.referenceLoss why s.dev }

/-- THERMAL_SAMPLE (R799): Every 1 ms, die temperatures are read and warnings or trips acted on. -/
def execThermalSample (spire dome : Int) (s : State) : Host.Outcome State Fault Refusal :=
  .next { s with dev := Sys2Proof.Machine.thermalSample spire dome s.dev }

/-- CLKFORCE_WRITE (R803): A write of FORCE_LOW switches the lane and core clocks. -/
def execClkforceWrite (b : BusWrite) (s : State) : Host.Outcome State Fault Refusal :=
  .next { s with dev := clkForce b s.dev }

/-- CLK_RAIL_EVT_CLEAR (R749): A W1C write clears rail event bits unless set in the same cycle. -/
def execClkRailEvtClear (b : BusWrite) (s : State) : Host.Outcome State Fault Refusal :=
  .next { s with dev := railEvtClear b s.dev }

/-- PCIE_LINK_UP (R790): The PCIe link trains after PERST_N release or link loss, HIF leaves reset with
HIF_LOST_CPL restored from its Dome copy, and configuration requests are completed normally. -/
def execPcieLinkUp (s : State) : Host.Outcome State Fault Refusal :=
  .next { s with dev := Sys2Proof.Machine.pcieLinkUp s.dev }

/-- REFERENCE_REQUALIFIED (R792): After a loss of REF25, the reference qualifies again and the device is
released from the reset it was held in. -/
def execReferenceRequalified (s : State) : Host.Outcome State Fault Refusal :=
  .next { s with dev := referenceBack s.dev }

/-- RAIL_RETURN (R787): A Spire or DRAM rail has been back in window for 10 ms, so the pending SPIRE_WARM
proceeds. -/
def execRailReturn (r : Nat) (s : State) : Host.Outcome State Fault Refusal :=
  .next { s with dev := Sys2Proof.Machine.railReturn r s.dev }

end Sys2Proof.Machine
end

