-- ==== Sys2Proof/Machine/Sec.lean ====
section
/-!
DEFINITION. Machine/Sec.lean: challenges and access scopes, quotes, firmware staging, provisioning, and the test access port
(21_security_access).
-/
namespace Sys2Proof.Machine

/-! ## Scopes, lockout and nonces (R767 to R772) -/

/-- Longest duration of an open scope, in seconds (Table SEC-1). -/
def maxOpenS (s : Device) : Nat := let v := bits 31 16 s.sec.otp.policy; if v = 0 then 3600 else v

/-- Seconds, rounded up, from now to a CK_TIME cycle. -/
def secondsTo (s : Device) (till : Nat) : Nat := (till - s.tim.ck + 999999999) / 1000000000

/-- Seconds of lockout left: SEC_LOCKOUT_S. -/
def lockLeft (s : Device) : Nat := secondsTo s s.sec.lockUntil

/-- SEC_SCOPE: the open scopes. -/
def secScope (s : Device) : Nat := ([0, 1, 2, 3].map (fun k => flag k (scopeOpen s k))).sum

/-- The next nonce, outstanding from now in place of any other (R768). -/
def issueNonce (s : Device) : List Byte × Device :=
  let (n, s) := draw s
  let v := padTo 32 (Config.nonce n)
  (v, { s with sec.nonce := some (v, s.tim.ck) })

/-- The outstanding nonce, while it is valid (R768). -/
def validNonce (s : Device) : Option (List Byte) :=
  match s.sec.nonce with
  | some (v, t) => if s.tim.ck < t + 60000000000 then some v else none
  | none => none

/-- A scope opens by method 0 challenge or 1 password (R769 to R772). -/
def openScope (k method dur : Nat) (s : Device) : Device :=
  raise Ev.secScopeOpen [(1, k), (1, method), (2, dur)] { s with
    sec.scopes := tset s.sec.scopes k (s.tim.ck + dur * 1000000000), sec.fails := 0 }

/-- An open fails: it is counted, and from the third failure a lockout starts (R772). -/
def openFails (k method : Nat) (s : Device) : Device :=
  let f := sat 8 (s.sec.fails + 1)
  let s := { s with
    sec.fails := f
    sec.lockUntil := if 3 ≤ f then s.tim.ck + min (2 ^ (f - 3)) 86400 * 1000000000 else s.sec.lockUntil }
  raise Ev.secAuthFail [(1, k), (1, method), (1, f)] s

/-- Whether a response answers the nonce (R754 steps 3, 4 and 6, R769). -/
def responseOk (s : Device) (nonce b : List Byte) : Bool :=
  let slot := fld 1 1 b
  let len := fld 2 2 b
  let pub := (b.drop 8).take 1793
  fld 0 1 b ≤ 3 && 12 ≤ slot && slot ≤ 15 && 1 ≤ len && len ≤ 1280 && fld 1801 7 b == 0 &&
  keyUsable s slot && keyMatches s slot pub &&
  Config.falconVerify pub (nonce ++ deviceId ++ b.take 1 ++ (b.drop 4).take 4) ((b.drop 1808).take len)

/-- How a response ends: its status, DETAIL, and the state after it. The nonce is consumed whatever the result (R768). -/
def respond (b : List Byte) (s : Device) : Status × Nat × Device :=
  let n := validNonce s
  let s := { s with sec.nonce := none }
  if s.tim.ck < s.sec.lockUntil then (.rejectedState, lockLeft s, s)
  else match n with
    | none => (.rejectedState, 0, s)
    | some v =>
      let dur := fld 4 4 b
      if dur = 0 ∨ maxOpenS s < dur then (.badField, 16, s)
      else if responseOk s v b then (.ok, dur, openScope (fld 0 1 b) 0 dur s)
      else (.dataError, 0, openFails (fld 0 1 b) 0 s)

/-- SEC_CHALLENGE (R768). -/
def secChallenge (p : Pend) (s : Device) : CmdEnd :=
  checked [
    .bad { bufMin := 32, bufMax := 16777216 } [(3 < p.desc.target.toNat, 8)],
    .when (s.tim.ck < s.sec.lockUntil) .rejectedState (lockLeft s)]
    (fun _ s => let (v, s) := issueNonce s; okBuf 0 v s) p s

/-- The answer of SEC_OPEN after its checks (R769). -/
def openAnswer (fails : Option (Status × Nat)) (response : List Byte) (s : Device) : CmdEnd :=
  match fails with
  | some (st, det) => .fail st det { s with sec.nonce := none }
  | none => let (st, det, s) := respond response s; .done st det [] s

/-- SEC_OPEN (R769). -/
def secOpen (p : Pend) (s : Device) : CmdEnd :=
  openAnswer (firstFail p.desc [.bad { target := false, bufMin := 3088, bufMax := 16777216 } [], .buffer])
    p.desc.buf.bytes s

/-- The password hash in force: the highest programmed one (Table SEC-1). -/
def passwordHash (s : Device) : Option (List Byte) := [3, 2, 1, 0].findSome? (fun k => tfind s.sec.otp.passwords k)

/-- SEC_OPEN_PW (R770). -/
def secOpenPw (p : Pend) (s : Device) : CmdEnd :=
  let d := p.desc
  let dur := d.p4.toNat
  checked [
    .bad { target := false, pmask := 0x1F } [(dur = 0 || maxOpenS s < dur, 40)],
    .when (passwordHash s).isNone .unsupported 0,
    .when (s.tim.ck < s.sec.lockUntil) .rejectedState (lockLeft s)]
    (fun _ s =>
      let word := [d.p0, d.p1, d.p2, d.p3].flatMap (fun w => le 4 w.toNat)
      if passwordHash s == some (shake256 32 (deviceId ++ word)) then okWith dur (openScope 2 1 dur s)
      else .fail .dataError 0 (openFails 2 1 s)) p s

/-- SEC_CLOSE (R771): DETAIL is the mask of the scopes closed. -/
def secClose (p : Pend) (s : Device) : CmdEnd :=
  let m := p.desc.p0.toNat
  checked [.bad { target := false, pmask := 1 } [(15 < m, 24)]]
    (fun _ s =>
      let was := ([0, 1, 2, 3].map (fun k => flag k (bit k m && (tfind s.sec.scopes k).isSome))).sum
      okWith was (closeScopes m 2 s)) p s

/-- SCOPE_EXPIRY (R771). -/
def scopeExpiry (k : Nat) (s : Device) : Device :=
  if (tfind s.sec.scopes k).any (fun till => till ≤ s.tim.ck) then closeScopes (2 ^ k) 1 s else s

/-- NONCE_EXPIRY (R768). -/
def nonceExpiry (s : Device) : Device := if (validNonce s).isSome then s else { s with sec.nonce := none }

/-- LOCKOUT_EXPIRY (R772). -/
def lockoutExpiry (s : Device) : Device := if s.tim.ck < s.sec.lockUntil then s else { s with sec.lockUntil := 0 }

/-! ## Identity (R764 to R766) -/

/-- A signature as records hold it: SIG_LEN, and the signature padded to 1,280 bytes. -/
def sigField (gap : Nat) (sig : List Byte) : List Byte :=
  le 2 (min sig.length 1280) ++ List.replicate gap 0#8 ++ padTo 1280 (sig.take 1280)

/-- The first 1,809 bytes of the identity record, which the manufacturer signs. -/
def identityHead : List Byte := deviceId ++ padTo 1793 Config.identityKey

/-- The identity record (Table SEC-5). -/
def identityRecord : List Byte := identityHead ++ List.replicate 7 0#8 ++ sigField 6 Config.makerSig

/-- SEC_READ_IDENTITY (R765). -/
def secReadIdentity (p : Pend) (s : Device) : CmdEnd :=
  checked [.bad { target := false, bufMin := 3104, bufMax := 16777216 } []]
    (fun _ s => okBuf 3104 identityRecord s) p s

/-- The boot image of a kind in use. -/
def bootUse (s : Device) (kind : Nat) : BootUse := tget s.sec.boot kind {}
def measurement (s : Device) (kind : Nat) : List Byte := padTo 32 (bootUse s kind).meas

/-- Bytes 0 to 255 of a quote, which the identity key signs (Table SEC-6). -/
def quoteHead (s : Device) (nonce : List Byte) : List Byte :=
  le 4 0x54515A4B ++ le 2 1 ++ le 2 1544 ++ deviceId ++ nonce ++ fullTime (nowS s) ++
  [1, 2, 3].flatMap (measurement s) ++ [1, 2, 3].flatMap (fun k => le 1 (bootUse s k).svn) ++ [0#8] ++
  le 4 (secScope s) ++ le 4 (fld 12 4 s.saf.cfg) ++ le 4 (fld 16 4 s.saf.cfg) ++ le 4 (fld 20 4 s.saf.cfg) ++
  le 4 s.cfg.baseCrc.toNat ++ le 4 s.fbl.id ++ le 4 s.kep.restarts.toNat ++ List.replicate 56 0#8

/-- SEC_QUOTE (R766). -/
def secQuote (p : Pend) (s : Device) : CmdEnd :=
  checked [.bad { target := false, pmask := 0xFF, bufMin := 1544, bufMax := 16777216 } []]
    (fun p s =>
      let head := quoteHead s ((pwords p.desc).flatMap (fun w => le 4 w.toNat))
      let (n, s) := draw s
      okBuf 1544 (head ++ sigField 6 (Config.falconSign n head)) s) p s

/-! ## Firmware staging (R762, R763) -/

/-- Longest image of a kind (Table SEC-4). -/
def maxImage (kind : Nat) : Nat := if kind = 1 then 8388608 else 2097152

/-- SEC_FW_STAGE (R762). -/
def fwStage (p : Pend) (s : Device) : CmdEnd :=
  let d := p.desc
  let k := d.target.toNat
  checked [
    .when (windowOf s 0x1701).isNone .notFound 0,
    .bad { pmask := 1 } [(k = 0 || 3 < k, 8), (d.p0 = 0 || maxImage k < d.p0.toNat, 24)],
    .when (needMaint s) .authRequired 0]
    (fun _ s => match admitActivity 6 0 0 3 none s with
      | (.error h, s) => .fail .busyConflict h s
      | (.ok h, s) => okWith h { s with sec.staging := some (k, d.p0.toNat) }) p s

/-- The stage fails: the slot is left EMPTY (R762). -/
def stageBad (s : Device) : Device := endOf 6 0 0 2 (stageFails s)

/-- FW_STAGE_DONE (R762): once the image has come; `written` tells that what is read back from the flash compares equal. -/
def stageDone (written : Bool) (s : Device) : Device :=
  match s.sec.staging with
  | none => s
  | some (kind, len) =>
    let got := match windowOf s 0x1701 with
      | some w => ((winOf s w).rx.map List.length).sum
      | none => len
    let damaged := (windowOf s 0x1701).any (fun w => (winOf s w).bad)
    if got < len && !damaged then s
    else match imageOf 0x1701 { p0 := BitVec.ofNat 32 len } s with
      | (none, s) => stageBad s
      | (some img, s) =>
        match bootFault s kind img with
        | some c => stageBad (raise Ev.secImageReject [(1, (Config.imageKindCode kind).toNat), (1, c)] s)
        | none =>
          match stageSlot s kind, written with
          | some n, true =>
            let act := ([0, 1].find? (fun m => flashState s kind m == 1)).getD (1 - n)
            let s := { s with sec.rollback := tset s.sec.rollback kind act, sec.gen := s.sec.gen + 1, sec.staging := none }
            let s := raise Ev.secStageDone [(1, kind), (1, n), (4, fld 12 4 img)] (setFlash kind n 2 s)
            endOf 6 0 0 0 s
          | _, _ => stageBad s

/-- SEC_SVN_COMMIT (R763). -/
def svnCommit (p : Pend) (s : Device) : CmdEnd :=
  let k := p.desc.target.toNat
  let u := bootUse s k
  checked [
    .bad {} [(k = 0 || 3 < k, 8)],
    .when (needMaint s) .authRequired 0,
    .when (!u.trial) .rejectedState 0]
    (fun _ s =>
      let s := match [0, 1].find? (fun n => flashState s k n == 1) with
        | some n => setFlash k n 3 s
        | none => s
      let svn := max (tget s.sec.otp.svn (k - 1) 0) (min 64 u.svn)
      let s := setFlash k u.slot 1 { s with
        sec.boot := tset s.sec.boot k { u with trial := false }, sec.rollback := tdel s.sec.rollback k
        sec.otp.svn := tset s.sec.otp.svn (k - 1) svn, sec.gen := s.sec.gen + 1 }
      okWith svn (raise Ev.secSvnCommit [(1, k), (1, svn)] s)) p s

/-! ## Provisioning (R752) -/

/-- Bytes of an item's value: 0 key slot, 1 revocation, 2 password hash, 3 policy. -/
def itemSize (item : Nat) : Nat := [64, 0, 32, 4].getD item 0
/-- Indices of an item. -/
def itemCount (item : Nat) : Nat := [16, 16, 4, 1].getD item 0

/-- A BOOT slot other than `k` can still be used. -/
def otherBoot (s : Device) (k : Nat) : Bool := [0, 1, 2, 3].any (fun n => n != k && keyUsable s n)

/-- SEC_PROVISION (R752). -/
def secProvision (p : Pend) (s : Device) : CmdEnd :=
  let d := p.desc
  let item := d.target.toNat
  let k := d.p0.toNat
  let size := itemSize item
  let v := d.buf.bytes.take size
  let pol := fld 0 4 v ||| s.sec.otp.policy
  let maxS := bits 31 16 pol
  checked [
    .bad { pmask := 1, bufMin := size, bufMax := size } [(3 < item, 8), (itemCount item ≤ k, 24)],
    .when (!scopeOpen s 3) .authRequired 0,
    .when (item == 0 && keyProgrammed s k) .rejectedState 0,
    .when (item == 1 && k ≤ 3 && keyUsable s k && !otherBoot s k) .rejectedState 0,
    .when (item == 2 && (tfind s.sec.otp.passwords k).isSome) .rejectedState 0,
    .buffer,
    .when (item == 3 && (bits 15 1 pol != 0 || (maxS != 0 && maxS < 60))) .badField 16]
    (fun _ s => okWith 0 (match item with
      | 0 => { s with sec.otp.keys := tset s.sec.otp.keys k v }
      | 1 => { s with sec.otp.revoked := s.sec.otp.revoked ||| 2 ^ k }
      | 2 => { s with sec.otp.passwords := tset s.sec.otp.passwords k v }
      | _ => { s with sec.otp.policy := pol })) p s

/-! ## The test access port (R773 to R775) -/

/-- An instruction enters the register and acts. -/
def tapLoad (code : Nat) (s : Device) : Device := { s with tst.ir := code, tst.bypassed := false }

/-- A refused instruction acts as BYPASS (R773, R774). -/
def tapRefuse (code : Nat) (s : Device) : Device :=
  raise Ev.secTapRefused [(1, code)] { s with tst.ir := code, tst.bypassed := true, tst.refused := s.tst.refused + 1 }

/-- The pins may be taken (R774). -/
def pinsFree (s : Device) : Bool := scopeOpen s 1 && s.cfg.mode != .running && s.saf.energised == 0

/-- An instruction of the TEST scope (R774). -/
def tapPins (code : Nat) (s : Device) : Device := if pinsFree s then tapLoad code s else tapRefuse code s

/-- The instruction in the register acts as BYPASS: it was refused, or the pins are no longer free (R773, R774). -/
def tapBypassed (s : Device) : Bool :=
  s.tst.bypassed || (s.tst.ir ∈ [0x00, 0x03, 0x04, 0x05, 0x06, 0x07] && !pinsFree s)

/-- Bits shifted out of a register selected by an instruction. -/
def tapOut (code value : Nat) (s : Device) : Device := { s with out := s.out ++ [.tap code value] }

/-- An IDCODE word: VERSION in [31:28], the part number 0x9680 in [27:12], the manufacturer in [11:1] and 1 (R775). -/
def idcodeOf (version maker : Nat) : Nat := version * 2 ^ 28 + 0x9680 * 2 ^ 12 + maker * 2 + 1

/-- The IDCODE value (R775). -/
def idcodeValue : Nat := idcodeOf Config.partVersion.toNat Config.makerCode.toNat

/-- IDCODE (R775). -/
def tapIdcode (s : Device) : Device := tapOut 0x01 idcodeValue (tapLoad 0x01 s)

/-- SAMPLE/PRELOAD (R773, R800): the cells capture `sampled` and take `shifted`. -/
def tapSample (sampled shifted : Nat) (s : Device) : Device :=
  tapOut 0x02 (sampled % 2 ^ 648) { tapLoad 0x02 s with tst.bsr := shifted % 2 ^ 648 }

/-- LOCK_CHALLENGE (R768, R772): no nonce during a lockout, nor while the Spire die is down. -/
def tapChallenge (s : Device) : Device :=
  let s := tapLoad 0x10 s
  if !s.btr.spireUp || s.tim.ck < s.sec.lockUntil then s
  else
    let (v, s) := issueNonce s
    tapOut 0x10 (unle v) s

/-- LOCK_RESPONSE (R769): the response is checked on Update-DR. -/
def tapResponse (b : List Byte) (s : Device) : Device :=
  let s := tapLoad 0x11 s
  if !s.btr.spireUp then s else (respond (padTo 3088 b) s).2.2

/-- LOCK_STATUS (R773). -/
def tapStatus (s : Device) : Device := tapOut 0x12 (secScope s) (tapLoad 0x12 s)

/-- DEBUG_ACCESS (R773). -/
def tapDebug (s : Device) : Device := if scopeOpen s 0 then tapLoad 0x20 s else tapRefuse 0x20 s

/-- The codes of Table SEC-8 other than BYPASS. -/
def tapCodes : List Nat := [0x00, 0x01, 0x02, 0x03, 0x04, 0x05, 0x06, 0x07, 0x10, 0x11, 0x12, 0x20]

/-- BYPASS: code 0xFF, and every code without an instruction (R773). -/
def tapBypass (code : Nat) (s : Device) : Device :=
  if tapCodes.contains (code % 256) then s
  else { s with tst.ir := code % 256, tst.bypassed := code % 256 != 0xFF }

/-! ## The rows of the table of operations -/

/-- SEC_CHALLENGE (R768): Issues a challenge nonce. -/
def execSecChallenge (d : Desc) (s : State) : Host.Outcome State Fault Refusal :=
  .next { s with dev := runCmd secChallenge d s.dev }

/-- SEC_OPEN (R769): Opens a scope with a signed response. -/
def execSecOpen (d : Desc) (s : State) : Host.Outcome State Fault Refusal :=
  .next { s with dev := runCmd secOpen d s.dev }

/-- SEC_OPEN_PW (R770): Opens MAINT with a password. -/
def execSecOpenPw (d : Desc) (s : State) : Host.Outcome State Fault Refusal :=
  .next { s with dev := runCmd secOpenPw d s.dev }

/-- SEC_CLOSE (R771): Closes scopes. -/
def execSecClose (d : Desc) (s : State) : Host.Outcome State Fault Refusal :=
  .next { s with dev := runCmd secClose d s.dev }

/-- SEC_QUOTE (R766): Returns a signed quote. -/
def execSecQuote (d : Desc) (s : State) : Host.Outcome State Fault Refusal :=
  .next { s with dev := runCmd secQuote d s.dev }

/-- SEC_READ_IDENTITY (R765): Returns the identity record. -/
def execSecReadIdentity (d : Desc) (s : State) : Host.Outcome State Fault Refusal :=
  .next { s with dev := runCmd secReadIdentity d s.dev }

/-- SEC_FW_STAGE (R762): Requests the firmware staging activity. -/
def execSecFwStage (d : Desc) (s : State) : Host.Outcome State Fault Refusal :=
  .next { s with dev := runCmd fwStage d s.dev }

/-- FW_STAGE_DONE (R762): Staging finishes, and the slot is marked TRIAL or left EMPTY. -/
def execFwStageDone (written : Bool) (s : State) : Host.Outcome State Fault Refusal :=
  .next { s with dev := stageDone written s.dev }

/-- SEC_SVN_COMMIT (R763): Commits a TRIAL image and raises its SVN. -/
def execSecSvnCommit (d : Desc) (s : State) : Host.Outcome State Fault Refusal :=
  .next { s with dev := runCmd svnCommit d s.dev }

/-- SEC_PROVISION (R752): Programs an OTP security item. -/
def execSecProvision (d : Desc) (s : State) : Host.Outcome State Fault Refusal :=
  .next { s with dev := runCmd secProvision d s.dev }

/-- SCOPE_EXPIRY (R771): An open scope's duration expires and it closes. -/
def execScopeExpiry (k : Nat) (s : State) : Host.Outcome State Fault Refusal :=
  .next { s with dev := scopeExpiry k s.dev }

/-- NONCE_EXPIRY (R768): A nonce expires after 60 s. -/
def execNonceExpiry (s : State) : Host.Outcome State Fault Refusal :=
  .next { s with dev := nonceExpiry s.dev }

/-- LOCKOUT_EXPIRY (R772): The authentication lockout counts down to zero. -/
def execLockoutExpiry (s : State) : Host.Outcome State Fault Refusal :=
  .next { s with dev := lockoutExpiry s.dev }

/-- EXTEST (R774): TAP boundary test, gated by scope and state. -/
def execExtest (s : State) : Host.Outcome State Fault Refusal :=
  .next { s with dev := tapPins 0x00 s.dev }

/-- IDCODE (R775): TAP reads the IDCODE. -/
def execIdcode (s : State) : Host.Outcome State Fault Refusal :=
  .next { s with dev := tapIdcode s.dev }

/-- SAMPLE_PRELOAD (R773): TAP samples the boundary register. -/
def execSamplePreload (sampled shifted : Nat) (s : State) : Host.Outcome State Fault Refusal :=
  .next { s with dev := tapSample sampled shifted s.dev }

/-- INTEST (R774): TAP internal test, gated. -/
def execIntest (s : State) : Host.Outcome State Fault Refusal :=
  .next { s with dev := tapPins 0x03 s.dev }

/-- EXTEST_PULSE (R774): IEEE 1149.6 pulse test, gated. -/
def execExtestPulse (s : State) : Host.Outcome State Fault Refusal :=
  .next { s with dev := tapPins 0x04 s.dev }

/-- EXTEST_TRAIN (R774): IEEE 1149.6 train test, gated. -/
def execExtestTrain (s : State) : Host.Outcome State Fault Refusal :=
  .next { s with dev := tapPins 0x05 s.dev }

/-- CLAMP (R774): TAP clamp, gated. -/
def execClamp (s : State) : Host.Outcome State Fault Refusal :=
  .next { s with dev := tapPins 0x06 s.dev }

/-- HIGHZ (R774): TAP high-impedance, gated. -/
def execHighz (s : State) : Host.Outcome State Fault Refusal :=
  .next { s with dev := tapPins 0x07 s.dev }

/-- LOCK_CHALLENGE (R768): TAP loads a new nonce. -/
def execLockChallenge (s : State) : Host.Outcome State Fault Refusal :=
  .next { s with dev := tapChallenge s.dev }

/-- LOCK_RESPONSE (R769): TAP response checked on Update-DR, opening a scope. -/
def execLockResponse (response : List Byte) (s : State) : Host.Outcome State Fault Refusal :=
  .next { s with dev := tapResponse response s.dev }

/-- LOCK_STATUS (R773): TAP reads SEC_SCOPE. -/
def execLockStatus (s : State) : Host.Outcome State Fault Refusal :=
  .next { s with dev := tapStatus s.dev }

/-- DEBUG_ACCESS (R773): TAP debug access under the DEBUG scope. -/
def execDebugAccess (s : State) : Host.Outcome State Fault Refusal :=
  .next { s with dev := tapDebug s.dev }

/-- BYPASS (R773): TAP bypass, also used for refused or undefined codes. -/
def execBypass (code : Nat) (s : State) : Host.Outcome State Fault Refusal :=
  .next { s with dev := tapBypass code s.dev }

end Sys2Proof.Machine
end

