-- ==== Sys2Proof/Machine/Registers.lean ====
section
/-!
DEFINITION. Machine/Registers.lean: the BAR0 register pages as the host reads them, and host writes of registers (R16, R31,
R51, R105, R702 to R705, R747 to R751).
-/
namespace Sys2Proof.Machine

/-! ## Reading a page -/

/-- 32-bit registers of a page at an offset. -/
def regs (l : List (Nat × Nat)) (o : Nat) : Option Nat := (l.find? (fun e => e.1 == o)).map (·.2 % 2 ^ 32)

/-- 64-bit registers of a page, by halves. -/
def regs64 (l : List (Nat × Nat)) (o : Nat) : Option Nat :=
  l.findSome? fun e => if o = e.1 then some (e.2 % 2 ^ 32) else if o = e.1 + 4 then some (e.2 / 2 ^ 32 % 2 ^ 32) else none

/-- A bank of 32-bit registers: base, stride, count. -/
def bank (base stride count : Nat) (f : Nat → Nat) (o : Nat) : Option Nat :=
  if base ≤ o ∧ (o - base) % stride = 0 ∧ (o - base) / stride < count then some (f ((o - base) / stride) % 2 ^ 32) else none

/-- A bank of 64-bit registers. -/
def bank64 (base stride count : Nat) (f : Nat → Nat) (o : Nat) : Option Nat :=
  match bank base stride count (fun k => f k % 2 ^ 32) o with
  | some v => some v
  | none => bank (base + 4) stride count (fun k => f k / 2 ^ 32) o

/-- A signed number as a register field of `n` bits. -/
def regInt (n : Nat) (v : Int) : Nat := wrapInt n v

/-- The first description that has the offset; a reserved offset reads as 0 (R3). -/
def firstReg (o : Nat) (l : List (Nat → Option Nat)) : Nat := (l.findSome? (fun f => f o)).getD 0

/-- HIF (Tables HIF-9 to HIF-12). -/
def readHif (s : Device) (o : Nat) : Nat :=
  firstReg o [
    regs [(0, 0x96800100), (8, hifStatus s), (0x10, ((List.range 32).map (fun n => flag n (ringOf s n).halted)).sum),
      (0x18, s.hif.lostCpl.toNat), (0x1C, s.hif.accErr.toNat), (0x20, s.hif.errVec),
      (0x108, s.hif.evqSize + flag 5 s.hif.evqEnable + s.hif.evqVector * 2 ^ 8 + s.hif.evqMinSev * 2 ^ 16),
      (0x10C, s.hif.evqProd), (0x110, s.hif.evqGaps.toNat)],
    regs64 [(0x100, s.hif.evqBase.toNat)],
    bank64 0x1000 0x40 32 (fun n => (ringOf s n).base.toNat),
    bank64 0x1008 0x40 32 (fun n => (ringOf s n).cpl.toNat),
    bank 0x1010 0x40 32 (fun n => let r := ringOf s n
      r.sizeLog2 + r.vector * 2 ^ 8 + flag 16 r.enable + flag 17 r.prio),
    bank 0x1014 0x40 32 (fun n => let r := ringOf s n; r.ci + flag 16 r.halted + flag 17 r.busy),
    bank 0x1018 0x40 32 (fun n => let r := ringOf s n; r.failIndex + r.failStatus * 2 ^ 16),
    bank64 0x2000 0x40 16 (fun w => (winOf s w).base.toNat),
    bank 0x2008 0x40 16 (fun w => wcfgWord (winOf s w)),
    bank 0x200C 0x40 16 (fun w => let q := winOf s w; q.next + flag 16 q.bound.isSome + flag 17 q.starved),
    bank 0x3000 4 64 (fun v => let q := vecOf s v; q.count + q.timeUs * 2 ^ 16)]

/-- CFG (Table CFG-10). -/
def readCfg (s : Device) (o : Nat) : Nat :=
  let next := (s.cfg.armed.head?.map (·.commit)).getD 0
  let mode := match s.cfg.mode with | .unconfigured => 0 | .loaded => 1 | .running => 2
  let mask := fun (i : Nat) (f : Nat → Bool) => ((List.range 32).map (fun j => flag j (f (32 * i + j)))).sum
  firstReg o [
    regs [(0, mode + s.cfg.armed.length * 2 ^ 4), (4, s.cfg.version + latestVersion s * 2 ^ 16),
      (8, next / 256 % 1000000000), (0x18, s.cfg.baseCrc.toNat), (0x1C, storeFree s),
      (0x20, s.cfg.errIndex + s.cfg.errReason * 2 ^ 16 + s.cfg.errStatus * 2 ^ 24),
      (0x24, s.cfg.vdrop.toNat), (0x28, s.cfg.lateArms.toNat), (0x2C, s.cfg.keepUs)],
    regs64 [(0x10, next / 256 / 1000000000)],
    bank 0x100 4 16 (fun i => mask i (fun n => (tfind s.cfg.overlays n).isSome)),
    bank 0x140 4 16 (fun i => mask i (fun n => s.cfg.armed.any (fun a => a.slot == n)))]

/-- DPT (Table DPT-9). -/
def readDpt (s : Device) (o : Nat) : Nat :=
  let d := s.dpt
  firstReg o [regs [
    (0, flag 0 d.run + flag 1 d.unsched + flag 2 (d.cut.any (fun c => !c.pending.isEmpty))), (4, dptSlots s), (8, d.active), (0xC, d.spare),
    (0x10, d.stale.toNat), (0x14, d.lateDrop.toNat), (0x18, d.primOvf.toNat), (0x1C, d.reissue.toNat), (0x20, d.seqGap.toNat),
    (0x24, d.disDrop.toNat), (0x28, d.waitMax), (0x2C, d.readyMax), (0x30, d.epoch.toNat), (0x34, d.tick)]]

/-- LPE (Table LPE-10). -/
def readLpe (s : Device) (o : Nat) : Nat :=
  let l := s.lpe
  firstReg o [regs [
    (0, flag 0 l.run), (4, lpeLoops s), (8, l.laneFault), (0xC, l.laneEn), (0x10, l.satCnt.toNat), (0x14, l.bumpLim.toNat),
    (0x18, l.staleOpen.toNat), (0x1C, l.laneErr.toNat), (0x20, l.fmtOvf.toNat), (0x24, l.orderDrift.toNat)]]

/-- PGM (Table PGM-11). -/
def readPgm (s : Device) (o : Nat) : Nat :=
  let p := s.pgm
  firstReg o [
    regs [(0, flag 0 p.run), (4, ((List.range 8).map (fun c => physCore s c * 2 ^ (4 * c))).sum), (8, p.spare),
      (0x10, p.overrun.toNat), (0x14, p.faults.toNat), (0x18, p.undelivered.toNat), (0x1C, p.coreErr.toNat),
      (0x20, p.rollback.toNat), (0x24, p.secCorr.toNat)],
    bank 0x100 8 256 (fun n => let g := progOf s n
      pgmCode g.mode + g.kind * 2 ^ 4 + flag 6 g.hostReload + g.cause * 2 ^ 8),
    bank 0x104 8 256 (fun n => let g := progOf s n; g.lastUs + g.maxUs * 2 ^ 16)]

/-- FBL (Table PGM-11). -/
def readFbl (s : Device) (o : Nat) : Nat :=
  let f := s.fbl
  firstReg o [
    regs [(0, flag 0 (!f.image.isEmpty) + flag 1 f.control + f.takeCause * 2 ^ 2), (4, f.id), (8, f.scans.toNat),
      (0xC, f.maxScan), (0x10, f.takes.toNat), (0x14, f.errIndex + f.errReason * 2 ^ 16)],
    bank 0x20 4 2 (fun w => f.outs / 2 ^ (32 * w)),
    bank 0x30 4 8 (fun w => f.flags / 2 ^ (32 * w))]

/-- MOT (Table MOT-9). -/
def readMot (s : Device) (o : Nat) : Nat :=
  let m := s.mot
  firstReg o [
    regs [(0, flag 0 m.run), (0x10, m.estops.toNat), (0x14, m.clamps.toNat), (0x18, m.limIgn.toNat), (0x1C, m.limChat.toNat),
      (0x20, m.replans.toNat), (0x24, m.follow.toNat)],
    bank 0x100 4 64 (axStat s), bank 0x200 4 64 (fun a => regInt 32 (axisOf s a).q)]

/-- CCR (Table MOT-9). -/
def readCcr (s : Device) (o : Nat) : Nat :=
  firstReg o [
    regs [(0, s.ccr.oe), (0x10, s.ccr.spLoss.toNat), (0x14, s.ccr.ovc.toNat)],
    bank 0x100 4 16 (ccrStat s), bank 0x200 4 16 (fun m => regInt 32 ((driveOf s m).pos / 256)),
    bank 0x300 4 16 (fun m => (driveOf s m).load + (driveOf s m).low * 2 ^ 16),
    bank 0x400 4 16 (fun m => regInt 16 (driveOf s m).imA + regInt 16 (driveOf s m).imB * 2 ^ 16),
    bank 0x500 4 16 (fun m => (driveOf s m).modeSw.toNat)]

/-- ADC (Table ADC-11). -/
def readAdc (s : Device) (o : Nat) : Nat :=
  let a := s.adc
  firstReg o [
    regs [(0, flag 0 ((List.range 32).any (convEnabled s)) + flag 1 ((List.range 32).any (fun c => (convOf s c).cal.isSome))),
      (0x10, a.aborts.toNat), (0x14, a.urgents.toNat), (0x18, a.urgOvf.toNat), (0x1C, a.slip.toNat), (0x20, a.clips.toNat),
      (0x24, a.lost.toNat)],
    bank 0x100 4 32 (adcConvReg s), bank 0x200 4 256 (fun n => (chanOf s n).range),
    bank 0x1000 0x10 32 (fun c => (abufOf s c).wr), bank 0x1004 0x10 32 (fun c => (abufOf s c).rd),
    bank 0x1008 0x10 32 (fun c => (abufOf s c).lost.toNat), bank 0x100C 0x10 32 (adcBsize s)]

/-- DAC (Table DIO-6). -/
def readDac (s : Device) (o : Nat) : Nat :=
  firstReg o [
    regs [(0, s.dac.oe), (0x10, s.dac.orderDrop.toNat), (0x14, s.dac.supersede.toNat)],
    bank 0x100 4 32 (fun n => regInt 32 (dacOf s n).code)]

/-- DIO (Table DIO-6). -/
def readDio (s : Device) (o : Nat) : Nat :=
  firstReg o [
    bank 0 4 3 (fun w => pinWord w (pinLevel s)), bank 0x20 4 3 (fun w => s.dio.oe / 2 ^ (32 * w)),
    regs [(0x30, s.dio.pwmSupersede.toNat)], bank 0x100 4 96 (fun n => (pinOf s n).chat.toNat),
    bank 0x400 8 16 (fun p => (pulseOf s p).count.toNat), bank 0x404 8 16 (fun p => flag 0 (pulseOf s p).overspeed),
    bank 0x500 0x10 8 (fun q => regInt 32 (portOf s q).pos), bank 0x504 0x10 8 (fun q => (portOf s q).err.toNat),
    bank 0x508 0x10 8 (fun q => regInt 32 (portOf s q).zlat), bank 0x600 4 4 (fun u => (uartOf s u).lost.toNat)]

/-- Code of a working-time state (Table TIM-8). -/
def timeCode : TimeMode → Nat
  | .unset => 0 | .free => 1 | .holdover => 2 | .tracking => 3 | .locked => 4

/-- TIM (Table TIM-8). -/
def readTim (s : Device) (o : Nat) : Nat :=
  let t := s.tim
  firstReg o [
    regs [(0, t.copyErr.toNat), (4, t.txDrop.toNat), (8, t.trigDrop.toNat),
      (0x8000, timeCode t.mode + flag 3 t.far + t.sel * 2 ^ 4), (0x8010, t.nowf), (0x8014, regInt 32 t.rate),
      (0x8018, regInt 32 t.rateFf),
      (0x8028, regInt 16 t.utc + flag 16 t.leap61 + flag 17 t.leap59 + flag 18 t.utcValid), (0x8038, t.steps.toNat)],
    regs64 [(0x8008, domeNs s), (0x8020, if t.mode == .unset then 0 else t.stepNs), (0x8030, t.ppsIn)],
    bank 0x100 0x40 2 (fun d => domState s d + flag 2 (fld 1 1 (domRec s d) == 1) + flag 3 (t.sel == d)),
    bank64 0x108 0x40 2 (fun d => regInt 64 (domOf s d).o), bank 0x110 0x40 2 (fun d => regInt 32 (domOf s d).ff),
    bank 0x114 0x40 2 (fun d => (domOf s d).mpd), bank64 0x118 0x40 2 (fun d => (domOf s d).gmid.toNat),
    bank 0x200 4 64 (fun e => let b := recNow s 0x0B 2 e
      let on_ := bit 0 (fld 0 1 b)
      flag 0 on_ + flag 1 (on_ && (nextFiring b (trigFrom s e)).isNone)),
    bank 0x300 4 64 (fun e => (trigOf s e).count.toNat)]

/-- ETH (Table ETH-8). -/
def readEth (s : Device) (o : Nat) : Nat :=
  let e := s.eth
  let port := fun (off : Nat) (f : EthPort → Nat) => bank (0x100 + off) 0x20 8 (fun p => f (eportOf s p))
  firstReg o [
    regs [(0, flag 0 e.run + flag 1 s.pai.standby), (4, e.portEn), (0x10, e.miss.toNat), (0x14, e.bad.toNat),
      (0x18, e.late.toNat), (0x1C, e.slip.toNat), (0x20, e.orderDrop.toNat), (0x24, e.supersede.toNat),
      (0x28, e.delayDev.toNat), (0x2C, e.losses.toNat)],
    port 0 (fun p => flag 0 p.link + p.speed * 2), port 4 (·.txFr.toNat), port 8 (·.rxFr.toNat), port 0xC (·.rxErr.toNat),
    port 0x10 (·.rxDrop.toNat), port 0x14 (·.late.toNat), port 0x18 (·.gateDrop.toNat), port 0x1C (·.prpDup.toNat),
    bank 0x400 4 128 (fun n => let q := stnOf s n
      stnCode q.mode + flag 2 (stnPrp (stnRec s n)) + flag 3 q.lanB + q.missRun * 2 ^ 4 + q.cause * 2 ^ 8),
    bank 0x600 4 128 (fun n => regInt 32 (stnD (stnOf s n) 0))]

/-- CAN (Table CAN-6). -/
def readCan (s : Device) (o : Nat) : Nat :=
  let ctl := fun (off : Nat) (f : CanCtl → Nat) => bank (0x100 + off) 0x40 8 (fun n => f (ctlOf s n))
  firstReg o [
    regs [(0, s.can.en)], ctl 0 (fun c => canCode c.mode + c.rec_ * 2 ^ 8 + c.tec * 2 ^ 16), ctl 4 (·.txFr.toNat),
    ctl 8 (·.rxFr.toNat), ctl 0xC (·.errFr.toNat), ctl 0x10 (·.noMatch.toNat), ctl 0x14 (·.rxDrop.toNat),
    ctl 0x18 (·.short.toNat), ctl 0x1C (·.late.toNat), ctl 0x20 (·.alone.toNat), ctl 0x24 (·.coll.toNat), ctl 0x28 (·.ackRun),
    ctl 0x2C (·.tdc), bank64 0x130 0x40 8 (fun n => (ctlOf s n).ttRef / 256),
    ctl 0x38 (fun c => c.ttCount + flag 8 c.synced)]

/-- Code of a consumer state (Table SAF-10). -/
def consCode : ConsMode → Nat
  | .off => 0 | .dual => 1 | .single => 2 | .fault => 3

/-- SAF (Table SAF-10). -/
def readSaf (s : Device) (o : Nat) : Nat :=
  let f := s.saf
  let v := f.view
  let c := if f.mode == .init then [] else f.cfg
  let degraded := f.mode == .degradedA || f.mode == .degradedB
  firstReg o [
    regs [(0, safCode f.mode + flag 3 f.pend.isSome + flag 4 s.pai.standby), (4, fld 12 4 c), (8, fld 16 4 c),
      (0xC, fld 20 4 c), (0x10, (f.pend.map (fun p => fld 12 4 p.1)).getD 0), (0x14, v.permit), (0x18, v.disc),
      (0x1C, v.inA), (0x20, v.inB), (0x24, v.energised + v.req * 2 ^ 8 + v.fault * 2 ^ 16),
      (0x28, v.fb), (0x2C, if degraded then secondsTo s f.degUntil % 4096 else 0), (0x30, f.cause + f.attr * 2 ^ 4),
      (0x34, f.errRecord + f.errReason * 2 ^ 8), (0x38, f.pcrcA), (0x3C, f.pcrcB), (0x40, f.demands.toNat),
      (0x44, f.discCnt.toNat), (0x48, f.outFlt.toNat), (0x4C, f.sfBad.toNat), (0x50, f.sfMismatch.toNat),
      (0x54, f.sfTimeout.toNat)],
    bank 0x100 4 16 (fun k => let q := consOf s k
      let on_ := q.mode != .off
      consCode q.mode + flag 2 (on_ && !lanSilent s k false) + flag 3 (on_ && !lanSilent s k true)),
    bank 0x140 4 16 (fun k => (consOf s k).shown)]

/-- Bytes of the journal over the last second (KEP_RATE). -/
def journalRate (s : Device) : Nat :=
  let sec := nowD s / secT 1
  if sec = s.kep.rateSec then s.kep.rate.1 else if sec = s.kep.rateSec + 1 then s.kep.rate.2 else 0

/-- KEP (Table KEP-10). -/
def readKep (s : Device) (o : Nat) : Nat :=
  let k := s.kep
  firstReg o [
    regs [(0, flag 0 k.journalOn + flag 1 k.cut.isSome + flag 2 (k.cut.any (·.full)) + flag 3 ((kepSlot s 0).state == 2) +
        flag 4 ((kepSlot s 1).state == 2) + flag 5 k.restoring),
      (0x28, k.recBytes), (0x2C, sat 16 (journalRate s / 1000000)), (0x30, k.stretches.toNat), (0x34, k.stretchMax),
      (0x38, k.discards.toNat), (0x48, k.gap), (0x4C, if s.cfg.mode == .unconfigured then 0 else imageSize s), (0x50, k.kind + k.cause * 2 ^ 4 + k.restoreUs * 2 ^ 16),
      (0x54, k.restarts.toNat)],
    regs64 [(8, k.epoch), (0x10, k.te / 256), (0x18, (kepSlot s 0).epoch), (0x20, (kepSlot s 1).epoch), (0x40, k.hotWrites)]]

/-- PAI (Table PAI-8). -/
def readPai (s : Device) (o : Nat) : Nat :=
  let p := s.pai
  let seen := p.peer.any fun b => s.tim.ck ≤ b.ck + 1000000
  firstReg o [
    regs [(0, paiCode p.mode + flag 3 (pairUnit s == 1) + p.peerState * 2 ^ 4 + flag 7 seen + p.lanes * 2 ^ 8 + flag 10 p.pact +
        flag 11 p.fenced + flag 12 p.fence),
      (4, p.check), (0x10, p.backlog), (0x14, p.hbMiss.toNat), (0x18, p.retx.toNat), (0x1C, p.resyncs.toNat),
      (0x20, p.takeovers.toNat), (0x24, p.lastTk)],
    regs64 [(8, if p.standby then appliedBoth s else p.shipEpoch)]]

/-- LTN (Tables LTN-7 and EVR-6). -/
def readLtn (s : Device) (o : Nat) : Nat :=
  let l := s.ltn
  firstReg o [
    regs [(0, ltnStatus s), (0x18, l.ringMib), (0x1C, ltnLoadReg s), (0x20, l.lost.toNat), (0x24, l.gaps.toNat)],
    regs64 [(8, l.wr), (0x10, l.rd), (0x28, l.records.toNat), (0x4100, trActive s)],
    bank 0x4000 4 64 (trStat s), bank 0x8000 4 4096 (ltnChStat s)]

/-- EVR (Table EVR-7). -/
def readEvr (s : Device) (o : Nat) : Nat :=
  let e := s.evr
  firstReg o [
    regs [(0, evrStatus s), (4, e.seq.toNat), (8, evSlots s), (0xC, e.lastGasp.length), (0x10, e.lost.toNat),
      (0x14, e.xlost.toNat), (0x18, e.suppr.toNat), (0x1C, e.crcBad.toNat), (0x20, e.remaps.toNat), (0x24, e.retired.toNat)],
    bank 0x40 4 8 (fun k => (tget e.drops k 0).toNat)]

/-- BTR (Table BTR-3). -/
def readBtr (s : Device) (o : Nat) : Nat :=
  let b := s.btr
  firstReg o [
    regs [(0x8000, flag 0 b.linkUp + flag 1 b.retraining + flag 2 b.spireUp + flag 3 b.spireHeld + flag 4 b.sideband),
      (0x8004, (btrDir s 0).lanes + (btrDir s 1).lanes * 2 ^ 8), (0x8010, b.replays.toNat), (0x8014, b.retrains.toNat),
      (0x8018, b.downs.toNat), (0x801C, b.rdAbort.toNat), (0x8020, b.fatal + b.quick * 2 ^ 8)],
    bank 0x8040 4 3 (fun k => (tget b.xdrop k 0).toNat)]

/-- MEM (Table BTR-3). -/
def readMem (s : Device) (o : Nat) : Nat :=
  let m := s.mem
  firstReg o [
    regs [(0, flag 0 m.selfRefresh + flag 1 m.scrubbing), (0x10, m.ce.toNat), (0x14, m.ue.toNat), (0x18, m.scrubPass.toNat)],
    regs64 [(0x20, m.ueAddr.toNat)]]

/-- SPR (Table SPR-10). -/
def readSpr (s : Device) (o : Nat) : Nat :=
  firstReg o [
    regs [(0, sprStatus s), (4, s.spr.auto), (0x10, s.spr.swaps.toNat), (0x14, s.spr.refused.toNat),
      (0x18, s.spr.deferredCnt.toNat), (0x1C, s.spr.retired.length), (0x20, sprPool0 s), (0x24, sprPool1 s), (0x28, sprLife s)],
    bank 0x40 4 4 (sprAct s), bank 0x100 4 18 (sprUnit s 0), bank 0x200 4 9 (sprUnit s 1), bank 0x300 4 34 (sprUnit s 2),
    bank 0x400 4 10 (sprUnit s 3)]

/-- PMC (Table PMC-6). -/
def readPmc (s : Device) (o : Nat) : Nat :=
  let p := s.pmc
  firstReg o [
    regs [(0, pmcStatus s), (8, p.snapSeq.toNat), (0x1C, p.gen), (0x20, p.period), (0x24, p.mask), (0x28, p.dumpSeq.toNat),
      (0x2C, p.dumpLost.toNat), (0x30, p.dumpSkip.toNat), (0x34, p.hazWr.toNat), (0x38, p.hazLast), (0x50, p.hEvrSeq)],
    regs64 [(0x10, p.snapT), (0x40, p.hLtnWr), (0x48, p.hLtnRd), (0x58, p.hKepEp)],
    bank 0x100 4 32 (fun c => tget p.hAdcWr c 0), bank 0x1000 4 640 (pmcSel s), bank64 0x2000 8 640 (pmcCount s),
    bank64 0x4000 8 640 (fun n => tget p.hold n 0)]

/-- SEC (Table SEC-10). -/
def readSec (s : Device) (o : Nat) : Nat :=
  let svn := fun (k : Nat) => tget s.sec.otp.svn k 0
  firstReg o [
    regs [(0, secScope s), (4, s.sec.fails), (8, lockLeft s),
      (0x30, ([1, 2, 3].map (fun k => let u := bootUse s k
        u.slot * 2 ^ (2 * k - 2) + flag (5 + k) u.trial + flag (8 + k) u.fallback)).sum),
      (0x34, svn 0 + svn 1 * 2 ^ 8 + svn 2 * 2 ^ 16 + svn 3 * 2 ^ 24), (0x38, svn 4), (0x3C, s.sec.otp.revoked)],
    bank 0x10 4 4 (fun k => ((tfind s.sec.scopes k).map (secondsTo s)).getD 0),
    bank 0x20 4 4 (fun i => fld (4 * i) 4 deviceId),
    bank 0x40 4 24 (fun i => fld (4 * (i % 8)) 4 (measurement s (i / 8 + 1)))]

/-- CTRL_N is asserted (R781, R794). -/
def ctrlN (s : Device) : Bool := ballsLive s && (s.pai.mode == .active || s.pai.mode == .off) && s.cfg.mode == .running && !s.fbl.control

/-- FAULT_N is asserted (R781, R794). -/
def faultN (s : Device) : Bool := ballsLive s && (s.saf.mode == .safeFault || s.btr.spireHeld)

/-- CLK (Table CLK-9). -/
def readClk (s : Device) (o : Nat) : Nat :=
  let c := s.clk
  firstReg o [regs [
    (0, flag 0 c.refOk + flag 1 c.domePlls + flag 2 c.spirePlls + flag 3 (c.warm != 0) + flag 4 c.pwrfail),
    (4, c.rails), (8, c.railEvt), (0x10, regInt 16 c.tempS + regInt 16 c.tempD * 2 ^ 16),
    (0x14, regInt 16 c.maxS + regInt 16 c.maxD * 2 ^ 16), (0x18, c.warn + c.hyst * 2 ^ 8), (0x20, c.cause),
    (0x24, c.pwrfails.toNat), (0x28, c.refFaults.toNat), (0x30, flag 0 c.forceLow),
    (0x38, flag 0 (ctrlN s) + flag 1 (faultN s))]]

/-- TST (Table TST-1). -/
def readTst (s : Device) (o : Nat) : Nat :=
  firstReg o [regs [(0, idcodeValue), (4, s.tst.ir + flag 8 (tapBypassed s)), (8, s.tst.refused.toNat), (0xC, 648)]]

/-- A BAR0 offset whose register is on the Spire die (R31, Table PMC-7). -/
def spirePage (off : Nat) : Bool :=
  let page := off / 65536
  if page = 0x0B ∨ page = 0x13 then off % 65536 < 0x8000
  else [0x00, 0x01, 0x02, 0x03, 0x04, 0x06, 0x0C, 0x11, 0x14, 0x15, 0x16, 0x17].contains page

/-- The 32-bit register at a BAR0 offset, as a read returns it (R30, R51, R702, R705, R747). While the Spire die is down the
HIF page reads as after reset, and every other Spire page as 0. -/
def readReg (off : Nat) (s : Device) : Nat :=
  let o := off % 65536 / 4 * 4
  if spirePage off && !s.btr.spireUp then (if off < 65536 then readHif Device.reset o else 0)
  else match off / 65536 with
    | 0x00 => readHif s o
    | 0x01 => readCfg s o
    | 0x02 => readDpt s o
    | 0x03 => readLpe s o
    | 0x04 => readPgm s o
    | 0x05 => readFbl s o
    | 0x06 => readMot s o
    | 0x07 => readCcr s o
    | 0x08 => readAdc s o
    | 0x09 => readDac s o
    | 0x0A => readDio s o
    | 0x0B => readTim s o
    | 0x0C => readEth s o
    | 0x0D => readCan s o
    | 0x0E => readSaf s o
    | 0x0F => readKep s o
    | 0x10 => readPai s o
    | 0x11 => readLtn s o
    | 0x12 => readEvr s o
    | 0x13 => readBtr s o
    | 0x14 => readMem s o
    | 0x15 => readSpr s o
    | 0x16 => readPmc s o
    | 0x17 => readSec s o
    | 0x18 => readClk s o
    | 0x19 => readTst s o
    | _ => 0

/-! ## Writing -/

/-- One half of a 64-bit base register whose bits [11:0] read as 0. -/
def baseHalf (old : DWord) (off v : Nat) : DWord :=
  BitVec.ofNat 64 ((merge64 old off 4 (BitVec.ofNat 64 v)).toNat / 4096 * 4096)

/-- A 32-bit write to a ring's registers (Tables HIF-9 and HIF-10, R74 to R76). HIF_QRESUMEn.MODE 2 has a row of its own. -/
def ringRegWrite (n o v : Nat) (s : Device) : Device :=
  let r := ringOf s n
  if o < 0x10 then
    if r.enable then cfgErr s
    else if o < 8 then modRing n (fun r => { r with base := baseHalf r.base o v }) s
    else modRing n (fun r => { r with cpl := baseHalf r.cpl o v }) s
  else if o = 0x10 then qcfgWrite n v s
  else if o = 0x1C ∧ v % 4 = 1 then qresume n false [] s
  else s

/-- A 32-bit write to the HIF page (Table HIF-9). -/
def hifWrite (o v : Nat) (s : Device) : Device :=
  if o = 0x20 then { s with hif.errVec := v % 64 }
  else if o = 0x100 ∨ o = 0x104 then
    if s.hif.evqEnable then cfgErr s else { s with hif.evqBase := baseHalf s.hif.evqBase o v }
  else if o = 0x108 then evqCfgWrite v s
  else if 0x1000 ≤ o ∧ o < 0x1800 then ringRegWrite ((o - 0x1000) / 0x40) (o % 0x40) v s
  else if 0x3000 ≤ o ∧ o < 0x3100 then modVec ((o - 0x3000) / 4) (fun q => { q with count := v % 256, timeUs := v / 65536 }) s
  else s

/-- A 32-bit write to a register of any page but HIF; a read-only or reserved register ignores it (R3, R51, R750, R751). -/
def pageWrite (off v : Nat) (s : Device) : Device :=
  let b : BusWrite := ⟨0, 4, BitVec.ofNat 64 v⟩
  if off = 0x3000C then laneEnWrite b s
  else if off = 0x70000 then ccrOeWrite v s
  else if 0x80200 ≤ off ∧ off < 0x80600 then rangeWrite ((off - 0x80200) / 4) v s
  else if off = 0x90000 then dacOeWrite v s
  else if 0xA0020 ≤ off ∧ off < 0xA002C then dioOeWrite ((off - 0xA0020) / 4) v s
  else if 0xA0400 ≤ off ∧ off < 0xA0480 ∧ off % 8 = 4 then pstatClear ((off - 0xA0400) / 8) v s
  else if off = 0xC0004 then portEnWrite v s
  else if off = 0xD0000 then canEnWrite v s
  else if off = 0x150004 then { s with spr.auto := v % 64 }
  else if off = 0x160004 then pmcSnapWrite v s
  else if off = 0x160020 then dumpCfgWrite v s
  else if off = 0x160024 then dumpMaskWrite v s
  else if 0x161000 ≤ off ∧ off < 0x161A00 then pmcSelWrite ((off - 0x161000) / 4) v s
  else if off = 0x180008 then railEvtClear b s
  else if off = 0x180018 then { s with clk.warn := v % 256, clk.hyst := v / 256 % 256 }
  else if off = 0x180030 then clkForce b s
  else s

/-- A 32-bit write at a BAR0 offset: one to a Spire page while that die is down is ignored and counted (R705). -/
def writeWord (off v : Nat) (s : Device) : Device :=
  if spirePage off && !s.btr.spireUp then accError s
  else if off < 65536 then hifWrite off v s else pageWrite off v s

/-- A write to the MSI-X table of BAR4, 16 bytes for each vector: message address, data, and vector control with its mask
bit. PRESUMED: the entry is the one of PCI Express (log 4). -/
def msixWrite (o v : Nat) (s : Device) : Device :=
  let n := o / 16
  if 1024 ≤ o then s
  else match o % 16 with
    | 0 | 4 => modVec n (fun q => { q with addr := merge64 q.addr o 4 (BitVec.ofNat 64 v) }) s
    | 8 => modVec n (fun q => { q with data := BitVec.ofNat 32 v }) s
    | 12 => if bit 0 v then modVec n (fun q => { q with masked := true }) s else msixUnmask n s
    | _ => s

/-- An aligned 32-bit or 64-bit write to the MSI-X table. -/
def tableWrite (b : BusWrite) (s : Device) : Device :=
  let v := b.value.toNat
  if !(b.width = 4 || b.width = 8) || b.off % b.width != 0 then s
  else if b.width = 4 then msixWrite b.off (v % 2 ^ 32) s
  else msixWrite (b.off + 4) (v / 2 ^ 32) (msixWrite b.off (v % 2 ^ 32) s)

/-- A write to the configuration space: Device Control holds Max_Payload_Size in [7:5] and Max_Read_Request_Size in [14:12],
of which the codes up to 2 (512 bytes) are accepted, and Device Control 2 the completion time-out in [3:0] (R48). PRESUMED: the
places are those of PCI Express, with its capability at 0x40 (log 76). -/
def configWrite (b : BusWrite) (s : Device) : Device :=
  let v := b.value.toNat
  if b.off = 0x48 then { s with
    hif.maxPayload := if bits 7 5 v ≤ 2 then bits 7 5 v else s.hif.maxPayload
    hif.maxRead := if bits 14 12 v ≤ 2 then bits 14 12 v else s.hif.maxRead }
  else if b.off = 0x68 then { s with hif.cplTimeout := bits 3 0 v }
  else s

/-- A write to BAR2 that no doorbell row has: one to a reserved offset is ignored and counted (R52). -/
def doorbellSpaceWrite (b : BusWrite) (s : Device) : Device :=
  if b.off < 0x100 then ringDoorbell (b.off / 8) { b with off := b.off % 8 } s
  else if 0x100 ≤ b.off ∧ b.off < 0x108 then eventRingDoorbell { b with off := b.off - 0x100 } s
  else if 0x200 ≤ b.off ∧ b.off < 0x280 then windowDoorbell ((b.off - 0x200) / 8) { b with off := b.off % 8 } [] s
  else accError s

/-- REGISTER_WRITE (R16, R51): an aligned 32-bit or 64-bit write to BAR0; any other is ignored and counted. A 64-bit write
reaches both words of its offset. -/
def registerWrite (b : BusWrite) (s : Device) : Device :=
  let v := b.value.toNat
  if !(b.width = 4 || b.width = 8) || b.off % b.width != 0 then accError s
  else if 0x2000 ≤ b.off ∧ b.off < 0x2400 then windowConfigWrite ((b.off - 0x2000) / 0x40) { b with off := b.off % 0x40 } s
  else if b.width = 4 then writeWord b.off (v % 2 ^ 32) s
  else writeWord (b.off + 4) (v / 2 ^ 32) (writeWord b.off (v % 2 ^ 32) s)

/-- A host write by where it goes (R48, R50 to R52). -/
def hostWrite (sp : HostSpace) (b : BusWrite) (s : Device) : Device :=
  match sp with
  | .bar0 => registerWrite b s
  | .bar2 => doorbellSpaceWrite b s
  | .bar4 => tableWrite b s
  | .config => configWrite b s

/-- The word of BAR4 at an offset: the MSI-X table and, from 0x800, the pending-bit array (R50, R95). PRESUMED: the entry is
the one of PCI Express (log 4). -/
def readTable (s : Device) (o : Nat) : Nat :=
  let q := vecOf s (o / 16)
  if o < 1024 then
    match o % 16 / 4 with
    | 0 => q.addr.toNat % 2 ^ 32
    | 1 => q.addr.toNat / 2 ^ 32
    | 2 => q.data.toNat
    | _ => flag 0 q.masked
  else if o = 0x800 ∨ o = 0x804 then ((List.range 32).map fun j => flag j (vecOf s (8 * (o - 0x800) + j)).pba).sum
  else 0

/-- The word of the configuration space at an offset: identity, Device Control, Device Control 2 and Device Serial Number
(R48). PRESUMED: the places are those of PCI Express (log 76). -/
def readConfig (s : Device) (o : Nat) : Nat :=
  firstReg o [regs [(0, 0x96801F4A), (8, 0x11800000), (0x2C, Config.subsystemIds.toNat),
    (0x48, s.hif.maxPayload * 2 ^ 5 + s.hif.maxRead * 2 ^ 12), (0x68, s.hif.cplTimeout),
    (0x104, fld 0 4 deviceId), (0x108, fld 4 4 deviceId)]]

/-- What a host read of `width` bytes at an offset returns: the addressed bytes of the words there; every BAR2 read returns
0 (R50 to R52). -/
def hostRead (sp : HostSpace) (off width : Nat) (s : Device) : Nat :=
  let word := fun (o : Nat) => match sp with
    | .bar0 => readReg o s
    | .bar2 => 0
    | .bar4 => readTable s o
    | .config => readConfig s o
  let o := off / 4 * 4
  (word o + word (o + 4) * 2 ^ 32) / 2 ^ (8 * (off - o)) % 2 ^ (8 * width)

/-- RING_ENABLE and RING_DISABLE (R75, R76): a write to HIF_QCFGn that sets or clears ENABLE. -/
def ringEnable (n v : Nat) (on_ : Bool) (s : Device) : Device :=
  if 32 ≤ n then s else writeWord (0x1010 + 0x40 * n) (putBit 16 on_ (v % 2 ^ 32)) s

/-- EVENT_RING_ENABLE and EVENT_RING_DISABLE (R77, R82): a write to HIF_EVQ_CFG that sets or clears ENABLE. -/
def eventRingEnable (v : Nat) (on_ : Bool) (s : Device) : Device := writeWord 0x108 (putBit 5 on_ (v % 2 ^ 32)) s

/-! ## The rows of the table of operations -/

/-- RING_ENABLE (R75): Setting ENABLE of a ring resets CI, PI and phase and clears HALTED. -/
def execRingEnable (n v : Nat) (s : State) : Host.Outcome State Fault Refusal :=
  .next { s with dev := Sys2Proof.Machine.ringEnable n v true s.dev }

/-- RING_DISABLE (R75): Clearing ENABLE of a ring lets the executing descriptor complete and drops pending
descriptors without completion. -/
def execRingDisable (n v : Nat) (s : State) : Host.Outcome State Fault Refusal :=
  .next { s with dev := Sys2Proof.Machine.ringEnable n v false s.dev }

/-- EVENT_RING_ENABLE (R77): Setting ENABLE of the event ring resets its indices and phase, and may deliver
EVENT_RING_GAP first. -/
def execEventRingEnable (v : Nat) (s : State) : Host.Outcome State Fault Refusal :=
  .next { s with dev := Sys2Proof.Machine.eventRingEnable v true s.dev }

/-- EVENT_RING_DISABLE (R77): Clearing ENABLE of the event ring discards the held records. -/
def execEventRingDisable (v : Nat) (s : State) : Host.Outcome State Fault Refusal :=
  .next { s with dev := Sys2Proof.Machine.eventRingEnable v false s.dev }

/-- REGISTER_WRITE (R16): A host write to a register that has no row of its own takes effect at once, and narrow
writes are ignored and counted. -/
def execRegisterWrite (sp : HostSpace) (b : BusWrite) (s : State) : Host.Outcome State Fault Refusal :=
  .next { s with dev := hostWrite sp b s.dev }

/-- ETH_PORT_EN_WRITE (R471): A write to ETH_PORT_EN takes links down or lets them train. -/
def execEthPortEnWrite (v : Nat) (s : State) : Host.Outcome State Fault Refusal :=
  .next { s with dev := spireWrite (portEnWrite v) s.dev }

end Sys2Proof.Machine
end

