-- ==== Sys2Proof/Machine/Command.lean ====
section
/-!
DEFINITION. Machine/Command.lean: the opcodes, the choice of the ring that is served, and the execution of a
fetched descriptor (02_host_rings_windows).
-/
namespace Sys2Proof.Machine

/-- NOP (R102): TARGET 0, nothing done. -/
def nopBody (p : Pend) (s : Device) : CmdEnd :=
  checked [.bad { target := false } []] (fun _ s => okWith 0 s) p s

/-- The commands of a block by function code (R11, R102 and the command table of each block's chapter). `got` is what the
slots of a ring being resumed hold; `bad` names the event log slots found unreadable, or the Keep sectors whose writes fail their
verify. -/
def commandsOf (got : List SlotRead) (bad : List Nat) (block : Nat) : List (Nat × (Pend → Device → CmdEnd)) :=
  match block with
  | 0x00 => [(0x00, nopBody), (0x01, ringResume got), (0x02, windowBind), (0x03, windowRelease)]
  | 0x01 => [(0x01, loadBase bad), (0x02, cfgRun), (0x03, cfgStop), (0x04, overlayLoad bad), (0x05, overlayArm),
      (0x06, overlayDisarm), (0x07, overlayDelete bad), (0x08, readRecord)]
  | 0x02 => [(0x01, readTask), (0x02, dptClear), (0x03, checkLoad)]
  | 0x03 => [(0x01, setMode), (0x02, setCoef), (0x03, setLimit), (0x04, setSp), (0x05, setOutput),
      (0x06, readLoop), (0x07, lpeClear)]
  | 0x04 => [(0x01, pgmLoad bad), (0x02, pgmExchange bad), (0x03, pgmRestart), (0x04, readInstance), (0x05, pgmClear)]
  | 0x05 => [(0x01, fblLoad bad), (0x02, fblRead)]
  | 0x06 => [(0x01, motMove), (0x02, motStop), (0x03, motHome), (0x04, motSetPos), (0x05, readAxis),
      (0x06, motClear)]
  | 0x07 => [(0x01, clearFault)]
  | 0x08 => [(0x01, adcUrgent), (0x02, adcCalibrate), (0x03, readCal), (0x04, adcClear)]
  | 0x09 => [(0x01, dacSet)]
  | 0x0A => [(0x01, dioSet), (0x02, posPreset), (0x03, dioClear)]
  | 0x0B => [(0x01, setTimeCmd), (0x02, timSelect), (0x03, timRestep), (0x04, setUtc), (0x05, readDomain),
      (0x06, timClear)]
  | 0x0C => [(0x01, readStation), (0x02, reparam), (0x03, cbReset), (0x04, ethClear)]
  | 0x0D => [(0x01, canTxSet), (0x02, canTxAbort), (0x03, canRecover), (0x04, canSetMode), (0x05, canClear)]
  | 0x0E => [(0x01, safLoad bad), (0x02, safConfirm bad), (0x03, setRequest), (0x04, faultReset), (0x05, safClear)]
  | 0x0F => [(0x01, kepRestart), (0x02, kepReadImage), (0x03, kepClear)]
  | 0x10 => [(0x01, paiJoin), (0x02, paiSwitch), (0x03, paiLeave), (0x04, paiReadPeer), (0x05, paiClear)]
  | 0x11 => [(0x01, ltnRead), (0x02, ltnClear), (0x20, traceSet), (0x21, traceArm), (0x22, traceForce),
      (0x23, traceStopCmd), (0x24, traceRead)]
  | 0x12 => [(0x01, evrExport bad), (0x02, readLastGasp), (0x03, clearLastGasp), (0x04, evrClear)]
  | 0x15 => [(0x01, reserveSwap), (0x02, keepScrub), (0x03, dramRepair), (0x04, sprClear)]
  | 0x17 => [(0x01, secChallenge), (0x02, secOpen), (0x03, secOpenPw), (0x04, secClose), (0x05, secQuote),
      (0x06, secReadIdentity), (0x07, fwStage), (0x08, svnCommit), (0x09, secProvision)]
  | _ => []

/-- An opcode that no chapter defines completes with UNSUPPORTED: those of the unassigned block IDs (R30) and of
PMC (R745), CLK and TST (R801); the same for an undefined code of a block that has commands (R17, DEDUCED, log 48). No other
field of the descriptor is looked at: a reserved field that is not zero does not turn UNSUPPORTED into BAD_FIELD (DESIGN
CHOICE, log 48). -/
def unsupportedBody (_p : Pend) (s : Device) : CmdEnd := .fail .unsupported 0 s

/-- The work of an opcode. Bits [15:13] are zero in every opcode (R11), so one with another value there names no command
and completes with UNSUPPORTED (DESIGN CHOICE, log 48). -/
def commandBody (got : List SlotRead) (bad : List Nat) (opcode : Nat) : Pend → Device → CmdEnd :=
  ((commandsOf got bad (opcode / 256)).lookup (opcode % 256)).getD unsupportedBody

/-- UNSUPPORTED_OPCODE (R30, R745, R801): a descriptor whose opcode names no command. -/
def unsupportedOpcode (d : Desc) (s : Device) : Device :=
  if ((commandsOf [] [] (d.opcode.toNat / 256)).lookup (d.opcode.toNat % 256)).isNone then runCmd unsupportedBody d s else s

/-- A ring of a priority class whose next descriptor may start (R64, R67, R71). -/
def ringReady (s : Device) (prio : Bool) (n : Nat) : Bool :=
  let r := ringOf s n
  r.enable && r.prio == prio && !r.halted && !r.busy && !r.prefetch.isEmpty

/-- The first ready ring of a class after the one served last (R67). -/
def nextRing (s : Device) (prio : Bool) (last : Nat) : Option Nat :=
  ((List.range 32).map (fun k => (last + 1 + k) % 32)).find? (ringReady s prio)

/-- The ring served next: the class of PRIO 1 before the class of PRIO 0 (R67). -/
def servedRing (s : Device) : Option (Bool × Nat) :=
  match nextRing s true s.hif.lastRing.1 with
  | some n => some (true, n)
  | none => (nextRing s false s.hif.lastRing.2).map (fun n => (false, n))

/-- COMMAND_DISPATCH (R54, R64, R66, R67, R69): the next descriptor of the served ring starts; `buf` is its host
buffer as the device's accesses find it. -/
def commandDispatch (buf : HostBuf) (got : List SlotRead) (bad : List Nat) (s : Device) : Device :=
  if !s.btr.spireUp || s.hif.d3hot then s
  else
    match servedRing s with
    | none => s
    | some (prio, n) =>
      let last := if prio then (n, s.hif.lastRing.2) else (s.hif.lastRing.1, n)
      let s := { s with hif.lastRing := last }
      match (ringOf s n).prefetch.head? with
      | some (.desc d) =>
        runCmd (commandBody got bad d.opcode.toNat) { d with ring := n, buf := buf } s
      | some (.fail a) => fetchFailed n a s
      | none => s

/-! ## The rows of the table of operations -/

/-- COMMAND_DISPATCH (R64): The next descriptor of a served ring starts once the previous descriptor of that
ring has completed, with rings chosen by priority and round-robin. -/
def execCommandDispatch (buf : HostBuf) (got : List SlotRead) (bad : List Nat) (s : State) : Host.Outcome State Fault Refusal :=
  .next { s with dev := Sys2Proof.Machine.commandDispatch buf got bad s.dev }

/-- UNSUPPORTED_OPCODE (R30): A command with an unassigned block ID, or a PMC, CLK or TST opcode, completes with
UNSUPPORTED. -/
def execUnsupportedOpcode (d : Desc) (s : State) : Host.Outcome State Fault Refusal :=
  .next { s with dev := Sys2Proof.Machine.unsupportedOpcode d s.dev }

/-- NOP (R102): Does nothing and completes. -/
def execNop (d : Desc) (s : State) : Host.Outcome State Fault Refusal :=
  .next { s with dev := runCmd nopBody d s.dev }

end Sys2Proof.Machine
end

