-- ==== Sys2Proof/Machine/Dispatch.lean ====
section
/-!
DEFINITION. Machine/Dispatch.lean: the meaning of each command, one arm per constructor of Instr.
-/
namespace Sys2Proof.Machine

def exec (i : Instr) (s : State) : Host.Outcome State Fault Refusal :=
  match i with
  | .ringDoorbell n b => Sys2Proof.Machine.execRingDoorbell n b s
  | .eventRingDoorbell b => Sys2Proof.Machine.execEventRingDoorbell b s
  | .windowDoorbell n b segs => Sys2Proof.Machine.execWindowDoorbell n b segs s
  | .descriptorFetch n got => Sys2Proof.Machine.execDescriptorFetch n got s
  | .commandDispatch buf got bad => Sys2Proof.Machine.execCommandDispatch buf got bad s
  | .unsupportedOpcode d => Sys2Proof.Machine.execUnsupportedOpcode d s
  | .nop d => Sys2Proof.Machine.execNop d s
  | .ringResume d got => Sys2Proof.Machine.execRingResume d got s
  | .windowBind d => Sys2Proof.Machine.execWindowBind d s
  | .windowRelease d => Sys2Proof.Machine.execWindowRelease d s
  | .qresumeContinue n => Sys2Proof.Machine.execQresumeContinue n s
  | .qresumeFlush n got => Sys2Proof.Machine.execQresumeFlush n got s
  | .ringEnable n v => Sys2Proof.Machine.execRingEnable n v s
  | .ringDisable n v => Sys2Proof.Machine.execRingDisable n v s
  | .eventRingEnable v => Sys2Proof.Machine.execEventRingEnable v s
  | .eventRingDisable v => Sys2Proof.Machine.execEventRingDisable v s
  | .windowConfigWrite n b => Sys2Proof.Machine.execWindowConfigWrite n b s
  | .hifStatusRead => Sys2Proof.Machine.execHifStatusRead s
  | .registerWrite sp b => Sys2Proof.Machine.execRegisterWrite sp b s
  | .msixVectorUnmask v => Sys2Proof.Machine.execMsixVectorUnmask v s
  | .interruptCoalesceTimeout v => Sys2Proof.Machine.execInterruptCoalesceTimeout v s
  | .eventDelivery => Sys2Proof.Machine.execEventDelivery s
  | .segmentHandback n => Sys2Proof.Machine.execSegmentHandback n s
  | .windowFlushTimeout n => Sys2Proof.Machine.execWindowFlushTimeout n s
  | .pcieLinkDown why ltssm lost => Sys2Proof.Machine.execPcieLinkDown why ltssm lost s
  | .perstNAssert ltssm lost => Sys2Proof.Machine.execPerstNAssert ltssm lost s
  | .pcieD3hotEntry => Sys2Proof.Machine.execPcieD3hotEntry s
  | .cfgLoadBase d => Sys2Proof.Machine.execCfgLoadBase d s
  | .cfgRun d => Sys2Proof.Machine.execCfgRun d s
  | .cfgStop d => Sys2Proof.Machine.execCfgStop d s
  | .cfgOverlayLoad d => Sys2Proof.Machine.execCfgOverlayLoad d s
  | .cfgOverlayArm d => Sys2Proof.Machine.execCfgOverlayArm d s
  | .overlayStagingDone => Sys2Proof.Machine.execOverlayStagingDone s
  | .stageGuardTimeout => Sys2Proof.Machine.execStageGuardTimeout s
  | .cfgOverlayDisarm d => Sys2Proof.Machine.execCfgOverlayDisarm d s
  | .cfgOverlayDelete d => Sys2Proof.Machine.execCfgOverlayDelete d s
  | .cfgReadRecord d => Sys2Proof.Machine.execCfgReadRecord d s
  | .cfgCommit => Sys2Proof.Machine.execCfgCommit s
  | .versionRecordExpiry => Sys2Proof.Machine.execVersionRecordExpiry s
  | .tokenArrival source slot operand => Sys2Proof.Machine.execTokenArrival source slot operand s
  | .firingDispatch => Sys2Proof.Machine.execFiringDispatch s
  | .primaryWaitExpiry slot => Sys2Proof.Machine.execPrimaryWaitExpiry slot s
  | .freshWaitExpiry slot => Sys2Proof.Machine.execFreshWaitExpiry slot s
  | .dptTick => Sys2Proof.Machine.execDptTick s
  | .loopEvaluation lane => Sys2Proof.Machine.execLoopEvaluation lane s
  | .laneError l check => Sys2Proof.Machine.execLaneError l check s
  | .epochBoundary => Sys2Proof.Machine.execEpochBoundary s
  | .epochMarkerTimeout source slot operand => Sys2Proof.Machine.execEpochMarkerTimeout source slot operand s
  | .taskCapture slot => Sys2Proof.Machine.execTaskCapture slot s
  | .dptCutReport => Sys2Proof.Machine.execDptCutReport s
  | .dptCutPending slot => Sys2Proof.Machine.execDptCutPending slot s
  | .disabledTaskOperandExpiry slot => Sys2Proof.Machine.execDisabledTaskOperandExpiry slot s
  | .dptReadTask d => Sys2Proof.Machine.execDptReadTask d s
  | .dptClearCounters d => Sys2Proof.Machine.execDptClearCounters d s
  | .dptCheckLoad d => Sys2Proof.Machine.execDptCheckLoad d s
  | .lpeSetMode d => Sys2Proof.Machine.execLpeSetMode d s
  | .lpeSetCoef d => Sys2Proof.Machine.execLpeSetCoef d s
  | .lpeSetLimit d => Sys2Proof.Machine.execLpeSetLimit d s
  | .lpeSetSp d => Sys2Proof.Machine.execLpeSetSp d s
  | .lpeSetOutput d => Sys2Proof.Machine.execLpeSetOutput d s
  | .lpeReadState d => Sys2Proof.Machine.execLpeReadState d s
  | .lpeClearCounters d => Sys2Proof.Machine.execLpeClearCounters d s
  | .lpeLaneEnWrite b => Sys2Proof.Machine.execLpeLaneEnWrite b s
  | .ltnTraceSet d => Sys2Proof.Machine.execLtnTraceSet d s
  | .ltnTraceArm d => Sys2Proof.Machine.execLtnTraceArm d s
  | .ltnTraceForce d => Sys2Proof.Machine.execLtnTraceForce d s
  | .ltnTraceStop d => Sys2Proof.Machine.execLtnTraceStop d s
  | .ltnTraceRead d => Sys2Proof.Machine.execLtnTraceRead d s
  | .conversionEnd c raw at_ => Sys2Proof.Machine.execConversionEnd c raw at_ s
  | .scanStart c => Sys2Proof.Machine.execScanStart c s
  | .urgentPinRequest e => Sys2Proof.Machine.execUrgentPinRequest e s
  | .adcRangeWrite n v => Sys2Proof.Machine.execAdcRangeWrite n v s
  | .rangeSettleExpiry n => Sys2Proof.Machine.execRangeSettleExpiry n s
  | .calibrationTakeover c => Sys2Proof.Machine.execCalibrationTakeover c s
  | .calibrationTableFit c ofs16 g noise => Sys2Proof.Machine.execCalibrationTableFit c ofs16 g noise s
  | .calibrationHandback c => Sys2Proof.Machine.execCalibrationHandback c s
  | .adcUrgent d => Sys2Proof.Machine.execAdcUrgent d s
  | .adcCalibrate d => Sys2Proof.Machine.execAdcCalibrate d s
  | .adcReadCal d => Sys2Proof.Machine.execAdcReadCal d s
  | .adcClearCounters d => Sys2Proof.Machine.execAdcClearCounters d s
  | .dacOutputArrival n => Sys2Proof.Machine.execDacOutputArrival n s
  | .dacHoldLatch n => Sys2Proof.Machine.execDacHoldLatch n s
  | .dacOeWrite v => Sys2Proof.Machine.execDacOeWrite v s
  | .dacSet d => Sys2Proof.Machine.execDacSet d s
  | .dioOeWrite w v => Sys2Proof.Machine.execDioOeWrite w v s
  | .dioInputAccept n level at_ => Sys2Proof.Machine.execDioInputAccept n level at_ s
  | .dioRawExcursionSuppress n => Sys2Proof.Machine.execDioRawExcursionSuppress n s
  | .pwmCodeArrival n => Sys2Proof.Machine.execPwmCodeArrival n s
  | .pwmPeriodStart n => Sys2Proof.Machine.execPwmPeriodStart n s
  | .pulseEdge p e => Sys2Proof.Machine.execPulseEdge p e s
  | .pulseSample p => Sys2Proof.Machine.execPulseSample p s
  | .quadratureTransition q a b => Sys2Proof.Machine.execQuadratureTransition q a b s
  | .zIndexEdge q a b => Sys2Proof.Machine.execZIndexEdge q a b s
  | .ssiFrame q raw high low at_ => Sys2Proof.Machine.execSsiFrame q raw high low at_ s
  | .positionSample q => Sys2Proof.Machine.execPositionSample q s
  | .uartRxByte u c flags at_ => Sys2Proof.Machine.execUartRxByte u c flags at_ s
  | .uartRxIdle u => Sys2Proof.Machine.execUartRxIdle u s
  | .uartTxDone u => Sys2Proof.Machine.execUartTxDone u s
  | .dioPstatClear p v => Sys2Proof.Machine.execDioPstatClear p v s
  | .dioSet d => Sys2Proof.Machine.execDioSet d s
  | .dioPosPreset d => Sys2Proof.Machine.execDioPosPreset d s
  | .dioClearCounters d => Sys2Proof.Machine.execDioClearCounters d s
  | .servoTick a => Sys2Proof.Machine.execServoTick a s
  | .motionFiring => Sys2Proof.Machine.execMotionFiring s
  | .limitPinChange a pos => Sys2Proof.Machine.execLimitPinChange a pos s
  | .limitQualification a pos => Sys2Proof.Machine.execLimitQualification a pos s
  | .motMove d => Sys2Proof.Machine.execMotMove d s
  | .motStop d => Sys2Proof.Machine.execMotStop d s
  | .motHome d => Sys2Proof.Machine.execMotHome d s
  | .motSetPos d => Sys2Proof.Machine.execMotSetPos d s
  | .motReadState d => Sys2Proof.Machine.execMotReadState d s
  | .motClearCounters d => Sys2Proof.Machine.execMotClearCounters d s
  | .ccrPwmPeriod m sa sb => Sys2Proof.Machine.execCcrPwmPeriod m sa sb s
  | .fullStepLoad m => Sys2Proof.Machine.execFullStepLoad m s
  | .setpointLossExpiry m => Sys2Proof.Machine.execSetpointLossExpiry m s
  | .holdDelayExpiry m => Sys2Proof.Machine.execHoldDelayExpiry m s
  | .ccrOeWrite v => Sys2Proof.Machine.execCcrOeWrite v s
  | .ccrClearFault d => Sys2Proof.Machine.execCcrClearFault d s
  | .programCycleStart c => Sys2Proof.Machine.execProgramCycleStart c s
  | .programCycleEnd c => Sys2Proof.Machine.execProgramCycleEnd c s
  | .cycleOverrun c => Sys2Proof.Machine.execCycleOverrun c s
  | .cycleAbort c => Sys2Proof.Machine.execCycleAbort c s
  | .programFault c => Sys2Proof.Machine.execProgramFault c s
  | .coreError c => Sys2Proof.Machine.execCoreError c s
  | .programInstruction c => Sys2Proof.Machine.execProgramInstruction c s
  | .fbTon c => Sys2Proof.Machine.execFbTon c s
  | .fbTof c => Sys2Proof.Machine.execFbTof c s
  | .fbTp c => Sys2Proof.Machine.execFbTp c s
  | .fbRtrig c => Sys2Proof.Machine.execFbRtrig c s
  | .fbFtrig c => Sys2Proof.Machine.execFbFtrig c s
  | .fbCtu c => Sys2Proof.Machine.execFbCtu c s
  | .fbCtd c => Sys2Proof.Machine.execFbCtd c s
  | .fbNow c => Sys2Proof.Machine.execFbNow c s
  | .fbNowh c => Sys2Proof.Machine.execFbNowh c s
  | .programExchangeBoundary n => Sys2Proof.Machine.execProgramExchangeBoundary n s
  | .pgmLoad d => Sys2Proof.Machine.execPgmLoad d s
  | .pgmExchange d => Sys2Proof.Machine.execPgmExchange d s
  | .pgmRestart d => Sys2Proof.Machine.execPgmRestart d s
  | .pgmReadInstance d => Sys2Proof.Machine.execPgmReadInstance d s
  | .pgmClearCounters d => Sys2Proof.Machine.execPgmClearCounters d s
  | .fblScan => Sys2Proof.Machine.execFblScan s
  | .fblTakeControl => Sys2Proof.Machine.execFblTakeControl s
  | .fblLoad d => Sys2Proof.Machine.execFblLoad d s
  | .fblRead d => Sys2Proof.Machine.execFblRead d s
  | .frameReceive p at_ bytes => Sys2Proof.Machine.execFrameReceive p at_ bytes s
  | .hostFrameQueue p => Sys2Proof.Machine.execHostFrameQueue p s
  | .frameLaunch p => Sys2Proof.Machine.execFrameLaunch p s
  | .gateCycleStart p => Sys2Proof.Machine.execGateCycleStart p s
  | .nzRequestBuild st => Sys2Proof.Machine.execNzRequestBuild st s
  | .nzResponse st => Sys2Proof.Machine.execNzResponse st s
  | .nzResponseDeadline st => Sys2Proof.Machine.execNzResponseDeadline st s
  | .paramAck st => Sys2Proof.Machine.execParamAck st s
  | .nzParamPieceTimeout st => Sys2Proof.Machine.execNzParamPieceTimeout st s
  | .delayResp st => Sys2Proof.Machine.execDelayResp st s
  | .probeReply st => Sys2Proof.Machine.execProbeReply st s
  | .nzProbeTimer st => Sys2Proof.Machine.execNzProbeTimer st s
  | .ethLinkUp p => Sys2Proof.Machine.execEthLinkUp p s
  | .ethLinkDown p => Sys2Proof.Machine.execEthLinkDown p s
  | .prpSupervisionTimer p => Sys2Proof.Machine.execPrpSupervisionTimer p s
  | .ethPortEnWrite v => Sys2Proof.Machine.execEthPortEnWrite v s
  | .ethReadStation d => Sys2Proof.Machine.execEthReadStation d s
  | .ethReparam d => Sys2Proof.Machine.execEthReparam d s
  | .ethCbReset d => Sys2Proof.Machine.execEthCbReset d s
  | .ethClearCounters d => Sys2Proof.Machine.execEthClearCounters d s
  | .alignmentStrobe => Sys2Proof.Machine.execAlignmentStrobe s
  | .syncMeasurement dom => Sys2Proof.Machine.execSyncMeasurement dom s
  | .announceReceive dom => Sys2Proof.Machine.execAnnounceReceive dom s
  | .pdelayReqReceive dom => Sys2Proof.Machine.execPdelayReqReceive dom s
  | .masterSyncTransmit dom => Sys2Proof.Machine.execMasterSyncTransmit dom s
  | .domainLossTimeout dom => Sys2Proof.Machine.execDomainLossTimeout dom s
  | .ppsInEdge at_ => Sys2Proof.Machine.execPpsInEdge at_ s
  | .ppsOutEdge => Sys2Proof.Machine.execPpsOutEdge s
  | .triggerFiring e => Sys2Proof.Machine.execTriggerFiring e s
  | .timSetTime d => Sys2Proof.Machine.execTimSetTime d s
  | .timSelect d => Sys2Proof.Machine.execTimSelect d s
  | .timRestep d => Sys2Proof.Machine.execTimRestep d s
  | .timSetUtc d => Sys2Proof.Machine.execTimSetUtc d s
  | .timReadDomain d => Sys2Proof.Machine.execTimReadDomain d s
  | .timClearCounters d => Sys2Proof.Machine.execTimClearCounters d s
  | .timNowRead => Sys2Proof.Machine.execTimNowRead s
  | .canFrameReceive n f => Sys2Proof.Machine.execCanFrameReceive n f s
  | .canTxStart n => Sys2Proof.Machine.execCanTxStart n s
  | .canTxEnd n how tdc => Sys2Proof.Machine.execCanTxEnd n how tdc s
  | .periodicBufferFiring n b => Sys2Proof.Machine.execPeriodicBufferFiring n b s
  | .canTxLate n b => Sys2Proof.Machine.execCanTxLate n b s
  | .busOffRecoveryDone n => Sys2Proof.Machine.execBusOffRecoveryDone n s
  | .ttReferenceSend n => Sys2Proof.Machine.execTtReferenceSend n s
  | .ttRefLost n => Sys2Proof.Machine.execTtRefLost n s
  | .ttWindow n b => Sys2Proof.Machine.execTtWindow n b s
  | .canEnWrite v => Sys2Proof.Machine.execCanEnWrite v s
  | .canTxSet d => Sys2Proof.Machine.execCanTxSet d s
  | .canTxAbort d => Sys2Proof.Machine.execCanTxAbort d s
  | .canRecover d => Sys2Proof.Machine.execCanRecover d s
  | .canSetMode d => Sys2Proof.Machine.execCanSetMode d s
  | .canClearCounters d => Sys2Proof.Machine.execCanClearCounters d s
  | .safInputSample b contacts fb => Sys2Proof.Machine.execSafInputSample b contacts fb s
  | .safetyCycle b => Sys2Proof.Machine.execSafetyCycle b s
  | .discrepancyTimeout n => Sys2Proof.Machine.execDiscrepancyTimeout n s
  | .testPulse n low off on_ => Sys2Proof.Machine.execTestPulse n low off on_ s
  | .feedbackTimeout n low => Sys2Proof.Machine.execFeedbackTimeout n low s
  | .channelFault cause attr => Sys2Proof.Machine.execChannelFault cause attr s
  | .degradedTimeout => Sys2Proof.Machine.execDegradedTimeout s
  | .safInitDone ok => Sys2Proof.Machine.execSafInitDone ok s
  | .safeFrameProduce p => Sys2Proof.Machine.execSafeFrameProduce p s
  | .safeFrameReceive => Sys2Proof.Machine.execSafeFrameReceive s
  | .sfWatchdogTimeout k => Sys2Proof.Machine.execSfWatchdogTimeout k s
  | .singleLanTimeout k => Sys2Proof.Machine.execSingleLanTimeout k s
  | .confirmTimeout => Sys2Proof.Machine.execConfirmTimeout s
  | .safLoadConfig d => Sys2Proof.Machine.execSafLoadConfig d s
  | .safConfirm d => Sys2Proof.Machine.execSafConfirm d s
  | .safSetRequest d => Sys2Proof.Machine.execSafSetRequest d s
  | .safFaultReset d => Sys2Proof.Machine.execSafFaultReset d s
  | .safClearCounters d => Sys2Proof.Machine.execSafClearCounters d s
  | .cutPartReady blk bad => Sys2Proof.Machine.execCutPartReady blk bad s
  | .cutCommit bad => Sys2Proof.Machine.execCutCommit bad s
  | .journalRecordApply => Sys2Proof.Machine.execJournalRecordApply s
  | .slotCopy => Sys2Proof.Machine.execSlotCopy s
  | .gapMove => Sys2Proof.Machine.execGapMove s
  | .spireWarmRestart cause => Sys2Proof.Machine.execSpireWarmRestart cause s
  | .bootVerify dirs imgs => Sys2Proof.Machine.execBootVerify dirs imgs s
  | .imageRestore ecc bad badRec => Sys2Proof.Machine.execImageRestore ecc bad badRec s
  | .controlResume => Sys2Proof.Machine.execControlResume s
  | .deviceRestart => Sys2Proof.Machine.execDeviceRestart s
  | .kepRestart d => Sys2Proof.Machine.execKepRestart d s
  | .kepRestartDelayExpiry => Sys2Proof.Machine.execKepRestartDelayExpiry s
  | .kepReadImage d => Sys2Proof.Machine.execKepReadImage d s
  | .kepClearCounters d => Sys2Proof.Machine.execKepClearCounters d s
  | .heartbeatSend => Sys2Proof.Machine.execHeartbeatSend s
  | .heartbeatReceive lane bytes pact fenced => Sys2Proof.Machine.execHeartbeatReceive lane bytes pact fenced s
  | .heartbeatLoss pact => Sys2Proof.Machine.execHeartbeatLoss pact s
  | .takeoverFenceDone => Sys2Proof.Machine.execTakeoverFenceDone s
  | .fenceTimeout => Sys2Proof.Machine.execFenceTimeout s
  | .takeoverEnable => Sys2Proof.Machine.execTakeoverEnable s
  | .prFencedNAssert => Sys2Proof.Machine.execPrFencedNAssert s
  | .pairPacketReceive lane packet acks crcOk => Sys2Proof.Machine.execPairPacketReceive lane packet acks crcOk s
  | .pairRetransmitTimeout q => Sys2Proof.Machine.execPairRetransmitTimeout q s
  | .paiLaneDown l => Sys2Proof.Machine.execPaiLaneDown l s
  | .syncAckTimeout => Sys2Proof.Machine.execSyncAckTimeout s
  | .claimWaitExpiry pact => Sys2Proof.Machine.execClaimWaitExpiry pact s
  | .powerUpListenExpiry => Sys2Proof.Machine.execPowerUpListenExpiry s
  | .yieldTimeout => Sys2Proof.Machine.execYieldTimeout s
  | .paiJoin d => Sys2Proof.Machine.execPaiJoin d s
  | .paiSwitchover d => Sys2Proof.Machine.execPaiSwitchover d s
  | .paiLeave d => Sys2Proof.Machine.execPaiLeave d s
  | .paiReadPeer d => Sys2Proof.Machine.execPaiReadPeer d s
  | .paiClearCounters d => Sys2Proof.Machine.execPaiClearCounters d s
  | .lanternRecord => Sys2Proof.Machine.execLanternRecord s
  | .ltnReadChannel d => Sys2Proof.Machine.execLtnReadChannel d s
  | .ltnClearCounters d => Sys2Proof.Machine.execLtnClearCounters d s
  | .eventRaise code payload => Sys2Proof.Machine.execEventRaise code payload s
  | .eventAdmission ok unread => Sys2Proof.Machine.execEventAdmission ok unread s
  | .summaryTimeout code => Sys2Proof.Machine.execSummaryTimeout code s
  | .evrExport d bad => Sys2Proof.Machine.execEvrExport d bad s
  | .evrReadLastgasp d => Sys2Proof.Machine.execEvrReadLastgasp d s
  | .evrClearLastgasp d => Sys2Proof.Machine.execEvrClearLastgasp d s
  | .evrClearCounters d => Sys2Proof.Machine.execEvrClearCounters d s
  | .flitCrcError dir accepted => Sys2Proof.Machine.execFlitCrcError dir accepted s
  | .replayTimeout dir accepted => Sys2Proof.Machine.execReplayTimeout dir accepted s
  | .retrainEnd failed => Sys2Proof.Machine.execRetrainEnd failed s
  | .linkIdleTimeout => Sys2Proof.Machine.execLinkIdleTimeout s
  | .crossingHandshake k => Sys2Proof.Machine.execCrossingHandshake k s
  | .spireWatchdog => Sys2Proof.Machine.execSpireWatchdog s
  | .domeWatchdog => Sys2Proof.Machine.execDomeWatchdog s
  | .spireFatal code detail => Sys2Proof.Machine.execSpireFatal code detail s
  | .sidebandReadTimeout off repeats => Sys2Proof.Machine.execSidebandReadTimeout off repeats s
  | .dramScrub row addrs last => Sys2Proof.Machine.execDramScrub row addrs last s
  | .memUe region addr window segment off prog => Sys2Proof.Machine.execMemUe region addr window segment off prog s
  | .wearMonitorEvaluation readings => Sys2Proof.Machine.execWearMonitorEvaluation readings s
  | .swapChangeover slot => Sys2Proof.Machine.execSwapChangeover slot s
  | .keepScrubDone bad => Sys2Proof.Machine.execKeepScrubDone bad s
  | .dramRepairDone => Sys2Proof.Machine.execDramRepairDone s
  | .sprReserveSwap d => Sys2Proof.Machine.execSprReserveSwap d s
  | .sprKeepScrub d => Sys2Proof.Machine.execSprKeepScrub d s
  | .sprDramRepair d => Sys2Proof.Machine.execSprDramRepair d s
  | .sprClearCounters d => Sys2Proof.Machine.execSprClearCounters d s
  | .pmcSelWrite n v => Sys2Proof.Machine.execPmcSelWrite n v s
  | .pmcSnapWrite v => Sys2Proof.Machine.execPmcSnapWrite v s
  | .snapshotInstant => Sys2Proof.Machine.execSnapshotInstant s
  | .pmcDumpCfgWrite v => Sys2Proof.Machine.execPmcDumpCfgWrite v s
  | .pmcDumpMaskWrite v => Sys2Proof.Machine.execPmcDumpMaskWrite v s
  | .dumpInstant => Sys2Proof.Machine.execDumpInstant s
  | .pmcStatusRead => Sys2Proof.Machine.execPmcStatusRead s
  | .secChallenge d => Sys2Proof.Machine.execSecChallenge d s
  | .secOpen d => Sys2Proof.Machine.execSecOpen d s
  | .secOpenPw d => Sys2Proof.Machine.execSecOpenPw d s
  | .secClose d => Sys2Proof.Machine.execSecClose d s
  | .secQuote d => Sys2Proof.Machine.execSecQuote d s
  | .secReadIdentity d => Sys2Proof.Machine.execSecReadIdentity d s
  | .secFwStage d => Sys2Proof.Machine.execSecFwStage d s
  | .fwStageDone written => Sys2Proof.Machine.execFwStageDone written s
  | .secSvnCommit d => Sys2Proof.Machine.execSecSvnCommit d s
  | .secProvision d => Sys2Proof.Machine.execSecProvision d s
  | .scopeExpiry k => Sys2Proof.Machine.execScopeExpiry k s
  | .nonceExpiry => Sys2Proof.Machine.execNonceExpiry s
  | .lockoutExpiry => Sys2Proof.Machine.execLockoutExpiry s
  | .extest => Sys2Proof.Machine.execExtest s
  | .idcode => Sys2Proof.Machine.execIdcode s
  | .samplePreload sampled shifted => Sys2Proof.Machine.execSamplePreload sampled shifted s
  | .intest => Sys2Proof.Machine.execIntest s
  | .extestPulse => Sys2Proof.Machine.execExtestPulse s
  | .extestTrain => Sys2Proof.Machine.execExtestTrain s
  | .clamp => Sys2Proof.Machine.execClamp s
  | .highz => Sys2Proof.Machine.execHighz s
  | .lockChallenge => Sys2Proof.Machine.execLockChallenge s
  | .lockResponse response => Sys2Proof.Machine.execLockResponse response s
  | .lockStatus => Sys2Proof.Machine.execLockStatus s
  | .debugAccess => Sys2Proof.Machine.execDebugAccess s
  | .bypass code => Sys2Proof.Machine.execBypass code s
  | .powerOn => Sys2Proof.Machine.execPowerOn s
  | .resetNAssert testMode => Sys2Proof.Machine.execResetNAssert testMode s
  | .pwrfailNAssert => Sys2Proof.Machine.execPwrfailNAssert s
  | .pwrfailNRelease => Sys2Proof.Machine.execPwrfailNRelease s
  | .railOutOfWindow r => Sys2Proof.Machine.execRailOutOfWindow r s
  | .referenceLoss why => Sys2Proof.Machine.execReferenceLoss why s
  | .thermalSample spire dome => Sys2Proof.Machine.execThermalSample spire dome s
  | .clkforceWrite b => Sys2Proof.Machine.execClkforceWrite b s
  | .clkRailEvtClear b => Sys2Proof.Machine.execClkRailEvtClear b s
  | .pcieLinkUp => Sys2Proof.Machine.execPcieLinkUp s
  | .d3hotExit => Sys2Proof.Machine.execD3hotExit s
  | .adcUrgentTimeout c => Sys2Proof.Machine.execAdcUrgentTimeout c s
  | .atPpsTimeout => Sys2Proof.Machine.execAtPpsTimeout s
  | .pgmExchangeTimeout n => Sys2Proof.Machine.execPgmExchangeTimeout n s
  | .switchoverTimeout => Sys2Proof.Machine.execSwitchoverTimeout s
  | .ccrSetpointArrival m => Sys2Proof.Machine.execCcrSetpointArrival m s
  | .destinationReport => Sys2Proof.Machine.execDestinationReport s
  | .ptpDelayResponse dom => Sys2Proof.Machine.execPtpDelayResponse dom s
  | .pdelayReqTimer dom => Sys2Proof.Machine.execPdelayReqTimer dom s
  | .streamRecoveryReset k => Sys2Proof.Machine.execStreamRecoveryReset k s
  | .referenceRequalified => Sys2Proof.Machine.execReferenceRequalified s
  | .railReturn r => Sys2Proof.Machine.execRailReturn r s
  | .paiLaneUp l => Sys2Proof.Machine.execPaiLaneUp l s
  | .canBusIdle n => Sys2Proof.Machine.execCanBusIdle n s

end Sys2Proof.Machine
end

