-- ==== Sys2Proof/Machine/Step.lean ====
section
/-!
DEFINITION. Machine/Step.lean: one step of the block.
-/
namespace Sys2Proof.Machine

/-- The command at the front of the queue takes effect on the state with the queue's rest; with no command waiting, one
cycle of CK_TIME passes (DESIGN CHOICE, log 2). -/
def step (s : State) : Host.Outcome State Fault Refusal :=
  match s.pending with
  | c :: rest => exec c { s with pending := rest }
  | [] => .next { s with dev := clockCycle s.dev }

/-- The command that a word spells, put at the front of the queue; no word spells one, so the state stands. -/
def State.withFetchWord (s : State) (nbits w : Nat) : State :=
  match decodeTableWord nbits w with
  | some c => { s with pending := c :: s.pending }
  | none => s

end Sys2Proof.Machine
end

