-- ==== Sys2Proof/WellFormed.lean ====
section
/-!
DEFINITION. WellFormed.lean: the commands whose operands lie in the ranges the spec gives them: numbers of rings,
windows, units and objects, field widths, and the shape of what the outside hands over. exec is total and does
not need them; statements about particular objects name them.
-/
namespace Sys2Proof

/-- A bus write has a width the buses have and lies in BAR0 (R51). -/
def BusWrite.wf (b : BusWrite) : Bool := [1, 2, 4, 8].contains b.width && Nat.blt b.off (2 ^ 21)

/-- A descriptor stands in one of the 32 rings, and its buffer holds no more than BUF_LEN bytes (R53, R60, R61). -/
def Desc.wf (d : Desc) : Bool := Nat.blt d.ring 32 && Nat.ble d.buf.bytes.length d.bufLen.toNat

/-- What a slot read brought: a descriptor of 64 bytes, or a failure (R60, R69). -/
def SlotRead.wf : SlotRead → Bool
  | .bytes b => b.length == 64
  | .fail a => a != .ok

/-- A segment has a header and at most 1 MiB (R83, R84). -/
def HostSeg.wf (g : HostSeg) : Bool := Nat.ble 32 g.bytes.length && Nat.ble g.bytes.length (2 ^ 20)

/-- A number below its bound. -/
def below (n bound : Nat) : Bool := Nat.blt n bound

/-- The operands of a command lie in their ranges. -/
def Instr.wf (c : Instr) : Bool :=
  match c with
  | .ringDoorbell n b => below n 32 && b.wf
  | .eventRingDoorbell b => b.wf
  | .windowDoorbell n b segs => below n 16 && b.wf && segs.all HostSeg.wf
  | .descriptorFetch n got => below n 32 && got.all SlotRead.wf
  | .commandDispatch _ got _ => got.all SlotRead.wf
  | .unsupportedOpcode d => d.wf
  | .nop d => d.wf
  | .ringResume d got => d.wf && got.all SlotRead.wf
  | .windowBind d => d.wf
  | .windowRelease d => d.wf
  | .qresumeContinue n => below n 32
  | .qresumeFlush n got => below n 32 && got.all SlotRead.wf
  | .ringEnable n v => below n 32 && below v (2 ^ 32)
  | .ringDisable n v => below n 32 && below v (2 ^ 32)
  | .eventRingEnable v => below v (2 ^ 32)
  | .eventRingDisable v => below v (2 ^ 32)
  | .windowConfigWrite n b => below n 16 && b.wf
  | .hifStatusRead => true
  | .registerWrite _ b => b.wf
  | .msixVectorUnmask v => below v 64
  | .interruptCoalesceTimeout v => below v 64
  | .eventDelivery => true
  | .segmentHandback n => below n 16
  | .windowFlushTimeout n => below n 16
  | .pcieLinkDown _ ltssm _ => below ltssm 256
  | .perstNAssert ltssm _ => below ltssm 256
  | .pcieD3hotEntry => true
  | .cfgLoadBase d => d.wf
  | .cfgRun d => d.wf
  | .cfgStop d => d.wf
  | .cfgOverlayLoad d => d.wf
  | .cfgOverlayArm d => d.wf
  | .overlayStagingDone => true
  | .stageGuardTimeout => true
  | .cfgOverlayDisarm d => d.wf
  | .cfgOverlayDelete d => d.wf
  | .cfgReadRecord d => d.wf
  | .cfgCommit => true
  | .versionRecordExpiry => true
  | .tokenArrival source slot operand => below source 65536 && below slot 4096 && below operand 8
  | .firingDispatch => true
  | .primaryWaitExpiry slot => below slot 4096
  | .freshWaitExpiry slot => below slot 4096
  | .dptTick => true
  | .loopEvaluation lane => below lane 18
  | .laneError l check => below l 18 && below check 3
  | .epochBoundary => true
  | .epochMarkerTimeout source slot operand => below source 65536 && below slot 4096 && below operand 8
  | .taskCapture slot => below slot 4096
  | .dptCutReport => true
  | .dptCutPending slot => below slot 4096
  | .disabledTaskOperandExpiry slot => below slot 4096
  | .dptReadTask d => d.wf
  | .dptClearCounters d => d.wf
  | .dptCheckLoad d => d.wf
  | .lpeSetMode d => d.wf
  | .lpeSetCoef d => d.wf
  | .lpeSetLimit d => d.wf
  | .lpeSetSp d => d.wf
  | .lpeSetOutput d => d.wf
  | .lpeReadState d => d.wf
  | .lpeClearCounters d => d.wf
  | .lpeLaneEnWrite b => b.wf
  | .ltnTraceSet d => d.wf
  | .ltnTraceArm d => d.wf
  | .ltnTraceForce d => d.wf
  | .ltnTraceStop d => d.wf
  | .ltnTraceRead d => d.wf
  | .conversionEnd c _ _ => below c 34
  | .scanStart c => below c 34
  | .urgentPinRequest e => below e.conv 34
  | .adcRangeWrite n v => below n 256 && below v (2 ^ 32)
  | .rangeSettleExpiry n => below n 256
  | .calibrationTakeover c => below c 34
  | .calibrationTableFit c _ g _ => below c 34 && below g (2 ^ 24)
  | .calibrationHandback c => below c 34
  | .adcUrgent d => d.wf
  | .adcCalibrate d => d.wf
  | .adcReadCal d => d.wf
  | .adcClearCounters d => d.wf
  | .dacOutputArrival n => below n 32
  | .dacHoldLatch n => below n 32
  | .dacOeWrite v => below v (2 ^ 32)
  | .dacSet d => d.wf
  | .dioOeWrite w v => below w 3 && below v (2 ^ 32)
  | .dioInputAccept n _ _ => below n 96
  | .dioRawExcursionSuppress n => below n 96
  | .pwmCodeArrival n => below n 96
  | .pwmPeriodStart n => below n 96
  | .pulseEdge p _ => below p 16
  | .pulseSample p => below p 16
  | .quadratureTransition q _ _ => below q 8
  | .zIndexEdge q _ _ => below q 8
  | .ssiFrame q _ _ _ _ => below q 8
  | .positionSample q => below q 8
  | .uartRxByte u _ flags _ => below u 4 && below flags 8
  | .uartRxIdle u => below u 4
  | .uartTxDone u => below u 4
  | .dioPstatClear p v => below p 16 && below v (2 ^ 32)
  | .dioSet d => d.wf
  | .dioPosPreset d => d.wf
  | .dioClearCounters d => d.wf
  | .servoTick a => below a 64
  | .motionFiring => true
  | .limitPinChange a _ => below a 64
  | .limitQualification a _ => below a 64
  | .motMove d => d.wf
  | .motStop d => d.wf
  | .motHome d => d.wf
  | .motSetPos d => d.wf
  | .motReadState d => d.wf
  | .motClearCounters d => d.wf
  | .ccrPwmPeriod m _ _ => below m 16
  | .fullStepLoad m => below m 16
  | .setpointLossExpiry m => below m 16
  | .holdDelayExpiry m => below m 16
  | .ccrOeWrite v => below v (2 ^ 32)
  | .ccrClearFault d => d.wf
  | .programCycleStart c => below c 9
  | .programCycleEnd c => below c 9
  | .cycleOverrun c => below c 9
  | .cycleAbort c => below c 9
  | .programFault c => below c 9
  | .coreError c => below c 9
  | .programInstruction c => below c 9
  | .fbTon c => below c 9
  | .fbTof c => below c 9
  | .fbTp c => below c 9
  | .fbRtrig c => below c 9
  | .fbFtrig c => below c 9
  | .fbCtu c => below c 9
  | .fbCtd c => below c 9
  | .fbNow c => below c 9
  | .fbNowh c => below c 9
  | .programExchangeBoundary n => below n 256
  | .pgmLoad d => d.wf
  | .pgmExchange d => d.wf
  | .pgmRestart d => d.wf
  | .pgmReadInstance d => d.wf
  | .pgmClearCounters d => d.wf
  | .fblScan => true
  | .fblTakeControl => true
  | .fblLoad d => d.wf
  | .fblRead d => d.wf
  | .frameReceive p _ _ => below p 8
  | .hostFrameQueue p => below p 8
  | .frameLaunch p => below p 8
  | .gateCycleStart p => below p 8
  | .nzRequestBuild st => below st 128
  | .nzResponse st => below st 128
  | .nzResponseDeadline st => below st 128
  | .paramAck st => below st 128
  | .nzParamPieceTimeout st => below st 128
  | .delayResp st => below st 128
  | .probeReply st => below st 128
  | .nzProbeTimer st => below st 128
  | .ethLinkUp p => below p 8
  | .ethLinkDown p => below p 8
  | .prpSupervisionTimer p => below p 8
  | .ethPortEnWrite v => below v (2 ^ 32)
  | .ethReadStation d => d.wf
  | .ethReparam d => d.wf
  | .ethCbReset d => d.wf
  | .ethClearCounters d => d.wf
  | .alignmentStrobe => true
  | .syncMeasurement dom => below dom 2
  | .announceReceive dom => below dom 2
  | .pdelayReqReceive dom => below dom 2
  | .masterSyncTransmit dom => below dom 2
  | .domainLossTimeout dom => below dom 2
  | .ppsInEdge _ => true
  | .ppsOutEdge => true
  | .triggerFiring e => below e 64
  | .timSetTime d => d.wf
  | .timSelect d => d.wf
  | .timRestep d => d.wf
  | .timSetUtc d => d.wf
  | .timReadDomain d => d.wf
  | .timClearCounters d => d.wf
  | .timNowRead => true
  | .canFrameReceive n _ => below n 8
  | .canTxStart n => below n 8
  | .canTxEnd n _ tdc => below n 8 && below tdc 256
  | .periodicBufferFiring n b => below n 8 && below b 16
  | .canTxLate n b => below n 8 && below b 16
  | .busOffRecoveryDone n => below n 8
  | .ttReferenceSend n => below n 8
  | .ttRefLost n => below n 8
  | .ttWindow n b => below n 8 && below b 16
  | .canEnWrite v => below v (2 ^ 32)
  | .canTxSet d => d.wf
  | .canTxAbort d => d.wf
  | .canRecover d => d.wf
  | .canSetMode d => d.wf
  | .canClearCounters d => d.wf
  | .safInputSample _ contacts fb => below contacts (2 ^ 32) && below fb 256
  | .safetyCycle _ => true
  | .discrepancyTimeout n => below n 16
  | .testPulse n _ _ _ => below n 8
  | .feedbackTimeout n _ => below n 8
  | .channelFault cause attr => below cause 8 && below attr 16
  | .degradedTimeout => true
  | .safInitDone _ => true
  | .safeFrameProduce p => below p 16
  | .safeFrameReceive => true
  | .sfWatchdogTimeout k => below k 16
  | .singleLanTimeout k => below k 16
  | .confirmTimeout => true
  | .safLoadConfig d => d.wf
  | .safConfirm d => d.wf
  | .safSetRequest d => d.wf
  | .safFaultReset d => d.wf
  | .safClearCounters d => d.wf
  | .cutPartReady blk _ => below blk 32
  | .cutCommit _ => true
  | .journalRecordApply => true
  | .slotCopy => true
  | .gapMove => true
  | .spireWarmRestart cause => below cause 256
  | .bootVerify _ _ => true
  | .imageRestore _ _ _ => true
  | .controlResume => true
  | .deviceRestart => true
  | .kepRestart d => d.wf
  | .kepRestartDelayExpiry => true
  | .kepReadImage d => d.wf
  | .kepClearCounters d => d.wf
  | .heartbeatSend => true
  | .heartbeatReceive lane _ _ _ => below lane 2
  | .heartbeatLoss _ => true
  | .takeoverFenceDone => true
  | .fenceTimeout => true
  | .takeoverEnable => true
  | .prFencedNAssert => true
  | .pairPacketReceive lane _ _ _ => below lane 2
  | .pairRetransmitTimeout _ => true
  | .paiLaneDown l => below l 2
  | .syncAckTimeout => true
  | .claimWaitExpiry _ => true
  | .powerUpListenExpiry => true
  | .yieldTimeout => true
  | .paiJoin d => d.wf
  | .paiSwitchover d => d.wf
  | .paiLeave d => d.wf
  | .paiReadPeer d => d.wf
  | .paiClearCounters d => d.wf
  | .lanternRecord => true
  | .ltnReadChannel d => d.wf
  | .ltnClearCounters d => d.wf
  | .eventRaise code _ => below code 65536
  | .eventAdmission _ _ => true
  | .summaryTimeout code => below code 65536
  | .evrExport d _ => d.wf
  | .evrReadLastgasp d => d.wf
  | .evrClearLastgasp d => d.wf
  | .evrClearCounters d => d.wf
  | .flitCrcError dir accepted => below dir 2 && below accepted 16
  | .replayTimeout dir accepted => below dir 2 && below accepted 16
  | .retrainEnd failed => below failed 32
  | .linkIdleTimeout => true
  | .crossingHandshake k => below k 16
  | .spireWatchdog => true
  | .domeWatchdog => true
  | .spireFatal code detail => below code 256 && below detail 65536
  | .sidebandReadTimeout off _ => below off (2 ^ 21)
  | .dramScrub _ _ _ => true
  | .memUe region _ window segment off prog => below region 5 && below window 256 && below segment 65536 && below off (2 ^ 32) && below prog 256
  | .wearMonitorEvaluation _ => true
  | .swapChangeover slot => below slot 256
  | .keepScrubDone _ => true
  | .dramRepairDone => true
  | .sprReserveSwap d => d.wf
  | .sprKeepScrub d => d.wf
  | .sprDramRepair d => d.wf
  | .sprClearCounters d => d.wf
  | .pmcSelWrite n v => below n 640 && below v (2 ^ 32)
  | .pmcSnapWrite v => below v (2 ^ 32)
  | .snapshotInstant => true
  | .pmcDumpCfgWrite v => below v (2 ^ 32)
  | .pmcDumpMaskWrite v => below v (2 ^ 32)
  | .dumpInstant => true
  | .pmcStatusRead => true
  | .secChallenge d => d.wf
  | .secOpen d => d.wf
  | .secOpenPw d => d.wf
  | .secClose d => d.wf
  | .secQuote d => d.wf
  | .secReadIdentity d => d.wf
  | .secFwStage d => d.wf
  | .fwStageDone _ => true
  | .secSvnCommit d => d.wf
  | .secProvision d => d.wf
  | .scopeExpiry k => below k 4
  | .nonceExpiry => true
  | .lockoutExpiry => true
  | .extest => true
  | .idcode => true
  | .samplePreload sampled shifted => below sampled (2 ^ 648) && below shifted (2 ^ 648)
  | .intest => true
  | .extestPulse => true
  | .extestTrain => true
  | .clamp => true
  | .highz => true
  | .lockChallenge => true
  | .lockResponse _ => true
  | .lockStatus => true
  | .debugAccess => true
  | .bypass code => below code 256
  | .powerOn => true
  | .resetNAssert _ => true
  | .pwrfailNAssert => true
  | .pwrfailNRelease => true
  | .railOutOfWindow r => below r 15
  | .referenceLoss why => below why 3
  | .thermalSample _ _ => true
  | .clkforceWrite b => b.wf
  | .clkRailEvtClear b => b.wf
  | .pcieLinkUp => true
  | .d3hotExit => true
  | .adcUrgentTimeout c => below c 34
  | .atPpsTimeout => true
  | .pgmExchangeTimeout n => below n 256
  | .switchoverTimeout => true
  | .ccrSetpointArrival m => below m 16
  | .destinationReport => true
  | .ptpDelayResponse dom => below dom 2
  | .pdelayReqTimer dom => below dom 2
  | .streamRecoveryReset k => below k 256
  | .referenceRequalified => true
  | .railReturn r => below r 15
  | .paiLaneUp l => below l 2
  | .canBusIdle n => below n 8

end Sys2Proof
end

