-- ==== Sys2Proof/Safety.lean ====
section
/-!
DEFINITION. Safety.lean: what statements about the block say of a run: when a descriptor starts, how a command
succeeds or fails, and the invariants that every step keeps.
-/
namespace Sys2Proof.Machine

/-! ## Commands -/

/-- The descriptor may start: the Spire die is up and its ring is enabled, neither halted nor executing (R57, R64, R71). -/
def canStart (d : Desc) (s : Device) : Bool :=
  s.btr.spireUp && !s.hif.d3hot && (ringOf s d.ring).enable && !(ringOf s d.ring).halted && !(ringOf s d.ring).busy

/-- The command as its block receives it. -/
def pendOf (d : Desc) (s : Device) : Pend :=
  let r := ringOf s d.ring
  { desc := d, index := r.ci, gen := s.hif.gen, live := r.enable, session := r.session, cpl := r.cpl, phase := r.phase }

/-- The block when the command starts: HIF's activity signal CMD has counted it (Table PMC-2). -/
def started (d : Desc) (s : Device) : Device := pmcEdge 0x00 0x80 d.ring s

/-- The block once the command `d`, which started in `s`, has completed with status `st` and DETAIL `detail`: `t` is the
block after its effect, and then the host buffer and the completion are written (R57, R62, R96). -/
def completed (d : Desc) (s : Device) (st : Status) (detail : Nat) (buf : List Byte) (t : Device) : Device :=
  finish (pendOf d s) st detail buf t

/-! ## Invariants -/

/-- Every command that waits is well formed. -/
def QueueOk (s : State) : Prop := ∀ c ∈ s.pending, c.wf = true

/-- In INIT, UNCONFIGURED and SAFE_FAULT both channels hold every safety gate low and no output stands as energised
(R557, R575, R585). -/
def SafeOff (s : State) : Prop :=
  (s.dev.saf.mode = .init ∨ s.dev.saf.mode = .unconfigured ∨ s.dev.saf.mode = .safeFault) →
    s.dev.saf.a.gates = 0 ∧ s.dev.saf.b.gates = 0 ∧ s.dev.saf.energised = 0

end Sys2Proof.Machine
end

