-- ==== Sys2Proof/Certificates/Slice0/Obligations.lean ====
section
/-!
DEFINITION. Certificates/Slice0/Obligations.lean: the statements about the block.
-/
open Sys2Proof Sys2Proof.Machine

/-- For every command c, queue rest and block d, a step with c in front is exec of c on d with the queue rest. (R64,
R66) -/
def Obligations.StepTakesFront : Prop :=
  ∀ (c : Instr) (rest : List Instr) (d : Device), step { pending := c :: rest, dev := d } = exec c
    { pending := rest, dev := d }

/-- For every command and state exec answers a next state; the commands that wait are unchanged, and only the block
may change. (R64, R66) -/
def Obligations.EveryCommandAnswers : Prop :=
  ∀ (c : Instr) (s : State), ∃ d : Device, exec c s = .next { s with dev := d }

/-- If every waiting command is well formed, so is every command that waits after a step. (02_host_rings_windows) -/
def Obligations.QueueStaysWellFormed : Prop :=
  ∀ (s t : State), QueueOk s → step s = .next t → QueueOk t

/-- An idle step advances working time by ADDEND on both dies, at least 0.9998 ns and at most 1.0002 ns while RATE
lies within 200 ppm; a device held in reset keeps its working time. That an idle step is one cycle is the model's
choice (log 2). (R473, R474) -/
def Obligations.IdleCycle : Prop :=
  (∀ (d : Device), d.clk.held = none → ∃ t, step { pending := [], dev := d } = .next { pending := [], dev := t } ∧
    t.tim.ck = d.tim.ck + 1 ∧ t.tim.dome = d.tim.dome + (2 ^ 32 + d.tim.rate).toNat ∧ t.tim.spire = d.tim.spire + (2
    ^ 32 + d.tim.rate).toNat ∧ (-858993 ≤ d.tim.rate → d.tim.rate ≤ 858993 → d.tim.dome + 9998 * 2 ^ 32 / 10000 ≤
    t.tim.dome ∧ t.tim.dome ≤ d.tim.dome + 10002 * 2 ^ 32 / 10000) ∧ t.saf = d.saf ∧ t.cfg = d.cfg ∧ t.hif = d.hif ∧
    t.evr = d.evr) ∧
  (∀ (d : Device), d.clk.held.isSome = true → step { pending := [], dev := d } = .next
    { pending := [], dev := { d with tim.ck := d.tim.ck + 1 } })

/-- A doorbell of valid width to an enabled ring writes PI; an index out of range raises DOORBELL_RANGE; a disabled
ring or an invalid width only counts in HIF_ACCERR. Under conditions on state and operands alone these complete:
ringDoorbell. (R56) -/
def Obligations.RingDoorbellWrite : Prop :=
  (∀ (n : Nat) (b : BusWrite) (s : State), n < 32 → b.off = 0 → (b.width = 4 ∨ b.width = 8) → (ringOf s.dev
    n).enable = true → b.value.toNat % 2 ^ 32 < 2 ^ 16 → b.value.toNat % 2 ^ 32 < 2 ^ (ringOf s.dev n).sizeLog2 →
    exec (.ringDoorbell n b) s = .next
    { s with dev := modRing n (fun r => { r with pi := b.value.toNat % 2 ^ 32 }) s.dev }) ∧
  (∀ (n : Nat) (b : BusWrite) (s : State), n < 32 → b.off = 0 → (b.width = 4 ∨ b.width = 8) → (ringOf s.dev
    n).enable = true → (2 ^ 16 ≤ b.value.toNat % 2 ^ 32 ∨ 2 ^ (ringOf s.dev n).sizeLog2 ≤ b.value.toNat % 2 ^ 32) →
    exec (.ringDoorbell n b) s = .next
    { s with dev := raise Ev.doorbellRange [(2, 8 * n), (4, b.value.toNat % 2 ^ 32)] s.dev }) ∧
  (∀ (n : Nat) (b : BusWrite) (s : State), ((ringOf s.dev n).enable = false ∨ b.off ≠ 0 ∨ (b.width ≠ 4 ∧ b.width ≠
    8)) → exec (.ringDoorbell n b) s = .next { s with dev := { s.dev with hif.accErr := s.dev.hif.accErr + 1 } })

/-- A doorbell within the range from the consumer index up to HIF_EVQ_PROD becomes the consumer index and, with a slot
free and no gap record owed, EVENT_RING_GAP is raised for what was missed; one outside raises DOORBELL_RANGE and
nothing else; a disabled event ring counts it in HIF_ACCERR. Under conditions on state and operands alone these
complete: eventRingDoorbell. (R78, R82) -/
def Obligations.EventRingDoorbellWrite : Prop :=
  (∀ (b : BusWrite) (s : State), b.off = 0 → (b.width = 4 ∨ b.width = 8) → s.dev.hif.evqEnable = true →
    b.value.toNat % 2 ^ 32 < 2 ^ s.dev.hif.evqSize → (b.value.toNat % 2 ^ 32 + 2 ^ s.dev.hif.evqSize -
    s.dev.hif.evqCons) % 2 ^ s.dev.hif.evqSize ≤ (s.dev.hif.evqProd + 2 ^ s.dev.hif.evqSize - s.dev.hif.evqCons) % 2
    ^ s.dev.hif.evqSize → exec (.eventRingDoorbell b) s = .next
    { s with dev := if evqSpace { s.dev with hif.evqCons := b.value.toNat % 2 ^ 32 } && !s.dev.hif.evqGapOwed then raiseRingGap { s.dev with hif.evqCons := b.value.toNat % 2 ^ 32 } else { s.dev with hif.evqCons := b.value.toNat % 2 ^ 32 } }) ∧
  (∀ (b : BusWrite) (s : State), b.off = 0 → (b.width = 4 ∨ b.width = 8) → s.dev.hif.evqEnable = true → (2 ^
    s.dev.hif.evqSize ≤ b.value.toNat % 2 ^ 32 ∨ (s.dev.hif.evqProd + 2 ^ s.dev.hif.evqSize - s.dev.hif.evqCons) % 2
    ^ s.dev.hif.evqSize < (b.value.toNat % 2 ^ 32 + 2 ^ s.dev.hif.evqSize - s.dev.hif.evqCons) % 2 ^
    s.dev.hif.evqSize) → exec (.eventRingDoorbell b) s = .next
    { s with dev := raise Ev.doorbellRange [(2, 0x100), (4, b.value.toNat % 2 ^ 32)] s.dev }) ∧
  (∀ (b : BusWrite) (s : State), s.dev.hif.evqEnable = false → exec (.eventRingDoorbell b) s = .next
    { s with dev := { s.dev with hif.accErr := s.dev.hif.accErr + 1 } })

/-- On an enabled ring that is not halted, outside D3hot, a fetch that finds pending slots and room for them among the
8 ahead of execution reads their 64 bytes each, in ring order, and appends their descriptors to those fetched. On an
idle ring a read that fails completes its slot with TIMEOUT or DATA_ERROR, TAG 0. With the Spire die up and outside
D3hot, a dispatch takes the oldest fetched descriptor of the ring that servedRing names, marks that ring as served
last in its class, and starts there the command that the opcode names. While rings of both classes are ready,
servedRing names one of the first class. A descriptor that may start and whose block ID is unassigned, or that of PMC,
CLK or TST, completes with UNSUPPORTED, DETAIL 0, and does nothing else. NOP with all its fields zero completes OK
with DETAIL 0; with TARGET not zero and FLAGS and BUF_LEN in order it completes with BAD_FIELD, DETAIL 8. Under
conditions on state and operands alone these complete: descriptorFetch, commandDispatch, unsupportedOpcode, nop. (R56,
R57, R59, R60, R64, R67, R68, R69, R30, R745, R801, R102) -/
def Obligations.DescriptorsFetchAndStart : Prop :=
  (∀ (n : Nat) (imgs : List (List Byte)) (s : State), n < 32 → (ringOf s.dev n).enable = true → (ringOf s.dev
    n).halted = false → s.dev.hif.d3hot = false → ((ringOf s.dev n).prefetch = [] ∨ ∃ d rest, (ringOf s.dev
    n).prefetch = .desc d :: rest) → (ringOf s.dev n).prefetch.length + imgs.length ≤ 8 → (ringOf s.dev
    n).prefetch.length + imgs.length ≤ pendingCount (ringOf s.dev n) → exec (.descriptorFetch n (imgs.map .bytes)) s
    = .next
    { s with dev := modRing n (fun r => { r with prefetch := r.prefetch ++ imgs.map (fun b => .desc (descOf n b)) }) ((List.range imgs.length).foldl (fun t j => toHost (.read ((ringOf s.dev n).base.toNat + 64 * (((ringOf s.dev n).ci + (ringOf s.dev n).prefetch.length + j) % 2 ^ (ringOf s.dev n).sizeLog2)) 64) t) s.dev) }) ∧
  (∀ (n : Nat) (a : Access) (s : State), n < 32 → (ringOf s.dev n).enable = true → (ringOf s.dev n).halted = false →
    (ringOf s.dev n).busy = false → s.dev.hif.d3hot = false → (ringOf s.dev n).prefetch = [] → 1 ≤ pendingCount
    (ringOf s.dev n) → exec (.descriptorFetch n [.fail a]) s = .next
    { s with dev := writeCompletion n 0 false (if a = .timeout then .timeout else .dataError) 0 (modRing n (fun r => { r with prefetch := [.fail a] }) (toHost (.read ((ringOf s.dev n).base.toNat + 64 * ((ringOf s.dev n).ci % 2 ^ (ringOf s.dev n).sizeLog2)) 64) s.dev)) }) ∧
  (∀ (prio : Bool) (n : Nat) (d : Desc) (rest : List Fetched) (buf : HostBuf) (got : List SlotRead) (bad : List Nat)
    (s : State), s.dev.btr.spireUp = true → s.dev.hif.d3hot = false → servedRing s.dev = some (prio, n) → (ringOf
    s.dev n).prefetch = .desc d :: rest → exec (.commandDispatch buf got bad) s = .next
    { s with dev := runCmd (commandBody got bad d.opcode.toNat) { d with ring := n, buf := buf } { s.dev with hif.lastRing := if prio then (n, s.dev.hif.lastRing.2) else (s.dev.hif.lastRing.1, n) } }) ∧
  (∀ (a b : Nat) (s : State), a < 32 → b < 32 → ringReady s.dev true a = true → ringReady s.dev false b = true → ∃
    n, servedRing s.dev = some (true, n) ∧ ringReady s.dev true n = true) ∧
  (∀ (d : Desc) (s : State), canStart d s.dev = true → (0x1A ≤ d.opcode.toNat / 256 ∨ d.opcode.toNat / 256 = 0x16 ∨
    d.opcode.toNat / 256 = 0x18 ∨ d.opcode.toNat / 256 = 0x19) → exec (.unsupportedOpcode d) s = .next
    { s with dev := completed d s.dev .unsupported 0 [] (started d s.dev) }) ∧
  (∀ (d : Desc) (s : State), canStart d s.dev = true → badField { target := false } [] d = none → exec (.nop d) s =
    .next { s with dev := completed d s.dev .ok 0 [] (started d s.dev) }) ∧
  (∀ (d : Desc) (s : State), canStart d s.dev = true → d.flags.toNat / 2 = 0 → d.target ≠ 0 → d.bufLen = 0 → exec
    (.nop d) s = .next { s with dev := completed d s.dev .badField 8 [] (started d s.dev) })

/-- A completion of ring n with status OK and no interrupt asked for writes one 16-byte record to the slot at CI of
the completion ring, moves CI on, moves PI with it where nothing else was pending, drops the descriptor from those
fetched, ends the execution and inverts PHASE at the end of the ring, and does nothing else. One with another status
leaves the ring halted, with the index of its slot as FAIL_INDEX and the status as FAIL_STATUS, and no longer
executing. (R57, R62, R63, R70) -/
def Obligations.CommandCompletes : Prop :=
  (∀ (n tag : Nat) (d : Nat) (s : Device), writeCompletion n tag false .ok d s = modRing n (fun r =>
    { r with ci := (r.ci + 1) % 2 ^ r.sizeLog2, pi := if r.pi = r.ci then (r.ci + 1) % 2 ^ r.sizeLog2 else r.pi, busy := false, phase := if (r.ci + 1) % 2 ^ r.sizeLog2 = 0 then !r.phase else r.phase, prefetch := r.prefetch.drop 1 })
    (toHost (.write ((ringOf s n).cpl.toNat + 16 * (ringOf s n).ci) (completionRec tag (ringOf s n).ci 0 (ringOf s
    n).phase (nowS s) d)) s)) ∧
  (∀ (n tag : Nat) (st : Status) (d : Nat) (s : Device), st ≠ .ok → (ringOf (writeCompletion n tag false st d s)
    n).halted = true ∧ (ringOf (writeCompletion n tag false st d s) n).failIndex = (ringOf s n).ci ∧ (ringOf
    (writeCompletion n tag false st d s) n).failStatus = st.code ∧ (ringOf (writeCompletion n tag false st d s)
    n).busy = false)

/-- RING_RESUME of an enabled and halted ring in a descriptor that may start completes OK with the count that
resumeRing flushes, and the ring is resumed. Resuming with CONTINUE raises RING_RESUMED with count 0, discards what
was fetched and clears HALTED. A write of MODE 1 or 2 to HIF_QRESUMEn of an enabled and halted ring resumes it with
CONTINUE or FLUSH. Setting ENABLE of a disabled ring with a SIZE_LOG2 of 6 to 16 takes SIZE_LOG2, VECTOR and PRIO, and
restarts the indices and the phase with nothing fetched and HALTED clear. Clearing ENABLE of an enabled ring that
executes nothing, with its SIZE_LOG2 unchanged, drops what is pending. Under conditions on state and operands alone
these complete: ringResume, qresumeContinue, qresumeFlush, ringEnable, ringDisable. (R57, R64, R71, R72, R73, R74,
R75, R76) -/
def Obligations.RingRunState : Prop :=
  (∀ (d : Desc) (got : List SlotRead) (s : State), canStart d s.dev = true → d.target.toNat < 32 → badField
    { pmask := 1 } [(d.p0 != 1 && d.p0 != 2, 24)] d = none → (ringOf (started d s.dev) d.target.toNat).enable = true
    → (ringOf (started d s.dev) d.target.toNat).halted = true → exec (.ringResume d got) s = .next
    { s with dev := completed d s.dev .ok (resumeRing d.target.toNat (d.p0 == 2) got (started d s.dev)).1 [] (resumeRing d.target.toNat (d.p0 == 2) got (started d s.dev)).2 }) ∧
  (∀ (n : Nat) (s : Device), resumeRing n false [] s = (0, raise Ev.ringResumed [(1, n), (1, 1), (2, 0)] (modRing n
    (fun r => { r with prefetch := [], halted := false }) s))) ∧
  (∀ (n : Nat) (s : State), s.dev.btr.spireUp = true → n < 32 → (ringOf s.dev n).enable = true → (ringOf s.dev
    n).halted = true → exec (.qresumeContinue n) s = .next { s with dev := (resumeRing n false [] s.dev).2 }) ∧
  (∀ (n : Nat) (got : List SlotRead) (s : State), s.dev.btr.spireUp = true → n < 32 → (ringOf s.dev n).enable = true
    → (ringOf s.dev n).halted = true → exec (.qresumeFlush n got) s = .next
    { s with dev := (resumeRing n true got s.dev).2 }) ∧
  (∀ (n v : Nat) (s : State), n < 32 → s.dev.btr.spireUp = true → (ringOf s.dev n).enable = false → 6 ≤ bits 4 0 v →
    bits 4 0 v ≤ 16 → exec (.ringEnable n v) s = .next
    { s with dev := modRing n (fun r => { r with sizeLog2 := bits 4 0 v, vector := bits 13 8 v, prio := bit 17 v, enable := true, ci := 0, pi := 0, phase := true, halted := false, prefetch := [], session := r.session + 1 }) s.dev }) ∧
  (∀ (n v : Nat) (s : State), n < 32 → s.dev.btr.spireUp = true → (ringOf s.dev n).enable = true → (ringOf s.dev
    n).busy = false → bits 4 0 v = (ringOf s.dev n).sizeLog2 → exec (.ringDisable n v) s = .next
    { s with dev := modRing n (fun r => { r with vector := bits 13 8 v, prio := bit 17 v, enable := false, prefetch := [], pi := r.ci }) s.dev })

/-- With the Spire die up, setting ENABLE of a disabled event ring with a SIZE_LOG2 of 6 to 16 takes SIZE_LOG2, VECTOR
and MIN_SEV, restarts the indices and the phase and raises EVENT_RING_GAP for what was missed. Clearing ENABLE of an
enabled event ring that holds nothing, with its size unchanged, takes VECTOR and MIN_SEV and disables it. A delivery
to an enabled ring with a free slot, outside D3hot, with no gap record owed and nothing missed, writes the oldest held
record. A delivery with the ring full or disabled changes nothing. Under conditions on state and operands alone these
complete: eventRingEnable, eventRingDisable, eventDelivery. (R49, R77, R79, R82) -/
def Obligations.EventRingRunState : Prop :=
  (∀ (v : Nat) (s : State), s.dev.btr.spireUp = true → s.dev.hif.evqEnable = false → 6 ≤ bits 4 0 v → bits 4 0 v ≤
    16 → exec (.eventRingEnable v) s = .next
    { s with dev := raiseRingGap { s.dev with hif.evqSize := bits 4 0 v, hif.evqVector := bits 13 8 v, hif.evqMinSev := bits 18 16 v, hif.evqEnable := true, hif.evqProd := 0, hif.evqCons := 0, hif.evqPhase := true } }) ∧
  (∀ (v : Nat) (s : State), s.dev.btr.spireUp = true → s.dev.hif.evqEnable = true → bits 4 0 v = s.dev.hif.evqSize →
    s.dev.hif.evqHeld = [] → s.dev.hif.evqGapRec = none → exec (.eventRingDisable v) s = .next
    { s with dev := { s.dev with hif.evqVector := bits 13 8 v, hif.evqMinSev := bits 18 16 v, hif.evqEnable := false, hif.evqGapOwed := false } }) ∧
  (∀ (r : EvRec) (rest : List EvRec) (s : State), s.dev.hif.evqEnable = true → evqSpace s.dev = true →
    s.dev.hif.d3hot = false → s.dev.hif.evqGapOwed = false → s.dev.hif.evqMiss = none → s.dev.hif.evqHeld = r ::
    rest → exec .eventDelivery s = .next { s with dev := writeEvent r { s.dev with hif.evqHeld := rest } }) ∧
  (∀ (s : State), (evqSpace s.dev = false ∨ s.dev.hif.evqEnable = false) → exec .eventDelivery s = .next s)

/-- WINDOW_BIND, in a descriptor that may start with its fields in order, of an enabled, unbound window below 16 to an
existing source of its direction other than the counter dump, which no window has, completes OK with the payload bytes
of a segment, and the window starts at segment 0 with no segment of its own, P2 as flush interval, and SEQ 0, or P3
for a host-to-device window. WINDOW_BIND and WINDOW_RELEASE of a window above 15 complete with NOT_FOUND.
WINDOW_RELEASE of a bound host-to-device window completes OK with the last SEQ and unbinds it. With the Spire die up,
an aligned 32-bit write of HIF_WCFGw with ENABLE clear takes effect on an unbound window; a 32-bit write of either
half of HIF_WBASEw or of HIF_WCFGw of a bound window changes nothing but CFG_ERR, which it sets. Under conditions on
state and operands alone these complete: windowBind, windowRelease, windowConfigWrite. (R51, R57, R64, R71, R102,
R103, R106, R809) -/
def Obligations.WindowsBoundAndReleased : Prop :=
  (∀ (d : Desc) (s : State), canStart d s.dev = true → d.target.toNat < 16 → badField { pmask := 0xF } [(1000000 <
    d.p2.toNat, 32)] d = none → d.p1 = 0 → d.p0 ≠ 0x1600 → sourceDir d.p0.toNat = some (winOf s.dev
    d.target.toNat).d2h → sourceExists (started d s.dev) d.p0.toNat = true → (winOf s.dev d.target.toNat).enable =
    true → (winOf s.dev d.target.toNat).bound = none → windowOf (started d s.dev) d.p0.toNat = none → exec
    (.windowBind d) s = .next
    { s with dev := completed d s.dev .ok (segRoom (winOf s.dev d.target.toNat)) [] (modWin d.target.toNat (fun w => { w with bound := some d.p0.toNat, next := 0, owned := 0, starved := false, flushUs := d.p2.toNat, seq := if w.d2h then 0 else d.p3, fill := [], fillTime := none, idleFrom := nowS s.dev, rx := [], hold := [], bad := false }) (started d s.dev)) }) ∧
  (∀ (d : Desc) (s : State), canStart d s.dev = true → 16 ≤ d.target.toNat → exec (.windowBind d) s = .next
    { s with dev := completed d s.dev .notFound 0 [] (started d s.dev) } ∧ exec (.windowRelease d) s = .next
    { s with dev := completed d s.dev .notFound 0 [] (started d s.dev) }) ∧
  (∀ (d : Desc) (s : State), canStart d s.dev = true → d.target.toNat < 16 → badField plain [] d = none → (winOf
    s.dev d.target.toNat).bound.isSome = true → (winOf s.dev d.target.toNat).d2h = false → exec (.windowRelease d) s
    = .next
    { s with dev := completed d s.dev .ok ((winOf s.dev d.target.toNat).seq - 1).toNat [] (modWin d.target.toNat (fun w => { w with bound := none, hold := [], rx := [] }) (started d s.dev)) }) ∧
  (∀ (n : Nat) (b : BusWrite) (s : State), n < 16 → s.dev.btr.spireUp = true → b.width = 4 → b.off = 8 → (winOf
    s.dev n).bound = none → bit 6 (b.value.toNat % 2 ^ 32) = false → exec (.windowConfigWrite n b) s = .next
    { s with dev := modWin n (fun w => { w with segLog2 := bits 4 0 (b.value.toNat % 2 ^ 32), d2h := bit 5 (b.value.toNat % 2 ^ 32), enable := false, vector := bits 13 8 (b.value.toNat % 2 ^ 32), countM1 := bits 27 16 (b.value.toNat % 2 ^ 32) }) s.dev }) ∧
  (∀ (n : Nat) (b : BusWrite) (s : State), n < 16 → s.dev.btr.spireUp = true → b.width = 4 → (b.off = 0 ∨ b.off = 4
    ∨ b.off = 8) → (winOf s.dev n).bound.isSome = true → exec (.windowConfigWrite n b) s = .next
    { s with dev := { s.dev with hif.cfgErr := true } })

/-- A window doorbell that names a segment of an enabled, bound window, outside D3hot, gives a device-to-host window
at least as many segments as it covers at OWN = 1, and clears the stall if there is one; of a host-to-device window it
takes those beyond the ones in use into use, oldest first. After either, CAN takes what it waits for. Outside D3hot,
with a segment owned and the flush interval passed since the instant that flushFrom gives, WINDOW_FLUSH_TIMEOUT of a
bound device-to-host window hands back what the source holds, and with nothing in the segment and no ring as source an
empty segment. A hand-back of an empty segment writes the header at offset 1 and then OWN = 0, moves on to the next
segment, gives up the one owned, adds 1 to SEQ and signals the vector. SEGMENT_HANDBACK of a window bound to a
recorder or converter ring, enabled and device-to-host, drains the ring; with a segment owned, outside D3hot, and
fewer records waiting than a segment holds, the segment then holds the bytes of all of them. Neither changes an
unbound window. Under conditions on state and operands alone these complete: windowDoorbell, windowFlushTimeout,
segmentHandback. (R49, R52, R84, R86, R88, R89, R91, R93, R97, R289, R662) -/
def Obligations.SegmentsPassAndReturn : Prop :=
  (∀ (n : Nat) (b : BusWrite) (segs : List HostSeg) (s : State), n < 16 → b.off = 0 → b.width = 4 → b.value.toNat %
    2 ^ 32 ≤ (winOf s.dev n).countM1 → (winOf s.dev n).enable = true → s.dev.hif.d3hot = false → (winOf s.dev
    n).bound.isSome = true → (winOf s.dev n).d2h = true → exec (.windowDoorbell n b segs) s = .next
    { s with dev := canFeedAll (modWin n (fun w => { w with owned := max w.owned (coveredSegs (winOf s.dev n) (b.value.toNat % 2 ^ 32) segs).length, starved := w.starved && (coveredSegs (winOf s.dev n) (b.value.toNat % 2 ^ 32) segs).isEmpty }) s.dev) }) ∧
  (∀ (n : Nat) (b : BusWrite) (segs : List HostSeg) (s : State), n < 16 → b.off = 0 → b.width = 4 → b.value.toNat %
    2 ^ 32 ≤ (winOf s.dev n).countM1 → (winOf s.dev n).enable = true → s.dev.hif.d3hot = false → (winOf s.dev
    n).bound.isSome = true → (winOf s.dev n).d2h = false → exec (.windowDoorbell n b segs) s = .next
    { s with dev := canFeedAll (((coveredSegs (winOf s.dev n) (b.value.toNat % 2 ^ 32) segs).drop (winOf s.dev n).owned).foldl (takeSegment n) s.dev) }) ∧
  (∀ (n : Nat) (s : State), (winOf s.dev n).bound.isSome = true → (winOf s.dev n).d2h = true → 0 < (winOf s.dev
    n).flushUs → flushFrom n s.dev + usT (winOf s.dev n).flushUs ≤ nowS s.dev → 0 < (winOf s.dev n).owned →
    s.dev.hif.d3hot = false → exec (.windowFlushTimeout n) s = .next { s with dev := handBackPart n true s.dev }) ∧
  (∀ (n : Nat) (s : State), (winOf s.dev n).bound.isSome = true → (winOf s.dev n).d2h = true → 0 < (winOf s.dev
    n).flushUs → (winOf s.dev n).fill = [] → ringSource s.dev ((winOf s.dev n).bound.getD 0) = none → (winOf s.dev
    n).idleFrom + usT (winOf s.dev n).flushUs ≤ nowS s.dev → 0 < (winOf s.dev n).owned → s.dev.hif.d3hot = false →
    exec (.windowFlushTimeout n) s = .next { s with dev := handBack n s.dev }) ∧
  (∀ (n : Nat) (s : Device), (winOf s n).fill = [] → (winOf s n).fillTime = none → handBack n s = signalVector
    (winOf s n).vector (modWin n (fun w =>
    { w with next := (w.next + 1) % (w.countM1 + 1), owned := w.owned - 1, seq := w.seq + 1, fill := [], fillTime := none, idleFrom := nowS s })
    (toHost (.write ((winOf s n).base.toNat + (winOf s n).next * 2 ^ (winOf s n).segLog2) [0#8]) (toHost (.write
    ((winOf s n).base.toNat + (winOf s n).next * 2 ^ (winOf s n).segLog2 + 1) (segHeader 0 ((winOf s n).bound.getD
    0) (winOf s n).seq.toNat [] (nowS s))) s)))) ∧
  (∀ (n : Nat) (s : State), (winOf s.dev n).bound = none → exec (.segmentHandback n) s = .next s ∧ exec
    (.windowFlushTimeout n) s = .next s) ∧
  (∀ (n typ : Nat) (src : Nat) (recs : List BufRec) (s : State), (winOf s.dev n).bound = some src → (winOf s.dev
    n).d2h = true → (winOf s.dev n).enable = true → ringSource s.dev src = some (typ, recs) → exec (.segmentHandback
    n) s = .next { s with dev := drainRing n typ recs s.dev }) ∧
  (∀ (n typ : Nat) (src : Nat) (recs : List BufRec) (s : State), (winOf s.dev n).bound = some src → (winOf s.dev
    n).d2h = true → (winOf s.dev n).enable = true → ringSource s.dev src = some (typ, recs) → recs ≠ [] →
    recs.length < segRoom (winOf s.dev n) / ringUnit typ → 0 < (winOf s.dev n).owned → s.dev.hif.d3hot = false → ∃
    t, exec (.segmentHandback n) s = .next { s with dev := t } ∧ (winOf t n).fill = recs.flatMap (·.bytes) ∧ (winOf
    t n).fillType = typ ∧ (winOf t n).owned = (winOf s.dev n).owned ∧ t.ltn = s.dev.ltn ∧ t.adc = s.dev.adc)

/-- A vector that has gathered a signal and is not masked fires TIME_US after the first signal, 100 µs where TIME_US
is 0: it has then gathered none, and its message is sent. A vector that has gathered none does not fire. Unmasking a
masked vector sends the interrupt that it kept, if it kept one, and keeps none. Under conditions on state and operands
alone these complete: interruptCoalesceTimeout, msixVectorUnmask. (R94, R95) -/
def Obligations.InterruptsFire : Prop :=
  (∀ (v : Nat) (s : State), 0 < (vecOf s.dev v).gathered → (vecOf s.dev v).firstAt + usT (if (vecOf s.dev v).timeUs
    = 0 then 100 else (vecOf s.dev v).timeUs) ≤ nowS s.dev → (vecOf s.dev v).masked = false → ∃ t, exec
    (.interruptCoalesceTimeout v) s = .next { s with dev := toHost (.msix v) t } ∧ (vecOf t v).gathered = 0 ∧
    t.hif.rings = s.dev.hif.rings) ∧
  (∀ (v : Nat) (s : State), (vecOf s.dev v).gathered = 0 → exec (.interruptCoalesceTimeout v) s = .next s) ∧
  (∀ (v : Nat) (s : State), (vecOf s.dev v).masked = true → (vecOf s.dev v).pba = true → exec (.msixVectorUnmask v)
    s = .next
    { s with dev := toHost (.msix v) (modVec v (fun q => { q with masked := false, pba := false }) s.dev) }) ∧
  (∀ (v : Nat) (s : State), (vecOf s.dev v).masked = true → (vecOf s.dev v).pba = false → exec (.msixVectorUnmask v)
    s = .next { s with dev := modVec v (fun q => { q with masked := false, pba := false }) s.dev })

/-- After a PCIe link-down, hot reset or Function Level Reset every ring, the event ring and every window is disabled,
HIF_LOST_CPL keeps its count, and configuration, Dispatch, the loop engine, both converters, digital I/O, motion, the
drives, time, Ethernet, CAN, programs, the fallback logic, Belfry, Keep, the pair and security are as they were.
PERST_N does the same as a hot reset. Under conditions on state and operands alone these complete: pcieLinkDown,
perstNAssert. (R99) -/
def Obligations.LinkDownResetsHifAlone : Prop :=
  (∀ (why : LinkLoss) (ltssm lost : Nat) (s : State), ∃ t, exec (.pcieLinkDown why ltssm lost) s = .next
    { s with dev := t } ∧ t.hif.rings = [] ∧ t.hif.windows = [] ∧ t.hif.evqEnable = false ∧ t.hif.lostCpl =
    s.dev.hif.lostCpl ∧ t.cfg = s.dev.cfg ∧ t.dpt = s.dev.dpt ∧ t.lpe = s.dev.lpe ∧ t.adc = s.dev.adc ∧ t.dac =
    s.dev.dac ∧ t.dio = s.dev.dio ∧ t.mot = s.dev.mot ∧ t.ccr = s.dev.ccr ∧ t.tim = s.dev.tim ∧ t.eth = s.dev.eth ∧
    t.can = s.dev.can ∧ t.pgm = s.dev.pgm ∧ t.fbl = s.dev.fbl ∧ t.saf = s.dev.saf ∧ t.kep = s.dev.kep ∧ t.pai =
    s.dev.pai ∧ t.sec = s.dev.sec) ∧
  (∀ (ltssm lost : Nat) (s : State), exec (.perstNAssert ltssm lost) s = exec (.pcieLinkDown .hotReset ltssm lost)
    s)

/-- Entry into D3hot sets the state and changes nothing else, and in D3hot what is sent to the host is held back at
the end of what waits. A return to D0 with no window doorbell waiting sends what was held in order, and CAN takes what
it waits for; in D0 it only does the latter. A read of HIF_STATUS with the Spire die up returns it and clears CFG_ERR.
With the Spire die up and its PLLs locked the trained link sets LINK_UP. Under conditions on state and operands alone
these complete: pcieD3hotEntry, d3hotExit, hifStatusRead, pcieLinkUp. (R49, R105, R790) -/
def Obligations.PowerStatesOfTheLink : Prop :=
  (∀ (s : State), exec .pcieD3hotEntry s = .next { s with dev := { s.dev with hif.d3hot := true } }) ∧
  (∀ (o : Out) (s : Device), s.hif.d3hot = true → toHost o s = { s with hif.heldOut := s.hif.heldOut ++ [o] }) ∧
  (∀ (s : State), s.dev.hif.d3hot = true → s.dev.hif.heldBells = [] → exec .d3hotExit s = .next
    { s with dev := canFeedAll { s.dev.hif.heldOut.foldl sendHost s.dev with hif.heldOut := [], hif.heldBells := [], hif.d3hot := false } }) ∧
  (∀ (s : State), s.dev.hif.d3hot = false → exec .d3hotExit s = .next { s with dev := canFeedAll s.dev }) ∧
  (∀ (s : State), s.dev.btr.spireUp = true → exec .hifStatusRead s = .next
    { s with dev := emit (.reg 0x8 (hifStatus s.dev)) { s.dev with hif.cfgErr := false } }) ∧
  (∀ (s : State), s.dev.btr.spireUp = true → s.dev.clk.spirePlls = true → exec .pcieLinkUp s = .next
    { s with dev := { s.dev with hif.linkUp := true } })

/-- With the Spire die up, a 32-bit write of HIF_ERRVEC sets the vector of errors to bits [5:0]. A write to BAR0 that
is narrow or unaligned is ignored and counted in HIF_ACCERR, and so are a 32-bit write below offset 0x2000 while the
Spire die is down and a write to a reserved offset of BAR2. A 32-bit write of a vector control word of BAR4 with the
mask bit set masks that vector. Under conditions on state and operands alone these complete: registerWrite. (R50, R51,
R52, R92, R95, R105, R705) -/
def Obligations.RegisterWrites : Prop :=
  (∀ (b : BusWrite) (s : State), b.off = 0x20 → b.width = 4 → s.dev.btr.spireUp = true → exec (.registerWrite .bar0
    b) s = .next { s with dev := { s.dev with hif.errVec := b.value.toNat % 2 ^ 32 % 64 } }) ∧
  (∀ (b : BusWrite) (s : State), ((b.width ≠ 4 ∧ b.width ≠ 8) ∨ b.off % b.width ≠ 0) → exec (.registerWrite .bar0 b)
    s = .next { s with dev := { s.dev with hif.accErr := s.dev.hif.accErr + 1 } }) ∧
  (∀ (b : BusWrite) (s : State), b.width = 4 → b.off % 4 = 0 → b.off < 0x2000 → s.dev.btr.spireUp = false → exec
    (.registerWrite .bar0 b) s = .next { s with dev := { s.dev with hif.accErr := s.dev.hif.accErr + 1 } }) ∧
  (∀ (b : BusWrite) (s : State), ((0x108 ≤ b.off ∧ b.off < 0x200) ∨ 0x280 ≤ b.off) → exec (.registerWrite .bar2 b) s
    = .next { s with dev := { s.dev with hif.accErr := s.dev.hif.accErr + 1 } }) ∧
  (∀ (n : Nat) (b : BusWrite) (s : State), n < 64 → b.width = 4 → b.off = 16 * n + 12 → bit 0 (b.value.toNat % 2 ^
    32) = true → exec (.registerWrite .bar4 b) s = .next
    { s with dev := modVec n (fun q => { q with masked := true }) s.dev })

/-- In a descriptor that may start with its fields in order: CFG_LOAD_BASE of a readable image that passes its checks,
on a device that is not RUNNING, with no output written by two programs and no write of the Keep failing, loads it and
completes OK with its version. CFG_STOP of a RUNNING device with every loop open and every axis at rest, nothing
staging and nothing armed, enters LOADED and completes OK with DETAIL 0. CFG_RUN of a LOADED device outside a pair,
with a Belfry configuration, working time set, its ports in order and the restart complete, goes RUNNING and completes
OK with the version. CFG_LOAD_BASE of a RUNNING device, CFG_STOP of one that is not RUNNING and CFG_RUN of one that is
not LOADED complete with REJECTED_STATE. Under conditions on state and operands alone these complete: cfgLoadBase,
cfgStop, cfgRun. (R57, R64, R71, R107, R110, R111, R112, R146, R806, R809) -/
def Obligations.ConfigurationMoves : Prop :=
  (∀ (d : Desc) (s : State), canStart d s.dev = true → badField { target := false, bufMin := 1, bufMax := 16777216 }
    [] d = none → d.buf.acc = .ok → s.dev.cfg.mode ≠ .running → checkBase d.buf.bytes d.bufLen.toNat = .good →
    imageWriters (started d s.dev) (imageObjects d.buf.bytes) = false → d.bad.filter storeSector = [] → exec
    (.cfgLoadBase d) s = .next
    { s with dev := completed d s.dev .ok (baseLoaded (paiLoaded (applyImage d.buf.bytes (resync 3 (started d s.dev))))).cfg.baseVersion [] { baseLoaded (paiLoaded (applyImage d.buf.bytes (resync 3 (started d s.dev)))) with kep.choice := false } }) ∧
  (∀ (d : Desc) (s : State), canStart d s.dev = true → badField { target := false, bufMin := 1, bufMax := 16777216 }
    [] d = none → s.dev.cfg.mode = .running → exec (.cfgLoadBase d) s = .next
    { s with dev := completed d s.dev .rejectedState 0 [] (started d s.dev) }) ∧
  (∀ (d : Desc) (s : State), canStart d s.dev = true → badField { target := false } [] d = none → s.dev.cfg.mode =
    .running → allOpen s.dev = true → s.dev.cfg.staging = [] → s.dev.cfg.armed = [] → s.dev.pai.synced = false →
    exec (.cfgStop d) s = .next { s with dev := completed d s.dev .ok 0 [] (enterLoaded (started d s.dev)) }) ∧
  (∀ (d : Desc) (s : State), canStart d s.dev = true → badField { target := false } [] d = none → s.dev.cfg.mode ≠
    .running → exec (.cfgStop d) s = .next
    { s with dev := completed d s.dev .rejectedState 0 [] (started d s.dev) }) ∧
  (∀ (d : Desc) (s : State), canStart d s.dev = true → badField { target := false } [] d = none → s.dev.cfg.mode ≠
    .loaded → exec (.cfgRun d) s = .next { s with dev := completed d s.dev .rejectedState 0 [] (started d s.dev) }) ∧
  (∀ (d : Desc) (s : State), canStart d s.dev = true → badField { target := false } [] d = none → s.dev.cfg.mode =
    .loaded → s.dev.saf.cfg ≠ [] → s.dev.tim.mode ≠ .unset → safPortsOk (started d s.dev) = true → s.dev.kep.phase =
    .up → s.dev.pai.claim = none → s.dev.pai.mode = .off → exec (.cfgRun d) s = .next
    { s with dev := completed d s.dev .ok (goRunning (started d s.dev)).cfg.version [] (goRunning (started d s.dev)) })

/-- In a descriptor that may start with its fields in order, and outside a synced pair: CFG_OVERLAY_LOAD into a slot
below 512 that is not armed, of a configured device, of an overlay that passes its checks and fits the store, with no
write of the Keep failing, stores it and completes OK with the store that stays free. CFG_OVERLAY_ARM of a stored
overlay that is neither armed nor staging, on a RUNNING device, at least 200 µs before its commit time and with no
check failing, stages it and stays in progress. CFG_OVERLAY_DISARM of the overlay armed last, while 50 µs remain,
withdraws it, raises CFG_DISARMED and completes OK with its version; later it completes with LATE. CFG_OVERLAY_DELETE
of a stored overlay that is neither armed nor staging removes it and completes OK with the store that stays free.
CFG_OVERLAY_LOAD, ARM and DELETE of a slot above 511 complete with NOT_FOUND. Staging that is done more than 20 µs
before the commit time arms the overlay; one that is not done by then completes with TIMEOUT and is withdrawn. Under
conditions on state and operands alone these complete: cfgOverlayLoad, cfgOverlayArm, cfgOverlayDelete,
overlayStagingDone, stageGuardTimeout, cfgOverlayDisarm. (R57, R64, R71, R115, R116, R120, R122, R123, R125, R126,
R127, R147) -/
def Obligations.OverlaysStored : Prop :=
  (∀ (d : Desc) (s : State), canStart d s.dev = true → d.target.toNat < 512 → d.bad.filter storeSector = [] →
    badField { bufMin := 1, bufMax := 65536 } [] d = none → d.buf.acc = .ok → s.dev.cfg.mode ≠ .unconfigured →
    slotArmed (started d s.dev) d.target.toNat = false → overlayFault (started d s.dev) d.buf.bytes d.bufLen.toNat =
    none → (parseOverlay d.buf.bytes).length ≤ storeFree
    { started d s.dev with cfg.overlays := tdel s.dev.cfg.overlays d.target.toNat } → s.dev.pai.synced = false → let
    t : Device :=
    { started d s.dev with cfg.overlays := tset s.dev.cfg.overlays d.target.toNat (parseOverlay d.buf.bytes) }; exec
    (.cfgOverlayLoad d) s = .next { s with dev := completed d s.dev .ok (storeFree t) [] t }) ∧
  (∀ (d : Desc) (s : State), canStart d s.dev = true → 512 ≤ d.target.toNat → exec (.cfgOverlayLoad d) s = .next
    { s with dev := completed d s.dev .notFound 0 [] (started d s.dev) } ∧ exec (.cfgOverlayArm d) s = .next
    { s with dev := completed d s.dev .notFound 0 [] (started d s.dev) } ∧ exec (.cfgOverlayDelete d) s = .next
    { s with dev := completed d s.dev .notFound 0 [] (started d s.dev) }) ∧
  (∀ (d : Desc) (s : State), canStart d s.dev = true → d.target.toNat < 512 → (tfind s.dev.cfg.overlays
    d.target.toNat).isSome = true → badField { pmask := 0xF } [(1000000000 ≤ d.p0.toNat, 24), (1 < d.p3.toNat, 36)]
    d = none → s.dev.cfg.mode = .running → slotArmed (started d s.dev) d.target.toNat = false → nowS s.dev + usT 200
    ≤ armCommit d → armFault (started d s.dev) (tget s.dev.cfg.overlays d.target.toNat {}) (armCommit d) (bit 0
    d.p3.toNat) = none → exec (.cfgOverlayArm d) s = .next
    { s with dev := modRing d.ring (fun r => { r with busy := true }) { started d s.dev with cfg.staging := s.dev.cfg.staging ++ [{ slot := d.target.toNat, commit := armCommit d, recv := nowS s.dev, pend := pendOf d s.dev }] } }) ∧
  (∀ (g : Staging) (rest : List Staging) (s : State), s.dev.cfg.staging = g :: rest → g.seq = none → nowS s.dev +
    usT 20 < g.commit → s.dev.pai.synced = false → exec .overlayStagingDone s = .next
    { s with dev := armNow g s.dev }) ∧
  (∀ (g : Staging) (s : State), s.dev.cfg.staging = [g] → s.dev.pai.synced = false → g.commit ≤ nowS s.dev + usT 20
    → exec .stageGuardTimeout s = .next
    { s with dev := finish g.pend .timeout 0 [] { s.dev with cfg.staging := [] } }) ∧
  (∀ (d : Desc) (a : Armed) (s : State), canStart d s.dev = true → badField plain [] d = none →
    s.dev.cfg.armed.getLast? = some a → a.slot = d.target.toNat → nowS s.dev + usT 50 ≤ a.commit → s.dev.pai.synced
    = false → exec (.cfgOverlayDisarm d) s = .next
    { s with dev := completed d s.dev .ok a.version [] (raise Ev.cfgDisarmed [(2, d.target.toNat), (2, a.version)] { started d s.dev with cfg.armed := s.dev.cfg.armed.dropLast }) }) ∧
  (∀ (d : Desc) (a : Armed) (s : State), canStart d s.dev = true → badField plain [] d = none →
    s.dev.cfg.armed.getLast? = some a → a.slot = d.target.toNat → a.commit < nowS s.dev + usT 50 → exec
    (.cfgOverlayDisarm d) s = .next { s with dev := completed d s.dev .late 0 [] (started d s.dev) }) ∧
  (∀ (d : Desc) (s : State), canStart d s.dev = true → d.target.toNat < 512 → d.bad.filter storeSector = [] →
    badField plain [] d = none → (tfind s.dev.cfg.overlays d.target.toNat).isSome = true → slotArmed (started d
    s.dev) d.target.toNat = false → s.dev.pai.synced = false → let t : Device :=
    { started d s.dev with cfg.overlays := tdel s.dev.cfg.overlays d.target.toNat }; exec (.cfgOverlayDelete d) s =
    .next { s with dev := completed d s.dev .ok (storeFree t) [] t })

/-- Where no pair holds commits back, the overlay armed first commits once Dome working time has reached its commit
time: it leaves the armed list, its version comes into force and Belfry keeps its configuration; before that
CFG_COMMIT changes nothing. CFG_READ_RECORD, in a descriptor that may start with its fields in order, of an object
that exists and a version that is kept, completes OK with the version and writes the bytes of the record to the host
buffer. The expiry of records drops those superseded longer ago than t_VERSION_KEEP, and nothing else. Under
conditions on state and operands alone these complete: cfgCommit, cfgReadRecord, versionRecordExpiry. (R57, R64, R71,
R128, R132, R142, R146, R148) -/
def Obligations.CommitsAndRecords : Prop :=
  (∀ (a : Armed) (rest : List Armed) (s : State), s.dev.cfg.armed = a :: rest → nowD s.dev < a.commit → exec
    .cfgCommit s = .next s) ∧
  (∀ (a : Armed) (rest : List Armed) (s : State), s.dev.cfg.armed = a :: rest → a.commit ≤ nowD s.dev → holdsArmed
    s.dev = false → ∃ t, exec .cfgCommit s = .next { s with dev := t } ∧ t.cfg.armed = rest ∧ t.cfg.version =
    a.version ∧ t.saf.cfg = s.dev.saf.cfg) ∧
  (∀ (d : Desc) (o : CfgObj) (v : Nat) (b : List Byte) (s : State), canStart d s.dev = true → cfgObj (started d
    s.dev) d.p0.toNat d.p1.toNat d.target.toNat = some o → recOfVersion (started d s.dev) o d.p2.toNat = some (v, b)
    → badField { pmask := 7, bufMin := o.base.length, bufMax := 16777216 } [] d = none → exec (.cfgReadRecord d) s =
    .next { s with dev := completed d s.dev .ok v b (started d s.dev) }) ∧
  (∀ (s : State), exec .versionRecordExpiry s = .next
    { s with dev := { s.dev with cfg.objs := s.dev.cfg.objs.map (fun o => { o with old := o.old.filter (fun r => nowD s.dev < r.till + usT s.dev.cfg.keepUs) }) } })

/-- The oldest token on its way in a stream arrives; with none on its way nothing happens. With Dispatch running, the
primary wait of a WAITING task that has expired with no primary held, and whose task is enabled at the next instant,
makes the task READY for a firing at that instant with a stale primary. The FRESH wait of a WAITING task that has
expired while an operand of its oldest primary is missing makes the task READY for that primary, with the missing
operands fixed as stale. A tick with nothing delayed only notes its boundary. Once the version keep time has passed
since a task was disabled, its operands are forgotten. With Dispatch stopped no wait and no tick does anything. Under
conditions on state and operands alone these complete: tokenArrival, primaryWaitExpiry, freshWaitExpiry, dptTick,
disabledTaskOperandExpiry. (R152, R155, R159, R160, R161, R162, R164, R166, R169, R170) -/
def Obligations.TokensArriveAndWaitsExpire : Prop :=
  (∀ (source slot operand : Nat) (k : Token) (s : State), s.dev.dpt.inflight.find? (fun x => x.source == source &&
    x.slot == slot && x.operand == operand) = some k → exec (.tokenArrival source slot operand) s = .next
    { s with dev := tokenArrive k { s.dev with dpt.inflight := s.dev.dpt.inflight.eraseP (fun x => x.source == source && x.slot == slot && x.operand == operand) } }) ∧
  (∀ (source slot operand : Nat) (s : State), s.dev.dpt.inflight = [] → exec (.tokenArrival source slot operand) s =
    .next s) ∧
  (∀ (slot w b : Nat) (s : State), (taskOf s.dev slot).primWait = some w → waitBase (taskOf s.dev slot) = some b →
    s.dev.dpt.run = true → w ≤ nowS s.dev → (taskOf s.dev slot).prim = [] → (taskOf s.dev slot).run = .waiting →
    enabledFor (modTask slot (fun k => { k with primWait := none }) s.dev) slot (b + (taskPW s.dev slot).1) = true →
    exec (.primaryWaitExpiry slot) s = .next
    { s with dev := makeReady { slot := slot, at_ := 0, time := b + (taskPW s.dev slot).1, stalePrim := true, expired := some w } (modTask slot (fun k => { k with primWait := none }) s.dev) }) ∧
  (∀ (slot : Nat) (p : Token) (rest : List Token) (b : List Byte) (s : State), (taskOf s.dev slot).prim = p :: rest
    → s.dev.dpt.run = true → p.time + (taskPW s.dev slot).2 ≤ nowS s.dev → recAt s.dev 0x02 1 slot p.time = some b →
    operandsReady b (taskOf s.dev slot) = false → (taskOf s.dev slot).run = .waiting → exec (.freshWaitExpiry slot)
    s = .next
    { s with dev := makeReady { slot := slot, at_ := 0, time := p.time, expired := some (p.time + (taskPW s.dev slot).2), stales := missingOps b (taskOf s.dev slot) p (taskPW s.dev slot) } s.dev }) ∧
  (∀ (s : State), s.dev.dpt.run = true → s.dev.dpt.tick ≠ 0 → s.dev.dpt.lastTick < nowS s.dev / usT s.dev.dpt.tick *
    usT s.dev.dpt.tick → s.dev.dpt.delay = [] → exec .dptTick s = .next
    { s with dev := { s.dev with dpt.lastTick := nowS s.dev / usT s.dev.dpt.tick * usT s.dev.dpt.tick } }) ∧
  (∀ (slot k : Nat) (s : State), (taskOf s.dev slot).disabledAt = some k → k + usT s.dev.cfg.keepUs ≤ nowS s.dev →
    exec (.disabledTaskOperandExpiry slot) s = .next
    { s with dev := modTask slot (fun k => { k with prim := [], ops := [], disabledAt := none }) s.dev }) ∧
  (∀ (slot : Nat) (s : State), s.dev.dpt.run = false → exec (.primaryWaitExpiry slot) s = .next s ∧ exec
    (.freshWaitExpiry slot) s = .next s ∧ exec .dptTick s = .next s)

/-- With nothing ready and no lane at work a dispatch changes nothing. The first entry that may leave, of a task of
another engine than MOT and not a firing issued again, takes the free lane: what stands ready is as buildFiring leaves
it and the lane has a firing. A lane whose firing has lost its record drops it and is free; one that has it evaluates
the loop. Either is counted for the lane. A check that fails on a lane for the first time in a firing counts the error
and the firing issued again, marks the lane in LPE_LANE_FAULT and takes the lane out of service. With no firing on a
lane neither changes anything. A core error with no cycle under way changes nothing, and with one counts in
PGM_CORE_ERR. A 32-bit write of LPE_LANE_EN with the Spire die up sets it to bits [17:0]; one that changes no bit only
counts as a write of a hazard register. Under conditions on state and operands alone these complete: firingDispatch,
loopEvaluation, laneError, coreError, lpeLaneEnWrite. (R171, R174, R175, R189, R233, R234, R405, R751) -/
def Obligations.FiringsRun : Prop :=
  (∀ (s : State), s.dev.dpt.ready = [] → s.dev.dpt.lanes = [] → exec .firingDispatch s = .next s) ∧
  (∀ (e : ReadyEntry) (f : Firing) (l : Nat) (u : Device) (s : State), s.dev.dpt.ready.find? (canLeave s.dev) = some
    e → taskEngine { s.dev with dpt.ready := s.dev.dpt.ready.erase e } e.slot ≠ 6 → freeLane
    { s.dev with dpt.ready := s.dev.dpt.ready.erase e } s.dev.dpt.active = some l → e.again = none → buildFiring e
    { s.dev with dpt.ready := s.dev.dpt.ready.erase e } = (some f, u) → ∃ t, exec .firingDispatch s = .next
    { s with dev := t } ∧ t.dpt.ready = u.dpt.ready ∧ (tfind t.dpt.lanes l).isSome = true) ∧
  (∀ (lane : Nat) (f : Firing) (s : State), tfind s.dev.dpt.lanes lane = some f → f.cfg = [] → exec (.loopEvaluation
    lane) s = .next { s with dev := pmcEdge 0x03 0x81 lane (completeLane lane (versionDrop 0x03 f.version s.dev)) }) ∧
  (∀ (lane : Nat) (f : Firing) (s : State), tfind s.dev.dpt.lanes lane = some f → f.cfg ≠ [] → ∃ t, exec
    (.loopEvaluation lane) s = .next { s with dev := pmcEdge 0x03 0x81 lane t } ∧ t = evalLane lane heldValue s.dev) ∧
  (∀ (l check : Nat) (f : Firing) (s : State), tfind s.dev.dpt.lanes l = some f → f.reissued = false → ∃ t, exec
    (.laneError l check) s = .next { s with dev := dropLane l t } ∧ t.lpe.laneErr = s.dev.lpe.laneErr + 1 ∧
    t.lpe.laneFault = s.dev.lpe.laneFault ||| 2 ^ l ∧ t.dpt.reissue = s.dev.dpt.reissue + 1) ∧
  (∀ (l check : Nat) (s : State), tfind s.dev.dpt.lanes l = none → exec (.laneError l check) s = .next s ∧ exec
    (.loopEvaluation l) s = .next s) ∧
  (∀ (c : Nat) (s : State), (coreOf s.dev c).cyc = none → exec (.coreError c) s = .next s) ∧
  (∀ (c : Nat) (y : Cycle) (s : State), (coreOf s.dev c).cyc = some y → ∃ t, exec (.coreError c) s = .next
    { s with dev := t } ∧ t.pgm.coreErr = s.dev.pgm.coreErr + 1) ∧
  (∀ (b : BusWrite) (s : State), b.off = 0 → b.width = 4 → s.dev.btr.spireUp = true → b.value.toNat % 2 ^ 18 =
    s.dev.lpe.laneEn → exec (.lpeLaneEnWrite b) s = .next
    { s with dev := refillLanes s.dev.dpt.active (hazard 0x3000C s.dev) }) ∧
  (∀ (b : BusWrite) (s : State), b.off = 0 → (b.width = 4 ∨ b.width = 8) → s.dev.btr.spireUp = true → ∃ t, exec
    (.lpeLaneEnWrite b) s = .next { s with dev := t } ∧ t.lpe.laneEn = b.value.toNat % 2 ^ 18)

/-- In a descriptor that may start with its fields in order: DPT_READ_TASK of a task that exists writes its status
record to the host buffer and completes OK with its state; of one that does not exist it completes with NOT_FOUND.
DPT_CLEAR_COUNTERS zeroes the counters of its mask, nothing else, and completes OK. DPT_CHECK_LOAD of the
configuration in force, on a configured device, completes OK with the load in units of 0.1 percent and, in the upper
half, one more than the first slot that fails, and changes nothing. Under conditions on state and operands alone these
complete: dptReadTask, dptClearCounters, dptCheckLoad. (R57, R64, R71, R181, R183, R185, R186) -/
def Obligations.DispatchCommands : Prop :=
  (∀ (d : Desc) (s : State), canStart d s.dev = true → created (started d s.dev) 0x02 1 d.target.toNat = true →
    badField { bufMin := 64, bufMax := 16777216 } [] d = none → exec (.dptReadTask d) s = .next
    { s with dev := completed d s.dev .ok (taskState (started d s.dev) d.target.toNat) (taskStatus (started d s.dev) d.target.toNat) (started d s.dev) }) ∧
  (∀ (d : Desc) (s : State), canStart d s.dev = true → created (started d s.dev) 0x02 1 d.target.toNat = false →
    exec (.dptReadTask d) s = .next { s with dev := completed d s.dev .notFound 0 [] (started d s.dev) }) ∧
  (∀ (d : Desc) (s : State), canStart d s.dev = true → badField { target := false, pmask := 1 } [(2 ^ 8 ≤
    d.p0.toNat, 24)] d = none → exec (.dptClearCounters d) s = .next
    { s with dev := completed d s.dev .ok 0 [] { started d s.dev with dpt.stale := clr d.p0.toNat 0 s.dev.dpt.stale, dpt.lateDrop := clr d.p0.toNat 1 s.dev.dpt.lateDrop, dpt.primOvf := clr d.p0.toNat 2 s.dev.dpt.primOvf, dpt.reissue := clr d.p0.toNat 3 s.dev.dpt.reissue, dpt.seqGap := clr d.p0.toNat 4 s.dev.dpt.seqGap, dpt.disDrop := clr d.p0.toNat 5 s.dev.dpt.disDrop, dpt.waitMax := clrN d.p0.toNat 6 s.dev.dpt.waitMax, dpt.readyMax := clrN d.p0.toNat 7 s.dev.dpt.readyMax } }) ∧
  (∀ (d : Desc) (s : State), canStart d s.dev = true → badField { target := false, pmask := 3 } [(2 < d.p0.toNat,
    24), (1 < d.p1.toNat, 28)] d = none → s.dev.cfg.mode ≠ .unconfigured → d.p1 = 0 → exec (.dptCheckLoad d) s =
    .next
    { s with dev := completed d s.dev .ok (loadUnits (viewNow (started d s.dev)) + (match firstFailingSlot (viewNow (started d s.dev)) (envLanes d.p0.toNat) (clockQ d.p0.toNat false) with | some n => n + 1 | none => 0) * 2 ^ 16) [] (started d s.dev) })

/-- In a descriptor that may start with its fields in order, for a loop that exists: LPE_SET_MODE to a mode other than
CLOSED sets MODE in the record in force, clears the open state, and completes OK with the mode in use. LPE_SET_COEF of
a loop that is not CLOSED sets a coefficient and its shift and completes OK with the coefficient that stood there.
LPE_SET_LIMIT with values in range sets a limit and completes OK with the one that stood there. LPE_SET_SP, with HOST
as set-point source and the task enabled, sends the value as a token to operand 1 at the present time and completes
OK. LPE_SET_OUTPUT in MANUAL, within the limits, sets the manual output and completes OK with the last output.
LPE_READ_STATE writes the 64-byte state record to the host buffer and completes OK with the mode in use.
LPE_CLEAR_COUNTERS zeroes the counters of its mask and completes OK. All but the last complete with NOT_FOUND where
the loop does not exist. Under conditions on state and operands alone these complete: lpeSetMode, lpeSetCoef,
lpeSetLimit, lpeSetSp, lpeSetOutput, lpeReadState, lpeClearCounters. (R57, R64, R71, R137, R139, R230, R231) -/
def Obligations.LoopCommands : Prop :=
  (∀ (d : Desc) (s : State), canStart d s.dev = true → noLoop s.dev d = false → badField { pmask := 1 } [(4 <
    d.p0.toNat, 24)] d = none → d.p0 ≠ 4 → exec (.lpeSetMode d) s = .next
    { s with dev := completed d s.dev .ok (loopOf s.dev d.target.toNat).modeAct [] (modLoop d.target.toNat (fun l => { l with staleOpen := false, cause := 0, manSet := l.manSet && fld 0 1 (recNow s.dev 0x03 1 d.target.toNat) % 8 == d.p0.toNat }) (setRec (started d s.dev) 0x03 1 d.target.toNat (overwrite 0 (le 1 d.p0.toNat)))) }) ∧
  (∀ (d : Desc) (s : State), canStart d s.dev = true → noLoop s.dev d = true → exec (.lpeSetMode d) s = .next
    { s with dev := completed d s.dev .notFound 0 [] (started d s.dev) } ∧ exec (.lpeSetCoef d) s = .next
    { s with dev := completed d s.dev .notFound 0 [] (started d s.dev) } ∧ exec (.lpeSetLimit d) s = .next
    { s with dev := completed d s.dev .notFound 0 [] (started d s.dev) } ∧ exec (.lpeSetSp d) s = .next
    { s with dev := completed d s.dev .notFound 0 [] (started d s.dev) } ∧ exec (.lpeSetOutput d) s = .next
    { s with dev := completed d s.dev .notFound 0 [] (started d s.dev) } ∧ exec (.lpeReadState d) s = .next
    { s with dev := completed d s.dev .notFound 0 [] (started d s.dev) }) ∧
  (∀ (d : Desc) (s : State), canStart d s.dev = true → noLoop s.dev d = false → badField { pmask := 7 } [(12 <
    d.p0.toNat, 24), (31 < d.p2.toNat || (d.p2 != 0 && ((loopCfg (recNow s.dev 0x03 1 d.target.toNat)).bf ||
    d.p0.toNat ∈ [1, 3, 10, 12])), 32)] d = none → (loopCfg (recNow s.dev 0x03 1 d.target.toNat)).mode ≠ 4 → exec
    (.lpeSetCoef d) s = .next
    { s with dev := completed d s.dev .ok (fld (16 + 4 * d.p0.toNat) 4 (recNow s.dev 0x03 1 d.target.toNat)) [] (setRec (started d s.dev) 0x03 1 d.target.toNat (fun r => overwrite (68 + d.p0.toNat) (le 1 d.p2.toNat) (overwrite (16 + 4 * d.p0.toNat) (le 4 d.p1.toNat) r))) }) ∧
  (∀ (d : Desc) (s : State), canStart d s.dev = true → noLoop s.dev d = false → d.p0.toNat ≤ 10 → badField
    { pmask := 3 } [(10 < d.p0.toNat, 24), (decide (d.p0.toNat ≤ 10) && !valuesOk (viewNow s.dev) 0x03 1
    d.target.toNat (overwrite (84 + 4 * d.p0.toNat) (le 4 d.p1.toNat) (recNow s.dev 0x03 1 d.target.toNat)), 28)] d
    = none → exec (.lpeSetLimit d) s = .next
    { s with dev := completed d s.dev .ok (fld (84 + 4 * d.p0.toNat) 4 (recNow s.dev 0x03 1 d.target.toNat)) [] (setRec (started d s.dev) 0x03 1 d.target.toNat (overwrite (84 + 4 * d.p0.toNat) (le 4 d.p1.toNat))) }) ∧
  (∀ (d : Desc) (s : State), canStart d s.dev = true → noLoop s.dev d = false → badField { pmask := 1 } [] d = none
    → (loopCfg (recNow s.dev 0x03 1 d.target.toNat)).spSrc = 4 → taskEnabled (recNow s.dev 0x02 1 (loopCfg (recNow
    s.dev 0x03 1 d.target.toNat)).slot) = true → exec (.lpeSetSp d) s = .next
    { s with dev := completed d s.dev .ok 0 [] (tokenDirect { time := nowS s.dev, version := versionAt s.dev (nowS s.dev), bf := (loopCfg (recNow s.dev 0x03 1 d.target.toNat)).bf, slot := (loopCfg (recNow s.dev 0x03 1 d.target.toNat)).slot, operand := 1, source := 0x0300 + d.target.toNat % 256, value := d.p0 } (started d s.dev)) }) ∧
  (∀ (d : Desc) (s : State), canStart d s.dev = true → noLoop s.dev d = false → (loopCfg (recNow s.dev 0x03 1
    d.target.toNat)).mode = 2 → badField { pmask := 1 } [(numLt (loopCfg (recNow s.dev 0x03 1 d.target.toNat)).bf
    (ofWord (loopCfg (recNow s.dev 0x03 1 d.target.toNat)).bf d.p0.toNat) ((loopCfg (recNow s.dev 0x03 1
    d.target.toNat)).l 5) || numLt (loopCfg (recNow s.dev 0x03 1 d.target.toNat)).bf ((loopCfg (recNow s.dev 0x03 1
    d.target.toNat)).l 6) (ofWord (loopCfg (recNow s.dev 0x03 1 d.target.toNat)).bf d.p0.toNat), 24)] d = none →
    exec (.lpeSetOutput d) s = .next
    { s with dev := completed d s.dev .ok (loopOf s.dev d.target.toNat).outLast.toNat [] (modLoop d.target.toNat (fun l => { l with manOut := d.p0, manSet := true }) (started d s.dev)) }) ∧
  (∀ (d : Desc) (s : State), canStart d s.dev = true → noLoop s.dev d = false → badField
    { bufMin := 64, bufMax := 16777216 } [] d = none → exec (.lpeReadState d) s = .next
    { s with dev := completed d s.dev .ok (loopOf s.dev d.target.toNat).modeAct (loopRecord (loopCfg (recNow s.dev 0x03 1 d.target.toNat)).bf (loopOf s.dev d.target.toNat)) (started d s.dev) }) ∧
  (∀ (d : Desc) (s : State), canStart d s.dev = true → badField { target := false, pmask := 1 } [(2 ^ 6 ≤
    d.p0.toNat, 24)] d = none → exec (.lpeClearCounters d) s = .next
    { s with dev := completed d s.dev .ok 0 [] { started d s.dev with lpe.satCnt := clr d.p0.toNat 0 s.dev.lpe.satCnt, lpe.bumpLim := clr d.p0.toNat 1 s.dev.lpe.bumpLim, lpe.staleOpen := clr d.p0.toNat 2 s.dev.lpe.staleOpen, lpe.laneErr := clr d.p0.toNat 3 s.dev.lpe.laneErr, lpe.fmtOvf := clr d.p0.toNat 4 s.dev.lpe.fmtOvf, lpe.orderDrift := clr d.p0.toNat 5 s.dev.lpe.orderDrift } })

/-- On a RUNNING device with the journal on, the Spire die up, no cut open and no full cut needed, a boundary of the
epoch not handled yet opens the cut of the next epoch at T_e, for Dispatch and for the Keep; while a cut is open a
boundary changes nothing. A marker of a data stream that can no longer be overtaken, with nothing on its way and no
program as source, passes. An enabled data task that is not captured and may be is captured by a free lane, whose busy
count takes 80,000 ps. Once every data task is captured and every stream has passed its marker, the dispatch part is
reported: DPT_EPOCH is the epoch and the cut is marked. A waiting task that still holds a primary older than T_e one
epoch after T_e is named once by DPT_CUT_PENDING. A part that has joined the cut, or that is not ready, changes
nothing; a part that is ready joins the cut, whose epoch and T_e stay. Under conditions on state and operands alone
these complete: epochBoundary, epochMarkerTimeout, taskCapture, dptCutReport, dptCutPending, cutPartReady. (R178,
R179, R180, R592, R593, R594, R596, R597) -/
def Obligations.CutsOpenAndClose : Prop :=
  (∀ (s : State), s.dev.kep.journalOn = true → s.dev.cfg.mode = .running → s.dev.btr.spireUp = true → s.dev.kep.cut
    = none → s.dev.kep.needFull = false → epochLen s.dev ≠ 0 → s.dev.kep.lastBoundary < nowS s.dev / epochLen s.dev
    * epochLen s.dev → ∃ t, exec .epochBoundary s = .next { s with dev := t } ∧ t.dpt.cut = some
    { epoch := s.dev.kep.nextEpoch, te := nowS s.dev / epochLen s.dev * epochLen s.dev } ∧ t.kep.nextEpoch =
    s.dev.kep.nextEpoch + 1 ∧ t.kep.lastBoundary = nowS s.dev / epochLen s.dev * epochLen s.dev ∧ t.kep.cut.isSome =
    true ∧ t.saf = s.dev.saf ∧ t.hif = s.dev.hif) ∧
  (∀ (s : State), s.dev.kep.cut.isSome = true → exec .epochBoundary s = .next s) ∧
  (∀ (source slot operand : Nat) (c : DptCut) (s : State), s.dev.dpt.cut = some c → (srcStreams s.dev c.te).any (fun
    q => q.key == streamKey source slot operand && q.prod.isNone && decide (q.due ≤ nowS s.dev)) = true →
    s.dev.dpt.inflight = [] → source / 256 ≠ 4 → exec (.epochMarkerTimeout source slot operand) s = .next
    { s with dev := passMarker (streamKey source slot operand) s.dev }) ∧
  (∀ (slot l : Nat) (c : DptCut) (s : State), s.dev.dpt.cut = some c → freeLane s.dev s.dev.dpt.active = some l →
    taskEnabled (recNow s.dev 0x02 1 slot) = true → taskProgram (recNow s.dev 0x02 1 slot) = false → (taskOf s.dev
    slot).captured = false → capturable s.dev c slot = true → ∃ t, exec (.taskCapture slot) s = .next
    { s with dev := { t with pmc.cum := tmod t.pmc.cum (pmcKey 0x03 0x80 l true) 0 (· + 80000) } } ∧ t = modTask
    slot (fun k => { k with captured := true }) (captureTask c slot s.dev)) ∧
  (∀ (c : DptCut) (s : State), s.dev.dpt.cut = some c → c.reported = false → (dataTasks s.dev).all (fun n => (taskOf
    s.dev n).captured) = true → (srcStreams s.dev c.te).all (streamPassed s.dev c) = true → ∃ t, exec .dptCutReport
    s = .next { s with dev := t } ∧ t.dpt.epoch = BitVec.ofNat 32 c.epoch ∧ t.dpt.cut = some
    { c with reported := true }) ∧
  (∀ (slot : Nat) (c : DptCut) (s : State), s.dev.dpt.cut = some c → c.pending.contains slot = false → c.te +
    epochLen s.dev ≤ nowS s.dev → (taskOf s.dev slot).run = .waiting → (taskOf s.dev slot).prim.any (fun p => decide
    (p.time < c.te)) = true → exec (.dptCutPending slot) s = .next
    { s with dev := raise Ev.dptCutPending [lo32 c.epoch, (2, slot)] { s.dev with dpt.cut := some { c with pending := c.pending ++ [slot] } } }) ∧
  (∀ (blk : Nat) (bad : List Nat) (k : KepCut) (s : State), s.dev.kep.cut = some k → (k.ready.contains blk = true ∨
    partReady blk k s.dev = false) → exec (.cutPartReady blk bad) s = .next s) ∧
  (∀ (blk : Nat) (k : KepCut) (s : State), s.dev.kep.cut = some k → k.ready.contains blk = false → partReady blk k
    s.dev = true → ∃ t q, exec (.cutPartReady blk []) s = .next { s with dev := t } ∧ t.kep.cut = some q ∧ q.ready =
    k.ready ++ [blk] ∧ q.epoch = k.epoch ∧ q.te = k.te ∧ q.full = k.full ∧ t.kep.journal = s.dev.kep.journal ∧ t.dpt
    = s.dev.dpt)

/-- Outside a power failure: a cut that is not full, whose parts have all joined, whose record fits the journal and
whose write time has passed, with no failing write, commits; the committed epoch is then that of the cut, and no cut
is open. The oldest record that an open slot lacks is applied in two steps: the slot is APPLYING, and then it holds
what applyRecord makes of it. The copy of a VALID slot 0 that waits, with nothing read out, makes slot 1 equal to it.
After 256 MiB and with no failing hot block the gap moves on by one, 64 KiB are written and the count starts again
from the rest. During a power failure none of the last three does anything. Under conditions on state and operands
alone these complete: cutCommit, journalRecordApply, slotCopy, gapMove. (R595, R598, R600, R602, R604, R605, R606,
R590) -/
def Obligations.JournalAndSlots : Prop :=
  (∀ (bad : List Nat) (k : KepCut) (s : State), s.dev.kep.cut = some k → cutBlocks.all (fun b => k.ready.contains b)
    = true → s.dev.clk.pwrfail = false → k.full = false → (s.dev.kep.journal.map (·.len)).sum + (80 + (k.parts.map
    List.length).sum) ≤ ringBytes → k.te + 640 * (80 + (k.parts.map List.length).sum) ≤ nowS s.dev → bad = [] → exec
    (.cutCommit bad) s = .next { s with dev := commitCut k (80 + (k.parts.map List.length).sum) s.dev }) ∧
  (∀ (k : KepCut) (n : Nat) (s : Device), (commitCut k n s).kep.epoch = k.epoch ∧ (commitCut k n s).kep.cut = none ∧
    (commitCut k n s).dpt.cut = none) ∧
  (∀ (r : KepRec) (n : Nat) (s : State), nextApply s.dev = some (r, n) → s.dev.clk.pwrfail = false → (kepSlot s.dev
    n).state ≠ 1 → exec .journalRecordApply s = .next
    { s with dev := putKepSlot n { kepSlot s.dev n with state := 1 } s.dev }) ∧
  (∀ (r : KepRec) (n : Nat) (s : State), nextApply s.dev = some (r, n) → s.dev.clk.pwrfail = false → (kepSlot s.dev
    n).state = 1 → ∃ t, exec .journalRecordApply s = .next { s with dev := t } ∧ kepSlot t n = applyRecord (kepSlot
    s.dev n) r) ∧
  (∀ (s : State), s.dev.kep.copy = true → (kepSlot s.dev 0).state = 2 → s.dev.kep.read = none → s.dev.clk.pwrfail =
    false → ∃ t, exec .slotCopy s = .next { s with dev := t } ∧ kepSlot t 1 = kepSlot s.dev 0 ∧ t.kep.copy = false) ∧
  (∀ (s : State), 268435456 ≤ s.dev.kep.gapBytes → s.dev.spr.hotFails = 0 → s.dev.clk.pwrfail = false → exec
    .gapMove s = .next
    { s with dev := { s.dev with kep.gapBytes := s.dev.kep.gapBytes - 268435456, kep.gap := (s.dev.kep.gap + 1) % 337, kep.hotWrites := s.dev.kep.hotWrites + 65536 } }) ∧
  (∀ (s : State), s.dev.clk.pwrfail = true → exec .journalRecordApply s = .next s ∧ exec .slotCopy s = .next s ∧
    exec .gapMove s = .next s)

/-- In a descriptor that may start with its fields in order: KEP_RESTART of a configured device with the access it
needs and none pending completes OK with the committed epoch and begins 100 µs later; without that access it completes
with AUTH_REQUIRED. KEP_READ_IMAGE of a VALID slot, with a window for images bound and nothing being read, starts the
read and stays in progress. KEP_CLEAR_COUNTERS zeroes the counters of its mask and completes OK. A pending restart
whose delay has passed restarts the Spire die (kinds 0 and 1) or the device (2 and 3). Causes 3 to 5 restart a Spire
die that is up. With the Spire die up and a restart under way, a restore in its stage goes on to the resume, and a
resume of a Spire restart with nothing restored, outside a takeover, starts the engines cold and enters RUNNING. A
device restart in its stage with no base image in the Keep ends there; with one, of a device that was not running at
the loss and with no restart asked for, it loads the base image and leaves the choice to CFG_RUN. A boot that may take
place holds the Spire die where the link is short of lanes; otherwise, of a device start and with a readable flash
directory, it takes the directory read and, where the three images verify, brings the Spire die up with its link and
goes on to the reload, and where one does not, leaves the link down; a boot that may not take place changes nothing.
Under conditions on state and operands alone these complete: kepRestart, kepRestartDelayExpiry, kepReadImage,
kepClearCounters, spireWarmRestart, imageRestore, controlResume, deviceRestart, bootVerify. (R57, R64, R71, R609,
R610, R612, R615, R617, R618, R619, R621, R770) -/
def Obligations.RestartsProceed : Prop :=
  (∀ (d : Desc) (s : State), canStart d s.dev = true → badField { target := false, pmask := 1 } [(3 < d.p0.toNat,
    24)] d = none → needMaint (started d s.dev) = false → s.dev.cfg.mode ≠ .unconfigured → s.dev.kep.restart = none
    → exec (.kepRestart d) s = .next
    { s with dev := completed d s.dev .ok (s.dev.kep.epoch % 2 ^ 32) [] { started d s.dev with kep.restart := some (d.p0.toNat, 3, s.dev.tim.ck + 100000) } }) ∧
  (∀ (d : Desc) (s : State), canStart d s.dev = true → badField { target := false, pmask := 1 } [(3 < d.p0.toNat,
    24)] d = none → needMaint (started d s.dev) = true → exec (.kepRestart d) s = .next
    { s with dev := completed d s.dev .authRequired 0 [] (started d s.dev) }) ∧
  (∀ (k c t : Nat) (s : State), s.dev.kep.restart = some (k, c, t) → t ≤ s.dev.tim.ck → k < 2 → exec
    .kepRestartDelayExpiry s = .next { s with dev := spireRestart k c 1 false { s.dev with kep.restart := none } }) ∧
  (∀ (k c t : Nat) (s : State), s.dev.kep.restart = some (k, c, t) → t ≤ s.dev.tim.ck → 2 ≤ k → exec
    .kepRestartDelayExpiry s = .next
    { s with dev := deviceReset c (some k) { s.dev with kep.restart := none, kep.lossCause := c } }) ∧
  (∀ (d : Desc) (s : State), canStart d s.dev = true → d.target.toNat < 2 → badField plain [] d = none → (kepSlot
    s.dev d.target.toNat).state = 2 → (windowOf s.dev 0x0F10).isSome = true → s.dev.kep.read = none → exec
    (.kepReadImage d) s = .next
    { s with dev := modRing d.ring (fun r => { r with busy := true }) { started d s.dev with kep.read := some (d.target.toNat, 0, pendOf d s.dev) } }) ∧
  (∀ (d : Desc) (s : State), canStart d s.dev = true → badField { target := false, pmask := 1 } [(8 ≤ d.p0.toNat,
    24)] d = none → exec (.kepClearCounters d) s = .next
    { s with dev := completed d s.dev .ok 0 [] { started d s.dev with kep.stretches := clr d.p0.toNat 0 s.dev.kep.stretches, kep.stretchMax := clrN d.p0.toNat 1 s.dev.kep.stretchMax, kep.discards := clr d.p0.toNat 2 s.dev.kep.discards } }) ∧
  (∀ (cause : Nat) (s : State), 3 ≤ cause → cause ≤ 5 → s.dev.btr.spireUp = true → exec (.spireWarmRestart cause) s
    = .next { s with dev := spireRestart 0 cause 1 false s.dev }) ∧
  (∀ (kind cause : Nat) (ecc : Bool) (bad : List Nat) (b : Option (Nat × Nat)) (s : State), s.dev.kep.running = some
    (kind, cause) → s.dev.kep.phase = .image → s.dev.btr.spireUp = true → ∃ t, exec (.imageRestore ecc bad b) s =
    .next { s with dev := t } ∧ t.kep.phase = .resume ∧ t.kep.restoring = false) ∧
  (∀ (kind cause : Nat) (s : State), s.dev.kep.running = some (kind, cause) → s.dev.kep.phase = .resume →
    s.dev.btr.spireUp = true → s.dev.pai.mode ≠ .takeover → kind < 2 → s.dev.kep.restored = none → exec
    .controlResume s = .next
    { s with dev := enterRunning (resumed { resumeCold kind s.dev with kep.restored := none }) }) ∧
  (∀ (s : State), s.dev.kep.phase = .reload → s.dev.btr.spireUp = true → s.dev.kep.base = [] → exec .deviceRestart s
    = .next { s with dev := resumed { s.dev with kep.runAtLoss := false } }) ∧
  (∀ (s : State), s.dev.kep.phase = .reload → s.dev.btr.spireUp = true → s.dev.kep.base ≠ [] → s.dev.kep.runAtLoss =
    false → s.dev.kep.running = none → exec .deviceRestart s = .next
    { s with dev := { resumed (nameReload (paiLoaded (baseLoaded (applyImage s.dev.kep.base s.dev)))) with kep.choice := true } }) ∧
  (∀ (dirs : List (List Byte)) (imgs : List (Nat × Nat × List Byte)) (s : State), mayBoot s.dev = true → linkShort
    s.dev = true → exec (.bootVerify dirs imgs) s = .next { s with dev := holdSpire s.dev }) ∧
  (∀ (dirs : List (List Byte)) (imgs : List (Nat × Nat × List Byte)) (g : Nat) (es : List FlashEntry) (s : State),
    mayBoot s.dev = true → linkShort s.dev = false → chooseDirectory dirs = some (g, es) → s.dev.kep.running = none
    → exec (.bootVerify dirs imgs) s = .next
    { s with dev := if (bootKinds imgs [2, 3, 1] { s.dev with sec.gen := BitVec.ofNat 32 g, sec.flash := es, btr.linkUp := true }).1 then bootDone true { (bootKinds imgs [2, 3, 1] { s.dev with sec.gen := BitVec.ofNat 32 g, sec.flash := es, btr.linkUp := true }).2 with sec.rollbackBoot := false } else { (bootKinds imgs [2, 3, 1] { s.dev with sec.gen := BitVec.ofNat 32 g, sec.flash := es, btr.linkUp := true }).2 with btr.linkUp := false } }) ∧
  (∀ (s : Device), (bootDone true s).btr.spireUp = true ∧ (bootDone true s).btr.linkUp = true ∧ (bootDone true
    s).kep.phase = .reload) ∧
  (∀ (dirs : List (List Byte)) (imgs : List (Nat × Nat × List Byte)) (s : State), mayBoot s.dev = false → exec
    (.bootVerify dirs imgs) s = .next s)

/-- With the link up and not retraining, a CRC error on a direction with no replay pending raises BTR_REPLAY, counts
it and notes one try, and a missing acknowledgement does the same. A retraining that began less than 4 µs ago changes
nothing at its end; later, with no lane failing and enough lanes, it ends and is counted. A link idle for 100 µs goes
down with cause 3. A one-sided reset whose two sides can answer ends with its handshake. A Spire die that is up and
has given no sign for 1 ms is restarted warm with cause 5. A device that is not held and whose housekeeping has given
no sign for 10 ms is reset with cause 6. A fatal error 2 to 6 of a Spire die that is not held restarts it. A sideband
read with the link down aborts, is counted, and raises BTR_SIDEBAND_ERR with the repeats if there were any. Under
conditions on state and operands alone these complete: flitCrcError, replayTimeout, retrainEnd, linkIdleTimeout,
crossingHandshake, spireWatchdog, domeWatchdog, spireFatal, sidebandReadTimeout. (R684, R685, R688, R690, R692, R693,
R694, R696, R704) -/
def Obligations.ButtressLink : Prop :=
  (∀ (dir : Nat) (s : State), s.dev.btr.linkUp = true → s.dev.btr.retraining = false → dir < 2 → (btrDir s.dev
    dir).tries = 0 → (btrDir s.dev dir).recent = [] → ∃ t, exec (.flitCrcError dir 0) s = .next
    { s with dev := raise Ev.btrReplay [(1, dir), (1, (btrDir s.dev dir).seq)] t } ∧ t.btr.replays =
    s.dev.btr.replays + 1 ∧ (btrDir t dir).tries = 1 ∧ exec (.replayTimeout dir 0) s = exec (.flitCrcError dir 0) s) ∧
  (∀ (failed d f : Nat) (s : State), s.dev.btr.retrain = some (d, f) → nowD s.dev < f + usT 4 → exec (.retrainEnd
    failed) s = .next s) ∧
  (∀ (d f : Nat) (s : State), s.dev.btr.retrain = some (d, f) → f + usT 4 ≤ nowD s.dev → linkShort s.dev = false → ∃
    t, exec (.retrainEnd 0) s = .next { s with dev := t } ∧ t.btr.retraining = false ∧ t.btr.retrains =
    s.dev.btr.retrains + 1) ∧
  (∀ (s : State), s.dev.btr.linkUp = true → s.dev.btr.lastFlit + usT 100 ≤ nowD s.dev → exec .linkIdleTimeout s =
    .next { s with dev := linkDown 3 s.dev }) ∧
  (∀ (k : Nat) (s : State), s.dev.btr.xreset.contains k = true → crossingReady s.dev k = true → exec
    (.crossingHandshake k) s = .next
    { s with dev := { s.dev with btr.xreset := s.dev.btr.xreset.filter (· != k) } }) ∧
  (∀ (s : State), s.dev.btr.linkUp = true → s.dev.btr.spireUp = true → s.dev.btr.heartbeat + msT 1 ≤ nowD s.dev →
    exec .spireWatchdog s = .next { s with dev := spireRestart 0 5 1 false s.dev }) ∧
  (∀ (s : State), s.dev.clk.held = none → s.dev.btr.houseSignal + msT 10 ≤ nowD s.dev → exec .domeWatchdog s = .next
    { s with dev := resetDevice 3 6 none none { s.dev with kep.lossCause := 6 } }) ∧
  (∀ (code detail : Nat) (s : State), s.dev.btr.spireHeld = false → s.dev.clk.held = none → 2 ≤ code → code ≤ 6 →
    exec (.spireFatal code detail) s = .next { s with dev := spireFatal code detail false s.dev }) ∧
  (∀ (off : Nat) (s : State), s.dev.btr.linkUp = false → exec (.sidebandReadTimeout off 0) s = .next
    { s with dev := { s.dev with out := s.dev.out ++ [.abort off], btr.rdAbort := s.dev.btr.rdAbort + 1 } }) ∧
  (∀ (off repeats : Nat) (s : State), s.dev.btr.linkUp = false → repeats ≠ 0 → ∃ t, exec (.sidebandReadTimeout off
    repeats) s = .next { s with dev := { t with out := t.out ++ [.abort off], btr.rdAbort := t.btr.rdAbort + 1 } } ∧
    t = raise Ev.btrSidebandErr [(2, repeats)] s.dev)

/-- With the Spire die up and DRAM out of self-refresh: a scrub of a row counts and reports each corrected error in
turn; one with none that completes a pass counts the pass and raises MEM_SCRUB_DONE with the pass count and the
corrected errors of the pass. An uncorrected error of a buffer or of another window region is counted, its address
kept and MEM_UE raised; one in control memory does the same and then is a fatal error of the Spire die; one in the
code of a program that has an image does the same and then faults that program. Under conditions on state and operands
alone these complete: dramScrub, memUe. (R698, R700, R701) -/
def Obligations.MemoryErrors : Prop :=
  (∀ (row : Nat) (s : State), s.dev.btr.spireUp = true → s.dev.mem.selfRefresh = false → exec (.dramScrub row []
    true) s = .next
    { s with dev := raise Ev.memScrubDone [(4, (s.dev.mem.scrubPass + 1).toNat), (2, s.dev.mem.passErrors)] { s.dev with mem.scrubPass := s.dev.mem.scrubPass + 1, mem.passErrors := 0 } }) ∧
  (∀ (row : Nat) (addrs : List Nat) (s : State), s.dev.btr.spireUp = true → s.dev.mem.selfRefresh = false → exec
    (.dramScrub row addrs false) s = .next { s with dev := addrs.foldl (fun t a => correctedError row a t) s.dev }) ∧
  (∀ (addr window segment off prog : Nat) (s : State), s.dev.btr.spireUp = true → s.dev.mem.selfRefresh = false →
    (progOf s.dev prog).image ≠ [] → exec (.memUe 3 addr window segment off prog) s = .next
    { s with dev := codeError prog (raise Ev.memUe [(1, 3), (1, 0xFF), (2, segment), (4, off)] { s.dev with mem.ue := s.dev.mem.ue + 1, mem.ueAddr := BitVec.ofNat 64 addr }) }) ∧
  (∀ (region addr window segment off prog : Nat) (s : State), s.dev.btr.spireUp = true → s.dev.mem.selfRefresh =
    false → (region = 1 ∨ region = 2) → exec (.memUe region addr window segment off prog) s = .next
    { s with dev := raise Ev.memUe [(1, region), (1, window), (2, segment), (4, off)] { s.dev with mem.ue := s.dev.mem.ue + 1, mem.ueAddr := BitVec.ofNat 64 addr } }) ∧
  (∀ (addr window segment off prog : Nat) (s : State), s.dev.btr.spireUp = true → s.dev.mem.selfRefresh = false →
    exec (.memUe 4 addr window segment off prog) s = .next
    { s with dev := spireFatal 3 0 false (raise Ev.memUe [(1, 4), (1, 0xFF), (2, segment), (4, off)] { s.dev with mem.ue := s.dev.mem.ue + 1, mem.ueAddr := BitVec.ofNat 64 addr }) })

/-- Power-on leaves every rail in window, no rail event, no power failure, a good reference, nothing held, working
time at 0 and the Spire die down. RESET_N resets a device that no rail holds, with cause 2 and working time at 0, and
Belfry keeps its configuration; with TEST_MODE high it stays held, else a device that nothing held is not held. A
power failure is counted and announced once, and its release with every rail in window ends it. A rail that leaves
clears its bit of CLK_RAILS: of a held device it holds it until the power is back, unless it is a Spire, DRAM or
Belfry rail; a Spire rail raises CLK_RAIL_FAULT and takes the Spire die down; a Dome rail that is no Belfry rail holds
a device that ran, and is left as the one rail event. A rail that returns sets its bit, and nothing waits for rails
once all seven of the Spire die and DRAM are there. A lost reference holds the device with cause 5 until it is
qualified again. Temperatures are sampled every millisecond and no sooner; a running device below 125 °C on both dies
checks its warnings, and one held for the Dome temperature is released below 110 °C. A write of CLK_FORCE takes bit 0
as a hazard write, and checks the load again on a RUNNING device. A write of CLK_RAIL_EVT clears the events whose bits
are 1. Under conditions on state and operands alone these complete: powerOn, resetNAssert, pwrfailNAssert,
pwrfailNRelease, railOutOfWindow, railReturn, referenceLoss, referenceRequalified, thermalSample, clkforceWrite,
clkRailEvtClear. (R787, R788, R789, R792, R793, R795, R797, R799, R751) -/
def Obligations.SuppliesAndReference : Prop :=
  (∀ (s : State), ∃ t, exec .powerOn s = .next { s with dev := t } ∧ t.clk.rails = 0x7FFF ∧ t.clk.railEvt = 0 ∧
    t.clk.pwrfail = false ∧ t.clk.refOk = true ∧ t.clk.held = none ∧ t.tim.dome = 0 ∧ t.btr.spireUp = false) ∧
  (∀ (s : State), s.dev.clk.held ≠ some 4 → ∃ t, exec (.resetNAssert true) s = .next { s with dev := t } ∧
    t.clk.held = some 2 ∧ t.clk.cause = 2 ∧ t.tim.dome = 0 ∧ t.hif.rings = [] ∧ t.saf.cfg = s.dev.saf.cfg) ∧
  (∀ (s : State), s.dev.clk.held = none → ∃ t, exec (.resetNAssert false) s = .next { s with dev := t } ∧ t.clk.held
    = none ∧ t.clk.cause = 2 ∧ t.tim.dome = 0 ∧ t.saf.cfg = s.dev.saf.cfg) ∧
  (∀ (s : State), s.dev.clk.pwrfail = false → exec .pwrfailNAssert s = .next
    { s with dev := raiseGasp Ev.clkPwrfail [(4, (s.dev.clk.pwrfails + 1).toNat)] { s.dev with clk.pwrfail := true, clk.pwrfails := s.dev.clk.pwrfails + 1 } }) ∧
  (∀ (s : State), s.dev.clk.pwrfail = true → exec .pwrfailNAssert s = .next s) ∧
  (∀ (s : State), s.dev.clk.rails = 0x7FFF → exec .pwrfailNRelease s = .next
    { s with dev := { s.dev with clk.pwrfail := false } }) ∧
  (∀ (r : Nat) (s : State), r ≤ 14 → bit r s.dev.clk.rails = true → s.dev.clk.held.isSome = true → exec
    (.railOutOfWindow r) s = .next
    { s with dev := { s.dev with clk.rails := s.dev.clk.rails - 2 ^ r, clk.held := if r < 7 ∨ r = 9 ∨ r = 10 then s.dev.clk.held else some 4 } }) ∧
  (∀ (r : Nat) (s : State), r < 3 → bit r s.dev.clk.rails = true → s.dev.clk.held = none → exec (.railOutOfWindow r)
    s = .next
    { s with dev := spireRail false (raise Ev.clkRailFault [(1, r)] { s.dev with clk.rails := s.dev.clk.rails - 2 ^ r, clk.railEvt := s.dev.clk.railEvt ||| 2 ^ r }) }) ∧
  (∀ (r : Nat) (s : State), (r = 7 ∨ r = 8 ∨ (11 ≤ r ∧ r ≤ 14)) → bit r s.dev.clk.rails = true → s.dev.clk.held =
    none → ∃ t, exec (.railOutOfWindow r) s = .next { s with dev := t } ∧ t.clk.held = some 4 ∧ t.clk.railEvt = 2 ^
    r ∧ t.clk.rails = s.dev.clk.rails - 2 ^ r) ∧
  (∀ (r : Nat) (s : State), r ≤ 14 → bit r s.dev.clk.rails = false → (s.dev.clk.rails + 2 ^ r) % 128 ≠ 127 → exec
    (.railReturn r) s = .next { s with dev := { s.dev with clk.rails := s.dev.clk.rails + 2 ^ r } }) ∧
  (∀ (r : Nat) (s : State), r ≤ 14 → bit r s.dev.clk.rails = false → (s.dev.clk.rails + 2 ^ r) % 128 = 127 → exec
    (.railReturn r) s = .next
    { s with dev := { s.dev with clk.rails := s.dev.clk.rails + 2 ^ r, clk.railWait := none } }) ∧
  (∀ (why : Nat) (s : State), s.dev.clk.refOk = true → s.dev.clk.held ≠ some 4 → 1 ≤ why → why ≤ 2 → ∃ t, exec
    (.referenceLoss why) s = .next { s with dev := t } ∧ t.clk.held = some 5 ∧ t.clk.cause = 5 ∧ t.clk.refOk =
    false) ∧
  (∀ (s : State), s.dev.clk.held = some 5 → exec .referenceRequalified s = .next
    { s with dev := { s.dev with clk.refOk := true, clk.held := none } }) ∧
  (∀ (a b : Int) (s : State), s.dev.clk.sampleAt + 1000000 ≤ s.dev.tim.ck → s.dev.clk.held = some 6 → b < 880 → exec
    (.thermalSample a b) s = .next
    { s with dev := { s.dev with clk.sampleAt := s.dev.tim.ck, clk.tempS := a, clk.tempD := b, clk.maxS := max s.dev.clk.maxS a, clk.maxD := max s.dev.clk.maxD b, clk.held := none } }) ∧
  (∀ (a b : Int) (s : State), s.dev.clk.sampleAt + 1000000 ≤ s.dev.tim.ck → s.dev.clk.held = none → a < 1000 → b <
    1000 → exec (.thermalSample a b) s = .next
    { s with dev := thermWarn 1 b (thermWarn 0 a { s.dev with clk.sampleAt := s.dev.tim.ck, clk.tempS := a, clk.tempD := b, clk.maxS := max s.dev.clk.maxS a, clk.maxD := max s.dev.clk.maxD b }) }) ∧
  (∀ (a b : Int) (s : State), s.dev.tim.ck < s.dev.clk.sampleAt + 1000000 → exec (.thermalSample a b) s = .next s) ∧
  (∀ (b : BusWrite) (s : State), b.off = 0 → b.width = 4 → s.dev.cfg.mode ≠ .running → exec (.clkforceWrite b) s =
    .next { s with dev := hazard 0x180030 { s.dev with clk.forceLow := bit 0 (b.value.toNat % 2 ^ 32) } }) ∧
  (∀ (b : BusWrite) (s : State), b.off = 0 → b.width = 4 → s.dev.cfg.mode = .running → exec (.clkforceWrite b) s =
    .next
    { s with dev := retestLoad (hazard 0x180030 { s.dev with clk.forceLow := bit 0 (b.value.toNat % 2 ^ 32) }) }) ∧
  (∀ (r : Nat) (b : BusWrite) (s : State), r < 15 → b.off = 0 → b.width = 4 → b.value.toNat % 2 ^ 32 = 2 ^ r → exec
    (.clkRailEvtClear b) s = .next
    { s with dev := { s.dev with clk.railEvt := if bit r s.dev.clk.railEvt then s.dev.clk.railEvt - 2 ^ r else s.dev.clk.railEvt } }) ∧
  (∀ (b : BusWrite) (s : State), b.off = 0 → b.width = 4 → b.value.toNat % 2 ^ 32 = 0 → exec (.clkRailEvtClear b) s
    = .next s) ∧
  (∀ (s : State), s.dev.clk.railEvt = 2 ^ 14 → ∃ t, exec (.clkRailEvtClear
    { off := 0, width := 4, value := 0x4000#64 }) s = .next { s with dev := t } ∧ t.clk.railEvt = 0)

/-- In a descriptor that may start with its fields in order: LTN_TRACE_SET with a loop that exists, buffers, nodes,
decimation and PRE in range, a decimated period in ns that fits 32 bits, and no overlapping group that is armed or
triggered, forms the group in IDLE with empty buffers, drops the groups it takes a buffer from, and completes OK.
LTN_TRACE_ARM with kind HOST of a group that is IDLE, DONE or STOPPED empties its buffers, arms it, and completes OK.
LTN_TRACE_FORCE of an ARMED group of kind HOST triggers it at the present time and completes OK with the low word of
that time; of any other group it completes with REJECTED_STATE. LTN_TRACE_STOP of an ARMED or TRIGGERED group stops
it, raises LTN_TRACE_STOPPED with cause 1, and completes OK with the entries kept. LTN_TRACE_READ of a DONE or STOPPED
group, with a window for traces bound and nothing being read, starts the read and stays in progress. Under conditions
on state and operands alone these complete: ltnTraceSet, ltnTraceArm, ltnTraceForce, ltnTraceStop, ltnTraceRead. (R57,
R64, R71, R236, R244, R246, R249, R253, R254) -/
def Obligations.TracesCapture : Prop :=
  (∀ (d : Desc) (s : State), canStart d s.dev = true → d.p1.toNat ≤ 1023 → created s.dev 0x03 1 d.p1.toNat = true →
    d.target.toNat + d.p0.toNat ≤ 64 → 1 ≤ d.p0.toNat → d.p0.toNat ≤ 16 → (setNodes d).all (fun k => decide (k ≤
    16)) = true → 1 ≤ d.p6.toNat → d.p6.toNat ≤ 256 → ((recPW (recNow s.dev 0x02 1 (fld 10 2 (recNow s.dev 0x03 1
    d.p1.toNat)))).1 + (recPW (recNow s.dev 0x02 1 (fld 10 2 (recNow s.dev 0x03 1 d.p1.toNat)))).2) * d.p6.toNat < 2
    ^ 40 → d.p7.toNat ≤ 32767 → badField { pmask := 0xFF } [] d = none → s.dev.trc.groups.any (fun e =>
    overlapsGroup d.target.toNat d.p0.toNat e.2 && (e.2.mode == .armed || e.2.mode == .triggered)) = false → exec
    (.ltnTraceSet d) s = .next
    { s with dev := completed d s.dev .ok 0 [] { started d s.dev with trc.groups := tset (s.dev.trc.groups.filter (fun e => !overlapsGroup d.target.toNat d.p0.toNat e.2)) d.target.toNat { first := d.target.toNat, count := d.p0.toNat, loop := d.p1.toNat, nodes := setNodes d, decim := d.p6.toNat, tunit := false, pre := d.p7.toNat } } }) ∧
  (∀ (d : Desc) (g : TraceGroup) (s : State), canStart d s.dev = true → tfind s.dev.trc.groups d.target.toNat = some
    g → (g.mode = .idle ∨ g.mode = .done ∨ g.mode = .stopped) → d.p0 = 0 → badField { pmask := 0x1F } [] d = none →
    exec (.ltnTraceArm d) s = .next
    { s with dev := completed d s.dev .ok 0 [] (setGroup { first := g.first, count := g.count, loop := g.loop, nodes := g.nodes, decim := g.decim, tunit := g.tunit, pre := g.pre, mode := .armed, kind := 0, a := d.p1, b := d.p2, trigVersion := d.p1.toNat, trigTime := nsT ((d.p3.toNat * 2 ^ 32 + d.p2.toNat) * 1000000000 + d.p1.toNat), ofGroup := d.p4.toNat } (started d s.dev)) }) ∧
  (∀ (d : Desc) (g : TraceGroup) (s : State), canStart d s.dev = true → badField plain [] d = none → tfind
    s.dev.trc.groups d.target.toNat = some g → g.mode = .armed → g.kind = 0 → exec (.ltnTraceForce d) s = .next
    { s with dev := completed d s.dev .ok (nsLow (nowS s.dev)) [] (traceTrigger 64 d.target.toNat (nowS s.dev) (started d s.dev)) }) ∧
  (∀ (d : Desc) (g : TraceGroup) (s : State), canStart d s.dev = true → badField plain [] d = none → tfind
    s.dev.trc.groups d.target.toNat = some g → (g.mode ≠ .armed ∨ g.kind ≠ 0) → exec (.ltnTraceForce d) s = .next
    { s with dev := completed d s.dev .rejectedState 0 [] (started d s.dev) }) ∧
  (∀ (d : Desc) (g : TraceGroup) (s : State), canStart d s.dev = true → badField plain [] d = none → tfind
    s.dev.trc.groups d.target.toNat = some g → (g.mode = .armed ∨ g.mode = .triggered) → exec (.ltnTraceStop d) s =
    .next
    { s with dev := completed d s.dev .ok (keptEntries g).length [] (raise Ev.ltnTraceStopped [(1, g.first), (1, 1)] (setGroup { g with mode := .stopped } (started d s.dev))) }) ∧
  (∀ (d : Desc) (g : TraceGroup) (w : Nat) (s : State), canStart d s.dev = true → badField plain [] d = none → tfind
    s.dev.trc.groups d.target.toNat = some g → (g.mode = .done ∨ g.mode = .stopped) → windowOf s.dev 0x11C0 = some w
    → s.dev.trc.read = none → exec (.ltnTraceRead d) s = .next
    { s with dev := modRing d.ring (fun r => { r with busy := true }) { started d s.dev with trc.read := some (pendOf d s.dev, 0, traceSegments (started d s.dev) g (segRoom (winOf s.dev w))) } })

/-- While RUN is clear LANTERN_RECORD changes nothing. With RUN set, the Spire die up and no DRAM repair under way,
the oldest record of the input queue, of a channel that does not average, in order and with its channel record kept,
leaves the queue and is written to the ring, after its open averaging window is closed. A record of a channel without
gap, due anchor or change of version is written as one record where the ring has room, and its channel counts it. With
no room it is counted in the pending gap of its channel and the ring is full. In a descriptor that may start with its
fields in order, LTN_READ_CHANNEL of a channel that exists writes its status record to the host buffer and completes
OK with the records written, and LTN_CLEAR_COUNTERS zeroes the counters of its mask and completes OK. Under conditions
on state and operands alone these complete: lanternRecord, ltnReadChannel, ltnClearCounters. (R57, R64, R71, R649,
R654, R655, R661, R679) -/
def Obligations.LanternRecords : Prop :=
  (∀ (s : State), s.dev.ltn.run = false → exec .lanternRecord s = .next s) ∧
  (∀ (r : LtnIn) (rest : List LtnIn) (b : List Byte) (s : State), s.dev.ltn.run = true → s.dev.btr.spireUp = true →
    dramStopped s.dev = false → s.dev.ltn.inq = r :: rest → ltnOrder { s.dev with ltn.inq := rest } r.channel r.time
    = none → recAt s.dev 0x11 1 r.channel r.time = some b → bit 1 (fld 0 1 b) = false → exec .lanternRecord s =
    .next
    { s with dev := ltnWrite r.channel 0 r.flags r.time r.value r.aux r.version (r.time + 1) (closeWindow r.channel { s.dev with ltn.inq := rest }) }) ∧
  (∀ (c : Nat) (t : STime) (v : Word) (ch : Channel) (s : Device), s.ltn.startDue = none → lchan s c = ch → ch.gap =
    none → ch.anchor = false → ch.since = 0 → ch.last = some t → ch.version = some 1 → ltnRoom s 1 = true →
    s.spr.acts = [] → ltnWrite c 0 0 t v 0 1 (t + 1) s = modLchan c (fun k =>
    { k with last := some t, version := some 1, anchor := false, since := k.since + 1, records := k.records + 1 })
    (ltnPut [{ bytes := ltnBytes c 0 0 (t % 256) v.toNat (nsLow t) 0, time := some t }] s)) ∧
  (∀ (c : Nat) (t : STime) (v : Word) (s : Device), s.ltn.startDue = none → s.ltn.ringMib = 0 → s.ltn.ringFull =
    true → ltnWrite c 0 0 t v 0 1 (t + 1) s = ltnFull (ltnLose c t s)) ∧
  (∀ (d : Desc) (s : State), canStart d s.dev = true → d.target.toNat ≤ 4095 → created s.dev 0x11 1 d.target.toNat =
    true → badField { bufMin := 32, bufMax := 16777216 } [] d = none → exec (.ltnReadChannel d) s = .next
    { s with dev := completed d s.dev .ok (lchan s.dev d.target.toNat).records.toNat (le 8 (flag 0 (lchan s.dev d.target.toNat).enabled + flag 1 (lchan s.dev d.target.toNat).averaged) ++ le 8 ((lchan s.dev d.target.toNat).last.getD 0 / 256) ++ le 4 (lchan s.dev d.target.toNat).records.toNat ++ le 4 (lchan s.dev d.target.toNat).lost.toNat ++ le 4 (lchan s.dev d.target.toNat).gaps.toNat ++ le 4 0) (started d s.dev) }) ∧
  (∀ (d : Desc) (s : State), canStart d s.dev = true → badField { target := false, pmask := 1 } [(4 ≤ d.p0.toNat,
    24)] d = none → exec (.ltnClearCounters d) s = .next
    { s with dev := completed d s.dev .ok 0 [] { started d s.dev with ltn.lost := if bit 0 d.p0.toNat then 0 else s.dev.ltn.lost, ltn.gaps := if bit 1 d.p0.toNat then 0 else s.dev.ltn.gaps } })

/-- An event of severity above 0, from a code without a rate limit and a Dome block, waits for admission with the Dome
time, its code, severity and payload, and is counted as an activity; one of an unknown code changes nothing. A waiting
record is not admitted before working time has passed its stamp. After that the next one is admitted if a slot can be
found: it takes the next SEQ and the slot, is offered to the event ring, leaves the queue and becomes the latest; one
older than the last admitted leaves the queue, is counted in EVR_XLOST and owes EVR_DROPS. A summary is issued one
second after the first event it holds; with none held the time-out changes nothing. Under conditions on state and
operands alone these complete: eventRaise, eventAdmission, summaryTimeout. (R664, R665, R666, R668, R669, R670) -/
def Obligations.EventsRecorded : Prop :=
  (∀ (code : Nat) (payload : List Byte) (s : State), sevOf code ≠ 0 → unlimited code = true → spireCode code = false
    → exec (.eventRaise code payload) s = .next
    { s with dev := evEnqueue ⟨{ time := nowD s.dev, code := code, sev := sevOf code, payload := padTo 8 payload }, evBlock code⟩ (pmcEdge (evBlock code) (code % 2048) 0 s.dev) }) ∧
  (∀ (code : Nat) (payload : List Byte) (s : State), sevOf code = 0 → exec (.eventRaise code payload) s = .next s) ∧
  (∀ (ok : Bool) (unread : List Nat) (w : EvWait) (s : State), evNext s.dev.evr.queue = some w → nowD s.dev ≤
    w.rec_.time → exec (.eventAdmission ok unread) s = .next s) ∧
  (∀ (ok : Bool) (unread : List Nat) (w : EvWait) (s : State), evNext s.dev.evr.queue = some w → w.rec_.time < nowD
    s.dev → w.rec_.time < s.dev.evr.lastTime → exec (.eventAdmission ok unread) s = .next
    { s with dev := { s.dev with evr.queue := s.dev.evr.queue.erase w, evr.xlost := s.dev.evr.xlost + 1, evr.dropsOwed := true } }) ∧
  (∀ (unread : List Nat) (k : Nat) (w : EvWait) (s : State), evNext s.dev.evr.queue = some w → w.rec_.time < nowD
    s.dev → s.dev.evr.lastTime ≤ w.rec_.time → slotFor s.dev w.rec_.sev = some k → ∃ r t, exec (.eventAdmission true
    unread) s = .next { s with dev := offerEvent r (putSlot k r t) } ∧ r.seq = s.dev.evr.seq ∧ r.code = w.rec_.code
    ∧ r.time = w.rec_.time ∧ r.payload = w.rec_.payload ∧ t.evr.seq = s.dev.evr.seq + 1 ∧ t.evr.queue =
    s.dev.evr.queue.erase w ∧ t.evr.lastTime = w.rec_.time) ∧
  (∀ (code : Nat) (s : State), tfind s.dev.evr.sums code = none → exec (.summaryTimeout code) s = .next s) ∧
  (∀ (code : Nat) (q : EvSum) (s : State), tfind s.dev.evr.sums code = some q → q.first + secT 1 ≤ nowD s.dev → exec
    (.summaryTimeout code) s = .next { s with dev := issueSummary code (q.first + secT 1) s.dev })

/-- In a descriptor that may start with its fields in order: EVR_EXPORT, with a window for events bound and no export
running, completes OK with DETAIL 0 where the log is empty, and with P1 = 1 and one readable record in the log starts
to export it and stays in progress. EVR_READ_LASTGASP writes the stored records, padded to 512 bytes, with flag bit 2
set, and completes OK with their number. EVR_CLEAR_LASTGASP with the access it needs empties that store and completes
OK with the number it held; without that access it completes with AUTH_REQUIRED. EVR_CLEAR_COUNTERS zeroes the
counters of its mask and completes OK. Under conditions on state and operands alone these complete: evrExport,
evrReadLastgasp, evrClearLastgasp, evrClearCounters. (R57, R64, R71, R674, R676, R679) -/
def Obligations.EventCommands : Prop :=
  (∀ (d : Desc) (w : Nat) (s : State), canStart d s.dev = true → badField { target := false, pmask := 3 } [(2 ≤
    d.p1.toNat, 28)] d = none → windowOf s.dev 0x1200 = some w → s.dev.evr.export_ = none → s.dev.evr.region = [] →
    exec (.evrExport d []) s = .next { s with dev := completed d s.dev .ok 0 [] (started d s.dev) }) ∧
  (∀ (d : Desc) (e : EvSlot) (k w : Nat) (s : State), canStart d s.dev = true → badField
    { target := false, pmask := 3 } [(2 ≤ d.p1.toNat, 28)] d = none → windowOf s.dev 0x1200 = some w →
    s.dev.evr.export_ = none → s.dev.evr.region = [(k, e)] → d.p1 = 1 → exec (.evrExport d []) s = .next
    { s with dev := modRing d.ring (fun r => { r with busy := true }) { started d s.dev with evr.export_ := some (pendOf d s.dev, [(k, e.rec_)], 0) } }) ∧
  (∀ (d : Desc) (s : State), canStart d s.dev = true → badField
    { target := false, bufMin := 512, bufMax := 16777216 } [] d = none → exec (.evrReadLastgasp d) s = .next
    { s with dev := completed d s.dev .ok s.dev.evr.lastGasp.length (padTo 512 (s.dev.evr.lastGasp.map (fun r => eventBytes { r with flags := r.flags ||| 4 } false)).flatten) (started d s.dev) }) ∧
  (∀ (d : Desc) (s : State), canStart d s.dev = true → badField { target := false } [] d = none → needMaint (started
    d s.dev) = false → exec (.evrClearLastgasp d) s = .next
    { s with dev := completed d s.dev .ok s.dev.evr.lastGasp.length [] { started d s.dev with evr.lastGasp := [] } }) ∧
  (∀ (d : Desc) (s : State), canStart d s.dev = true → badField { target := false } [] d = none → needMaint (started
    d s.dev) = true → exec (.evrClearLastgasp d) s = .next
    { s with dev := completed d s.dev .authRequired 0 [] (started d s.dev) }) ∧
  (∀ (d : Desc) (s : State), canStart d s.dev = true → badField { target := false, pmask := 1 } [(65536 ≤ d.p0.toNat
    || bits 7 6 d.p0.toNat != 0, 24)] d = none → exec (.evrClearCounters d) s = .next
    { s with dev := completed d s.dev .ok 0 [] { started d s.dev with evr.lost := if bit 0 d.p0.toNat then 0 else s.dev.evr.lost, evr.xlost := if bit 1 d.p0.toNat then 0 else s.dev.evr.xlost, evr.suppr := if bit 2 d.p0.toNat then 0 else s.dev.evr.suppr, evr.crcBad := if bit 3 d.p0.toNat then 0 else s.dev.evr.crcBad, evr.remaps := if bit 4 d.p0.toNat then 0 else s.dev.evr.remaps, evr.retired := if bit 5 d.p0.toNat then 0 else s.dev.evr.retired, evr.drops := s.dev.evr.drops.filter (fun e => !bit (8 + e.1) d.p0.toNat) } })

/-- With the Spire die up: a valid selection below 640 selects its signal and starts the counter there, so that a
counter that has just been selected reads 0; an invalid one sets CFG_ERR only. GO with no snapshot open opens one at a
whole µs at least 4,000 cycles ahead; a second GO sets OVERRUN only. A dump period of 0 or 100 to 1,000,000 µs is
taken from now on; any other sets CFG_ERR only. A dump mask is taken. A dump that is due is written for its instant. A
read of PMC_STATUS answers it and clears CFG_ERR and OVERRUN; with the Spire die down it answers 0. A snapshot that
has come due holds the 640 counters, the epoch, the SEQ of the recorder and its time, counts, and is closed; one that
is not due changes nothing. Under conditions on state and operands alone these complete: pmcSelWrite, pmcSnapWrite,
snapshotInstant, pmcDumpCfgWrite, pmcDumpMaskWrite, dumpInstant, pmcStatusRead. (R705, R731, R735, R737, R738, R739,
R743, R746) -/
def Obligations.CountersAndDumps : Prop :=
  (∀ (n v : Nat) (s : State), s.dev.btr.spireUp = true → n ≤ 639 → v < 2 ^ 13 → selValid v = true → exec
    (.pmcSelWrite n v) s = .next
    { s with dev := { s.dev with pmc.sel := tset s.dev.pmc.sel n (BitVec.ofNat 32 v), pmc.start := tset s.dev.pmc.start n (cumOf s.dev v) } }) ∧
  (∀ (n v : Nat) (s : Device), pmcSel s n = v → tget s.pmc.start n 0 = cumOf s v → pmcCount s n = 0) ∧
  (∀ (n v : Nat) (s : State), s.dev.btr.spireUp = true → n ≤ 639 → v < 2 ^ 13 → selValid v = false → exec
    (.pmcSelWrite n v) s = .next { s with dev := { s.dev with pmc.cfgErr := true } }) ∧
  (∀ (v : Nat) (s : State), s.dev.btr.spireUp = true → v % 2 = 1 → s.dev.pmc.snapAt = none → exec (.pmcSnapWrite v)
    s = .next { s with dev := { s.dev with pmc.snapAt := some (ceilTo (nsT 1000) (inCycles s.dev 4000)) } }) ∧
  (∀ (v : Nat) (t : STime) (s : State), s.dev.btr.spireUp = true → v % 2 = 1 → s.dev.pmc.snapAt = some t → exec
    (.pmcSnapWrite v) s = .next { s with dev := { s.dev with pmc.overrun := true } }) ∧
  (∀ (t : STime) (s : State), s.dev.pmc.snapAt = some t → t ≤ nowS s.dev → ∃ u, exec .snapshotInstant s = .next
    { s with dev := u } ∧ u.pmc.snapAt = none ∧ u.pmc.snapSeq = s.dev.pmc.snapSeq + 1 ∧ u.pmc.snapT = t / 256 ∧
    u.pmc.hEvrSeq = s.dev.evr.seq.toNat ∧ u.pmc.hKepEp = s.dev.kep.epoch ∧ u.pmc.hold = (List.range 640).map (fun n
    => (n, pmcCount s.dev n)) ∧ u.evr = s.dev.evr) ∧
  (∀ (t : STime) (s : State), s.dev.pmc.snapAt = some t → nowS s.dev < t → exec .snapshotInstant s = .next s) ∧
  (∀ (v : Nat) (s : State), s.dev.btr.spireUp = true → v < 2 ^ 20 → (v = 0 ∨ 100 ≤ v) → v ≤ 1000000 → exec
    (.pmcDumpCfgWrite v) s = .next { s with dev := { s.dev with pmc.period := v, pmc.dumpFrom := nowS s.dev } }) ∧
  (∀ (v : Nat) (s : State), s.dev.btr.spireUp = true → v < 2 ^ 20 → ((1 ≤ v ∧ v < 100) ∨ 1000000 < v) → exec
    (.pmcDumpCfgWrite v) s = .next { s with dev := { s.dev with pmc.cfgErr := true } }) ∧
  (∀ (v : Nat) (s : State), s.dev.btr.spireUp = true → v < 2 ^ 20 → exec (.pmcDumpMaskWrite v) s = .next
    { s with dev := { s.dev with pmc.mask := v } }) ∧
  (∀ (s : State), s.dev.btr.spireUp = true → s.dev.pmc.period ≠ 0 → nextMul (usT s.dev.pmc.period)
    s.dev.pmc.dumpFrom ≤ nowS s.dev → exec .dumpInstant s = .next
    { s with dev := writeDump (nextMul (usT s.dev.pmc.period) s.dev.pmc.dumpFrom) { s.dev with pmc.dumpFrom := nextMul (usT s.dev.pmc.period) s.dev.pmc.dumpFrom } }) ∧
  (∀ (s : State), s.dev.btr.spireUp = true → exec .pmcStatusRead s = .next
    { s with dev := { s.dev with pmc.cfgErr := false, pmc.overrun := false, out := s.dev.out ++ [.reg 0x160000 (pmcStatus s.dev)] } }) ∧
  (∀ (s : State), s.dev.btr.spireUp = false → exec .pmcStatusRead s = .next
    { s with dev := { s.dev with out := s.dev.out ++ [.reg 0x160000 0] } })

/-- The wear monitors are not evaluated within 10 ms of the last time; with the Spire die up and 10 ms past, an
evaluation without readings looks at every converter that may serve. A swap whose changeover is not due changes
nothing; one of a lane, core, converter or row that is due takes the spare out of its pool, installs it, reports the
swap, ends the activity and gives the notice of the pool. A scrub of the Keep with no bad sector ends its activity. A
repair of DRAM with no remapped row ends its activity, and one with one remapped row of a bank with its spare free
repairs it. Neither does anything without its activity. In a descriptor that may start with its fields in order:
SPR_RESERVE_SWAP of a lane that may serve, SPR_KEEP_SCRUB, and SPR_DRAM_REPAIR outside RUNNING with a row to repair
and the access it needs, are admitted and complete OK with the next handle; a swap refused completes with
BUSY_CONFLICT and counts. An admission takes the next handle of 1 to 255 and counts no refusal. SPR_CLEAR_COUNTERS
zeroes the counters of its mask and completes OK. Under conditions on state and operands alone these complete:
wearMonitorEvaluation, swapChangeover, keepScrubDone, dramRepairDone, sprReserveSwap, sprKeepScrub, sprDramRepair,
sprClearCounters. (R57, R64, R71, R711, R715, R716, R718, R719, R724, R730) -/
def Obligations.MaintenanceActivities : Prop :=
  (∀ (readings : List (Nat × Nat × Nat × Nat)) (s : State), s.dev.tim.ck < s.dev.spr.wearAt + 10000000 → exec
    (.wearMonitorEvaluation readings) s = .next s) ∧
  (∀ (s : State), s.dev.btr.spireUp = true → s.dev.spr.wearAt + 10000000 ≤ s.dev.tim.ck → exec
    (.wearMonitorEvaluation []) s = .next
    { s with dev := ((List.range 34).filter (fun p => unitState s.dev 2 p == 0)).foldl wearConverter { s.dev with spr.wearAt := s.dev.tim.ck } }) ∧
  (∀ (slot spare : Nat) (a : Activity) (s : State), tfind s.dev.spr.acts slot = some a → a.code = 1 → a.spare = some
    spare → changeoverDue s.dev a = false → exec (.swapChangeover slot) s = .next s) ∧
  (∀ (slot spare : Nat) (a : Activity) (s : State), tfind s.dev.spr.acts slot = some a → a.code = 1 → a.spare = some
    spare → a.kind ≠ 4 → changeoverDue s.dev a = true → exec (.swapChangeover slot) s = .next
    { s with dev := poolNotice (poolOf a.kind a.unit) (endActivity slot 0 (swapDone a.kind a.unit spare a.cause (installSpare a.kind a.unit spare (leavePool a.kind spare s.dev)))) }) ∧
  (∀ (slot : Nat) (s : State), actSlot s.dev 3 0 0 = some slot → exec (.keepScrubDone []) s = .next
    { s with dev := endActivity slot 0 s.dev }) ∧
  (∀ (slot : Nat) (s : State), actSlot s.dev 4 0 0 = some slot → s.dev.spr.softRows = [] → exec .dramRepairDone s =
    .next { s with dev := endActivity slot 0 s.dev }) ∧
  (∀ (slot row : Nat) (s : State), actSlot s.dev 4 0 0 = some slot → s.dev.spr.softRows = [row] →
    s.dev.spr.hardUsed.contains (Config.rowBank row).toNat = false → ∃ t, exec .dramRepairDone s = .next
    { s with dev := t } ∧ t.spr.hardUsed = s.dev.spr.hardUsed ++ [(Config.rowBank row).toNat] ∧ t.spr.softRows = []) ∧
  (∀ (s : State), s.dev.spr.acts = [] → exec (.keepScrubDone []) s = .next s ∧ exec .dramRepairDone s = .next s) ∧
  (∀ (d : Desc) (s : State), canStart d s.dev = true → d.target.toNat < 18 → d.p0 = 0 → badField { pmask := 1 } [] d
    = none → unitState (started d s.dev) 0 d.target.toNat = 0 → refusal 1 0 d.target.toNat (started d s.dev) = none
    → exec (.sprReserveSwap d) s = .next
    { s with dev := completed d s.dev .ok (s.dev.spr.handle % 255 + 1) [] (admitActivity 1 0 d.target.toNat 3 (spares (started d s.dev) 0).head? (started d s.dev)).2 }) ∧
  (∀ (d : Desc) (h : Nat) (s : State), canStart d s.dev = true → d.target.toNat < 18 → d.p0 = 0 → badField
    { pmask := 1 } [] d = none → unitState (started d s.dev) 0 d.target.toNat = 0 → refusal 1 0 d.target.toNat
    (started d s.dev) = some h → exec (.sprReserveSwap d) s = .next
    { s with dev := finish (pendOf d s.dev) .busyConflict h [] { started d s.dev with spr.refused := s.dev.spr.refused + 1 } }) ∧
  (∀ (d : Desc) (s : State), canStart d s.dev = true → badField { target := false } [] d = none → refusal 3 0 0
    (started d s.dev) = none → exec (.sprKeepScrub d) s = .next
    { s with dev := completed d s.dev .ok (s.dev.spr.handle % 255 + 1) [] (admitActivity 3 0 0 3 (spares (started d s.dev) 5).head? (started d s.dev)).2 }) ∧
  (∀ (d : Desc) (s : State), canStart d s.dev = true → badField { target := false } [] d = none → needMaint (started
    d s.dev) = false → s.dev.cfg.mode ≠ .running → s.dev.spr.softRows ≠ [] → refusal 4 0 0 (started d s.dev) = none
    → exec (.sprDramRepair d) s = .next
    { s with dev := completed d s.dev .ok (s.dev.spr.handle % 255 + 1) [] (admitActivity 4 0 0 3 none (started d s.dev)).2 }) ∧
  (∀ (code kind unit cause : Nat) (spare : Option Nat) (s : Device), refusal code kind unit s = none →
    (admitActivity code kind unit cause spare s).2.spr.handle = s.spr.handle % 255 + 1 ∧ (admitActivity code kind
    unit cause spare s).2.spr.refused = s.spr.refused) ∧
  (∀ (d : Desc) (s : State), canStart d s.dev = true → badField { target := false, pmask := 1 } [(8 ≤ d.p0.toNat,
    24)] d = none → exec (.sprClearCounters d) s = .next
    { s with dev := completed d s.dev .ok 0 [] { started d s.dev with spr.swaps := if bit 0 d.p0.toNat then 0 else s.dev.spr.swaps, spr.refused := if bit 1 d.p0.toNat then 0 else s.dev.spr.refused, spr.deferredCnt := if bit 2 d.p0.toNat then 0 else s.dev.spr.deferredCnt } })

/-- A conversion that ends with no request and no scan changes nothing; the corrected sample of a channel in a scan
that is not settling is summed and the scan goes on to its next conversion; the head urgent conversion that runs gives
its urgent result. The first sample of a sum of an external channel, with its record kept and AVG above 0, opens the
sum with that value, count 1 and the instant of the sample. A PERIODIC start of an enabled converter without a
handover begins a scan where none runs; where one runs it is counted in ADC_SCAN_SLIP and deferred; of a converter
that is not PERIODIC it changes nothing. The edge URG_CFG names on an enabled converter with URG_PIN queues an urgent
request for its channel, and counts an abort of a running scan; the other edge changes nothing; a fifth request is
counted and raises ADC_URG_OVF. In a descriptor that may start with its fields in order, ADC_URGENT of a channel of an
enabled converter with fewer than four requests queues one and stays in progress, and counts the abort of a running
scan; with no such channel it completes with NOT_FOUND. The time-out of a converter without requests changes nothing;
of one whose request has waited 100 µs it completes that command with TIMEOUT. Under conditions on state and operands
alone these complete: conversionEnd, scanStart, urgentPinRequest, adcUrgent, adcUrgentTimeout. (R57, R64, R71, R262,
R263, R268, R271, R272, R276, R278, R293, R301) -/
def Obligations.ConversionsRun : Prop :=
  (∀ (c : Nat) (raw : Int) (t : Nat) (s : State), (convOf s.dev c).urg = [] → (convOf s.dev c).scan = [] → exec
    (.conversionEnd c raw t) s = .next s) ∧
  (∀ (c k : Nat) (rest : List Nat) (raw : Int) (t : Nat) (s : State), (convOf s.dev c).urg = [] → (convOf s.dev
    c).urgRun = false → (convOf s.dev c).scan = k :: rest → (chanOf s.dev (8 * c + k)).settle = none → exec
    (.conversionEnd c raw t) s = .next
    { s with dev := scanBoundary c (nextConversion c (addSample (8 * c + k) (correct (calTable s.dev (convOf s.dev c).phys (tableOf k (chanOf s.dev (8 * c + k)).range)) (clampI (-131072) 131071 raw)) t (pmcEdge 0x08 0x80 (convOf s.dev c).phys s.dev))) }) ∧
  (∀ (c : Nat) (u : Urgent) (rest : List Urgent) (raw : Int) (t : Nat) (s : State), (convOf s.dev c).urg = u :: rest
    → (convOf s.dev c).urgRun = true → exec (.conversionEnd c raw t) s = .next
    { s with dev := scanBoundary c (urgentResult c u (correct (calTable s.dev (convOf s.dev c).phys (tableOf u.chan (chanOf s.dev (8 * c + u.chan)).range)) (clampI (-131072) 131071 raw)) t (pmcEdge 0x08 0x80 (convOf s.dev c).phys s.dev)) }) ∧
  (∀ (n : Nat) (v : Int) (t : STime) (b : List Byte) (s : Device), (chanOf s n).n = 0 → recAt s 0x08 1 (n / 8) t =
    some b → (chanParams s n b).1 ≠ 0 → n % 8 < 4 → (chanOf (addSample n v t s) n).sum = v ∧ (chanOf (addSample n v
    t s) n).n = 1 ∧ (chanOf (addSample n v t s) n).stime = t) ∧
  (∀ (c : Nat) (t : STime) (s : State), lastPeriodic (convRec s.dev c) (nowD s.dev) = some t → convStart (convRec
    s.dev c) = 1 → convEnabled s.dev c = true → (convOf s.dev c).lastStart.all (fun l => decide (l < t)) = true →
    (convOf s.dev c).scan = [] → (convOf s.dev c).urgRun = false → (convOf s.dev c).cal = none → (convOf s.dev
    c).swapTo = none → exec (.scanStart c) s = .next
    { s with dev := beginScan c (modConv c (fun v => { v with lastStart := some t }) s.dev) }) ∧
  (∀ (c : Nat) (t : STime) (s : State), lastPeriodic (convRec s.dev c) (nowD s.dev) = some t → convStart (convRec
    s.dev c) = 1 → convEnabled s.dev c = true → (convOf s.dev c).lastStart.all (fun l => decide (l < t)) = true →
    (convOf s.dev c).scan ≠ [] → (convOf s.dev c).deferred = false → ∃ u, exec (.scanStart c) s = .next
    { s with dev := u } ∧ u.adc.slip = s.dev.adc.slip + 1 ∧ (convOf u c).deferred = true ∧ (convOf u c).scan =
    (convOf s.dev c).scan ∧ (convOf u c).lastStart = some t ∧ u.evr = s.dev.evr) ∧
  (∀ (c : Nat) (s : State), convStart (convRec s.dev c) ≠ 1 → exec (.scanStart c) s = .next s) ∧
  (∀ (c : Nat) (rising : Bool) (s : State), convEnabled s.dev c = true → fld 14 1 (convRec s.dev c) ≠ 0xFF → bit 3
    (fld 15 1 (convRec s.dev c)) ≠ rising → (convOf s.dev c).urg.length < 4 → ((convOf s.dev c).scan = [] ∨ (convOf
    s.dev c).urgRun = true) → exec (.urgentPinRequest ⟨c, rising⟩) s = .next
    { s with dev := modConv c (fun v => { v with urg := v.urg ++ [{ chan := fld 15 1 (convRec s.dev c) % 8, pend := none, at_ := nowD s.dev }], urgRun := true }) s.dev }) ∧
  (∀ (c : Nat) (rising : Bool) (s : State), convEnabled s.dev c = true → fld 14 1 (convRec s.dev c) ≠ 0xFF → bit 3
    (fld 15 1 (convRec s.dev c)) ≠ rising → (convOf s.dev c).urg.length < 4 → (convOf s.dev c).scan ≠ [] → (convOf
    s.dev c).urgRun = false → exec (.urgentPinRequest ⟨c, rising⟩) s = .next
    { s with dev := modConv c (fun v => { v with urg := v.urg ++ [{ chan := fld 15 1 (convRec s.dev c) % 8, pend := none, at_ := nowD s.dev }], urgRun := true }) { s.dev with adc.aborts := s.dev.adc.aborts + 1 } }) ∧
  (∀ (c : Nat) (rising : Bool) (s : State), bit 3 (fld 15 1 (convRec s.dev c)) = rising → exec (.urgentPinRequest
    ⟨c, rising⟩) s = .next s) ∧
  (∀ (c : Nat) (rising : Bool) (s : State), convEnabled s.dev c = true → fld 14 1 (convRec s.dev c) ≠ 0xFF → bit 3
    (fld 15 1 (convRec s.dev c)) ≠ rising → (convOf s.dev c).urg.length = 4 → exec (.urgentPinRequest ⟨c, rising⟩) s
    = .next
    { s with dev := raise Ev.adcUrgOvf [(1, 8 * c + fld 15 1 (convRec s.dev c) % 8)] { s.dev with adc.urgOvf := s.dev.adc.urgOvf + 1 } }) ∧
  (∀ (d : Desc) (s : State), canStart d s.dev = true → d.target.toNat ≤ 255 → badField plain [] d = none →
    convEnabled s.dev (d.target.toNat / 8) = true → (convOf s.dev (d.target.toNat / 8)).urg.length < 4 → ((convOf
    s.dev (d.target.toNat / 8)).scan = [] ∨ (convOf s.dev (d.target.toNat / 8)).urgRun = true) → exec (.adcUrgent d)
    s = .next
    { s with dev := modRing d.ring (fun r => { r with busy := true }) (modConv (d.target.toNat / 8) (fun v => { v with urg := v.urg ++ [{ chan := d.target.toNat % 8, pend := some (pendOf d s.dev), at_ := nowD s.dev }], urgRun := true }) (started d s.dev)) }) ∧
  (∀ (d : Desc) (s : State), canStart d s.dev = true → d.target.toNat ≤ 255 → badField plain [] d = none →
    convEnabled s.dev (d.target.toNat / 8) = true → (convOf s.dev (d.target.toNat / 8)).urg.length < 4 → (convOf
    s.dev (d.target.toNat / 8)).scan ≠ [] → (convOf s.dev (d.target.toNat / 8)).urgRun = false → exec (.adcUrgent d)
    s = .next
    { s with dev := modRing d.ring (fun r => { r with busy := true }) (modConv (d.target.toNat / 8) (fun v => { v with urg := v.urg ++ [{ chan := d.target.toNat % 8, pend := some (pendOf d s.dev), at_ := nowD s.dev }], urgRun := true }) { started d s.dev with adc.aborts := s.dev.adc.aborts + 1 }) }) ∧
  (∀ (d : Desc) (s : State), canStart d s.dev = true → 255 < d.target.toNat → exec (.adcUrgent d) s = .next
    { s with dev := completed d s.dev .notFound 0 [] (started d s.dev) }) ∧
  (∀ (c : Nat) (s : State), (convOf s.dev c).mute = [] → (convOf s.dev c).urg = [] → exec (.adcUrgentTimeout c) s =
    .next s) ∧
  (∀ (c : Nat) (u : Urgent) (p : Pend) (s : State), ((convOf s.dev c).mute ++ (convOf s.dev c).urg).find? (fun x =>
    x.pend.isSome && decide (x.at_ + usT 100 ≤ nowD s.dev)) = some u → u.pend = some p → exec (.adcUrgentTimeout c)
    s = .next
    { s with dev := finish p .timeout 0 [] (modConv c (fun v => { v with mute := v.mute.filter (fun x => x != u), urg := v.urg.map (fun x => if x == u then { x with pend := none } else x) }) s.dev) })

/-- A write of a range 0 to 4 to an external channel of a device not held in reset selects the range, raises
ADC_RANGE_SET, discards the partial sum, owes a PARAM mark and keeps the channel out of the scans for 20 µs; any other
write there changes no range. When the 20 µs have passed the channel rejoins; before, nothing changes. A calibration
step of a converter without a calibration changes nothing; the takeover of a converter at a scan boundary gives it the
spare; a fit within its limits replaces the table measured, any other is recorded as the failure and keeps the tables;
the handback at a scan boundary returns the converter and keeps the tables. In a descriptor that may start with its
fields in order, ADC_CALIBRATE of a converter that may be calibrated completes OK with the spare, and a run of the
classes of its mask stands; ADC_READ_CAL writes the five tables of the converter serving and completes OK with its
number; ADC_CLEAR_COUNTERS zeroes the counters of its mask and completes OK. Under conditions on state and operands
alone these complete: adcRangeWrite, rangeSettleExpiry, calibrationTakeover, calibrationTableFit, calibrationHandback,
adcCalibrate, adcReadCal, adcClearCounters. (R57, R64, R71, R263, R294, R295, R296, R297, R302, R303, R304) -/
def Obligations.RangesAndCalibration : Prop :=
  (∀ (n v : Nat) (s : State), s.dev.clk.held = none → n ≤ 255 → n % 8 < 4 → v % 8 ≤ 4 → exec (.adcRangeWrite n v) s
    = .next
    { s with dev := raise Ev.adcRangeSet [(1, n), (1, (chanOf s.dev n).range), (1, v % 8)] (modChan n (fun a => { a with range := v % 8, settle := some (nowD s.dev + usT 20), paramOwed := true, sum := 0, n := 0, clip := false }) (hazard (0x80200 + 4 * n) s.dev)) }) ∧
  (∀ (n v : Nat) (s : State), s.dev.clk.held = none → (255 < n ∨ 4 ≤ n % 8 ∨ 5 ≤ v % 8) → exec (.adcRangeWrite n v)
    s = .next { s with dev := hazard (0x80200 + 4 * n) s.dev }) ∧
  (∀ (n : Nat) (t : STime) (s : State), (chanOf s.dev n).settle = some t → t ≤ nowD s.dev → exec (.rangeSettleExpiry
    n) s = .next { s with dev := scanBoundary (n / 8) (modChan n (fun a => { a with settle := none }) s.dev) }) ∧
  (∀ (n : Nat) (t : STime) (s : State), (chanOf s.dev n).settle = some t → nowD s.dev < t → exec (.rangeSettleExpiry
    n) s = .next s) ∧
  (∀ (c : Nat) (s : State), (convOf s.dev c).cal = none → exec (.calibrationTakeover c) s = .next s ∧ exec
    (.calibrationHandback c) s = .next s ∧ exec (.calibrationTableFit c 0 8388608 0) s = .next s) ∧
  (∀ (c : Nat) (r : CalRun) (s : State), (convOf s.dev c).cal = some r → r.step = 0 → (convOf s.dev c).scan = [] →
    (convOf s.dev c).urgRun = false → r.spare ≠ (convOf s.dev c).phys → 2 ≤ (spares s.dev 2).length → convEnabled
    s.dev c = false → ∃ t, exec (.calibrationTakeover c) s = .next { s with dev := t } ∧ (convOf t c).phys = r.spare
    ∧ (convOf t c).cal = some { r with step := 1 }) ∧
  (∀ (c t : Nat) (r : CalRun) (ofs16 : Int) (g noise : Nat) (s : State), (convOf s.dev c).cal = some r → (List.range
    5).find? (fun t => bit t r.left) = some t → r.step = 1 → fitFault ofs16 g noise = none → ∃ u, exec
    (.calibrationTableFit c ofs16 g noise) s = .next { s with dev := u } ∧ tfind u.adc.cal (8 * r.owner + t) = some
    { ofs16 := ofs16, g := g } ∧ (convOf u c).cal = some
    { r with left := r.left - 2 ^ t, step := if r.left - 2 ^ t = 0 then 2 else 1 }) ∧
  (∀ (c t : Nat) (r : CalRun) (ofs16 : Int) (g noise why : Nat) (s : State), (convOf s.dev c).cal = some r →
    (List.range 5).find? (fun t => bit t r.left) = some t → r.step = 1 → r.fail = none → fitFault ofs16 g noise =
    some why → ∃ u, exec (.calibrationTableFit c ofs16 g noise) s = .next { s with dev := u } ∧ u.adc.cal =
    s.dev.adc.cal ∧ (convOf u c).cal = some
    { r with left := r.left - 2 ^ t, step := if r.left - 2 ^ t = 0 then 2 else 1, fail := some (t, why) }) ∧
  (∀ (c : Nat) (r : CalRun) (s : State), (convOf s.dev c).cal = some r → r.step = 2 → (convOf s.dev c).scan = [] →
    (convOf s.dev c).urgRun = false → actSlot s.dev 2 0 c = none → convEnabled s.dev c = false → ∃ t, exec
    (.calibrationHandback c) s = .next { s with dev := t } ∧ (convOf t c).cal = none ∧ (convOf t c).phys = r.owner ∧
    t.adc.cal = s.dev.adc.cal) ∧
  (∀ (d : Desc) (s : State), canStart d s.dev = true → d.target.toNat ≤ 31 → d.p1 = 0 → badField { pmask := 3 } [(32
    ≤ d.p0.toNat, 24)] d = none → refusal 2 0 d.target.toNat (started d s.dev) = none → ∃ t, exec (.adcCalibrate d)
    s = .next { s with dev := completed d s.dev .ok ((spares (started d s.dev) 2).head?.getD 0) [] t } ∧ (convOf t
    d.target.toNat).cal = some
    { mask := if d.p0 = 0 then 31 else d.p0.toNat, left := if d.p0 = 0 then 31 else d.p0.toNat, spare := (spares (started d s.dev) 2).head?.getD 0, owner := physConv s.dev d.target.toNat }) ∧
  (∀ (d : Desc) (s : State), canStart d s.dev = true → d.target.toNat ≤ 31 → badField
    { bufMin := 48, bufMax := 16777216 } [] d = none → exec (.adcReadCal d) s = .next
    { s with dev := completed d s.dev .ok (convOf s.dev d.target.toNat).phys (le 1 (convOf s.dev d.target.toNat).phys ++ le 1 ((List.range 5).map (fun t => flag t (tfind s.dev.adc.cal (8 * (convOf s.dev d.target.toNat).phys + t)).isSome)).sum ++ le 6 0 ++ (List.range 5).flatMap (fun t => le 4 (wrapInt 32 (calTable s.dev (convOf s.dev d.target.toNat).phys t).ofs16) ++ le 4 (calTable s.dev (convOf s.dev d.target.toNat).phys t).g)) (started d s.dev) }) ∧
  (∀ (d : Desc) (s : State), canStart d s.dev = true → badField { target := false, pmask := 1 } [(2 ^ 6 ≤
    d.p0.toNat, 24)] d = none → exec (.adcClearCounters d) s = .next
    { s with dev := completed d s.dev .ok 0 [] { started d s.dev with adc := { (started d s.dev).adc with aborts := clr d.p0.toNat 0 s.dev.adc.aborts, urgents := clr d.p0.toNat 1 s.dev.adc.urgents, urgOvf := clr d.p0.toNat 2 s.dev.adc.urgOvf, slip := clr d.p0.toNat 3 s.dev.adc.slip, clips := clr d.p0.toNat 4 s.dev.adc.clips, lost := clr d.p0.toNat 5 s.dev.adc.lost } } })

/-- With nothing on its way the arrival changes nothing. A code that arrives for a channel of the engines, with its
record kept and none waiting, is latched at once, clamped to CMIN and CMAX, where 1 µs has passed since the last latch
and FBL does not control the outputs; waits, clamped, where 1 µs has not passed; and is discarded where its sample
time is earlier than that of the code held, or where the channel belongs to the host. A waiting code is latched when
the 1 µs has passed; before, nothing changes. A latched code is the code of the channel, with its sample time and the
present instant. A write to DAC_OE of a device not held in reset is taken. In a descriptor that may start with its
fields in order, DAC_SET of an existing channel of the host with a value in CMIN to CMAX presents the value with the
present time and completes OK with the code before; of a channel of the engines it completes with REJECTED_STATE.
Under conditions on state and operands alone these complete: dacOutputArrival, dacHoldLatch, dacOeWrite, dacSet. (R57,
R64, R71, R20, R307, R308, R309, R311, R335) -/
def Obligations.AnalogOutputs : Prop :=
  (∀ (n : Nat) (s : State), s.dev.outputs = [] → exec (.dacOutputArrival n) s = .next s) ∧
  (∀ (n : Nat) (o : OutItem) (rest : List OutItem) (b : List Byte) (s : State), s.dev.outputs = o :: rest → o.kind =
    1 → o.index = n → dacHost s.dev n = false → (dacOf s.dev n).wait = none → (dacOf s.dev n).time.all (fun x =>
    decide (x ≤ o.time)) = true → dacFree (dacOf s.dev n) s.dev = true → recAt s.dev 0x09 1 n o.time = some b → ∃ t,
    exec (.dacOutputArrival n) s = .next { s with dev := t } ∧ (dacOf t n).code = clampI (dacLimits b).1 (dacLimits
    b).2 o.code ∧ (dacOf t n).time = some o.time ∧ (dacOf t n).issue = some (nowD s.dev) ∧ t.outputs = rest) ∧
  (∀ (n : Nat) (o : OutItem) (rest : List OutItem) (t0 : STime) (b : List Byte) (s : State), s.dev.outputs = o ::
    rest → o.kind = 1 → o.index = n → dacHost s.dev n = false → (dacOf s.dev n).wait = none → (dacOf s.dev
    n).time.all (fun x => decide (x ≤ o.time)) = true → (dacOf s.dev n).issue = some t0 → nowD s.dev < t0 + usT 1 →
    recAt s.dev 0x09 1 n o.time = some b → ∃ t, exec (.dacOutputArrival n) s = .next { s with dev := t } ∧ (dacOf t
    n).code = (dacOf s.dev n).code ∧ (dacOf t n).wait = some
    { o with code := clampI (dacLimits b).1 (dacLimits b).2 o.code }) ∧
  (∀ (n : Nat) (o : OutItem) (rest : List OutItem) (s : State), s.dev.outputs = o :: rest → o.kind = 1 → o.index = n
    → dacHost s.dev n = true → exec (.dacOutputArrival n) s = .next
    { s with dev := dacDrop o { s.dev with outputs := rest } }) ∧
  (∀ (n : Nat) (o : OutItem) (rest : List OutItem) (x : STime) (s : State), s.dev.outputs = o :: rest → o.kind = 1 →
    o.index = n → (dacOf s.dev n).wait = none → (dacOf s.dev n).time = some x → o.time < x → exec (.dacOutputArrival
    n) s = .next { s with dev := dacDrop o { s.dev with outputs := rest } }) ∧
  (∀ (n : Nat) (o : OutItem) (t0 : STime) (s : State), (dacOf s.dev n).wait = some o → (dacOf s.dev n).issue = some
    t0 → t0 + usT 1 ≤ nowD s.dev → s.dev.fbl.control = false → exec (.dacHoldLatch n) s = .next
    { s with dev := dacLatch o s.dev }) ∧
  (∀ (n : Nat) (o : OutItem) (t0 : STime) (s : State), (dacOf s.dev n).wait = some o → (dacOf s.dev n).issue = some
    t0 → nowD s.dev < t0 + usT 1 → exec (.dacHoldLatch n) s = .next s) ∧
  (∀ (o : OutItem) (s : Device), (dacOf (dacLatch o s) o.index).code = o.code ∧ (dacOf (dacLatch o s) o.index).time
    = some o.time ∧ (dacOf (dacLatch o s) o.index).issue = some (nowD s) ∧ (dacOf (dacLatch o s) o.index).wait =
    none) ∧
  (∀ (v : Nat) (s : State), s.dev.clk.held = none → v < 2 ^ 32 → exec (.dacOeWrite v) s = .next
    { s with dev := { hazard 0x90000 s.dev with dac.oe := v } }) ∧
  (∀ (d : Desc) (s : State), canStart d s.dev = true → d.target.toNat ≤ 31 → created s.dev 0x09 1 d.target.toNat =
    true → badField { pmask := 1 } [(sword d.p0 < (dacLimits (recNow s.dev 0x09 1 d.target.toNat)).1 || (dacLimits
    (recNow s.dev 0x09 1 d.target.toNat)).2 < sword d.p0, 24)] d = none → dacHost s.dev d.target.toNat = true → exec
    (.dacSet d) s = .next
    { s with dev := completed d s.dev .ok (wrapInt 32 (dacOf s.dev d.target.toNat).code) [] (dacAccept { kind := 1, index := d.target.toNat, code := sword d.p0, time := nowD s.dev, version := versionAt s.dev (nowD s.dev) } (started d s.dev)) }) ∧
  (∀ (d : Desc) (s : State), canStart d s.dev = true → d.target.toNat ≤ 31 → created s.dev 0x09 1 d.target.toNat =
    true → badField { pmask := 1 } [(sword d.p0 < (dacLimits (recNow s.dev 0x09 1 d.target.toNat)).1 || (dacLimits
    (recNow s.dev 0x09 1 d.target.toNat)).2 < sword d.p0, 24)] d = none → dacHost s.dev d.target.toNat = false →
    exec (.dacSet d) s = .next { s with dev := completed d s.dev .rejectedState 0 [] (started d s.dev) })

/-- A write to DIO_OEw, w at most 2, of a device not held in reset replaces its 32 enables and no pin state; w above 2
changes nothing. A level held for FILT_US, under a record kept for its instant, is accepted with that instant and its
edge acted on; with MODE OFF, the level it has, or a shorter time, nothing changes. A suppressed excursion is counted,
and DIO_CHATTER names the pin at most once in a second. A PWM code that arrives is clamped to 0 to 65,536 and waits
where none is held later than it; at the period start the waiting code takes effect where FBL does not control the
outputs, and with none waiting only the high time is taken anew. In a descriptor that may start with its fields in
order, DIO_SET of pins of the host that are outputs writes the pins of its mask and completes OK with the 32 values
before. A written pin takes level and time; a write older than the last is discarded and counted. DIO_CLEAR_COUNTERS
zeroes the counters of its mask and completes OK. Under conditions on state and operands alone these complete:
dioOeWrite, dioInputAccept, dioRawExcursionSuppress, pwmCodeArrival, pwmPeriodStart, dioSet, dioClearCounters. (R57,
R64, R71, R20, R129, R313, R315, R316, R317, R320, R321, R335) -/
def Obligations.PinsAndPwm : Prop :=
  (∀ (w v : Nat) (s : State), s.dev.clk.held = none → w ≤ 2 → v < 2 ^ 32 → s.dev.dio.oe < 2 ^ 96 → ∃ t, exec
    (.dioOeWrite w v) s = .next { s with dev := t } ∧ bits (32 * w + 31) (32 * w) t.dio.oe = v ∧ t.dio.pins =
    s.dev.dio.pins) ∧
  (∀ (w v : Nat) (s : State), 2 < w → exec (.dioOeWrite w v) s = .next s) ∧
  (∀ (n : Nat) (level : Bool) (t : Nat) (b : List Byte) (s : State), recAt s.dev 0x0A 1 n t = some b → pinMode b ≠ 0
    → (pinOf s.dev n).level ≠ level → t + usT (fld 2 2 b) ≤ nowD s.dev → exec (.dioInputAccept n level t) s = .next
    { s with dev := pinEdge n t b (modPin n (fun p => { p with level := level, edgeAt := t }) s.dev) }) ∧
  (∀ (n : Nat) (level : Bool) (t : Nat) (b : List Byte) (s : State), recAt s.dev 0x0A 1 n t = some b → (pinMode b =
    0 ∨ (pinOf s.dev n).level = level ∨ nowD s.dev < t + usT (fld 2 2 b)) → exec (.dioInputAccept n level t) s =
    .next s) ∧
  (∀ (n : Nat) (s : State), pinMode (recNow s.dev 0x0A 1 n) ≠ 0 → fld 2 2 (recNow s.dev 0x0A 1 n) ≠ 0 → (pinOf s.dev
    n).chatAt = none → exec (.dioRawExcursionSuppress n) s = .next
    { s with dev := raise Ev.dioChatter [(1, n), (4, ((pinOf s.dev n).chat + 1).toNat)] (modPin n (fun p => { p with chat := p.chat + 1, chatAt := some (nowD s.dev) }) s.dev) }) ∧
  (∀ (n : Nat) (t : STime) (s : State), pinMode (recNow s.dev 0x0A 1 n) ≠ 0 → fld 2 2 (recNow s.dev 0x0A 1 n) ≠ 0 →
    (pinOf s.dev n).chatAt = some t → nowD s.dev < t + secT 1 → exec (.dioRawExcursionSuppress n) s = .next
    { s with dev := modPin n (fun p => { p with chat := p.chat + 1, chatAt := some (nowD s.dev) }) s.dev }) ∧
  (∀ (n : Nat) (o : OutItem) (rest : List OutItem) (s : State), s.dev.outputs = o :: rest → o.kind = 2 → o.index = n
    → pinMode (recNow s.dev 0x0A 1 n) = 4 → (pinOf s.dev n).pwmWait = none → (pinOf s.dev n).pwmTime.all (fun x =>
    decide (x ≤ o.time)) = true → exec (.pwmCodeArrival n) s = .next
    { s with dev := modPin n (fun p => { p with pwmWait := some { o with code := clampI 0 65536 o.code } }) { s.dev with outputs := rest } }) ∧
  (∀ (n : Nat) (s : State), (pinOf s.dev n).pwmWait = none → exec (.pwmPeriodStart n) s = .next
    { s with dev := modPin n (fun p => { p with pwmHigh := pwmHigh (recNow s.dev 0x0A 1 n) p.pwm }) s.dev }) ∧
  (∀ (n : Nat) (o : OutItem) (s : State), s.dev.fbl.control = false → (pinOf s.dev n).pwmWait = some o → ∃ t, exec
    (.pwmPeriodStart n) s = .next { s with dev := t } ∧ (pinOf t n).pwm = o.code.toNat ∧ (pinOf t n).pwmTime = some
    o.time ∧ (pinOf t n).pwmHigh = pwmHigh (recNow s.dev 0x0A 1 n) o.code.toNat ∧ (pinOf t n).pwmWait = none ∧ t.dac
    = s.dev.dac) ∧
  (∀ (d : Desc) (s : State), canStart d s.dev = true → d.target.toNat ≤ 2 → badField { pmask := 3 } [] d = none →
    (List.range 32).all (fun k => !bit k d.p0.toNat || (pinIsOutput (recNow s.dev 0x0A 1 (32 * d.target.toNat + k))
    && pinHost (recNow s.dev 0x0A 1 (32 * d.target.toNat + k)))) = true → exec (.dioSet d) s = .next
    { s with dev := completed d s.dev .ok (pinWord d.target.toNat (fun n => (pinOf s.dev n).out)) [] ((List.range 32).foldl (fun u k => if bit k d.p0.toNat then pinWrite (32 * d.target.toNat + k) (bit k d.p1.toNat) (nowD s.dev) u else u) (started d s.dev)) }) ∧
  (∀ (n : Nat) (level : Bool) (t : STime) (s : Device), s.fbl.control = false → (pinOf s n).outTime.all (fun x =>
    decide (x ≤ t)) = true → (pinOf (pinWrite n level t s) n).out = level ∧ (pinOf (pinWrite n level t s) n).outTime
    = some t) ∧
  (∀ (n : Nat) (level : Bool) (t x : STime) (s : Device), s.fbl.control = false → (pinOf s n).outTime = some x → t <
    x → pinWrite n level t s = { s with dio.orderDrop := s.dio.orderDrop + 1 }) ∧
  (∀ (d : Desc) (s : State), canStart d s.dev = true → badField { target := false, pmask := 1 } [(2 ^ 4 ≤
    d.p0.toNat, 24)] d = none → exec (.dioClearCounters d) s = .next
    { s with dev := completed d s.dev .ok 0 [] { started d s.dev with dio.pins := tmap s.dev.dio.pins (fun _ x => { x with chat := clr d.p0.toNat 0 x.chat }), dio.ports := tmap s.dev.dio.ports (fun _ x => { x with err := clr d.p0.toNat 1 x.err }), dio.uarts := tmap s.dev.dio.uarts (fun _ x => { x with lost := clr d.p0.toNat 2 x.lost }), dio.pwmSupersede := clr d.p0.toNat 3 s.dev.dio.pwmSupersede, dac.supersede := clr d.p0.toNat 3 s.dev.dac.supersede } })

/-- A counted edge of a pulse input advances its count and the edges of its interval; an edge that EDGE leaves out, or
of an input that is off, changes nothing, and an input that is off gives no sample. A sample whose interval has ended,
with its record kept, sends the value of the interval with the OVERSPEED mark. A 1 written to DIO_PSTAT of a device
not held in reset, with no recent edges, clears OVERSPEED. On an ABZ port a transition that leaves a line as it was
moves the position by its step, one that changes both counts and raises DIO_QUAD_ERR, and with Z_LATCH set a Z edge
without a transition latches the position; a sample keeps the position. On an SSI port a good frame without GRAY, with
its record kept, is the position, and a bad one is counted and raises DIO_SSI_ERR. A byte a UART receives is recorded
with its time and marks where no window is bound, or lost, counted and reported where 256 wait. RX_IDLE after the last
byte hands the filled segment back; with no byte received it changes nothing. A good segment of a transmit window is
sent byte by byte and returned; with no window nothing changes. In a descriptor that may start with its fields in
order, DIO_POS_PRESET of an ABZ port sets the position and completes OK with the one before; of no port it completes
with NOT_FOUND. Under conditions on state and operands alone these complete: pulseEdge, pulseSample, dioPstatClear,
quadratureTransition, zIndexEdge, ssiFrame, positionSample, uartRxByte, uartRxIdle, uartTxDone, dioPosPreset. (R57,
R71, R322, R323, R324, R325, R326, R327, R329, R331, R332, R335) -/
def Obligations.PulsesPortsAndUarts : Prop :=
  (∀ (p : Nat) (rising : Bool) (t : Nat) (s : State), edgeCounts (recNow s.dev 0x0A 2 p) rising = true → ∃ u, exec
    (.pulseEdge p ⟨rising, t⟩) s = .next { s with dev := u } ∧ (pulseOf u p).count = (pulseOf s.dev p).count + 1 ∧
    (pulseOf u p).n = (pulseOf s.dev p).n + 1 ∧ (pulseOf u p).lastEdge = t ∧ u.dpt = s.dev.dpt) ∧
  (∀ (p : Nat) (rising : Bool) (t : Nat) (s : State), edgeCounts (recNow s.dev 0x0A 2 p) rising = false → exec
    (.pulseEdge p ⟨rising, t⟩) s = .next s) ∧
  (∀ (p : Nat) (s : State), pulseOn s.dev p = false → exec (.pulseSample p) s = .next s) ∧
  (∀ (p : Nat) (b : List Byte) (s : State), pulseOn s.dev p = true → (pulseOf s.dev p).sampleAt + nsT (fld 4 4
    (recNow s.dev 0x0A 2 p)) ≤ nowD s.dev → recAt s.dev 0x0A 2 p ((pulseOf s.dev p).sampleAt + nsT (fld 4 4 (recNow
    s.dev 0x0A 2 p))) = some b → exec (.pulseSample p) s = .next
    { s with dev := sendToken { time := (pulseOf s.dev p).sampleAt + nsT (fld 4 4 (recNow s.dev 0x0A 2 p)), version := versionAt s.dev ((pulseOf s.dev p).sampleAt + nsT (fld 4 4 (recNow s.dev 0x0A 2 p))), slot := fld 2 2 b % 4096, operand := fld 2 2 b / 4096 % 8, source := 0x0A60 + p, overspeed := (pulseOf s.dev p).overspeed, value := BitVec.ofNat 32 (pulseValue (bit 1 (fld 0 1 b)) (pulseOf s.dev p)) } (modPulse p (fun u => { u with n := 0, sampleAt := (pulseOf s.dev p).sampleAt + nsT (fld 4 4 (recNow s.dev 0x0A 2 p)) }) s.dev) }) ∧
  (∀ (p v : Nat) (s : State), s.dev.clk.held = none → v % 2 = 1 → (pulseOf s.dev p).recent = [] → exec
    (.dioPstatClear p v) s = .next { s with dev := modPulse p (fun u => { u with overspeed := false }) s.dev }) ∧
  (∀ (q : Nat) (a b : Bool) (s : State), portAbz s.dev q = true → ((portOf s.dev q).a = a ∨ (portOf s.dev q).b = b)
    → exec (.quadratureTransition q a b) s = .next
    { s with dev := modPort q (fun p => { p with a := a, b := b, pos := signed 32 (wrapInt 32 (p.pos + quadStep p.a p.b a b)), capture := nowD s.dev }) s.dev }) ∧
  (∀ (q : Nat) (a b : Bool) (s : State), portAbz s.dev q = true → (portOf s.dev q).a ≠ a → (portOf s.dev q).b ≠ b →
    exec (.quadratureTransition q a b) s = .next
    { s with dev := raise Ev.dioQuadErr [(1, q), (4, ((portOf s.dev q).err + 1).toNat)] (modPort q (fun p => { p with a := a, b := b, err := p.err + 1 }) s.dev) }) ∧
  (∀ (q : Nat) (s : State), portAbz s.dev q = true → bit 3 (fld 0 1 (recNow s.dev 0x0A 3 q)) = true → ∃ t, exec
    (.zIndexEdge q (portOf s.dev q).a (portOf s.dev q).b) s = .next { s with dev := t } ∧ (portOf t q).zlat =
    (portOf t q).pos) ∧
  (∀ (q raw : Nat) (t : Nat) (b : List Byte) (s : State), portSsi s.dev q = true → recAt s.dev 0x0A 3 q t = some b →
    bit 2 (fld 0 1 b) = false → exec (.ssiFrame q raw true true t) s = .next
    { s with dev := modPort q (fun p => { p with pos := signed (fld 1 1 b) (raw % 2 ^ fld 1 1 b), capture := t, good := true }) s.dev }) ∧
  (∀ (q raw : Nat) (high low : Bool) (t : Nat) (s : State), portSsi s.dev q = true → (high = false ∨ low = false) →
    exec (.ssiFrame q raw high low t) s = .next
    { s with dev := raise Ev.dioSsiErr [(1, q), (4, ((portOf s.dev q).err + 1).toNat)] (modPort q (fun p => { p with err := p.err + 1, good := false }) s.dev) }) ∧
  (∀ (q : Nat) (s : State), portAbz s.dev q = true → (portOf s.dev q).sampleAt + nsT (fld 4 4 (recNow s.dev 0x0A 3
    q)) ≤ nowD s.dev → ∃ t, exec (.positionSample q) s = .next { s with dev := t } ∧ (portOf t q).sampleAt = (portOf
    s.dev q).sampleAt + nsT (fld 4 4 (recNow s.dev 0x0A 3 q)) ∧ (portOf t q).pos = (portOf s.dev q).pos) ∧
  (∀ (q : Nat) (s : State), nowD s.dev < (portOf s.dev q).sampleAt + nsT (fld 4 4 (recNow s.dev 0x0A 3 q)) → exec
    (.positionSample q) s = .next s) ∧
  (∀ (u : Nat) (data : Byte) (parity : Bool) (flags : Nat) (t : Nat) (s : State), u ≤ 3 → uartOn s.dev u = true →
    uartDe s.dev u = false → 256 ≤ (uartOf s.dev u).buf.length → exec (.uartRxByte u ⟨data, parity⟩ flags t) s =
    .next
    { s with dev := raise Ev.dioUartLost [(1, u), (2, ((uartOf s.dev u).lost + 1).toNat)] (modUart u (fun x => { x with lost := x.lost + 1, lostBefore := true }) (modUart u (fun x => { x with lastRx := some t }) s.dev)) }) ∧
  (∀ (u : Nat) (data : Byte) (parity : Bool) (flags : Nat) (t : Nat) (s : State), u ≤ 3 → uartOn s.dev u = true →
    uartDe s.dev u = false → (uartOf s.dev u).buf = [] → windowOf s.dev (0x0A90 + u) = none → ∃ v, exec (.uartRxByte
    u ⟨data, parity⟩ flags t) s = .next { s with dev := v } ∧ (uartOf v u).lastRx = some t ∧ (uartOf v u).buf =
    [{ bytes := le 4 (nsLow t) ++ [frameData (recNow s.dev 0x0A 4 u) data] ++ le 1 (flag 0 ((frameParity (recNow s.dev 0x0A 4 u) data).any (fun p => p != parity)) + flag 1 (bit 1 flags) + flag 2 (bit 2 flags) + flag 3 (uartOf s.dev u).lostBefore) ++ le 2 0 }]
    ∧ (uartOf v u).lostBefore = false) ∧
  (∀ (u : Nat) (s : State), (uartOf s.dev u).lastRx = none → exec (.uartRxIdle u) s = .next s) ∧
  (∀ (u w : Nat) (t : STime) (s : State), (uartOf s.dev u).lastRx = some t → windowOf s.dev (0x0A90 + u) = some w →
    t + (frameBits (recNow s.dev 0x0A 4 u) + fld 4 1 (recNow s.dev 0x0A 4 u)) * bitTime (recNow s.dev 0x0A 4 u) ≤
    nowD s.dev → (uartOf s.dev u).buf = [] → (winOf s.dev w).fill ≠ [] → exec (.uartRxIdle u) s = .next
    { s with dev := handBack w (modUart u (fun x => { x with lastRx := none }) s.dev) }) ∧
  (∀ (u : Nat) (s : State), windowOf s.dev (0x0A94 + u) = none → exec (.uartTxDone u) s = .next s) ∧
  (∀ (u w : Nat) (g : HostSeg) (rest : List HostSeg) (s : State), windowOf s.dev (0x0A94 + u) = some w → (winOf
    s.dev w).hold = g :: rest → fieldOn s.dev = true → segCheck (winOf s.dev w) g = 0 → uartOn s.dev u = true → ∃ t,
    exec (.uartTxDone u) s = .next { s with dev := returnSegment w t } ∧ t.out = s.dev.out ++ ((g.bytes.drop
    32).take (fld 8 4 g.bytes)).map (fun x => Out.uart u (frameData (recNow s.dev 0x0A 4 u) x) (frameParity (recNow
    s.dev 0x0A 4 u) x)) ∧ (winOf t w).hold = rest ∧ (uartOf t u).deUntil = nowD s.dev + fld 3 1 (recNow s.dev 0x0A 4
    u) * bitTime (recNow s.dev 0x0A 4 u)) ∧
  (∀ (d : Desc) (s : State), canStart d s.dev = true → d.target.toNat ≤ 7 → badField { pmask := 1 } [] d = none →
    portAbz s.dev d.target.toNat = true → exec (.dioPosPreset d) s = .next
    { s with dev := completed d s.dev .ok (wrapInt 32 (portOf s.dev d.target.toNat).pos) [] (modPort d.target.toNat (fun x => { x with pos := sword d.p0 }) (started d s.dev)) }) ∧
  (∀ (d : Desc) (s : State), canStart d s.dev = true → 7 < d.target.toNat → exec (.dioPosPreset d) s = .next
    { s with dev := completed d s.dev .notFound 0 [] (started d s.dev) })

/-- A servo tick that is due, of an axis with a record on a device that is configured, sends a token to operand 0 of
the task of its axis; of an axis without a record it changes nothing. With no firing the motion engine changes
nothing; a firing whose axis record is not kept is dropped by version, and the first firing of an enabled axis that
stood DISABLED, without destination, feedback or operands, leaves it in STANDSTILL at set-point 0. A change of a limit
pin of a side that is not latched makes an activation wait for its qualification, and one that ends before it is
counted; of a latched side it is counted as ignored. An activation that has lasted LIM_FILT_US qualifies; one that has
not changes nothing. Under conditions on state and operands alone these complete: servoTick, motionFiring,
limitPinChange, limitQualification. (R340, R343, R354, R355, R357) -/
def Obligations.AxesMove : Prop :=
  (∀ (a : Nat) (s : State), axRec s.dev a ≠ [] → s.dev.cfg.mode ≠ .unconfigured → nowD s.dev / servo (axRec s.dev a)
    * servo (axRec s.dev a) ≠ (axisOf s.dev a).tickAt → exec (.servoTick a) s = .next
    { s with dev := sendToken { time := nowD s.dev / servo (axRec s.dev a) * servo (axRec s.dev a), version := versionAt s.dev (nowD s.dev / servo (axRec s.dev a) * servo (axRec s.dev a)), slot := axisSlot s.dev a, operand := 0, source := 0x0B80 + a, value := 0 } (modAxis a (fun x => { x with tickAt := nowD s.dev / servo (axRec s.dev a) * servo (axRec s.dev a) }) s.dev) }) ∧
  (∀ (a : Nat) (s : State), axRec s.dev a = [] → exec (.servoTick a) s = .next s) ∧
  (∀ (s : State), s.dev.dpt.mot = [] → exec .motionFiring s = .next s) ∧
  (∀ (f : Firing) (rest : List Firing) (s : State), s.dev.dpt.mot = f :: rest → recAt s.dev 0x06 1 (fld 2 2 (recNow
    s.dev 0x02 1 f.slot)) f.time = none → exec .motionFiring s = .next
    { s with dev := afterFiring f.slot (versionDrop 0x06 f.version { s.dev with dpt.mot := rest }) }) ∧
  (∀ (f : Firing) (rest : List Firing) (a : Nat) (b : List Byte) (s : State), s.dev.dpt.mot = f :: rest → fld 2 2
    (recNow s.dev 0x02 1 f.slot) = a → recAt s.dev 0x06 1 a f.time = some b → bit 0 (fld 0 1 b) = true → fld 1 1 b =
    0 → fld 2 1 b = 0 → axisOf s.dev a = {} → f.ops = [] → ∃ t, exec .motionFiring s = .next { s with dev := t } ∧
    (axisOf t a).mode = .standstill ∧ (axisOf t a).q = 0 ∧ t.ccr = s.dev.ccr) ∧
  (∀ (a : Nat) (pos : Bool) (s : State), axRec s.dev a ≠ [] → limPin (axRec s.dev a) pos ≠ 0xFF → (axLim (axisOf
    s.dev a) pos).seen < (pinOf s.dev (limPin (axRec s.dev a) pos)).edgeAt → (axLim (axisOf s.dev a) pos).latch =
    none → pinLevel s.dev (limPin (axRec s.dev a) pos) = true → exec (.limitPinChange a pos) s = .next
    { s with dev := modLim a pos (fun l => { l with pend := some (pinOf s.dev (limPin (axRec s.dev a) pos)).edgeAt }) (modLim a pos (fun l => { l with seen := (pinOf s.dev (limPin (axRec s.dev a) pos)).edgeAt }) s.dev) }) ∧
  (∀ (a : Nat) (pos : Bool) (e : STime) (s : State), axRec s.dev a ≠ [] → limPin (axRec s.dev a) pos ≠ 0xFF → (axLim
    (axisOf s.dev a) pos).seen < (pinOf s.dev (limPin (axRec s.dev a) pos)).edgeAt → (axLim (axisOf s.dev a)
    pos).latch = none → pinLevel s.dev (limPin (axRec s.dev a) pos) = false → (axLim (axisOf s.dev a) pos).pend =
    some e → ∃ t, exec (.limitPinChange a pos) s = .next { s with dev := t } ∧ t.mot.limChat = s.dev.mot.limChat + 1
    ∧ (axLim (axisOf t a) pos).pend = none) ∧
  (∀ (a : Nat) (pos : Bool) (l : Int) (s : State), axRec s.dev a ≠ [] → limPin (axRec s.dev a) pos ≠ 0xFF → (axLim
    (axisOf s.dev a) pos).seen < (pinOf s.dev (limPin (axRec s.dev a) pos)).edgeAt → (axLim (axisOf s.dev a)
    pos).latch = some l → ∃ t, exec (.limitPinChange a pos) s = .next { s with dev := t } ∧ t.mot.limIgn =
    s.dev.mot.limIgn + 1 ∧ (axLim (axisOf t a) pos).latch = some l) ∧
  (∀ (a : Nat) (pos : Bool) (e : STime) (s : State), (axLim (axisOf s.dev a) pos).pend = some e → e + usT (fld 46 2
    (axRec s.dev a)) ≤ nowD s.dev → pinLevel s.dev (limPin (axRec s.dev a) pos) = true → exec (.limitQualification a
    pos) s = .next { s with dev := modLim a pos (fun l => { l with pend := none, qual := some e }) s.dev }) ∧
  (∀ (a : Nat) (pos : Bool) (e : STime) (s : State), (axLim (axisOf s.dev a) pos).pend = some e → nowD s.dev < e +
    usT (fld 46 2 (axRec s.dev a)) → exec (.limitQualification a pos) s = .next s)

/-- In a descriptor that may start with its fields in order and for an axis that exists: MOT_MOVE of an axis in
STANDSTILL whose targets are the host’s, with no negative limit latched and no homing required, sends the target to
operand 1 and completes OK with the target as clamped; MOT_STOP of an axis that is not DISABLED acts at the next
period and completes OK with the point it will stand at; MOT_HOME in STANDSTILL or HOMING_FAILED begins the seek and
completes OK; MOT_SET_POS in those states sets position and HOMED, shifts what refers to positions, leaves the axis in
STANDSTILL and completes OK with the set-point before; MOT_HOME of an axis that moves or is in ESTOP completes with
REJECTED_STATE; MOT_READ_STATE writes the state record and completes OK with the state. Each completes with NOT_FOUND
for an axis that does not exist. MOT_CLEAR_COUNTERS zeroes the counters of its mask and completes OK. Under conditions
on state and operands alone these complete: motMove, motStop, motHome, motSetPos, motReadState, motClearCounters.
(R57, R64, R71, R341, R350, R360, R362, R382) -/
def Obligations.AxisCommands : Prop :=
  (∀ (d : Desc) (s : State), canStart d s.dev = true → noAxis s.dev d = false → badField { pmask := 1 } [] d = none
    → bit 2 (fld 2 1 (axRec s.dev d.target.toNat)) = false → (axisOf s.dev d.target.toNat).mode = .standstill →
    (axisOf s.dev d.target.toNat).neg.latch = none → bit 1 (fld 0 1 (axRec s.dev d.target.toNat)) = false → exec
    (.motMove d) s = .next
    { s with dev := completed d s.dev .ok (wrapInt 32 (clampTarget (axRec s.dev d.target.toNat) (axisOf s.dev d.target.toNat) (sword d.p0))) [] (tokenDirect { time := nowS s.dev, version := versionAt s.dev (nowS s.dev), slot := axisSlot s.dev d.target.toNat, operand := 1, source := 0x0600 + d.target.toNat, value := d.p0 } (started d s.dev)) }) ∧
  (∀ (d : Desc) (s : State), canStart d s.dev = true → noAxis s.dev d = false → badField { pmask := 1 } [(1 <
    d.p0.toNat, 24)] d = none → (axisOf s.dev d.target.toNat).mode ≠ .disabled → exec (.motStop d) s = .next
    { s with dev := completed d s.dev .ok (wrapInt 32 (stopEnd (axRec s.dev d.target.toNat) (axisOf s.dev d.target.toNat) (d.p0 == 1) (nowS s.dev))) [] (modAxis d.target.toNat (fun x => { x with stopReq := some (d.p0 == 1) }) (started d s.dev)) }) ∧
  (∀ (d : Desc) (s : State), canStart d s.dev = true → noAxis s.dev d = false → badField plain [] d = none →
    ((axisOf s.dev d.target.toNat).mode = .standstill ∨ (axisOf s.dev d.target.toNat).mode = .homingFailed) → exec
    (.motHome d) s = .next
    { s with dev := completed d s.dev .ok 0 [] (setAxMode d.target.toNat .homingSeek (modAxis d.target.toNat (fun x => { x with homed := false, homeReq := true, hofs0 := x.hofs, target := none, stall := none, velFrom := none }) (started d s.dev))) }) ∧
  (∀ (d : Desc) (s : State), canStart d s.dev = true → noAxis s.dev d = false → badField { pmask := 1 } [] d = none
    → ((axisOf s.dev d.target.toNat).mode = .standstill ∨ (axisOf s.dev d.target.toNat).mode = .homingFailed) → exec
    (.motSetPos d) s = .next
    { s with dev := completed d s.dev .ok (wrapInt 32 (setPoint (axisOf s.dev d.target.toNat))) [] (setAxMode d.target.toNat .standstill (modAxis d.target.toNat (fun x => { shiftAxis (fSub (fInt (sword d.p0)) (axisOf s.dev d.target.toNat).p) x with p := fInt (sword d.p0), homed := true, target := none, askedAt := some (nowS s.dev) }) (started d s.dev))) }) ∧
  (∀ (d : Desc) (s : State), canStart d s.dev = true → noAxis s.dev d = false → badField plain [] d = none →
    ((axisOf s.dev d.target.toNat).mode = .moving ∨ (axisOf s.dev d.target.toNat).mode = .estop) → exec (.motHome d)
    s = .next { s with dev := completed d s.dev .rejectedState 0 [] (started d s.dev) }) ∧
  (∀ (d : Desc) (s : State), canStart d s.dev = true → noAxis s.dev d = false → badField
    { bufMin := 64, bufMax := 16777216 } [] d = none → exec (.motReadState d) s = .next
    { s with dev := completed d s.dev .ok (axCode (axisOf s.dev d.target.toNat).mode) (axRecord s.dev d.target.toNat) (started d s.dev) }) ∧
  (∀ (d : Desc) (s : State), canStart d s.dev = true → noAxis s.dev d = true → exec (.motMove d) s = .next
    { s with dev := completed d s.dev .notFound 0 [] (started d s.dev) } ∧ exec (.motStop d) s = .next
    { s with dev := completed d s.dev .notFound 0 [] (started d s.dev) } ∧ exec (.motHome d) s = .next
    { s with dev := completed d s.dev .notFound 0 [] (started d s.dev) } ∧ exec (.motSetPos d) s = .next
    { s with dev := completed d s.dev .notFound 0 [] (started d s.dev) } ∧ exec (.motReadState d) s = .next
    { s with dev := completed d s.dev .notFound 0 [] (started d s.dev) }) ∧
  (∀ (d : Desc) (s : State), canStart d s.dev = true → badField { target := false, pmask := 1 } [(2 ^ 6 ≤
    d.p0.toNat, 24)] d = none → exec (.motClearCounters d) s = .next
    { s with dev := completed d s.dev .ok 0 [] { started d s.dev with mot := { (started d s.dev).mot with estops := clr d.p0.toNat 0 s.dev.mot.estops, clamps := clr d.p0.toNat 1 s.dev.mot.clamps, limIgn := clr d.p0.toNat 2 s.dev.mot.limIgn, limChat := clr d.p0.toNat 3 s.dev.mot.limChat, replans := clr d.p0.toNat 4 s.dev.mot.replans, follow := clr d.p0.toNat 5 s.dev.mot.follow } } })

/-- A PWM period of an absent drive changes nothing; of a drive that may not switch it only measures; of one that may
it takes the position of the set-points, counts the period, and two consecutive samples over the threshold end in
FAULT and are counted. A full step of a drive that may not switch, in QUIET or without samples changes nothing; in
STRONG with threshold 0 it measures the load. Two servo periods without a set-point begin the loss ramp and are
counted; with no set-points nothing changes. A drive that has stood for HOLD_DELAY goes to I_HOLD, one that holds
stays. A write to CCR_OE of a device not held in reset is taken. A set-point that is not older than the last is
discarded where the drive may not switch or ramps, and placed 8 µs after its period where it does neither and its axis
record is kept; an older one is discarded and counted. In a descriptor that may start with its fields in order,
CCR_CLEAR_FAULT of a drive in FAULT whose cause has gone, without an axis, ends the fault and completes OK; of one not
in FAULT it completes with REJECTED_STATE. With no report waiting nothing changes; a report is recorded once, and one
of a loop reaches its loop. Under conditions on state and operands alone these complete: ccrPwmPeriod, fullStepLoad,
setpointLossExpiry, holdDelayExpiry, ccrOeWrite, ccrSetpointArrival, ccrClearFault, destinationReport. (R57, R64, R71,
R367, R369, R373, R374, R375, R379, R229, R648) -/
def Obligations.CoilsRegulate : Prop :=
  (∀ (m : Nat) (sa sb : List Int) (s : State), ccrRec s.dev m = [] → exec (.ccrPwmPeriod m sa sb) s = .next s) ∧
  (∀ (m : Nat) (sa sb : List Int) (s : State), ccrRec s.dev m ≠ [] → m ≤ 15 → driveOn s.dev m = false → exec
    (.ccrPwmPeriod m sa sb) s = .next
    { s with dev := modDrive m (fun d => { d with overRange := sa.any (sampleOver (ccrRec s.dev m)) || sb.any (sampleOver (ccrRec s.dev m)), imA := ssat 16 (qRound (meanCurrent (ccrRec s.dev m) sa)), imB := ssat 16 (qRound (meanCurrent (ccrRec s.dev m) sb)) }) s.dev }) ∧
  (∀ (m : Nat) (sa sb : List Int) (c : Int) (s : State), ccrRec s.dev m ≠ [] → m ≤ 15 → driveOn s.dev m = true →
    overPair (ccrRec s.dev m) sa = some c → driveAxis s.dev m = none → ∃ t, exec (.ccrPwmPeriod m sa sb) s = .next
    { s with dev := t } ∧ (driveOf t m).fault = true ∧ t.ccr.ovc = s.dev.ccr.ovc + 1 ∧ t.mot = s.dev.mot) ∧
  (∀ (m : Nat) (sa sb : List Int) (c : Int) (s : State), ccrRec s.dev m ≠ [] → m ≤ 15 → driveOn s.dev m = true →
    overPair (ccrRec s.dev m) sa = some c → ∃ t, exec (.ccrPwmPeriod m sa sb) s = .next { s with dev := t } ∧
    (driveOf t m).fault = true ∧ t.ccr.ovc = s.dev.ccr.ovc + 1) ∧
  (∀ (m : Nat) (sa sb : List Int) (s : State), ccrRec s.dev m ≠ [] → m ≤ 15 → driveOn s.dev m = true → overPair
    (ccrRec s.dev m) sa = none → overPair (ccrRec s.dev m) sb = none → ∃ t, exec (.ccrPwmPeriod m sa sb) s = .next
    { s with dev := t } ∧ (driveOf t m).pos = (drivePos (ccrRec s.dev m) (driveOf s.dev m) (nowD s.dev)).1 ∧
    (driveOf t m).tick = (driveOf s.dev m).tick + 1 ∧ (driveOf t m).fault = (driveOf s.dev m).fault ∧ (driveOf t
    m).imA = ssat 16 (qRound (meanCurrent (ccrRec s.dev m) sa)) ∧ t.ccr.ovc = s.dev.ccr.ovc ∧ t.mot = s.dev.mot) ∧
  (∀ (m : Nat) (s : State), (driveOn s.dev m = false ∨ (driveOf s.dev m).strong = false ∨ (driveOf s.dev m).eCnt =
    0) → exec (.fullStepLoad m) s = .next s) ∧
  (∀ (m : Nat) (s : State), driveOn s.dev m = true → (driveOf s.dev m).strong = true → (driveOf s.dev m).eCnt ≠ 0 →
    fld 18 2 (ccrRec s.dev m) = 0 → (driveOf s.dev m).low = 0 → ∃ t, exec (.fullStepLoad m) s = .next
    { s with dev := t } ∧ (driveOf t m).eCnt = 0 ∧ (driveOf t m).low = 0 ∧ t.ccr.ovc = s.dev.ccr.ovc) ∧
  (∀ (m a : Nat) (p : STime × Int) (s : State), (driveOf s.dev m).points.getLast? = some p → driveAxis s.dev m =
    some a → (driveOf s.dev m).ramp = none → p.1 + 2 * servo (axRec s.dev a) ≤ nowD s.dev → ∃ t, exec
    (.setpointLossExpiry m) s = .next { s with dev := t } ∧ t.ccr.spLoss = s.dev.ccr.spLoss + 1 ∧ (driveOf t
    m).extra = false ∧ (driveOf t m).ramp = some (p.1 + 2 * servo (axRec s.dev a), (drivePos (ccrRec s.dev m)
    (driveOf s.dev m) (p.1 + 2 * servo (axRec s.dev a))).1, (drivePos (ccrRec s.dev m) (driveOf s.dev m) (p.1 + 2 *
    servo (axRec s.dev a))).2.1)) ∧
  (∀ (m : Nat) (s : State), (driveOf s.dev m).points = [] → exec (.setpointLossExpiry m) s = .next s) ∧
  (∀ (m : Nat) (s : State), (driveOf s.dev m).hold = none → (driveOf s.dev m).since + msT (fld 10 2 (ccrRec s.dev
    m)) ≤ nowD s.dev → exec (.holdDelayExpiry m) s = .next
    { s with dev := modDrive m (fun d => { d with hold := some 0 }) s.dev }) ∧
  (∀ (m k : Nat) (s : State), (driveOf s.dev m).hold = some k → exec (.holdDelayExpiry m) s = .next s) ∧
  (∀ (v : Nat) (s : State), s.dev.clk.held = none → v < 2 ^ 16 → exec (.ccrOeWrite v) s = .next
    { s with dev := { hazard 0x70000 s.dev with ccr.oe := v } }) ∧
  (∀ (m : Nat) (o : OutItem) (rest : List OutItem) (s : State), s.dev.outputs = o :: rest → o.kind = 6 → o.index = m
    → (driveOf s.dev m).time.all (fun t => decide (t ≤ o.time)) = true → (driveOn s.dev m = false ∨ (driveOf s.dev
    m).ramp ≠ none) → exec (.ccrSetpointArrival m) s = .next
    { s with dev := report o .discarded 0 { s.dev with outputs := rest } }) ∧
  (∀ (m : Nat) (o : OutItem) (rest : List OutItem) (t : STime) (s : State), s.dev.outputs = o :: rest → o.kind = 6 →
    o.index = m → (driveOf s.dev m).time = some t → o.time < t → exec (.ccrSetpointArrival m) s = .next
    { s with dev := report o .discarded 0 { s.dev with outputs := rest, ccr.orderDrop := s.dev.ccr.orderDrop + 1 } }) ∧
  (∀ (m : Nat) (o : OutItem) (rest : List OutItem) (b : List Byte) (s : State), s.dev.outputs = o :: rest → o.kind =
    6 → o.index = m → (driveOf s.dev m).time.all (fun t => decide (t ≤ o.time)) = true → driveOn s.dev m = true →
    (driveOf s.dev m).ramp = none → recAt s.dev 0x06 1 (o.axis.getD 0) o.time = some b → exec (.ccrSetpointArrival
    m) s = .next { s with dev := placeSetpoint m o b { s.dev with outputs := rest } }) ∧
  (∀ (m : Nat) (o : OutItem) (b : List Byte) (s : Device), driveOf s m = {} → (driveOf (placeSetpoint m o b s)
    m).time = some o.time ∧ (driveOf (placeSetpoint m o b s) m).points = [(nowD s, 0), (o.time + servo b + usT 8,
    256 * o.code)]) ∧
  (∀ (d : Desc) (s : State), canStart d s.dev = true → d.target.toNat ≤ 15 → badField plain [] d = none → (driveOf
    s.dev d.target.toNat).fault = true → (driveOf s.dev d.target.toNat).overRange = false → driveAxis s.dev
    d.target.toNat = none → exec (.ccrClearFault d) s = .next
    { s with dev := completed d s.dev .ok 0 [] (raise Ev.ccrFaultCleared [(1, d.target.toNat)] (modDrive d.target.toNat (fun x => { x with fault := false, pos := 256 * ((driveOf s.dev d.target.toNat).pos / 256), points := [], ramp := none, extra := false, time := none }) (started d s.dev))) }) ∧
  (∀ (d : Desc) (s : State), canStart d s.dev = true → d.target.toNat ≤ 15 → badField plain [] d = none → (driveOf
    s.dev d.target.toNat).fault = false → exec (.ccrClearFault d) s = .next
    { s with dev := completed d s.dev .rejectedState 0 [] (started d s.dev) }) ∧
  (∀ (s : State), s.dev.reports = [] → exec .destinationReport s = .next s) ∧
  (∀ (r : DestReport) (rest : List DestReport) (s : State), s.dev.reports = r :: rest → r.item.loop = none → exec
    .destinationReport s = .next { s with dev := recordReport r { s.dev with reports := rest } }) ∧
  (∀ (r : DestReport) (n : Nat) (rest : List DestReport) (s : State), s.dev.reports = r :: rest → r.item.loop = some
    n → exec .destinationReport s = .next
    { s with dev := loopReport n r (recordReport r { s.dev with reports := rest }) })

/-- Between strobes ALIGNMENT_STROBE changes nothing; at a strobe the rate that is due takes effect, and in UNSET a
step that is due moves the Dome counter and counts, and with the link up the copy then equals it. A PPS edge is noted,
and is a measurement of the PPS domain. The offset of an edge lies in half a second to either side. In UNSET a high
PPS_OUT goes low; at a second from which PPS_OUT runs, with working time set, it goes high. A trigger entry without a
firing, one that is not due, or any entry in UNSET changes nothing; one that is due counts, notes its instant and is
handed to the converters, and with action RELEASE on a running engine releases its task. TIM_NOW answers the whole
nanoseconds and latches the fraction. Under conditions on state and operands alone these complete: alignmentStrobe,
ppsInEdge, ppsOutEdge, triggerFiring, timNowRead. (R475, R479, R480, R487, R498, R501, R502, R503) -/
def Obligations.TimeAdvances : Prop :=
  (∀ (s : State), s.dev.tim.ck / 1048576 = s.dev.tim.lastStrobe / 1048576 → exec .alignmentStrobe s = .next s) ∧
  (∀ (r : Int) (s : State), s.dev.tim.lastStrobe / 1048576 < s.dev.tim.ck / 1048576 → s.dev.btr.linkUp = false →
    s.dev.tim.nextStep = none → s.dev.tim.setTime = none → s.dev.tim.nextRate = some r → s.dev.tim.nextFree = none →
    exec .alignmentStrobe s = .next
    { s with dev := { s.dev with tim.lastStrobe := s.dev.tim.ck, tim.rate := r, tim.nextRate := none } }) ∧
  (∀ (n cause : Nat) (s : State), s.dev.tim.lastStrobe / 1048576 < s.dev.tim.ck / 1048576 → s.dev.tim.mode = .unset
    → s.dev.tim.nextStep = some (n, cause) → s.dev.tim.setTime = none → ∃ t, exec .alignmentStrobe s = .next
    { s with dev := t } ∧ t.tim.dome = s.dev.tim.dome + n * 4294967296 ∧ t.tim.steps = s.dev.tim.steps + 1 ∧
    t.tim.stepNs = n ∧ t.tim.nextStep = none ∧ (s.dev.btr.linkUp = true → t.tim.spire = t.tim.dome)) ∧
  (∀ (t : Nat) (s : State), ppsDomain s.dev = none → exec (.ppsInEdge t) s = .next
    { s with dev := { s.dev with tim.ppsIn := t / 256 } }) ∧
  (∀ (t d : Nat) (s : State), ppsDomain s.dev = some d → s.dev.tim.setTime = none → exec (.ppsInEdge t) s = .next
    { s with dev := measure d (ppsOffset ((t / 256 : Nat) - sfld 12 4 (domRec s.dev d))) ((t / 256 : Nat) - ppsOffset ((t / 256 : Nat) - sfld 12 4 (domRec s.dev d))) s.dev.tim.ck true { s.dev with tim.ppsIn := t / 256 } }) ∧
  (∀ (e : Int), -500000000 < ppsOffset e ∧ ppsOffset e ≤ 500000000 ∧ (e - ppsOffset e) % 1000000000 = 0) ∧
  (∀ (s : State), s.dev.tim.mode = .unset → s.dev.tim.ppsOut = true → exec .ppsOutEdge s = .next
    { s with dev := { s.dev with tim.ppsOut := false, out := s.dev.out ++ [.pin 0x0B00 false] } }) ∧
  (∀ (s : State), s.dev.tim.mode ≠ .unset → bit 3 (fld 0 1 (timRec s.dev)) = true → domeNs s.dev % 1000000000 < 1000
    * fld 28 4 (timRec s.dev) → s.dev.tim.ppsOut = false → s.dev.tim.ppsFrom ≤ domeNs s.dev / 1000000000 *
    1000000000 → (recAt s.dev 0x0B 0 0 (nsT (domeNs s.dev / 1000000000 * 1000000000))).any (fun r => bit 3 (fld 0 1
    r)) = true → exec .ppsOutEdge s = .next
    { s with dev := { s.dev with tim.ppsOut := true, tim.ppsRise := nsT (domeNs s.dev / 1000000000 * 1000000000), out := s.dev.out ++ [.pin 0x0B00 true] } }) ∧
  (∀ (e : Nat) (s : State), nextFiring (recNow s.dev 0x0B 2 e) (trigFrom s.dev e) = none → exec (.triggerFiring e) s
    = .next s) ∧
  (∀ (e : Nat) (t : STime) (s : State), nextFiring (recNow s.dev 0x0B 2 e) (trigFrom s.dev e) = some t → nowS s.dev
    < t → exec (.triggerFiring e) s = .next s) ∧
  (∀ (e : Nat) (t : STime) (s : State), nextFiring (recNow s.dev 0x0B 2 e) (trigFrom s.dev e) = some t → t ≤ nowS
    s.dev → s.dev.tim.mode ≠ .unset → fld 1 1 (recNow s.dev 0x0B 2 e) = 0 → objsOf s.dev 0x08 1 = [] → exec
    (.triggerFiring e) s = .next
    { s with dev := { s.dev with tim.trigs := tset s.dev.tim.trigs e { trigOf s.dev e with count := (trigOf s.dev e).count + 1, last := some t } } }) ∧
  (∀ (e : Nat) (t : STime) (s : State), nextFiring (recNow s.dev 0x0B 2 e) (trigFrom s.dev e) = some t → t ≤ nowS
    s.dev → s.dev.tim.mode ≠ .unset → exec (.triggerFiring e) s = .next
    { s with dev := if fld 1 1 (recNow s.dev 0x0B 2 e) = 1 ∧ s.dev.dpt.run = true then trigRelease (fld 2 2 (recNow s.dev 0x0B 2 e)) t (scanTriggered e { s.dev with tim.trigs := tset s.dev.tim.trigs e { trigOf s.dev e with count := (trigOf s.dev e).count + 1, last := some t } }) else scanTriggered e { s.dev with tim.trigs := tset s.dev.tim.trigs e { trigOf s.dev e with count := (trigOf s.dev e).count + 1, last := some t } } }) ∧
  (∀ (e : Nat) (s : State), s.dev.tim.mode = .unset → exec (.triggerFiring e) s = .next s) ∧
  (∀ (s : State), exec .timNowRead s = .next
    { s with dev := { s.dev with tim.nowf := STime.frac (nowD s.dev), out := s.dev.out ++ [.reg 0xB8008 (s.dev.tim.dome / 4294967296)] } })

/-- With no message received the four receptions change nothing. A one-step Sync for a domain is used; used by a P2P
slave it gives a measurement of the offset it holds. The first Announce to a slave that is not selected names its
grandmaster. A Pdelay_Req for a P2P domain is answered with the time of its receipt. A response to the last delay
request of a domain sets the mean path delay to half the turn-around. A domain that is no master sends nothing; a
master without ports that has never sent notes both instants and takes two sequence numbers. A P2P slave that has
never asked for the peer delay asks on each of its ports. A domain that is no slave asks nothing and loses nothing; a
slave without a valid measurement for the loss time is unlocked and, selected in TRACKING without automatic selection,
puts working time in HOLDOVER. Under conditions on state and operands alone these complete: syncMeasurement,
announceReceive, pdelayReqReceive, ptpDelayResponse, masterSyncTransmit, pdelayReqTimer, domainLossTimeout. (R486,
R489, R492, R495, R497, R498) -/
def Obligations.DomainsMeasure : Prop :=
  (∀ (d : Nat) (s : State), s.dev.tim.rx = [] → exec (.syncMeasurement d) s = .next s ∧ exec (.announceReceive d) s
    = .next s ∧ exec (.pdelayReqReceive d) s = .next s ∧ exec (.ptpDelayResponse d) s = .next s) ∧
  (∀ (d : Nat) (f : RxFrame) (rest : List RxFrame) (s : State), s.dev.tim.rx = f :: rest → forDomain s.dev d f =
    true → ptpType f = ptpSync → ptpTwoStep f = false → exec (.syncMeasurement d) s = .next
    { s with dev := useSync d f (ptpTime f) (ptpCorr f) { s.dev with tim.rx := rest } }) ∧
  (∀ (d : Nat) (f : RxFrame) (s : Device), domSlave s d = true → (domOf s d).lastSeq = none → domKind s d = 2 →
    useSync d f (ptpTime f) (ptpCorr f) s = measure d (rxNs f - ptpTime f - ptpCorr f - (domOf s d).mpd - sfld 16 4
    (domRec s d)) (rxNs f - (rxNs f - ptpTime f - ptpCorr f - (domOf s d).mpd - sfld 16 4 (domRec s d))) f.ck false
    (modDom d (fun q => { q with lastSeq := some (ptpSeq f), sync := rxNs f - ptpTime f - ptpCorr f }) s)) ∧
  (∀ (d : Nat) (f : RxFrame) (rest : List RxFrame) (s : State), s.dev.tim.rx = f :: rest → forDomain s.dev d f =
    true → ptpType f = ptpAnnounce → domSlave s.dev d = true → s.dev.tim.sel ≠ d → (domOf s.dev d).gmid = 0 → exec
    (.announceReceive d) s = .next
    { s with dev := modDom d (fun q => { q with gmid := BitVec.ofNat 64 (fldBe 53 8 (ptpOf f)) }) { s.dev with tim.rx := rest } }) ∧
  (∀ (d : Nat) (f : RxFrame) (rest : List RxFrame) (s : State), s.dev.tim.rx = f :: rest → forDomain s.dev d f =
    true → ptpType f = ptpPdelayReq → domKind s.dev d = 2 → exec (.pdelayReqReceive d) s = .next
    { s with dev := sendTime f.port d ptpPdelayResp (ptpSeq f) 0x0200 0x7F (ptpStamp (rxNs f).toNat ++ ptpSource f) { s.dev with tim.rx := rest } }) ∧
  (∀ (d : Nat) (f : RxFrame) (rest : List RxFrame) (seq : Nat) (t3 : STime) (s : State), s.dev.tim.rx = f :: rest →
    forDomain s.dev d f = true → ptpType f = ptpDelayResp → ptpRequester f = portId s.dev f.port → (domOf s.dev
    d).delayReq = some (seq, t3) → ptpSeq f = seq → ∃ t, exec (.ptpDelayResponse d) s = .next { s with dev := t } ∧
    (domOf t d).delayReq = none ∧ (domOf t d).mpd = (((domOf s.dev d).sync + ptpTime f - (t3 / 256 : Nat) - ptpCorr
    f) / 2).toNat ∧ t.tim.rx = rest) ∧
  (∀ (d : Nat) (s : State), (domMaster s.dev d = false ∨ domKind s.dev d = 0 ∨ 1 < d) → exec (.masterSyncTransmit d)
    s = .next s) ∧
  (∀ (d : Nat) (s : State), d ≤ 1 → domKind s.dev d ≠ 0 → domMaster s.dev d = true → domPorts s.dev d = [] → (domOf
    s.dev d).lastSync = none → (domOf s.dev d).lastAnnounce = none → ∃ t, exec (.masterSyncTransmit d) s = .next
    { s with dev := t } ∧ (domOf t d).lastSync = some (nowS s.dev) ∧ (domOf t d).lastAnnounce = some (nowS s.dev) ∧
    (domOf t d).txSeq = ((domOf s.dev d).txSeq + 2) % 65536) ∧
  (∀ (d : Nat) (s : State), domSlave s.dev d = true → domKind s.dev d = 2 → (domOf s.dev d).lastPdelay = none → exec
    (.pdelayReqTimer d) s = .next
    { s with dev := (domPorts s.dev d).foldl (fun u p => sendTime p d ptpPdelayReq (domOf s.dev d).txSeq 0 0 (ptpStamp 0 ++ List.replicate 10 0#8) u) (modDom d (fun k => { k with lastPdelay := some (nowS s.dev), txSeq := (k.txSeq + 1) % 65536 }) s.dev) }) ∧
  (∀ (d : Nat) (s : State), domSlave s.dev d = false → exec (.pdelayReqTimer d) s = .next s ∧ exec
    (.domainLossTimeout d) s = .next s) ∧
  (∀ (d : Nat) (s : State), domSlave s.dev d = true → domValid s.dev d = false → lossMs s.dev * 1000000 ≤
    s.dev.tim.ck → s.dev.tim.sel = d → s.dev.tim.mode = .tracking → selAuto s.dev = false → ∃ t, exec
    (.domainLossTimeout d) s = .next { s with dev := t } ∧ t.tim.mode = .holdover ∧ (domOf t d).locked = false ∧
    t.tim.nextRate = some (rateOf (domOf s.dev d).ff 1) ∧ t.tim.sel = d)

/-- In a descriptor that may start with its fields in order: TIM_SET_TIME in UNSET without AT_PPS and with none
waiting waits for the next strobe; otherwise than in UNSET it completes with REJECTED_STATE. A setting that has waited
2 s for an edge completes with TIMEOUT; with none waiting the time-out changes nothing. TIM_SELECT selects a slave
domain or none and completes OK with the one before; the selection itself never moves the counter, and none puts
working time that was set in FREE. TIM_RESTEP outside RUNNING with working time set, the access it needs and its
activity admitted leaves working time UNSET and completes OK. TIM_SET_UTC sets offset and leap flags, unless a domain
gives them, and completes OK with the offset before. TIM_READ_DOMAIN of domain 0 or 1 writes its state record and
completes OK with its state; of another it completes with NOT_FOUND. TIM_CLEAR_COUNTERS zeroes the counters of its
mask and completes OK. Under conditions on state and operands alone these complete: timSetTime, atPpsTimeout,
timSelect, timRestep, timSetUtc, timReadDomain, timClearCounters. (R57, R64, R71, R484, R493, R495, R506, R719) -/
def Obligations.TimeCommands : Prop :=
  (∀ (d : Desc) (s : State), canStart d s.dev = true → badField { target := false, pmask := 0xF } [(1000000000 ≤
    d.p0.toNat, 24), (1 < d.p3.toNat, 36)] d = none → s.dev.tim.mode = .unset → d.p3 = 0 → s.dev.tim.setTime = none
    → exec (.timSetTime d) s = .next
    { s with dev := modRing d.ring (fun r => { r with busy := true }) { started d s.dev with tim.setTime := some { pend := pendOf d s.dev, given := (d.p2.toNat * 4294967296 + d.p1.toNat) * 1000000000 + d.p0.toNat, pps := false, from_ := s.dev.tim.ck } } }) ∧
  (∀ (d : Desc) (s : State), canStart d s.dev = true → badField { target := false, pmask := 0xF } [(1000000000 ≤
    d.p0.toNat, 24), (1 < d.p3.toNat, 36)] d = none → s.dev.tim.mode ≠ .unset → exec (.timSetTime d) s = .next
    { s with dev := completed d s.dev .rejectedState 0 [] (started d s.dev) }) ∧
  (∀ (g : SetTime) (s : State), s.dev.tim.setTime = some g → g.pps = true → g.from_ + 2000000000 ≤ s.dev.tim.ck →
    exec .atPpsTimeout s = .next { s with dev := finish g.pend .timeout 0 [] { s.dev with tim.setTime := none } }) ∧
  (∀ (s : State), s.dev.tim.setTime = none → exec .atPpsTimeout s = .next s) ∧
  (∀ (d : Desc) (s : State), canStart d s.dev = true → badField { target := false, pmask := 1 } [(2 < d.p0.toNat,
    24)] d = none → (d.p0.toNat = 2 ∨ domSlave s.dev d.p0.toNat = true) → exec (.timSelect d) s = .next
    { s with dev := completed d s.dev .ok s.dev.tim.sel [] (selectDomain d.p0.toNat 0 (started d s.dev)) }) ∧
  (∀ (new cause : Nat) (s : Device), (selectDomain new cause s).tim.dome = s.tim.dome ∧ (s.tim.mode ≠ .unset → new =
    2 → s.tim.sel ≠ 2 → (selectDomain new cause s).tim.mode = .free)) ∧
  (∀ (d : Desc) (s : State), canStart d s.dev = true → badField { target := false } [] d = none → needMaint (started
    d s.dev) = false → s.dev.cfg.mode ≠ .running → s.dev.tim.mode ≠ .unset → refusal 5 0 0 (started d s.dev) = none
    → exec (.timRestep d) s = .next
    { s with dev := completed d s.dev .ok 0 [] (endOf 5 0 0 0 (raise Ev.timeReset [lo32 (nsLow (nowD s.dev))] { (admitActivity 5 0 0 3 none (started d s.dev)).2 with tim.mode := .unset, tim.far := false, tim.domains := tmap s.dev.tim.domains (fun _ q => { q with agree := [] }) })) }) ∧
  (∀ (d : Desc) (s : State), canStart d s.dev = true → badField { target := false, pmask := 3 } [(sword d.p0 <
    -32767 || 32767 < sword d.p0, 24), (2 < d.p1.toNat, 28)] d = none → utcDomain s.dev = false → exec (.timSetUtc
    d) s = .next
    { s with dev := completed d s.dev .ok (wrapInt 32 s.dev.tim.utc) [] { started d s.dev with tim.utc := sword d.p0, tim.leap61 := bit 0 d.p1.toNat, tim.leap59 := bit 1 d.p1.toNat, tim.utcValid := true } }) ∧
  (∀ (d : Desc) (s : State), canStart d s.dev = true → d.target.toNat ≤ 1 → badField
    { bufMin := 64, bufMax := 16777216 } [] d = none → exec (.timReadDomain d) s = .next
    { s with dev := completed d s.dev .ok (domState s.dev d.target.toNat) (le 8 (domState s.dev d.target.toNat) ++ le 8 (wrapInt 64 (domOf s.dev d.target.toNat).o) ++ le 4 (wrapInt 32 (domOf s.dev d.target.toNat).ff) ++ le 8 (domOf s.dev d.target.toNat).gmid.toNat ++ le 4 (domOf s.dev d.target.toNat).mpd ++ le 4 (domOf s.dev d.target.toNat).meas.toNat ++ le 4 (domOf s.dev d.target.toNat).gmChanges.toNat ++ List.replicate 24 0#8) (started d s.dev) }) ∧
  (∀ (d : Desc) (s : State), canStart d s.dev = true → 1 < d.target.toNat → exec (.timReadDomain d) s = .next
    { s with dev := completed d s.dev .notFound 0 [] (started d s.dev) }) ∧
  (∀ (d : Desc) (s : State), canStart d s.dev = true → badField { target := false, pmask := 1 } [(8 ≤ d.p0.toNat,
    24)] d = none → exec (.timClearCounters d) s = .next
    { s with dev := completed d s.dev .ok 0 [] { started d s.dev with tim := { (started d s.dev).tim with copyErr := clr d.p0.toNat 0 s.dev.tim.copyErr, txDrop := clr d.p0.toNat 1 s.dev.tim.txDrop, trigDrop := clr d.p0.toNat 2 s.dev.tim.trigDrop } } })

/-- On a link that is down a received frame changes nothing; on one that is up a frame whose FCS fails is counted in
RXERR, and a good time message of a type taken, for a domain, reaches TIM and is counted. A host segment without
errors whose frames fit is queued frame by frame and returned; without a window nothing changes. A port that is down
or busy launches nothing; an idle one whose class 7 may send launches its head. The newest gate boundary becomes the
start of the cycle; without gates nothing changes. A permitted port comes up with the speed of its record and raises
ETH_LINK_UP; a port that goes down, not of a redundant pair, raises ETH_LINK_DOWN and its links are lost; one that is
down stays so. Supervision of a redundant pair that has never sent it sends it and notes the instant; of no pair,
nothing. A stream silent for its reset time forgets its recovery; one without a recovery stays. With the Spire die up
a write to ETH_PORT_EN takes the eight enables and takes the links down that it bars; with it down it is an access
error. Under conditions on state and operands alone these complete: frameReceive, hostFrameQueue, frameLaunch,
gateCycleStart, ethLinkUp, ethLinkDown, prpSupervisionTimer, streamRecoveryReset, ethPortEnWrite. (R432, R433, R437,
R440, R442, R444, R459, R466, R469) -/
def Obligations.FramesPass : Prop :=
  (∀ (p : Nat) (t : Nat) (bytes : List Byte) (s : State), (eportOf s.dev p).link = false → exec (.frameReceive p t
    bytes) s = .next s) ∧
  (∀ (p : Nat) (t : Nat) (bytes : List Byte) (s : State), (eportOf s.dev p).link = true → frameGood bytes = false →
    exec (.frameReceive p t bytes) s = .next
    { s with dev := modEport p (fun q => { q with rxErr := q.rxErr + 1 }) s.dev }) ∧
  (∀ (p : Nat) (t : Nat) (bytes : List Byte) (s : State), (eportOf s.dev p).link = true → frameGood bytes = true →
    etherType (bytes.take (bytes.length - 4)) = 0x88F7 → nzEtype s.dev ≠ 0x88F7 → ptpTaken
    { port := p, at_ := t, ck := s.dev.tim.ck, bytes := bytes.take (bytes.length - 4) } = true → (forDomain s.dev 0
    { port := p, at_ := t, ck := s.dev.tim.ck, bytes := bytes.take (bytes.length - 4) } = true ∨ forDomain s.dev 1
    { port := p, at_ := t, ck := s.dev.tim.ck, bytes := bytes.take (bytes.length - 4) } = true) → ∃ u, exec
    (.frameReceive p t bytes) s = .next { s with dev := u } ∧ u.tim.rx = s.dev.tim.rx ++
    [{ port := p, at_ := t, ck := s.dev.tim.ck, bytes := bytes.take (bytes.length - 4) }] ∧ (eportOf u p).rxFr =
    (eportOf s.dev p).rxFr + 1 ∧ u.saf = s.dev.saf) ∧
  (∀ (p w : Nat) (g : HostSeg) (rest : List HostSeg) (s : State), windowOf s.dev (0x0C08 + p) = some w → (winOf
    s.dev w).hold = g :: rest → segCheck (winOf s.dev w) g = 0 → framesFit s.dev p (frameRecords 4096 ((g.bytes.drop
    32).take (fld 8 4 g.bytes))) = true → exec (.hostFrameQueue p) s = .next
    { s with dev := returnSegment w (modWin w (fun q => { q with hold := rest }) ((frameRecords 4096 ((g.bytes.drop 32).take (fld 8 4 g.bytes))).foldl (fun u r => queueHost p r u) s.dev)) }) ∧
  (∀ (p : Nat) (s : State), windowOf s.dev (0x0C08 + p) = none → exec (.hostFrameQueue p) s = .next s) ∧
  (∀ (p : Nat) (s : State), ((eportOf s.dev p).link = false ∨ nowS s.dev < (eportOf s.dev p).busy) → exec
    (.frameLaunch p) s = .next s) ∧
  (∀ (p : Nat) (s : State), (eportOf s.dev p).link = true → (eportOf s.dev p).busy ≤ nowS s.dev → canLaunch s.dev p
    7 = true → exec (.frameLaunch p) s = .next { s with dev := launchHead p 7 s.dev }) ∧
  (∀ (p : Nat) (s : State), nsT (fld 0 4 (recNow s.dev 0x0C 2 p)) ≠ 0 → nsT (fld 4 4 (recNow s.dev 0x0C 2 p)) ≤ nowS
    s.dev → exec (.gateCycleStart p) s = .next
    { s with dev := modEport p (fun q => { q with gateAt := max q.gateAt ((nowS s.dev - nsT (fld 4 4 (recNow s.dev 0x0C 2 p))) / nsT (fld 0 4 (recNow s.dev 0x0C 2 p)) * nsT (fld 0 4 (recNow s.dev 0x0C 2 p)) + nsT (fld 4 4 (recNow s.dev 0x0C 2 p))) }) s.dev }) ∧
  (∀ (p : Nat) (s : State), nsT (fld 0 4 (recNow s.dev 0x0C 2 p)) = 0 → exec (.gateCycleStart p) s = .next s) ∧
  (∀ (p : Nat) (s : State), p ≤ 7 → (eportOf s.dev p).link = false → bit p s.dev.eth.portEn = true → fld 0 1 (ethRec
    s.dev p) % 8 ≠ 0 → s.dev.btr.spireUp = true → exec (.ethLinkUp p) s = .next
    { s with dev := raise Ev.ethLinkUp [(1, p), (1, speedCode (fld 0 1 (ethRec s.dev p)))] (modEport p (fun q => { q with link := true, speed := speedCode (fld 0 1 (ethRec s.dev p)) }) s.dev) }) ∧
  (∀ (p : Nat) (s : State), (eportOf s.dev p).link = false → exec (.ethLinkDown p) s = .next s) ∧
  (∀ (p : Nat) (s : State), (eportOf s.dev p).link = true → prpPair s.dev p = false → exec (.ethLinkDown p) s =
    .next
    { s with dev := linkLosses p (raise Ev.ethLinkDown [(1, p)] (modEport p (fun q => { q with link := false, speed := 0 }) s.dev)) }) ∧
  (∀ (p : Nat) (s : State), prpPair s.dev p = false → exec (.prpSupervisionTimer p) s = .next s) ∧
  (∀ (p : Nat) (s : State), prpPair s.dev p = true → (eportOf s.dev (p / 2 * 2)).supAt = none → ∃ t, exec
    (.prpSupervisionTimer p) s = .next { s with dev := t } ∧ (eportOf t (p / 2 * 2)).supAt = some (nowS s.dev) ∧
    t.cfg = s.dev.cfg) ∧
  (∀ (k : Nat) (s : State), (tget s.dev.eth.streams k {}).seq = none → exec (.streamRecoveryReset k) s = .next s) ∧
  (∀ (k n : Nat) (s : State), (tget s.dev.eth.streams k {}).seq = some n → (tget s.dev.eth.streams k {}).at_ + msT
    (fld 12 2 (recNow s.dev 0x0C 7 k)) ≤ nowS s.dev → exec (.streamRecoveryReset k) s = .next
    { s with dev := { s.dev with eth.streams := tset s.dev.eth.streams k { tget s.dev.eth.streams k {} with seq := none, hist := [] } } }) ∧
  (∀ (v : Nat) (s : State), s.dev.btr.spireUp = true → exec (.ethPortEnWrite v) s = .next
    { s with dev := (List.range 8).foldl (fun u p => if bit p v then u else ethLinkDown p u) { hazard 0xC0004 s.dev with eth.portEn := v % 256, eth.portEnCopy := v % 256 } }) ∧
  (∀ (v : Nat) (s : State), s.dev.btr.spireUp = true → v = 255 → exec (.ethPortEnWrite v) s = .next
    { s with dev := { hazard 0xC0004 s.dev with eth.portEn := 255, eth.portEnCopy := 255 } }) ∧
  (∀ (v : Nat) (s : State), s.dev.btr.spireUp = false → exec (.ethPortEnWrite v) s = .next
    { s with dev := accError s.dev }) ∧
  (∀ (s : State), s.dev.btr.spireUp = true → (∀ p, p < 8 → (eportOf s.dev p).link = false) → exec (.ethPortEnWrite
    0) s = .next { s with dev := { hazard 0xC0004 s.dev with eth.portEn := 0, eth.portEnCopy := 0 } })

/-- With no cycle to build nothing is built. A request whose record is kept for its launch, of an enabled station on a
device that is no standby, is built when its first launch is 1 µs away or less, with the output words that are new,
and not earlier. With no frame received the four receptions change nothing. A response of a LIVE station from its
address, with its words, a good CRC, its parameter CRC, in its open cycle, in time and without a reparameter request
is used; one without an open cycle is counted as late. A cycle past its deadline is a miss; one before it stays. A
parameter piece acknowledged is followed by the next, the last one with the right CRC by the delay exchanges. Before 1
ms nothing is repeated; then the attempt is, at most three times, after which the station is lost. A delay response is
taken and the next exchange begins. A frame of a LOST station begins PARAM, and a LOST station is probed at its
interval, any other not. Under conditions on state and operands alone these complete: nzRequestBuild, nzResponse,
nzResponseDeadline, paramAck, nzParamPieceTimeout, delayResp, probeReply, nzProbeTimer. (R449, R452, R453, R455, R458,
R460, R461) -/
def Obligations.StationsCycle : Prop :=
  (∀ (st : Nat) (s : State), (stnOf s.dev st).next = none → exec (.nzRequestBuild st) s = .next s) ∧
  (∀ (st m : Nat) (l : STime) (b : List Byte) (s : State), (stnOf s.dev st).next = some m → m * stnCycle (stnRec
    s.dev st) + stnPhase (stnRec s.dev st) = l → recAt s.dev 0x0C 3 st l = some b → bit 0 (fld 0 1 b) = true →
    s.dev.pai.standby = false → (if stnPaired s.dev (stnRec s.dev st) then min ((l : Int) - 256 * stnD (stnOf s.dev
    st) 0).toNat ((l : Int) - 256 * stnD (stnOf s.dev st) 1).toNat else ((l : Int) - 256 * stnD (stnOf s.dev st)
    0).toNat) ≤ nowS s.dev + usT 1 → exec (.nzRequestBuild st) s = .next
    { s with dev := nzSend st 1 (m % 2 ^ 32) (nsLow l) (fun k => ((l : Int) - 256 * stnD (stnOf s.dev st) k).toNat) ((List.range (fld 10 2 b)).flatMap (fun w => le 4 (tget (stnOf s.dev st).outs w {}).value.toNat)) (modStn st (fun q => { q with next := some (m + 1), open_ := q.open_ ++ [{ m := m, words := (stnOf s.dev st).outs.filter (fun w => w.2.fresh && decide (w.1 < fld 10 2 b)) }], outs := q.outs.map (fun w => (w.1, if w.1 < fld 10 2 b then { w.2 with fresh := false, item := none } else w.2)) }) s.dev) }) ∧
  (∀ (st m : Nat) (l : STime) (b : List Byte) (s : State), (stnOf s.dev st).next = some m → m * stnCycle (stnRec
    s.dev st) + stnPhase (stnRec s.dev st) = l → recAt s.dev 0x0C 3 st l = some b → nowS s.dev + usT 1 < (if
    stnPaired s.dev (stnRec s.dev st) then min ((l : Int) - 256 * stnD (stnOf s.dev st) 0).toNat ((l : Int) - 256 *
    stnD (stnOf s.dev st) 1).toNat else ((l : Int) - 256 * stnD (stnOf s.dev st) 0).toNat) → exec (.nzRequestBuild
    st) s = .next s) ∧
  (∀ (st : Nat) (s : State), s.dev.eth.rx = [] → exec (.nzResponse st) s = .next s ∧ exec (.paramAck st) s = .next s
    ∧ exec (.delayResp st) s = .next s ∧ exec (.probeReply st) s = .next s) ∧
  (∀ (st : Nat) (f : RxFrame) (rest : List RxFrame) (c : NzCycle) (s : State), s.dev.eth.rx = f :: rest → nzType f =
    2 → nzStation f = st → (stnOf s.dev st).mode = .live → nzSrc f = stnMac (stnRec s.dev st) → nzWords f = fld 8 2
    (stnRec s.dev st) → nzCrcOk f = true → fld 16 4 (nzOf f) = (stnOf s.dev st).pcrc.toNat → (stnOf s.dev
    st).open_.find? (fun c => c.m % 2 ^ 32 == fld 4 4 (nzOf f)) = some c → f.at_ ≤ c.m * stnCycle (stnRec s.dev st)
    + stnPhase (stnRec s.dev st) + stnResp (stnRec s.dev st) → bit 0 (fld 12 2 (nzOf f)) = false → exec (.nzResponse
    st) s = .next { s with dev := useResponse st c f { s.dev with eth.rx := rest } }) ∧
  (∀ (st : Nat) (f : RxFrame) (rest : List RxFrame) (s : State), s.dev.eth.rx = f :: rest → nzType f = 2 → nzStation
    f = st → (stnOf s.dev st).mode = .live → nzSrc f = stnMac (stnRec s.dev st) → nzWords f = fld 8 2 (stnRec s.dev
    st) → nzCrcOk f = true → fld 16 4 (nzOf f) = (stnOf s.dev st).pcrc.toNat → (stnOf s.dev st).open_ = [] → exec
    (.nzResponse st) s = .next { s with dev := { s.dev with eth.rx := rest, eth.late := s.dev.eth.late + 1 } }) ∧
  (∀ (st : Nat) (c : NzCycle) (rest : List NzCycle) (s : State), (stnOf s.dev st).open_ = c :: rest → nowS s.dev ≤
    c.m * stnCycle (stnRec s.dev st) + stnPhase (stnRec s.dev st) + stnResp (stnRec s.dev st) → exec
    (.nzResponseDeadline st) s = .next s) ∧
  (∀ (st : Nat) (c : NzCycle) (rest : List NzCycle) (s : State), (stnOf s.dev st).open_ = c :: rest → c.m * stnCycle
    (stnRec s.dev st) + stnPhase (stnRec s.dev st) + stnResp (stnRec s.dev st) < nowS s.dev → (stnOf s.dev st).mode
    = .param → ∃ t, exec (.nzResponseDeadline st) s = .next { s with dev := t } ∧ (stnOf t st).misses = (stnOf s.dev
    st).misses + 1 ∧ (stnOf t st).open_ = rest ∧ t.eth.miss = s.dev.eth.miss + 1 ∧ (stnOf t st).mode = .param) ∧
  (∀ (st : Nat) (f : RxFrame) (k : NzParam) (rest : List RxFrame) (s : State), s.dev.eth.rx = f :: rest → nzType f =
    4 → nzStation f = st → nzSrc f = stnMac (stnRec s.dev st) → (stnOf s.dev st).param = some k → (nzBlock s.dev
    st).length ≤ k.offset + 1024 → k.delays = false → nzCrcOk f = true → fld 4 4 (nzOf f) = k.offset → fld 16 4
    (nzOf f) = (crc32c (nzBlock s.dev st)).toNat → exec (.paramAck st) s = .next
    { s with dev := sendDelay st 0 (modParam st (fun k => { k with delays := true, lan := 0, tries := 1, sentAt := nowS s.dev, left := none }) (modStn st (fun q => { q with latch := fld 8 4 (nzOf f), pcrc := crc32c (nzBlock s.dev st) }) { s.dev with eth.rx := rest })) }) ∧
  (∀ (st : Nat) (f : RxFrame) (k : NzParam) (rest : List RxFrame) (s : State), s.dev.eth.rx = f :: rest → nzType f =
    4 → nzStation f = st → nzSrc f = stnMac (stnRec s.dev st) → (stnOf s.dev st).param = some k → k.offset + 1024 <
    (nzBlock s.dev st).length → k.delays = false → nzCrcOk f = true → fld 4 4 (nzOf f) = k.offset → exec (.paramAck
    st) s = .next
    { s with dev := sendPiece st (k.offset + 1024) (modParam st (fun k => { k with offset := k.offset + 1024, tries := 1, sentAt := nowS s.dev }) { s.dev with eth.rx := rest }) }) ∧
  (∀ (st : Nat) (k : NzParam) (s : State), (stnOf s.dev st).param = some k → nowS s.dev < k.sentAt + msT 1 → exec
    (.nzParamPieceTimeout st) s = .next s) ∧
  (∀ (st : Nat) (k : NzParam) (s : State), (stnOf s.dev st).param = some k → k.sentAt + msT 1 ≤ nowS s.dev → k.tries
    ≤ 2 → k.delays = false → exec (.nzParamPieceTimeout st) s = .next
    { s with dev := sendPiece st k.offset (modParam st (fun k => { k with tries := k.tries + 1, sentAt := nowS s.dev, left := none }) s.dev) }) ∧
  (∀ (st : Nat) (k : NzParam) (s : State), (stnOf s.dev st).param = some k → k.sentAt + msT 1 ≤ nowS s.dev → 3 ≤
    k.tries → (stnOf s.dev st).open_ = [] → ∃ t, exec (.nzParamPieceTimeout st) s = .next { s with dev := t } ∧
    (stnOf t st).mode = .lost ∧ (stnOf t st).param = none ∧ t.eth.losses = s.dev.eth.losses + 1) ∧
  (∀ (st : Nat) (f : RxFrame) (rest : List RxFrame) (k : NzParam) (t0 : STime) (s : State), s.dev.eth.rx = f :: rest
    → nzType f = 8 → nzStation f = st → nzSrc f = stnMac (stnRec s.dev st) → (stnOf s.dev st).param = some k →
    k.left = some t0 → k.delays = true → nzCrcOk f = true → k.got = [] → exec (.delayResp st) s = .next
    { s with dev := sendDelay st k.lan (modParam st (fun x => { x with lan := k.lan, got := [(k.lan, twiceDelay f t0)], tries := 1, sentAt := nowS s.dev, left := none }) { s.dev with eth.rx := rest }) }) ∧
  (∀ (st : Nat) (f : RxFrame) (rest : List RxFrame) (s : State), s.dev.eth.rx = f :: rest → nzSrc f = stnMac (stnRec
    s.dev st) → (stnOf s.dev st).mode = .lost → exec (.probeReply st) s = .next
    { s with dev := startParam st true { s.dev with eth.rx := rest } }) ∧
  (∀ (st : Nat) (s : State), (stnOf s.dev st).mode ≠ .lost → exec (.nzProbeTimer st) s = .next s) ∧
  (∀ (st : Nat) (s : State), (stnOf s.dev st).mode = .lost → (stnOf s.dev st).probeAt + usT (fld 32 4 (stnRec s.dev
    st)) ≤ nowS s.dev → exec (.nzProbeTimer st) s = .next
    { s with dev := nzSend st 5 0 0 (fun _ => 0) [] (modStn st (fun q => { q with probeAt := nowS s.dev }) s.dev) })

/-- In a descriptor that may start with its fields in order: ETH_READ_STATION of a station that exists writes its
record and completes OK with its state; ETH_REPARAM of a LIVE station in RUNNING loses it with cause 5, begins PARAM,
and completes OK with the state before; of a station in PARAM it completes with REJECTED_STATE; ETH_CB_RESET of an
enabled listener stream forgets its recovery and completes OK; ETH_CLEAR_COUNTERS zeroes the counters of its mask, or
those of the ports, and completes OK. The first three complete with NOT_FOUND for an object that does not exist. Under
conditions on state and operands alone these complete: ethReadStation, ethReparam, ethCbReset, ethClearCounters. (R57,
R64, R71, R444, R459, R468) -/
def Obligations.EthernetCommands : Prop :=
  (∀ (d : Desc) (s : State), canStart d s.dev = true → d.target.toNat ≤ 127 → created s.dev 0x0C 3 d.target.toNat =
    true → badField { bufMin := 64, bufMax := 16777216 } [] d = none → exec (.ethReadStation d) s = .next
    { s with dev := completed d s.dev .ok (stnCode (stnOf s.dev d.target.toNat).mode) (le 1 (stnCode (stnOf s.dev d.target.toNat).mode) ++ le 1 (stnOf s.dev d.target.toNat).cause ++ le 2 0 ++ le 4 (wrapInt 32 (stnOf s.dev d.target.toNat).delayA) ++ le 4 (wrapInt 32 (stnOf s.dev d.target.toNat).delayB) ++ le 4 (stnOf s.dev d.target.toNat).latch ++ le 4 (stnOf s.dev d.target.toNat).lastCycle ++ le 4 (stnOf s.dev d.target.toNat).misses.toNat ++ le 4 (stnOf s.dev d.target.toNat).losses.toNat ++ List.replicate 36 0#8) (started d s.dev) }) ∧
  (∀ (d : Desc) (s : State), canStart d s.dev = true → d.target.toNat ≤ 127 → created s.dev 0x0C 3 d.target.toNat =
    true → badField plain [] d = none → (stnOf s.dev d.target.toNat).mode = .live → s.dev.cfg.mode = .running → exec
    (.ethReparam d) s = .next
    { s with dev := completed d s.dev .ok 2 [] (startParam d.target.toNat true (nzLoss d.target.toNat 5 (nowS s.dev) (started d s.dev))) }) ∧
  (∀ (d : Desc) (s : State), canStart d s.dev = true → d.target.toNat ≤ 127 → created s.dev 0x0C 3 d.target.toNat =
    true → badField plain [] d = none → (stnOf s.dev d.target.toNat).mode = .param → exec (.ethReparam d) s = .next
    { s with dev := completed d s.dev .rejectedState 0 [] (started d s.dev) }) ∧
  (∀ (d : Desc) (s : State), canStart d s.dev = true → created s.dev 0x0C 3 d.target.toNat = false → created s.dev
    0x0C 7 d.target.toNat = false → exec (.ethReadStation d) s = .next
    { s with dev := completed d s.dev .notFound 0 [] (started d s.dev) } ∧ exec (.ethReparam d) s = .next
    { s with dev := completed d s.dev .notFound 0 [] (started d s.dev) } ∧ exec (.ethCbReset d) s = .next
    { s with dev := completed d s.dev .notFound 0 [] (started d s.dev) }) ∧
  (∀ (d : Desc) (s : State), canStart d s.dev = true → d.target.toNat ≤ 63 → created s.dev 0x0C 7 d.target.toNat =
    true → bit 0 (fld 8 1 (recNow s.dev 0x0C 7 d.target.toNat)) = true → bit 2 (fld 8 1 (recNow s.dev 0x0C 7
    d.target.toNat)) = true → badField plain [] d = none → exec (.ethCbReset d) s = .next
    { s with dev := completed d s.dev .ok 0 [] { started d s.dev with eth.streams := tmod s.dev.eth.streams d.target.toNat {} (fun q => { q with seq := none, hist := [] }) } }) ∧
  (∀ (d : Desc) (s : State), canStart d s.dev = true → badField { target := false, pmask := 1 } [(512 ≤ d.p0.toNat,
    24)] d = none → d.p0.toNat < 256 → exec (.ethClearCounters d) s = .next
    { s with dev := completed d s.dev .ok 0 [] { started d s.dev with eth := { (started d s.dev).eth with miss := clr d.p0.toNat 0 s.dev.eth.miss, bad := clr d.p0.toNat 1 s.dev.eth.bad, late := clr d.p0.toNat 2 s.dev.eth.late, slip := clr d.p0.toNat 3 s.dev.eth.slip, orderDrop := clr d.p0.toNat 4 s.dev.eth.orderDrop, supersede := clr d.p0.toNat 5 s.dev.eth.supersede, delayDev := clr d.p0.toNat 6 s.dev.eth.delayDev, losses := clr d.p0.toNat 7 s.dev.eth.losses } } }) ∧
  (∀ (d : Desc) (s : State), canStart d s.dev = true → badField { target := false, pmask := 1 } [(512 ≤ d.p0.toNat,
    24)] d = none → d.p0 = 256 → exec (.ethClearCounters d) s = .next
    { s with dev := completed d s.dev .ok 0 [] { started d s.dev with eth.ports := tmap s.dev.eth.ports (fun _ q => { q with txFr := 0, rxFr := 0, rxErr := 0, rxDrop := 0, late := 0, gateDrop := 0, prpDup := 0 }) } })

/-- Each row, while its core runs a cycle that has not ended and the instruction at its pc is the one the row names,
gives rd, the next pc and the bytes written that the instruction gives: the member at the address in rs1 is read, the
timer, edge or counter of R409 takes a step with S, the result goes to rd and the member is written back; FB_NOW and
FB_NOWH give the halves of S. Of the member instructions a misaligned address is cause 3 and one outside the permitted
regions cause 2. TON, TOF and TP keep START, run and Q as R409 says; an edge member gives its first edge only once it
is VALID, and then remembers CLK; a counter counts a rising edge and saturates, and without one only compares. Under
conditions on state and operands alone these complete: fbTon, fbTof, fbTp, fbRtrig, fbFtrig, fbCtu, fbCtd, fbNow,
fbNowh. (R407, R408, R409) -/
def Obligations.FunctionBlocks : Prop :=
  (∀ (c rd a b len v pc : Nat) (y : Cycle) (ws : List (Nat × List Byte)) (s : State), (coreOf s.dev c).cyc = some y
    → y.ended = false → fetchInstr (progOf s.dev y.prog) y = .ok (.fb 0 0 rd a b, len) → fbExec (progOf s.dev
    y.prog) y 0 0 rd (xreg (coreOf s.dev c) a) (xreg (coreOf s.dev c) b) ((y.pc + len) % 2 ^ 32) = .ok rd v pc ws →
    exec (.fbTon c) s = .next { s with dev := applyInstr c y rd v pc ws s.dev }) ∧
  (∀ (c rd a b len v pc : Nat) (y : Cycle) (ws : List (Nat × List Byte)) (s : State), (coreOf s.dev c).cyc = some y
    → y.ended = false → fetchInstr (progOf s.dev y.prog) y = .ok (.fb 0 1 rd a b, len) → fbExec (progOf s.dev
    y.prog) y 0 1 rd (xreg (coreOf s.dev c) a) (xreg (coreOf s.dev c) b) ((y.pc + len) % 2 ^ 32) = .ok rd v pc ws →
    exec (.fbTof c) s = .next { s with dev := applyInstr c y rd v pc ws s.dev }) ∧
  (∀ (c rd a b len v pc : Nat) (y : Cycle) (ws : List (Nat × List Byte)) (s : State), (coreOf s.dev c).cyc = some y
    → y.ended = false → fetchInstr (progOf s.dev y.prog) y = .ok (.fb 0 2 rd a b, len) → fbExec (progOf s.dev
    y.prog) y 0 2 rd (xreg (coreOf s.dev c) a) (xreg (coreOf s.dev c) b) ((y.pc + len) % 2 ^ 32) = .ok rd v pc ws →
    exec (.fbTp c) s = .next { s with dev := applyInstr c y rd v pc ws s.dev }) ∧
  (∀ (c rd a b len v pc : Nat) (y : Cycle) (ws : List (Nat × List Byte)) (s : State), (coreOf s.dev c).cyc = some y
    → y.ended = false → fetchInstr (progOf s.dev y.prog) y = .ok (.fb 1 0 rd a b, len) → fbExec (progOf s.dev
    y.prog) y 1 0 rd (xreg (coreOf s.dev c) a) (xreg (coreOf s.dev c) b) ((y.pc + len) % 2 ^ 32) = .ok rd v pc ws →
    exec (.fbRtrig c) s = .next { s with dev := applyInstr c y rd v pc ws s.dev }) ∧
  (∀ (c rd a b len v pc : Nat) (y : Cycle) (ws : List (Nat × List Byte)) (s : State), (coreOf s.dev c).cyc = some y
    → y.ended = false → fetchInstr (progOf s.dev y.prog) y = .ok (.fb 1 1 rd a b, len) → fbExec (progOf s.dev
    y.prog) y 1 1 rd (xreg (coreOf s.dev c) a) (xreg (coreOf s.dev c) b) ((y.pc + len) % 2 ^ 32) = .ok rd v pc ws →
    exec (.fbFtrig c) s = .next { s with dev := applyInstr c y rd v pc ws s.dev }) ∧
  (∀ (c rd a b len v pc : Nat) (y : Cycle) (ws : List (Nat × List Byte)) (s : State), (coreOf s.dev c).cyc = some y
    → y.ended = false → fetchInstr (progOf s.dev y.prog) y = .ok (.fb 2 0 rd a b, len) → fbExec (progOf s.dev
    y.prog) y 2 0 rd (xreg (coreOf s.dev c) a) (xreg (coreOf s.dev c) b) ((y.pc + len) % 2 ^ 32) = .ok rd v pc ws →
    exec (.fbCtu c) s = .next { s with dev := applyInstr c y rd v pc ws s.dev }) ∧
  (∀ (c rd a b len v pc : Nat) (y : Cycle) (ws : List (Nat × List Byte)) (s : State), (coreOf s.dev c).cyc = some y
    → y.ended = false → fetchInstr (progOf s.dev y.prog) y = .ok (.fb 2 1 rd a b, len) → fbExec (progOf s.dev
    y.prog) y 2 1 rd (xreg (coreOf s.dev c) a) (xreg (coreOf s.dev c) b) ((y.pc + len) % 2 ^ 32) = .ok rd v pc ws →
    exec (.fbCtd c) s = .next { s with dev := applyInstr c y rd v pc ws s.dev }) ∧
  (∀ (c rd len : Nat) (y : Cycle) (s : State), (coreOf s.dev c).cyc = some y → y.ended = false → fetchInstr (progOf
    s.dev y.prog) y = .ok (.fb 4 0 rd 0 0, len) → exec (.fbNow c) s = .next
    { s with dev := applyInstr c y rd (cycleNs y % 2 ^ 32) ((y.pc + len) % 2 ^ 32) [] s.dev }) ∧
  (∀ (c rd len : Nat) (y : Cycle) (s : State), (coreOf s.dev c).cyc = some y → y.ended = false → fetchInstr (progOf
    s.dev y.prog) y = .ok (.fb 4 1 rd 0 0, len) → exec (.fbNowh c) s = .next
    { s with dev := applyInstr c y rd (cycleNs y / 2 ^ 32 % 2 ^ 32) ((y.pc + len) % 2 ^ 32) [] s.dev }) ∧
  (∀ (g : Prog) (y : Cycle) (f f7 rd a clk next : Nat) (b : List Byte), f ≤ 2 → a % (if f = 0 then 8 else 4) = 0 →
    memRead g y a (if f = 0 then 16 else if f = 1 then 1 else 9) = some b → (memWrite g y a (fbMember f f7 (cycleNs
    y) (clk != 0) b).2).isSome = true → fbExec g y f f7 rd a clk next = .ok rd (fbMember f f7 (cycleNs y) (clk != 0)
    b).1 next [(a, (fbMember f f7 (cycleNs y) (clk != 0) b).2)]) ∧
  (∀ (g : Prog) (y : Cycle) (f f7 rd a clk next : Nat), f ≤ 2 → a % (if f = 0 then 8 else 4) ≠ 0 → fbExec g y f f7
    rd a clk next = .fault 3) ∧
  (∀ (g : Prog) (y : Cycle) (f f7 rd a clk next : Nat), f ≤ 2 → a % (if f = 0 then 8 else 4) = 0 → memRead g y a (if
    f = 0 then 16 else if f = 1 then 1 else 9) = none → fbExec g y f f7 rd a clk next = .fault 2) ∧
  (∀ (s u : Nat) (t : TimerMem), timTon s u t false = { t with run := false, q := false, inLast := false } ∧ timTof
    s u t true = { t with run := false, q := true, inLast := true }) ∧
  (∀ (s u : Nat) (t : TimerMem), t.inLast = false → t.pt * u ≠ 0 → timTon s u t true =
    { t with start := s, run := true, inLast := true } ∧ (t.q = false → timTp s u t true =
    { t with start := s, q := true, inLast := true })) ∧
  (∀ (s u : Nat) (t : TimerMem), t.inLast = true → t.pt * u ≠ 0 → timTof s u t false =
    { t with start := s, run := true, inLast := false }) ∧
  (∀ (s u : Nat) (t : TimerMem), t.inLast = true → t.run = true → (timTon s u t true).q = (t.q || decide (t.start +
    t.pt * u ≤ s)) ∧ (timTon s u t true).run = !decide (t.start + t.pt * u ≤ s)) ∧
  (∀ (s u : Nat) (t : TimerMem), t.inLast = false → t.run = true → (timTof s u t false).q = (t.q && !decide (t.start
    + t.pt * u ≤ s)) ∧ (timTof s u t false).run = !decide (t.start + t.pt * u ≤ s)) ∧
  (∀ (s u : Nat) (t : TimerMem) (i : Bool), t.q = true → (timTp s u t i).start = t.start ∧ ((timTp s u t i).q = true
    ↔ s < t.start + t.pt * u)) ∧
  (∀ (b : Nat) (clk rising : Bool), bit 1 b = false → (edgeStep b clk rising).1 = false) ∧
  (∀ (b : Nat) (clk : Bool), bit 1 b = true → (edgeStep b clk true).1 = (clk && !bit 0 b) ∧ (edgeStep b clk false).1
    = (!clk && bit 0 b)) ∧
  (∀ (b : Nat) (clk rising : Bool), bit 0 (edgeStep b clk rising).2 = clk ∧ bit 1 (edgeStep b clk rising).2 = true) ∧
  (∀ (s : Nat) (b : List Byte), bit 1 (fld 8 1 b) = true → bit 0 (fld 8 1 b) = false → (fbMember 2 0 s true b).1 =
    (if sfld 4 4 b ≤ ssat 32 (sfld 0 4 b + 1) then 1 else 0) ∧ (fbMember 2 1 s true b).1 = (if ssat 32 (sfld 0 4 b -
    1) ≤ 0 then 1 else 0)) ∧
  (∀ (s : Nat) (b : List Byte), (fbMember 2 0 s false b).1 = (if sfld 4 4 b ≤ sfld 0 4 b then 1 else 0) ∧ (fbMember
    2 1 s false b).1 = (if sfld 0 4 b ≤ 0 then 1 else 0))

/-- An instruction other than a function block, fetched and executed without a fault, gives rd, the next pc and the
bytes written that it gives. On a core without a cycle the rows for an instruction, a fault, an overrun, an abort and
an end change nothing. An instruction that cannot be fetched, or faults, faults its program, which is then in FAULT,
or DISABLED where not enabled, with its cause, counted, and off its core. T_MAX_US after the release, under the record
kept for its start, an unfinished cycle that had not overrun has overrun, is marked and counted, and not earlier;
T_ABORT_US after it the cycle faults with cause 5. At its end, under that record, the program leaves its core, is
IDLE, or DISABLED where not enabled, and its output image is published unless it overran, which is counted. On a
running device whose engine runs, a ready IDLE program starts on a free core of the envelope that is not lost: RUNNING
from that instant, its pending start taken, its release out of the queue; with nothing ready, off RUNNING or outside
the envelope nothing starts. ADD, ECALL, FENCE and SW of an aligned word of the instance region, and x0, are as in
RV32. Under conditions on state and operands alone these complete: programInstruction, programFault, cycleOverrun,
cycleAbort, programCycleEnd, programCycleStart. (R385, R388, R399, R400, R401, R402, R403) -/
def Obligations.CyclesRun : Prop :=
  (∀ (c rd v pc len : Nat) (i : Rv) (y : Cycle) (ws : List (Nat × List Byte)) (s : State), (coreOf s.dev c).cyc =
    some y → y.ended = false → fetchInstr (progOf s.dev y.prog) y = .ok (i, len) → isFb i = false → cpuExec (progOf
    s.dev y.prog) y (coreOf s.dev c) i len = .ok rd v pc ws → exec (.programInstruction c) s = .next
    { s with dev := applyInstr c y rd v pc ws s.dev }) ∧
  (∀ (c : Nat) (s : State), (coreOf s.dev c).cyc = none → exec (.programInstruction c) s = .next s ∧ exec
    (.programFault c) s = .next s ∧ exec (.cycleOverrun c) s = .next s ∧ exec (.cycleAbort c) s = .next s ∧ exec
    (.programCycleEnd c) s = .next s) ∧
  (∀ (c cause : Nat) (y : Cycle) (s : State), (coreOf s.dev c).cyc = some y → y.ended = false → fetchInstr (progOf
    s.dev y.prog) y = .error cause → exec (.programFault c) s = .next
    { s with dev := faultProgram c cause y s.dev }) ∧
  (∀ (c cause len : Nat) (i : Rv) (y : Cycle) (s : State), (coreOf s.dev c).cyc = some y → y.ended = false →
    fetchInstr (progOf s.dev y.prog) y = .ok (i, len) → cpuExec (progOf s.dev y.prog) y (coreOf s.dev c) i len =
    .fault cause → exec (.programFault c) s = .next { s with dev := faultProgram c cause y s.dev }) ∧
  (∀ (c cause : Nat) (y : Cycle) (s : Device), (progOf (faultProgram c cause y s) y.prog).mode = (if bit 0 (fld 0 1
    (pgmRec s y.prog)) then .fault else .disabled) ∧ (progOf (faultProgram c cause y s) y.prog).cause = cause ∧
    (coreOf (faultProgram c cause y s) c).cyc = none ∧ (faultProgram c cause y s).pgm.faults = s.pgm.faults + 1 ∧
    (faultProgram c cause y s).cfg = s.cfg ∧ (faultProgram c cause y s).saf = s.saf) ∧
  (∀ (c : Nat) (y : Cycle) (b : List Byte) (s : State), (coreOf s.dev c).cyc = some y → y.ended = false → recAt
    s.dev 0x04 1 y.prog y.start = some b → nowS s.dev < y.release + usT (fld 12 4 b) → exec (.cycleOverrun c) s =
    .next s) ∧
  (∀ (c : Nat) (y : Cycle) (b : List Byte) (s : State), (coreOf s.dev c).cyc = some y → y.ended = false → recAt
    s.dev 0x04 1 y.prog y.start = some b → y.overran = false → y.release + usT (fld 12 4 b) ≤ nowS s.dev → exec
    (.cycleOverrun c) s = .next { s with dev := overrun c y (fld 12 4 b) s.dev }) ∧
  (∀ (c tmax : Nat) (y : Cycle) (s : Device), (coreOf (overrun c y tmax s) c).cyc = some { y with overran := true }
    ∧ (overrun c y tmax s).pgm.overrun = s.pgm.overrun + 1) ∧
  (∀ (c : Nat) (y : Cycle) (b : List Byte) (s : State), (coreOf s.dev c).cyc = some y → y.ended = false → recAt
    s.dev 0x04 1 y.prog y.start = some b → y.release + usT (fld 16 4 b) ≤ nowS s.dev → exec (.cycleAbort c) s =
    .next { s with dev := faultProgram c 5 y s.dev }) ∧
  (∀ (c : Nat) (y : Cycle) (b : List Byte) (s : State), (coreOf s.dev c).cyc = some y → y.ended = true → recAt s.dev
    0x04 1 y.prog y.start = some b → ∃ t, exec (.programCycleEnd c) s = .next { s with dev := t } ∧ (coreOf t c).cyc
    = none ∧ (progOf t y.prog).mode = (if bit 0 (fld 0 1 (pgmRec s.dev y.prog)) then .idle else .disabled) ∧ (progOf
    t y.prog).out = (if y.overran || decide (y.release + usT (fld 12 4 b) < nowS s.dev) then (progOf s.dev
    y.prog).out else publishedWords (progOf s.dev y.prog) y) ∧ t.pgm.overrun = s.dev.pgm.overrun + (if !y.overran &&
    decide (y.release + usT (fld 12 4 b) < nowS s.dev) then 1 else 0)) ∧
  (∀ (c slot : Nat) (release : STime) (rest : List (STime × Nat)) (s : State), tget s.dev.dpt.coreReady c [] =
    (release, slot) :: rest → (coreOf s.dev c).cyc = none → s.dev.cfg.mode = .running → s.dev.dpt.run = true → c <
    envCores (envelope s.dev) → bit c s.dev.pgm.lost = false → (progOf s.dev (programOf s.dev slot)).mode = .idle →
    ∃ t, exec (.programCycleStart c) s = .next { s with dev := t } ∧ (progOf t (programOf s.dev slot)).mode =
    .running ∧ (progOf t (programOf s.dev slot)).ran = true ∧ (progOf t (programOf s.dev slot)).pend = none ∧
    (progOf t (programOf s.dev slot)).last = some (nowS s.dev) ∧ (coreOf t c).cyc.map (fun y => (y.prog, y.release,
    y.start, y.overran)) = some (programOf s.dev slot, release, nowS s.dev, false) ∧ tget t.dpt.coreReady c [] =
    rest) ∧
  (∀ (c : Nat) (s : State), (tget s.dev.dpt.coreReady c [] = [] ∨ s.dev.cfg.mode ≠ .running ∨ envCores (envelope
    s.dev) ≤ c) → exec (.programCycleStart c) s = .next s) ∧
  (∀ (g : Prog) (y : Cycle) (k : Core) (rd a b len : Nat), cpuExec g y k (.op 0 0 rd a b) len = .ok rd ((xreg k a +
    xreg k b) % 2 ^ 32) ((y.pc + len) % 2 ^ 32) [] ∧ cpuExec g y k .trap len = .fault 4 ∧ cpuExec g y k .fence len =
    .ok 0 0 ((y.pc + len) % 2 ^ 32) []) ∧
  (∀ (g : Prog) (y : Cycle) (k : Core) (a b len : Nat) (imm : Int), wrapInt 32 (xreg k a + imm) % 4 = 0 → 0x20000000
    ≤ wrapInt 32 (xreg k a + imm) → wrapInt 32 (xreg k a + imm) + 4 ≤ 0x20000000 + imgInstSize g.image → cpuExec g y
    k (.store 2 a b imm) len = .ok 0 0 ((y.pc + len) % 2 ^ 32) [(wrapInt 32 (xreg k a + imm), le 4 (xreg k b))]) ∧
  (∀ (k : Core) (a : Nat), xreg k 0 = 0 ∧ rvMul 4 a 0 = 2 ^ 32 - 1 ∧ rvMul 6 a 0 = a)

/-- In a descriptor that may start with its fields in order, for a program that exists, with a readable buffer, no
sync of a pair and no bad sector of the store named: PGM_LOAD of an image that passes the checks, where the program
does not run on a RUNNING device, installs it with its initial instance data and a COLD start pending and leaves the
ring running; PGM_EXCHANGE in RUNNING of a program IDLE or RUNNING without an exchange stages it and stays in
progress. With no exchange its boundary and its time-out change nothing. At the boundary of a staged image nothing
happens while a cycle runs; otherwise, without a pair, the new image stands with the instance data carried over, and a
FAULT ends. A time-out ends the exchange and keeps the image. PGM_RESTART of a program that is IDLE, RUNNING or in
FAULT without CONTINUOUS sets the next start kind, ends a FAULT, and completes OK with the state before;
PGM_READ_INSTANCE writes the instance as of the last cycle end and completes OK with its size; PGM_CLEAR_COUNTERS
zeroes the counters of its mask and completes OK; the first four complete with NOT_FOUND for no program. A scan of a
device not held in reset is made at most once in each 50 µs, keeps image and configuration, and takes the meaning of
LD, AND, ST, END and the jump. FBL takes control when there is a cause and it has not, the device not being held in
reset. FBL_LOAD of an image that passes the checks, outside control, is kept for the next scan and completes OK with
its identity; in control it completes with REJECTED_STATE. FBL_READ writes its record and completes OK with the scans.
Under conditions on state and operands alone these complete: pgmLoad, pgmExchange, programExchangeBoundary,
pgmExchangeTimeout, pgmRestart, pgmReadInstance, pgmClearCounters, fblScan, fblTakeControl, fblLoad, fblRead. (R57,
R64, R71, R396, R410, R413, R415, R419, R424, R425, R428, R429) -/
def Obligations.ProgramsAndFallback : Prop :=
  (∀ (d : Desc) (i : List Byte) (s : State), canStart d s.dev = true → d.bad.filter storeSector = [] →
    d.target.toNat ≤ 255 → created s.dev 0x04 1 d.target.toNat = true → badField (imageForm d) [] d = none →
    (s.dev.cfg.mode ≠ .running ∨ ((progOf s.dev d.target.toNat).mode ≠ .idle ∧ (progOf s.dev d.target.toNat).mode ≠
    .running)) → d.buf.acc = .ok → s.dev.pai.synced = false → (checkProgram d.target.toNat d (started d s.dev)).1 =
    .ok i → ∃ t, exec (.pgmLoad d) s = .next { s with dev := t } ∧ (progOf t d.target.toNat).image = i ∧ (progOf t
    d.target.toNat).inst = imgInit i ∧ (progOf t d.target.toNat).pend = some (0, 0) ∧ (progOf t d.target.toNat).ran
    = false ∧ (progOf t d.target.toNat).mode = (if bit 0 (fld 0 1 (pgmRec s.dev d.target.toNat)) then .idle else
    .disabled) ∧ (ringOf t d.ring).halted = false) ∧
  (∀ (d : Desc) (i : List Byte) (s : State), canStart d s.dev = true → d.bad.filter storeSector = [] →
    d.target.toNat ≤ 255 → created s.dev 0x04 1 d.target.toNat = true → badField (imageForm d) [] d = none →
    s.dev.cfg.mode = .running → ((progOf s.dev d.target.toNat).mode = .idle ∨ (progOf s.dev d.target.toNat).mode =
    .running) → (progOf s.dev d.target.toNat).exch = none → d.buf.acc = .ok → s.dev.pai.synced = false →
    (checkProgram d.target.toNat d (started d s.dev)).1 = .ok i → ∃ t, exec (.pgmExchange d) s = .next
    { s with dev := t } ∧ (progOf t d.target.toNat).exch = some (pendOf d s.dev, i, nowS s.dev) ∧ (progOf t
    d.target.toNat).image = (progOf s.dev d.target.toNat).image ∧ (ringOf t d.ring).busy = true) ∧
  (∀ (n : Nat) (s : State), (progOf s.dev n).exch = none → exec (.programExchangeBoundary n) s = .next s ∧ exec
    (.pgmExchangeTimeout n) s = .next s) ∧
  (∀ (n : Nat) (p : Pend) (i : List Byte) (at_ : STime) (s : State), (progOf s.dev n).exch = some (p, i, at_) →
    (progOf s.dev n).mode = .running → exec (.programExchangeBoundary n) s = .next s) ∧
  (∀ (n : Nat) (p : Pend) (i : List Byte) (at_ : STime) (s : State), (progOf s.dev n).exch = some (p, i, at_) →
    (progOf s.dev n).mode ≠ .running → s.dev.pai.synced = false → ∃ t, exec (.programExchangeBoundary n) s = .next
    { s with dev := t } ∧ (progOf t n).image = i ∧ (progOf t n).exch = none ∧ (progOf t n).mode = (if (progOf s.dev
    n).mode = .fault then .idle else (progOf s.dev n).mode) ∧ (progOf t n).inst = carryOver (progOf s.dev n).image i
    (progOf s.dev n).inst) ∧
  (∀ (n : Nat) (p : Pend) (i : List Byte) (at_ : STime) (s : State), (progOf s.dev n).exch = some (p, i, at_) → at_
    + usT (fld 16 4 (pgmRec s.dev n)) + msT 10 ≤ nowS s.dev → ∃ t, exec (.pgmExchangeTimeout n) s = .next
    { s with dev := t } ∧ (progOf t n).exch = none ∧ (progOf t n).image = (progOf s.dev n).image) ∧
  (∀ (d : Desc) (s : State), canStart d s.dev = true → d.target.toNat ≤ 255 → created s.dev 0x04 1 d.target.toNat =
    true → badField { pmask := 1 } [(1 < d.p0.toNat, 24)] d = none → ((progOf s.dev d.target.toNat).mode = .idle ∨
    (progOf s.dev d.target.toNat).mode = .running) → exec (.pgmRestart d) s = .next
    { s with dev := completed d s.dev .ok (pgmCode (progOf s.dev d.target.toNat).mode) [] (modProg d.target.toNat (fun g => { g with pend := some (if d.p0 = 0 then 1 else 0, 0), mode := if g.mode == .fault then .idle else g.mode }) (started d s.dev)) }) ∧
  (∀ (d : Desc) (s : State), canStart d s.dev = true → d.target.toNat ≤ 255 → created s.dev 0x04 1 d.target.toNat =
    true → badField { pmask := 1 } [(1 < d.p0.toNat, 24)] d = none → (progOf s.dev d.target.toNat).mode = .fault →
    pgmContinuous (pgmRec s.dev d.target.toNat) = false → exec (.pgmRestart d) s = .next
    { s with dev := completed d s.dev .ok 4 [] (modProg d.target.toNat (fun g => { g with pend := some (if d.p0 = 0 then 1 else 0, 0), mode := if g.mode == .fault then .idle else g.mode }) (started d s.dev)) }) ∧
  (∀ (d : Desc) (e : Inst) (s : State), canStart d s.dev = true → d.target.toNat ≤ 255 → created s.dev 0x04 1
    d.target.toNat = true → (instances (progOf s.dev d.target.toNat).image).find? (fun e => e.iid == d.p0.toNat) =
    some e → badField { pmask := 1, bufMin := e.size, bufMax := 16777216 } [] d = none → exec (.pgmReadInstance d) s
    = .next
    { s with dev := completed d s.dev .ok e.size (((instAtEnd s.dev d.target.toNat).drop e.off).take e.size) (started d s.dev) }) ∧
  (∀ (d : Desc) (s : State), canStart d s.dev = true → 255 < d.target.toNat → exec (.pgmLoad d) s = .next
    { s with dev := completed d s.dev .notFound 0 [] (started d s.dev) } ∧ exec (.pgmExchange d) s = .next
    { s with dev := completed d s.dev .notFound 0 [] (started d s.dev) } ∧ exec (.pgmRestart d) s = .next
    { s with dev := completed d s.dev .notFound 0 [] (started d s.dev) } ∧ exec (.pgmReadInstance d) s = .next
    { s with dev := completed d s.dev .notFound 0 [] (started d s.dev) }) ∧
  (∀ (d : Desc) (s : State), canStart d s.dev = true → badField { target := false, pmask := 1 } [(64 ≤ d.p0.toNat,
    24)] d = none → exec (.pgmClearCounters d) s = .next
    { s with dev := completed d s.dev .ok 0 [] { started d s.dev with pgm := { (started d s.dev).pgm with overrun := clr d.p0.toNat 0 s.dev.pgm.overrun, faults := clr d.p0.toNat 1 s.dev.pgm.faults, undelivered := clr d.p0.toNat 2 s.dev.pgm.undelivered, coreErr := clr d.p0.toNat 3 s.dev.pgm.coreErr, rollback := clr d.p0.toNat 4 s.dev.pgm.rollback, secCorr := clr d.p0.toNat 5 s.dev.pgm.secCorr } } }) ∧
  (∀ (s : State), nowD s.dev / usT 50 * usT 50 = s.dev.fbl.scanAt → exec .fblScan s = .next s) ∧
  (∀ (s : State), s.dev.clk.held = none → nowD s.dev / usT 50 * usT 50 ≠ s.dev.fbl.scanAt → s.dev.fbl.image ≠ [] →
    s.dev.fbl.next = none → ∃ t, exec .fblScan s = .next { s with dev := t } ∧ t.fbl.scanAt = nowD s.dev / usT 50 *
    usT 50 ∧ t.fbl.scans = s.dev.fbl.scans + 1 ∧ t.fbl.first = false ∧ t.fbl.image = s.dev.fbl.image ∧ t.cfg =
    s.dev.cfg) ∧
  (∀ (i : List Byte) (l : Latch) (c : Scan) (v : Nat), v < 1024 → scanExec i l (0x01 * 1024 + v) c =
    { c with done := c.done + 1, rlo := scanBit l { c with done := c.done + 1 } v } ∧ (scanExec i l (0x03 * 1024 +
    v) c).rlo = (c.rlo && scanBit l c v) ∧ scanExec i l (0x0B * 1024 + v) c = scanPut v c.rlo
    { c with done := c.done + 1 } ∧ (scanExec i l (0x3F * 1024 + v) c).ended = true ∧ (scanExec i l (0x15 * 1024 +
    v) c).skip = v) ∧
  (∀ (c : Nat) (s : State), s.dev.clk.held = none → fblCause s.dev = some c → s.dev.fbl.control = false → ∃ t, exec
    .fblTakeControl s = .next { s with dev := t } ∧ t.fbl.control = true ∧ t.fbl.takes = s.dev.fbl.takes + 1 ∧
    t.fbl.takeCause = c ∧ t.saf = s.dev.saf) ∧
  (∀ (s : State), (fblCause s.dev = none ∨ s.dev.fbl.control = true) → exec .fblTakeControl s = .next s) ∧
  (∀ (d : Desc) (s : State), canStart d s.dev = true → d.bad.filter storeSector = [] → badField
    { imageForm d with target := false } [] d = none → s.dev.fbl.control = false → fblCause s.dev = none → d.buf.acc
    = .ok → s.dev.pai.synced = false → d.bufLen ≠ 0 → d.bufLen.toNat = d.buf.bytes.length → d.buf.bytes.length =
    fblLength d.buf.bytes → fld 4 2 d.buf.bytes = 1 → fblHeaderOk d.buf.bytes d.buf.bytes.length = true → fld 28 4
    d.buf.bytes = (crc32c (crcZeroed 28 d.buf.bytes)).toNat → appSigned s.dev = false → fblFault d.buf.bytes = none
    → exec (.fblLoad d) s = .next
    { s with dev := completed d s.dev .ok (fld 12 4 d.buf.bytes) [] (raise Ev.fblLoaded [lo32 (fld 12 4 d.buf.bytes)] { started d s.dev with fbl.next := some d.buf.bytes }) }) ∧
  (∀ (d : Desc) (s : State), canStart d s.dev = true → badField { imageForm d with target := false } [] d = none →
    s.dev.fbl.control = true → exec (.fblLoad d) s = .next
    { s with dev := completed d s.dev .rejectedState 0 [] (started d s.dev) }) ∧
  (∀ (d : Desc) (s : State), canStart d s.dev = true → badField
    { target := false, bufMin := 64, bufMax := 16777216 } [] d = none → exec (.fblRead d) s = .next
    { s with dev := completed d s.dev .ok s.dev.fbl.scans.toNat (le 32 s.dev.fbl.flags ++ le 8 s.dev.fbl.outs ++ le 4 (mask32 (fun k => (tget s.dev.fbl.timers k {}).q)) ++ le 4 s.dev.fbl.cmp ++ le 12 s.dev.fbl.levels ++ le 4 0) (started d s.dev) })

/-- A controller OFF or BUS_OFF receives nothing. In ERROR_ACTIVE a receive error that keeps REC below 128 adds to REC
and ERRFR; a frame without a filter that takes it is counted in RXFR and NOMATCH and lowers REC, and one a filter
takes, under the record kept for its instant, is counted in RXFR and goes to its token, its window, both or neither. A
live controller that drives and sends nothing starts, of the frames that may be sent, the one of lowest identifier,
then of lowest buffer; with none, or sending, or in a standby, it starts nothing. A success frees its buffer, counts
and lowers TEC; a lost arbitration leaves it pending where it is not stopped; another error of a TT buffer adds 8 to
TEC and frees it; with nothing sending the end changes nothing. A PERIODIC firing fires its buffer or counts a skip; a
frame 1 ms late is dropped and counted; a bus-off recovery that is asked for ends it. A TT master sends its reference
once in each basic cycle; a slave without one for two loses it; a TT window that is open makes its buffer pending, and
one that has passed drops it. A write to CAN_EN of a device not held in reset is taken. At bus idle a permitted
controller starts, one that is not stops, and a requested mode is taken and its command completes OK. In a descriptor
that may start with its fields in order: CAN_TX_SET gives a buffer its data, and starts an idle ONESHOT one;
CAN_TX_ABORT of a pending buffer frees it, or waits for the end of its frame; CAN_RECOVER in BUS_OFF starts the
recovery, and elsewhere completes with REJECTED_STATE; CAN_SET_MODE waits for bus idle; CAN_CLEAR_COUNTERS zeroes the
counters of its mask. Each completes with NOT_FOUND for no controller. Under conditions on state and operands alone
these complete: canFrameReceive, canTxStart, canTxEnd, periodicBufferFiring, canTxLate, busOffRecoveryDone,
ttReferenceSend, ttRefLost, ttWindow, canEnWrite, canBusIdle, canTxSet, canTxAbort, canRecover, canSetMode,
canClearCounters. (R57, R71, R515, R516, R519, R520, R521, R526, R531, R532, R538, R541) -/
def Obligations.CanBuses : Prop :=
  (∀ (n : Nat) (f : CanRx) (s : State), ((ctlOf s.dev n).mode = .off ∨ (ctlOf s.dev n).mode = .busOff) → exec
    (.canFrameReceive n f) s = .next s) ∧
  (∀ (n k : Nat) (f : CanRx) (s : State), (ctlOf s.dev n).mode = .errorActive → f.err = some k → (ctlOf s.dev n).tec
    < 128 → (ctlOf s.dev n).rec_ + k < 128 → ∃ t, exec (.canFrameReceive n f) s = .next { s with dev := t } ∧ (ctlOf
    t n).rec_ = (ctlOf s.dev n).rec_ + k ∧ (ctlOf t n).errFr = (ctlOf s.dev n).errFr + 1 ∧ (ctlOf t n).rxFr = (ctlOf
    s.dev n).rxFr ∧ (ctlOf t n).mode = .errorActive ∧ t.dpt = s.dev.dpt ∧ t.hif = s.dev.hif) ∧
  (∀ (n : Nat) (f : CanRx) (s : State), (ctlOf s.dev n).mode = .errorActive → (ctlOf s.dev n).tec < 128 → (ctlOf
    s.dev n).rec_ < 128 → f.err = none → canFlag s.dev n 2 = false → canFlag s.dev n 7 = false → canFilter s.dev n f
    = none → ∃ t, exec (.canFrameReceive n f) s = .next { s with dev := t } ∧ (ctlOf t n).rxFr = (ctlOf s.dev
    n).rxFr + 1 ∧ (ctlOf t n).noMatch = (ctlOf s.dev n).noMatch + 1 ∧ (ctlOf t n).rec_ = (ctlOf s.dev n).rec_ - 1 ∧
    (ctlOf t n).ackRun = 0 ∧ t.dpt = s.dev.dpt ∧ t.hif = s.dev.hif) ∧
  (∀ (n k : Nat) (r : List Byte) (f : CanRx) (s : State), (ctlOf s.dev n).mode = .errorActive → (ctlOf s.dev n).tec
    < 128 → (ctlOf s.dev n).rec_ < 128 → f.err = none → canFlag s.dev n 2 = false → canFilter s.dev n f = some k →
    recAt s.dev 0x0D 3 (32 * n + k) f.at_ = some r → bits 2 1 (fld 0 1 r) = 0 → ∃ t, exec (.canFrameReceive n f) s =
    .next { s with dev := t } ∧ (ctlOf t n).rxFr = (ctlOf s.dev n).rxFr + 1 ∧ (ctlOf t n).noMatch = (ctlOf s.dev
    n).noMatch ∧ t.dpt = s.dev.dpt ∧ t.hif = s.dev.hif) ∧
  (∀ (n k : Nat) (r : List Byte) (f : CanRx) (s : State), (ctlOf s.dev n).mode = .errorActive → (ctlOf s.dev n).tec
    < 128 → (ctlOf s.dev n).rec_ < 128 → f.err = none → canFlag s.dev n 2 = false → canFilter s.dev n f = some k →
    recAt s.dev 0x0D 3 (32 * n + k) f.at_ = some r → bits 2 1 (fld 0 1 r) = 1 → ∃ t, exec (.canFrameReceive n f) s =
    .next { s with dev := canToHost n k f t } ∧ (ctlOf t n).rxFr = (ctlOf s.dev n).rxFr + 1 ∧ (ctlOf t n).noMatch =
    (ctlOf s.dev n).noMatch ∧ t.dpt = s.dev.dpt ∧ t.hif = s.dev.hif) ∧
  (∀ (n k : Nat) (r : List Byte) (f : CanRx) (s : State), (ctlOf s.dev n).mode = .errorActive → (ctlOf s.dev n).tec
    < 128 → (ctlOf s.dev n).rec_ < 128 → f.err = none → canFlag s.dev n 2 = false → canFilter s.dev n f = some k →
    recAt s.dev 0x0D 3 (32 * n + k) f.at_ = some r → bits 2 1 (fld 0 1 r) = 2 → ∃ t, exec (.canFrameReceive n f) s =
    .next { s with dev := canToken n k f r t } ∧ (ctlOf t n).rxFr = (ctlOf s.dev n).rxFr + 1 ∧ (ctlOf t n).noMatch =
    (ctlOf s.dev n).noMatch ∧ t.dpt = s.dev.dpt ∧ t.hif = s.dev.hif) ∧
  (∀ (n k : Nat) (r : List Byte) (f : CanRx) (s : State), (ctlOf s.dev n).mode = .errorActive → (ctlOf s.dev n).tec
    < 128 → (ctlOf s.dev n).rec_ < 128 → f.err = none → canFlag s.dev n 2 = false → canFilter s.dev n f = some k →
    recAt s.dev 0x0D 3 (32 * n + k) f.at_ = some r → bits 2 1 (fld 0 1 r) = 3 → ∃ t, exec (.canFrameReceive n f) s =
    .next { s with dev := canToken n k f r (canToHost n k f t) } ∧ (ctlOf t n).rxFr = (ctlOf s.dev n).rxFr + 1 ∧
    (ctlOf t n).noMatch = (ctlOf s.dev n).noMatch ∧ t.dpt = s.dev.dpt ∧ t.hif = s.dev.hif) ∧
  (∀ (n b : Nat) (f : CanFrame) (s : State), canPick s.dev n = some (b, f) → canLive (ctlOf s.dev n) = true → (ctlOf
    s.dev n).sending = none → (ctlOf s.dev n).modeReq = none → canDrives s.dev n = true → exec (.canTxStart n) s =
    .next
    { s with dev := emit (.can n (nowD s.dev) f.id f.ctl f.data) (modBuf n b (fun q => { q with started := true }) (modCtl n (fun c => { c with sending := some b }) s.dev)) }) ∧
  (∀ (n b k : Nat) (f g : CanFrame) (s : Device), canPick s n = some (b, f) → k < 16 → canCandidate s n k = some g →
    arbId f.id ≤ arbId g.id ∧ (arbId f.id = arbId g.id → b ≤ k) ∧ canCandidate s n b = some f) ∧
  (∀ (n : Nat) (s : State), (canPick s.dev n = none ∨ (ctlOf s.dev n).sending.isSome = true ∨ s.dev.pai.standby =
    true) → exec (.canTxStart n) s = .next s) ∧
  (∀ (n b tdc : Nat) (s : State), (ctlOf s.dev n).sending = some b → b < 15 → (ctlOf s.dev n).aborts = [] → (ctlOf
    s.dev n).mode = .errorActive → (ctlOf s.dev n).tec < 128 → (ctlOf s.dev n).rec_ < 128 → ∃ t, exec (.canTxEnd n
    .sent tdc) s = .next { s with dev := t } ∧ (ctlOf t n).txFr = (ctlOf s.dev n).txFr + 1 ∧ (ctlOf t n).tec =
    (ctlOf s.dev n).tec - 1 ∧ (ctlOf t n).sending = none ∧ (canBuf t n b).pend = none ∧ (canBuf t n b).collRun = 0 ∧
    t.evr = s.dev.evr) ∧
  (∀ (n b tdc : Nat) (s : State), (ctlOf s.dev n).sending = some b → b < 15 → (ctlOf s.dev n).aborts = [] → bufMode
    s.dev n b ≠ 2 → canStops s.dev n b = false → (ctlOf s.dev n).mode = .errorActive → (ctlOf s.dev n).tec < 128 →
    (ctlOf s.dev n).rec_ < 128 → ∃ t, exec (.canTxEnd n .lost tdc) s = .next { s with dev := t } ∧ (ctlOf t n).tec =
    (ctlOf s.dev n).tec ∧ (ctlOf t n).txFr = (ctlOf s.dev n).txFr ∧ (ctlOf t n).sending = none ∧ (canBuf t n b).pend
    = (canBuf s.dev n b).pend ∧ t.evr = s.dev.evr) ∧
  (∀ (n b tdc : Nat) (s : State), (ctlOf s.dev n).sending = some b → b < 15 → bufMode s.dev n b = 2 → (ctlOf s.dev
    n).aborts = [] → (ctlOf s.dev n).mode = .errorActive → (ctlOf s.dev n).tec < 120 → (ctlOf s.dev n).rec_ < 128 →
    ∃ t, exec (.canTxEnd n .other tdc) s = .next { s with dev := t } ∧ (ctlOf t n).tec = (ctlOf s.dev n).tec + 8 ∧
    (ctlOf t n).errFr = (ctlOf s.dev n).errFr + 1 ∧ (canBuf t n b).pend = none) ∧
  (∀ (n tdc : Nat) (how : CanEnd) (s : State), (ctlOf s.dev n).sending = none → exec (.canTxEnd n how tdc) s = .next
    s) ∧
  (∀ (n b : Nat) (t : STime) (s : State), canFiring (bufRec s.dev n b) (nowD s.dev) = some t → b ≤ 14 → bufMode
    s.dev n b = 1 → t ≠ (canBuf s.dev n b).fired → created s.dev 0x0D 2 (16 * n + b) = true → (canBuf s.dev n
    b).data.isSome = true → canLive (ctlOf s.dev n) = true → ∃ u, exec (.periodicBufferFiring n b) s = .next
    { s with dev := u } ∧ (canBuf u n b).fired = t ∧ ((canBuf s.dev n b).pend = none → (canBuf u n b).pend = some t
    ∧ (ctlOf u n).late = (ctlOf s.dev n).late) ∧ ((canBuf s.dev n b).pend.isSome = true → (canBuf u n b).pend =
    (canBuf s.dev n b).pend ∧ (ctlOf u n).late = (ctlOf s.dev n).late + 1)) ∧
  (∀ (n b : Nat) (s : State), (bufMode s.dev n b ≠ 1 ∨ canFiring (bufRec s.dev n b) (nowD s.dev) = none) → exec
    (.periodicBufferFiring n b) s = .next s) ∧
  (∀ (n b : Nat) (t : STime) (s : State), (if b = 15 then (ctlOf s.dev n).queue.head?.map (·.launch) else if bufMode
    s.dev n b = 1 then (canBuf s.dev n b).pend else none) = some t → t ≠ 0 → t + msT 1 ≤ nowD s.dev → (canBuf s.dev
    n b).started = false → exec (.canTxLate n b) s = .next
    { s with dev := raise Ev.canTxLate [(1, n), (1, b)] (canIdle n b (modCtl n (fun c => { c with late := c.late + 1 }) s.dev)) }) ∧
  (∀ (n : Nat) (s : State), (ctlOf s.dev n).mode = .busOff → (canFlag s.dev n 5 = true ∨ (ctlOf s.dev n).recovering
    = true) → exec (.busOffRecoveryDone n) s = .next
    { s with dev := raise Ev.canErrorActive [(1, n)] (modCtl n (fun c => { c with mode := .errorActive, tec := 0, rec_ := 0, recovering := false }) s.dev) }) ∧
  (∀ (n : Nat) (s : State), ((ctlOf s.dev n).mode ≠ .busOff ∨ (canFlag s.dev n 5 = false ∧ (ctlOf s.dev
    n).recovering = false)) → exec (.busOffRecoveryDone n) s = .next s) ∧
  (∀ (n : Nat) (s : State), canFlag s.dev n 2 = true → canFlag s.dev n 3 = true → canLive (ctlOf s.dev n) = true →
    (ctlOf s.dev n).sending = none → nsT (fld 24 4 (canRec s.dev n)) ≠ 0 → nsT (fld 28 4 (canRec s.dev n)) ≤ nowD
    s.dev → s.dev.pai.standby = false → (ctlOf s.dev n).ttCycle ≠ some ((nowD s.dev - nsT (fld 28 4 (canRec s.dev
    n))) / nsT (fld 24 4 (canRec s.dev n))) → ∃ t, exec (.ttReferenceSend n) s = .next { s with dev := t } ∧ (ctlOf
    t n).sending = some 16 ∧ (ctlOf t n).ttRef = nowD s.dev ∧ (ctlOf t n).synced = true ∧ (ctlOf t n).ttCount =
    (nowD s.dev - nsT (fld 28 4 (canRec s.dev n))) / nsT (fld 24 4 (canRec s.dev n)) % max 1 (fld 20 1 (canRec s.dev
    n))) ∧
  (∀ (n : Nat) (s : State), (canFlag s.dev n 2 = false ∨ canFlag s.dev n 3 = false) → exec (.ttReferenceSend n) s =
    .next s) ∧
  (∀ (n : Nat) (t : STime) (s : State), (ctlOf s.dev n).refFrom = some t → canFlag s.dev n 2 = true → canFlag s.dev
    n 3 = false → (ctlOf s.dev n).mode ≠ .off → t + 2 * nsT (fld 24 4 (canRec s.dev n)) ≤ nowD s.dev → exec
    (.ttRefLost n) s = .next
    { s with dev := raise Ev.ttRefLost [(1, n), (1, (ctlOf s.dev n).ttCount)] (modCtl n (fun c => { c with synced := false, refFrom := none }) s.dev) }) ∧
  (∀ (n : Nat) (s : State), (ctlOf s.dev n).refFrom = none → exec (.ttRefLost n) s = .next s) ∧
  (∀ (n b : Nat) (s : State), b ≤ 14 → bufMode s.dev n b = 2 → created s.dev 0x0D 2 (16 * n + b) = true → (canBuf
    s.dev n b).pend = none → (ctlOf s.dev n).synced = true → (canBuf s.dev n b).served ≠ some (ctlOf s.dev n).ttRef
    → (ctlOf s.dev n).ttRef + usT (fld 28 2 (bufRec s.dev n b)) ≤ nowD s.dev → (ctlOf s.dev n).ttCount % max 1 (fld
    25 1 (bufRec s.dev n b)) = fld 24 1 (bufRec s.dev n b) → (canBuf s.dev n b).data.isSome = true → (ctlOf s.dev
    n).mode ≠ .off → (ctlOf s.dev n).mode ≠ .listenOnly → ∃ t, exec (.ttWindow n b) s = .next { s with dev := t } ∧
    (canBuf t n b).pend = some ((ctlOf s.dev n).ttRef + usT (fld 28 2 (bufRec s.dev n b))) ∧ (canBuf t n b).served =
    some (ctlOf s.dev n).ttRef) ∧
  (∀ (n b : Nat) (t : STime) (s : State), b ≤ 14 → bufMode s.dev n b = 2 → created s.dev 0x0D 2 (16 * n + b) = true
    → (canBuf s.dev n b).pend = some t → bit 3 (fld 0 1 (bufRec s.dev n b)) = false → t + usT (fld 30 2 (bufRec
    s.dev n b)) < nowD s.dev → (ctlOf s.dev n).sending ≠ some b → exec (.ttWindow n b) s = .next
    { s with dev := canIdle n b (modCtl n (fun c => { c with late := c.late + 1 }) s.dev) }) ∧
  (∀ (v : Nat) (s : State), s.dev.clk.held = none → exec (.canEnWrite v) s = .next
    { s with dev := { hazard 0xD0000 s.dev with can.en := v % 256 } }) ∧
  (∀ (n : Nat) (s : State), canPermitted s.dev n = true → (ctlOf s.dev n).mode = .off → (ctlOf s.dev n).sending =
    none → exec (.canBusIdle n) s = .next
    { s with dev := modCtl n (fun c => { c with mode := if canFlag s.dev n 4 || s.dev.pai.standby then .listenOnly else .errorActive, tec := 0, rec_ := 0, refFrom := some (nowD s.dev) }) s.dev }) ∧
  (∀ (n : Nat) (s : State), canPermitted s.dev n = false → (ctlOf s.dev n).mode ≠ .off → (ctlOf s.dev n).modeReq =
    none → (ctlOf s.dev n).sending = none → exec (.canBusIdle n) s = .next
    { s with dev := modCtl n (fun c => { c with mode := .off, modeReq := none, recovering := false, synced := false, refFrom := none }) s.dev }) ∧
  (∀ (n : Nat) (listen : Bool) (p : Pend) (s : State), canPermitted s.dev n = true → (ctlOf s.dev n).mode =
    .errorActive → (ctlOf s.dev n).sending = none → s.dev.pai.standby = false → (ctlOf s.dev n).modeReq = some
    (listen, some p) → exec (.canBusIdle n) s = .next
    { s with dev := finish p .ok 1 [] (modCtl n (fun c => { c with mode := if listen then .listenOnly else .errorActive, modeReq := none }) s.dev) }) ∧
  (∀ (d : Desc) (s : State), canStart d s.dev = true → d.target.toNat ≤ 127 → d.target.toNat % 16 ≠ 15 → created
    s.dev 0x0D 2 d.target.toNat = true → bufMode s.dev (d.target.toNat / 16) (d.target.toNat % 16) = 0 → (canBuf
    s.dev (d.target.toNat / 16) (d.target.toNat % 16)).pend = none → canLive (ctlOf s.dev (d.target.toNat / 16)) =
    true → d.buf.acc = .ok → badField
    { bufMin := dlcBytes (fld 4 4 (recNow s.dev 0x0D 2 d.target.toNat)) (fld 8 1 (recNow s.dev 0x0D 2 d.target.toNat)), bufMax := dlcBytes (fld 4 4 (recNow s.dev 0x0D 2 d.target.toNat)) (fld 8 1 (recNow s.dev 0x0D 2 d.target.toNat)) }
    [] d = none → ∃ t, exec (.canTxSet d) s = .next { s with dev := t } ∧ (canBuf t (d.target.toNat / 16)
    (d.target.toNat % 16)).pend = some 0 ∧ (canBuf t (d.target.toNat / 16) (d.target.toNat % 16)).data = some
    (d.buf.bytes.take (dlcBytes (fld 4 4 (recNow s.dev 0x0D 2 d.target.toNat)) (fld 8 1 (recNow s.dev 0x0D 2
    d.target.toNat)))) ∧ (ringOf t d.ring).halted = false) ∧
  (∀ (d : Desc) (s : State), canStart d s.dev = true → d.target.toNat ≤ 127 → d.target.toNat % 16 ≠ 15 → created
    s.dev 0x0D 2 d.target.toNat = true → bufMode s.dev (d.target.toNat / 16) (d.target.toNat % 16) ≠ 0 → canLive
    (ctlOf s.dev (d.target.toNat / 16)) = true → d.buf.acc = .ok → badField
    { bufMin := (dlcBytes (fld 4 4 (recNow s.dev 0x0D 2 d.target.toNat)) (fld 8 1 (recNow s.dev 0x0D 2 d.target.toNat))), bufMax := (dlcBytes (fld 4 4 (recNow s.dev 0x0D 2 d.target.toNat)) (fld 8 1 (recNow s.dev 0x0D 2 d.target.toNat))) }
    [] d = none → exec (.canTxSet d) s = .next
    { s with dev := completed d s.dev .ok 0 [] (modBuf (d.target.toNat / 16) (d.target.toNat % 16) (fun q => { q with data := some (d.buf.bytes.take (dlcBytes (fld 4 4 (recNow s.dev 0x0D 2 d.target.toNat)) (fld 8 1 (recNow s.dev 0x0D 2 d.target.toNat)))) }) (started d s.dev)) }) ∧
  (∀ (d : Desc) (s : State), canStart d s.dev = true → d.target.toNat ≤ 127 → d.target.toNat % 16 ≠ 15 → created
    s.dev 0x0D 1 (d.target.toNat / 16) = true → created s.dev 0x0D 2 d.target.toNat = true → badField plain [] d =
    none → (canBuf s.dev (d.target.toNat / 16) (d.target.toNat % 16)).pend.isSome = true → (ctlOf s.dev
    (d.target.toNat / 16)).sending ≠ some (d.target.toNat % 16) → exec (.canTxAbort d) s = .next
    { s with dev := completed d s.dev .ok 0 [] (modBuf (d.target.toNat / 16) (d.target.toNat % 16) (fun q => { q with pend := none, started := false }) (started d s.dev)) }) ∧
  (∀ (d : Desc) (s : State), canStart d s.dev = true → d.target.toNat ≤ 127 → d.target.toNat % 16 ≠ 15 → created
    s.dev 0x0D 1 (d.target.toNat / 16) = true → created s.dev 0x0D 2 d.target.toNat = true → badField plain [] d =
    none → (canBuf s.dev (d.target.toNat / 16) (d.target.toNat % 16)).pend.isSome = true → (ctlOf s.dev
    (d.target.toNat / 16)).sending = some (d.target.toNat % 16) → exec (.canTxAbort d) s = .next
    { s with dev := modRing d.ring (fun r => { r with busy := true }) (modCtl (d.target.toNat / 16) (fun c => { c with aborts := c.aborts ++ [pendOf d s.dev] }) (started d s.dev)) }) ∧
  (∀ (d : Desc) (s : State), canStart d s.dev = true → d.target.toNat ≤ 7 → badField plain [] d = none → (ctlOf
    s.dev d.target.toNat).mode = .busOff → exec (.canRecover d) s = .next
    { s with dev := completed d s.dev .ok 0 [] (modCtl d.target.toNat (fun c => { c with recovering := true }) (started d s.dev)) }) ∧
  (∀ (d : Desc) (s : State), canStart d s.dev = true → d.target.toNat ≤ 7 → badField plain [] d = none → (ctlOf
    s.dev d.target.toNat).mode ≠ .busOff → exec (.canRecover d) s = .next
    { s with dev := completed d s.dev .rejectedState 0 [] (started d s.dev) }) ∧
  (∀ (d : Desc) (s : State), canStart d s.dev = true → d.target.toNat ≤ 7 → badField { pmask := 1 } [(1 <
    d.p0.toNat, 24)] d = none → (ctlOf s.dev d.target.toNat).mode ≠ .off → s.dev.pai.standby = false → (ctlOf s.dev
    d.target.toNat).modeReq = none → exec (.canSetMode d) s = .next
    { s with dev := modRing d.ring (fun r => { r with busy := true }) (modCtl d.target.toNat (fun c => { c with modeReq := some (d.p0 == 1, some (pendOf d s.dev)) }) (started d s.dev)) }) ∧
  (∀ (d : Desc) (s : State), canStart d s.dev = true → d.target.toNat ≤ 7 → badField { pmask := 1 } [(512 ≤
    d.p0.toNat, 24)] d = none → exec (.canClearCounters d) s = .next
    { s with dev := completed d s.dev .ok 0 [] (modCtl d.target.toNat (fun c => { c with txFr := clr d.p0.toNat 0 c.txFr, rxFr := clr d.p0.toNat 1 c.rxFr, errFr := clr d.p0.toNat 2 c.errFr, noMatch := clr d.p0.toNat 3 c.noMatch, rxDrop := clr d.p0.toNat 4 c.rxDrop, short := clr d.p0.toNat 5 c.short, late := clr d.p0.toNat 6 c.late, alone := clr d.p0.toNat 7 c.alone, coll := clr d.p0.toNat 8 c.coll }) (started d s.dev)) }) ∧
  (∀ (d : Desc) (s : State), canStart d s.dev = true → 128 ≤ d.target.toNat → exec (.canTxSet d) s = .next
    { s with dev := completed d s.dev .notFound 0 [] (started d s.dev) } ∧ exec (.canTxAbort d) s = .next
    { s with dev := completed d s.dev .notFound 0 [] (started d s.dev) } ∧ exec (.canRecover d) s = .next
    { s with dev := completed d s.dev .notFound 0 [] (started d s.dev) } ∧ exec (.canSetMode d) s = .next
    { s with dev := completed d s.dev .notFound 0 [] (started d s.dev) } ∧ exec (.canClearCounters d) s = .next
    { s with dev := completed d s.dev .notFound 0 [] (started d s.dev) })

/-- A channel samples at most once in t_SAMP; a first sample latches the contacts, the feedbacks, inverted in B, and
the discrepancies; a contact level is accepted after FILT_US and not earlier. Without a discrepancy the time-out
changes nothing; one longer than DISC_MS latches, raises SAF_DISCREPANCY and is counted. In INIT and SAFE_FAULT no
cycle runs; a channel that is in begins its first cycle, and ends one that is 1 ms old and begins the next, the shown
channel then being shown. A cycle that ends while Belfry is not live leaves its gates low, else those requested and
allowed. A function goes to DEMAND at once, and out of it only by RESET_WAIT where manual and by the reset. A test
pulse that is not due changes nothing; of two levels it notes its time and one that is not seen off latches
OUTPUT_FAULT, which takes both gates low, its request, and is counted; so does a feedback that disagrees beyond FB_MS.
A CRC fault ends in SAFE_FAULT with every gate low; a fault of A in RUN with B not in demand degrades to B; any fault
while degraded, and T_DEG, end in SAFE_FAULT. INIT ends in SAFE_FAULT, UNCONFIGURED or RUN. A producer that is off,
barred or without the link sends nothing; one that has never sent sends and takes a SEQ. A safe frame with nothing
received, of another port, or of a consumer is handled so; a copy with a bad CRC counts, the first good one is taken.
A consumer silent on both LANs goes to FAULT, on one to SINGLE, and SINGLE ends after T_DEG. Under conditions on state
and operands alone these complete: safInputSample, discrepancyTimeout, safetyCycle, testPulse, feedbackTimeout,
channelFault, degradedTimeout, safInitDone, safeFrameProduce, safeFrameReceive, sfWatchdogTimeout, singleLanTimeout.
(R543, R548, R549, R552, R560, R561, R562, R570, R572, R574, R575, R576) -/
def Obligations.BelfryActs : Prop :=
  (∀ (b : Bool) (contacts fb t : Nat) (s : State), (safChan s.dev b).sampledAt = some t → s.dev.tim.ck < t + 49000 →
    exec (.safInputSample b contacts fb) s = .next s) ∧
  (∀ (b : Bool) (contacts fb : Nat) (s : State), (safChan s.dev b).sampledAt = none → exec (.safInputSample b
    contacts fb) s = .next
    { s with dev := discrepancies (modChanSaf b (fun k => { (List.range 16).foldl (sampleContact s.dev.tim.ck s.dev.saf.cfg contacts) k with sampledAt := some s.dev.tim.ck, fb := if b then 0xFF - fb % 256 else fb % 256 }) s.dev) }) ∧
  (∀ (ck n levels t : Nat) (cfg : List Byte) (k : SafChan), bit n levels ≠ bit n k.acc → tfind k.since n = some t →
    (t + fld 2 2 (scIn cfg n) * 1000 ≤ ck → bit n (sampleContact ck cfg levels k n).acc = bit n levels) ∧ (ck < t +
    fld 2 2 (scIn cfg n) * 1000 → sampleContact ck cfg levels k n = k)) ∧
  (∀ (ck n levels : Nat) (cfg : List Byte) (k : SafChan), bit n levels ≠ bit n k.acc → tfind k.since n = none →
    (sampleContact ck cfg levels k n).acc = k.acc ∧ (sampleContact ck cfg levels k n).since = tset k.since n ck) ∧
  (∀ (n : Nat) (s : State), tfind s.dev.saf.discAt n = none → exec (.discrepancyTimeout n) s = .next s) ∧
  (∀ (n t : Nat) (s : State), tfind s.dev.saf.discAt n = some t → bit n s.dev.saf.disc = false → t + fld 4 2 (scIn
    s.dev.saf.cfg n) * 1000000 < s.dev.tim.ck → exec (.discrepancyTimeout n) s = .next
    { s with dev := raise Ev.safDiscrepancy [(1, n), (1, flag 0 (bit n s.dev.saf.a.acc) + flag 1 (bit n s.dev.saf.b.acc))] { s.dev with saf.disc := putBit n true s.dev.saf.disc, saf.discSeen := putBit n false s.dev.saf.discSeen, saf.discCnt := s.dev.saf.discCnt + 1 } }) ∧
  (∀ (b : Bool) (s : State), (s.dev.saf.mode = .init ∨ s.dev.saf.mode = .safeFault) → exec (.safetyCycle b) s =
    .next s) ∧
  (∀ (b : Bool) (s : State), safLive s.dev = true → chanOut s.dev b = false → (safChan s.dev b).cycleAt = none →
    exec (.safetyCycle b) s = .next
    { s with dev := if b = chanOut (beginCycle b s.dev) false then safShow (beginCycle b s.dev) else beginCycle b s.dev }) ∧
  (∀ (b : Bool) (t : Nat) (s : State), safLive s.dev = true → chanOut s.dev b = false → (safChan s.dev b).cycleAt =
    some t → t + 980000 ≤ s.dev.tim.ck → exec (.safetyCycle b) s = .next
    { s with dev := if b = chanOut (beginCycle b (endCycle b s.dev)) false then safShow (beginCycle b (endCycle b s.dev)) else beginCycle b (endCycle b s.dev) }) ∧
  (∀ (b : Bool) (s : Device), safLive s = false → (safChan (endCycle b s) b).gates = 0) ∧
  (∀ (b : Bool) (s : Device), safLive s = true → s.pai.standby = false → (safChan (endCycle b s) b).gates = (if
    s.saf.clearReq then 0 else s.saf.req) &&& (safChan s b).stage.gates ∧ (endCycle b s).saf.clearReq = false) ∧
  (∀ (s : Device) (b reset : Bool) (okAt : Tab Nat) (f : Nat), fnType (safChan s b).cfg f ≠ 3 → (fnDemand s b f =
    true → (fnNext s b reset okAt f).1.mode = .demand) ∧ (fnDemand s b f = false → (fnOf (safChan s b) f).mode =
    .demand → (fnNext s b reset okAt f).1.mode = if fnManual (safChan s b).cfg f then .resetWait else .permit) ∧
    (fnDemand s b f = false → (fnOf (safChan s b) f).mode = .resetWait → (fnNext s b reset okAt f).1.mode = if reset
    then .permit else .resetWait) ∧ (fnDemand s b f = false → (fnOf (safChan s b) f).mode = .permit → (fnNext s b
    reset okAt f).1.mode = .permit)) ∧
  (∀ (n : Nat) (low off on_ : Bool) (s : State), tfind s.dev.saf.pulseAt (2 * n + flag 0 low) = none → exec
    (.testPulse n low off on_) s = .next s) ∧
  (∀ (n t : Nat) (low : Bool) (s : State), n ≤ 7 → tfind s.dev.saf.pulseAt (2 * n + flag 0 low) = some t → bit n
    s.dev.saf.energised = true → t + fld 6 2 (scOut s.dev.saf.cfg n) * 1000000 ≤ s.dev.tim.ck → exec (.testPulse n
    low true true) s = .next
    { s with dev := modChanSaf low (fun k => { k with changed := tset k.changed n s.dev.tim.ck }) { s.dev with saf.pulseAt := tset s.dev.saf.pulseAt (2 * n + flag 0 low) s.dev.tim.ck } }
    ∧ exec (.testPulse n low false true) s = .next
    { s with dev := latchOutputFault n low 2 (modChanSaf low (fun k => { k with changed := tset k.changed n s.dev.tim.ck }) { s.dev with saf.pulseAt := tset s.dev.saf.pulseAt (2 * n + flag 0 low) s.dev.tim.ck }) }) ∧
  (∀ (n : Nat) (low : Bool) (s : State), n ≤ 7 → safLive s.dev = true → pulseDue s.dev n low = false → outOn
    s.dev.saf.cfg n = true → bit n s.dev.saf.outFault = false → bit n (safChan s.dev low).fb ≠ bit n (safChan s.dev
    low).gates → tget (safChan s.dev low).changed n 0 + fld 2 2 (scOut s.dev.saf.cfg n) * 1000 < s.dev.tim.ck → exec
    (.feedbackTimeout n low) s = .next { s with dev := latchOutputFault n low 1 s.dev }) ∧
  (∀ (n : Nat) (low : Bool) (s : State), bit n (safChan s.dev low).fb = bit n (safChan s.dev low).gates → exec
    (.feedbackTimeout n low) s = .next s) ∧
  (∀ (n cause : Nat) (low : Bool) (s : Device), bit n (latchOutputFault n low cause s).saf.outFault = true ∧ bit n
    (latchOutputFault n low cause s).saf.a.gates = false ∧ bit n (latchOutputFault n low cause s).saf.b.gates =
    false ∧ bit n (latchOutputFault n low cause s).saf.req = false ∧ (latchOutputFault n low cause s).saf.outFlt =
    s.saf.outFlt + 1) ∧
  (∀ (s : State), s.dev.saf.mode = .run → ∃ t, exec (.channelFault 6 0) s = .next { s with dev := t } ∧ t.saf.mode =
    .safeFault ∧ t.saf.cause = 6 ∧ t.saf.attr = 0xE ∧ t.saf.a.gates = 0 ∧ t.saf.b.gates = 0 ∧ t.saf.energised = 0) ∧
  (∀ (s : State), s.dev.saf.mode = .run → inDemandNow s.dev true = false → ∃ t, exec (.channelFault 1 0) s = .next
    { s with dev := t } ∧ t.saf.mode = .degradedB ∧ t.saf.attr = 0 ∧ t.saf.degUntil = s.dev.tim.ck + scTDeg
    s.dev.saf.cfg * 1000000000 ∧ t.saf.a.gates = s.dev.saf.a.gates) ∧
  (∀ (s : State), (s.dev.saf.mode = .degradedA ∨ s.dev.saf.mode = .degradedB) → ∃ t, exec (.channelFault 2 1) s =
    .next { s with dev := t } ∧ t.saf.mode = .safeFault ∧ t.saf.a.gates = 0 ∧ t.saf.b.gates = 0 ∧ t.saf.req = 0) ∧
  (∀ (s : State), (s.dev.saf.mode = .degradedA ∨ s.dev.saf.mode = .degradedB) → s.dev.saf.degUntil ≤ s.dev.tim.ck →
    exec .degradedTimeout s = .next { s with dev := safState .safeFault 0 s.dev }) ∧
  (∀ (s : State), (s.dev.saf.mode ≠ .degradedA ∧ s.dev.saf.mode ≠ .degradedB) → exec .degradedTimeout s = .next s) ∧
  (∀ (s : State), s.dev.saf.mode = .init → (tfind s.dev.sec.boot 2).isSome = true → (tfind s.dev.sec.boot 3).isSome
    = true → exec (.safInitDone false) s = .next { s with dev := safState .safeFault 0 s.dev } ∧ exec (.safInitDone
    true) s = .next
    { s with dev := if s.dev.saf.cfg.isEmpty then safState .unconfigured 0 (pendingCrcs s.dev) else safState .run 0 (startConsumers (pendingCrcs s.dev)) }) ∧
  (∀ (p : Nat) (s : State), (safLive s.dev = false ∨ s.dev.pai.standby = true ∨ s.dev.btr.linkUp = false) → exec
    (.safeFrameProduce p) s = .next s) ∧
  (∀ (p : Nat) (s : State), bit 0 (fld 0 1 (scProd s.dev.saf.cfg p)) = true → safLive s.dev = true →
    s.dev.pai.standby = false → s.dev.btr.spireUp = true → s.dev.btr.linkUp = true → (tget s.dev.saf.prods p
    {}).sentAt = none → ∃ t, exec (.safeFrameProduce p) s = .next { s with dev := t } ∧ (tget t.saf.prods p {}).seq
    = (tget s.dev.saf.prods p {}).seq + 1 ∧ (tget t.saf.prods p {}).sentAt = some s.dev.tim.ck ∧ t.saf.a =
    s.dev.saf.a ∧ t.saf.b = s.dev.saf.b) ∧
  (∀ (s : State), s.dev.saf.rx = [] → exec .safeFrameReceive s = .next s) ∧
  (∀ (k : Nat) (lanB : Bool) (b : List Byte) (s : Device), fld 0 1 b = 0x11 → (fld 24 4 b ≠ (crc32c (b.take
    24)).toNat → consumeCopy k lanB b s = sfBad k 1 s) ∧ (fld 24 4 b = (crc32c (b.take 24)).toNat → fld 28 4 b ≠
    (crc32e (b.take 24)).toNat → consumeCopy k lanB b s = sfBad k 2 s)) ∧
  (∀ (k : Nat) (lanB : Bool) (b : List Byte) (s : Device), fld 0 1 b = 0x11 → fld 24 4 b = (crc32c (b.take
    24)).toNat → fld 28 4 b = (crc32e (b.take 24)).toNat → (consOf s k).last = none → (consOf (consumeCopy k lanB b
    s) k).bits = fld 12 4 b ∧ (consOf (consumeCopy k lanB b s) k).last = some (fld 8 4 b, lanB, b.take 24)) ∧
  (∀ (f : RxFrame) (rest : List RxFrame) (s : State), s.dev.saf.rx = f :: rest → f.port / 2 * 2 ≠ scPort
    s.dev.saf.cfg → exec .safeFrameReceive s = .next { s with dev := { s.dev with saf.rx := rest } }) ∧
  (∀ (k : Nat) (f : RxFrame) (rest : List RxFrame) (s : State), s.dev.saf.rx = f :: rest → f.port / 2 * 2 = scPort
    s.dev.saf.cfg → s.dev.saf.cfg ≠ [] → (List.range 16).find? (fun k => (consOf s.dev k).mode != .off && fld 2 4
    (scCons s.dev.saf.cfg k) == fld 2 4 ((f.bytes.drop (bodyAt f.bytes)).take 32) && ((scCons s.dev.saf.cfg k).drop
    8).take 6 == f.bytes.take 6) = some k → exec .safeFrameReceive s = .next
    { s with dev := consumeCopy k (f.port % 2 == 1) ((f.bytes.drop (bodyAt f.bytes)).take 32) (trackProducer ((f.bytes.drop (bodyAt f.bytes)).take 32) { s.dev with saf.rx := rest }) }) ∧
  (∀ (k : Nat) (s : State), ((consOf s.dev k).mode = .dual ∨ (consOf s.dev k).mode = .single) → lanSilent s.dev k
    false = true → lanSilent s.dev k true = true → exec (.sfWatchdogTimeout k) s = .next
    { s with dev := raise Ev.sfTimeout [(1, k)] (modCons k (fun q => { q with mode := .fault, bits := 0 }) { s.dev with saf.sfTimeout := s.dev.saf.sfTimeout + 1 }) }) ∧
  (∀ (k : Nat) (s : State), (consOf s.dev k).mode = .dual → lanSilent s.dev k false = false → lanSilent s.dev k true
    = true → exec (.sfWatchdogTimeout k) s = .next
    { s with dev := raise Ev.sfLanSingle [(1, k), (1, 1)] (modCons k (fun q => { q with mode := .single, singleAt := s.dev.tim.ck, missingB := true }) s.dev) }) ∧
  (∀ (k : Nat) (s : State), lanSilent s.dev k false = false → lanSilent s.dev k true = false → exec
    (.sfWatchdogTimeout k) s = .next s) ∧
  (∀ (k : Nat) (s : State), (consOf s.dev k).mode = .single → (consOf s.dev k).singleAt + scTDeg s.dev.saf.cfg *
    1000000000 ≤ s.dev.tim.ck → exec (.singleLanTimeout k) s = .next
    { s with dev := modCons k (fun q => { q with mode := .fault, bits := 0 }) s.dev }) ∧
  (∀ (k : Nat) (s : State), (consOf s.dev k).mode ≠ .single → exec (.singleLanTimeout k) s = .next s)

/-- With nothing pending the time-out changes nothing; a pending configuration is discarded after 60 s and not
earlier. In a descriptor that may start with its fields in order, with no bad sector of the store named:
SAF_LOAD_CONFIG with the access it needs, no output energised and Belfry past INIT, of a whole image without a fault,
stores it as pending with its CRCs where CRC and signature hold, and leaves Belfry as it was where they do not;
without that access it completes with AUTH_REQUIRED. SAF_CONFIRM of a pending configuration within 60 s, with no
output energised and its CRCs given, puts it in force; with none pending it completes with NOT_FOUND. SAF_SET_REQUEST
of outputs that every function permits, while live and no standby, sets their request bits and completes OK with those
before; otherwise than live it completes with REJECTED_STATE. SAF_FAULT_RESET of a latched output whose feedbacks read
off clears it, and of a consumer in FAULT served on both LANs puts it in DUAL; both complete OK. SAF_CLEAR_COUNTERS
zeroes the counters of its mask and completes OK. Under conditions on state and operands alone these complete:
confirmTimeout, safLoadConfig, safConfirm, safSetRequest, safFaultReset, safClearCounters. (R57, R64, R71, R558, R559,
R562, R572, R579, R580, R581, R586) -/
def Obligations.BelfryCommands : Prop :=
  (∀ (s : State), s.dev.saf.pend = none → exec .confirmTimeout s = .next s) ∧
  (∀ (c : List Byte) (t : Nat) (s : State), s.dev.saf.pend = some (c, t) → (t + 60000000000 < s.dev.tim.ck → exec
    .confirmTimeout s = .next
    { s with dev := raise Ev.safConfig [(4, fld 12 4 c), (1, 2)] { s.dev with saf.pend := none, saf.pcrcA := 0, saf.pcrcB := 0 } })
    ∧ (s.dev.tim.ck ≤ t + 60000000000 → exec .confirmTimeout s = .next s)) ∧
  (∀ (d : Desc) (s : State), canStart d s.dev = true → d.bad.filter storeSector = [] → badField
    { target := false, bufMax := 16777216 } [] d = none → needMaint (started d s.dev) = false → s.dev.saf.energised
    = 0 → (s.dev.saf.mode ≠ .init ∧ s.dev.saf.mode ≠ .safeFault) → d.buf.acc = .ok → d.bufLen.toNat =
    d.buf.bytes.length → fld 0 4 d.buf.bytes = 0x46535A4B → fld 4 2 d.buf.bytes = 1 → headerFault d.buf.bytes =
    false → configFault d.buf.bytes = none → ∃ t, exec (.safLoadConfig d) s = .next { s with dev := t } ∧ (fld 16 4
    d.buf.bytes = (crc32c ((d.buf.bytes.drop 64).take 1312)).toNat → fld 20 4 d.buf.bytes = (crc32e
    ((d.buf.bytes.drop 64).take 1312)).toNat → sigFault (started d s.dev) d.buf.bytes 1376 2 4 = none → t.saf.pend =
    some (d.buf.bytes, s.dev.tim.ck) ∧ t.saf.pcrcA = fld 16 4 d.buf.bytes ∧ t.saf.pcrcB = fld 20 4 d.buf.bytes ∧
    t.saf.cfg = s.dev.saf.cfg) ∧ (fld 16 4 d.buf.bytes ≠ (crc32c ((d.buf.bytes.drop 64).take 1312)).toNat ∨ sigFault
    (started d s.dev) d.buf.bytes 1376 2 4 ≠ none → t.saf = s.dev.saf)) ∧
  (∀ (d : Desc) (s : State), canStart d s.dev = true → badField { target := false, bufMax := 16777216 } [] d = none
    → needMaint (started d s.dev) = true → exec (.safLoadConfig d) s = .next
    { s with dev := completed d s.dev .authRequired 0 [] (started d s.dev) }) ∧
  (∀ (d : Desc) (c : List Byte) (t : Nat) (s : State), canStart d s.dev = true → d.bad.filter storeSector = [] →
    badField { target := false, pmask := 7 } [] d = none → needMaint (started d s.dev) = false → s.dev.saf.pend =
    some (c, t) → s.dev.tim.ck ≤ t + 60000000000 → s.dev.saf.energised = 0 → confirmOffence d s.dev c = none → ∃ u,
    exec (.safConfirm d) s = .next { s with dev := u } ∧ u.saf.cfg = c ∧ u.saf.pend = none ∧ u.saf.req = 0 ∧
    u.saf.disc = 0 ∧ u.saf.mode = (if s.dev.saf.mode = .unconfigured then .run else s.dev.saf.mode)) ∧
  (∀ (d : Desc) (s : State), canStart d s.dev = true → badField { target := false, pmask := 7 } [] d = none →
    needMaint (started d s.dev) = false → s.dev.saf.pend = none → exec (.safConfirm d) s = .next
    { s with dev := completed d s.dev .notFound 0 [] (started d s.dev) }) ∧
  (∀ (d : Desc) (s : State), canStart d s.dev = true → badField { target := false, pmask := 3 } [(256 ≤ d.p0.toNat,
    24), (256 ≤ d.p1.toNat, 28)] d = none → safLive s.dev = true → s.dev.pai.standby = false → (List.range 8).all
    (fun n => !(bit n d.p0.toNat && bit n d.p1.toNat) || requestOk s.dev n) = true → exec (.safSetRequest d) s =
    .next
    { s with dev := completed d s.dev .ok s.dev.saf.req [] { started d s.dev with saf.req := (List.range 8).foldl (fun r n => if bit n d.p0.toNat then putBit n (bit n d.p1.toNat) r else r) s.dev.saf.req } }) ∧
  (∀ (d : Desc) (s : State), canStart d s.dev = true → badField { target := false, pmask := 3 } [(256 ≤ d.p0.toNat,
    24), (256 ≤ d.p1.toNat, 28)] d = none → (safLive s.dev = false ∨ s.dev.pai.standby = true) → exec
    (.safSetRequest d) s = .next { s with dev := completed d s.dev .rejectedState 0 [] (started d s.dev) }) ∧
  (∀ (d : Desc) (s : State), canStart d s.dev = true → d.p0 = 0 → d.target.toNat ≤ 7 → badField { pmask := 1 } [(1 <
    d.p0.toNat, 24)] d = none → bit d.target.toNat s.dev.saf.outFault = true → bit d.target.toNat s.dev.saf.a.fb =
    false → bit d.target.toNat s.dev.saf.b.fb = false → ∃ t, exec (.safFaultReset d) s = .next
    { s with dev := completed d s.dev .ok 0 [] t } ∧ t.saf.outFault = putBit d.target.toNat false s.dev.saf.outFault
    ∧ t.saf.a.gates = s.dev.saf.a.gates ∧ t.saf.b.gates = s.dev.saf.b.gates ∧ t.saf.req = s.dev.saf.req ∧ t.saf.cons
    = s.dev.saf.cons) ∧
  (∀ (d : Desc) (s : State), canStart d s.dev = true → d.p0 = 1 → d.target.toNat ≤ 15 → badField { pmask := 1 } [(1
    < d.p0.toNat, 24)] d = none → (consOf s.dev d.target.toNat).mode = .fault → lanSilent s.dev d.target.toNat false
    = false → lanSilent s.dev d.target.toNat true = false → exec (.safFaultReset d) s = .next
    { s with dev := completed d s.dev .ok 0 [] (modCons d.target.toNat (fun q => { q with mode := .dual }) (started d s.dev)) }) ∧
  (∀ (d : Desc) (s : State), canStart d s.dev = true → badField { target := false, pmask := 1 } [(64 ≤ d.p0.toNat,
    24)] d = none → exec (.safClearCounters d) s = .next
    { s with dev := completed d s.dev .ok 0 [] { started d s.dev with saf := { (started d s.dev).saf with demands := clr d.p0.toNat 0 s.dev.saf.demands, discCnt := clr d.p0.toNat 1 s.dev.saf.discCnt, outFlt := clr d.p0.toNat 2 s.dev.saf.outFlt, sfBad := clr d.p0.toNat 3 s.dev.saf.sfBad, sfMismatch := clr d.p0.toNat 4 s.dev.saf.sfMismatch, sfTimeout := clr d.p0.toNat 5 s.dev.saf.sfTimeout } } })

/-- A heartbeat is sent at each multiple of 100 µs, not in OFF, on every lane up, with a SEQ; silent lanes are
counted. A sound one received on a lane that is up is taken as the latest of the peer; one that yields, or 1 ms
without any, makes a SYNCED device take over and draw the fence. With the fence done, what was received is drained and
the image asked for; not done in 100 µs, the device is ORPHAN; with the image restored it is ACTIVE, counts a takeover
and leaves its safety gates. PR_FENCED_N asserted is noted and fences an ACTIVE device, which leaves RUNNING and its
safety channels as they are. An acknowledgement frees its packet; a packet received before is only acknowledged, the
next is acknowledged and delivered; one unacknowledged for 20 µs is sent again and counted. A lane comes up once, and
goes down without losing packets. A command that waited its time for an acknowledgement completes OK and the pair is
resynchronised. A claim is after 20 µs refused to unit 1 while the peer is active, and makes a LOADED device ACTIVE
and RUNNING. Listening ends in a claim where no ACTIVE peer is heard. A SYNCED device long enough in reset yields. A
switch-over that waited 20 s completes with TIMEOUT. What is not due or not asked changes nothing. In a descriptor
that may start with its fields in order: PAI_JOIN of an ORPHAN device that hears a matching ACTIVE peer is JOINING;
PAI_SWITCHOVER of a RUNNING synced device stays in progress; PAI_LEAVE of a receiving device is LISTEN; PAI_READ_PEER
and PAI_CLEAR_COUNTERS complete OK. Under conditions on state and operands alone these complete: heartbeatSend,
heartbeatReceive, heartbeatLoss, takeoverFenceDone, fenceTimeout, takeoverEnable, prFencedNAssert, pairPacketReceive,
pairRetransmitTimeout, paiLaneDown, paiLaneUp, syncAckTimeout, claimWaitExpiry, powerUpListenExpiry, yieldTimeout,
paiJoin, paiSwitchover, switchoverTimeout, paiLeave, paiReadPeer, paiClearCounters. (R57, R625, R626, R628, R629,
R630, R631, R634, R635, R637, R640, R643) -/
def Obligations.PairsKeepTogether : Prop :=
  (∀ (s : State), (s.dev.pai.mode = .off ∨ nowD s.dev / usT 100 * usT 100 ≤ s.dev.pai.sentAt) → exec .heartbeatSend
    s = .next s) ∧
  (∀ (s : State), s.dev.pai.mode ≠ .off → s.dev.pai.sentAt < nowD s.dev / usT 100 * usT 100 → s.dev.pai.switch =
    none → exec .heartbeatSend s = .next
    { s with dev := { s.dev with pai.sentAt := nowD s.dev / usT 100 * usT 100, pai.seq := s.dev.pai.seq + 1, pai.hbMiss := s.dev.pai.hbMiss + BitVec.ofNat 32 (([0, 1].filter (fun l => bit l s.dev.pai.lanes)).countP (fun l => tget s.dev.pai.laneBeat l 0 + 100000 < s.dev.tim.ck)), out := s.dev.out ++ ([0, 1].filter (fun l => bit l s.dev.pai.lanes)).map (fun l => Out.beat l (beatBytes s.dev)) } }) ∧
  (∀ (lane : Nat) (b : List Byte) (pact fenced : Bool) (s : State), (bit lane s.dev.pai.lanes = false ∨ b.length ≠
    32 ∨ fld 28 4 b ≠ (crc32c (b.take 28)).toNat) → exec (.heartbeatReceive lane b pact fenced) s = .next s) ∧
  (∀ (lane : Nat) (b : List Byte) (pact fenced : Bool) (s : State), lane ≤ 1 → bit lane s.dev.pai.lanes = true →
    b.length = 32 → fld 28 4 b = (crc32c (b.take 28)).toNat → s.dev.pai.mode ≠ .off → exec (.heartbeatReceive lane b
    pact fenced) s = .next
    { s with dev := beatActs { s.dev with pai.peer := some { bytes := b, at_ := nowD s.dev, ck := s.dev.tim.ck }, pai.laneBeat := tset s.dev.pai.laneBeat lane s.dev.tim.ck, pai.pact := pact, pai.fenced := s.dev.pai.fenced && fenced } }) ∧
  (∀ (s : Device), s.pai.mode = .synced → s.pai.peerState = 2 → (bit 3 (fld 1 1 ((s.pai.peer.map (·.bytes)).getD
    [])) = true → (beatActs s).pai.mode = .takeover ∧ (beatActs s).pai.fence = true) ∧ (bit 3 (fld 1 1
    ((s.pai.peer.map (·.bytes)).getD [])) = false → beatActs s = s)) ∧
  (∀ (pact : Bool) (b : PeerBeat) (s : State), s.dev.pai.peer = some b → s.dev.tim.ck < b.ck + 1000000 → exec
    (.heartbeatLoss pact) s = .next s) ∧
  (∀ (pact : Bool) (b : PeerBeat) (s : State), s.dev.pai.peer = some b → b.ck + 1000000 ≤ s.dev.tim.ck →
    s.dev.pai.mode = .synced → s.dev.pai.lanes % 4 ≠ 0 → ∃ t, exec (.heartbeatLoss pact) s = .next
    { s with dev := t } ∧ t.pai.mode = .takeover ∧ t.pai.fence = true ∧ t.pai.tk = some (s.dev.tim.ck, false, false)
    ∧ t.pai.pact = pact ∧ t.saf = s.dev.saf) ∧
  (∀ (s : State), (s.dev.pai.mode ≠ .takeover ∨ s.dev.pai.tk = none) → exec .takeoverFenceDone s = .next s ∧ exec
    .fenceTimeout s = .next s ∧ exec .takeoverEnable s = .next s) ∧
  (∀ (t : Nat) (x : Bool) (s : State), s.dev.pai.mode = .takeover → s.dev.pai.tk = some (t, false, x) → ∃ u, exec
    .takeoverFenceDone s = .next { s with dev := u } ∧ u.pai.tk = some (t, true, false) ∧ u.pai.pact = false ∧
    u.pai.mode = .takeover ∧ u.kep.phase = .image ∧ u.kep.journal = [] ∧ u.kep.askedAt = s.dev.tim.ck) ∧
  (∀ (t : Nat) (x : Bool) (s : State), s.dev.pai.mode = .takeover → s.dev.pai.tk = some (t, false, x) →
    (s.dev.tim.ck < t + 100000 → exec .fenceTimeout s = .next s) ∧ (t + 100000 ≤ s.dev.tim.ck → exec .fenceTimeout s
    = .next
    { s with dev := raise Ev.paiFenceFail [(4, (s.dev.tim.ck - t) / 1000)] (paiState .orphan { s.dev with pai.pact := true, pai.tk := none, pai.fence := false }) })) ∧
  (∀ (t : Nat) (x : Bool) (s : State), s.dev.pai.mode = .takeover → s.dev.pai.tk = some (t, true, x) →
    s.dev.kep.phase = .resume → ∃ u, exec .takeoverEnable s = .next { s with dev := u } ∧ u.pai.mode = .active ∧
    u.pai.tk = none ∧ u.pai.takeovers = s.dev.pai.takeovers + 1 ∧ u.pai.yield = false ∧ u.saf.a.gates =
    s.dev.saf.a.gates ∧ u.saf.b.gates = s.dev.saf.b.gates) ∧
  (∀ (s : State), s.dev.pai.mode ≠ .active → exec .prFencedNAssert s = .next
    { s with dev := { s.dev with pai.fenced := true } }) ∧
  (∀ (s : State), s.dev.pai.mode = .active → ∃ t, exec .prFencedNAssert s = .next { s with dev := t } ∧ t.pai.mode =
    .fenced ∧ t.pai.fenced = true ∧ t.pai.shipping = false ∧ (s.dev.cfg.mode = .running → t.cfg.mode = .loaded) ∧
    t.saf.a = s.dev.saf.a ∧ t.saf.b = s.dev.saf.b) ∧
  (∀ (lane : Nat) (q : Nat) (m : Option PairMsg) (acks : List Nat) (s : State), bit lane s.dev.pai.lanes = false →
    exec (.pairPacketReceive lane (some (q, m)) acks true) s = .next s) ∧
  (∀ (lane : Nat) (packet : Option (Nat × Option PairMsg)) (acks : List Nat) (s : State), exec (.pairPacketReceive
    lane packet acks false) s = .next s) ∧
  (∀ (lane q : Nat) (t : PairTx) (s : State), lane ≤ 1 → bit lane s.dev.pai.lanes = true → s.dev.pai.tx.find? (fun t
    => t.seq == q) = some t → t.tag = .other → exec (.pairPacketReceive lane none [q] true) s = .next
    { s with dev := { s.dev with pai.tx := s.dev.pai.tx.filter (fun t => t.seq != q) } }) ∧
  (∀ (lane q : Nat) (m : Option PairMsg) (s : State), lane ≤ 1 → bit lane s.dev.pai.lanes = true → q <
    s.dev.pai.rxNext → exec (.pairPacketReceive lane (some (q, m)) [] true) s = .next
    { s with dev := { s.dev with out := s.dev.out ++ [.pairAck lane q] } }) ∧
  (∀ (lane : Nat) (v : List Nat) (i a b : Nat) (s : State), lane ≤ 1 → bit lane s.dev.pai.lanes = true →
    s.dev.pai.rxBuf = [] → exec (.pairPacketReceive lane (some (s.dev.pai.rxNext, some (.info v i a b))) [] true) s
    = .next
    { s with dev := { s.dev with out := s.dev.out ++ [.pairAck lane s.dev.pai.rxNext], pai.rxNext := s.dev.pai.rxNext + 1, pai.peerInfo := some (v, i, a, b) } }) ∧
  (∀ (q : Nat) (s : State), s.dev.pai.tx.find? (fun t => t.seq == q) = none → exec (.pairRetransmitTimeout q) s =
    .next s) ∧
  (∀ (q : Nat) (t : PairTx) (s : State), s.dev.pai.tx.find? (fun t => t.seq == q) = some t → t.sentAt + 20000 ≤
    s.dev.tim.ck → bit t.lane s.dev.pai.lanes = true → s.dev.pai.lanes % 4 ≠ 0 → exec (.pairRetransmitTimeout q) s =
    .next
    { s with dev := { s.dev with pai.tx := s.dev.pai.tx.map (fun u => if u.seq = q then { u with lane := t.lane, sentAt := s.dev.tim.ck } else u), pai.retx := s.dev.pai.retx + 1, out := s.dev.out ++ [.pair t.lane q t.payload] } }) ∧
  (∀ (l : Nat) (s : State), l ≤ 1 → bit l s.dev.pai.lanes = true → exec (.paiLaneUp l) s = .next s) ∧
  (∀ (l : Nat) (s : State), l ≤ 1 → bit l s.dev.pai.lanes = true → ∃ t, exec (.paiLaneDown l) s = .next
    { s with dev := t } ∧ t.pai.lanes = s.dev.pai.lanes - 2 ^ l ∧ t.pai.tx = s.dev.pai.tx) ∧
  (∀ (l : Nat) (s : State), l ≤ 1 → bit l s.dev.pai.lanes = false → s.dev.pai.lanes % 4 ≠ 0 → exec (.paiLaneDown l)
    s = .next s ∧ exec (.paiLaneUp l) s = .next
    { s with dev := { s.dev with pai.lanes := s.dev.pai.lanes + 2 ^ l, pai.laneBeat := tset s.dev.pai.laneBeat l s.dev.tim.ck } }) ∧
  (∀ (s : State), s.dev.cfg.staging = [] → s.dev.pai.waits = [] → exec .syncAckTimeout s = .next s) ∧
  (∀ (w : SyncWait) (s : State), s.dev.cfg.staging = [] → s.dev.pai.waits = [w] → w.till ≤ s.dev.tim.ck → exec
    .syncAckTimeout s = .next
    { s with dev := finish w.pend .ok w.detail [] { resync 1 s.dev with pai.waits := [] } }) ∧
  (∀ (pact : Bool) (s : State), s.dev.pai.claim = none → exec (.claimWaitExpiry pact) s = .next s) ∧
  (∀ (t : Nat) (p : Pend) (s : State), s.dev.pai.claim = some (some p, t) → t + 20000 ≤ s.dev.tim.ck → pairUnit
    s.dev = 1 → exec (.claimWaitExpiry true) s = .next
    { s with dev := finish p .rejectedState 0 [] { s.dev with pai.claim := none, pai.pact := true } }) ∧
  (∀ (t : Nat) (p : Pend) (s : State), s.dev.pai.claim = some (some p, t) → t + 20000 ≤ s.dev.tim.ck →
    s.dev.btr.spireUp = true → s.dev.cfg.mode = .loaded → exec (.claimWaitExpiry false) s = .next
    { s with dev := finish p .ok (goRunning (paiState .active { s.dev with pai.claim := none, pai.pact := false })).cfg.version [] (goRunning (paiState .active { s.dev with pai.claim := none, pai.pact := false })) }) ∧
  (∀ (s : State), s.dev.pai.listenUntil = none → exec .powerUpListenExpiry s = .next s) ∧
  (∀ (t : Nat) (s : State), s.dev.pai.listenUntil = some t → (s.dev.tim.ck < t → exec .powerUpListenExpiry s = .next
    s) ∧ (t ≤ s.dev.tim.ck → s.dev.pai.mode = .listen → activePeer s.dev = false → exec .powerUpListenExpiry s =
    .next { s with dev := { s.dev with pai.listenUntil := none, pai.claim := some (none, s.dev.tim.ck) } })) ∧
  (∀ (t : Nat) (s : State), s.dev.pai.resetAt = some t → t + yieldMs s.dev * 1000000 ≤ s.dev.tim.ck →
    s.dev.pai.synced = true → exec .yieldTimeout s = .next { s with dev := { s.dev with pai.yield := true } }) ∧
  (∀ (s : State), (s.dev.pai.resetAt = none ∨ s.dev.pai.synced = false) → exec .yieldTimeout s = .next s) ∧
  (∀ (d : Desc) (s : State), canStart d s.dev = true → badField { target := false } [] d = none → pairEn s.dev =
    true → s.dev.pai.mode = .orphan → activePeer s.dev = true → s.dev.pai.claim = none → joinCheck (started d s.dev)
    = 0 → exec (.paiJoin d) s = .next
    { s with dev := completed d s.dev .ok 0 [] (paiState .joining { started d s.dev with pai.check := 0, pai.listenUntil := none, pai.gotConfig := false, pai.gotImage := false }) }) ∧
  (∀ (d : Desc) (s : State), canStart d s.dev = true → badField { target := false } [] d = none → (s.dev.pai.mode =
    .active ∨ s.dev.pai.mode = .synced) → exec (.paiJoin d) s = .next
    { s with dev := completed d s.dev .rejectedState 0 [] (started d s.dev) }) ∧
  (∀ (d : Desc) (s : State), canStart d s.dev = true → badField { target := false } [] d = none → needMaint (started
    d s.dev) = false → s.dev.pai.synced = true → s.dev.cfg.mode = .running → s.dev.pai.switch = none → exec
    (.paiSwitchover d) s = .next
    { s with dev := modRing d.ring (fun r => { r with busy := true }) { started d s.dev with pai.switch := some (pendOf d s.dev, s.dev.tim.ck, none) } }) ∧
  (∀ (s : State), s.dev.pai.switch = none → exec .switchoverTimeout s = .next s) ∧
  (∀ (p : Pend) (t : Nat) (e : Option Nat) (s : State), s.dev.pai.switch = some (p, t, e) → t + 20000000 ≤
    s.dev.tim.ck → s.dev.pai.yield = false → exec .switchoverTimeout s = .next
    { s with dev := finish p .timeout 0 [] { s.dev with pai.switch := none } }) ∧
  (∀ (d : Desc) (s : State), canStart d s.dev = true → badField { target := false } [] d = none → (s.dev.pai.mode =
    .joining ∨ s.dev.pai.mode = .synced) → exec (.paiLeave d) s = .next
    { s with dev := completed d s.dev .ok 0 [] (paiState .listen (started d s.dev)) }) ∧
  (∀ (d : Desc) (b : PeerBeat) (s : State), canStart d s.dev = true → badField
    { target := false, bufMin := 64, bufMax := 16777216 } [] d = none → s.dev.pai.peer = some b → exec (.paiReadPeer
    d) s = .next
    { s with dev := completed d s.dev .ok s.dev.pai.peerState (padTo 64 (b.bytes.take 32 ++ le 8 (b.at_ / 256) ++ le 4 s.dev.pai.check)) (started d s.dev) }) ∧
  (∀ (d : Desc) (s : State), canStart d s.dev = true → s.dev.pai.peer = none → exec (.paiReadPeer d) s = .next
    { s with dev := completed d s.dev .notFound 0 [] (started d s.dev) }) ∧
  (∀ (d : Desc) (s : State), canStart d s.dev = true → badField { target := false, pmask := 1 } [(32 ≤ d.p0.toNat,
    24)] d = none → exec (.paiClearCounters d) s = .next
    { s with dev := completed d s.dev .ok 0 [] { started d s.dev with pai.hbMiss := clr d.p0.toNat 0 s.dev.pai.hbMiss, pai.retx := clr d.p0.toNat 1 s.dev.pai.retx, pai.resyncs := clr d.p0.toNat 2 s.dev.pai.resyncs, pai.takeovers := clr d.p0.toNat 3 s.dev.pai.takeovers, pai.lastTk := clrN d.p0.toNat 4 s.dev.pai.lastTk } })

/-- In a descriptor that may start with its fields in order: SEC_CHALLENGE outside a lockout issues a fresh nonce and
completes OK, and in one completes with REJECTED_STATE. SEC_OPEN with a valid nonce consumes it and opens the scope
its response proves, or completes with DATA_ERROR and counts; SEC_OPEN_PW does so with the password for MAINT; the
third and later failures lock out for a doubled time. SEC_CLOSE closes the scopes of its mask and completes OK with
those it closed. SEC_QUOTE and SEC_READ_IDENTITY write signed records and complete OK. SEC_FW_STAGE with its window
and the access it needs, its activity admitted, begins the staging; without the window it completes with NOT_FOUND.
SEC_SVN_COMMIT of a kind that runs from TRIAL commits it and raises its counter. SEC_PROVISION with the PROVISION
scope revokes a key slot that may be revoked and completes OK; without the scope it completes with AUTH_REQUIRED.
Scopes expire at their time and nonces after 60 s, not earlier; a lockout ends at its time. Staging with none under
way or less received than announced changes nothing; without its window it fails; an image received whole ends it, and
written and verified stands in TRIAL. The six TAP instructions that take the pins act only with the TEST scope, CFG
not RUNNING and no safety output energised, and DEBUG_ACCESS only with the DEBUG scope; refused they act as BYPASS and
are counted. IDCODE, SAMPLE_PRELOAD and the lock instructions act as Table SEC-8 says, and an undefined code acts as
BYPASS. Under conditions on state and operands alone these complete: secChallenge, secOpen, secOpenPw, secClose,
scopeExpiry, nonceExpiry, lockoutExpiry, secQuote, secReadIdentity, secFwStage, fwStageDone, secSvnCommit,
secProvision, extest, intest, extestPulse, extestTrain, clamp, highz, idcode, samplePreload, lockChallenge,
lockResponse, lockStatus, debugAccess, bypass. (R752, R763, R765, R766, R768, R769, R770, R771, R772, R773, R774, R57)
-/
def Obligations.SecurityAndTap : Prop :=
  (∀ (d : Desc) (s : State), canStart d s.dev = true → badField { bufMin := 32, bufMax := 16777216 } [(3 <
    d.target.toNat, 8)] d = none → s.dev.sec.lockUntil ≤ s.dev.tim.ck → exec (.secChallenge d) s = .next
    { s with dev := completed d s.dev .ok 0 (issueNonce (started d s.dev)).1 (issueNonce (started d s.dev)).2 }) ∧
  (∀ (s : Device), (issueNonce s).1.length = 32 ∧ (issueNonce s).2.sec.nonce = some ((issueNonce s).1, s.tim.ck) ∧
    (issueNonce s).2.draws = s.draws + 1 ∧ (issueNonce s).2.sec.scopes = s.sec.scopes) ∧
  (∀ (d : Desc) (s : State), canStart d s.dev = true → badField { bufMin := 32, bufMax := 16777216 } [(3 <
    d.target.toNat, 8)] d = none → s.dev.tim.ck < s.dev.sec.lockUntil → exec (.secChallenge d) s = .next
    { s with dev := completed d s.dev .rejectedState (lockLeft s.dev) [] (started d s.dev) }) ∧
  (∀ (d : Desc) (v : List Byte) (s : State), canStart d s.dev = true → badField
    { target := false, bufMin := 3088, bufMax := 16777216 } [] d = none → d.buf.acc = .ok → s.dev.sec.lockUntil ≤
    s.dev.tim.ck → validNonce s.dev = some v → fld 4 4 d.buf.bytes ≠ 0 → fld 4 4 d.buf.bytes ≤ maxOpenS s.dev →
    (responseOk (started d s.dev) v d.buf.bytes = true → exec (.secOpen d) s = .next
    { s with dev := completed d s.dev .ok (fld 4 4 d.buf.bytes) [] (openScope (fld 0 1 d.buf.bytes) 0 (fld 4 4 d.buf.bytes) { started d s.dev with sec.nonce := none }) })
    ∧ (responseOk (started d s.dev) v d.buf.bytes = false → exec (.secOpen d) s = .next
    { s with dev := finish (pendOf d s.dev) .dataError 0 [] (openFails (fld 0 1 d.buf.bytes) 0 { started d s.dev with sec.nonce := none }) })) ∧
  (∀ (k m dur : Nat) (s : Device), 0 < dur → scopeOpen (openScope k m dur s) k = true ∧ (openScope k m dur
    s).sec.fails = 0 ∧ (openScope k m dur s).sec.otp = s.sec.otp) ∧
  (∀ (k m : Nat) (s : Device), 2 ≤ s.sec.fails → s.sec.fails < 255 → (openFails k m s).sec.fails = s.sec.fails + 1 ∧
    (openFails k m s).sec.lockUntil = s.tim.ck + min (2 ^ (s.sec.fails - 2)) 86400 * 1000000000 ∧ (openFails k m
    s).sec.scopes = s.sec.scopes) ∧
  (∀ (d : Desc) (s : State), canStart d s.dev = true → badField { target := false, pmask := 0x1F } [(d.p4.toNat = 0
    || maxOpenS s.dev < d.p4.toNat, 40)] d = none → (passwordHash s.dev).isSome = true → s.dev.sec.lockUntil ≤
    s.dev.tim.ck → (passwordHash s.dev = some (shake256 32 (deviceId ++ [d.p0, d.p1, d.p2, d.p3].flatMap (fun w =>
    le 4 w.toNat))) → exec (.secOpenPw d) s = .next
    { s with dev := completed d s.dev .ok d.p4.toNat [] (openScope 2 1 d.p4.toNat (started d s.dev)) }) ∧
    (passwordHash s.dev ≠ some (shake256 32 (deviceId ++ [d.p0, d.p1, d.p2, d.p3].flatMap (fun w => le 4 w.toNat)))
    → exec (.secOpenPw d) s = .next
    { s with dev := finish (pendOf d s.dev) .dataError 0 [] (openFails 2 1 (started d s.dev)) })) ∧
  (∀ (d : Desc) (s : State), canStart d s.dev = true → badField { target := false, pmask := 1 } [(15 < d.p0.toNat,
    24)] d = none → exec (.secClose d) s = .next
    { s with dev := completed d s.dev .ok (([0, 1, 2, 3].map (fun k => flag k (bit k d.p0.toNat && (tfind s.dev.sec.scopes k).isSome))).sum) [] (closeScopes d.p0.toNat 2 (started d s.dev)) }) ∧
  (∀ (m cause k : Nat) (s : Device), k ≤ 3 → tfind (closeScopes m cause s).sec.scopes k = (if bit k m then none else
    tfind s.sec.scopes k)) ∧
  (∀ (k till : Nat) (s : State), tfind s.dev.sec.scopes k = some till → (till ≤ s.dev.tim.ck → exec (.scopeExpiry k)
    s = .next { s with dev := closeScopes (2 ^ k) 1 s.dev }) ∧ (s.dev.tim.ck < till → exec (.scopeExpiry k) s =
    .next s)) ∧
  (∀ (v : List Byte) (t : Nat) (s : State), s.dev.sec.nonce = some (v, t) → (t + 60000000000 ≤ s.dev.tim.ck → exec
    .nonceExpiry s = .next { s with dev := { s.dev with sec.nonce := none } }) ∧ (s.dev.tim.ck < t + 60000000000 →
    exec .nonceExpiry s = .next s)) ∧
  (∀ (s : State), exec .lockoutExpiry s = .next
    { s with dev := if s.dev.tim.ck < s.dev.sec.lockUntil then s.dev else { s.dev with sec.lockUntil := 0 } }) ∧
  (∀ (d : Desc) (s : State), canStart d s.dev = true → badField
    { target := false, pmask := 0xFF, bufMin := 1544, bufMax := 16777216 } [] d = none → exec (.secQuote d) s =
    .next
    { s with dev := completed d s.dev .ok 1544 (quoteHead (started d s.dev) ((pwords d).flatMap (fun w => le 4 w.toNat)) ++ sigField 6 (Config.falconSign (draw (started d s.dev)).1 (quoteHead (started d s.dev) ((pwords d).flatMap (fun w => le 4 w.toNat))))) (draw (started d s.dev)).2 }) ∧
  (∀ (d : Desc) (s : State), canStart d s.dev = true → badField
    { target := false, bufMin := 3104, bufMax := 16777216 } [] d = none → exec (.secReadIdentity d) s = .next
    { s with dev := completed d s.dev .ok 3104 identityRecord (started d s.dev) }) ∧
  (∀ (d : Desc) (s : State), canStart d s.dev = true → (windowOf s.dev 0x1701).isSome = true → badField
    { pmask := 1 } [(d.target.toNat = 0 || 3 < d.target.toNat, 8), (d.p0 = 0 || maxImage d.target.toNat <
    d.p0.toNat, 24)] d = none → needMaint (started d s.dev) = false → refusal 6 0 0 (started d s.dev) = none → ∃ t,
    exec (.secFwStage d) s = .next { s with dev := t } ∧ t.sec.staging = some (d.target.toNat, d.p0.toNat) ∧ (ringOf
    t d.ring).halted = false ∧ t.spr.acts.length = s.dev.spr.acts.length + 1) ∧
  (∀ (d : Desc) (s : State), canStart d s.dev = true → windowOf s.dev 0x1701 = none → exec (.secFwStage d) s = .next
    { s with dev := completed d s.dev .notFound 0 [] (started d s.dev) }) ∧
  (∀ (written : Bool) (s : State), s.dev.sec.staging = none → exec (.fwStageDone written) s = .next s) ∧
  (∀ (written : Bool) (kind len : Nat) (s : State), s.dev.sec.staging = some (kind, len) → windowOf s.dev 0x1701 =
    none → exec (.fwStageDone written) s = .next { s with dev := stageBad s.dev }) ∧
  (∀ (written : Bool) (kind len w : Nat) (s : State), s.dev.sec.staging = some (kind, len) → windowOf s.dev 0x1701 =
    some w → (winOf s.dev w).bad = false → ((winOf s.dev w).rx.map List.length).sum < len → exec (.fwStageDone
    written) s = .next s) ∧
  (∀ (kind len w : Nat) (img : List Byte) (s : State), s.dev.sec.staging = some (kind, len) → windowOf s.dev 0x1701
    = some w → (winOf s.dev w).bad = false → len ≤ ((winOf s.dev w).rx.map List.length).sum → (imageOf 0x1701
    { p0 := BitVec.ofNat 32 len } s.dev).1 = some img → ∃ t, exec (.fwStageDone true) s = .next { s with dev := t }
    ∧ t.sec.staging = none ∧ ∀ n, bootFault (imageOf 0x1701 { p0 := BitVec.ofNat 32 len } s.dev).2 kind img = none →
    stageSlot (imageOf 0x1701 { p0 := BitVec.ofNat 32 len } s.dev).2 kind = some n → flashState t kind n = 2 ∧
    t.sec.gen = s.dev.sec.gen + 1) ∧
  (∀ (d : Desc) (s : State), canStart d s.dev = true → badField {} [(d.target.toNat = 0 || 3 < d.target.toNat, 8)] d
    = none → needMaint (started d s.dev) = false → (bootUse s.dev d.target.toNat).trial = true → ∃ t, exec
    (.secSvnCommit d) s = .next { s with dev := t } ∧ (bootUse t d.target.toNat).trial = false ∧ tget t.sec.otp.svn
    (d.target.toNat - 1) 0 = max (tget s.dev.sec.otp.svn (d.target.toNat - 1) 0) (min 64 (bootUse s.dev
    d.target.toNat).svn) ∧ tfind t.sec.rollback d.target.toNat = none) ∧
  (∀ (d : Desc) (s : State), canStart d s.dev = true → scopeOpen (started d s.dev) 3 = true → d.target.toNat = 1 →
    d.p0.toNat ≤ 15 → badField { pmask := 1 } [] d = none → d.buf.acc = .ok → (3 < d.p0.toNat ∨ keyUsable s.dev
    d.p0.toNat = false ∨ otherBoot s.dev d.p0.toNat = true) → exec (.secProvision d) s = .next
    { s with dev := completed d s.dev .ok 0 [] { started d s.dev with sec.otp.revoked := s.dev.sec.otp.revoked ||| 2 ^ d.p0.toNat } }) ∧
  (∀ (d : Desc) (s : State), canStart d s.dev = true → d.target.toNat = 2 → d.p0.toNat ≤ 3 → badField
    { pmask := 1, bufMin := 32, bufMax := 32 } [] d = none → scopeOpen (started d s.dev) 3 = false → exec
    (.secProvision d) s = .next { s with dev := completed d s.dev .authRequired 0 [] (started d s.dev) }) ∧
  (∀ (s : State), exec .extest s = .next
    { s with dev := if pinsFree s.dev then { s.dev with tst.ir := 0x00, tst.bypassed := false } else tapRefuse 0x00 s.dev }) ∧
  (∀ (s : State), exec .intest s = .next
    { s with dev := if pinsFree s.dev then { s.dev with tst.ir := 0x03, tst.bypassed := false } else tapRefuse 0x03 s.dev }) ∧
  (∀ (s : State), exec .extestPulse s = .next
    { s with dev := if pinsFree s.dev then { s.dev with tst.ir := 0x04, tst.bypassed := false } else tapRefuse 0x04 s.dev }) ∧
  (∀ (s : State), exec .extestTrain s = .next
    { s with dev := if pinsFree s.dev then { s.dev with tst.ir := 0x05, tst.bypassed := false } else tapRefuse 0x05 s.dev }) ∧
  (∀ (s : State), exec .clamp s = .next
    { s with dev := if pinsFree s.dev then { s.dev with tst.ir := 0x06, tst.bypassed := false } else tapRefuse 0x06 s.dev }) ∧
  (∀ (s : State), exec .highz s = .next
    { s with dev := if pinsFree s.dev then { s.dev with tst.ir := 0x07, tst.bypassed := false } else tapRefuse 0x07 s.dev }) ∧
  (∀ (code : Nat) (s : Device), (tapRefuse code s).tst.bypassed = true ∧ (tapRefuse code s).tst.refused =
    s.tst.refused + 1 ∧ (tapRefuse code s).saf = s.saf ∧ (tapRefuse code s).dio = s.dio) ∧
  (∀ (s : State), exec .idcode s = .next
    { s with dev := { s.dev with tst.ir := 0x01, tst.bypassed := false, out := s.dev.out ++ [.tap 0x01 idcodeValue] } }
    ∧ idcodeValue / 4096 % 65536 = 0x9680 ∧ idcodeValue % 2 = 1) ∧
  (∀ (sampled shifted : Nat) (s : State), exec (.samplePreload sampled shifted) s = .next
    { s with dev := { s.dev with tst.ir := 0x02, tst.bypassed := false, tst.bsr := shifted % 2 ^ 648, out := s.dev.out ++ [.tap 0x02 (sampled % 2 ^ 648)] } }) ∧
  (∀ (s : State), s.dev.btr.spireUp = true → s.dev.sec.lockUntil ≤ s.dev.tim.ck → ∃ t, exec .lockChallenge s = .next
    { s with dev := t } ∧ t.tst.ir = 0x10 ∧ t.sec.nonce.map (·.2) = some s.dev.tim.ck ∧ t.sec.scopes =
    s.dev.sec.scopes) ∧
  (∀ (b : List Byte) (s : State), s.dev.btr.spireUp = true → exec (.lockResponse b) s = .next
    { s with dev := (respond (padTo 3088 b) { s.dev with tst.ir := 0x11, tst.bypassed := false }).2.2 }) ∧
  (∀ (s : State), exec .lockStatus s = .next
    { s with dev := { s.dev with tst.ir := 0x12, tst.bypassed := false, out := s.dev.out ++ [.tap 0x12 (secScope s.dev)] } }) ∧
  (∀ (s : State), exec .debugAccess s = .next
    { s with dev := if scopeOpen s.dev 0 then { s.dev with tst.ir := 0x20, tst.bypassed := false } else tapRefuse 0x20 s.dev }) ∧
  (∀ (s : State), exec (.bypass 0xFF) s = .next
    { s with dev := { s.dev with tst.ir := 0xFF, tst.bypassed := false } }) ∧
  (∀ (code : Nat) (s : State), tapCodes.contains (code % 256) = false → code % 256 ≠ 0xFF → exec (.bypass code) s =
    .next { s with dev := { s.dev with tst.ir := code % 256, tst.bypassed := true } })

/-- After reset no command waits; the registers read as their tables give: the HIF page although the Spire die is
down, the others with the die up; CFG is UNCONFIGURED, working time UNSET, the pair OFF, Belfry in INIT with every
gate low, rings, windows and the event ring disabled. (R747, R736, R575, R627) -/
def Obligations.ResetLeaves : Prop :=
  (State.reset.pending = [] ∧ SafeOff State.reset ∧ QueueOk State.reset) ∧
  ([(0x0, 0x96800100), (0x20, 0x31), (0x108, 0x22000), (0x1FD0, 0), (0x1FC, 0), (0x117C, 0), (0xB8000, 0x20),
    (0x120004, 1), (0x120008, 0x10000), (0x138004, 0xF0F), (0x180000, 3), (0x180004, 0x7FFF), (0x180018, 0x56E),
    (0x190004, 0xFF), (0x19000C, 0x288), (0x50000, 0), (0xE0000, 0), (0x100000, 0)].all (fun e => readReg e.1
    State.reset.dev == e.2) = true) ∧
  (∀ (d : Device), d = { State.reset.dev with btr.spireUp := true } → [(0x10000, 0), (0x1001C, 0x800000), (0x1002C,
    2000), (0x20008, 0xFFFF), (0x2000C, 0x30000), (0x20034, 10), (0x3000C, 0x3FFFF), (0x40004, 0x76543210),
    (0x40008, 0x100), (0x150004, 0x3F), (0x150020, 0x11212), (0x150024, 0x1004080), (0x160024, 0xFFFFF), (0x161000,
    0x8380), (0x161190, 0x11380)].all (fun e => readReg e.1 d == e.2) = true ∧ ∀ n, n < 32 → readReg (0x1010 + 0x40
    * n) d = n * 0x100) ∧
  (State.reset.dev.cfg.mode = .unconfigured ∧ State.reset.dev.tim.mode = .unset ∧ State.reset.dev.pai.mode = .off ∧
    State.reset.dev.saf.mode = .init ∧ State.reset.dev.saf.a.gates = 0 ∧ State.reset.dev.saf.b.gates = 0 ∧
    State.reset.dev.hif.evqEnable = false ∧ State.reset.dev.fbl.control = false ∧ ∀ n, (ringOf State.reset.dev
    n).enable = false ∧ (ctlOf State.reset.dev n).mode = .off)

/-- If in INIT, UNCONFIGURED and SAFE_FAULT both channels hold every safety gate low and no output stands as
energised, then the same holds after every step, whatever the command: resets, restarts, takeovers, faults and every
command of every other block. (R557, R574, R575, R584, R585) -/
def Obligations.SafeOffKept : Prop :=
  ∀ (s t : State), SafeOff s → step s = .next t → SafeOff t

/-- A command descriptor of any block other than SAF, whatever its operands and whatever the state, leaves all of
Belfry as it was. (R545, R546) -/
def Obligations.OthersCannotDrive : Prop :=
  ∀ (opcode : Nat) (got : List SlotRead) (bad : List Nat) (p : Pend) (s t : Device), opcode / 256 ≠ 0x0E → (match
    commandBody got bad opcode p s with | .done _ _ _ u => u = t | .wait u => u = t) → t.saf = s.saf
end

