-- ==== Sys2Proof/Laws/Dispatch.lean ====
section
/-!
SUPPORT. Laws/Dispatch.lean: exec of each constructor is its meaning.
-/
namespace Sys2Proof.Laws
open Sys2Proof.Machine

theorem exec_ringDoorbell (n : Nat) (b : BusWrite) (s : State) :
    exec (.ringDoorbell n b) s = execRingDoorbell n b s := rfl
theorem exec_eventRingDoorbell (b : BusWrite) (s : State) :
    exec (.eventRingDoorbell b) s = execEventRingDoorbell b s := rfl
theorem exec_windowDoorbell (n : Nat) (b : BusWrite) (segs : List HostSeg) (s : State) :
    exec (.windowDoorbell n b segs) s = execWindowDoorbell n b segs s := rfl
theorem exec_descriptorFetch (n : Nat) (got : List SlotRead) (s : State) :
    exec (.descriptorFetch n got) s = execDescriptorFetch n got s := rfl
theorem exec_commandDispatch (buf : HostBuf) (got : List SlotRead) (bad : List Nat) (s : State) :
    exec (.commandDispatch buf got bad) s = execCommandDispatch buf got bad s := rfl
theorem exec_unsupportedOpcode (d : Desc) (s : State) :
    exec (.unsupportedOpcode d) s = execUnsupportedOpcode d s := rfl
theorem exec_nop (d : Desc) (s : State) :
    exec (.nop d) s = execNop d s := rfl
theorem exec_ringResume (d : Desc) (got : List SlotRead) (s : State) :
    exec (.ringResume d got) s = execRingResume d got s := rfl
theorem exec_windowBind (d : Desc) (s : State) :
    exec (.windowBind d) s = execWindowBind d s := rfl
theorem exec_windowRelease (d : Desc) (s : State) :
    exec (.windowRelease d) s = execWindowRelease d s := rfl
theorem exec_qresumeContinue (n : Nat) (s : State) :
    exec (.qresumeContinue n) s = execQresumeContinue n s := rfl
theorem exec_qresumeFlush (n : Nat) (got : List SlotRead) (s : State) :
    exec (.qresumeFlush n got) s = execQresumeFlush n got s := rfl
theorem exec_ringEnable (n v : Nat) (s : State) :
    exec (.ringEnable n v) s = execRingEnable n v s := rfl
theorem exec_ringDisable (n v : Nat) (s : State) :
    exec (.ringDisable n v) s = execRingDisable n v s := rfl
theorem exec_eventRingEnable (v : Nat) (s : State) :
    exec (.eventRingEnable v) s = execEventRingEnable v s := rfl
theorem exec_eventRingDisable (v : Nat) (s : State) :
    exec (.eventRingDisable v) s = execEventRingDisable v s := rfl
theorem exec_windowConfigWrite (n : Nat) (b : BusWrite) (s : State) :
    exec (.windowConfigWrite n b) s = execWindowConfigWrite n b s := rfl
theorem exec_hifStatusRead (s : State) :
    exec .hifStatusRead s = execHifStatusRead s := rfl
theorem exec_registerWrite (sp : HostSpace) (b : BusWrite) (s : State) :
    exec (.registerWrite sp b) s = execRegisterWrite sp b s := rfl
theorem exec_msixVectorUnmask (v : Nat) (s : State) :
    exec (.msixVectorUnmask v) s = execMsixVectorUnmask v s := rfl
theorem exec_interruptCoalesceTimeout (v : Nat) (s : State) :
    exec (.interruptCoalesceTimeout v) s = execInterruptCoalesceTimeout v s := rfl
theorem exec_eventDelivery (s : State) :
    exec .eventDelivery s = execEventDelivery s := rfl
theorem exec_segmentHandback (n : Nat) (s : State) :
    exec (.segmentHandback n) s = execSegmentHandback n s := rfl
theorem exec_windowFlushTimeout (n : Nat) (s : State) :
    exec (.windowFlushTimeout n) s = execWindowFlushTimeout n s := rfl
theorem exec_pcieLinkDown (why : LinkLoss) (ltssm lost : Nat) (s : State) :
    exec (.pcieLinkDown why ltssm lost) s = execPcieLinkDown why ltssm lost s := rfl
theorem exec_perstNAssert (ltssm lost : Nat) (s : State) :
    exec (.perstNAssert ltssm lost) s = execPerstNAssert ltssm lost s := rfl
theorem exec_pcieD3hotEntry (s : State) :
    exec .pcieD3hotEntry s = execPcieD3hotEntry s := rfl
theorem exec_cfgLoadBase (d : Desc) (s : State) :
    exec (.cfgLoadBase d) s = execCfgLoadBase d s := rfl
theorem exec_cfgRun (d : Desc) (s : State) :
    exec (.cfgRun d) s = execCfgRun d s := rfl
theorem exec_cfgStop (d : Desc) (s : State) :
    exec (.cfgStop d) s = execCfgStop d s := rfl
theorem exec_cfgOverlayLoad (d : Desc) (s : State) :
    exec (.cfgOverlayLoad d) s = execCfgOverlayLoad d s := rfl
theorem exec_cfgOverlayArm (d : Desc) (s : State) :
    exec (.cfgOverlayArm d) s = execCfgOverlayArm d s := rfl
theorem exec_overlayStagingDone (s : State) :
    exec .overlayStagingDone s = execOverlayStagingDone s := rfl
theorem exec_stageGuardTimeout (s : State) :
    exec .stageGuardTimeout s = execStageGuardTimeout s := rfl
theorem exec_cfgOverlayDisarm (d : Desc) (s : State) :
    exec (.cfgOverlayDisarm d) s = execCfgOverlayDisarm d s := rfl
theorem exec_cfgOverlayDelete (d : Desc) (s : State) :
    exec (.cfgOverlayDelete d) s = execCfgOverlayDelete d s := rfl
theorem exec_cfgReadRecord (d : Desc) (s : State) :
    exec (.cfgReadRecord d) s = execCfgReadRecord d s := rfl
theorem exec_cfgCommit (s : State) :
    exec .cfgCommit s = execCfgCommit s := rfl
theorem exec_versionRecordExpiry (s : State) :
    exec .versionRecordExpiry s = execVersionRecordExpiry s := rfl
theorem exec_tokenArrival (source slot operand : Nat) (s : State) :
    exec (.tokenArrival source slot operand) s = execTokenArrival source slot operand s := rfl
theorem exec_firingDispatch (s : State) :
    exec .firingDispatch s = execFiringDispatch s := rfl
theorem exec_primaryWaitExpiry (slot : Nat) (s : State) :
    exec (.primaryWaitExpiry slot) s = execPrimaryWaitExpiry slot s := rfl
theorem exec_freshWaitExpiry (slot : Nat) (s : State) :
    exec (.freshWaitExpiry slot) s = execFreshWaitExpiry slot s := rfl
theorem exec_dptTick (s : State) :
    exec .dptTick s = execDptTick s := rfl
theorem exec_loopEvaluation (lane : Nat) (s : State) :
    exec (.loopEvaluation lane) s = execLoopEvaluation lane s := rfl
theorem exec_laneError (l check : Nat) (s : State) :
    exec (.laneError l check) s = execLaneError l check s := rfl
theorem exec_epochBoundary (s : State) :
    exec .epochBoundary s = execEpochBoundary s := rfl
theorem exec_epochMarkerTimeout (source slot operand : Nat) (s : State) :
    exec (.epochMarkerTimeout source slot operand) s = execEpochMarkerTimeout source slot operand s := rfl
theorem exec_taskCapture (slot : Nat) (s : State) :
    exec (.taskCapture slot) s = execTaskCapture slot s := rfl
theorem exec_dptCutReport (s : State) :
    exec .dptCutReport s = execDptCutReport s := rfl
theorem exec_dptCutPending (slot : Nat) (s : State) :
    exec (.dptCutPending slot) s = execDptCutPending slot s := rfl
theorem exec_disabledTaskOperandExpiry (slot : Nat) (s : State) :
    exec (.disabledTaskOperandExpiry slot) s = execDisabledTaskOperandExpiry slot s := rfl
theorem exec_dptReadTask (d : Desc) (s : State) :
    exec (.dptReadTask d) s = execDptReadTask d s := rfl
theorem exec_dptClearCounters (d : Desc) (s : State) :
    exec (.dptClearCounters d) s = execDptClearCounters d s := rfl
theorem exec_dptCheckLoad (d : Desc) (s : State) :
    exec (.dptCheckLoad d) s = execDptCheckLoad d s := rfl
theorem exec_lpeSetMode (d : Desc) (s : State) :
    exec (.lpeSetMode d) s = execLpeSetMode d s := rfl
theorem exec_lpeSetCoef (d : Desc) (s : State) :
    exec (.lpeSetCoef d) s = execLpeSetCoef d s := rfl
theorem exec_lpeSetLimit (d : Desc) (s : State) :
    exec (.lpeSetLimit d) s = execLpeSetLimit d s := rfl
theorem exec_lpeSetSp (d : Desc) (s : State) :
    exec (.lpeSetSp d) s = execLpeSetSp d s := rfl
theorem exec_lpeSetOutput (d : Desc) (s : State) :
    exec (.lpeSetOutput d) s = execLpeSetOutput d s := rfl
theorem exec_lpeReadState (d : Desc) (s : State) :
    exec (.lpeReadState d) s = execLpeReadState d s := rfl
theorem exec_lpeClearCounters (d : Desc) (s : State) :
    exec (.lpeClearCounters d) s = execLpeClearCounters d s := rfl
theorem exec_lpeLaneEnWrite (b : BusWrite) (s : State) :
    exec (.lpeLaneEnWrite b) s = execLpeLaneEnWrite b s := rfl
theorem exec_ltnTraceSet (d : Desc) (s : State) :
    exec (.ltnTraceSet d) s = execLtnTraceSet d s := rfl
theorem exec_ltnTraceArm (d : Desc) (s : State) :
    exec (.ltnTraceArm d) s = execLtnTraceArm d s := rfl
theorem exec_ltnTraceForce (d : Desc) (s : State) :
    exec (.ltnTraceForce d) s = execLtnTraceForce d s := rfl
theorem exec_ltnTraceStop (d : Desc) (s : State) :
    exec (.ltnTraceStop d) s = execLtnTraceStop d s := rfl
theorem exec_ltnTraceRead (d : Desc) (s : State) :
    exec (.ltnTraceRead d) s = execLtnTraceRead d s := rfl
theorem exec_conversionEnd (c : Nat) (raw : Int) (at_ : STime) (s : State) :
    exec (.conversionEnd c raw at_) s = execConversionEnd c raw at_ s := rfl
theorem exec_scanStart (c : Nat) (s : State) :
    exec (.scanStart c) s = execScanStart c s := rfl
theorem exec_urgentPinRequest (e : PinEdge) (s : State) :
    exec (.urgentPinRequest e) s = execUrgentPinRequest e s := rfl
theorem exec_adcRangeWrite (n v : Nat) (s : State) :
    exec (.adcRangeWrite n v) s = execAdcRangeWrite n v s := rfl
theorem exec_rangeSettleExpiry (n : Nat) (s : State) :
    exec (.rangeSettleExpiry n) s = execRangeSettleExpiry n s := rfl
theorem exec_calibrationTakeover (c : Nat) (s : State) :
    exec (.calibrationTakeover c) s = execCalibrationTakeover c s := rfl
theorem exec_calibrationTableFit (c : Nat) (ofs16 : Int) (g noise : Nat) (s : State) :
    exec (.calibrationTableFit c ofs16 g noise) s = execCalibrationTableFit c ofs16 g noise s := rfl
theorem exec_calibrationHandback (c : Nat) (s : State) :
    exec (.calibrationHandback c) s = execCalibrationHandback c s := rfl
theorem exec_adcUrgent (d : Desc) (s : State) :
    exec (.adcUrgent d) s = execAdcUrgent d s := rfl
theorem exec_adcCalibrate (d : Desc) (s : State) :
    exec (.adcCalibrate d) s = execAdcCalibrate d s := rfl
theorem exec_adcReadCal (d : Desc) (s : State) :
    exec (.adcReadCal d) s = execAdcReadCal d s := rfl
theorem exec_adcClearCounters (d : Desc) (s : State) :
    exec (.adcClearCounters d) s = execAdcClearCounters d s := rfl
theorem exec_dacOutputArrival (n : Nat) (s : State) :
    exec (.dacOutputArrival n) s = execDacOutputArrival n s := rfl
theorem exec_dacHoldLatch (n : Nat) (s : State) :
    exec (.dacHoldLatch n) s = execDacHoldLatch n s := rfl
theorem exec_dacOeWrite (v : Nat) (s : State) :
    exec (.dacOeWrite v) s = execDacOeWrite v s := rfl
theorem exec_dacSet (d : Desc) (s : State) :
    exec (.dacSet d) s = execDacSet d s := rfl
theorem exec_dioOeWrite (w v : Nat) (s : State) :
    exec (.dioOeWrite w v) s = execDioOeWrite w v s := rfl
theorem exec_dioInputAccept (n : Nat) (level : Bool) (at_ : STime) (s : State) :
    exec (.dioInputAccept n level at_) s = execDioInputAccept n level at_ s := rfl
theorem exec_dioRawExcursionSuppress (n : Nat) (s : State) :
    exec (.dioRawExcursionSuppress n) s = execDioRawExcursionSuppress n s := rfl
theorem exec_pwmCodeArrival (n : Nat) (s : State) :
    exec (.pwmCodeArrival n) s = execPwmCodeArrival n s := rfl
theorem exec_pwmPeriodStart (n : Nat) (s : State) :
    exec (.pwmPeriodStart n) s = execPwmPeriodStart n s := rfl
theorem exec_pulseEdge (p : Nat) (e : TimedEdge) (s : State) :
    exec (.pulseEdge p e) s = execPulseEdge p e s := rfl
theorem exec_pulseSample (p : Nat) (s : State) :
    exec (.pulseSample p) s = execPulseSample p s := rfl
theorem exec_quadratureTransition (q : Nat) (a b : Bool) (s : State) :
    exec (.quadratureTransition q a b) s = execQuadratureTransition q a b s := rfl
theorem exec_zIndexEdge (q : Nat) (a b : Bool) (s : State) :
    exec (.zIndexEdge q a b) s = execZIndexEdge q a b s := rfl
theorem exec_ssiFrame (q raw : Nat) (high low : Bool) (at_ : STime) (s : State) :
    exec (.ssiFrame q raw high low at_) s = execSsiFrame q raw high low at_ s := rfl
theorem exec_positionSample (q : Nat) (s : State) :
    exec (.positionSample q) s = execPositionSample q s := rfl
theorem exec_uartRxByte (u : Nat) (c : LineChar) (flags : Nat) (at_ : STime) (s : State) :
    exec (.uartRxByte u c flags at_) s = execUartRxByte u c flags at_ s := rfl
theorem exec_uartRxIdle (u : Nat) (s : State) :
    exec (.uartRxIdle u) s = execUartRxIdle u s := rfl
theorem exec_uartTxDone (u : Nat) (s : State) :
    exec (.uartTxDone u) s = execUartTxDone u s := rfl
theorem exec_dioPstatClear (p v : Nat) (s : State) :
    exec (.dioPstatClear p v) s = execDioPstatClear p v s := rfl
theorem exec_dioSet (d : Desc) (s : State) :
    exec (.dioSet d) s = execDioSet d s := rfl
theorem exec_dioPosPreset (d : Desc) (s : State) :
    exec (.dioPosPreset d) s = execDioPosPreset d s := rfl
theorem exec_dioClearCounters (d : Desc) (s : State) :
    exec (.dioClearCounters d) s = execDioClearCounters d s := rfl
theorem exec_servoTick (a : Nat) (s : State) :
    exec (.servoTick a) s = execServoTick a s := rfl
theorem exec_motionFiring (s : State) :
    exec .motionFiring s = execMotionFiring s := rfl
theorem exec_limitPinChange (a : Nat) (pos : Bool) (s : State) :
    exec (.limitPinChange a pos) s = execLimitPinChange a pos s := rfl
theorem exec_limitQualification (a : Nat) (pos : Bool) (s : State) :
    exec (.limitQualification a pos) s = execLimitQualification a pos s := rfl
theorem exec_motMove (d : Desc) (s : State) :
    exec (.motMove d) s = execMotMove d s := rfl
theorem exec_motStop (d : Desc) (s : State) :
    exec (.motStop d) s = execMotStop d s := rfl
theorem exec_motHome (d : Desc) (s : State) :
    exec (.motHome d) s = execMotHome d s := rfl
theorem exec_motSetPos (d : Desc) (s : State) :
    exec (.motSetPos d) s = execMotSetPos d s := rfl
theorem exec_motReadState (d : Desc) (s : State) :
    exec (.motReadState d) s = execMotReadState d s := rfl
theorem exec_motClearCounters (d : Desc) (s : State) :
    exec (.motClearCounters d) s = execMotClearCounters d s := rfl
theorem exec_ccrPwmPeriod (m : Nat) (sa sb : List Int) (s : State) :
    exec (.ccrPwmPeriod m sa sb) s = execCcrPwmPeriod m sa sb s := rfl
theorem exec_fullStepLoad (m : Nat) (s : State) :
    exec (.fullStepLoad m) s = execFullStepLoad m s := rfl
theorem exec_setpointLossExpiry (m : Nat) (s : State) :
    exec (.setpointLossExpiry m) s = execSetpointLossExpiry m s := rfl
theorem exec_holdDelayExpiry (m : Nat) (s : State) :
    exec (.holdDelayExpiry m) s = execHoldDelayExpiry m s := rfl
theorem exec_ccrOeWrite (v : Nat) (s : State) :
    exec (.ccrOeWrite v) s = execCcrOeWrite v s := rfl
theorem exec_ccrClearFault (d : Desc) (s : State) :
    exec (.ccrClearFault d) s = execCcrClearFault d s := rfl
theorem exec_programCycleStart (c : Nat) (s : State) :
    exec (.programCycleStart c) s = execProgramCycleStart c s := rfl
theorem exec_programCycleEnd (c : Nat) (s : State) :
    exec (.programCycleEnd c) s = execProgramCycleEnd c s := rfl
theorem exec_cycleOverrun (c : Nat) (s : State) :
    exec (.cycleOverrun c) s = execCycleOverrun c s := rfl
theorem exec_cycleAbort (c : Nat) (s : State) :
    exec (.cycleAbort c) s = execCycleAbort c s := rfl
theorem exec_programFault (c : Nat) (s : State) :
    exec (.programFault c) s = execProgramFault c s := rfl
theorem exec_coreError (c : Nat) (s : State) :
    exec (.coreError c) s = execCoreError c s := rfl
theorem exec_programInstruction (c : Nat) (s : State) :
    exec (.programInstruction c) s = execProgramInstruction c s := rfl
theorem exec_fbTon (c : Nat) (s : State) :
    exec (.fbTon c) s = execFbTon c s := rfl
theorem exec_fbTof (c : Nat) (s : State) :
    exec (.fbTof c) s = execFbTof c s := rfl
theorem exec_fbTp (c : Nat) (s : State) :
    exec (.fbTp c) s = execFbTp c s := rfl
theorem exec_fbRtrig (c : Nat) (s : State) :
    exec (.fbRtrig c) s = execFbRtrig c s := rfl
theorem exec_fbFtrig (c : Nat) (s : State) :
    exec (.fbFtrig c) s = execFbFtrig c s := rfl
theorem exec_fbCtu (c : Nat) (s : State) :
    exec (.fbCtu c) s = execFbCtu c s := rfl
theorem exec_fbCtd (c : Nat) (s : State) :
    exec (.fbCtd c) s = execFbCtd c s := rfl
theorem exec_fbNow (c : Nat) (s : State) :
    exec (.fbNow c) s = execFbNow c s := rfl
theorem exec_fbNowh (c : Nat) (s : State) :
    exec (.fbNowh c) s = execFbNowh c s := rfl
theorem exec_programExchangeBoundary (n : Nat) (s : State) :
    exec (.programExchangeBoundary n) s = execProgramExchangeBoundary n s := rfl
theorem exec_pgmLoad (d : Desc) (s : State) :
    exec (.pgmLoad d) s = execPgmLoad d s := rfl
theorem exec_pgmExchange (d : Desc) (s : State) :
    exec (.pgmExchange d) s = execPgmExchange d s := rfl
theorem exec_pgmRestart (d : Desc) (s : State) :
    exec (.pgmRestart d) s = execPgmRestart d s := rfl
theorem exec_pgmReadInstance (d : Desc) (s : State) :
    exec (.pgmReadInstance d) s = execPgmReadInstance d s := rfl
theorem exec_pgmClearCounters (d : Desc) (s : State) :
    exec (.pgmClearCounters d) s = execPgmClearCounters d s := rfl
theorem exec_fblScan (s : State) :
    exec .fblScan s = execFblScan s := rfl
theorem exec_fblTakeControl (s : State) :
    exec .fblTakeControl s = execFblTakeControl s := rfl
theorem exec_fblLoad (d : Desc) (s : State) :
    exec (.fblLoad d) s = execFblLoad d s := rfl
theorem exec_fblRead (d : Desc) (s : State) :
    exec (.fblRead d) s = execFblRead d s := rfl
theorem exec_frameReceive (p : Nat) (at_ : STime) (bytes : List Byte) (s : State) :
    exec (.frameReceive p at_ bytes) s = execFrameReceive p at_ bytes s := rfl
theorem exec_hostFrameQueue (p : Nat) (s : State) :
    exec (.hostFrameQueue p) s = execHostFrameQueue p s := rfl
theorem exec_frameLaunch (p : Nat) (s : State) :
    exec (.frameLaunch p) s = execFrameLaunch p s := rfl
theorem exec_gateCycleStart (p : Nat) (s : State) :
    exec (.gateCycleStart p) s = execGateCycleStart p s := rfl
theorem exec_nzRequestBuild (st : Nat) (s : State) :
    exec (.nzRequestBuild st) s = execNzRequestBuild st s := rfl
theorem exec_nzResponse (st : Nat) (s : State) :
    exec (.nzResponse st) s = execNzResponse st s := rfl
theorem exec_nzResponseDeadline (st : Nat) (s : State) :
    exec (.nzResponseDeadline st) s = execNzResponseDeadline st s := rfl
theorem exec_paramAck (st : Nat) (s : State) :
    exec (.paramAck st) s = execParamAck st s := rfl
theorem exec_nzParamPieceTimeout (st : Nat) (s : State) :
    exec (.nzParamPieceTimeout st) s = execNzParamPieceTimeout st s := rfl
theorem exec_delayResp (st : Nat) (s : State) :
    exec (.delayResp st) s = execDelayResp st s := rfl
theorem exec_probeReply (st : Nat) (s : State) :
    exec (.probeReply st) s = execProbeReply st s := rfl
theorem exec_nzProbeTimer (st : Nat) (s : State) :
    exec (.nzProbeTimer st) s = execNzProbeTimer st s := rfl
theorem exec_ethLinkUp (p : Nat) (s : State) :
    exec (.ethLinkUp p) s = execEthLinkUp p s := rfl
theorem exec_ethLinkDown (p : Nat) (s : State) :
    exec (.ethLinkDown p) s = execEthLinkDown p s := rfl
theorem exec_prpSupervisionTimer (p : Nat) (s : State) :
    exec (.prpSupervisionTimer p) s = execPrpSupervisionTimer p s := rfl
theorem exec_ethPortEnWrite (v : Nat) (s : State) :
    exec (.ethPortEnWrite v) s = execEthPortEnWrite v s := rfl
theorem exec_ethReadStation (d : Desc) (s : State) :
    exec (.ethReadStation d) s = execEthReadStation d s := rfl
theorem exec_ethReparam (d : Desc) (s : State) :
    exec (.ethReparam d) s = execEthReparam d s := rfl
theorem exec_ethCbReset (d : Desc) (s : State) :
    exec (.ethCbReset d) s = execEthCbReset d s := rfl
theorem exec_ethClearCounters (d : Desc) (s : State) :
    exec (.ethClearCounters d) s = execEthClearCounters d s := rfl
theorem exec_alignmentStrobe (s : State) :
    exec .alignmentStrobe s = execAlignmentStrobe s := rfl
theorem exec_syncMeasurement (dom : Nat) (s : State) :
    exec (.syncMeasurement dom) s = execSyncMeasurement dom s := rfl
theorem exec_announceReceive (dom : Nat) (s : State) :
    exec (.announceReceive dom) s = execAnnounceReceive dom s := rfl
theorem exec_pdelayReqReceive (dom : Nat) (s : State) :
    exec (.pdelayReqReceive dom) s = execPdelayReqReceive dom s := rfl
theorem exec_masterSyncTransmit (dom : Nat) (s : State) :
    exec (.masterSyncTransmit dom) s = execMasterSyncTransmit dom s := rfl
theorem exec_domainLossTimeout (dom : Nat) (s : State) :
    exec (.domainLossTimeout dom) s = execDomainLossTimeout dom s := rfl
theorem exec_ppsInEdge (at_ : STime) (s : State) :
    exec (.ppsInEdge at_) s = execPpsInEdge at_ s := rfl
theorem exec_ppsOutEdge (s : State) :
    exec .ppsOutEdge s = execPpsOutEdge s := rfl
theorem exec_triggerFiring (e : Nat) (s : State) :
    exec (.triggerFiring e) s = execTriggerFiring e s := rfl
theorem exec_timSetTime (d : Desc) (s : State) :
    exec (.timSetTime d) s = execTimSetTime d s := rfl
theorem exec_timSelect (d : Desc) (s : State) :
    exec (.timSelect d) s = execTimSelect d s := rfl
theorem exec_timRestep (d : Desc) (s : State) :
    exec (.timRestep d) s = execTimRestep d s := rfl
theorem exec_timSetUtc (d : Desc) (s : State) :
    exec (.timSetUtc d) s = execTimSetUtc d s := rfl
theorem exec_timReadDomain (d : Desc) (s : State) :
    exec (.timReadDomain d) s = execTimReadDomain d s := rfl
theorem exec_timClearCounters (d : Desc) (s : State) :
    exec (.timClearCounters d) s = execTimClearCounters d s := rfl
theorem exec_timNowRead (s : State) :
    exec .timNowRead s = execTimNowRead s := rfl
theorem exec_canFrameReceive (n : Nat) (f : CanRx) (s : State) :
    exec (.canFrameReceive n f) s = execCanFrameReceive n f s := rfl
theorem exec_canTxStart (n : Nat) (s : State) :
    exec (.canTxStart n) s = execCanTxStart n s := rfl
theorem exec_canTxEnd (n : Nat) (how : CanEnd) (tdc : Nat) (s : State) :
    exec (.canTxEnd n how tdc) s = execCanTxEnd n how tdc s := rfl
theorem exec_periodicBufferFiring (n b : Nat) (s : State) :
    exec (.periodicBufferFiring n b) s = execPeriodicBufferFiring n b s := rfl
theorem exec_canTxLate (n b : Nat) (s : State) :
    exec (.canTxLate n b) s = execCanTxLate n b s := rfl
theorem exec_busOffRecoveryDone (n : Nat) (s : State) :
    exec (.busOffRecoveryDone n) s = execBusOffRecoveryDone n s := rfl
theorem exec_ttReferenceSend (n : Nat) (s : State) :
    exec (.ttReferenceSend n) s = execTtReferenceSend n s := rfl
theorem exec_ttRefLost (n : Nat) (s : State) :
    exec (.ttRefLost n) s = execTtRefLost n s := rfl
theorem exec_ttWindow (n b : Nat) (s : State) :
    exec (.ttWindow n b) s = execTtWindow n b s := rfl
theorem exec_canEnWrite (v : Nat) (s : State) :
    exec (.canEnWrite v) s = execCanEnWrite v s := rfl
theorem exec_canTxSet (d : Desc) (s : State) :
    exec (.canTxSet d) s = execCanTxSet d s := rfl
theorem exec_canTxAbort (d : Desc) (s : State) :
    exec (.canTxAbort d) s = execCanTxAbort d s := rfl
theorem exec_canRecover (d : Desc) (s : State) :
    exec (.canRecover d) s = execCanRecover d s := rfl
theorem exec_canSetMode (d : Desc) (s : State) :
    exec (.canSetMode d) s = execCanSetMode d s := rfl
theorem exec_canClearCounters (d : Desc) (s : State) :
    exec (.canClearCounters d) s = execCanClearCounters d s := rfl
theorem exec_safInputSample (b : Bool) (contacts fb : Nat) (s : State) :
    exec (.safInputSample b contacts fb) s = execSafInputSample b contacts fb s := rfl
theorem exec_safetyCycle (b : Bool) (s : State) :
    exec (.safetyCycle b) s = execSafetyCycle b s := rfl
theorem exec_discrepancyTimeout (n : Nat) (s : State) :
    exec (.discrepancyTimeout n) s = execDiscrepancyTimeout n s := rfl
theorem exec_testPulse (n : Nat) (low off on_ : Bool) (s : State) :
    exec (.testPulse n low off on_) s = execTestPulse n low off on_ s := rfl
theorem exec_feedbackTimeout (n : Nat) (low : Bool) (s : State) :
    exec (.feedbackTimeout n low) s = execFeedbackTimeout n low s := rfl
theorem exec_channelFault (cause attr : Nat) (s : State) :
    exec (.channelFault cause attr) s = execChannelFault cause attr s := rfl
theorem exec_degradedTimeout (s : State) :
    exec .degradedTimeout s = execDegradedTimeout s := rfl
theorem exec_safInitDone (ok : Bool) (s : State) :
    exec (.safInitDone ok) s = execSafInitDone ok s := rfl
theorem exec_safeFrameProduce (p : Nat) (s : State) :
    exec (.safeFrameProduce p) s = execSafeFrameProduce p s := rfl
theorem exec_safeFrameReceive (s : State) :
    exec .safeFrameReceive s = execSafeFrameReceive s := rfl
theorem exec_sfWatchdogTimeout (k : Nat) (s : State) :
    exec (.sfWatchdogTimeout k) s = execSfWatchdogTimeout k s := rfl
theorem exec_singleLanTimeout (k : Nat) (s : State) :
    exec (.singleLanTimeout k) s = execSingleLanTimeout k s := rfl
theorem exec_confirmTimeout (s : State) :
    exec .confirmTimeout s = execConfirmTimeout s := rfl
theorem exec_safLoadConfig (d : Desc) (s : State) :
    exec (.safLoadConfig d) s = execSafLoadConfig d s := rfl
theorem exec_safConfirm (d : Desc) (s : State) :
    exec (.safConfirm d) s = execSafConfirm d s := rfl
theorem exec_safSetRequest (d : Desc) (s : State) :
    exec (.safSetRequest d) s = execSafSetRequest d s := rfl
theorem exec_safFaultReset (d : Desc) (s : State) :
    exec (.safFaultReset d) s = execSafFaultReset d s := rfl
theorem exec_safClearCounters (d : Desc) (s : State) :
    exec (.safClearCounters d) s = execSafClearCounters d s := rfl
theorem exec_cutPartReady (blk : Nat) (bad : List Nat) (s : State) :
    exec (.cutPartReady blk bad) s = execCutPartReady blk bad s := rfl
theorem exec_cutCommit (bad : List Nat) (s : State) :
    exec (.cutCommit bad) s = execCutCommit bad s := rfl
theorem exec_journalRecordApply (s : State) :
    exec .journalRecordApply s = execJournalRecordApply s := rfl
theorem exec_slotCopy (s : State) :
    exec .slotCopy s = execSlotCopy s := rfl
theorem exec_gapMove (s : State) :
    exec .gapMove s = execGapMove s := rfl
theorem exec_spireWarmRestart (cause : Nat) (s : State) :
    exec (.spireWarmRestart cause) s = execSpireWarmRestart cause s := rfl
theorem exec_bootVerify (dirs : List (List Byte)) (imgs : List (Nat × Nat × List Byte)) (s : State) :
    exec (.bootVerify dirs imgs) s = execBootVerify dirs imgs s := rfl
theorem exec_imageRestore (ecc : Bool) (bad : List Nat) (badRec : Option (Nat × Nat)) (s : State) :
    exec (.imageRestore ecc bad badRec) s = execImageRestore ecc bad badRec s := rfl
theorem exec_controlResume (s : State) :
    exec .controlResume s = execControlResume s := rfl
theorem exec_deviceRestart (s : State) :
    exec .deviceRestart s = execDeviceRestart s := rfl
theorem exec_kepRestart (d : Desc) (s : State) :
    exec (.kepRestart d) s = execKepRestart d s := rfl
theorem exec_kepRestartDelayExpiry (s : State) :
    exec .kepRestartDelayExpiry s = execKepRestartDelayExpiry s := rfl
theorem exec_kepReadImage (d : Desc) (s : State) :
    exec (.kepReadImage d) s = execKepReadImage d s := rfl
theorem exec_kepClearCounters (d : Desc) (s : State) :
    exec (.kepClearCounters d) s = execKepClearCounters d s := rfl
theorem exec_heartbeatSend (s : State) :
    exec .heartbeatSend s = execHeartbeatSend s := rfl
theorem exec_heartbeatReceive (lane : Nat) (bytes : List Byte) (pact fenced : Bool) (s : State) :
    exec (.heartbeatReceive lane bytes pact fenced) s = execHeartbeatReceive lane bytes pact fenced s := rfl
theorem exec_heartbeatLoss (pact : Bool) (s : State) :
    exec (.heartbeatLoss pact) s = execHeartbeatLoss pact s := rfl
theorem exec_takeoverFenceDone (s : State) :
    exec .takeoverFenceDone s = execTakeoverFenceDone s := rfl
theorem exec_fenceTimeout (s : State) :
    exec .fenceTimeout s = execFenceTimeout s := rfl
theorem exec_takeoverEnable (s : State) :
    exec .takeoverEnable s = execTakeoverEnable s := rfl
theorem exec_prFencedNAssert (s : State) :
    exec .prFencedNAssert s = execPrFencedNAssert s := rfl
theorem exec_pairPacketReceive (lane : Nat) (packet : Option (Nat × Option PairMsg)) (acks : List Nat) (crcOk : Bool) (s : State) :
    exec (.pairPacketReceive lane packet acks crcOk) s = execPairPacketReceive lane packet acks crcOk s := rfl
theorem exec_pairRetransmitTimeout (q : Nat) (s : State) :
    exec (.pairRetransmitTimeout q) s = execPairRetransmitTimeout q s := rfl
theorem exec_paiLaneDown (l : Nat) (s : State) :
    exec (.paiLaneDown l) s = execPaiLaneDown l s := rfl
theorem exec_syncAckTimeout (s : State) :
    exec .syncAckTimeout s = execSyncAckTimeout s := rfl
theorem exec_claimWaitExpiry (pact : Bool) (s : State) :
    exec (.claimWaitExpiry pact) s = execClaimWaitExpiry pact s := rfl
theorem exec_powerUpListenExpiry (s : State) :
    exec .powerUpListenExpiry s = execPowerUpListenExpiry s := rfl
theorem exec_yieldTimeout (s : State) :
    exec .yieldTimeout s = execYieldTimeout s := rfl
theorem exec_paiJoin (d : Desc) (s : State) :
    exec (.paiJoin d) s = execPaiJoin d s := rfl
theorem exec_paiSwitchover (d : Desc) (s : State) :
    exec (.paiSwitchover d) s = execPaiSwitchover d s := rfl
theorem exec_paiLeave (d : Desc) (s : State) :
    exec (.paiLeave d) s = execPaiLeave d s := rfl
theorem exec_paiReadPeer (d : Desc) (s : State) :
    exec (.paiReadPeer d) s = execPaiReadPeer d s := rfl
theorem exec_paiClearCounters (d : Desc) (s : State) :
    exec (.paiClearCounters d) s = execPaiClearCounters d s := rfl
theorem exec_lanternRecord (s : State) :
    exec .lanternRecord s = execLanternRecord s := rfl
theorem exec_ltnReadChannel (d : Desc) (s : State) :
    exec (.ltnReadChannel d) s = execLtnReadChannel d s := rfl
theorem exec_ltnClearCounters (d : Desc) (s : State) :
    exec (.ltnClearCounters d) s = execLtnClearCounters d s := rfl
theorem exec_eventRaise (code : Nat) (payload : List Byte) (s : State) :
    exec (.eventRaise code payload) s = execEventRaise code payload s := rfl
theorem exec_eventAdmission (ok : Bool) (unread : List Nat) (s : State) :
    exec (.eventAdmission ok unread) s = execEventAdmission ok unread s := rfl
theorem exec_summaryTimeout (code : Nat) (s : State) :
    exec (.summaryTimeout code) s = execSummaryTimeout code s := rfl
theorem exec_evrExport (d : Desc) (bad : List Nat) (s : State) :
    exec (.evrExport d bad) s = execEvrExport d bad s := rfl
theorem exec_evrReadLastgasp (d : Desc) (s : State) :
    exec (.evrReadLastgasp d) s = execEvrReadLastgasp d s := rfl
theorem exec_evrClearLastgasp (d : Desc) (s : State) :
    exec (.evrClearLastgasp d) s = execEvrClearLastgasp d s := rfl
theorem exec_evrClearCounters (d : Desc) (s : State) :
    exec (.evrClearCounters d) s = execEvrClearCounters d s := rfl
theorem exec_flitCrcError (dir accepted : Nat) (s : State) :
    exec (.flitCrcError dir accepted) s = execFlitCrcError dir accepted s := rfl
theorem exec_replayTimeout (dir accepted : Nat) (s : State) :
    exec (.replayTimeout dir accepted) s = execReplayTimeout dir accepted s := rfl
theorem exec_retrainEnd (failed : Nat) (s : State) :
    exec (.retrainEnd failed) s = execRetrainEnd failed s := rfl
theorem exec_linkIdleTimeout (s : State) :
    exec .linkIdleTimeout s = execLinkIdleTimeout s := rfl
theorem exec_crossingHandshake (k : Nat) (s : State) :
    exec (.crossingHandshake k) s = execCrossingHandshake k s := rfl
theorem exec_spireWatchdog (s : State) :
    exec .spireWatchdog s = execSpireWatchdog s := rfl
theorem exec_domeWatchdog (s : State) :
    exec .domeWatchdog s = execDomeWatchdog s := rfl
theorem exec_spireFatal (code detail : Nat) (s : State) :
    exec (.spireFatal code detail) s = execSpireFatal code detail s := rfl
theorem exec_sidebandReadTimeout (off repeats : Nat) (s : State) :
    exec (.sidebandReadTimeout off repeats) s = execSidebandReadTimeout off repeats s := rfl
theorem exec_dramScrub (row : Nat) (addrs : List Nat) (last : Bool) (s : State) :
    exec (.dramScrub row addrs last) s = execDramScrub row addrs last s := rfl
theorem exec_memUe (region addr window segment off prog : Nat) (s : State) :
    exec (.memUe region addr window segment off prog) s = execMemUe region addr window segment off prog s := rfl
theorem exec_wearMonitorEvaluation (readings : List (Nat × Nat × Nat × Nat)) (s : State) :
    exec (.wearMonitorEvaluation readings) s = execWearMonitorEvaluation readings s := rfl
theorem exec_swapChangeover (slot : Nat) (s : State) :
    exec (.swapChangeover slot) s = execSwapChangeover slot s := rfl
theorem exec_keepScrubDone (bad : List Nat) (s : State) :
    exec (.keepScrubDone bad) s = execKeepScrubDone bad s := rfl
theorem exec_dramRepairDone (s : State) :
    exec .dramRepairDone s = execDramRepairDone s := rfl
theorem exec_sprReserveSwap (d : Desc) (s : State) :
    exec (.sprReserveSwap d) s = execSprReserveSwap d s := rfl
theorem exec_sprKeepScrub (d : Desc) (s : State) :
    exec (.sprKeepScrub d) s = execSprKeepScrub d s := rfl
theorem exec_sprDramRepair (d : Desc) (s : State) :
    exec (.sprDramRepair d) s = execSprDramRepair d s := rfl
theorem exec_sprClearCounters (d : Desc) (s : State) :
    exec (.sprClearCounters d) s = execSprClearCounters d s := rfl
theorem exec_pmcSelWrite (n v : Nat) (s : State) :
    exec (.pmcSelWrite n v) s = execPmcSelWrite n v s := rfl
theorem exec_pmcSnapWrite (v : Nat) (s : State) :
    exec (.pmcSnapWrite v) s = execPmcSnapWrite v s := rfl
theorem exec_snapshotInstant (s : State) :
    exec .snapshotInstant s = execSnapshotInstant s := rfl
theorem exec_pmcDumpCfgWrite (v : Nat) (s : State) :
    exec (.pmcDumpCfgWrite v) s = execPmcDumpCfgWrite v s := rfl
theorem exec_pmcDumpMaskWrite (v : Nat) (s : State) :
    exec (.pmcDumpMaskWrite v) s = execPmcDumpMaskWrite v s := rfl
theorem exec_dumpInstant (s : State) :
    exec .dumpInstant s = execDumpInstant s := rfl
theorem exec_pmcStatusRead (s : State) :
    exec .pmcStatusRead s = execPmcStatusRead s := rfl
theorem exec_secChallenge (d : Desc) (s : State) :
    exec (.secChallenge d) s = execSecChallenge d s := rfl
theorem exec_secOpen (d : Desc) (s : State) :
    exec (.secOpen d) s = execSecOpen d s := rfl
theorem exec_secOpenPw (d : Desc) (s : State) :
    exec (.secOpenPw d) s = execSecOpenPw d s := rfl
theorem exec_secClose (d : Desc) (s : State) :
    exec (.secClose d) s = execSecClose d s := rfl
theorem exec_secQuote (d : Desc) (s : State) :
    exec (.secQuote d) s = execSecQuote d s := rfl
theorem exec_secReadIdentity (d : Desc) (s : State) :
    exec (.secReadIdentity d) s = execSecReadIdentity d s := rfl
theorem exec_secFwStage (d : Desc) (s : State) :
    exec (.secFwStage d) s = execSecFwStage d s := rfl
theorem exec_fwStageDone (written : Bool) (s : State) :
    exec (.fwStageDone written) s = execFwStageDone written s := rfl
theorem exec_secSvnCommit (d : Desc) (s : State) :
    exec (.secSvnCommit d) s = execSecSvnCommit d s := rfl
theorem exec_secProvision (d : Desc) (s : State) :
    exec (.secProvision d) s = execSecProvision d s := rfl
theorem exec_scopeExpiry (k : Nat) (s : State) :
    exec (.scopeExpiry k) s = execScopeExpiry k s := rfl
theorem exec_nonceExpiry (s : State) :
    exec .nonceExpiry s = execNonceExpiry s := rfl
theorem exec_lockoutExpiry (s : State) :
    exec .lockoutExpiry s = execLockoutExpiry s := rfl
theorem exec_extest (s : State) :
    exec .extest s = execExtest s := rfl
theorem exec_idcode (s : State) :
    exec .idcode s = execIdcode s := rfl
theorem exec_samplePreload (sampled shifted : Nat) (s : State) :
    exec (.samplePreload sampled shifted) s = execSamplePreload sampled shifted s := rfl
theorem exec_intest (s : State) :
    exec .intest s = execIntest s := rfl
theorem exec_extestPulse (s : State) :
    exec .extestPulse s = execExtestPulse s := rfl
theorem exec_extestTrain (s : State) :
    exec .extestTrain s = execExtestTrain s := rfl
theorem exec_clamp (s : State) :
    exec .clamp s = execClamp s := rfl
theorem exec_highz (s : State) :
    exec .highz s = execHighz s := rfl
theorem exec_lockChallenge (s : State) :
    exec .lockChallenge s = execLockChallenge s := rfl
theorem exec_lockResponse (response : List Byte) (s : State) :
    exec (.lockResponse response) s = execLockResponse response s := rfl
theorem exec_lockStatus (s : State) :
    exec .lockStatus s = execLockStatus s := rfl
theorem exec_debugAccess (s : State) :
    exec .debugAccess s = execDebugAccess s := rfl
theorem exec_bypass (code : Nat) (s : State) :
    exec (.bypass code) s = execBypass code s := rfl
theorem exec_powerOn (s : State) :
    exec .powerOn s = execPowerOn s := rfl
theorem exec_resetNAssert (testMode : Bool) (s : State) :
    exec (.resetNAssert testMode) s = execResetNAssert testMode s := rfl
theorem exec_pwrfailNAssert (s : State) :
    exec .pwrfailNAssert s = execPwrfailNAssert s := rfl
theorem exec_pwrfailNRelease (s : State) :
    exec .pwrfailNRelease s = execPwrfailNRelease s := rfl
theorem exec_railOutOfWindow (r : Nat) (s : State) :
    exec (.railOutOfWindow r) s = execRailOutOfWindow r s := rfl
theorem exec_referenceLoss (why : Nat) (s : State) :
    exec (.referenceLoss why) s = execReferenceLoss why s := rfl
theorem exec_thermalSample (spire dome : Int) (s : State) :
    exec (.thermalSample spire dome) s = execThermalSample spire dome s := rfl
theorem exec_clkforceWrite (b : BusWrite) (s : State) :
    exec (.clkforceWrite b) s = execClkforceWrite b s := rfl
theorem exec_clkRailEvtClear (b : BusWrite) (s : State) :
    exec (.clkRailEvtClear b) s = execClkRailEvtClear b s := rfl
theorem exec_pcieLinkUp (s : State) :
    exec .pcieLinkUp s = execPcieLinkUp s := rfl
theorem exec_d3hotExit (s : State) :
    exec .d3hotExit s = execD3hotExit s := rfl
theorem exec_adcUrgentTimeout (c : Nat) (s : State) :
    exec (.adcUrgentTimeout c) s = execAdcUrgentTimeout c s := rfl
theorem exec_atPpsTimeout (s : State) :
    exec .atPpsTimeout s = execAtPpsTimeout s := rfl
theorem exec_pgmExchangeTimeout (n : Nat) (s : State) :
    exec (.pgmExchangeTimeout n) s = execPgmExchangeTimeout n s := rfl
theorem exec_switchoverTimeout (s : State) :
    exec .switchoverTimeout s = execSwitchoverTimeout s := rfl
theorem exec_ccrSetpointArrival (m : Nat) (s : State) :
    exec (.ccrSetpointArrival m) s = execCcrSetpointArrival m s := rfl
theorem exec_destinationReport (s : State) :
    exec .destinationReport s = execDestinationReport s := rfl
theorem exec_ptpDelayResponse (dom : Nat) (s : State) :
    exec (.ptpDelayResponse dom) s = execPtpDelayResponse dom s := rfl
theorem exec_pdelayReqTimer (dom : Nat) (s : State) :
    exec (.pdelayReqTimer dom) s = execPdelayReqTimer dom s := rfl
theorem exec_streamRecoveryReset (k : Nat) (s : State) :
    exec (.streamRecoveryReset k) s = execStreamRecoveryReset k s := rfl
theorem exec_referenceRequalified (s : State) :
    exec .referenceRequalified s = execReferenceRequalified s := rfl
theorem exec_railReturn (r : Nat) (s : State) :
    exec (.railReturn r) s = execRailReturn r s := rfl
theorem exec_paiLaneUp (l : Nat) (s : State) :
    exec (.paiLaneUp l) s = execPaiLaneUp l s := rfl
theorem exec_canBusIdle (n : Nat) (s : State) :
    exec (.canBusIdle n) s = execCanBusIdle n s := rfl

end Sys2Proof.Laws
end

