-- ==== Sys2Proof/Laws/Ops.lean ====
section
/-!
SUPPORT. Laws/Ops.lean: what the shared operations can do. Each lemma says once, for one operation, everything it may
change (`Touches`) or the value it leaves, so that a later proof cites it and does not unfold the operation.
-/
namespace Sys2Proof.Laws
open Sys2Proof.Machine

/-- `t` differs from `s` at most in what leaves the device, in HIF, in the event log and in the activity counts. -/
def Touches (s t : Device) : Prop := ∃ o h e p, t = { s with out := o, hif := h, evr := e, pmc := p }

theorem Touches.refl (s : Device) : Touches s s := ⟨s.out, s.hif, s.evr, s.pmc, rfl⟩
theorem Touches.trans {s t u : Device} (h : Touches s t) (k : Touches t u) : Touches s u := by
  obtain ⟨o, h1, e, p, rfl⟩ := h
  obtain ⟨o', h1', e', p', rfl⟩ := k
  exact ⟨o', h1', e', p', rfl⟩
theorem Touches.mk (s : Device) (o : List Out) (h : Hif) (e : Evr) (p : Pmc) :
    Touches s { s with out := o, hif := h, evr := e, pmc := p } := ⟨o, h, e, p, rfl⟩
theorem Touches.evr (s : Device) (e : Evr) : Touches s { s with evr := e } := ⟨_, _, _, _, rfl⟩
theorem Touches.hif (s : Device) (h : Hif) : Touches s { s with hif := h } := ⟨_, _, _, _, rfl⟩
theorem Touches.ite {c : Prop} [Decidable c] {s x y : Device} (h : Touches s x) (k : Touches s y) :
    Touches s (if c then x else y) := by
  split <;> assumption

/-! ## Events -/

theorem pmcEdge_touches (b g i : Nat) (s : Device) : Touches s (pmcEdge b g i s) := ⟨_, _, _, _, rfl⟩
theorem pmcEdges_touches (b g i k : Nat) (s : Device) : Touches s (pmcEdges b g i k s) := ⟨_, _, _, _, rfl⟩
theorem emit_touches (x : Out) (s : Device) : Touches s (emit x s) := ⟨_, _, _, _, rfl⟩
theorem sendHost_touches (x : Out) (s : Device) : Touches s (sendHost s x) := ⟨_, _, _, _, rfl⟩
theorem modRing_touches (n : Nat) (f : Ring → Ring) (s : Device) : Touches s (modRing n f s) := ⟨_, _, _, _, rfl⟩
theorem modWin_touches (n : Nat) (f : Window → Window) (s : Device) : Touches s (modWin n f s) := ⟨_, _, _, _, rfl⟩
theorem modVec_touches (n : Nat) (f : Vector → Vector) (s : Device) : Touches s (modVec n f s) := ⟨_, _, _, _, rfl⟩

/-- A record enters the waiting queue or is counted as lost (R667, R673). -/
theorem evEnqueue_touches (w : EvWait) (s : Device) : Touches s (evEnqueue w s) := by
  unfold evEnqueue
  refine .ite ⟨_, _, _, _, rfl⟩ (.ite ⟨_, _, _, _, rfl⟩ (.ite ⟨_, _, _, _, rfl⟩ ?_))
  exact Touches.trans ⟨_, _, _, _, rfl⟩ (pmcEdge_touches _ _ _ _)

theorem issueSummary_touches (c : Nat) (t : STime) (s : Device) : Touches s (issueSummary c t s) := by
  unfold issueSummary
  split
  · exact .refl s
  · exact Touches.trans (Touches.trans ⟨_, _, _, _, rfl⟩ (evEnqueue_touches _ _)) (pmcEdge_touches _ _ _ _)

theorem raiseAt_touches (t : STime) (c : Nat) (pl : List Byte) (s : Device) : Touches s (raiseAt t c pl s) := by
  unfold raiseAt
  refine .ite ((pmcEdge_touches _ _ _ _).trans (evEnqueue_touches _ _)) ?_
  refine .ite ?_ ((pmcEdge_touches _ _ _ _).trans (.evr _ _))
  refine (pmcEdge_touches (evBlock c) (c % 2048) 0 s).trans (Touches.trans ?_ (evEnqueue_touches _ _))
  exact (Touches.evr _ _).trans (issueSummary_touches _ _ _)

/-! ## Host memory and interrupts -/

/-- In D0 an item leaves at once, in D3hot it is held back (R49). -/
theorem toHost_touches (x : Out) (s : Device) : Touches s (toHost x s) := by
  unfold toHost
  exact .ite ⟨_, _, _, _, rfl⟩ (sendHost_touches _ _)

theorem toHost_out (x : Out) (s : Device) (h : s.hif.d3hot = false) : (toHost x s).out = s.out ++ packetsOf s x := by
  unfold toHost; rw [if_neg (by rw [h]; decide)]; rfl

theorem toHost_held (x : Out) (s : Device) (h : s.hif.d3hot = true) :
    toHost x s = { s with hif.heldOut := s.hif.heldOut ++ [x] } := by
  unfold toHost; rw [if_pos h]

theorem fireVector_touches (v : Nat) (s : Device) : Touches s (fireVector v s) := by
  unfold fireVector
  exact .ite ((modVec_touches _ _ _).trans (modVec_touches _ _ _)) ((modVec_touches _ _ _).trans (toHost_touches _ _))

theorem signalVector_touches (v : Nat) (s : Device) : Touches s (signalVector v s) := by
  unfold signalVector
  exact .ite (fireVector_touches _ _) (modVec_touches _ _ _)

/-- Raising an event changes the event log, its activity count and, for HIF's errors, the error vector (R664, R92). -/
theorem raise_touches (c : Nat) (fs : List (Nat × Nat)) (s : Device) : Touches s (raise c fs s) := by
  unfold raise
  exact .ite ((raiseAt_touches _ _ _ _).trans (signalVector_touches _ _)) (raiseAt_touches _ _ _ _)

/-! ## Commands -/

/-- A ring halts: its state, HIF_RING_HALTED and the error vector (R70). -/
theorem haltRing_touches (n idx : Nat) (st : Status) (s : Device) : Touches s (haltRing n idx st s) :=
  (modRing_touches _ _ _).trans (raise_touches _ _ _)

/-- The one completion of a descriptor in CI order: the record, the ring and its vector (R57, R62, R63, R70). -/
theorem writeCompletion_touches (n tag : Nat) (i : Bool) (st : Status) (d : Nat) (s : Device) :
    Touches s (writeCompletion n tag i st d s) := by
  unfold writeCompletion
  have h : ∀ u : Device, Touches u (if st = .ok then u else haltRing n (ringOf s n).ci st u) :=
    fun u => .ite (.refl u) (haltRing_touches _ _ _ _)
  have k := (toHost_touches (.write ((ringOf s n).cpl.toNat + 16 * (ringOf s n).ci)
    (completionRec tag (ringOf s n).ci st.code (ringOf s n).phase (nowS s) d)) s).trans
    ((modRing_touches n stepRing _).trans (h _))
  exact .ite (k.trans (signalVector_touches _ _)) k

theorem writeLateCompletion_touches (p : Pend) (st : Status) (d : Nat) (s : Device) :
    Touches s (writeLateCompletion p st d s) := by
  unfold writeLateCompletion
  have h : ∀ u : Device, Touches u (if st = .ok then u else haltRing p.desc.ring p.index st u) :=
    fun u => .ite (.refl u) (haltRing_touches _ _ _ _)
  have k := (toHost_touches (.write (p.cpl.toNat + 16 * p.index)
    (completionRec p.desc.tag.toNat p.index st.code p.phase (nowS s) d)) s).trans
    ((modRing_touches p.desc.ring (fun r => { r with busy := false }) _).trans (h _))
  exact .ite (k.trans (signalVector_touches _ _)) k

/-- The end of a command changes nothing outside the rings, the interrupts, the event log and host memory (R57, R62). -/
theorem finish_touches (p : Pend) (st : Status) (d : Nat) (buf : List Byte) (s : Device) :
    Touches s (finish p st d buf s) := by
  unfold finish
  have h : Touches s (if buf.isEmpty = true then s else toHost (.write p.desc.bufAddr.toNat buf) s) :=
    .ite (.refl s) (toHost_touches _ _)
  exact .ite (h.trans (.ite (writeCompletion_touches _ _ _ _ _ _) (writeLateCompletion_touches _ _ _ _)))
    ⟨_, _, _, _, rfl⟩

/-- A command whose ring was disabled, or that HIF's reset overtook, ends without a completion and is counted (R57, R100). -/
theorem finish_lost (p : Pend) (st : Status) (d : Nat) (buf : List Byte) (s : Device)
    (h : (p.live && p.gen == s.hif.gen) = false) :
    finish p st d buf s = { s with hif.lostCpl := s.hif.lostCpl + 1 } := by
  unfold finish; rw [if_neg (by rw [h]; decide)]

/-! ## Windows -/

theorem starve_touches (n : Nat) (s : Device) : Touches s (starve n s) := by
  unfold starve
  exact .ite (.refl s) ((modWin_touches _ _ _).trans (raise_touches _ _ _))

theorem handBack_touches (n : Nat) (s : Device) : Touches s (handBack n s) := by
  unfold handBack
  have h : ∀ x, Touches s (if (winOf s n).fill.isEmpty = true then s else toHost x s) :=
    fun x => .ite (.refl s) (toHost_touches _ _)
  exact (h _).trans ((toHost_touches _ _).trans ((toHost_touches _ _).trans ((modWin_touches _ _ _).trans
    (signalVector_touches _ _))))

theorem pushRecord_touches (n typ : Nat) (t : Option STime) (bs : List Byte) (s : Device) :
    Touches s (pushRecord n typ t bs s).2 := by
  unfold pushRecord
  have h : Touches s (if (winOf s n).fill ≠ [] ∧ segRoom (winOf s n) < (winOf s n).fill.length + bs.length
      then handBack n s else s) := .ite (handBack_touches _ _) (.refl s)
  dsimp only
  revert h
  generalize (if (winOf s n).fill ≠ [] ∧ segRoom (winOf s n) < (winOf s n).fill.length + bs.length
      then handBack n s else s) = u
  intro h
  split
  · exact h
  · split
    · exact h.trans (starve_touches _ _)
    · refine h.trans ?_
      exact .ite ((modWin_touches _ _ _).trans (handBack_touches _ _)) (modWin_touches _ _ _)

/-! ## Tokens -/

/-- Sending a token changes Dispatch alone: its stream's next SEQ and, where the link carries it, the tokens in flight
(R151, R691). -/
theorem sendToken_dpt (t : Token) (s : Device) : ∃ d, sendToken t s = { s with dpt := d } := by
  unfold sendToken launchToken
  dsimp only
  split <;> exact ⟨_, rfl⟩

theorem sendToken_lost (t : Token) (s : Device) (h : s.btr.linkUp = false) :
    sendToken t s = { s with
      dpt.seqOut := tset s.dpt.seqOut (streamKey t.source t.slot t.operand)
        (tget s.dpt.seqOut (streamKey t.source t.slot t.operand) 0 + 1) } := by
  simp [sendToken, launchToken, h]

/-! ## Commands of every block -/

theorem needed_ok (d : Nat) (s : Device) : okWith d s = CmdEnd.done .ok d [] s := rfl

theorem checked_none (cs : List Check) (body : Pend → Device → CmdEnd) (p : Pend) (s : Device)
    (h : firstFail p.desc cs = none) : checked cs body p s = body p s := by
  unfold checked; rw [h]

theorem checked_some (cs : List Check) (body : Pend → Device → CmdEnd) (p : Pend) (s : Device) (st : Status) (d : Nat)
    (h : firstFail p.desc cs = some (st, d)) : checked cs body p s = .fail st d s := by
  unfold checked; rw [h]

/-! ## The parts that these operations leave as they were -/

theorem Touches.draws {s t : Device} (h : Touches s t) : t.draws = s.draws := by obtain ⟨_, _, _, _, rfl⟩ := h; rfl
theorem Touches.cfg {s t : Device} (h : Touches s t) : t.cfg = s.cfg := by obtain ⟨_, _, _, _, rfl⟩ := h; rfl
theorem Touches.dpt {s t : Device} (h : Touches s t) : t.dpt = s.dpt := by obtain ⟨_, _, _, _, rfl⟩ := h; rfl
theorem Touches.lpe {s t : Device} (h : Touches s t) : t.lpe = s.lpe := by obtain ⟨_, _, _, _, rfl⟩ := h; rfl
theorem Touches.trc {s t : Device} (h : Touches s t) : t.trc = s.trc := by obtain ⟨_, _, _, _, rfl⟩ := h; rfl
theorem Touches.adc {s t : Device} (h : Touches s t) : t.adc = s.adc := by obtain ⟨_, _, _, _, rfl⟩ := h; rfl
theorem Touches.dac {s t : Device} (h : Touches s t) : t.dac = s.dac := by obtain ⟨_, _, _, _, rfl⟩ := h; rfl
theorem Touches.dio {s t : Device} (h : Touches s t) : t.dio = s.dio := by obtain ⟨_, _, _, _, rfl⟩ := h; rfl
theorem Touches.tim {s t : Device} (h : Touches s t) : t.tim = s.tim := by obtain ⟨_, _, _, _, rfl⟩ := h; rfl
theorem Touches.ltn {s t : Device} (h : Touches s t) : t.ltn = s.ltn := by obtain ⟨_, _, _, _, rfl⟩ := h; rfl
theorem Touches.btr {s t : Device} (h : Touches s t) : t.btr = s.btr := by obtain ⟨_, _, _, _, rfl⟩ := h; rfl
theorem Touches.mem {s t : Device} (h : Touches s t) : t.mem = s.mem := by obtain ⟨_, _, _, _, rfl⟩ := h; rfl
theorem Touches.mot {s t : Device} (h : Touches s t) : t.mot = s.mot := by obtain ⟨_, _, _, _, rfl⟩ := h; rfl
theorem Touches.ccr {s t : Device} (h : Touches s t) : t.ccr = s.ccr := by obtain ⟨_, _, _, _, rfl⟩ := h; rfl
theorem Touches.eth {s t : Device} (h : Touches s t) : t.eth = s.eth := by obtain ⟨_, _, _, _, rfl⟩ := h; rfl
theorem Touches.sec {s t : Device} (h : Touches s t) : t.sec = s.sec := by obtain ⟨_, _, _, _, rfl⟩ := h; rfl
theorem Touches.pgm {s t : Device} (h : Touches s t) : t.pgm = s.pgm := by obtain ⟨_, _, _, _, rfl⟩ := h; rfl
theorem Touches.pai {s t : Device} (h : Touches s t) : t.pai = s.pai := by obtain ⟨_, _, _, _, rfl⟩ := h; rfl
theorem Touches.kep {s t : Device} (h : Touches s t) : t.kep = s.kep := by obtain ⟨_, _, _, _, rfl⟩ := h; rfl
theorem Touches.fbl {s t : Device} (h : Touches s t) : t.fbl = s.fbl := by obtain ⟨_, _, _, _, rfl⟩ := h; rfl
theorem Touches.can {s t : Device} (h : Touches s t) : t.can = s.can := by obtain ⟨_, _, _, _, rfl⟩ := h; rfl
theorem Touches.spr {s t : Device} (h : Touches s t) : t.spr = s.spr := by obtain ⟨_, _, _, _, rfl⟩ := h; rfl
theorem Touches.clk {s t : Device} (h : Touches s t) : t.clk = s.clk := by obtain ⟨_, _, _, _, rfl⟩ := h; rfl
theorem Touches.tst {s t : Device} (h : Touches s t) : t.tst = s.tst := by obtain ⟨_, _, _, _, rfl⟩ := h; rfl
theorem Touches.outputs {s t : Device} (h : Touches s t) : t.outputs = s.outputs := by obtain ⟨_, _, _, _, rfl⟩ := h; rfl
theorem Touches.reports {s t : Device} (h : Touches s t) : t.reports = s.reports := by obtain ⟨_, _, _, _, rfl⟩ := h; rfl
@[simp] theorem toHost_draws (x : Out) (s : Device) : (toHost x s).draws = s.draws := (toHost_touches x s).draws
@[simp] theorem toHost_cfg (x : Out) (s : Device) : (toHost x s).cfg = s.cfg := (toHost_touches x s).cfg
@[simp] theorem toHost_dpt (x : Out) (s : Device) : (toHost x s).dpt = s.dpt := (toHost_touches x s).dpt
@[simp] theorem toHost_lpe (x : Out) (s : Device) : (toHost x s).lpe = s.lpe := (toHost_touches x s).lpe
@[simp] theorem toHost_trc (x : Out) (s : Device) : (toHost x s).trc = s.trc := (toHost_touches x s).trc
@[simp] theorem toHost_adc (x : Out) (s : Device) : (toHost x s).adc = s.adc := (toHost_touches x s).adc
@[simp] theorem toHost_dac (x : Out) (s : Device) : (toHost x s).dac = s.dac := (toHost_touches x s).dac
@[simp] theorem toHost_dio (x : Out) (s : Device) : (toHost x s).dio = s.dio := (toHost_touches x s).dio
@[simp] theorem toHost_tim (x : Out) (s : Device) : (toHost x s).tim = s.tim := (toHost_touches x s).tim
@[simp] theorem toHost_ltn (x : Out) (s : Device) : (toHost x s).ltn = s.ltn := (toHost_touches x s).ltn
@[simp] theorem toHost_btr (x : Out) (s : Device) : (toHost x s).btr = s.btr := (toHost_touches x s).btr
@[simp] theorem toHost_mem (x : Out) (s : Device) : (toHost x s).mem = s.mem := (toHost_touches x s).mem
@[simp] theorem toHost_mot (x : Out) (s : Device) : (toHost x s).mot = s.mot := (toHost_touches x s).mot
@[simp] theorem toHost_ccr (x : Out) (s : Device) : (toHost x s).ccr = s.ccr := (toHost_touches x s).ccr
@[simp] theorem toHost_eth (x : Out) (s : Device) : (toHost x s).eth = s.eth := (toHost_touches x s).eth
@[simp] theorem toHost_sec (x : Out) (s : Device) : (toHost x s).sec = s.sec := (toHost_touches x s).sec
@[simp] theorem toHost_pgm (x : Out) (s : Device) : (toHost x s).pgm = s.pgm := (toHost_touches x s).pgm
@[simp] theorem toHost_pai (x : Out) (s : Device) : (toHost x s).pai = s.pai := (toHost_touches x s).pai
@[simp] theorem toHost_kep (x : Out) (s : Device) : (toHost x s).kep = s.kep := (toHost_touches x s).kep
@[simp] theorem toHost_fbl (x : Out) (s : Device) : (toHost x s).fbl = s.fbl := (toHost_touches x s).fbl
@[simp] theorem toHost_can (x : Out) (s : Device) : (toHost x s).can = s.can := (toHost_touches x s).can
@[simp] theorem toHost_spr (x : Out) (s : Device) : (toHost x s).spr = s.spr := (toHost_touches x s).spr
@[simp] theorem toHost_clk (x : Out) (s : Device) : (toHost x s).clk = s.clk := (toHost_touches x s).clk
@[simp] theorem toHost_tst (x : Out) (s : Device) : (toHost x s).tst = s.tst := (toHost_touches x s).tst
@[simp] theorem toHost_outputs (x : Out) (s : Device) : (toHost x s).outputs = s.outputs := (toHost_touches x s).outputs
@[simp] theorem toHost_reports (x : Out) (s : Device) : (toHost x s).reports = s.reports := (toHost_touches x s).reports
@[simp] theorem signalVector_draws (v : Nat) (s : Device) : (signalVector v s).draws = s.draws := (signalVector_touches v s).draws
@[simp] theorem signalVector_cfg (v : Nat) (s : Device) : (signalVector v s).cfg = s.cfg := (signalVector_touches v s).cfg
@[simp] theorem signalVector_dpt (v : Nat) (s : Device) : (signalVector v s).dpt = s.dpt := (signalVector_touches v s).dpt
@[simp] theorem signalVector_lpe (v : Nat) (s : Device) : (signalVector v s).lpe = s.lpe := (signalVector_touches v s).lpe
@[simp] theorem signalVector_trc (v : Nat) (s : Device) : (signalVector v s).trc = s.trc := (signalVector_touches v s).trc
@[simp] theorem signalVector_adc (v : Nat) (s : Device) : (signalVector v s).adc = s.adc := (signalVector_touches v s).adc
@[simp] theorem signalVector_dac (v : Nat) (s : Device) : (signalVector v s).dac = s.dac := (signalVector_touches v s).dac
@[simp] theorem signalVector_dio (v : Nat) (s : Device) : (signalVector v s).dio = s.dio := (signalVector_touches v s).dio
@[simp] theorem signalVector_tim (v : Nat) (s : Device) : (signalVector v s).tim = s.tim := (signalVector_touches v s).tim
@[simp] theorem signalVector_ltn (v : Nat) (s : Device) : (signalVector v s).ltn = s.ltn := (signalVector_touches v s).ltn
@[simp] theorem signalVector_btr (v : Nat) (s : Device) : (signalVector v s).btr = s.btr := (signalVector_touches v s).btr
@[simp] theorem signalVector_mem (v : Nat) (s : Device) : (signalVector v s).mem = s.mem := (signalVector_touches v s).mem
@[simp] theorem signalVector_mot (v : Nat) (s : Device) : (signalVector v s).mot = s.mot := (signalVector_touches v s).mot
@[simp] theorem signalVector_ccr (v : Nat) (s : Device) : (signalVector v s).ccr = s.ccr := (signalVector_touches v s).ccr
@[simp] theorem signalVector_eth (v : Nat) (s : Device) : (signalVector v s).eth = s.eth := (signalVector_touches v s).eth
@[simp] theorem signalVector_sec (v : Nat) (s : Device) : (signalVector v s).sec = s.sec := (signalVector_touches v s).sec
@[simp] theorem signalVector_pgm (v : Nat) (s : Device) : (signalVector v s).pgm = s.pgm := (signalVector_touches v s).pgm
@[simp] theorem signalVector_pai (v : Nat) (s : Device) : (signalVector v s).pai = s.pai := (signalVector_touches v s).pai
@[simp] theorem signalVector_kep (v : Nat) (s : Device) : (signalVector v s).kep = s.kep := (signalVector_touches v s).kep
@[simp] theorem signalVector_fbl (v : Nat) (s : Device) : (signalVector v s).fbl = s.fbl := (signalVector_touches v s).fbl
@[simp] theorem signalVector_can (v : Nat) (s : Device) : (signalVector v s).can = s.can := (signalVector_touches v s).can
@[simp] theorem signalVector_spr (v : Nat) (s : Device) : (signalVector v s).spr = s.spr := (signalVector_touches v s).spr
@[simp] theorem signalVector_clk (v : Nat) (s : Device) : (signalVector v s).clk = s.clk := (signalVector_touches v s).clk
@[simp] theorem signalVector_tst (v : Nat) (s : Device) : (signalVector v s).tst = s.tst := (signalVector_touches v s).tst
@[simp] theorem signalVector_outputs (v : Nat) (s : Device) : (signalVector v s).outputs = s.outputs := (signalVector_touches v s).outputs
@[simp] theorem signalVector_reports (v : Nat) (s : Device) : (signalVector v s).reports = s.reports := (signalVector_touches v s).reports
@[simp] theorem raise_draws (c : Nat) (fs : List (Nat × Nat)) (s : Device) : (raise c fs s).draws = s.draws := (raise_touches c fs s).draws
@[simp] theorem raise_cfg (c : Nat) (fs : List (Nat × Nat)) (s : Device) : (raise c fs s).cfg = s.cfg := (raise_touches c fs s).cfg
@[simp] theorem raise_dpt (c : Nat) (fs : List (Nat × Nat)) (s : Device) : (raise c fs s).dpt = s.dpt := (raise_touches c fs s).dpt
@[simp] theorem raise_lpe (c : Nat) (fs : List (Nat × Nat)) (s : Device) : (raise c fs s).lpe = s.lpe := (raise_touches c fs s).lpe
@[simp] theorem raise_trc (c : Nat) (fs : List (Nat × Nat)) (s : Device) : (raise c fs s).trc = s.trc := (raise_touches c fs s).trc
@[simp] theorem raise_adc (c : Nat) (fs : List (Nat × Nat)) (s : Device) : (raise c fs s).adc = s.adc := (raise_touches c fs s).adc
@[simp] theorem raise_dac (c : Nat) (fs : List (Nat × Nat)) (s : Device) : (raise c fs s).dac = s.dac := (raise_touches c fs s).dac
@[simp] theorem raise_dio (c : Nat) (fs : List (Nat × Nat)) (s : Device) : (raise c fs s).dio = s.dio := (raise_touches c fs s).dio
@[simp] theorem raise_tim (c : Nat) (fs : List (Nat × Nat)) (s : Device) : (raise c fs s).tim = s.tim := (raise_touches c fs s).tim
@[simp] theorem raise_ltn (c : Nat) (fs : List (Nat × Nat)) (s : Device) : (raise c fs s).ltn = s.ltn := (raise_touches c fs s).ltn
@[simp] theorem raise_btr (c : Nat) (fs : List (Nat × Nat)) (s : Device) : (raise c fs s).btr = s.btr := (raise_touches c fs s).btr
@[simp] theorem raise_mem (c : Nat) (fs : List (Nat × Nat)) (s : Device) : (raise c fs s).mem = s.mem := (raise_touches c fs s).mem
@[simp] theorem raise_mot (c : Nat) (fs : List (Nat × Nat)) (s : Device) : (raise c fs s).mot = s.mot := (raise_touches c fs s).mot
@[simp] theorem raise_ccr (c : Nat) (fs : List (Nat × Nat)) (s : Device) : (raise c fs s).ccr = s.ccr := (raise_touches c fs s).ccr
@[simp] theorem raise_eth (c : Nat) (fs : List (Nat × Nat)) (s : Device) : (raise c fs s).eth = s.eth := (raise_touches c fs s).eth
@[simp] theorem raise_sec (c : Nat) (fs : List (Nat × Nat)) (s : Device) : (raise c fs s).sec = s.sec := (raise_touches c fs s).sec
@[simp] theorem raise_pgm (c : Nat) (fs : List (Nat × Nat)) (s : Device) : (raise c fs s).pgm = s.pgm := (raise_touches c fs s).pgm
@[simp] theorem raise_pai (c : Nat) (fs : List (Nat × Nat)) (s : Device) : (raise c fs s).pai = s.pai := (raise_touches c fs s).pai
@[simp] theorem raise_kep (c : Nat) (fs : List (Nat × Nat)) (s : Device) : (raise c fs s).kep = s.kep := (raise_touches c fs s).kep
@[simp] theorem raise_fbl (c : Nat) (fs : List (Nat × Nat)) (s : Device) : (raise c fs s).fbl = s.fbl := (raise_touches c fs s).fbl
@[simp] theorem raise_can (c : Nat) (fs : List (Nat × Nat)) (s : Device) : (raise c fs s).can = s.can := (raise_touches c fs s).can
@[simp] theorem raise_spr (c : Nat) (fs : List (Nat × Nat)) (s : Device) : (raise c fs s).spr = s.spr := (raise_touches c fs s).spr
@[simp] theorem raise_clk (c : Nat) (fs : List (Nat × Nat)) (s : Device) : (raise c fs s).clk = s.clk := (raise_touches c fs s).clk
@[simp] theorem raise_tst (c : Nat) (fs : List (Nat × Nat)) (s : Device) : (raise c fs s).tst = s.tst := (raise_touches c fs s).tst
@[simp] theorem raise_outputs (c : Nat) (fs : List (Nat × Nat)) (s : Device) : (raise c fs s).outputs = s.outputs := (raise_touches c fs s).outputs
@[simp] theorem raise_reports (c : Nat) (fs : List (Nat × Nat)) (s : Device) : (raise c fs s).reports = s.reports := (raise_touches c fs s).reports
@[simp] theorem finish_draws (p : Pend) (st : Status) (d : Nat) (buf : List Byte) (s : Device) : (finish p st d buf s).draws = s.draws := (finish_touches p st d buf s).draws
@[simp] theorem finish_cfg (p : Pend) (st : Status) (d : Nat) (buf : List Byte) (s : Device) : (finish p st d buf s).cfg = s.cfg := (finish_touches p st d buf s).cfg
@[simp] theorem finish_dpt (p : Pend) (st : Status) (d : Nat) (buf : List Byte) (s : Device) : (finish p st d buf s).dpt = s.dpt := (finish_touches p st d buf s).dpt
@[simp] theorem finish_lpe (p : Pend) (st : Status) (d : Nat) (buf : List Byte) (s : Device) : (finish p st d buf s).lpe = s.lpe := (finish_touches p st d buf s).lpe
@[simp] theorem finish_trc (p : Pend) (st : Status) (d : Nat) (buf : List Byte) (s : Device) : (finish p st d buf s).trc = s.trc := (finish_touches p st d buf s).trc
@[simp] theorem finish_adc (p : Pend) (st : Status) (d : Nat) (buf : List Byte) (s : Device) : (finish p st d buf s).adc = s.adc := (finish_touches p st d buf s).adc
@[simp] theorem finish_dac (p : Pend) (st : Status) (d : Nat) (buf : List Byte) (s : Device) : (finish p st d buf s).dac = s.dac := (finish_touches p st d buf s).dac
@[simp] theorem finish_dio (p : Pend) (st : Status) (d : Nat) (buf : List Byte) (s : Device) : (finish p st d buf s).dio = s.dio := (finish_touches p st d buf s).dio
@[simp] theorem finish_tim (p : Pend) (st : Status) (d : Nat) (buf : List Byte) (s : Device) : (finish p st d buf s).tim = s.tim := (finish_touches p st d buf s).tim
@[simp] theorem finish_ltn (p : Pend) (st : Status) (d : Nat) (buf : List Byte) (s : Device) : (finish p st d buf s).ltn = s.ltn := (finish_touches p st d buf s).ltn
@[simp] theorem finish_btr (p : Pend) (st : Status) (d : Nat) (buf : List Byte) (s : Device) : (finish p st d buf s).btr = s.btr := (finish_touches p st d buf s).btr
@[simp] theorem finish_mem (p : Pend) (st : Status) (d : Nat) (buf : List Byte) (s : Device) : (finish p st d buf s).mem = s.mem := (finish_touches p st d buf s).mem
@[simp] theorem finish_mot (p : Pend) (st : Status) (d : Nat) (buf : List Byte) (s : Device) : (finish p st d buf s).mot = s.mot := (finish_touches p st d buf s).mot
@[simp] theorem finish_ccr (p : Pend) (st : Status) (d : Nat) (buf : List Byte) (s : Device) : (finish p st d buf s).ccr = s.ccr := (finish_touches p st d buf s).ccr
@[simp] theorem finish_eth (p : Pend) (st : Status) (d : Nat) (buf : List Byte) (s : Device) : (finish p st d buf s).eth = s.eth := (finish_touches p st d buf s).eth
@[simp] theorem finish_sec (p : Pend) (st : Status) (d : Nat) (buf : List Byte) (s : Device) : (finish p st d buf s).sec = s.sec := (finish_touches p st d buf s).sec
@[simp] theorem finish_pgm (p : Pend) (st : Status) (d : Nat) (buf : List Byte) (s : Device) : (finish p st d buf s).pgm = s.pgm := (finish_touches p st d buf s).pgm
@[simp] theorem finish_pai (p : Pend) (st : Status) (d : Nat) (buf : List Byte) (s : Device) : (finish p st d buf s).pai = s.pai := (finish_touches p st d buf s).pai
@[simp] theorem finish_kep (p : Pend) (st : Status) (d : Nat) (buf : List Byte) (s : Device) : (finish p st d buf s).kep = s.kep := (finish_touches p st d buf s).kep
@[simp] theorem finish_fbl (p : Pend) (st : Status) (d : Nat) (buf : List Byte) (s : Device) : (finish p st d buf s).fbl = s.fbl := (finish_touches p st d buf s).fbl
@[simp] theorem finish_can (p : Pend) (st : Status) (d : Nat) (buf : List Byte) (s : Device) : (finish p st d buf s).can = s.can := (finish_touches p st d buf s).can
@[simp] theorem finish_spr (p : Pend) (st : Status) (d : Nat) (buf : List Byte) (s : Device) : (finish p st d buf s).spr = s.spr := (finish_touches p st d buf s).spr
@[simp] theorem finish_clk (p : Pend) (st : Status) (d : Nat) (buf : List Byte) (s : Device) : (finish p st d buf s).clk = s.clk := (finish_touches p st d buf s).clk
@[simp] theorem finish_tst (p : Pend) (st : Status) (d : Nat) (buf : List Byte) (s : Device) : (finish p st d buf s).tst = s.tst := (finish_touches p st d buf s).tst
@[simp] theorem finish_outputs (p : Pend) (st : Status) (d : Nat) (buf : List Byte) (s : Device) : (finish p st d buf s).outputs = s.outputs := (finish_touches p st d buf s).outputs
@[simp] theorem finish_reports (p : Pend) (st : Status) (d : Nat) (buf : List Byte) (s : Device) : (finish p st d buf s).reports = s.reports := (finish_touches p st d buf s).reports
@[simp] theorem handBack_draws (n : Nat) (s : Device) : (handBack n s).draws = s.draws := (handBack_touches n s).draws
@[simp] theorem handBack_cfg (n : Nat) (s : Device) : (handBack n s).cfg = s.cfg := (handBack_touches n s).cfg
@[simp] theorem handBack_dpt (n : Nat) (s : Device) : (handBack n s).dpt = s.dpt := (handBack_touches n s).dpt
@[simp] theorem handBack_lpe (n : Nat) (s : Device) : (handBack n s).lpe = s.lpe := (handBack_touches n s).lpe
@[simp] theorem handBack_trc (n : Nat) (s : Device) : (handBack n s).trc = s.trc := (handBack_touches n s).trc
@[simp] theorem handBack_adc (n : Nat) (s : Device) : (handBack n s).adc = s.adc := (handBack_touches n s).adc
@[simp] theorem handBack_dac (n : Nat) (s : Device) : (handBack n s).dac = s.dac := (handBack_touches n s).dac
@[simp] theorem handBack_dio (n : Nat) (s : Device) : (handBack n s).dio = s.dio := (handBack_touches n s).dio
@[simp] theorem handBack_tim (n : Nat) (s : Device) : (handBack n s).tim = s.tim := (handBack_touches n s).tim
@[simp] theorem handBack_ltn (n : Nat) (s : Device) : (handBack n s).ltn = s.ltn := (handBack_touches n s).ltn
@[simp] theorem handBack_btr (n : Nat) (s : Device) : (handBack n s).btr = s.btr := (handBack_touches n s).btr
@[simp] theorem handBack_mem (n : Nat) (s : Device) : (handBack n s).mem = s.mem := (handBack_touches n s).mem
@[simp] theorem handBack_mot (n : Nat) (s : Device) : (handBack n s).mot = s.mot := (handBack_touches n s).mot
@[simp] theorem handBack_ccr (n : Nat) (s : Device) : (handBack n s).ccr = s.ccr := (handBack_touches n s).ccr
@[simp] theorem handBack_eth (n : Nat) (s : Device) : (handBack n s).eth = s.eth := (handBack_touches n s).eth
@[simp] theorem handBack_sec (n : Nat) (s : Device) : (handBack n s).sec = s.sec := (handBack_touches n s).sec
@[simp] theorem handBack_pgm (n : Nat) (s : Device) : (handBack n s).pgm = s.pgm := (handBack_touches n s).pgm
@[simp] theorem handBack_pai (n : Nat) (s : Device) : (handBack n s).pai = s.pai := (handBack_touches n s).pai
@[simp] theorem handBack_kep (n : Nat) (s : Device) : (handBack n s).kep = s.kep := (handBack_touches n s).kep
@[simp] theorem handBack_fbl (n : Nat) (s : Device) : (handBack n s).fbl = s.fbl := (handBack_touches n s).fbl
@[simp] theorem handBack_can (n : Nat) (s : Device) : (handBack n s).can = s.can := (handBack_touches n s).can
@[simp] theorem handBack_spr (n : Nat) (s : Device) : (handBack n s).spr = s.spr := (handBack_touches n s).spr
@[simp] theorem handBack_clk (n : Nat) (s : Device) : (handBack n s).clk = s.clk := (handBack_touches n s).clk
@[simp] theorem handBack_tst (n : Nat) (s : Device) : (handBack n s).tst = s.tst := (handBack_touches n s).tst
@[simp] theorem handBack_outputs (n : Nat) (s : Device) : (handBack n s).outputs = s.outputs := (handBack_touches n s).outputs
@[simp] theorem handBack_reports (n : Nat) (s : Device) : (handBack n s).reports = s.reports := (handBack_touches n s).reports
@[simp] theorem starve_draws (n : Nat) (s : Device) : (starve n s).draws = s.draws := (starve_touches n s).draws
@[simp] theorem starve_cfg (n : Nat) (s : Device) : (starve n s).cfg = s.cfg := (starve_touches n s).cfg
@[simp] theorem starve_dpt (n : Nat) (s : Device) : (starve n s).dpt = s.dpt := (starve_touches n s).dpt
@[simp] theorem starve_lpe (n : Nat) (s : Device) : (starve n s).lpe = s.lpe := (starve_touches n s).lpe
@[simp] theorem starve_trc (n : Nat) (s : Device) : (starve n s).trc = s.trc := (starve_touches n s).trc
@[simp] theorem starve_adc (n : Nat) (s : Device) : (starve n s).adc = s.adc := (starve_touches n s).adc
@[simp] theorem starve_dac (n : Nat) (s : Device) : (starve n s).dac = s.dac := (starve_touches n s).dac
@[simp] theorem starve_dio (n : Nat) (s : Device) : (starve n s).dio = s.dio := (starve_touches n s).dio
@[simp] theorem starve_tim (n : Nat) (s : Device) : (starve n s).tim = s.tim := (starve_touches n s).tim
@[simp] theorem starve_ltn (n : Nat) (s : Device) : (starve n s).ltn = s.ltn := (starve_touches n s).ltn
@[simp] theorem starve_btr (n : Nat) (s : Device) : (starve n s).btr = s.btr := (starve_touches n s).btr
@[simp] theorem starve_mem (n : Nat) (s : Device) : (starve n s).mem = s.mem := (starve_touches n s).mem
@[simp] theorem starve_mot (n : Nat) (s : Device) : (starve n s).mot = s.mot := (starve_touches n s).mot
@[simp] theorem starve_ccr (n : Nat) (s : Device) : (starve n s).ccr = s.ccr := (starve_touches n s).ccr
@[simp] theorem starve_eth (n : Nat) (s : Device) : (starve n s).eth = s.eth := (starve_touches n s).eth
@[simp] theorem starve_sec (n : Nat) (s : Device) : (starve n s).sec = s.sec := (starve_touches n s).sec
@[simp] theorem starve_pgm (n : Nat) (s : Device) : (starve n s).pgm = s.pgm := (starve_touches n s).pgm
@[simp] theorem starve_pai (n : Nat) (s : Device) : (starve n s).pai = s.pai := (starve_touches n s).pai
@[simp] theorem starve_kep (n : Nat) (s : Device) : (starve n s).kep = s.kep := (starve_touches n s).kep
@[simp] theorem starve_fbl (n : Nat) (s : Device) : (starve n s).fbl = s.fbl := (starve_touches n s).fbl
@[simp] theorem starve_can (n : Nat) (s : Device) : (starve n s).can = s.can := (starve_touches n s).can
@[simp] theorem starve_spr (n : Nat) (s : Device) : (starve n s).spr = s.spr := (starve_touches n s).spr
@[simp] theorem starve_clk (n : Nat) (s : Device) : (starve n s).clk = s.clk := (starve_touches n s).clk
@[simp] theorem starve_tst (n : Nat) (s : Device) : (starve n s).tst = s.tst := (starve_touches n s).tst
@[simp] theorem starve_outputs (n : Nat) (s : Device) : (starve n s).outputs = s.outputs := (starve_touches n s).outputs
@[simp] theorem starve_reports (n : Nat) (s : Device) : (starve n s).reports = s.reports := (starve_touches n s).reports
@[simp] theorem pushRecord_draws (n typ : Nat) (t : Option STime) (bs : List Byte) (s : Device) : (pushRecord n typ t bs s).2.draws = s.draws := (pushRecord_touches n typ t bs s).draws
@[simp] theorem pushRecord_cfg (n typ : Nat) (t : Option STime) (bs : List Byte) (s : Device) : (pushRecord n typ t bs s).2.cfg = s.cfg := (pushRecord_touches n typ t bs s).cfg
@[simp] theorem pushRecord_dpt (n typ : Nat) (t : Option STime) (bs : List Byte) (s : Device) : (pushRecord n typ t bs s).2.dpt = s.dpt := (pushRecord_touches n typ t bs s).dpt
@[simp] theorem pushRecord_lpe (n typ : Nat) (t : Option STime) (bs : List Byte) (s : Device) : (pushRecord n typ t bs s).2.lpe = s.lpe := (pushRecord_touches n typ t bs s).lpe
@[simp] theorem pushRecord_trc (n typ : Nat) (t : Option STime) (bs : List Byte) (s : Device) : (pushRecord n typ t bs s).2.trc = s.trc := (pushRecord_touches n typ t bs s).trc
@[simp] theorem pushRecord_adc (n typ : Nat) (t : Option STime) (bs : List Byte) (s : Device) : (pushRecord n typ t bs s).2.adc = s.adc := (pushRecord_touches n typ t bs s).adc
@[simp] theorem pushRecord_dac (n typ : Nat) (t : Option STime) (bs : List Byte) (s : Device) : (pushRecord n typ t bs s).2.dac = s.dac := (pushRecord_touches n typ t bs s).dac
@[simp] theorem pushRecord_dio (n typ : Nat) (t : Option STime) (bs : List Byte) (s : Device) : (pushRecord n typ t bs s).2.dio = s.dio := (pushRecord_touches n typ t bs s).dio
@[simp] theorem pushRecord_tim (n typ : Nat) (t : Option STime) (bs : List Byte) (s : Device) : (pushRecord n typ t bs s).2.tim = s.tim := (pushRecord_touches n typ t bs s).tim
@[simp] theorem pushRecord_ltn (n typ : Nat) (t : Option STime) (bs : List Byte) (s : Device) : (pushRecord n typ t bs s).2.ltn = s.ltn := (pushRecord_touches n typ t bs s).ltn
@[simp] theorem pushRecord_btr (n typ : Nat) (t : Option STime) (bs : List Byte) (s : Device) : (pushRecord n typ t bs s).2.btr = s.btr := (pushRecord_touches n typ t bs s).btr
@[simp] theorem pushRecord_mem (n typ : Nat) (t : Option STime) (bs : List Byte) (s : Device) : (pushRecord n typ t bs s).2.mem = s.mem := (pushRecord_touches n typ t bs s).mem
@[simp] theorem pushRecord_mot (n typ : Nat) (t : Option STime) (bs : List Byte) (s : Device) : (pushRecord n typ t bs s).2.mot = s.mot := (pushRecord_touches n typ t bs s).mot
@[simp] theorem pushRecord_ccr (n typ : Nat) (t : Option STime) (bs : List Byte) (s : Device) : (pushRecord n typ t bs s).2.ccr = s.ccr := (pushRecord_touches n typ t bs s).ccr
@[simp] theorem pushRecord_eth (n typ : Nat) (t : Option STime) (bs : List Byte) (s : Device) : (pushRecord n typ t bs s).2.eth = s.eth := (pushRecord_touches n typ t bs s).eth
@[simp] theorem pushRecord_sec (n typ : Nat) (t : Option STime) (bs : List Byte) (s : Device) : (pushRecord n typ t bs s).2.sec = s.sec := (pushRecord_touches n typ t bs s).sec
@[simp] theorem pushRecord_pgm (n typ : Nat) (t : Option STime) (bs : List Byte) (s : Device) : (pushRecord n typ t bs s).2.pgm = s.pgm := (pushRecord_touches n typ t bs s).pgm
@[simp] theorem pushRecord_pai (n typ : Nat) (t : Option STime) (bs : List Byte) (s : Device) : (pushRecord n typ t bs s).2.pai = s.pai := (pushRecord_touches n typ t bs s).pai
@[simp] theorem pushRecord_kep (n typ : Nat) (t : Option STime) (bs : List Byte) (s : Device) : (pushRecord n typ t bs s).2.kep = s.kep := (pushRecord_touches n typ t bs s).kep
@[simp] theorem pushRecord_fbl (n typ : Nat) (t : Option STime) (bs : List Byte) (s : Device) : (pushRecord n typ t bs s).2.fbl = s.fbl := (pushRecord_touches n typ t bs s).fbl
@[simp] theorem pushRecord_can (n typ : Nat) (t : Option STime) (bs : List Byte) (s : Device) : (pushRecord n typ t bs s).2.can = s.can := (pushRecord_touches n typ t bs s).can
@[simp] theorem pushRecord_spr (n typ : Nat) (t : Option STime) (bs : List Byte) (s : Device) : (pushRecord n typ t bs s).2.spr = s.spr := (pushRecord_touches n typ t bs s).spr
@[simp] theorem pushRecord_clk (n typ : Nat) (t : Option STime) (bs : List Byte) (s : Device) : (pushRecord n typ t bs s).2.clk = s.clk := (pushRecord_touches n typ t bs s).clk
@[simp] theorem pushRecord_tst (n typ : Nat) (t : Option STime) (bs : List Byte) (s : Device) : (pushRecord n typ t bs s).2.tst = s.tst := (pushRecord_touches n typ t bs s).tst
@[simp] theorem pushRecord_outputs (n typ : Nat) (t : Option STime) (bs : List Byte) (s : Device) : (pushRecord n typ t bs s).2.outputs = s.outputs := (pushRecord_touches n typ t bs s).outputs
@[simp] theorem pushRecord_reports (n typ : Nat) (t : Option STime) (bs : List Byte) (s : Device) : (pushRecord n typ t bs s).2.reports = s.reports := (pushRecord_touches n typ t bs s).reports

end Sys2Proof.Laws
end

