-- ==== Sys2Proof/Laws/Saf.lean ====
section
/-!
SUPPORT. Laws/Saf.lean: what leaves the Belfry state as it was. One lemma per function of the model outside Machine/Saf.lean
that answers a device and writes nothing of `saf`, true at every argument; a simp set over the predicate `KeepsSaf`.
-/
namespace Sys2Proof.Machine

/-- The block as a command leaves it, completed or waiting. -/
def CmdEnd.dev : CmdEnd → Device
  | .done _ _ _ s => s
  | .wait s => s
end Sys2Proof.Machine
namespace Sys2Proof.Laws
open Sys2Proof Sys2Proof.Machine

/-- The Belfry state of `t` is that of `s`. -/
def KeepsSaf (s t : Device) : Prop := t.saf = s.saf
theorem KeepsSaf.refl (s : Device) : KeepsSaf s s := rfl
theorem KeepsSaf.iff {s t u : Device} (h : KeepsSaf t u) : KeepsSaf s u ↔ KeepsSaf s t := by
  unfold KeepsSaf at *; rw [h]
@[simp] theorem KeepsSaf_self (s : Device) : KeepsSaf s s ↔ True := ⟨fun _ => trivial, fun _ => rfl⟩
@[simp] theorem KeepsSaf_eq (s t : Device) : t.saf = s.saf ↔ KeepsSaf s t := Iff.rfl
@[simp] theorem KeepsSaf_mk (s : Device) x0 x1 x2 x3 x4 x5 x6 x7 x8 x9 x10 x11 x12 x13 x14 x15 x16 x17 x18 x19 x20 x21 x22 x23 x24 x25 x26 x27 x28 x29 x30 : KeepsSaf s (Device.mk x0 x1 x2 x3 x4 x5 x6 x7 x8 x9 x10 x11 x12 x13 x14 x15 x16 x17 x18 x19 x20 x21 x22 x23 x24 x25 x26 x27 x28 x29 x30) ↔ x25 = s.saf := Iff.rfl
theorem KeepsSaf.ite {c : Prop} [Decidable c] {s x y : Device} (h1 : KeepsSaf s x) (h2 : KeepsSaf s y) : KeepsSaf s (if c then x else y) := by
  split <;> assumption
theorem KeepsSaf.foldl {α : Type} {s : Device} (g : Device → α → Device) (l : List α) (t : Device) (h : ∀ u x, KeepsSaf u (g u x))
    (ht : KeepsSaf s t) : KeepsSaf s (l.foldl g t) := by
  induction l generalizing t with
  | nil => exact ht
  | cons x r ih => exact ih _ ((h t x).iff.mpr ht)
@[simp] theorem KeepsSaf_done (s : Device) (st : Status) (d : Nat) (bs : List Byte) (t : Device) : KeepsSaf s (CmdEnd.done st d bs t).dev ↔ KeepsSaf s t := Iff.rfl
@[simp] theorem KeepsSaf_wait (s t : Device) : KeepsSaf s (CmdEnd.wait t).dev ↔ KeepsSaf s t := Iff.rfl
@[simp] theorem KeepsSaf_fail (s : Device) (st : Status) (d : Nat) (t : Device) : KeepsSaf s (CmdEnd.fail st d t).dev ↔ KeepsSaf s t := Iff.rfl
theorem KeepsSaf.checked {s : Device} (cs : List Check) (body : Pend → Device → CmdEnd) (p : Pend) (t : Device)
    (h : ∀ p u, KeepsSaf u (body p u).dev) (ht : KeepsSaf s t) : KeepsSaf s (checked cs body p t).dev := by
  unfold Machine.checked; split
  · exact ht
  · exact (h p t).iff.mpr ht
@[simp] theorem KeepsSaf_ite {c : Prop} [Decidable c] (s x y : Device) :
    KeepsSaf s (if c then x else y) ↔ (c → KeepsSaf s x) ∧ (¬ c → KeepsSaf s y) := by
  split <;> simp [*]
@[simp] theorem KeepsSaf_iteEnd {c : Prop} [Decidable c] (s : Device) (x y : CmdEnd) :
    KeepsSaf s (if c then x else y).dev ↔ (c → KeepsSaf s x.dev) ∧ (¬ c → KeepsSaf s y.dev) := by
  split <;> simp [*]
@[simp] theorem KeepsSaf_ite2 {α : Type} {c : Prop} [Decidable c] (s : Device) (x y : α × Device) :
    KeepsSaf s (if c then x else y).2 ↔ (c → KeepsSaf s x.2) ∧ (¬ c → KeepsSaf s y.2) := by
  split <;> simp [*]
@[simp] theorem KeepsSaf_foldl {α : Type} (s : Device) (g : Device → α → Device) (l : List α) (t : Device)
    (h : ∀ u x, KeepsSaf u (g u x)) : KeepsSaf s (l.foldl g t) ↔ KeepsSaf s t :=
  (KeepsSaf.foldl g l t h (KeepsSaf.refl t)).iff
@[simp] theorem KeepsSaf_checked (s : Device) (cs : List Check) (body : Pend → Device → CmdEnd) (p : Pend) (t : Device)
    (h : ∀ p u, KeepsSaf u (body p u).dev) : KeepsSaf s (checked cs body p t).dev ↔ KeepsSaf s t :=
  (KeepsSaf.checked cs body p t h (KeepsSaf.refl t)).iff
@[simp] theorem pmcTick_keepsSaf (s0 : Device) (s : Device) : KeepsSaf s0 (Machine.pmcTick s) ↔ KeepsSaf s0 s := by
  refine KeepsSaf.iff ?_
  unfold Machine.pmcTick
  simp
@[simp] theorem clockCycle_keepsSaf (s0 : Device) (s : Device) : KeepsSaf s0 (Machine.clockCycle s) ↔ KeepsSaf s0 s := by
  refine KeepsSaf.iff ?_
  unfold Machine.clockCycle
  simp
@[simp] theorem admitActivity_keepsSaf (s0 : Device) (code : Nat) (kind : Nat) (unit : Nat) (cause : Nat) (spare : Option Nat) (s : Device) : KeepsSaf s0 (Machine.admitActivity code kind unit cause spare s).2 ↔ KeepsSaf s0 s := by
  refine KeepsSaf.iff ?_
  unfold Machine.admitActivity
  split <;> simp
@[simp] theorem pmcEdge_keepsSaf (s0 : Device) (blk : Nat) (sig : Nat) (idx : Nat) (s : Device) : KeepsSaf s0 (Machine.pmcEdge blk sig idx s) ↔ KeepsSaf s0 s := by
  refine KeepsSaf.iff ?_
  unfold Machine.pmcEdge
  simp
@[simp] theorem evEnqueue_keepsSaf (s0 : Device) (w : EvWait) (s : Device) : KeepsSaf s0 (Machine.evEnqueue w s) ↔ KeepsSaf s0 s := by
  refine KeepsSaf.iff ?_
  unfold Machine.evEnqueue
  simp
@[simp] theorem issueSummary_keepsSaf (s0 : Device) (code : Nat) (t : STime) (s : Device) : KeepsSaf s0 (Machine.issueSummary code t s) ↔ KeepsSaf s0 s := by
  refine KeepsSaf.iff ?_
  unfold Machine.issueSummary
  split <;> simp
@[simp] theorem raiseAt_keepsSaf (s0 : Device) (t : STime) (code : Nat) (pl : List Byte) (s : Device) : KeepsSaf s0 (Machine.raiseAt t code pl s) ↔ KeepsSaf s0 s := by
  refine KeepsSaf.iff ?_
  unfold Machine.raiseAt
  simp
@[simp] theorem modVec_keepsSaf (s0 : Device) (v : Nat) (f : Vector → Vector) (s : Device) : KeepsSaf s0 (Machine.modVec v f s) ↔ KeepsSaf s0 s := by
  refine KeepsSaf.iff ?_
  unfold Machine.modVec
  simp
@[simp] theorem pmcEdges_keepsSaf (s0 : Device) (blk : Nat) (sig : Nat) (idx : Nat) (k : Nat) (s : Device) : KeepsSaf s0 (Machine.pmcEdges blk sig idx k s) ↔ KeepsSaf s0 s := by
  refine KeepsSaf.iff ?_
  unfold Machine.pmcEdges
  simp
@[simp] theorem sendHost_keepsSaf (s0 : Device) (s : Device) (o : Out) : KeepsSaf s0 (Machine.sendHost s o) ↔ KeepsSaf s0 s := by
  refine KeepsSaf.iff ?_
  unfold Machine.sendHost
  simp
@[simp] theorem toHost_keepsSaf (s0 : Device) (o : Out) (s : Device) : KeepsSaf s0 (Machine.toHost o s) ↔ KeepsSaf s0 s := by
  refine KeepsSaf.iff ?_
  unfold Machine.toHost
  simp
@[simp] theorem fireVector_keepsSaf (s0 : Device) (v : Nat) (s : Device) : KeepsSaf s0 (Machine.fireVector v s) ↔ KeepsSaf s0 s := by
  refine KeepsSaf.iff ?_
  unfold Machine.fireVector
  simp
@[simp] theorem signalVector_keepsSaf (s0 : Device) (v : Nat) (s : Device) : KeepsSaf s0 (Machine.signalVector v s) ↔ KeepsSaf s0 s := by
  refine KeepsSaf.iff ?_
  unfold Machine.signalVector
  simp
@[simp] theorem raise_keepsSaf (s0 : Device) (code : Nat) (fields : List (Nat × Nat)) (s : Device) : KeepsSaf s0 (Machine.raise code fields s) ↔ KeepsSaf s0 s := by
  refine KeepsSaf.iff ?_
  unfold Machine.raise
  simp
theorem fillLanes_saf0 (x0 : Nat) (x1 : Device) : KeepsSaf x1 (Machine.fillLanes x0 x1) := by
  induction x0 generalizing x1 with
  | zero => unfold Machine.fillLanes; simp
  | succ m ih =>
    have ih' : ∀ (s0 : Device) (x10 : Device), KeepsSaf s0 (Machine.fillLanes m x10) ↔ KeepsSaf s0 x10 := fun _ x10 => (ih x10).iff
    unfold Machine.fillLanes
    repeat' (first
    | with_reducible exact KeepsSaf.refl _
    | (simp [ih']; done)
    | (with_reducible refine KeepsSaf.ite ?_ ?_)
    | (with_reducible refine KeepsSaf.foldl _ _ _ ?_ ?_; intro u x)
    | (with_reducible refine KeepsSaf.checked _ _ _ _ ?_ ?_; intro p u)
    | (with_reducible refine (spireWrite_keepsSaf _ _ _ ?_).mpr ?_; intro u)
    | (with_reducible refine (domeWrite_keepsSaf _ _ _ ?_).mpr ?_; intro u)
    | (with_reducible refine (underRec_keepsSaf _ _ _ _ _ _ _ ?_).mpr ?_; intro b u)
    | (with_reducible refine (keepWrite_keepsSaf _ _ _ _ ?_).mpr ?_; intro u)
    | (split <;> (try (rename_i h; replace h := congrArg Prod.snd h; dsimp only at h; subst h)))
    | simp [ih'])
@[simp] theorem fillLanes_keepsSaf (s0 : Device) (x0 : Nat) (x1 : Device) : KeepsSaf s0 (Machine.fillLanes x0 x1) ↔ KeepsSaf s0 x1 := (fillLanes_saf0 x0 x1).iff
@[simp] theorem draw_keepsSaf (s0 : Device) (s : Device) : KeepsSaf s0 (Machine.draw s).2 ↔ KeepsSaf s0 s := by
  refine KeepsSaf.iff ?_
  unfold Machine.draw
  simp
@[simp] theorem poolNotice_keepsSaf (s0 : Device) (pool : Nat) (s : Device) : KeepsSaf s0 (Machine.poolNotice pool s) ↔ KeepsSaf s0 s := by
  refine KeepsSaf.iff ?_
  unfold Machine.poolNotice
  split <;> simp
@[simp] theorem retestLoad_keepsSaf (s0 : Device) (s : Device) : KeepsSaf s0 (Machine.retestLoad s) ↔ KeepsSaf s0 s := by
  refine KeepsSaf.iff ?_
  unfold Machine.retestLoad
  split <;> simp
@[simp] theorem refillLanes_keepsSaf (s0 : Device) (before : Nat) (s : Device) : KeepsSaf s0 (Machine.refillLanes before s) ↔ KeepsSaf s0 s := by
  refine KeepsSaf.iff ?_
  unfold Machine.refillLanes
  simp
@[simp] theorem startSwap_keepsSaf (s0 : Device) (kind : Nat) (unit : Nat) (cause : Nat) (s : Device) : KeepsSaf s0 (Machine.startSwap kind unit cause s).2 ↔ KeepsSaf s0 s := by
  refine KeepsSaf.iff ?_
  unfold Machine.startSwap
  repeat' (first
    | with_reducible exact KeepsSaf.refl _
    | (simp; done)
    | (with_reducible refine KeepsSaf.ite ?_ ?_)
    | (with_reducible refine KeepsSaf.foldl _ _ _ ?_ ?_; intro u x)
    | (with_reducible refine KeepsSaf.checked _ _ _ _ ?_ ?_; intro p u)
    | (with_reducible refine (spireWrite_keepsSaf _ _ _ ?_).mpr ?_; intro u)
    | (with_reducible refine (domeWrite_keepsSaf _ _ _ ?_).mpr ?_; intro u)
    | (with_reducible refine (underRec_keepsSaf _ _ _ _ _ _ _ ?_).mpr ?_; intro b u)
    | (with_reducible refine (keepWrite_keepsSaf _ _ _ _ ?_).mpr ?_; intro u)
    | (split <;> (try (rename_i h; replace h := congrArg Prod.snd h; dsimp only at h; subst h)))
    | intro _
    | simp)
theorem resubmit_saf0 (x0 : List Nat) (x1 : Device) : KeepsSaf x1 (Machine.resubmit x0 x1) := by
  induction x0 generalizing x1 with
  | nil => unfold Machine.resubmit; simp
  | cons a m ih =>
    have ih' : ∀ (s0 : Device) (x10 : Device), KeepsSaf s0 (Machine.resubmit m x10) ↔ KeepsSaf s0 x10 := fun _ x10 => (ih x10).iff
    unfold Machine.resubmit
    repeat' (first
    | with_reducible exact KeepsSaf.refl _
    | (simp [ih']; done)
    | (with_reducible refine KeepsSaf.ite ?_ ?_)
    | (with_reducible refine KeepsSaf.foldl _ _ _ ?_ ?_; intro u x)
    | (with_reducible refine KeepsSaf.checked _ _ _ _ ?_ ?_; intro p u)
    | (with_reducible refine (spireWrite_keepsSaf _ _ _ ?_).mpr ?_; intro u)
    | (with_reducible refine (domeWrite_keepsSaf _ _ _ ?_).mpr ?_; intro u)
    | (with_reducible refine (underRec_keepsSaf _ _ _ _ _ _ _ ?_).mpr ?_; intro b u)
    | (with_reducible refine (keepWrite_keepsSaf _ _ _ _ ?_).mpr ?_; intro u)
    | (split <;> (try (rename_i h; replace h := congrArg Prod.snd h; dsimp only at h; subst h)))
    | simp [ih'])
@[simp] theorem resubmit_keepsSaf (s0 : Device) (x0 : List Nat) (x1 : Device) : KeepsSaf s0 (Machine.resubmit x0 x1) ↔ KeepsSaf s0 x1 := (resubmit_saf0 x0 x1).iff
@[simp] theorem endActivity_keepsSaf (s0 : Device) (slot : Nat) (status : Nat) (s : Device) : KeepsSaf s0 (Machine.endActivity slot status s) ↔ KeepsSaf s0 s := by
  refine KeepsSaf.iff ?_
  unfold Machine.endActivity
  split <;> simp
@[simp] theorem endOf_keepsSaf (s0 : Device) (code : Nat) (kind : Nat) (unit : Nat) (status : Nat) (s : Device) : KeepsSaf s0 (Machine.endOf code kind unit status s) ↔ KeepsSaf s0 s := by
  refine KeepsSaf.iff ?_
  unfold Machine.endOf
  split <;> simp
@[simp] theorem modConv_keepsSaf (s0 : Device) (c : Nat) (f : Conv → Conv) (s : Device) : KeepsSaf s0 (Machine.modConv c f s) ↔ KeepsSaf s0 s := by
  refine KeepsSaf.iff ?_
  unfold Machine.modConv
  simp
@[simp] theorem okWith_keepsSaf (s0 : Device) (detail : Nat) (s : Device) : KeepsSaf s0 (Machine.okWith detail s).dev ↔ KeepsSaf s0 s := by
  refine KeepsSaf.iff ?_
  unfold Machine.okWith
  simp
@[simp] theorem adcCalibrate_keepsSaf (s0 : Device) (p : Pend) (s : Device) : KeepsSaf s0 (Machine.adcCalibrate p s).dev ↔ KeepsSaf s0 s := by
  refine KeepsSaf.iff ?_
  unfold Machine.adcCalibrate
  repeat' (first
    | with_reducible exact KeepsSaf.refl _
    | (simp; done)
    | (with_reducible refine KeepsSaf.ite ?_ ?_)
    | (with_reducible refine KeepsSaf.foldl _ _ _ ?_ ?_; intro u x)
    | (with_reducible refine KeepsSaf.checked _ _ _ _ ?_ ?_; intro p u)
    | (with_reducible refine (spireWrite_keepsSaf _ _ _ ?_).mpr ?_; intro u)
    | (with_reducible refine (domeWrite_keepsSaf _ _ _ ?_).mpr ?_; intro u)
    | (with_reducible refine (underRec_keepsSaf _ _ _ _ _ _ _ ?_).mpr ?_; intro b u)
    | (with_reducible refine (keepWrite_keepsSaf _ _ _ _ ?_).mpr ?_; intro u)
    | (split <;> (try (rename_i h; replace h := congrArg Prod.snd h; dsimp only at h; subst h)))
    | intro _
    | simp)
@[simp] theorem modRing_keepsSaf (s0 : Device) (n : Nat) (f : Ring → Ring) (s : Device) : KeepsSaf s0 (Machine.modRing n f s) ↔ KeepsSaf s0 s := by
  refine KeepsSaf.iff ?_
  unfold Machine.modRing
  simp
@[simp] theorem haltRing_keepsSaf (s0 : Device) (n : Nat) (idx : Nat) (st : Status) (s : Device) : KeepsSaf s0 (Machine.haltRing n idx st s) ↔ KeepsSaf s0 s := by
  refine KeepsSaf.iff ?_
  unfold Machine.haltRing
  simp
@[simp] theorem writeCompletion_keepsSaf (s0 : Device) (n : Nat) (tag : Nat) (int_ : Bool) (st : Status) (detail : Nat) (s : Device) : KeepsSaf s0 (Machine.writeCompletion n tag int_ st detail s) ↔ KeepsSaf s0 s := by
  refine KeepsSaf.iff ?_
  unfold Machine.writeCompletion
  simp
@[simp] theorem writeLateCompletion_keepsSaf (s0 : Device) (p : Pend) (st : Status) (detail : Nat) (s : Device) : KeepsSaf s0 (Machine.writeLateCompletion p st detail s) ↔ KeepsSaf s0 s := by
  refine KeepsSaf.iff ?_
  unfold Machine.writeLateCompletion
  simp
@[simp] theorem finish_keepsSaf (s0 : Device) (p : Pend) (st : Status) (detail : Nat) (buf : List Byte) (s : Device) : KeepsSaf s0 (Machine.finish p st detail buf s) ↔ KeepsSaf s0 s := by
  refine KeepsSaf.iff ?_
  unfold Machine.finish
  simp
@[simp] theorem adcClear_keepsSaf (s0 : Device) (p : Pend) (s : Device) : KeepsSaf s0 (Machine.adcClear p s).dev ↔ KeepsSaf s0 s := by
  refine KeepsSaf.iff ?_
  unfold Machine.adcClear
  simp
@[simp] theorem hazard_keepsSaf (s0 : Device) (off : Nat) (s : Device) : KeepsSaf s0 (Machine.hazard off s) ↔ KeepsSaf s0 s := by
  refine KeepsSaf.iff ?_
  unfold Machine.hazard
  simp
@[simp] theorem modChan_keepsSaf (s0 : Device) (n : Nat) (f : AdcChan → AdcChan) (s : Device) : KeepsSaf s0 (Machine.modChan n f s) ↔ KeepsSaf s0 s := by
  refine KeepsSaf.iff ?_
  unfold Machine.modChan
  simp
@[simp] theorem rangeWrite_keepsSaf (s0 : Device) (n : Nat) (v : Nat) (s : Device) : KeepsSaf s0 (Machine.rangeWrite n v s) ↔ KeepsSaf s0 s := by
  refine KeepsSaf.iff ?_
  unfold Machine.rangeWrite
  simp
@[simp] theorem okBuf_keepsSaf (s0 : Device) (detail : Nat) (buf : List Byte) (s : Device) : KeepsSaf s0 (Machine.okBuf detail buf s).dev ↔ KeepsSaf s0 s := by
  refine KeepsSaf.iff ?_
  unfold Machine.okBuf
  simp
@[simp] theorem readCal_keepsSaf (s0 : Device) (p : Pend) (s : Device) : KeepsSaf s0 (Machine.readCal p s).dev ↔ KeepsSaf s0 s := by
  refine KeepsSaf.iff ?_
  unfold Machine.readCal
  simp
@[simp] theorem urgentRequest_keepsSaf (s0 : Device) (c : Nat) (chan : Nat) (p : Option Pend) (s : Device) : KeepsSaf s0 (Machine.urgentRequest c chan p s).2 ↔ KeepsSaf s0 s := by
  refine KeepsSaf.iff ?_
  unfold Machine.urgentRequest
  simp
@[simp] theorem adcUrgent_keepsSaf (s0 : Device) (p : Pend) (s : Device) : KeepsSaf s0 (Machine.adcUrgent p s).dev ↔ KeepsSaf s0 s := by
  refine KeepsSaf.iff ?_
  unfold Machine.adcUrgent
  repeat' (first
    | with_reducible exact KeepsSaf.refl _
    | (simp; done)
    | (with_reducible refine KeepsSaf.ite ?_ ?_)
    | (with_reducible refine KeepsSaf.foldl _ _ _ ?_ ?_; intro u x)
    | (with_reducible refine KeepsSaf.checked _ _ _ _ ?_ ?_; intro p u)
    | (with_reducible refine (spireWrite_keepsSaf _ _ _ ?_).mpr ?_; intro u)
    | (with_reducible refine (domeWrite_keepsSaf _ _ _ ?_).mpr ?_; intro u)
    | (with_reducible refine (underRec_keepsSaf _ _ _ _ _ _ _ ?_).mpr ?_; intro b u)
    | (with_reducible refine (keepWrite_keepsSaf _ _ _ _ ?_).mpr ?_; intro u)
    | (split <;> (try (rename_i h; replace h := congrArg Prod.snd h; dsimp only at h; subst h)))
    | intro _
    | simp)
@[simp] theorem urgentTimeout_keepsSaf (s0 : Device) (c : Nat) (s : Device) : KeepsSaf s0 (Machine.urgentTimeout c s) ↔ KeepsSaf s0 s := by
  refine KeepsSaf.iff ?_
  unfold Machine.urgentTimeout
  repeat' (first
    | with_reducible exact KeepsSaf.refl _
    | (simp; done)
    | (with_reducible refine KeepsSaf.ite ?_ ?_)
    | (with_reducible refine KeepsSaf.foldl _ _ _ ?_ ?_; intro u x)
    | (with_reducible refine KeepsSaf.checked _ _ _ _ ?_ ?_; intro p u)
    | (with_reducible refine (spireWrite_keepsSaf _ _ _ ?_).mpr ?_; intro u)
    | (with_reducible refine (domeWrite_keepsSaf _ _ _ ?_).mpr ?_; intro u)
    | (with_reducible refine (underRec_keepsSaf _ _ _ _ _ _ _ ?_).mpr ?_; intro b u)
    | (with_reducible refine (keepWrite_keepsSaf _ _ _ _ ?_).mpr ?_; intro u)
    | (split <;> (try (rename_i h; replace h := congrArg Prod.snd h; dsimp only at h; subst h)))
    | intro _
    | simp)
@[simp] theorem strobeCopy_keepsSaf (s0 : Device) (s : Device) : KeepsSaf s0 (Machine.strobeCopy s) ↔ KeepsSaf s0 s := by
  refine KeepsSaf.iff ?_
  unfold Machine.strobeCopy
  simp
@[simp] theorem strobeRate_keepsSaf (s0 : Device) (s : Device) : KeepsSaf s0 (Machine.strobeRate s) ↔ KeepsSaf s0 s := by
  refine KeepsSaf.iff ?_
  unfold Machine.strobeRate
  repeat' (first
    | with_reducible exact KeepsSaf.refl _
    | (simp; done)
    | (with_reducible refine KeepsSaf.ite ?_ ?_)
    | (with_reducible refine KeepsSaf.foldl _ _ _ ?_ ?_; intro u x)
    | (with_reducible refine KeepsSaf.checked _ _ _ _ ?_ ?_; intro p u)
    | (with_reducible refine (spireWrite_keepsSaf _ _ _ ?_).mpr ?_; intro u)
    | (with_reducible refine (domeWrite_keepsSaf _ _ _ ?_).mpr ?_; intro u)
    | (with_reducible refine (underRec_keepsSaf _ _ _ _ _ _ _ ?_).mpr ?_; intro b u)
    | (with_reducible refine (keepWrite_keepsSaf _ _ _ _ ?_).mpr ?_; intro u)
    | (split <;> (try (rename_i h; replace h := congrArg Prod.snd h; dsimp only at h; subst h)))
    | intro _
    | simp)
@[simp] theorem stepped_keepsSaf (s0 : Device) (step : Nat) (cause : Nat) (s : Device) : KeepsSaf s0 (Machine.stepped step cause s) ↔ KeepsSaf s0 s := by
  refine KeepsSaf.iff ?_
  unfold Machine.stepped
  simp
@[simp] theorem setTimeStep_keepsSaf (s0 : Device) (g : SetTime) (s : Device) : KeepsSaf s0 (Machine.setTimeStep g s) ↔ KeepsSaf s0 s := by
  refine KeepsSaf.iff ?_
  unfold Machine.setTimeStep
  simp
@[simp] theorem strobeSteps_keepsSaf (s0 : Device) (s : Device) : KeepsSaf s0 (Machine.strobeSteps s) ↔ KeepsSaf s0 s := by
  refine KeepsSaf.iff ?_
  unfold Machine.strobeSteps
  repeat' (first
    | with_reducible exact KeepsSaf.refl _
    | (simp; done)
    | (with_reducible refine KeepsSaf.ite ?_ ?_)
    | (with_reducible refine KeepsSaf.foldl _ _ _ ?_ ?_; intro u x)
    | (with_reducible refine KeepsSaf.checked _ _ _ _ ?_ ?_; intro p u)
    | (with_reducible refine (spireWrite_keepsSaf _ _ _ ?_).mpr ?_; intro u)
    | (with_reducible refine (domeWrite_keepsSaf _ _ _ ?_).mpr ?_; intro u)
    | (with_reducible refine (underRec_keepsSaf _ _ _ _ _ _ _ ?_).mpr ?_; intro b u)
    | (with_reducible refine (keepWrite_keepsSaf _ _ _ _ ?_).mpr ?_; intro u)
    | (split <;> (try (rename_i h; replace h := congrArg Prod.snd h; dsimp only at h; subst h)))
    | intro _
    | simp)
@[simp] theorem alignmentStrobe_keepsSaf (s0 : Device) (s : Device) : KeepsSaf s0 (Machine.alignmentStrobe s) ↔ KeepsSaf s0 s := by
  refine KeepsSaf.iff ?_
  unfold Machine.alignmentStrobe
  simp
@[simp] theorem modDom_keepsSaf (s0 : Device) (d : Nat) (f : TimDomain → TimDomain) (s : Device) : KeepsSaf s0 (Machine.modDom d f s) ↔ KeepsSaf s0 s := by
  refine KeepsSaf.iff ?_
  unfold Machine.modDom
  simp
@[simp] theorem takeTime_keepsSaf (s0 : Device) (t : RxFrame → Bool) (s : Device) : KeepsSaf s0 (Machine.takeTime t s).2 ↔ KeepsSaf s0 s := by
  refine KeepsSaf.iff ?_
  unfold Machine.takeTime
  simp
@[simp] theorem announceReceive_keepsSaf (s0 : Device) (d : Nat) (s : Device) : KeepsSaf s0 (Machine.announceReceive d s) ↔ KeepsSaf s0 s := by
  refine KeepsSaf.iff ?_
  unfold Machine.announceReceive
  split <;> rename_i h <;> first | (simp; done) | (replace h := congrArg Prod.snd h; dsimp only at h; subst h; simp)
@[simp] theorem atPpsTimeout_keepsSaf (s0 : Device) (s : Device) : KeepsSaf s0 (Machine.atPpsTimeout s) ↔ KeepsSaf s0 s := by
  refine KeepsSaf.iff ?_
  unfold Machine.atPpsTimeout
  split <;> simp
@[simp] theorem loadPgm_keepsSaf (s0 : Device) (s : Device) : KeepsSaf s0 (Machine.loadPgm s) ↔ KeepsSaf s0 s := by
  refine KeepsSaf.iff ?_
  unfold Machine.loadPgm
  simp
@[simp] theorem sprResume_keepsSaf (s0 : Device) (s : Device) : KeepsSaf s0 (Machine.sprResume s) ↔ KeepsSaf s0 s := by
  refine KeepsSaf.iff ?_
  unfold Machine.sprResume
  simp
@[simp] theorem resumed_keepsSaf (s0 : Device) (s : Device) : KeepsSaf s0 (Machine.resumed s) ↔ KeepsSaf s0 s := by
  refine KeepsSaf.iff ?_
  unfold Machine.resumed
  simp
@[simp] theorem evrLinkUp_keepsSaf (s0 : Device) (s : Device) : KeepsSaf s0 (Machine.evrLinkUp s) ↔ KeepsSaf s0 s := by
  refine KeepsSaf.iff ?_
  unfold Machine.evrLinkUp
  simp
@[simp] theorem spireStarted_keepsSaf (s0 : Device) (s : Device) : KeepsSaf s0 (Machine.spireStarted s) ↔ KeepsSaf s0 s := by
  refine KeepsSaf.iff ?_
  unfold Machine.spireStarted
  simp
@[simp] theorem bootDone_keepsSaf (s0 : Device) (device : Bool) (s : Device) : KeepsSaf s0 (Machine.bootDone device s) ↔ KeepsSaf s0 s := by
  refine KeepsSaf.iff ?_
  unfold Machine.bootDone
  simp
@[simp] theorem holdSpire_keepsSaf (s0 : Device) (s : Device) : KeepsSaf s0 (Machine.holdSpire s) ↔ KeepsSaf s0 s := by
  refine KeepsSaf.iff ?_
  unfold Machine.holdSpire
  simp
@[simp] theorem lastGaspPut_keepsSaf (s0 : Device) (r : EvRec) (s : Device) : KeepsSaf s0 (Machine.lastGaspPut r s) ↔ KeepsSaf s0 s := by
  refine KeepsSaf.iff ?_
  unfold Machine.lastGaspPut
  simp
@[simp] theorem bootFailed_keepsSaf (s0 : Device) (kind : Nat) (s : Device) : KeepsSaf s0 (Machine.bootFailed kind s) ↔ KeepsSaf s0 s := by
  refine KeepsSaf.iff ?_
  unfold Machine.bootFailed
  simp
@[simp] theorem useImage_keepsSaf (s0 : Device) (kind : Nat) (slot : Nat) (fallback : Bool) (img : List Byte) (s : Device) : KeepsSaf s0 (Machine.useImage kind slot fallback img s) ↔ KeepsSaf s0 s := by
  refine KeepsSaf.iff ?_
  unfold Machine.useImage
  simp
@[simp] theorem bootKind_keepsSaf (s0 : Device) (imgs : List (Nat × Nat × List Byte)) (kind : Nat) (s : Device) : KeepsSaf s0 (Machine.bootKind imgs kind s).2 ↔ KeepsSaf s0 s := by
  refine KeepsSaf.iff ?_
  unfold Machine.bootKind
  repeat' (first
    | with_reducible exact KeepsSaf.refl _
    | (simp; done)
    | (with_reducible refine KeepsSaf.ite ?_ ?_)
    | (with_reducible refine KeepsSaf.foldl _ _ _ ?_ ?_; intro u x)
    | (with_reducible refine KeepsSaf.checked _ _ _ _ ?_ ?_; intro p u)
    | (with_reducible refine (spireWrite_keepsSaf _ _ _ ?_).mpr ?_; intro u)
    | (with_reducible refine (domeWrite_keepsSaf _ _ _ ?_).mpr ?_; intro u)
    | (with_reducible refine (underRec_keepsSaf _ _ _ _ _ _ _ ?_).mpr ?_; intro b u)
    | (with_reducible refine (keepWrite_keepsSaf _ _ _ _ ?_).mpr ?_; intro u)
    | (split <;> (try (rename_i h; replace h := congrArg Prod.snd h; dsimp only at h; subst h)))
    | intro _
    | simp)
theorem bootKinds_saf0 (imgs : List (Nat × Nat × List Byte)) (x0 : List Nat) (x1 : Device) : KeepsSaf x1 (Machine.bootKinds imgs x0 x1).2 := by
  induction x0 generalizing x1 with
  | nil => unfold Machine.bootKinds; simp
  | cons a m ih =>
    have ih' : ∀ (s0 : Device) (x10 : Device), KeepsSaf s0 (Machine.bootKinds imgs m x10).2 ↔ KeepsSaf s0 x10 := fun _ x10 => (ih x10).iff
    unfold Machine.bootKinds
    repeat' (first
    | with_reducible exact KeepsSaf.refl _
    | (simp [ih']; done)
    | (with_reducible refine KeepsSaf.ite ?_ ?_)
    | (with_reducible refine KeepsSaf.foldl _ _ _ ?_ ?_; intro u x)
    | (with_reducible refine KeepsSaf.checked _ _ _ _ ?_ ?_; intro p u)
    | (with_reducible refine (spireWrite_keepsSaf _ _ _ ?_).mpr ?_; intro u)
    | (with_reducible refine (domeWrite_keepsSaf _ _ _ ?_).mpr ?_; intro u)
    | (with_reducible refine (underRec_keepsSaf _ _ _ _ _ _ _ ?_).mpr ?_; intro b u)
    | (with_reducible refine (keepWrite_keepsSaf _ _ _ _ ?_).mpr ?_; intro u)
    | (split <;> (try (rename_i h; replace h := congrArg Prod.snd h; dsimp only at h; subst h)))
    | simp [ih'])
@[simp] theorem bootKinds_keepsSaf (s0 : Device) (imgs : List (Nat × Nat × List Byte)) (x0 : List Nat) (x1 : Device) : KeepsSaf s0 (Machine.bootKinds imgs x0 x1).2 ↔ KeepsSaf s0 x1 := (bootKinds_saf0 imgs x0 x1).iff
@[simp] theorem bootVerify_keepsSaf (s0 : Device) (dirs : List (List Byte)) (imgs : List (Nat × Nat × List Byte)) (s : Device) :
    KeepsSaf s0 (bootVerify dirs imgs s) ↔ KeepsSaf s0 s := by
  refine KeepsSaf.iff ?_
  unfold bootVerify
  refine KeepsSaf.ite (KeepsSaf.refl _) (KeepsSaf.ite (by simp) ?_)
  dsimp only
  generalize hk : bootKinds imgs _ _ = r
  have h := congrArg (fun r => KeepsSaf s r.2) hk
  simp only [bootKinds_keepsSaf] at h
  rcases r with ⟨b, t⟩
  have h2 : KeepsSaf s t := by
    rw [← h]
    rcases chooseDirectory dirs with _ | ⟨g, d⟩ <;> exact KeepsSaf.refl _
  cases b
  · exact h2
  · simpa using h2
@[simp] theorem modCtl_keepsSaf (s0 : Device) (n : Nat) (f : CanCtl → CanCtl) (s : Device) : KeepsSaf s0 (Machine.modCtl n f s) ↔ KeepsSaf s0 s := by
  refine KeepsSaf.iff ?_
  unfold Machine.modCtl
  simp
@[simp] theorem busOffDone_keepsSaf (s0 : Device) (n : Nat) (s : Device) : KeepsSaf s0 (Machine.busOffDone n s) ↔ KeepsSaf s0 s := by
  refine KeepsSaf.iff ?_
  unfold Machine.busOffDone
  simp
@[simp] theorem tapBypass_keepsSaf (s0 : Device) (code : Nat) (s : Device) : KeepsSaf s0 (Machine.tapBypass code s) ↔ KeepsSaf s0 s := by
  refine KeepsSaf.iff ?_
  unfold Machine.tapBypass
  simp
@[simp] theorem handover_keepsSaf (s0 : Device) (c : Nat) (p : Nat) (s : Device) : KeepsSaf s0 (Machine.handover c p s) ↔ KeepsSaf s0 s := by
  refine KeepsSaf.iff ?_
  unfold Machine.handover
  simp
@[simp] theorem beginScan_keepsSaf (s0 : Device) (c : Nat) (s : Device) : KeepsSaf s0 (Machine.beginScan c s) ↔ KeepsSaf s0 s := by
  refine KeepsSaf.iff ?_
  unfold Machine.beginScan
  simp
@[simp] theorem scanBoundary_keepsSaf (s0 : Device) (c : Nat) (s : Device) : KeepsSaf s0 (Machine.scanBoundary c s) ↔ KeepsSaf s0 s := by
  refine KeepsSaf.iff ?_
  unfold Machine.scanBoundary
  simp
@[simp] theorem calHandback_keepsSaf (s0 : Device) (c : Nat) (s : Device) : KeepsSaf s0 (Machine.calHandback c s).2 ↔ KeepsSaf s0 s := by
  refine KeepsSaf.iff ?_
  unfold Machine.calHandback
  repeat' (first
    | with_reducible exact KeepsSaf.refl _
    | (simp; done)
    | (with_reducible refine KeepsSaf.ite ?_ ?_)
    | (with_reducible refine KeepsSaf.foldl _ _ _ ?_ ?_; intro u x)
    | (with_reducible refine KeepsSaf.checked _ _ _ _ ?_ ?_; intro p u)
    | (with_reducible refine (spireWrite_keepsSaf _ _ _ ?_).mpr ?_; intro u)
    | (with_reducible refine (domeWrite_keepsSaf _ _ _ ?_).mpr ?_; intro u)
    | (with_reducible refine (underRec_keepsSaf _ _ _ _ _ _ _ ?_).mpr ?_; intro b u)
    | (with_reducible refine (keepWrite_keepsSaf _ _ _ _ ?_).mpr ?_; intro u)
    | (split <;> (try (rename_i h; replace h := congrArg Prod.snd h; dsimp only at h; subst h)))
    | intro _
    | simp)
@[simp] theorem calibrationHandback_keepsSaf (s0 : Device) (c : Nat) (s : Device) : KeepsSaf s0 (Machine.calibrationHandback c s) ↔ KeepsSaf s0 s := by
  refine KeepsSaf.iff ?_
  unfold Machine.calibrationHandback
  split <;> rename_i h <;> first | (simp; done) | (replace h := congrArg Prod.snd h; dsimp only at h; subst h; simp)
@[simp] theorem calFit_keepsSaf (s0 : Device) (c : Nat) (ofs16 : Int) (g : Nat) (noise : Nat) (s : Device) : KeepsSaf s0 (Machine.calFit c ofs16 g noise s) ↔ KeepsSaf s0 s := by
  refine KeepsSaf.iff ?_
  unfold Machine.calFit
  repeat' split
  all_goals simp
@[simp] theorem calTakeover_keepsSaf (s0 : Device) (c : Nat) (s : Device) : KeepsSaf s0 (Machine.calTakeover c s) ↔ KeepsSaf s0 s := by
  refine KeepsSaf.iff ?_
  unfold Machine.calTakeover
  repeat' (first
    | with_reducible exact KeepsSaf.refl _
    | (simp; done)
    | (with_reducible refine KeepsSaf.ite ?_ ?_)
    | (with_reducible refine KeepsSaf.foldl _ _ _ ?_ ?_; intro u x)
    | (with_reducible refine KeepsSaf.checked _ _ _ _ ?_ ?_; intro p u)
    | (with_reducible refine (spireWrite_keepsSaf _ _ _ ?_).mpr ?_; intro u)
    | (with_reducible refine (domeWrite_keepsSaf _ _ _ ?_).mpr ?_; intro u)
    | (with_reducible refine (underRec_keepsSaf _ _ _ _ _ _ _ ?_).mpr ?_; intro b u)
    | (with_reducible refine (keepWrite_keepsSaf _ _ _ _ ?_).mpr ?_; intro u)
    | (split <;> (try (rename_i h; replace h := congrArg Prod.snd h; dsimp only at h; subst h)))
    | intro _
    | simp)
@[simp] theorem calibrationTakeover_keepsSaf (s0 : Device) (c : Nat) (s : Device) : KeepsSaf s0 (Machine.calibrationTakeover c s) ↔ KeepsSaf s0 s := by
  refine KeepsSaf.iff ?_
  unfold Machine.calibrationTakeover
  simp
@[simp] theorem canBusIdle_keepsSaf (s0 : Device) (n : Nat) (s : Device) : KeepsSaf s0 (Machine.canBusIdle n s) ↔ KeepsSaf s0 s := by
  refine KeepsSaf.iff ?_
  unfold Machine.canBusIdle
  repeat' (first
    | with_reducible exact KeepsSaf.refl _
    | (simp; done)
    | (with_reducible refine KeepsSaf.ite ?_ ?_)
    | (with_reducible refine KeepsSaf.foldl _ _ _ ?_ ?_; intro u x)
    | (with_reducible refine KeepsSaf.checked _ _ _ _ ?_ ?_; intro p u)
    | (with_reducible refine (spireWrite_keepsSaf _ _ _ ?_).mpr ?_; intro u)
    | (with_reducible refine (domeWrite_keepsSaf _ _ _ ?_).mpr ?_; intro u)
    | (with_reducible refine (underRec_keepsSaf _ _ _ _ _ _ _ ?_).mpr ?_; intro b u)
    | (with_reducible refine (keepWrite_keepsSaf _ _ _ _ ?_).mpr ?_; intro u)
    | (split <;> (try (rename_i h; replace h := congrArg Prod.snd h; dsimp only at h; subst h)))
    | intro _
    | simp)
@[simp] theorem canClear_keepsSaf (s0 : Device) (p : Pend) (s : Device) : KeepsSaf s0 (Machine.canClear p s).dev ↔ KeepsSaf s0 s := by
  refine KeepsSaf.iff ?_
  unfold Machine.canClear
  simp
theorem domeWrite_keepsSaf (s0 : Device) (f : Device → Device) (s : Device) (h : ∀ u, KeepsSaf u (f u)) :
    KeepsSaf s0 (domeWrite f s) ↔ KeepsSaf s0 s := by
  have h2 : KeepsSaf s (domeWrite f s) := by
    unfold domeWrite
    exact KeepsSaf.ite (KeepsSaf.refl s) (h s)
  exact h2.iff
@[simp] theorem canEnWrite_keepsSaf (s0 : Device) (v : Nat) (s : Device) : KeepsSaf s0 (Machine.canEnWrite v s) ↔ KeepsSaf s0 s := by
  refine KeepsSaf.iff ?_
  unfold Machine.canEnWrite
  repeat' (first
    | with_reducible exact KeepsSaf.refl _
    | (simp; done)
    | (with_reducible refine KeepsSaf.ite ?_ ?_)
    | (with_reducible refine KeepsSaf.foldl _ _ _ ?_ ?_; intro u x)
    | (with_reducible refine KeepsSaf.checked _ _ _ _ ?_ ?_; intro p u)
    | (with_reducible refine (spireWrite_keepsSaf _ _ _ ?_).mpr ?_; intro u)
    | (with_reducible refine (domeWrite_keepsSaf _ _ _ ?_).mpr ?_; intro u)
    | (with_reducible refine (underRec_keepsSaf _ _ _ _ _ _ _ ?_).mpr ?_; intro b u)
    | (with_reducible refine (keepWrite_keepsSaf _ _ _ _ ?_).mpr ?_; intro u)
    | (split <;> (try (rename_i h; replace h := congrArg Prod.snd h; dsimp only at h; subst h)))
    | intro _
    | simp)
@[simp] theorem canErrors_keepsSaf (s0 : Device) (n : Nat) (s : Device) : KeepsSaf s0 (Machine.canErrors n s) ↔ KeepsSaf s0 s := by
  refine KeepsSaf.iff ?_
  unfold Machine.canErrors
  repeat' (first
    | with_reducible exact KeepsSaf.refl _
    | (simp; done)
    | (with_reducible refine KeepsSaf.ite ?_ ?_)
    | (with_reducible refine KeepsSaf.foldl _ _ _ ?_ ?_; intro u x)
    | (with_reducible refine KeepsSaf.checked _ _ _ _ ?_ ?_; intro p u)
    | (with_reducible refine (spireWrite_keepsSaf _ _ _ ?_).mpr ?_; intro u)
    | (with_reducible refine (domeWrite_keepsSaf _ _ _ ?_).mpr ?_; intro u)
    | (with_reducible refine (underRec_keepsSaf _ _ _ _ _ _ _ ?_).mpr ?_; intro b u)
    | (with_reducible refine (keepWrite_keepsSaf _ _ _ _ ?_).mpr ?_; intro u)
    | (split <;> (try (rename_i h; replace h := congrArg Prod.snd h; dsimp only at h; subst h)))
    | intro _
    | simp)
@[simp] theorem canRec'_keepsSaf (s0 : Device) (n : Nat) (f : CanRx) (s : Device) : KeepsSaf s0 (Machine.canRec' n f s) ↔ KeepsSaf s0 s := by
  refine KeepsSaf.iff ?_
  unfold Machine.canRec'
  split <;> simp
@[simp] theorem canReference_keepsSaf (s0 : Device) (n : Nat) (f : CanRx) (s : Device) : KeepsSaf s0 (Machine.canReference n f s) ↔ KeepsSaf s0 s := by
  refine KeepsSaf.iff ?_
  unfold Machine.canReference
  simp
@[simp] theorem modWin_keepsSaf (s0 : Device) (w : Nat) (f : Window → Window) (s : Device) : KeepsSaf s0 (Machine.modWin w f s) ↔ KeepsSaf s0 s := by
  refine KeepsSaf.iff ?_
  unfold Machine.modWin
  simp
@[simp] theorem handBack_keepsSaf (s0 : Device) (n : Nat) (s : Device) : KeepsSaf s0 (Machine.handBack n s) ↔ KeepsSaf s0 s := by
  refine KeepsSaf.iff ?_
  unfold Machine.handBack
  simp
@[simp] theorem starve_keepsSaf (s0 : Device) (n : Nat) (s : Device) : KeepsSaf s0 (Machine.starve n s) ↔ KeepsSaf s0 s := by
  refine KeepsSaf.iff ?_
  unfold Machine.starve
  simp
@[simp] theorem pushRecord_keepsSaf (s0 : Device) (n : Nat) (typ : Nat) (t : Option STime) (bs : List Byte) (s : Device) : KeepsSaf s0 (Machine.pushRecord n typ t bs s).2 ↔ KeepsSaf s0 s := by
  refine KeepsSaf.iff ?_
  unfold Machine.pushRecord
  simp
theorem canFlush_saf0 (n : Nat) (x0 : Nat) (x1 : Device) : KeepsSaf x1 (Machine.canFlush n x0 x1) := by
  induction x0 generalizing x1 with
  | zero => unfold Machine.canFlush; simp
  | succ m ih =>
    have ih' : ∀ (s0 : Device) (x10 : Device), KeepsSaf s0 (Machine.canFlush n m x10) ↔ KeepsSaf s0 x10 := fun _ x10 => (ih x10).iff
    unfold Machine.canFlush
    repeat' (first
    | with_reducible exact KeepsSaf.refl _
    | (simp [ih']; done)
    | (with_reducible refine KeepsSaf.ite ?_ ?_)
    | (with_reducible refine KeepsSaf.foldl _ _ _ ?_ ?_; intro u x)
    | (with_reducible refine KeepsSaf.checked _ _ _ _ ?_ ?_; intro p u)
    | (with_reducible refine (spireWrite_keepsSaf _ _ _ ?_).mpr ?_; intro u)
    | (with_reducible refine (domeWrite_keepsSaf _ _ _ ?_).mpr ?_; intro u)
    | (with_reducible refine (underRec_keepsSaf _ _ _ _ _ _ _ ?_).mpr ?_; intro b u)
    | (with_reducible refine (keepWrite_keepsSaf _ _ _ _ ?_).mpr ?_; intro u)
    | (split <;> (try (rename_i h; replace h := congrArg Prod.snd h; dsimp only at h; subst h)))
    | simp [ih'])
@[simp] theorem canFlush_keepsSaf (s0 : Device) (n : Nat) (x0 : Nat) (x1 : Device) : KeepsSaf s0 (Machine.canFlush n x0 x1) ↔ KeepsSaf s0 x1 := (canFlush_saf0 n x0 x1).iff
@[simp] theorem canToHost_keepsSaf (s0 : Device) (n : Nat) (filter : Nat) (f : CanRx) (s : Device) : KeepsSaf s0 (Machine.canToHost n filter f s) ↔ KeepsSaf s0 s := by
  refine KeepsSaf.iff ?_
  unfold Machine.canToHost
  simp
@[simp] theorem launchToken_keepsSaf (s0 : Device) (t : Token) (s : Device) : KeepsSaf s0 (Machine.launchToken t s) ↔ KeepsSaf s0 s := by
  refine KeepsSaf.iff ?_
  unfold Machine.launchToken
  simp
@[simp] theorem sendToken_keepsSaf (s0 : Device) (t : Token) (s : Device) : KeepsSaf s0 (Machine.sendToken t s) ↔ KeepsSaf s0 s := by
  refine KeepsSaf.iff ?_
  unfold Machine.sendToken
  simp
@[simp] theorem canToken_keepsSaf (s0 : Device) (n : Nat) (k : Nat) (f : CanRx) (r : List Byte) (s : Device) : KeepsSaf s0 (Machine.canToken n k f r s) ↔ KeepsSaf s0 s := by
  refine KeepsSaf.iff ?_
  unfold Machine.canToken
  simp
@[simp] theorem versionDrop_keepsSaf (s0 : Device) (blk : Nat) (version : Nat) (s : Device) : KeepsSaf s0 (Machine.versionDrop blk version s) ↔ KeepsSaf s0 s := by
  refine KeepsSaf.iff ?_
  unfold Machine.versionDrop
  simp
theorem underRec_keepsSaf (s0 : Device) (blk kind obj : Nat) (t : STime) (f : List Byte → Device → Device) (s : Device)
    (h : ∀ b u, KeepsSaf u (f b u)) : KeepsSaf s0 (underRec blk kind obj t f s) ↔ KeepsSaf s0 s := by
  have h2 : KeepsSaf s (underRec blk kind obj t f s) := by
    unfold underRec
    split
    · exact h _ s
    · exact KeepsSaf.ite (by simp) (KeepsSaf.refl s)
  exact h2.iff
@[simp] theorem canReceive_keepsSaf (s0 : Device) (n : Nat) (f : CanRx) (s : Device) : KeepsSaf s0 (Machine.canReceive n f s) ↔ KeepsSaf s0 s := by
  refine KeepsSaf.iff ?_
  unfold Machine.canReceive
  repeat' (first
    | with_reducible exact KeepsSaf.refl _
    | (simp; done)
    | (with_reducible refine KeepsSaf.ite ?_ ?_)
    | (with_reducible refine KeepsSaf.foldl _ _ _ ?_ ?_; intro u x)
    | (with_reducible refine KeepsSaf.checked _ _ _ _ ?_ ?_; intro p u)
    | (with_reducible refine (spireWrite_keepsSaf _ _ _ ?_).mpr ?_; intro u)
    | (with_reducible refine (domeWrite_keepsSaf _ _ _ ?_).mpr ?_; intro u)
    | (with_reducible refine (underRec_keepsSaf _ _ _ _ _ _ _ ?_).mpr ?_; intro b u)
    | (with_reducible refine (keepWrite_keepsSaf _ _ _ _ ?_).mpr ?_; intro u)
    | (split <;> (try (rename_i h; replace h := congrArg Prod.snd h; dsimp only at h; subst h)))
    | intro _
    | simp)
@[simp] theorem canRecover_keepsSaf (s0 : Device) (p : Pend) (s : Device) : KeepsSaf s0 (Machine.canRecover p s).dev ↔ KeepsSaf s0 s := by
  refine KeepsSaf.iff ?_
  unfold Machine.canRecover
  simp
@[simp] theorem canSetMode_keepsSaf (s0 : Device) (p : Pend) (s : Device) : KeepsSaf s0 (Machine.canSetMode p s).dev ↔ KeepsSaf s0 s := by
  refine KeepsSaf.iff ?_
  unfold Machine.canSetMode
  simp
@[simp] theorem canQueue_keepsSaf (s0 : Device) (n : Nat) (w : Nat) (f : CanFrame) (s : Device) : KeepsSaf s0 (Machine.canQueue n w f s) ↔ KeepsSaf s0 s := by
  refine KeepsSaf.iff ?_
  unfold Machine.canQueue
  simp
@[simp] theorem readSegment_keepsSaf (s0 : Device) (n : Nat) (g : HostSeg) (s : Device) : KeepsSaf s0 (Machine.readSegment n g s).2 ↔ KeepsSaf s0 s := by
  refine KeepsSaf.iff ?_
  unfold Machine.readSegment
  repeat' (first
    | with_reducible exact KeepsSaf.refl _
    | (simp; done)
    | (with_reducible refine KeepsSaf.ite ?_ ?_)
    | (with_reducible refine KeepsSaf.foldl _ _ _ ?_ ?_; intro u x)
    | (with_reducible refine KeepsSaf.checked _ _ _ _ ?_ ?_; intro p u)
    | (with_reducible refine (spireWrite_keepsSaf _ _ _ ?_).mpr ?_; intro u)
    | (with_reducible refine (domeWrite_keepsSaf _ _ _ ?_).mpr ?_; intro u)
    | (with_reducible refine (underRec_keepsSaf _ _ _ _ _ _ _ ?_).mpr ?_; intro b u)
    | (with_reducible refine (keepWrite_keepsSaf _ _ _ _ ?_).mpr ?_; intro u)
    | (split <;> (try (rename_i h; replace h := congrArg Prod.snd h; dsimp only at h; subst h)))
    | intro _
    | simp)
@[simp] theorem returnSegment_keepsSaf (s0 : Device) (n : Nat) (s : Device) : KeepsSaf s0 (Machine.returnSegment n s) ↔ KeepsSaf s0 s := by
  refine KeepsSaf.iff ?_
  unfold Machine.returnSegment
  simp
theorem canFeed_saf0 (n : Nat) (x0 : Nat) (x1 : Device) : KeepsSaf x1 (Machine.canFeed n x0 x1) := by
  induction x0 generalizing x1 with
  | zero => unfold Machine.canFeed; simp
  | succ m ih =>
    have ih' : ∀ (s0 : Device) (x10 : Device), KeepsSaf s0 (Machine.canFeed n m x10) ↔ KeepsSaf s0 x10 := fun _ x10 => (ih x10).iff
    unfold Machine.canFeed
    repeat' (first
    | with_reducible exact KeepsSaf.refl _
    | (simp [ih']; done)
    | (with_reducible refine KeepsSaf.ite ?_ ?_)
    | (with_reducible refine KeepsSaf.foldl _ _ _ ?_ ?_; intro u x)
    | (with_reducible refine KeepsSaf.checked _ _ _ _ ?_ ?_; intro p u)
    | (with_reducible refine (spireWrite_keepsSaf _ _ _ ?_).mpr ?_; intro u)
    | (with_reducible refine (domeWrite_keepsSaf _ _ _ ?_).mpr ?_; intro u)
    | (with_reducible refine (underRec_keepsSaf _ _ _ _ _ _ _ ?_).mpr ?_; intro b u)
    | (with_reducible refine (keepWrite_keepsSaf _ _ _ _ ?_).mpr ?_; intro u)
    | (split <;> (try (rename_i h; replace h := congrArg Prod.snd h; dsimp only at h; subst h)))
    | simp [ih'])
@[simp] theorem canFeed_keepsSaf (s0 : Device) (n : Nat) (x0 : Nat) (x1 : Device) : KeepsSaf s0 (Machine.canFeed n x0 x1) ↔ KeepsSaf s0 x1 := (canFeed_saf0 n x0 x1).iff
@[simp] theorem modBuf_keepsSaf (s0 : Device) (n : Nat) (b : Nat) (f : CanBuf → CanBuf) (s : Device) : KeepsSaf s0 (Machine.modBuf n b f s) ↔ KeepsSaf s0 s := by
  refine KeepsSaf.iff ?_
  unfold Machine.modBuf
  simp
@[simp] theorem canIdle_keepsSaf (s0 : Device) (n : Nat) (b : Nat) (s : Device) : KeepsSaf s0 (Machine.canIdle n b s) ↔ KeepsSaf s0 s := by
  refine KeepsSaf.iff ?_
  unfold Machine.canIdle
  simp
@[simp] theorem canTxAbort_keepsSaf (s0 : Device) (p : Pend) (s : Device) : KeepsSaf s0 (Machine.canTxAbort p s).dev ↔ KeepsSaf s0 s := by
  refine KeepsSaf.iff ?_
  unfold Machine.canTxAbort
  simp
@[simp] theorem canAborted_keepsSaf (s0 : Device) (n : Nat) (sent : Bool) (s : Device) : KeepsSaf s0 (Machine.canAborted n sent s) ↔ KeepsSaf s0 s := by
  refine KeepsSaf.iff ?_
  unfold Machine.canAborted
  simp
@[simp] theorem canAckError_keepsSaf (s0 : Device) (n : Nat) (s : Device) : KeepsSaf s0 (Machine.canAckError n s) ↔ KeepsSaf s0 s := by
  refine KeepsSaf.iff ?_
  unfold Machine.canAckError
  simp
@[simp] theorem canCollision_keepsSaf (s0 : Device) (n : Nat) (b : Nat) (how : CanEnd) (s : Device) : KeepsSaf s0 (Machine.canCollision n b how s) ↔ KeepsSaf s0 s := by
  refine KeepsSaf.iff ?_
  unfold Machine.canCollision
  simp
@[simp] theorem canStop_keepsSaf (s0 : Device) (n : Nat) (b : Nat) (s : Device) : KeepsSaf s0 (Machine.canStop n b s) ↔ KeepsSaf s0 s := by
  refine KeepsSaf.iff ?_
  unfold Machine.canStop
  simp
@[simp] theorem canStopOthers_keepsSaf (s0 : Device) (n : Nat) (b : Nat) (s : Device) : KeepsSaf s0 (Machine.canStopOthers n b s) ↔ KeepsSaf s0 s := by
  refine KeepsSaf.iff ?_
  unfold Machine.canStopOthers
  simp
@[simp] theorem canTxEnd_keepsSaf (s0 : Device) (n : Nat) (how : CanEnd) (tdc : Nat) (s : Device) : KeepsSaf s0 (Machine.canTxEnd n how tdc s) ↔ KeepsSaf s0 s := by
  refine KeepsSaf.iff ?_
  unfold Machine.canTxEnd
  repeat' (first
    | with_reducible exact KeepsSaf.refl _
    | (simp; done)
    | (with_reducible refine KeepsSaf.ite ?_ ?_)
    | (with_reducible refine KeepsSaf.foldl _ _ _ ?_ ?_; intro u x)
    | (with_reducible refine KeepsSaf.checked _ _ _ _ ?_ ?_; intro p u)
    | (with_reducible refine (spireWrite_keepsSaf _ _ _ ?_).mpr ?_; intro u)
    | (with_reducible refine (domeWrite_keepsSaf _ _ _ ?_).mpr ?_; intro u)
    | (with_reducible refine (underRec_keepsSaf _ _ _ _ _ _ _ ?_).mpr ?_; intro b u)
    | (with_reducible refine (keepWrite_keepsSaf _ _ _ _ ?_).mpr ?_; intro u)
    | (split <;> (try (rename_i h; replace h := congrArg Prod.snd h; dsimp only at h; subst h)))
    | intro _
    | simp)
@[simp] theorem canTxLate_keepsSaf (s0 : Device) (n : Nat) (b : Nat) (s : Device) : KeepsSaf s0 (Machine.canTxLate n b s) ↔ KeepsSaf s0 s := by
  refine KeepsSaf.iff ?_
  unfold Machine.canTxLate
  repeat' (first
    | with_reducible exact KeepsSaf.refl _
    | (simp; done)
    | (with_reducible refine KeepsSaf.ite ?_ ?_)
    | (with_reducible refine KeepsSaf.foldl _ _ _ ?_ ?_; intro u x)
    | (with_reducible refine KeepsSaf.checked _ _ _ _ ?_ ?_; intro p u)
    | (with_reducible refine (spireWrite_keepsSaf _ _ _ ?_).mpr ?_; intro u)
    | (with_reducible refine (domeWrite_keepsSaf _ _ _ ?_).mpr ?_; intro u)
    | (with_reducible refine (underRec_keepsSaf _ _ _ _ _ _ _ ?_).mpr ?_; intro b u)
    | (with_reducible refine (keepWrite_keepsSaf _ _ _ _ ?_).mpr ?_; intro u)
    | (split <;> (try (rename_i h; replace h := congrArg Prod.snd h; dsimp only at h; subst h)))
    | intro _
    | simp)
@[simp] theorem canTxSet_keepsSaf (s0 : Device) (p : Pend) (s : Device) : KeepsSaf s0 (Machine.canTxSet p s).dev ↔ KeepsSaf s0 s := by
  refine KeepsSaf.iff ?_
  unfold Machine.canTxSet
  simp
@[simp] theorem emit_keepsSaf (s0 : Device) (o : Out) (s : Device) : KeepsSaf s0 (Machine.emit o s) ↔ KeepsSaf s0 s := by
  refine KeepsSaf.iff ?_
  unfold Machine.emit
  simp
@[simp] theorem canTxStart_keepsSaf (s0 : Device) (n : Nat) (s : Device) : KeepsSaf s0 (Machine.canTxStart n s) ↔ KeepsSaf s0 s := by
  refine KeepsSaf.iff ?_
  unfold Machine.canTxStart
  split <;> simp
@[simp] theorem modAxis_keepsSaf (s0 : Device) (a : Nat) (f : Axis → Axis) (s : Device) : KeepsSaf s0 (Machine.modAxis a f s) ↔ KeepsSaf s0 s := by
  refine KeepsSaf.iff ?_
  unfold Machine.modAxis
  simp
@[simp] theorem modDrive_keepsSaf (s0 : Device) (m : Nat) (f : Drive → Drive) (s : Device) : KeepsSaf s0 (Machine.modDrive m f s) ↔ KeepsSaf s0 s := by
  refine KeepsSaf.iff ?_
  unfold Machine.modDrive
  simp
@[simp] theorem clearFault_keepsSaf (s0 : Device) (p : Pend) (s : Device) : KeepsSaf s0 (Machine.clearFault p s).dev ↔ KeepsSaf s0 s := by
  refine KeepsSaf.iff ?_
  unfold Machine.clearFault
  repeat' (first
    | with_reducible exact KeepsSaf.refl _
    | (simp; done)
    | (with_reducible refine KeepsSaf.ite ?_ ?_)
    | (with_reducible refine KeepsSaf.foldl _ _ _ ?_ ?_; intro u x)
    | (with_reducible refine KeepsSaf.checked _ _ _ _ ?_ ?_; intro p u)
    | (with_reducible refine (spireWrite_keepsSaf _ _ _ ?_).mpr ?_; intro u)
    | (with_reducible refine (domeWrite_keepsSaf _ _ _ ?_).mpr ?_; intro u)
    | (with_reducible refine (underRec_keepsSaf _ _ _ _ _ _ _ ?_).mpr ?_; intro b u)
    | (with_reducible refine (keepWrite_keepsSaf _ _ _ _ ?_).mpr ?_; intro u)
    | (split <;> (try (rename_i h; replace h := congrArg Prod.snd h; dsimp only at h; subst h)))
    | intro _
    | simp)
@[simp] theorem ccrOeWrite_keepsSaf (s0 : Device) (v : Nat) (s : Device) : KeepsSaf s0 (Machine.ccrOeWrite v s) ↔ KeepsSaf s0 s := by
  refine KeepsSaf.iff ?_
  unfold Machine.ccrOeWrite
  repeat' (first
    | with_reducible exact KeepsSaf.refl _
    | (simp; done)
    | (with_reducible refine KeepsSaf.ite ?_ ?_)
    | (with_reducible refine KeepsSaf.foldl _ _ _ ?_ ?_; intro u x)
    | (with_reducible refine KeepsSaf.checked _ _ _ _ ?_ ?_; intro p u)
    | (with_reducible refine (spireWrite_keepsSaf _ _ _ ?_).mpr ?_; intro u)
    | (with_reducible refine (domeWrite_keepsSaf _ _ _ ?_).mpr ?_; intro u)
    | (with_reducible refine (underRec_keepsSaf _ _ _ _ _ _ _ ?_).mpr ?_; intro b u)
    | (with_reducible refine (keepWrite_keepsSaf _ _ _ _ ?_).mpr ?_; intro u)
    | (split <;> (try (rename_i h; replace h := congrArg Prod.snd h; dsimp only at h; subst h)))
    | intro _
    | simp)
@[simp] theorem setAxMode_keepsSaf (s0 : Device) (a : Nat) (m : AxMode) (s : Device) : KeepsSaf s0 (Machine.setAxMode a m s) ↔ KeepsSaf s0 s := by
  refine KeepsSaf.iff ?_
  unfold Machine.setAxMode
  simp
@[simp] theorem holdAxis_keepsSaf (s0 : Device) (a : Nat) (s : Device) : KeepsSaf s0 (Machine.holdAxis a s) ↔ KeepsSaf s0 s := by
  refine KeepsSaf.iff ?_
  unfold Machine.holdAxis
  simp
@[simp] theorem holdIfAxis_keepsSaf (s0 : Device) (a : Option Nat) (s : Device) : KeepsSaf s0 (Machine.holdIfAxis a s) ↔ KeepsSaf s0 s := by
  refine KeepsSaf.iff ?_
  unfold Machine.holdIfAxis
  split <;> simp
@[simp] theorem overcurrent_keepsSaf (s0 : Device) (m : Nat) (phase : Nat) (code : Int) (s : Device) : KeepsSaf s0 (Machine.overcurrent m phase code s) ↔ KeepsSaf s0 s := by
  refine KeepsSaf.iff ?_
  unfold Machine.overcurrent
  simp
@[simp] theorem pwmPeriod_keepsSaf (s0 : Device) (m : Nat) (sa : List Int) (sb : List Int) (s : Device) : KeepsSaf s0 (Machine.pwmPeriod m sa sb s) ↔ KeepsSaf s0 s := by
  refine KeepsSaf.iff ?_
  unfold Machine.pwmPeriod
  repeat' (first
    | with_reducible exact KeepsSaf.refl _
    | (simp; done)
    | (with_reducible refine KeepsSaf.ite ?_ ?_)
    | (with_reducible refine KeepsSaf.foldl _ _ _ ?_ ?_; intro u x)
    | (with_reducible refine KeepsSaf.checked _ _ _ _ ?_ ?_; intro p u)
    | (with_reducible refine (spireWrite_keepsSaf _ _ _ ?_).mpr ?_; intro u)
    | (with_reducible refine (domeWrite_keepsSaf _ _ _ ?_).mpr ?_; intro u)
    | (with_reducible refine (underRec_keepsSaf _ _ _ _ _ _ _ ?_).mpr ?_; intro b u)
    | (with_reducible refine (keepWrite_keepsSaf _ _ _ _ ?_).mpr ?_; intro u)
    | (split <;> (try (rename_i h; replace h := congrArg Prod.snd h; dsimp only at h; subst h)))
    | intro _
    | simp)
@[simp] theorem report_keepsSaf (s0 : Device) (o : OutItem) (f : Fate) (issue : STime) (s : Device) : KeepsSaf s0 (Machine.report o f issue s) ↔ KeepsSaf s0 s := by
  refine KeepsSaf.iff ?_
  unfold Machine.report
  simp
@[simp] theorem placeSetpoint_keepsSaf (s0 : Device) (m : Nat) (o : OutItem) (b : List Byte) (s : Device) : KeepsSaf s0 (Machine.placeSetpoint m o b s) ↔ KeepsSaf s0 s := by
  refine KeepsSaf.iff ?_
  unfold Machine.placeSetpoint
  simp
@[simp] theorem takeOutput_keepsSaf (s0 : Device) (kind : Nat) (index : Nat) (s : Device) : KeepsSaf s0 (Machine.takeOutput kind index s).2 ↔ KeepsSaf s0 s := by
  refine KeepsSaf.iff ?_
  unfold Machine.takeOutput
  simp
@[simp] theorem setpointArrival_keepsSaf (s0 : Device) (m : Nat) (s : Device) : KeepsSaf s0 (Machine.setpointArrival m s) ↔ KeepsSaf s0 s := by
  refine KeepsSaf.iff ?_
  unfold Machine.setpointArrival
  repeat' (first
    | with_reducible exact KeepsSaf.refl _
    | (simp; done)
    | (with_reducible refine KeepsSaf.ite ?_ ?_)
    | (with_reducible refine KeepsSaf.foldl _ _ _ ?_ ?_; intro u x)
    | (with_reducible refine KeepsSaf.checked _ _ _ _ ?_ ?_; intro p u)
    | (with_reducible refine (spireWrite_keepsSaf _ _ _ ?_).mpr ?_; intro u)
    | (with_reducible refine (domeWrite_keepsSaf _ _ _ ?_).mpr ?_; intro u)
    | (with_reducible refine (underRec_keepsSaf _ _ _ _ _ _ _ ?_).mpr ?_; intro b u)
    | (with_reducible refine (keepWrite_keepsSaf _ _ _ _ ?_).mpr ?_; intro u)
    | (split <;> (try (rename_i h; replace h := congrArg Prod.snd h; dsimp only at h; subst h)))
    | intro _
    | simp)
@[simp] theorem commitCfg_keepsSaf (s0 : Device) (a : Armed) (s : Device) : KeepsSaf s0 (Machine.commitCfg a s) ↔ KeepsSaf s0 s := by
  refine KeepsSaf.iff ?_
  unfold Machine.commitCfg
  simp
@[simp] theorem laterReports_keepsSaf (s0 : Device) (c : NzCycle) (s : Device) : KeepsSaf s0 (Machine.laterReports c s) ↔ KeepsSaf s0 s := by
  refine KeepsSaf.iff ?_
  unfold Machine.laterReports
  simp
@[simp] theorem ltnCount_keepsSaf (s0 : Device) (s : Device) : KeepsSaf s0 (Machine.ltnCount s) ↔ KeepsSaf s0 s := by
  refine KeepsSaf.iff ?_
  unfold Machine.ltnCount
  simp
@[simp] theorem ltnLose_keepsSaf (s0 : Device) (c : Nat) (t : STime) (s : Device) : KeepsSaf s0 (Machine.ltnLose c t s) ↔ KeepsSaf s0 s := by
  refine KeepsSaf.iff ?_
  unfold Machine.ltnLose
  simp
@[simp] theorem ltnEnqueue_keepsSaf (s0 : Device) (r : LtnIn) (s : Device) : KeepsSaf s0 (Machine.ltnEnqueue r s) ↔ KeepsSaf s0 s := by
  refine KeepsSaf.iff ?_
  unfold Machine.ltnEnqueue
  simp
@[simp] theorem ltnRecord_keepsSaf (s0 : Device) (kind : Nat) (index : Nat) (node : Nat) (t : STime) (version : Nat) (value : Word) (aux : Nat) (flags : Nat) (s : Device) : KeepsSaf s0 (Machine.ltnRecord kind index node t version value aux flags s) ↔ KeepsSaf s0 s := by
  refine KeepsSaf.iff ?_
  unfold Machine.ltnRecord
  simp
@[simp] theorem modStn_keepsSaf (s0 : Device) (n : Nat) (f : Station → Station) (s : Device) : KeepsSaf s0 (Machine.modStn n f s) ↔ KeepsSaf s0 s := by
  refine KeepsSaf.iff ?_
  unfold Machine.modStn
  simp
@[simp] theorem slipCheck_keepsSaf (s0 : Device) (st : Nat) (slip : STime) (s : Device) : KeepsSaf s0 (Machine.slipCheck st slip s) ↔ KeepsSaf s0 s := by
  refine KeepsSaf.iff ?_
  unfold Machine.slipCheck
  simp
@[simp] theorem wordBack_keepsSaf (s0 : Device) (st : Nat) (w : Nat × StWord) (s : Device) : KeepsSaf s0 (Machine.wordBack st w s) ↔ KeepsSaf s0 s := by
  refine KeepsSaf.iff ?_
  unfold Machine.wordBack
  split <;> simp
@[simp] theorem concludeCycle_keepsSaf (s0 : Device) (st : Nat) (c : NzCycle) (lan : Option Nat) (s : Device) : KeepsSaf s0 (Machine.concludeCycle st c lan s) ↔ KeepsSaf s0 s := by
  refine KeepsSaf.iff ?_
  unfold Machine.concludeCycle
  repeat' (first
    | with_reducible exact KeepsSaf.refl _
    | (simp; done)
    | (with_reducible refine KeepsSaf.ite ?_ ?_)
    | (with_reducible refine KeepsSaf.foldl _ _ _ ?_ ?_; intro u x)
    | (with_reducible refine KeepsSaf.checked _ _ _ _ ?_ ?_; intro p u)
    | (with_reducible refine (spireWrite_keepsSaf _ _ _ ?_).mpr ?_; intro u)
    | (with_reducible refine (domeWrite_keepsSaf _ _ _ ?_).mpr ?_; intro u)
    | (with_reducible refine (underRec_keepsSaf _ _ _ _ _ _ _ ?_).mpr ?_; intro b u)
    | (with_reducible refine (keepWrite_keepsSaf _ _ _ _ ?_).mpr ?_; intro u)
    | (split <;> (try (rename_i h; replace h := congrArg Prod.snd h; dsimp only at h; subst h)))
    | intro _
    | simp)
@[simp] theorem modEport_keepsSaf (s0 : Device) (p : Nat) (f : EthPort → EthPort) (s : Device) : KeepsSaf s0 (Machine.modEport p f s) ↔ KeepsSaf s0 s := by
  refine KeepsSaf.iff ?_
  unfold Machine.modEport
  simp
@[simp] theorem modClass_keepsSaf (s0 : Device) (p : Nat) (c : Nat) (f : EthClass → EthClass) (s : Device) : KeepsSaf s0 (Machine.modClass p c f s) ↔ KeepsSaf s0 s := by
  refine KeepsSaf.iff ?_
  unfold Machine.modClass
  simp
@[simp] theorem creditUpdate_keepsSaf (s0 : Device) (p : Nat) (c : Nat) (s : Device) : KeepsSaf s0 (Machine.creditUpdate p c s) ↔ KeepsSaf s0 s := by
  refine KeepsSaf.iff ?_
  unfold Machine.creditUpdate
  simp
theorem settleHead_saf0 (p c : Nat) (x0 : List QFrame) : ∀ s : Device, KeepsSaf s (settleHead p c s x0) := by
  induction x0 with
  | nil => intro s; unfold settleHead; simp
  | cons f rest ih =>
    intro s
    unfold settleHead
    refine KeepsSaf.ite ?_ (KeepsSaf.ite ?_ ?_)
    · exact (ih _).iff.mpr (by simp)
    · exact (ih _).iff.mpr (by simp)
    · simp
@[simp] theorem settleHead_keepsSaf (s0 : Device) (p c : Nat) (s : Device) (x0 : List QFrame) :
    KeepsSaf s0 (settleHead p c s x0) ↔ KeepsSaf s0 s := (settleHead_saf0 p c x0 s).iff
@[simp] theorem enqueueFrame_keepsSaf (s0 : Device) (p : Nat) (c : Nat) (f : QFrame) (s : Device) : KeepsSaf s0 (Machine.enqueueFrame p c f s) ↔ KeepsSaf s0 s := by
  refine KeepsSaf.iff ?_
  unfold Machine.enqueueFrame
  simp
@[simp] theorem queuePair_keepsSaf (s0 : Device) (p : Nat) (c : Nat) (both : Bool) (build : Nat → QFrame) (s : Device) : KeepsSaf s0 (Machine.queuePair p c both build s) ↔ KeepsSaf s0 s := by
  refine KeepsSaf.iff ?_
  unfold Machine.queuePair
  simp
@[simp] theorem nzSend_keepsSaf (s0 : Device) (st : Nat) (typ : Nat) (cycle : Nat) (time : Nat) (launch : Nat → STime) (payload : List Byte) (s : Device) : KeepsSaf s0 (Machine.nzSend st typ cycle time launch payload s) ↔ KeepsSaf s0 s := by
  refine KeepsSaf.iff ?_
  unfold Machine.nzSend
  simp
@[simp] theorem sendPiece_keepsSaf (s0 : Device) (st : Nat) (off : Nat) (s : Device) : KeepsSaf s0 (Machine.sendPiece st off s) ↔ KeepsSaf s0 s := by
  refine KeepsSaf.iff ?_
  unfold Machine.sendPiece
  simp
@[simp] theorem startParam_keepsSaf (s0 : Device) (st : Nat) (fromLost : Bool) (s : Device) : KeepsSaf s0 (Machine.startParam st fromLost s) ↔ KeepsSaf s0 s := by
  refine KeepsSaf.iff ?_
  unfold Machine.startParam
  simp
@[simp] theorem stnDisable_keepsSaf (s0 : Device) (st : Nat) (s : Device) : KeepsSaf s0 (Machine.stnDisable st s) ↔ KeepsSaf s0 s := by
  refine KeepsSaf.iff ?_
  unfold Machine.stnDisable
  simp
@[simp] theorem commitEth_keepsSaf (s0 : Device) (old : Nat → List Byte) (s : Device) : KeepsSaf s0 (Machine.commitEth old s) ↔ KeepsSaf s0 s := by
  refine KeepsSaf.iff ?_
  unfold Machine.commitEth
  simp
@[simp] theorem convShutDown_keepsSaf (s0 : Device) (c : Nat) (s : Device) : KeepsSaf s0 (Machine.convShutDown c s) ↔ KeepsSaf s0 s := by
  refine KeepsSaf.iff ?_
  unfold Machine.convShutDown
  repeat' (first
    | with_reducible exact KeepsSaf.refl _
    | (simp; done)
    | (with_reducible refine KeepsSaf.ite ?_ ?_)
    | (with_reducible refine KeepsSaf.foldl _ _ _ ?_ ?_; intro u x)
    | (with_reducible refine KeepsSaf.checked _ _ _ _ ?_ ?_; intro p u)
    | (with_reducible refine (spireWrite_keepsSaf _ _ _ ?_).mpr ?_; intro u)
    | (with_reducible refine (domeWrite_keepsSaf _ _ _ ?_).mpr ?_; intro u)
    | (with_reducible refine (underRec_keepsSaf _ _ _ _ _ _ _ ?_).mpr ?_; intro b u)
    | (with_reducible refine (keepWrite_keepsSaf _ _ _ _ ?_).mpr ?_; intro u)
    | (split <;> (try (rename_i h; replace h := congrArg Prod.snd h; dsimp only at h; subst h)))
    | intro _
    | simp)
@[simp] theorem convStartUp_keepsSaf (s0 : Device) (c : Nat) (t : STime) (s : Device) : KeepsSaf s0 (Machine.convStartUp c t s) ↔ KeepsSaf s0 s := by
  refine KeepsSaf.iff ?_
  unfold Machine.convStartUp
  simp
@[simp] theorem modAbuf_keepsSaf (s0 : Device) (c : Nat) (f : AdcBuf → AdcBuf) (s : Device) : KeepsSaf s0 (Machine.modAbuf c f s) ↔ KeepsSaf s0 s := by
  refine KeepsSaf.iff ?_
  unfold Machine.modAbuf
  simp
@[simp] theorem commitAdc_keepsSaf (s0 : Device) (t : STime) (old : Nat → List Byte) (s : Device) : KeepsSaf s0 (Machine.commitAdc t old s) ↔ KeepsSaf s0 s := by
  refine KeepsSaf.iff ?_
  unfold Machine.commitAdc
  simp
@[simp] theorem commitCan_keepsSaf (s0 : Device) (oldBuf : Nat → List Byte) (oldFilter : Nat → List Byte) (s : Device) : KeepsSaf s0 (Machine.commitCan oldBuf oldFilter s) ↔ KeepsSaf s0 s := by
  refine KeepsSaf.iff ?_
  unfold Machine.commitCan
  repeat' (first
    | with_reducible exact KeepsSaf.refl _
    | (simp; done)
    | (with_reducible refine KeepsSaf.ite ?_ ?_)
    | (with_reducible refine KeepsSaf.foldl _ _ _ ?_ ?_; intro u x)
    | (with_reducible refine KeepsSaf.checked _ _ _ _ ?_ ?_; intro p u)
    | (with_reducible refine (spireWrite_keepsSaf _ _ _ ?_).mpr ?_; intro u)
    | (with_reducible refine (domeWrite_keepsSaf _ _ _ ?_).mpr ?_; intro u)
    | (with_reducible refine (underRec_keepsSaf _ _ _ _ _ _ _ ?_).mpr ?_; intro b u)
    | (with_reducible refine (keepWrite_keepsSaf _ _ _ _ ?_).mpr ?_; intro u)
    | (split <;> (try (rename_i h; replace h := congrArg Prod.snd h; dsimp only at h; subst h)))
    | intro _
    | simp)
@[simp] theorem commitDac_keepsSaf (s0 : Device) (old : Nat → List Byte) (s : Device) : KeepsSaf s0 (Machine.commitDac old s) ↔ KeepsSaf s0 s := by
  refine KeepsSaf.iff ?_
  unfold Machine.commitDac
  simp
@[simp] theorem modPort_keepsSaf (s0 : Device) (n : Nat) (f : Port → Port) (s : Device) : KeepsSaf s0 (Machine.modPort n f s) ↔ KeepsSaf s0 s := by
  refine KeepsSaf.iff ?_
  unfold Machine.modPort
  simp
@[simp] theorem modPulse_keepsSaf (s0 : Device) (n : Nat) (f : Pulse → Pulse) (s : Device) : KeepsSaf s0 (Machine.modPulse n f s) ↔ KeepsSaf s0 s := by
  refine KeepsSaf.iff ?_
  unfold Machine.modPulse
  simp
@[simp] theorem commitDio_keepsSaf (s0 : Device) (t : STime) (old2 : Nat → List Byte) (old3 : Nat → List Byte) (s : Device) : KeepsSaf s0 (Machine.commitDio t old2 old3 s) ↔ KeepsSaf s0 s := by
  refine KeepsSaf.iff ?_
  unfold Machine.commitDio
  simp
@[simp] theorem ltnFull_keepsSaf (s0 : Device) (s : Device) : KeepsSaf s0 (Machine.ltnFull s) ↔ KeepsSaf s0 s := by
  refine KeepsSaf.iff ?_
  unfold Machine.ltnFull
  simp
@[simp] theorem ltnPut_keepsSaf (s0 : Device) (rs : List BufRec) (s : Device) : KeepsSaf s0 (Machine.ltnPut rs s) ↔ KeepsSaf s0 s := by
  refine KeepsSaf.iff ?_
  unfold Machine.ltnPut
  simp
@[simp] theorem modLchan_keepsSaf (s0 : Device) (c : Nat) (f : Channel → Channel) (s : Device) : KeepsSaf s0 (Machine.modLchan c f s) ↔ KeepsSaf s0 s := by
  refine KeepsSaf.iff ?_
  unfold Machine.modLchan
  simp
@[simp] theorem noteGap_keepsSaf (s0 : Device) (c : Nat) (g : GapPend) (s : Device) : KeepsSaf s0 (Machine.noteGap c g s) ↔ KeepsSaf s0 s := by
  refine KeepsSaf.iff ?_
  unfold Machine.noteGap
  simp
@[simp] theorem putStart_keepsSaf (s0 : Device) (s : Device) : KeepsSaf s0 (Machine.putStart s) ↔ KeepsSaf s0 s := by
  refine KeepsSaf.iff ?_
  unfold Machine.putStart
  split <;> simp
@[simp] theorem ltnWrite_keepsSaf (s0 : Device) (c : Nat) (typ : Nat) (flags : Nat) (t : STime) (value : Word) (aux : Nat) (version : Nat) (limit : STime) (s : Device) : KeepsSaf s0 (Machine.ltnWrite c typ flags t value aux version limit s) ↔ KeepsSaf s0 s := by
  refine KeepsSaf.iff ?_
  unfold Machine.ltnWrite
  repeat' (first
    | with_reducible exact KeepsSaf.refl _
    | (simp; done)
    | (with_reducible refine KeepsSaf.ite ?_ ?_)
    | (with_reducible refine KeepsSaf.foldl _ _ _ ?_ ?_; intro u x)
    | (with_reducible refine KeepsSaf.checked _ _ _ _ ?_ ?_; intro p u)
    | (with_reducible refine (spireWrite_keepsSaf _ _ _ ?_).mpr ?_; intro u)
    | (with_reducible refine (domeWrite_keepsSaf _ _ _ ?_).mpr ?_; intro u)
    | (with_reducible refine (underRec_keepsSaf _ _ _ _ _ _ _ ?_).mpr ?_; intro b u)
    | (with_reducible refine (keepWrite_keepsSaf _ _ _ _ ?_).mpr ?_; intro u)
    | (split <;> (try (rename_i h; replace h := congrArg Prod.snd h; dsimp only at h; subst h)))
    | intro _
    | simp)
@[simp] theorem closeWindow_keepsSaf (s0 : Device) (c : Nat) (s : Device) : KeepsSaf s0 (Machine.closeWindow c s) ↔ KeepsSaf s0 s := by
  refine KeepsSaf.iff ?_
  unfold Machine.closeWindow
  split <;> simp
@[simp] theorem stateRec_keepsSaf (s0 : Device) (c : Nat) (on_ : Bool) (t : STime) (s : Device) : KeepsSaf s0 (Machine.stateRec c on_ t s) ↔ KeepsSaf s0 s := by
  refine KeepsSaf.iff ?_
  unfold Machine.stateRec
  repeat' (first
    | with_reducible exact KeepsSaf.refl _
    | (simp; done)
    | (with_reducible refine KeepsSaf.ite ?_ ?_)
    | (with_reducible refine KeepsSaf.foldl _ _ _ ?_ ?_; intro u x)
    | (with_reducible refine KeepsSaf.checked _ _ _ _ ?_ ?_; intro p u)
    | (with_reducible refine (spireWrite_keepsSaf _ _ _ ?_).mpr ?_; intro u)
    | (with_reducible refine (domeWrite_keepsSaf _ _ _ ?_).mpr ?_; intro u)
    | (with_reducible refine (underRec_keepsSaf _ _ _ _ _ _ _ ?_).mpr ?_; intro b u)
    | (with_reducible refine (keepWrite_keepsSaf _ _ _ _ ?_).mpr ?_; intro u)
    | (split <;> (try (rename_i h; replace h := congrArg Prod.snd h; dsimp only at h; subst h)))
    | intro _
    | simp)
@[simp] theorem setChannel_keepsSaf (s0 : Device) (t : STime) (reload : Bool) (s : Device) (c : Nat) : KeepsSaf s0 (Machine.setChannel t reload s c) ↔ KeepsSaf s0 s := by
  refine KeepsSaf.iff ?_
  unfold Machine.setChannel
  simp
@[simp] theorem commitLtn_keepsSaf (s0 : Device) (t : STime) (s : Device) : KeepsSaf s0 (Machine.commitLtn t s) ↔ KeepsSaf s0 s := by
  refine KeepsSaf.iff ?_
  unfold Machine.commitLtn
  simp
@[simp] theorem unlockDomain_keepsSaf (s0 : Device) (d : Nat) (s : Device) : KeepsSaf s0 (Machine.unlockDomain d s) ↔ KeepsSaf s0 s := by
  refine KeepsSaf.iff ?_
  unfold Machine.unlockDomain
  simp
@[simp] theorem farCheck_keepsSaf (s0 : Device) (d : Nat) (s : Device) : KeepsSaf s0 (Machine.farCheck d s) ↔ KeepsSaf s0 s := by
  refine KeepsSaf.iff ?_
  unfold Machine.farCheck
  simp
@[simp] theorem followState_keepsSaf (s0 : Device) (d : Nat) (s : Device) : KeepsSaf s0 (Machine.followState d s) ↔ KeepsSaf s0 s := by
  refine KeepsSaf.iff ?_
  unfold Machine.followState
  split <;> simp
@[simp] theorem followSelection_keepsSaf (s0 : Device) (old : Nat) (new : Nat) (s : Device) : KeepsSaf s0 (Machine.followSelection old new s) ↔ KeepsSaf s0 s := by
  refine KeepsSaf.iff ?_
  unfold Machine.followSelection
  simp
@[simp] theorem selectDomain_keepsSaf (s0 : Device) (new : Nat) (cause : Nat) (s : Device) : KeepsSaf s0 (Machine.selectDomain new cause s) ↔ KeepsSaf s0 s := by
  refine KeepsSaf.iff ?_
  unfold Machine.selectDomain
  simp
@[simp] theorem commitTim_keepsSaf (s0 : Device) (t : STime) (oldRec : List Byte) (oldTrig : Nat → List Byte) (s : Device) : KeepsSaf s0 (Machine.commitTim t oldRec oldTrig s) ↔ KeepsSaf s0 s := by
  refine KeepsSaf.iff ?_
  unfold Machine.commitTim
  simp
@[simp] theorem commitHeld_keepsSaf (s0 : Device) (t : STime) (before : List CfgObj) (s : Device) : KeepsSaf s0 (Machine.commitHeld t before s) ↔ KeepsSaf s0 s := by
  refine KeepsSaf.iff ?_
  unfold Machine.commitHeld
  simp
@[simp] theorem modLoop_keepsSaf (s0 : Device) (n : Nat) (f : LoopSt → LoopSt) (s : Device) : KeepsSaf s0 (Machine.modLoop n f s) ↔ KeepsSaf s0 s := by
  refine KeepsSaf.iff ?_
  unfold Machine.modLoop
  simp
@[simp] theorem commitLoops_keepsSaf (s0 : Device) (a : Armed) (old : Nat → List Byte) (s : Device) : KeepsSaf s0 (Machine.commitLoops a old s) ↔ KeepsSaf s0 s := by
  refine KeepsSaf.iff ?_
  unfold Machine.commitLoops
  simp
@[simp] theorem modProg_keepsSaf (s0 : Device) (p : Nat) (f : Prog → Prog) (s : Device) : KeepsSaf s0 (Machine.modProg p f s) ↔ KeepsSaf s0 s := by
  refine KeepsSaf.iff ?_
  unfold Machine.modProg
  simp
@[simp] theorem setRelease_keepsSaf (s0 : Device) (slot : Nat) (t : STime) (s : Device) : KeepsSaf s0 (Machine.setRelease slot t s) ↔ KeepsSaf s0 s := by
  refine KeepsSaf.iff ?_
  unfold Machine.setRelease
  simp
@[simp] theorem restartReleases_keepsSaf (s0 : Device) (n : Nat) (old : List Byte) (s : Device) : KeepsSaf s0 (Machine.restartReleases n old s) ↔ KeepsSaf s0 s := by
  refine KeepsSaf.iff ?_
  unfold Machine.restartReleases
  simp
@[simp] theorem commitPgm_keepsSaf (s0 : Device) (old : Nat → List Byte) (s : Device) : KeepsSaf s0 (Machine.commitPgm old s) ↔ KeepsSaf s0 s := by
  refine KeepsSaf.iff ?_
  unfold Machine.commitPgm
  simp
@[simp] theorem modTask_keepsSaf (s0 : Device) (slot : Nat) (f : Task → Task) (s : Device) : KeepsSaf s0 (Machine.modTask slot f s) ↔ KeepsSaf s0 s := by
  refine KeepsSaf.iff ?_
  unfold Machine.modTask
  simp
@[simp] theorem commitTasks_keepsSaf (s0 : Device) (t : STime) (old : Nat → List Byte) (s : Device) : KeepsSaf s0 (Machine.commitTasks t old s) ↔ KeepsSaf s0 s := by
  refine KeepsSaf.iff ?_
  unfold Machine.commitTasks
  simp
theorem fitLanes_saf0 (x0 : Nat) (x1 : Device) : KeepsSaf x1 (Machine.fitLanes x0 x1) := by
  induction x0 generalizing x1 with
  | zero => unfold Machine.fitLanes; simp
  | succ m ih =>
    have ih' : ∀ (s0 : Device) (x10 : Device), KeepsSaf s0 (Machine.fitLanes m x10) ↔ KeepsSaf s0 x10 := fun _ x10 => (ih x10).iff
    unfold Machine.fitLanes
    repeat' (first
    | with_reducible exact KeepsSaf.refl _
    | (simp [ih']; done)
    | (with_reducible refine KeepsSaf.ite ?_ ?_)
    | (with_reducible refine KeepsSaf.foldl _ _ _ ?_ ?_; intro u x)
    | (with_reducible refine KeepsSaf.checked _ _ _ _ ?_ ?_; intro p u)
    | (with_reducible refine (spireWrite_keepsSaf _ _ _ ?_).mpr ?_; intro u)
    | (with_reducible refine (domeWrite_keepsSaf _ _ _ ?_).mpr ?_; intro u)
    | (with_reducible refine (underRec_keepsSaf _ _ _ _ _ _ _ ?_).mpr ?_; intro b u)
    | (with_reducible refine (keepWrite_keepsSaf _ _ _ _ ?_).mpr ?_; intro u)
    | (split <;> (try (rename_i h; replace h := congrArg Prod.snd h; dsimp only at h; subst h)))
    | simp [ih'])
@[simp] theorem fitLanes_keepsSaf (s0 : Device) (x0 : Nat) (x1 : Device) : KeepsSaf s0 (Machine.fitLanes x0 x1) ↔ KeepsSaf s0 x1 := (fitLanes_saf0 x0 x1).iff
@[simp] theorem freshLoops_keepsSaf (s0 : Device) (old : Nat → List Byte) (s : Device) : KeepsSaf s0 (Machine.freshLoops old s) ↔ KeepsSaf s0 s := by
  refine KeepsSaf.iff ?_
  unfold Machine.freshLoops
  simp
@[simp] theorem setGroup_keepsSaf (s0 : Device) (g : TraceGroup) (s : Device) : KeepsSaf s0 (Machine.setGroup g s) ↔ KeepsSaf s0 s := by
  refine KeepsSaf.iff ?_
  unfold Machine.setGroup
  simp
@[simp] theorem traceStop_keepsSaf (s0 : Device) (g : TraceGroup) (cause : Nat) (s : Device) : KeepsSaf s0 (Machine.traceStop g cause s) ↔ KeepsSaf s0 s := by
  refine KeepsSaf.iff ?_
  unfold Machine.traceStop
  simp
@[simp] theorem traceDisabled_keepsSaf (s0 : Device) (loop : Nat) (s : Device) : KeepsSaf s0 (Machine.traceDisabled loop s) ↔ KeepsSaf s0 s := by
  refine KeepsSaf.iff ?_
  unfold Machine.traceDisabled
  repeat' (first
    | with_reducible exact KeepsSaf.refl _
    | (simp; done)
    | (with_reducible refine KeepsSaf.ite ?_ ?_)
    | (with_reducible refine KeepsSaf.foldl _ _ _ ?_ ?_; intro u x)
    | (with_reducible refine KeepsSaf.checked _ _ _ _ ?_ ?_; intro p u)
    | (with_reducible refine (spireWrite_keepsSaf _ _ _ ?_).mpr ?_; intro u)
    | (with_reducible refine (domeWrite_keepsSaf _ _ _ ?_).mpr ?_; intro u)
    | (with_reducible refine (underRec_keepsSaf _ _ _ _ _ _ _ ?_).mpr ?_; intro b u)
    | (with_reducible refine (keepWrite_keepsSaf _ _ _ _ ?_).mpr ?_; intro u)
    | (split <;> (try (rename_i h; replace h := congrArg Prod.snd h; dsimp only at h; subst h)))
    | intro _
    | simp)
@[simp] theorem stopTraces_keepsSaf (s0 : Device) (old : Nat → List Byte) (s : Device) : KeepsSaf s0 (Machine.stopTraces old s) ↔ KeepsSaf s0 s := by
  refine KeepsSaf.iff ?_
  unfold Machine.stopTraces
  simp
@[simp] theorem cfgCommit_keepsSaf (s0 : Device) (s : Device) : KeepsSaf s0 (Machine.cfgCommit s) ↔ KeepsSaf s0 s := by
  refine KeepsSaf.iff ?_
  unfold Machine.cfgCommit
  split <;> simp
@[simp] theorem modPin_keepsSaf (s0 : Device) (n : Nat) (f : Pin → Pin) (s : Device) : KeepsSaf s0 (Machine.modPin n f s) ↔ KeepsSaf s0 s := by
  refine KeepsSaf.iff ?_
  unfold Machine.modPin
  simp
@[simp] theorem fblDrive_keepsSaf (s0 : Device) (s : Device) : KeepsSaf s0 (Machine.fblDrive s) ↔ KeepsSaf s0 s := by
  refine KeepsSaf.iff ?_
  unfold Machine.fblDrive
  repeat' (first
    | with_reducible exact KeepsSaf.refl _
    | (simp; done)
    | (with_reducible refine KeepsSaf.ite ?_ ?_)
    | (with_reducible refine KeepsSaf.foldl _ _ _ ?_ ?_; intro u x)
    | (with_reducible refine KeepsSaf.checked _ _ _ _ ?_ ?_; intro p u)
    | (with_reducible refine (spireWrite_keepsSaf _ _ _ ?_).mpr ?_; intro u)
    | (with_reducible refine (domeWrite_keepsSaf _ _ _ ?_).mpr ?_; intro u)
    | (with_reducible refine (underRec_keepsSaf _ _ _ _ _ _ _ ?_).mpr ?_; intro b u)
    | (with_reducible refine (keepWrite_keepsSaf _ _ _ _ ?_).mpr ?_; intro u)
    | (split <;> (try (rename_i h; replace h := congrArg Prod.snd h; dsimp only at h; subst h)))
    | intro _
    | simp)
@[simp] theorem loadAdc_keepsSaf (s0 : Device) (t : STime) (size : Nat → Nat) (s : Device) : KeepsSaf s0 (Machine.loadAdc t size s) ↔ KeepsSaf s0 s := by
  refine KeepsSaf.iff ?_
  unfold Machine.loadAdc
  simp
@[simp] theorem canRelease_keepsSaf (s0 : Device) (s : Device) (n : Nat) : KeepsSaf s0 (Machine.canRelease s n) ↔ KeepsSaf s0 s := by
  refine KeepsSaf.iff ?_
  unfold Machine.canRelease
  repeat' (first
    | with_reducible exact KeepsSaf.refl _
    | (simp; done)
    | (with_reducible refine KeepsSaf.ite ?_ ?_)
    | (with_reducible refine KeepsSaf.foldl _ _ _ ?_ ?_; intro u x)
    | (with_reducible refine KeepsSaf.checked _ _ _ _ ?_ ?_; intro p u)
    | (with_reducible refine (spireWrite_keepsSaf _ _ _ ?_).mpr ?_; intro u)
    | (with_reducible refine (domeWrite_keepsSaf _ _ _ ?_).mpr ?_; intro u)
    | (with_reducible refine (underRec_keepsSaf _ _ _ _ _ _ _ ?_).mpr ?_; intro b u)
    | (with_reducible refine (keepWrite_keepsSaf _ _ _ _ ?_).mpr ?_; intro u)
    | (split <;> (try (rename_i h; replace h := congrArg Prod.snd h; dsimp only at h; subst h)))
    | intro _
    | simp)
@[simp] theorem canSkip_keepsSaf (s0 : Device) (s : Device) : KeepsSaf s0 (Machine.canSkip s) ↔ KeepsSaf s0 s := by
  refine KeepsSaf.iff ?_
  unfold Machine.canSkip
  repeat' (first
    | with_reducible exact KeepsSaf.refl _
    | (simp; done)
    | (with_reducible refine KeepsSaf.ite ?_ ?_)
    | (with_reducible refine KeepsSaf.foldl _ _ _ ?_ ?_; intro u x)
    | (with_reducible refine KeepsSaf.checked _ _ _ _ ?_ ?_; intro p u)
    | (with_reducible refine (spireWrite_keepsSaf _ _ _ ?_).mpr ?_; intro u)
    | (with_reducible refine (domeWrite_keepsSaf _ _ _ ?_).mpr ?_; intro u)
    | (with_reducible refine (underRec_keepsSaf _ _ _ _ _ _ _ ?_).mpr ?_; intro b u)
    | (with_reducible refine (keepWrite_keepsSaf _ _ _ _ ?_).mpr ?_; intro u)
    | (split <;> (try (rename_i h; replace h := congrArg Prod.snd h; dsimp only at h; subst h)))
    | intro _
    | simp)
@[simp] theorem loadCan_keepsSaf (s0 : Device) (s : Device) : KeepsSaf s0 (Machine.loadCan s) ↔ KeepsSaf s0 s := by
  refine KeepsSaf.iff ?_
  unfold Machine.loadCan
  simp
@[simp] theorem loadCcr_keepsSaf (s0 : Device) (s : Device) : KeepsSaf s0 (Machine.loadCcr s) ↔ KeepsSaf s0 s := by
  refine KeepsSaf.iff ?_
  unfold Machine.loadCcr
  simp
@[simp] theorem loadDac_keepsSaf (s0 : Device) (s : Device) : KeepsSaf s0 (Machine.loadDac s) ↔ KeepsSaf s0 s := by
  refine KeepsSaf.iff ?_
  unfold Machine.loadDac
  simp
@[simp] theorem loadDio_keepsSaf (s0 : Device) (t : STime) (s : Device) : KeepsSaf s0 (Machine.loadDio t s) ↔ KeepsSaf s0 s := by
  refine KeepsSaf.iff ?_
  unfold Machine.loadDio
  simp
@[simp] theorem cutStation_keepsSaf (s0 : Device) (st : Nat) (t : STime) (s : Device) : KeepsSaf s0 (Machine.cutStation st t s) ↔ KeepsSaf s0 s := by
  refine KeepsSaf.iff ?_
  unfold Machine.cutStation
  split <;> simp
@[simp] theorem nzLoss_keepsSaf (s0 : Device) (st : Nat) (cause : Nat) (t : STime) (s : Device) : KeepsSaf s0 (Machine.nzLoss st cause t s) ↔ KeepsSaf s0 s := by
  refine KeepsSaf.iff ?_
  unfold Machine.nzLoss
  simp
@[simp] theorem linkLosses_keepsSaf (s0 : Device) (p : Nat) (s : Device) : KeepsSaf s0 (Machine.linkLosses p s) ↔ KeepsSaf s0 s := by
  refine KeepsSaf.iff ?_
  unfold Machine.linkLosses
  simp
@[simp] theorem ethLinkDown_keepsSaf (s0 : Device) (p : Nat) (s : Device) : KeepsSaf s0 (Machine.ethLinkDown p s) ↔ KeepsSaf s0 s := by
  refine KeepsSaf.iff ?_
  unfold Machine.ethLinkDown
  simp
@[simp] theorem loadEth_keepsSaf (s0 : Device) (s : Device) : KeepsSaf s0 (Machine.loadEth s) ↔ KeepsSaf s0 s := by
  refine KeepsSaf.iff ?_
  unfold Machine.loadEth
  simp
@[simp] theorem loadLtn_keepsSaf (s0 : Device) (s : Device) : KeepsSaf s0 (Machine.loadLtn s) ↔ KeepsSaf s0 s := by
  refine KeepsSaf.iff ?_
  unfold Machine.loadLtn
  simp
@[simp] theorem loadDomain_keepsSaf (s0 : Device) (old : Nat → List Byte) (s : Device) (d : Nat) : KeepsSaf s0 (Machine.loadDomain old s d) ↔ KeepsSaf s0 s := by
  refine KeepsSaf.iff ?_
  unfold Machine.loadDomain
  simp
@[simp] theorem loadTim_keepsSaf (s0 : Device) (old : Nat → List Byte) (s : Device) : KeepsSaf s0 (Machine.loadTim old s) ↔ KeepsSaf s0 s := by
  refine KeepsSaf.iff ?_
  unfold Machine.loadTim
  simp
@[simp] theorem applyImage_keepsSaf (s0 : Device) (img : List Byte) (s : Device) : KeepsSaf s0 (Machine.applyImage img s) ↔ KeepsSaf s0 s := by
  refine KeepsSaf.iff ?_
  unfold Machine.applyImage
  simp
@[simp] theorem baseLoaded_keepsSaf (s0 : Device) (s : Device) : KeepsSaf s0 (Machine.baseLoaded s) ↔ KeepsSaf s0 s := by
  refine KeepsSaf.iff ?_
  unfold Machine.baseLoaded
  simp
@[simp] theorem armFail_keepsSaf (s0 : Device) (slot : Nat) (st : Status) (reason : Nat) (index : Nat) (s : Device) : KeepsSaf s0 (Machine.armFail slot st reason index s) ↔ KeepsSaf s0 s := by
  refine KeepsSaf.iff ?_
  unfold Machine.armFail
  simp
@[simp] theorem contentFail_keepsSaf (s0 : Device) (slot : Nat) (reason : Nat) (index : Nat) (detail : Nat) (s : Device) : KeepsSaf s0 (Machine.contentFail slot reason index detail s).dev ↔ KeepsSaf s0 s := by
  refine KeepsSaf.iff ?_
  unfold Machine.contentFail
  simp
@[simp] theorem retire_keepsSaf (s0 : Device) (kind : Nat) (unit : Nat) (s : Device) : KeepsSaf s0 (Machine.retire kind unit s) ↔ KeepsSaf s0 s := by
  refine KeepsSaf.iff ?_
  unfold Machine.retire
  simp
@[simp] theorem swapDone_keepsSaf (s0 : Device) (kind : Nat) (unit : Nat) (spare : Nat) (cause : Nat) (s : Device) : KeepsSaf s0 (Machine.swapDone kind unit spare cause s) ↔ KeepsSaf s0 s := by
  refine KeepsSaf.iff ?_
  unfold Machine.swapDone
  simp
@[simp] theorem leavePool_keepsSaf (s0 : Device) (kind : Nat) (spare : Nat) (s : Device) : KeepsSaf s0 (Machine.leavePool kind spare s) ↔ KeepsSaf s0 s := by
  refine KeepsSaf.iff ?_
  unfold Machine.leavePool
  split <;> simp
@[simp] theorem takeSpare_keepsSaf (s0 : Device) (kind : Nat) (unit : Nat) (s : Device) : KeepsSaf s0 (Machine.takeSpare kind unit s).2 ↔ KeepsSaf s0 s := by
  refine KeepsSaf.iff ?_
  unfold Machine.takeSpare
  repeat' (first
    | with_reducible exact KeepsSaf.refl _
    | (simp; done)
    | (with_reducible refine KeepsSaf.ite ?_ ?_)
    | (with_reducible refine KeepsSaf.foldl _ _ _ ?_ ?_; intro u x)
    | (with_reducible refine KeepsSaf.checked _ _ _ _ ?_ ?_; intro p u)
    | (with_reducible refine (spireWrite_keepsSaf _ _ _ ?_).mpr ?_; intro u)
    | (with_reducible refine (domeWrite_keepsSaf _ _ _ ?_).mpr ?_; intro u)
    | (with_reducible refine (underRec_keepsSaf _ _ _ _ _ _ _ ?_).mpr ?_; intro b u)
    | (with_reducible refine (keepWrite_keepsSaf _ _ _ _ ?_).mpr ?_; intro u)
    | (split <;> (try (rename_i h; replace h := congrArg Prod.snd h; dsimp only at h; subst h)))
    | intro _
    | simp)
@[simp] theorem faultSwap_keepsSaf (s0 : Device) (kind unit : Nat) (install : Nat → Device → Device) (s : Device)
    (h : ∀ x u, KeepsSaf u (install x u)) : KeepsSaf s0 (faultSwap kind unit install s).2 ↔ KeepsSaf s0 s := by
  have h2 : KeepsSaf s (faultSwap kind unit install s).2 := by
    unfold faultSwap
    have h1 : KeepsSaf s (takeSpare kind unit { s with spr.deferred := s.spr.deferred.erase (unitKey kind unit) }).2 := by simp
    generalize takeSpare kind unit _ = r at h1 ⊢
    obtain ⟨_ | x, t⟩ := r
    · dsimp only
      exact (raise_keepsSaf _ _ _ _).mpr (KeepsSaf.ite h1 (by simpa using h1))
    · have := h x t
      simpa using this.iff.mpr h1
  exact h2.iff
@[simp] theorem faultSector_keepsSaf (s0 : Device) (sector : Nat) (s : Device) : KeepsSaf s0 (Machine.faultSector sector s).2 ↔ KeepsSaf s0 s := by
  refine KeepsSaf.iff ?_
  unfold Machine.faultSector
  simp
theorem keepWrite_keepsSaf (s0 : Device) (bad : List Nat) (f : Device → CmdEnd) (s : Device) (h : ∀ u, KeepsSaf u (f u).dev) :
    KeepsSaf s0 (keepWrite bad f s).dev ↔ KeepsSaf s0 s := by
  have key : ∀ (l : List Nat) (r : Bool × Device), KeepsSaf s r.2 → KeepsSaf s (l.foldl (fun (r : Bool × Device) sec =>
      ((r.1 && (faultSector sec r.2).1), (faultSector sec r.2).2)) r).2 := by
    intro l
    induction l with
    | nil => intro r hr; exact hr
    | cons x l ih => intro r hr; exact ih _ (by simpa using hr)
  have h2 : KeepsSaf s (keepWrite bad f s).dev := by
    unfold keepWrite
    have k := key (bad.filter storeSector) (true, s) (KeepsSaf.refl s)
    revert k
    dsimp only
    generalize List.foldl _ _ _ = r
    intro k
    obtain ⟨ok, t⟩ := r
    cases ok
    · simpa using k
    · exact ((h t).iff).mpr k
  exact h2.iff
@[simp] theorem paiState_keepsSaf (s0 : Device) (m : PaiMode) (s : Device) : KeepsSaf s0 (Machine.paiState m s) ↔ KeepsSaf s0 s := by
  refine KeepsSaf.iff ?_
  unfold Machine.paiState
  simp
@[simp] theorem paiLoaded_keepsSaf (s0 : Device) (s : Device) : KeepsSaf s0 (Machine.paiLoaded s) ↔ KeepsSaf s0 s := by
  refine KeepsSaf.iff ?_
  unfold Machine.paiLoaded
  simp
@[simp] theorem resync_keepsSaf (s0 : Device) (cause : Nat) (s : Device) : KeepsSaf s0 (Machine.resync cause s) ↔ KeepsSaf s0 s := by
  refine KeepsSaf.iff ?_
  unfold Machine.resync
  simp
@[simp] theorem loadBase_keepsSaf (s0 : Device) (bad : List Nat) (p : Pend) (s : Device) :
    KeepsSaf s0 (loadBase bad p s).dev ↔ KeepsSaf s0 s := by
  refine KeepsSaf.iff ?_
  unfold loadBase
  refine KeepsSaf.checked _ _ _ _ ?_ (KeepsSaf.refl s)
  intro p u
  dsimp only
  split
  · exact KeepsSaf.refl u
  · simp
  · split
    · simp
    · refine (keepWrite_keepsSaf _ _ _ _ ?_).mpr (KeepsSaf.refl u)
      intro v
      simp [okWith]
@[simp] theorem overlayArm_keepsSaf (s0 : Device) (p : Pend) (s : Device) : KeepsSaf s0 (Machine.overlayArm p s).dev ↔ KeepsSaf s0 s := by
  refine KeepsSaf.iff ?_
  unfold Machine.overlayArm
  repeat' (first
    | with_reducible exact KeepsSaf.refl _
    | (simp; done)
    | (with_reducible refine KeepsSaf.ite ?_ ?_)
    | (with_reducible refine KeepsSaf.foldl _ _ _ ?_ ?_; intro u x)
    | (with_reducible refine KeepsSaf.checked _ _ _ _ ?_ ?_; intro p u)
    | (with_reducible refine (spireWrite_keepsSaf _ _ _ ?_).mpr ?_; intro u)
    | (with_reducible refine (domeWrite_keepsSaf _ _ _ ?_).mpr ?_; intro u)
    | (with_reducible refine (underRec_keepsSaf _ _ _ _ _ _ _ ?_).mpr ?_; intro b u)
    | (with_reducible refine (keepWrite_keepsSaf _ _ _ _ ?_).mpr ?_; intro u)
    | (split <;> (try (rename_i h; replace h := congrArg Prod.snd h; dsimp only at h; subst h)))
    | intro _
    | simp)
@[simp] theorem sendPacket_keepsSaf (s0 : Device) (payload : List Byte) (tag : ShipTag) (s : Device) : KeepsSaf s0 (Machine.sendPacket payload tag s) ↔ KeepsSaf s0 s := by
  refine KeepsSaf.iff ?_
  unfold Machine.sendPacket
  simp
@[simp] theorem sendMessage_keepsSaf (s0 : Device) (bytes : List Byte) (tag : ShipTag) (s : Device) : KeepsSaf s0 (Machine.sendMessage bytes tag s).2 ↔ KeepsSaf s0 s := by
  refine KeepsSaf.iff ?_
  unfold Machine.sendMessage
  simp
@[simp] theorem shipUpdate_keepsSaf (s0 : Device) (p : PersistCfg) (tag : ShipTag) (s : Device) : KeepsSaf s0 (Machine.shipUpdate p tag s).2 ↔ KeepsSaf s0 s := by
  refine KeepsSaf.iff ?_
  unfold Machine.shipUpdate
  simp
@[simp] theorem syncOk_keepsSaf (s0 : Device) (detail : Nat) (p : Pend) (s : Device) : KeepsSaf s0 (Machine.syncOk detail p s).dev ↔ KeepsSaf s0 s := by
  refine KeepsSaf.iff ?_
  unfold Machine.syncOk
  simp
@[simp] theorem overlayDelete_keepsSaf (s0 : Device) (bad : List Nat) (p : Pend) (s : Device) : KeepsSaf s0 (Machine.overlayDelete bad p s).dev ↔ KeepsSaf s0 s := by
  refine KeepsSaf.iff ?_
  unfold Machine.overlayDelete
  repeat' (first
    | with_reducible exact KeepsSaf.refl _
    | (simp; done)
    | (with_reducible refine KeepsSaf.ite ?_ ?_)
    | (with_reducible refine KeepsSaf.foldl _ _ _ ?_ ?_; intro u x)
    | (with_reducible refine KeepsSaf.checked _ _ _ _ ?_ ?_; intro p u)
    | (with_reducible refine (spireWrite_keepsSaf _ _ _ ?_).mpr ?_; intro u)
    | (with_reducible refine (domeWrite_keepsSaf _ _ _ ?_).mpr ?_; intro u)
    | (with_reducible refine (underRec_keepsSaf _ _ _ _ _ _ _ ?_).mpr ?_; intro b u)
    | (with_reducible refine (keepWrite_keepsSaf _ _ _ _ ?_).mpr ?_; intro u)
    | (split <;> (try (rename_i h; replace h := congrArg Prod.snd h; dsimp only at h; subst h)))
    | intro _
    | simp)
@[simp] theorem overlayDisarm_keepsSaf (s0 : Device) (p : Pend) (s : Device) : KeepsSaf s0 (Machine.overlayDisarm p s).dev ↔ KeepsSaf s0 s := by
  refine KeepsSaf.iff ?_
  unfold Machine.overlayDisarm
  repeat' (first
    | with_reducible exact KeepsSaf.refl _
    | (simp; done)
    | (with_reducible refine KeepsSaf.ite ?_ ?_)
    | (with_reducible refine KeepsSaf.foldl _ _ _ ?_ ?_; intro u x)
    | (with_reducible refine KeepsSaf.checked _ _ _ _ ?_ ?_; intro p u)
    | (with_reducible refine (spireWrite_keepsSaf _ _ _ ?_).mpr ?_; intro u)
    | (with_reducible refine (domeWrite_keepsSaf _ _ _ ?_).mpr ?_; intro u)
    | (with_reducible refine (underRec_keepsSaf _ _ _ _ _ _ _ ?_).mpr ?_; intro b u)
    | (with_reducible refine (keepWrite_keepsSaf _ _ _ _ ?_).mpr ?_; intro u)
    | (split <;> (try (rename_i h; replace h := congrArg Prod.snd h; dsimp only at h; subst h)))
    | intro _
    | simp)
@[simp] theorem overlayLoad_keepsSaf (s0 : Device) (bad : List Nat) (p : Pend) (s : Device) : KeepsSaf s0 (Machine.overlayLoad bad p s).dev ↔ KeepsSaf s0 s := by
  refine KeepsSaf.iff ?_
  unfold Machine.overlayLoad
  repeat' (first
    | with_reducible exact KeepsSaf.refl _
    | (simp; done)
    | (with_reducible refine KeepsSaf.ite ?_ ?_)
    | (with_reducible refine KeepsSaf.foldl _ _ _ ?_ ?_; intro u x)
    | (with_reducible refine KeepsSaf.checked _ _ _ _ ?_ ?_; intro p u)
    | (with_reducible refine (spireWrite_keepsSaf _ _ _ ?_).mpr ?_; intro u)
    | (with_reducible refine (domeWrite_keepsSaf _ _ _ ?_).mpr ?_; intro u)
    | (with_reducible refine (underRec_keepsSaf _ _ _ _ _ _ _ ?_).mpr ?_; intro b u)
    | (with_reducible refine (keepWrite_keepsSaf _ _ _ _ ?_).mpr ?_; intro u)
    | (split <;> (try (rename_i h; replace h := congrArg Prod.snd h; dsimp only at h; subst h)))
    | intro _
    | simp)
@[simp] theorem readRecord_keepsSaf (s0 : Device) (p : Pend) (s : Device) : KeepsSaf s0 (Machine.readRecord p s).dev ↔ KeepsSaf s0 s := by
  refine KeepsSaf.iff ?_
  unfold Machine.readRecord
  repeat' (first
    | with_reducible exact KeepsSaf.refl _
    | (simp; done)
    | (with_reducible refine KeepsSaf.ite ?_ ?_)
    | (with_reducible refine KeepsSaf.foldl _ _ _ ?_ ?_; intro u x)
    | (with_reducible refine KeepsSaf.checked _ _ _ _ ?_ ?_; intro p u)
    | (with_reducible refine (spireWrite_keepsSaf _ _ _ ?_).mpr ?_; intro u)
    | (with_reducible refine (domeWrite_keepsSaf _ _ _ ?_).mpr ?_; intro u)
    | (with_reducible refine (underRec_keepsSaf _ _ _ _ _ _ _ ?_).mpr ?_; intro b u)
    | (with_reducible refine (keepWrite_keepsSaf _ _ _ _ ?_).mpr ?_; intro u)
    | (split <;> (try (rename_i h; replace h := congrArg Prod.snd h; dsimp only at h; subst h)))
    | intro _
    | simp)
@[simp] theorem cfgState_keepsSaf (s0 : Device) (m : CfgMode) (s : Device) : KeepsSaf s0 (Machine.cfgState m s) ↔ KeepsSaf s0 s := by
  refine KeepsSaf.iff ?_
  unfold Machine.cfgState
  simp
@[simp] theorem fblYield_keepsSaf (s0 : Device) (s : Device) : KeepsSaf s0 (Machine.fblYield s) ↔ KeepsSaf s0 s := by
  refine KeepsSaf.iff ?_
  unfold Machine.fblYield
  simp
@[simp] theorem enterRunning_keepsSaf (s0 : Device) (s : Device) : KeepsSaf s0 (Machine.enterRunning s) ↔ KeepsSaf s0 s := by
  refine KeepsSaf.iff ?_
  unfold Machine.enterRunning
  simp
@[simp] theorem coldUnits_keepsSaf (s0 : Device) (s : Device) : KeepsSaf s0 (Machine.coldUnits s) ↔ KeepsSaf s0 s := by
  refine KeepsSaf.iff ?_
  unfold Machine.coldUnits
  simp
@[simp] theorem putKepSlot_keepsSaf (s0 : Device) (n : Nat) (q : KepSlot) (s : Device) : KeepsSaf s0 (Machine.putKepSlot n q s) ↔ KeepsSaf s0 s := by
  refine KeepsSaf.iff ?_
  unfold Machine.putKepSlot
  simp
@[simp] theorem drainJournal_keepsSaf (s0 : Device) (slots : List Nat) (bad : Option (Nat × Nat)) (s : Device) : KeepsSaf s0 (Machine.drainJournal slots bad s) ↔ KeepsSaf s0 s := by
  refine KeepsSaf.iff ?_
  unfold Machine.drainJournal
  repeat' split
  all_goals simp
@[simp] theorem loadKepImage_keepsSaf (s0 : Device) (q : KepSlot) (s : Device) : KeepsSaf s0 (Machine.loadKepImage q s) ↔ KeepsSaf s0 s := by
  refine KeepsSaf.iff ?_
  unfold Machine.loadKepImage
  simp
@[simp] theorem setYield_keepsSaf (s0 : Device) (s : Device) : KeepsSaf s0 (Machine.setYield s) ↔ KeepsSaf s0 s := by
  refine KeepsSaf.iff ?_
  unfold Machine.setYield
  simp
@[simp] theorem restoreFails_keepsSaf (s0 : Device) (kind : Nat) (reason : Nat) (s : Device) : KeepsSaf s0 (Machine.restoreFails kind reason s) ↔ KeepsSaf s0 s := by
  refine KeepsSaf.iff ?_
  unfold Machine.restoreFails
  simp
@[simp] theorem restoreFor_keepsSaf (s0 : Device) (kind : Nat) (ecc : Bool) (bad : List Nat) (rec_ : Option (Nat × Nat)) (s : Device) : KeepsSaf s0 (Machine.restoreFor kind ecc bad rec_ s).2.2 ↔ KeepsSaf s0 s := by
  refine KeepsSaf.iff ?_
  unfold Machine.restoreFor
  repeat' (first
    | with_reducible exact KeepsSaf.refl _
    | (simp; done)
    | (with_reducible refine KeepsSaf.ite ?_ ?_)
    | (with_reducible refine KeepsSaf.foldl _ _ _ ?_ ?_; intro u x)
    | (with_reducible refine KeepsSaf.checked _ _ _ _ ?_ ?_; intro p u)
    | (with_reducible refine (spireWrite_keepsSaf _ _ _ ?_).mpr ?_; intro u)
    | (with_reducible refine (domeWrite_keepsSaf _ _ _ ?_).mpr ?_; intro u)
    | (with_reducible refine (underRec_keepsSaf _ _ _ _ _ _ _ ?_).mpr ?_; intro b u)
    | (with_reducible refine (keepWrite_keepsSaf _ _ _ _ ?_).mpr ?_; intro u)
    | (split <;> (try (rename_i h; replace h := congrArg Prod.snd h; dsimp only at h; subst h)))
    | intro _
    | simp)
@[simp] theorem heldTarget_keepsSaf (s0 : Device) (a : Nat) (t : STime) (s : Device) : KeepsSaf s0 (Machine.heldTarget a t s) ↔ KeepsSaf s0 s := by
  refine KeepsSaf.iff ?_
  unfold Machine.heldTarget
  simp
@[simp] theorem heldAxis_keepsSaf (s0 : Device) (a : Nat) (t : STime) (kept : Int) (s : Device) : KeepsSaf s0 (Machine.heldAxis a t kept s) ↔ KeepsSaf s0 s := by
  refine KeepsSaf.iff ?_
  unfold Machine.heldAxis
  simp
@[simp] theorem holdAtStall_keepsSaf (s0 : Device) (a : Nat) (s : Device) : KeepsSaf s0 (Machine.holdAtStall a s) ↔ KeepsSaf s0 s := by
  refine KeepsSaf.iff ?_
  unfold Machine.holdAtStall
  simp
@[simp] theorem putPlan_keepsSaf (s0 : Device) (a : Nat) (t : STime) (k : Kin) (em : Bool) (stop : List Piece) (rest : List Piece) (x : F64) (prof : List Byte) (s : Device) : KeepsSaf s0 (Machine.putPlan a t k em stop rest x prof s) ↔ KeepsSaf s0 s := by
  refine KeepsSaf.iff ?_
  unfold Machine.putPlan
  simp
@[simp] theorem putEstop_keepsSaf (s0 : Device) (a : Nat) (b : List Byte) (t : STime) (k : Kin) (s : Device) : KeepsSaf s0 (Machine.putEstop a b t k s) ↔ KeepsSaf s0 s := by
  refine KeepsSaf.iff ?_
  unfold Machine.putEstop
  simp
@[simp] theorem planEstop_keepsSaf (s0 : Device) (a : Nat) (b : List Byte) (t : STime) (k : Kin) (s : Device) : KeepsSaf s0 (Machine.planEstop a b t k s) ↔ KeepsSaf s0 s := by
  refine KeepsSaf.iff ?_
  unfold Machine.planEstop
  simp
@[simp] theorem softStop_keepsSaf (s0 : Device) (a : Nat) (b : List Byte) (k : Kin) (s : Device) : KeepsSaf s0 (Machine.softStop a b k s).2 ↔ KeepsSaf s0 s := by
  refine KeepsSaf.iff ?_
  unfold Machine.softStop
  simp
@[simp] theorem planStop_keepsSaf (s0 : Device) (a : Nat) (b : List Byte) (t : STime) (k : Kin) (s : Device) : KeepsSaf s0 (Machine.planStop a b t k s) ↔ KeepsSaf s0 s := by
  refine KeepsSaf.iff ?_
  unfold Machine.planStop
  simp
@[simp] theorem homeStop_keepsSaf (s0 : Device) (a : Nat) (b : List Byte) (t : STime) (stop : Nat) (s : Device) : KeepsSaf s0 (Machine.homeStop a b t stop s) ↔ KeepsSaf s0 s := by
  refine KeepsSaf.iff ?_
  unfold Machine.homeStop
  split <;> simp
@[simp] theorem restoreHofs_keepsSaf (s0 : Device) (a : Nat) (s : Device) : KeepsSaf s0 (Machine.restoreHofs a s) ↔ KeepsSaf s0 s := by
  refine KeepsSaf.iff ?_
  unfold Machine.restoreHofs
  simp
@[simp] theorem homeFail_keepsSaf (s0 : Device) (a : Nat) (b : List Byte) (t : STime) (reason : Nat) (stop : Nat) (s : Device) : KeepsSaf s0 (Machine.homeFail a b t reason stop s) ↔ KeepsSaf s0 s := by
  refine KeepsSaf.iff ?_
  unfold Machine.homeFail
  simp
@[simp] theorem planTo_keepsSaf (s0 : Device) (a : Nat) (b : List Byte) (t : STime) (k : Kin) (vl : F64) (x : F64) (s : Device) : KeepsSaf s0 (Machine.planTo a b t k vl x s) ↔ KeepsSaf s0 s := by
  refine KeepsSaf.iff ?_
  unfold Machine.planTo
  repeat' (first
    | with_reducible exact KeepsSaf.refl _
    | (simp; done)
    | (with_reducible refine KeepsSaf.ite ?_ ?_)
    | (with_reducible refine KeepsSaf.foldl _ _ _ ?_ ?_; intro u x)
    | (with_reducible refine KeepsSaf.checked _ _ _ _ ?_ ?_; intro p u)
    | (with_reducible refine (spireWrite_keepsSaf _ _ _ ?_).mpr ?_; intro u)
    | (with_reducible refine (domeWrite_keepsSaf _ _ _ ?_).mpr ?_; intro u)
    | (with_reducible refine (underRec_keepsSaf _ _ _ _ _ _ _ ?_).mpr ?_; intro b u)
    | (with_reducible refine (keepWrite_keepsSaf _ _ _ _ ?_).mpr ?_; intro u)
    | (split <;> (try (rename_i h; replace h := congrArg Prod.snd h; dsimp only at h; subst h)))
    | intro _
    | simp)
@[simp] theorem resumeDrive_keepsSaf (s0 : Device) (s : Device) (a : Nat) : KeepsSaf s0 (Machine.resumeDrive s a) ↔ KeepsSaf s0 s := by
  refine KeepsSaf.iff ?_
  unfold Machine.resumeDrive
  simp
@[simp] theorem modLim_keepsSaf (s0 : Device) (a : Nat) (pos : Bool) (f : Limit → Limit) (s : Device) : KeepsSaf s0 (Machine.modLim a pos f s) ↔ KeepsSaf s0 s := by
  refine KeepsSaf.iff ?_
  unfold Machine.modLim
  simp
@[simp] theorem resumeLimit_keepsSaf (s0 : Device) (a : Nat) (pos : Bool) (keep : Bool) (s : Device) : KeepsSaf s0 (Machine.resumeLimit a pos keep s) ↔ KeepsSaf s0 s := by
  refine KeepsSaf.iff ?_
  unfold Machine.resumeLimit
  simp
@[simp] theorem resumeAxis_keepsSaf (s0 : Device) (kind : Nat) (s : Device) (a : Nat) : KeepsSaf s0 (Machine.resumeAxis kind s a) ↔ KeepsSaf s0 s := by
  refine KeepsSaf.iff ?_
  unfold Machine.resumeAxis
  repeat' (first
    | with_reducible exact KeepsSaf.refl _
    | (simp; done)
    | (with_reducible refine KeepsSaf.ite ?_ ?_)
    | (with_reducible refine KeepsSaf.foldl _ _ _ ?_ ?_; intro u x)
    | (with_reducible refine KeepsSaf.checked _ _ _ _ ?_ ?_; intro p u)
    | (with_reducible refine (spireWrite_keepsSaf _ _ _ ?_).mpr ?_; intro u)
    | (with_reducible refine (domeWrite_keepsSaf _ _ _ ?_).mpr ?_; intro u)
    | (with_reducible refine (underRec_keepsSaf _ _ _ _ _ _ _ ?_).mpr ?_; intro b u)
    | (with_reducible refine (keepWrite_keepsSaf _ _ _ _ ?_).mpr ?_; intro u)
    | (split <;> (try (rename_i h; replace h := congrArg Prod.snd h; dsimp only at h; subst h)))
    | intro _
    | simp)
@[simp] theorem runEngines_keepsSaf (s0 : Device) (s : Device) : KeepsSaf s0 (Machine.runEngines s) ↔ KeepsSaf s0 s := by
  refine KeepsSaf.iff ?_
  unfold Machine.runEngines
  simp
@[simp] theorem runEth_keepsSaf (s0 : Device) (s : Device) : KeepsSaf s0 (Machine.runEth s) ↔ KeepsSaf s0 s := by
  refine KeepsSaf.iff ?_
  unfold Machine.runEth
  simp
@[simp] theorem runPgm_keepsSaf (s0 : Device) (s : Device) : KeepsSaf s0 (Machine.runPgm s) ↔ KeepsSaf s0 s := by
  refine KeepsSaf.iff ?_
  unfold Machine.runPgm
  simp
@[simp] theorem startJournal_keepsSaf (s0 : Device) (s : Device) : KeepsSaf s0 (Machine.startJournal s) ↔ KeepsSaf s0 s := by
  refine KeepsSaf.iff ?_
  unfold Machine.startJournal
  simp
@[simp] theorem startEngines_keepsSaf (s0 : Device) (s : Device) : KeepsSaf s0 (Machine.startEngines s) ↔ KeepsSaf s0 s := by
  refine KeepsSaf.iff ?_
  unfold Machine.startEngines
  simp
@[simp] theorem resumeCold_keepsSaf (s0 : Device) (kind : Nat) (s : Device) : KeepsSaf s0 (Machine.resumeCold kind s) ↔ KeepsSaf s0 s := by
  refine KeepsSaf.iff ?_
  unfold Machine.resumeCold
  simp
@[simp] theorem resumeLoop_keepsSaf (s0 : Device) (s : Device) (n : Nat) : KeepsSaf s0 (Machine.resumeLoop s n) ↔ KeepsSaf s0 s := by
  refine KeepsSaf.iff ?_
  unfold Machine.resumeLoop
  simp
@[simp] theorem resumeProgram_keepsSaf (s0 : Device) (kind : Nat) (img : KepImage) (te : STime) (s : Device) (n : Nat) : KeepsSaf s0 (Machine.resumeProgram kind img te s n) ↔ KeepsSaf s0 s := by
  refine KeepsSaf.iff ?_
  unfold Machine.resumeProgram
  simp
@[simp] theorem resumeStation_keepsSaf (s0 : Device) (s : Device) (st : Nat) : KeepsSaf s0 (Machine.resumeStation s st) ↔ KeepsSaf s0 s := by
  refine KeepsSaf.iff ?_
  unfold Machine.resumeStation
  repeat' (first
    | with_reducible exact KeepsSaf.refl _
    | (simp; done)
    | (with_reducible refine KeepsSaf.ite ?_ ?_)
    | (with_reducible refine KeepsSaf.foldl _ _ _ ?_ ?_; intro u x)
    | (with_reducible refine KeepsSaf.checked _ _ _ _ ?_ ?_; intro p u)
    | (with_reducible refine (spireWrite_keepsSaf _ _ _ ?_).mpr ?_; intro u)
    | (with_reducible refine (domeWrite_keepsSaf _ _ _ ?_).mpr ?_; intro u)
    | (with_reducible refine (underRec_keepsSaf _ _ _ _ _ _ _ ?_).mpr ?_; intro b u)
    | (with_reducible refine (keepWrite_keepsSaf _ _ _ _ ?_).mpr ?_; intro u)
    | (split <;> (try (rename_i h; replace h := congrArg Prod.snd h; dsimp only at h; subst h)))
    | intro _
    | simp)
@[simp] theorem resumeTask_keepsSaf (s0 : Device) (s : Device) (slot : Nat) : KeepsSaf s0 (Machine.resumeTask s slot) ↔ KeepsSaf s0 s := by
  refine KeepsSaf.iff ?_
  unfold Machine.resumeTask
  simp
@[simp] theorem resumeWarm_keepsSaf (s0 : Device) (kind : Nat) (q : KepSlot) (s : Device) : KeepsSaf s0 (Machine.resumeWarm kind q s) ↔ KeepsSaf s0 s := by
  refine KeepsSaf.iff ?_
  unfold Machine.resumeWarm
  simp
@[simp] theorem savedCfg_keepsSaf (s0 : Device) (s : Device) : KeepsSaf s0 (Machine.savedCfg s) ↔ KeepsSaf s0 s := by
  refine KeepsSaf.iff ?_
  unfold Machine.savedCfg
  split <;> simp
@[simp] theorem goRunning_keepsSaf (s0 : Device) (s : Device) : KeepsSaf s0 (Machine.goRunning s) ↔ KeepsSaf s0 s := by
  refine KeepsSaf.iff ?_
  unfold Machine.goRunning
  repeat' (first
    | with_reducible exact KeepsSaf.refl _
    | (simp; done)
    | (with_reducible refine KeepsSaf.ite ?_ ?_)
    | (with_reducible refine KeepsSaf.foldl _ _ _ ?_ ?_; intro u x)
    | (with_reducible refine KeepsSaf.checked _ _ _ _ ?_ ?_; intro p u)
    | (with_reducible refine (spireWrite_keepsSaf _ _ _ ?_).mpr ?_; intro u)
    | (with_reducible refine (domeWrite_keepsSaf _ _ _ ?_).mpr ?_; intro u)
    | (with_reducible refine (underRec_keepsSaf _ _ _ _ _ _ _ ?_).mpr ?_; intro b u)
    | (with_reducible refine (keepWrite_keepsSaf _ _ _ _ ?_).mpr ?_; intro u)
    | (split <;> (try (rename_i h; replace h := congrArg Prod.snd h; dsimp only at h; subst h)))
    | intro _
    | simp)
@[simp] theorem cfgRun_keepsSaf (s0 : Device) (p : Pend) (s : Device) : KeepsSaf s0 (Machine.cfgRun p s).dev ↔ KeepsSaf s0 s := by
  refine KeepsSaf.iff ?_
  unfold Machine.cfgRun
  simp
@[simp] theorem fblTake_keepsSaf (s0 : Device) (s : Device) : KeepsSaf s0 (Machine.fblTake s) ↔ KeepsSaf s0 s := by
  refine KeepsSaf.iff ?_
  unfold Machine.fblTake
  split <;> simp
@[simp] theorem stopEth_keepsSaf (s0 : Device) (s : Device) : KeepsSaf s0 (Machine.stopEth s) ↔ KeepsSaf s0 s := by
  refine KeepsSaf.iff ?_
  unfold Machine.stopEth
  simp
@[simp] theorem rollback_keepsSaf (s0 : Device) (y : Cycle) (s : Device) : KeepsSaf s0 (Machine.rollback y s) ↔ KeepsSaf s0 s := by
  refine KeepsSaf.iff ?_
  unfold Machine.rollback
  repeat' split
  all_goals simp
@[simp] theorem stopPgm_keepsSaf (s0 : Device) (s : Device) : KeepsSaf s0 (Machine.stopPgm s) ↔ KeepsSaf s0 s := by
  refine KeepsSaf.iff ?_
  unfold Machine.stopPgm
  simp
@[simp] theorem haltEngines_keepsSaf (s0 : Device) (s : Device) : KeepsSaf s0 (Machine.haltEngines s) ↔ KeepsSaf s0 s := by
  refine KeepsSaf.iff ?_
  unfold Machine.haltEngines
  simp
@[simp] theorem enterLoaded_keepsSaf (s0 : Device) (s : Device) : KeepsSaf s0 (Machine.enterLoaded s) ↔ KeepsSaf s0 s := by
  refine KeepsSaf.iff ?_
  unfold Machine.enterLoaded
  simp
@[simp] theorem withdrawStaging_keepsSaf (s0 : Device) (s : Device) : KeepsSaf s0 (Machine.withdrawStaging s) ↔ KeepsSaf s0 s := by
  refine KeepsSaf.iff ?_
  unfold Machine.withdrawStaging
  simp
@[simp] theorem cfgStop_keepsSaf (s0 : Device) (p : Pend) (s : Device) : KeepsSaf s0 (Machine.cfgStop p s).dev ↔ KeepsSaf s0 s := by
  refine KeepsSaf.iff ?_
  unfold Machine.cfgStop
  simp
@[simp] theorem noteRestart_keepsSaf (s0 : Device) (kind : Nat) (cause : Nat) (s : Device) : KeepsSaf s0 (Machine.noteRestart kind cause s) ↔ KeepsSaf s0 s := by
  refine KeepsSaf.iff ?_
  unfold Machine.noteRestart
  simp
@[simp] theorem beginRestart_keepsSaf (s0 : Device) (kind : Nat) (cause : Nat) (s : Device) : KeepsSaf s0 (Machine.beginRestart kind cause s) ↔ KeepsSaf s0 s := by
  refine KeepsSaf.iff ?_
  unfold Machine.beginRestart
  simp
@[simp] theorem claimExpiry_keepsSaf (s0 : Device) (pact : Bool) (s : Device) : KeepsSaf s0 (Machine.claimExpiry pact s) ↔ KeepsSaf s0 s := by
  refine KeepsSaf.iff ?_
  unfold Machine.claimExpiry
  repeat' split
  all_goals simp
@[simp] theorem tapLoad_keepsSaf (s0 : Device) (code : Nat) (s : Device) : KeepsSaf s0 (Machine.tapLoad code s) ↔ KeepsSaf s0 s := by
  refine KeepsSaf.iff ?_
  unfold Machine.tapLoad
  simp
@[simp] theorem tapRefuse_keepsSaf (s0 : Device) (code : Nat) (s : Device) : KeepsSaf s0 (Machine.tapRefuse code s) ↔ KeepsSaf s0 s := by
  refine KeepsSaf.iff ?_
  unfold Machine.tapRefuse
  simp
@[simp] theorem tapPins_keepsSaf (s0 : Device) (code : Nat) (s : Device) : KeepsSaf s0 (Machine.tapPins code s) ↔ KeepsSaf s0 s := by
  refine KeepsSaf.iff ?_
  unfold Machine.tapPins
  simp
@[simp] theorem accError_keepsSaf (s0 : Device) (s : Device) : KeepsSaf s0 (Machine.accError s) ↔ KeepsSaf s0 s := by
  refine KeepsSaf.iff ?_
  unfold Machine.accError
  simp
@[simp] theorem railEvtClear_keepsSaf (s0 : Device) (b : BusWrite) (s : Device) : KeepsSaf s0 (Machine.railEvtClear b s) ↔ KeepsSaf s0 s := by
  refine KeepsSaf.iff ?_
  unfold Machine.railEvtClear
  split <;> simp
@[simp] theorem clkForce_keepsSaf (s0 : Device) (b : BusWrite) (s : Device) : KeepsSaf s0 (Machine.clkForce b s) ↔ KeepsSaf s0 s := by
  refine KeepsSaf.iff ?_
  unfold Machine.clkForce
  split <;> simp
@[simp] theorem cbReset_keepsSaf (s0 : Device) (p : Pend) (s : Device) : KeepsSaf s0 (Machine.cbReset p s).dev ↔ KeepsSaf s0 s := by
  refine KeepsSaf.iff ?_
  unfold Machine.cbReset
  simp
@[simp] theorem checkLoad_keepsSaf (s0 : Device) (p : Pend) (s : Device) : KeepsSaf s0 (Machine.checkLoad p s).dev ↔ KeepsSaf s0 s := by
  refine KeepsSaf.iff ?_
  unfold Machine.checkLoad
  simp
@[simp] theorem clearLastGasp_keepsSaf (s0 : Device) (p : Pend) (s : Device) : KeepsSaf s0 (Machine.clearLastGasp p s).dev ↔ KeepsSaf s0 s := by
  refine KeepsSaf.iff ?_
  unfold Machine.clearLastGasp
  simp
@[simp] theorem dacDrop_keepsSaf (s0 : Device) (o : OutItem) (s : Device) : KeepsSaf s0 (Machine.dacDrop o s) ↔ KeepsSaf s0 s := by
  refine KeepsSaf.iff ?_
  unfold Machine.dacDrop
  simp
@[simp] theorem cutOutput_keepsSaf (s0 : Device) (key : Nat) (code : Int) (held : Option STime) (new : STime) (s : Device) : KeepsSaf s0 (Machine.cutOutput key code held new s) ↔ KeepsSaf s0 s := by
  refine KeepsSaf.iff ?_
  unfold Machine.cutOutput
  split <;> simp
@[simp] theorem modDac_keepsSaf (s0 : Device) (n : Nat) (f : DacCh → DacCh) (s : Device) : KeepsSaf s0 (Machine.modDac n f s) ↔ KeepsSaf s0 s := by
  refine KeepsSaf.iff ?_
  unfold Machine.modDac
  simp
@[simp] theorem dacLatch_keepsSaf (s0 : Device) (o : OutItem) (s : Device) : KeepsSaf s0 (Machine.dacLatch o s) ↔ KeepsSaf s0 s := by
  refine KeepsSaf.iff ?_
  unfold Machine.dacLatch
  simp
@[simp] theorem dacHold_keepsSaf (s0 : Device) (n : Nat) (s : Device) : KeepsSaf s0 (Machine.dacHold n s) ↔ KeepsSaf s0 s := by
  refine KeepsSaf.iff ?_
  unfold Machine.dacHold
  repeat' (first
    | with_reducible exact KeepsSaf.refl _
    | (simp; done)
    | (with_reducible refine KeepsSaf.ite ?_ ?_)
    | (with_reducible refine KeepsSaf.foldl _ _ _ ?_ ?_; intro u x)
    | (with_reducible refine KeepsSaf.checked _ _ _ _ ?_ ?_; intro p u)
    | (with_reducible refine (spireWrite_keepsSaf _ _ _ ?_).mpr ?_; intro u)
    | (with_reducible refine (domeWrite_keepsSaf _ _ _ ?_).mpr ?_; intro u)
    | (with_reducible refine (underRec_keepsSaf _ _ _ _ _ _ _ ?_).mpr ?_; intro b u)
    | (with_reducible refine (keepWrite_keepsSaf _ _ _ _ ?_).mpr ?_; intro u)
    | (split <;> (try (rename_i h; replace h := congrArg Prod.snd h; dsimp only at h; subst h)))
    | intro _
    | simp)
@[simp] theorem dacAccept_keepsSaf (s0 : Device) (o : OutItem) (s : Device) : KeepsSaf s0 (Machine.dacAccept o s) ↔ KeepsSaf s0 s := by
  refine KeepsSaf.iff ?_
  unfold Machine.dacAccept
  repeat' (first
    | with_reducible exact KeepsSaf.refl _
    | (simp; done)
    | (with_reducible refine KeepsSaf.ite ?_ ?_)
    | (with_reducible refine KeepsSaf.foldl _ _ _ ?_ ?_; intro u x)
    | (with_reducible refine KeepsSaf.checked _ _ _ _ ?_ ?_; intro p u)
    | (with_reducible refine (spireWrite_keepsSaf _ _ _ ?_).mpr ?_; intro u)
    | (with_reducible refine (domeWrite_keepsSaf _ _ _ ?_).mpr ?_; intro u)
    | (with_reducible refine (underRec_keepsSaf _ _ _ _ _ _ _ ?_).mpr ?_; intro b u)
    | (with_reducible refine (keepWrite_keepsSaf _ _ _ _ ?_).mpr ?_; intro u)
    | (split <;> (try (rename_i h; replace h := congrArg Prod.snd h; dsimp only at h; subst h)))
    | intro _
    | simp)
@[simp] theorem dacSet_keepsSaf (s0 : Device) (p : Pend) (s : Device) : KeepsSaf s0 (Machine.dacSet p s).dev ↔ KeepsSaf s0 s := by
  refine KeepsSaf.iff ?_
  unfold Machine.dacSet
  simp
@[simp] theorem dioClear_keepsSaf (s0 : Device) (p : Pend) (s : Device) : KeepsSaf s0 (Machine.dioClear p s).dev ↔ KeepsSaf s0 s := by
  refine KeepsSaf.iff ?_
  unfold Machine.dioClear
  simp
@[simp] theorem pinWrite_keepsSaf (s0 : Device) (n : Nat) (level : Bool) (t : STime) (s : Device) : KeepsSaf s0 (Machine.pinWrite n level t s) ↔ KeepsSaf s0 s := by
  refine KeepsSaf.iff ?_
  unfold Machine.pinWrite
  simp
@[simp] theorem dioSet_keepsSaf (s0 : Device) (p : Pend) (s : Device) : KeepsSaf s0 (Machine.dioSet p s).dev ↔ KeepsSaf s0 s := by
  refine KeepsSaf.iff ?_
  unfold Machine.dioSet
  simp
@[simp] theorem lateDrop_keepsSaf (s0 : Device) (t : Token) (s : Device) : KeepsSaf s0 (Machine.lateDrop t s) ↔ KeepsSaf s0 s := by
  refine KeepsSaf.iff ?_
  unfold Machine.lateDrop
  simp
@[simp] theorem dptClear_keepsSaf (s0 : Device) (p : Pend) (s : Device) : KeepsSaf s0 (Machine.dptClear p s).dev ↔ KeepsSaf s0 s := by
  refine KeepsSaf.iff ?_
  unfold Machine.dptClear
  simp
@[simp] theorem dramRepair_keepsSaf (s0 : Device) (p : Pend) (s : Device) : KeepsSaf s0 (Machine.dramRepair p s).dev ↔ KeepsSaf s0 s := by
  refine KeepsSaf.iff ?_
  unfold Machine.dramRepair
  repeat' (first
    | with_reducible exact KeepsSaf.refl _
    | (simp; done)
    | (with_reducible refine KeepsSaf.ite ?_ ?_)
    | (with_reducible refine KeepsSaf.foldl _ _ _ ?_ ?_; intro u x)
    | (with_reducible refine KeepsSaf.checked _ _ _ _ ?_ ?_; intro p u)
    | (with_reducible refine (spireWrite_keepsSaf _ _ _ ?_).mpr ?_; intro u)
    | (with_reducible refine (domeWrite_keepsSaf _ _ _ ?_).mpr ?_; intro u)
    | (with_reducible refine (underRec_keepsSaf _ _ _ _ _ _ _ ?_).mpr ?_; intro b u)
    | (with_reducible refine (keepWrite_keepsSaf _ _ _ _ ?_).mpr ?_; intro u)
    | (split <;> (try (rename_i h; replace h := congrArg Prod.snd h; dsimp only at h; subst h)))
    | intro _
    | simp)
@[simp] theorem supersede_keepsSaf (s0 : Device) (st : Nat) (w : Nat) (o : OutItem) (s : Device) : KeepsSaf s0 (Machine.supersede st w o s) ↔ KeepsSaf s0 s := by
  refine KeepsSaf.iff ?_
  unfold Machine.supersede
  repeat' (first
    | with_reducible exact KeepsSaf.refl _
    | (simp; done)
    | (with_reducible refine KeepsSaf.ite ?_ ?_)
    | (with_reducible refine KeepsSaf.foldl _ _ _ ?_ ?_; intro u x)
    | (with_reducible refine KeepsSaf.checked _ _ _ _ ?_ ?_; intro p u)
    | (with_reducible refine (spireWrite_keepsSaf _ _ _ ?_).mpr ?_; intro u)
    | (with_reducible refine (domeWrite_keepsSaf _ _ _ ?_).mpr ?_; intro u)
    | (with_reducible refine (underRec_keepsSaf _ _ _ _ _ _ _ ?_).mpr ?_; intro b u)
    | (with_reducible refine (keepWrite_keepsSaf _ _ _ _ ?_).mpr ?_; intro u)
    | (split <;> (try (rename_i h; replace h := congrArg Prod.snd h; dsimp only at h; subst h)))
    | intro _
    | simp)
@[simp] theorem ethClear_keepsSaf (s0 : Device) (p : Pend) (s : Device) : KeepsSaf s0 (Machine.ethClear p s).dev ↔ KeepsSaf s0 s := by
  refine KeepsSaf.iff ?_
  unfold Machine.ethClear
  simp
@[simp] theorem evrClear_keepsSaf (s0 : Device) (p : Pend) (s : Device) : KeepsSaf s0 (Machine.evrClear p s).dev ↔ KeepsSaf s0 s := by
  refine KeepsSaf.iff ?_
  unfold Machine.evrClear
  simp
@[simp] theorem evrExport_keepsSaf (s0 : Device) (bad : List Nat) (p : Pend) (s : Device) : KeepsSaf s0 (Machine.evrExport bad p s).dev ↔ KeepsSaf s0 s := by
  refine KeepsSaf.iff ?_
  unfold Machine.evrExport
  simp
@[simp] theorem checkSigned_keepsSaf (s0 : Device) (img : List Byte) (off : Nat) (role : Nat) (svn : Nat) (kind : Nat) (required : Bool) (s : Device) : KeepsSaf s0 (Machine.checkSigned img off role svn kind required s).2 ↔ KeepsSaf s0 s := by
  refine KeepsSaf.iff ?_
  unfold Machine.checkSigned
  repeat' split
  all_goals simp
@[simp] theorem fblRefuse_keepsSaf (s0 : Device) (index : Nat) (reason : Nat) (s : Device) : KeepsSaf s0 (Machine.fblRefuse index reason s).dev ↔ KeepsSaf s0 s := by
  refine KeepsSaf.iff ?_
  unfold Machine.fblRefuse
  simp
@[simp] theorem imageOf_keepsSaf (s0 : Device) (src : Nat) (d : Desc) (s : Device) : KeepsSaf s0 (Machine.imageOf src d s).2 ↔ KeepsSaf s0 s := by
  refine KeepsSaf.iff ?_
  unfold Machine.imageOf
  repeat' split
  all_goals simp
@[simp] theorem fblLoad_keepsSaf (s0 : Device) (bad : List Nat) (p : Pend) (s : Device) : KeepsSaf s0 (Machine.fblLoad bad p s).dev ↔ KeepsSaf s0 s := by
  refine KeepsSaf.iff ?_
  unfold Machine.fblLoad
  repeat' (first
    | with_reducible exact KeepsSaf.refl _
    | (simp; done)
    | (with_reducible refine KeepsSaf.ite ?_ ?_)
    | (with_reducible refine KeepsSaf.foldl _ _ _ ?_ ?_; intro u x)
    | (with_reducible refine KeepsSaf.checked _ _ _ _ ?_ ?_; intro p u)
    | (with_reducible refine (spireWrite_keepsSaf _ _ _ ?_).mpr ?_; intro u)
    | (with_reducible refine (domeWrite_keepsSaf _ _ _ ?_).mpr ?_; intro u)
    | (with_reducible refine (underRec_keepsSaf _ _ _ _ _ _ _ ?_).mpr ?_; intro b u)
    | (with_reducible refine (keepWrite_keepsSaf _ _ _ _ ?_).mpr ?_; intro u)
    | (split <;> (try (rename_i h; replace h := congrArg Prod.snd h; dsimp only at h; subst h)))
    | intro _
    | simp)
@[simp] theorem fblRead_keepsSaf (s0 : Device) (p : Pend) (s : Device) : KeepsSaf s0 (Machine.fblRead p s).dev ↔ KeepsSaf s0 s := by
  refine KeepsSaf.iff ?_
  unfold Machine.fblRead
  simp
@[simp] theorem fwStage_keepsSaf (s0 : Device) (p : Pend) (s : Device) : KeepsSaf s0 (Machine.fwStage p s).dev ↔ KeepsSaf s0 s := by
  refine KeepsSaf.iff ?_
  unfold Machine.fwStage
  repeat' (first
    | with_reducible exact KeepsSaf.refl _
    | (simp; done)
    | (with_reducible refine KeepsSaf.ite ?_ ?_)
    | (with_reducible refine KeepsSaf.foldl _ _ _ ?_ ?_; intro u x)
    | (with_reducible refine KeepsSaf.checked _ _ _ _ ?_ ?_; intro p u)
    | (with_reducible refine (spireWrite_keepsSaf _ _ _ ?_).mpr ?_; intro u)
    | (with_reducible refine (domeWrite_keepsSaf _ _ _ ?_).mpr ?_; intro u)
    | (with_reducible refine (underRec_keepsSaf _ _ _ _ _ _ _ ?_).mpr ?_; intro b u)
    | (with_reducible refine (keepWrite_keepsSaf _ _ _ _ ?_).mpr ?_; intro u)
    | (split <;> (try (rename_i h; replace h := congrArg Prod.snd h; dsimp only at h; subst h)))
    | intro _
    | simp)
@[simp] theorem keepScrub_keepsSaf (s0 : Device) (p : Pend) (s : Device) : KeepsSaf s0 (Machine.keepScrub p s).dev ↔ KeepsSaf s0 s := by
  refine KeepsSaf.iff ?_
  unfold Machine.keepScrub
  repeat' (first
    | with_reducible exact KeepsSaf.refl _
    | (simp; done)
    | (with_reducible refine KeepsSaf.ite ?_ ?_)
    | (with_reducible refine KeepsSaf.foldl _ _ _ ?_ ?_; intro u x)
    | (with_reducible refine KeepsSaf.checked _ _ _ _ ?_ ?_; intro p u)
    | (with_reducible refine (spireWrite_keepsSaf _ _ _ ?_).mpr ?_; intro u)
    | (with_reducible refine (domeWrite_keepsSaf _ _ _ ?_).mpr ?_; intro u)
    | (with_reducible refine (underRec_keepsSaf _ _ _ _ _ _ _ ?_).mpr ?_; intro b u)
    | (with_reducible refine (keepWrite_keepsSaf _ _ _ _ ?_).mpr ?_; intro u)
    | (split <;> (try (rename_i h; replace h := congrArg Prod.snd h; dsimp only at h; subst h)))
    | intro _
    | simp)
@[simp] theorem kepClear_keepsSaf (s0 : Device) (p : Pend) (s : Device) : KeepsSaf s0 (Machine.kepClear p s).dev ↔ KeepsSaf s0 s := by
  refine KeepsSaf.iff ?_
  unfold Machine.kepClear
  simp
@[simp] theorem kepReadImage_keepsSaf (s0 : Device) (p : Pend) (s : Device) : KeepsSaf s0 (Machine.kepReadImage p s).dev ↔ KeepsSaf s0 s := by
  refine KeepsSaf.iff ?_
  unfold Machine.kepReadImage
  simp
@[simp] theorem kepRestart_keepsSaf (s0 : Device) (p : Pend) (s : Device) : KeepsSaf s0 (Machine.kepRestart p s).dev ↔ KeepsSaf s0 s := by
  refine KeepsSaf.iff ?_
  unfold Machine.kepRestart
  simp
@[simp] theorem lpeClear_keepsSaf (s0 : Device) (p : Pend) (s : Device) : KeepsSaf s0 (Machine.lpeClear p s).dev ↔ KeepsSaf s0 s := by
  refine KeepsSaf.iff ?_
  unfold Machine.lpeClear
  simp
@[simp] theorem ltnClear_keepsSaf (s0 : Device) (p : Pend) (s : Device) : KeepsSaf s0 (Machine.ltnClear p s).dev ↔ KeepsSaf s0 s := by
  refine KeepsSaf.iff ?_
  unfold Machine.ltnClear
  simp
@[simp] theorem ltnRead_keepsSaf (s0 : Device) (p : Pend) (s : Device) : KeepsSaf s0 (Machine.ltnRead p s).dev ↔ KeepsSaf s0 s := by
  refine KeepsSaf.iff ?_
  unfold Machine.ltnRead
  simp
@[simp] theorem motClear_keepsSaf (s0 : Device) (p : Pend) (s : Device) : KeepsSaf s0 (Machine.motClear p s).dev ↔ KeepsSaf s0 s := by
  refine KeepsSaf.iff ?_
  unfold Machine.motClear
  simp
@[simp] theorem motHome_keepsSaf (s0 : Device) (p : Pend) (s : Device) : KeepsSaf s0 (Machine.motHome p s).dev ↔ KeepsSaf s0 s := by
  refine KeepsSaf.iff ?_
  unfold Machine.motHome
  simp
@[simp] theorem streamGap_keepsSaf (s0 : Device) (source : Nat) (missing : Nat) (t : STime) (s : Device) : KeepsSaf s0 (Machine.streamGap source missing t s) ↔ KeepsSaf s0 s := by
  refine KeepsSaf.iff ?_
  unfold Machine.streamGap
  simp
@[simp] theorem checkSeq_keepsSaf (s0 : Device) (t : Token) (s : Device) : KeepsSaf s0 (Machine.checkSeq t s) ↔ KeepsSaf s0 s := by
  refine KeepsSaf.iff ?_
  unfold Machine.checkSeq
  repeat' (first
    | with_reducible exact KeepsSaf.refl _
    | (simp; done)
    | (with_reducible refine KeepsSaf.ite ?_ ?_)
    | (with_reducible refine KeepsSaf.foldl _ _ _ ?_ ?_; intro u x)
    | (with_reducible refine KeepsSaf.checked _ _ _ _ ?_ ?_; intro p u)
    | (with_reducible refine (spireWrite_keepsSaf _ _ _ ?_).mpr ?_; intro u)
    | (with_reducible refine (domeWrite_keepsSaf _ _ _ ?_).mpr ?_; intro u)
    | (with_reducible refine (underRec_keepsSaf _ _ _ _ _ _ _ ?_).mpr ?_; intro b u)
    | (with_reducible refine (keepWrite_keepsSaf _ _ _ _ ?_).mpr ?_; intro u)
    | (split <;> (try (rename_i h; replace h := congrArg Prod.snd h; dsimp only at h; subst h)))
    | intro _
    | simp)
@[simp] theorem passMarker_keepsSaf (s0 : Device) (key : Nat) (s : Device) : KeepsSaf s0 (Machine.passMarker key s) ↔ KeepsSaf s0 s := by
  refine KeepsSaf.iff ?_
  unfold Machine.passMarker
  simp
@[simp] theorem setReady_keepsSaf (s0 : Device) (q : List ReadyEntry) (s : Device) : KeepsSaf s0 (Machine.setReady q s) ↔ KeepsSaf s0 s := by
  refine KeepsSaf.iff ?_
  unfold Machine.setReady
  simp
@[simp] theorem makeReady_keepsSaf (s0 : Device) (e : ReadyEntry) (s : Device) : KeepsSaf s0 (Machine.makeReady e s) ↔ KeepsSaf s0 s := by
  refine KeepsSaf.iff ?_
  unfold Machine.makeReady
  simp
@[simp] theorem checkReady_keepsSaf (s0 : Device) (slot : Nat) (s : Device) : KeepsSaf s0 (Machine.checkReady slot s) ↔ KeepsSaf s0 s := by
  refine KeepsSaf.iff ?_
  unfold Machine.checkReady
  repeat' (first
    | with_reducible exact KeepsSaf.refl _
    | (simp; done)
    | (with_reducible refine KeepsSaf.ite ?_ ?_)
    | (with_reducible refine KeepsSaf.foldl _ _ _ ?_ ?_; intro u x)
    | (with_reducible refine KeepsSaf.checked _ _ _ _ ?_ ?_; intro p u)
    | (with_reducible refine (spireWrite_keepsSaf _ _ _ ?_).mpr ?_; intro u)
    | (with_reducible refine (domeWrite_keepsSaf _ _ _ ?_).mpr ?_; intro u)
    | (with_reducible refine (underRec_keepsSaf _ _ _ _ _ _ _ ?_).mpr ?_; intro b u)
    | (with_reducible refine (keepWrite_keepsSaf _ _ _ _ ?_).mpr ?_; intro u)
    | (split <;> (try (rename_i h; replace h := congrArg Prod.snd h; dsimp only at h; subst h)))
    | intro _
    | simp)
@[simp] theorem expire_keepsSaf (s0 : Device) (e : ReadyEntry) (s : Device) : KeepsSaf s0 (Machine.expire e s) ↔ KeepsSaf s0 s := by
  refine KeepsSaf.iff ?_
  unfold Machine.expire
  split <;> simp
@[simp] theorem freshWaitExpiry_keepsSaf (s0 : Device) (slot : Nat) (s : Device) : KeepsSaf s0 (Machine.freshWaitExpiry slot s) ↔ KeepsSaf s0 s := by
  refine KeepsSaf.iff ?_
  unfold Machine.freshWaitExpiry
  repeat' (first
    | with_reducible exact KeepsSaf.refl _
    | (simp; done)
    | (with_reducible refine KeepsSaf.ite ?_ ?_)
    | (with_reducible refine KeepsSaf.foldl _ _ _ ?_ ?_; intro u x)
    | (with_reducible refine KeepsSaf.checked _ _ _ _ ?_ ?_; intro p u)
    | (with_reducible refine (spireWrite_keepsSaf _ _ _ ?_).mpr ?_; intro u)
    | (with_reducible refine (domeWrite_keepsSaf _ _ _ ?_).mpr ?_; intro u)
    | (with_reducible refine (underRec_keepsSaf _ _ _ _ _ _ _ ?_).mpr ?_; intro b u)
    | (with_reducible refine (keepWrite_keepsSaf _ _ _ _ ?_).mpr ?_; intro u)
    | (split <;> (try (rename_i h; replace h := congrArg Prod.snd h; dsimp only at h; subst h)))
    | intro _
    | simp)
@[simp] theorem primaryWaitExpiry_keepsSaf (s0 : Device) (slot : Nat) (s : Device) : KeepsSaf s0 (Machine.primaryWaitExpiry slot s) ↔ KeepsSaf s0 s := by
  refine KeepsSaf.iff ?_
  unfold Machine.primaryWaitExpiry
  repeat' (first
    | with_reducible exact KeepsSaf.refl _
    | (simp; done)
    | (with_reducible refine KeepsSaf.ite ?_ ?_)
    | (with_reducible refine KeepsSaf.foldl _ _ _ ?_ ?_; intro u x)
    | (with_reducible refine KeepsSaf.checked _ _ _ _ ?_ ?_; intro p u)
    | (with_reducible refine (spireWrite_keepsSaf _ _ _ ?_).mpr ?_; intro u)
    | (with_reducible refine (domeWrite_keepsSaf _ _ _ ?_).mpr ?_; intro u)
    | (with_reducible refine (underRec_keepsSaf _ _ _ _ _ _ _ ?_).mpr ?_; intro b u)
    | (with_reducible refine (keepWrite_keepsSaf _ _ _ _ ?_).mpr ?_; intro u)
    | (split <;> (try (rename_i h; replace h := congrArg Prod.snd h; dsimp only at h; subst h)))
    | intro _
    | simp)
@[simp] theorem settleTask_keepsSaf (s0 : Device) (slot : Nat) (undone : Bool) (s : Device) : KeepsSaf s0 (Machine.settleTask slot undone s) ↔ KeepsSaf s0 s := by
  refine KeepsSaf.iff ?_
  unfold Machine.settleTask
  simp
@[simp] theorem cutOperand_keepsSaf (s0 : Device) (t : Token) (s : Device) : KeepsSaf s0 (Machine.cutOperand t s) ↔ KeepsSaf s0 s := by
  refine KeepsSaf.iff ?_
  unfold Machine.cutOperand
  repeat' (first
    | with_reducible exact KeepsSaf.refl _
    | (simp; done)
    | (with_reducible refine KeepsSaf.ite ?_ ?_)
    | (with_reducible refine KeepsSaf.foldl _ _ _ ?_ ?_; intro u x)
    | (with_reducible refine KeepsSaf.checked _ _ _ _ ?_ ?_; intro p u)
    | (with_reducible refine (spireWrite_keepsSaf _ _ _ ?_).mpr ?_; intro u)
    | (with_reducible refine (domeWrite_keepsSaf _ _ _ ?_).mpr ?_; intro u)
    | (with_reducible refine (underRec_keepsSaf _ _ _ _ _ _ _ ?_).mpr ?_; intro b u)
    | (with_reducible refine (keepWrite_keepsSaf _ _ _ _ ?_).mpr ?_; intro u)
    | (split <;> (try (rename_i h; replace h := congrArg Prod.snd h; dsimp only at h; subst h)))
    | intro _
    | simp)
@[simp] theorem takeOperand_keepsSaf (s0 : Device) (t : Token) (s : Device) : KeepsSaf s0 (Machine.takeOperand t s) ↔ KeepsSaf s0 s := by
  refine KeepsSaf.iff ?_
  unfold Machine.takeOperand
  simp
@[simp] theorem takePrimary_keepsSaf (s0 : Device) (t : Token) (s : Device) : KeepsSaf s0 (Machine.takePrimary t s) ↔ KeepsSaf s0 s := by
  refine KeepsSaf.iff ?_
  unfold Machine.takePrimary
  repeat' (first
    | with_reducible exact KeepsSaf.refl _
    | (simp; done)
    | (with_reducible refine KeepsSaf.ite ?_ ?_)
    | (with_reducible refine KeepsSaf.foldl _ _ _ ?_ ?_; intro u x)
    | (with_reducible refine KeepsSaf.checked _ _ _ _ ?_ ?_; intro p u)
    | (with_reducible refine (spireWrite_keepsSaf _ _ _ ?_).mpr ?_; intro u)
    | (with_reducible refine (domeWrite_keepsSaf _ _ _ ?_).mpr ?_; intro u)
    | (with_reducible refine (underRec_keepsSaf _ _ _ _ _ _ _ ?_).mpr ?_; intro b u)
    | (with_reducible refine (keepWrite_keepsSaf _ _ _ _ ?_).mpr ?_; intro u)
    | (split <;> (try (rename_i h; replace h := congrArg Prod.snd h; dsimp only at h; subst h)))
    | intro _
    | simp)
@[simp] theorem undoExpiry_keepsSaf (s0 : Device) (t : Token) (s : Device) : KeepsSaf s0 (Machine.undoExpiry t s) ↔ KeepsSaf s0 s := by
  refine KeepsSaf.iff ?_
  unfold Machine.undoExpiry
  split <;> simp
@[simp] theorem tokenArrive_keepsSaf (s0 : Device) (t : Token) (s : Device) : KeepsSaf s0 (Machine.tokenArrive t s) ↔ KeepsSaf s0 s := by
  refine KeepsSaf.iff ?_
  unfold Machine.tokenArrive
  repeat' (first
    | with_reducible exact KeepsSaf.refl _
    | (simp; done)
    | (with_reducible refine KeepsSaf.ite ?_ ?_)
    | (with_reducible refine KeepsSaf.foldl _ _ _ ?_ ?_; intro u x)
    | (with_reducible refine KeepsSaf.checked _ _ _ _ ?_ ?_; intro p u)
    | (with_reducible refine (spireWrite_keepsSaf _ _ _ ?_).mpr ?_; intro u)
    | (with_reducible refine (domeWrite_keepsSaf _ _ _ ?_).mpr ?_; intro u)
    | (with_reducible refine (underRec_keepsSaf _ _ _ _ _ _ _ ?_).mpr ?_; intro b u)
    | (with_reducible refine (keepWrite_keepsSaf _ _ _ _ ?_).mpr ?_; intro u)
    | (split <;> (try (rename_i h; replace h := congrArg Prod.snd h; dsimp only at h; subst h)))
    | intro _
    | simp)
@[simp] theorem tokenDirect_keepsSaf (s0 : Device) (t : Token) (s : Device) : KeepsSaf s0 (Machine.tokenDirect t s) ↔ KeepsSaf s0 s := by
  refine KeepsSaf.iff ?_
  unfold Machine.tokenDirect
  simp
@[simp] theorem motMove_keepsSaf (s0 : Device) (p : Pend) (s : Device) : KeepsSaf s0 (Machine.motMove p s).dev ↔ KeepsSaf s0 s := by
  refine KeepsSaf.iff ?_
  unfold Machine.motMove
  simp
@[simp] theorem motSetPos_keepsSaf (s0 : Device) (p : Pend) (s : Device) : KeepsSaf s0 (Machine.motSetPos p s).dev ↔ KeepsSaf s0 s := by
  refine KeepsSaf.iff ?_
  unfold Machine.motSetPos
  simp
@[simp] theorem motStop_keepsSaf (s0 : Device) (p : Pend) (s : Device) : KeepsSaf s0 (Machine.motStop p s).dev ↔ KeepsSaf s0 s := by
  refine KeepsSaf.iff ?_
  unfold Machine.motStop
  simp
@[simp] theorem nopBody_keepsSaf (s0 : Device) (p : Pend) (s : Device) : KeepsSaf s0 (Machine.nopBody p s).dev ↔ KeepsSaf s0 s := by
  refine KeepsSaf.iff ?_
  unfold Machine.nopBody
  simp
@[simp] theorem paiClear_keepsSaf (s0 : Device) (p : Pend) (s : Device) : KeepsSaf s0 (Machine.paiClear p s).dev ↔ KeepsSaf s0 s := by
  refine KeepsSaf.iff ?_
  unfold Machine.paiClear
  simp
@[simp] theorem tryJoin_keepsSaf (s0 : Device) (s : Device) : KeepsSaf s0 (Machine.tryJoin s) ↔ KeepsSaf s0 s := by
  refine KeepsSaf.iff ?_
  unfold Machine.tryJoin
  simp
@[simp] theorem paiJoin_keepsSaf (s0 : Device) (p : Pend) (s : Device) : KeepsSaf s0 (Machine.paiJoin p s).dev ↔ KeepsSaf s0 s := by
  refine KeepsSaf.iff ?_
  unfold Machine.paiJoin
  simp
@[simp] theorem paiLeave_keepsSaf (s0 : Device) (p : Pend) (s : Device) : KeepsSaf s0 (Machine.paiLeave p s).dev ↔ KeepsSaf s0 s := by
  refine KeepsSaf.iff ?_
  unfold Machine.paiLeave
  simp
@[simp] theorem paiReadPeer_keepsSaf (s0 : Device) (p : Pend) (s : Device) : KeepsSaf s0 (Machine.paiReadPeer p s).dev ↔ KeepsSaf s0 s := by
  refine KeepsSaf.iff ?_
  unfold Machine.paiReadPeer
  repeat' (first
    | with_reducible exact KeepsSaf.refl _
    | (simp; done)
    | (with_reducible refine KeepsSaf.ite ?_ ?_)
    | (with_reducible refine KeepsSaf.foldl _ _ _ ?_ ?_; intro u x)
    | (with_reducible refine KeepsSaf.checked _ _ _ _ ?_ ?_; intro p u)
    | (with_reducible refine (spireWrite_keepsSaf _ _ _ ?_).mpr ?_; intro u)
    | (with_reducible refine (domeWrite_keepsSaf _ _ _ ?_).mpr ?_; intro u)
    | (with_reducible refine (underRec_keepsSaf _ _ _ _ _ _ _ ?_).mpr ?_; intro b u)
    | (with_reducible refine (keepWrite_keepsSaf _ _ _ _ ?_).mpr ?_; intro u)
    | (split <;> (try (rename_i h; replace h := congrArg Prod.snd h; dsimp only at h; subst h)))
    | intro _
    | simp)
@[simp] theorem paiSwitch_keepsSaf (s0 : Device) (p : Pend) (s : Device) : KeepsSaf s0 (Machine.paiSwitch p s).dev ↔ KeepsSaf s0 s := by
  refine KeepsSaf.iff ?_
  unfold Machine.paiSwitch
  simp
@[simp] theorem modCore_keepsSaf (s0 : Device) (c : Nat) (f : Core → Core) (s : Device) : KeepsSaf s0 (Machine.modCore c f s) ↔ KeepsSaf s0 s := by
  refine KeepsSaf.iff ?_
  unfold Machine.modCore
  simp
@[simp] theorem overrun_keepsSaf (s0 : Device) (c : Nat) (y : Cycle) (tmax : Nat) (s : Device) : KeepsSaf s0 (Machine.overrun c y tmax s) ↔ KeepsSaf s0 s := by
  refine KeepsSaf.iff ?_
  unfold Machine.overrun
  simp
@[simp] theorem pgmClear_keepsSaf (s0 : Device) (p : Pend) (s : Device) : KeepsSaf s0 (Machine.pgmClear p s).dev ↔ KeepsSaf s0 s := by
  refine KeepsSaf.iff ?_
  unfold Machine.pgmClear
  simp
@[simp] theorem checkProgram_keepsSaf (s0 : Device) (p : Nat) (d : Desc) (s : Device) : KeepsSaf s0 (Machine.checkProgram p d s).2 ↔ KeepsSaf s0 s := by
  refine KeepsSaf.iff ?_
  unfold Machine.checkProgram
  repeat' (first
    | with_reducible exact KeepsSaf.refl _
    | (simp; done)
    | (with_reducible refine KeepsSaf.ite ?_ ?_)
    | (with_reducible refine KeepsSaf.foldl _ _ _ ?_ ?_; intro u x)
    | (with_reducible refine KeepsSaf.checked _ _ _ _ ?_ ?_; intro p u)
    | (with_reducible refine (spireWrite_keepsSaf _ _ _ ?_).mpr ?_; intro u)
    | (with_reducible refine (domeWrite_keepsSaf _ _ _ ?_).mpr ?_; intro u)
    | (with_reducible refine (underRec_keepsSaf _ _ _ _ _ _ _ ?_).mpr ?_; intro b u)
    | (with_reducible refine (keepWrite_keepsSaf _ _ _ _ ?_).mpr ?_; intro u)
    | (split <;> (try (rename_i h; replace h := congrArg Prod.snd h; dsimp only at h; subst h)))
    | intro _
    | simp)
@[simp] theorem storeImage_keepsSaf (s0 : Device) (p : Nat) (i : List Byte) (s : Device) : KeepsSaf s0 (Machine.storeImage p i s).2 ↔ KeepsSaf s0 s := by
  refine KeepsSaf.iff ?_
  unfold Machine.storeImage
  simp
@[simp] theorem pgmExchange_keepsSaf (s0 : Device) (bad : List Nat) (p : Pend) (s : Device) : KeepsSaf s0 (Machine.pgmExchange bad p s).dev ↔ KeepsSaf s0 s := by
  refine KeepsSaf.iff ?_
  unfold Machine.pgmExchange
  repeat' (first
    | with_reducible exact KeepsSaf.refl _
    | (simp; done)
    | (with_reducible refine KeepsSaf.ite ?_ ?_)
    | (with_reducible refine KeepsSaf.foldl _ _ _ ?_ ?_; intro u x)
    | (with_reducible refine KeepsSaf.checked _ _ _ _ ?_ ?_; intro p u)
    | (with_reducible refine (spireWrite_keepsSaf _ _ _ ?_).mpr ?_; intro u)
    | (with_reducible refine (domeWrite_keepsSaf _ _ _ ?_).mpr ?_; intro u)
    | (with_reducible refine (underRec_keepsSaf _ _ _ _ _ _ _ ?_).mpr ?_; intro b u)
    | (with_reducible refine (keepWrite_keepsSaf _ _ _ _ ?_).mpr ?_; intro u)
    | (split <;> (try (rename_i h; replace h := congrArg Prod.snd h; dsimp only at h; subst h)))
    | intro _
    | simp)
@[simp] theorem pgmLoad_keepsSaf (s0 : Device) (bad : List Nat) (p : Pend) (s : Device) : KeepsSaf s0 (Machine.pgmLoad bad p s).dev ↔ KeepsSaf s0 s := by
  refine KeepsSaf.iff ?_
  unfold Machine.pgmLoad
  repeat' (first
    | with_reducible exact KeepsSaf.refl _
    | (simp; done)
    | (with_reducible refine KeepsSaf.ite ?_ ?_)
    | (with_reducible refine KeepsSaf.foldl _ _ _ ?_ ?_; intro u x)
    | (with_reducible refine KeepsSaf.checked _ _ _ _ ?_ ?_; intro p u)
    | (with_reducible refine (spireWrite_keepsSaf _ _ _ ?_).mpr ?_; intro u)
    | (with_reducible refine (domeWrite_keepsSaf _ _ _ ?_).mpr ?_; intro u)
    | (with_reducible refine (underRec_keepsSaf _ _ _ _ _ _ _ ?_).mpr ?_; intro b u)
    | (with_reducible refine (keepWrite_keepsSaf _ _ _ _ ?_).mpr ?_; intro u)
    | (split <;> (try (rename_i h; replace h := congrArg Prod.snd h; dsimp only at h; subst h)))
    | intro _
    | simp)
@[simp] theorem pgmRestart_keepsSaf (s0 : Device) (p : Pend) (s : Device) : KeepsSaf s0 (Machine.pgmRestart p s).dev ↔ KeepsSaf s0 s := by
  refine KeepsSaf.iff ?_
  unfold Machine.pgmRestart
  simp
@[simp] theorem posPreset_keepsSaf (s0 : Device) (p : Pend) (s : Device) : KeepsSaf s0 (Machine.posPreset p s).dev ↔ KeepsSaf s0 s := by
  refine KeepsSaf.iff ?_
  unfold Machine.posPreset
  simp
@[simp] theorem readAxis_keepsSaf (s0 : Device) (p : Pend) (s : Device) : KeepsSaf s0 (Machine.readAxis p s).dev ↔ KeepsSaf s0 s := by
  refine KeepsSaf.iff ?_
  unfold Machine.readAxis
  simp
@[simp] theorem readDomain_keepsSaf (s0 : Device) (p : Pend) (s : Device) : KeepsSaf s0 (Machine.readDomain p s).dev ↔ KeepsSaf s0 s := by
  refine KeepsSaf.iff ?_
  unfold Machine.readDomain
  simp
@[simp] theorem readInstance_keepsSaf (s0 : Device) (p : Pend) (s : Device) : KeepsSaf s0 (Machine.readInstance p s).dev ↔ KeepsSaf s0 s := by
  refine KeepsSaf.iff ?_
  unfold Machine.readInstance
  simp
@[simp] theorem readLastGasp_keepsSaf (s0 : Device) (p : Pend) (s : Device) : KeepsSaf s0 (Machine.readLastGasp p s).dev ↔ KeepsSaf s0 s := by
  refine KeepsSaf.iff ?_
  unfold Machine.readLastGasp
  simp
@[simp] theorem readLoop_keepsSaf (s0 : Device) (p : Pend) (s : Device) : KeepsSaf s0 (Machine.readLoop p s).dev ↔ KeepsSaf s0 s := by
  refine KeepsSaf.iff ?_
  unfold Machine.readLoop
  simp
@[simp] theorem readStation_keepsSaf (s0 : Device) (p : Pend) (s : Device) : KeepsSaf s0 (Machine.readStation p s).dev ↔ KeepsSaf s0 s := by
  refine KeepsSaf.iff ?_
  unfold Machine.readStation
  simp
@[simp] theorem readTask_keepsSaf (s0 : Device) (p : Pend) (s : Device) : KeepsSaf s0 (Machine.readTask p s).dev ↔ KeepsSaf s0 s := by
  refine KeepsSaf.iff ?_
  unfold Machine.readTask
  simp
@[simp] theorem reparam_keepsSaf (s0 : Device) (p : Pend) (s : Device) : KeepsSaf s0 (Machine.reparam p s).dev ↔ KeepsSaf s0 s := by
  refine KeepsSaf.iff ?_
  unfold Machine.reparam
  simp
@[simp] theorem reserveSwap_keepsSaf (s0 : Device) (p : Pend) (s : Device) : KeepsSaf s0 (Machine.reserveSwap p s).dev ↔ KeepsSaf s0 s := by
  refine KeepsSaf.iff ?_
  unfold Machine.reserveSwap
  repeat' (first
    | with_reducible exact KeepsSaf.refl _
    | (simp; done)
    | (with_reducible refine KeepsSaf.ite ?_ ?_)
    | (with_reducible refine KeepsSaf.foldl _ _ _ ?_ ?_; intro u x)
    | (with_reducible refine KeepsSaf.checked _ _ _ _ ?_ ?_; intro p u)
    | (with_reducible refine (spireWrite_keepsSaf _ _ _ ?_).mpr ?_; intro u)
    | (with_reducible refine (domeWrite_keepsSaf _ _ _ ?_).mpr ?_; intro u)
    | (with_reducible refine (underRec_keepsSaf _ _ _ _ _ _ _ ?_).mpr ?_; intro b u)
    | (with_reducible refine (keepWrite_keepsSaf _ _ _ _ ?_).mpr ?_; intro u)
    | (split <;> (try (rename_i h; replace h := congrArg Prod.snd h; dsimp only at h; subst h)))
    | intro _
    | simp)
@[simp] theorem flushOne_keepsSaf (s0 : Device) (n : Nat) (s : Device) (f : Option Fetched) : KeepsSaf s0 (Machine.flushOne n s f) ↔ KeepsSaf s0 s := by
  refine KeepsSaf.iff ?_
  unfold Machine.flushOne
  simp
@[simp] theorem resumeRing_keepsSaf (s0 : Device) (n : Nat) (flush : Bool) (slots : List SlotRead) (s : Device) : KeepsSaf s0 (Machine.resumeRing n flush slots s).2 ↔ KeepsSaf s0 s := by
  refine KeepsSaf.iff ?_
  unfold Machine.resumeRing
  simp
@[simp] theorem ringResume_keepsSaf (s0 : Device) (got : List SlotRead) (p : Pend) (s : Device) : KeepsSaf s0 (Machine.ringResume got p s).dev ↔ KeepsSaf s0 s := by
  refine KeepsSaf.iff ?_
  unfold Machine.ringResume
  simp
@[simp] theorem issueNonce_keepsSaf (s0 : Device) (s : Device) : KeepsSaf s0 (Machine.issueNonce s).2 ↔ KeepsSaf s0 s := by
  refine KeepsSaf.iff ?_
  unfold Machine.issueNonce
  simp
@[simp] theorem secChallenge_keepsSaf (s0 : Device) (p : Pend) (s : Device) : KeepsSaf s0 (Machine.secChallenge p s).dev ↔ KeepsSaf s0 s := by
  refine KeepsSaf.iff ?_
  unfold Machine.secChallenge
  simp
@[simp] theorem closeScopes_keepsSaf (s0 : Device) (mask : Nat) (cause : Nat) (s : Device) : KeepsSaf s0 (Machine.closeScopes mask cause s) ↔ KeepsSaf s0 s := by
  refine KeepsSaf.iff ?_
  unfold Machine.closeScopes
  simp
@[simp] theorem secClose_keepsSaf (s0 : Device) (p : Pend) (s : Device) : KeepsSaf s0 (Machine.secClose p s).dev ↔ KeepsSaf s0 s := by
  refine KeepsSaf.iff ?_
  unfold Machine.secClose
  simp
@[simp] theorem openFails_keepsSaf (s0 : Device) (k : Nat) (method : Nat) (s : Device) : KeepsSaf s0 (Machine.openFails k method s) ↔ KeepsSaf s0 s := by
  refine KeepsSaf.iff ?_
  unfold Machine.openFails
  simp
@[simp] theorem openScope_keepsSaf (s0 : Device) (k : Nat) (method : Nat) (dur : Nat) (s : Device) : KeepsSaf s0 (Machine.openScope k method dur s) ↔ KeepsSaf s0 s := by
  refine KeepsSaf.iff ?_
  unfold Machine.openScope
  simp
@[simp] theorem respond_keepsSaf (s0 : Device) (b : List Byte) (s : Device) : KeepsSaf s0 (Machine.respond b s).2.2 ↔ KeepsSaf s0 s := by
  refine KeepsSaf.iff ?_
  unfold Machine.respond
  repeat' (first
    | with_reducible exact KeepsSaf.refl _
    | (simp; done)
    | (with_reducible refine KeepsSaf.ite ?_ ?_)
    | (with_reducible refine KeepsSaf.foldl _ _ _ ?_ ?_; intro u x)
    | (with_reducible refine KeepsSaf.checked _ _ _ _ ?_ ?_; intro p u)
    | (with_reducible refine (spireWrite_keepsSaf _ _ _ ?_).mpr ?_; intro u)
    | (with_reducible refine (domeWrite_keepsSaf _ _ _ ?_).mpr ?_; intro u)
    | (with_reducible refine (underRec_keepsSaf _ _ _ _ _ _ _ ?_).mpr ?_; intro b u)
    | (with_reducible refine (keepWrite_keepsSaf _ _ _ _ ?_).mpr ?_; intro u)
    | (split <;> (try (rename_i h; replace h := congrArg Prod.snd h; dsimp only at h; subst h)))
    | intro _
    | simp)
@[simp] theorem openAnswer_keepsSaf (s0 : Device) (fails : Option (Status × Nat)) (response : List Byte) (s : Device) : KeepsSaf s0 (Machine.openAnswer fails response s).dev ↔ KeepsSaf s0 s := by
  refine KeepsSaf.iff ?_
  unfold Machine.openAnswer
  split <;> simp
@[simp] theorem secOpen_keepsSaf (s0 : Device) (p : Pend) (s : Device) : KeepsSaf s0 (Machine.secOpen p s).dev ↔ KeepsSaf s0 s := by
  refine KeepsSaf.iff ?_
  unfold Machine.secOpen
  simp
@[simp] theorem secOpenPw_keepsSaf (s0 : Device) (p : Pend) (s : Device) : KeepsSaf s0 (Machine.secOpenPw p s).dev ↔ KeepsSaf s0 s := by
  refine KeepsSaf.iff ?_
  unfold Machine.secOpenPw
  simp
@[simp] theorem secProvision_keepsSaf (s0 : Device) (p : Pend) (s : Device) : KeepsSaf s0 (Machine.secProvision p s).dev ↔ KeepsSaf s0 s := by
  refine KeepsSaf.iff ?_
  unfold Machine.secProvision
  repeat' (first
    | with_reducible exact KeepsSaf.refl _
    | (simp; done)
    | (with_reducible refine KeepsSaf.ite ?_ ?_)
    | (with_reducible refine KeepsSaf.foldl _ _ _ ?_ ?_; intro u x)
    | (with_reducible refine KeepsSaf.checked _ _ _ _ ?_ ?_; intro p u)
    | (with_reducible refine (spireWrite_keepsSaf _ _ _ ?_).mpr ?_; intro u)
    | (with_reducible refine (domeWrite_keepsSaf _ _ _ ?_).mpr ?_; intro u)
    | (with_reducible refine (underRec_keepsSaf _ _ _ _ _ _ _ ?_).mpr ?_; intro b u)
    | (with_reducible refine (keepWrite_keepsSaf _ _ _ _ ?_).mpr ?_; intro u)
    | (split <;> (try (rename_i h; replace h := congrArg Prod.snd h; dsimp only at h; subst h)))
    | intro _
    | simp)
@[simp] theorem secQuote_keepsSaf (s0 : Device) (p : Pend) (s : Device) : KeepsSaf s0 (Machine.secQuote p s).dev ↔ KeepsSaf s0 s := by
  refine KeepsSaf.iff ?_
  unfold Machine.secQuote
  simp
@[simp] theorem secReadIdentity_keepsSaf (s0 : Device) (p : Pend) (s : Device) : KeepsSaf s0 (Machine.secReadIdentity p s).dev ↔ KeepsSaf s0 s := by
  refine KeepsSaf.iff ?_
  unfold Machine.secReadIdentity
  simp
@[simp] theorem setRec_keepsSaf (s0 : Device) (s : Device) (blk : Nat) (kind : Nat) (obj : Nat) (f : List Byte → List Byte) : KeepsSaf s0 (Machine.setRec s blk kind obj f) ↔ KeepsSaf s0 s := by
  refine KeepsSaf.iff ?_
  unfold Machine.setRec
  simp
@[simp] theorem setCoef_keepsSaf (s0 : Device) (p : Pend) (s : Device) : KeepsSaf s0 (Machine.setCoef p s).dev ↔ KeepsSaf s0 s := by
  refine KeepsSaf.iff ?_
  unfold Machine.setCoef
  simp
@[simp] theorem setLimit_keepsSaf (s0 : Device) (p : Pend) (s : Device) : KeepsSaf s0 (Machine.setLimit p s).dev ↔ KeepsSaf s0 s := by
  refine KeepsSaf.iff ?_
  unfold Machine.setLimit
  simp
@[simp] theorem setMode_keepsSaf (s0 : Device) (p : Pend) (s : Device) : KeepsSaf s0 (Machine.setMode p s).dev ↔ KeepsSaf s0 s := by
  refine KeepsSaf.iff ?_
  unfold Machine.setMode
  simp
@[simp] theorem setOutput_keepsSaf (s0 : Device) (p : Pend) (s : Device) : KeepsSaf s0 (Machine.setOutput p s).dev ↔ KeepsSaf s0 s := by
  refine KeepsSaf.iff ?_
  unfold Machine.setOutput
  simp
@[simp] theorem setSp_keepsSaf (s0 : Device) (p : Pend) (s : Device) : KeepsSaf s0 (Machine.setSp p s).dev ↔ KeepsSaf s0 s := by
  refine KeepsSaf.iff ?_
  unfold Machine.setSp
  simp
@[simp] theorem setTimeCmd_keepsSaf (s0 : Device) (p : Pend) (s : Device) : KeepsSaf s0 (Machine.setTimeCmd p s).dev ↔ KeepsSaf s0 s := by
  refine KeepsSaf.iff ?_
  unfold Machine.setTimeCmd
  simp
@[simp] theorem setUtc_keepsSaf (s0 : Device) (p : Pend) (s : Device) : KeepsSaf s0 (Machine.setUtc p s).dev ↔ KeepsSaf s0 s := by
  refine KeepsSaf.iff ?_
  unfold Machine.setUtc
  simp
@[simp] theorem sprClear_keepsSaf (s0 : Device) (p : Pend) (s : Device) : KeepsSaf s0 (Machine.sprClear p s).dev ↔ KeepsSaf s0 s := by
  refine KeepsSaf.iff ?_
  unfold Machine.sprClear
  simp
@[simp] theorem setFlash_keepsSaf (s0 : Device) (kind : Nat) (slot : Nat) (state : Nat) (s : Device) : KeepsSaf s0 (Machine.setFlash kind slot state s) ↔ KeepsSaf s0 s := by
  refine KeepsSaf.iff ?_
  unfold Machine.setFlash
  simp
@[simp] theorem svnCommit_keepsSaf (s0 : Device) (p : Pend) (s : Device) : KeepsSaf s0 (Machine.svnCommit p s).dev ↔ KeepsSaf s0 s := by
  refine KeepsSaf.iff ?_
  unfold Machine.svnCommit
  repeat' (first
    | with_reducible exact KeepsSaf.refl _
    | (simp; done)
    | (with_reducible refine KeepsSaf.ite ?_ ?_)
    | (with_reducible refine KeepsSaf.foldl _ _ _ ?_ ?_; intro u x)
    | (with_reducible refine KeepsSaf.checked _ _ _ _ ?_ ?_; intro p u)
    | (with_reducible refine (spireWrite_keepsSaf _ _ _ ?_).mpr ?_; intro u)
    | (with_reducible refine (domeWrite_keepsSaf _ _ _ ?_).mpr ?_; intro u)
    | (with_reducible refine (underRec_keepsSaf _ _ _ _ _ _ _ ?_).mpr ?_; intro b u)
    | (with_reducible refine (keepWrite_keepsSaf _ _ _ _ ?_).mpr ?_; intro u)
    | (split <;> (try (rename_i h; replace h := congrArg Prod.snd h; dsimp only at h; subst h)))
    | intro _
    | simp)
@[simp] theorem timClear_keepsSaf (s0 : Device) (p : Pend) (s : Device) : KeepsSaf s0 (Machine.timClear p s).dev ↔ KeepsSaf s0 s := by
  refine KeepsSaf.iff ?_
  unfold Machine.timClear
  simp
@[simp] theorem timRestep_keepsSaf (s0 : Device) (p : Pend) (s : Device) : KeepsSaf s0 (Machine.timRestep p s).dev ↔ KeepsSaf s0 s := by
  refine KeepsSaf.iff ?_
  unfold Machine.timRestep
  repeat' (first
    | with_reducible exact KeepsSaf.refl _
    | (simp; done)
    | (with_reducible refine KeepsSaf.ite ?_ ?_)
    | (with_reducible refine KeepsSaf.foldl _ _ _ ?_ ?_; intro u x)
    | (with_reducible refine KeepsSaf.checked _ _ _ _ ?_ ?_; intro p u)
    | (with_reducible refine (spireWrite_keepsSaf _ _ _ ?_).mpr ?_; intro u)
    | (with_reducible refine (domeWrite_keepsSaf _ _ _ ?_).mpr ?_; intro u)
    | (with_reducible refine (underRec_keepsSaf _ _ _ _ _ _ _ ?_).mpr ?_; intro b u)
    | (with_reducible refine (keepWrite_keepsSaf _ _ _ _ ?_).mpr ?_; intro u)
    | (split <;> (try (rename_i h; replace h := congrArg Prod.snd h; dsimp only at h; subst h)))
    | intro _
    | simp)
@[simp] theorem timSelect_keepsSaf (s0 : Device) (p : Pend) (s : Device) : KeepsSaf s0 (Machine.timSelect p s).dev ↔ KeepsSaf s0 s := by
  refine KeepsSaf.iff ?_
  unfold Machine.timSelect
  simp
@[simp] theorem traceArm_keepsSaf (s0 : Device) (p : Pend) (s : Device) : KeepsSaf s0 (Machine.traceArm p s).dev ↔ KeepsSaf s0 s := by
  refine KeepsSaf.iff ?_
  unfold Machine.traceArm
  repeat' (first
    | with_reducible exact KeepsSaf.refl _
    | (simp; done)
    | (with_reducible refine KeepsSaf.ite ?_ ?_)
    | (with_reducible refine KeepsSaf.foldl _ _ _ ?_ ?_; intro u x)
    | (with_reducible refine KeepsSaf.checked _ _ _ _ ?_ ?_; intro p u)
    | (with_reducible refine (spireWrite_keepsSaf _ _ _ ?_).mpr ?_; intro u)
    | (with_reducible refine (domeWrite_keepsSaf _ _ _ ?_).mpr ?_; intro u)
    | (with_reducible refine (underRec_keepsSaf _ _ _ _ _ _ _ ?_).mpr ?_; intro b u)
    | (with_reducible refine (keepWrite_keepsSaf _ _ _ _ ?_).mpr ?_; intro u)
    | (split <;> (try (rename_i h; replace h := congrArg Prod.snd h; dsimp only at h; subst h)))
    | intro _
    | simp)
@[simp] theorem traceDone_keepsSaf (s0 : Device) (first : Nat) (s : Device) : KeepsSaf s0 (Machine.traceDone first s) ↔ KeepsSaf s0 s := by
  refine KeepsSaf.iff ?_
  unfold Machine.traceDone
  split <;> simp
@[simp] theorem triggerOne_keepsSaf (s0 : Device) (first : Nat) (t : STime) (s : Device) : KeepsSaf s0 (Machine.triggerOne first t s) ↔ KeepsSaf s0 s := by
  refine KeepsSaf.iff ?_
  unfold Machine.triggerOne
  split <;> simp
theorem traceTrigger_saf0 (x0 : Nat) (x1 : Nat) (x2 : STime) (x3 : Device) : KeepsSaf x3 (Machine.traceTrigger x0 x1 x2 x3) := by
  induction x0 generalizing x1 x2 x3 with
  | zero => unfold Machine.traceTrigger; simp
  | succ m ih =>
    have ih' : ∀ (s0 : Device) (x10 : Nat) (x20 : STime) (x30 : Device), KeepsSaf s0 (Machine.traceTrigger m x10 x20 x30) ↔ KeepsSaf s0 x30 := fun _ x10 x20 x30 => (ih x10 x20 x30).iff
    unfold Machine.traceTrigger
    repeat' (first
    | with_reducible exact KeepsSaf.refl _
    | (simp [ih']; done)
    | (with_reducible refine KeepsSaf.ite ?_ ?_)
    | (with_reducible refine KeepsSaf.foldl _ _ _ ?_ ?_; intro u x)
    | (with_reducible refine KeepsSaf.checked _ _ _ _ ?_ ?_; intro p u)
    | (with_reducible refine (spireWrite_keepsSaf _ _ _ ?_).mpr ?_; intro u)
    | (with_reducible refine (domeWrite_keepsSaf _ _ _ ?_).mpr ?_; intro u)
    | (with_reducible refine (underRec_keepsSaf _ _ _ _ _ _ _ ?_).mpr ?_; intro b u)
    | (with_reducible refine (keepWrite_keepsSaf _ _ _ _ ?_).mpr ?_; intro u)
    | (split <;> (try (rename_i h; replace h := congrArg Prod.snd h; dsimp only at h; subst h)))
    | simp [ih'])
@[simp] theorem traceTrigger_keepsSaf (s0 : Device) (x0 : Nat) (x1 : Nat) (x2 : STime) (x3 : Device) : KeepsSaf s0 (Machine.traceTrigger x0 x1 x2 x3) ↔ KeepsSaf s0 x3 := (traceTrigger_saf0 x0 x1 x2 x3).iff
@[simp] theorem traceForce_keepsSaf (s0 : Device) (p : Pend) (s : Device) : KeepsSaf s0 (Machine.traceForce p s).dev ↔ KeepsSaf s0 s := by
  refine KeepsSaf.iff ?_
  unfold Machine.traceForce
  simp
@[simp] theorem traceRead_keepsSaf (s0 : Device) (p : Pend) (s : Device) : KeepsSaf s0 (Machine.traceRead p s).dev ↔ KeepsSaf s0 s := by
  refine KeepsSaf.iff ?_
  unfold Machine.traceRead
  repeat' (first
    | with_reducible exact KeepsSaf.refl _
    | (simp; done)
    | (with_reducible refine KeepsSaf.ite ?_ ?_)
    | (with_reducible refine KeepsSaf.foldl _ _ _ ?_ ?_; intro u x)
    | (with_reducible refine KeepsSaf.checked _ _ _ _ ?_ ?_; intro p u)
    | (with_reducible refine (spireWrite_keepsSaf _ _ _ ?_).mpr ?_; intro u)
    | (with_reducible refine (domeWrite_keepsSaf _ _ _ ?_).mpr ?_; intro u)
    | (with_reducible refine (underRec_keepsSaf _ _ _ _ _ _ _ ?_).mpr ?_; intro b u)
    | (with_reducible refine (keepWrite_keepsSaf _ _ _ _ ?_).mpr ?_; intro u)
    | (split <;> (try (rename_i h; replace h := congrArg Prod.snd h; dsimp only at h; subst h)))
    | intro _
    | simp)
@[simp] theorem traceSet_keepsSaf (s0 : Device) (p : Pend) (s : Device) : KeepsSaf s0 (Machine.traceSet p s).dev ↔ KeepsSaf s0 s := by
  refine KeepsSaf.iff ?_
  unfold Machine.traceSet
  simp
@[simp] theorem traceStopCmd_keepsSaf (s0 : Device) (p : Pend) (s : Device) : KeepsSaf s0 (Machine.traceStopCmd p s).dev ↔ KeepsSaf s0 s := by
  refine KeepsSaf.iff ?_
  unfold Machine.traceStopCmd
  split <;> simp
@[simp] theorem windowBind_keepsSaf (s0 : Device) (p : Pend) (s : Device) : KeepsSaf s0 (Machine.windowBind p s).dev ↔ KeepsSaf s0 s := by
  refine KeepsSaf.iff ?_
  unfold Machine.windowBind
  simp
@[simp] theorem ringAdvance_keepsSaf (s0 : Device) (src : Nat) (k : Nat) (s : Device) : KeepsSaf s0 (Machine.ringAdvance src k s) ↔ KeepsSaf s0 s := by
  refine KeepsSaf.iff ?_
  unfold Machine.ringAdvance
  simp
@[simp] theorem handBackRing_keepsSaf (s0 : Device) (n : Nat) (s : Device) : KeepsSaf s0 (Machine.handBackRing n s) ↔ KeepsSaf s0 s := by
  refine KeepsSaf.iff ?_
  unfold Machine.handBackRing
  repeat' (first
    | with_reducible exact KeepsSaf.refl _
    | (simp; done)
    | (with_reducible refine KeepsSaf.ite ?_ ?_)
    | (with_reducible refine KeepsSaf.foldl _ _ _ ?_ ?_; intro u x)
    | (with_reducible refine KeepsSaf.checked _ _ _ _ ?_ ?_; intro p u)
    | (with_reducible refine (spireWrite_keepsSaf _ _ _ ?_).mpr ?_; intro u)
    | (with_reducible refine (domeWrite_keepsSaf _ _ _ ?_).mpr ?_; intro u)
    | (with_reducible refine (underRec_keepsSaf _ _ _ _ _ _ _ ?_).mpr ?_; intro b u)
    | (with_reducible refine (keepWrite_keepsSaf _ _ _ _ ?_).mpr ?_; intro u)
    | (split <;> (try (rename_i h; replace h := congrArg Prod.snd h; dsimp only at h; subst h)))
    | intro _
    | simp)
@[simp] theorem drainRing_keepsSaf (s0 : Device) (n : Nat) (typ : Nat) (recs : List BufRec) (s : Device) : KeepsSaf s0 (Machine.drainRing n typ recs s) ↔ KeepsSaf s0 s := by
  refine KeepsSaf.iff ?_
  unfold Machine.drainRing
  simp
@[simp] theorem handBackPart_keepsSaf (s0 : Device) (n : Nat) (empty : Bool) (s : Device) : KeepsSaf s0 (Machine.handBackPart n empty s) ↔ KeepsSaf s0 s := by
  refine KeepsSaf.iff ?_
  unfold Machine.handBackPart
  repeat' (first
    | with_reducible exact KeepsSaf.refl _
    | (simp; done)
    | (with_reducible refine KeepsSaf.ite ?_ ?_)
    | (with_reducible refine KeepsSaf.foldl _ _ _ ?_ ?_; intro u x)
    | (with_reducible refine KeepsSaf.checked _ _ _ _ ?_ ?_; intro p u)
    | (with_reducible refine (spireWrite_keepsSaf _ _ _ ?_).mpr ?_; intro u)
    | (with_reducible refine (domeWrite_keepsSaf _ _ _ ?_).mpr ?_; intro u)
    | (with_reducible refine (underRec_keepsSaf _ _ _ _ _ _ _ ?_).mpr ?_; intro b u)
    | (with_reducible refine (keepWrite_keepsSaf _ _ _ _ ?_).mpr ?_; intro u)
    | (split <;> (try (rename_i h; replace h := congrArg Prod.snd h; dsimp only at h; subst h)))
    | intro _
    | simp)
@[simp] theorem windowRelease_keepsSaf (s0 : Device) (p : Pend) (s : Device) : KeepsSaf s0 (Machine.windowRelease p s).dev ↔ KeepsSaf s0 s := by
  refine KeepsSaf.iff ?_
  unfold Machine.windowRelease
  simp
@[simp] theorem unsupportedBody_keepsSaf (s0 : Device) (_p : Pend) (s : Device) : KeepsSaf s0 (Machine.unsupportedBody _p s).dev ↔ KeepsSaf s0 s := by
  refine KeepsSaf.iff ?_
  unfold Machine.unsupportedBody
  simp
@[simp] theorem fetchFailed_keepsSaf (s0 : Device) (n : Nat) (a : Access) (s : Device) : KeepsSaf s0 (Machine.fetchFailed n a s) ↔ KeepsSaf s0 s := by
  refine KeepsSaf.iff ?_
  unfold Machine.fetchFailed
  simp
@[simp] theorem controlResume_keepsSaf (s0 : Device) (s : Device) : KeepsSaf s0 (Machine.controlResume s) ↔ KeepsSaf s0 s := by
  refine KeepsSaf.iff ?_
  unfold Machine.controlResume
  repeat' split
  all_goals simp
@[simp] theorem clearSum_keepsSaf (s0 : Device) (n : Nat) (s : Device) : KeepsSaf s0 (Machine.clearSum n s) ↔ KeepsSaf s0 s := by
  refine KeepsSaf.iff ?_
  unfold Machine.clearSum
  simp
@[simp] theorem selfTest_keepsSaf (s0 : Device) (n : Nat) (v : Int) (s : Device) : KeepsSaf s0 (Machine.selfTest n v s) ↔ KeepsSaf s0 s := by
  refine KeepsSaf.iff ?_
  unfold Machine.selfTest
  simp
@[simp] theorem noteClip_keepsSaf (s0 : Device) (n : Nat) (clip : Bool) (s : Device) : KeepsSaf s0 (Machine.noteClip n clip s) ↔ KeepsSaf s0 s := by
  refine KeepsSaf.iff ?_
  unfold Machine.noteClip
  simp
@[simp] theorem resultToken_keepsSaf (s0 : Device) (n : Nat) (v : Word) (t : STime) (version : Nat) (b : List Byte) (s : Device) : KeepsSaf s0 (Machine.resultToken n v t version b s) ↔ KeepsSaf s0 s := by
  refine KeepsSaf.iff ?_
  unfold Machine.resultToken
  simp
@[simp] theorem abufPut_keepsSaf (s0 : Device) (c : Nat) (rs : List BufRec) (s : Device) : KeepsSaf s0 (Machine.abufPut c rs s) ↔ KeepsSaf s0 s := by
  refine KeepsSaf.iff ?_
  unfold Machine.abufPut
  simp
@[simp] theorem writeResult_keepsSaf (s0 : Device) (n : Nat) (word : Nat) (t : STime) (version : Nat) (par : Nat × Nat × Nat) (s : Device) : KeepsSaf s0 (Machine.writeResult n word t version par s) ↔ KeepsSaf s0 s := by
  refine KeepsSaf.iff ?_
  unfold Machine.writeResult
  repeat' (first
    | with_reducible exact KeepsSaf.refl _
    | (simp; done)
    | (with_reducible refine KeepsSaf.ite ?_ ?_)
    | (with_reducible refine KeepsSaf.foldl _ _ _ ?_ ?_; intro u x)
    | (with_reducible refine KeepsSaf.checked _ _ _ _ ?_ ?_; intro p u)
    | (with_reducible refine (spireWrite_keepsSaf _ _ _ ?_).mpr ?_; intro u)
    | (with_reducible refine (domeWrite_keepsSaf _ _ _ ?_).mpr ?_; intro u)
    | (with_reducible refine (underRec_keepsSaf _ _ _ _ _ _ _ ?_).mpr ?_; intro b u)
    | (with_reducible refine (keepWrite_keepsSaf _ _ _ _ ?_).mpr ?_; intro u)
    | (split <;> (try (rename_i h; replace h := congrArg Prod.snd h; dsimp only at h; subst h)))
    | intro _
    | simp)
@[simp] theorem regularResult_keepsSaf (s0 : Device) (n : Nat) (result : Int) (t : STime) (version : Nat) (par : Nat × Nat × Nat) (clip : Bool) (s : Device) : KeepsSaf s0 (Machine.regularResult n result t version par clip s) ↔ KeepsSaf s0 s := by
  refine KeepsSaf.iff ?_
  unfold Machine.regularResult
  repeat' (first
    | with_reducible exact KeepsSaf.refl _
    | (simp; done)
    | (with_reducible refine KeepsSaf.ite ?_ ?_)
    | (with_reducible refine KeepsSaf.foldl _ _ _ ?_ ?_; intro u x)
    | (with_reducible refine KeepsSaf.checked _ _ _ _ ?_ ?_; intro p u)
    | (with_reducible refine (spireWrite_keepsSaf _ _ _ ?_).mpr ?_; intro u)
    | (with_reducible refine (domeWrite_keepsSaf _ _ _ ?_).mpr ?_; intro u)
    | (with_reducible refine (underRec_keepsSaf _ _ _ _ _ _ _ ?_).mpr ?_; intro b u)
    | (with_reducible refine (keepWrite_keepsSaf _ _ _ _ ?_).mpr ?_; intro u)
    | (split <;> (try (rename_i h; replace h := congrArg Prod.snd h; dsimp only at h; subst h)))
    | intro _
    | simp)
@[simp] theorem sumSample_keepsSaf (s0 : Device) (n : Nat) (v : Int) (at_ : STime) (b : List Byte) (s : Device) : KeepsSaf s0 (Machine.sumSample n v at_ b s) ↔ KeepsSaf s0 s := by
  refine KeepsSaf.iff ?_
  unfold Machine.sumSample
  simp
@[simp] theorem addSample_keepsSaf (s0 : Device) (n : Nat) (v : Int) (at_ : STime) (s : Device) : KeepsSaf s0 (Machine.addSample n v at_ s) ↔ KeepsSaf s0 s := by
  refine KeepsSaf.iff ?_
  unfold Machine.addSample
  repeat' (first
    | with_reducible exact KeepsSaf.refl _
    | (simp; done)
    | (with_reducible refine KeepsSaf.ite ?_ ?_)
    | (with_reducible refine KeepsSaf.foldl _ _ _ ?_ ?_; intro u x)
    | (with_reducible refine KeepsSaf.checked _ _ _ _ ?_ ?_; intro p u)
    | (with_reducible refine (spireWrite_keepsSaf _ _ _ ?_).mpr ?_; intro u)
    | (with_reducible refine (domeWrite_keepsSaf _ _ _ ?_).mpr ?_; intro u)
    | (with_reducible refine (underRec_keepsSaf _ _ _ _ _ _ _ ?_).mpr ?_; intro b u)
    | (with_reducible refine (keepWrite_keepsSaf _ _ _ _ ?_).mpr ?_; intro u)
    | (split <;> (try (rename_i h; replace h := congrArg Prod.snd h; dsimp only at h; subst h)))
    | intro _
    | simp)
@[simp] theorem nextConversion_keepsSaf (s0 : Device) (c : Nat) (s : Device) : KeepsSaf s0 (Machine.nextConversion c s) ↔ KeepsSaf s0 s := by
  refine KeepsSaf.iff ?_
  unfold Machine.nextConversion
  simp
@[simp] theorem urgentResult_keepsSaf (s0 : Device) (c : Nat) (u : Urgent) (v : Int) (at_ : STime) (s : Device) : KeepsSaf s0 (Machine.urgentResult c u v at_ s) ↔ KeepsSaf s0 s := by
  refine KeepsSaf.iff ?_
  unfold Machine.urgentResult
  repeat' (first
    | with_reducible exact KeepsSaf.refl _
    | (simp; done)
    | (with_reducible refine KeepsSaf.ite ?_ ?_)
    | (with_reducible refine KeepsSaf.foldl _ _ _ ?_ ?_; intro u x)
    | (with_reducible refine KeepsSaf.checked _ _ _ _ ?_ ?_; intro p u)
    | (with_reducible refine (spireWrite_keepsSaf _ _ _ ?_).mpr ?_; intro u)
    | (with_reducible refine (domeWrite_keepsSaf _ _ _ ?_).mpr ?_; intro u)
    | (with_reducible refine (underRec_keepsSaf _ _ _ _ _ _ _ ?_).mpr ?_; intro b u)
    | (with_reducible refine (keepWrite_keepsSaf _ _ _ _ ?_).mpr ?_; intro u)
    | (split <;> (try (rename_i h; replace h := congrArg Prod.snd h; dsimp only at h; subst h)))
    | intro _
    | simp)
@[simp] theorem conversionEnd_keepsSaf (s0 : Device) (c : Nat) (raw : Int) (at_ : STime) (s : Device) : KeepsSaf s0 (Machine.conversionEnd c raw at_ s) ↔ KeepsSaf s0 s := by
  refine KeepsSaf.iff ?_
  unfold Machine.conversionEnd
  repeat' (first
    | with_reducible exact KeepsSaf.refl _
    | (simp; done)
    | (with_reducible refine KeepsSaf.ite ?_ ?_)
    | (with_reducible refine KeepsSaf.foldl _ _ _ ?_ ?_; intro u x)
    | (with_reducible refine KeepsSaf.checked _ _ _ _ ?_ ?_; intro p u)
    | (with_reducible refine (spireWrite_keepsSaf _ _ _ ?_).mpr ?_; intro u)
    | (with_reducible refine (domeWrite_keepsSaf _ _ _ ?_).mpr ?_; intro u)
    | (with_reducible refine (underRec_keepsSaf _ _ _ _ _ _ _ ?_).mpr ?_; intro b u)
    | (with_reducible refine (keepWrite_keepsSaf _ _ _ _ ?_).mpr ?_; intro u)
    | (split <;> (try (rename_i h; replace h := congrArg Prod.snd h; dsimp only at h; subst h)))
    | intro _
    | simp)
@[simp] theorem coreErrorNoted_keepsSaf (s0 : Device) (c : Nat) (y : Cycle) (s : Device) : KeepsSaf s0 (Machine.coreErrorNoted c y s) ↔ KeepsSaf s0 s := by
  refine KeepsSaf.iff ?_
  unfold Machine.coreErrorNoted
  simp
@[simp] theorem enterNext_keepsSaf (s0 : Device) (c : Nat) (y : Cycle) (s : Device) : KeepsSaf s0 (Machine.enterNext c y s) ↔ KeepsSaf s0 s := by
  refine KeepsSaf.iff ?_
  unfold Machine.enterNext
  split <;> simp
@[simp] theorem cycleAgain_keepsSaf (s0 : Device) (c : Nat) (y : Cycle) (s : Device) : KeepsSaf s0 (Machine.cycleAgain c y s) ↔ KeepsSaf s0 s := by
  refine KeepsSaf.iff ?_
  unfold Machine.cycleAgain
  simp
@[simp] theorem freeCore_keepsSaf (s0 : Device) (c : Nat) (slot : Nat) (s : Device) : KeepsSaf s0 (Machine.freeCore c slot s) ↔ KeepsSaf s0 s := by
  refine KeepsSaf.iff ?_
  unfold Machine.freeCore
  simp
@[simp] theorem faultProgram_keepsSaf (s0 : Device) (c : Nat) (cause : Nat) (y : Cycle) (s : Device) : KeepsSaf s0 (Machine.faultProgram c cause y s) ↔ KeepsSaf s0 s := by
  refine KeepsSaf.iff ?_
  unfold Machine.faultProgram
  simp
@[simp] theorem loseCore_keepsSaf (s0 : Device) (c : Nat) (y : Cycle) (s : Device) : KeepsSaf s0 (Machine.loseCore c y s) ↔ KeepsSaf s0 s := by
  refine KeepsSaf.iff ?_
  unfold Machine.loseCore
  simp
@[simp] theorem coreSwap_keepsSaf (s0 : Device) (c : Nat) (s : Device) : KeepsSaf s0 (Machine.coreSwap c s).2 ↔ KeepsSaf s0 s := by
  refine KeepsSaf.iff ?_
  unfold Machine.coreSwap
  simp
theorem coreMoved_keepsSaf (s0 : Device) (c : Nat) (y : Cycle) (r : Option Nat × Device) :
    KeepsSaf s0 (coreMoved c y r) ↔ KeepsSaf s0 r.2 := by
  obtain ⟨_ | x, t⟩ := r
  · rw [coreMoved, loseCore_keepsSaf]
  · rw [coreMoved, cycleAgain_keepsSaf]
theorem coreError_saf0 (c : Nat) (s : Device) : KeepsSaf s (coreError c s) := by
  unfold coreError
  split
  · exact KeepsSaf.refl s
  · rw [coreMoved_keepsSaf, coreSwap_keepsSaf, coreErrorNoted_keepsSaf]; exact KeepsSaf.refl s
@[simp] theorem coreError_keepsSaf (s0 : Device) (c : Nat) (s : Device) : KeepsSaf s0 (coreError c s) ↔ KeepsSaf s0 s := (coreError_saf0 c s).iff
@[simp] theorem crossingHandshake_keepsSaf (s0 : Device) (k : Nat) (s : Device) : KeepsSaf s0 (Machine.crossingHandshake k s) ↔ KeepsSaf s0 s := by
  refine KeepsSaf.iff ?_
  unfold Machine.crossingHandshake
  simp
@[simp] theorem hotWrite_keepsSaf (s0 : Device) (n : Nat) (s : Device) : KeepsSaf s0 (Machine.hotWrite n s) ↔ KeepsSaf s0 s := by
  refine KeepsSaf.iff ?_
  unfold Machine.hotWrite
  simp
@[simp] theorem journalWrite_keepsSaf (s0 : Device) (n : Nat) (s : Device) : KeepsSaf s0 (Machine.journalWrite n s) ↔ KeepsSaf s0 s := by
  refine KeepsSaf.iff ?_
  unfold Machine.journalWrite
  simp
@[simp] theorem shipRecord_keepsSaf (s0 : Device) (r : KepRec) (s : Device) : KeepsSaf s0 (Machine.shipRecord r s) ↔ KeepsSaf s0 s := by
  refine KeepsSaf.iff ?_
  unfold Machine.shipRecord
  simp
@[simp] theorem commitCut_keepsSaf (s0 : Device) (k : KepCut) (len : Nat) (s : Device) : KeepsSaf s0 (Machine.commitCut k len s) ↔ KeepsSaf s0 s := by
  refine KeepsSaf.iff ?_
  unfold Machine.commitCut
  simp
@[simp] theorem cutWaits_keepsSaf (s0 : Device) (cause : Nat) (s : Device) : KeepsSaf s0 (Machine.cutWaits cause s) ↔ KeepsSaf s0 s := by
  refine KeepsSaf.iff ?_
  unfold Machine.cutWaits
  simp
@[simp] theorem hotFailure_keepsSaf (s0 : Device) (s : Device) (sector : Nat) : KeepsSaf s0 (Machine.hotFailure s sector) ↔ KeepsSaf s0 s := by
  refine KeepsSaf.iff ?_
  unfold Machine.hotFailure
  split <;> rename_i h <;> first | (simp; done) | (replace h := congrArg Prod.snd h; dsimp only at h; subst h; simp)
@[simp] theorem cutCommit_keepsSaf (s0 : Device) (bad : List Nat) (s : Device) : KeepsSaf s0 (Machine.cutCommit bad s) ↔ KeepsSaf s0 s := by
  refine KeepsSaf.iff ?_
  unfold Machine.cutCommit
  split <;> simp
@[simp] theorem drawPart_keepsSaf (s0 : Device) (blk : Nat) (s : Device) : KeepsSaf s0 (Machine.drawPart blk s) ↔ KeepsSaf s0 s := by
  refine KeepsSaf.iff ?_
  unfold Machine.drawPart
  split <;> simp
@[simp] theorem capturePgm_keepsSaf (s0 : Device) (p : Nat) (s : Device) : KeepsSaf s0 (Machine.capturePgm p s) ↔ KeepsSaf s0 s := by
  refine KeepsSaf.iff ?_
  unfold Machine.capturePgm
  split <;> simp
@[simp] theorem modCut_keepsSaf (s0 : Device) (f : KepImage → KepImage) (s : Device) : KeepsSaf s0 (Machine.modCut f s) ↔ KeepsSaf s0 s := by
  refine KeepsSaf.iff ?_
  unfold Machine.modCut
  simp
@[simp] theorem takePart_keepsSaf (s0 : Device) (blk : Nat) (s : Device) : KeepsSaf s0 (Machine.takePart blk s) ↔ KeepsSaf s0 s := by
  refine KeepsSaf.iff ?_
  unfold Machine.takePart
  split <;> simp
@[simp] theorem cutPart_keepsSaf (s0 : Device) (blk : Nat) (bad : List Nat) (s : Device) :
    KeepsSaf s0 (Machine.cutPart blk bad s) ↔ KeepsSaf s0 s := by
  refine KeepsSaf.iff ?_
  unfold Machine.cutPart
  split <;> simp
@[simp] theorem cycleAbort_keepsSaf (s0 : Device) (c : Nat) (s : Device) : KeepsSaf s0 (Machine.cycleAbort c s) ↔ KeepsSaf s0 s := by
  refine KeepsSaf.iff ?_
  unfold Machine.cycleAbort
  repeat' split
  all_goals simp
@[simp] theorem cycleOverrun_keepsSaf (s0 : Device) (c : Nat) (s : Device) : KeepsSaf s0 (Machine.cycleOverrun c s) ↔ KeepsSaf s0 s := by
  refine KeepsSaf.iff ?_
  unfold Machine.cycleOverrun
  repeat' split
  all_goals simp
@[simp] theorem canFeedAll_keepsSaf (s0 : Device) (s : Device) : KeepsSaf s0 (Machine.canFeedAll s) ↔ KeepsSaf s0 s := by
  refine KeepsSaf.iff ?_
  unfold Machine.canFeedAll
  simp
@[simp] theorem takeSegment_keepsSaf (s0 : Device) (n : Nat) (s : Device) (g : HostSeg) : KeepsSaf s0 (Machine.takeSegment n s g) ↔ KeepsSaf s0 s := by
  refine KeepsSaf.iff ?_
  unfold Machine.takeSegment
  repeat' (first
    | with_reducible exact KeepsSaf.refl _
    | (simp; done)
    | (with_reducible refine KeepsSaf.ite ?_ ?_)
    | (with_reducible refine KeepsSaf.foldl _ _ _ ?_ ?_; intro u x)
    | (with_reducible refine KeepsSaf.checked _ _ _ _ ?_ ?_; intro p u)
    | (with_reducible refine (spireWrite_keepsSaf _ _ _ ?_).mpr ?_; intro u)
    | (with_reducible refine (domeWrite_keepsSaf _ _ _ ?_).mpr ?_; intro u)
    | (with_reducible refine (underRec_keepsSaf _ _ _ _ _ _ _ ?_).mpr ?_; intro b u)
    | (with_reducible refine (keepWrite_keepsSaf _ _ _ _ ?_).mpr ?_; intro u)
    | (split <;> (try (rename_i h; replace h := congrArg Prod.snd h; dsimp only at h; subst h)))
    | intro _
    | simp)
@[simp] theorem windowDoorbell_keepsSaf (s0 : Device) (n : Nat) (b : BusWrite) (segs : List HostSeg) (s : Device) : KeepsSaf s0 (Machine.windowDoorbell n b segs s) ↔ KeepsSaf s0 s := by
  refine KeepsSaf.iff ?_
  unfold Machine.windowDoorbell
  split <;> simp
@[simp] theorem d3hotExit_keepsSaf (s0 : Device) (s : Device) : KeepsSaf s0 (Machine.d3hotExit s) ↔ KeepsSaf s0 s := by
  refine KeepsSaf.iff ?_
  unfold Machine.d3hotExit
  simp
@[simp] theorem dacOeWrite_keepsSaf (s0 : Device) (v : Nat) (s : Device) : KeepsSaf s0 (Machine.dacOeWrite v s) ↔ KeepsSaf s0 s := by
  refine KeepsSaf.iff ?_
  unfold Machine.dacOeWrite
  repeat' (first
    | with_reducible exact KeepsSaf.refl _
    | (simp; done)
    | (with_reducible refine KeepsSaf.ite ?_ ?_)
    | (with_reducible refine KeepsSaf.foldl _ _ _ ?_ ?_; intro u x)
    | (with_reducible refine KeepsSaf.checked _ _ _ _ ?_ ?_; intro p u)
    | (with_reducible refine (spireWrite_keepsSaf _ _ _ ?_).mpr ?_; intro u)
    | (with_reducible refine (domeWrite_keepsSaf _ _ _ ?_).mpr ?_; intro u)
    | (with_reducible refine (underRec_keepsSaf _ _ _ _ _ _ _ ?_).mpr ?_; intro b u)
    | (with_reducible refine (keepWrite_keepsSaf _ _ _ _ ?_).mpr ?_; intro u)
    | (split <;> (try (rename_i h; replace h := congrArg Prod.snd h; dsimp only at h; subst h)))
    | intro _
    | simp)
@[simp] theorem dacArrival_keepsSaf (s0 : Device) (n : Nat) (s : Device) : KeepsSaf s0 (Machine.dacArrival n s) ↔ KeepsSaf s0 s := by
  refine KeepsSaf.iff ?_
  unfold Machine.dacArrival
  split <;> rename_i h <;> first | (simp; done) | (replace h := congrArg Prod.snd h; dsimp only at h; subst h; simp)
@[simp] theorem tapDebug_keepsSaf (s0 : Device) (s : Device) : KeepsSaf s0 (Machine.tapDebug s) ↔ KeepsSaf s0 s := by
  refine KeepsSaf.iff ?_
  unfold Machine.tapDebug
  simp
@[simp] theorem modParam_keepsSaf (s0 : Device) (st : Nat) (f : NzParam → NzParam) (s : Device) : KeepsSaf s0 (Machine.modParam st f s) ↔ KeepsSaf s0 s := by
  refine KeepsSaf.iff ?_
  unfold Machine.modParam
  simp
@[simp] theorem sendDelay_keepsSaf (s0 : Device) (st : Nat) (lan : Nat) (s : Device) : KeepsSaf s0 (Machine.sendDelay st lan s) ↔ KeepsSaf s0 s := by
  refine KeepsSaf.iff ?_
  unfold Machine.sendDelay
  simp
@[simp] theorem takeNz_keepsSaf (s0 : Device) (t : RxFrame → Bool) (s : Device) : KeepsSaf s0 (Machine.takeNz t s).2 ↔ KeepsSaf s0 s := by
  refine KeepsSaf.iff ?_
  unfold Machine.takeNz
  simp
@[simp] theorem wakeStation_keepsSaf (s0 : Device) (st : Nat) (s : Device) : KeepsSaf s0 (Machine.wakeStation st s) ↔ KeepsSaf s0 s := by
  refine KeepsSaf.iff ?_
  unfold Machine.wakeStation
  simp
@[simp] theorem delayResp_keepsSaf (s0 : Device) (st : Nat) (s : Device) : KeepsSaf s0 (Machine.delayResp st s) ↔ KeepsSaf s0 s := by
  refine KeepsSaf.iff ?_
  unfold Machine.delayResp
  repeat' (first
    | with_reducible exact KeepsSaf.refl _
    | (simp; done)
    | (with_reducible refine KeepsSaf.ite ?_ ?_)
    | (with_reducible refine KeepsSaf.foldl _ _ _ ?_ ?_; intro u x)
    | (with_reducible refine KeepsSaf.checked _ _ _ _ ?_ ?_; intro p u)
    | (with_reducible refine (spireWrite_keepsSaf _ _ _ ?_).mpr ?_; intro u)
    | (with_reducible refine (domeWrite_keepsSaf _ _ _ ?_).mpr ?_; intro u)
    | (with_reducible refine (underRec_keepsSaf _ _ _ _ _ _ _ ?_).mpr ?_; intro b u)
    | (with_reducible refine (keepWrite_keepsSaf _ _ _ _ ?_).mpr ?_; intro u)
    | (split <;> (try (rename_i h; replace h := congrArg Prod.snd h; dsimp only at h; subst h)))
    | intro _
    | simp)
@[simp] theorem descriptorFetch_keepsSaf (s0 : Device) (n : Nat) (slots : List SlotRead) (s : Device) : KeepsSaf s0 (Machine.descriptorFetch n slots s) ↔ KeepsSaf s0 s := by
  refine KeepsSaf.iff ?_
  unfold Machine.descriptorFetch
  repeat' (first
    | with_reducible exact KeepsSaf.refl _
    | (simp; done)
    | (with_reducible refine KeepsSaf.ite ?_ ?_)
    | (with_reducible refine KeepsSaf.foldl _ _ _ ?_ ?_; intro u x)
    | (with_reducible refine KeepsSaf.checked _ _ _ _ ?_ ?_; intro p u)
    | (with_reducible refine (spireWrite_keepsSaf _ _ _ ?_).mpr ?_; intro u)
    | (with_reducible refine (domeWrite_keepsSaf _ _ _ ?_).mpr ?_; intro u)
    | (with_reducible refine (underRec_keepsSaf _ _ _ _ _ _ _ ?_).mpr ?_; intro b u)
    | (with_reducible refine (keepWrite_keepsSaf _ _ _ _ ?_).mpr ?_; intro u)
    | (split <;> (try (rename_i h; replace h := congrArg Prod.snd h; dsimp only at h; subst h)))
    | intro _
    | simp)
@[simp] theorem loopReport_keepsSaf (s0 : Device) (n : Nat) (r : DestReport) (s : Device) : KeepsSaf s0 (Machine.loopReport n r s) ↔ KeepsSaf s0 s := by
  refine KeepsSaf.iff ?_
  unfold Machine.loopReport
  repeat' (first
    | with_reducible exact KeepsSaf.refl _
    | (simp; done)
    | (with_reducible refine KeepsSaf.ite ?_ ?_)
    | (with_reducible refine KeepsSaf.foldl _ _ _ ?_ ?_; intro u x)
    | (with_reducible refine KeepsSaf.checked _ _ _ _ ?_ ?_; intro p u)
    | (with_reducible refine (spireWrite_keepsSaf _ _ _ ?_).mpr ?_; intro u)
    | (with_reducible refine (domeWrite_keepsSaf _ _ _ ?_).mpr ?_; intro u)
    | (with_reducible refine (underRec_keepsSaf _ _ _ _ _ _ _ ?_).mpr ?_; intro b u)
    | (with_reducible refine (keepWrite_keepsSaf _ _ _ _ ?_).mpr ?_; intro u)
    | (split <;> (try (rename_i h; replace h := congrArg Prod.snd h; dsimp only at h; subst h)))
    | intro _
    | simp)
@[simp] theorem recordReport_keepsSaf (s0 : Device) (r : DestReport) (s : Device) : KeepsSaf s0 (Machine.recordReport r s) ↔ KeepsSaf s0 s := by
  refine KeepsSaf.iff ?_
  unfold Machine.recordReport
  repeat' (first
    | with_reducible exact KeepsSaf.refl _
    | (simp; done)
    | (with_reducible refine KeepsSaf.ite ?_ ?_)
    | (with_reducible refine KeepsSaf.foldl _ _ _ ?_ ?_; intro u x)
    | (with_reducible refine KeepsSaf.checked _ _ _ _ ?_ ?_; intro p u)
    | (with_reducible refine (spireWrite_keepsSaf _ _ _ ?_).mpr ?_; intro u)
    | (with_reducible refine (domeWrite_keepsSaf _ _ _ ?_).mpr ?_; intro u)
    | (with_reducible refine (underRec_keepsSaf _ _ _ _ _ _ _ ?_).mpr ?_; intro b u)
    | (with_reducible refine (keepWrite_keepsSaf _ _ _ _ ?_).mpr ?_; intro u)
    | (split <;> (try (rename_i h; replace h := congrArg Prod.snd h; dsimp only at h; subst h)))
    | intro _
    | simp)
@[simp] theorem destinationReport_keepsSaf (s0 : Device) (s : Device) : KeepsSaf s0 (Machine.destinationReport s) ↔ KeepsSaf s0 s := by
  refine KeepsSaf.iff ?_
  unfold Machine.destinationReport
  repeat' split
  all_goals simp
@[simp] theorem nameReload_keepsSaf (s0 : Device) (s : Device) : KeepsSaf s0 (Machine.nameReload s) ↔ KeepsSaf s0 s := by
  refine KeepsSaf.iff ?_
  unfold Machine.nameReload
  simp
@[simp] theorem deviceRestart_keepsSaf (s0 : Device) (s : Device) : KeepsSaf s0 (Machine.deviceRestart s) ↔ KeepsSaf s0 s := by
  refine KeepsSaf.iff ?_
  unfold Machine.deviceRestart
  repeat' (first
    | with_reducible exact KeepsSaf.refl _
    | (simp; done)
    | (with_reducible refine KeepsSaf.ite ?_ ?_)
    | (with_reducible refine KeepsSaf.foldl _ _ _ ?_ ?_; intro u x)
    | (with_reducible refine KeepsSaf.checked _ _ _ _ ?_ ?_; intro p u)
    | (with_reducible refine (spireWrite_keepsSaf _ _ _ ?_).mpr ?_; intro u)
    | (with_reducible refine (domeWrite_keepsSaf _ _ _ ?_).mpr ?_; intro u)
    | (with_reducible refine (underRec_keepsSaf _ _ _ _ _ _ _ ?_).mpr ?_; intro b u)
    | (with_reducible refine (keepWrite_keepsSaf _ _ _ _ ?_).mpr ?_; intro u)
    | (split <;> (try (rename_i h; replace h := congrArg Prod.snd h; dsimp only at h; subst h)))
    | intro _
    | simp)
@[simp] theorem pinEdge_keepsSaf (s0 : Device) (n : Nat) (at_ : STime) (b : List Byte) (s : Device) : KeepsSaf s0 (Machine.pinEdge n at_ b s) ↔ KeepsSaf s0 s := by
  refine KeepsSaf.iff ?_
  unfold Machine.pinEdge
  simp
@[simp] theorem inputAccept_keepsSaf (s0 : Device) (n : Nat) (level : Bool) (at_ : STime) (s : Device) : KeepsSaf s0 (Machine.inputAccept n level at_ s) ↔ KeepsSaf s0 s := by
  refine KeepsSaf.iff ?_
  unfold Machine.inputAccept
  repeat' (first
    | with_reducible exact KeepsSaf.refl _
    | (simp; done)
    | (with_reducible refine KeepsSaf.ite ?_ ?_)
    | (with_reducible refine KeepsSaf.foldl _ _ _ ?_ ?_; intro u x)
    | (with_reducible refine KeepsSaf.checked _ _ _ _ ?_ ?_; intro p u)
    | (with_reducible refine (spireWrite_keepsSaf _ _ _ ?_).mpr ?_; intro u)
    | (with_reducible refine (domeWrite_keepsSaf _ _ _ ?_).mpr ?_; intro u)
    | (with_reducible refine (underRec_keepsSaf _ _ _ _ _ _ _ ?_).mpr ?_; intro b u)
    | (with_reducible refine (keepWrite_keepsSaf _ _ _ _ ?_).mpr ?_; intro u)
    | (split <;> (try (rename_i h; replace h := congrArg Prod.snd h; dsimp only at h; subst h)))
    | intro _
    | simp)
@[simp] theorem dioOeWrite_keepsSaf (s0 : Device) (w : Nat) (v : Nat) (s : Device) : KeepsSaf s0 (Machine.dioOeWrite w v s) ↔ KeepsSaf s0 s := by
  refine KeepsSaf.iff ?_
  unfold Machine.dioOeWrite
  repeat' (first
    | with_reducible exact KeepsSaf.refl _
    | (simp; done)
    | (with_reducible refine KeepsSaf.ite ?_ ?_)
    | (with_reducible refine KeepsSaf.foldl _ _ _ ?_ ?_; intro u x)
    | (with_reducible refine KeepsSaf.checked _ _ _ _ ?_ ?_; intro p u)
    | (with_reducible refine (spireWrite_keepsSaf _ _ _ ?_).mpr ?_; intro u)
    | (with_reducible refine (domeWrite_keepsSaf _ _ _ ?_).mpr ?_; intro u)
    | (with_reducible refine (underRec_keepsSaf _ _ _ _ _ _ _ ?_).mpr ?_; intro b u)
    | (with_reducible refine (keepWrite_keepsSaf _ _ _ _ ?_).mpr ?_; intro u)
    | (split <;> (try (rename_i h; replace h := congrArg Prod.snd h; dsimp only at h; subst h)))
    | intro _
    | simp)
@[simp] theorem checkOverspeed_keepsSaf (s0 : Device) (p : Nat) (t : STime) (s : Device) : KeepsSaf s0 (Machine.checkOverspeed p t s) ↔ KeepsSaf s0 s := by
  refine KeepsSaf.iff ?_
  unfold Machine.checkOverspeed
  simp
@[simp] theorem pstatClear_keepsSaf (s0 : Device) (p : Nat) (v : Nat) (s : Device) : KeepsSaf s0 (Machine.pstatClear p v s) ↔ KeepsSaf s0 s := by
  refine KeepsSaf.iff ?_
  unfold Machine.pstatClear
  repeat' (first
    | with_reducible exact KeepsSaf.refl _
    | (simp; done)
    | (with_reducible refine KeepsSaf.ite ?_ ?_)
    | (with_reducible refine KeepsSaf.foldl _ _ _ ?_ ?_; intro u x)
    | (with_reducible refine KeepsSaf.checked _ _ _ _ ?_ ?_; intro p u)
    | (with_reducible refine (spireWrite_keepsSaf _ _ _ ?_).mpr ?_; intro u)
    | (with_reducible refine (domeWrite_keepsSaf _ _ _ ?_).mpr ?_; intro u)
    | (with_reducible refine (underRec_keepsSaf _ _ _ _ _ _ _ ?_).mpr ?_; intro b u)
    | (with_reducible refine (keepWrite_keepsSaf _ _ _ _ ?_).mpr ?_; intro u)
    | (split <;> (try (rename_i h; replace h := congrArg Prod.snd h; dsimp only at h; subst h)))
    | intro _
    | simp)
@[simp] theorem excursion_keepsSaf (s0 : Device) (n : Nat) (s : Device) : KeepsSaf s0 (Machine.excursion n s) ↔ KeepsSaf s0 s := by
  refine KeepsSaf.iff ?_
  unfold Machine.excursion
  simp
@[simp] theorem disabledExpiry_keepsSaf (s0 : Device) (slot : Nat) (s : Device) : KeepsSaf s0 (Machine.disabledExpiry slot s) ↔ KeepsSaf s0 s := by
  refine KeepsSaf.iff ?_
  unfold Machine.disabledExpiry
  split <;> simp
@[simp] theorem domainLoss_keepsSaf (s0 : Device) (d : Nat) (s : Device) : KeepsSaf s0 (Machine.domainLoss d s) ↔ KeepsSaf s0 s := by
  refine KeepsSaf.iff ?_
  unfold Machine.domainLoss
  simp
@[simp] theorem restoreImage_keepsSaf (s0 : Device) (p : Nat) (s : Device) : KeepsSaf s0 (Machine.restoreImage p s) ↔ KeepsSaf s0 s := by
  refine KeepsSaf.iff ?_
  unfold Machine.restoreImage
  simp
@[simp] theorem dropExchanges_keepsSaf (s0 : Device) (s : Device) : KeepsSaf s0 (Machine.dropExchanges s) ↔ KeepsSaf s0 s := by
  refine KeepsSaf.iff ?_
  unfold Machine.dropExchanges
  simp
@[simp] theorem missEvents_keepsSaf (s0 : Device) (rs : List EvRec) (s : Device) : KeepsSaf s0 (Machine.missEvents rs s) ↔ KeepsSaf s0 s := by
  refine KeepsSaf.iff ?_
  unfold Machine.missEvents
  split <;> simp
@[simp] theorem offerEvent_keepsSaf (s0 : Device) (r : EvRec) (s : Device) : KeepsSaf s0 (Machine.offerEvent r s) ↔ KeepsSaf s0 s := by
  refine KeepsSaf.iff ?_
  unfold Machine.offerEvent
  simp
@[simp] theorem stampRec_keepsSaf (s0 : Device) (r : EvRec) (written : Bool) (s : Device) : KeepsSaf s0 (Machine.stampRec r written s).2 ↔ KeepsSaf s0 s := by
  refine KeepsSaf.iff ?_
  unfold Machine.stampRec
  simp
@[simp] theorem dropRecord_keepsSaf (s0 : Device) (r : EvRec) (s : Device) : KeepsSaf s0 (Machine.dropRecord r s) ↔ KeepsSaf s0 s := by
  refine KeepsSaf.iff ?_
  unfold Machine.dropRecord
  simp
@[simp] theorem putSlot_keepsSaf (s0 : Device) (k : Nat) (r : EvRec) (s : Device) : KeepsSaf s0 (Machine.putSlot k r s) ↔ KeepsSaf s0 s := by
  refine KeepsSaf.iff ?_
  unfold Machine.putSlot
  simp
@[simp] theorem sectorFails_keepsSaf (s0 : Device) (k : Nat) (r : EvRec) (unread : List Nat) (s : Device) : KeepsSaf s0 (Machine.sectorFails k r unread s) ↔ KeepsSaf s0 s := by
  refine KeepsSaf.iff ?_
  unfold Machine.sectorFails
  repeat' (first
    | with_reducible exact KeepsSaf.refl _
    | (simp; done)
    | (with_reducible refine KeepsSaf.ite ?_ ?_)
    | (with_reducible refine KeepsSaf.foldl _ _ _ ?_ ?_; intro u x)
    | (with_reducible refine KeepsSaf.checked _ _ _ _ ?_ ?_; intro p u)
    | (with_reducible refine (spireWrite_keepsSaf _ _ _ ?_).mpr ?_; intro u)
    | (with_reducible refine (domeWrite_keepsSaf _ _ _ ?_).mpr ?_; intro u)
    | (with_reducible refine (underRec_keepsSaf _ _ _ _ _ _ _ ?_).mpr ?_; intro b u)
    | (with_reducible refine (keepWrite_keepsSaf _ _ _ _ ?_).mpr ?_; intro u)
    | (split <;> (try (rename_i h; replace h := congrArg Prod.snd h; dsimp only at h; subst h)))
    | intro _
    | simp)
@[simp] theorem admitRecord_keepsSaf (s0 : Device) (r : EvRec) (ok : Bool) (unread : List Nat) (s : Device) : KeepsSaf s0 (Machine.admitRecord r ok unread s) ↔ KeepsSaf s0 s := by
  refine KeepsSaf.iff ?_
  unfold Machine.admitRecord
  split <;> simp
@[simp] theorem evrBoot_keepsSaf (s0 : Device) (cause : Nat) (s : Device) : KeepsSaf s0 (Machine.evrBoot cause s) ↔ KeepsSaf s0 s := by
  refine KeepsSaf.iff ?_
  unfold Machine.evrBoot
  simp
@[simp] theorem resetLanes_keepsSaf (s0 : Device) (s : Device) : KeepsSaf s0 (Machine.resetLanes s) ↔ KeepsSaf s0 s := by
  refine KeepsSaf.iff ?_
  unfold Machine.resetLanes
  simp
@[simp] theorem returnLanes_keepsSaf (s0 : Device) (s : Device) : KeepsSaf s0 (Machine.returnLanes s) ↔ KeepsSaf s0 s := by
  refine KeepsSaf.iff ?_
  unfold Machine.returnLanes
  simp
@[simp] theorem sprDeviceReset_keepsSaf (s0 : Device) (s : Device) : KeepsSaf s0 (Machine.sprDeviceReset s) ↔ KeepsSaf s0 s := by
  refine KeepsSaf.iff ?_
  unfold Machine.sprDeviceReset
  simp
@[simp] theorem stageFails_keepsSaf (s0 : Device) (s : Device) : KeepsSaf s0 (Machine.stageFails s) ↔ KeepsSaf s0 s := by
  refine KeepsSaf.iff ?_
  unfold Machine.stageFails
  repeat' (first
    | with_reducible exact KeepsSaf.refl _
    | (simp; done)
    | (with_reducible refine KeepsSaf.ite ?_ ?_)
    | (with_reducible refine KeepsSaf.foldl _ _ _ ?_ ?_; intro u x)
    | (with_reducible refine KeepsSaf.checked _ _ _ _ ?_ ?_; intro p u)
    | (with_reducible refine (spireWrite_keepsSaf _ _ _ ?_).mpr ?_; intro u)
    | (with_reducible refine (domeWrite_keepsSaf _ _ _ ?_).mpr ?_; intro u)
    | (with_reducible refine (underRec_keepsSaf _ _ _ _ _ _ _ ?_).mpr ?_; intro b u)
    | (with_reducible refine (keepWrite_keepsSaf _ _ _ _ ?_).mpr ?_; intro u)
    | (split <;> (try (rename_i h; replace h := congrArg Prod.snd h; dsimp only at h; subst h)))
    | intro _
    | simp)
@[simp] theorem traceLose_keepsSaf (s0 : Device) (s : Device) : KeepsSaf s0 (Machine.traceLose s).2 ↔ KeepsSaf s0 s := by
  refine KeepsSaf.iff ?_
  unfold Machine.traceLose
  simp
@[simp] theorem cutPending_keepsSaf (s0 : Device) (slot : Nat) (s : Device) : KeepsSaf s0 (Machine.cutPending slot s) ↔ KeepsSaf s0 s := by
  refine KeepsSaf.iff ?_
  unfold Machine.cutPending
  split <;> simp
@[simp] theorem captureTask_keepsSaf (s0 : Device) (c : DptCut) (slot : Nat) (s : Device) : KeepsSaf s0 (Machine.captureTask c slot s) ↔ KeepsSaf s0 s := by
  refine KeepsSaf.iff ?_
  unfold Machine.captureTask
  simp
@[simp] theorem cutReport_keepsSaf (s0 : Device) (s : Device) : KeepsSaf s0 (Machine.cutReport s) ↔ KeepsSaf s0 s := by
  refine KeepsSaf.iff ?_
  unfold Machine.cutReport
  split <;> simp
@[simp] theorem releaseDue_keepsSaf (s0 : Device) (e : STime × Nat × Nat) (s : Device) : KeepsSaf s0 (Machine.releaseDue e s) ↔ KeepsSaf s0 s := by
  refine KeepsSaf.iff ?_
  unfold Machine.releaseDue
  simp
@[simp] theorem dptTick_keepsSaf (s0 : Device) (s : Device) : KeepsSaf s0 (Machine.dptTick s) ↔ KeepsSaf s0 s := by
  refine KeepsSaf.iff ?_
  unfold Machine.dptTick
  simp
@[simp] theorem dramRepairDone_keepsSaf (s0 : Device) (s : Device) : KeepsSaf s0 (Machine.dramRepairDone s) ↔ KeepsSaf s0 s := by
  refine KeepsSaf.iff ?_
  unfold Machine.dramRepairDone
  split <;> simp
@[simp] theorem softRemap_keepsSaf (s0 : Device) (row : Nat) (s : Device) : KeepsSaf s0 (Machine.softRemap row s) ↔ KeepsSaf s0 s := by
  refine KeepsSaf.iff ?_
  unfold Machine.softRemap
  simp
@[simp] theorem correctedError_keepsSaf (s0 : Device) (row : Nat) (addr : Nat) (s : Device) : KeepsSaf s0 (Machine.correctedError row addr s) ↔ KeepsSaf s0 s := by
  refine KeepsSaf.iff ?_
  unfold Machine.correctedError
  simp
@[simp] theorem dramScrub_keepsSaf (s0 : Device) (row : Nat) (addrs : List Nat) (last : Bool) (s : Device) : KeepsSaf s0 (Machine.dramScrub row addrs last s) ↔ KeepsSaf s0 s := by
  refine KeepsSaf.iff ?_
  unfold Machine.dramScrub
  simp
@[simp] theorem loseDump_keepsSaf (s0 : Device) (t : STime) (s : Device) : KeepsSaf s0 (Machine.loseDump t s) ↔ KeepsSaf s0 s := by
  refine KeepsSaf.iff ?_
  unfold Machine.loseDump
  simp
@[simp] theorem writeDump_keepsSaf (s0 : Device) (t : STime) (s : Device) : KeepsSaf s0 (Machine.writeDump t s) ↔ KeepsSaf s0 s := by
  refine KeepsSaf.iff ?_
  unfold Machine.writeDump
  repeat' (first
    | with_reducible exact KeepsSaf.refl _
    | (simp; done)
    | (with_reducible refine KeepsSaf.ite ?_ ?_)
    | (with_reducible refine KeepsSaf.foldl _ _ _ ?_ ?_; intro u x)
    | (with_reducible refine KeepsSaf.checked _ _ _ _ ?_ ?_; intro p u)
    | (with_reducible refine (spireWrite_keepsSaf _ _ _ ?_).mpr ?_; intro u)
    | (with_reducible refine (domeWrite_keepsSaf _ _ _ ?_).mpr ?_; intro u)
    | (with_reducible refine (underRec_keepsSaf _ _ _ _ _ _ _ ?_).mpr ?_; intro b u)
    | (with_reducible refine (keepWrite_keepsSaf _ _ _ _ ?_).mpr ?_; intro u)
    | (split <;> (try (rename_i h; replace h := congrArg Prod.snd h; dsimp only at h; subst h)))
    | intro _
    | simp)
@[simp] theorem dumpInstant_keepsSaf (s0 : Device) (s : Device) : KeepsSaf s0 (Machine.dumpInstant s) ↔ KeepsSaf s0 s := by
  refine KeepsSaf.iff ?_
  unfold Machine.dumpInstant
  simp
@[simp] theorem epochBoundary_keepsSaf (s0 : Device) (s : Device) : KeepsSaf s0 (Machine.epochBoundary s) ↔ KeepsSaf s0 s := by
  refine KeepsSaf.iff ?_
  unfold Machine.epochBoundary
  simp
@[simp] theorem markerTimeout_keepsSaf (s0 : Device) (source : Nat) (slot : Nat) (operand : Nat) (s : Device) : KeepsSaf s0 (Machine.markerTimeout source slot operand s) ↔ KeepsSaf s0 s := by
  refine KeepsSaf.iff ?_
  unfold Machine.markerTimeout
  split <;> simp
@[simp] theorem ethLinkUp_keepsSaf (s0 : Device) (p : Nat) (s : Device) : KeepsSaf s0 (Machine.ethLinkUp p s) ↔ KeepsSaf s0 s := by
  refine KeepsSaf.iff ?_
  unfold Machine.ethLinkUp
  simp
@[simp] theorem portEnWrite_keepsSaf (s0 : Device) (v : Nat) (s : Device) : KeepsSaf s0 (Machine.portEnWrite v s) ↔ KeepsSaf s0 s := by
  refine KeepsSaf.iff ?_
  unfold Machine.portEnWrite
  simp
theorem spireWrite_keepsSaf (s0 : Device) (f : Device → Device) (s : Device) (h : ∀ u, KeepsSaf u (f u)) :
    KeepsSaf s0 (spireWrite f s) ↔ KeepsSaf s0 s := by
  have h2 : KeepsSaf s (spireWrite f s) := by
    unfold spireWrite
    refine KeepsSaf.ite (h s) ?_
    simp
  exact h2.iff
@[simp] theorem eventAdmission_keepsSaf (s0 : Device) (ok : Bool) (unread : List Nat) (s : Device) : KeepsSaf s0 (Machine.eventAdmission ok unread s) ↔ KeepsSaf s0 s := by
  refine KeepsSaf.iff ?_
  unfold Machine.eventAdmission
  split <;> simp
@[simp] theorem raiseRingGap_keepsSaf (s0 : Device) (s : Device) : KeepsSaf s0 (Machine.raiseRingGap s) ↔ KeepsSaf s0 s := by
  refine KeepsSaf.iff ?_
  unfold Machine.raiseRingGap
  split <;> simp
@[simp] theorem writeEvent_keepsSaf (s0 : Device) (r : EvRec) (s : Device) : KeepsSaf s0 (Machine.writeEvent r s) ↔ KeepsSaf s0 s := by
  refine KeepsSaf.iff ?_
  unfold Machine.writeEvent
  simp
@[simp] theorem eventDelivery_keepsSaf (s0 : Device) (s : Device) : KeepsSaf s0 (Machine.eventDelivery s) ↔ KeepsSaf s0 s := by
  refine KeepsSaf.iff ?_
  unfold Machine.eventDelivery
  repeat' (first
    | with_reducible exact KeepsSaf.refl _
    | (simp; done)
    | (with_reducible refine KeepsSaf.ite ?_ ?_)
    | (with_reducible refine KeepsSaf.foldl _ _ _ ?_ ?_; intro u x)
    | (with_reducible refine KeepsSaf.checked _ _ _ _ ?_ ?_; intro p u)
    | (with_reducible refine (spireWrite_keepsSaf _ _ _ ?_).mpr ?_; intro u)
    | (with_reducible refine (domeWrite_keepsSaf _ _ _ ?_).mpr ?_; intro u)
    | (with_reducible refine (underRec_keepsSaf _ _ _ _ _ _ _ ?_).mpr ?_; intro b u)
    | (with_reducible refine (keepWrite_keepsSaf _ _ _ _ ?_).mpr ?_; intro u)
    | (split <;> (try (rename_i h; replace h := congrArg Prod.snd h; dsimp only at h; subst h)))
    | intro _
    | simp)
@[simp] theorem eventRaise_keepsSaf (s0 : Device) (code : Nat) (payload : List Byte) (s : Device) : KeepsSaf s0 (Machine.eventRaise code payload s) ↔ KeepsSaf s0 s := by
  refine KeepsSaf.iff ?_
  unfold Machine.eventRaise
  simp
@[simp] theorem cfgErr_keepsSaf (s0 : Device) (s : Device) : KeepsSaf s0 (Machine.cfgErr s) ↔ KeepsSaf s0 s := by
  refine KeepsSaf.iff ?_
  unfold Machine.cfgErr
  simp
@[simp] theorem evqCfgWrite_keepsSaf (s0 : Device) (v : Nat) (s : Device) : KeepsSaf s0 (Machine.evqCfgWrite v s) ↔ KeepsSaf s0 s := by
  refine KeepsSaf.iff ?_
  unfold Machine.evqCfgWrite
  simp
@[simp] theorem qcfgWrite_keepsSaf (s0 : Device) (n : Nat) (v : Nat) (s : Device) : KeepsSaf s0 (Machine.qcfgWrite n v s) ↔ KeepsSaf s0 s := by
  refine KeepsSaf.iff ?_
  unfold Machine.qcfgWrite
  simp
@[simp] theorem qresume_keepsSaf (s0 : Device) (n : Nat) (flush : Bool) (got : List SlotRead) (s : Device) : KeepsSaf s0 (Machine.qresume n flush got s) ↔ KeepsSaf s0 s := by
  refine KeepsSaf.iff ?_
  unfold Machine.qresume
  simp
@[simp] theorem ringRegWrite_keepsSaf (s0 : Device) (n : Nat) (o : Nat) (v : Nat) (s : Device) : KeepsSaf s0 (Machine.ringRegWrite n o v s) ↔ KeepsSaf s0 s := by
  refine KeepsSaf.iff ?_
  unfold Machine.ringRegWrite
  simp
@[simp] theorem hifWrite_keepsSaf (s0 : Device) (o : Nat) (v : Nat) (s : Device) : KeepsSaf s0 (Machine.hifWrite o v s) ↔ KeepsSaf s0 s := by
  refine KeepsSaf.iff ?_
  unfold Machine.hifWrite
  simp
@[simp] theorem dumpCfgWrite_keepsSaf (s0 : Device) (v : Nat) (s : Device) : KeepsSaf s0 (Machine.dumpCfgWrite v s) ↔ KeepsSaf s0 s := by
  refine KeepsSaf.iff ?_
  unfold Machine.dumpCfgWrite
  repeat' (first
    | with_reducible exact KeepsSaf.refl _
    | (simp; done)
    | (with_reducible refine KeepsSaf.ite ?_ ?_)
    | (with_reducible refine KeepsSaf.foldl _ _ _ ?_ ?_; intro u x)
    | (with_reducible refine KeepsSaf.checked _ _ _ _ ?_ ?_; intro p u)
    | (with_reducible refine (spireWrite_keepsSaf _ _ _ ?_).mpr ?_; intro u)
    | (with_reducible refine (domeWrite_keepsSaf _ _ _ ?_).mpr ?_; intro u)
    | (with_reducible refine (underRec_keepsSaf _ _ _ _ _ _ _ ?_).mpr ?_; intro b u)
    | (with_reducible refine (keepWrite_keepsSaf _ _ _ _ ?_).mpr ?_; intro u)
    | (split <;> (try (rename_i h; replace h := congrArg Prod.snd h; dsimp only at h; subst h)))
    | intro _
    | simp)
@[simp] theorem dumpMaskWrite_keepsSaf (s0 : Device) (v : Nat) (s : Device) : KeepsSaf s0 (Machine.dumpMaskWrite v s) ↔ KeepsSaf s0 s := by
  refine KeepsSaf.iff ?_
  unfold Machine.dumpMaskWrite
  repeat' (first
    | with_reducible exact KeepsSaf.refl _
    | (simp; done)
    | (with_reducible refine KeepsSaf.ite ?_ ?_)
    | (with_reducible refine KeepsSaf.foldl _ _ _ ?_ ?_; intro u x)
    | (with_reducible refine KeepsSaf.checked _ _ _ _ ?_ ?_; intro p u)
    | (with_reducible refine (spireWrite_keepsSaf _ _ _ ?_).mpr ?_; intro u)
    | (with_reducible refine (domeWrite_keepsSaf _ _ _ ?_).mpr ?_; intro u)
    | (with_reducible refine (underRec_keepsSaf _ _ _ _ _ _ _ ?_).mpr ?_; intro b u)
    | (with_reducible refine (keepWrite_keepsSaf _ _ _ _ ?_).mpr ?_; intro u)
    | (split <;> (try (rename_i h; replace h := congrArg Prod.snd h; dsimp only at h; subst h)))
    | intro _
    | simp)
@[simp] theorem faultLane_keepsSaf (s0 : Device) (l : Nat) (s : Device) : KeepsSaf s0 (Machine.faultLane l s) ↔ KeepsSaf s0 s := by
  refine KeepsSaf.iff ?_
  unfold Machine.faultLane
  simp
@[simp] theorem laneEnWrite_keepsSaf (s0 : Device) (b : BusWrite) (s : Device) : KeepsSaf s0 (Machine.laneEnWrite b s) ↔ KeepsSaf s0 s := by
  refine KeepsSaf.iff ?_
  unfold Machine.laneEnWrite
  repeat' (first
    | with_reducible exact KeepsSaf.refl _
    | (simp; done)
    | (with_reducible refine KeepsSaf.ite ?_ ?_)
    | (with_reducible refine KeepsSaf.foldl _ _ _ ?_ ?_; intro u x)
    | (with_reducible refine KeepsSaf.checked _ _ _ _ ?_ ?_; intro p u)
    | (with_reducible refine (spireWrite_keepsSaf _ _ _ ?_).mpr ?_; intro u)
    | (with_reducible refine (domeWrite_keepsSaf _ _ _ ?_).mpr ?_; intro u)
    | (with_reducible refine (underRec_keepsSaf _ _ _ _ _ _ _ ?_).mpr ?_; intro b u)
    | (with_reducible refine (keepWrite_keepsSaf _ _ _ _ ?_).mpr ?_; intro u)
    | (split <;> (try (rename_i h; replace h := congrArg Prod.snd h; dsimp only at h; subst h)))
    | intro _
    | simp)
@[simp] theorem pmcSelWrite_keepsSaf (s0 : Device) (n : Nat) (v : Nat) (s : Device) : KeepsSaf s0 (Machine.pmcSelWrite n v s) ↔ KeepsSaf s0 s := by
  refine KeepsSaf.iff ?_
  unfold Machine.pmcSelWrite
  repeat' (first
    | with_reducible exact KeepsSaf.refl _
    | (simp; done)
    | (with_reducible refine KeepsSaf.ite ?_ ?_)
    | (with_reducible refine KeepsSaf.foldl _ _ _ ?_ ?_; intro u x)
    | (with_reducible refine KeepsSaf.checked _ _ _ _ ?_ ?_; intro p u)
    | (with_reducible refine (spireWrite_keepsSaf _ _ _ ?_).mpr ?_; intro u)
    | (with_reducible refine (domeWrite_keepsSaf _ _ _ ?_).mpr ?_; intro u)
    | (with_reducible refine (underRec_keepsSaf _ _ _ _ _ _ _ ?_).mpr ?_; intro b u)
    | (with_reducible refine (keepWrite_keepsSaf _ _ _ _ ?_).mpr ?_; intro u)
    | (split <;> (try (rename_i h; replace h := congrArg Prod.snd h; dsimp only at h; subst h)))
    | intro _
    | simp)
@[simp] theorem pmcSnapWrite_keepsSaf (s0 : Device) (v : Nat) (s : Device) : KeepsSaf s0 (Machine.pmcSnapWrite v s) ↔ KeepsSaf s0 s := by
  refine KeepsSaf.iff ?_
  unfold Machine.pmcSnapWrite
  repeat' (first
    | with_reducible exact KeepsSaf.refl _
    | (simp; done)
    | (with_reducible refine KeepsSaf.ite ?_ ?_)
    | (with_reducible refine KeepsSaf.foldl _ _ _ ?_ ?_; intro u x)
    | (with_reducible refine KeepsSaf.checked _ _ _ _ ?_ ?_; intro p u)
    | (with_reducible refine (spireWrite_keepsSaf _ _ _ ?_).mpr ?_; intro u)
    | (with_reducible refine (domeWrite_keepsSaf _ _ _ ?_).mpr ?_; intro u)
    | (with_reducible refine (underRec_keepsSaf _ _ _ _ _ _ _ ?_).mpr ?_; intro b u)
    | (with_reducible refine (keepWrite_keepsSaf _ _ _ _ ?_).mpr ?_; intro u)
    | (split <;> (try (rename_i h; replace h := congrArg Prod.snd h; dsimp only at h; subst h)))
    | intro _
    | simp)
@[simp] theorem pageWrite_keepsSaf (s0 : Device) (off : Nat) (v : Nat) (s : Device) : KeepsSaf s0 (Machine.pageWrite off v s) ↔ KeepsSaf s0 s := by
  refine KeepsSaf.iff ?_
  unfold Machine.pageWrite
  simp
@[simp] theorem writeWord_keepsSaf (s0 : Device) (off : Nat) (v : Nat) (s : Device) : KeepsSaf s0 (Machine.writeWord off v s) ↔ KeepsSaf s0 s := by
  refine KeepsSaf.iff ?_
  unfold Machine.writeWord
  simp
@[simp] theorem eventRingEnable_keepsSaf (s0 : Device) (v : Nat) (on_ : Bool) (s : Device) : KeepsSaf s0 (Machine.eventRingEnable v on_ s) ↔ KeepsSaf s0 s := by
  refine KeepsSaf.iff ?_
  unfold Machine.eventRingEnable
  simp
@[simp] theorem eventRingDoorbell_keepsSaf (s0 : Device) (w : BusWrite) (s : Device) : KeepsSaf s0 (Machine.eventRingDoorbell w s) ↔ KeepsSaf s0 s := by
  refine KeepsSaf.iff ?_
  unfold Machine.eventRingDoorbell
  split <;> simp
@[simp] theorem applyInstr_keepsSaf (s0 : Device) (c : Nat) (y : Cycle) (rd : Nat) (v : Nat) (pc : Nat) (writes : List (Nat × List Byte)) (s : Device) : KeepsSaf s0 (Machine.applyInstr c y rd v pc writes s) ↔ KeepsSaf s0 s := by
  refine KeepsSaf.iff ?_
  unfold Machine.applyInstr
  simp
@[simp] theorem runInstr_keepsSaf (s0 : Device) (c : Nat) (want : Rv → Bool) (s : Device) : KeepsSaf s0 (Machine.runInstr c want s) ↔ KeepsSaf s0 s := by
  refine KeepsSaf.iff ?_
  unfold Machine.runInstr
  repeat' (first
    | with_reducible exact KeepsSaf.refl _
    | (simp; done)
    | (with_reducible refine KeepsSaf.ite ?_ ?_)
    | (with_reducible refine KeepsSaf.foldl _ _ _ ?_ ?_; intro u x)
    | (with_reducible refine KeepsSaf.checked _ _ _ _ ?_ ?_; intro p u)
    | (with_reducible refine (spireWrite_keepsSaf _ _ _ ?_).mpr ?_; intro u)
    | (with_reducible refine (domeWrite_keepsSaf _ _ _ ?_).mpr ?_; intro u)
    | (with_reducible refine (underRec_keepsSaf _ _ _ _ _ _ _ ?_).mpr ?_; intro b u)
    | (with_reducible refine (keepWrite_keepsSaf _ _ _ _ ?_).mpr ?_; intro u)
    | (split <;> (try (rename_i h; replace h := congrArg Prod.snd h; dsimp only at h; subst h)))
    | intro _
    | simp)
@[simp] theorem fblLatch_keepsSaf (s0 : Device) (t : STime) (s : Device) : KeepsSaf s0 (Machine.fblLatch t s).2 ↔ KeepsSaf s0 s := by
  refine KeepsSaf.iff ?_
  unfold Machine.fblLatch
  simp
@[simp] theorem fblSwap_keepsSaf (s0 : Device) (s : Device) : KeepsSaf s0 (Machine.fblSwap s) ↔ KeepsSaf s0 s := by
  refine KeepsSaf.iff ?_
  unfold Machine.fblSwap
  split <;> simp
@[simp] theorem fblScan_keepsSaf (s0 : Device) (s : Device) : KeepsSaf s0 (Machine.fblScan s) ↔ KeepsSaf s0 s := by
  refine KeepsSaf.iff ?_
  unfold Machine.fblScan
  simp
@[simp] theorem fenceTimeout_keepsSaf (s0 : Device) (s : Device) : KeepsSaf s0 (Machine.fenceTimeout s) ↔ KeepsSaf s0 s := by
  refine KeepsSaf.iff ?_
  unfold Machine.fenceTimeout
  split <;> simp
@[simp] theorem noteStale_keepsSaf (s0 : Device) (slot : Nat) (mask : Nat) (at_ : STime) (s : Device) : KeepsSaf s0 (Machine.noteStale slot mask at_ s) ↔ KeepsSaf s0 s := by
  refine KeepsSaf.iff ?_
  unfold Machine.noteStale
  simp
@[simp] theorem buildFiring_keepsSaf (s0 : Device) (e : ReadyEntry) (s : Device) : KeepsSaf s0 (Machine.buildFiring e s).2 ↔ KeepsSaf s0 s := by
  refine KeepsSaf.iff ?_
  unfold Machine.buildFiring
  repeat' (first
    | with_reducible exact KeepsSaf.refl _
    | (simp; done)
    | (with_reducible refine KeepsSaf.ite ?_ ?_)
    | (with_reducible refine KeepsSaf.foldl _ _ _ ?_ ?_; intro u x)
    | (with_reducible refine KeepsSaf.checked _ _ _ _ ?_ ?_; intro p u)
    | (with_reducible refine (spireWrite_keepsSaf _ _ _ ?_).mpr ?_; intro u)
    | (with_reducible refine (domeWrite_keepsSaf _ _ _ ?_).mpr ?_; intro u)
    | (with_reducible refine (underRec_keepsSaf _ _ _ _ _ _ _ ?_).mpr ?_; intro b u)
    | (with_reducible refine (keepWrite_keepsSaf _ _ _ _ ?_).mpr ?_; intro u)
    | (split <;> (try (rename_i h; replace h := congrArg Prod.snd h; dsimp only at h; subst h)))
    | intro _
    | simp)
@[simp] theorem loopStarts_keepsSaf (s0 : Device) (slot : Nat) (s : Device) : KeepsSaf s0 (Machine.loopStarts slot s) ↔ KeepsSaf s0 s := by
  refine KeepsSaf.iff ?_
  unfold Machine.loopStarts
  simp
@[simp] theorem firingDispatch_keepsSaf (s0 : Device) (s : Device) : KeepsSaf s0 (Machine.firingDispatch s) ↔ KeepsSaf s0 s := by
  refine KeepsSaf.iff ?_
  unfold Machine.firingDispatch
  repeat' (first
    | with_reducible exact KeepsSaf.refl _
    | (simp; done)
    | (with_reducible refine KeepsSaf.ite ?_ ?_)
    | (with_reducible refine KeepsSaf.foldl _ _ _ ?_ ?_; intro u x)
    | (with_reducible refine KeepsSaf.checked _ _ _ _ ?_ ?_; intro p u)
    | (with_reducible refine (spireWrite_keepsSaf _ _ _ ?_).mpr ?_; intro u)
    | (with_reducible refine (domeWrite_keepsSaf _ _ _ ?_).mpr ?_; intro u)
    | (with_reducible refine (underRec_keepsSaf _ _ _ _ _ _ _ ?_).mpr ?_; intro b u)
    | (with_reducible refine (keepWrite_keepsSaf _ _ _ _ ?_).mpr ?_; intro u)
    | (split <;> (try (rename_i h; replace h := congrArg Prod.snd h; dsimp only at h; subst h)))
    | intro _
    | simp)
@[simp] theorem dispatchFiring_keepsSaf (s0 : Device) (s : Device) : KeepsSaf s0 (Machine.dispatchFiring s) ↔ KeepsSaf s0 s := by
  refine KeepsSaf.iff ?_
  unfold Machine.dispatchFiring
  simp
@[simp] theorem loseDram_keepsSaf (s0 : Device) (s : Device) : KeepsSaf s0 (Machine.loseDram s) ↔ KeepsSaf s0 s := by
  refine KeepsSaf.iff ?_
  unfold Machine.loseDram
  simp
@[simp] theorem discardCut_keepsSaf (s0 : Device) (cause : Nat) (s : Device) : KeepsSaf s0 (Machine.discardCut cause s) ↔ KeepsSaf s0 s := by
  refine KeepsSaf.iff ?_
  unfold Machine.discardCut
  split <;> simp
@[simp] theorem evrLinkDown_keepsSaf (s0 : Device) (s : Device) : KeepsSaf s0 (Machine.evrLinkDown s) ↔ KeepsSaf s0 s := by
  refine KeepsSaf.iff ?_
  unfold Machine.evrLinkDown
  simp
@[simp] theorem hifReset_keepsSaf (s0 : Device) (s : Device) : KeepsSaf s0 (Machine.hifReset s) ↔ KeepsSaf s0 s := by
  refine KeepsSaf.iff ?_
  unfold Machine.hifReset
  simp
@[simp] theorem ltnSpireReset_keepsSaf (s0 : Device) (f : Nat) (s : Device) : KeepsSaf s0 (Machine.ltnSpireReset f s) ↔ KeepsSaf s0 s := by
  refine KeepsSaf.iff ?_
  unfold Machine.ltnSpireReset
  simp
@[simp] theorem pmcReset_keepsSaf (s0 : Device) (s : Device) : KeepsSaf s0 (Machine.pmcReset s) ↔ KeepsSaf s0 s := by
  refine KeepsSaf.iff ?_
  unfold Machine.pmcReset
  simp
@[simp] theorem crossingReset_keepsSaf (s0 : Device) (k : Nat) (count : Nat) (s : Device) : KeepsSaf s0 (Machine.crossingReset k count s) ↔ KeepsSaf s0 s := by
  refine KeepsSaf.iff ?_
  unfold Machine.crossingReset
  simp
@[simp] theorem resetCrossing_keepsSaf (s0 : Device) (k : Nat) (s : Device) : KeepsSaf s0 (Machine.resetCrossing k s) ↔ KeepsSaf s0 s := by
  refine KeepsSaf.iff ?_
  unfold Machine.resetCrossing
  simp
@[simp] theorem resetSpireUnits_keepsSaf (s0 : Device) (s : Device) : KeepsSaf s0 (Machine.resetSpireUnits s) ↔ KeepsSaf s0 s := by
  refine KeepsSaf.iff ?_
  unfold Machine.resetSpireUnits
  simp
@[simp] theorem sprSpireReset_keepsSaf (s0 : Device) (s : Device) : KeepsSaf s0 (Machine.sprSpireReset s) ↔ KeepsSaf s0 s := by
  refine KeepsSaf.iff ?_
  unfold Machine.sprSpireReset
  simp
@[simp] theorem timSpireDown_keepsSaf (s0 : Device) (s : Device) : KeepsSaf s0 (Machine.timSpireDown s) ↔ KeepsSaf s0 s := by
  refine KeepsSaf.iff ?_
  unfold Machine.timSpireDown
  simp
@[simp] theorem spireDown_keepsSaf (s0 : Device) (cause : Nat) (dram : Bool) (s : Device) : KeepsSaf s0 (Machine.spireDown cause dram s) ↔ KeepsSaf s0 s := by
  refine KeepsSaf.iff ?_
  unfold Machine.spireDown
  simp
@[simp] theorem spireRestart_keepsSaf (s0 : Device) (kind : Nat) (cause : Nat) (down : Nat) (dram : Bool) (s : Device) : KeepsSaf s0 (Machine.spireRestart kind cause down dram s) ↔ KeepsSaf s0 s := by
  refine KeepsSaf.iff ?_
  unfold Machine.spireRestart
  simp
@[simp] theorem spireFatal_keepsSaf (s0 : Device) (code : Nat) (detail : Nat) (dram : Bool) (s : Device) : KeepsSaf s0 (Machine.spireFatal code detail dram s) ↔ KeepsSaf s0 s := by
  refine KeepsSaf.iff ?_
  unfold Machine.spireFatal
  simp
@[simp] theorem linkDown_keepsSaf (s0 : Device) (cause : Nat) (s : Device) : KeepsSaf s0 (Machine.linkDown cause s) ↔ KeepsSaf s0 s := by
  refine KeepsSaf.iff ?_
  unfold Machine.linkDown
  simp
@[simp] theorem beginRetrain_keepsSaf (s0 : Device) (d : Nat) (s : Device) : KeepsSaf s0 (Machine.beginRetrain d s) ↔ KeepsSaf s0 s := by
  refine KeepsSaf.iff ?_
  unfold Machine.beginRetrain
  simp
@[simp] theorem modDir_keepsSaf (s0 : Device) (d : Nat) (f : BtrDir → BtrDir) (s : Device) : KeepsSaf s0 (Machine.modDir d f s) ↔ KeepsSaf s0 s := by
  refine KeepsSaf.iff ?_
  unfold Machine.modDir
  simp
@[simp] theorem replay_keepsSaf (s0 : Device) (d : Nat) (accepted : Nat) (s : Device) : KeepsSaf s0 (Machine.replay d accepted s) ↔ KeepsSaf s0 s := by
  refine KeepsSaf.iff ?_
  unfold Machine.replay
  simp
@[simp] theorem nzLaunched_keepsSaf (s0 : Device) (st : Nat) (typ : Nat) (lan : Nat) (cycle : Nat) (launch : STime) (s : Device) : KeepsSaf s0 (Machine.nzLaunched st typ lan cycle launch s) ↔ KeepsSaf s0 s := by
  refine KeepsSaf.iff ?_
  unfold Machine.nzLaunched
  simp
@[simp] theorem sendTime_keepsSaf (s0 : Device) (p : Nat) (d : Nat) (typ : Nat) (seq : Nat) (flags : Nat) (logInt : Int) (body : List Byte) (s : Device) : KeepsSaf s0 (Machine.sendTime p d typ seq flags logInt body s) ↔ KeepsSaf s0 s := by
  refine KeepsSaf.iff ?_
  unfold Machine.sendTime
  simp
@[simp] theorem timLaunched_keepsSaf (s0 : Device) (p : Nat) (d : Nat) (typ : Nat) (seq : Nat) (f : List Byte) (t : STime) (s : Device) : KeepsSaf s0 (Machine.timLaunched p d typ seq f t s) ↔ KeepsSaf s0 s := by
  refine KeepsSaf.iff ?_
  unfold Machine.timLaunched
  simp
@[simp] theorem launchHead_keepsSaf (s0 : Device) (p : Nat) (c : Nat) (s : Device) : KeepsSaf s0 (Machine.launchHead p c s) ↔ KeepsSaf s0 s := by
  refine KeepsSaf.iff ?_
  unfold Machine.launchHead
  repeat' split
  all_goals simp
@[simp] theorem frameLaunch_keepsSaf (s0 : Device) (p : Nat) (s : Device) : KeepsSaf s0 (Machine.frameLaunch p s) ↔ KeepsSaf s0 s := by
  refine KeepsSaf.iff ?_
  unfold Machine.frameLaunch
  split <;> simp
@[simp] theorem hostDeliver_keepsSaf (s0 : Device) (f : RxFrame) (flags : Nat) (s : Device) : KeepsSaf s0 (Machine.hostDeliver f flags s) ↔ KeepsSaf s0 s := by
  refine KeepsSaf.iff ?_
  unfold Machine.hostDeliver
  split <;> simp
@[simp] theorem prpDuplicate_keepsSaf (s0 : Device) (f : RxFrame) (s : Device) : KeepsSaf s0 (Machine.prpDuplicate f s).2 ↔ KeepsSaf s0 s := by
  refine KeepsSaf.iff ?_
  unfold Machine.prpDuplicate
  split <;> simp
@[simp] theorem recoverSeq_keepsSaf (s0 : Device) (k : Nat) (seq : Nat) (s : Device) : KeepsSaf s0 (Machine.recoverSeq k seq s).2 ↔ KeepsSaf s0 s := by
  refine KeepsSaf.iff ?_
  unfold Machine.recoverSeq
  repeat' (first
    | with_reducible exact KeepsSaf.refl _
    | (simp; done)
    | (with_reducible refine KeepsSaf.ite ?_ ?_)
    | (with_reducible refine KeepsSaf.foldl _ _ _ ?_ ?_; intro u x)
    | (with_reducible refine KeepsSaf.checked _ _ _ _ ?_ ?_; intro p u)
    | (with_reducible refine (spireWrite_keepsSaf _ _ _ ?_).mpr ?_; intro u)
    | (with_reducible refine (domeWrite_keepsSaf _ _ _ ?_).mpr ?_; intro u)
    | (with_reducible refine (underRec_keepsSaf _ _ _ _ _ _ _ ?_).mpr ?_; intro b u)
    | (with_reducible refine (keepWrite_keepsSaf _ _ _ _ ?_).mpr ?_; intro u)
    | (split <;> (try (rename_i h; replace h := congrArg Prod.snd h; dsimp only at h; subst h)))
    | intro _
    | simp)
@[simp] theorem hostFrame_keepsSaf (s0 : Device) (f : RxFrame) (s : Device) : KeepsSaf s0 (Machine.hostFrame f s) ↔ KeepsSaf s0 s := by
  refine KeepsSaf.iff ?_
  unfold Machine.hostFrame
  repeat' (first
    | with_reducible exact KeepsSaf.refl _
    | (simp; done)
    | (with_reducible refine KeepsSaf.ite ?_ ?_)
    | (with_reducible refine KeepsSaf.foldl _ _ _ ?_ ?_; intro u x)
    | (with_reducible refine KeepsSaf.checked _ _ _ _ ?_ ?_; intro p u)
    | (with_reducible refine (spireWrite_keepsSaf _ _ _ ?_).mpr ?_; intro u)
    | (with_reducible refine (domeWrite_keepsSaf _ _ _ ?_).mpr ?_; intro u)
    | (with_reducible refine (underRec_keepsSaf _ _ _ _ _ _ _ ?_).mpr ?_; intro b u)
    | (with_reducible refine (keepWrite_keepsSaf _ _ _ _ ?_).mpr ?_; intro u)
    | (split <;> (try (rename_i h; replace h := congrArg Prod.snd h; dsimp only at h; subst h)))
    | intro _
    | simp)
@[simp] theorem stallReport_keepsSaf (s0 : Device) (m : Nat) (s : Device) : KeepsSaf s0 (Machine.stallReport m s) ↔ KeepsSaf s0 s := by
  refine KeepsSaf.iff ?_
  unfold Machine.stallReport
  split <;> simp
@[simp] theorem fullStep_keepsSaf (s0 : Device) (m : Nat) (s : Device) : KeepsSaf s0 (Machine.fullStep m s) ↔ KeepsSaf s0 s := by
  refine KeepsSaf.iff ?_
  unfold Machine.fullStep
  simp
@[simp] theorem stageBad_keepsSaf (s0 : Device) (s : Device) : KeepsSaf s0 (Machine.stageBad s) ↔ KeepsSaf s0 s := by
  refine KeepsSaf.iff ?_
  unfold Machine.stageBad
  simp
@[simp] theorem stageDone_keepsSaf (s0 : Device) (written : Bool) (s : Device) : KeepsSaf s0 (Machine.stageDone written s) ↔ KeepsSaf s0 s := by
  refine KeepsSaf.iff ?_
  unfold Machine.stageDone
  repeat' (first
    | with_reducible exact KeepsSaf.refl _
    | (simp; done)
    | (with_reducible refine KeepsSaf.ite ?_ ?_)
    | (with_reducible refine KeepsSaf.foldl _ _ _ ?_ ?_; intro u x)
    | (with_reducible refine KeepsSaf.checked _ _ _ _ ?_ ?_; intro p u)
    | (with_reducible refine (spireWrite_keepsSaf _ _ _ ?_).mpr ?_; intro u)
    | (with_reducible refine (domeWrite_keepsSaf _ _ _ ?_).mpr ?_; intro u)
    | (with_reducible refine (underRec_keepsSaf _ _ _ _ _ _ _ ?_).mpr ?_; intro b u)
    | (with_reducible refine (keepWrite_keepsSaf _ _ _ _ ?_).mpr ?_; intro u)
    | (split <;> (try (rename_i h; replace h := congrArg Prod.snd h; dsimp only at h; subst h)))
    | intro _
    | simp)
theorem gapMove_saf0 (s : Device) : KeepsSaf s (gapMove s) := by
  have key : ∀ k : Kep, KeepsSaf s { s with kep := k } := fun k => rfl
  unfold gapMove
  refine KeepsSaf.ite (KeepsSaf.refl s) ?_
  exact key _
@[simp] theorem gapMove_keepsSaf (s0 s : Device) : KeepsSaf s0 (gapMove s) ↔ KeepsSaf s0 s := (gapMove_saf0 s).iff
@[simp] theorem gateCycleStart_keepsSaf (s0 : Device) (p : Nat) (s : Device) : KeepsSaf s0 (Machine.gateCycleStart p s) ↔ KeepsSaf s0 s := by
  refine KeepsSaf.iff ?_
  unfold Machine.gateCycleStart
  simp
@[simp] theorem peerLost_keepsSaf (s0 : Device) (cause : Nat) (s : Device) : KeepsSaf s0 (Machine.peerLost cause s) ↔ KeepsSaf s0 s := by
  refine KeepsSaf.iff ?_
  unfold Machine.peerLost
  split <;> simp
@[simp] theorem heartbeatLoss_keepsSaf (s0 : Device) (pact : Bool) (s : Device) : KeepsSaf s0 (Machine.heartbeatLoss pact s) ↔ KeepsSaf s0 s := by
  refine KeepsSaf.iff ?_
  unfold Machine.heartbeatLoss
  repeat' (first
    | with_reducible exact KeepsSaf.refl _
    | (simp; done)
    | (with_reducible refine KeepsSaf.ite ?_ ?_)
    | (with_reducible refine KeepsSaf.foldl _ _ _ ?_ ?_; intro u x)
    | (with_reducible refine KeepsSaf.checked _ _ _ _ ?_ ?_; intro p u)
    | (with_reducible refine (spireWrite_keepsSaf _ _ _ ?_).mpr ?_; intro u)
    | (with_reducible refine (domeWrite_keepsSaf _ _ _ ?_).mpr ?_; intro u)
    | (with_reducible refine (underRec_keepsSaf _ _ _ _ _ _ _ ?_).mpr ?_; intro b u)
    | (with_reducible refine (keepWrite_keepsSaf _ _ _ _ ?_).mpr ?_; intro u)
    | (split <;> (try (rename_i h; replace h := congrArg Prod.snd h; dsimp only at h; subst h)))
    | intro _
    | simp)
@[simp] theorem shipImage_keepsSaf (s0 : Device) (s : Device) : KeepsSaf s0 (Machine.shipImage s) ↔ KeepsSaf s0 s := by
  refine KeepsSaf.iff ?_
  unfold Machine.shipImage
  split <;> simp
@[simp] theorem startShipping_keepsSaf (s0 : Device) (s : Device) : KeepsSaf s0 (Machine.startShipping s) ↔ KeepsSaf s0 s := by
  refine KeepsSaf.iff ?_
  unfold Machine.startShipping
  simp
@[simp] theorem trySync_keepsSaf (s0 : Device) (s : Device) : KeepsSaf s0 (Machine.trySync s) ↔ KeepsSaf s0 s := by
  refine KeepsSaf.iff ?_
  unfold Machine.trySync
  simp
@[simp] theorem switchDone_keepsSaf (s0 : Device) (s : Device) : KeepsSaf s0 (Machine.switchDone s) ↔ KeepsSaf s0 s := by
  refine KeepsSaf.iff ?_
  unfold Machine.switchDone
  split <;> simp
@[simp] theorem heartbeatSend_keepsSaf (s0 : Device) (s : Device) : KeepsSaf s0 (Machine.heartbeatSend s) ↔ KeepsSaf s0 s := by
  refine KeepsSaf.iff ?_
  unfold Machine.heartbeatSend
  simp
@[simp] theorem hifStatusRead_keepsSaf (s0 : Device) (s : Device) : KeepsSaf s0 (Machine.hifStatusRead s) ↔ KeepsSaf s0 s := by
  refine KeepsSaf.iff ?_
  unfold Machine.hifStatusRead
  simp
@[simp] theorem holdDelay_keepsSaf (s0 : Device) (m : Nat) (s : Device) : KeepsSaf s0 (Machine.holdDelay m s) ↔ KeepsSaf s0 s := by
  refine KeepsSaf.iff ?_
  unfold Machine.holdDelay
  simp
@[simp] theorem queueHost_keepsSaf (s0 : Device) (p : Nat) (r : STime × Nat × List Byte) (s : Device) : KeepsSaf s0 (Machine.queueHost p r s) ↔ KeepsSaf s0 s := by
  refine KeepsSaf.iff ?_
  unfold Machine.queueHost
  split <;> simp
@[simp] theorem hostFrameQueue_keepsSaf (s0 : Device) (p : Nat) (s : Device) : KeepsSaf s0 (Machine.hostFrameQueue p s) ↔ KeepsSaf s0 s := by
  refine KeepsSaf.iff ?_
  unfold Machine.hostFrameQueue
  repeat' (first
    | with_reducible exact KeepsSaf.refl _
    | (simp; done)
    | (with_reducible refine KeepsSaf.ite ?_ ?_)
    | (with_reducible refine KeepsSaf.foldl _ _ _ ?_ ?_; intro u x)
    | (with_reducible refine KeepsSaf.checked _ _ _ _ ?_ ?_; intro p u)
    | (with_reducible refine (spireWrite_keepsSaf _ _ _ ?_).mpr ?_; intro u)
    | (with_reducible refine (domeWrite_keepsSaf _ _ _ ?_).mpr ?_; intro u)
    | (with_reducible refine (underRec_keepsSaf _ _ _ _ _ _ _ ?_).mpr ?_; intro b u)
    | (with_reducible refine (keepWrite_keepsSaf _ _ _ _ ?_).mpr ?_; intro u)
    | (split <;> (try (rename_i h; replace h := congrArg Prod.snd h; dsimp only at h; subst h)))
    | intro _
    | simp)
@[simp] theorem tapOut_keepsSaf (s0 : Device) (code : Nat) (value : Nat) (s : Device) : KeepsSaf s0 (Machine.tapOut code value s) ↔ KeepsSaf s0 s := by
  refine KeepsSaf.iff ?_
  unfold Machine.tapOut
  simp
@[simp] theorem tapIdcode_keepsSaf (s0 : Device) (s : Device) : KeepsSaf s0 (Machine.tapIdcode s) ↔ KeepsSaf s0 s := by
  refine KeepsSaf.iff ?_
  unfold Machine.tapIdcode
  simp
@[simp] theorem imageRestore_keepsSaf (s0 : Device) (ecc : Bool) (bad : List Nat) (rec_ : Option (Nat × Nat)) (s : Device) : KeepsSaf s0 (Machine.imageRestore ecc bad rec_ s) ↔ KeepsSaf s0 s := by
  refine KeepsSaf.iff ?_
  unfold Machine.imageRestore
  split <;> simp
@[simp] theorem coalesceTimeout_keepsSaf (s0 : Device) (v : Nat) (s : Device) : KeepsSaf s0 (Machine.coalesceTimeout v s) ↔ KeepsSaf s0 s := by
  refine KeepsSaf.iff ?_
  unfold Machine.coalesceTimeout
  simp
@[simp] theorem recordApply_keepsSaf (s0 : Device) (s : Device) : KeepsSaf s0 (Machine.recordApply s) ↔ KeepsSaf s0 s := by
  refine KeepsSaf.iff ?_
  unfold Machine.recordApply
  split <;> simp
@[simp] theorem keepScrubDone_keepsSaf (s0 : Device) (bad : List Nat) (s : Device) : KeepsSaf s0 (Machine.keepScrubDone bad s) ↔ KeepsSaf s0 s := by
  refine KeepsSaf.iff ?_
  unfold Machine.keepScrubDone
  split <;> simp
@[simp] theorem afterFiring_keepsSaf (s0 : Device) (slot : Nat) (s : Device) : KeepsSaf s0 (Machine.afterFiring slot s) ↔ KeepsSaf s0 s := by
  refine KeepsSaf.iff ?_
  unfold Machine.afterFiring
  repeat' (first
    | with_reducible exact KeepsSaf.refl _
    | (simp; done)
    | (with_reducible refine KeepsSaf.ite ?_ ?_)
    | (with_reducible refine KeepsSaf.foldl _ _ _ ?_ ?_; intro u x)
    | (with_reducible refine KeepsSaf.checked _ _ _ _ ?_ ?_; intro p u)
    | (with_reducible refine (spireWrite_keepsSaf _ _ _ ?_).mpr ?_; intro u)
    | (with_reducible refine (domeWrite_keepsSaf _ _ _ ?_).mpr ?_; intro u)
    | (with_reducible refine (underRec_keepsSaf _ _ _ _ _ _ _ ?_).mpr ?_; intro b u)
    | (with_reducible refine (keepWrite_keepsSaf _ _ _ _ ?_).mpr ?_; intro u)
    | (split <;> (try (rename_i h; replace h := congrArg Prod.snd h; dsimp only at h; subst h)))
    | intro _
    | simp)
@[simp] theorem dropLane_keepsSaf (s0 : Device) (l : Nat) (s : Device) : KeepsSaf s0 (Machine.dropLane l s) ↔ KeepsSaf s0 s := by
  refine KeepsSaf.iff ?_
  unfold Machine.dropLane
  simp
@[simp] theorem laneErrorNoted_keepsSaf (s0 : Device) (l : Nat) (check : Nat) (f : Firing) (s : Device) : KeepsSaf s0 (Machine.laneErrorNoted l check f s) ↔ KeepsSaf s0 s := by
  refine KeepsSaf.iff ?_
  unfold Machine.laneErrorNoted
  simp
@[simp] theorem reissueFlight_keepsSaf (s0 : Device) (l : Nat) (f : Firing) (s : Device) : KeepsSaf s0 (Machine.reissueFlight l f s) ↔ KeepsSaf s0 s := by
  refine KeepsSaf.iff ?_
  unfold Machine.reissueFlight
  split <;> simp
@[simp] theorem traceAbandon_keepsSaf (s0 : Device) (loop : Nat) (s : Device) : KeepsSaf s0 (Machine.traceAbandon loop s) ↔ KeepsSaf s0 s := by
  refine KeepsSaf.iff ?_
  unfold Machine.traceAbandon
  simp
@[simp] theorem laneError_keepsSaf (s0 : Device) (l : Nat) (check : Nat) (s : Device) : KeepsSaf s0 (Machine.laneError l check s) ↔ KeepsSaf s0 s := by
  refine KeepsSaf.iff ?_
  unfold Machine.laneError
  split <;> simp
@[simp] theorem openWindow_keepsSaf (s0 : Device) (r : LtnIn) (avgUs : Nat) (s : Device) : KeepsSaf s0 (Machine.openWindow r avgUs s) ↔ KeepsSaf s0 s := by
  refine KeepsSaf.iff ?_
  unfold Machine.openWindow
  simp
@[simp] theorem averageRecord_keepsSaf (s0 : Device) (r : LtnIn) (avgUs : Nat) (s : Device) : KeepsSaf s0 (Machine.averageRecord r avgUs s) ↔ KeepsSaf s0 s := by
  refine KeepsSaf.iff ?_
  unfold Machine.averageRecord
  split <;> simp
@[simp] theorem lanternRecord_keepsSaf (s0 : Device) (s : Device) : KeepsSaf s0 (Machine.lanternRecord s) ↔ KeepsSaf s0 s := by
  refine KeepsSaf.iff ?_
  unfold Machine.lanternRecord
  repeat' (first
    | with_reducible exact KeepsSaf.refl _
    | (simp; done)
    | (with_reducible refine KeepsSaf.ite ?_ ?_)
    | (with_reducible refine KeepsSaf.foldl _ _ _ ?_ ?_; intro u x)
    | (with_reducible refine KeepsSaf.checked _ _ _ _ ?_ ?_; intro p u)
    | (with_reducible refine (spireWrite_keepsSaf _ _ _ ?_).mpr ?_; intro u)
    | (with_reducible refine (domeWrite_keepsSaf _ _ _ ?_).mpr ?_; intro u)
    | (with_reducible refine (underRec_keepsSaf _ _ _ _ _ _ _ ?_).mpr ?_; intro b u)
    | (with_reducible refine (keepWrite_keepsSaf _ _ _ _ ?_).mpr ?_; intro u)
    | (split <;> (try (rename_i h; replace h := congrArg Prod.snd h; dsimp only at h; subst h)))
    | intro _
    | simp)
@[simp] theorem limitPinChange_keepsSaf (s0 : Device) (a : Nat) (pos : Bool) (s : Device) : KeepsSaf s0 (Machine.limitPinChange a pos s) ↔ KeepsSaf s0 s := by
  refine KeepsSaf.iff ?_
  unfold Machine.limitPinChange
  simp
@[simp] theorem limitQualify_keepsSaf (s0 : Device) (a : Nat) (pos : Bool) (s : Device) : KeepsSaf s0 (Machine.limitQualify a pos s) ↔ KeepsSaf s0 s := by
  refine KeepsSaf.iff ?_
  unfold Machine.limitQualify
  split <;> simp
@[simp] theorem linkIdle_keepsSaf (s0 : Device) (s : Device) : KeepsSaf s0 (Machine.linkIdle s) ↔ KeepsSaf s0 s := by
  refine KeepsSaf.iff ?_
  unfold Machine.linkIdle
  simp
@[simp] theorem tapChallenge_keepsSaf (s0 : Device) (s : Device) : KeepsSaf s0 (Machine.tapChallenge s) ↔ KeepsSaf s0 s := by
  refine KeepsSaf.iff ?_
  unfold Machine.tapChallenge
  simp
@[simp] theorem tapResponse_keepsSaf (s0 : Device) (b : List Byte) (s : Device) : KeepsSaf s0 (Machine.tapResponse b s) ↔ KeepsSaf s0 s := by
  refine KeepsSaf.iff ?_
  unfold Machine.tapResponse
  simp
@[simp] theorem tapStatus_keepsSaf (s0 : Device) (s : Device) : KeepsSaf s0 (Machine.tapStatus s) ↔ KeepsSaf s0 s := by
  refine KeepsSaf.iff ?_
  unfold Machine.tapStatus
  simp
@[simp] theorem lockoutExpiry_keepsSaf (s0 : Device) (s : Device) : KeepsSaf s0 (Machine.lockoutExpiry s) ↔ KeepsSaf s0 s := by
  refine KeepsSaf.iff ?_
  unfold Machine.lockoutExpiry
  simp
@[simp] theorem emitToken_keepsSaf (s0 : Device) (o : OutItem) (loop : Nat) (t : Token) (s : Device) : KeepsSaf s0 (Machine.emitToken o loop t s) ↔ KeepsSaf s0 s := by
  refine KeepsSaf.iff ?_
  unfold Machine.emitToken
  simp
@[simp] theorem cutWord_keepsSaf (s0 : Device) (o : OutItem) (s : Device) : KeepsSaf s0 (Machine.cutWord o s) ↔ KeepsSaf s0 s := by
  refine KeepsSaf.iff ?_
  unfold Machine.cutWord
  split <;> simp
@[simp] theorem stationWrite_keepsSaf (s0 : Device) (o : OutItem) (s : Device) : KeepsSaf s0 (Machine.stationWrite o s) ↔ KeepsSaf s0 s := by
  refine KeepsSaf.iff ?_
  unfold Machine.stationWrite
  repeat' (first
    | with_reducible exact KeepsSaf.refl _
    | (simp; done)
    | (with_reducible refine KeepsSaf.ite ?_ ?_)
    | (with_reducible refine KeepsSaf.foldl _ _ _ ?_ ?_; intro u x)
    | (with_reducible refine KeepsSaf.checked _ _ _ _ ?_ ?_; intro p u)
    | (with_reducible refine (spireWrite_keepsSaf _ _ _ ?_).mpr ?_; intro u)
    | (with_reducible refine (domeWrite_keepsSaf _ _ _ ?_).mpr ?_; intro u)
    | (with_reducible refine (underRec_keepsSaf _ _ _ _ _ _ _ ?_).mpr ?_; intro b u)
    | (with_reducible refine (keepWrite_keepsSaf _ _ _ _ ?_).mpr ?_; intro u)
    | (split <;> (try (rename_i h; replace h := congrArg Prod.snd h; dsimp only at h; subst h)))
    | intro _
    | simp)
@[simp] theorem sendOutput_keepsSaf (s0 : Device) (o : OutItem) (s : Device) : KeepsSaf s0 (Machine.sendOutput o s) ↔ KeepsSaf s0 s := by
  refine KeepsSaf.iff ?_
  unfold Machine.sendOutput
  simp
@[simp] theorem emitLoop_keepsSaf (s0 : Device) (loop : Nat) (bf : Bool) (kind : Nat) (index : Nat) (first : Bool) (code : Int) (t : STime) (ver : Nat) (s : Device) : KeepsSaf s0 (Machine.emitLoop loop bf kind index first code t ver s) ↔ KeepsSaf s0 s := by
  refine KeepsSaf.iff ?_
  unfold Machine.emitLoop
  split <;> simp
@[simp] theorem loopEvents_keepsSaf (s0 : Device) (n : Nat) (run : Run) (cause : Nat) (mask : Nat) (old : LoopSt) (st : LoopSt) (l : Law) (fx : Fx) (c : LoopCfg) (s : Device) : KeepsSaf s0 (Machine.loopEvents n run cause mask old st l fx c s) ↔ KeepsSaf s0 s := by
  refine KeepsSaf.iff ?_
  unfold Machine.loopEvents
  repeat' split
  all_goals simp
@[simp] theorem recordNodes_keepsSaf (s0 : Device) (n : Nat) (f : Firing) (mask : Nat) (nodes : List Word) (s : Device) : KeepsSaf s0 (Machine.recordNodes n f mask nodes s) ↔ KeepsSaf s0 s := by
  refine KeepsSaf.iff ?_
  unfold Machine.recordNodes
  simp
@[simp] theorem traceWatch_keepsSaf (s0 : Device) (ev : Eval) (s : Device) (first : Nat) : KeepsSaf s0 (Machine.traceWatch ev s first) ↔ KeepsSaf s0 s := by
  refine KeepsSaf.iff ?_
  unfold Machine.traceWatch
  repeat' split
  all_goals simp
@[simp] theorem traceWrite_keepsSaf (s0 : Device) (ev : Eval) (s : Device) (first : Nat) : KeepsSaf s0 (Machine.traceWrite ev s first) ↔ KeepsSaf s0 s := by
  refine KeepsSaf.iff ?_
  unfold Machine.traceWrite
  split <;> simp
@[simp] theorem traceEval_keepsSaf (s0 : Device) (ev : Eval) (s : Device) : KeepsSaf s0 (Machine.traceEval ev s) ↔ KeepsSaf s0 s := by
  refine KeepsSaf.iff ?_
  unfold Machine.traceEval
  simp
@[simp] theorem applyLaw_keepsSaf (s0 : Device) (n : Nat) (lane : Nat) (f : Firing) (c : LoopCfg) (run : Run) (cur : LoopSt) (l : Law) (fx : Fx) (hold : Bool) (s : Device) : KeepsSaf s0 (Machine.applyLaw n lane f c run cur l fx hold s) ↔ KeepsSaf s0 s := by
  refine KeepsSaf.iff ?_
  unfold Machine.applyLaw
  simp
@[simp] theorem completeLane_keepsSaf (s0 : Device) (lane : Nat) (s : Device) : KeepsSaf s0 (Machine.completeLane lane s) ↔ KeepsSaf s0 s := by
  refine KeepsSaf.iff ?_
  unfold Machine.completeLane
  split <;> simp
@[simp] theorem evalLane_keepsSaf (s0 : Device) (lane : Nat) (held : LoopCfg → Device → Option Int) (s : Device) : KeepsSaf s0 (Machine.evalLane lane held s) ↔ KeepsSaf s0 s := by
  refine KeepsSaf.iff ?_
  unfold Machine.evalLane
  repeat' (first
    | with_reducible exact KeepsSaf.refl _
    | (simp; done)
    | (with_reducible refine KeepsSaf.ite ?_ ?_)
    | (with_reducible refine KeepsSaf.foldl _ _ _ ?_ ?_; intro u x)
    | (with_reducible refine KeepsSaf.checked _ _ _ _ ?_ ?_; intro p u)
    | (with_reducible refine (spireWrite_keepsSaf _ _ _ ?_).mpr ?_; intro u)
    | (with_reducible refine (domeWrite_keepsSaf _ _ _ ?_).mpr ?_; intro u)
    | (with_reducible refine (underRec_keepsSaf _ _ _ _ _ _ _ ?_).mpr ?_; intro b u)
    | (with_reducible refine (keepWrite_keepsSaf _ _ _ _ ?_).mpr ?_; intro u)
    | (split <;> (try (rename_i h; replace h := congrArg Prod.snd h; dsimp only at h; subst h)))
    | intro _
    | simp)
@[simp] theorem loopEvaluation_keepsSaf (s0 : Device) (lane : Nat) (s : Device) : KeepsSaf s0 (Machine.loopEvaluation lane s) ↔ KeepsSaf s0 s := by
  refine KeepsSaf.iff ?_
  unfold Machine.loopEvaluation
  split <;> simp
@[simp] theorem masterSync_keepsSaf (s0 : Device) (d : Nat) (s : Device) : KeepsSaf s0 (Machine.masterSync d s) ↔ KeepsSaf s0 s := by
  refine KeepsSaf.iff ?_
  unfold Machine.masterSync
  simp
@[simp] theorem codeError_keepsSaf (s0 : Device) (n : Nat) (s : Device) : KeepsSaf s0 (Machine.codeError n s) ↔ KeepsSaf s0 s := by
  refine KeepsSaf.iff ?_
  unfold Machine.codeError
  repeat' (first
    | with_reducible exact KeepsSaf.refl _
    | (simp; done)
    | (with_reducible refine KeepsSaf.ite ?_ ?_)
    | (with_reducible refine KeepsSaf.foldl _ _ _ ?_ ?_; intro u x)
    | (with_reducible refine KeepsSaf.checked _ _ _ _ ?_ ?_; intro p u)
    | (with_reducible refine (spireWrite_keepsSaf _ _ _ ?_).mpr ?_; intro u)
    | (with_reducible refine (domeWrite_keepsSaf _ _ _ ?_).mpr ?_; intro u)
    | (with_reducible refine (underRec_keepsSaf _ _ _ _ _ _ _ ?_).mpr ?_; intro b u)
    | (with_reducible refine (keepWrite_keepsSaf _ _ _ _ ?_).mpr ?_; intro u)
    | (split <;> (try (rename_i h; replace h := congrArg Prod.snd h; dsimp only at h; subst h)))
    | intro _
    | simp)
@[simp] theorem memUe_keepsSaf (s0 : Device) (region : Nat) (addr : Nat) (window : Nat) (segment : Nat) (off : Nat) (prog : Nat) (s : Device) : KeepsSaf s0 (Machine.memUe region addr window segment off prog s) ↔ KeepsSaf s0 s := by
  refine KeepsSaf.iff ?_
  unfold Machine.memUe
  repeat' split
  all_goals simp
@[simp] theorem advanceAxis_keepsSaf (s0 : Device) (a : Nat) (b : List Byte) (t : STime) (s : Device) : KeepsSaf s0 (Machine.advanceAxis a b t s) ↔ KeepsSaf s0 s := by
  refine KeepsSaf.iff ?_
  unfold Machine.advanceAxis
  repeat' (first
    | with_reducible exact KeepsSaf.refl _
    | (simp; done)
    | (with_reducible refine KeepsSaf.ite ?_ ?_)
    | (with_reducible refine KeepsSaf.foldl _ _ _ ?_ ?_; intro u x)
    | (with_reducible refine KeepsSaf.checked _ _ _ _ ?_ ?_; intro p u)
    | (with_reducible refine (spireWrite_keepsSaf _ _ _ ?_).mpr ?_; intro u)
    | (with_reducible refine (domeWrite_keepsSaf _ _ _ ?_).mpr ?_; intro u)
    | (with_reducible refine (underRec_keepsSaf _ _ _ _ _ _ _ ?_).mpr ?_; intro b u)
    | (with_reducible refine (keepWrite_keepsSaf _ _ _ _ ?_).mpr ?_; intro u)
    | (split <;> (try (rename_i h; replace h := congrArg Prod.snd h; dsimp only at h; subst h)))
    | intro _
    | simp)
@[simp] theorem clearLatch_keepsSaf (s0 : Device) (a : Nat) (b : List Byte) (pos : Bool) (s : Device) : KeepsSaf s0 (Machine.clearLatch a b pos s) ↔ KeepsSaf s0 s := by
  refine KeepsSaf.iff ?_
  unfold Machine.clearLatch
  repeat' (first
    | with_reducible exact KeepsSaf.refl _
    | (simp; done)
    | (with_reducible refine KeepsSaf.ite ?_ ?_)
    | (with_reducible refine KeepsSaf.foldl _ _ _ ?_ ?_; intro u x)
    | (with_reducible refine KeepsSaf.checked _ _ _ _ ?_ ?_; intro p u)
    | (with_reducible refine (spireWrite_keepsSaf _ _ _ ?_).mpr ?_; intro u)
    | (with_reducible refine (domeWrite_keepsSaf _ _ _ ?_).mpr ?_; intro u)
    | (with_reducible refine (underRec_keepsSaf _ _ _ _ _ _ _ ?_).mpr ?_; intro b u)
    | (with_reducible refine (keepWrite_keepsSaf _ _ _ _ ?_).mpr ?_; intro u)
    | (split <;> (try (rename_i h; replace h := congrArg Prod.snd h; dsimp only at h; subst h)))
    | intro _
    | simp)
@[simp] theorem emitAxis_keepsSaf (s0 : Device) (a : Nat) (b : List Byte) (t : STime) (ver : Nat) (s : Device) : KeepsSaf s0 (Machine.emitAxis a b t ver s) ↔ KeepsSaf s0 s := by
  refine KeepsSaf.iff ?_
  unfold Machine.emitAxis
  split <;> simp
@[simp] theorem estopAxis_keepsSaf (s0 : Device) (a : Nat) (b : List Byte) (t : STime) (s : Device) : KeepsSaf s0 (Machine.estopAxis a b t s) ↔ KeepsSaf s0 s := by
  refine KeepsSaf.iff ?_
  unfold Machine.estopAxis
  simp
@[simp] theorem enableAxis_keepsSaf (s0 : Device) (a : Nat) (b : List Byte) (t : STime) (s : Device) : KeepsSaf s0 (Machine.enableAxis a b t s) ↔ KeepsSaf s0 s := by
  refine KeepsSaf.iff ?_
  unfold Machine.enableAxis
  simp
@[simp] theorem endOfPlan_keepsSaf (s0 : Device) (a : Nat) (b : List Byte) (t : STime) (s : Device) : KeepsSaf s0 (Machine.endOfPlan a b t s) ↔ KeepsSaf s0 s := by
  refine KeepsSaf.iff ?_
  unfold Machine.endOfPlan
  repeat' (first
    | with_reducible exact KeepsSaf.refl _
    | (simp; done)
    | (with_reducible refine KeepsSaf.ite ?_ ?_)
    | (with_reducible refine KeepsSaf.foldl _ _ _ ?_ ?_; intro u x)
    | (with_reducible refine KeepsSaf.checked _ _ _ _ ?_ ?_; intro p u)
    | (with_reducible refine (spireWrite_keepsSaf _ _ _ ?_).mpr ?_; intro u)
    | (with_reducible refine (domeWrite_keepsSaf _ _ _ ?_).mpr ?_; intro u)
    | (with_reducible refine (underRec_keepsSaf _ _ _ _ _ _ _ ?_).mpr ?_; intro b u)
    | (with_reducible refine (keepWrite_keepsSaf _ _ _ _ ?_).mpr ?_; intro u)
    | (split <;> (try (rename_i h; replace h := congrArg Prod.snd h; dsimp only at h; subst h)))
    | intro _
    | simp)
@[simp] theorem followAxis_keepsSaf (s0 : Device) (a : Nat) (b : List Byte) (t : STime) (v : Int) (sp : Int) (s : Device) : KeepsSaf s0 (Machine.followAxis a b t v sp s) ↔ KeepsSaf s0 s := by
  refine KeepsSaf.iff ?_
  unfold Machine.followAxis
  simp
@[simp] theorem feedbackAxis_keepsSaf (s0 : Device) (a : Nat) (b : List Byte) (t : STime) (op : Option OpIn) (s : Device) : KeepsSaf s0 (Machine.feedbackAxis a b t op s) ↔ KeepsSaf s0 s := by
  refine KeepsSaf.iff ?_
  unfold Machine.feedbackAxis
  repeat' (first
    | with_reducible exact KeepsSaf.refl _
    | (simp; done)
    | (with_reducible refine KeepsSaf.ite ?_ ?_)
    | (with_reducible refine KeepsSaf.foldl _ _ _ ?_ ?_; intro u x)
    | (with_reducible refine KeepsSaf.checked _ _ _ _ ?_ ?_; intro p u)
    | (with_reducible refine (spireWrite_keepsSaf _ _ _ ?_).mpr ?_; intro u)
    | (with_reducible refine (domeWrite_keepsSaf _ _ _ ?_).mpr ?_; intro u)
    | (with_reducible refine (underRec_keepsSaf _ _ _ _ _ _ _ ?_).mpr ?_; intro b u)
    | (with_reducible refine (keepWrite_keepsSaf _ _ _ _ ?_).mpr ?_; intro u)
    | (split <;> (try (rename_i h; replace h := congrArg Prod.snd h; dsimp only at h; subst h)))
    | intro _
    | simp)
@[simp] theorem homeFound_keepsSaf (s0 : Device) (a : Nat) (b : List Byte) (t : STime) (p : F64) (k : Kin) (s : Device) : KeepsSaf s0 (Machine.homeFound a b t p k s) ↔ KeepsSaf s0 s := by
  refine KeepsSaf.iff ?_
  unfold Machine.homeFound
  simp
@[simp] theorem latchLimit_keepsSaf (s0 : Device) (a : Nat) (b : List Byte) (t : STime) (pos : Bool) (s : Device) : KeepsSaf s0 (Machine.latchLimit a b t pos s) ↔ KeepsSaf s0 s := by
  refine KeepsSaf.iff ?_
  unfold Machine.latchLimit
  repeat' (first
    | with_reducible exact KeepsSaf.refl _
    | (simp; done)
    | (with_reducible refine KeepsSaf.ite ?_ ?_)
    | (with_reducible refine KeepsSaf.foldl _ _ _ ?_ ?_; intro u x)
    | (with_reducible refine KeepsSaf.checked _ _ _ _ ?_ ?_; intro p u)
    | (with_reducible refine (spireWrite_keepsSaf _ _ _ ?_).mpr ?_; intro u)
    | (with_reducible refine (domeWrite_keepsSaf _ _ _ ?_).mpr ?_; intro u)
    | (with_reducible refine (underRec_keepsSaf _ _ _ _ _ _ _ ?_).mpr ?_; intro b u)
    | (with_reducible refine (keepWrite_keepsSaf _ _ _ _ ?_).mpr ?_; intro u)
    | (split <;> (try (rename_i h; replace h := congrArg Prod.snd h; dsimp only at h; subst h)))
    | intro _
    | simp)
@[simp] theorem holdTarget_keepsSaf (s0 : Device) (a : Nat) (v : Int) (clamped : Int) (s : Device) : KeepsSaf s0 (Machine.holdTarget a v clamped s) ↔ KeepsSaf s0 s := by
  refine KeepsSaf.iff ?_
  unfold Machine.holdTarget
  simp
@[simp] theorem reclamp_keepsSaf (s0 : Device) (a : Nat) (b : List Byte) (s : Device) : KeepsSaf s0 (Machine.reclamp a b s) ↔ KeepsSaf s0 s := by
  refine KeepsSaf.iff ?_
  unfold Machine.reclamp
  repeat' (first
    | with_reducible exact KeepsSaf.refl _
    | (simp; done)
    | (with_reducible refine KeepsSaf.ite ?_ ?_)
    | (with_reducible refine KeepsSaf.foldl _ _ _ ?_ ?_; intro u x)
    | (with_reducible refine KeepsSaf.checked _ _ _ _ ?_ ?_; intro p u)
    | (with_reducible refine (spireWrite_keepsSaf _ _ _ ?_).mpr ?_; intro u)
    | (with_reducible refine (domeWrite_keepsSaf _ _ _ ?_).mpr ?_; intro u)
    | (with_reducible refine (underRec_keepsSaf _ _ _ _ _ _ _ ?_).mpr ?_; intro b u)
    | (with_reducible refine (keepWrite_keepsSaf _ _ _ _ ?_).mpr ?_; intro u)
    | (split <;> (try (rename_i h; replace h := congrArg Prod.snd h; dsimp only at h; subst h)))
    | intro _
    | simp)
@[simp] theorem replanMove_keepsSaf (s0 : Device) (a : Nat) (b : List Byte) (t : STime) (changed : Bool) (s : Device) : KeepsSaf s0 (Machine.replanMove a b t changed s) ↔ KeepsSaf s0 s := by
  refine KeepsSaf.iff ?_
  unfold Machine.replanMove
  repeat' (first
    | with_reducible exact KeepsSaf.refl _
    | (simp; done)
    | (with_reducible refine KeepsSaf.ite ?_ ?_)
    | (with_reducible refine KeepsSaf.foldl _ _ _ ?_ ?_; intro u x)
    | (with_reducible refine KeepsSaf.checked _ _ _ _ ?_ ?_; intro p u)
    | (with_reducible refine (spireWrite_keepsSaf _ _ _ ?_).mpr ?_; intro u)
    | (with_reducible refine (domeWrite_keepsSaf _ _ _ ?_).mpr ?_; intro u)
    | (with_reducible refine (underRec_keepsSaf _ _ _ _ _ _ _ ?_).mpr ?_; intro b u)
    | (with_reducible refine (keepWrite_keepsSaf _ _ _ _ ?_).mpr ?_; intro u)
    | (split <;> (try (rename_i h; replace h := congrArg Prod.snd h; dsimp only at h; subst h)))
    | intro _
    | simp)
@[simp] theorem replanAxis_keepsSaf (s0 : Device) (a : Nat) (b : List Byte) (t : STime) (s : Device) : KeepsSaf s0 (Machine.replanAxis a b t s) ↔ KeepsSaf s0 s := by
  refine KeepsSaf.iff ?_
  unfold Machine.replanAxis
  repeat' (first
    | with_reducible exact KeepsSaf.refl _
    | (simp; done)
    | (with_reducible refine KeepsSaf.ite ?_ ?_)
    | (with_reducible refine KeepsSaf.foldl _ _ _ ?_ ?_; intro u x)
    | (with_reducible refine KeepsSaf.checked _ _ _ _ ?_ ?_; intro p u)
    | (with_reducible refine (spireWrite_keepsSaf _ _ _ ?_).mpr ?_; intro u)
    | (with_reducible refine (domeWrite_keepsSaf _ _ _ ?_).mpr ?_; intro u)
    | (with_reducible refine (underRec_keepsSaf _ _ _ _ _ _ _ ?_).mpr ?_; intro b u)
    | (with_reducible refine (keepWrite_keepsSaf _ _ _ _ ?_).mpr ?_; intro u)
    | (split <;> (try (rename_i h; replace h := congrArg Prod.snd h; dsimp only at h; subst h)))
    | intro _
    | simp)
@[simp] theorem stallAxis_keepsSaf (s0 : Device) (a : Nat) (b : List Byte) (t : STime) (s : Device) : KeepsSaf s0 (Machine.stallAxis a b t s) ↔ KeepsSaf s0 s := by
  refine KeepsSaf.iff ?_
  unfold Machine.stallAxis
  repeat' (first
    | with_reducible exact KeepsSaf.refl _
    | (simp; done)
    | (with_reducible refine KeepsSaf.ite ?_ ?_)
    | (with_reducible refine KeepsSaf.foldl _ _ _ ?_ ?_; intro u x)
    | (with_reducible refine KeepsSaf.checked _ _ _ _ ?_ ?_; intro p u)
    | (with_reducible refine (spireWrite_keepsSaf _ _ _ ?_).mpr ?_; intro u)
    | (with_reducible refine (domeWrite_keepsSaf _ _ _ ?_).mpr ?_; intro u)
    | (with_reducible refine (underRec_keepsSaf _ _ _ _ _ _ _ ?_).mpr ?_; intro b u)
    | (with_reducible refine (keepWrite_keepsSaf _ _ _ _ ?_).mpr ?_; intro u)
    | (split <;> (try (rename_i h; replace h := congrArg Prod.snd h; dsimp only at h; subst h)))
    | intro _
    | simp)
@[simp] theorem stopAxis_keepsSaf (s0 : Device) (a : Nat) (b : List Byte) (t : STime) (s : Device) : KeepsSaf s0 (Machine.stopAxis a b t s) ↔ KeepsSaf s0 s := by
  refine KeepsSaf.iff ?_
  unfold Machine.stopAxis
  repeat' (first
    | with_reducible exact KeepsSaf.refl _
    | (simp; done)
    | (with_reducible refine KeepsSaf.ite ?_ ?_)
    | (with_reducible refine KeepsSaf.foldl _ _ _ ?_ ?_; intro u x)
    | (with_reducible refine KeepsSaf.checked _ _ _ _ ?_ ?_; intro p u)
    | (with_reducible refine (spireWrite_keepsSaf _ _ _ ?_).mpr ?_; intro u)
    | (with_reducible refine (domeWrite_keepsSaf _ _ _ ?_).mpr ?_; intro u)
    | (with_reducible refine (underRec_keepsSaf _ _ _ _ _ _ _ ?_).mpr ?_; intro b u)
    | (with_reducible refine (keepWrite_keepsSaf _ _ _ _ ?_).mpr ?_; intro u)
    | (split <;> (try (rename_i h; replace h := congrArg Prod.snd h; dsimp only at h; subst h)))
    | intro _
    | simp)
@[simp] theorem takeTarget_keepsSaf (s0 : Device) (a : Nat) (b : List Byte) (v : Int) (at_ : STime) (s : Device) : KeepsSaf s0 (Machine.takeTarget a b v at_ s) ↔ KeepsSaf s0 s := by
  refine KeepsSaf.iff ?_
  unfold Machine.takeTarget
  simp
@[simp] theorem targetAxis_keepsSaf (s0 : Device) (a : Nat) (b : List Byte) (op : Option OpIn) (s : Device) : KeepsSaf s0 (Machine.targetAxis a b op s) ↔ KeepsSaf s0 s := by
  refine KeepsSaf.iff ?_
  unfold Machine.targetAxis
  split <;> simp
@[simp] theorem motionFiring_keepsSaf (s0 : Device) (s : Device) : KeepsSaf s0 (Machine.motionFiring s) ↔ KeepsSaf s0 s := by
  refine KeepsSaf.iff ?_
  unfold Machine.motionFiring
  repeat' (first
    | with_reducible exact KeepsSaf.refl _
    | (simp; done)
    | (with_reducible refine KeepsSaf.ite ?_ ?_)
    | (with_reducible refine KeepsSaf.foldl _ _ _ ?_ ?_; intro u x)
    | (with_reducible refine KeepsSaf.checked _ _ _ _ ?_ ?_; intro p u)
    | (with_reducible refine (spireWrite_keepsSaf _ _ _ ?_).mpr ?_; intro u)
    | (with_reducible refine (domeWrite_keepsSaf _ _ _ ?_).mpr ?_; intro u)
    | (with_reducible refine (underRec_keepsSaf _ _ _ _ _ _ _ ?_).mpr ?_; intro b u)
    | (with_reducible refine (keepWrite_keepsSaf _ _ _ _ ?_).mpr ?_; intro u)
    | (split <;> (try (rename_i h; replace h := congrArg Prod.snd h; dsimp only at h; subst h)))
    | intro _
    | simp)
@[simp] theorem msixUnmask_keepsSaf (s0 : Device) (v : Nat) (s : Device) : KeepsSaf s0 (Machine.msixUnmask v s) ↔ KeepsSaf s0 s := by
  refine KeepsSaf.iff ?_
  unfold Machine.msixUnmask
  simp
@[simp] theorem nonceExpiry_keepsSaf (s0 : Device) (s : Device) : KeepsSaf s0 (Machine.nonceExpiry s) ↔ KeepsSaf s0 s := by
  refine KeepsSaf.iff ?_
  unfold Machine.nonceExpiry
  simp
@[simp] theorem paramTimeout_keepsSaf (s0 : Device) (st : Nat) (s : Device) : KeepsSaf s0 (Machine.paramTimeout st s) ↔ KeepsSaf s0 s := by
  refine KeepsSaf.iff ?_
  unfold Machine.paramTimeout
  split <;> simp
@[simp] theorem probeTimer_keepsSaf (s0 : Device) (st : Nat) (s : Device) : KeepsSaf s0 (Machine.probeTimer st s) ↔ KeepsSaf s0 s := by
  refine KeepsSaf.iff ?_
  unfold Machine.probeTimer
  simp
@[simp] theorem requestBuild_keepsSaf (s0 : Device) (st : Nat) (s : Device) : KeepsSaf s0 (Machine.requestBuild st s) ↔ KeepsSaf s0 s := by
  refine KeepsSaf.iff ?_
  unfold Machine.requestBuild
  repeat' (first
    | with_reducible exact KeepsSaf.refl _
    | (simp; done)
    | (with_reducible refine KeepsSaf.ite ?_ ?_)
    | (with_reducible refine KeepsSaf.foldl _ _ _ ?_ ?_; intro u x)
    | (with_reducible refine KeepsSaf.checked _ _ _ _ ?_ ?_; intro p u)
    | (with_reducible refine (spireWrite_keepsSaf _ _ _ ?_).mpr ?_; intro u)
    | (with_reducible refine (domeWrite_keepsSaf _ _ _ ?_).mpr ?_; intro u)
    | (with_reducible refine (underRec_keepsSaf _ _ _ _ _ _ _ ?_).mpr ?_; intro b u)
    | (with_reducible refine (keepWrite_keepsSaf _ _ _ _ ?_).mpr ?_; intro u)
    | (split <;> (try (rename_i h; replace h := congrArg Prod.snd h; dsimp only at h; subst h)))
    | intro _
    | simp)
@[simp] theorem delayCheck_keepsSaf (s0 : Device) (st : Nat) (lan : Nat) (f : RxFrame) (sent : STime) (s : Device) : KeepsSaf s0 (Machine.delayCheck st lan f sent s) ↔ KeepsSaf s0 s := by
  refine KeepsSaf.iff ?_
  unfold Machine.delayCheck
  simp
@[simp] theorem nzLive_keepsSaf (s0 : Device) (st : Nat) (t : STime) (s : Device) : KeepsSaf s0 (Machine.nzLive st t s) ↔ KeepsSaf s0 s := by
  refine KeepsSaf.iff ?_
  unfold Machine.nzLive
  simp
@[simp] theorem nzTokens_keepsSaf (s0 : Device) (st : Nat) (m : Nat) (t : STime) (s : Device) : KeepsSaf s0 (Machine.nzTokens st m t s) ↔ KeepsSaf s0 s := by
  refine KeepsSaf.iff ?_
  unfold Machine.nzTokens
  repeat' (first
    | with_reducible exact KeepsSaf.refl _
    | (simp; done)
    | (with_reducible refine KeepsSaf.ite ?_ ?_)
    | (with_reducible refine KeepsSaf.foldl _ _ _ ?_ ?_; intro u x)
    | (with_reducible refine KeepsSaf.checked _ _ _ _ ?_ ?_; intro p u)
    | (with_reducible refine (spireWrite_keepsSaf _ _ _ ?_).mpr ?_; intro u)
    | (with_reducible refine (domeWrite_keepsSaf _ _ _ ?_).mpr ?_; intro u)
    | (with_reducible refine (underRec_keepsSaf _ _ _ _ _ _ _ ?_).mpr ?_; intro b u)
    | (with_reducible refine (keepWrite_keepsSaf _ _ _ _ ?_).mpr ?_; intro u)
    | (split <;> (try (rename_i h; replace h := congrArg Prod.snd h; dsimp only at h; subst h)))
    | intro _
    | simp)
@[simp] theorem useResponse_keepsSaf (s0 : Device) (st : Nat) (c : NzCycle) (f : RxFrame) (s : Device) : KeepsSaf s0 (Machine.useResponse st c f s) ↔ KeepsSaf s0 s := by
  refine KeepsSaf.iff ?_
  unfold Machine.useResponse
  repeat' (first
    | with_reducible exact KeepsSaf.refl _
    | (simp; done)
    | (with_reducible refine KeepsSaf.ite ?_ ?_)
    | (with_reducible refine KeepsSaf.foldl _ _ _ ?_ ?_; intro u x)
    | (with_reducible refine KeepsSaf.checked _ _ _ _ ?_ ?_; intro p u)
    | (with_reducible refine (spireWrite_keepsSaf _ _ _ ?_).mpr ?_; intro u)
    | (with_reducible refine (domeWrite_keepsSaf _ _ _ ?_).mpr ?_; intro u)
    | (with_reducible refine (underRec_keepsSaf _ _ _ _ _ _ _ ?_).mpr ?_; intro b u)
    | (with_reducible refine (keepWrite_keepsSaf _ _ _ _ ?_).mpr ?_; intro u)
    | (split <;> (try (rename_i h; replace h := congrArg Prod.snd h; dsimp only at h; subst h)))
    | intro _
    | simp)
@[simp] theorem nzResponse_keepsSaf (s0 : Device) (st : Nat) (s : Device) : KeepsSaf s0 (Machine.nzResponse st s) ↔ KeepsSaf s0 s := by
  refine KeepsSaf.iff ?_
  unfold Machine.nzResponse
  repeat' (first
    | with_reducible exact KeepsSaf.refl _
    | (simp; done)
    | (with_reducible refine KeepsSaf.ite ?_ ?_)
    | (with_reducible refine KeepsSaf.foldl _ _ _ ?_ ?_; intro u x)
    | (with_reducible refine KeepsSaf.checked _ _ _ _ ?_ ?_; intro p u)
    | (with_reducible refine (spireWrite_keepsSaf _ _ _ ?_).mpr ?_; intro u)
    | (with_reducible refine (domeWrite_keepsSaf _ _ _ ?_).mpr ?_; intro u)
    | (with_reducible refine (underRec_keepsSaf _ _ _ _ _ _ _ ?_).mpr ?_; intro b u)
    | (with_reducible refine (keepWrite_keepsSaf _ _ _ _ ?_).mpr ?_; intro u)
    | (split <;> (try (rename_i h; replace h := congrArg Prod.snd h; dsimp only at h; subst h)))
    | intro _
    | simp)
@[simp] theorem responseDeadline_keepsSaf (s0 : Device) (st : Nat) (s : Device) : KeepsSaf s0 (Machine.responseDeadline st s) ↔ KeepsSaf s0 s := by
  refine KeepsSaf.iff ?_
  unfold Machine.responseDeadline
  split <;> simp
@[simp] theorem armNow_keepsSaf (s0 : Device) (g : Staging) (s : Device) : KeepsSaf s0 (Machine.armNow g s) ↔ KeepsSaf s0 s := by
  refine KeepsSaf.iff ?_
  unfold Machine.armNow
  simp
@[simp] theorem stagingDone_keepsSaf (s0 : Device) (s : Device) : KeepsSaf s0 (Machine.stagingDone s) ↔ KeepsSaf s0 s := by
  refine KeepsSaf.iff ?_
  unfold Machine.stagingDone
  split <;> simp
@[simp] theorem laneDown_keepsSaf (s0 : Device) (l : Nat) (s : Device) : KeepsSaf s0 (Machine.laneDown l s) ↔ KeepsSaf s0 s := by
  refine KeepsSaf.iff ?_
  unfold Machine.laneDown
  simp
@[simp] theorem laneUp_keepsSaf (s0 : Device) (l : Nat) (s : Device) : KeepsSaf s0 (Machine.laneUp l s) ↔ KeepsSaf s0 s := by
  refine KeepsSaf.iff ?_
  unfold Machine.laneUp
  simp
@[simp] theorem switchAcked_keepsSaf (s0 : Device) (epoch : Nat) (s : Device) : KeepsSaf s0 (Machine.switchAcked epoch s) ↔ KeepsSaf s0 s := by
  refine KeepsSaf.iff ?_
  unfold Machine.switchAcked
  split <;> simp
@[simp] theorem acked_keepsSaf (s0 : Device) (s : Device) (q : Nat) : KeepsSaf s0 (Machine.acked s q) ↔ KeepsSaf s0 s := by
  refine KeepsSaf.iff ?_
  unfold Machine.acked
  repeat' (first
    | with_reducible exact KeepsSaf.refl _
    | (simp; done)
    | (with_reducible refine KeepsSaf.ite ?_ ?_)
    | (with_reducible refine KeepsSaf.foldl _ _ _ ?_ ?_; intro u x)
    | (with_reducible refine KeepsSaf.checked _ _ _ _ ?_ ?_; intro p u)
    | (with_reducible refine (spireWrite_keepsSaf _ _ _ ?_).mpr ?_; intro u)
    | (with_reducible refine (domeWrite_keepsSaf _ _ _ ?_).mpr ?_; intro u)
    | (with_reducible refine (underRec_keepsSaf _ _ _ _ _ _ _ ?_).mpr ?_; intro b u)
    | (with_reducible refine (keepWrite_keepsSaf _ _ _ _ ?_).mpr ?_; intro u)
    | (split <;> (try (rename_i h; replace h := congrArg Prod.snd h; dsimp only at h; subst h)))
    | intro _
    | simp)
@[simp] theorem receiveRecord_keepsSaf (s0 : Device) (r : KepRec) (s : Device) : KeepsSaf s0 (Machine.receiveRecord r s) ↔ KeepsSaf s0 s := by
  refine KeepsSaf.iff ?_
  unfold Machine.receiveRecord
  simp
@[simp] theorem takeConfig_keepsSaf (s0 : Device) (c : PersistCfg) (s : Device) : KeepsSaf s0 (Machine.takeConfig c s) ↔ KeepsSaf s0 s := by
  refine KeepsSaf.iff ?_
  unfold Machine.takeConfig
  simp
@[simp] theorem takeUpdate_keepsSaf (s0 : Device) (c : PersistCfg) (s : Device) : KeepsSaf s0 (Machine.takeUpdate c s) ↔ KeepsSaf s0 s := by
  refine KeepsSaf.iff ?_
  unfold Machine.takeUpdate
  simp
@[simp] theorem deliver_keepsSaf (s0 : Device) (m : PairMsg) (s : Device) : KeepsSaf s0 (Machine.deliver m s) ↔ KeepsSaf s0 s := by
  refine KeepsSaf.iff ?_
  unfold Machine.deliver
  repeat' split
  all_goals simp
theorem deliverNext_saf0 (x0 : Nat) (x1 : Device) : KeepsSaf x1 (Machine.deliverNext x0 x1) := by
  induction x0 generalizing x1 with
  | zero => unfold Machine.deliverNext; simp
  | succ m ih =>
    have ih' : ∀ (s0 : Device) (x10 : Device), KeepsSaf s0 (Machine.deliverNext m x10) ↔ KeepsSaf s0 x10 := fun _ x10 => (ih x10).iff
    unfold Machine.deliverNext
    repeat' (first
    | with_reducible exact KeepsSaf.refl _
    | (simp [ih']; done)
    | (with_reducible refine KeepsSaf.ite ?_ ?_)
    | (with_reducible refine KeepsSaf.foldl _ _ _ ?_ ?_; intro u x)
    | (with_reducible refine KeepsSaf.checked _ _ _ _ ?_ ?_; intro p u)
    | (with_reducible refine (spireWrite_keepsSaf _ _ _ ?_).mpr ?_; intro u)
    | (with_reducible refine (domeWrite_keepsSaf _ _ _ ?_).mpr ?_; intro u)
    | (with_reducible refine (underRec_keepsSaf _ _ _ _ _ _ _ ?_).mpr ?_; intro b u)
    | (with_reducible refine (keepWrite_keepsSaf _ _ _ _ ?_).mpr ?_; intro u)
    | (split <;> (try (rename_i h; replace h := congrArg Prod.snd h; dsimp only at h; subst h)))
    | simp [ih'])
@[simp] theorem deliverNext_keepsSaf (s0 : Device) (x0 : Nat) (x1 : Device) : KeepsSaf s0 (Machine.deliverNext x0 x1) ↔ KeepsSaf s0 x1 := (deliverNext_saf0 x0 x1).iff
@[simp] theorem packetReceive_keepsSaf (s0 : Device) (lane : Nat) (packet : Option (Nat × Option PairMsg)) (acks : List Nat) (crcOk : Bool) (s : Device) : KeepsSaf s0 (Machine.packetReceive lane packet acks crcOk s) ↔ KeepsSaf s0 s := by
  refine KeepsSaf.iff ?_
  unfold Machine.packetReceive
  repeat' split
  all_goals simp
@[simp] theorem retransmit_keepsSaf (s0 : Device) (q : Nat) (s : Device) : KeepsSaf s0 (Machine.retransmit q s) ↔ KeepsSaf s0 s := by
  refine KeepsSaf.iff ?_
  unfold Machine.retransmit
  split <;> simp
@[simp] theorem paramAck_keepsSaf (s0 : Device) (st : Nat) (s : Device) : KeepsSaf s0 (Machine.paramAck st s) ↔ KeepsSaf s0 s := by
  refine KeepsSaf.iff ?_
  unfold Machine.paramAck
  repeat' (first
    | with_reducible exact KeepsSaf.refl _
    | (simp; done)
    | (with_reducible refine KeepsSaf.ite ?_ ?_)
    | (with_reducible refine KeepsSaf.foldl _ _ _ ?_ ?_; intro u x)
    | (with_reducible refine KeepsSaf.checked _ _ _ _ ?_ ?_; intro p u)
    | (with_reducible refine (spireWrite_keepsSaf _ _ _ ?_).mpr ?_; intro u)
    | (with_reducible refine (domeWrite_keepsSaf _ _ _ ?_).mpr ?_; intro u)
    | (with_reducible refine (underRec_keepsSaf _ _ _ _ _ _ _ ?_).mpr ?_; intro b u)
    | (with_reducible refine (keepWrite_keepsSaf _ _ _ _ ?_).mpr ?_; intro u)
    | (split <;> (try (rename_i h; replace h := congrArg Prod.snd h; dsimp only at h; subst h)))
    | intro _
    | simp)
@[simp] theorem d3hotEntry_keepsSaf (s0 : Device) (s : Device) : KeepsSaf s0 (Machine.d3hotEntry s) ↔ KeepsSaf s0 s := by
  refine KeepsSaf.iff ?_
  unfold Machine.d3hotEntry
  simp
@[simp] theorem pcieLinkDown_keepsSaf (s0 : Device) (why : LinkLoss) (ltssm : Nat) (lost : Nat) (s : Device) : KeepsSaf s0 (Machine.pcieLinkDown why ltssm lost s) ↔ KeepsSaf s0 s := by
  refine KeepsSaf.iff ?_
  unfold Machine.pcieLinkDown
  simp
@[simp] theorem pcieLinkUp_keepsSaf (s0 : Device) (s : Device) : KeepsSaf s0 (Machine.pcieLinkUp s) ↔ KeepsSaf s0 s := by
  refine KeepsSaf.iff ?_
  unfold Machine.pcieLinkUp
  simp
@[simp] theorem pdelayReqReceive_keepsSaf (s0 : Device) (d : Nat) (s : Device) : KeepsSaf s0 (Machine.pdelayReqReceive d s) ↔ KeepsSaf s0 s := by
  refine KeepsSaf.iff ?_
  unfold Machine.pdelayReqReceive
  split <;> rename_i h <;> first | (simp; done) | (replace h := congrArg Prod.snd h; dsimp only at h; subst h; simp)
@[simp] theorem pdelayTimer_keepsSaf (s0 : Device) (d : Nat) (s : Device) : KeepsSaf s0 (Machine.pdelayTimer d s) ↔ KeepsSaf s0 s := by
  refine KeepsSaf.iff ?_
  unfold Machine.pdelayTimer
  simp
@[simp] theorem canFire_keepsSaf (s0 : Device) (n : Nat) (b : Nat) (s : Device) : KeepsSaf s0 (Machine.canFire n b s) ↔ KeepsSaf s0 s := by
  refine KeepsSaf.iff ?_
  unfold Machine.canFire
  split <;> simp
@[simp] theorem perst_keepsSaf (s0 : Device) (ltssm : Nat) (lost : Nat) (s : Device) : KeepsSaf s0 (Machine.perst ltssm lost s) ↔ KeepsSaf s0 s := by
  refine KeepsSaf.iff ?_
  unfold Machine.perst
  simp
@[simp] theorem exchangeTimeout_keepsSaf (s0 : Device) (n : Nat) (s : Device) : KeepsSaf s0 (Machine.exchangeTimeout n s) ↔ KeepsSaf s0 s := by
  refine KeepsSaf.iff ?_
  unfold Machine.exchangeTimeout
  split <;> simp
@[simp] theorem pmcStatusRead_keepsSaf (s0 : Device) (s : Device) : KeepsSaf s0 (Machine.pmcStatusRead s) ↔ KeepsSaf s0 s := by
  refine KeepsSaf.iff ?_
  unfold Machine.pmcStatusRead
  simp
@[simp] theorem positionSample_keepsSaf (s0 : Device) (q : Nat) (s : Device) : KeepsSaf s0 (Machine.positionSample q s) ↔ KeepsSaf s0 s := by
  refine KeepsSaf.iff ?_
  unfold Machine.positionSample
  repeat' (first
    | with_reducible exact KeepsSaf.refl _
    | (simp; done)
    | (with_reducible refine KeepsSaf.ite ?_ ?_)
    | (with_reducible refine KeepsSaf.foldl _ _ _ ?_ ?_; intro u x)
    | (with_reducible refine KeepsSaf.checked _ _ _ _ ?_ ?_; intro p u)
    | (with_reducible refine (spireWrite_keepsSaf _ _ _ ?_).mpr ?_; intro u)
    | (with_reducible refine (domeWrite_keepsSaf _ _ _ ?_).mpr ?_; intro u)
    | (with_reducible refine (underRec_keepsSaf _ _ _ _ _ _ _ ?_).mpr ?_; intro b u)
    | (with_reducible refine (keepWrite_keepsSaf _ _ _ _ ?_).mpr ?_; intro u)
    | (split <;> (try (rename_i h; replace h := congrArg Prod.snd h; dsimp only at h; subst h)))
    | intro _
    | simp)
@[simp] theorem listenExpiry_keepsSaf (s0 : Device) (s : Device) : KeepsSaf s0 (Machine.listenExpiry s) ↔ KeepsSaf s0 s := by
  refine KeepsSaf.iff ?_
  unfold Machine.listenExpiry
  split <;> simp
@[simp] theorem findStep_keepsSaf (s0 : Device) (d : Nat) (s : Device) : KeepsSaf s0 (Machine.findStep d s) ↔ KeepsSaf s0 s := by
  refine KeepsSaf.iff ?_
  unfold Machine.findStep
  repeat' (first
    | with_reducible exact KeepsSaf.refl _
    | (simp; done)
    | (with_reducible refine KeepsSaf.ite ?_ ?_)
    | (with_reducible refine KeepsSaf.foldl _ _ _ ?_ ?_; intro u x)
    | (with_reducible refine KeepsSaf.checked _ _ _ _ ?_ ?_; intro p u)
    | (with_reducible refine (spireWrite_keepsSaf _ _ _ ?_).mpr ?_; intro u)
    | (with_reducible refine (domeWrite_keepsSaf _ _ _ ?_).mpr ?_; intro u)
    | (with_reducible refine (underRec_keepsSaf _ _ _ _ _ _ _ ?_).mpr ?_; intro b u)
    | (with_reducible refine (keepWrite_keepsSaf _ _ _ _ ?_).mpr ?_; intro u)
    | (split <;> (try (rename_i h; replace h := congrArg Prod.snd h; dsimp only at h; subst h)))
    | intro _
    | simp)
@[simp] theorem lockCheck_keepsSaf (s0 : Device) (d : Nat) (s : Device) : KeepsSaf s0 (Machine.lockCheck d s) ↔ KeepsSaf s0 s := by
  refine KeepsSaf.iff ?_
  unfold Machine.lockCheck
  simp
@[simp] theorem timServo_keepsSaf (s0 : Device) (d : Nat) (s : Device) : KeepsSaf s0 (Machine.timServo d s) ↔ KeepsSaf s0 s := by
  refine KeepsSaf.iff ?_
  unfold Machine.timServo
  simp
@[simp] theorem measure_keepsSaf (s0 : Device) (d : Nat) (o : Int) (domTime : Int) (ck : Nat) (pps : Bool) (s : Device) : KeepsSaf s0 (Machine.measure d o domTime ck pps s) ↔ KeepsSaf s0 s := by
  refine KeepsSaf.iff ?_
  unfold Machine.measure
  simp
@[simp] theorem ppsInEdge_keepsSaf (s0 : Device) (at_ : STime) (s : Device) : KeepsSaf s0 (Machine.ppsInEdge at_ s) ↔ KeepsSaf s0 s := by
  refine KeepsSaf.iff ?_
  unfold Machine.ppsInEdge
  repeat' (first
    | with_reducible exact KeepsSaf.refl _
    | (simp; done)
    | (with_reducible refine KeepsSaf.ite ?_ ?_)
    | (with_reducible refine KeepsSaf.foldl _ _ _ ?_ ?_; intro u x)
    | (with_reducible refine KeepsSaf.checked _ _ _ _ ?_ ?_; intro p u)
    | (with_reducible refine (spireWrite_keepsSaf _ _ _ ?_).mpr ?_; intro u)
    | (with_reducible refine (domeWrite_keepsSaf _ _ _ ?_).mpr ?_; intro u)
    | (with_reducible refine (underRec_keepsSaf _ _ _ _ _ _ _ ?_).mpr ?_; intro b u)
    | (with_reducible refine (keepWrite_keepsSaf _ _ _ _ ?_).mpr ?_; intro u)
    | (split <;> (try (rename_i h; replace h := congrArg Prod.snd h; dsimp only at h; subst h)))
    | intro _
    | simp)
@[simp] theorem ppsOutEdge_keepsSaf (s0 : Device) (s : Device) : KeepsSaf s0 (Machine.ppsOutEdge s) ↔ KeepsSaf s0 s := by
  refine KeepsSaf.iff ?_
  unfold Machine.ppsOutEdge
  simp
@[simp] theorem fencedAssert_keepsSaf (s0 : Device) (s : Device) : KeepsSaf s0 (Machine.fencedAssert s) ↔ KeepsSaf s0 s := by
  refine KeepsSaf.iff ?_
  unfold Machine.fencedAssert
  simp
@[simp] theorem probeReply_keepsSaf (s0 : Device) (st : Nat) (s : Device) : KeepsSaf s0 (Machine.probeReply st s) ↔ KeepsSaf s0 s := by
  refine KeepsSaf.iff ?_
  unfold Machine.probeReply
  split <;> rename_i h <;> first | (simp; done) | (replace h := congrArg Prod.snd h; dsimp only at h; subst h; simp)
@[simp] theorem enterRelease_keepsSaf (s0 : Device) (slot : Nat) (t : STime) (s : Device) : KeepsSaf s0 (Machine.enterRelease slot t s) ↔ KeepsSaf s0 s := by
  refine KeepsSaf.iff ?_
  unfold Machine.enterRelease
  split <;> simp
@[simp] theorem cycleClose_keepsSaf (s0 : Device) (c : Nat) (y : Cycle) (s : Device) : KeepsSaf s0 (Machine.cycleClose c y s) ↔ KeepsSaf s0 s := by
  refine KeepsSaf.iff ?_
  unfold Machine.cycleClose
  simp
@[simp] theorem publishWord_keepsSaf (s0 : Device) (p : Nat) (y : Cycle) (e : MapEntry) (v : Nat) (s : Device) : KeepsSaf s0 (Machine.publishWord p y e v s) ↔ KeepsSaf s0 s := by
  refine KeepsSaf.iff ?_
  unfold Machine.publishWord
  split <;> simp
@[simp] theorem undeliveredTo_keepsSaf (s0 : Device) (p : Nat) (y : Cycle) (ws : List (MapEntry × Nat)) (st : Nat) (s : Device) : KeepsSaf s0 (Machine.undeliveredTo p y ws st s) ↔ KeepsSaf s0 s := by
  refine KeepsSaf.iff ?_
  unfold Machine.undeliveredTo
  simp
@[simp] theorem cyclePublish_keepsSaf (s0 : Device) (y : Cycle) (ws : List (MapEntry × Nat)) (s : Device) : KeepsSaf s0 (Machine.cyclePublish y ws s) ↔ KeepsSaf s0 s := by
  refine KeepsSaf.iff ?_
  unfold Machine.cyclePublish
  simp
theorem cycleEnd_saf0 (c : Nat) (s : Device) : KeepsSaf s (cycleEnd c s) := by
  unfold cycleEnd
  split
  · exact KeepsSaf.refl s
  · refine KeepsSaf.ite (KeepsSaf.refl s) ?_
    split
    · simp
    · dsimp only
      rw [cycleClose_keepsSaf, cyclePublish_keepsSaf]
      exact KeepsSaf.ite ((overrun_keepsSaf _ _ _ _ _).mpr (KeepsSaf.refl s)) (KeepsSaf.refl s)
@[simp] theorem cycleEnd_keepsSaf (s0 : Device) (c : Nat) (s : Device) : KeepsSaf s0 (cycleEnd c s) ↔ KeepsSaf s0 s := (cycleEnd_saf0 c s).iff
@[simp] theorem cycleStart_keepsSaf (s0 : Device) (c : Nat) (s : Device) : KeepsSaf s0 (Machine.cycleStart c s) ↔ KeepsSaf s0 s := by
  refine KeepsSaf.iff ?_
  unfold Machine.cycleStart
  split <;> simp
@[simp] theorem exchangeBoundary_keepsSaf (s0 : Device) (n : Nat) (s : Device) : KeepsSaf s0 (Machine.exchangeBoundary n s) ↔ KeepsSaf s0 s := by
  refine KeepsSaf.iff ?_
  unfold Machine.exchangeBoundary
  repeat' (first
    | with_reducible exact KeepsSaf.refl _
    | (simp; done)
    | (with_reducible refine KeepsSaf.ite ?_ ?_)
    | (with_reducible refine KeepsSaf.foldl _ _ _ ?_ ?_; intro u x)
    | (with_reducible refine KeepsSaf.checked _ _ _ _ ?_ ?_; intro p u)
    | (with_reducible refine (spireWrite_keepsSaf _ _ _ ?_).mpr ?_; intro u)
    | (with_reducible refine (domeWrite_keepsSaf _ _ _ ?_).mpr ?_; intro u)
    | (with_reducible refine (underRec_keepsSaf _ _ _ _ _ _ _ ?_).mpr ?_; intro b u)
    | (with_reducible refine (keepWrite_keepsSaf _ _ _ _ ?_).mpr ?_; intro u)
    | (split <;> (try (rename_i h; replace h := congrArg Prod.snd h; dsimp only at h; subst h)))
    | intro _
    | simp)
@[simp] theorem programFault_keepsSaf (s0 : Device) (c : Nat) (s : Device) : KeepsSaf s0 (Machine.programFault c s) ↔ KeepsSaf s0 s := by
  refine KeepsSaf.iff ?_
  unfold Machine.programFault
  repeat' split
  all_goals simp
@[simp] theorem prpSupervision_keepsSaf (s0 : Device) (p : Nat) (s : Device) : KeepsSaf s0 (Machine.prpSupervision p s) ↔ KeepsSaf s0 s := by
  refine KeepsSaf.iff ?_
  unfold Machine.prpSupervision
  simp
@[simp] theorem setMpd_keepsSaf (s0 : Device) (d : Nat) (v : Int) (s : Device) : KeepsSaf s0 (Machine.setMpd d v s) ↔ KeepsSaf s0 s := by
  refine KeepsSaf.iff ?_
  unfold Machine.setMpd
  simp
theorem delayResponse_saf0 (d : Nat) (s : Device) : KeepsSaf s (delayResponse d s) := by
  unfold delayResponse
  dsimp only
  split
  · rename_i h _
    have h1 := congrArg Prod.snd h
    dsimp only at h1
    subst h1
    simp
  · split
    · exact KeepsSaf.refl s
    · rename_i s' h
      have h1 : KeepsSaf s s' := by
        have h1 := congrArg Prod.snd h
        dsimp only at h1
        subst h1
        simp
      split
      · exact KeepsSaf.refl s
      · refine KeepsSaf.ite ?_ ?_
        · split
          · exact KeepsSaf.refl s
          · rename_i s2 h'
            have h2 : KeepsSaf s s2 := by
              have h2 := congrArg Prod.snd h'
              dsimp only at h2
              subst h2
              simpa using h1
            simpa using h2
        · simpa using h1
@[simp] theorem delayResponse_keepsSaf (s0 : Device) (d : Nat) (s : Device) : KeepsSaf s0 (delayResponse d s) ↔ KeepsSaf s0 s := (delayResponse_saf0 d s).iff
@[simp] theorem pulseEdge_keepsSaf (s0 : Device) (p : Nat) (rising : Bool) (at_ : STime) (s : Device) : KeepsSaf s0 (Machine.pulseEdge p rising at_ s) ↔ KeepsSaf s0 s := by
  refine KeepsSaf.iff ?_
  unfold Machine.pulseEdge
  simp
@[simp] theorem pulseSample_keepsSaf (s0 : Device) (p : Nat) (s : Device) : KeepsSaf s0 (Machine.pulseSample p s) ↔ KeepsSaf s0 s := by
  refine KeepsSaf.iff ?_
  unfold Machine.pulseSample
  repeat' (first
    | with_reducible exact KeepsSaf.refl _
    | (simp; done)
    | (with_reducible refine KeepsSaf.ite ?_ ?_)
    | (with_reducible refine KeepsSaf.foldl _ _ _ ?_ ?_; intro u x)
    | (with_reducible refine KeepsSaf.checked _ _ _ _ ?_ ?_; intro p u)
    | (with_reducible refine (spireWrite_keepsSaf _ _ _ ?_).mpr ?_; intro u)
    | (with_reducible refine (domeWrite_keepsSaf _ _ _ ?_).mpr ?_; intro u)
    | (with_reducible refine (underRec_keepsSaf _ _ _ _ _ _ _ ?_).mpr ?_; intro b u)
    | (with_reducible refine (keepWrite_keepsSaf _ _ _ _ ?_).mpr ?_; intro u)
    | (split <;> (try (rename_i h; replace h := congrArg Prod.snd h; dsimp only at h; subst h)))
    | intro _
    | simp)
@[simp] theorem pwmDrop_keepsSaf (s0 : Device) (o : OutItem) (s : Device) : KeepsSaf s0 (Machine.pwmDrop o s) ↔ KeepsSaf s0 s := by
  refine KeepsSaf.iff ?_
  unfold Machine.pwmDrop
  simp
@[simp] theorem pwmArrival_keepsSaf (s0 : Device) (n : Nat) (s : Device) : KeepsSaf s0 (Machine.pwmArrival n s) ↔ KeepsSaf s0 s := by
  refine KeepsSaf.iff ?_
  unfold Machine.pwmArrival
  repeat' (first
    | with_reducible exact KeepsSaf.refl _
    | (simp; done)
    | (with_reducible refine KeepsSaf.ite ?_ ?_)
    | (with_reducible refine KeepsSaf.foldl _ _ _ ?_ ?_; intro u x)
    | (with_reducible refine KeepsSaf.checked _ _ _ _ ?_ ?_; intro p u)
    | (with_reducible refine (spireWrite_keepsSaf _ _ _ ?_).mpr ?_; intro u)
    | (with_reducible refine (domeWrite_keepsSaf _ _ _ ?_).mpr ?_; intro u)
    | (with_reducible refine (underRec_keepsSaf _ _ _ _ _ _ _ ?_).mpr ?_; intro b u)
    | (with_reducible refine (keepWrite_keepsSaf _ _ _ _ ?_).mpr ?_; intro u)
    | (split <;> (try (rename_i h; replace h := congrArg Prod.snd h; dsimp only at h; subst h)))
    | intro _
    | simp)
@[simp] theorem pwmLatch_keepsSaf (s0 : Device) (n : Nat) (code : Nat) (t : STime) (s : Device) : KeepsSaf s0 (Machine.pwmLatch n code t s) ↔ KeepsSaf s0 s := by
  refine KeepsSaf.iff ?_
  unfold Machine.pwmLatch
  simp
@[simp] theorem pwmStart_keepsSaf (s0 : Device) (n : Nat) (s : Device) : KeepsSaf s0 (Machine.pwmStart n s) ↔ KeepsSaf s0 s := by
  refine KeepsSaf.iff ?_
  unfold Machine.pwmStart
  split <;> simp
@[simp] theorem raiseGasp_keepsSaf (s0 : Device) (code : Nat) (fields : List (Nat × Nat)) (s : Device) : KeepsSaf s0 (Machine.raiseGasp code fields s) ↔ KeepsSaf s0 s := by
  refine KeepsSaf.iff ?_
  unfold Machine.raiseGasp
  simp
@[simp] theorem pwrfailAssert_keepsSaf (s0 : Device) (s : Device) : KeepsSaf s0 (Machine.pwrfailAssert s) ↔ KeepsSaf s0 s := by
  refine KeepsSaf.iff ?_
  unfold Machine.pwrfailAssert
  simp
@[simp] theorem pwrfailRelease_keepsSaf (s0 : Device) (s : Device) : KeepsSaf s0 (Machine.pwrfailRelease s) ↔ KeepsSaf s0 s := by
  refine KeepsSaf.iff ?_
  unfold Machine.pwrfailRelease
  simp
@[simp] theorem quadrature_keepsSaf (s0 : Device) (q : Nat) (a : Bool) (b : Bool) (s : Device) : KeepsSaf s0 (Machine.quadrature q a b s) ↔ KeepsSaf s0 s := by
  refine KeepsSaf.iff ?_
  unfold Machine.quadrature
  simp
@[simp] theorem spireRail_keepsSaf (s0 : Device) (dram : Bool) (s : Device) : KeepsSaf s0 (Machine.spireRail dram s) ↔ KeepsSaf s0 s := by
  refine KeepsSaf.iff ?_
  unfold Machine.spireRail
  simp
@[simp] theorem railReturn_keepsSaf (s0 : Device) (r : Nat) (s : Device) : KeepsSaf s0 (Machine.railReturn r s) ↔ KeepsSaf s0 s := by
  refine KeepsSaf.iff ?_
  unfold Machine.railReturn
  simp
@[simp] theorem rangeSettled_keepsSaf (s0 : Device) (n : Nat) (s : Device) : KeepsSaf s0 (Machine.rangeSettled n s) ↔ KeepsSaf s0 s := by
  refine KeepsSaf.iff ?_
  unfold Machine.rangeSettled
  simp
@[simp] theorem referenceBack_keepsSaf (s0 : Device) (s : Device) : KeepsSaf s0 (Machine.referenceBack s) ↔ KeepsSaf s0 s := by
  refine KeepsSaf.iff ?_
  unfold Machine.referenceBack
  simp
@[simp] theorem configWrite_keepsSaf (s0 : Device) (b : BusWrite) (s : Device) : KeepsSaf s0 (Machine.configWrite b s) ↔ KeepsSaf s0 s := by
  refine KeepsSaf.iff ?_
  unfold Machine.configWrite
  simp
@[simp] theorem ringDoorbell_keepsSaf (s0 : Device) (n : Nat) (w : BusWrite) (s : Device) : KeepsSaf s0 (Machine.ringDoorbell n w s) ↔ KeepsSaf s0 s := by
  refine KeepsSaf.iff ?_
  unfold Machine.ringDoorbell
  split <;> simp
@[simp] theorem doorbellSpaceWrite_keepsSaf (s0 : Device) (b : BusWrite) (s : Device) : KeepsSaf s0 (Machine.doorbellSpaceWrite b s) ↔ KeepsSaf s0 s := by
  refine KeepsSaf.iff ?_
  unfold Machine.doorbellSpaceWrite
  simp
@[simp] theorem windowWrite_keepsSaf (s0 : Device) (n : Nat) (base : DWord) (v : Nat) (s : Device) : KeepsSaf s0 (Machine.windowWrite n base v s) ↔ KeepsSaf s0 s := by
  refine KeepsSaf.iff ?_
  unfold Machine.windowWrite
  simp
@[simp] theorem windowConfigWrite_keepsSaf (s0 : Device) (n : Nat) (b : BusWrite) (s : Device) : KeepsSaf s0 (Machine.windowConfigWrite n b s) ↔ KeepsSaf s0 s := by
  refine KeepsSaf.iff ?_
  unfold Machine.windowConfigWrite
  simp
@[simp] theorem registerWrite_keepsSaf (s0 : Device) (b : BusWrite) (s : Device) : KeepsSaf s0 (Machine.registerWrite b s) ↔ KeepsSaf s0 s := by
  refine KeepsSaf.iff ?_
  unfold Machine.registerWrite
  simp
@[simp] theorem msixWrite_keepsSaf (s0 : Device) (o : Nat) (v : Nat) (s : Device) : KeepsSaf s0 (Machine.msixWrite o v s) ↔ KeepsSaf s0 s := by
  refine KeepsSaf.iff ?_
  unfold Machine.msixWrite
  repeat' split
  all_goals simp
@[simp] theorem tableWrite_keepsSaf (s0 : Device) (b : BusWrite) (s : Device) : KeepsSaf s0 (Machine.tableWrite b s) ↔ KeepsSaf s0 s := by
  refine KeepsSaf.iff ?_
  unfold Machine.tableWrite
  simp
@[simp] theorem hostWrite_keepsSaf (s0 : Device) (sp : HostSpace) (b : BusWrite) (s : Device) : KeepsSaf s0 (Machine.hostWrite sp b s) ↔ KeepsSaf s0 s := by
  refine KeepsSaf.iff ?_
  unfold Machine.hostWrite
  split <;> simp
@[simp] theorem failLane_keepsSaf (s0 : Device) (d : Nat) (l : Nat) (s : Device) : KeepsSaf s0 (Machine.failLane d l s) ↔ KeepsSaf s0 s := by
  refine KeepsSaf.iff ?_
  unfold Machine.failLane
  repeat' (first
    | with_reducible exact KeepsSaf.refl _
    | (simp; done)
    | (with_reducible refine KeepsSaf.ite ?_ ?_)
    | (with_reducible refine KeepsSaf.foldl _ _ _ ?_ ?_; intro u x)
    | (with_reducible refine KeepsSaf.checked _ _ _ _ ?_ ?_; intro p u)
    | (with_reducible refine (spireWrite_keepsSaf _ _ _ ?_).mpr ?_; intro u)
    | (with_reducible refine (domeWrite_keepsSaf _ _ _ ?_).mpr ?_; intro u)
    | (with_reducible refine (underRec_keepsSaf _ _ _ _ _ _ _ ?_).mpr ?_; intro b u)
    | (with_reducible refine (keepWrite_keepsSaf _ _ _ _ ?_).mpr ?_; intro u)
    | (split <;> (try (rename_i h; replace h := congrArg Prod.snd h; dsimp only at h; subst h)))
    | intro _
    | simp)
@[simp] theorem retrainEnd_keepsSaf (s0 : Device) (failed : Nat) (s : Device) : KeepsSaf s0 (Machine.retrainEnd failed s) ↔ KeepsSaf s0 s := by
  refine KeepsSaf.iff ?_
  unfold Machine.retrainEnd
  split <;> simp
@[simp] theorem ringEnable_keepsSaf (s0 : Device) (n : Nat) (v : Nat) (on_ : Bool) (s : Device) : KeepsSaf s0 (Machine.ringEnable n v on_ s) ↔ KeepsSaf s0 s := by
  refine KeepsSaf.iff ?_
  unfold Machine.ringEnable
  simp
@[simp] theorem tapSample_keepsSaf (s0 : Device) (sampled : Nat) (shifted : Nat) (s : Device) : KeepsSaf s0 (Machine.tapSample sampled shifted s) ↔ KeepsSaf s0 s := by
  refine KeepsSaf.iff ?_
  unfold Machine.tapSample
  simp
@[simp] theorem scanRequest_keepsSaf (s0 : Device) (c : Nat) (s : Device) : KeepsSaf s0 (Machine.scanRequest c s) ↔ KeepsSaf s0 s := by
  refine KeepsSaf.iff ?_
  unfold Machine.scanRequest
  simp
@[simp] theorem scanStart_keepsSaf (s0 : Device) (c : Nat) (s : Device) : KeepsSaf s0 (Machine.scanStart c s) ↔ KeepsSaf s0 s := by
  refine KeepsSaf.iff ?_
  unfold Machine.scanStart
  repeat' (first
    | with_reducible exact KeepsSaf.refl _
    | (simp; done)
    | (with_reducible refine KeepsSaf.ite ?_ ?_)
    | (with_reducible refine KeepsSaf.foldl _ _ _ ?_ ?_; intro u x)
    | (with_reducible refine KeepsSaf.checked _ _ _ _ ?_ ?_; intro p u)
    | (with_reducible refine (spireWrite_keepsSaf _ _ _ ?_).mpr ?_; intro u)
    | (with_reducible refine (domeWrite_keepsSaf _ _ _ ?_).mpr ?_; intro u)
    | (with_reducible refine (underRec_keepsSaf _ _ _ _ _ _ _ ?_).mpr ?_; intro b u)
    | (with_reducible refine (keepWrite_keepsSaf _ _ _ _ ?_).mpr ?_; intro u)
    | (split <;> (try (rename_i h; replace h := congrArg Prod.snd h; dsimp only at h; subst h)))
    | intro _
    | simp)
@[simp] theorem scopeExpiry_keepsSaf (s0 : Device) (k : Nat) (s : Device) : KeepsSaf s0 (Machine.scopeExpiry k s) ↔ KeepsSaf s0 s := by
  refine KeepsSaf.iff ?_
  unfold Machine.scopeExpiry
  simp
theorem drainExport_saf0 (n : Nat) (x0 : Nat) (x1 : Device) : KeepsSaf x1 (Machine.drainExport n x0 x1) := by
  induction x0 generalizing x1 with
  | zero => unfold Machine.drainExport; simp
  | succ m ih =>
    have ih' : ∀ (s0 : Device) (x10 : Device), KeepsSaf s0 (Machine.drainExport n m x10) ↔ KeepsSaf s0 x10 := fun _ x10 => (ih x10).iff
    unfold Machine.drainExport
    repeat' (first
    | with_reducible exact KeepsSaf.refl _
    | (simp [ih']; done)
    | (with_reducible refine KeepsSaf.ite ?_ ?_)
    | (with_reducible refine KeepsSaf.foldl _ _ _ ?_ ?_; intro u x)
    | (with_reducible refine KeepsSaf.checked _ _ _ _ ?_ ?_; intro p u)
    | (with_reducible refine (spireWrite_keepsSaf _ _ _ ?_).mpr ?_; intro u)
    | (with_reducible refine (domeWrite_keepsSaf _ _ _ ?_).mpr ?_; intro u)
    | (with_reducible refine (underRec_keepsSaf _ _ _ _ _ _ _ ?_).mpr ?_; intro b u)
    | (with_reducible refine (keepWrite_keepsSaf _ _ _ _ ?_).mpr ?_; intro u)
    | (split <;> (try (rename_i h; replace h := congrArg Prod.snd h; dsimp only at h; subst h)))
    | simp [ih'])
@[simp] theorem drainExport_keepsSaf (s0 : Device) (n : Nat) (x0 : Nat) (x1 : Device) : KeepsSaf s0 (Machine.drainExport n x0 x1) ↔ KeepsSaf s0 x1 := (drainExport_saf0 n x0 x1).iff
@[simp] theorem handPayload_keepsSaf (s0 : Device) (n : Nat) (typ : Nat) (bs : List Byte) (s : Device) : KeepsSaf s0 (Machine.handPayload n typ bs s) ↔ KeepsSaf s0 s := by
  refine KeepsSaf.iff ?_
  unfold Machine.handPayload
  simp
@[simp] theorem drainImage_keepsSaf (s0 : Device) (n : Nat) (s : Device) : KeepsSaf s0 (Machine.drainImage n s) ↔ KeepsSaf s0 s := by
  refine KeepsSaf.iff ?_
  unfold Machine.drainImage
  split <;> simp
@[simp] theorem drainTrace_keepsSaf (s0 : Device) (n : Nat) (s : Device) : KeepsSaf s0 (Machine.drainTrace n s) ↔ KeepsSaf s0 s := by
  refine KeepsSaf.iff ?_
  unfold Machine.drainTrace
  split <;> simp
@[simp] theorem modUart_keepsSaf (s0 : Device) (n : Nat) (f : Uart → Uart) (s : Device) : KeepsSaf s0 (Machine.modUart n f s) ↔ KeepsSaf s0 s := by
  refine KeepsSaf.iff ?_
  unfold Machine.modUart
  simp
theorem uartFlush_saf0 (u : Nat) (x0 : Nat) (x1 : Device) : KeepsSaf x1 (Machine.uartFlush u x0 x1) := by
  induction x0 generalizing x1 with
  | zero => unfold Machine.uartFlush; simp
  | succ m ih =>
    have ih' : ∀ (s0 : Device) (x10 : Device), KeepsSaf s0 (Machine.uartFlush u m x10) ↔ KeepsSaf s0 x10 := fun _ x10 => (ih x10).iff
    unfold Machine.uartFlush
    repeat' (first
    | with_reducible exact KeepsSaf.refl _
    | (simp [ih']; done)
    | (with_reducible refine KeepsSaf.ite ?_ ?_)
    | (with_reducible refine KeepsSaf.foldl _ _ _ ?_ ?_; intro u x)
    | (with_reducible refine KeepsSaf.checked _ _ _ _ ?_ ?_; intro p u)
    | (with_reducible refine (spireWrite_keepsSaf _ _ _ ?_).mpr ?_; intro u)
    | (with_reducible refine (domeWrite_keepsSaf _ _ _ ?_).mpr ?_; intro u)
    | (with_reducible refine (underRec_keepsSaf _ _ _ _ _ _ _ ?_).mpr ?_; intro b u)
    | (with_reducible refine (keepWrite_keepsSaf _ _ _ _ ?_).mpr ?_; intro u)
    | (split <;> (try (rename_i h; replace h := congrArg Prod.snd h; dsimp only at h; subst h)))
    | simp [ih'])
@[simp] theorem uartFlush_keepsSaf (s0 : Device) (u : Nat) (x0 : Nat) (x1 : Device) : KeepsSaf s0 (Machine.uartFlush u x0 x1) ↔ KeepsSaf s0 x1 := (uartFlush_saf0 u x0 x1).iff
@[simp] theorem segmentHandback_keepsSaf (s0 : Device) (n : Nat) (s : Device) : KeepsSaf s0 (Machine.segmentHandback n s) ↔ KeepsSaf s0 s := by
  refine KeepsSaf.iff ?_
  unfold Machine.segmentHandback
  repeat' (first
    | with_reducible exact KeepsSaf.refl _
    | (simp; done)
    | (with_reducible refine KeepsSaf.ite ?_ ?_)
    | (with_reducible refine KeepsSaf.foldl _ _ _ ?_ ?_; intro u x)
    | (with_reducible refine KeepsSaf.checked _ _ _ _ ?_ ?_; intro p u)
    | (with_reducible refine (spireWrite_keepsSaf _ _ _ ?_).mpr ?_; intro u)
    | (with_reducible refine (domeWrite_keepsSaf _ _ _ ?_).mpr ?_; intro u)
    | (with_reducible refine (underRec_keepsSaf _ _ _ _ _ _ _ ?_).mpr ?_; intro b u)
    | (with_reducible refine (keepWrite_keepsSaf _ _ _ _ ?_).mpr ?_; intro u)
    | (split <;> (try (rename_i h; replace h := congrArg Prod.snd h; dsimp only at h; subst h)))
    | intro _
    | simp)
@[simp] theorem servoTick_keepsSaf (s0 : Device) (a : Nat) (s : Device) : KeepsSaf s0 (Machine.servoTick a s) ↔ KeepsSaf s0 s := by
  refine KeepsSaf.iff ?_
  unfold Machine.servoTick
  simp
@[simp] theorem setpointLoss_keepsSaf (s0 : Device) (m : Nat) (s : Device) : KeepsSaf s0 (Machine.setpointLoss m s) ↔ KeepsSaf s0 s := by
  refine KeepsSaf.iff ?_
  unfold Machine.setpointLoss
  repeat' (first
    | with_reducible exact KeepsSaf.refl _
    | (simp; done)
    | (with_reducible refine KeepsSaf.ite ?_ ?_)
    | (with_reducible refine KeepsSaf.foldl _ _ _ ?_ ?_; intro u x)
    | (with_reducible refine KeepsSaf.checked _ _ _ _ ?_ ?_; intro p u)
    | (with_reducible refine (spireWrite_keepsSaf _ _ _ ?_).mpr ?_; intro u)
    | (with_reducible refine (domeWrite_keepsSaf _ _ _ ?_).mpr ?_; intro u)
    | (with_reducible refine (underRec_keepsSaf _ _ _ _ _ _ _ ?_).mpr ?_; intro b u)
    | (with_reducible refine (keepWrite_keepsSaf _ _ _ _ ?_).mpr ?_; intro u)
    | (split <;> (try (rename_i h; replace h := congrArg Prod.snd h; dsimp only at h; subst h)))
    | intro _
    | simp)
@[simp] theorem sidebandTimeout_keepsSaf (s0 : Device) (off : Nat) (repeats : Nat) (s : Device) : KeepsSaf s0 (Machine.sidebandTimeout off repeats s) ↔ KeepsSaf s0 s := by
  refine KeepsSaf.iff ?_
  unfold Machine.sidebandTimeout
  simp
@[simp] theorem slotCopy_keepsSaf (s0 : Device) (s : Device) : KeepsSaf s0 (Machine.slotCopy s) ↔ KeepsSaf s0 s := by
  refine KeepsSaf.iff ?_
  unfold Machine.slotCopy
  simp
@[simp] theorem snapshotInstant_keepsSaf (s0 : Device) (s : Device) : KeepsSaf s0 (Machine.snapshotInstant s) ↔ KeepsSaf s0 s := by
  refine KeepsSaf.iff ?_
  unfold Machine.snapshotInstant
  split <;> simp
@[simp] theorem fatalError_keepsSaf (s0 : Device) (code : Nat) (detail : Nat) (s : Device) : KeepsSaf s0 (Machine.fatalError code detail s) ↔ KeepsSaf s0 s := by
  refine KeepsSaf.iff ?_
  unfold Machine.fatalError
  simp
@[simp] theorem spireWarm_keepsSaf (s0 : Device) (cause : Nat) (s : Device) : KeepsSaf s0 (Machine.spireWarm cause s) ↔ KeepsSaf s0 s := by
  refine KeepsSaf.iff ?_
  unfold Machine.spireWarm
  simp
@[simp] theorem spireWatchdog_keepsSaf (s0 : Device) (s : Device) : KeepsSaf s0 (Machine.spireWatchdog s) ↔ KeepsSaf s0 s := by
  refine KeepsSaf.iff ?_
  unfold Machine.spireWatchdog
  simp
@[simp] theorem ssiPosition_keepsSaf (s0 : Device) (q : Nat) (raw : Nat) (at_ : STime) (b : List Byte) (s : Device) : KeepsSaf s0 (Machine.ssiPosition q raw at_ b s) ↔ KeepsSaf s0 s := by
  refine KeepsSaf.iff ?_
  unfold Machine.ssiPosition
  simp
@[simp] theorem ssiFrame_keepsSaf (s0 : Device) (q : Nat) (raw : Nat) (high : Bool) (low : Bool) (at_ : STime) (s : Device) : KeepsSaf s0 (Machine.ssiFrame q raw high low at_ s) ↔ KeepsSaf s0 s := by
  refine KeepsSaf.iff ?_
  unfold Machine.ssiFrame
  repeat' (first
    | with_reducible exact KeepsSaf.refl _
    | (simp; done)
    | (with_reducible refine KeepsSaf.ite ?_ ?_)
    | (with_reducible refine KeepsSaf.foldl _ _ _ ?_ ?_; intro u x)
    | (with_reducible refine KeepsSaf.checked _ _ _ _ ?_ ?_; intro p u)
    | (with_reducible refine (spireWrite_keepsSaf _ _ _ ?_).mpr ?_; intro u)
    | (with_reducible refine (domeWrite_keepsSaf _ _ _ ?_).mpr ?_; intro u)
    | (with_reducible refine (underRec_keepsSaf _ _ _ _ _ _ _ ?_).mpr ?_; intro b u)
    | (with_reducible refine (keepWrite_keepsSaf _ _ _ _ ?_).mpr ?_; intro u)
    | (split <;> (try (rename_i h; replace h := congrArg Prod.snd h; dsimp only at h; subst h)))
    | intro _
    | simp)
@[simp] theorem stageGuard_keepsSaf (s0 : Device) (s : Device) : KeepsSaf s0 (Machine.stageGuard s) ↔ KeepsSaf s0 s := by
  refine KeepsSaf.iff ?_
  unfold Machine.stageGuard
  simp
@[simp] theorem recoveryReset_keepsSaf (s0 : Device) (k : Nat) (s : Device) : KeepsSaf s0 (Machine.recoveryReset k s) ↔ KeepsSaf s0 s := by
  refine KeepsSaf.iff ?_
  unfold Machine.recoveryReset
  simp
@[simp] theorem summaryTimeout_keepsSaf (s0 : Device) (code : Nat) (s : Device) : KeepsSaf s0 (Machine.summaryTimeout code s) ↔ KeepsSaf s0 s := by
  refine KeepsSaf.iff ?_
  unfold Machine.summaryTimeout
  split <;> simp
@[simp] theorem installSpare_keepsSaf (s0 : Device) (kind : Nat) (unit : Nat) (x : Nat) (s : Device) : KeepsSaf s0 (Machine.installSpare kind unit x s) ↔ KeepsSaf s0 s := by
  refine KeepsSaf.iff ?_
  unfold Machine.installSpare
  split <;> simp
@[simp] theorem swapChangeover_keepsSaf (s0 : Device) (slot : Nat) (s : Device) : KeepsSaf s0 (Machine.swapChangeover slot s) ↔ KeepsSaf s0 s := by
  refine KeepsSaf.iff ?_
  unfold Machine.swapChangeover
  repeat' split
  all_goals simp
@[simp] theorem switchTimeout_keepsSaf (s0 : Device) (s : Device) : KeepsSaf s0 (Machine.switchTimeout s) ↔ KeepsSaf s0 s := by
  refine KeepsSaf.iff ?_
  unfold Machine.switchTimeout
  split <;> simp
@[simp] theorem syncTimeout_keepsSaf (s0 : Device) (s : Device) : KeepsSaf s0 (Machine.syncTimeout s) ↔ KeepsSaf s0 s := by
  refine KeepsSaf.iff ?_
  unfold Machine.syncTimeout
  repeat' (first
    | with_reducible exact KeepsSaf.refl _
    | (simp; done)
    | (with_reducible refine KeepsSaf.ite ?_ ?_)
    | (with_reducible refine KeepsSaf.foldl _ _ _ ?_ ?_; intro u x)
    | (with_reducible refine KeepsSaf.checked _ _ _ _ ?_ ?_; intro p u)
    | (with_reducible refine (spireWrite_keepsSaf _ _ _ ?_).mpr ?_; intro u)
    | (with_reducible refine (domeWrite_keepsSaf _ _ _ ?_).mpr ?_; intro u)
    | (with_reducible refine (underRec_keepsSaf _ _ _ _ _ _ _ ?_).mpr ?_; intro b u)
    | (with_reducible refine (keepWrite_keepsSaf _ _ _ _ ?_).mpr ?_; intro u)
    | (split <;> (try (rename_i h; replace h := congrArg Prod.snd h; dsimp only at h; subst h)))
    | intro _
    | simp)
@[simp] theorem useSync_keepsSaf (s0 : Device) (d : Nat) (f : RxFrame) (origin : Int) (corr : Int) (s : Device) : KeepsSaf s0 (Machine.useSync d f origin corr s) ↔ KeepsSaf s0 s := by
  refine KeepsSaf.iff ?_
  unfold Machine.useSync
  simp
@[simp] theorem syncMeasurement_keepsSaf (s0 : Device) (d : Nat) (s : Device) : KeepsSaf s0 (Machine.syncMeasurement d s) ↔ KeepsSaf s0 s := by
  refine KeepsSaf.iff ?_
  unfold Machine.syncMeasurement
  repeat' (first
    | with_reducible exact KeepsSaf.refl _
    | (simp; done)
    | (with_reducible refine KeepsSaf.ite ?_ ?_)
    | (with_reducible refine KeepsSaf.foldl _ _ _ ?_ ?_; intro u x)
    | (with_reducible refine KeepsSaf.checked _ _ _ _ ?_ ?_; intro p u)
    | (with_reducible refine (spireWrite_keepsSaf _ _ _ ?_).mpr ?_; intro u)
    | (with_reducible refine (domeWrite_keepsSaf _ _ _ ?_).mpr ?_; intro u)
    | (with_reducible refine (underRec_keepsSaf _ _ _ _ _ _ _ ?_).mpr ?_; intro b u)
    | (with_reducible refine (keepWrite_keepsSaf _ _ _ _ ?_).mpr ?_; intro u)
    | (split <;> (try (rename_i h; replace h := congrArg Prod.snd h; dsimp only at h; subst h)))
    | intro _
    | simp)
@[simp] theorem takeoverCan_keepsSaf (s0 : Device) (s : Device) : KeepsSaf s0 (Machine.takeoverCan s) ↔ KeepsSaf s0 s := by
  refine KeepsSaf.iff ?_
  unfold Machine.takeoverCan
  simp
@[simp] theorem takeoverCfg_keepsSaf (s0 : Device) (q : KepSlot) (s : Device) : KeepsSaf s0 (Machine.takeoverCfg q s) ↔ KeepsSaf s0 s := by
  refine KeepsSaf.iff ?_
  unfold Machine.takeoverCfg
  simp
@[simp] theorem takeoverLtn_keepsSaf (s0 : Device) (s : Device) : KeepsSaf s0 (Machine.takeoverLtn s) ↔ KeepsSaf s0 s := by
  refine KeepsSaf.iff ?_
  unfold Machine.takeoverLtn
  simp
@[simp] theorem writeOuts_keepsSaf (s0 : Device) (q : KepSlot) (s : Device) : KeepsSaf s0 (Machine.writeOuts q s) ↔ KeepsSaf s0 s := by
  refine KeepsSaf.iff ?_
  unfold Machine.writeOuts
  simp
@[simp] theorem fenceDone_keepsSaf (s0 : Device) (s : Device) : KeepsSaf s0 (Machine.fenceDone s) ↔ KeepsSaf s0 s := by
  refine KeepsSaf.iff ?_
  unfold Machine.fenceDone
  split <;> simp
@[simp] theorem taskCapture_keepsSaf (s0 : Device) (slot : Nat) (s : Device) : KeepsSaf s0 (Machine.taskCapture slot s) ↔ KeepsSaf s0 s := by
  refine KeepsSaf.iff ?_
  unfold Machine.taskCapture
  split <;> simp
@[simp] theorem spireTrip_keepsSaf (s0 : Device) (t : Int) (s : Device) : KeepsSaf s0 (Machine.spireTrip t s) ↔ KeepsSaf s0 s := by
  refine KeepsSaf.iff ?_
  unfold Machine.spireTrip
  simp
@[simp] theorem thermWarn_keepsSaf (s0 : Device) (die : Nat) (t : Int) (s : Device) : KeepsSaf s0 (Machine.thermWarn die t s) ↔ KeepsSaf s0 s := by
  refine KeepsSaf.iff ?_
  unfold Machine.thermWarn
  simp
@[simp] theorem timNowRead_keepsSaf (s0 : Device) (s : Device) : KeepsSaf s0 (Machine.timNowRead s) ↔ KeepsSaf s0 s := by
  refine KeepsSaf.iff ?_
  unfold Machine.timNowRead
  simp
@[simp] theorem tokenArrival_keepsSaf (s0 : Device) (source : Nat) (slot : Nat) (operand : Nat) (s : Device) : KeepsSaf s0 (Machine.tokenArrival source slot operand s) ↔ KeepsSaf s0 s := by
  refine KeepsSaf.iff ?_
  unfold Machine.tokenArrival
  repeat' (first
    | with_reducible exact KeepsSaf.refl _
    | (simp; done)
    | (with_reducible refine KeepsSaf.ite ?_ ?_)
    | (with_reducible refine KeepsSaf.foldl _ _ _ ?_ ?_; intro u x)
    | (with_reducible refine KeepsSaf.checked _ _ _ _ ?_ ?_; intro p u)
    | (with_reducible refine (spireWrite_keepsSaf _ _ _ ?_).mpr ?_; intro u)
    | (with_reducible refine (domeWrite_keepsSaf _ _ _ ?_).mpr ?_; intro u)
    | (with_reducible refine (underRec_keepsSaf _ _ _ _ _ _ _ ?_).mpr ?_; intro b u)
    | (with_reducible refine (keepWrite_keepsSaf _ _ _ _ ?_).mpr ?_; intro u)
    | (split <;> (try (rename_i h; replace h := congrArg Prod.snd h; dsimp only at h; subst h)))
    | intro _
    | simp)
@[simp] theorem scanTriggered_keepsSaf (s0 : Device) (e : Nat) (s : Device) : KeepsSaf s0 (Machine.scanTriggered e s) ↔ KeepsSaf s0 s := by
  refine KeepsSaf.iff ?_
  unfold Machine.scanTriggered
  simp
@[simp] theorem trigRelease_keepsSaf (s0 : Device) (program : Nat) (t : STime) (s : Device) : KeepsSaf s0 (Machine.trigRelease program t s) ↔ KeepsSaf s0 s := by
  refine KeepsSaf.iff ?_
  unfold Machine.trigRelease
  repeat' (first
    | with_reducible exact KeepsSaf.refl _
    | (simp; done)
    | (with_reducible refine KeepsSaf.ite ?_ ?_)
    | (with_reducible refine KeepsSaf.foldl _ _ _ ?_ ?_; intro u x)
    | (with_reducible refine KeepsSaf.checked _ _ _ _ ?_ ?_; intro p u)
    | (with_reducible refine (spireWrite_keepsSaf _ _ _ ?_).mpr ?_; intro u)
    | (with_reducible refine (domeWrite_keepsSaf _ _ _ ?_).mpr ?_; intro u)
    | (with_reducible refine (underRec_keepsSaf _ _ _ _ _ _ _ ?_).mpr ?_; intro b u)
    | (with_reducible refine (keepWrite_keepsSaf _ _ _ _ ?_).mpr ?_; intro u)
    | (split <;> (try (rename_i h; replace h := congrArg Prod.snd h; dsimp only at h; subst h)))
    | intro _
    | simp)
@[simp] theorem triggerFiring_keepsSaf (s0 : Device) (e : Nat) (s : Device) : KeepsSaf s0 (Machine.triggerFiring e s) ↔ KeepsSaf s0 s := by
  refine KeepsSaf.iff ?_
  unfold Machine.triggerFiring
  repeat' (first
    | with_reducible exact KeepsSaf.refl _
    | (simp; done)
    | (with_reducible refine KeepsSaf.ite ?_ ?_)
    | (with_reducible refine KeepsSaf.foldl _ _ _ ?_ ?_; intro u x)
    | (with_reducible refine KeepsSaf.checked _ _ _ _ ?_ ?_; intro p u)
    | (with_reducible refine (spireWrite_keepsSaf _ _ _ ?_).mpr ?_; intro u)
    | (with_reducible refine (domeWrite_keepsSaf _ _ _ ?_).mpr ?_; intro u)
    | (with_reducible refine (underRec_keepsSaf _ _ _ _ _ _ _ ?_).mpr ?_; intro b u)
    | (with_reducible refine (keepWrite_keepsSaf _ _ _ _ ?_).mpr ?_; intro u)
    | (split <;> (try (rename_i h; replace h := congrArg Prod.snd h; dsimp only at h; subst h)))
    | intro _
    | simp)
@[simp] theorem ttRefLost_keepsSaf (s0 : Device) (n : Nat) (s : Device) : KeepsSaf s0 (Machine.ttRefLost n s) ↔ KeepsSaf s0 s := by
  refine KeepsSaf.iff ?_
  unfold Machine.ttRefLost
  repeat' (first
    | with_reducible exact KeepsSaf.refl _
    | (simp; done)
    | (with_reducible refine KeepsSaf.ite ?_ ?_)
    | (with_reducible refine KeepsSaf.foldl _ _ _ ?_ ?_; intro u x)
    | (with_reducible refine KeepsSaf.checked _ _ _ _ ?_ ?_; intro p u)
    | (with_reducible refine (spireWrite_keepsSaf _ _ _ ?_).mpr ?_; intro u)
    | (with_reducible refine (domeWrite_keepsSaf _ _ _ ?_).mpr ?_; intro u)
    | (with_reducible refine (underRec_keepsSaf _ _ _ _ _ _ _ ?_).mpr ?_; intro b u)
    | (with_reducible refine (keepWrite_keepsSaf _ _ _ _ ?_).mpr ?_; intro u)
    | (split <;> (try (rename_i h; replace h := congrArg Prod.snd h; dsimp only at h; subst h)))
    | intro _
    | simp)
@[simp] theorem ttReference_keepsSaf (s0 : Device) (n : Nat) (s : Device) : KeepsSaf s0 (Machine.ttReference n s) ↔ KeepsSaf s0 s := by
  refine KeepsSaf.iff ?_
  unfold Machine.ttReference
  simp
@[simp] theorem ttWindow_keepsSaf (s0 : Device) (n : Nat) (b : Nat) (s : Device) : KeepsSaf s0 (Machine.ttWindow n b s) ↔ KeepsSaf s0 s := by
  refine KeepsSaf.iff ?_
  unfold Machine.ttWindow
  repeat' (first
    | with_reducible exact KeepsSaf.refl _
    | (simp; done)
    | (with_reducible refine KeepsSaf.ite ?_ ?_)
    | (with_reducible refine KeepsSaf.foldl _ _ _ ?_ ?_; intro u x)
    | (with_reducible refine KeepsSaf.checked _ _ _ _ ?_ ?_; intro p u)
    | (with_reducible refine (spireWrite_keepsSaf _ _ _ ?_).mpr ?_; intro u)
    | (with_reducible refine (domeWrite_keepsSaf _ _ _ ?_).mpr ?_; intro u)
    | (with_reducible refine (underRec_keepsSaf _ _ _ _ _ _ _ ?_).mpr ?_; intro b u)
    | (with_reducible refine (keepWrite_keepsSaf _ _ _ _ ?_).mpr ?_; intro u)
    | (split <;> (try (rename_i h; replace h := congrArg Prod.snd h; dsimp only at h; subst h)))
    | intro _
    | simp)
@[simp] theorem uartRx_keepsSaf (s0 : Device) (u : Nat) (data : Byte) (parity : Bool) (flags : Nat) (at_ : STime) (s : Device) : KeepsSaf s0 (Machine.uartRx u data parity flags at_ s) ↔ KeepsSaf s0 s := by
  refine KeepsSaf.iff ?_
  unfold Machine.uartRx
  simp
@[simp] theorem uartIdle_keepsSaf (s0 : Device) (u : Nat) (s : Device) : KeepsSaf s0 (Machine.uartIdle u s) ↔ KeepsSaf s0 s := by
  refine KeepsSaf.iff ?_
  unfold Machine.uartIdle
  split <;> simp
@[simp] theorem uartSend_keepsSaf (s0 : Device) (u : Nat) (b : List Byte) (s : Device) (data : Byte) : KeepsSaf s0 (Machine.uartSend u b s data) ↔ KeepsSaf s0 s := by
  refine KeepsSaf.iff ?_
  unfold Machine.uartSend
  simp
@[simp] theorem uartTxDone_keepsSaf (s0 : Device) (u : Nat) (s : Device) : KeepsSaf s0 (Machine.uartTxDone u s) ↔ KeepsSaf s0 s := by
  refine KeepsSaf.iff ?_
  unfold Machine.uartTxDone
  repeat' (first
    | with_reducible exact KeepsSaf.refl _
    | (simp; done)
    | (with_reducible refine KeepsSaf.ite ?_ ?_)
    | (with_reducible refine KeepsSaf.foldl _ _ _ ?_ ?_; intro u x)
    | (with_reducible refine KeepsSaf.checked _ _ _ _ ?_ ?_; intro p u)
    | (with_reducible refine (spireWrite_keepsSaf _ _ _ ?_).mpr ?_; intro u)
    | (with_reducible refine (domeWrite_keepsSaf _ _ _ ?_).mpr ?_; intro u)
    | (with_reducible refine (underRec_keepsSaf _ _ _ _ _ _ _ ?_).mpr ?_; intro b u)
    | (with_reducible refine (keepWrite_keepsSaf _ _ _ _ ?_).mpr ?_; intro u)
    | (split <;> (try (rename_i h; replace h := congrArg Prod.snd h; dsimp only at h; subst h)))
    | intro _
    | simp)
@[simp] theorem urgentPin_keepsSaf (s0 : Device) (c : Nat) (rising : Bool) (s : Device) : KeepsSaf s0 (Machine.urgentPin c rising s) ↔ KeepsSaf s0 s := by
  refine KeepsSaf.iff ?_
  unfold Machine.urgentPin
  repeat' (first
    | with_reducible exact KeepsSaf.refl _
    | (simp; done)
    | (with_reducible refine KeepsSaf.ite ?_ ?_)
    | (with_reducible refine KeepsSaf.foldl _ _ _ ?_ ?_; intro u x)
    | (with_reducible refine KeepsSaf.checked _ _ _ _ ?_ ?_; intro p u)
    | (with_reducible refine (spireWrite_keepsSaf _ _ _ ?_).mpr ?_; intro u)
    | (with_reducible refine (domeWrite_keepsSaf _ _ _ ?_).mpr ?_; intro u)
    | (with_reducible refine (underRec_keepsSaf _ _ _ _ _ _ _ ?_).mpr ?_; intro b u)
    | (with_reducible refine (keepWrite_keepsSaf _ _ _ _ ?_).mpr ?_; intro u)
    | (split <;> (try (rename_i h; replace h := congrArg Prod.snd h; dsimp only at h; subst h)))
    | intro _
    | simp)
@[simp] theorem recordExpiry_keepsSaf (s0 : Device) (s : Device) : KeepsSaf s0 (Machine.recordExpiry s) ↔ KeepsSaf s0 s := by
  refine KeepsSaf.iff ?_
  unfold Machine.recordExpiry
  simp
@[simp] theorem wearSwap_keepsSaf (s0 : Device) (kind : Nat) (unit : Nat) (s : Device) : KeepsSaf s0 (Machine.wearSwap kind unit s) ↔ KeepsSaf s0 s := by
  refine KeepsSaf.iff ?_
  unfold Machine.wearSwap
  split <;> rename_i h <;> first | (simp; done) | (replace h := congrArg Prod.snd h; dsimp only at h; subst h; simp)
@[simp] theorem wearUnit_keepsSaf (s0 : Device) (kind : Nat) (unit : Nat) (shown : Nat) (value : Nat) (cross : Bool × Bool) (s : Device) : KeepsSaf s0 (Machine.wearUnit kind unit shown value cross s) ↔ KeepsSaf s0 s := by
  refine KeepsSaf.iff ?_
  unfold Machine.wearUnit
  simp
@[simp] theorem wearConverter_keepsSaf (s0 : Device) (s : Device) (p : Nat) : KeepsSaf s0 (Machine.wearConverter s p) ↔ KeepsSaf s0 s := by
  refine KeepsSaf.iff ?_
  unfold Machine.wearConverter
  simp
@[simp] theorem wearEvaluate_keepsSaf (s0 : Device) (readings : List (Nat × Nat × Nat × Nat)) (s : Device) : KeepsSaf s0 (Machine.wearEvaluate readings s) ↔ KeepsSaf s0 s := by
  refine KeepsSaf.iff ?_
  unfold Machine.wearEvaluate
  simp
@[simp] theorem windowFlush_keepsSaf (s0 : Device) (n : Nat) (s : Device) : KeepsSaf s0 (Machine.windowFlush n s) ↔ KeepsSaf s0 s := by
  refine KeepsSaf.iff ?_
  unfold Machine.windowFlush
  simp
@[simp] theorem yieldTimeout_keepsSaf (s0 : Device) (s : Device) : KeepsSaf s0 (Machine.yieldTimeout s) ↔ KeepsSaf s0 s := by
  refine KeepsSaf.iff ?_
  unfold Machine.yieldTimeout
  split <;> simp
@[simp] theorem zEdge_keepsSaf (s0 : Device) (q : Nat) (a : Bool) (b : Bool) (s : Device) : KeepsSaf s0 (Machine.zEdge q a b s) ↔ KeepsSaf s0 s := by
  refine KeepsSaf.iff ?_
  unfold Machine.zEdge
  simp
theorem evrFlush_saf0 (x0 : Nat) (x1 : Device) : KeepsSaf x1 (Machine.evrFlush x0 x1) := by
  induction x0 generalizing x1 with
  | zero => unfold Machine.evrFlush; simp
  | succ m ih =>
    have ih' : ∀ (s0 : Device) (x10 : Device), KeepsSaf s0 (Machine.evrFlush m x10) ↔ KeepsSaf s0 x10 := fun _ x10 => (ih x10).iff
    unfold Machine.evrFlush
    repeat' (first
    | with_reducible exact KeepsSaf.refl _
    | (simp [ih']; done)
    | (with_reducible refine KeepsSaf.ite ?_ ?_)
    | (with_reducible refine KeepsSaf.foldl _ _ _ ?_ ?_; intro u x)
    | (with_reducible refine KeepsSaf.checked _ _ _ _ ?_ ?_; intro p u)
    | (with_reducible refine (spireWrite_keepsSaf _ _ _ ?_).mpr ?_; intro u)
    | (with_reducible refine (domeWrite_keepsSaf _ _ _ ?_).mpr ?_; intro u)
    | (with_reducible refine (underRec_keepsSaf _ _ _ _ _ _ _ ?_).mpr ?_; intro b u)
    | (with_reducible refine (keepWrite_keepsSaf _ _ _ _ ?_).mpr ?_; intro u)
    | (split <;> (try (rename_i h; replace h := congrArg Prod.snd h; dsimp only at h; subst h)))
    | simp [ih'])
@[simp] theorem evrFlush_keepsSaf (s0 : Device) (x0 : Nat) (x1 : Device) : KeepsSaf s0 (Machine.evrFlush x0 x1) ↔ KeepsSaf s0 x1 := (evrFlush_saf0 x0 x1).iff
@[simp] theorem ltnDeviceReset_keepsSaf (s0 : Device) (s : Device) : KeepsSaf s0 (Machine.ltnDeviceReset s) ↔ KeepsSaf s0 s := by
  refine KeepsSaf.iff ?_
  unfold Machine.ltnDeviceReset
  simp
/-- A command of another block leaves Belfry as it was, and so does the descriptor that carries it. -/
@[simp] theorem runCmd_keepsSaf (s0 : Device) (body : Pend → Device → CmdEnd) (d : Desc) (s : Device)
    (h : ∀ p u, KeepsSaf u (body p u).dev) : KeepsSaf s0 (runCmd body d s) ↔ KeepsSaf s0 s := by
  refine KeepsSaf.iff ?_
  unfold runCmd
  dsimp only
  generalize hp : Pend.mk d _ _ _ _ _ _ = p
  have h' := (h p (pmcEdge 0 128 d.ring s)).iff (s := s)
  simp only [pmcEdge_keepsSaf, KeepsSaf_self, iff_true] at h'
  generalize body p (pmcEdge 0 128 d.ring s) = e at h'
  cases e <;> simp_all [CmdEnd.dev]
end Sys2Proof.Laws
end

