-- ==== Sys2Proof/Laws/State.lean ====
section
/-!
SUPPORT. Laws/State.lean: what each named update of one part of the block leaves unchanged: every other part.
-/
namespace Sys2Proof.Laws
open Sys2Proof.Machine

@[simp] theorem accError_out (s : Device) :
    (accError s).out = s.out := rfl
@[simp] theorem accError_draws (s : Device) :
    (accError s).draws = s.draws := rfl
@[simp] theorem accError_cfg (s : Device) :
    (accError s).cfg = s.cfg := rfl
@[simp] theorem accError_dpt (s : Device) :
    (accError s).dpt = s.dpt := rfl
@[simp] theorem accError_lpe (s : Device) :
    (accError s).lpe = s.lpe := rfl
@[simp] theorem accError_trc (s : Device) :
    (accError s).trc = s.trc := rfl
@[simp] theorem accError_adc (s : Device) :
    (accError s).adc = s.adc := rfl
@[simp] theorem accError_dac (s : Device) :
    (accError s).dac = s.dac := rfl
@[simp] theorem accError_dio (s : Device) :
    (accError s).dio = s.dio := rfl
@[simp] theorem accError_tim (s : Device) :
    (accError s).tim = s.tim := rfl
@[simp] theorem accError_ltn (s : Device) :
    (accError s).ltn = s.ltn := rfl
@[simp] theorem accError_evr (s : Device) :
    (accError s).evr = s.evr := rfl
@[simp] theorem accError_pmc (s : Device) :
    (accError s).pmc = s.pmc := rfl
@[simp] theorem accError_btr (s : Device) :
    (accError s).btr = s.btr := rfl
@[simp] theorem accError_mem (s : Device) :
    (accError s).mem = s.mem := rfl
@[simp] theorem accError_mot (s : Device) :
    (accError s).mot = s.mot := rfl
@[simp] theorem accError_ccr (s : Device) :
    (accError s).ccr = s.ccr := rfl
@[simp] theorem accError_eth (s : Device) :
    (accError s).eth = s.eth := rfl
@[simp] theorem accError_sec (s : Device) :
    (accError s).sec = s.sec := rfl
@[simp] theorem accError_pgm (s : Device) :
    (accError s).pgm = s.pgm := rfl
@[simp] theorem accError_pai (s : Device) :
    (accError s).pai = s.pai := rfl
@[simp] theorem accError_kep (s : Device) :
    (accError s).kep = s.kep := rfl
@[simp] theorem accError_fbl (s : Device) :
    (accError s).fbl = s.fbl := rfl
@[simp] theorem accError_can (s : Device) :
    (accError s).can = s.can := rfl
@[simp] theorem accError_saf (s : Device) :
    (accError s).saf = s.saf := rfl
@[simp] theorem accError_spr (s : Device) :
    (accError s).spr = s.spr := rfl
@[simp] theorem accError_clk (s : Device) :
    (accError s).clk = s.clk := rfl
@[simp] theorem accError_tst (s : Device) :
    (accError s).tst = s.tst := rfl
@[simp] theorem accError_outputs (s : Device) :
    (accError s).outputs = s.outputs := rfl
@[simp] theorem accError_reports (s : Device) :
    (accError s).reports = s.reports := rfl
@[simp] theorem emit_draws (o : Out) (s : Device) :
    (emit o s).draws = s.draws := rfl
@[simp] theorem emit_hif (o : Out) (s : Device) :
    (emit o s).hif = s.hif := rfl
@[simp] theorem emit_cfg (o : Out) (s : Device) :
    (emit o s).cfg = s.cfg := rfl
@[simp] theorem emit_dpt (o : Out) (s : Device) :
    (emit o s).dpt = s.dpt := rfl
@[simp] theorem emit_lpe (o : Out) (s : Device) :
    (emit o s).lpe = s.lpe := rfl
@[simp] theorem emit_trc (o : Out) (s : Device) :
    (emit o s).trc = s.trc := rfl
@[simp] theorem emit_adc (o : Out) (s : Device) :
    (emit o s).adc = s.adc := rfl
@[simp] theorem emit_dac (o : Out) (s : Device) :
    (emit o s).dac = s.dac := rfl
@[simp] theorem emit_dio (o : Out) (s : Device) :
    (emit o s).dio = s.dio := rfl
@[simp] theorem emit_tim (o : Out) (s : Device) :
    (emit o s).tim = s.tim := rfl
@[simp] theorem emit_ltn (o : Out) (s : Device) :
    (emit o s).ltn = s.ltn := rfl
@[simp] theorem emit_evr (o : Out) (s : Device) :
    (emit o s).evr = s.evr := rfl
@[simp] theorem emit_pmc (o : Out) (s : Device) :
    (emit o s).pmc = s.pmc := rfl
@[simp] theorem emit_btr (o : Out) (s : Device) :
    (emit o s).btr = s.btr := rfl
@[simp] theorem emit_mem (o : Out) (s : Device) :
    (emit o s).mem = s.mem := rfl
@[simp] theorem emit_mot (o : Out) (s : Device) :
    (emit o s).mot = s.mot := rfl
@[simp] theorem emit_ccr (o : Out) (s : Device) :
    (emit o s).ccr = s.ccr := rfl
@[simp] theorem emit_eth (o : Out) (s : Device) :
    (emit o s).eth = s.eth := rfl
@[simp] theorem emit_sec (o : Out) (s : Device) :
    (emit o s).sec = s.sec := rfl
@[simp] theorem emit_pgm (o : Out) (s : Device) :
    (emit o s).pgm = s.pgm := rfl
@[simp] theorem emit_pai (o : Out) (s : Device) :
    (emit o s).pai = s.pai := rfl
@[simp] theorem emit_kep (o : Out) (s : Device) :
    (emit o s).kep = s.kep := rfl
@[simp] theorem emit_fbl (o : Out) (s : Device) :
    (emit o s).fbl = s.fbl := rfl
@[simp] theorem emit_can (o : Out) (s : Device) :
    (emit o s).can = s.can := rfl
@[simp] theorem emit_saf (o : Out) (s : Device) :
    (emit o s).saf = s.saf := rfl
@[simp] theorem emit_spr (o : Out) (s : Device) :
    (emit o s).spr = s.spr := rfl
@[simp] theorem emit_clk (o : Out) (s : Device) :
    (emit o s).clk = s.clk := rfl
@[simp] theorem emit_tst (o : Out) (s : Device) :
    (emit o s).tst = s.tst := rfl
@[simp] theorem emit_outputs (o : Out) (s : Device) :
    (emit o s).outputs = s.outputs := rfl
@[simp] theorem emit_reports (o : Out) (s : Device) :
    (emit o s).reports = s.reports := rfl
@[simp] theorem modRing_out (n : Nat) (f : Ring → Ring) (s : Device) :
    (modRing n f s).out = s.out := rfl
@[simp] theorem modRing_draws (n : Nat) (f : Ring → Ring) (s : Device) :
    (modRing n f s).draws = s.draws := rfl
@[simp] theorem modRing_cfg (n : Nat) (f : Ring → Ring) (s : Device) :
    (modRing n f s).cfg = s.cfg := rfl
@[simp] theorem modRing_dpt (n : Nat) (f : Ring → Ring) (s : Device) :
    (modRing n f s).dpt = s.dpt := rfl
@[simp] theorem modRing_lpe (n : Nat) (f : Ring → Ring) (s : Device) :
    (modRing n f s).lpe = s.lpe := rfl
@[simp] theorem modRing_trc (n : Nat) (f : Ring → Ring) (s : Device) :
    (modRing n f s).trc = s.trc := rfl
@[simp] theorem modRing_adc (n : Nat) (f : Ring → Ring) (s : Device) :
    (modRing n f s).adc = s.adc := rfl
@[simp] theorem modRing_dac (n : Nat) (f : Ring → Ring) (s : Device) :
    (modRing n f s).dac = s.dac := rfl
@[simp] theorem modRing_dio (n : Nat) (f : Ring → Ring) (s : Device) :
    (modRing n f s).dio = s.dio := rfl
@[simp] theorem modRing_tim (n : Nat) (f : Ring → Ring) (s : Device) :
    (modRing n f s).tim = s.tim := rfl
@[simp] theorem modRing_ltn (n : Nat) (f : Ring → Ring) (s : Device) :
    (modRing n f s).ltn = s.ltn := rfl
@[simp] theorem modRing_evr (n : Nat) (f : Ring → Ring) (s : Device) :
    (modRing n f s).evr = s.evr := rfl
@[simp] theorem modRing_pmc (n : Nat) (f : Ring → Ring) (s : Device) :
    (modRing n f s).pmc = s.pmc := rfl
@[simp] theorem modRing_btr (n : Nat) (f : Ring → Ring) (s : Device) :
    (modRing n f s).btr = s.btr := rfl
@[simp] theorem modRing_mem (n : Nat) (f : Ring → Ring) (s : Device) :
    (modRing n f s).mem = s.mem := rfl
@[simp] theorem modRing_mot (n : Nat) (f : Ring → Ring) (s : Device) :
    (modRing n f s).mot = s.mot := rfl
@[simp] theorem modRing_ccr (n : Nat) (f : Ring → Ring) (s : Device) :
    (modRing n f s).ccr = s.ccr := rfl
@[simp] theorem modRing_eth (n : Nat) (f : Ring → Ring) (s : Device) :
    (modRing n f s).eth = s.eth := rfl
@[simp] theorem modRing_sec (n : Nat) (f : Ring → Ring) (s : Device) :
    (modRing n f s).sec = s.sec := rfl
@[simp] theorem modRing_pgm (n : Nat) (f : Ring → Ring) (s : Device) :
    (modRing n f s).pgm = s.pgm := rfl
@[simp] theorem modRing_pai (n : Nat) (f : Ring → Ring) (s : Device) :
    (modRing n f s).pai = s.pai := rfl
@[simp] theorem modRing_kep (n : Nat) (f : Ring → Ring) (s : Device) :
    (modRing n f s).kep = s.kep := rfl
@[simp] theorem modRing_fbl (n : Nat) (f : Ring → Ring) (s : Device) :
    (modRing n f s).fbl = s.fbl := rfl
@[simp] theorem modRing_can (n : Nat) (f : Ring → Ring) (s : Device) :
    (modRing n f s).can = s.can := rfl
@[simp] theorem modRing_saf (n : Nat) (f : Ring → Ring) (s : Device) :
    (modRing n f s).saf = s.saf := rfl
@[simp] theorem modRing_spr (n : Nat) (f : Ring → Ring) (s : Device) :
    (modRing n f s).spr = s.spr := rfl
@[simp] theorem modRing_clk (n : Nat) (f : Ring → Ring) (s : Device) :
    (modRing n f s).clk = s.clk := rfl
@[simp] theorem modRing_tst (n : Nat) (f : Ring → Ring) (s : Device) :
    (modRing n f s).tst = s.tst := rfl
@[simp] theorem modRing_outputs (n : Nat) (f : Ring → Ring) (s : Device) :
    (modRing n f s).outputs = s.outputs := rfl
@[simp] theorem modRing_reports (n : Nat) (f : Ring → Ring) (s : Device) :
    (modRing n f s).reports = s.reports := rfl
@[simp] theorem modWin_out (w : Nat) (f : Window → Window) (s : Device) :
    (modWin w f s).out = s.out := rfl
@[simp] theorem modWin_draws (w : Nat) (f : Window → Window) (s : Device) :
    (modWin w f s).draws = s.draws := rfl
@[simp] theorem modWin_cfg (w : Nat) (f : Window → Window) (s : Device) :
    (modWin w f s).cfg = s.cfg := rfl
@[simp] theorem modWin_dpt (w : Nat) (f : Window → Window) (s : Device) :
    (modWin w f s).dpt = s.dpt := rfl
@[simp] theorem modWin_lpe (w : Nat) (f : Window → Window) (s : Device) :
    (modWin w f s).lpe = s.lpe := rfl
@[simp] theorem modWin_trc (w : Nat) (f : Window → Window) (s : Device) :
    (modWin w f s).trc = s.trc := rfl
@[simp] theorem modWin_adc (w : Nat) (f : Window → Window) (s : Device) :
    (modWin w f s).adc = s.adc := rfl
@[simp] theorem modWin_dac (w : Nat) (f : Window → Window) (s : Device) :
    (modWin w f s).dac = s.dac := rfl
@[simp] theorem modWin_dio (w : Nat) (f : Window → Window) (s : Device) :
    (modWin w f s).dio = s.dio := rfl
@[simp] theorem modWin_tim (w : Nat) (f : Window → Window) (s : Device) :
    (modWin w f s).tim = s.tim := rfl
@[simp] theorem modWin_ltn (w : Nat) (f : Window → Window) (s : Device) :
    (modWin w f s).ltn = s.ltn := rfl
@[simp] theorem modWin_evr (w : Nat) (f : Window → Window) (s : Device) :
    (modWin w f s).evr = s.evr := rfl
@[simp] theorem modWin_pmc (w : Nat) (f : Window → Window) (s : Device) :
    (modWin w f s).pmc = s.pmc := rfl
@[simp] theorem modWin_btr (w : Nat) (f : Window → Window) (s : Device) :
    (modWin w f s).btr = s.btr := rfl
@[simp] theorem modWin_mem (w : Nat) (f : Window → Window) (s : Device) :
    (modWin w f s).mem = s.mem := rfl
@[simp] theorem modWin_mot (w : Nat) (f : Window → Window) (s : Device) :
    (modWin w f s).mot = s.mot := rfl
@[simp] theorem modWin_ccr (w : Nat) (f : Window → Window) (s : Device) :
    (modWin w f s).ccr = s.ccr := rfl
@[simp] theorem modWin_eth (w : Nat) (f : Window → Window) (s : Device) :
    (modWin w f s).eth = s.eth := rfl
@[simp] theorem modWin_sec (w : Nat) (f : Window → Window) (s : Device) :
    (modWin w f s).sec = s.sec := rfl
@[simp] theorem modWin_pgm (w : Nat) (f : Window → Window) (s : Device) :
    (modWin w f s).pgm = s.pgm := rfl
@[simp] theorem modWin_pai (w : Nat) (f : Window → Window) (s : Device) :
    (modWin w f s).pai = s.pai := rfl
@[simp] theorem modWin_kep (w : Nat) (f : Window → Window) (s : Device) :
    (modWin w f s).kep = s.kep := rfl
@[simp] theorem modWin_fbl (w : Nat) (f : Window → Window) (s : Device) :
    (modWin w f s).fbl = s.fbl := rfl
@[simp] theorem modWin_can (w : Nat) (f : Window → Window) (s : Device) :
    (modWin w f s).can = s.can := rfl
@[simp] theorem modWin_saf (w : Nat) (f : Window → Window) (s : Device) :
    (modWin w f s).saf = s.saf := rfl
@[simp] theorem modWin_spr (w : Nat) (f : Window → Window) (s : Device) :
    (modWin w f s).spr = s.spr := rfl
@[simp] theorem modWin_clk (w : Nat) (f : Window → Window) (s : Device) :
    (modWin w f s).clk = s.clk := rfl
@[simp] theorem modWin_tst (w : Nat) (f : Window → Window) (s : Device) :
    (modWin w f s).tst = s.tst := rfl
@[simp] theorem modWin_outputs (w : Nat) (f : Window → Window) (s : Device) :
    (modWin w f s).outputs = s.outputs := rfl
@[simp] theorem modWin_reports (w : Nat) (f : Window → Window) (s : Device) :
    (modWin w f s).reports = s.reports := rfl
@[simp] theorem modVec_out (v : Nat) (f : Vector → Vector) (s : Device) :
    (modVec v f s).out = s.out := rfl
@[simp] theorem modVec_draws (v : Nat) (f : Vector → Vector) (s : Device) :
    (modVec v f s).draws = s.draws := rfl
@[simp] theorem modVec_cfg (v : Nat) (f : Vector → Vector) (s : Device) :
    (modVec v f s).cfg = s.cfg := rfl
@[simp] theorem modVec_dpt (v : Nat) (f : Vector → Vector) (s : Device) :
    (modVec v f s).dpt = s.dpt := rfl
@[simp] theorem modVec_lpe (v : Nat) (f : Vector → Vector) (s : Device) :
    (modVec v f s).lpe = s.lpe := rfl
@[simp] theorem modVec_trc (v : Nat) (f : Vector → Vector) (s : Device) :
    (modVec v f s).trc = s.trc := rfl
@[simp] theorem modVec_adc (v : Nat) (f : Vector → Vector) (s : Device) :
    (modVec v f s).adc = s.adc := rfl
@[simp] theorem modVec_dac (v : Nat) (f : Vector → Vector) (s : Device) :
    (modVec v f s).dac = s.dac := rfl
@[simp] theorem modVec_dio (v : Nat) (f : Vector → Vector) (s : Device) :
    (modVec v f s).dio = s.dio := rfl
@[simp] theorem modVec_tim (v : Nat) (f : Vector → Vector) (s : Device) :
    (modVec v f s).tim = s.tim := rfl
@[simp] theorem modVec_ltn (v : Nat) (f : Vector → Vector) (s : Device) :
    (modVec v f s).ltn = s.ltn := rfl
@[simp] theorem modVec_evr (v : Nat) (f : Vector → Vector) (s : Device) :
    (modVec v f s).evr = s.evr := rfl
@[simp] theorem modVec_pmc (v : Nat) (f : Vector → Vector) (s : Device) :
    (modVec v f s).pmc = s.pmc := rfl
@[simp] theorem modVec_btr (v : Nat) (f : Vector → Vector) (s : Device) :
    (modVec v f s).btr = s.btr := rfl
@[simp] theorem modVec_mem (v : Nat) (f : Vector → Vector) (s : Device) :
    (modVec v f s).mem = s.mem := rfl
@[simp] theorem modVec_mot (v : Nat) (f : Vector → Vector) (s : Device) :
    (modVec v f s).mot = s.mot := rfl
@[simp] theorem modVec_ccr (v : Nat) (f : Vector → Vector) (s : Device) :
    (modVec v f s).ccr = s.ccr := rfl
@[simp] theorem modVec_eth (v : Nat) (f : Vector → Vector) (s : Device) :
    (modVec v f s).eth = s.eth := rfl
@[simp] theorem modVec_sec (v : Nat) (f : Vector → Vector) (s : Device) :
    (modVec v f s).sec = s.sec := rfl
@[simp] theorem modVec_pgm (v : Nat) (f : Vector → Vector) (s : Device) :
    (modVec v f s).pgm = s.pgm := rfl
@[simp] theorem modVec_pai (v : Nat) (f : Vector → Vector) (s : Device) :
    (modVec v f s).pai = s.pai := rfl
@[simp] theorem modVec_kep (v : Nat) (f : Vector → Vector) (s : Device) :
    (modVec v f s).kep = s.kep := rfl
@[simp] theorem modVec_fbl (v : Nat) (f : Vector → Vector) (s : Device) :
    (modVec v f s).fbl = s.fbl := rfl
@[simp] theorem modVec_can (v : Nat) (f : Vector → Vector) (s : Device) :
    (modVec v f s).can = s.can := rfl
@[simp] theorem modVec_saf (v : Nat) (f : Vector → Vector) (s : Device) :
    (modVec v f s).saf = s.saf := rfl
@[simp] theorem modVec_spr (v : Nat) (f : Vector → Vector) (s : Device) :
    (modVec v f s).spr = s.spr := rfl
@[simp] theorem modVec_clk (v : Nat) (f : Vector → Vector) (s : Device) :
    (modVec v f s).clk = s.clk := rfl
@[simp] theorem modVec_tst (v : Nat) (f : Vector → Vector) (s : Device) :
    (modVec v f s).tst = s.tst := rfl
@[simp] theorem modVec_outputs (v : Nat) (f : Vector → Vector) (s : Device) :
    (modVec v f s).outputs = s.outputs := rfl
@[simp] theorem modVec_reports (v : Nat) (f : Vector → Vector) (s : Device) :
    (modVec v f s).reports = s.reports := rfl
@[simp] theorem modTask_out (slot : Nat) (f : Task → Task) (s : Device) :
    (modTask slot f s).out = s.out := rfl
@[simp] theorem modTask_draws (slot : Nat) (f : Task → Task) (s : Device) :
    (modTask slot f s).draws = s.draws := rfl
@[simp] theorem modTask_hif (slot : Nat) (f : Task → Task) (s : Device) :
    (modTask slot f s).hif = s.hif := rfl
@[simp] theorem modTask_cfg (slot : Nat) (f : Task → Task) (s : Device) :
    (modTask slot f s).cfg = s.cfg := rfl
@[simp] theorem modTask_lpe (slot : Nat) (f : Task → Task) (s : Device) :
    (modTask slot f s).lpe = s.lpe := rfl
@[simp] theorem modTask_trc (slot : Nat) (f : Task → Task) (s : Device) :
    (modTask slot f s).trc = s.trc := rfl
@[simp] theorem modTask_adc (slot : Nat) (f : Task → Task) (s : Device) :
    (modTask slot f s).adc = s.adc := rfl
@[simp] theorem modTask_dac (slot : Nat) (f : Task → Task) (s : Device) :
    (modTask slot f s).dac = s.dac := rfl
@[simp] theorem modTask_dio (slot : Nat) (f : Task → Task) (s : Device) :
    (modTask slot f s).dio = s.dio := rfl
@[simp] theorem modTask_tim (slot : Nat) (f : Task → Task) (s : Device) :
    (modTask slot f s).tim = s.tim := rfl
@[simp] theorem modTask_ltn (slot : Nat) (f : Task → Task) (s : Device) :
    (modTask slot f s).ltn = s.ltn := rfl
@[simp] theorem modTask_evr (slot : Nat) (f : Task → Task) (s : Device) :
    (modTask slot f s).evr = s.evr := rfl
@[simp] theorem modTask_pmc (slot : Nat) (f : Task → Task) (s : Device) :
    (modTask slot f s).pmc = s.pmc := rfl
@[simp] theorem modTask_btr (slot : Nat) (f : Task → Task) (s : Device) :
    (modTask slot f s).btr = s.btr := rfl
@[simp] theorem modTask_mem (slot : Nat) (f : Task → Task) (s : Device) :
    (modTask slot f s).mem = s.mem := rfl
@[simp] theorem modTask_mot (slot : Nat) (f : Task → Task) (s : Device) :
    (modTask slot f s).mot = s.mot := rfl
@[simp] theorem modTask_ccr (slot : Nat) (f : Task → Task) (s : Device) :
    (modTask slot f s).ccr = s.ccr := rfl
@[simp] theorem modTask_eth (slot : Nat) (f : Task → Task) (s : Device) :
    (modTask slot f s).eth = s.eth := rfl
@[simp] theorem modTask_sec (slot : Nat) (f : Task → Task) (s : Device) :
    (modTask slot f s).sec = s.sec := rfl
@[simp] theorem modTask_pgm (slot : Nat) (f : Task → Task) (s : Device) :
    (modTask slot f s).pgm = s.pgm := rfl
@[simp] theorem modTask_pai (slot : Nat) (f : Task → Task) (s : Device) :
    (modTask slot f s).pai = s.pai := rfl
@[simp] theorem modTask_kep (slot : Nat) (f : Task → Task) (s : Device) :
    (modTask slot f s).kep = s.kep := rfl
@[simp] theorem modTask_fbl (slot : Nat) (f : Task → Task) (s : Device) :
    (modTask slot f s).fbl = s.fbl := rfl
@[simp] theorem modTask_can (slot : Nat) (f : Task → Task) (s : Device) :
    (modTask slot f s).can = s.can := rfl
@[simp] theorem modTask_saf (slot : Nat) (f : Task → Task) (s : Device) :
    (modTask slot f s).saf = s.saf := rfl
@[simp] theorem modTask_spr (slot : Nat) (f : Task → Task) (s : Device) :
    (modTask slot f s).spr = s.spr := rfl
@[simp] theorem modTask_clk (slot : Nat) (f : Task → Task) (s : Device) :
    (modTask slot f s).clk = s.clk := rfl
@[simp] theorem modTask_tst (slot : Nat) (f : Task → Task) (s : Device) :
    (modTask slot f s).tst = s.tst := rfl
@[simp] theorem modTask_outputs (slot : Nat) (f : Task → Task) (s : Device) :
    (modTask slot f s).outputs = s.outputs := rfl
@[simp] theorem modTask_reports (slot : Nat) (f : Task → Task) (s : Device) :
    (modTask slot f s).reports = s.reports := rfl
@[simp] theorem modLoop_out (n : Nat) (f : LoopSt → LoopSt) (s : Device) :
    (modLoop n f s).out = s.out := rfl
@[simp] theorem modLoop_draws (n : Nat) (f : LoopSt → LoopSt) (s : Device) :
    (modLoop n f s).draws = s.draws := rfl
@[simp] theorem modLoop_hif (n : Nat) (f : LoopSt → LoopSt) (s : Device) :
    (modLoop n f s).hif = s.hif := rfl
@[simp] theorem modLoop_cfg (n : Nat) (f : LoopSt → LoopSt) (s : Device) :
    (modLoop n f s).cfg = s.cfg := rfl
@[simp] theorem modLoop_dpt (n : Nat) (f : LoopSt → LoopSt) (s : Device) :
    (modLoop n f s).dpt = s.dpt := rfl
@[simp] theorem modLoop_trc (n : Nat) (f : LoopSt → LoopSt) (s : Device) :
    (modLoop n f s).trc = s.trc := rfl
@[simp] theorem modLoop_adc (n : Nat) (f : LoopSt → LoopSt) (s : Device) :
    (modLoop n f s).adc = s.adc := rfl
@[simp] theorem modLoop_dac (n : Nat) (f : LoopSt → LoopSt) (s : Device) :
    (modLoop n f s).dac = s.dac := rfl
@[simp] theorem modLoop_dio (n : Nat) (f : LoopSt → LoopSt) (s : Device) :
    (modLoop n f s).dio = s.dio := rfl
@[simp] theorem modLoop_tim (n : Nat) (f : LoopSt → LoopSt) (s : Device) :
    (modLoop n f s).tim = s.tim := rfl
@[simp] theorem modLoop_ltn (n : Nat) (f : LoopSt → LoopSt) (s : Device) :
    (modLoop n f s).ltn = s.ltn := rfl
@[simp] theorem modLoop_evr (n : Nat) (f : LoopSt → LoopSt) (s : Device) :
    (modLoop n f s).evr = s.evr := rfl
@[simp] theorem modLoop_pmc (n : Nat) (f : LoopSt → LoopSt) (s : Device) :
    (modLoop n f s).pmc = s.pmc := rfl
@[simp] theorem modLoop_btr (n : Nat) (f : LoopSt → LoopSt) (s : Device) :
    (modLoop n f s).btr = s.btr := rfl
@[simp] theorem modLoop_mem (n : Nat) (f : LoopSt → LoopSt) (s : Device) :
    (modLoop n f s).mem = s.mem := rfl
@[simp] theorem modLoop_mot (n : Nat) (f : LoopSt → LoopSt) (s : Device) :
    (modLoop n f s).mot = s.mot := rfl
@[simp] theorem modLoop_ccr (n : Nat) (f : LoopSt → LoopSt) (s : Device) :
    (modLoop n f s).ccr = s.ccr := rfl
@[simp] theorem modLoop_eth (n : Nat) (f : LoopSt → LoopSt) (s : Device) :
    (modLoop n f s).eth = s.eth := rfl
@[simp] theorem modLoop_sec (n : Nat) (f : LoopSt → LoopSt) (s : Device) :
    (modLoop n f s).sec = s.sec := rfl
@[simp] theorem modLoop_pgm (n : Nat) (f : LoopSt → LoopSt) (s : Device) :
    (modLoop n f s).pgm = s.pgm := rfl
@[simp] theorem modLoop_pai (n : Nat) (f : LoopSt → LoopSt) (s : Device) :
    (modLoop n f s).pai = s.pai := rfl
@[simp] theorem modLoop_kep (n : Nat) (f : LoopSt → LoopSt) (s : Device) :
    (modLoop n f s).kep = s.kep := rfl
@[simp] theorem modLoop_fbl (n : Nat) (f : LoopSt → LoopSt) (s : Device) :
    (modLoop n f s).fbl = s.fbl := rfl
@[simp] theorem modLoop_can (n : Nat) (f : LoopSt → LoopSt) (s : Device) :
    (modLoop n f s).can = s.can := rfl
@[simp] theorem modLoop_saf (n : Nat) (f : LoopSt → LoopSt) (s : Device) :
    (modLoop n f s).saf = s.saf := rfl
@[simp] theorem modLoop_spr (n : Nat) (f : LoopSt → LoopSt) (s : Device) :
    (modLoop n f s).spr = s.spr := rfl
@[simp] theorem modLoop_clk (n : Nat) (f : LoopSt → LoopSt) (s : Device) :
    (modLoop n f s).clk = s.clk := rfl
@[simp] theorem modLoop_tst (n : Nat) (f : LoopSt → LoopSt) (s : Device) :
    (modLoop n f s).tst = s.tst := rfl
@[simp] theorem modLoop_outputs (n : Nat) (f : LoopSt → LoopSt) (s : Device) :
    (modLoop n f s).outputs = s.outputs := rfl
@[simp] theorem modLoop_reports (n : Nat) (f : LoopSt → LoopSt) (s : Device) :
    (modLoop n f s).reports = s.reports := rfl
@[simp] theorem modAxis_out (a : Nat) (f : Axis → Axis) (s : Device) :
    (modAxis a f s).out = s.out := rfl
@[simp] theorem modAxis_draws (a : Nat) (f : Axis → Axis) (s : Device) :
    (modAxis a f s).draws = s.draws := rfl
@[simp] theorem modAxis_hif (a : Nat) (f : Axis → Axis) (s : Device) :
    (modAxis a f s).hif = s.hif := rfl
@[simp] theorem modAxis_cfg (a : Nat) (f : Axis → Axis) (s : Device) :
    (modAxis a f s).cfg = s.cfg := rfl
@[simp] theorem modAxis_dpt (a : Nat) (f : Axis → Axis) (s : Device) :
    (modAxis a f s).dpt = s.dpt := rfl
@[simp] theorem modAxis_lpe (a : Nat) (f : Axis → Axis) (s : Device) :
    (modAxis a f s).lpe = s.lpe := rfl
@[simp] theorem modAxis_trc (a : Nat) (f : Axis → Axis) (s : Device) :
    (modAxis a f s).trc = s.trc := rfl
@[simp] theorem modAxis_adc (a : Nat) (f : Axis → Axis) (s : Device) :
    (modAxis a f s).adc = s.adc := rfl
@[simp] theorem modAxis_dac (a : Nat) (f : Axis → Axis) (s : Device) :
    (modAxis a f s).dac = s.dac := rfl
@[simp] theorem modAxis_dio (a : Nat) (f : Axis → Axis) (s : Device) :
    (modAxis a f s).dio = s.dio := rfl
@[simp] theorem modAxis_tim (a : Nat) (f : Axis → Axis) (s : Device) :
    (modAxis a f s).tim = s.tim := rfl
@[simp] theorem modAxis_ltn (a : Nat) (f : Axis → Axis) (s : Device) :
    (modAxis a f s).ltn = s.ltn := rfl
@[simp] theorem modAxis_evr (a : Nat) (f : Axis → Axis) (s : Device) :
    (modAxis a f s).evr = s.evr := rfl
@[simp] theorem modAxis_pmc (a : Nat) (f : Axis → Axis) (s : Device) :
    (modAxis a f s).pmc = s.pmc := rfl
@[simp] theorem modAxis_btr (a : Nat) (f : Axis → Axis) (s : Device) :
    (modAxis a f s).btr = s.btr := rfl
@[simp] theorem modAxis_mem (a : Nat) (f : Axis → Axis) (s : Device) :
    (modAxis a f s).mem = s.mem := rfl
@[simp] theorem modAxis_ccr (a : Nat) (f : Axis → Axis) (s : Device) :
    (modAxis a f s).ccr = s.ccr := rfl
@[simp] theorem modAxis_eth (a : Nat) (f : Axis → Axis) (s : Device) :
    (modAxis a f s).eth = s.eth := rfl
@[simp] theorem modAxis_sec (a : Nat) (f : Axis → Axis) (s : Device) :
    (modAxis a f s).sec = s.sec := rfl
@[simp] theorem modAxis_pgm (a : Nat) (f : Axis → Axis) (s : Device) :
    (modAxis a f s).pgm = s.pgm := rfl
@[simp] theorem modAxis_pai (a : Nat) (f : Axis → Axis) (s : Device) :
    (modAxis a f s).pai = s.pai := rfl
@[simp] theorem modAxis_kep (a : Nat) (f : Axis → Axis) (s : Device) :
    (modAxis a f s).kep = s.kep := rfl
@[simp] theorem modAxis_fbl (a : Nat) (f : Axis → Axis) (s : Device) :
    (modAxis a f s).fbl = s.fbl := rfl
@[simp] theorem modAxis_can (a : Nat) (f : Axis → Axis) (s : Device) :
    (modAxis a f s).can = s.can := rfl
@[simp] theorem modAxis_saf (a : Nat) (f : Axis → Axis) (s : Device) :
    (modAxis a f s).saf = s.saf := rfl
@[simp] theorem modAxis_spr (a : Nat) (f : Axis → Axis) (s : Device) :
    (modAxis a f s).spr = s.spr := rfl
@[simp] theorem modAxis_clk (a : Nat) (f : Axis → Axis) (s : Device) :
    (modAxis a f s).clk = s.clk := rfl
@[simp] theorem modAxis_tst (a : Nat) (f : Axis → Axis) (s : Device) :
    (modAxis a f s).tst = s.tst := rfl
@[simp] theorem modAxis_outputs (a : Nat) (f : Axis → Axis) (s : Device) :
    (modAxis a f s).outputs = s.outputs := rfl
@[simp] theorem modAxis_reports (a : Nat) (f : Axis → Axis) (s : Device) :
    (modAxis a f s).reports = s.reports := rfl
@[simp] theorem modPin_out (n : Nat) (f : Pin → Pin) (s : Device) :
    (modPin n f s).out = s.out := rfl
@[simp] theorem modPin_draws (n : Nat) (f : Pin → Pin) (s : Device) :
    (modPin n f s).draws = s.draws := rfl
@[simp] theorem modPin_hif (n : Nat) (f : Pin → Pin) (s : Device) :
    (modPin n f s).hif = s.hif := rfl
@[simp] theorem modPin_cfg (n : Nat) (f : Pin → Pin) (s : Device) :
    (modPin n f s).cfg = s.cfg := rfl
@[simp] theorem modPin_dpt (n : Nat) (f : Pin → Pin) (s : Device) :
    (modPin n f s).dpt = s.dpt := rfl
@[simp] theorem modPin_lpe (n : Nat) (f : Pin → Pin) (s : Device) :
    (modPin n f s).lpe = s.lpe := rfl
@[simp] theorem modPin_trc (n : Nat) (f : Pin → Pin) (s : Device) :
    (modPin n f s).trc = s.trc := rfl
@[simp] theorem modPin_adc (n : Nat) (f : Pin → Pin) (s : Device) :
    (modPin n f s).adc = s.adc := rfl
@[simp] theorem modPin_dac (n : Nat) (f : Pin → Pin) (s : Device) :
    (modPin n f s).dac = s.dac := rfl
@[simp] theorem modPin_tim (n : Nat) (f : Pin → Pin) (s : Device) :
    (modPin n f s).tim = s.tim := rfl
@[simp] theorem modPin_ltn (n : Nat) (f : Pin → Pin) (s : Device) :
    (modPin n f s).ltn = s.ltn := rfl
@[simp] theorem modPin_evr (n : Nat) (f : Pin → Pin) (s : Device) :
    (modPin n f s).evr = s.evr := rfl
@[simp] theorem modPin_pmc (n : Nat) (f : Pin → Pin) (s : Device) :
    (modPin n f s).pmc = s.pmc := rfl
@[simp] theorem modPin_btr (n : Nat) (f : Pin → Pin) (s : Device) :
    (modPin n f s).btr = s.btr := rfl
@[simp] theorem modPin_mem (n : Nat) (f : Pin → Pin) (s : Device) :
    (modPin n f s).mem = s.mem := rfl
@[simp] theorem modPin_mot (n : Nat) (f : Pin → Pin) (s : Device) :
    (modPin n f s).mot = s.mot := rfl
@[simp] theorem modPin_ccr (n : Nat) (f : Pin → Pin) (s : Device) :
    (modPin n f s).ccr = s.ccr := rfl
@[simp] theorem modPin_eth (n : Nat) (f : Pin → Pin) (s : Device) :
    (modPin n f s).eth = s.eth := rfl
@[simp] theorem modPin_sec (n : Nat) (f : Pin → Pin) (s : Device) :
    (modPin n f s).sec = s.sec := rfl
@[simp] theorem modPin_pgm (n : Nat) (f : Pin → Pin) (s : Device) :
    (modPin n f s).pgm = s.pgm := rfl
@[simp] theorem modPin_pai (n : Nat) (f : Pin → Pin) (s : Device) :
    (modPin n f s).pai = s.pai := rfl
@[simp] theorem modPin_kep (n : Nat) (f : Pin → Pin) (s : Device) :
    (modPin n f s).kep = s.kep := rfl
@[simp] theorem modPin_fbl (n : Nat) (f : Pin → Pin) (s : Device) :
    (modPin n f s).fbl = s.fbl := rfl
@[simp] theorem modPin_can (n : Nat) (f : Pin → Pin) (s : Device) :
    (modPin n f s).can = s.can := rfl
@[simp] theorem modPin_saf (n : Nat) (f : Pin → Pin) (s : Device) :
    (modPin n f s).saf = s.saf := rfl
@[simp] theorem modPin_spr (n : Nat) (f : Pin → Pin) (s : Device) :
    (modPin n f s).spr = s.spr := rfl
@[simp] theorem modPin_clk (n : Nat) (f : Pin → Pin) (s : Device) :
    (modPin n f s).clk = s.clk := rfl
@[simp] theorem modPin_tst (n : Nat) (f : Pin → Pin) (s : Device) :
    (modPin n f s).tst = s.tst := rfl
@[simp] theorem modPin_outputs (n : Nat) (f : Pin → Pin) (s : Device) :
    (modPin n f s).outputs = s.outputs := rfl
@[simp] theorem modPin_reports (n : Nat) (f : Pin → Pin) (s : Device) :
    (modPin n f s).reports = s.reports := rfl
@[simp] theorem modPort_out (n : Nat) (f : Port → Port) (s : Device) :
    (modPort n f s).out = s.out := rfl
@[simp] theorem modPort_draws (n : Nat) (f : Port → Port) (s : Device) :
    (modPort n f s).draws = s.draws := rfl
@[simp] theorem modPort_hif (n : Nat) (f : Port → Port) (s : Device) :
    (modPort n f s).hif = s.hif := rfl
@[simp] theorem modPort_cfg (n : Nat) (f : Port → Port) (s : Device) :
    (modPort n f s).cfg = s.cfg := rfl
@[simp] theorem modPort_dpt (n : Nat) (f : Port → Port) (s : Device) :
    (modPort n f s).dpt = s.dpt := rfl
@[simp] theorem modPort_lpe (n : Nat) (f : Port → Port) (s : Device) :
    (modPort n f s).lpe = s.lpe := rfl
@[simp] theorem modPort_trc (n : Nat) (f : Port → Port) (s : Device) :
    (modPort n f s).trc = s.trc := rfl
@[simp] theorem modPort_adc (n : Nat) (f : Port → Port) (s : Device) :
    (modPort n f s).adc = s.adc := rfl
@[simp] theorem modPort_dac (n : Nat) (f : Port → Port) (s : Device) :
    (modPort n f s).dac = s.dac := rfl
@[simp] theorem modPort_tim (n : Nat) (f : Port → Port) (s : Device) :
    (modPort n f s).tim = s.tim := rfl
@[simp] theorem modPort_ltn (n : Nat) (f : Port → Port) (s : Device) :
    (modPort n f s).ltn = s.ltn := rfl
@[simp] theorem modPort_evr (n : Nat) (f : Port → Port) (s : Device) :
    (modPort n f s).evr = s.evr := rfl
@[simp] theorem modPort_pmc (n : Nat) (f : Port → Port) (s : Device) :
    (modPort n f s).pmc = s.pmc := rfl
@[simp] theorem modPort_btr (n : Nat) (f : Port → Port) (s : Device) :
    (modPort n f s).btr = s.btr := rfl
@[simp] theorem modPort_mem (n : Nat) (f : Port → Port) (s : Device) :
    (modPort n f s).mem = s.mem := rfl
@[simp] theorem modPort_mot (n : Nat) (f : Port → Port) (s : Device) :
    (modPort n f s).mot = s.mot := rfl
@[simp] theorem modPort_ccr (n : Nat) (f : Port → Port) (s : Device) :
    (modPort n f s).ccr = s.ccr := rfl
@[simp] theorem modPort_eth (n : Nat) (f : Port → Port) (s : Device) :
    (modPort n f s).eth = s.eth := rfl
@[simp] theorem modPort_sec (n : Nat) (f : Port → Port) (s : Device) :
    (modPort n f s).sec = s.sec := rfl
@[simp] theorem modPort_pgm (n : Nat) (f : Port → Port) (s : Device) :
    (modPort n f s).pgm = s.pgm := rfl
@[simp] theorem modPort_pai (n : Nat) (f : Port → Port) (s : Device) :
    (modPort n f s).pai = s.pai := rfl
@[simp] theorem modPort_kep (n : Nat) (f : Port → Port) (s : Device) :
    (modPort n f s).kep = s.kep := rfl
@[simp] theorem modPort_fbl (n : Nat) (f : Port → Port) (s : Device) :
    (modPort n f s).fbl = s.fbl := rfl
@[simp] theorem modPort_can (n : Nat) (f : Port → Port) (s : Device) :
    (modPort n f s).can = s.can := rfl
@[simp] theorem modPort_saf (n : Nat) (f : Port → Port) (s : Device) :
    (modPort n f s).saf = s.saf := rfl
@[simp] theorem modPort_spr (n : Nat) (f : Port → Port) (s : Device) :
    (modPort n f s).spr = s.spr := rfl
@[simp] theorem modPort_clk (n : Nat) (f : Port → Port) (s : Device) :
    (modPort n f s).clk = s.clk := rfl
@[simp] theorem modPort_tst (n : Nat) (f : Port → Port) (s : Device) :
    (modPort n f s).tst = s.tst := rfl
@[simp] theorem modPort_outputs (n : Nat) (f : Port → Port) (s : Device) :
    (modPort n f s).outputs = s.outputs := rfl
@[simp] theorem modPort_reports (n : Nat) (f : Port → Port) (s : Device) :
    (modPort n f s).reports = s.reports := rfl
@[simp] theorem modUart_out (n : Nat) (f : Uart → Uart) (s : Device) :
    (modUart n f s).out = s.out := rfl
@[simp] theorem modUart_draws (n : Nat) (f : Uart → Uart) (s : Device) :
    (modUart n f s).draws = s.draws := rfl
@[simp] theorem modUart_hif (n : Nat) (f : Uart → Uart) (s : Device) :
    (modUart n f s).hif = s.hif := rfl
@[simp] theorem modUart_cfg (n : Nat) (f : Uart → Uart) (s : Device) :
    (modUart n f s).cfg = s.cfg := rfl
@[simp] theorem modUart_dpt (n : Nat) (f : Uart → Uart) (s : Device) :
    (modUart n f s).dpt = s.dpt := rfl
@[simp] theorem modUart_lpe (n : Nat) (f : Uart → Uart) (s : Device) :
    (modUart n f s).lpe = s.lpe := rfl
@[simp] theorem modUart_trc (n : Nat) (f : Uart → Uart) (s : Device) :
    (modUart n f s).trc = s.trc := rfl
@[simp] theorem modUart_adc (n : Nat) (f : Uart → Uart) (s : Device) :
    (modUart n f s).adc = s.adc := rfl
@[simp] theorem modUart_dac (n : Nat) (f : Uart → Uart) (s : Device) :
    (modUart n f s).dac = s.dac := rfl
@[simp] theorem modUart_tim (n : Nat) (f : Uart → Uart) (s : Device) :
    (modUart n f s).tim = s.tim := rfl
@[simp] theorem modUart_ltn (n : Nat) (f : Uart → Uart) (s : Device) :
    (modUart n f s).ltn = s.ltn := rfl
@[simp] theorem modUart_evr (n : Nat) (f : Uart → Uart) (s : Device) :
    (modUart n f s).evr = s.evr := rfl
@[simp] theorem modUart_pmc (n : Nat) (f : Uart → Uart) (s : Device) :
    (modUart n f s).pmc = s.pmc := rfl
@[simp] theorem modUart_btr (n : Nat) (f : Uart → Uart) (s : Device) :
    (modUart n f s).btr = s.btr := rfl
@[simp] theorem modUart_mem (n : Nat) (f : Uart → Uart) (s : Device) :
    (modUart n f s).mem = s.mem := rfl
@[simp] theorem modUart_mot (n : Nat) (f : Uart → Uart) (s : Device) :
    (modUart n f s).mot = s.mot := rfl
@[simp] theorem modUart_ccr (n : Nat) (f : Uart → Uart) (s : Device) :
    (modUart n f s).ccr = s.ccr := rfl
@[simp] theorem modUart_eth (n : Nat) (f : Uart → Uart) (s : Device) :
    (modUart n f s).eth = s.eth := rfl
@[simp] theorem modUart_sec (n : Nat) (f : Uart → Uart) (s : Device) :
    (modUart n f s).sec = s.sec := rfl
@[simp] theorem modUart_pgm (n : Nat) (f : Uart → Uart) (s : Device) :
    (modUart n f s).pgm = s.pgm := rfl
@[simp] theorem modUart_pai (n : Nat) (f : Uart → Uart) (s : Device) :
    (modUart n f s).pai = s.pai := rfl
@[simp] theorem modUart_kep (n : Nat) (f : Uart → Uart) (s : Device) :
    (modUart n f s).kep = s.kep := rfl
@[simp] theorem modUart_fbl (n : Nat) (f : Uart → Uart) (s : Device) :
    (modUart n f s).fbl = s.fbl := rfl
@[simp] theorem modUart_can (n : Nat) (f : Uart → Uart) (s : Device) :
    (modUart n f s).can = s.can := rfl
@[simp] theorem modUart_saf (n : Nat) (f : Uart → Uart) (s : Device) :
    (modUart n f s).saf = s.saf := rfl
@[simp] theorem modUart_spr (n : Nat) (f : Uart → Uart) (s : Device) :
    (modUart n f s).spr = s.spr := rfl
@[simp] theorem modUart_clk (n : Nat) (f : Uart → Uart) (s : Device) :
    (modUart n f s).clk = s.clk := rfl
@[simp] theorem modUart_tst (n : Nat) (f : Uart → Uart) (s : Device) :
    (modUart n f s).tst = s.tst := rfl
@[simp] theorem modUart_outputs (n : Nat) (f : Uart → Uart) (s : Device) :
    (modUart n f s).outputs = s.outputs := rfl
@[simp] theorem modUart_reports (n : Nat) (f : Uart → Uart) (s : Device) :
    (modUart n f s).reports = s.reports := rfl
@[simp] theorem modDac_out (n : Nat) (f : DacCh → DacCh) (s : Device) :
    (modDac n f s).out = s.out := rfl
@[simp] theorem modDac_draws (n : Nat) (f : DacCh → DacCh) (s : Device) :
    (modDac n f s).draws = s.draws := rfl
@[simp] theorem modDac_hif (n : Nat) (f : DacCh → DacCh) (s : Device) :
    (modDac n f s).hif = s.hif := rfl
@[simp] theorem modDac_cfg (n : Nat) (f : DacCh → DacCh) (s : Device) :
    (modDac n f s).cfg = s.cfg := rfl
@[simp] theorem modDac_dpt (n : Nat) (f : DacCh → DacCh) (s : Device) :
    (modDac n f s).dpt = s.dpt := rfl
@[simp] theorem modDac_lpe (n : Nat) (f : DacCh → DacCh) (s : Device) :
    (modDac n f s).lpe = s.lpe := rfl
@[simp] theorem modDac_trc (n : Nat) (f : DacCh → DacCh) (s : Device) :
    (modDac n f s).trc = s.trc := rfl
@[simp] theorem modDac_adc (n : Nat) (f : DacCh → DacCh) (s : Device) :
    (modDac n f s).adc = s.adc := rfl
@[simp] theorem modDac_dio (n : Nat) (f : DacCh → DacCh) (s : Device) :
    (modDac n f s).dio = s.dio := rfl
@[simp] theorem modDac_tim (n : Nat) (f : DacCh → DacCh) (s : Device) :
    (modDac n f s).tim = s.tim := rfl
@[simp] theorem modDac_ltn (n : Nat) (f : DacCh → DacCh) (s : Device) :
    (modDac n f s).ltn = s.ltn := rfl
@[simp] theorem modDac_evr (n : Nat) (f : DacCh → DacCh) (s : Device) :
    (modDac n f s).evr = s.evr := rfl
@[simp] theorem modDac_pmc (n : Nat) (f : DacCh → DacCh) (s : Device) :
    (modDac n f s).pmc = s.pmc := rfl
@[simp] theorem modDac_btr (n : Nat) (f : DacCh → DacCh) (s : Device) :
    (modDac n f s).btr = s.btr := rfl
@[simp] theorem modDac_mem (n : Nat) (f : DacCh → DacCh) (s : Device) :
    (modDac n f s).mem = s.mem := rfl
@[simp] theorem modDac_mot (n : Nat) (f : DacCh → DacCh) (s : Device) :
    (modDac n f s).mot = s.mot := rfl
@[simp] theorem modDac_ccr (n : Nat) (f : DacCh → DacCh) (s : Device) :
    (modDac n f s).ccr = s.ccr := rfl
@[simp] theorem modDac_eth (n : Nat) (f : DacCh → DacCh) (s : Device) :
    (modDac n f s).eth = s.eth := rfl
@[simp] theorem modDac_sec (n : Nat) (f : DacCh → DacCh) (s : Device) :
    (modDac n f s).sec = s.sec := rfl
@[simp] theorem modDac_pgm (n : Nat) (f : DacCh → DacCh) (s : Device) :
    (modDac n f s).pgm = s.pgm := rfl
@[simp] theorem modDac_pai (n : Nat) (f : DacCh → DacCh) (s : Device) :
    (modDac n f s).pai = s.pai := rfl
@[simp] theorem modDac_kep (n : Nat) (f : DacCh → DacCh) (s : Device) :
    (modDac n f s).kep = s.kep := rfl
@[simp] theorem modDac_fbl (n : Nat) (f : DacCh → DacCh) (s : Device) :
    (modDac n f s).fbl = s.fbl := rfl
@[simp] theorem modDac_can (n : Nat) (f : DacCh → DacCh) (s : Device) :
    (modDac n f s).can = s.can := rfl
@[simp] theorem modDac_saf (n : Nat) (f : DacCh → DacCh) (s : Device) :
    (modDac n f s).saf = s.saf := rfl
@[simp] theorem modDac_spr (n : Nat) (f : DacCh → DacCh) (s : Device) :
    (modDac n f s).spr = s.spr := rfl
@[simp] theorem modDac_clk (n : Nat) (f : DacCh → DacCh) (s : Device) :
    (modDac n f s).clk = s.clk := rfl
@[simp] theorem modDac_tst (n : Nat) (f : DacCh → DacCh) (s : Device) :
    (modDac n f s).tst = s.tst := rfl
@[simp] theorem modDac_outputs (n : Nat) (f : DacCh → DacCh) (s : Device) :
    (modDac n f s).outputs = s.outputs := rfl
@[simp] theorem modDac_reports (n : Nat) (f : DacCh → DacCh) (s : Device) :
    (modDac n f s).reports = s.reports := rfl
@[simp] theorem modPulse_out (n : Nat) (f : Pulse → Pulse) (s : Device) :
    (modPulse n f s).out = s.out := rfl
@[simp] theorem modPulse_draws (n : Nat) (f : Pulse → Pulse) (s : Device) :
    (modPulse n f s).draws = s.draws := rfl
@[simp] theorem modPulse_hif (n : Nat) (f : Pulse → Pulse) (s : Device) :
    (modPulse n f s).hif = s.hif := rfl
@[simp] theorem modPulse_cfg (n : Nat) (f : Pulse → Pulse) (s : Device) :
    (modPulse n f s).cfg = s.cfg := rfl
@[simp] theorem modPulse_dpt (n : Nat) (f : Pulse → Pulse) (s : Device) :
    (modPulse n f s).dpt = s.dpt := rfl
@[simp] theorem modPulse_lpe (n : Nat) (f : Pulse → Pulse) (s : Device) :
    (modPulse n f s).lpe = s.lpe := rfl
@[simp] theorem modPulse_trc (n : Nat) (f : Pulse → Pulse) (s : Device) :
    (modPulse n f s).trc = s.trc := rfl
@[simp] theorem modPulse_adc (n : Nat) (f : Pulse → Pulse) (s : Device) :
    (modPulse n f s).adc = s.adc := rfl
@[simp] theorem modPulse_dac (n : Nat) (f : Pulse → Pulse) (s : Device) :
    (modPulse n f s).dac = s.dac := rfl
@[simp] theorem modPulse_tim (n : Nat) (f : Pulse → Pulse) (s : Device) :
    (modPulse n f s).tim = s.tim := rfl
@[simp] theorem modPulse_ltn (n : Nat) (f : Pulse → Pulse) (s : Device) :
    (modPulse n f s).ltn = s.ltn := rfl
@[simp] theorem modPulse_evr (n : Nat) (f : Pulse → Pulse) (s : Device) :
    (modPulse n f s).evr = s.evr := rfl
@[simp] theorem modPulse_pmc (n : Nat) (f : Pulse → Pulse) (s : Device) :
    (modPulse n f s).pmc = s.pmc := rfl
@[simp] theorem modPulse_btr (n : Nat) (f : Pulse → Pulse) (s : Device) :
    (modPulse n f s).btr = s.btr := rfl
@[simp] theorem modPulse_mem (n : Nat) (f : Pulse → Pulse) (s : Device) :
    (modPulse n f s).mem = s.mem := rfl
@[simp] theorem modPulse_mot (n : Nat) (f : Pulse → Pulse) (s : Device) :
    (modPulse n f s).mot = s.mot := rfl
@[simp] theorem modPulse_ccr (n : Nat) (f : Pulse → Pulse) (s : Device) :
    (modPulse n f s).ccr = s.ccr := rfl
@[simp] theorem modPulse_eth (n : Nat) (f : Pulse → Pulse) (s : Device) :
    (modPulse n f s).eth = s.eth := rfl
@[simp] theorem modPulse_sec (n : Nat) (f : Pulse → Pulse) (s : Device) :
    (modPulse n f s).sec = s.sec := rfl
@[simp] theorem modPulse_pgm (n : Nat) (f : Pulse → Pulse) (s : Device) :
    (modPulse n f s).pgm = s.pgm := rfl
@[simp] theorem modPulse_pai (n : Nat) (f : Pulse → Pulse) (s : Device) :
    (modPulse n f s).pai = s.pai := rfl
@[simp] theorem modPulse_kep (n : Nat) (f : Pulse → Pulse) (s : Device) :
    (modPulse n f s).kep = s.kep := rfl
@[simp] theorem modPulse_fbl (n : Nat) (f : Pulse → Pulse) (s : Device) :
    (modPulse n f s).fbl = s.fbl := rfl
@[simp] theorem modPulse_can (n : Nat) (f : Pulse → Pulse) (s : Device) :
    (modPulse n f s).can = s.can := rfl
@[simp] theorem modPulse_saf (n : Nat) (f : Pulse → Pulse) (s : Device) :
    (modPulse n f s).saf = s.saf := rfl
@[simp] theorem modPulse_spr (n : Nat) (f : Pulse → Pulse) (s : Device) :
    (modPulse n f s).spr = s.spr := rfl
@[simp] theorem modPulse_clk (n : Nat) (f : Pulse → Pulse) (s : Device) :
    (modPulse n f s).clk = s.clk := rfl
@[simp] theorem modPulse_tst (n : Nat) (f : Pulse → Pulse) (s : Device) :
    (modPulse n f s).tst = s.tst := rfl
@[simp] theorem modPulse_outputs (n : Nat) (f : Pulse → Pulse) (s : Device) :
    (modPulse n f s).outputs = s.outputs := rfl
@[simp] theorem modPulse_reports (n : Nat) (f : Pulse → Pulse) (s : Device) :
    (modPulse n f s).reports = s.reports := rfl
@[simp] theorem modProg_out (p : Nat) (f : Prog → Prog) (s : Device) :
    (modProg p f s).out = s.out := rfl
@[simp] theorem modProg_draws (p : Nat) (f : Prog → Prog) (s : Device) :
    (modProg p f s).draws = s.draws := rfl
@[simp] theorem modProg_hif (p : Nat) (f : Prog → Prog) (s : Device) :
    (modProg p f s).hif = s.hif := rfl
@[simp] theorem modProg_cfg (p : Nat) (f : Prog → Prog) (s : Device) :
    (modProg p f s).cfg = s.cfg := rfl
@[simp] theorem modProg_dpt (p : Nat) (f : Prog → Prog) (s : Device) :
    (modProg p f s).dpt = s.dpt := rfl
@[simp] theorem modProg_lpe (p : Nat) (f : Prog → Prog) (s : Device) :
    (modProg p f s).lpe = s.lpe := rfl
@[simp] theorem modProg_trc (p : Nat) (f : Prog → Prog) (s : Device) :
    (modProg p f s).trc = s.trc := rfl
@[simp] theorem modProg_adc (p : Nat) (f : Prog → Prog) (s : Device) :
    (modProg p f s).adc = s.adc := rfl
@[simp] theorem modProg_dac (p : Nat) (f : Prog → Prog) (s : Device) :
    (modProg p f s).dac = s.dac := rfl
@[simp] theorem modProg_dio (p : Nat) (f : Prog → Prog) (s : Device) :
    (modProg p f s).dio = s.dio := rfl
@[simp] theorem modProg_tim (p : Nat) (f : Prog → Prog) (s : Device) :
    (modProg p f s).tim = s.tim := rfl
@[simp] theorem modProg_ltn (p : Nat) (f : Prog → Prog) (s : Device) :
    (modProg p f s).ltn = s.ltn := rfl
@[simp] theorem modProg_evr (p : Nat) (f : Prog → Prog) (s : Device) :
    (modProg p f s).evr = s.evr := rfl
@[simp] theorem modProg_pmc (p : Nat) (f : Prog → Prog) (s : Device) :
    (modProg p f s).pmc = s.pmc := rfl
@[simp] theorem modProg_btr (p : Nat) (f : Prog → Prog) (s : Device) :
    (modProg p f s).btr = s.btr := rfl
@[simp] theorem modProg_mem (p : Nat) (f : Prog → Prog) (s : Device) :
    (modProg p f s).mem = s.mem := rfl
@[simp] theorem modProg_mot (p : Nat) (f : Prog → Prog) (s : Device) :
    (modProg p f s).mot = s.mot := rfl
@[simp] theorem modProg_ccr (p : Nat) (f : Prog → Prog) (s : Device) :
    (modProg p f s).ccr = s.ccr := rfl
@[simp] theorem modProg_eth (p : Nat) (f : Prog → Prog) (s : Device) :
    (modProg p f s).eth = s.eth := rfl
@[simp] theorem modProg_sec (p : Nat) (f : Prog → Prog) (s : Device) :
    (modProg p f s).sec = s.sec := rfl
@[simp] theorem modProg_pai (p : Nat) (f : Prog → Prog) (s : Device) :
    (modProg p f s).pai = s.pai := rfl
@[simp] theorem modProg_kep (p : Nat) (f : Prog → Prog) (s : Device) :
    (modProg p f s).kep = s.kep := rfl
@[simp] theorem modProg_fbl (p : Nat) (f : Prog → Prog) (s : Device) :
    (modProg p f s).fbl = s.fbl := rfl
@[simp] theorem modProg_can (p : Nat) (f : Prog → Prog) (s : Device) :
    (modProg p f s).can = s.can := rfl
@[simp] theorem modProg_saf (p : Nat) (f : Prog → Prog) (s : Device) :
    (modProg p f s).saf = s.saf := rfl
@[simp] theorem modProg_spr (p : Nat) (f : Prog → Prog) (s : Device) :
    (modProg p f s).spr = s.spr := rfl
@[simp] theorem modProg_clk (p : Nat) (f : Prog → Prog) (s : Device) :
    (modProg p f s).clk = s.clk := rfl
@[simp] theorem modProg_tst (p : Nat) (f : Prog → Prog) (s : Device) :
    (modProg p f s).tst = s.tst := rfl
@[simp] theorem modProg_outputs (p : Nat) (f : Prog → Prog) (s : Device) :
    (modProg p f s).outputs = s.outputs := rfl
@[simp] theorem modProg_reports (p : Nat) (f : Prog → Prog) (s : Device) :
    (modProg p f s).reports = s.reports := rfl
@[simp] theorem modCore_out (c : Nat) (f : Core → Core) (s : Device) :
    (modCore c f s).out = s.out := rfl
@[simp] theorem modCore_draws (c : Nat) (f : Core → Core) (s : Device) :
    (modCore c f s).draws = s.draws := rfl
@[simp] theorem modCore_hif (c : Nat) (f : Core → Core) (s : Device) :
    (modCore c f s).hif = s.hif := rfl
@[simp] theorem modCore_cfg (c : Nat) (f : Core → Core) (s : Device) :
    (modCore c f s).cfg = s.cfg := rfl
@[simp] theorem modCore_dpt (c : Nat) (f : Core → Core) (s : Device) :
    (modCore c f s).dpt = s.dpt := rfl
@[simp] theorem modCore_lpe (c : Nat) (f : Core → Core) (s : Device) :
    (modCore c f s).lpe = s.lpe := rfl
@[simp] theorem modCore_trc (c : Nat) (f : Core → Core) (s : Device) :
    (modCore c f s).trc = s.trc := rfl
@[simp] theorem modCore_adc (c : Nat) (f : Core → Core) (s : Device) :
    (modCore c f s).adc = s.adc := rfl
@[simp] theorem modCore_dac (c : Nat) (f : Core → Core) (s : Device) :
    (modCore c f s).dac = s.dac := rfl
@[simp] theorem modCore_dio (c : Nat) (f : Core → Core) (s : Device) :
    (modCore c f s).dio = s.dio := rfl
@[simp] theorem modCore_tim (c : Nat) (f : Core → Core) (s : Device) :
    (modCore c f s).tim = s.tim := rfl
@[simp] theorem modCore_ltn (c : Nat) (f : Core → Core) (s : Device) :
    (modCore c f s).ltn = s.ltn := rfl
@[simp] theorem modCore_evr (c : Nat) (f : Core → Core) (s : Device) :
    (modCore c f s).evr = s.evr := rfl
@[simp] theorem modCore_pmc (c : Nat) (f : Core → Core) (s : Device) :
    (modCore c f s).pmc = s.pmc := rfl
@[simp] theorem modCore_btr (c : Nat) (f : Core → Core) (s : Device) :
    (modCore c f s).btr = s.btr := rfl
@[simp] theorem modCore_mem (c : Nat) (f : Core → Core) (s : Device) :
    (modCore c f s).mem = s.mem := rfl
@[simp] theorem modCore_mot (c : Nat) (f : Core → Core) (s : Device) :
    (modCore c f s).mot = s.mot := rfl
@[simp] theorem modCore_ccr (c : Nat) (f : Core → Core) (s : Device) :
    (modCore c f s).ccr = s.ccr := rfl
@[simp] theorem modCore_eth (c : Nat) (f : Core → Core) (s : Device) :
    (modCore c f s).eth = s.eth := rfl
@[simp] theorem modCore_sec (c : Nat) (f : Core → Core) (s : Device) :
    (modCore c f s).sec = s.sec := rfl
@[simp] theorem modCore_pai (c : Nat) (f : Core → Core) (s : Device) :
    (modCore c f s).pai = s.pai := rfl
@[simp] theorem modCore_kep (c : Nat) (f : Core → Core) (s : Device) :
    (modCore c f s).kep = s.kep := rfl
@[simp] theorem modCore_fbl (c : Nat) (f : Core → Core) (s : Device) :
    (modCore c f s).fbl = s.fbl := rfl
@[simp] theorem modCore_can (c : Nat) (f : Core → Core) (s : Device) :
    (modCore c f s).can = s.can := rfl
@[simp] theorem modCore_saf (c : Nat) (f : Core → Core) (s : Device) :
    (modCore c f s).saf = s.saf := rfl
@[simp] theorem modCore_spr (c : Nat) (f : Core → Core) (s : Device) :
    (modCore c f s).spr = s.spr := rfl
@[simp] theorem modCore_clk (c : Nat) (f : Core → Core) (s : Device) :
    (modCore c f s).clk = s.clk := rfl
@[simp] theorem modCore_tst (c : Nat) (f : Core → Core) (s : Device) :
    (modCore c f s).tst = s.tst := rfl
@[simp] theorem modCore_outputs (c : Nat) (f : Core → Core) (s : Device) :
    (modCore c f s).outputs = s.outputs := rfl
@[simp] theorem modCore_reports (c : Nat) (f : Core → Core) (s : Device) :
    (modCore c f s).reports = s.reports := rfl
@[simp] theorem modConv_out (c : Nat) (f : Conv → Conv) (s : Device) :
    (modConv c f s).out = s.out := rfl
@[simp] theorem modConv_draws (c : Nat) (f : Conv → Conv) (s : Device) :
    (modConv c f s).draws = s.draws := rfl
@[simp] theorem modConv_hif (c : Nat) (f : Conv → Conv) (s : Device) :
    (modConv c f s).hif = s.hif := rfl
@[simp] theorem modConv_cfg (c : Nat) (f : Conv → Conv) (s : Device) :
    (modConv c f s).cfg = s.cfg := rfl
@[simp] theorem modConv_dpt (c : Nat) (f : Conv → Conv) (s : Device) :
    (modConv c f s).dpt = s.dpt := rfl
@[simp] theorem modConv_lpe (c : Nat) (f : Conv → Conv) (s : Device) :
    (modConv c f s).lpe = s.lpe := rfl
@[simp] theorem modConv_trc (c : Nat) (f : Conv → Conv) (s : Device) :
    (modConv c f s).trc = s.trc := rfl
@[simp] theorem modConv_dac (c : Nat) (f : Conv → Conv) (s : Device) :
    (modConv c f s).dac = s.dac := rfl
@[simp] theorem modConv_dio (c : Nat) (f : Conv → Conv) (s : Device) :
    (modConv c f s).dio = s.dio := rfl
@[simp] theorem modConv_tim (c : Nat) (f : Conv → Conv) (s : Device) :
    (modConv c f s).tim = s.tim := rfl
@[simp] theorem modConv_ltn (c : Nat) (f : Conv → Conv) (s : Device) :
    (modConv c f s).ltn = s.ltn := rfl
@[simp] theorem modConv_evr (c : Nat) (f : Conv → Conv) (s : Device) :
    (modConv c f s).evr = s.evr := rfl
@[simp] theorem modConv_pmc (c : Nat) (f : Conv → Conv) (s : Device) :
    (modConv c f s).pmc = s.pmc := rfl
@[simp] theorem modConv_btr (c : Nat) (f : Conv → Conv) (s : Device) :
    (modConv c f s).btr = s.btr := rfl
@[simp] theorem modConv_mem (c : Nat) (f : Conv → Conv) (s : Device) :
    (modConv c f s).mem = s.mem := rfl
@[simp] theorem modConv_mot (c : Nat) (f : Conv → Conv) (s : Device) :
    (modConv c f s).mot = s.mot := rfl
@[simp] theorem modConv_ccr (c : Nat) (f : Conv → Conv) (s : Device) :
    (modConv c f s).ccr = s.ccr := rfl
@[simp] theorem modConv_eth (c : Nat) (f : Conv → Conv) (s : Device) :
    (modConv c f s).eth = s.eth := rfl
@[simp] theorem modConv_sec (c : Nat) (f : Conv → Conv) (s : Device) :
    (modConv c f s).sec = s.sec := rfl
@[simp] theorem modConv_pgm (c : Nat) (f : Conv → Conv) (s : Device) :
    (modConv c f s).pgm = s.pgm := rfl
@[simp] theorem modConv_pai (c : Nat) (f : Conv → Conv) (s : Device) :
    (modConv c f s).pai = s.pai := rfl
@[simp] theorem modConv_kep (c : Nat) (f : Conv → Conv) (s : Device) :
    (modConv c f s).kep = s.kep := rfl
@[simp] theorem modConv_fbl (c : Nat) (f : Conv → Conv) (s : Device) :
    (modConv c f s).fbl = s.fbl := rfl
@[simp] theorem modConv_can (c : Nat) (f : Conv → Conv) (s : Device) :
    (modConv c f s).can = s.can := rfl
@[simp] theorem modConv_saf (c : Nat) (f : Conv → Conv) (s : Device) :
    (modConv c f s).saf = s.saf := rfl
@[simp] theorem modConv_spr (c : Nat) (f : Conv → Conv) (s : Device) :
    (modConv c f s).spr = s.spr := rfl
@[simp] theorem modConv_clk (c : Nat) (f : Conv → Conv) (s : Device) :
    (modConv c f s).clk = s.clk := rfl
@[simp] theorem modConv_tst (c : Nat) (f : Conv → Conv) (s : Device) :
    (modConv c f s).tst = s.tst := rfl
@[simp] theorem modConv_outputs (c : Nat) (f : Conv → Conv) (s : Device) :
    (modConv c f s).outputs = s.outputs := rfl
@[simp] theorem modConv_reports (c : Nat) (f : Conv → Conv) (s : Device) :
    (modConv c f s).reports = s.reports := rfl
@[simp] theorem modChan_out (n : Nat) (f : AdcChan → AdcChan) (s : Device) :
    (modChan n f s).out = s.out := rfl
@[simp] theorem modChan_draws (n : Nat) (f : AdcChan → AdcChan) (s : Device) :
    (modChan n f s).draws = s.draws := rfl
@[simp] theorem modChan_hif (n : Nat) (f : AdcChan → AdcChan) (s : Device) :
    (modChan n f s).hif = s.hif := rfl
@[simp] theorem modChan_cfg (n : Nat) (f : AdcChan → AdcChan) (s : Device) :
    (modChan n f s).cfg = s.cfg := rfl
@[simp] theorem modChan_dpt (n : Nat) (f : AdcChan → AdcChan) (s : Device) :
    (modChan n f s).dpt = s.dpt := rfl
@[simp] theorem modChan_lpe (n : Nat) (f : AdcChan → AdcChan) (s : Device) :
    (modChan n f s).lpe = s.lpe := rfl
@[simp] theorem modChan_trc (n : Nat) (f : AdcChan → AdcChan) (s : Device) :
    (modChan n f s).trc = s.trc := rfl
@[simp] theorem modChan_dac (n : Nat) (f : AdcChan → AdcChan) (s : Device) :
    (modChan n f s).dac = s.dac := rfl
@[simp] theorem modChan_dio (n : Nat) (f : AdcChan → AdcChan) (s : Device) :
    (modChan n f s).dio = s.dio := rfl
@[simp] theorem modChan_tim (n : Nat) (f : AdcChan → AdcChan) (s : Device) :
    (modChan n f s).tim = s.tim := rfl
@[simp] theorem modChan_ltn (n : Nat) (f : AdcChan → AdcChan) (s : Device) :
    (modChan n f s).ltn = s.ltn := rfl
@[simp] theorem modChan_evr (n : Nat) (f : AdcChan → AdcChan) (s : Device) :
    (modChan n f s).evr = s.evr := rfl
@[simp] theorem modChan_pmc (n : Nat) (f : AdcChan → AdcChan) (s : Device) :
    (modChan n f s).pmc = s.pmc := rfl
@[simp] theorem modChan_btr (n : Nat) (f : AdcChan → AdcChan) (s : Device) :
    (modChan n f s).btr = s.btr := rfl
@[simp] theorem modChan_mem (n : Nat) (f : AdcChan → AdcChan) (s : Device) :
    (modChan n f s).mem = s.mem := rfl
@[simp] theorem modChan_mot (n : Nat) (f : AdcChan → AdcChan) (s : Device) :
    (modChan n f s).mot = s.mot := rfl
@[simp] theorem modChan_ccr (n : Nat) (f : AdcChan → AdcChan) (s : Device) :
    (modChan n f s).ccr = s.ccr := rfl
@[simp] theorem modChan_eth (n : Nat) (f : AdcChan → AdcChan) (s : Device) :
    (modChan n f s).eth = s.eth := rfl
@[simp] theorem modChan_sec (n : Nat) (f : AdcChan → AdcChan) (s : Device) :
    (modChan n f s).sec = s.sec := rfl
@[simp] theorem modChan_pgm (n : Nat) (f : AdcChan → AdcChan) (s : Device) :
    (modChan n f s).pgm = s.pgm := rfl
@[simp] theorem modChan_pai (n : Nat) (f : AdcChan → AdcChan) (s : Device) :
    (modChan n f s).pai = s.pai := rfl
@[simp] theorem modChan_kep (n : Nat) (f : AdcChan → AdcChan) (s : Device) :
    (modChan n f s).kep = s.kep := rfl
@[simp] theorem modChan_fbl (n : Nat) (f : AdcChan → AdcChan) (s : Device) :
    (modChan n f s).fbl = s.fbl := rfl
@[simp] theorem modChan_can (n : Nat) (f : AdcChan → AdcChan) (s : Device) :
    (modChan n f s).can = s.can := rfl
@[simp] theorem modChan_saf (n : Nat) (f : AdcChan → AdcChan) (s : Device) :
    (modChan n f s).saf = s.saf := rfl
@[simp] theorem modChan_spr (n : Nat) (f : AdcChan → AdcChan) (s : Device) :
    (modChan n f s).spr = s.spr := rfl
@[simp] theorem modChan_clk (n : Nat) (f : AdcChan → AdcChan) (s : Device) :
    (modChan n f s).clk = s.clk := rfl
@[simp] theorem modChan_tst (n : Nat) (f : AdcChan → AdcChan) (s : Device) :
    (modChan n f s).tst = s.tst := rfl
@[simp] theorem modChan_outputs (n : Nat) (f : AdcChan → AdcChan) (s : Device) :
    (modChan n f s).outputs = s.outputs := rfl
@[simp] theorem modChan_reports (n : Nat) (f : AdcChan → AdcChan) (s : Device) :
    (modChan n f s).reports = s.reports := rfl
@[simp] theorem modAbuf_out (c : Nat) (f : AdcBuf → AdcBuf) (s : Device) :
    (modAbuf c f s).out = s.out := rfl
@[simp] theorem modAbuf_draws (c : Nat) (f : AdcBuf → AdcBuf) (s : Device) :
    (modAbuf c f s).draws = s.draws := rfl
@[simp] theorem modAbuf_hif (c : Nat) (f : AdcBuf → AdcBuf) (s : Device) :
    (modAbuf c f s).hif = s.hif := rfl
@[simp] theorem modAbuf_cfg (c : Nat) (f : AdcBuf → AdcBuf) (s : Device) :
    (modAbuf c f s).cfg = s.cfg := rfl
@[simp] theorem modAbuf_dpt (c : Nat) (f : AdcBuf → AdcBuf) (s : Device) :
    (modAbuf c f s).dpt = s.dpt := rfl
@[simp] theorem modAbuf_lpe (c : Nat) (f : AdcBuf → AdcBuf) (s : Device) :
    (modAbuf c f s).lpe = s.lpe := rfl
@[simp] theorem modAbuf_trc (c : Nat) (f : AdcBuf → AdcBuf) (s : Device) :
    (modAbuf c f s).trc = s.trc := rfl
@[simp] theorem modAbuf_dac (c : Nat) (f : AdcBuf → AdcBuf) (s : Device) :
    (modAbuf c f s).dac = s.dac := rfl
@[simp] theorem modAbuf_dio (c : Nat) (f : AdcBuf → AdcBuf) (s : Device) :
    (modAbuf c f s).dio = s.dio := rfl
@[simp] theorem modAbuf_tim (c : Nat) (f : AdcBuf → AdcBuf) (s : Device) :
    (modAbuf c f s).tim = s.tim := rfl
@[simp] theorem modAbuf_ltn (c : Nat) (f : AdcBuf → AdcBuf) (s : Device) :
    (modAbuf c f s).ltn = s.ltn := rfl
@[simp] theorem modAbuf_evr (c : Nat) (f : AdcBuf → AdcBuf) (s : Device) :
    (modAbuf c f s).evr = s.evr := rfl
@[simp] theorem modAbuf_pmc (c : Nat) (f : AdcBuf → AdcBuf) (s : Device) :
    (modAbuf c f s).pmc = s.pmc := rfl
@[simp] theorem modAbuf_btr (c : Nat) (f : AdcBuf → AdcBuf) (s : Device) :
    (modAbuf c f s).btr = s.btr := rfl
@[simp] theorem modAbuf_mem (c : Nat) (f : AdcBuf → AdcBuf) (s : Device) :
    (modAbuf c f s).mem = s.mem := rfl
@[simp] theorem modAbuf_mot (c : Nat) (f : AdcBuf → AdcBuf) (s : Device) :
    (modAbuf c f s).mot = s.mot := rfl
@[simp] theorem modAbuf_ccr (c : Nat) (f : AdcBuf → AdcBuf) (s : Device) :
    (modAbuf c f s).ccr = s.ccr := rfl
@[simp] theorem modAbuf_eth (c : Nat) (f : AdcBuf → AdcBuf) (s : Device) :
    (modAbuf c f s).eth = s.eth := rfl
@[simp] theorem modAbuf_sec (c : Nat) (f : AdcBuf → AdcBuf) (s : Device) :
    (modAbuf c f s).sec = s.sec := rfl
@[simp] theorem modAbuf_pgm (c : Nat) (f : AdcBuf → AdcBuf) (s : Device) :
    (modAbuf c f s).pgm = s.pgm := rfl
@[simp] theorem modAbuf_pai (c : Nat) (f : AdcBuf → AdcBuf) (s : Device) :
    (modAbuf c f s).pai = s.pai := rfl
@[simp] theorem modAbuf_kep (c : Nat) (f : AdcBuf → AdcBuf) (s : Device) :
    (modAbuf c f s).kep = s.kep := rfl
@[simp] theorem modAbuf_fbl (c : Nat) (f : AdcBuf → AdcBuf) (s : Device) :
    (modAbuf c f s).fbl = s.fbl := rfl
@[simp] theorem modAbuf_can (c : Nat) (f : AdcBuf → AdcBuf) (s : Device) :
    (modAbuf c f s).can = s.can := rfl
@[simp] theorem modAbuf_saf (c : Nat) (f : AdcBuf → AdcBuf) (s : Device) :
    (modAbuf c f s).saf = s.saf := rfl
@[simp] theorem modAbuf_spr (c : Nat) (f : AdcBuf → AdcBuf) (s : Device) :
    (modAbuf c f s).spr = s.spr := rfl
@[simp] theorem modAbuf_clk (c : Nat) (f : AdcBuf → AdcBuf) (s : Device) :
    (modAbuf c f s).clk = s.clk := rfl
@[simp] theorem modAbuf_tst (c : Nat) (f : AdcBuf → AdcBuf) (s : Device) :
    (modAbuf c f s).tst = s.tst := rfl
@[simp] theorem modAbuf_outputs (c : Nat) (f : AdcBuf → AdcBuf) (s : Device) :
    (modAbuf c f s).outputs = s.outputs := rfl
@[simp] theorem modAbuf_reports (c : Nat) (f : AdcBuf → AdcBuf) (s : Device) :
    (modAbuf c f s).reports = s.reports := rfl
@[simp] theorem modEport_out (p : Nat) (f : EthPort → EthPort) (s : Device) :
    (modEport p f s).out = s.out := rfl
@[simp] theorem modEport_draws (p : Nat) (f : EthPort → EthPort) (s : Device) :
    (modEport p f s).draws = s.draws := rfl
@[simp] theorem modEport_hif (p : Nat) (f : EthPort → EthPort) (s : Device) :
    (modEport p f s).hif = s.hif := rfl
@[simp] theorem modEport_cfg (p : Nat) (f : EthPort → EthPort) (s : Device) :
    (modEport p f s).cfg = s.cfg := rfl
@[simp] theorem modEport_dpt (p : Nat) (f : EthPort → EthPort) (s : Device) :
    (modEport p f s).dpt = s.dpt := rfl
@[simp] theorem modEport_lpe (p : Nat) (f : EthPort → EthPort) (s : Device) :
    (modEport p f s).lpe = s.lpe := rfl
@[simp] theorem modEport_trc (p : Nat) (f : EthPort → EthPort) (s : Device) :
    (modEport p f s).trc = s.trc := rfl
@[simp] theorem modEport_adc (p : Nat) (f : EthPort → EthPort) (s : Device) :
    (modEport p f s).adc = s.adc := rfl
@[simp] theorem modEport_dac (p : Nat) (f : EthPort → EthPort) (s : Device) :
    (modEport p f s).dac = s.dac := rfl
@[simp] theorem modEport_dio (p : Nat) (f : EthPort → EthPort) (s : Device) :
    (modEport p f s).dio = s.dio := rfl
@[simp] theorem modEport_tim (p : Nat) (f : EthPort → EthPort) (s : Device) :
    (modEport p f s).tim = s.tim := rfl
@[simp] theorem modEport_ltn (p : Nat) (f : EthPort → EthPort) (s : Device) :
    (modEport p f s).ltn = s.ltn := rfl
@[simp] theorem modEport_evr (p : Nat) (f : EthPort → EthPort) (s : Device) :
    (modEport p f s).evr = s.evr := rfl
@[simp] theorem modEport_pmc (p : Nat) (f : EthPort → EthPort) (s : Device) :
    (modEport p f s).pmc = s.pmc := rfl
@[simp] theorem modEport_btr (p : Nat) (f : EthPort → EthPort) (s : Device) :
    (modEport p f s).btr = s.btr := rfl
@[simp] theorem modEport_mem (p : Nat) (f : EthPort → EthPort) (s : Device) :
    (modEport p f s).mem = s.mem := rfl
@[simp] theorem modEport_mot (p : Nat) (f : EthPort → EthPort) (s : Device) :
    (modEport p f s).mot = s.mot := rfl
@[simp] theorem modEport_ccr (p : Nat) (f : EthPort → EthPort) (s : Device) :
    (modEport p f s).ccr = s.ccr := rfl
@[simp] theorem modEport_sec (p : Nat) (f : EthPort → EthPort) (s : Device) :
    (modEport p f s).sec = s.sec := rfl
@[simp] theorem modEport_pgm (p : Nat) (f : EthPort → EthPort) (s : Device) :
    (modEport p f s).pgm = s.pgm := rfl
@[simp] theorem modEport_pai (p : Nat) (f : EthPort → EthPort) (s : Device) :
    (modEport p f s).pai = s.pai := rfl
@[simp] theorem modEport_kep (p : Nat) (f : EthPort → EthPort) (s : Device) :
    (modEport p f s).kep = s.kep := rfl
@[simp] theorem modEport_fbl (p : Nat) (f : EthPort → EthPort) (s : Device) :
    (modEport p f s).fbl = s.fbl := rfl
@[simp] theorem modEport_can (p : Nat) (f : EthPort → EthPort) (s : Device) :
    (modEport p f s).can = s.can := rfl
@[simp] theorem modEport_saf (p : Nat) (f : EthPort → EthPort) (s : Device) :
    (modEport p f s).saf = s.saf := rfl
@[simp] theorem modEport_spr (p : Nat) (f : EthPort → EthPort) (s : Device) :
    (modEport p f s).spr = s.spr := rfl
@[simp] theorem modEport_clk (p : Nat) (f : EthPort → EthPort) (s : Device) :
    (modEport p f s).clk = s.clk := rfl
@[simp] theorem modEport_tst (p : Nat) (f : EthPort → EthPort) (s : Device) :
    (modEport p f s).tst = s.tst := rfl
@[simp] theorem modEport_outputs (p : Nat) (f : EthPort → EthPort) (s : Device) :
    (modEport p f s).outputs = s.outputs := rfl
@[simp] theorem modEport_reports (p : Nat) (f : EthPort → EthPort) (s : Device) :
    (modEport p f s).reports = s.reports := rfl
@[simp] theorem modDir_out (d : Nat) (f : BtrDir → BtrDir) (s : Device) :
    (modDir d f s).out = s.out := rfl
@[simp] theorem modDir_draws (d : Nat) (f : BtrDir → BtrDir) (s : Device) :
    (modDir d f s).draws = s.draws := rfl
@[simp] theorem modDir_hif (d : Nat) (f : BtrDir → BtrDir) (s : Device) :
    (modDir d f s).hif = s.hif := rfl
@[simp] theorem modDir_cfg (d : Nat) (f : BtrDir → BtrDir) (s : Device) :
    (modDir d f s).cfg = s.cfg := rfl
@[simp] theorem modDir_dpt (d : Nat) (f : BtrDir → BtrDir) (s : Device) :
    (modDir d f s).dpt = s.dpt := rfl
@[simp] theorem modDir_lpe (d : Nat) (f : BtrDir → BtrDir) (s : Device) :
    (modDir d f s).lpe = s.lpe := rfl
@[simp] theorem modDir_trc (d : Nat) (f : BtrDir → BtrDir) (s : Device) :
    (modDir d f s).trc = s.trc := rfl
@[simp] theorem modDir_adc (d : Nat) (f : BtrDir → BtrDir) (s : Device) :
    (modDir d f s).adc = s.adc := rfl
@[simp] theorem modDir_dac (d : Nat) (f : BtrDir → BtrDir) (s : Device) :
    (modDir d f s).dac = s.dac := rfl
@[simp] theorem modDir_dio (d : Nat) (f : BtrDir → BtrDir) (s : Device) :
    (modDir d f s).dio = s.dio := rfl
@[simp] theorem modDir_tim (d : Nat) (f : BtrDir → BtrDir) (s : Device) :
    (modDir d f s).tim = s.tim := rfl
@[simp] theorem modDir_ltn (d : Nat) (f : BtrDir → BtrDir) (s : Device) :
    (modDir d f s).ltn = s.ltn := rfl
@[simp] theorem modDir_evr (d : Nat) (f : BtrDir → BtrDir) (s : Device) :
    (modDir d f s).evr = s.evr := rfl
@[simp] theorem modDir_pmc (d : Nat) (f : BtrDir → BtrDir) (s : Device) :
    (modDir d f s).pmc = s.pmc := rfl
@[simp] theorem modDir_mem (d : Nat) (f : BtrDir → BtrDir) (s : Device) :
    (modDir d f s).mem = s.mem := rfl
@[simp] theorem modDir_mot (d : Nat) (f : BtrDir → BtrDir) (s : Device) :
    (modDir d f s).mot = s.mot := rfl
@[simp] theorem modDir_ccr (d : Nat) (f : BtrDir → BtrDir) (s : Device) :
    (modDir d f s).ccr = s.ccr := rfl
@[simp] theorem modDir_eth (d : Nat) (f : BtrDir → BtrDir) (s : Device) :
    (modDir d f s).eth = s.eth := rfl
@[simp] theorem modDir_sec (d : Nat) (f : BtrDir → BtrDir) (s : Device) :
    (modDir d f s).sec = s.sec := rfl
@[simp] theorem modDir_pgm (d : Nat) (f : BtrDir → BtrDir) (s : Device) :
    (modDir d f s).pgm = s.pgm := rfl
@[simp] theorem modDir_pai (d : Nat) (f : BtrDir → BtrDir) (s : Device) :
    (modDir d f s).pai = s.pai := rfl
@[simp] theorem modDir_kep (d : Nat) (f : BtrDir → BtrDir) (s : Device) :
    (modDir d f s).kep = s.kep := rfl
@[simp] theorem modDir_fbl (d : Nat) (f : BtrDir → BtrDir) (s : Device) :
    (modDir d f s).fbl = s.fbl := rfl
@[simp] theorem modDir_can (d : Nat) (f : BtrDir → BtrDir) (s : Device) :
    (modDir d f s).can = s.can := rfl
@[simp] theorem modDir_saf (d : Nat) (f : BtrDir → BtrDir) (s : Device) :
    (modDir d f s).saf = s.saf := rfl
@[simp] theorem modDir_spr (d : Nat) (f : BtrDir → BtrDir) (s : Device) :
    (modDir d f s).spr = s.spr := rfl
@[simp] theorem modDir_clk (d : Nat) (f : BtrDir → BtrDir) (s : Device) :
    (modDir d f s).clk = s.clk := rfl
@[simp] theorem modDir_tst (d : Nat) (f : BtrDir → BtrDir) (s : Device) :
    (modDir d f s).tst = s.tst := rfl
@[simp] theorem modDir_outputs (d : Nat) (f : BtrDir → BtrDir) (s : Device) :
    (modDir d f s).outputs = s.outputs := rfl
@[simp] theorem modDir_reports (d : Nat) (f : BtrDir → BtrDir) (s : Device) :
    (modDir d f s).reports = s.reports := rfl
@[simp] theorem modStn_out (n : Nat) (f : Station → Station) (s : Device) :
    (modStn n f s).out = s.out := rfl
@[simp] theorem modStn_draws (n : Nat) (f : Station → Station) (s : Device) :
    (modStn n f s).draws = s.draws := rfl
@[simp] theorem modStn_hif (n : Nat) (f : Station → Station) (s : Device) :
    (modStn n f s).hif = s.hif := rfl
@[simp] theorem modStn_cfg (n : Nat) (f : Station → Station) (s : Device) :
    (modStn n f s).cfg = s.cfg := rfl
@[simp] theorem modStn_dpt (n : Nat) (f : Station → Station) (s : Device) :
    (modStn n f s).dpt = s.dpt := rfl
@[simp] theorem modStn_lpe (n : Nat) (f : Station → Station) (s : Device) :
    (modStn n f s).lpe = s.lpe := rfl
@[simp] theorem modStn_trc (n : Nat) (f : Station → Station) (s : Device) :
    (modStn n f s).trc = s.trc := rfl
@[simp] theorem modStn_adc (n : Nat) (f : Station → Station) (s : Device) :
    (modStn n f s).adc = s.adc := rfl
@[simp] theorem modStn_dac (n : Nat) (f : Station → Station) (s : Device) :
    (modStn n f s).dac = s.dac := rfl
@[simp] theorem modStn_dio (n : Nat) (f : Station → Station) (s : Device) :
    (modStn n f s).dio = s.dio := rfl
@[simp] theorem modStn_tim (n : Nat) (f : Station → Station) (s : Device) :
    (modStn n f s).tim = s.tim := rfl
@[simp] theorem modStn_ltn (n : Nat) (f : Station → Station) (s : Device) :
    (modStn n f s).ltn = s.ltn := rfl
@[simp] theorem modStn_evr (n : Nat) (f : Station → Station) (s : Device) :
    (modStn n f s).evr = s.evr := rfl
@[simp] theorem modStn_pmc (n : Nat) (f : Station → Station) (s : Device) :
    (modStn n f s).pmc = s.pmc := rfl
@[simp] theorem modStn_btr (n : Nat) (f : Station → Station) (s : Device) :
    (modStn n f s).btr = s.btr := rfl
@[simp] theorem modStn_mem (n : Nat) (f : Station → Station) (s : Device) :
    (modStn n f s).mem = s.mem := rfl
@[simp] theorem modStn_mot (n : Nat) (f : Station → Station) (s : Device) :
    (modStn n f s).mot = s.mot := rfl
@[simp] theorem modStn_ccr (n : Nat) (f : Station → Station) (s : Device) :
    (modStn n f s).ccr = s.ccr := rfl
@[simp] theorem modStn_sec (n : Nat) (f : Station → Station) (s : Device) :
    (modStn n f s).sec = s.sec := rfl
@[simp] theorem modStn_pgm (n : Nat) (f : Station → Station) (s : Device) :
    (modStn n f s).pgm = s.pgm := rfl
@[simp] theorem modStn_pai (n : Nat) (f : Station → Station) (s : Device) :
    (modStn n f s).pai = s.pai := rfl
@[simp] theorem modStn_kep (n : Nat) (f : Station → Station) (s : Device) :
    (modStn n f s).kep = s.kep := rfl
@[simp] theorem modStn_fbl (n : Nat) (f : Station → Station) (s : Device) :
    (modStn n f s).fbl = s.fbl := rfl
@[simp] theorem modStn_can (n : Nat) (f : Station → Station) (s : Device) :
    (modStn n f s).can = s.can := rfl
@[simp] theorem modStn_saf (n : Nat) (f : Station → Station) (s : Device) :
    (modStn n f s).saf = s.saf := rfl
@[simp] theorem modStn_spr (n : Nat) (f : Station → Station) (s : Device) :
    (modStn n f s).spr = s.spr := rfl
@[simp] theorem modStn_clk (n : Nat) (f : Station → Station) (s : Device) :
    (modStn n f s).clk = s.clk := rfl
@[simp] theorem modStn_tst (n : Nat) (f : Station → Station) (s : Device) :
    (modStn n f s).tst = s.tst := rfl
@[simp] theorem modStn_outputs (n : Nat) (f : Station → Station) (s : Device) :
    (modStn n f s).outputs = s.outputs := rfl
@[simp] theorem modStn_reports (n : Nat) (f : Station → Station) (s : Device) :
    (modStn n f s).reports = s.reports := rfl
@[simp] theorem modDom_out (d : Nat) (f : TimDomain → TimDomain) (s : Device) :
    (modDom d f s).out = s.out := rfl
@[simp] theorem modDom_draws (d : Nat) (f : TimDomain → TimDomain) (s : Device) :
    (modDom d f s).draws = s.draws := rfl
@[simp] theorem modDom_hif (d : Nat) (f : TimDomain → TimDomain) (s : Device) :
    (modDom d f s).hif = s.hif := rfl
@[simp] theorem modDom_cfg (d : Nat) (f : TimDomain → TimDomain) (s : Device) :
    (modDom d f s).cfg = s.cfg := rfl
@[simp] theorem modDom_dpt (d : Nat) (f : TimDomain → TimDomain) (s : Device) :
    (modDom d f s).dpt = s.dpt := rfl
@[simp] theorem modDom_lpe (d : Nat) (f : TimDomain → TimDomain) (s : Device) :
    (modDom d f s).lpe = s.lpe := rfl
@[simp] theorem modDom_trc (d : Nat) (f : TimDomain → TimDomain) (s : Device) :
    (modDom d f s).trc = s.trc := rfl
@[simp] theorem modDom_adc (d : Nat) (f : TimDomain → TimDomain) (s : Device) :
    (modDom d f s).adc = s.adc := rfl
@[simp] theorem modDom_dac (d : Nat) (f : TimDomain → TimDomain) (s : Device) :
    (modDom d f s).dac = s.dac := rfl
@[simp] theorem modDom_dio (d : Nat) (f : TimDomain → TimDomain) (s : Device) :
    (modDom d f s).dio = s.dio := rfl
@[simp] theorem modDom_ltn (d : Nat) (f : TimDomain → TimDomain) (s : Device) :
    (modDom d f s).ltn = s.ltn := rfl
@[simp] theorem modDom_evr (d : Nat) (f : TimDomain → TimDomain) (s : Device) :
    (modDom d f s).evr = s.evr := rfl
@[simp] theorem modDom_pmc (d : Nat) (f : TimDomain → TimDomain) (s : Device) :
    (modDom d f s).pmc = s.pmc := rfl
@[simp] theorem modDom_btr (d : Nat) (f : TimDomain → TimDomain) (s : Device) :
    (modDom d f s).btr = s.btr := rfl
@[simp] theorem modDom_mem (d : Nat) (f : TimDomain → TimDomain) (s : Device) :
    (modDom d f s).mem = s.mem := rfl
@[simp] theorem modDom_mot (d : Nat) (f : TimDomain → TimDomain) (s : Device) :
    (modDom d f s).mot = s.mot := rfl
@[simp] theorem modDom_ccr (d : Nat) (f : TimDomain → TimDomain) (s : Device) :
    (modDom d f s).ccr = s.ccr := rfl
@[simp] theorem modDom_eth (d : Nat) (f : TimDomain → TimDomain) (s : Device) :
    (modDom d f s).eth = s.eth := rfl
@[simp] theorem modDom_sec (d : Nat) (f : TimDomain → TimDomain) (s : Device) :
    (modDom d f s).sec = s.sec := rfl
@[simp] theorem modDom_pgm (d : Nat) (f : TimDomain → TimDomain) (s : Device) :
    (modDom d f s).pgm = s.pgm := rfl
@[simp] theorem modDom_pai (d : Nat) (f : TimDomain → TimDomain) (s : Device) :
    (modDom d f s).pai = s.pai := rfl
@[simp] theorem modDom_kep (d : Nat) (f : TimDomain → TimDomain) (s : Device) :
    (modDom d f s).kep = s.kep := rfl
@[simp] theorem modDom_fbl (d : Nat) (f : TimDomain → TimDomain) (s : Device) :
    (modDom d f s).fbl = s.fbl := rfl
@[simp] theorem modDom_can (d : Nat) (f : TimDomain → TimDomain) (s : Device) :
    (modDom d f s).can = s.can := rfl
@[simp] theorem modDom_saf (d : Nat) (f : TimDomain → TimDomain) (s : Device) :
    (modDom d f s).saf = s.saf := rfl
@[simp] theorem modDom_spr (d : Nat) (f : TimDomain → TimDomain) (s : Device) :
    (modDom d f s).spr = s.spr := rfl
@[simp] theorem modDom_clk (d : Nat) (f : TimDomain → TimDomain) (s : Device) :
    (modDom d f s).clk = s.clk := rfl
@[simp] theorem modDom_tst (d : Nat) (f : TimDomain → TimDomain) (s : Device) :
    (modDom d f s).tst = s.tst := rfl
@[simp] theorem modDom_outputs (d : Nat) (f : TimDomain → TimDomain) (s : Device) :
    (modDom d f s).outputs = s.outputs := rfl
@[simp] theorem modDom_reports (d : Nat) (f : TimDomain → TimDomain) (s : Device) :
    (modDom d f s).reports = s.reports := rfl
@[simp] theorem modCtl_out (n : Nat) (f : CanCtl → CanCtl) (s : Device) :
    (modCtl n f s).out = s.out := rfl
@[simp] theorem modCtl_draws (n : Nat) (f : CanCtl → CanCtl) (s : Device) :
    (modCtl n f s).draws = s.draws := rfl
@[simp] theorem modCtl_hif (n : Nat) (f : CanCtl → CanCtl) (s : Device) :
    (modCtl n f s).hif = s.hif := rfl
@[simp] theorem modCtl_cfg (n : Nat) (f : CanCtl → CanCtl) (s : Device) :
    (modCtl n f s).cfg = s.cfg := rfl
@[simp] theorem modCtl_dpt (n : Nat) (f : CanCtl → CanCtl) (s : Device) :
    (modCtl n f s).dpt = s.dpt := rfl
@[simp] theorem modCtl_lpe (n : Nat) (f : CanCtl → CanCtl) (s : Device) :
    (modCtl n f s).lpe = s.lpe := rfl
@[simp] theorem modCtl_trc (n : Nat) (f : CanCtl → CanCtl) (s : Device) :
    (modCtl n f s).trc = s.trc := rfl
@[simp] theorem modCtl_adc (n : Nat) (f : CanCtl → CanCtl) (s : Device) :
    (modCtl n f s).adc = s.adc := rfl
@[simp] theorem modCtl_dac (n : Nat) (f : CanCtl → CanCtl) (s : Device) :
    (modCtl n f s).dac = s.dac := rfl
@[simp] theorem modCtl_dio (n : Nat) (f : CanCtl → CanCtl) (s : Device) :
    (modCtl n f s).dio = s.dio := rfl
@[simp] theorem modCtl_tim (n : Nat) (f : CanCtl → CanCtl) (s : Device) :
    (modCtl n f s).tim = s.tim := rfl
@[simp] theorem modCtl_ltn (n : Nat) (f : CanCtl → CanCtl) (s : Device) :
    (modCtl n f s).ltn = s.ltn := rfl
@[simp] theorem modCtl_evr (n : Nat) (f : CanCtl → CanCtl) (s : Device) :
    (modCtl n f s).evr = s.evr := rfl
@[simp] theorem modCtl_pmc (n : Nat) (f : CanCtl → CanCtl) (s : Device) :
    (modCtl n f s).pmc = s.pmc := rfl
@[simp] theorem modCtl_btr (n : Nat) (f : CanCtl → CanCtl) (s : Device) :
    (modCtl n f s).btr = s.btr := rfl
@[simp] theorem modCtl_mem (n : Nat) (f : CanCtl → CanCtl) (s : Device) :
    (modCtl n f s).mem = s.mem := rfl
@[simp] theorem modCtl_mot (n : Nat) (f : CanCtl → CanCtl) (s : Device) :
    (modCtl n f s).mot = s.mot := rfl
@[simp] theorem modCtl_ccr (n : Nat) (f : CanCtl → CanCtl) (s : Device) :
    (modCtl n f s).ccr = s.ccr := rfl
@[simp] theorem modCtl_eth (n : Nat) (f : CanCtl → CanCtl) (s : Device) :
    (modCtl n f s).eth = s.eth := rfl
@[simp] theorem modCtl_sec (n : Nat) (f : CanCtl → CanCtl) (s : Device) :
    (modCtl n f s).sec = s.sec := rfl
@[simp] theorem modCtl_pgm (n : Nat) (f : CanCtl → CanCtl) (s : Device) :
    (modCtl n f s).pgm = s.pgm := rfl
@[simp] theorem modCtl_pai (n : Nat) (f : CanCtl → CanCtl) (s : Device) :
    (modCtl n f s).pai = s.pai := rfl
@[simp] theorem modCtl_kep (n : Nat) (f : CanCtl → CanCtl) (s : Device) :
    (modCtl n f s).kep = s.kep := rfl
@[simp] theorem modCtl_fbl (n : Nat) (f : CanCtl → CanCtl) (s : Device) :
    (modCtl n f s).fbl = s.fbl := rfl
@[simp] theorem modCtl_saf (n : Nat) (f : CanCtl → CanCtl) (s : Device) :
    (modCtl n f s).saf = s.saf := rfl
@[simp] theorem modCtl_spr (n : Nat) (f : CanCtl → CanCtl) (s : Device) :
    (modCtl n f s).spr = s.spr := rfl
@[simp] theorem modCtl_clk (n : Nat) (f : CanCtl → CanCtl) (s : Device) :
    (modCtl n f s).clk = s.clk := rfl
@[simp] theorem modCtl_tst (n : Nat) (f : CanCtl → CanCtl) (s : Device) :
    (modCtl n f s).tst = s.tst := rfl
@[simp] theorem modCtl_outputs (n : Nat) (f : CanCtl → CanCtl) (s : Device) :
    (modCtl n f s).outputs = s.outputs := rfl
@[simp] theorem modCtl_reports (n : Nat) (f : CanCtl → CanCtl) (s : Device) :
    (modCtl n f s).reports = s.reports := rfl
@[simp] theorem modDrive_out (m : Nat) (f : Drive → Drive) (s : Device) :
    (modDrive m f s).out = s.out := rfl
@[simp] theorem modDrive_draws (m : Nat) (f : Drive → Drive) (s : Device) :
    (modDrive m f s).draws = s.draws := rfl
@[simp] theorem modDrive_hif (m : Nat) (f : Drive → Drive) (s : Device) :
    (modDrive m f s).hif = s.hif := rfl
@[simp] theorem modDrive_cfg (m : Nat) (f : Drive → Drive) (s : Device) :
    (modDrive m f s).cfg = s.cfg := rfl
@[simp] theorem modDrive_dpt (m : Nat) (f : Drive → Drive) (s : Device) :
    (modDrive m f s).dpt = s.dpt := rfl
@[simp] theorem modDrive_lpe (m : Nat) (f : Drive → Drive) (s : Device) :
    (modDrive m f s).lpe = s.lpe := rfl
@[simp] theorem modDrive_trc (m : Nat) (f : Drive → Drive) (s : Device) :
    (modDrive m f s).trc = s.trc := rfl
@[simp] theorem modDrive_adc (m : Nat) (f : Drive → Drive) (s : Device) :
    (modDrive m f s).adc = s.adc := rfl
@[simp] theorem modDrive_dac (m : Nat) (f : Drive → Drive) (s : Device) :
    (modDrive m f s).dac = s.dac := rfl
@[simp] theorem modDrive_dio (m : Nat) (f : Drive → Drive) (s : Device) :
    (modDrive m f s).dio = s.dio := rfl
@[simp] theorem modDrive_tim (m : Nat) (f : Drive → Drive) (s : Device) :
    (modDrive m f s).tim = s.tim := rfl
@[simp] theorem modDrive_ltn (m : Nat) (f : Drive → Drive) (s : Device) :
    (modDrive m f s).ltn = s.ltn := rfl
@[simp] theorem modDrive_evr (m : Nat) (f : Drive → Drive) (s : Device) :
    (modDrive m f s).evr = s.evr := rfl
@[simp] theorem modDrive_pmc (m : Nat) (f : Drive → Drive) (s : Device) :
    (modDrive m f s).pmc = s.pmc := rfl
@[simp] theorem modDrive_btr (m : Nat) (f : Drive → Drive) (s : Device) :
    (modDrive m f s).btr = s.btr := rfl
@[simp] theorem modDrive_mem (m : Nat) (f : Drive → Drive) (s : Device) :
    (modDrive m f s).mem = s.mem := rfl
@[simp] theorem modDrive_mot (m : Nat) (f : Drive → Drive) (s : Device) :
    (modDrive m f s).mot = s.mot := rfl
@[simp] theorem modDrive_eth (m : Nat) (f : Drive → Drive) (s : Device) :
    (modDrive m f s).eth = s.eth := rfl
@[simp] theorem modDrive_sec (m : Nat) (f : Drive → Drive) (s : Device) :
    (modDrive m f s).sec = s.sec := rfl
@[simp] theorem modDrive_pgm (m : Nat) (f : Drive → Drive) (s : Device) :
    (modDrive m f s).pgm = s.pgm := rfl
@[simp] theorem modDrive_pai (m : Nat) (f : Drive → Drive) (s : Device) :
    (modDrive m f s).pai = s.pai := rfl
@[simp] theorem modDrive_kep (m : Nat) (f : Drive → Drive) (s : Device) :
    (modDrive m f s).kep = s.kep := rfl
@[simp] theorem modDrive_fbl (m : Nat) (f : Drive → Drive) (s : Device) :
    (modDrive m f s).fbl = s.fbl := rfl
@[simp] theorem modDrive_can (m : Nat) (f : Drive → Drive) (s : Device) :
    (modDrive m f s).can = s.can := rfl
@[simp] theorem modDrive_saf (m : Nat) (f : Drive → Drive) (s : Device) :
    (modDrive m f s).saf = s.saf := rfl
@[simp] theorem modDrive_spr (m : Nat) (f : Drive → Drive) (s : Device) :
    (modDrive m f s).spr = s.spr := rfl
@[simp] theorem modDrive_clk (m : Nat) (f : Drive → Drive) (s : Device) :
    (modDrive m f s).clk = s.clk := rfl
@[simp] theorem modDrive_tst (m : Nat) (f : Drive → Drive) (s : Device) :
    (modDrive m f s).tst = s.tst := rfl
@[simp] theorem modDrive_outputs (m : Nat) (f : Drive → Drive) (s : Device) :
    (modDrive m f s).outputs = s.outputs := rfl
@[simp] theorem modDrive_reports (m : Nat) (f : Drive → Drive) (s : Device) :
    (modDrive m f s).reports = s.reports := rfl
@[simp] theorem modLchan_out (c : Nat) (f : Channel → Channel) (s : Device) :
    (modLchan c f s).out = s.out := rfl
@[simp] theorem modLchan_draws (c : Nat) (f : Channel → Channel) (s : Device) :
    (modLchan c f s).draws = s.draws := rfl
@[simp] theorem modLchan_hif (c : Nat) (f : Channel → Channel) (s : Device) :
    (modLchan c f s).hif = s.hif := rfl
@[simp] theorem modLchan_cfg (c : Nat) (f : Channel → Channel) (s : Device) :
    (modLchan c f s).cfg = s.cfg := rfl
@[simp] theorem modLchan_dpt (c : Nat) (f : Channel → Channel) (s : Device) :
    (modLchan c f s).dpt = s.dpt := rfl
@[simp] theorem modLchan_lpe (c : Nat) (f : Channel → Channel) (s : Device) :
    (modLchan c f s).lpe = s.lpe := rfl
@[simp] theorem modLchan_trc (c : Nat) (f : Channel → Channel) (s : Device) :
    (modLchan c f s).trc = s.trc := rfl
@[simp] theorem modLchan_adc (c : Nat) (f : Channel → Channel) (s : Device) :
    (modLchan c f s).adc = s.adc := rfl
@[simp] theorem modLchan_dac (c : Nat) (f : Channel → Channel) (s : Device) :
    (modLchan c f s).dac = s.dac := rfl
@[simp] theorem modLchan_dio (c : Nat) (f : Channel → Channel) (s : Device) :
    (modLchan c f s).dio = s.dio := rfl
@[simp] theorem modLchan_tim (c : Nat) (f : Channel → Channel) (s : Device) :
    (modLchan c f s).tim = s.tim := rfl
@[simp] theorem modLchan_evr (c : Nat) (f : Channel → Channel) (s : Device) :
    (modLchan c f s).evr = s.evr := rfl
@[simp] theorem modLchan_pmc (c : Nat) (f : Channel → Channel) (s : Device) :
    (modLchan c f s).pmc = s.pmc := rfl
@[simp] theorem modLchan_btr (c : Nat) (f : Channel → Channel) (s : Device) :
    (modLchan c f s).btr = s.btr := rfl
@[simp] theorem modLchan_mem (c : Nat) (f : Channel → Channel) (s : Device) :
    (modLchan c f s).mem = s.mem := rfl
@[simp] theorem modLchan_mot (c : Nat) (f : Channel → Channel) (s : Device) :
    (modLchan c f s).mot = s.mot := rfl
@[simp] theorem modLchan_ccr (c : Nat) (f : Channel → Channel) (s : Device) :
    (modLchan c f s).ccr = s.ccr := rfl
@[simp] theorem modLchan_eth (c : Nat) (f : Channel → Channel) (s : Device) :
    (modLchan c f s).eth = s.eth := rfl
@[simp] theorem modLchan_sec (c : Nat) (f : Channel → Channel) (s : Device) :
    (modLchan c f s).sec = s.sec := rfl
@[simp] theorem modLchan_pgm (c : Nat) (f : Channel → Channel) (s : Device) :
    (modLchan c f s).pgm = s.pgm := rfl
@[simp] theorem modLchan_pai (c : Nat) (f : Channel → Channel) (s : Device) :
    (modLchan c f s).pai = s.pai := rfl
@[simp] theorem modLchan_kep (c : Nat) (f : Channel → Channel) (s : Device) :
    (modLchan c f s).kep = s.kep := rfl
@[simp] theorem modLchan_fbl (c : Nat) (f : Channel → Channel) (s : Device) :
    (modLchan c f s).fbl = s.fbl := rfl
@[simp] theorem modLchan_can (c : Nat) (f : Channel → Channel) (s : Device) :
    (modLchan c f s).can = s.can := rfl
@[simp] theorem modLchan_saf (c : Nat) (f : Channel → Channel) (s : Device) :
    (modLchan c f s).saf = s.saf := rfl
@[simp] theorem modLchan_spr (c : Nat) (f : Channel → Channel) (s : Device) :
    (modLchan c f s).spr = s.spr := rfl
@[simp] theorem modLchan_clk (c : Nat) (f : Channel → Channel) (s : Device) :
    (modLchan c f s).clk = s.clk := rfl
@[simp] theorem modLchan_tst (c : Nat) (f : Channel → Channel) (s : Device) :
    (modLchan c f s).tst = s.tst := rfl
@[simp] theorem modLchan_outputs (c : Nat) (f : Channel → Channel) (s : Device) :
    (modLchan c f s).outputs = s.outputs := rfl
@[simp] theorem modLchan_reports (c : Nat) (f : Channel → Channel) (s : Device) :
    (modLchan c f s).reports = s.reports := rfl
@[simp] theorem modCons_out (c : Nat) (f : SafCons → SafCons) (s : Device) :
    (modCons c f s).out = s.out := rfl
@[simp] theorem modCons_draws (c : Nat) (f : SafCons → SafCons) (s : Device) :
    (modCons c f s).draws = s.draws := rfl
@[simp] theorem modCons_hif (c : Nat) (f : SafCons → SafCons) (s : Device) :
    (modCons c f s).hif = s.hif := rfl
@[simp] theorem modCons_cfg (c : Nat) (f : SafCons → SafCons) (s : Device) :
    (modCons c f s).cfg = s.cfg := rfl
@[simp] theorem modCons_dpt (c : Nat) (f : SafCons → SafCons) (s : Device) :
    (modCons c f s).dpt = s.dpt := rfl
@[simp] theorem modCons_lpe (c : Nat) (f : SafCons → SafCons) (s : Device) :
    (modCons c f s).lpe = s.lpe := rfl
@[simp] theorem modCons_trc (c : Nat) (f : SafCons → SafCons) (s : Device) :
    (modCons c f s).trc = s.trc := rfl
@[simp] theorem modCons_adc (c : Nat) (f : SafCons → SafCons) (s : Device) :
    (modCons c f s).adc = s.adc := rfl
@[simp] theorem modCons_dac (c : Nat) (f : SafCons → SafCons) (s : Device) :
    (modCons c f s).dac = s.dac := rfl
@[simp] theorem modCons_dio (c : Nat) (f : SafCons → SafCons) (s : Device) :
    (modCons c f s).dio = s.dio := rfl
@[simp] theorem modCons_tim (c : Nat) (f : SafCons → SafCons) (s : Device) :
    (modCons c f s).tim = s.tim := rfl
@[simp] theorem modCons_ltn (c : Nat) (f : SafCons → SafCons) (s : Device) :
    (modCons c f s).ltn = s.ltn := rfl
@[simp] theorem modCons_evr (c : Nat) (f : SafCons → SafCons) (s : Device) :
    (modCons c f s).evr = s.evr := rfl
@[simp] theorem modCons_pmc (c : Nat) (f : SafCons → SafCons) (s : Device) :
    (modCons c f s).pmc = s.pmc := rfl
@[simp] theorem modCons_btr (c : Nat) (f : SafCons → SafCons) (s : Device) :
    (modCons c f s).btr = s.btr := rfl
@[simp] theorem modCons_mem (c : Nat) (f : SafCons → SafCons) (s : Device) :
    (modCons c f s).mem = s.mem := rfl
@[simp] theorem modCons_mot (c : Nat) (f : SafCons → SafCons) (s : Device) :
    (modCons c f s).mot = s.mot := rfl
@[simp] theorem modCons_ccr (c : Nat) (f : SafCons → SafCons) (s : Device) :
    (modCons c f s).ccr = s.ccr := rfl
@[simp] theorem modCons_eth (c : Nat) (f : SafCons → SafCons) (s : Device) :
    (modCons c f s).eth = s.eth := rfl
@[simp] theorem modCons_sec (c : Nat) (f : SafCons → SafCons) (s : Device) :
    (modCons c f s).sec = s.sec := rfl
@[simp] theorem modCons_pgm (c : Nat) (f : SafCons → SafCons) (s : Device) :
    (modCons c f s).pgm = s.pgm := rfl
@[simp] theorem modCons_pai (c : Nat) (f : SafCons → SafCons) (s : Device) :
    (modCons c f s).pai = s.pai := rfl
@[simp] theorem modCons_kep (c : Nat) (f : SafCons → SafCons) (s : Device) :
    (modCons c f s).kep = s.kep := rfl
@[simp] theorem modCons_fbl (c : Nat) (f : SafCons → SafCons) (s : Device) :
    (modCons c f s).fbl = s.fbl := rfl
@[simp] theorem modCons_can (c : Nat) (f : SafCons → SafCons) (s : Device) :
    (modCons c f s).can = s.can := rfl
@[simp] theorem modCons_spr (c : Nat) (f : SafCons → SafCons) (s : Device) :
    (modCons c f s).spr = s.spr := rfl
@[simp] theorem modCons_clk (c : Nat) (f : SafCons → SafCons) (s : Device) :
    (modCons c f s).clk = s.clk := rfl
@[simp] theorem modCons_tst (c : Nat) (f : SafCons → SafCons) (s : Device) :
    (modCons c f s).tst = s.tst := rfl
@[simp] theorem modCons_outputs (c : Nat) (f : SafCons → SafCons) (s : Device) :
    (modCons c f s).outputs = s.outputs := rfl
@[simp] theorem modCons_reports (c : Nat) (f : SafCons → SafCons) (s : Device) :
    (modCons c f s).reports = s.reports := rfl
@[simp] theorem modChanSaf_out (b : Bool) (f : SafChan → SafChan) (s : Device) :
    (modChanSaf b f s).out = s.out := by cases b <;> rfl
@[simp] theorem modChanSaf_draws (b : Bool) (f : SafChan → SafChan) (s : Device) :
    (modChanSaf b f s).draws = s.draws := by cases b <;> rfl
@[simp] theorem modChanSaf_hif (b : Bool) (f : SafChan → SafChan) (s : Device) :
    (modChanSaf b f s).hif = s.hif := by cases b <;> rfl
@[simp] theorem modChanSaf_cfg (b : Bool) (f : SafChan → SafChan) (s : Device) :
    (modChanSaf b f s).cfg = s.cfg := by cases b <;> rfl
@[simp] theorem modChanSaf_dpt (b : Bool) (f : SafChan → SafChan) (s : Device) :
    (modChanSaf b f s).dpt = s.dpt := by cases b <;> rfl
@[simp] theorem modChanSaf_lpe (b : Bool) (f : SafChan → SafChan) (s : Device) :
    (modChanSaf b f s).lpe = s.lpe := by cases b <;> rfl
@[simp] theorem modChanSaf_trc (b : Bool) (f : SafChan → SafChan) (s : Device) :
    (modChanSaf b f s).trc = s.trc := by cases b <;> rfl
@[simp] theorem modChanSaf_adc (b : Bool) (f : SafChan → SafChan) (s : Device) :
    (modChanSaf b f s).adc = s.adc := by cases b <;> rfl
@[simp] theorem modChanSaf_dac (b : Bool) (f : SafChan → SafChan) (s : Device) :
    (modChanSaf b f s).dac = s.dac := by cases b <;> rfl
@[simp] theorem modChanSaf_dio (b : Bool) (f : SafChan → SafChan) (s : Device) :
    (modChanSaf b f s).dio = s.dio := by cases b <;> rfl
@[simp] theorem modChanSaf_tim (b : Bool) (f : SafChan → SafChan) (s : Device) :
    (modChanSaf b f s).tim = s.tim := by cases b <;> rfl
@[simp] theorem modChanSaf_ltn (b : Bool) (f : SafChan → SafChan) (s : Device) :
    (modChanSaf b f s).ltn = s.ltn := by cases b <;> rfl
@[simp] theorem modChanSaf_evr (b : Bool) (f : SafChan → SafChan) (s : Device) :
    (modChanSaf b f s).evr = s.evr := by cases b <;> rfl
@[simp] theorem modChanSaf_pmc (b : Bool) (f : SafChan → SafChan) (s : Device) :
    (modChanSaf b f s).pmc = s.pmc := by cases b <;> rfl
@[simp] theorem modChanSaf_btr (b : Bool) (f : SafChan → SafChan) (s : Device) :
    (modChanSaf b f s).btr = s.btr := by cases b <;> rfl
@[simp] theorem modChanSaf_mem (b : Bool) (f : SafChan → SafChan) (s : Device) :
    (modChanSaf b f s).mem = s.mem := by cases b <;> rfl
@[simp] theorem modChanSaf_mot (b : Bool) (f : SafChan → SafChan) (s : Device) :
    (modChanSaf b f s).mot = s.mot := by cases b <;> rfl
@[simp] theorem modChanSaf_ccr (b : Bool) (f : SafChan → SafChan) (s : Device) :
    (modChanSaf b f s).ccr = s.ccr := by cases b <;> rfl
@[simp] theorem modChanSaf_eth (b : Bool) (f : SafChan → SafChan) (s : Device) :
    (modChanSaf b f s).eth = s.eth := by cases b <;> rfl
@[simp] theorem modChanSaf_sec (b : Bool) (f : SafChan → SafChan) (s : Device) :
    (modChanSaf b f s).sec = s.sec := by cases b <;> rfl
@[simp] theorem modChanSaf_pgm (b : Bool) (f : SafChan → SafChan) (s : Device) :
    (modChanSaf b f s).pgm = s.pgm := by cases b <;> rfl
@[simp] theorem modChanSaf_pai (b : Bool) (f : SafChan → SafChan) (s : Device) :
    (modChanSaf b f s).pai = s.pai := by cases b <;> rfl
@[simp] theorem modChanSaf_kep (b : Bool) (f : SafChan → SafChan) (s : Device) :
    (modChanSaf b f s).kep = s.kep := by cases b <;> rfl
@[simp] theorem modChanSaf_fbl (b : Bool) (f : SafChan → SafChan) (s : Device) :
    (modChanSaf b f s).fbl = s.fbl := by cases b <;> rfl
@[simp] theorem modChanSaf_can (b : Bool) (f : SafChan → SafChan) (s : Device) :
    (modChanSaf b f s).can = s.can := by cases b <;> rfl
@[simp] theorem modChanSaf_spr (b : Bool) (f : SafChan → SafChan) (s : Device) :
    (modChanSaf b f s).spr = s.spr := by cases b <;> rfl
@[simp] theorem modChanSaf_clk (b : Bool) (f : SafChan → SafChan) (s : Device) :
    (modChanSaf b f s).clk = s.clk := by cases b <;> rfl
@[simp] theorem modChanSaf_tst (b : Bool) (f : SafChan → SafChan) (s : Device) :
    (modChanSaf b f s).tst = s.tst := by cases b <;> rfl
@[simp] theorem modChanSaf_outputs (b : Bool) (f : SafChan → SafChan) (s : Device) :
    (modChanSaf b f s).outputs = s.outputs := by cases b <;> rfl
@[simp] theorem modChanSaf_reports (b : Bool) (f : SafChan → SafChan) (s : Device) :
    (modChanSaf b f s).reports = s.reports := by cases b <;> rfl
@[simp] theorem modCut_out (f : KepImage → KepImage) (s : Device) :
    (modCut f s).out = s.out := rfl
@[simp] theorem modCut_draws (f : KepImage → KepImage) (s : Device) :
    (modCut f s).draws = s.draws := rfl
@[simp] theorem modCut_hif (f : KepImage → KepImage) (s : Device) :
    (modCut f s).hif = s.hif := rfl
@[simp] theorem modCut_cfg (f : KepImage → KepImage) (s : Device) :
    (modCut f s).cfg = s.cfg := rfl
@[simp] theorem modCut_dpt (f : KepImage → KepImage) (s : Device) :
    (modCut f s).dpt = s.dpt := rfl
@[simp] theorem modCut_lpe (f : KepImage → KepImage) (s : Device) :
    (modCut f s).lpe = s.lpe := rfl
@[simp] theorem modCut_trc (f : KepImage → KepImage) (s : Device) :
    (modCut f s).trc = s.trc := rfl
@[simp] theorem modCut_adc (f : KepImage → KepImage) (s : Device) :
    (modCut f s).adc = s.adc := rfl
@[simp] theorem modCut_dac (f : KepImage → KepImage) (s : Device) :
    (modCut f s).dac = s.dac := rfl
@[simp] theorem modCut_dio (f : KepImage → KepImage) (s : Device) :
    (modCut f s).dio = s.dio := rfl
@[simp] theorem modCut_tim (f : KepImage → KepImage) (s : Device) :
    (modCut f s).tim = s.tim := rfl
@[simp] theorem modCut_ltn (f : KepImage → KepImage) (s : Device) :
    (modCut f s).ltn = s.ltn := rfl
@[simp] theorem modCut_evr (f : KepImage → KepImage) (s : Device) :
    (modCut f s).evr = s.evr := rfl
@[simp] theorem modCut_pmc (f : KepImage → KepImage) (s : Device) :
    (modCut f s).pmc = s.pmc := rfl
@[simp] theorem modCut_btr (f : KepImage → KepImage) (s : Device) :
    (modCut f s).btr = s.btr := rfl
@[simp] theorem modCut_mem (f : KepImage → KepImage) (s : Device) :
    (modCut f s).mem = s.mem := rfl
@[simp] theorem modCut_mot (f : KepImage → KepImage) (s : Device) :
    (modCut f s).mot = s.mot := rfl
@[simp] theorem modCut_ccr (f : KepImage → KepImage) (s : Device) :
    (modCut f s).ccr = s.ccr := rfl
@[simp] theorem modCut_eth (f : KepImage → KepImage) (s : Device) :
    (modCut f s).eth = s.eth := rfl
@[simp] theorem modCut_sec (f : KepImage → KepImage) (s : Device) :
    (modCut f s).sec = s.sec := rfl
@[simp] theorem modCut_pgm (f : KepImage → KepImage) (s : Device) :
    (modCut f s).pgm = s.pgm := rfl
@[simp] theorem modCut_pai (f : KepImage → KepImage) (s : Device) :
    (modCut f s).pai = s.pai := rfl
@[simp] theorem modCut_fbl (f : KepImage → KepImage) (s : Device) :
    (modCut f s).fbl = s.fbl := rfl
@[simp] theorem modCut_can (f : KepImage → KepImage) (s : Device) :
    (modCut f s).can = s.can := rfl
@[simp] theorem modCut_saf (f : KepImage → KepImage) (s : Device) :
    (modCut f s).saf = s.saf := rfl
@[simp] theorem modCut_spr (f : KepImage → KepImage) (s : Device) :
    (modCut f s).spr = s.spr := rfl
@[simp] theorem modCut_clk (f : KepImage → KepImage) (s : Device) :
    (modCut f s).clk = s.clk := rfl
@[simp] theorem modCut_tst (f : KepImage → KepImage) (s : Device) :
    (modCut f s).tst = s.tst := rfl
@[simp] theorem modCut_outputs (f : KepImage → KepImage) (s : Device) :
    (modCut f s).outputs = s.outputs := rfl
@[simp] theorem modCut_reports (f : KepImage → KepImage) (s : Device) :
    (modCut f s).reports = s.reports := rfl
@[simp] theorem pmcEdge_out (blk sig idx : Nat) (s : Device) :
    (pmcEdge blk sig idx s).out = s.out := rfl
@[simp] theorem pmcEdge_draws (blk sig idx : Nat) (s : Device) :
    (pmcEdge blk sig idx s).draws = s.draws := rfl
@[simp] theorem pmcEdge_hif (blk sig idx : Nat) (s : Device) :
    (pmcEdge blk sig idx s).hif = s.hif := rfl
@[simp] theorem pmcEdge_cfg (blk sig idx : Nat) (s : Device) :
    (pmcEdge blk sig idx s).cfg = s.cfg := rfl
@[simp] theorem pmcEdge_dpt (blk sig idx : Nat) (s : Device) :
    (pmcEdge blk sig idx s).dpt = s.dpt := rfl
@[simp] theorem pmcEdge_lpe (blk sig idx : Nat) (s : Device) :
    (pmcEdge blk sig idx s).lpe = s.lpe := rfl
@[simp] theorem pmcEdge_trc (blk sig idx : Nat) (s : Device) :
    (pmcEdge blk sig idx s).trc = s.trc := rfl
@[simp] theorem pmcEdge_adc (blk sig idx : Nat) (s : Device) :
    (pmcEdge blk sig idx s).adc = s.adc := rfl
@[simp] theorem pmcEdge_dac (blk sig idx : Nat) (s : Device) :
    (pmcEdge blk sig idx s).dac = s.dac := rfl
@[simp] theorem pmcEdge_dio (blk sig idx : Nat) (s : Device) :
    (pmcEdge blk sig idx s).dio = s.dio := rfl
@[simp] theorem pmcEdge_tim (blk sig idx : Nat) (s : Device) :
    (pmcEdge blk sig idx s).tim = s.tim := rfl
@[simp] theorem pmcEdge_ltn (blk sig idx : Nat) (s : Device) :
    (pmcEdge blk sig idx s).ltn = s.ltn := rfl
@[simp] theorem pmcEdge_evr (blk sig idx : Nat) (s : Device) :
    (pmcEdge blk sig idx s).evr = s.evr := rfl
@[simp] theorem pmcEdge_btr (blk sig idx : Nat) (s : Device) :
    (pmcEdge blk sig idx s).btr = s.btr := rfl
@[simp] theorem pmcEdge_mem (blk sig idx : Nat) (s : Device) :
    (pmcEdge blk sig idx s).mem = s.mem := rfl
@[simp] theorem pmcEdge_mot (blk sig idx : Nat) (s : Device) :
    (pmcEdge blk sig idx s).mot = s.mot := rfl
@[simp] theorem pmcEdge_ccr (blk sig idx : Nat) (s : Device) :
    (pmcEdge blk sig idx s).ccr = s.ccr := rfl
@[simp] theorem pmcEdge_eth (blk sig idx : Nat) (s : Device) :
    (pmcEdge blk sig idx s).eth = s.eth := rfl
@[simp] theorem pmcEdge_sec (blk sig idx : Nat) (s : Device) :
    (pmcEdge blk sig idx s).sec = s.sec := rfl
@[simp] theorem pmcEdge_pgm (blk sig idx : Nat) (s : Device) :
    (pmcEdge blk sig idx s).pgm = s.pgm := rfl
@[simp] theorem pmcEdge_pai (blk sig idx : Nat) (s : Device) :
    (pmcEdge blk sig idx s).pai = s.pai := rfl
@[simp] theorem pmcEdge_kep (blk sig idx : Nat) (s : Device) :
    (pmcEdge blk sig idx s).kep = s.kep := rfl
@[simp] theorem pmcEdge_fbl (blk sig idx : Nat) (s : Device) :
    (pmcEdge blk sig idx s).fbl = s.fbl := rfl
@[simp] theorem pmcEdge_can (blk sig idx : Nat) (s : Device) :
    (pmcEdge blk sig idx s).can = s.can := rfl
@[simp] theorem pmcEdge_saf (blk sig idx : Nat) (s : Device) :
    (pmcEdge blk sig idx s).saf = s.saf := rfl
@[simp] theorem pmcEdge_spr (blk sig idx : Nat) (s : Device) :
    (pmcEdge blk sig idx s).spr = s.spr := rfl
@[simp] theorem pmcEdge_clk (blk sig idx : Nat) (s : Device) :
    (pmcEdge blk sig idx s).clk = s.clk := rfl
@[simp] theorem pmcEdge_tst (blk sig idx : Nat) (s : Device) :
    (pmcEdge blk sig idx s).tst = s.tst := rfl
@[simp] theorem pmcEdge_outputs (blk sig idx : Nat) (s : Device) :
    (pmcEdge blk sig idx s).outputs = s.outputs := rfl
@[simp] theorem pmcEdge_reports (blk sig idx : Nat) (s : Device) :
    (pmcEdge blk sig idx s).reports = s.reports := rfl
@[simp] theorem setRec_out (s : Device) (blk kind obj : Nat) (f : List Byte → List Byte) :
    (setRec s blk kind obj f).out = s.out := rfl
@[simp] theorem setRec_draws (s : Device) (blk kind obj : Nat) (f : List Byte → List Byte) :
    (setRec s blk kind obj f).draws = s.draws := rfl
@[simp] theorem setRec_hif (s : Device) (blk kind obj : Nat) (f : List Byte → List Byte) :
    (setRec s blk kind obj f).hif = s.hif := rfl
@[simp] theorem setRec_dpt (s : Device) (blk kind obj : Nat) (f : List Byte → List Byte) :
    (setRec s blk kind obj f).dpt = s.dpt := rfl
@[simp] theorem setRec_lpe (s : Device) (blk kind obj : Nat) (f : List Byte → List Byte) :
    (setRec s blk kind obj f).lpe = s.lpe := rfl
@[simp] theorem setRec_trc (s : Device) (blk kind obj : Nat) (f : List Byte → List Byte) :
    (setRec s blk kind obj f).trc = s.trc := rfl
@[simp] theorem setRec_adc (s : Device) (blk kind obj : Nat) (f : List Byte → List Byte) :
    (setRec s blk kind obj f).adc = s.adc := rfl
@[simp] theorem setRec_dac (s : Device) (blk kind obj : Nat) (f : List Byte → List Byte) :
    (setRec s blk kind obj f).dac = s.dac := rfl
@[simp] theorem setRec_dio (s : Device) (blk kind obj : Nat) (f : List Byte → List Byte) :
    (setRec s blk kind obj f).dio = s.dio := rfl
@[simp] theorem setRec_tim (s : Device) (blk kind obj : Nat) (f : List Byte → List Byte) :
    (setRec s blk kind obj f).tim = s.tim := rfl
@[simp] theorem setRec_ltn (s : Device) (blk kind obj : Nat) (f : List Byte → List Byte) :
    (setRec s blk kind obj f).ltn = s.ltn := rfl
@[simp] theorem setRec_evr (s : Device) (blk kind obj : Nat) (f : List Byte → List Byte) :
    (setRec s blk kind obj f).evr = s.evr := rfl
@[simp] theorem setRec_pmc (s : Device) (blk kind obj : Nat) (f : List Byte → List Byte) :
    (setRec s blk kind obj f).pmc = s.pmc := rfl
@[simp] theorem setRec_btr (s : Device) (blk kind obj : Nat) (f : List Byte → List Byte) :
    (setRec s blk kind obj f).btr = s.btr := rfl
@[simp] theorem setRec_mem (s : Device) (blk kind obj : Nat) (f : List Byte → List Byte) :
    (setRec s blk kind obj f).mem = s.mem := rfl
@[simp] theorem setRec_mot (s : Device) (blk kind obj : Nat) (f : List Byte → List Byte) :
    (setRec s blk kind obj f).mot = s.mot := rfl
@[simp] theorem setRec_ccr (s : Device) (blk kind obj : Nat) (f : List Byte → List Byte) :
    (setRec s blk kind obj f).ccr = s.ccr := rfl
@[simp] theorem setRec_eth (s : Device) (blk kind obj : Nat) (f : List Byte → List Byte) :
    (setRec s blk kind obj f).eth = s.eth := rfl
@[simp] theorem setRec_sec (s : Device) (blk kind obj : Nat) (f : List Byte → List Byte) :
    (setRec s blk kind obj f).sec = s.sec := rfl
@[simp] theorem setRec_pgm (s : Device) (blk kind obj : Nat) (f : List Byte → List Byte) :
    (setRec s blk kind obj f).pgm = s.pgm := rfl
@[simp] theorem setRec_pai (s : Device) (blk kind obj : Nat) (f : List Byte → List Byte) :
    (setRec s blk kind obj f).pai = s.pai := rfl
@[simp] theorem setRec_kep (s : Device) (blk kind obj : Nat) (f : List Byte → List Byte) :
    (setRec s blk kind obj f).kep = s.kep := rfl
@[simp] theorem setRec_fbl (s : Device) (blk kind obj : Nat) (f : List Byte → List Byte) :
    (setRec s blk kind obj f).fbl = s.fbl := rfl
@[simp] theorem setRec_can (s : Device) (blk kind obj : Nat) (f : List Byte → List Byte) :
    (setRec s blk kind obj f).can = s.can := rfl
@[simp] theorem setRec_saf (s : Device) (blk kind obj : Nat) (f : List Byte → List Byte) :
    (setRec s blk kind obj f).saf = s.saf := rfl
@[simp] theorem setRec_spr (s : Device) (blk kind obj : Nat) (f : List Byte → List Byte) :
    (setRec s blk kind obj f).spr = s.spr := rfl
@[simp] theorem setRec_clk (s : Device) (blk kind obj : Nat) (f : List Byte → List Byte) :
    (setRec s blk kind obj f).clk = s.clk := rfl
@[simp] theorem setRec_tst (s : Device) (blk kind obj : Nat) (f : List Byte → List Byte) :
    (setRec s blk kind obj f).tst = s.tst := rfl
@[simp] theorem setRec_outputs (s : Device) (blk kind obj : Nat) (f : List Byte → List Byte) :
    (setRec s blk kind obj f).outputs = s.outputs := rfl
@[simp] theorem setRec_reports (s : Device) (blk kind obj : Nat) (f : List Byte → List Byte) :
    (setRec s blk kind obj f).reports = s.reports := rfl

end Sys2Proof.Laws
end

