-- ==== Sys2Proof/Laws/Tables.lean ====
section
/-!
SUPPORT. Laws/Tables.lean: read after write for the sparse tables.
-/
namespace Sys2Proof.Laws
open Sys2Proof.Machine

@[simp] theorem tget_tset_same {α : Type} (t : Tab α) (k : Nat) (v d : α) :
    tget (tset t k v) k d = v := by
  induction t with
  | nil => simp [tset, tget]
  | cons e rest ih =>
    simp only [tset]
    split
    · simp [tget]
    · split
      · simp [tget]
      · rename_i h _; simp [tget, h, ih]

theorem tget_tset_other {α : Type} (t : Tab α) (k j : Nat) (v d : α) (h : j ≠ k) :
    tget (tset t k v) j d = tget t j d := by
  induction t with
  | nil => simp [tset, tget, Ne.symm h]
  | cons e rest ih =>
    simp only [tset]
    split
    · rename_i h1; simp [tget, h1, Ne.symm h]
    · split
      · simp [tget, Ne.symm h]
      · by_cases h2 : e.1 = j <;> simp [tget, h2, ih]

@[simp] theorem tget_tmod_same {α : Type} (t : Tab α) (k : Nat) (d : α) (f : α → α) :
    tget (tmod t k d f) k d = f (tget t k d) := by
  simp [tmod]

theorem tget_tmod_other {α : Type} (t : Tab α) (k j : Nat) (d e : α) (f : α → α) (h : j ≠ k) :
    tget (tmod t k d f) j e = tget t j e := by
  simp [tmod, tget_tset_other _ _ _ _ _ h]

@[simp] theorem tfind_tset_same {α : Type} (t : Tab α) (k : Nat) (v : α) :
    tfind (tset t k v) k = some v := by
  induction t with
  | nil => simp [tset, tfind]
  | cons e rest ih =>
    simp only [tset]
    split
    · simp [tfind]
    · split
      · simp [tfind]
      · rename_i h _; simp [tfind, h, ih]

end Sys2Proof.Laws
end

