-- ==== Sys2Proof/Machine/Pins.lean ====
section
/-!
DEFINITION. Machine/Pins.lean: the control signals of the device as its balls show them, and where each ball lies
(22_pins_power_startup).
-/
namespace Sys2Proof.Machine

/-! ## Control signals; an asserted open-drain output is low (R624, R637, R639, R780, R781) -/

/-- PR_FENCE_N is asserted (R637, R639, R794). -/
def prFence (s : Device) : Bool := ballsLive s && s.pai.fence

/-- PHYRSTp_N is driven low: the port is DISABLED, its bit of ETH_PORT_EN is clear, or the Spire die is in reset (R780). While the
balls are harmless its pull-down holds the PHY in reset (R794). -/
def phyReset (s : Device) (p : Nat) : Bool :=
  !ballsLive s || !s.btr.spireUp || !bit p s.eth.portEn || fld 0 1 (ethRec s p) % 8 == 0

/-! ## Names of the signal balls, in the order of Table CLK-1 (R780) -/

/-- A number of two or three digits. -/
def digits (k n : Nat) : String := ((toString (10 ^ k + n)).drop 1).toString

/-- The P and N balls of `n` pairs. -/
def pairBalls (name : String) (n : Nat) : List String :=
  (List.range n).flatMap fun k => [name ++ toString k ++ "P", name ++ toString k ++ "N"]

def northSignals : List String :=
  ["PCIE_REFCLK_P", "PCIE_REFCLK_N"] ++ pairBalls "PCIE_TX" 4 ++ pairBalls "PCIE_RX" 4 ++ ["PERST_N"] ++
  (List.range 8).flatMap (fun p => ["_TXP", "_TXN", "_RXP", "_RXN"].map (fun x => "ETH" ++ toString p ++ x)) ++
  (List.range 4).flatMap (fun k => ["MDC" ++ toString k, "MDIO" ++ toString k]) ++
  (List.range 8).map (fun p => "PHYRST" ++ toString p ++ "_N") ++
  pairBalls "PR_TX" 2 ++ pairBalls "PR_RX" 2 ++ ["PR_ACT_N", "PR_PACT_N", "PR_FENCE_N", "PR_FENCED_N"] ++
  ["XSPI_CLK", "XSPI_CS_N", "XSPI_DQS"] ++ (List.range 8).map (fun k => "XSPI_DQ" ++ toString k) ++ ["XSPI_RST_N"] ++
  ["TCK", "TMS", "TDI", "TDO", "TRST_N", "REF25", "PPS_IN", "PPS_OUT"] ++
  ["RESET_N", "PWRFAIL_N", "CTRL_N", "FAULT_N", "TEST_MODE"] ++
  ["TDIODE_P", "TDIODE_N", "VSNS_SPIRE_P", "VSNS_SPIRE_N", "VSNS_DOME_P", "VSNS_DOME_N", "ATEST0", "ATEST1"] ++
  (List.range 16).flatMap (fun n => ["SIN" ++ digits 2 n ++ "A", "SIN" ++ digits 2 n ++ "B"]) ++
  (List.range 8).flatMap (fun n => ["SHG", "SLG", "SHF", "SLF"].map (fun x => x ++ toString n))

def southSignals : List String :=
  (List.range 128).map (fun n => "AIN" ++ digits 3 n) ++ (List.range 34).map (fun n => "REFCAP" ++ digits 2 n) ++
  (List.range 32).flatMap (fun n => ["AOUT" ++ digits 2 n, "AOUTS" ++ digits 2 n]) ++
  (List.range 4).map (fun n => "DACREF" ++ toString n)

def westSignals : List String := (List.range 96).map (fun n => "DIO" ++ digits 2 n)

def eastSignals : List String :=
  (List.range 16).flatMap (fun m => ["_A1", "_A2", "_B1", "_B2"].map (fun x => "CPWM" ++ digits 2 m ++ x) ++
    ["_A", "_B"].map (fun x => "CSEN" ++ digits 2 m ++ x)) ++
  (List.range 8).flatMap (fun n => ["CAN" ++ toString n ++ "_TXD", "CAN" ++ toString n ++ "_RXD"])

/-! ## The other balls of each band, in the order of Table CLK-2 -/

def repeatBalls (l : List (String × Nat)) : List String := l.flatMap fun e => List.replicate e.2 e.1

def northOthers : List String :=
  repeatBalls [("VSS", 16), ("VDD_SERDES", 16), ("VDDH_SERDES", 8), ("VDD_AON", 2), ("VDD_SAFA", 2), ("VSS_SAFA", 2),
    ("VDD_SAFB", 2), ("VSS_SAFB", 2), ("VDD1", 8), ("VDD2H", 16), ("VDD2L", 12), ("VDDQ", 24), ("NC", 20)]
def southOthers : List String := repeatBalls [("AGND", 56), ("VDDA", 12), ("VPOS", 4), ("VNEG", 4)]
def westOthers : List String := repeatBalls [("VSS", 40), ("VDDIO", 8)]
def eastOthers : List String := repeatBalls [("VSS", 24), ("VDDIO", 8)]

/-! ## Placement (R782) -/

/-- The balls of a band in scan order: after every third signal ball, of which `i` is the number of the next, one of the others
while any is left, and what is left at the end (R782). -/
def placeBand : Nat → List String → List String → List String
  | _, [], others => others
  | i, x :: signals, others =>
    match i % 3, others with
    | 0, o :: rest => x :: o :: placeBand (i + 1) signals rest
    | _, others => x :: placeBand (i + 1) signals others

/-- A rectangle of places, row by row. -/
def byRows (rows cols : List Nat) : List (Nat × Nat) := rows.flatMap fun r => cols.map fun c => (r, c)
/-- A rectangle of places, column by column. -/
def byCols (rows cols : List Nat) : List (Nat × Nat) := cols.flatMap fun c => rows.map fun r => (r, c)

/-- Rows K to AE, by number. -/
def middleRows : List Nat := (List.range 16).map (· + 10)

/-- The centre: a ball whose row and column numbers add to an odd number is VSS, the others are supply balls in their order. -/
def centreBalls : List ((Nat × Nat) × String) :=
  let places := byRows middleRows middleRows
  let even := places.filter fun p => (p.1 + p.2) % 2 == 0
  (places.filter fun p => (p.1 + p.2) % 2 == 1).map (fun p => (p, "VSS")) ++
    even.zip (repeatBalls [("VDD_SPIRE", 96), ("VDD_DOME", 24), ("VDD2H", 8)])

/-- Every ball with its place as row number and column number, both from 1 (R779, R782). -/
def ballMap : List ((Nat × Nat) × String) :=
  let all := (List.range 34).map (· + 1)
  (byRows ((List.range 9).map (· + 1)) all).zip (placeBand 1 northSignals northOthers) ++
  (byRows ((List.range 9).map (34 - ·)) all).zip (placeBand 1 southSignals southOthers) ++
  (byCols middleRows ((List.range 9).map (· + 1))).zip (placeBand 1 westSignals westOthers) ++
  (byCols middleRows ((List.range 9).map (34 - ·))).zip (placeBand 1 eastSignals eastOthers) ++ centreBalls

/-- The letters of a row number (R779). -/
def rowName (r : Nat) : String :=
  (["A", "B", "C", "D", "E", "F", "G", "H", "J", "K", "L", "M", "N", "P", "R", "T", "U", "V", "W", "Y", "AA", "AB", "AC", "AD",
    "AE", "AF", "AG", "AH", "AJ", "AK", "AL", "AM", "AN", "AP"][r - 1]?).getD ""

end Sys2Proof.Machine
end

