-- ==== Sys2Proof/Tests/Slice0.lean ====
section
/-!
SUPPORT. Tests/Slice0.lean: ill-formed commands that WellFormed refuses, the spec's own worked numbers, and for every
statement with hypotheses a state and operands that meet them.
-/
namespace Sys2Proof.Tests

open Sys2Proof Sys2Proof.Machine

set_option Elab.async false

/-! ## States for the witnesses -/

/-- Rings 0 and 31 stand enabled with 64 slots, one descriptor pending on 31; the event ring holds 3 records. -/
def wUp : State := { dev := {
  btr.spireUp := true
  hif.rings := [(0, { enable := true, sizeLog2 := 6 }), (31, { enable := true, sizeLog2 := 6, pi := 1 })]
  hif.evqEnable := true, hif.evqSize := 6, hif.evqProd := 3 } }

/-- The Spire die is up. -/
def wSpire : State := { dev := { btr.spireUp := true } }

/-- A device held in reset by RESET_N. -/
def wHeld : Device := { clk.held := some 2 }

/-- One descriptor stands fetched on ring 31. -/
def wFetched : State := { dev := {
  btr.spireUp := true
  hif.rings := [(31, { enable := true, sizeLog2 := 6, pi := 1, prefetch := [.desc {}] })] } }

/-- Ring 1, of the first class, and ring 31 each hold a fetched descriptor. -/
def wFetched2 : State := { dev := {
  btr.spireUp := true
  hif.rings := [(1, { enable := true, prio := true, sizeLog2 := 6, prefetch := [.desc {}] }),
                (31, { enable := true, sizeLog2 := 6, prefetch := [.desc {}] })] } }

/-- Ring 1 is halted, ring 0 runs. -/
def wHalted : State := { dev := {
  btr.spireUp := true
  hif.rings := [(0, { enable := true, sizeLog2 := 6 }), (1, { enable := true, halted := true, sizeLog2 := 6 })] } }

/-- One record is held for an event ring with free slots. -/
def wEvq : State := { dev := { hif.evqEnable := true, hif.evqSize := 6, hif.evqHeld := [{}] } }

/-- Windows 12 to 15: 12 and 13 device to host and bound, 14 host to device and bound, 15 device to host and free. -/
def wWin : State := { dev := {
  btr.spireUp := true
  hif.rings := [(0, { enable := true, sizeLog2 := 6 })]
  hif.windows := [(12, { d2h := true, enable := true, segLog2 := 12, countM1 := 1, bound := some 0x1100 }),
                  (13, { d2h := true, enable := true, segLog2 := 12, countM1 := 1, bound := some 0x1600, owned := 1, flushUs := 1 }),
                  (14, { enable := true, segLog2 := 12, countM1 := 1, bound := some 0x1701 }),
                  (15, { d2h := true, enable := true, segLog2 := 12, countM1 := 1 })]
  tim.spire := 2 ^ 60 } }

/-- Window 12 with a segment of its own and one record in the recorder ring. -/
def wWinRec : State := { dev := { wWin.dev with
  hif.windows := [(12, { d2h := true, enable := true, segLog2 := 12, countM1 := 1, bound := some 0x1100, owned := 1 })]
  ltn.ring := [{ bytes := le 16 7 }] } }

/-- The segment type and the records of a ring-fed source. -/
def typOf (s : State) (src : Nat) : Nat := ((ringSource s.dev src).getD (0, [])).1
def recsOf (s : State) (src : Nat) : List BufRec := ((ringSource s.dev src).getD (0, [])).2

/-- Vectors 61 to 63: masked, masked with an interrupt pending, and one that has gathered a signal long ago. -/
def wVec : State := { dev := {
  tim.spire := 2 ^ 60
  hif.vectors := [(61, { masked := true, pba := false }), (62, { masked := true, pba := true }),
                  (63, { gathered := 1, count := 2, masked := false })] } }

/-- The Spire die is up with its PLLs locked. -/
def wPlls : State := { dev := { btr.spireUp := true, clk.spirePlls := true } }

/-- An image or overlay with its CRC filled in at offset 28. -/
def withCrc (b : List Byte) : List Byte := overwrite 28 (le 4 (crc32c b).toNat) b

/-- A mode record: envelope FULL, policy 0, epoch 1,000 µs. -/
def wModes : List Byte := padTo 32 (le 8 0 ++ le 4 1000)

/-- The smallest base image: one section, the device modes. -/
def wBase : List Byte :=
  withCrc (le 4 0x46435A4B ++ le 2 1 ++ le 2 0x9680 ++ le 4 80 ++ le 2 1 ++ le 2 1 ++ le 16 0 ++
    (le 1 1 ++ le 1 1 ++ le 2 32 ++ le 4 1 ++ le 4 48 ++ le 4 0) ++ wModes)

/-- An overlay of one patch, which sets POLICY. -/
def wOverlay : List Byte :=
  withCrc (le 4 0x564F5A4B ++ le 2 1 ++ le 2 1 ++ le 4 52 ++ le 20 0 ++
    (le 1 1 ++ le 1 0 ++ le 2 4 ++ le 4 0 ++ le 2 1 ++ le 2 4 ++ le 4 0) ++ le 4 1)

/-- Task `n` with an empty record. -/
def wTask (n : Nat) : CfgObj := { blk := 2, kind := 1, obj := n, base := le 32 0, cur := le 32 0 }

/-- A running device with one command ring, device modes, task 5 and an overlay in slot 3. -/
def wRun : State := { dev := {
  btr.spireUp := true
  hif.rings := [(0, { enable := true, sizeLog2 := 6 })]
  cfg.mode := .running, cfg.overlays := [(3, {})]
  cfg.objs := [{ blk := 1, kind := 1, obj := 0, base := wModes, cur := wModes }, wTask 5] } }

/-- A device in LOADED that may run. -/
def wLoaded : State := { dev := { wRun.dev with
  cfg.mode := .loaded, saf.cfg := [0], tim.mode := .free, kep.phase := .up } }

/-- One overlay armed. -/
def wArmed : State := { dev := { wRun.dev with cfg.armed := [{ slot := 7, version := 9, commit := usT 50, id := 0, patches := [] }] } }

/-- One overlay armed whose commit is closer than 50 µs. -/
def wArmed8 : State := { dev := { wRun.dev with cfg.armed := [{ slot := 8, version := 9, commit := usT 50 - 1, id := 0, patches := [] }] } }

/-- A token on its way to operand 7 of task 4095. -/
def wTokens : State := { dev := { dpt.inflight := [{ time := 0, source := 0x800, slot := 4095, operand := 7 }] } }

/-- A task record: enabled, operand 0 PRIMARY, operand 1 FRESH. -/
def wTaskRec : List Byte := padTo 32 (le 1 1 ++ le 3 0 ++ le 1 0x11)

/-- Tasks 5 to 7 wait for a primary, for a FRESH operand, and disabled. -/
def wWaits : State := { dev := { wRun.dev with
  tim.spire := 2 ^ 70, dpt.run := true, dpt.tick := 10
  cfg.objs := [{ blk := 2, kind := 1, obj := 5, base := wTaskRec, cur := wTaskRec },
               { blk := 2, kind := 1, obj := 6, base := wTaskRec, cur := wTaskRec }]
  dpt.tasks := [(5, { primWait := some 0, last := some (0, 0) }), (6, { prim := [{ time := 0 }] }), (7, { disabledAt := some 0 })] } }

/-- Task 5 stands ready and lane 0 is free. -/
def wReady : State := { dev := { wWaits.dev with
  dpt.active := 1, dpt.spare := 0, dpt.ready := [{ slot := 5, at_ := 0, time := 0 }]
  dpt.tasks := [(5, { run := .ready, prim := [{ time := 0 }] })] } }

/-- Lanes 16 and 17 evaluate. -/
def wLane : State := { dev := {
  btr.spireUp := true
  dpt.lanes := [(16, { slot := 5, time := 0, version := 1, cfg := le 128 0 }), (17, { slot := 5, time := 0, version := 1 })] } }

/-- Core 7 runs a cycle. -/
def wCycle : State := { dev := { pgm.run_ := [(7, { cyc := some { prog := 0, release := 0, start := 0 } })] } }

/-- A loop record with MODE and SP source as given, of task 5, every limit open. -/
def wLoopRec (mode sp : Nat) : List Byte :=
  padTo 128 (overwrite 10 (le 2 5) (overwrite 2 (le 1 sp) (le 1 mode ++ le 127 0)))

/-- Loops 0 to 2: OFF, with its set-point from commands, and in MANUAL. -/
def wLoop : State := { dev := { wRun.dev with
  cfg.objs := [{ blk := 2, kind := 1, obj := 5, base := wTaskRec, cur := wTaskRec },
               { blk := 3, kind := 1, obj := 0, base := wLoopRec 0 0, cur := wLoopRec 0 0 },
               { blk := 3, kind := 1, obj := 1, base := wLoopRec 0 4, cur := wLoopRec 0 4 },
               { blk := 3, kind := 1, obj := 2, base := wLoopRec 2 0, cur := wLoopRec 2 0 }] } }

/-- Time has run past an epoch boundary with the journal on. -/
def wEpoch : State := { dev := { wRun.dev with kep.journalOn := true, kep.needFull := false, tim.spire := 2 ^ 70 } }

/-- A cut stands open at T_e = 0 and task 6 has nothing older. -/
def wCut : State := { dev := { wReady.dev with
  dpt.ready := [], dpt.tasks := [], kep.cut := some { epoch := 1, te := 0, full := false }, dpt.cut := some { epoch := 1, te := 0 } } }

/-- A cut stands open and CAN filter 0 sends to operand 0 of task 0. -/
def wCutCan : State := { dev := { wCut.dev with
  cfg.objs := [{ blk := 0x0D, kind := 3, obj := 0, base := le 32 4, cur := le 32 4 }] } }

/-- A cut stands open and no task takes data. -/
def wCutIdle : State := { dev := { wRun.dev with
  tim.spire := 2 ^ 70, cfg.objs := [], dpt.cut := some { epoch := 1, te := 0 }, kep.cut := some { epoch := 1, te := 0, full := false } } }

/-- A cut stands open for longer than an epoch and task 6 waits with an older primary. -/
def wCutOld : State := { dev := { wWaits.dev with dpt.cut := some { epoch := 1, te := 1 } } }

/-- A complete cut and the state in which its record may commit. -/
def wFullCut : KepCut := { epoch := 2, te := 0, full := false, ready := cutBlocks }
def wCommit : State := { dev := { kep.cut := some wFullCut, tim.spire := 2 ^ 70 } }

/-- A journal of one record that no slot holds; then with slot 0 APPLYING. -/
def wJrec : KepRec := { epoch := 2, te := 0, len := 80, prev := 1, img := {} }
def wJournal : State := { dev := { kep.journal := [wJrec] } }
def wJournal1 : State := { dev := { kep.journal := [wJrec], kep.slots := [(0, { state := 1 })] } }

/-- Slot 0 is VALID and waits to be copied. -/
def wCopy : State := { dev := { kep.copy := true, kep.slots := [(0, { state := 2, epoch := 3 })] } }

/-- 256 MiB have been written since the gap moved. -/
def wGap : State := { dev := { kep.gapBytes := 268435456 } }

/-- The MAINT scope is open. -/
def wMaint : State := { dev := { wRun.dev with sec.scopes := [(2, 2 ^ 60)] } }

/-- Restarts of kinds 1 and 2 that are due. -/
def wRestart1 : State := { dev := { kep.restart := some (1, 3, 0) } }
def wRestart2 : State := { dev := { kep.restart := some (2, 3, 0) } }

/-- Slot 1 is VALID and a window takes images. -/
def wImage : State := { dev := { wWin.dev with
  hif.windows := [(12, { d2h := true, enable := true, segLog2 := 12, countM1 := 1, bound := some 0x0F10 })]
  kep.slots := [(1, { state := 2 })] } }

/-- Stages of a restart. -/
def wRestore : State := { dev := { btr.spireUp := true, kep.running := some (2, 1), kep.phase := .image } }
def wResume : State := { dev := { btr.spireUp := true, kep.running := some (1, 3), kep.phase := .resume } }
def wReload : State := { dev := { btr.spireUp := true, kep.phase := .reload } }
def wBoot : State := { dev := { kep.phase := .boot, btr.dirs := [(0, { lanes := 7, failed := 3 })] } }

/-- A flash directory of generation 0 with its CRC. -/
def wDir : List Byte := le 100 0 ++ le 4 (crc32c (le 100 0)).toNat

/-- The link is up and nothing has moved on it for long; crossing 9 waits for its handshake. -/
def wLink : State := { dev := { btr.spireUp := true, btr.linkUp := true, btr.xreset := [9], tim.dome := 2 ^ 70 } }

/-- A retraining of direction 1 that is due to end. -/
def wRetrain : State := { dev := { wLink.dev with btr.retraining := true, btr.retrain := some (1, 0) } }

/-- A trace group of buffers 4 and 5, and a device that holds it beside a window for traces. -/
def wGroup (m : TraceMode) : TraceGroup := { first := 4, count := 2, loop := 2, nodes := [0, 16], decim := 1, tunit := false, pre := 0, mode := m }
def wTrace (m : TraceMode) : State := { dev := { wLoop.dev with
  trc.groups := [(4, wGroup m)]
  hif.windows := [(12, { d2h := true, enable := true, segLog2 := 12, countM1 := 1, bound := some 0x11C0 })] } }

/-- A channel that owes no mark; a ring of `n` MiB that runs, with one queued record; a full ring. -/
def wChan : Channel := { last := some 256, version := some 1, anchor := false }
def wLtn (n : Nat) : State := { dev := { wSpire.dev with
  ltn.run := true, ltn.startDue := none, ltn.ringMib := n, ltn.inq := [{ channel := 4095, time := 256, version := 1, value := 5 }], ltn.chans := [(7, wChan)] } }
def wFullRing : Device := { ltn.startDue := none, ltn.ringFull := true }

/-- Channel 4095 exists. -/
def wChanCfg : State := { dev := { wRun.dev with
  cfg.objs := [{ blk := 0x11, kind := 1, obj := 4095, base := le 16 0, cur := le 16 0 }] } }

/-- A code that no rate limits. -/
def wUnlimited : Nat := Ev.evrLogDegraded

/-- An event stamped 5 waits while working time stands at `n`; then one older than the last admitted. -/
def wQueue (n : Nat) : State := { dev := { evr.queue := [{ rec_ := { time := 5 }, blk := 0 }], tim.dome := n * 2 ^ 24 } }
def wQueueLate : State := { dev := {
  evr.queue := [{ rec_ := { time := 1 }, blk := 0 }], evr.lastTime := 5, tim.dome := 2 ^ 70 } }

/-- A summary that is due. -/
def wSum : State := { dev := { evr.sums := [(7, { count := 2, first := 0 })], tim.dome := 2 ^ 70 } }

/-- A window for exports and a region. -/
def wExport (r : Tab EvSlot) : State := { dev := { wRun.dev with
  hif.windows := [(12, { d2h := true, enable := true, segLog2 := 12, countM1 := 1, bound := some 0x1200 })], evr.region := r } }

/-- A snapshot stands open. -/
def wSnap : State := { dev := { wSpire.dev with pmc.snapAt := some 5, tim.spire := 2 ^ 60 } }

/-- A swap of lane 0 with spare 16, while the lane evaluates or not. -/
def wSwap (busy : Bool) : State := { dev := {
  spr.acts := [(3, { code := 1, unit := 0, handle := 1, spare := some 16 })]
  dpt.lanes := if busy then [(0, { slot := 5, time := 0, version := 1 })] else [] } }

/-- A repair and a scrub run. -/
def wScrub : State := { dev := { spr.acts := [(0, { code := 4, handle := 1 }), (1, { code := 3, handle := 2 })] } }

/-- Lane 0 serves and lane 16 is spare. -/
def wLanes : State := { dev := { wRun.dev with dpt.active := 1, dpt.spare := 65536 } }

/-- A row stands remapped and the MAINT scope is open. -/
def wRows : State := { dev := { wMaint.dev with cfg.mode := .loaded, spr.softRows := [7] } }

/-- Converter 31 converts channel 3 in a scan, converter 30 an urgent request for channel 7. -/
def wScan : State := { dev := { adc.convs := [(30, { phys := 30, urg := [{ chan := 7 }], urgRun := true }), (31, { phys := 31, scan := [3] })] } }

/-- A converter record: enabled, PERIODIC, channel 0, 4 samples a result, 1 ms period, URG_PIN 0. -/
def wConvRec : List Byte := padTo 32 (le 1 3 ++ le 1 1 ++ le 2 3 ++ le 4 1000000)

/-- Converter 0 averages. -/
def wAvg : Device := { cfg.mode := .running, cfg.objs := [{ blk := 8, kind := 1, obj := 0, base := wConvRec, cur := wConvRec }] }

/-- A command that waits for its block. -/
def wPend : Pend := { desc := {}, index := 0, gen := 0, live := true }

/-- Converters 5 to 7 are enabled: 5 is in the scan given, 6 has four urgent requests, 7 one that has waited for long. -/
def wPeriodic (scan : List Nat) : State := { dev := { wRun.dev with
  tim.dome := 2 ^ 70
  cfg.objs := [{ blk := 8, kind := 1, obj := 5, base := wConvRec, cur := wConvRec },
               { blk := 8, kind := 1, obj := 6, base := wConvRec, cur := wConvRec }]
  adc.convs := [(5, { phys := 5, scan := scan }), (6, { phys := 6, urg := List.replicate 4 { chan := 0 } }),
                (7, { phys := 7, urg := [{ chan := 1, pend := some wPend }] })] } }

/-- Converter 1 stands at a step of its calibration. -/
def wCal (step : Nat) : State := { dev := { adc.convs := [(1, { phys := if step = 0 then 1 else 33, cal := some { mask := 1, left := if step = 2 then 0 else 1, spare := 33, owner := 1, step := step } })] } }

/-- A DAC record: OWNER as given in bit 1, INIT 0, CMIN −5, CMAX 5. -/
def wDacRec (flags : Nat) : List Byte := le 1 (1 + flags) ++ le 7 0 ++ le 4 0xFFFFFFFB ++ le 4 5

/-- Channel 3 exists, last issued at `t`, with an output on its way. -/
def wDac (flags : Nat) (t : Option STime) : State := { dev := { wRun.dev with
  cfg.objs := [{ blk := 9, kind := 1, obj := 3, base := wDacRec flags, cur := wDacRec flags }]
  dac.chans := [(3, { issue := t })], outputs := [{ kind := 1, index := 3, code := 9, time := 0 }] } }

/-- A code has waited on channel 31 since 0 and working time stands at `n`. -/
def wHold (n : Nat) : State := { dev := {
  tim.dome := n, dac.chans := [(31, { issue := some 0, wait := some { kind := 1, index := 31, code := 9, time := 0 } })] } }

/-- One configuration object with a record. -/
def wObj (blk kind obj : Nat) (b : List Byte) : CfgObj := { blk, kind, obj, base := b, cur := b }

/-- Pins 94 and 95 with FILT_US 1 and OWNER HOST, pulse input 15, ports 5 to 7, UARTs 2 and 3. -/
def wPins : State := { dev := { wRun.dev with
  tim.dome := 2 ^ 75
  cfg.objs := [wObj 10 1 94 (le 1 0x12 ++ le 1 0 ++ le 14 1), wObj 10 1 95 (le 1 1 ++ le 1 0 ++ le 14 1),
    wObj 10 2 15 (le 4 1 ++ le 12 1000), wObj 10 3 5 (le 4 1 ++ le 12 1000), wObj 10 3 6 (le 1 3 ++ le 1 12 ++ le 14 0),
    wObj 10 3 7 (le 4 9 ++ le 12 1000), wObj 10 4 2 (le 8 0x010001), wObj 10 4 3 (le 8 0x010001)]
  dio.pins := [(94, { chatAt := some (2 ^ 60) })], dio.ports := [(5, { sampleAt := 2 ^ 70 })]
  dio.uarts := [(3, { buf := List.replicate 256 { bytes := [] } })] } }

/-- Pins 7 and 8 are PWM outputs; 8 has a code for the next period. -/
def wPwm : State := { dev := { wRun.dev with
  cfg.objs := [wObj 10 1 7 (le 16 4), wObj 10 1 8 (le 16 4)]
  dio.pins := [(8, { pwmWait := some { kind := 2, index := 8, code := 65536, time := 0 } })]
  outputs := [{ kind := 2, index := 7, code := 70000, time := 0 }] } }

/-- A segment of a transmit window, and UART 1 with both windows. -/
def wSeg : HostSeg := { bytes := overwrite 28 (le 4 (crc32c (le 7 0 ++ le 20 2 ++ [0x41, 0x42])).toNat) (le 8 0 ++ le 24 2 ++ [0x41, 0x42]) }
def wUart : State := { dev := { wRun.dev with
  tim.dome := 2 ^ 75
  hif.windows := [(12, { d2h := true, enable := true, segLog2 := 12, countM1 := 1, bound := some 0x0A91, fill := [1], owned := 1 }),
                  (13, { enable := true, segLog2 := 12, countM1 := 1, bound := some 0x0A95, hold := [wSeg] })]
  cfg.objs := [wObj 10 4 1 (le 8 0x010001)]
  dio.uarts := [(1, { lastRx := some 5 })] } }

/-- An axis record: ENABLE, destination kind, no feedback, limit pins 0xFF but the positive one 40, 1 ms to qualify. -/
def wAxRec (kind : Nat) : List Byte :=
  overwrite 44 (le 1 0xFF ++ le 1 40 ++ le 2 1000) (overwrite 4 (le 2 13) (padTo 80 (le 1 1 ++ le 1 kind)))

/-- Axis 63, of task 5, with a firing passed to MOT. -/
def wAxis (m : AxMode) : State := { dev := { wRun.dev with
  tim.dome := 2 ^ 75
  cfg.objs := [wObj 2 1 5 (overwrite 2 (le 2 63) (le 32 0)), wObj 6 1 63 (wAxRec 0)]
  mot.axes := if m = .disabled then [] else [(63, { mode := m })]
  dpt.mot := [{ slot := 5, time := 0, version := 1 }] } }

/-- A firing of an axis that has no record. -/
def wMotDrop : State := { dev := { wRun.dev with dpt.mot := [{ slot := 6, time := 0, version := 1 }] } }

/-- The positive limit pin of axis 63 has changed at 5; an activation of instant 3 is pending. -/
def wLimit (level : Bool) (latch : Option Int) : State := { dev := { (wAxis .standstill).dev with
  cfg.objs := [wObj 6 1 63 (wAxRec 0), wObj 10 1 40 (le 16 1)]
  dio.pins := [(40, { level := level, edgeAt := 5 })]
  mot.axes := [(63, { mode := .standstill, pos := { pend := some 3, latch := latch } })] } }

/-- A drive record: enabled, 1 A, 2 A full scale. -/
def wDriveRec : List Byte := padTo 48 (le 4 1 ++ le 2 1000 ++ le 10 0 ++ le 2 2000)

/-- Drives 14 and 15 with CCR_OE as given and a set-point on its way. -/
def wDrive (oe : Nat) : State := { dev := { wRun.dev with
  tim.dome := 2 ^ 75, ccr.oe := oe
  cfg.objs := [wObj 7 1 14 (overwrite 32 (le 4 1 ++ le 4 1) wDriveRec), wObj 7 1 15 wDriveRec]
  ccr.drives := [(14, { strong := true, eCnt := 1 })]
  outputs := [{ kind := 6, index := 15, code := 4, time := 0 }] } }

/-- Drive 13 of axis 63 has lost its set-points; drive 12 holds; drive 11 is in FAULT. -/
def wLoss : State := { dev := { wRun.dev with
  tim.dome := 2 ^ 75
  cfg.objs := [wObj 6 1 63 (wAxRec 1), wObj 7 1 13 wDriveRec]
  ccr.drives := [(11, { fault := true }), (12, { hold := some 64 }), (13, { points := [(0, 5)] })] } }

/-- Domain 1 of a kind and role, domain number 0, ports 0 and 7. -/
def wDomRec (kind role : Nat) : List Byte := padTo 32 (le 1 kind ++ le 1 role ++ le 1 0 ++ le 1 0x81)
def wDom (kind role : Nat) : State := { dev := { wRun.dev with cfg.objs := [wObj 11 1 1 (wDomRec kind role)] } }

/-- A received message of a type, and domain 1 with it. -/
def wPtp (typ : Nat) : RxFrame := { port := 7, at_ := 0, bytes := le 12 0 ++ [0x88, 0xF7] ++ le 1 typ ++ le 43 0 ++ clockId (wDom 1 0).dev 7 ++ be 2 8 ++ le 10 0 }
def wTimRx (kind role typ : Nat) : State := { dev := { (wDom kind role).dev with
  tim.rx := [wPtp typ], tim.domains := if typ = 9 then [(1, { delayReq := some (0, 0) })] else [] } }

/-- Domain 1 is a master without ports. -/
def wMaster : State := { dev := { wRun.dev with cfg.objs := [wObj 11 1 1 (padTo 32 (le 1 2 ++ le 1 1))] } }

/-- Domain 1 is selected and has measured nothing for long. -/
def wLossDom : State := { dev := { (wDom 2 0).dev with tim.ck := 3000000000, tim.sel := 1, tim.mode := .tracking } }

/-- PPS_OUT is on and a second has just begun. -/
def wPps : State := { dev := { wRun.dev with
  tim.mode := .free, tim.dome := 10 ^ 9 * 2 ^ 32, cfg.objs := [wObj 11 0 0 (overwrite 28 (le 4 1) (padTo 32 (le 1 8)))] } }

/-- Trigger entry 63 fires at 0 and entry 62 at 1 s. -/
def wTrig : State := { dev := { wRun.dev with
  tim.mode := .free
  cfg.objs := [wObj 11 2 62 (overwrite 8 (le 8 1) (padTo 32 (le 1 1))), wObj 11 2 63 (padTo 32 (le 1 1))] } }

/-- TIM_RESTEP may run. -/
def wRestep : State := { dev := { wMaint.dev with cfg.mode := .loaded, tim.mode := .free } }

/-- Port 7 has a link, 10 µs gates and a waiting frame of class 7; ports 4 and 5 are a pair; port 6 may come up. -/
def wLinkUp : State := { dev := { wRun.dev with
  tim.spire := 2 ^ 75, eth.portEn := 255
  cfg.objs := [wObj 12 1 4 (padTo 64 (le 1 0x12)), wObj 12 1 6 (padTo 64 (le 1 2)), wObj 12 1 7 (padTo 64 (le 1 2)),
    wObj 12 2 7 (padTo 2064 (le 4 10000))]
  eth.ports := [(7, { link := true, classes := [(7, { fifo := [{ bytes := le 60 0 }] })] })]
  eth.streams := [(63, { seq := some 5 })] } }

/-- A time message of 60 bytes with its FCS. -/
def wTimeFrame : List Byte := let b := le 12 0 ++ [0x88, 0xF7] ++ le 46 0; b ++ le 4 (crc32e b).toNat

/-- A transmit window of port 7 with a segment. -/
def wHostTx : State := { dev := { wRun.dev with
  hif.windows := [(13, { enable := true, segLog2 := 12, countM1 := 1, bound := some 0x0C0F, hold := [wSeg] })] } }

/-- A station record: enabled, 1 ms cycle, 500 µs to respond. -/
def wStnRec : List Byte := overwrite 12 (le 4 1000000 ++ le 4 0 ++ le 4 500000) (padTo 64 (le 1 1))

/-- Stations 126 and 127, and stream 63 as a listener. -/
def wStn (m : StnMode) : State := { dev := { wRun.dev with
  tim.spire := 2 ^ 60
  cfg.objs := [wObj 12 3 126 wStnRec, wObj 12 3 127 wStnRec, wObj 12 7 63 (overwrite 8 (le 1 5) (le 32 0))]
  eth.stations := [(126, { next := some (2 ^ 40) }), (127, { mode := m, next := some 3 })] } }

/-- Nelzer frames of station 127 and of another. -/
def wNzOf (st : Nat) : RxFrame := { port := 0, at_ := 0, bytes := le 14 0 ++ nzHeader 2 st 0 0 3 0 0 0 [] }
def wNz (typ cycle : Nat) : RxFrame := { port := 0, at_ := 0, bytes := le 14 0 ++ nzHeader typ 127 0 0 cycle 0 0 0 [] }
def wNzAck : RxFrame := { port := 0, at_ := 0, bytes := le 14 0 ++ nzHeader 4 127 0 0 0 0 0 (crc32c (nzBlock (wStn .param).dev 127)) [] }

/-- A frame has been received for a station that awaits it. -/
def wStnRx (k : Nat) : State := { dev := { (wStn .live).dev with
  pai.mode := if k = 4 then .synced else .off
  eth.stations := [(126, { mode := .live, param := some { tries := 3 } }),
    (127, if k = 4 then { mode := .param, param := some {} } else if k = 8 then { mode := .param, param := some { delays := true, left := some 0 } }
          else { mode := .live, open_ := [{ m := 3 }] })]
  eth.rx := [if k = 2 then wNz 2 3 else if k = 4 then wNzAck else if k = 8 then wNz 8 0 else wNzOf 126] } }

/-- A cycle of a station in PARAM has passed its deadline; a LOST station with a frame from it. -/
def wStnPar : State := { dev := { (wStn .param).dev with eth.stations := [(127, { mode := .param, open_ := [{ m := 3 }] })] } }
def wStnLost : State := { dev := { (wStn .lost).dev with eth.rx := [wNz 6 0] } }

/-- A program image of the smallest form: code, 64 bytes of instance data, and the tables of Table PGM-3 when it is whole. -/
def wImg (code : List Byte) : List Byte := overwrite 12 (le 4 7 ++ le 4 64 ++ le 4 code.length ++ le 4 64) (le 64 0) ++ code

/-- Core 7 runs program 2 at its first instruction, x10 at the instance region and x11 set; working time as given. -/
def wCore (code : List Byte) (inst : Nat) (now : Nat) : State := { dev := { wRun.dev with
  tim.spire := now, cfg.objs := wObj 4 1 2 (padTo 32 (le 4 0 ++ le 8 10 ++ le 4 5 ++ le 4 200)) :: wRun.dev.cfg.objs
  pgm.progs := [(2, { mode := .running, image := wImg code, inst := le 64 inst })]
  pgm.run_ := [(7, { regs := ((List.replicate 32 0#32).set 10 0x20000000#32).set 11 1#32,
                     cyc := some { prog := 2, release := 0, start := 256000 } })] } }

/-- A function-block instruction on x10 and x11 with result in x12. -/
def wFbWord (f f7 : Nat) : List Byte :=
  le 4 (0x0B + 12 * 128 + f * 4096 + (if f = 4 then 0 else 10 * 32768 + 11 * 1048576) + f7 * 33554432)

/-- What core 7 runs, and the program it runs. -/
def wCyc : Cycle := { prog := 2, release := 0, start := 256000 }
def wProgOf (code : List Byte) (inst : Nat) : Prog := { mode := .running, image := wImg code, inst := le 64 inst }

/-- The image of a program that returns at once, whole and valid. -/
def wGood : List Byte :=
  let b := le 4 0x47505A4B ++ le 2 1 ++ le 2 0 ++ le 4 248 ++ le 4 7 ++ le 4 64 ++ le 4 8 ++ le 4 64 ++ le 4 72 ++
    le 4 136 ++ le 2 1 ++ le 2 1 ++ le 4 152 ++ le 4 0 ++ le 4 160 ++ le 4 168 ++ le 8 0 ++
    (le 2 0x8082 ++ le 6 0) ++ le 64 0 ++ (le 4 1 ++ le 4 9 ++ le 4 0 ++ le 4 64) ++ (le 4 9 ++ le 2 0 ++ le 2 0) ++ le 8 0 ++
    (le 4 0 ++ List.replicate 20 0xFF#8) ++ le 56 0
  overwrite 60 (le 4 (crc32c b).toNat) b

/-- Program 2 exists and is enabled, periodic, IDLE, with a release due on core 0 of a running device. -/
def wProg : State := { dev := { wRun.dev with
  tim.spire := 2 ^ 70, dpt.run := true, dpt.coreReady := [(0, [(0, 9)])]
  cfg.objs := { wTask 9 with base := padTo 32 (le 1 2 ++ le 1 4 ++ le 2 2), cur := padTo 32 (le 1 2 ++ le 1 4 ++ le 2 2) } ::
    wObj 4 1 2 (padTo 32 (le 2 1 ++ le 2 9 ++ le 4 1000 ++ le 4 0 ++ le 4 5 ++ le 4 200)) :: wRun.dev.cfg.objs
  pgm.progs := [(2, { mode := .idle, image := wGood, inst := le 64 0 })] } }

/-- A new image stands staged for program 2. -/
def wExch (m : PgmMode) : State := { dev := { wProg.dev with
  pgm.progs := [(2, { mode := m, image := wGood, inst := le 64 0, exch := some (wPend, wGood, 0) })] } }

/-- Core 7 has ended its cycle, at 1 µs or late. -/
def wEnded (now : Nat) : State := { dev := { wProg.dev with
  tim.spire := now
  pgm.run_ := [(7, { cyc := some { prog := 2, release := 0, start := 0, ended := true } })] } }

/-- The smallest FBL image: one END. -/
def wFbl : List Byte :=
  let b := le 4 0x42465A4B ++ le 2 1 ++ le 2 1 ++ le 4 488 ++ le 4 7 ++ le 16 0 ++ (le 2 0xFC00 ++ le 6 0) ++
    le 128 0 ++ le 256 0 ++ List.replicate 64 0xFF#8
  overwrite 28 (le 4 (crc32c b).toNat) b

/-- An answer is the one its value or its error tells. -/
theorem of_ok {α ε : Type} {a : α} {e : Except ε α} (h : e.toOption = some a) : e = .ok a := by cases e <;> simp_all [Except.toOption]
theorem of_error {α ε : Type} {a : ε} {e : Except ε α} (h : (match e with | .error b => some b | .ok _ => none) = some a) :
    e = .error a := by cases e <;> simp_all

/-- Controller 7 with the flags of its record: buffers 124 ONESHOT of one byte, 125 TT and 126 PERIODIC; filter 255 takes
frames of identifier 5. -/
def wCan (flags : Nat) (c : CanCtl) : State := { dev := { wRun.dev with
  tim.dome := 2 ^ 70, can.en := 255, can.ctls := [(7, c)]
  cfg.objs := [wObj 13 1 7 (overwrite 24 (le 4 1000 ++ le 4 0) (padTo 48 (le 1 flags))),
    wObj 13 2 124 (padTo 32 (le 8 0 ++ le 1 1)), wObj 13 2 125 (overwrite 24 (le 1 0 ++ le 1 1 ++ le 2 0 ++ le 2 0 ++ le 2 5) (padTo 32 (le 1 2))),
    wObj 13 2 126 (overwrite 20 (le 4 1000) (padTo 32 (le 1 1))), wObj 13 3 255 (le 1 1 ++ le 3 0 ++ le 4 5 ++ le 4 0x1FFFFFFF ++ le 4 0)] } }
/-- Buffers of controller 7 in which 12 to 14 hold one byte, and which of them have a frame pending. -/
def wBufs (p : Nat → Option STime) : Tab CanBuf := [12, 13, 14].map (fun b => (b, { data := some [1], pend := p b }))

/-- A safety configuration: T_DEG 1 s, node 5, no reset input; input 0 single contacts; function 31 on output 7; producer 15
and consumer 15 of node 5. -/
def wSafCfg : List Byte :=
  le 12 0 ++ (le 4 3 ++ (le 48 0 ++ (le 2 1 ++ (le 2 5 ++ (le 4 0 ++ (le 1 0xFF ++ (le 23 0 ++
  (le 2 1 ++ (le 2 100 ++ (le 4 10 ++ (le 120 0 ++ (le 496 0 ++ (le 4 2 ++ (le 12 128 ++ (le 112 0 ++
  (le 2 1 ++ (le 2 50 ++ (le 2 100 ++ (le 10 100 ++ (le 240 0 ++ (le 2 1 ++ (le 2 7 ++ (le 4 500 ++ (le 8 1 ++ (le 240 0 ++
  (le 2 1 ++ (le 2 5 ++ (le 2 9 ++ le 10 2))))))))))))))))))))))))))))

/-- Belfry in a state at `ck` with its configuration in both channels and the MAINT scope open. -/
def wSaf (m : SafMode) (ck : Nat) : State := { dev := { wMaint.dev with
  tim.ck := ck, saf.mode := m, saf.cfg := wSafCfg
  saf.a := { cfg := wSafCfg, sampledAt := some ck }, saf.b := { cfg := wSafCfg, sampledAt := some ck } } }

/-- Output 7 is energised, its pulses due and function 31 permits. -/
def wSafOn (ck : Nat) : State := { dev := { (wSaf .run ck).dev with
  saf.energised := 128, saf.pulseAt := [(14, 0), (15, 0)], saf.req := 128
  saf.a := { (wSaf .run ck).dev.saf.a with gates := 128, fns := [(31, { mode := .permit })], stage := { gates := 128 } }
  saf.b := { (wSaf .run ck).dev.saf.b with gates := 128, fns := [(31, { mode := .permit })], stage := { gates := 128 } } } }

/-- Consumer 15 in a mode, last seen at 0. -/
def wCons (m : ConsMode) (ck : Nat) : State := { dev := { (wSaf .run ck).dev with
  btr.linkUp := true, saf.cons := [(15, { mode := m })] } }

/-- A safe frame of connection 9 of node 5, received on LAN A. -/
def wSafePay : List Byte := let b := le 1 0x11 ++ le 1 0 ++ le 2 5 ++ le 2 9 ++ le 2 0 ++ le 4 1 ++ le 4 7 ++ le 4 0 ++ le 4 0
  b ++ le 4 (crc32c b).toNat ++ le 4 (crc32e b).toNat
def wSafeRx (b : List Byte) : RxFrame := { port := 0, at_ := 0, bytes := le 12 0 ++ [0x88, 0xB6] ++ b }

/-- A safety configuration with nothing enabled; its CRCs and its signature are not filled in. -/
def wSafImg : List Byte :=
  overwrite 64 (le 2 1 ++ le 2 5 ++ le 2 0 ++ le 1 0 ++ le 1 0 ++ le 1 0xFF)
    (padTo 4472 (le 4 0x46535A4B ++ le 2 1 ++ le 2 0x9680 ++ le 4 4472 ++ le 4 3 ++ le 8 0 ++ le 4 1376))

/-- A pair record (PAIR_EN, UNIT 1) and a device in a pair state with lane 1 up at `ck`. -/
def wPair (m : PaiMode) (ck : Nat) : State := { dev := { wMaint.dev with
  tim.ck := ck, tim.dome := 2 ^ 70, pai.mode := m, pai.lanes := 2
  cfg.objs := wObj 16 1 0 (padTo 16 (le 1 3 ++ le 3 0 ++ le 2 10)) :: wRun.dev.cfg.objs } }

/-- A heartbeat of a peer with its CRC, of a state and flags. -/
def wBeat (state flags : Nat) : List Byte :=
  let b := le 1 state ++ le 1 flags ++ le 26 2
  b ++ le 4 (crc32c b).toNat
def wHeard (m : PaiMode) (ck : Nat) (state flags : Nat) : State := { dev := { (wPair m ck).dev with
  pai.peer := some { bytes := wBeat state flags, at_ := 0, ck := 0 } } }

/-- A SYNCED device whose fence is drawn since 0. -/
def wTake (ck : Nat) (k : Option (Nat × Bool × Bool)) : State := { dev := { (wPair .takeover ck).dev with
  pai.fence := true, pai.tk := k } }

/-- A packet waits for its acknowledgement. -/
def wTx : PairTx := { seq := 4, lane := 1, payload := [7], sentAt := 0 }
def wPacket (ck : Nat) : State := { dev := { (wPair .active ck).dev with pai.tx := [wTx] } }

/-- Scopes, a nonce and a lockout end at 5; the TAP holds EXTEST. -/
def wAuth (ck : Nat) : State := { dev := { wRun.dev with
  tim.ck := ck, sec.scopes := [(0, 5), (1, 5), (3, 5)], sec.nonce := some ([], 5), sec.lockUntil := 5 } }

/-- The block after CFG_LOAD_BASE has been refused at reset. -/
def wRefused : Device := match commandBody [] [] 0x0101 wPend {} with
  | .done _ _ _ u => u
  | .wait u => u

/-- Station 127 with a parameter block above 1,024 bytes and an acknowledgement received. -/
def wStnBig : State := { dev := { (wStnRx 4).dev with
  cfg.objs := [wObj 12 3 127 (overwrite 26 (le 2 1400) wStnRec)], eth.rx := [wNzAck] } }

/-- The record of program 2 of `wCore`. -/
def wPgmRec : List Byte := padTo 32 (le 4 0 ++ le 8 10 ++ le 4 5 ++ le 4 200)

/-- Controller 7 whose filter 255 has the flags given. -/
def wCanRx (flags : Nat) : State := { dev := { (wCan 1 { mode := .errorActive }).dev with
  cfg.objs := wObj 13 3 255 (le 1 flags ++ le 3 0 ++ le 4 5 ++ le 4 0x1FFFFFFF ++ le 4 0) :: wRun.dev.cfg.objs ++ [wObj 13 1 7 (padTo 48 (le 1 1))] } }

/-! ## Witnesses -/

/-- The hypotheses of Obligations.QueueStaysWellFormed can be met, clause by clause. -/
theorem witness_QueueStaysWellFormed :
  (∃ (s : State) (t : State), (QueueOk s) ∧ (step s = .next t)) :=
  ⟨{}, { dev := clockCycle {} }, by simp [QueueOk], rfl⟩

/-- The hypotheses of Obligations.IdleCycle can be met, clause by clause. -/
theorem witness_IdleCycle :
  (∃ (d : Device), (d.clk.held = none)) ∧
  (∃ (d : Device), (d.clk.held.isSome = true)) :=
  ⟨⟨{}, by decide +kernel⟩, ⟨wHeld, by decide +kernel⟩⟩

/-- The hypotheses of Obligations.RingDoorbellWrite can be met, clause by clause. -/
theorem witness_RingDoorbellWrite :
  (∃ (n : Nat) (b : BusWrite) (s : State), (n < 32) ∧ (b.off = 0) ∧ (b.width = 4 ∨ b.width = 8) ∧ ((ringOf s.dev
    n).enable = true) ∧ (b.value.toNat % 2 ^ 32 < 2 ^ 16) ∧ (b.value.toNat % 2 ^ 32 < 2 ^ (ringOf s.dev
    n).sizeLog2)) ∧
  (∃ (n : Nat) (b : BusWrite) (s : State), (n < 32) ∧ (b.off = 0) ∧ (b.width = 4 ∨ b.width = 8) ∧ ((ringOf s.dev
    n).enable = true) ∧ (2 ^ 16 ≤ b.value.toNat % 2 ^ 32 ∨ 2 ^ (ringOf s.dev n).sizeLog2 ≤ b.value.toNat % 2 ^ 32)) ∧
  (∃ (n : Nat) (b : BusWrite) (s : State), ((ringOf s.dev n).enable = false ∨ b.off ≠ 0 ∨ (b.width ≠ 4 ∧ b.width ≠
    8))) :=
  ⟨⟨31, { off := 0, width := 8, value := 63#64 }, wUp, by decide +kernel, by decide +kernel, by decide +kernel,
    by decide +kernel, by decide +kernel, by decide +kernel⟩, ⟨0, { off := 0, width := 4, value := 64#64 }, wUp,
    by decide +kernel, by decide +kernel, by decide +kernel, by decide +kernel, by decide +kernel⟩, ⟨1,
    { off := 4, width := 4, value := 0#64 }, wUp, by decide +kernel⟩⟩

/-- The hypotheses of Obligations.EventRingDoorbellWrite can be met, clause by clause. -/
theorem witness_EventRingDoorbellWrite :
  (∃ (b : BusWrite) (s : State), (b.off = 0) ∧ (b.width = 4 ∨ b.width = 8) ∧ (s.dev.hif.evqEnable = true) ∧
    (b.value.toNat % 2 ^ 32 < 2 ^ s.dev.hif.evqSize) ∧ ((b.value.toNat % 2 ^ 32 + 2 ^ s.dev.hif.evqSize -
    s.dev.hif.evqCons) % 2 ^ s.dev.hif.evqSize ≤ (s.dev.hif.evqProd + 2 ^ s.dev.hif.evqSize - s.dev.hif.evqCons) % 2
    ^ s.dev.hif.evqSize)) ∧
  (∃ (b : BusWrite) (s : State), (b.off = 0) ∧ (b.width = 4 ∨ b.width = 8) ∧ (s.dev.hif.evqEnable = true) ∧ (2 ^
    s.dev.hif.evqSize ≤ b.value.toNat % 2 ^ 32 ∨ (s.dev.hif.evqProd + 2 ^ s.dev.hif.evqSize - s.dev.hif.evqCons) % 2
    ^ s.dev.hif.evqSize < (b.value.toNat % 2 ^ 32 + 2 ^ s.dev.hif.evqSize - s.dev.hif.evqCons) % 2 ^
    s.dev.hif.evqSize)) ∧
  (∃ (s : State), (s.dev.hif.evqEnable = false)) :=
  ⟨⟨{ off := 0, width := 4, value := 3#64 }, wUp, by decide +kernel, by decide +kernel, by decide +kernel,
    by decide +kernel, by decide +kernel⟩, ⟨{ off := 0, width := 4, value := 4#64 }, wUp, by decide +kernel,
    by decide +kernel, by decide +kernel, by decide +kernel⟩, ⟨{}, by decide +kernel⟩⟩

/-- The hypotheses of Obligations.DescriptorsFetchAndStart can be met, clause by clause. -/
theorem witness_DescriptorsFetchAndStart :
  (∃ (n : Nat) (imgs : List (List Byte)) (s : State), (n < 32) ∧ ((ringOf s.dev n).enable = true) ∧ ((ringOf s.dev
    n).halted = false) ∧ (s.dev.hif.d3hot = false) ∧ ((ringOf s.dev n).prefetch = [] ∨ ∃ d rest, (ringOf s.dev
    n).prefetch = .desc d :: rest) ∧ ((ringOf s.dev n).prefetch.length + imgs.length ≤ 8) ∧ ((ringOf s.dev
    n).prefetch.length + imgs.length ≤ pendingCount (ringOf s.dev n))) ∧
  (∃ (n : Nat) (s : State), (n < 32) ∧ ((ringOf s.dev n).enable = true) ∧ ((ringOf s.dev n).halted = false) ∧
    ((ringOf s.dev n).busy = false) ∧ (s.dev.hif.d3hot = false) ∧ ((ringOf s.dev n).prefetch = []) ∧ (1 ≤
    pendingCount (ringOf s.dev n))) ∧
  (∃ (prio : Bool) (n : Nat) (d : Desc) (rest : List Fetched) (s : State), (s.dev.btr.spireUp = true) ∧
    (s.dev.hif.d3hot = false) ∧ (servedRing s.dev = some (prio, n)) ∧ ((ringOf s.dev n).prefetch = .desc d :: rest)) ∧
  (∃ (a : Nat) (b : Nat) (s : State), (a < 32) ∧ (b < 32) ∧ (ringReady s.dev true a = true) ∧ (ringReady s.dev false
    b = true)) ∧
  (∃ (d : Desc) (s : State), (canStart d s.dev = true) ∧ (0x1A ≤ d.opcode.toNat / 256 ∨ d.opcode.toNat / 256 = 0x16
    ∨ d.opcode.toNat / 256 = 0x18 ∨ d.opcode.toNat / 256 = 0x19)) ∧
  (∃ (d : Desc) (s : State), (canStart d s.dev = true) ∧ (badField { target := false } [] d = none)) ∧
  (∃ (d : Desc) (s : State), (canStart d s.dev = true) ∧ (d.flags.toNat / 2 = 0) ∧ (d.target ≠ 0) ∧ (d.bufLen = 0)) :=
  ⟨⟨31, [le 64 0], wUp, by decide +kernel, by decide +kernel, by decide +kernel, by decide +kernel, .inl rfl,
    by decide +kernel, by decide +kernel⟩, ⟨31, wUp, by decide +kernel, by decide +kernel, by decide +kernel,
    by decide +kernel, by decide +kernel, by decide +kernel, by decide +kernel⟩, ⟨false, 31, {}, [], wFetched,
    by decide +kernel, by decide +kernel, by decide +kernel, by decide +kernel⟩, ⟨1, 31, wFetched2,
    by decide +kernel, by decide +kernel, by decide +kernel, by decide +kernel⟩, ⟨{ opcode := 0x1600 }, wUp,
    by decide +kernel, by decide +kernel⟩, ⟨{}, wUp, by decide +kernel, by decide +kernel⟩, ⟨{ target := 1 }, wUp,
    by decide +kernel, by decide +kernel, by decide +kernel, by decide +kernel⟩⟩

/-- The hypotheses of Obligations.CommandCompletes can be met, clause by clause. -/
theorem witness_CommandCompletes :
  (∃ (st : Status), (st ≠ .ok)) :=
  ⟨.late, by decide +kernel⟩

/-- The hypotheses of Obligations.RingRunState can be met, clause by clause. -/
theorem witness_RingRunState :
  (∃ (d : Desc) (s : State), (canStart d s.dev = true) ∧ (d.target.toNat < 32) ∧ (badField { pmask := 1 } [(d.p0 !=
    1 && d.p0 != 2, 24)] d = none) ∧ ((ringOf (started d s.dev) d.target.toNat).enable = true) ∧ ((ringOf (started d
    s.dev) d.target.toNat).halted = true)) ∧
  (∃ (n : Nat) (s : State), (s.dev.btr.spireUp = true) ∧ (n < 32) ∧ ((ringOf s.dev n).enable = true) ∧ ((ringOf
    s.dev n).halted = true)) ∧
  (∃ (n : Nat) (s : State), (s.dev.btr.spireUp = true) ∧ (n < 32) ∧ ((ringOf s.dev n).enable = true) ∧ ((ringOf
    s.dev n).halted = true)) ∧
  (∃ (n : Nat) (v : Nat) (s : State), (n < 32) ∧ (s.dev.btr.spireUp = true) ∧ ((ringOf s.dev n).enable = false) ∧ (6
    ≤ bits 4 0 v) ∧ (bits 4 0 v ≤ 16)) ∧
  (∃ (n : Nat) (v : Nat) (s : State), (n < 32) ∧ (s.dev.btr.spireUp = true) ∧ ((ringOf s.dev n).enable = true) ∧
    ((ringOf s.dev n).busy = false) ∧ (bits 4 0 v = (ringOf s.dev n).sizeLog2)) :=
  ⟨⟨{ target := 1, p0 := 2 }, wHalted, by decide +kernel, by decide +kernel, by decide +kernel, by decide +kernel,
    by decide +kernel⟩, ⟨1, wHalted, by decide +kernel, by decide +kernel, by decide +kernel, by decide +kernel⟩,
    ⟨1, wHalted, by decide +kernel, by decide +kernel, by decide +kernel, by decide +kernel⟩, ⟨31, 6, wSpire,
    by decide +kernel, by decide +kernel, by decide +kernel, by decide +kernel, by decide +kernel⟩, ⟨0, 6, wUp,
    by decide +kernel, by decide +kernel, by decide +kernel, by decide +kernel, by decide +kernel⟩⟩

/-- The hypotheses of Obligations.EventRingRunState can be met, clause by clause. -/
theorem witness_EventRingRunState :
  (∃ (v : Nat) (s : State), (s.dev.btr.spireUp = true) ∧ (s.dev.hif.evqEnable = false) ∧ (6 ≤ bits 4 0 v) ∧ (bits 4
    0 v ≤ 16)) ∧
  (∃ (v : Nat) (s : State), (s.dev.btr.spireUp = true) ∧ (s.dev.hif.evqEnable = true) ∧ (bits 4 0 v =
    s.dev.hif.evqSize) ∧ (s.dev.hif.evqHeld = []) ∧ (s.dev.hif.evqGapRec = none)) ∧
  (∃ (r : EvRec) (rest : List EvRec) (s : State), (s.dev.hif.evqEnable = true) ∧ (evqSpace s.dev = true) ∧
    (s.dev.hif.d3hot = false) ∧ (s.dev.hif.evqGapOwed = false) ∧ (s.dev.hif.evqMiss = none) ∧ (s.dev.hif.evqHeld = r
    :: rest)) ∧
  (∃ (s : State), (evqSpace s.dev = false ∨ s.dev.hif.evqEnable = false)) :=
  ⟨⟨6, wSpire, by decide +kernel, by decide +kernel, by decide +kernel, by decide +kernel⟩, ⟨6, wUp,
    by decide +kernel, by decide +kernel, by decide +kernel, by decide +kernel, by decide +kernel⟩, ⟨{}, [], wEvq,
    by decide +kernel, by decide +kernel, by decide +kernel, by decide +kernel, by decide +kernel,
    by decide +kernel⟩, ⟨{}, by decide +kernel⟩⟩

/-- The hypotheses of Obligations.WindowsBoundAndReleased can be met, clause by clause. -/
theorem witness_WindowsBoundAndReleased :
  (∃ (d : Desc) (s : State), (canStart d s.dev = true) ∧ (d.target.toNat < 16) ∧ (badField { pmask := 0xF }
    [(1000000 < d.p2.toNat, 32)] d = none) ∧ (d.p1 = 0) ∧ (d.p0 ≠ 0x1600) ∧ (sourceDir d.p0.toNat = some (winOf
    s.dev d.target.toNat).d2h) ∧ (sourceExists (started d s.dev) d.p0.toNat = true) ∧ ((winOf s.dev
    d.target.toNat).enable = true) ∧ ((winOf s.dev d.target.toNat).bound = none) ∧ (windowOf (started d s.dev)
    d.p0.toNat = none)) ∧
  (∃ (d : Desc) (s : State), (canStart d s.dev = true) ∧ (16 ≤ d.target.toNat)) ∧
  (∃ (d : Desc) (s : State), (canStart d s.dev = true) ∧ (d.target.toNat < 16) ∧ (badField plain [] d = none) ∧
    ((winOf s.dev d.target.toNat).bound.isSome = true) ∧ ((winOf s.dev d.target.toNat).d2h = false)) ∧
  (∃ (n : Nat) (b : BusWrite) (s : State), (n < 16) ∧ (s.dev.btr.spireUp = true) ∧ (b.width = 4) ∧ (b.off = 8) ∧
    ((winOf s.dev n).bound = none) ∧ (bit 6 (b.value.toNat % 2 ^ 32) = false)) ∧
  (∃ (n : Nat) (b : BusWrite) (s : State), (n < 16) ∧ (s.dev.btr.spireUp = true) ∧ (b.width = 4) ∧ (b.off = 0 ∨
    b.off = 4 ∨ b.off = 8) ∧ ((winOf s.dev n).bound.isSome = true)) :=
  ⟨⟨{ target := 15, p0 := 0x1200 }, wWin, by decide +kernel, by decide +kernel, by decide +kernel,
    by decide +kernel, by decide +kernel, by decide +kernel, by decide +kernel, by decide +kernel,
    by decide +kernel, by decide +kernel⟩, ⟨{ target := 16 }, wWin, by decide +kernel, by decide +kernel⟩,
    ⟨{ target := 14 }, wWin, by decide +kernel, by decide +kernel, by decide +kernel, by decide +kernel,
    by decide +kernel⟩, ⟨15, { off := 8, width := 4, value := 0x0001002C#64 }, wWin, by decide +kernel,
    by decide +kernel, by decide +kernel, by decide +kernel, by decide +kernel, by decide +kernel⟩, ⟨14,
    { off := 4, width := 4, value := 0#64 }, wWin, by decide +kernel, by decide +kernel, by decide +kernel,
    by decide +kernel, by decide +kernel⟩⟩

/-- The hypotheses of Obligations.SegmentsPassAndReturn can be met, clause by clause. -/
theorem witness_SegmentsPassAndReturn :
  (∃ (n : Nat) (b : BusWrite) (s : State), (n < 16) ∧ (b.off = 0) ∧ (b.width = 4) ∧ (b.value.toNat % 2 ^ 32 ≤ (winOf
    s.dev n).countM1) ∧ ((winOf s.dev n).enable = true) ∧ (s.dev.hif.d3hot = false) ∧ ((winOf s.dev n).bound.isSome
    = true) ∧ ((winOf s.dev n).d2h = true)) ∧
  (∃ (n : Nat) (b : BusWrite) (s : State), (n < 16) ∧ (b.off = 0) ∧ (b.width = 4) ∧ (b.value.toNat % 2 ^ 32 ≤ (winOf
    s.dev n).countM1) ∧ ((winOf s.dev n).enable = true) ∧ (s.dev.hif.d3hot = false) ∧ ((winOf s.dev n).bound.isSome
    = true) ∧ ((winOf s.dev n).d2h = false)) ∧
  (∃ (n : Nat) (s : State), ((winOf s.dev n).bound.isSome = true) ∧ ((winOf s.dev n).d2h = true) ∧ (0 < (winOf s.dev
    n).flushUs) ∧ (flushFrom n s.dev + usT (winOf s.dev n).flushUs ≤ nowS s.dev) ∧ (0 < (winOf s.dev n).owned) ∧
    (s.dev.hif.d3hot = false)) ∧
  (∃ (n : Nat) (s : State), ((winOf s.dev n).bound.isSome = true) ∧ ((winOf s.dev n).d2h = true) ∧ (0 < (winOf s.dev
    n).flushUs) ∧ ((winOf s.dev n).fill = []) ∧ (ringSource s.dev ((winOf s.dev n).bound.getD 0) = none) ∧ ((winOf
    s.dev n).idleFrom + usT (winOf s.dev n).flushUs ≤ nowS s.dev) ∧ (0 < (winOf s.dev n).owned) ∧ (s.dev.hif.d3hot =
    false)) ∧
  (∃ (n : Nat) (s : Device), ((winOf s n).fill = []) ∧ ((winOf s n).fillTime = none)) ∧
  (∃ (n : Nat) (s : State), ((winOf s.dev n).bound = none)) ∧
  (∃ (n : Nat) (typ : Nat) (src : Nat) (recs : List BufRec) (s : State), ((winOf s.dev n).bound = some src) ∧
    ((winOf s.dev n).d2h = true) ∧ ((winOf s.dev n).enable = true) ∧ (ringSource s.dev src = some (typ, recs))) ∧
  (∃ (n : Nat) (typ : Nat) (src : Nat) (recs : List BufRec) (s : State), ((winOf s.dev n).bound = some src) ∧
    ((winOf s.dev n).d2h = true) ∧ ((winOf s.dev n).enable = true) ∧ (ringSource s.dev src = some (typ, recs)) ∧
    (recs ≠ []) ∧ (recs.length < segRoom (winOf s.dev n) / ringUnit typ) ∧ (0 < (winOf s.dev n).owned) ∧
    (s.dev.hif.d3hot = false)) :=
  ⟨⟨13, { off := 0, width := 4, value := 1#64 }, wWin, by decide +kernel, by decide +kernel, by decide +kernel,
    by decide +kernel, by decide +kernel, by decide +kernel, by decide +kernel, by decide +kernel⟩, ⟨14,
    { off := 0, width := 4, value := 1#64 }, wWin, by decide +kernel, by decide +kernel, by decide +kernel,
    by decide +kernel, by decide +kernel, by decide +kernel, by decide +kernel, by decide +kernel⟩, ⟨13, wWin,
    by decide +kernel, by decide +kernel, by decide +kernel, by decide +kernel, by decide +kernel,
    by decide +kernel⟩, ⟨13, wWin, by decide +kernel, by decide +kernel, by decide +kernel, by decide +kernel,
    by decide +kernel, by decide +kernel, by decide +kernel, by decide +kernel⟩, ⟨13, wWin.dev, by decide +kernel,
    by decide +kernel⟩, ⟨15, wWin, by decide +kernel⟩, ⟨12, typOf wWin 0x1100, 0x1100, recsOf wWin 0x1100, wWin,
    by decide +kernel, by decide +kernel, by decide +kernel, by decide +kernel⟩, ⟨12, typOf wWinRec 0x1100, 0x1100,
    recsOf wWinRec 0x1100, wWinRec, by decide +kernel, by decide +kernel, by decide +kernel, by decide +kernel,
    by decide +kernel, by decide +kernel, by decide +kernel, by decide +kernel⟩⟩

/-- The hypotheses of Obligations.InterruptsFire can be met, clause by clause. -/
theorem witness_InterruptsFire :
  (∃ (v : Nat) (s : State), (0 < (vecOf s.dev v).gathered) ∧ ((vecOf s.dev v).firstAt + usT (if (vecOf s.dev
    v).timeUs = 0 then 100 else (vecOf s.dev v).timeUs) ≤ nowS s.dev) ∧ ((vecOf s.dev v).masked = false)) ∧
  (∃ (v : Nat) (s : State), ((vecOf s.dev v).gathered = 0)) ∧
  (∃ (v : Nat) (s : State), ((vecOf s.dev v).masked = true) ∧ ((vecOf s.dev v).pba = true)) ∧
  (∃ (v : Nat) (s : State), ((vecOf s.dev v).masked = true) ∧ ((vecOf s.dev v).pba = false)) :=
  ⟨⟨63, wVec, by decide +kernel, by decide +kernel, by decide +kernel⟩, ⟨0, wVec, by decide +kernel⟩, ⟨62, wVec,
    by decide +kernel, by decide +kernel⟩, ⟨61, wVec, by decide +kernel, by decide +kernel⟩⟩

/-- The hypotheses of Obligations.PowerStatesOfTheLink can be met, clause by clause. -/
theorem witness_PowerStatesOfTheLink :
  (∃ (s : Device), (s.hif.d3hot = true)) ∧
  (∃ (s : State), (s.dev.hif.d3hot = true) ∧ (s.dev.hif.heldBells = [])) ∧
  (∃ (s : State), (s.dev.hif.d3hot = false)) ∧
  (∃ (s : State), (s.dev.btr.spireUp = true)) ∧
  (∃ (s : State), (s.dev.btr.spireUp = true) ∧ (s.dev.clk.spirePlls = true)) :=
  ⟨⟨{ hif.d3hot := true }, by decide +kernel⟩, ⟨{ dev := { hif.d3hot := true } }, by decide +kernel,
    by decide +kernel⟩, ⟨{}, by decide +kernel⟩, ⟨wSpire, by decide +kernel⟩, ⟨wPlls, by decide +kernel,
    by decide +kernel⟩⟩

/-- The hypotheses of Obligations.RegisterWrites can be met, clause by clause. -/
theorem witness_RegisterWrites :
  (∃ (b : BusWrite) (s : State), (b.off = 0x20) ∧ (b.width = 4) ∧ (s.dev.btr.spireUp = true)) ∧
  (∃ (b : BusWrite), ((b.width ≠ 4 ∧ b.width ≠ 8) ∨ b.off % b.width ≠ 0)) ∧
  (∃ (b : BusWrite) (s : State), (b.width = 4) ∧ (b.off % 4 = 0) ∧ (b.off < 0x2000) ∧ (s.dev.btr.spireUp = false)) ∧
  (∃ (b : BusWrite), ((0x108 ≤ b.off ∧ b.off < 0x200) ∨ 0x280 ≤ b.off)) ∧
  (∃ (n : Nat) (b : BusWrite), (n < 64) ∧ (b.width = 4) ∧ (b.off = 16 * n + 12) ∧ (bit 0 (b.value.toNat % 2 ^ 32) =
    true)) :=
  ⟨⟨{ off := 0x20, width := 4, value := 63#64 }, wSpire, by decide +kernel, by decide +kernel, by decide +kernel⟩,
    ⟨{ off := 0x22, width := 4, value := 0#64 }, by decide +kernel⟩, ⟨{ off := 0x1FFC, width := 4, value := 0#64 },
    {}, by decide +kernel, by decide +kernel, by decide +kernel, by decide +kernel⟩,
    ⟨{ off := 0x108, width := 4, value := 0#64 }, by decide +kernel⟩, ⟨63,
    { off := 1020, width := 4, value := 1#64 }, by decide +kernel, by decide +kernel, by decide +kernel,
    by decide +kernel⟩⟩

/-- The hypotheses of Obligations.ConfigurationMoves can be met, clause by clause. -/
theorem witness_ConfigurationMoves :
  (∃ (d : Desc) (s : State), (canStart d s.dev = true) ∧ (badField
    { target := false, bufMin := 1, bufMax := 16777216 } [] d = none) ∧ (d.buf.acc = .ok) ∧ (s.dev.cfg.mode ≠
    .running) ∧ (checkBase d.buf.bytes d.bufLen.toNat = .good) ∧ (imageWriters (started d s.dev) (imageObjects
    d.buf.bytes) = false) ∧ (d.bad.filter storeSector = [])) ∧
  (∃ (d : Desc) (s : State), (canStart d s.dev = true) ∧ (badField
    { target := false, bufMin := 1, bufMax := 16777216 } [] d = none) ∧ (s.dev.cfg.mode = .running)) ∧
  (∃ (d : Desc) (s : State), (canStart d s.dev = true) ∧ (badField { target := false } [] d = none) ∧
    (s.dev.cfg.mode = .running) ∧ (allOpen s.dev = true) ∧ (s.dev.cfg.staging = []) ∧ (s.dev.cfg.armed = []) ∧
    (s.dev.pai.synced = false)) ∧
  (∃ (d : Desc) (s : State), (canStart d s.dev = true) ∧ (badField { target := false } [] d = none) ∧
    (s.dev.cfg.mode ≠ .running)) ∧
  (∃ (d : Desc) (s : State), (canStart d s.dev = true) ∧ (badField { target := false } [] d = none) ∧
    (s.dev.cfg.mode ≠ .loaded)) ∧
  (∃ (d : Desc) (s : State), (canStart d s.dev = true) ∧ (badField { target := false } [] d = none) ∧
    (s.dev.cfg.mode = .loaded) ∧ (s.dev.saf.cfg ≠ []) ∧ (s.dev.tim.mode ≠ .unset) ∧ (safPortsOk (started d s.dev) =
    true) ∧ (s.dev.kep.phase = .up) ∧ (s.dev.pai.claim = none) ∧ (s.dev.pai.mode = .off)) :=
  ⟨⟨{ bufLen := BitVec.ofNat 32 wBase.length, bufAddr := 4, buf := { bytes := wBase }, bad := [700] }, wUp,
    by decide +kernel, by decide +kernel, by decide +kernel, by decide +kernel, by decide +kernel,
    by decide +kernel, by decide +kernel⟩, ⟨{ bufLen := 1, bufAddr := 4 }, wRun, by decide +kernel,
    by decide +kernel, by decide +kernel⟩, ⟨{}, wRun, by decide +kernel, by decide +kernel, by decide +kernel,
    by decide +kernel, by decide +kernel, by decide +kernel, by decide +kernel⟩, ⟨{}, wUp, by decide +kernel,
    by decide +kernel, by decide +kernel⟩, ⟨{}, wRun, by decide +kernel, by decide +kernel, by decide +kernel⟩, ⟨{},
    wLoaded, by decide +kernel, by decide +kernel, by decide +kernel, by decide +kernel, by decide +kernel,
    by decide +kernel, by decide +kernel, by decide +kernel, by decide +kernel⟩⟩

/-- The hypotheses of Obligations.OverlaysStored can be met, clause by clause. -/
theorem witness_OverlaysStored :
  (∃ (d : Desc) (s : State), (canStart d s.dev = true) ∧ (d.target.toNat < 512) ∧ (d.bad.filter storeSector = []) ∧
    (badField { bufMin := 1, bufMax := 65536 } [] d = none) ∧ (d.buf.acc = .ok) ∧ (s.dev.cfg.mode ≠ .unconfigured) ∧
    (slotArmed (started d s.dev) d.target.toNat = false) ∧ (overlayFault (started d s.dev) d.buf.bytes
    d.bufLen.toNat = none) ∧ ((parseOverlay d.buf.bytes).length ≤ storeFree
    { started d s.dev with cfg.overlays := tdel s.dev.cfg.overlays d.target.toNat }) ∧ (s.dev.pai.synced = false)) ∧
  (∃ (d : Desc) (s : State), (canStart d s.dev = true) ∧ (512 ≤ d.target.toNat)) ∧
  (∃ (d : Desc) (s : State), (canStart d s.dev = true) ∧ (d.target.toNat < 512) ∧ ((tfind s.dev.cfg.overlays
    d.target.toNat).isSome = true) ∧ (badField { pmask := 0xF } [(1000000000 ≤ d.p0.toNat, 24), (1 < d.p3.toNat,
    36)] d = none) ∧ (s.dev.cfg.mode = .running) ∧ (slotArmed (started d s.dev) d.target.toNat = false) ∧ (nowS
    s.dev + usT 200 ≤ armCommit d) ∧ (armFault (started d s.dev) (tget s.dev.cfg.overlays d.target.toNat {})
    (armCommit d) (bit 0 d.p3.toNat) = none)) ∧
  (∃ (g : Staging) (rest : List Staging) (s : State), (s.dev.cfg.staging = g :: rest) ∧ (g.seq = none) ∧ (nowS s.dev
    + usT 20 < g.commit) ∧ (s.dev.pai.synced = false)) ∧
  (∃ (g : Staging) (s : State), (s.dev.cfg.staging = [g]) ∧ (s.dev.pai.synced = false) ∧ (g.commit ≤ nowS s.dev +
    usT 20)) ∧
  (∃ (d : Desc) (a : Armed) (s : State), (canStart d s.dev = true) ∧ (badField plain [] d = none) ∧
    (s.dev.cfg.armed.getLast? = some a) ∧ (a.slot = d.target.toNat) ∧ (nowS s.dev + usT 50 ≤ a.commit) ∧
    (s.dev.pai.synced = false)) ∧
  (∃ (d : Desc) (a : Armed) (s : State), (canStart d s.dev = true) ∧ (badField plain [] d = none) ∧
    (s.dev.cfg.armed.getLast? = some a) ∧ (a.slot = d.target.toNat) ∧ (a.commit < nowS s.dev + usT 50)) ∧
  (∃ (d : Desc) (s : State), (canStart d s.dev = true) ∧ (d.target.toNat < 512) ∧ (d.bad.filter storeSector = []) ∧
    (badField plain [] d = none) ∧ ((tfind s.dev.cfg.overlays d.target.toNat).isSome = true) ∧ (slotArmed (started d
    s.dev) d.target.toNat = false) ∧ (s.dev.pai.synced = false)) :=
  ⟨⟨{ target := 511, bufLen := BitVec.ofNat 32 wOverlay.length, bufAddr := 4, buf := { bytes := wOverlay }, bad := [46] },
    wRun, by decide +kernel, by decide +kernel, by decide +kernel, by decide +kernel, by decide +kernel,
    by decide +kernel, by decide +kernel, by decide +kernel, by decide +kernel, by decide +kernel⟩,
    ⟨{ target := 512 }, wRun, by decide +kernel, by decide +kernel⟩, ⟨{ target := 3, p1 := 1 }, wRun,
    by decide +kernel, by decide +kernel, by decide +kernel, by decide +kernel, by decide +kernel,
    by decide +kernel, by decide +kernel, by decide +kernel⟩, ⟨{ commit := usT 20 + 1 }, [],
    { dev := { cfg.staging := [{ commit := usT 20 + 1 }] } }, by decide +kernel, by decide +kernel,
    by decide +kernel, by decide +kernel⟩, ⟨{ commit := usT 20 },
    { dev := { cfg.staging := [{ commit := usT 20 }] } }, by decide +kernel, by decide +kernel, by decide +kernel⟩,
    ⟨{ target := 7 }, { slot := 7, version := 9, commit := usT 50, id := 0, patches := [] }, wArmed,
    by decide +kernel, by decide +kernel, by decide +kernel, by decide +kernel, by decide +kernel,
    by decide +kernel⟩, ⟨{ target := 8 }, { slot := 8, version := 9, commit := usT 50 - 1, id := 0, patches := [] },
    wArmed8, by decide +kernel, by decide +kernel, by decide +kernel, by decide +kernel, by decide +kernel⟩,
    ⟨{ target := 3 }, wRun, by decide +kernel, by decide +kernel, by decide +kernel, by decide +kernel,
    by decide +kernel, by decide +kernel, by decide +kernel⟩⟩

/-- The hypotheses of Obligations.CommitsAndRecords can be met, clause by clause. -/
theorem witness_CommitsAndRecords :
  (∃ (a : Armed) (rest : List Armed) (s : State), (s.dev.cfg.armed = a :: rest) ∧ (nowD s.dev < a.commit)) ∧
  (∃ (a : Armed) (rest : List Armed) (s : State), (s.dev.cfg.armed = a :: rest) ∧ (a.commit ≤ nowD s.dev) ∧
    (holdsArmed s.dev = false)) ∧
  (∃ (d : Desc) (o : CfgObj) (v : Nat) (b : List Byte) (s : State), (canStart d s.dev = true) ∧ (cfgObj (started d
    s.dev) d.p0.toNat d.p1.toNat d.target.toNat = some o) ∧ (recOfVersion (started d s.dev) o d.p2.toNat = some (v,
    b)) ∧ (badField { pmask := 7, bufMin := o.base.length, bufMax := 16777216 } [] d = none)) :=
  ⟨⟨{ slot := 7, version := 9, commit := usT 50, id := 0, patches := [] }, [], wArmed, by decide +kernel,
    by decide +kernel⟩, ⟨{ slot := 7, version := 9, commit := usT 50, id := 0, patches := [] }, [],
    { dev := { wArmed.dev with tim.dome := usT 50 * 2 ^ 24 } }, by decide +kernel, by decide +kernel,
    by decide +kernel⟩, ⟨{ target := 5, p0 := 2, p1 := 1, bufLen := 32, bufAddr := 4 }, wTask 5, 0, List.replicate
    32 0, wRun, by decide +kernel, by decide +kernel, by decide +kernel, by decide +kernel⟩⟩

/-- The hypotheses of Obligations.TokensArriveAndWaitsExpire can be met, clause by clause. -/
theorem witness_TokensArriveAndWaitsExpire :
  (∃ (source : Nat) (slot : Nat) (operand : Nat) (k : Token) (s : State), (s.dev.dpt.inflight.find? (fun x =>
    x.source == source && x.slot == slot && x.operand == operand) = some k)) ∧
  (∃ (s : State), (s.dev.dpt.inflight = [])) ∧
  (∃ (slot : Nat) (w : Nat) (b : Nat) (s : State), ((taskOf s.dev slot).primWait = some w) ∧ (waitBase (taskOf s.dev
    slot) = some b) ∧ (s.dev.dpt.run = true) ∧ (w ≤ nowS s.dev) ∧ ((taskOf s.dev slot).prim = []) ∧ ((taskOf s.dev
    slot).run = .waiting) ∧ (enabledFor (modTask slot (fun k => { k with primWait := none }) s.dev) slot (b +
    (taskPW s.dev slot).1) = true)) ∧
  (∃ (slot : Nat) (p : Token) (rest : List Token) (b : List Byte) (s : State), ((taskOf s.dev slot).prim = p ::
    rest) ∧ (s.dev.dpt.run = true) ∧ (p.time + (taskPW s.dev slot).2 ≤ nowS s.dev) ∧ (recAt s.dev 0x02 1 slot p.time
    = some b) ∧ (operandsReady b (taskOf s.dev slot) = false) ∧ ((taskOf s.dev slot).run = .waiting)) ∧
  (∃ (s : State), (s.dev.dpt.run = true) ∧ (s.dev.dpt.tick ≠ 0) ∧ (s.dev.dpt.lastTick < nowS s.dev / usT
    s.dev.dpt.tick * usT s.dev.dpt.tick) ∧ (s.dev.dpt.delay = [])) ∧
  (∃ (slot : Nat) (k : Nat) (s : State), ((taskOf s.dev slot).disabledAt = some k) ∧ (k + usT s.dev.cfg.keepUs ≤
    nowS s.dev)) ∧
  (∃ (s : State), (s.dev.dpt.run = false)) :=
  ⟨⟨0x800, 4095, 7, { time := 0, source := 0x800, slot := 4095, operand := 7 }, wTokens, by decide +kernel⟩, ⟨{},
    by decide +kernel⟩, ⟨5, 0, 0, wWaits, by decide +kernel, by decide +kernel, by decide +kernel,
    by decide +kernel, by decide +kernel, by decide +kernel, by decide +kernel⟩, ⟨6, { time := 0 }, [], wTaskRec,
    wWaits, by decide +kernel, by decide +kernel, by decide +kernel, by decide +kernel, by decide +kernel,
    by decide +kernel⟩, ⟨wWaits, by decide +kernel, by decide +kernel, by decide +kernel, by decide +kernel⟩, ⟨7, 0,
    wWaits, by decide +kernel, by decide +kernel⟩, ⟨{}, by decide +kernel⟩⟩

/-- The hypotheses of Obligations.FiringsRun can be met, clause by clause. -/
theorem witness_FiringsRun :
  (∃ (s : State), (s.dev.dpt.ready = []) ∧ (s.dev.dpt.lanes = [])) ∧
  (∃ (e : ReadyEntry) (f : Firing) (l : Nat) (u : Device) (s : State), (s.dev.dpt.ready.find? (canLeave s.dev) =
    some e) ∧ (taskEngine { s.dev with dpt.ready := s.dev.dpt.ready.erase e } e.slot ≠ 6) ∧ (freeLane
    { s.dev with dpt.ready := s.dev.dpt.ready.erase e } s.dev.dpt.active = some l) ∧ (e.again = none) ∧ (buildFiring
    e { s.dev with dpt.ready := s.dev.dpt.ready.erase e } = (some f, u))) ∧
  (∃ (lane : Nat) (f : Firing) (s : State), (tfind s.dev.dpt.lanes lane = some f) ∧ (f.cfg = [])) ∧
  (∃ (lane : Nat) (f : Firing) (s : State), (tfind s.dev.dpt.lanes lane = some f) ∧ (f.cfg ≠ [])) ∧
  (∃ (l : Nat) (f : Firing) (s : State), (tfind s.dev.dpt.lanes l = some f) ∧ (f.reissued = false)) ∧
  (∃ (l : Nat) (s : State), (tfind s.dev.dpt.lanes l = none)) ∧
  (∃ (c : Nat) (s : State), ((coreOf s.dev c).cyc = none)) ∧
  (∃ (c : Nat) (y : Cycle) (s : State), ((coreOf s.dev c).cyc = some y)) ∧
  (∃ (b : BusWrite) (s : State), (b.off = 0) ∧ (b.width = 4) ∧ (s.dev.btr.spireUp = true) ∧ (b.value.toNat % 2 ^ 18
    = s.dev.lpe.laneEn)) ∧
  (∃ (b : BusWrite) (s : State), (b.off = 0) ∧ (b.width = 4 ∨ b.width = 8) ∧ (s.dev.btr.spireUp = true)) :=
  ⟨⟨{}, by decide +kernel, by decide +kernel⟩, ⟨{ slot := 5, at_ := 0, time := 0 }, ((buildFiring
    { slot := 5, at_ := 0, time := 0 } { wReady.dev with dpt.ready := [] }).1).getD
    { slot := 0, time := 0, version := 0 }, 0, (buildFiring { slot := 5, at_ := 0, time := 0 }
    { wReady.dev with dpt.ready := [] }).2, wReady, by decide +kernel, by decide +kernel, by decide +kernel,
    by decide +kernel, by decide +kernel⟩, ⟨17, { slot := 5, time := 0, version := 1 }, wLane, by decide +kernel,
    by decide +kernel⟩, ⟨16, { slot := 5, time := 0, version := 1, cfg := le 128 0 }, wLane, by decide +kernel,
    by decide +kernel⟩, ⟨17, { slot := 5, time := 0, version := 1 }, wLane, by decide +kernel, by decide +kernel⟩,
    ⟨0, wLane, by decide +kernel⟩, ⟨0, {}, by decide +kernel⟩, ⟨7, { prog := 0, release := 0, start := 0 }, wCycle,
    by decide +kernel⟩, ⟨{ off := 0, width := 4, value := 0x3FFFF#64 }, wSpire, by decide +kernel,
    by decide +kernel, by decide +kernel, by decide +kernel⟩, ⟨{ off := 0, width := 4, value := 0x3FFFE#64 },
    wSpire, by decide +kernel, by decide +kernel, by decide +kernel⟩⟩

/-- The hypotheses of Obligations.DispatchCommands can be met, clause by clause. -/
theorem witness_DispatchCommands :
  (∃ (d : Desc) (s : State), (canStart d s.dev = true) ∧ (created (started d s.dev) 0x02 1 d.target.toNat = true) ∧
    (badField { bufMin := 64, bufMax := 16777216 } [] d = none)) ∧
  (∃ (d : Desc) (s : State), (canStart d s.dev = true) ∧ (created (started d s.dev) 0x02 1 d.target.toNat = false)) ∧
  (∃ (d : Desc) (s : State), (canStart d s.dev = true) ∧ (badField { target := false, pmask := 1 } [(2 ^ 8 ≤
    d.p0.toNat, 24)] d = none)) ∧
  (∃ (d : Desc) (s : State), (canStart d s.dev = true) ∧ (badField { target := false, pmask := 3 } [(2 < d.p0.toNat,
    24), (1 < d.p1.toNat, 28)] d = none) ∧ (s.dev.cfg.mode ≠ .unconfigured) ∧ (d.p1 = 0)) :=
  ⟨⟨{ target := 5, bufLen := 64, bufAddr := 4 }, wRun, by decide +kernel, by decide +kernel, by decide +kernel⟩,
    ⟨{ target := 4 }, wRun, by decide +kernel, by decide +kernel⟩, ⟨{ p0 := 255 }, wRun, by decide +kernel,
    by decide +kernel⟩, ⟨{ p0 := 2 }, wRun, by decide +kernel, by decide +kernel, by decide +kernel,
    by decide +kernel⟩⟩

/-- The hypotheses of Obligations.LoopCommands can be met, clause by clause. -/
theorem witness_LoopCommands :
  (∃ (d : Desc) (s : State), (canStart d s.dev = true) ∧ (noLoop s.dev d = false) ∧ (badField { pmask := 1 } [(4 <
    d.p0.toNat, 24)] d = none) ∧ (d.p0 ≠ 4)) ∧
  (∃ (d : Desc) (s : State), (canStart d s.dev = true) ∧ (noLoop s.dev d = true)) ∧
  (∃ (d : Desc) (s : State), (canStart d s.dev = true) ∧ (noLoop s.dev d = false) ∧ (badField { pmask := 7 } [(12 <
    d.p0.toNat, 24), (31 < d.p2.toNat || (d.p2 != 0 && ((loopCfg (recNow s.dev 0x03 1 d.target.toNat)).bf ||
    d.p0.toNat ∈ [1, 3, 10, 12])), 32)] d = none) ∧ ((loopCfg (recNow s.dev 0x03 1 d.target.toNat)).mode ≠ 4)) ∧
  (∃ (d : Desc) (s : State), (canStart d s.dev = true) ∧ (noLoop s.dev d = false) ∧ (d.p0.toNat ≤ 10) ∧ (badField
    { pmask := 3 } [(10 < d.p0.toNat, 24), (decide (d.p0.toNat ≤ 10) && !valuesOk (viewNow s.dev) 0x03 1
    d.target.toNat (overwrite (84 + 4 * d.p0.toNat) (le 4 d.p1.toNat) (recNow s.dev 0x03 1 d.target.toNat)), 28)] d
    = none)) ∧
  (∃ (d : Desc) (s : State), (canStart d s.dev = true) ∧ (noLoop s.dev d = false) ∧ (badField { pmask := 1 } [] d =
    none) ∧ ((loopCfg (recNow s.dev 0x03 1 d.target.toNat)).spSrc = 4) ∧ (taskEnabled (recNow s.dev 0x02 1 (loopCfg
    (recNow s.dev 0x03 1 d.target.toNat)).slot) = true)) ∧
  (∃ (d : Desc) (s : State), (canStart d s.dev = true) ∧ (noLoop s.dev d = false) ∧ ((loopCfg (recNow s.dev 0x03 1
    d.target.toNat)).mode = 2) ∧ (badField { pmask := 1 } [(numLt (loopCfg (recNow s.dev 0x03 1 d.target.toNat)).bf
    (ofWord (loopCfg (recNow s.dev 0x03 1 d.target.toNat)).bf d.p0.toNat) ((loopCfg (recNow s.dev 0x03 1
    d.target.toNat)).l 5) || numLt (loopCfg (recNow s.dev 0x03 1 d.target.toNat)).bf ((loopCfg (recNow s.dev 0x03 1
    d.target.toNat)).l 6) (ofWord (loopCfg (recNow s.dev 0x03 1 d.target.toNat)).bf d.p0.toNat), 24)] d = none)) ∧
  (∃ (d : Desc) (s : State), (canStart d s.dev = true) ∧ (noLoop s.dev d = false) ∧ (badField
    { bufMin := 64, bufMax := 16777216 } [] d = none)) ∧
  (∃ (d : Desc) (s : State), (canStart d s.dev = true) ∧ (badField { target := false, pmask := 1 } [(2 ^ 6 ≤
    d.p0.toNat, 24)] d = none)) :=
  ⟨⟨{ p0 := 3 }, wLoop, by decide +kernel, by decide +kernel, by decide +kernel, by decide +kernel⟩,
    ⟨{ target := 1024 }, wLoop, by decide +kernel, by decide +kernel⟩, ⟨{ p0 := 12, p1 := 7 }, wLoop,
    by decide +kernel, by decide +kernel, by decide +kernel, by decide +kernel⟩, ⟨{ p0 := 2, p1 := 5 }, wLoop,
    by decide +kernel, by decide +kernel, by decide +kernel, by decide +kernel⟩, ⟨{ target := 1, p0 := 7 }, wLoop,
    by decide +kernel, by decide +kernel, by decide +kernel, by decide +kernel, by decide +kernel⟩,
    ⟨{ target := 2 }, wLoop, by decide +kernel, by decide +kernel, by decide +kernel, by decide +kernel⟩,
    ⟨{ target := 2, bufLen := 64, bufAddr := 4 }, wLoop, by decide +kernel, by decide +kernel, by decide +kernel⟩,
    ⟨{ p0 := 63 }, wLoop, by decide +kernel, by decide +kernel⟩⟩

/-- The hypotheses of Obligations.CutsOpenAndClose can be met, clause by clause. -/
theorem witness_CutsOpenAndClose :
  (∃ (s : State), (s.dev.kep.journalOn = true) ∧ (s.dev.cfg.mode = .running) ∧ (s.dev.btr.spireUp = true) ∧
    (s.dev.kep.cut = none) ∧ (s.dev.kep.needFull = false) ∧ (epochLen s.dev ≠ 0) ∧ (s.dev.kep.lastBoundary < nowS
    s.dev / epochLen s.dev * epochLen s.dev)) ∧
  (∃ (s : State), (s.dev.kep.cut.isSome = true)) ∧
  (∃ (source : Nat) (slot : Nat) (operand : Nat) (c : DptCut) (s : State), (s.dev.dpt.cut = some c) ∧ ((srcStreams
    s.dev c.te).any (fun q => q.key == streamKey source slot operand && q.prod.isNone && decide (q.due ≤ nowS
    s.dev)) = true) ∧ (s.dev.dpt.inflight = []) ∧ (source / 256 ≠ 4)) ∧
  (∃ (slot : Nat) (l : Nat) (c : DptCut) (s : State), (s.dev.dpt.cut = some c) ∧ (freeLane s.dev s.dev.dpt.active =
    some l) ∧ (taskEnabled (recNow s.dev 0x02 1 slot) = true) ∧ (taskProgram (recNow s.dev 0x02 1 slot) = false) ∧
    ((taskOf s.dev slot).captured = false) ∧ (capturable s.dev c slot = true)) ∧
  (∃ (c : DptCut) (s : State), (s.dev.dpt.cut = some c) ∧ (c.reported = false) ∧ ((dataTasks s.dev).all (fun n =>
    (taskOf s.dev n).captured) = true) ∧ ((srcStreams s.dev c.te).all (streamPassed s.dev c) = true)) ∧
  (∃ (slot : Nat) (c : DptCut) (s : State), (s.dev.dpt.cut = some c) ∧ (c.pending.contains slot = false) ∧ (c.te +
    epochLen s.dev ≤ nowS s.dev) ∧ ((taskOf s.dev slot).run = .waiting) ∧ ((taskOf s.dev slot).prim.any (fun p =>
    decide (p.time < c.te)) = true)) ∧
  (∃ (blk : Nat) (k : KepCut) (s : State), (s.dev.kep.cut = some k) ∧ (k.ready.contains blk = true ∨ partReady blk k
    s.dev = false)) ∧
  (∃ (blk : Nat) (k : KepCut) (s : State), (s.dev.kep.cut = some k) ∧ (k.ready.contains blk = false) ∧ (partReady
    blk k s.dev = true)) :=
  ⟨⟨wEpoch, by decide +kernel, by decide +kernel, by decide +kernel, by decide +kernel, by decide +kernel,
    by decide +kernel, by decide +kernel⟩, ⟨wCut, by decide +kernel⟩, ⟨0x0D00, 0, 0, { epoch := 1, te := 0 },
    wCutCan, by decide +kernel, by decide +kernel, by decide +kernel, by decide +kernel⟩, ⟨6, 0,
    { epoch := 1, te := 0 }, wCut, by decide +kernel, by decide +kernel, by decide +kernel, by decide +kernel,
    by decide +kernel, by decide +kernel⟩, ⟨{ epoch := 1, te := 0 }, wCutIdle, by decide +kernel, by decide +kernel,
    by decide +kernel, by decide +kernel⟩, ⟨6, { epoch := 1, te := 1 }, wCutOld, by decide +kernel,
    by decide +kernel, by decide +kernel, by decide +kernel, by decide +kernel⟩, ⟨0xFF,
    { epoch := 1, te := 0, full := false }, wCut, by decide +kernel, by decide +kernel⟩, ⟨1,
    { epoch := 1, te := 0, full := false }, wCut, by decide +kernel, by decide +kernel, by decide +kernel⟩⟩

/-- The hypotheses of Obligations.JournalAndSlots can be met, clause by clause. -/
theorem witness_JournalAndSlots :
  (∃ (bad : List Nat) (k : KepCut) (s : State), (s.dev.kep.cut = some k) ∧ (cutBlocks.all (fun b => k.ready.contains
    b) = true) ∧ (s.dev.clk.pwrfail = false) ∧ (k.full = false) ∧ ((s.dev.kep.journal.map (·.len)).sum + (80 +
    (k.parts.map List.length).sum) ≤ ringBytes) ∧ (k.te + 640 * (80 + (k.parts.map List.length).sum) ≤ nowS s.dev) ∧
    (bad = [])) ∧
  (∃ (r : KepRec) (n : Nat) (s : State), (nextApply s.dev = some (r, n)) ∧ (s.dev.clk.pwrfail = false) ∧ ((kepSlot
    s.dev n).state ≠ 1)) ∧
  (∃ (r : KepRec) (n : Nat) (s : State), (nextApply s.dev = some (r, n)) ∧ (s.dev.clk.pwrfail = false) ∧ ((kepSlot
    s.dev n).state = 1)) ∧
  (∃ (s : State), (s.dev.kep.copy = true) ∧ ((kepSlot s.dev 0).state = 2) ∧ (s.dev.kep.read = none) ∧
    (s.dev.clk.pwrfail = false)) ∧
  (∃ (s : State), (268435456 ≤ s.dev.kep.gapBytes) ∧ (s.dev.spr.hotFails = 0) ∧ (s.dev.clk.pwrfail = false)) ∧
  (∃ (s : State), (s.dev.clk.pwrfail = true)) :=
  ⟨⟨[], wFullCut, wCommit, by decide +kernel, by decide +kernel, by decide +kernel, by decide +kernel,
    by decide +kernel, by decide +kernel, by decide +kernel⟩, ⟨wJrec, 0, wJournal, by decide +kernel,
    by decide +kernel, by decide +kernel⟩, ⟨wJrec, 0, wJournal1, by decide +kernel, by decide +kernel,
    by decide +kernel⟩, ⟨wCopy, by decide +kernel, by decide +kernel, by decide +kernel, by decide +kernel⟩, ⟨wGap,
    by decide +kernel, by decide +kernel, by decide +kernel⟩, ⟨{ dev := { clk.pwrfail := true } },
    by decide +kernel⟩⟩

/-- The hypotheses of Obligations.RestartsProceed can be met, clause by clause. -/
theorem witness_RestartsProceed :
  (∃ (d : Desc) (s : State), (canStart d s.dev = true) ∧ (badField { target := false, pmask := 1 } [(3 < d.p0.toNat,
    24)] d = none) ∧ (needMaint (started d s.dev) = false) ∧ (s.dev.cfg.mode ≠ .unconfigured) ∧ (s.dev.kep.restart =
    none)) ∧
  (∃ (d : Desc) (s : State), (canStart d s.dev = true) ∧ (badField { target := false, pmask := 1 } [(3 < d.p0.toNat,
    24)] d = none) ∧ (needMaint (started d s.dev) = true)) ∧
  (∃ (k : Nat) (c : Nat) (t : Nat) (s : State), (s.dev.kep.restart = some (k, c, t)) ∧ (t ≤ s.dev.tim.ck) ∧ (k < 2)) ∧
  (∃ (k : Nat) (c : Nat) (t : Nat) (s : State), (s.dev.kep.restart = some (k, c, t)) ∧ (t ≤ s.dev.tim.ck) ∧ (2 ≤ k)) ∧
  (∃ (d : Desc) (s : State), (canStart d s.dev = true) ∧ (d.target.toNat < 2) ∧ (badField plain [] d = none) ∧
    ((kepSlot s.dev d.target.toNat).state = 2) ∧ ((windowOf s.dev 0x0F10).isSome = true) ∧ (s.dev.kep.read = none)) ∧
  (∃ (d : Desc) (s : State), (canStart d s.dev = true) ∧ (badField { target := false, pmask := 1 } [(8 ≤ d.p0.toNat,
    24)] d = none)) ∧
  (∃ (cause : Nat) (s : State), (3 ≤ cause) ∧ (cause ≤ 5) ∧ (s.dev.btr.spireUp = true)) ∧
  (∃ (kind : Nat) (cause : Nat) (s : State), (s.dev.kep.running = some (kind, cause)) ∧ (s.dev.kep.phase = .image) ∧
    (s.dev.btr.spireUp = true)) ∧
  (∃ (kind : Nat) (cause : Nat) (s : State), (s.dev.kep.running = some (kind, cause)) ∧ (s.dev.kep.phase = .resume)
    ∧ (s.dev.btr.spireUp = true) ∧ (s.dev.pai.mode ≠ .takeover) ∧ (kind < 2) ∧ (s.dev.kep.restored = none)) ∧
  (∃ (s : State), (s.dev.kep.phase = .reload) ∧ (s.dev.btr.spireUp = true) ∧ (s.dev.kep.base = [])) ∧
  (∃ (s : State), (s.dev.kep.phase = .reload) ∧ (s.dev.btr.spireUp = true) ∧ (s.dev.kep.base ≠ []) ∧
    (s.dev.kep.runAtLoss = false) ∧ (s.dev.kep.running = none)) ∧
  (∃ (s : State), (mayBoot s.dev = true) ∧ (linkShort s.dev = true)) ∧
  (∃ (dirs : List (List Byte)) (g : Nat) (es : List FlashEntry) (s : State), (mayBoot s.dev = true) ∧ (linkShort
    s.dev = false) ∧ (chooseDirectory dirs = some (g, es)) ∧ (s.dev.kep.running = none)) ∧
  (∃ (s : State), (mayBoot s.dev = false)) :=
  ⟨⟨{ p0 := 3 }, wMaint, by decide +kernel, by decide +kernel, by decide +kernel, by decide +kernel,
    by decide +kernel⟩, ⟨{}, wRun, by decide +kernel, by decide +kernel, by decide +kernel⟩, ⟨1, 3, 0, wRestart1,
    by decide +kernel, by decide +kernel, by decide +kernel⟩, ⟨2, 3, 0, wRestart2, by decide +kernel,
    by decide +kernel, by decide +kernel⟩, ⟨{ target := 1 }, wImage, by decide +kernel, by decide +kernel,
    by decide +kernel, by decide +kernel, by decide +kernel, by decide +kernel⟩, ⟨{ p0 := 7 }, wRun,
    by decide +kernel, by decide +kernel⟩, ⟨5, wSpire, by decide +kernel, by decide +kernel, by decide +kernel⟩, ⟨2,
    1, wRestore, by decide +kernel, by decide +kernel, by decide +kernel⟩, ⟨1, 3, wResume, by decide +kernel,
    by decide +kernel, by decide +kernel, by decide +kernel, by decide +kernel, by decide +kernel⟩, ⟨wReload,
    by decide +kernel, by decide +kernel, by decide +kernel⟩, ⟨{ dev := { wReload.dev with kep.base := wBase } },
    by decide +kernel, by decide +kernel, by decide +kernel, by decide +kernel, by decide +kernel⟩, ⟨wBoot,
    by decide +kernel, by decide +kernel⟩, ⟨[wDir], 0, ((readDirectory wDir).map (·.2)).getD [],
    { dev := { kep.phase := .boot } }, by decide +kernel, by decide +kernel, by decide +kernel, by decide +kernel⟩,
    ⟨wLoaded, by decide +kernel⟩⟩

/-- The hypotheses of Obligations.ButtressLink can be met, clause by clause. -/
theorem witness_ButtressLink :
  (∃ (dir : Nat) (s : State), (s.dev.btr.linkUp = true) ∧ (s.dev.btr.retraining = false) ∧ (dir < 2) ∧ ((btrDir
    s.dev dir).tries = 0) ∧ ((btrDir s.dev dir).recent = [])) ∧
  (∃ (d : Nat) (f : Nat) (s : State), (s.dev.btr.retrain = some (d, f)) ∧ (nowD s.dev < f + usT 4)) ∧
  (∃ (d : Nat) (f : Nat) (s : State), (s.dev.btr.retrain = some (d, f)) ∧ (f + usT 4 ≤ nowD s.dev) ∧ (linkShort
    s.dev = false)) ∧
  (∃ (s : State), (s.dev.btr.linkUp = true) ∧ (s.dev.btr.lastFlit + usT 100 ≤ nowD s.dev)) ∧
  (∃ (k : Nat) (s : State), (s.dev.btr.xreset.contains k = true) ∧ (crossingReady s.dev k = true)) ∧
  (∃ (s : State), (s.dev.btr.linkUp = true) ∧ (s.dev.btr.spireUp = true) ∧ (s.dev.btr.heartbeat + msT 1 ≤ nowD
    s.dev)) ∧
  (∃ (s : State), (s.dev.clk.held = none) ∧ (s.dev.btr.houseSignal + msT 10 ≤ nowD s.dev)) ∧
  (∃ (code : Nat) (s : State), (s.dev.btr.spireHeld = false) ∧ (s.dev.clk.held = none) ∧ (2 ≤ code) ∧ (code ≤ 6)) ∧
  (∃ (s : State), (s.dev.btr.linkUp = false)) ∧
  (∃ (repeats : Nat) (s : State), (s.dev.btr.linkUp = false) ∧ (repeats ≠ 0)) :=
  ⟨⟨1, wLink, by decide +kernel, by decide +kernel, by decide +kernel, by decide +kernel, by decide +kernel⟩, ⟨1, 1,
    { dev := { btr.retrain := some (1, 1) } }, by decide +kernel, by decide +kernel⟩, ⟨1, 0, wRetrain,
    by decide +kernel, by decide +kernel, by decide +kernel⟩, ⟨wLink, by decide +kernel, by decide +kernel⟩, ⟨9,
    wLink, by decide +kernel, by decide +kernel⟩, ⟨wLink, by decide +kernel, by decide +kernel, by decide +kernel⟩,
    ⟨wLink, by decide +kernel, by decide +kernel⟩, ⟨6, wSpire, by decide +kernel, by decide +kernel,
    by decide +kernel, by decide +kernel⟩, ⟨{}, by decide +kernel⟩, ⟨3, {}, by decide +kernel, by decide +kernel⟩⟩

/-- The hypotheses of Obligations.MemoryErrors can be met, clause by clause. -/
theorem witness_MemoryErrors :
  (∃ (s : State), (s.dev.btr.spireUp = true) ∧ (s.dev.mem.selfRefresh = false)) ∧
  (∃ (s : State), (s.dev.btr.spireUp = true) ∧ (s.dev.mem.selfRefresh = false)) ∧
  (∃ (prog : Nat) (s : State), (s.dev.btr.spireUp = true) ∧ (s.dev.mem.selfRefresh = false) ∧ ((progOf s.dev
    prog).image ≠ [])) ∧
  (∃ (region : Nat) (s : State), (s.dev.btr.spireUp = true) ∧ (s.dev.mem.selfRefresh = false) ∧ (region = 1 ∨ region
    = 2)) ∧
  (∃ (s : State), (s.dev.btr.spireUp = true) ∧ (s.dev.mem.selfRefresh = false)) :=
  ⟨⟨wSpire, by decide +kernel, by decide +kernel⟩, ⟨wSpire, by decide +kernel, by decide +kernel⟩, ⟨0,
    { dev := { wSpire.dev with pgm.progs := [(0, { image := [1] })] } }, by decide +kernel, by decide +kernel,
    by decide +kernel⟩, ⟨2, wSpire, by decide +kernel, by decide +kernel, by decide +kernel⟩, ⟨wSpire,
    by decide +kernel, by decide +kernel⟩⟩

/-- The hypotheses of Obligations.SuppliesAndReference can be met, clause by clause. -/
theorem witness_SuppliesAndReference :
  (∃ (s : State), (s.dev.clk.held ≠ some 4)) ∧
  (∃ (s : State), (s.dev.clk.held = none)) ∧
  (∃ (s : State), (s.dev.clk.pwrfail = false)) ∧
  (∃ (s : State), (s.dev.clk.pwrfail = true)) ∧
  (∃ (s : State), (s.dev.clk.rails = 0x7FFF)) ∧
  (∃ (r : Nat) (s : State), (r ≤ 14) ∧ (bit r s.dev.clk.rails = true) ∧ (s.dev.clk.held.isSome = true)) ∧
  (∃ (r : Nat) (s : State), (r < 3) ∧ (bit r s.dev.clk.rails = true) ∧ (s.dev.clk.held = none)) ∧
  (∃ (r : Nat) (s : State), (r = 7 ∨ r = 8 ∨ (11 ≤ r ∧ r ≤ 14)) ∧ (bit r s.dev.clk.rails = true) ∧ (s.dev.clk.held =
    none)) ∧
  (∃ (r : Nat) (s : State), (r ≤ 14) ∧ (bit r s.dev.clk.rails = false) ∧ ((s.dev.clk.rails + 2 ^ r) % 128 ≠ 127)) ∧
  (∃ (r : Nat) (s : State), (r ≤ 14) ∧ (bit r s.dev.clk.rails = false) ∧ ((s.dev.clk.rails + 2 ^ r) % 128 = 127)) ∧
  (∃ (why : Nat) (s : State), (s.dev.clk.refOk = true) ∧ (s.dev.clk.held ≠ some 4) ∧ (1 ≤ why) ∧ (why ≤ 2)) ∧
  (∃ (s : State), (s.dev.clk.held = some 5)) ∧
  (∃ (b : Int) (s : State), (s.dev.clk.sampleAt + 1000000 ≤ s.dev.tim.ck) ∧ (s.dev.clk.held = some 6) ∧ (b < 880)) ∧
  (∃ (a : Int) (b : Int) (s : State), (s.dev.clk.sampleAt + 1000000 ≤ s.dev.tim.ck) ∧ (s.dev.clk.held = none) ∧ (a <
    1000) ∧ (b < 1000)) ∧
  (∃ (s : State), (s.dev.tim.ck < s.dev.clk.sampleAt + 1000000)) ∧
  (∃ (b : BusWrite) (s : State), (b.off = 0) ∧ (b.width = 4) ∧ (s.dev.cfg.mode ≠ .running)) ∧
  (∃ (b : BusWrite) (s : State), (b.off = 0) ∧ (b.width = 4) ∧ (s.dev.cfg.mode = .running)) ∧
  (∃ (r : Nat) (b : BusWrite), (r < 15) ∧ (b.off = 0) ∧ (b.width = 4) ∧ (b.value.toNat % 2 ^ 32 = 2 ^ r)) ∧
  (∃ (b : BusWrite), (b.off = 0) ∧ (b.width = 4) ∧ (b.value.toNat % 2 ^ 32 = 0)) ∧
  (∃ (s : State), (s.dev.clk.railEvt = 2 ^ 14)) :=
  ⟨⟨wRun, by decide +kernel⟩, ⟨wRun, by decide +kernel⟩, ⟨{}, by decide +kernel⟩,
    ⟨{ dev := { clk.pwrfail := true } }, by decide +kernel⟩, ⟨{ dev := { clk.rails := 0x7FFF } },
    by decide +kernel⟩, ⟨14, { dev := { clk.rails := 0x7FFF, clk.held := some 2 } }, by decide +kernel,
    by decide +kernel, by decide +kernel⟩, ⟨2, { dev := { clk.rails := 0x7FFF } }, by decide +kernel,
    by decide +kernel, by decide +kernel⟩, ⟨14, { dev := { clk.rails := 0x7FFF } }, by decide +kernel,
    by decide +kernel, by decide +kernel⟩, ⟨14, { dev := { clk.rails := 0x3FFE } }, by decide +kernel,
    by decide +kernel, by decide +kernel⟩, ⟨14, { dev := { clk.rails := 0x3FFF } }, by decide +kernel,
    by decide +kernel, by decide +kernel⟩, ⟨2, { dev := { clk.refOk := true } }, by decide +kernel,
    by decide +kernel, by decide +kernel, by decide +kernel⟩, ⟨{ dev := { clk.held := some 5 } },
    by decide +kernel⟩, ⟨879, { dev := { tim.ck := 1000000, clk.held := some 6 } }, by decide +kernel,
    by decide +kernel, by decide +kernel⟩, ⟨999, 999, { dev := { tim.ck := 1000000 } }, by decide +kernel,
    by decide +kernel, by decide +kernel, by decide +kernel⟩, ⟨{}, by decide +kernel⟩,
    ⟨{ off := 0, width := 4, value := 1#64 }, wSpire, by decide +kernel, by decide +kernel, by decide +kernel⟩,
    ⟨{ off := 0, width := 4, value := 1#64 }, wRun, by decide +kernel, by decide +kernel, by decide +kernel⟩, ⟨14,
    { off := 0, width := 4, value := 0x4000#64 }, by decide +kernel, by decide +kernel, by decide +kernel,
    by decide +kernel⟩, ⟨{ off := 0, width := 4, value := 0#64 }, by decide +kernel, by decide +kernel,
    by decide +kernel⟩, ⟨{ dev := { clk.railEvt := 2 ^ 14 } }, by decide +kernel⟩⟩

/-- The hypotheses of Obligations.TracesCapture can be met, clause by clause. -/
theorem witness_TracesCapture :
  (∃ (d : Desc) (s : State), (canStart d s.dev = true) ∧ (d.p1.toNat ≤ 1023) ∧ (created s.dev 0x03 1 d.p1.toNat =
    true) ∧ (d.target.toNat + d.p0.toNat ≤ 64) ∧ (1 ≤ d.p0.toNat) ∧ (d.p0.toNat ≤ 16) ∧ ((setNodes d).all (fun k =>
    decide (k ≤ 16)) = true) ∧ (1 ≤ d.p6.toNat) ∧ (d.p6.toNat ≤ 256) ∧ (((recPW (recNow s.dev 0x02 1 (fld 10 2
    (recNow s.dev 0x03 1 d.p1.toNat)))).1 + (recPW (recNow s.dev 0x02 1 (fld 10 2 (recNow s.dev 0x03 1
    d.p1.toNat)))).2) * d.p6.toNat < 2 ^ 40) ∧ (d.p7.toNat ≤ 32767) ∧ (badField { pmask := 0xFF } [] d = none) ∧
    (s.dev.trc.groups.any (fun e => overlapsGroup d.target.toNat d.p0.toNat e.2 && (e.2.mode == .armed || e.2.mode
    == .triggered)) = false)) ∧
  (∃ (d : Desc) (g : TraceGroup) (s : State), (canStart d s.dev = true) ∧ (tfind s.dev.trc.groups d.target.toNat =
    some g) ∧ (g.mode = .idle ∨ g.mode = .done ∨ g.mode = .stopped) ∧ (d.p0 = 0) ∧ (badField { pmask := 0x1F } [] d
    = none)) ∧
  (∃ (d : Desc) (g : TraceGroup) (s : State), (canStart d s.dev = true) ∧ (badField plain [] d = none) ∧ (tfind
    s.dev.trc.groups d.target.toNat = some g) ∧ (g.mode = .armed) ∧ (g.kind = 0)) ∧
  (∃ (d : Desc) (g : TraceGroup) (s : State), (canStart d s.dev = true) ∧ (badField plain [] d = none) ∧ (tfind
    s.dev.trc.groups d.target.toNat = some g) ∧ (g.mode ≠ .armed ∨ g.kind ≠ 0)) ∧
  (∃ (d : Desc) (g : TraceGroup) (s : State), (canStart d s.dev = true) ∧ (badField plain [] d = none) ∧ (tfind
    s.dev.trc.groups d.target.toNat = some g) ∧ (g.mode = .armed ∨ g.mode = .triggered)) ∧
  (∃ (d : Desc) (g : TraceGroup) (w : Nat) (s : State), (canStart d s.dev = true) ∧ (badField plain [] d = none) ∧
    (tfind s.dev.trc.groups d.target.toNat = some g) ∧ (g.mode = .done ∨ g.mode = .stopped) ∧ (windowOf s.dev 0x11C0
    = some w) ∧ (s.dev.trc.read = none)) :=
  ⟨⟨{ target := 48, p0 := 16, p1 := 2, p6 := 256, p7 := 32767 }, wLoop, by decide +kernel, by decide +kernel,
    by decide +kernel, by decide +kernel, by decide +kernel, by decide +kernel, by decide +kernel,
    by decide +kernel, by decide +kernel, by decide +kernel, by decide +kernel, by decide +kernel,
    by decide +kernel⟩, ⟨{ target := 4 }, wGroup .stopped, wTrace .stopped, by decide +kernel, by decide +kernel,
    by decide +kernel, by decide +kernel, by decide +kernel⟩, ⟨{ target := 4 }, wGroup .armed, wTrace .armed,
    by decide +kernel, by decide +kernel, by decide +kernel, by decide +kernel, by decide +kernel⟩,
    ⟨{ target := 4 }, wGroup .triggered, wTrace .triggered, by decide +kernel, by decide +kernel, by decide +kernel,
    by decide +kernel⟩, ⟨{ target := 4 }, wGroup .triggered, wTrace .triggered, by decide +kernel,
    by decide +kernel, by decide +kernel, by decide +kernel⟩, ⟨{ target := 4 }, wGroup .done, 12, wTrace .done,
    by decide +kernel, by decide +kernel, by decide +kernel, by decide +kernel, by decide +kernel,
    by decide +kernel⟩⟩

/-- The hypotheses of Obligations.LanternRecords can be met, clause by clause. -/
theorem witness_LanternRecords :
  (∃ (s : State), (s.dev.ltn.run = false)) ∧
  (∃ (r : LtnIn) (rest : List LtnIn) (b : List Byte) (s : State), (s.dev.ltn.run = true) ∧ (s.dev.btr.spireUp =
    true) ∧ (dramStopped s.dev = false) ∧ (s.dev.ltn.inq = r :: rest) ∧ (ltnOrder { s.dev with ltn.inq := rest }
    r.channel r.time = none) ∧ (recAt s.dev 0x11 1 r.channel r.time = some b) ∧ (bit 1 (fld 0 1 b) = false)) ∧
  (∃ (c : Nat) (t : STime) (ch : Channel) (s : Device), (s.ltn.startDue = none) ∧ (lchan s c = ch) ∧ (ch.gap = none)
    ∧ (ch.anchor = false) ∧ (ch.since = 0) ∧ (ch.last = some t) ∧ (ch.version = some 1) ∧ (ltnRoom s 1 = true) ∧
    (s.spr.acts = [])) ∧
  (∃ (s : Device), (s.ltn.startDue = none) ∧ (s.ltn.ringMib = 0) ∧ (s.ltn.ringFull = true)) ∧
  (∃ (d : Desc) (s : State), (canStart d s.dev = true) ∧ (d.target.toNat ≤ 4095) ∧ (created s.dev 0x11 1
    d.target.toNat = true) ∧ (badField { bufMin := 32, bufMax := 16777216 } [] d = none)) ∧
  (∃ (d : Desc) (s : State), (canStart d s.dev = true) ∧ (badField { target := false, pmask := 1 } [(4 ≤ d.p0.toNat,
    24)] d = none)) :=
  ⟨⟨{}, by decide +kernel⟩, ⟨{ channel := 4095, time := 256, version := 1, value := 5 }, [], le 16 0,
    { dev := { (wLtn 1).dev with cfg.objs := [{ blk := 0x11, kind := 1, obj := 4095, base := le 16 0, cur := le 16 0 }] } },
    by decide +kernel, by decide +kernel, by decide +kernel, by decide +kernel, by decide +kernel,
    by decide +kernel, by decide +kernel⟩, ⟨7, 256, wChan, (wLtn 1).dev, by decide +kernel, by decide +kernel,
    by decide +kernel, by decide +kernel, by decide +kernel, by decide +kernel, by decide +kernel,
    by decide +kernel, by decide +kernel⟩, ⟨wFullRing, by decide +kernel, by decide +kernel, by decide +kernel⟩,
    ⟨{ target := 4095, bufLen := 32, bufAddr := 4 }, wChanCfg, by decide +kernel, by decide +kernel,
    by decide +kernel, by decide +kernel⟩, ⟨{ p0 := 3 }, wRun, by decide +kernel, by decide +kernel⟩⟩

/-- The hypotheses of Obligations.EventsRecorded can be met, clause by clause. -/
theorem witness_EventsRecorded :
  (∃ (code : Nat), (sevOf code ≠ 0) ∧ (unlimited code = true) ∧ (spireCode code = false)) ∧
  (∃ (code : Nat), (sevOf code = 0)) ∧
  (∃ (w : EvWait) (s : State), (evNext s.dev.evr.queue = some w) ∧ (nowD s.dev ≤ w.rec_.time)) ∧
  (∃ (w : EvWait) (s : State), (evNext s.dev.evr.queue = some w) ∧ (w.rec_.time < nowD s.dev) ∧ (w.rec_.time <
    s.dev.evr.lastTime)) ∧
  (∃ (k : Nat) (w : EvWait) (s : State), (evNext s.dev.evr.queue = some w) ∧ (w.rec_.time < nowD s.dev) ∧
    (s.dev.evr.lastTime ≤ w.rec_.time) ∧ (slotFor s.dev w.rec_.sev = some k)) ∧
  (∃ (code : Nat) (s : State), (tfind s.dev.evr.sums code = none)) ∧
  (∃ (code : Nat) (q : EvSum) (s : State), (tfind s.dev.evr.sums code = some q) ∧ (q.first + secT 1 ≤ nowD s.dev)) :=
  ⟨⟨wUnlimited, by decide +kernel, by decide +kernel, by decide +kernel⟩, ⟨0, by decide +kernel⟩,
    ⟨{ rec_ := { time := 5 }, blk := 0 }, wQueue 5, by decide +kernel, by decide +kernel⟩,
    ⟨{ rec_ := { time := 1 }, blk := 0 }, wQueueLate, by decide +kernel, by decide +kernel, by decide +kernel⟩, ⟨0,
    { rec_ := { time := 5 }, blk := 0 }, wQueue 9, by decide +kernel, by decide +kernel, by decide +kernel,
    by decide +kernel⟩, ⟨7, {}, by decide +kernel⟩, ⟨7, { count := 2, first := 0 }, wSum, by decide +kernel,
    by decide +kernel⟩⟩

/-- The hypotheses of Obligations.EventCommands can be met, clause by clause. -/
theorem witness_EventCommands :
  (∃ (d : Desc) (w : Nat) (s : State), (canStart d s.dev = true) ∧ (badField { target := false, pmask := 3 } [(2 ≤
    d.p1.toNat, 28)] d = none) ∧ (windowOf s.dev 0x1200 = some w) ∧ (s.dev.evr.export_ = none) ∧ (s.dev.evr.region =
    [])) ∧
  (∃ (d : Desc) (e : EvSlot) (k : Nat) (w : Nat) (s : State), (canStart d s.dev = true) ∧ (badField
    { target := false, pmask := 3 } [(2 ≤ d.p1.toNat, 28)] d = none) ∧ (windowOf s.dev 0x1200 = some w) ∧
    (s.dev.evr.export_ = none) ∧ (s.dev.evr.region = [(k, e)]) ∧ (d.p1 = 1)) ∧
  (∃ (d : Desc) (s : State), (canStart d s.dev = true) ∧ (badField
    { target := false, bufMin := 512, bufMax := 16777216 } [] d = none)) ∧
  (∃ (d : Desc) (s : State), (canStart d s.dev = true) ∧ (badField { target := false } [] d = none) ∧ (needMaint
    (started d s.dev) = false)) ∧
  (∃ (d : Desc) (s : State), (canStart d s.dev = true) ∧ (badField { target := false } [] d = none) ∧ (needMaint
    (started d s.dev) = true)) ∧
  (∃ (d : Desc) (s : State), (canStart d s.dev = true) ∧ (badField { target := false, pmask := 1 } [(65536 ≤
    d.p0.toNat || bits 7 6 d.p0.toNat != 0, 24)] d = none)) :=
  ⟨⟨{ p1 := 1 }, 12, wExport [], by decide +kernel, by decide +kernel, by decide +kernel, by decide +kernel,
    by decide +kernel⟩, ⟨{ p1 := 1 }, { rec_ := {}, at_ := 0, run := 0 }, 65535, 12, wExport [(65535,
    { rec_ := {}, at_ := 0, run := 0 })], by decide +kernel, by decide +kernel, by decide +kernel,
    by decide +kernel, by decide +kernel, by decide +kernel⟩, ⟨{ bufLen := 512, bufAddr := 4 }, wRun,
    by decide +kernel, by decide +kernel⟩, ⟨{}, wMaint, by decide +kernel, by decide +kernel, by decide +kernel⟩,
    ⟨{}, wRun, by decide +kernel, by decide +kernel, by decide +kernel⟩, ⟨{ p0 := 0xFF3F }, wRun, by decide +kernel,
    by decide +kernel⟩⟩

/-- The hypotheses of Obligations.CountersAndDumps can be met, clause by clause. -/
theorem witness_CountersAndDumps :
  (∃ (n : Nat) (v : Nat) (s : State), (s.dev.btr.spireUp = true) ∧ (n ≤ 639) ∧ (v < 2 ^ 13) ∧ (selValid v = true)) ∧
  (∃ (n : Nat) (v : Nat) (s : Device), (pmcSel s n = v) ∧ (tget s.pmc.start n 0 = cumOf s v)) ∧
  (∃ (n : Nat) (v : Nat) (s : State), (s.dev.btr.spireUp = true) ∧ (n ≤ 639) ∧ (v < 2 ^ 13) ∧ (selValid v = false)) ∧
  (∃ (v : Nat) (s : State), (s.dev.btr.spireUp = true) ∧ (v % 2 = 1) ∧ (s.dev.pmc.snapAt = none)) ∧
  (∃ (v : Nat) (t : STime) (s : State), (s.dev.btr.spireUp = true) ∧ (v % 2 = 1) ∧ (s.dev.pmc.snapAt = some t)) ∧
  (∃ (t : STime) (s : State), (s.dev.pmc.snapAt = some t) ∧ (t ≤ nowS s.dev)) ∧
  (∃ (t : STime) (s : State), (s.dev.pmc.snapAt = some t) ∧ (nowS s.dev < t)) ∧
  (∃ (v : Nat) (s : State), (s.dev.btr.spireUp = true) ∧ (v < 2 ^ 20) ∧ (v = 0 ∨ 100 ≤ v) ∧ (v ≤ 1000000)) ∧
  (∃ (v : Nat) (s : State), (s.dev.btr.spireUp = true) ∧ (v < 2 ^ 20) ∧ ((1 ≤ v ∧ v < 100) ∨ 1000000 < v)) ∧
  (∃ (v : Nat) (s : State), (s.dev.btr.spireUp = true) ∧ (v < 2 ^ 20)) ∧
  (∃ (s : State), (s.dev.btr.spireUp = true) ∧ (s.dev.pmc.period ≠ 0) ∧ (nextMul (usT s.dev.pmc.period)
    s.dev.pmc.dumpFrom ≤ nowS s.dev)) ∧
  (∃ (s : State), (s.dev.btr.spireUp = true)) ∧
  (∃ (s : State), (s.dev.btr.spireUp = false)) :=
  ⟨⟨639, 0x281, wSpire, by decide +kernel, by decide +kernel, by decide +kernel, by decide +kernel⟩, ⟨0, 0x8380, {},
    by decide +kernel, by decide +kernel⟩, ⟨639, 0x0280, wSpire, by decide +kernel, by decide +kernel,
    by decide +kernel, by decide +kernel⟩, ⟨1, wSpire, by decide +kernel, by decide +kernel, by decide +kernel⟩, ⟨1,
    5, wSnap, by decide +kernel, by decide +kernel, by decide +kernel⟩, ⟨5, wSnap, by decide +kernel,
    by decide +kernel⟩, ⟨5, { dev := { pmc.snapAt := some 5 } }, by decide +kernel, by decide +kernel⟩, ⟨1000000,
    wSpire, by decide +kernel, by decide +kernel, by decide +kernel, by decide +kernel⟩, ⟨99, wSpire,
    by decide +kernel, by decide +kernel, by decide +kernel⟩, ⟨0xFFFFF, wSpire, by decide +kernel,
    by decide +kernel⟩, ⟨{ dev := { btr.spireUp := true, pmc.period := 100, tim.spire := 2 ^ 60 } },
    by decide +kernel, by decide +kernel, by decide +kernel⟩, ⟨wSpire, by decide +kernel⟩, ⟨{}, by decide +kernel⟩⟩

/-- The hypotheses of Obligations.MaintenanceActivities can be met, clause by clause. -/
theorem witness_MaintenanceActivities :
  (∃ (s : State), (s.dev.tim.ck < s.dev.spr.wearAt + 10000000)) ∧
  (∃ (s : State), (s.dev.btr.spireUp = true) ∧ (s.dev.spr.wearAt + 10000000 ≤ s.dev.tim.ck)) ∧
  (∃ (slot : Nat) (spare : Nat) (a : Activity) (s : State), (tfind s.dev.spr.acts slot = some a) ∧ (a.code = 1) ∧
    (a.spare = some spare) ∧ (changeoverDue s.dev a = false)) ∧
  (∃ (slot : Nat) (spare : Nat) (a : Activity) (s : State), (tfind s.dev.spr.acts slot = some a) ∧ (a.code = 1) ∧
    (a.spare = some spare) ∧ (a.kind ≠ 4) ∧ (changeoverDue s.dev a = true)) ∧
  (∃ (slot : Nat) (s : State), (actSlot s.dev 3 0 0 = some slot)) ∧
  (∃ (slot : Nat) (s : State), (actSlot s.dev 4 0 0 = some slot) ∧ (s.dev.spr.softRows = [])) ∧
  (∃ (slot : Nat) (row : Nat) (s : State), (actSlot s.dev 4 0 0 = some slot) ∧ (s.dev.spr.softRows = [row]) ∧
    (s.dev.spr.hardUsed.contains (Config.rowBank row).toNat = false)) ∧
  (∃ (s : State), (s.dev.spr.acts = [])) ∧
  (∃ (d : Desc) (s : State), (canStart d s.dev = true) ∧ (d.target.toNat < 18) ∧ (d.p0 = 0) ∧ (badField
    { pmask := 1 } [] d = none) ∧ (unitState (started d s.dev) 0 d.target.toNat = 0) ∧ (refusal 1 0 d.target.toNat
    (started d s.dev) = none)) ∧
  (∃ (d : Desc) (h : Nat) (s : State), (canStart d s.dev = true) ∧ (d.target.toNat < 18) ∧ (d.p0 = 0) ∧ (badField
    { pmask := 1 } [] d = none) ∧ (unitState (started d s.dev) 0 d.target.toNat = 0) ∧ (refusal 1 0 d.target.toNat
    (started d s.dev) = some h)) ∧
  (∃ (d : Desc) (s : State), (canStart d s.dev = true) ∧ (badField { target := false } [] d = none) ∧ (refusal 3 0 0
    (started d s.dev) = none)) ∧
  (∃ (d : Desc) (s : State), (canStart d s.dev = true) ∧ (badField { target := false } [] d = none) ∧ (needMaint
    (started d s.dev) = false) ∧ (s.dev.cfg.mode ≠ .running) ∧ (s.dev.spr.softRows ≠ []) ∧ (refusal 4 0 0 (started d
    s.dev) = none)) ∧
  (∃ (code : Nat) (kind : Nat) (unit : Nat) (s : Device), (refusal code kind unit s = none)) ∧
  (∃ (d : Desc) (s : State), (canStart d s.dev = true) ∧ (badField { target := false, pmask := 1 } [(8 ≤ d.p0.toNat,
    24)] d = none)) :=
  ⟨⟨{}, by decide +kernel⟩, ⟨{ dev := { btr.spireUp := true, tim.ck := 10000000 } }, by decide +kernel,
    by decide +kernel⟩, ⟨3, 16, { code := 1, unit := 0, handle := 1, spare := some 16 }, wSwap true,
    by decide +kernel, by decide +kernel, by decide +kernel, by decide +kernel⟩, ⟨3, 16,
    { code := 1, unit := 0, handle := 1, spare := some 16 }, wSwap false, by decide +kernel, by decide +kernel,
    by decide +kernel, by decide +kernel, by decide +kernel⟩, ⟨1, wScrub, by decide +kernel⟩, ⟨0, wScrub,
    by decide +kernel, by decide +kernel⟩, ⟨0, 7, { dev := { wScrub.dev with spr.softRows := [7] } },
    by decide +kernel, by decide +kernel, by decide +kernel⟩, ⟨{}, by decide +kernel⟩, ⟨{ target := 0 }, wLanes,
    by decide +kernel, by decide +kernel, by decide +kernel, by decide +kernel, by decide +kernel,
    by decide +kernel⟩, ⟨{ target := 0 }, 0, { dev := { wLanes.dev with dpt.spare := 0 } }, by decide +kernel,
    by decide +kernel, by decide +kernel, by decide +kernel, by decide +kernel, by decide +kernel⟩, ⟨{}, wLanes,
    by decide +kernel, by decide +kernel, by decide +kernel⟩, ⟨{}, wRows, by decide +kernel, by decide +kernel,
    by decide +kernel, by decide +kernel, by decide +kernel, by decide +kernel⟩, ⟨3, 0, 0, wLanes.dev,
    by decide +kernel⟩, ⟨{ p0 := 7 }, wRun, by decide +kernel, by decide +kernel⟩⟩

/-- The hypotheses of Obligations.ConversionsRun can be met, clause by clause. -/
theorem witness_ConversionsRun :
  (∃ (c : Nat) (s : State), ((convOf s.dev c).urg = []) ∧ ((convOf s.dev c).scan = [])) ∧
  (∃ (c : Nat) (k : Nat) (rest : List Nat) (s : State), ((convOf s.dev c).urg = []) ∧ ((convOf s.dev c).urgRun =
    false) ∧ ((convOf s.dev c).scan = k :: rest) ∧ ((chanOf s.dev (8 * c + k)).settle = none)) ∧
  (∃ (c : Nat) (u : Urgent) (rest : List Urgent) (s : State), ((convOf s.dev c).urg = u :: rest) ∧ ((convOf s.dev
    c).urgRun = true)) ∧
  (∃ (n : Nat) (t : STime) (b : List Byte) (s : Device), ((chanOf s n).n = 0) ∧ (recAt s 0x08 1 (n / 8) t = some b)
    ∧ ((chanParams s n b).1 ≠ 0) ∧ (n % 8 < 4)) ∧
  (∃ (c : Nat) (t : STime) (s : State), (lastPeriodic (convRec s.dev c) (nowD s.dev) = some t) ∧ (convStart (convRec
    s.dev c) = 1) ∧ (convEnabled s.dev c = true) ∧ ((convOf s.dev c).lastStart.all (fun l => decide (l < t)) = true)
    ∧ ((convOf s.dev c).scan = []) ∧ ((convOf s.dev c).urgRun = false) ∧ ((convOf s.dev c).cal = none) ∧ ((convOf
    s.dev c).swapTo = none)) ∧
  (∃ (c : Nat) (t : STime) (s : State), (lastPeriodic (convRec s.dev c) (nowD s.dev) = some t) ∧ (convStart (convRec
    s.dev c) = 1) ∧ (convEnabled s.dev c = true) ∧ ((convOf s.dev c).lastStart.all (fun l => decide (l < t)) = true)
    ∧ ((convOf s.dev c).scan ≠ []) ∧ ((convOf s.dev c).deferred = false)) ∧
  (∃ (c : Nat) (s : State), (convStart (convRec s.dev c) ≠ 1)) ∧
  (∃ (c : Nat) (rising : Bool) (s : State), (convEnabled s.dev c = true) ∧ (fld 14 1 (convRec s.dev c) ≠ 0xFF) ∧
    (bit 3 (fld 15 1 (convRec s.dev c)) ≠ rising) ∧ ((convOf s.dev c).urg.length < 4) ∧ ((convOf s.dev c).scan = []
    ∨ (convOf s.dev c).urgRun = true)) ∧
  (∃ (c : Nat) (rising : Bool) (s : State), (convEnabled s.dev c = true) ∧ (fld 14 1 (convRec s.dev c) ≠ 0xFF) ∧
    (bit 3 (fld 15 1 (convRec s.dev c)) ≠ rising) ∧ ((convOf s.dev c).urg.length < 4) ∧ ((convOf s.dev c).scan ≠ [])
    ∧ ((convOf s.dev c).urgRun = false)) ∧
  (∃ (c : Nat) (rising : Bool) (s : State), (bit 3 (fld 15 1 (convRec s.dev c)) = rising)) ∧
  (∃ (c : Nat) (rising : Bool) (s : State), (convEnabled s.dev c = true) ∧ (fld 14 1 (convRec s.dev c) ≠ 0xFF) ∧
    (bit 3 (fld 15 1 (convRec s.dev c)) ≠ rising) ∧ ((convOf s.dev c).urg.length = 4)) ∧
  (∃ (d : Desc) (s : State), (canStart d s.dev = true) ∧ (d.target.toNat ≤ 255) ∧ (badField plain [] d = none) ∧
    (convEnabled s.dev (d.target.toNat / 8) = true) ∧ ((convOf s.dev (d.target.toNat / 8)).urg.length < 4) ∧
    ((convOf s.dev (d.target.toNat / 8)).scan = [] ∨ (convOf s.dev (d.target.toNat / 8)).urgRun = true)) ∧
  (∃ (d : Desc) (s : State), (canStart d s.dev = true) ∧ (d.target.toNat ≤ 255) ∧ (badField plain [] d = none) ∧
    (convEnabled s.dev (d.target.toNat / 8) = true) ∧ ((convOf s.dev (d.target.toNat / 8)).urg.length < 4) ∧
    ((convOf s.dev (d.target.toNat / 8)).scan ≠ []) ∧ ((convOf s.dev (d.target.toNat / 8)).urgRun = false)) ∧
  (∃ (d : Desc) (s : State), (canStart d s.dev = true) ∧ (255 < d.target.toNat)) ∧
  (∃ (c : Nat) (s : State), ((convOf s.dev c).mute = []) ∧ ((convOf s.dev c).urg = [])) ∧
  (∃ (c : Nat) (u : Urgent) (p : Pend) (s : State), (((convOf s.dev c).mute ++ (convOf s.dev c).urg).find? (fun x =>
    x.pend.isSome && decide (x.at_ + usT 100 ≤ nowD s.dev)) = some u) ∧ (u.pend = some p)) :=
  ⟨⟨31, {}, by decide +kernel, by decide +kernel⟩, ⟨31, 3, [], wScan, by decide +kernel, by decide +kernel,
    by decide +kernel, by decide +kernel⟩, ⟨30, { chan := 7 }, [], wScan, by decide +kernel, by decide +kernel⟩, ⟨0,
    7, wConvRec, wAvg, by decide +kernel, by decide +kernel, by decide +kernel, by decide +kernel⟩, ⟨5,
    (lastPeriodic wConvRec (nowD (wPeriodic []).dev)).getD 0, wPeriodic [], by decide +kernel, by decide +kernel,
    by decide +kernel, by decide +kernel, by decide +kernel, by decide +kernel, by decide +kernel,
    by decide +kernel⟩, ⟨5, (lastPeriodic wConvRec (nowD (wPeriodic []).dev)).getD 0, wPeriodic [1],
    by decide +kernel, by decide +kernel, by decide +kernel, by decide +kernel, by decide +kernel,
    by decide +kernel⟩, ⟨31, {}, by decide +kernel⟩, ⟨5, true, wPeriodic [], by decide +kernel, by decide +kernel,
    by decide +kernel, by decide +kernel, by decide +kernel⟩, ⟨5, true, wPeriodic [1], by decide +kernel,
    by decide +kernel, by decide +kernel, by decide +kernel, by decide +kernel, by decide +kernel⟩, ⟨5, false,
    wPeriodic [], by decide +kernel⟩, ⟨6, true, wPeriodic [], by decide +kernel, by decide +kernel,
    by decide +kernel, by decide +kernel⟩, ⟨{ target := 40 }, wPeriodic [], by decide +kernel, by decide +kernel,
    by decide +kernel, by decide +kernel, by decide +kernel, by decide +kernel⟩, ⟨{ target := 40 }, wPeriodic [1],
    by decide +kernel, by decide +kernel, by decide +kernel, by decide +kernel, by decide +kernel,
    by decide +kernel, by decide +kernel⟩, ⟨{ target := 256 }, wRun, by decide +kernel, by decide +kernel⟩, ⟨0, {},
    by decide +kernel, by decide +kernel⟩, ⟨7, { chan := 1, pend := some wPend }, wPend, wPeriodic [],
    by decide +kernel, by decide +kernel⟩⟩

/-- The hypotheses of Obligations.RangesAndCalibration can be met, clause by clause. -/
theorem witness_RangesAndCalibration :
  (∃ (n : Nat) (v : Nat) (s : State), (s.dev.clk.held = none) ∧ (n ≤ 255) ∧ (n % 8 < 4) ∧ (v % 8 ≤ 4)) ∧
  (∃ (n : Nat) (v : Nat) (s : State), (s.dev.clk.held = none) ∧ (255 < n ∨ 4 ≤ n % 8 ∨ 5 ≤ v % 8)) ∧
  (∃ (n : Nat) (t : STime) (s : State), ((chanOf s.dev n).settle = some t) ∧ (t ≤ nowD s.dev)) ∧
  (∃ (n : Nat) (t : STime) (s : State), ((chanOf s.dev n).settle = some t) ∧ (nowD s.dev < t)) ∧
  (∃ (c : Nat) (s : State), ((convOf s.dev c).cal = none)) ∧
  (∃ (c : Nat) (r : CalRun) (s : State), ((convOf s.dev c).cal = some r) ∧ (r.step = 0) ∧ ((convOf s.dev c).scan =
    []) ∧ ((convOf s.dev c).urgRun = false) ∧ (r.spare ≠ (convOf s.dev c).phys) ∧ (2 ≤ (spares s.dev 2).length) ∧
    (convEnabled s.dev c = false)) ∧
  (∃ (c : Nat) (t : Nat) (r : CalRun) (ofs16 : Int) (g : Nat) (noise : Nat) (s : State), ((convOf s.dev c).cal =
    some r) ∧ ((List.range 5).find? (fun t => bit t r.left) = some t) ∧ (r.step = 1) ∧ (fitFault ofs16 g noise =
    none)) ∧
  (∃ (c : Nat) (t : Nat) (r : CalRun) (ofs16 : Int) (g : Nat) (noise : Nat) (why : Nat) (s : State), ((convOf s.dev
    c).cal = some r) ∧ ((List.range 5).find? (fun t => bit t r.left) = some t) ∧ (r.step = 1) ∧ (r.fail = none) ∧
    (fitFault ofs16 g noise = some why)) ∧
  (∃ (c : Nat) (r : CalRun) (s : State), ((convOf s.dev c).cal = some r) ∧ (r.step = 2) ∧ ((convOf s.dev c).scan =
    []) ∧ ((convOf s.dev c).urgRun = false) ∧ (actSlot s.dev 2 0 c = none) ∧ (convEnabled s.dev c = false)) ∧
  (∃ (d : Desc) (s : State), (canStart d s.dev = true) ∧ (d.target.toNat ≤ 31) ∧ (d.p1 = 0) ∧ (badField
    { pmask := 3 } [(32 ≤ d.p0.toNat, 24)] d = none) ∧ (refusal 2 0 d.target.toNat (started d s.dev) = none)) ∧
  (∃ (d : Desc) (s : State), (canStart d s.dev = true) ∧ (d.target.toNat ≤ 31) ∧ (badField
    { bufMin := 48, bufMax := 16777216 } [] d = none)) ∧
  (∃ (d : Desc) (s : State), (canStart d s.dev = true) ∧ (badField { target := false, pmask := 1 } [(2 ^ 6 ≤
    d.p0.toNat, 24)] d = none)) :=
  ⟨⟨251, 4, wRun, by decide +kernel, by decide +kernel, by decide +kernel, by decide +kernel⟩, ⟨4, 0, wRun,
    by decide +kernel, by decide +kernel⟩, ⟨3, 0, { dev := { adc.chans := [(3, { settle := some 0 })] } },
    by decide +kernel, by decide +kernel⟩, ⟨3, 1, { dev := { adc.chans := [(3, { settle := some 1 })] } },
    by decide +kernel, by decide +kernel⟩, ⟨0, {}, by decide +kernel⟩, ⟨1,
    { mask := 1, left := 1, spare := 33, owner := 1 }, wCal 0, by decide +kernel, by decide +kernel,
    by decide +kernel, by decide +kernel, by decide +kernel, by decide +kernel, by decide +kernel⟩, ⟨1, 0,
    { mask := 1, left := 1, spare := 33, owner := 1, step := 1 }, 4096, 8388608, 2000, wCal 1, by decide +kernel,
    by decide +kernel, by decide +kernel, by decide +kernel⟩, ⟨1, 0,
    { mask := 1, left := 1, spare := 33, owner := 1, step := 1 }, 4097, 8388608, 2000, 1, wCal 1, by decide +kernel,
    by decide +kernel, by decide +kernel, by decide +kernel, by decide +kernel⟩, ⟨1,
    { mask := 1, left := 0, spare := 33, owner := 1, step := 2 }, wCal 2, by decide +kernel, by decide +kernel,
    by decide +kernel, by decide +kernel, by decide +kernel, by decide +kernel⟩, ⟨{ target := 31, p0 := 31 },
    wLanes, by decide +kernel, by decide +kernel, by decide +kernel, by decide +kernel, by decide +kernel⟩,
    ⟨{ target := 31, bufLen := 48, bufAddr := 4 }, wRun, by decide +kernel, by decide +kernel, by decide +kernel⟩,
    ⟨{ p0 := 63 }, wRun, by decide +kernel, by decide +kernel⟩⟩

/-- The hypotheses of Obligations.AnalogOutputs can be met, clause by clause. -/
theorem witness_AnalogOutputs :
  (∃ (s : State), (s.dev.outputs = [])) ∧
  (∃ (n : Nat) (o : OutItem) (rest : List OutItem) (b : List Byte) (s : State), (s.dev.outputs = o :: rest) ∧
    (o.kind = 1) ∧ (o.index = n) ∧ (dacHost s.dev n = false) ∧ ((dacOf s.dev n).wait = none) ∧ ((dacOf s.dev
    n).time.all (fun x => decide (x ≤ o.time)) = true) ∧ (dacFree (dacOf s.dev n) s.dev = true) ∧ (recAt s.dev 0x09
    1 n o.time = some b)) ∧
  (∃ (n : Nat) (o : OutItem) (rest : List OutItem) (t0 : STime) (b : List Byte) (s : State), (s.dev.outputs = o ::
    rest) ∧ (o.kind = 1) ∧ (o.index = n) ∧ (dacHost s.dev n = false) ∧ ((dacOf s.dev n).wait = none) ∧ ((dacOf s.dev
    n).time.all (fun x => decide (x ≤ o.time)) = true) ∧ ((dacOf s.dev n).issue = some t0) ∧ (nowD s.dev < t0 + usT
    1) ∧ (recAt s.dev 0x09 1 n o.time = some b)) ∧
  (∃ (n : Nat) (o : OutItem) (rest : List OutItem) (s : State), (s.dev.outputs = o :: rest) ∧ (o.kind = 1) ∧
    (o.index = n) ∧ (dacHost s.dev n = true)) ∧
  (∃ (n : Nat) (o : OutItem) (rest : List OutItem) (x : STime) (s : State), (s.dev.outputs = o :: rest) ∧ (o.kind =
    1) ∧ (o.index = n) ∧ ((dacOf s.dev n).wait = none) ∧ ((dacOf s.dev n).time = some x) ∧ (o.time < x)) ∧
  (∃ (n : Nat) (o : OutItem) (t0 : STime) (s : State), ((dacOf s.dev n).wait = some o) ∧ ((dacOf s.dev n).issue =
    some t0) ∧ (t0 + usT 1 ≤ nowD s.dev) ∧ (s.dev.fbl.control = false)) ∧
  (∃ (n : Nat) (o : OutItem) (t0 : STime) (s : State), ((dacOf s.dev n).wait = some o) ∧ ((dacOf s.dev n).issue =
    some t0) ∧ (nowD s.dev < t0 + usT 1)) ∧
  (∃ (v : Nat) (s : State), (s.dev.clk.held = none) ∧ (v < 2 ^ 32)) ∧
  (∃ (d : Desc) (s : State), (canStart d s.dev = true) ∧ (d.target.toNat ≤ 31) ∧ (created s.dev 0x09 1
    d.target.toNat = true) ∧ (badField { pmask := 1 } [(sword d.p0 < (dacLimits (recNow s.dev 0x09 1
    d.target.toNat)).1 || (dacLimits (recNow s.dev 0x09 1 d.target.toNat)).2 < sword d.p0, 24)] d = none) ∧ (dacHost
    s.dev d.target.toNat = true)) ∧
  (∃ (d : Desc) (s : State), (canStart d s.dev = true) ∧ (d.target.toNat ≤ 31) ∧ (created s.dev 0x09 1
    d.target.toNat = true) ∧ (badField { pmask := 1 } [(sword d.p0 < (dacLimits (recNow s.dev 0x09 1
    d.target.toNat)).1 || (dacLimits (recNow s.dev 0x09 1 d.target.toNat)).2 < sword d.p0, 24)] d = none) ∧ (dacHost
    s.dev d.target.toNat = false)) :=
  ⟨⟨{}, by decide +kernel⟩, ⟨3, { kind := 1, index := 3, code := 9, time := 0 }, [], wDacRec 0, wDac 0 none,
    by decide +kernel, by decide +kernel, by decide +kernel, by decide +kernel, by decide +kernel,
    by decide +kernel, by decide +kernel, by decide +kernel⟩, ⟨3, { kind := 1, index := 3, code := 9, time := 0 },
    [], 0, wDacRec 0, wDac 0 (some 0), by decide +kernel, by decide +kernel, by decide +kernel, by decide +kernel,
    by decide +kernel, by decide +kernel, by decide +kernel, by decide +kernel, by decide +kernel⟩, ⟨3,
    { kind := 1, index := 3, code := 9, time := 0 }, [], wDac 2 none, by decide +kernel, by decide +kernel,
    by decide +kernel, by decide +kernel⟩, ⟨3, { kind := 1, index := 3, code := 9, time := 0 }, [], 7,
    { dev := { (wDac 0 none).dev with dac.chans := [(3, { time := some 7 })] } }, by decide +kernel,
    by decide +kernel, by decide +kernel, by decide +kernel, by decide +kernel, by decide +kernel⟩, ⟨31,
    { kind := 1, index := 31, code := 9, time := 0 }, 0, wHold (2 ^ 60), by decide +kernel, by decide +kernel,
    by decide +kernel, by decide +kernel⟩, ⟨31, { kind := 1, index := 31, code := 9, time := 0 }, 0, wHold 0,
    by decide +kernel, by decide +kernel, by decide +kernel⟩, ⟨2 ^ 32 - 1, {}, by decide +kernel,
    by decide +kernel⟩, ⟨{ target := 3 }, wDac 2 none, by decide +kernel, by decide +kernel, by decide +kernel,
    by decide +kernel, by decide +kernel⟩, ⟨{ target := 3 }, wDac 0 none, by decide +kernel, by decide +kernel,
    by decide +kernel, by decide +kernel, by decide +kernel⟩⟩

/-- The hypotheses of Obligations.PinsAndPwm can be met, clause by clause. -/
theorem witness_PinsAndPwm :
  (∃ (w : Nat) (v : Nat) (s : State), (s.dev.clk.held = none) ∧ (w ≤ 2) ∧ (v < 2 ^ 32) ∧ (s.dev.dio.oe < 2 ^ 96)) ∧
  (∃ (w : Nat), (2 < w)) ∧
  (∃ (n : Nat) (level : Bool) (t : Nat) (b : List Byte) (s : State), (recAt s.dev 0x0A 1 n t = some b) ∧ (pinMode b
    ≠ 0) ∧ ((pinOf s.dev n).level ≠ level) ∧ (t + usT (fld 2 2 b) ≤ nowD s.dev)) ∧
  (∃ (n : Nat) (level : Bool) (t : Nat) (b : List Byte) (s : State), (recAt s.dev 0x0A 1 n t = some b) ∧ (pinMode b
    = 0 ∨ (pinOf s.dev n).level = level ∨ nowD s.dev < t + usT (fld 2 2 b))) ∧
  (∃ (n : Nat) (s : State), (pinMode (recNow s.dev 0x0A 1 n) ≠ 0) ∧ (fld 2 2 (recNow s.dev 0x0A 1 n) ≠ 0) ∧ ((pinOf
    s.dev n).chatAt = none)) ∧
  (∃ (n : Nat) (t : STime) (s : State), (pinMode (recNow s.dev 0x0A 1 n) ≠ 0) ∧ (fld 2 2 (recNow s.dev 0x0A 1 n) ≠
    0) ∧ ((pinOf s.dev n).chatAt = some t) ∧ (nowD s.dev < t + secT 1)) ∧
  (∃ (n : Nat) (o : OutItem) (rest : List OutItem) (s : State), (s.dev.outputs = o :: rest) ∧ (o.kind = 2) ∧
    (o.index = n) ∧ (pinMode (recNow s.dev 0x0A 1 n) = 4) ∧ ((pinOf s.dev n).pwmWait = none) ∧ ((pinOf s.dev
    n).pwmTime.all (fun x => decide (x ≤ o.time)) = true)) ∧
  (∃ (n : Nat) (s : State), ((pinOf s.dev n).pwmWait = none)) ∧
  (∃ (n : Nat) (o : OutItem) (s : State), (s.dev.fbl.control = false) ∧ ((pinOf s.dev n).pwmWait = some o)) ∧
  (∃ (d : Desc) (s : State), (canStart d s.dev = true) ∧ (d.target.toNat ≤ 2) ∧ (badField { pmask := 3 } [] d =
    none) ∧ ((List.range 32).all (fun k => !bit k d.p0.toNat || (pinIsOutput (recNow s.dev 0x0A 1 (32 *
    d.target.toNat + k)) && pinHost (recNow s.dev 0x0A 1 (32 * d.target.toNat + k)))) = true)) ∧
  (∃ (n : Nat) (t : STime) (s : Device), (s.fbl.control = false) ∧ ((pinOf s n).outTime.all (fun x => decide (x ≤
    t)) = true)) ∧
  (∃ (n : Nat) (t : STime) (x : STime) (s : Device), (s.fbl.control = false) ∧ ((pinOf s n).outTime = some x) ∧ (t <
    x)) ∧
  (∃ (d : Desc) (s : State), (canStart d s.dev = true) ∧ (badField { target := false, pmask := 1 } [(2 ^ 4 ≤
    d.p0.toNat, 24)] d = none)) :=
  ⟨⟨2, 2 ^ 32 - 1, { dev := { dio.oe := 2 ^ 96 - 1 } }, by decide +kernel, by decide +kernel, by decide +kernel,
    by decide +kernel⟩, ⟨3, by decide +kernel⟩, ⟨95, true, 5, le 1 1 ++ le 1 0 ++ le 14 1, wPins, by decide +kernel,
    by decide +kernel, by decide +kernel, by decide +kernel⟩, ⟨95, false, 5, le 1 1 ++ le 1 0 ++ le 14 1, wPins,
    by decide +kernel, by decide +kernel⟩, ⟨95, wPins, by decide +kernel, by decide +kernel, by decide +kernel⟩,
    ⟨94, 2 ^ 60, wPins, by decide +kernel, by decide +kernel, by decide +kernel, by decide +kernel⟩, ⟨7,
    { kind := 2, index := 7, code := 70000, time := 0 }, [], wPwm, by decide +kernel, by decide +kernel,
    by decide +kernel, by decide +kernel, by decide +kernel, by decide +kernel⟩, ⟨0, {}, by decide +kernel⟩, ⟨8,
    { kind := 2, index := 8, code := 65536, time := 0 }, wPwm, by decide +kernel, by decide +kernel⟩,
    ⟨{ target := 2, p0 := 0x40000000, p1 := 0xFFFFFFFF }, wPins, by decide +kernel, by decide +kernel,
    by decide +kernel, by decide +kernel⟩, ⟨95, 5, {}, by decide +kernel, by decide +kernel⟩, ⟨95, 5, 6,
    { dio.pins := [(95, { outTime := some 6 })] }, by decide +kernel, by decide +kernel, by decide +kernel⟩,
    ⟨{ p0 := 15 }, wPins, by decide +kernel, by decide +kernel⟩⟩

/-- The hypotheses of Obligations.PulsesPortsAndUarts can be met, clause by clause. -/
theorem witness_PulsesPortsAndUarts :
  (∃ (p : Nat) (rising : Bool) (s : State), (edgeCounts (recNow s.dev 0x0A 2 p) rising = true)) ∧
  (∃ (p : Nat) (rising : Bool) (s : State), (edgeCounts (recNow s.dev 0x0A 2 p) rising = false)) ∧
  (∃ (p : Nat) (s : State), (pulseOn s.dev p = false)) ∧
  (∃ (p : Nat) (b : List Byte) (s : State), (pulseOn s.dev p = true) ∧ ((pulseOf s.dev p).sampleAt + nsT (fld 4 4
    (recNow s.dev 0x0A 2 p)) ≤ nowD s.dev) ∧ (recAt s.dev 0x0A 2 p ((pulseOf s.dev p).sampleAt + nsT (fld 4 4
    (recNow s.dev 0x0A 2 p))) = some b)) ∧
  (∃ (p : Nat) (v : Nat) (s : State), (s.dev.clk.held = none) ∧ (v % 2 = 1) ∧ ((pulseOf s.dev p).recent = [])) ∧
  (∃ (q : Nat) (a : Bool) (b : Bool) (s : State), (portAbz s.dev q = true) ∧ ((portOf s.dev q).a = a ∨ (portOf s.dev
    q).b = b)) ∧
  (∃ (q : Nat) (a : Bool) (b : Bool) (s : State), (portAbz s.dev q = true) ∧ ((portOf s.dev q).a ≠ a) ∧ ((portOf
    s.dev q).b ≠ b)) ∧
  (∃ (q : Nat) (s : State), (portAbz s.dev q = true) ∧ (bit 3 (fld 0 1 (recNow s.dev 0x0A 3 q)) = true)) ∧
  (∃ (q : Nat) (t : Nat) (b : List Byte) (s : State), (portSsi s.dev q = true) ∧ (recAt s.dev 0x0A 3 q t = some b) ∧
    (bit 2 (fld 0 1 b) = false)) ∧
  (∃ (q : Nat) (high : Bool) (low : Bool) (s : State), (portSsi s.dev q = true) ∧ (high = false ∨ low = false)) ∧
  (∃ (q : Nat) (s : State), (portAbz s.dev q = true) ∧ ((portOf s.dev q).sampleAt + nsT (fld 4 4 (recNow s.dev 0x0A
    3 q)) ≤ nowD s.dev)) ∧
  (∃ (q : Nat) (s : State), (nowD s.dev < (portOf s.dev q).sampleAt + nsT (fld 4 4 (recNow s.dev 0x0A 3 q)))) ∧
  (∃ (u : Nat) (s : State), (u ≤ 3) ∧ (uartOn s.dev u = true) ∧ (uartDe s.dev u = false) ∧ (256 ≤ (uartOf s.dev
    u).buf.length)) ∧
  (∃ (u : Nat) (s : State), (u ≤ 3) ∧ (uartOn s.dev u = true) ∧ (uartDe s.dev u = false) ∧ ((uartOf s.dev u).buf =
    []) ∧ (windowOf s.dev (0x0A90 + u) = none)) ∧
  (∃ (u : Nat) (s : State), ((uartOf s.dev u).lastRx = none)) ∧
  (∃ (u : Nat) (w : Nat) (t : STime) (s : State), ((uartOf s.dev u).lastRx = some t) ∧ (windowOf s.dev (0x0A90 + u)
    = some w) ∧ (t + (frameBits (recNow s.dev 0x0A 4 u) + fld 4 1 (recNow s.dev 0x0A 4 u)) * bitTime (recNow s.dev
    0x0A 4 u) ≤ nowD s.dev) ∧ ((uartOf s.dev u).buf = []) ∧ ((winOf s.dev w).fill ≠ [])) ∧
  (∃ (u : Nat) (s : State), (windowOf s.dev (0x0A94 + u) = none)) ∧
  (∃ (u : Nat) (w : Nat) (g : HostSeg) (rest : List HostSeg) (s : State), (windowOf s.dev (0x0A94 + u) = some w) ∧
    ((winOf s.dev w).hold = g :: rest) ∧ (fieldOn s.dev = true) ∧ (segCheck (winOf s.dev w) g = 0) ∧ (uartOn s.dev u
    = true)) ∧
  (∃ (d : Desc) (s : State), (canStart d s.dev = true) ∧ (d.target.toNat ≤ 7) ∧ (badField { pmask := 1 } [] d =
    none) ∧ (portAbz s.dev d.target.toNat = true)) ∧
  (∃ (d : Desc) (s : State), (canStart d s.dev = true) ∧ (7 < d.target.toNat)) :=
  ⟨⟨15, true, wPins, by decide +kernel⟩, ⟨15, false, wPins, by decide +kernel⟩, ⟨14, wPins, by decide +kernel⟩, ⟨15,
    le 4 1 ++ le 12 1000, wPins, by decide +kernel, by decide +kernel, by decide +kernel⟩, ⟨15, 1, wPins,
    by decide +kernel, by decide +kernel, by decide +kernel⟩, ⟨7, true, false, wPins, by decide +kernel,
    by decide +kernel⟩, ⟨7, true, true, wPins, by decide +kernel, by decide +kernel, by decide +kernel⟩, ⟨7, wPins,
    by decide +kernel, by decide +kernel⟩, ⟨6, 5, le 1 3 ++ le 1 12 ++ le 14 0, wPins, by decide +kernel,
    by decide +kernel, by decide +kernel⟩, ⟨6, true, false, wPins, by decide +kernel, by decide +kernel⟩, ⟨7, wPins,
    by decide +kernel, by decide +kernel⟩, ⟨5, wPins, by decide +kernel⟩, ⟨3, wPins, by decide +kernel,
    by decide +kernel, by decide +kernel, by decide +kernel⟩, ⟨2, wPins, by decide +kernel, by decide +kernel,
    by decide +kernel, by decide +kernel, by decide +kernel⟩, ⟨0, {}, by decide +kernel⟩, ⟨1, 12, 5, wUart,
    by decide +kernel, by decide +kernel, by decide +kernel, by decide +kernel, by decide +kernel⟩, ⟨0, {},
    by decide +kernel⟩, ⟨1, 13, wSeg, [], wUart, by decide +kernel, by decide +kernel, by decide +kernel,
    by decide +kernel, by decide +kernel⟩, ⟨{ target := 7, p0 := 5 }, wPins, by decide +kernel, by decide +kernel,
    by decide +kernel, by decide +kernel⟩, ⟨{ target := 8 }, wPins, by decide +kernel, by decide +kernel⟩⟩

/-- The hypotheses of Obligations.AxesMove can be met, clause by clause. -/
theorem witness_AxesMove :
  (∃ (a : Nat) (s : State), (axRec s.dev a ≠ []) ∧ (s.dev.cfg.mode ≠ .unconfigured) ∧ (nowD s.dev / servo (axRec
    s.dev a) * servo (axRec s.dev a) ≠ (axisOf s.dev a).tickAt)) ∧
  (∃ (a : Nat) (s : State), (axRec s.dev a = [])) ∧
  (∃ (s : State), (s.dev.dpt.mot = [])) ∧
  (∃ (f : Firing) (rest : List Firing) (s : State), (s.dev.dpt.mot = f :: rest) ∧ (recAt s.dev 0x06 1 (fld 2 2
    (recNow s.dev 0x02 1 f.slot)) f.time = none)) ∧
  (∃ (f : Firing) (rest : List Firing) (a : Nat) (b : List Byte) (s : State), (s.dev.dpt.mot = f :: rest) ∧ (fld 2 2
    (recNow s.dev 0x02 1 f.slot) = a) ∧ (recAt s.dev 0x06 1 a f.time = some b) ∧ (bit 0 (fld 0 1 b) = true) ∧ (fld 1
    1 b = 0) ∧ (fld 2 1 b = 0) ∧ (axisOf s.dev a = {}) ∧ (f.ops = [])) ∧
  (∃ (a : Nat) (pos : Bool) (s : State), (axRec s.dev a ≠ []) ∧ (limPin (axRec s.dev a) pos ≠ 0xFF) ∧ ((axLim
    (axisOf s.dev a) pos).seen < (pinOf s.dev (limPin (axRec s.dev a) pos)).edgeAt) ∧ ((axLim (axisOf s.dev a)
    pos).latch = none) ∧ (pinLevel s.dev (limPin (axRec s.dev a) pos) = true)) ∧
  (∃ (a : Nat) (pos : Bool) (e : STime) (s : State), (axRec s.dev a ≠ []) ∧ (limPin (axRec s.dev a) pos ≠ 0xFF) ∧
    ((axLim (axisOf s.dev a) pos).seen < (pinOf s.dev (limPin (axRec s.dev a) pos)).edgeAt) ∧ ((axLim (axisOf s.dev
    a) pos).latch = none) ∧ (pinLevel s.dev (limPin (axRec s.dev a) pos) = false) ∧ ((axLim (axisOf s.dev a)
    pos).pend = some e)) ∧
  (∃ (a : Nat) (pos : Bool) (l : Int) (s : State), (axRec s.dev a ≠ []) ∧ (limPin (axRec s.dev a) pos ≠ 0xFF) ∧
    ((axLim (axisOf s.dev a) pos).seen < (pinOf s.dev (limPin (axRec s.dev a) pos)).edgeAt) ∧ ((axLim (axisOf s.dev
    a) pos).latch = some l)) ∧
  (∃ (a : Nat) (pos : Bool) (e : STime) (s : State), ((axLim (axisOf s.dev a) pos).pend = some e) ∧ (e + usT (fld 46
    2 (axRec s.dev a)) ≤ nowD s.dev) ∧ (pinLevel s.dev (limPin (axRec s.dev a) pos) = true)) ∧
  (∃ (a : Nat) (pos : Bool) (e : STime) (s : State), ((axLim (axisOf s.dev a) pos).pend = some e) ∧ (nowD s.dev < e
    + usT (fld 46 2 (axRec s.dev a)))) :=
  ⟨⟨63, wAxis .standstill, by decide +kernel, by decide +kernel, by decide +kernel⟩, ⟨0, wAxis .standstill,
    by decide +kernel⟩, ⟨{}, by decide +kernel⟩, ⟨{ slot := 6, time := 0, version := 1 }, [], wMotDrop,
    by decide +kernel, by decide +kernel⟩, ⟨{ slot := 5, time := 0, version := 1 }, [], 63, wAxRec 0, wAxis
    .disabled, by decide +kernel, by decide +kernel, by decide +kernel, by decide +kernel, by decide +kernel,
    by decide +kernel, by decide +kernel, by decide +kernel⟩, ⟨63, true, wLimit true none, by decide +kernel,
    by decide +kernel, by decide +kernel, by decide +kernel, by decide +kernel⟩, ⟨63, true, 3, wLimit false none,
    by decide +kernel, by decide +kernel, by decide +kernel, by decide +kernel, by decide +kernel,
    by decide +kernel⟩, ⟨63, true, 4, wLimit false (some 4), by decide +kernel, by decide +kernel,
    by decide +kernel, by decide +kernel⟩, ⟨63, true, 3, wLimit true none, by decide +kernel, by decide +kernel,
    by decide +kernel⟩, ⟨63, true, 3, { dev := { (wLimit true none).dev with tim.dome := 0 } }, by decide +kernel,
    by decide +kernel⟩⟩

/-- The hypotheses of Obligations.AxisCommands can be met, clause by clause. -/
theorem witness_AxisCommands :
  (∃ (d : Desc) (s : State), (canStart d s.dev = true) ∧ (noAxis s.dev d = false) ∧ (badField { pmask := 1 } [] d =
    none) ∧ (bit 2 (fld 2 1 (axRec s.dev d.target.toNat)) = false) ∧ ((axisOf s.dev d.target.toNat).mode =
    .standstill) ∧ ((axisOf s.dev d.target.toNat).neg.latch = none) ∧ (bit 1 (fld 0 1 (axRec s.dev d.target.toNat))
    = false)) ∧
  (∃ (d : Desc) (s : State), (canStart d s.dev = true) ∧ (noAxis s.dev d = false) ∧ (badField { pmask := 1 } [(1 <
    d.p0.toNat, 24)] d = none) ∧ ((axisOf s.dev d.target.toNat).mode ≠ .disabled)) ∧
  (∃ (d : Desc) (s : State), (canStart d s.dev = true) ∧ (noAxis s.dev d = false) ∧ (badField plain [] d = none) ∧
    ((axisOf s.dev d.target.toNat).mode = .standstill ∨ (axisOf s.dev d.target.toNat).mode = .homingFailed)) ∧
  (∃ (d : Desc) (s : State), (canStart d s.dev = true) ∧ (noAxis s.dev d = false) ∧ (badField { pmask := 1 } [] d =
    none) ∧ ((axisOf s.dev d.target.toNat).mode = .standstill ∨ (axisOf s.dev d.target.toNat).mode = .homingFailed)) ∧
  (∃ (d : Desc) (s : State), (canStart d s.dev = true) ∧ (noAxis s.dev d = false) ∧ (badField plain [] d = none) ∧
    ((axisOf s.dev d.target.toNat).mode = .moving ∨ (axisOf s.dev d.target.toNat).mode = .estop)) ∧
  (∃ (d : Desc) (s : State), (canStart d s.dev = true) ∧ (noAxis s.dev d = false) ∧ (badField
    { bufMin := 64, bufMax := 16777216 } [] d = none)) ∧
  (∃ (d : Desc) (s : State), (canStart d s.dev = true) ∧ (noAxis s.dev d = true)) ∧
  (∃ (d : Desc) (s : State), (canStart d s.dev = true) ∧ (badField { target := false, pmask := 1 } [(2 ^ 6 ≤
    d.p0.toNat, 24)] d = none)) :=
  ⟨⟨{ target := 63, p0 := 0xFFFFFFFF }, wAxis .standstill, by decide +kernel, by decide +kernel, by decide +kernel,
    by decide +kernel, by decide +kernel, by decide +kernel, by decide +kernel⟩, ⟨{ target := 63, p0 := 1 }, wAxis
    .standstill, by decide +kernel, by decide +kernel, by decide +kernel, by decide +kernel⟩, ⟨{ target := 63 },
    wAxis .homingFailed, by decide +kernel, by decide +kernel, by decide +kernel, by decide +kernel⟩,
    ⟨{ target := 63, p0 := 7 }, wAxis .homingFailed, by decide +kernel, by decide +kernel, by decide +kernel,
    by decide +kernel⟩, ⟨{ target := 63 }, wAxis .moving, by decide +kernel, by decide +kernel, by decide +kernel,
    by decide +kernel⟩, ⟨{ target := 63, bufLen := 64, bufAddr := 4 }, wAxis .estop, by decide +kernel,
    by decide +kernel, by decide +kernel⟩, ⟨{ target := 62 }, wAxis .standstill, by decide +kernel,
    by decide +kernel⟩, ⟨{ p0 := 63 }, wRun, by decide +kernel, by decide +kernel⟩⟩

/-- The hypotheses of Obligations.CoilsRegulate can be met, clause by clause. -/
theorem witness_CoilsRegulate :
  (∃ (m : Nat) (s : State), (ccrRec s.dev m = [])) ∧
  (∃ (m : Nat) (s : State), (ccrRec s.dev m ≠ []) ∧ (m ≤ 15) ∧ (driveOn s.dev m = false)) ∧
  (∃ (m : Nat) (sa : List Int) (c : Int) (s : State), (ccrRec s.dev m ≠ []) ∧ (m ≤ 15) ∧ (driveOn s.dev m = true) ∧
    (overPair (ccrRec s.dev m) sa = some c) ∧ (driveAxis s.dev m = none)) ∧
  (∃ (m : Nat) (sa : List Int) (c : Int) (s : State), (ccrRec s.dev m ≠ []) ∧ (m ≤ 15) ∧ (driveOn s.dev m = true) ∧
    (overPair (ccrRec s.dev m) sa = some c)) ∧
  (∃ (m : Nat) (sa : List Int) (sb : List Int) (s : State), (ccrRec s.dev m ≠ []) ∧ (m ≤ 15) ∧ (driveOn s.dev m =
    true) ∧ (overPair (ccrRec s.dev m) sa = none) ∧ (overPair (ccrRec s.dev m) sb = none)) ∧
  (∃ (m : Nat) (s : State), (driveOn s.dev m = false ∨ (driveOf s.dev m).strong = false ∨ (driveOf s.dev m).eCnt =
    0)) ∧
  (∃ (m : Nat) (s : State), (driveOn s.dev m = true) ∧ ((driveOf s.dev m).strong = true) ∧ ((driveOf s.dev m).eCnt ≠
    0) ∧ (fld 18 2 (ccrRec s.dev m) = 0) ∧ ((driveOf s.dev m).low = 0)) ∧
  (∃ (m : Nat) (a : Nat) (p : STime × Int) (s : State), ((driveOf s.dev m).points.getLast? = some p) ∧ (driveAxis
    s.dev m = some a) ∧ ((driveOf s.dev m).ramp = none) ∧ (p.1 + 2 * servo (axRec s.dev a) ≤ nowD s.dev)) ∧
  (∃ (m : Nat) (s : State), ((driveOf s.dev m).points = [])) ∧
  (∃ (m : Nat) (s : State), ((driveOf s.dev m).hold = none) ∧ ((driveOf s.dev m).since + msT (fld 10 2 (ccrRec s.dev
    m)) ≤ nowD s.dev)) ∧
  (∃ (m : Nat) (k : Nat) (s : State), ((driveOf s.dev m).hold = some k)) ∧
  (∃ (v : Nat) (s : State), (s.dev.clk.held = none) ∧ (v < 2 ^ 16)) ∧
  (∃ (m : Nat) (o : OutItem) (rest : List OutItem) (s : State), (s.dev.outputs = o :: rest) ∧ (o.kind = 6) ∧
    (o.index = m) ∧ ((driveOf s.dev m).time.all (fun t => decide (t ≤ o.time)) = true) ∧ (driveOn s.dev m = false ∨
    (driveOf s.dev m).ramp ≠ none)) ∧
  (∃ (m : Nat) (o : OutItem) (rest : List OutItem) (t : STime) (s : State), (s.dev.outputs = o :: rest) ∧ (o.kind =
    6) ∧ (o.index = m) ∧ ((driveOf s.dev m).time = some t) ∧ (o.time < t)) ∧
  (∃ (m : Nat) (o : OutItem) (rest : List OutItem) (b : List Byte) (s : State), (s.dev.outputs = o :: rest) ∧
    (o.kind = 6) ∧ (o.index = m) ∧ ((driveOf s.dev m).time.all (fun t => decide (t ≤ o.time)) = true) ∧ (driveOn
    s.dev m = true) ∧ ((driveOf s.dev m).ramp = none) ∧ (recAt s.dev 0x06 1 (o.axis.getD 0) o.time = some b)) ∧
  (∃ (m : Nat) (s : Device), (driveOf s m = {})) ∧
  (∃ (d : Desc) (s : State), (canStart d s.dev = true) ∧ (d.target.toNat ≤ 15) ∧ (badField plain [] d = none) ∧
    ((driveOf s.dev d.target.toNat).fault = true) ∧ ((driveOf s.dev d.target.toNat).overRange = false) ∧ (driveAxis
    s.dev d.target.toNat = none)) ∧
  (∃ (d : Desc) (s : State), (canStart d s.dev = true) ∧ (d.target.toNat ≤ 15) ∧ (badField plain [] d = none) ∧
    ((driveOf s.dev d.target.toNat).fault = false)) ∧
  (∃ (s : State), (s.dev.reports = [])) ∧
  (∃ (r : DestReport) (rest : List DestReport) (s : State), (s.dev.reports = r :: rest) ∧ (r.item.loop = none)) ∧
  (∃ (r : DestReport) (n : Nat) (rest : List DestReport) (s : State), (s.dev.reports = r :: rest) ∧ (r.item.loop =
    some n)) :=
  ⟨⟨0, {}, by decide +kernel⟩, ⟨15, wDrive 0, by decide +kernel, by decide +kernel, by decide +kernel⟩, ⟨15, [2047,
    2047], 2047, wDrive 0x8000, by decide +kernel, by decide +kernel, by decide +kernel, by decide +kernel,
    by decide +kernel⟩, ⟨15, [2047, 2047], 2047, wDrive 0x8000, by decide +kernel, by decide +kernel,
    by decide +kernel, by decide +kernel⟩, ⟨15, [0], [0], wDrive 0x8000, by decide +kernel, by decide +kernel,
    by decide +kernel, by decide +kernel, by decide +kernel⟩, ⟨15, wDrive 0x8000, by decide +kernel⟩, ⟨14, wDrive
    0x4000, by decide +kernel, by decide +kernel, by decide +kernel, by decide +kernel, by decide +kernel⟩, ⟨13, 63,
    (0, 5), wLoss, by decide +kernel, by decide +kernel, by decide +kernel, by decide +kernel⟩, ⟨0, {},
    by decide +kernel⟩, ⟨15, wDrive 0, by decide +kernel, by decide +kernel⟩, ⟨12, 64, wLoss, by decide +kernel⟩,
    ⟨0xFFFF, wRun, by decide +kernel, by decide +kernel⟩, ⟨15, { kind := 6, index := 15, code := 4, time := 0 }, [],
    wDrive 0, by decide +kernel, by decide +kernel, by decide +kernel, by decide +kernel, by decide +kernel⟩, ⟨15,
    { kind := 6, index := 15, code := 4, time := 0 }, [], 9,
    { dev := { (wDrive 0).dev with ccr.drives := [(15, { time := some 9 })] } }, by decide +kernel,
    by decide +kernel, by decide +kernel, by decide +kernel, by decide +kernel⟩, ⟨15,
    { kind := 6, index := 15, code := 4, time := 0, axis := some 63 }, [], wAxRec 1,
    { dev := { (wDrive 0x8000).dev with cfg.objs := wObj 6 1 63 (wAxRec 1) :: (wDrive 0x8000).dev.cfg.objs, outputs := [{ kind := 6, index := 15, code := 4, time := 0, axis := some 63 }] } },
    by decide +kernel, by decide +kernel, by decide +kernel, by decide +kernel, by decide +kernel,
    by decide +kernel, by decide +kernel⟩, ⟨15, {}, by decide +kernel⟩, ⟨{ target := 11 }, wLoss, by decide +kernel,
    by decide +kernel, by decide +kernel, by decide +kernel, by decide +kernel, by decide +kernel⟩,
    ⟨{ target := 12 }, wLoss, by decide +kernel, by decide +kernel, by decide +kernel, by decide +kernel⟩, ⟨{},
    by decide +kernel⟩, ⟨⟨{ kind := 6, index := 0, code := 0, time := 0, axis := some 63 }, .discarded, 0⟩, [],
    { dev := { reports := [⟨{ kind := 6, index := 0, code := 0, time := 0, axis := some 63 }, .discarded, 0⟩] } },
    by decide +kernel, by decide +kernel⟩, ⟨⟨{ kind := 1, index := 0, code := 0, time := 0, loop := some 7 },
    .applied, 0⟩, 7, [],
    { dev := { reports := [⟨{ kind := 1, index := 0, code := 0, time := 0, loop := some 7 }, .applied, 0⟩] } },
    by decide +kernel, by decide +kernel⟩⟩

/-- The hypotheses of Obligations.TimeAdvances can be met, clause by clause. -/
theorem witness_TimeAdvances :
  (∃ (s : State), (s.dev.tim.ck / 1048576 = s.dev.tim.lastStrobe / 1048576)) ∧
  (∃ (r : Int) (s : State), (s.dev.tim.lastStrobe / 1048576 < s.dev.tim.ck / 1048576) ∧ (s.dev.btr.linkUp = false) ∧
    (s.dev.tim.nextStep = none) ∧ (s.dev.tim.setTime = none) ∧ (s.dev.tim.nextRate = some r) ∧ (s.dev.tim.nextFree =
    none)) ∧
  (∃ (n : Nat) (cause : Nat) (s : State), (s.dev.tim.lastStrobe / 1048576 < s.dev.tim.ck / 1048576) ∧
    (s.dev.tim.mode = .unset) ∧ (s.dev.tim.nextStep = some (n, cause)) ∧ (s.dev.tim.setTime = none)) ∧
  (∃ (s : State), (ppsDomain s.dev = none)) ∧
  (∃ (d : Nat) (s : State), (ppsDomain s.dev = some d) ∧ (s.dev.tim.setTime = none)) ∧
  (∃ (s : State), (s.dev.tim.mode = .unset) ∧ (s.dev.tim.ppsOut = true)) ∧
  (∃ (s : State), (s.dev.tim.mode ≠ .unset) ∧ (bit 3 (fld 0 1 (timRec s.dev)) = true) ∧ (domeNs s.dev % 1000000000 <
    1000 * fld 28 4 (timRec s.dev)) ∧ (s.dev.tim.ppsOut = false) ∧ (s.dev.tim.ppsFrom ≤ domeNs s.dev / 1000000000 *
    1000000000) ∧ ((recAt s.dev 0x0B 0 0 (nsT (domeNs s.dev / 1000000000 * 1000000000))).any (fun r => bit 3 (fld 0
    1 r)) = true)) ∧
  (∃ (e : Nat) (s : State), (nextFiring (recNow s.dev 0x0B 2 e) (trigFrom s.dev e) = none)) ∧
  (∃ (e : Nat) (t : STime) (s : State), (nextFiring (recNow s.dev 0x0B 2 e) (trigFrom s.dev e) = some t) ∧ (nowS
    s.dev < t)) ∧
  (∃ (e : Nat) (t : STime) (s : State), (nextFiring (recNow s.dev 0x0B 2 e) (trigFrom s.dev e) = some t) ∧ (t ≤ nowS
    s.dev) ∧ (s.dev.tim.mode ≠ .unset) ∧ (fld 1 1 (recNow s.dev 0x0B 2 e) = 0) ∧ (objsOf s.dev 0x08 1 = [])) ∧
  (∃ (e : Nat) (t : STime) (s : State), (nextFiring (recNow s.dev 0x0B 2 e) (trigFrom s.dev e) = some t) ∧ (t ≤ nowS
    s.dev) ∧ (s.dev.tim.mode ≠ .unset)) ∧
  (∃ (s : State), (s.dev.tim.mode = .unset)) :=
  ⟨⟨{}, by decide +kernel⟩, ⟨-5, { dev := { tim.ck := 1048576, tim.nextRate := some (-5) } }, by decide +kernel,
    by decide +kernel, by decide +kernel, by decide +kernel, by decide +kernel, by decide +kernel⟩, ⟨7, 0,
    { dev := { tim.ck := 1048576, tim.nextStep := some (7, 0), btr.linkUp := true } }, by decide +kernel,
    by decide +kernel, by decide +kernel, by decide +kernel⟩, ⟨wRun, by decide +kernel⟩, ⟨1, wDom 4 0,
    by decide +kernel, by decide +kernel⟩, ⟨{ dev := { tim.ppsOut := true } }, by decide +kernel,
    by decide +kernel⟩, ⟨wPps, by decide +kernel, by decide +kernel, by decide +kernel, by decide +kernel,
    by decide +kernel, by decide +kernel⟩, ⟨0, {}, by decide +kernel⟩, ⟨62, nsT 1000000000, wTrig,
    by decide +kernel, by decide +kernel⟩, ⟨63, 0, wTrig, by decide +kernel, by decide +kernel, by decide +kernel,
    by decide +kernel, by decide +kernel⟩, ⟨63, 0, wTrig, by decide +kernel, by decide +kernel, by decide +kernel⟩,
    ⟨wRun, by decide +kernel⟩⟩

/-- The hypotheses of Obligations.DomainsMeasure can be met, clause by clause. -/
theorem witness_DomainsMeasure :
  (∃ (s : State), (s.dev.tim.rx = [])) ∧
  (∃ (d : Nat) (f : RxFrame) (rest : List RxFrame) (s : State), (s.dev.tim.rx = f :: rest) ∧ (forDomain s.dev d f =
    true) ∧ (ptpType f = ptpSync) ∧ (ptpTwoStep f = false)) ∧
  (∃ (d : Nat) (s : Device), (domSlave s d = true) ∧ ((domOf s d).lastSeq = none) ∧ (domKind s d = 2)) ∧
  (∃ (d : Nat) (f : RxFrame) (rest : List RxFrame) (s : State), (s.dev.tim.rx = f :: rest) ∧ (forDomain s.dev d f =
    true) ∧ (ptpType f = ptpAnnounce) ∧ (domSlave s.dev d = true) ∧ (s.dev.tim.sel ≠ d) ∧ ((domOf s.dev d).gmid =
    0)) ∧
  (∃ (d : Nat) (f : RxFrame) (rest : List RxFrame) (s : State), (s.dev.tim.rx = f :: rest) ∧ (forDomain s.dev d f =
    true) ∧ (ptpType f = ptpPdelayReq) ∧ (domKind s.dev d = 2)) ∧
  (∃ (d : Nat) (f : RxFrame) (rest : List RxFrame) (seq : Nat) (t3 : STime) (s : State), (s.dev.tim.rx = f :: rest)
    ∧ (forDomain s.dev d f = true) ∧ (ptpType f = ptpDelayResp) ∧ (ptpRequester f = portId s.dev f.port) ∧ ((domOf
    s.dev d).delayReq = some (seq, t3)) ∧ (ptpSeq f = seq)) ∧
  (∃ (d : Nat) (s : State), (domMaster s.dev d = false ∨ domKind s.dev d = 0 ∨ 1 < d)) ∧
  (∃ (d : Nat) (s : State), (d ≤ 1) ∧ (domKind s.dev d ≠ 0) ∧ (domMaster s.dev d = true) ∧ (domPorts s.dev d = []) ∧
    ((domOf s.dev d).lastSync = none) ∧ ((domOf s.dev d).lastAnnounce = none)) ∧
  (∃ (d : Nat) (s : State), (domSlave s.dev d = true) ∧ (domKind s.dev d = 2) ∧ ((domOf s.dev d).lastPdelay = none)) ∧
  (∃ (d : Nat) (s : State), (domSlave s.dev d = false)) ∧
  (∃ (d : Nat) (s : State), (domSlave s.dev d = true) ∧ (domValid s.dev d = false) ∧ (lossMs s.dev * 1000000 ≤
    s.dev.tim.ck) ∧ (s.dev.tim.sel = d) ∧ (s.dev.tim.mode = .tracking) ∧ (selAuto s.dev = false)) :=
  ⟨⟨{}, by decide +kernel⟩, ⟨1, wPtp 0, [], wTimRx 2 0 0, by decide +kernel, by decide +kernel, by decide +kernel,
    by decide +kernel⟩, ⟨1, (wTimRx 2 0 0).dev, by decide +kernel, by decide +kernel, by decide +kernel⟩, ⟨1, wPtp
    11, [], wTimRx 2 0 11, by decide +kernel, by decide +kernel, by decide +kernel, by decide +kernel,
    by decide +kernel, by decide +kernel⟩, ⟨1, wPtp 2, [], wTimRx 2 0 2, by decide +kernel, by decide +kernel,
    by decide +kernel, by decide +kernel⟩, ⟨1, wPtp 9, [], 0, 0, wTimRx 1 0 9, by decide +kernel, by decide +kernel,
    by decide +kernel, by decide +kernel, by decide +kernel, by decide +kernel⟩, ⟨2, wRun, by decide +kernel⟩, ⟨1,
    wMaster, by decide +kernel, by decide +kernel, by decide +kernel, by decide +kernel, by decide +kernel,
    by decide +kernel⟩, ⟨1, wTimRx 2 0 0, by decide +kernel, by decide +kernel, by decide +kernel⟩, ⟨0, wRun,
    by decide +kernel⟩, ⟨1, wLossDom, by decide +kernel, by decide +kernel, by decide +kernel, by decide +kernel,
    by decide +kernel, by decide +kernel⟩⟩

/-- The hypotheses of Obligations.TimeCommands can be met, clause by clause. -/
theorem witness_TimeCommands :
  (∃ (d : Desc) (s : State), (canStart d s.dev = true) ∧ (badField { target := false, pmask := 0xF } [(1000000000 ≤
    d.p0.toNat, 24), (1 < d.p3.toNat, 36)] d = none) ∧ (s.dev.tim.mode = .unset) ∧ (d.p3 = 0) ∧ (s.dev.tim.setTime =
    none)) ∧
  (∃ (d : Desc) (s : State), (canStart d s.dev = true) ∧ (badField { target := false, pmask := 0xF } [(1000000000 ≤
    d.p0.toNat, 24), (1 < d.p3.toNat, 36)] d = none) ∧ (s.dev.tim.mode ≠ .unset)) ∧
  (∃ (g : SetTime) (s : State), (s.dev.tim.setTime = some g) ∧ (g.pps = true) ∧ (g.from_ + 2000000000 ≤
    s.dev.tim.ck)) ∧
  (∃ (s : State), (s.dev.tim.setTime = none)) ∧
  (∃ (d : Desc) (s : State), (canStart d s.dev = true) ∧ (badField { target := false, pmask := 1 } [(2 < d.p0.toNat,
    24)] d = none) ∧ (d.p0.toNat = 2 ∨ domSlave s.dev d.p0.toNat = true)) ∧
  (∃ (d : Desc) (s : State), (canStart d s.dev = true) ∧ (badField { target := false } [] d = none) ∧ (needMaint
    (started d s.dev) = false) ∧ (s.dev.cfg.mode ≠ .running) ∧ (s.dev.tim.mode ≠ .unset) ∧ (refusal 5 0 0 (started d
    s.dev) = none)) ∧
  (∃ (d : Desc) (s : State), (canStart d s.dev = true) ∧ (badField { target := false, pmask := 3 } [(sword d.p0 <
    -32767 || 32767 < sword d.p0, 24), (2 < d.p1.toNat, 28)] d = none) ∧ (utcDomain s.dev = false)) ∧
  (∃ (d : Desc) (s : State), (canStart d s.dev = true) ∧ (d.target.toNat ≤ 1) ∧ (badField
    { bufMin := 64, bufMax := 16777216 } [] d = none)) ∧
  (∃ (d : Desc) (s : State), (canStart d s.dev = true) ∧ (1 < d.target.toNat)) ∧
  (∃ (d : Desc) (s : State), (canStart d s.dev = true) ∧ (badField { target := false, pmask := 1 } [(8 ≤ d.p0.toNat,
    24)] d = none)) :=
  ⟨⟨{ p0 := 999999999, p1 := 1 }, wRun, by decide +kernel, by decide +kernel, by decide +kernel, by decide +kernel,
    by decide +kernel⟩, ⟨{}, wPps, by decide +kernel, by decide +kernel, by decide +kernel⟩,
    ⟨{ pend := wPend, given := 0, pps := true, from_ := 0 },
    { dev := { tim.ck := 2000000000, tim.setTime := some { pend := wPend, given := 0, pps := true, from_ := 0 } } },
    by decide +kernel, by decide +kernel, by decide +kernel⟩, ⟨{}, by decide +kernel⟩, ⟨{ p0 := 1 }, wDom 2 0,
    by decide +kernel, by decide +kernel, by decide +kernel⟩, ⟨{}, wRestep, by decide +kernel, by decide +kernel,
    by decide +kernel, by decide +kernel, by decide +kernel, by decide +kernel⟩, ⟨{ p0 := 37, p1 := 2 }, wRun,
    by decide +kernel, by decide +kernel, by decide +kernel⟩, ⟨{ target := 1, bufLen := 64, bufAddr := 4 }, wRun,
    by decide +kernel, by decide +kernel, by decide +kernel⟩, ⟨{ target := 2 }, wRun, by decide +kernel,
    by decide +kernel⟩, ⟨{ p0 := 7 }, wRun, by decide +kernel, by decide +kernel⟩⟩

/-- The hypotheses of Obligations.FramesPass can be met, clause by clause. -/
theorem witness_FramesPass :
  (∃ (p : Nat) (s : State), ((eportOf s.dev p).link = false)) ∧
  (∃ (p : Nat) (bytes : List Byte) (s : State), ((eportOf s.dev p).link = true) ∧ (frameGood bytes = false)) ∧
  (∃ (p : Nat) (t : Nat) (bytes : List Byte) (s : State), ((eportOf s.dev p).link = true) ∧ (frameGood bytes = true)
    ∧ (etherType (bytes.take (bytes.length - 4)) = 0x88F7) ∧ (nzEtype s.dev ≠ 0x88F7) ∧ (ptpTaken
    { port := p, at_ := t, ck := s.dev.tim.ck, bytes := bytes.take (bytes.length - 4) } = true) ∧ (forDomain s.dev 0
    { port := p, at_ := t, ck := s.dev.tim.ck, bytes := bytes.take (bytes.length - 4) } = true ∨ forDomain s.dev 1
    { port := p, at_ := t, ck := s.dev.tim.ck, bytes := bytes.take (bytes.length - 4) } = true)) ∧
  (∃ (p : Nat) (w : Nat) (g : HostSeg) (rest : List HostSeg) (s : State), (windowOf s.dev (0x0C08 + p) = some w) ∧
    ((winOf s.dev w).hold = g :: rest) ∧ (segCheck (winOf s.dev w) g = 0) ∧ (framesFit s.dev p (frameRecords 4096
    ((g.bytes.drop 32).take (fld 8 4 g.bytes))) = true)) ∧
  (∃ (p : Nat) (s : State), (windowOf s.dev (0x0C08 + p) = none)) ∧
  (∃ (p : Nat) (s : State), ((eportOf s.dev p).link = false ∨ nowS s.dev < (eportOf s.dev p).busy)) ∧
  (∃ (p : Nat) (s : State), ((eportOf s.dev p).link = true) ∧ ((eportOf s.dev p).busy ≤ nowS s.dev) ∧ (canLaunch
    s.dev p 7 = true)) ∧
  (∃ (p : Nat) (s : State), (nsT (fld 0 4 (recNow s.dev 0x0C 2 p)) ≠ 0) ∧ (nsT (fld 4 4 (recNow s.dev 0x0C 2 p)) ≤
    nowS s.dev)) ∧
  (∃ (p : Nat) (s : State), (nsT (fld 0 4 (recNow s.dev 0x0C 2 p)) = 0)) ∧
  (∃ (p : Nat) (s : State), (p ≤ 7) ∧ ((eportOf s.dev p).link = false) ∧ (bit p s.dev.eth.portEn = true) ∧ (fld 0 1
    (ethRec s.dev p) % 8 ≠ 0) ∧ (s.dev.btr.spireUp = true)) ∧
  (∃ (p : Nat) (s : State), ((eportOf s.dev p).link = false)) ∧
  (∃ (p : Nat) (s : State), ((eportOf s.dev p).link = true) ∧ (prpPair s.dev p = false)) ∧
  (∃ (p : Nat) (s : State), (prpPair s.dev p = false)) ∧
  (∃ (p : Nat) (s : State), (prpPair s.dev p = true) ∧ ((eportOf s.dev (p / 2 * 2)).supAt = none)) ∧
  (∃ (k : Nat) (s : State), ((tget s.dev.eth.streams k {}).seq = none)) ∧
  (∃ (k : Nat) (n : Nat) (s : State), ((tget s.dev.eth.streams k {}).seq = some n) ∧ ((tget s.dev.eth.streams k
    {}).at_ + msT (fld 12 2 (recNow s.dev 0x0C 7 k)) ≤ nowS s.dev)) ∧
  (∃ (s : State), (s.dev.btr.spireUp = true)) ∧
  (∃ (v : Nat) (s : State), (s.dev.btr.spireUp = true) ∧ (v = 255)) ∧
  (∃ (s : State), (s.dev.btr.spireUp = false)) ∧
  (∃ (s : State), (s.dev.btr.spireUp = true) ∧ (∀ p, p < 8 → (eportOf s.dev p).link = false)) :=
  ⟨⟨7, {}, by decide +kernel⟩, ⟨7, [], wLinkUp, by decide +kernel, by decide +kernel⟩, ⟨7, 5, wTimeFrame,
    { dev := { wLinkUp.dev with cfg.objs := wObj 11 1 1 (wDomRec 2 0) :: wLinkUp.dev.cfg.objs } },
    by decide +kernel, by decide +kernel, by decide +kernel, by decide +kernel, by decide +kernel,
    by decide +kernel⟩, ⟨7, 13, wSeg, [], wHostTx, by decide +kernel, by decide +kernel, by decide +kernel,
    by decide +kernel⟩, ⟨0, {}, by decide +kernel⟩, ⟨0, {}, by decide +kernel⟩, ⟨7, wLinkUp, by decide +kernel,
    by decide +kernel, by decide +kernel⟩, ⟨7, wLinkUp, by decide +kernel, by decide +kernel⟩, ⟨6, wLinkUp,
    by decide +kernel⟩, ⟨6, wLinkUp, by decide +kernel, by decide +kernel, by decide +kernel, by decide +kernel,
    by decide +kernel⟩, ⟨0, {}, by decide +kernel⟩, ⟨7, wLinkUp, by decide +kernel, by decide +kernel⟩, ⟨7, wLinkUp,
    by decide +kernel⟩, ⟨5, wLinkUp, by decide +kernel, by decide +kernel⟩, ⟨0, {}, by decide +kernel⟩, ⟨63, 5,
    wLinkUp, by decide +kernel, by decide +kernel⟩, ⟨wLinkUp, by decide +kernel⟩, ⟨255, wLinkUp, by decide +kernel,
    by decide +kernel⟩, ⟨{}, by decide +kernel⟩, ⟨wSpire, by decide +kernel, by decide +kernel⟩⟩

/-- The hypotheses of Obligations.StationsCycle can be met, clause by clause. -/
theorem witness_StationsCycle :
  (∃ (st : Nat) (s : State), ((stnOf s.dev st).next = none)) ∧
  (∃ (st : Nat) (m : Nat) (l : STime) (b : List Byte) (s : State), ((stnOf s.dev st).next = some m) ∧ (m * stnCycle
    (stnRec s.dev st) + stnPhase (stnRec s.dev st) = l) ∧ (recAt s.dev 0x0C 3 st l = some b) ∧ (bit 0 (fld 0 1 b) =
    true) ∧ (s.dev.pai.standby = false) ∧ ((if stnPaired s.dev (stnRec s.dev st) then min ((l : Int) - 256 * stnD
    (stnOf s.dev st) 0).toNat ((l : Int) - 256 * stnD (stnOf s.dev st) 1).toNat else ((l : Int) - 256 * stnD (stnOf
    s.dev st) 0).toNat) ≤ nowS s.dev + usT 1)) ∧
  (∃ (st : Nat) (m : Nat) (l : STime) (b : List Byte) (s : State), ((stnOf s.dev st).next = some m) ∧ (m * stnCycle
    (stnRec s.dev st) + stnPhase (stnRec s.dev st) = l) ∧ (recAt s.dev 0x0C 3 st l = some b) ∧ (nowS s.dev + usT 1 <
    (if stnPaired s.dev (stnRec s.dev st) then min ((l : Int) - 256 * stnD (stnOf s.dev st) 0).toNat ((l : Int) -
    256 * stnD (stnOf s.dev st) 1).toNat else ((l : Int) - 256 * stnD (stnOf s.dev st) 0).toNat))) ∧
  (∃ (s : State), (s.dev.eth.rx = [])) ∧
  (∃ (st : Nat) (f : RxFrame) (rest : List RxFrame) (c : NzCycle) (s : State), (s.dev.eth.rx = f :: rest) ∧ (nzType
    f = 2) ∧ (nzStation f = st) ∧ ((stnOf s.dev st).mode = .live) ∧ (nzSrc f = stnMac (stnRec s.dev st)) ∧ (nzWords
    f = fld 8 2 (stnRec s.dev st)) ∧ (nzCrcOk f = true) ∧ (fld 16 4 (nzOf f) = (stnOf s.dev st).pcrc.toNat) ∧
    ((stnOf s.dev st).open_.find? (fun c => c.m % 2 ^ 32 == fld 4 4 (nzOf f)) = some c) ∧ (f.at_ ≤ c.m * stnCycle
    (stnRec s.dev st) + stnPhase (stnRec s.dev st) + stnResp (stnRec s.dev st)) ∧ (bit 0 (fld 12 2 (nzOf f)) =
    false)) ∧
  (∃ (st : Nat) (f : RxFrame) (rest : List RxFrame) (s : State), (s.dev.eth.rx = f :: rest) ∧ (nzType f = 2) ∧
    (nzStation f = st) ∧ ((stnOf s.dev st).mode = .live) ∧ (nzSrc f = stnMac (stnRec s.dev st)) ∧ (nzWords f = fld 8
    2 (stnRec s.dev st)) ∧ (nzCrcOk f = true) ∧ (fld 16 4 (nzOf f) = (stnOf s.dev st).pcrc.toNat) ∧ ((stnOf s.dev
    st).open_ = [])) ∧
  (∃ (st : Nat) (c : NzCycle) (rest : List NzCycle) (s : State), ((stnOf s.dev st).open_ = c :: rest) ∧ (nowS s.dev
    ≤ c.m * stnCycle (stnRec s.dev st) + stnPhase (stnRec s.dev st) + stnResp (stnRec s.dev st))) ∧
  (∃ (st : Nat) (c : NzCycle) (rest : List NzCycle) (s : State), ((stnOf s.dev st).open_ = c :: rest) ∧ (c.m *
    stnCycle (stnRec s.dev st) + stnPhase (stnRec s.dev st) + stnResp (stnRec s.dev st) < nowS s.dev) ∧ ((stnOf
    s.dev st).mode = .param)) ∧
  (∃ (st : Nat) (f : RxFrame) (k : NzParam) (rest : List RxFrame) (s : State), (s.dev.eth.rx = f :: rest) ∧ (nzType
    f = 4) ∧ (nzStation f = st) ∧ (nzSrc f = stnMac (stnRec s.dev st)) ∧ ((stnOf s.dev st).param = some k) ∧
    ((nzBlock s.dev st).length ≤ k.offset + 1024) ∧ (k.delays = false) ∧ (nzCrcOk f = true) ∧ (fld 4 4 (nzOf f) =
    k.offset) ∧ (fld 16 4 (nzOf f) = (crc32c (nzBlock s.dev st)).toNat)) ∧
  (∃ (st : Nat) (f : RxFrame) (k : NzParam) (rest : List RxFrame) (s : State), (s.dev.eth.rx = f :: rest) ∧ (nzType
    f = 4) ∧ (nzStation f = st) ∧ (nzSrc f = stnMac (stnRec s.dev st)) ∧ ((stnOf s.dev st).param = some k) ∧
    (k.offset + 1024 < (nzBlock s.dev st).length) ∧ (k.delays = false) ∧ (nzCrcOk f = true) ∧ (fld 4 4 (nzOf f) =
    k.offset)) ∧
  (∃ (st : Nat) (k : NzParam) (s : State), ((stnOf s.dev st).param = some k) ∧ (nowS s.dev < k.sentAt + msT 1)) ∧
  (∃ (st : Nat) (k : NzParam) (s : State), ((stnOf s.dev st).param = some k) ∧ (k.sentAt + msT 1 ≤ nowS s.dev) ∧
    (k.tries ≤ 2) ∧ (k.delays = false)) ∧
  (∃ (st : Nat) (k : NzParam) (s : State), ((stnOf s.dev st).param = some k) ∧ (k.sentAt + msT 1 ≤ nowS s.dev) ∧ (3
    ≤ k.tries) ∧ ((stnOf s.dev st).open_ = [])) ∧
  (∃ (st : Nat) (f : RxFrame) (rest : List RxFrame) (k : NzParam) (t0 : STime) (s : State), (s.dev.eth.rx = f ::
    rest) ∧ (nzType f = 8) ∧ (nzStation f = st) ∧ (nzSrc f = stnMac (stnRec s.dev st)) ∧ ((stnOf s.dev st).param =
    some k) ∧ (k.left = some t0) ∧ (k.delays = true) ∧ (nzCrcOk f = true) ∧ (k.got = [])) ∧
  (∃ (st : Nat) (f : RxFrame) (rest : List RxFrame) (s : State), (s.dev.eth.rx = f :: rest) ∧ (nzSrc f = stnMac
    (stnRec s.dev st)) ∧ ((stnOf s.dev st).mode = .lost)) ∧
  (∃ (st : Nat) (s : State), ((stnOf s.dev st).mode ≠ .lost)) ∧
  (∃ (st : Nat) (s : State), ((stnOf s.dev st).mode = .lost) ∧ ((stnOf s.dev st).probeAt + usT (fld 32 4 (stnRec
    s.dev st)) ≤ nowS s.dev)) :=
  ⟨⟨0, {}, by decide +kernel⟩, ⟨127, 3, 3 * stnCycle (stnRec (wStn .live).dev 127) + stnPhase (stnRec (wStn
    .live).dev 127), wStnRec, wStn .live, by decide +kernel, by decide +kernel, by decide +kernel,
    by decide +kernel, by decide +kernel, by decide +kernel⟩, ⟨126, 2 ^ 40, 2 ^ 40 * stnCycle (stnRec (wStn
    .live).dev 126) + stnPhase (stnRec (wStn .live).dev 126), wStnRec, wStn .live, by decide +kernel,
    by decide +kernel, by decide +kernel, by decide +kernel⟩, ⟨{}, by decide +kernel⟩, ⟨127, wNz 2 3, [],
    { m := 3 }, wStnRx 2, by decide +kernel, by decide +kernel, by decide +kernel, by decide +kernel,
    by decide +kernel, by decide +kernel, by decide +kernel, by decide +kernel, by decide +kernel,
    by decide +kernel, by decide +kernel⟩, ⟨126, wNzOf 126, [], wStnRx 126, by decide +kernel, by decide +kernel,
    by decide +kernel, by decide +kernel, by decide +kernel, by decide +kernel, by decide +kernel,
    by decide +kernel, by decide +kernel⟩, ⟨127, { m := 3 }, [], { dev := { (wStnRx 2).dev with tim.spire := 0 } },
    by decide +kernel, by decide +kernel⟩, ⟨127, { m := 3 }, [], wStnPar, by decide +kernel, by decide +kernel,
    by decide +kernel⟩, ⟨127, wNzAck, {}, [], wStnRx 4, by decide +kernel, by decide +kernel, by decide +kernel,
    by decide +kernel, by decide +kernel, by decide +kernel, by decide +kernel, by decide +kernel,
    by decide +kernel, by decide +kernel⟩, ⟨127, wNzAck, {}, [], wStnBig, by decide +kernel, by decide +kernel,
    by decide +kernel, by decide +kernel, by decide +kernel, by decide +kernel, by decide +kernel,
    by decide +kernel, by decide +kernel⟩, ⟨127, {}, { dev := { (wStnRx 4).dev with tim.spire := 0 } },
    by decide +kernel, by decide +kernel⟩, ⟨127, {}, wStnRx 4, by decide +kernel, by decide +kernel,
    by decide +kernel, by decide +kernel⟩, ⟨126, { tries := 3 }, wStnRx 4, by decide +kernel, by decide +kernel,
    by decide +kernel, by decide +kernel⟩, ⟨127, wNz 8 0, [], { delays := true, left := some 0 }, 0, wStnRx 8,
    by decide +kernel, by decide +kernel, by decide +kernel, by decide +kernel, by decide +kernel,
    by decide +kernel, by decide +kernel, by decide +kernel, by decide +kernel⟩, ⟨127, wNz 6 0, [], wStnLost,
    by decide +kernel, by decide +kernel, by decide +kernel⟩, ⟨127, wStn .live, by decide +kernel⟩, ⟨127, wStnLost,
    by decide +kernel, by decide +kernel⟩⟩

/-- The hypotheses of Obligations.EthernetCommands can be met, clause by clause. -/
theorem witness_EthernetCommands :
  (∃ (d : Desc) (s : State), (canStart d s.dev = true) ∧ (d.target.toNat ≤ 127) ∧ (created s.dev 0x0C 3
    d.target.toNat = true) ∧ (badField { bufMin := 64, bufMax := 16777216 } [] d = none)) ∧
  (∃ (d : Desc) (s : State), (canStart d s.dev = true) ∧ (d.target.toNat ≤ 127) ∧ (created s.dev 0x0C 3
    d.target.toNat = true) ∧ (badField plain [] d = none) ∧ ((stnOf s.dev d.target.toNat).mode = .live) ∧
    (s.dev.cfg.mode = .running)) ∧
  (∃ (d : Desc) (s : State), (canStart d s.dev = true) ∧ (d.target.toNat ≤ 127) ∧ (created s.dev 0x0C 3
    d.target.toNat = true) ∧ (badField plain [] d = none) ∧ ((stnOf s.dev d.target.toNat).mode = .param)) ∧
  (∃ (d : Desc) (s : State), (canStart d s.dev = true) ∧ (created s.dev 0x0C 3 d.target.toNat = false) ∧ (created
    s.dev 0x0C 7 d.target.toNat = false)) ∧
  (∃ (d : Desc) (s : State), (canStart d s.dev = true) ∧ (d.target.toNat ≤ 63) ∧ (created s.dev 0x0C 7
    d.target.toNat = true) ∧ (bit 0 (fld 8 1 (recNow s.dev 0x0C 7 d.target.toNat)) = true) ∧ (bit 2 (fld 8 1 (recNow
    s.dev 0x0C 7 d.target.toNat)) = true) ∧ (badField plain [] d = none)) ∧
  (∃ (d : Desc) (s : State), (canStart d s.dev = true) ∧ (badField { target := false, pmask := 1 } [(512 ≤
    d.p0.toNat, 24)] d = none) ∧ (d.p0.toNat < 256)) ∧
  (∃ (d : Desc) (s : State), (canStart d s.dev = true) ∧ (badField { target := false, pmask := 1 } [(512 ≤
    d.p0.toNat, 24)] d = none) ∧ (d.p0 = 256)) :=
  ⟨⟨{ target := 127, bufLen := 64, bufAddr := 4 }, wStn .live, by decide +kernel, by decide +kernel,
    by decide +kernel, by decide +kernel⟩, ⟨{ target := 127 }, wStn .live, by decide +kernel, by decide +kernel,
    by decide +kernel, by decide +kernel, by decide +kernel, by decide +kernel⟩, ⟨{ target := 127 }, wStn .param,
    by decide +kernel, by decide +kernel, by decide +kernel, by decide +kernel, by decide +kernel⟩,
    ⟨{ target := 125 }, wStn .live, by decide +kernel, by decide +kernel, by decide +kernel⟩, ⟨{ target := 63 },
    wStn .live, by decide +kernel, by decide +kernel, by decide +kernel, by decide +kernel, by decide +kernel,
    by decide +kernel⟩, ⟨{ p0 := 255 }, wRun, by decide +kernel, by decide +kernel, by decide +kernel⟩,
    ⟨{ p0 := 256 }, wRun, by decide +kernel, by decide +kernel, by decide +kernel⟩⟩

/-- The hypotheses of Obligations.FunctionBlocks can be met, clause by clause. -/
theorem witness_FunctionBlocks :
  (∃ (c : Nat) (rd : Nat) (a : Nat) (b : Nat) (len : Nat) (v : Nat) (pc : Nat) (y : Cycle) (ws : List (Nat × List
    Byte)) (s : State), ((coreOf s.dev c).cyc = some y) ∧ (y.ended = false) ∧ (fetchInstr (progOf s.dev y.prog) y =
    .ok (.fb 0 0 rd a b, len)) ∧ (fbExec (progOf s.dev y.prog) y 0 0 rd (xreg (coreOf s.dev c) a) (xreg (coreOf
    s.dev c) b) ((y.pc + len) % 2 ^ 32) = .ok rd v pc ws)) ∧
  (∃ (c : Nat) (rd : Nat) (a : Nat) (b : Nat) (len : Nat) (v : Nat) (pc : Nat) (y : Cycle) (ws : List (Nat × List
    Byte)) (s : State), ((coreOf s.dev c).cyc = some y) ∧ (y.ended = false) ∧ (fetchInstr (progOf s.dev y.prog) y =
    .ok (.fb 0 1 rd a b, len)) ∧ (fbExec (progOf s.dev y.prog) y 0 1 rd (xreg (coreOf s.dev c) a) (xreg (coreOf
    s.dev c) b) ((y.pc + len) % 2 ^ 32) = .ok rd v pc ws)) ∧
  (∃ (c : Nat) (rd : Nat) (a : Nat) (b : Nat) (len : Nat) (v : Nat) (pc : Nat) (y : Cycle) (ws : List (Nat × List
    Byte)) (s : State), ((coreOf s.dev c).cyc = some y) ∧ (y.ended = false) ∧ (fetchInstr (progOf s.dev y.prog) y =
    .ok (.fb 0 2 rd a b, len)) ∧ (fbExec (progOf s.dev y.prog) y 0 2 rd (xreg (coreOf s.dev c) a) (xreg (coreOf
    s.dev c) b) ((y.pc + len) % 2 ^ 32) = .ok rd v pc ws)) ∧
  (∃ (c : Nat) (rd : Nat) (a : Nat) (b : Nat) (len : Nat) (v : Nat) (pc : Nat) (y : Cycle) (ws : List (Nat × List
    Byte)) (s : State), ((coreOf s.dev c).cyc = some y) ∧ (y.ended = false) ∧ (fetchInstr (progOf s.dev y.prog) y =
    .ok (.fb 1 0 rd a b, len)) ∧ (fbExec (progOf s.dev y.prog) y 1 0 rd (xreg (coreOf s.dev c) a) (xreg (coreOf
    s.dev c) b) ((y.pc + len) % 2 ^ 32) = .ok rd v pc ws)) ∧
  (∃ (c : Nat) (rd : Nat) (a : Nat) (b : Nat) (len : Nat) (v : Nat) (pc : Nat) (y : Cycle) (ws : List (Nat × List
    Byte)) (s : State), ((coreOf s.dev c).cyc = some y) ∧ (y.ended = false) ∧ (fetchInstr (progOf s.dev y.prog) y =
    .ok (.fb 1 1 rd a b, len)) ∧ (fbExec (progOf s.dev y.prog) y 1 1 rd (xreg (coreOf s.dev c) a) (xreg (coreOf
    s.dev c) b) ((y.pc + len) % 2 ^ 32) = .ok rd v pc ws)) ∧
  (∃ (c : Nat) (rd : Nat) (a : Nat) (b : Nat) (len : Nat) (v : Nat) (pc : Nat) (y : Cycle) (ws : List (Nat × List
    Byte)) (s : State), ((coreOf s.dev c).cyc = some y) ∧ (y.ended = false) ∧ (fetchInstr (progOf s.dev y.prog) y =
    .ok (.fb 2 0 rd a b, len)) ∧ (fbExec (progOf s.dev y.prog) y 2 0 rd (xreg (coreOf s.dev c) a) (xreg (coreOf
    s.dev c) b) ((y.pc + len) % 2 ^ 32) = .ok rd v pc ws)) ∧
  (∃ (c : Nat) (rd : Nat) (a : Nat) (b : Nat) (len : Nat) (v : Nat) (pc : Nat) (y : Cycle) (ws : List (Nat × List
    Byte)) (s : State), ((coreOf s.dev c).cyc = some y) ∧ (y.ended = false) ∧ (fetchInstr (progOf s.dev y.prog) y =
    .ok (.fb 2 1 rd a b, len)) ∧ (fbExec (progOf s.dev y.prog) y 2 1 rd (xreg (coreOf s.dev c) a) (xreg (coreOf
    s.dev c) b) ((y.pc + len) % 2 ^ 32) = .ok rd v pc ws)) ∧
  (∃ (c : Nat) (rd : Nat) (len : Nat) (y : Cycle) (s : State), ((coreOf s.dev c).cyc = some y) ∧ (y.ended = false) ∧
    (fetchInstr (progOf s.dev y.prog) y = .ok (.fb 4 0 rd 0 0, len))) ∧
  (∃ (c : Nat) (rd : Nat) (len : Nat) (y : Cycle) (s : State), ((coreOf s.dev c).cyc = some y) ∧ (y.ended = false) ∧
    (fetchInstr (progOf s.dev y.prog) y = .ok (.fb 4 1 rd 0 0, len))) ∧
  (∃ (g : Prog) (y : Cycle) (f : Nat) (f7 : Nat) (a : Nat) (clk : Nat) (b : List Byte), (f ≤ 2) ∧ (a % (if f = 0
    then 8 else 4) = 0) ∧ (memRead g y a (if f = 0 then 16 else if f = 1 then 1 else 9) = some b) ∧ ((memWrite g y a
    (fbMember f f7 (cycleNs y) (clk != 0) b).2).isSome = true)) ∧
  (∃ (f : Nat) (a : Nat), (f ≤ 2) ∧ (a % (if f = 0 then 8 else 4) ≠ 0)) ∧
  (∃ (g : Prog) (y : Cycle) (f : Nat) (a : Nat), (f ≤ 2) ∧ (a % (if f = 0 then 8 else 4) = 0) ∧ (memRead g y a (if f
    = 0 then 16 else if f = 1 then 1 else 9) = none)) ∧
  (∃ (u : Nat) (t : TimerMem), (t.inLast = false) ∧ (t.pt * u ≠ 0)) ∧
  (∃ (u : Nat) (t : TimerMem), (t.inLast = true) ∧ (t.pt * u ≠ 0)) ∧
  (∃ (t : TimerMem), (t.inLast = true) ∧ (t.run = true)) ∧
  (∃ (t : TimerMem), (t.inLast = false) ∧ (t.run = true)) ∧
  (∃ (t : TimerMem), (t.q = true)) ∧
  (∃ (b : Nat), (bit 1 b = false)) ∧
  (∃ (b : Nat), (bit 1 b = true)) ∧
  (∃ (b : List Byte), (bit 1 (fld 8 1 b) = true) ∧ (bit 0 (fld 8 1 b) = false)) :=
  ⟨⟨7, 12, 10, 11, 4, (fbMember 0 0 1000 true ((le 64 0).take 16)).1, 4, wCyc, [(0x20000000, (fbMember 0 0 1000 true
    ((le 64 0).take 16)).2)], wCore (wFbWord 0 0) 0 256000, by decide +kernel, by decide +kernel, of_ok
    (by decide +kernel), by decide +kernel⟩, ⟨7, 12, 10, 11, 4, (fbMember 0 1 1000 true ((le 64 0).take 16)).1, 4,
    wCyc, [(0x20000000, (fbMember 0 1 1000 true ((le 64 0).take 16)).2)], wCore (wFbWord 0 1) 0 256000,
    by decide +kernel, by decide +kernel, of_ok (by decide +kernel), by decide +kernel⟩, ⟨7, 12, 10, 11, 4,
    (fbMember 0 2 1000 true ((le 64 0).take 16)).1, 4, wCyc, [(0x20000000, (fbMember 0 2 1000 true ((le 64 0).take
    16)).2)], wCore (wFbWord 0 2) 0 256000, by decide +kernel, by decide +kernel, of_ok (by decide +kernel),
    by decide +kernel⟩, ⟨7, 12, 10, 11, 4, (fbMember 1 0 1000 true ((le 64 0).take 4)).1, 4, wCyc, [(0x20000000,
    (fbMember 1 0 1000 true ((le 64 0).take 4)).2)], wCore (wFbWord 1 0) 0 256000, by decide +kernel,
    by decide +kernel, of_ok (by decide +kernel), by decide +kernel⟩, ⟨7, 12, 10, 11, 4, (fbMember 1 1 1000 true
    ((le 64 0).take 4)).1, 4, wCyc, [(0x20000000, (fbMember 1 1 1000 true ((le 64 0).take 4)).2)], wCore (wFbWord 1
    1) 0 256000, by decide +kernel, by decide +kernel, of_ok (by decide +kernel), by decide +kernel⟩, ⟨7, 12, 10,
    11, 4, (fbMember 2 0 1000 true ((le 64 0).take 9)).1, 4, wCyc, [(0x20000000, (fbMember 2 0 1000 true ((le 64
    0).take 9)).2)], wCore (wFbWord 2 0) 0 256000, by decide +kernel, by decide +kernel, of_ok (by decide +kernel),
    by decide +kernel⟩, ⟨7, 12, 10, 11, 4, (fbMember 2 1 1000 true ((le 64 0).take 9)).1, 4, wCyc, [(0x20000000,
    (fbMember 2 1 1000 true ((le 64 0).take 9)).2)], wCore (wFbWord 2 1) 0 256000, by decide +kernel,
    by decide +kernel, of_ok (by decide +kernel), by decide +kernel⟩, ⟨7, 12, 4, wCyc, wCore (wFbWord 4 0) 0 256000,
    by decide +kernel, by decide +kernel, of_ok (by decide +kernel)⟩, ⟨7, 12, 4, wCyc, wCore (wFbWord 4 1) 0 256000,
    by decide +kernel, by decide +kernel, of_ok (by decide +kernel)⟩, ⟨wProgOf [] 0, wCyc, 2, 1, 0x20000004, 1, le 9
    0, by decide +kernel, by decide +kernel, by decide +kernel, by decide +kernel⟩, ⟨0, 0x20000004,
    by decide +kernel, by decide +kernel⟩, ⟨wProgOf [] 0, wCyc, 1, 0x60000004, by decide +kernel, by decide +kernel,
    by decide +kernel⟩, ⟨1000, ⟨9, 1, false, false, false⟩, by decide +kernel, by decide +kernel⟩, ⟨1000, ⟨9, 1,
    true, true, false⟩, by decide +kernel, by decide +kernel⟩, ⟨⟨1000, 1, true, false, true⟩, by decide +kernel,
    by decide +kernel⟩, ⟨⟨1000, 1, false, true, true⟩, by decide +kernel, by decide +kernel⟩, ⟨⟨1000, 1, true, true,
    true⟩, by decide +kernel⟩, ⟨0, by decide +kernel⟩, ⟨2, by decide +kernel⟩, ⟨le 8 0 ++ le 1 2, by decide +kernel,
    by decide +kernel⟩⟩

/-- The hypotheses of Obligations.CyclesRun can be met, clause by clause. -/
theorem witness_CyclesRun :
  (∃ (c : Nat) (rd : Nat) (v : Nat) (pc : Nat) (len : Nat) (i : Rv) (y : Cycle) (ws : List (Nat × List Byte)) (s :
    State), ((coreOf s.dev c).cyc = some y) ∧ (y.ended = false) ∧ (fetchInstr (progOf s.dev y.prog) y = .ok (i,
    len)) ∧ (isFb i = false) ∧ (cpuExec (progOf s.dev y.prog) y (coreOf s.dev c) i len = .ok rd v pc ws)) ∧
  (∃ (c : Nat) (s : State), ((coreOf s.dev c).cyc = none)) ∧
  (∃ (c : Nat) (cause : Nat) (y : Cycle) (s : State), ((coreOf s.dev c).cyc = some y) ∧ (y.ended = false) ∧
    (fetchInstr (progOf s.dev y.prog) y = .error cause)) ∧
  (∃ (c : Nat) (cause : Nat) (len : Nat) (i : Rv) (y : Cycle) (s : State), ((coreOf s.dev c).cyc = some y) ∧
    (y.ended = false) ∧ (fetchInstr (progOf s.dev y.prog) y = .ok (i, len)) ∧ (cpuExec (progOf s.dev y.prog) y
    (coreOf s.dev c) i len = .fault cause)) ∧
  (∃ (c : Nat) (y : Cycle) (b : List Byte) (s : State), ((coreOf s.dev c).cyc = some y) ∧ (y.ended = false) ∧ (recAt
    s.dev 0x04 1 y.prog y.start = some b) ∧ (nowS s.dev < y.release + usT (fld 12 4 b))) ∧
  (∃ (c : Nat) (y : Cycle) (b : List Byte) (s : State), ((coreOf s.dev c).cyc = some y) ∧ (y.ended = false) ∧ (recAt
    s.dev 0x04 1 y.prog y.start = some b) ∧ (y.overran = false) ∧ (y.release + usT (fld 12 4 b) ≤ nowS s.dev)) ∧
  (∃ (c : Nat) (y : Cycle) (b : List Byte) (s : State), ((coreOf s.dev c).cyc = some y) ∧ (y.ended = false) ∧ (recAt
    s.dev 0x04 1 y.prog y.start = some b) ∧ (y.release + usT (fld 16 4 b) ≤ nowS s.dev)) ∧
  (∃ (c : Nat) (y : Cycle) (b : List Byte) (s : State), ((coreOf s.dev c).cyc = some y) ∧ (y.ended = true) ∧ (recAt
    s.dev 0x04 1 y.prog y.start = some b)) ∧
  (∃ (c : Nat) (slot : Nat) (release : STime) (rest : List (STime × Nat)) (s : State), (tget s.dev.dpt.coreReady c
    [] = (release, slot) :: rest) ∧ ((coreOf s.dev c).cyc = none) ∧ (s.dev.cfg.mode = .running) ∧ (s.dev.dpt.run =
    true) ∧ (c < envCores (envelope s.dev)) ∧ (bit c s.dev.pgm.lost = false) ∧ ((progOf s.dev (programOf s.dev
    slot)).mode = .idle)) ∧
  (∃ (c : Nat) (s : State), (tget s.dev.dpt.coreReady c [] = [] ∨ s.dev.cfg.mode ≠ .running ∨ envCores (envelope
    s.dev) ≤ c)) ∧
  (∃ (g : Prog) (k : Core) (a : Nat) (imm : Int), (wrapInt 32 (xreg k a + imm) % 4 = 0) ∧ (0x20000000 ≤ wrapInt 32
    (xreg k a + imm)) ∧ (wrapInt 32 (xreg k a + imm) + 4 ≤ 0x20000000 + imgInstSize g.image)) :=
  ⟨⟨7, 3, 0xABCDE000, 4, 4, .lui 3 0xABCDE000, wCyc, [], wCore (le 4 0xABCDE1B7) 0 256000, by decide +kernel,
    by decide +kernel, of_ok (by decide +kernel), by decide +kernel, by decide +kernel⟩, ⟨0, wRun,
    by decide +kernel⟩, ⟨7, 1, wCyc, wCore (le 4 0) 0 256000, by decide +kernel, by decide +kernel, of_error
    (by decide +kernel)⟩, ⟨7, 4, 4, .trap, wCyc, wCore (le 4 0x73) 0 256000, by decide +kernel, by decide +kernel,
    of_ok (by decide +kernel), by decide +kernel⟩, ⟨7, wCyc, wPgmRec,
    { dev := { (wCore (le 4 0x73) 0 256000).dev with pgm.run := true } }, by decide +kernel, by decide +kernel,
    by decide +kernel, by decide +kernel⟩, ⟨7, wCyc, wPgmRec, wCore (le 4 0x73) 0 (2 ^ 70), by decide +kernel,
    by decide +kernel, by decide +kernel, by decide +kernel, by decide +kernel⟩, ⟨7, wCyc, wPgmRec, wCore (le 4
    0x73) 0 (2 ^ 70), by decide +kernel, by decide +kernel, by decide +kernel, by decide +kernel⟩, ⟨7,
    { prog := 2, release := 0, start := 0, ended := true }, padTo 32 (le 2 1 ++ le 2 9 ++ le 4 1000 ++ le 4 0 ++ le
    4 5 ++ le 4 200), wEnded (2 ^ 70), by decide +kernel, by decide +kernel, by decide +kernel⟩, ⟨0, 9, 0, [],
    wProg, by decide +kernel, by decide +kernel, by decide +kernel, by decide +kernel, by decide +kernel,
    by decide +kernel, by decide +kernel⟩, ⟨8, wProg, by decide +kernel⟩, ⟨wProgOf [] 0, coreOf (wCore [] 0 0).dev
    7, 10, 0, by decide +kernel, by decide +kernel, by decide +kernel⟩⟩

/-- The hypotheses of Obligations.ProgramsAndFallback can be met, clause by clause. -/
theorem witness_ProgramsAndFallback :
  (∃ (d : Desc) (i : List Byte) (s : State), (canStart d s.dev = true) ∧ (d.bad.filter storeSector = []) ∧
    (d.target.toNat ≤ 255) ∧ (created s.dev 0x04 1 d.target.toNat = true) ∧ (badField (imageForm d) [] d = none) ∧
    (s.dev.cfg.mode ≠ .running ∨ ((progOf s.dev d.target.toNat).mode ≠ .idle ∧ (progOf s.dev d.target.toNat).mode ≠
    .running)) ∧ (d.buf.acc = .ok) ∧ (s.dev.pai.synced = false) ∧ ((checkProgram d.target.toNat d (started d
    s.dev)).1 = .ok i)) ∧
  (∃ (d : Desc) (i : List Byte) (s : State), (canStart d s.dev = true) ∧ (d.bad.filter storeSector = []) ∧
    (d.target.toNat ≤ 255) ∧ (created s.dev 0x04 1 d.target.toNat = true) ∧ (badField (imageForm d) [] d = none) ∧
    (s.dev.cfg.mode = .running) ∧ ((progOf s.dev d.target.toNat).mode = .idle ∨ (progOf s.dev d.target.toNat).mode =
    .running) ∧ ((progOf s.dev d.target.toNat).exch = none) ∧ (d.buf.acc = .ok) ∧ (s.dev.pai.synced = false) ∧
    ((checkProgram d.target.toNat d (started d s.dev)).1 = .ok i)) ∧
  (∃ (n : Nat) (s : State), ((progOf s.dev n).exch = none)) ∧
  (∃ (n : Nat) (p : Pend) (i : List Byte) (at_ : STime) (s : State), ((progOf s.dev n).exch = some (p, i, at_)) ∧
    ((progOf s.dev n).mode = .running)) ∧
  (∃ (n : Nat) (p : Pend) (i : List Byte) (at_ : STime) (s : State), ((progOf s.dev n).exch = some (p, i, at_)) ∧
    ((progOf s.dev n).mode ≠ .running) ∧ (s.dev.pai.synced = false)) ∧
  (∃ (n : Nat) (p : Pend) (i : List Byte) (at_ : STime) (s : State), ((progOf s.dev n).exch = some (p, i, at_)) ∧
    (at_ + usT (fld 16 4 (pgmRec s.dev n)) + msT 10 ≤ nowS s.dev)) ∧
  (∃ (d : Desc) (s : State), (canStart d s.dev = true) ∧ (d.target.toNat ≤ 255) ∧ (created s.dev 0x04 1
    d.target.toNat = true) ∧ (badField { pmask := 1 } [(1 < d.p0.toNat, 24)] d = none) ∧ ((progOf s.dev
    d.target.toNat).mode = .idle ∨ (progOf s.dev d.target.toNat).mode = .running)) ∧
  (∃ (d : Desc) (s : State), (canStart d s.dev = true) ∧ (d.target.toNat ≤ 255) ∧ (created s.dev 0x04 1
    d.target.toNat = true) ∧ (badField { pmask := 1 } [(1 < d.p0.toNat, 24)] d = none) ∧ ((progOf s.dev
    d.target.toNat).mode = .fault) ∧ (pgmContinuous (pgmRec s.dev d.target.toNat) = false)) ∧
  (∃ (d : Desc) (e : Inst) (s : State), (canStart d s.dev = true) ∧ (d.target.toNat ≤ 255) ∧ (created s.dev 0x04 1
    d.target.toNat = true) ∧ ((instances (progOf s.dev d.target.toNat).image).find? (fun e => e.iid == d.p0.toNat) =
    some e) ∧ (badField { pmask := 1, bufMin := e.size, bufMax := 16777216 } [] d = none)) ∧
  (∃ (d : Desc) (s : State), (canStart d s.dev = true) ∧ (255 < d.target.toNat)) ∧
  (∃ (d : Desc) (s : State), (canStart d s.dev = true) ∧ (badField { target := false, pmask := 1 } [(64 ≤
    d.p0.toNat, 24)] d = none)) ∧
  (∃ (s : State), (nowD s.dev / usT 50 * usT 50 = s.dev.fbl.scanAt)) ∧
  (∃ (s : State), (s.dev.clk.held = none) ∧ (nowD s.dev / usT 50 * usT 50 ≠ s.dev.fbl.scanAt) ∧ (s.dev.fbl.image ≠
    []) ∧ (s.dev.fbl.next = none)) ∧
  (∃ (v : Nat), (v < 1024)) ∧
  (∃ (c : Nat) (s : State), (s.dev.clk.held = none) ∧ (fblCause s.dev = some c) ∧ (s.dev.fbl.control = false)) ∧
  (∃ (s : State), (fblCause s.dev = none ∨ s.dev.fbl.control = true)) ∧
  (∃ (d : Desc) (s : State), (canStart d s.dev = true) ∧ (d.bad.filter storeSector = []) ∧ (badField
    { imageForm d with target := false } [] d = none) ∧ (s.dev.fbl.control = false) ∧ (fblCause s.dev = none) ∧
    (d.buf.acc = .ok) ∧ (s.dev.pai.synced = false) ∧ (d.bufLen ≠ 0) ∧ (d.bufLen.toNat = d.buf.bytes.length) ∧
    (d.buf.bytes.length = fblLength d.buf.bytes) ∧ (fld 4 2 d.buf.bytes = 1) ∧ (fblHeaderOk d.buf.bytes
    d.buf.bytes.length = true) ∧ (fld 28 4 d.buf.bytes = (crc32c (crcZeroed 28 d.buf.bytes)).toNat) ∧ (appSigned
    s.dev = false) ∧ (fblFault d.buf.bytes = none)) ∧
  (∃ (d : Desc) (s : State), (canStart d s.dev = true) ∧ (badField { imageForm d with target := false } [] d = none)
    ∧ (s.dev.fbl.control = true)) ∧
  (∃ (d : Desc) (s : State), (canStart d s.dev = true) ∧ (badField
    { target := false, bufMin := 64, bufMax := 16777216 } [] d = none)) :=
  ⟨⟨{ target := 2, bufLen := 248, bufAddr := 4, buf := { bytes := wGood }, bad := [65535] }, wGood,
    { dev := { wProg.dev with pgm.progs := [] } }, by decide +kernel, by decide +kernel, by decide +kernel,
    by decide +kernel, by decide +kernel, by decide +kernel, by decide +kernel, by decide +kernel, of_ok
    (by decide +kernel)⟩, ⟨{ target := 2, bufLen := 248, bufAddr := 4, buf := { bytes := wGood }, bad := [65535] },
    wGood, wProg, by decide +kernel, by decide +kernel, by decide +kernel, by decide +kernel, by decide +kernel,
    by decide +kernel, by decide +kernel, by decide +kernel, by decide +kernel, by decide +kernel, of_ok
    (by decide +kernel)⟩, ⟨2, wProg, by decide +kernel⟩, ⟨2, wPend, wGood, 0, wExch .running, by decide +kernel,
    by decide +kernel⟩, ⟨2, wPend, wGood, 0, wExch .fault, by decide +kernel, by decide +kernel, by decide +kernel⟩,
    ⟨2, wPend, wGood, 0, wExch .idle, by decide +kernel, by decide +kernel⟩, ⟨{ target := 2, p0 := 1 }, wProg,
    by decide +kernel, by decide +kernel, by decide +kernel, by decide +kernel, by decide +kernel⟩,
    ⟨{ target := 2, p0 := 1 }, wExch .fault, by decide +kernel, by decide +kernel, by decide +kernel,
    by decide +kernel, by decide +kernel, by decide +kernel⟩, ⟨{ target := 2, p0 := 1, bufLen := 64, bufAddr := 4 },
    ⟨1, 9, 0, 64⟩, wProg, by decide +kernel, by decide +kernel, by decide +kernel, by decide +kernel,
    by decide +kernel⟩, ⟨{ target := 256 }, wRun, by decide +kernel, by decide +kernel⟩, ⟨{ p0 := 63 }, wRun,
    by decide +kernel, by decide +kernel⟩, ⟨{}, by decide +kernel⟩,
    ⟨{ dev := { tim.dome := 2 ^ 80, fbl.image := wFbl } }, by decide +kernel, by decide +kernel, by decide +kernel,
    by decide +kernel⟩, ⟨1023, by decide +kernel⟩, ⟨1, { dev := { fbl.control := false } }, by decide +kernel,
    by decide +kernel, by decide +kernel⟩, ⟨{ dev := { fbl.control := true } }, by decide +kernel⟩,
    ⟨{ bufLen := 488, bufAddr := 4, buf := { bytes := wFbl }, bad := [65535] },
    { dev := { wRun.dev with btr.linkUp := true } }, by decide +kernel, by decide +kernel, by decide +kernel,
    by decide +kernel, by decide +kernel, by decide +kernel, by decide +kernel, by decide +kernel,
    by decide +kernel, by decide +kernel, by decide +kernel, by decide +kernel, by decide +kernel,
    by decide +kernel, by decide +kernel⟩, ⟨{ bufLen := 488, bufAddr := 4 },
    { dev := { wRun.dev with fbl.control := true } }, by decide +kernel, by decide +kernel, by decide +kernel⟩,
    ⟨{ bufLen := 64, bufAddr := 4 }, wRun, by decide +kernel, by decide +kernel⟩⟩

/-- The hypotheses of Obligations.CanBuses can be met, clause by clause. -/
theorem witness_CanBuses :
  (∃ (n : Nat) (s : State), ((ctlOf s.dev n).mode = .off ∨ (ctlOf s.dev n).mode = .busOff)) ∧
  (∃ (n : Nat) (k : Nat) (f : CanRx) (s : State), ((ctlOf s.dev n).mode = .errorActive) ∧ (f.err = some k) ∧ ((ctlOf
    s.dev n).tec < 128) ∧ ((ctlOf s.dev n).rec_ + k < 128)) ∧
  (∃ (n : Nat) (f : CanRx) (s : State), ((ctlOf s.dev n).mode = .errorActive) ∧ ((ctlOf s.dev n).tec < 128) ∧
    ((ctlOf s.dev n).rec_ < 128) ∧ (f.err = none) ∧ (canFlag s.dev n 2 = false) ∧ (canFlag s.dev n 7 = false) ∧
    (canFilter s.dev n f = none)) ∧
  (∃ (n : Nat) (k : Nat) (r : List Byte) (f : CanRx) (s : State), ((ctlOf s.dev n).mode = .errorActive) ∧ ((ctlOf
    s.dev n).tec < 128) ∧ ((ctlOf s.dev n).rec_ < 128) ∧ (f.err = none) ∧ (canFlag s.dev n 2 = false) ∧ (canFilter
    s.dev n f = some k) ∧ (recAt s.dev 0x0D 3 (32 * n + k) f.at_ = some r) ∧ (bits 2 1 (fld 0 1 r) = 0)) ∧
  (∃ (n : Nat) (k : Nat) (r : List Byte) (f : CanRx) (s : State), ((ctlOf s.dev n).mode = .errorActive) ∧ ((ctlOf
    s.dev n).tec < 128) ∧ ((ctlOf s.dev n).rec_ < 128) ∧ (f.err = none) ∧ (canFlag s.dev n 2 = false) ∧ (canFilter
    s.dev n f = some k) ∧ (recAt s.dev 0x0D 3 (32 * n + k) f.at_ = some r) ∧ (bits 2 1 (fld 0 1 r) = 1)) ∧
  (∃ (n : Nat) (k : Nat) (r : List Byte) (f : CanRx) (s : State), ((ctlOf s.dev n).mode = .errorActive) ∧ ((ctlOf
    s.dev n).tec < 128) ∧ ((ctlOf s.dev n).rec_ < 128) ∧ (f.err = none) ∧ (canFlag s.dev n 2 = false) ∧ (canFilter
    s.dev n f = some k) ∧ (recAt s.dev 0x0D 3 (32 * n + k) f.at_ = some r) ∧ (bits 2 1 (fld 0 1 r) = 2)) ∧
  (∃ (n : Nat) (k : Nat) (r : List Byte) (f : CanRx) (s : State), ((ctlOf s.dev n).mode = .errorActive) ∧ ((ctlOf
    s.dev n).tec < 128) ∧ ((ctlOf s.dev n).rec_ < 128) ∧ (f.err = none) ∧ (canFlag s.dev n 2 = false) ∧ (canFilter
    s.dev n f = some k) ∧ (recAt s.dev 0x0D 3 (32 * n + k) f.at_ = some r) ∧ (bits 2 1 (fld 0 1 r) = 3)) ∧
  (∃ (n : Nat) (b : Nat) (f : CanFrame) (s : State), (canPick s.dev n = some (b, f)) ∧ (canLive (ctlOf s.dev n) =
    true) ∧ ((ctlOf s.dev n).sending = none) ∧ ((ctlOf s.dev n).modeReq = none) ∧ (canDrives s.dev n = true)) ∧
  (∃ (n : Nat) (b : Nat) (k : Nat) (f : CanFrame) (g : CanFrame) (s : Device), (canPick s n = some (b, f)) ∧ (k <
    16) ∧ (canCandidate s n k = some g)) ∧
  (∃ (n : Nat) (s : State), (canPick s.dev n = none ∨ (ctlOf s.dev n).sending.isSome = true ∨ s.dev.pai.standby =
    true)) ∧
  (∃ (n : Nat) (b : Nat) (s : State), ((ctlOf s.dev n).sending = some b) ∧ (b < 15) ∧ ((ctlOf s.dev n).aborts = [])
    ∧ ((ctlOf s.dev n).mode = .errorActive) ∧ ((ctlOf s.dev n).tec < 128) ∧ ((ctlOf s.dev n).rec_ < 128)) ∧
  (∃ (n : Nat) (b : Nat) (s : State), ((ctlOf s.dev n).sending = some b) ∧ (b < 15) ∧ ((ctlOf s.dev n).aborts = [])
    ∧ (bufMode s.dev n b ≠ 2) ∧ (canStops s.dev n b = false) ∧ ((ctlOf s.dev n).mode = .errorActive) ∧ ((ctlOf s.dev
    n).tec < 128) ∧ ((ctlOf s.dev n).rec_ < 128)) ∧
  (∃ (n : Nat) (b : Nat) (s : State), ((ctlOf s.dev n).sending = some b) ∧ (b < 15) ∧ (bufMode s.dev n b = 2) ∧
    ((ctlOf s.dev n).aborts = []) ∧ ((ctlOf s.dev n).mode = .errorActive) ∧ ((ctlOf s.dev n).tec < 120) ∧ ((ctlOf
    s.dev n).rec_ < 128)) ∧
  (∃ (n : Nat) (s : State), ((ctlOf s.dev n).sending = none)) ∧
  (∃ (n : Nat) (b : Nat) (t : STime) (s : State), (canFiring (bufRec s.dev n b) (nowD s.dev) = some t) ∧ (b ≤ 14) ∧
    (bufMode s.dev n b = 1) ∧ (t ≠ (canBuf s.dev n b).fired) ∧ (created s.dev 0x0D 2 (16 * n + b) = true) ∧ ((canBuf
    s.dev n b).data.isSome = true) ∧ (canLive (ctlOf s.dev n) = true)) ∧
  (∃ (n : Nat) (b : Nat) (s : State), (bufMode s.dev n b ≠ 1 ∨ canFiring (bufRec s.dev n b) (nowD s.dev) = none)) ∧
  (∃ (n : Nat) (b : Nat) (t : STime) (s : State), ((if b = 15 then (ctlOf s.dev n).queue.head?.map (·.launch) else
    if bufMode s.dev n b = 1 then (canBuf s.dev n b).pend else none) = some t) ∧ (t ≠ 0) ∧ (t + msT 1 ≤ nowD s.dev)
    ∧ ((canBuf s.dev n b).started = false)) ∧
  (∃ (n : Nat) (s : State), ((ctlOf s.dev n).mode = .busOff) ∧ (canFlag s.dev n 5 = true ∨ (ctlOf s.dev
    n).recovering = true)) ∧
  (∃ (n : Nat) (s : State), ((ctlOf s.dev n).mode ≠ .busOff ∨ (canFlag s.dev n 5 = false ∧ (ctlOf s.dev
    n).recovering = false))) ∧
  (∃ (n : Nat) (s : State), (canFlag s.dev n 2 = true) ∧ (canFlag s.dev n 3 = true) ∧ (canLive (ctlOf s.dev n) =
    true) ∧ ((ctlOf s.dev n).sending = none) ∧ (nsT (fld 24 4 (canRec s.dev n)) ≠ 0) ∧ (nsT (fld 28 4 (canRec s.dev
    n)) ≤ nowD s.dev) ∧ (s.dev.pai.standby = false) ∧ ((ctlOf s.dev n).ttCycle ≠ some ((nowD s.dev - nsT (fld 28 4
    (canRec s.dev n))) / nsT (fld 24 4 (canRec s.dev n))))) ∧
  (∃ (n : Nat) (s : State), (canFlag s.dev n 2 = false ∨ canFlag s.dev n 3 = false)) ∧
  (∃ (n : Nat) (t : STime) (s : State), ((ctlOf s.dev n).refFrom = some t) ∧ (canFlag s.dev n 2 = true) ∧ (canFlag
    s.dev n 3 = false) ∧ ((ctlOf s.dev n).mode ≠ .off) ∧ (t + 2 * nsT (fld 24 4 (canRec s.dev n)) ≤ nowD s.dev)) ∧
  (∃ (n : Nat) (s : State), ((ctlOf s.dev n).refFrom = none)) ∧
  (∃ (n : Nat) (b : Nat) (s : State), (b ≤ 14) ∧ (bufMode s.dev n b = 2) ∧ (created s.dev 0x0D 2 (16 * n + b) =
    true) ∧ ((canBuf s.dev n b).pend = none) ∧ ((ctlOf s.dev n).synced = true) ∧ ((canBuf s.dev n b).served ≠ some
    (ctlOf s.dev n).ttRef) ∧ ((ctlOf s.dev n).ttRef + usT (fld 28 2 (bufRec s.dev n b)) ≤ nowD s.dev) ∧ ((ctlOf
    s.dev n).ttCount % max 1 (fld 25 1 (bufRec s.dev n b)) = fld 24 1 (bufRec s.dev n b)) ∧ ((canBuf s.dev n
    b).data.isSome = true) ∧ ((ctlOf s.dev n).mode ≠ .off) ∧ ((ctlOf s.dev n).mode ≠ .listenOnly)) ∧
  (∃ (n : Nat) (b : Nat) (t : STime) (s : State), (b ≤ 14) ∧ (bufMode s.dev n b = 2) ∧ (created s.dev 0x0D 2 (16 * n
    + b) = true) ∧ ((canBuf s.dev n b).pend = some t) ∧ (bit 3 (fld 0 1 (bufRec s.dev n b)) = false) ∧ (t + usT (fld
    30 2 (bufRec s.dev n b)) < nowD s.dev) ∧ ((ctlOf s.dev n).sending ≠ some b)) ∧
  (∃ (s : State), (s.dev.clk.held = none)) ∧
  (∃ (n : Nat) (s : State), (canPermitted s.dev n = true) ∧ ((ctlOf s.dev n).mode = .off) ∧ ((ctlOf s.dev n).sending
    = none)) ∧
  (∃ (n : Nat) (s : State), (canPermitted s.dev n = false) ∧ ((ctlOf s.dev n).mode ≠ .off) ∧ ((ctlOf s.dev
    n).modeReq = none) ∧ ((ctlOf s.dev n).sending = none)) ∧
  (∃ (n : Nat) (listen : Bool) (p : Pend) (s : State), (canPermitted s.dev n = true) ∧ ((ctlOf s.dev n).mode =
    .errorActive) ∧ ((ctlOf s.dev n).sending = none) ∧ (s.dev.pai.standby = false) ∧ ((ctlOf s.dev n).modeReq = some
    (listen, some p))) ∧
  (∃ (d : Desc) (s : State), (canStart d s.dev = true) ∧ (d.target.toNat ≤ 127) ∧ (d.target.toNat % 16 ≠ 15) ∧
    (created s.dev 0x0D 2 d.target.toNat = true) ∧ (bufMode s.dev (d.target.toNat / 16) (d.target.toNat % 16) = 0) ∧
    ((canBuf s.dev (d.target.toNat / 16) (d.target.toNat % 16)).pend = none) ∧ (canLive (ctlOf s.dev (d.target.toNat
    / 16)) = true) ∧ (d.buf.acc = .ok) ∧ (badField
    { bufMin := dlcBytes (fld 4 4 (recNow s.dev 0x0D 2 d.target.toNat)) (fld 8 1 (recNow s.dev 0x0D 2 d.target.toNat)), bufMax := dlcBytes (fld 4 4 (recNow s.dev 0x0D 2 d.target.toNat)) (fld 8 1 (recNow s.dev 0x0D 2 d.target.toNat)) }
    [] d = none)) ∧
  (∃ (d : Desc) (s : State), (canStart d s.dev = true) ∧ (d.target.toNat ≤ 127) ∧ (d.target.toNat % 16 ≠ 15) ∧
    (created s.dev 0x0D 2 d.target.toNat = true) ∧ (bufMode s.dev (d.target.toNat / 16) (d.target.toNat % 16) ≠ 0) ∧
    (canLive (ctlOf s.dev (d.target.toNat / 16)) = true) ∧ (d.buf.acc = .ok) ∧ (badField
    { bufMin := (dlcBytes (fld 4 4 (recNow s.dev 0x0D 2 d.target.toNat)) (fld 8 1 (recNow s.dev 0x0D 2 d.target.toNat))), bufMax := (dlcBytes (fld 4 4 (recNow s.dev 0x0D 2 d.target.toNat)) (fld 8 1 (recNow s.dev 0x0D 2 d.target.toNat))) }
    [] d = none)) ∧
  (∃ (d : Desc) (s : State), (canStart d s.dev = true) ∧ (d.target.toNat ≤ 127) ∧ (d.target.toNat % 16 ≠ 15) ∧
    (created s.dev 0x0D 1 (d.target.toNat / 16) = true) ∧ (created s.dev 0x0D 2 d.target.toNat = true) ∧ (badField
    plain [] d = none) ∧ ((canBuf s.dev (d.target.toNat / 16) (d.target.toNat % 16)).pend.isSome = true) ∧ ((ctlOf
    s.dev (d.target.toNat / 16)).sending ≠ some (d.target.toNat % 16))) ∧
  (∃ (d : Desc) (s : State), (canStart d s.dev = true) ∧ (d.target.toNat ≤ 127) ∧ (d.target.toNat % 16 ≠ 15) ∧
    (created s.dev 0x0D 1 (d.target.toNat / 16) = true) ∧ (created s.dev 0x0D 2 d.target.toNat = true) ∧ (badField
    plain [] d = none) ∧ ((canBuf s.dev (d.target.toNat / 16) (d.target.toNat % 16)).pend.isSome = true) ∧ ((ctlOf
    s.dev (d.target.toNat / 16)).sending = some (d.target.toNat % 16))) ∧
  (∃ (d : Desc) (s : State), (canStart d s.dev = true) ∧ (d.target.toNat ≤ 7) ∧ (badField plain [] d = none) ∧
    ((ctlOf s.dev d.target.toNat).mode = .busOff)) ∧
  (∃ (d : Desc) (s : State), (canStart d s.dev = true) ∧ (d.target.toNat ≤ 7) ∧ (badField plain [] d = none) ∧
    ((ctlOf s.dev d.target.toNat).mode ≠ .busOff)) ∧
  (∃ (d : Desc) (s : State), (canStart d s.dev = true) ∧ (d.target.toNat ≤ 7) ∧ (badField { pmask := 1 } [(1 <
    d.p0.toNat, 24)] d = none) ∧ ((ctlOf s.dev d.target.toNat).mode ≠ .off) ∧ (s.dev.pai.standby = false) ∧ ((ctlOf
    s.dev d.target.toNat).modeReq = none)) ∧
  (∃ (d : Desc) (s : State), (canStart d s.dev = true) ∧ (d.target.toNat ≤ 7) ∧ (badField { pmask := 1 } [(512 ≤
    d.p0.toNat, 24)] d = none)) ∧
  (∃ (d : Desc) (s : State), (canStart d s.dev = true) ∧ (128 ≤ d.target.toNat)) :=
  ⟨⟨8, wRun, by decide +kernel⟩, ⟨7, 8, { err := some 8 }, wCan 1 { mode := .errorActive }, by decide +kernel,
    by decide +kernel, by decide +kernel, by decide +kernel⟩, ⟨7, { id := 4, ctl := 1, data := [1] }, wCan 1
    { mode := .errorActive, rec_ := 3 }, by decide +kernel, by decide +kernel, by decide +kernel, by decide +kernel,
    by decide +kernel, by decide +kernel, by decide +kernel⟩, ⟨7, 31, le 1 1 ++ le 3 0 ++ le 4 5 ++ le 4 0x1FFFFFFF
    ++ le 4 0, { id := 5, ctl := 1, data := [1] }, wCan 1 { mode := .errorActive }, by decide +kernel,
    by decide +kernel, by decide +kernel, by decide +kernel, by decide +kernel, by decide +kernel,
    by decide +kernel, by decide +kernel⟩, ⟨7, 31, le 1 3 ++ le 3 0 ++ le 4 5 ++ le 4 0x1FFFFFFF ++ le 4 0,
    { id := 5, ctl := 1, data := [1] }, wCanRx 3, by decide +kernel, by decide +kernel, by decide +kernel,
    by decide +kernel, by decide +kernel, by decide +kernel, by decide +kernel, by decide +kernel⟩, ⟨7, 31, le 1 5
    ++ le 3 0 ++ le 4 5 ++ le 4 0x1FFFFFFF ++ le 4 0, { id := 5, ctl := 1, data := [1] }, wCanRx 5,
    by decide +kernel, by decide +kernel, by decide +kernel, by decide +kernel, by decide +kernel,
    by decide +kernel, by decide +kernel, by decide +kernel⟩, ⟨7, 31, le 1 7 ++ le 3 0 ++ le 4 5 ++ le 4 0x1FFFFFFF
    ++ le 4 0, { id := 5, ctl := 1, data := [1] }, wCanRx 7, by decide +kernel, by decide +kernel,
    by decide +kernel, by decide +kernel, by decide +kernel, by decide +kernel, by decide +kernel,
    by decide +kernel⟩, ⟨7, 12, { id := 0, ctl := 1, data := [1] }, wCan 1
    { mode := .errorActive, bufs := wBufs (fun b => if b = 12 then some 0 else none) }, by decide +kernel,
    by decide +kernel, by decide +kernel, by decide +kernel, by decide +kernel⟩, ⟨7, 12, 14,
    { id := 0, ctl := 1, data := [1] }, { id := 0, ctl := 0, data := [1] }, (wCan 1
    { mode := .errorActive, bufs := wBufs (fun _ => some 0) }).dev, by decide +kernel, by decide +kernel,
    by decide +kernel⟩, ⟨7, wCan 1 {}, by decide +kernel⟩, ⟨7, 14, wCan 1
    { mode := .errorActive, tec := 9, sending := some 14, bufs := wBufs some }, by decide +kernel,
    by decide +kernel, by decide +kernel, by decide +kernel, by decide +kernel, by decide +kernel⟩, ⟨7, 12, wCan 1
    { mode := .errorActive, sending := some 12, bufs := wBufs some }, by decide +kernel, by decide +kernel,
    by decide +kernel, by decide +kernel, by decide +kernel, by decide +kernel, by decide +kernel,
    by decide +kernel⟩, ⟨7, 13, wCan 1 { mode := .errorActive, sending := some 13, bufs := wBufs some },
    by decide +kernel, by decide +kernel, by decide +kernel, by decide +kernel, by decide +kernel,
    by decide +kernel, by decide +kernel⟩, ⟨7, wCan 1 {}, by decide +kernel⟩, ⟨7, 14, nowD (wCan 1 {}).dev / 256000
    * 256000, wCan 1 { mode := .errorActive, bufs := wBufs (fun _ => none) }, by decide +kernel, by decide +kernel,
    by decide +kernel, by decide +kernel, by decide +kernel, by decide +kernel, by decide +kernel⟩, ⟨7, 12, wCan 1
    {}, by decide +kernel⟩, ⟨7, 15, 256, wCan 1
    { mode := .errorActive, queue := [{ launch := 256, id := 1, ctl := 0, data := [] }] }, by decide +kernel,
    by decide +kernel, by decide +kernel, by decide +kernel⟩, ⟨7, wCan 1
    { mode := .busOff, tec := 256, recovering := true }, by decide +kernel, by decide +kernel⟩, ⟨7, wCan 1
    { mode := .busOff }, by decide +kernel⟩, ⟨7, wCan 13 { mode := .errorActive }, by decide +kernel,
    by decide +kernel, by decide +kernel, by decide +kernel, by decide +kernel, by decide +kernel,
    by decide +kernel, by decide +kernel⟩, ⟨7, wCan 1 {}, by decide +kernel⟩, ⟨7, 5, wCan 5
    { mode := .listenOnly, refFrom := some 5 }, by decide +kernel, by decide +kernel, by decide +kernel,
    by decide +kernel, by decide +kernel⟩, ⟨7, wCan 5 {}, by decide +kernel⟩, ⟨7, 13, wCan 5
    { mode := .busOff, synced := true, bufs := wBufs (fun _ => none) }, by decide +kernel, by decide +kernel,
    by decide +kernel, by decide +kernel, by decide +kernel, by decide +kernel, by decide +kernel,
    by decide +kernel, by decide +kernel, by decide +kernel, by decide +kernel⟩, ⟨7, 13, 13, wCan 5
    { synced := true, bufs := wBufs some }, by decide +kernel, by decide +kernel, by decide +kernel,
    by decide +kernel, by decide +kernel, by decide +kernel, by decide +kernel⟩, ⟨wRun, by decide +kernel⟩, ⟨7, wCan
    1 {}, by decide +kernel, by decide +kernel, by decide +kernel⟩, ⟨7, wCan 0 { mode := .errorPassive },
    by decide +kernel, by decide +kernel, by decide +kernel, by decide +kernel⟩, ⟨7, true, wPend, wCan 1
    { mode := .errorActive, modeReq := some (true, some wPend) }, by decide +kernel, by decide +kernel,
    by decide +kernel, by decide +kernel, by decide +kernel⟩,
    ⟨{ target := 124, bufLen := 1, bufAddr := 4, buf := { bytes := [5] } }, wCan 1 { mode := .errorActive },
    by decide +kernel, by decide +kernel, by decide +kernel, by decide +kernel, by decide +kernel,
    by decide +kernel, by decide +kernel, by decide +kernel, by decide +kernel⟩, ⟨{ target := 126 }, wCan 1
    { mode := .errorActive }, by decide +kernel, by decide +kernel, by decide +kernel, by decide +kernel,
    by decide +kernel, by decide +kernel, by decide +kernel, by decide +kernel⟩, ⟨{ target := 126 }, wCan 1
    { mode := .errorActive, bufs := wBufs some }, by decide +kernel, by decide +kernel, by decide +kernel,
    by decide +kernel, by decide +kernel, by decide +kernel, by decide +kernel, by decide +kernel⟩,
    ⟨{ target := 126 }, wCan 1 { mode := .errorActive, sending := some 14, bufs := wBufs some }, by decide +kernel,
    by decide +kernel, by decide +kernel, by decide +kernel, by decide +kernel, by decide +kernel,
    by decide +kernel, by decide +kernel⟩, ⟨{ target := 7 }, wCan 1 { mode := .busOff }, by decide +kernel,
    by decide +kernel, by decide +kernel, by decide +kernel⟩, ⟨{ target := 7 }, wCan 1 {}, by decide +kernel,
    by decide +kernel, by decide +kernel, by decide +kernel⟩, ⟨{ target := 7, p0 := 1 }, wCan 1
    { mode := .errorActive }, by decide +kernel, by decide +kernel, by decide +kernel, by decide +kernel,
    by decide +kernel, by decide +kernel⟩, ⟨{ target := 7, p0 := 511 }, wCan 1 { txFr := 3 }, by decide +kernel,
    by decide +kernel, by decide +kernel⟩, ⟨{ target := 128 }, wRun, by decide +kernel, by decide +kernel⟩⟩

/-- The hypotheses of Obligations.BelfryActs can be met, clause by clause. -/
theorem witness_BelfryActs :
  (∃ (b : Bool) (t : Nat) (s : State), ((safChan s.dev b).sampledAt = some t) ∧ (s.dev.tim.ck < t + 49000)) ∧
  (∃ (b : Bool) (s : State), ((safChan s.dev b).sampledAt = none)) ∧
  (∃ (n : Nat) (levels : Nat) (t : Nat) (k : SafChan), (bit n levels ≠ bit n k.acc) ∧ (tfind k.since n = some t)) ∧
  (∃ (n : Nat) (levels : Nat) (k : SafChan), (bit n levels ≠ bit n k.acc) ∧ (tfind k.since n = none)) ∧
  (∃ (n : Nat) (s : State), (tfind s.dev.saf.discAt n = none)) ∧
  (∃ (n : Nat) (t : Nat) (s : State), (tfind s.dev.saf.discAt n = some t) ∧ (bit n s.dev.saf.disc = false) ∧ (t +
    fld 4 2 (scIn s.dev.saf.cfg n) * 1000000 < s.dev.tim.ck)) ∧
  (∃ (s : State), (s.dev.saf.mode = .init ∨ s.dev.saf.mode = .safeFault)) ∧
  (∃ (b : Bool) (s : State), (safLive s.dev = true) ∧ (chanOut s.dev b = false) ∧ ((safChan s.dev b).cycleAt =
    none)) ∧
  (∃ (b : Bool) (t : Nat) (s : State), (safLive s.dev = true) ∧ (chanOut s.dev b = false) ∧ ((safChan s.dev
    b).cycleAt = some t) ∧ (t + 980000 ≤ s.dev.tim.ck)) ∧
  (∃ (s : Device), (safLive s = false)) ∧
  (∃ (s : Device), (safLive s = true) ∧ (s.pai.standby = false)) ∧
  (∃ (s : Device) (b : Bool) (f : Nat), (fnType (safChan s b).cfg f ≠ 3)) ∧
  (∃ (n : Nat) (low : Bool) (s : State), (tfind s.dev.saf.pulseAt (2 * n + flag 0 low) = none)) ∧
  (∃ (n : Nat) (t : Nat) (low : Bool) (s : State), (n ≤ 7) ∧ (tfind s.dev.saf.pulseAt (2 * n + flag 0 low) = some t)
    ∧ (bit n s.dev.saf.energised = true) ∧ (t + fld 6 2 (scOut s.dev.saf.cfg n) * 1000000 ≤ s.dev.tim.ck)) ∧
  (∃ (n : Nat) (low : Bool) (s : State), (n ≤ 7) ∧ (safLive s.dev = true) ∧ (pulseDue s.dev n low = false) ∧ (outOn
    s.dev.saf.cfg n = true) ∧ (bit n s.dev.saf.outFault = false) ∧ (bit n (safChan s.dev low).fb ≠ bit n (safChan
    s.dev low).gates) ∧ (tget (safChan s.dev low).changed n 0 + fld 2 2 (scOut s.dev.saf.cfg n) * 1000 <
    s.dev.tim.ck)) ∧
  (∃ (n : Nat) (low : Bool) (s : State), (bit n (safChan s.dev low).fb = bit n (safChan s.dev low).gates)) ∧
  (∃ (s : State), (s.dev.saf.mode = .run)) ∧
  (∃ (s : State), (s.dev.saf.mode = .run) ∧ (inDemandNow s.dev true = false)) ∧
  (∃ (s : State), (s.dev.saf.mode = .degradedA ∨ s.dev.saf.mode = .degradedB)) ∧
  (∃ (s : State), (s.dev.saf.mode = .degradedA ∨ s.dev.saf.mode = .degradedB) ∧ (s.dev.saf.degUntil ≤ s.dev.tim.ck)) ∧
  (∃ (s : State), (s.dev.saf.mode ≠ .degradedA ∧ s.dev.saf.mode ≠ .degradedB)) ∧
  (∃ (s : State), (s.dev.saf.mode = .init) ∧ ((tfind s.dev.sec.boot 2).isSome = true) ∧ ((tfind s.dev.sec.boot
    3).isSome = true)) ∧
  (∃ (s : State), (safLive s.dev = false ∨ s.dev.pai.standby = true ∨ s.dev.btr.linkUp = false)) ∧
  (∃ (p : Nat) (s : State), (bit 0 (fld 0 1 (scProd s.dev.saf.cfg p)) = true) ∧ (safLive s.dev = true) ∧
    (s.dev.pai.standby = false) ∧ (s.dev.btr.spireUp = true) ∧ (s.dev.btr.linkUp = true) ∧ ((tget s.dev.saf.prods p
    {}).sentAt = none)) ∧
  (∃ (s : State), (s.dev.saf.rx = [])) ∧
  (∃ (b : List Byte), (fld 0 1 b = 0x11)) ∧
  (∃ (k : Nat) (b : List Byte) (s : Device), (fld 0 1 b = 0x11) ∧ (fld 24 4 b = (crc32c (b.take 24)).toNat) ∧ (fld
    28 4 b = (crc32e (b.take 24)).toNat) ∧ ((consOf s k).last = none)) ∧
  (∃ (f : RxFrame) (rest : List RxFrame) (s : State), (s.dev.saf.rx = f :: rest) ∧ (f.port / 2 * 2 ≠ scPort
    s.dev.saf.cfg)) ∧
  (∃ (k : Nat) (f : RxFrame) (rest : List RxFrame) (s : State), (s.dev.saf.rx = f :: rest) ∧ (f.port / 2 * 2 =
    scPort s.dev.saf.cfg) ∧ (s.dev.saf.cfg ≠ []) ∧ ((List.range 16).find? (fun k => (consOf s.dev k).mode != .off &&
    fld 2 4 (scCons s.dev.saf.cfg k) == fld 2 4 ((f.bytes.drop (bodyAt f.bytes)).take 32) && ((scCons s.dev.saf.cfg
    k).drop 8).take 6 == f.bytes.take 6) = some k)) ∧
  (∃ (k : Nat) (s : State), ((consOf s.dev k).mode = .dual ∨ (consOf s.dev k).mode = .single) ∧ (lanSilent s.dev k
    false = true) ∧ (lanSilent s.dev k true = true)) ∧
  (∃ (k : Nat) (s : State), ((consOf s.dev k).mode = .dual) ∧ (lanSilent s.dev k false = false) ∧ (lanSilent s.dev k
    true = true)) ∧
  (∃ (k : Nat) (s : State), (lanSilent s.dev k false = false) ∧ (lanSilent s.dev k true = false)) ∧
  (∃ (k : Nat) (s : State), ((consOf s.dev k).mode = .single) ∧ ((consOf s.dev k).singleAt + scTDeg s.dev.saf.cfg *
    1000000000 ≤ s.dev.tim.ck)) ∧
  (∃ (k : Nat) (s : State), ((consOf s.dev k).mode ≠ .single)) :=
  ⟨⟨true, 9, wSaf .run 9, by decide +kernel, by decide +kernel⟩, ⟨true, wRun, by decide +kernel⟩, ⟨0, 1, 0,
    { since := [(0, 0)] }, by decide +kernel, by decide +kernel⟩, ⟨15, 32768, {}, by decide +kernel,
    by decide +kernel⟩, ⟨15, wRun, by decide +kernel⟩, ⟨0, 0,
    { dev := { (wSaf .run 10000001).dev with saf.discAt := [(0, 0)] } }, by decide +kernel, by decide +kernel,
    by decide +kernel⟩, ⟨wSaf .safeFault 0, by decide +kernel⟩, ⟨false, wSaf .run 5, by decide +kernel,
    by decide +kernel, by decide +kernel⟩, ⟨true, 0,
    { dev := { (wSaf .degradedB 980000).dev with saf.b := { cycleAt := some 0 } } }, by decide +kernel,
    by decide +kernel, by decide +kernel, by decide +kernel⟩, ⟨(wSaf .unconfigured 0).dev, by decide +kernel⟩,
    ⟨(wSafOn 0).dev, by decide +kernel, by decide +kernel⟩, ⟨(wSaf .run 0).dev, false, 31, by decide +kernel⟩, ⟨7,
    true, wRun, by decide +kernel⟩, ⟨7, 0, true, wSafOn 100000000, by decide +kernel, by decide +kernel,
    by decide +kernel, by decide +kernel⟩, ⟨7, false, wSafOn 50001, by decide +kernel, by decide +kernel,
    by decide +kernel, by decide +kernel, by decide +kernel, by decide +kernel, by decide +kernel⟩, ⟨7, false, wRun,
    by decide +kernel⟩, ⟨wSafOn 0, by decide +kernel⟩, ⟨wSafOn 0, by decide +kernel, by decide +kernel⟩, ⟨wSaf
    .degradedA 0, by decide +kernel⟩, ⟨wSaf .degradedA 0, by decide +kernel, by decide +kernel⟩, ⟨wSaf .run 0,
    by decide +kernel⟩, ⟨{ dev := { sec.boot := [(2, {}), (3, {})] } }, by decide +kernel, by decide +kernel,
    by decide +kernel⟩, ⟨wSaf .run 0, by decide +kernel⟩, ⟨15, wCons .off 0, by decide +kernel, by decide +kernel,
    by decide +kernel, by decide +kernel, by decide +kernel, by decide +kernel⟩, ⟨wRun, by decide +kernel⟩, ⟨le 32
    0x11, by decide +kernel⟩, ⟨15, wSafePay, (wCons .dual 0).dev, by decide +kernel, by decide +kernel,
    by decide +kernel, by decide +kernel⟩, ⟨{ (wSafeRx []) with port := 2 }, [],
    { dev := { (wCons .dual 0).dev with saf.rx := [{ (wSafeRx []) with port := 2 }] } }, by decide +kernel,
    by decide +kernel⟩, ⟨15, wSafeRx wSafePay, [],
    { dev := { (wCons .dual 0).dev with saf.rx := [wSafeRx wSafePay] } }, by decide +kernel, by decide +kernel,
    by decide +kernel, by decide +kernel⟩, ⟨15, wCons .dual 2000000, by decide +kernel, by decide +kernel,
    by decide +kernel⟩, ⟨15,
    { dev := { (wSaf .run 2000000).dev with saf.cons := [(15, { mode := .dual, seenA := some 9 })] } },
    by decide +kernel, by decide +kernel, by decide +kernel⟩, ⟨15, wCons .dual 0, by decide +kernel,
    by decide +kernel⟩, ⟨15, wCons .single 1000000000, by decide +kernel, by decide +kernel⟩, ⟨15, wCons .dual 0,
    by decide +kernel⟩⟩

/-- The hypotheses of Obligations.BelfryCommands can be met, clause by clause. -/
theorem witness_BelfryCommands :
  (∃ (s : State), (s.dev.saf.pend = none)) ∧
  (∃ (c : List Byte) (t : Nat) (s : State), (s.dev.saf.pend = some (c, t))) ∧
  (∃ (d : Desc) (s : State), (canStart d s.dev = true) ∧ (d.bad.filter storeSector = []) ∧ (badField
    { target := false, bufMax := 16777216 } [] d = none) ∧ (needMaint (started d s.dev) = false) ∧
    (s.dev.saf.energised = 0) ∧ (s.dev.saf.mode ≠ .init ∧ s.dev.saf.mode ≠ .safeFault) ∧ (d.buf.acc = .ok) ∧
    (d.bufLen.toNat = d.buf.bytes.length) ∧ (fld 0 4 d.buf.bytes = 0x46535A4B) ∧ (fld 4 2 d.buf.bytes = 1) ∧
    (headerFault d.buf.bytes = false) ∧ (configFault d.buf.bytes = none)) ∧
  (∃ (d : Desc) (s : State), (canStart d s.dev = true) ∧ (badField { target := false, bufMax := 16777216 } [] d =
    none) ∧ (needMaint (started d s.dev) = true)) ∧
  (∃ (d : Desc) (c : List Byte) (t : Nat) (s : State), (canStart d s.dev = true) ∧ (d.bad.filter storeSector = []) ∧
    (badField { target := false, pmask := 7 } [] d = none) ∧ (needMaint (started d s.dev) = false) ∧ (s.dev.saf.pend
    = some (c, t)) ∧ (s.dev.tim.ck ≤ t + 60000000000) ∧ (s.dev.saf.energised = 0) ∧ (confirmOffence d s.dev c =
    none)) ∧
  (∃ (d : Desc) (s : State), (canStart d s.dev = true) ∧ (badField { target := false, pmask := 7 } [] d = none) ∧
    (needMaint (started d s.dev) = false) ∧ (s.dev.saf.pend = none)) ∧
  (∃ (d : Desc) (s : State), (canStart d s.dev = true) ∧ (badField { target := false, pmask := 3 } [(256 ≤
    d.p0.toNat, 24), (256 ≤ d.p1.toNat, 28)] d = none) ∧ (safLive s.dev = true) ∧ (s.dev.pai.standby = false) ∧
    ((List.range 8).all (fun n => !(bit n d.p0.toNat && bit n d.p1.toNat) || requestOk s.dev n) = true)) ∧
  (∃ (d : Desc) (s : State), (canStart d s.dev = true) ∧ (badField { target := false, pmask := 3 } [(256 ≤
    d.p0.toNat, 24), (256 ≤ d.p1.toNat, 28)] d = none) ∧ (safLive s.dev = false ∨ s.dev.pai.standby = true)) ∧
  (∃ (d : Desc) (s : State), (canStart d s.dev = true) ∧ (d.p0 = 0) ∧ (d.target.toNat ≤ 7) ∧ (badField
    { pmask := 1 } [(1 < d.p0.toNat, 24)] d = none) ∧ (bit d.target.toNat s.dev.saf.outFault = true) ∧ (bit
    d.target.toNat s.dev.saf.a.fb = false) ∧ (bit d.target.toNat s.dev.saf.b.fb = false)) ∧
  (∃ (d : Desc) (s : State), (canStart d s.dev = true) ∧ (d.p0 = 1) ∧ (d.target.toNat ≤ 15) ∧ (badField
    { pmask := 1 } [(1 < d.p0.toNat, 24)] d = none) ∧ ((consOf s.dev d.target.toNat).mode = .fault) ∧ (lanSilent
    s.dev d.target.toNat false = false) ∧ (lanSilent s.dev d.target.toNat true = false)) ∧
  (∃ (d : Desc) (s : State), (canStart d s.dev = true) ∧ (badField { target := false, pmask := 1 } [(64 ≤
    d.p0.toNat, 24)] d = none)) :=
  ⟨⟨wRun, by decide +kernel⟩, ⟨[], 0, { dev := { saf.pend := some ([], 0) } }, by decide +kernel⟩,
    ⟨{ bufLen := 4472, bufAddr := 4, buf := { bytes := wSafImg } }, wSaf .run 5, by decide +kernel,
    by decide +kernel, by decide +kernel, by decide +kernel, by decide +kernel, by decide +kernel,
    by decide +kernel, by decide +kernel, by decide +kernel, by decide +kernel, by decide +kernel,
    by decide +kernel⟩, ⟨{}, wRun, by decide +kernel, by decide +kernel, by decide +kernel⟩, ⟨{ bad := [65535] }, le
    30 0, 0, { dev := { (wSaf .unconfigured 5).dev with saf.pend := some (le 30 0, 0) } }, by decide +kernel,
    by decide +kernel, by decide +kernel, by decide +kernel, by decide +kernel, by decide +kernel,
    by decide +kernel, by decide +kernel⟩, ⟨{}, wSaf .run 0, by decide +kernel, by decide +kernel,
    by decide +kernel, by decide +kernel⟩, ⟨{ p0 := 128, p1 := 128 }, wSafOn 0, by decide +kernel,
    by decide +kernel, by decide +kernel, by decide +kernel, by decide +kernel⟩, ⟨{}, wSaf .safeFault 0,
    by decide +kernel, by decide +kernel, by decide +kernel⟩, ⟨{ target := 7 },
    { dev := { (wSaf .run 0).dev with saf.outFault := 128 } }, by decide +kernel, by decide +kernel,
    by decide +kernel, by decide +kernel, by decide +kernel, by decide +kernel, by decide +kernel⟩,
    ⟨{ target := 15, p0 := 1 }, wCons .fault 0, by decide +kernel, by decide +kernel, by decide +kernel,
    by decide +kernel, by decide +kernel, by decide +kernel, by decide +kernel⟩, ⟨{ p0 := 63 }, wRun,
    by decide +kernel, by decide +kernel⟩⟩

/-- The hypotheses of Obligations.PairsKeepTogether can be met, clause by clause. -/
theorem witness_PairsKeepTogether :
  (∃ (s : State), (s.dev.pai.mode = .off ∨ nowD s.dev / usT 100 * usT 100 ≤ s.dev.pai.sentAt)) ∧
  (∃ (s : State), (s.dev.pai.mode ≠ .off) ∧ (s.dev.pai.sentAt < nowD s.dev / usT 100 * usT 100) ∧ (s.dev.pai.switch
    = none)) ∧
  (∃ (lane : Nat) (b : List Byte) (s : State), (bit lane s.dev.pai.lanes = false ∨ b.length ≠ 32 ∨ fld 28 4 b ≠
    (crc32c (b.take 28)).toNat)) ∧
  (∃ (lane : Nat) (b : List Byte) (s : State), (lane ≤ 1) ∧ (bit lane s.dev.pai.lanes = true) ∧ (b.length = 32) ∧
    (fld 28 4 b = (crc32c (b.take 28)).toNat) ∧ (s.dev.pai.mode ≠ .off)) ∧
  (∃ (s : Device), (s.pai.mode = .synced) ∧ (s.pai.peerState = 2)) ∧
  (∃ (b : PeerBeat) (s : State), (s.dev.pai.peer = some b) ∧ (s.dev.tim.ck < b.ck + 1000000)) ∧
  (∃ (b : PeerBeat) (s : State), (s.dev.pai.peer = some b) ∧ (b.ck + 1000000 ≤ s.dev.tim.ck) ∧ (s.dev.pai.mode =
    .synced) ∧ (s.dev.pai.lanes % 4 ≠ 0)) ∧
  (∃ (s : State), (s.dev.pai.mode ≠ .takeover ∨ s.dev.pai.tk = none)) ∧
  (∃ (t : Nat) (x : Bool) (s : State), (s.dev.pai.mode = .takeover) ∧ (s.dev.pai.tk = some (t, false, x))) ∧
  (∃ (t : Nat) (x : Bool) (s : State), (s.dev.pai.mode = .takeover) ∧ (s.dev.pai.tk = some (t, false, x))) ∧
  (∃ (t : Nat) (x : Bool) (s : State), (s.dev.pai.mode = .takeover) ∧ (s.dev.pai.tk = some (t, true, x)) ∧
    (s.dev.kep.phase = .resume)) ∧
  (∃ (s : State), (s.dev.pai.mode ≠ .active)) ∧
  (∃ (s : State), (s.dev.pai.mode = .active)) ∧
  (∃ (lane : Nat) (s : State), (bit lane s.dev.pai.lanes = false)) ∧
  (∃ (lane : Nat) (q : Nat) (t : PairTx) (s : State), (lane ≤ 1) ∧ (bit lane s.dev.pai.lanes = true) ∧
    (s.dev.pai.tx.find? (fun t => t.seq == q) = some t) ∧ (t.tag = .other)) ∧
  (∃ (lane : Nat) (q : Nat) (s : State), (lane ≤ 1) ∧ (bit lane s.dev.pai.lanes = true) ∧ (q < s.dev.pai.rxNext)) ∧
  (∃ (lane : Nat) (s : State), (lane ≤ 1) ∧ (bit lane s.dev.pai.lanes = true) ∧ (s.dev.pai.rxBuf = [])) ∧
  (∃ (q : Nat) (s : State), (s.dev.pai.tx.find? (fun t => t.seq == q) = none)) ∧
  (∃ (q : Nat) (t : PairTx) (s : State), (s.dev.pai.tx.find? (fun t => t.seq == q) = some t) ∧ (t.sentAt + 20000 ≤
    s.dev.tim.ck) ∧ (bit t.lane s.dev.pai.lanes = true) ∧ (s.dev.pai.lanes % 4 ≠ 0)) ∧
  (∃ (l : Nat) (s : State), (l ≤ 1) ∧ (bit l s.dev.pai.lanes = true)) ∧
  (∃ (l : Nat) (s : State), (l ≤ 1) ∧ (bit l s.dev.pai.lanes = true)) ∧
  (∃ (l : Nat) (s : State), (l ≤ 1) ∧ (bit l s.dev.pai.lanes = false) ∧ (s.dev.pai.lanes % 4 ≠ 0)) ∧
  (∃ (s : State), (s.dev.cfg.staging = []) ∧ (s.dev.pai.waits = [])) ∧
  (∃ (w : SyncWait) (s : State), (s.dev.cfg.staging = []) ∧ (s.dev.pai.waits = [w]) ∧ (w.till ≤ s.dev.tim.ck)) ∧
  (∃ (s : State), (s.dev.pai.claim = none)) ∧
  (∃ (t : Nat) (p : Pend) (s : State), (s.dev.pai.claim = some (some p, t)) ∧ (t + 20000 ≤ s.dev.tim.ck) ∧ (pairUnit
    s.dev = 1)) ∧
  (∃ (t : Nat) (p : Pend) (s : State), (s.dev.pai.claim = some (some p, t)) ∧ (t + 20000 ≤ s.dev.tim.ck) ∧
    (s.dev.btr.spireUp = true) ∧ (s.dev.cfg.mode = .loaded)) ∧
  (∃ (s : State), (s.dev.pai.listenUntil = none)) ∧
  (∃ (t : Nat) (s : State), (s.dev.pai.listenUntil = some t)) ∧
  (∃ (t : Nat) (s : State), (s.dev.pai.resetAt = some t) ∧ (t + yieldMs s.dev * 1000000 ≤ s.dev.tim.ck) ∧
    (s.dev.pai.synced = true)) ∧
  (∃ (s : State), (s.dev.pai.resetAt = none ∨ s.dev.pai.synced = false)) ∧
  (∃ (d : Desc) (s : State), (canStart d s.dev = true) ∧ (badField { target := false } [] d = none) ∧ (pairEn s.dev
    = true) ∧ (s.dev.pai.mode = .orphan) ∧ (activePeer s.dev = true) ∧ (s.dev.pai.claim = none) ∧ (joinCheck
    (started d s.dev) = 0)) ∧
  (∃ (d : Desc) (s : State), (canStart d s.dev = true) ∧ (badField { target := false } [] d = none) ∧
    (s.dev.pai.mode = .active ∨ s.dev.pai.mode = .synced)) ∧
  (∃ (d : Desc) (s : State), (canStart d s.dev = true) ∧ (badField { target := false } [] d = none) ∧ (needMaint
    (started d s.dev) = false) ∧ (s.dev.pai.synced = true) ∧ (s.dev.cfg.mode = .running) ∧ (s.dev.pai.switch =
    none)) ∧
  (∃ (s : State), (s.dev.pai.switch = none)) ∧
  (∃ (p : Pend) (t : Nat) (e : Option Nat) (s : State), (s.dev.pai.switch = some (p, t, e)) ∧ (t + 20000000 ≤
    s.dev.tim.ck) ∧ (s.dev.pai.yield = false)) ∧
  (∃ (d : Desc) (s : State), (canStart d s.dev = true) ∧ (badField { target := false } [] d = none) ∧
    (s.dev.pai.mode = .joining ∨ s.dev.pai.mode = .synced)) ∧
  (∃ (d : Desc) (b : PeerBeat) (s : State), (canStart d s.dev = true) ∧ (badField
    { target := false, bufMin := 64, bufMax := 16777216 } [] d = none) ∧ (s.dev.pai.peer = some b)) ∧
  (∃ (d : Desc) (s : State), (canStart d s.dev = true) ∧ (s.dev.pai.peer = none)) ∧
  (∃ (d : Desc) (s : State), (canStart d s.dev = true) ∧ (badField { target := false, pmask := 1 } [(32 ≤
    d.p0.toNat, 24)] d = none)) :=
  ⟨⟨wRun, by decide +kernel⟩, ⟨wPair .listen 9, by decide +kernel, by decide +kernel, by decide +kernel⟩, ⟨1, le 32
    0x100, wPair .active 0, by decide +kernel⟩, ⟨1, wBeat 2 0, wPair .synced 0, by decide +kernel,
    by decide +kernel, by decide +kernel, by decide +kernel, by decide +kernel⟩, ⟨(wHeard .synced 0 2 8).dev,
    by decide +kernel, by decide +kernel⟩, ⟨{ bytes := wBeat 2 0, at_ := 0, ck := 0 }, wHeard .synced 5 2 0,
    by decide +kernel, by decide +kernel⟩, ⟨{ bytes := wBeat 2 0, at_ := 0, ck := 0 }, wHeard .synced 1000000 2 0,
    by decide +kernel, by decide +kernel, by decide +kernel, by decide +kernel⟩, ⟨wPair .active 0,
    by decide +kernel⟩, ⟨0, false, wTake 5 (some (0, false, false)), by decide +kernel, by decide +kernel⟩, ⟨0,
    false, wTake 100000 (some (0, false, false)), by decide +kernel, by decide +kernel⟩, ⟨0, false,
    { dev := { (wTake 5 (some (0, true, false))).dev with kep.phase := .resume } }, by decide +kernel,
    by decide +kernel, by decide +kernel⟩, ⟨wPair .synced 0, by decide +kernel⟩, ⟨wPair .active 0,
    by decide +kernel⟩, ⟨0, wPacket 0, by decide +kernel⟩, ⟨1, 4, wTx, wPacket 0, by decide +kernel,
    by decide +kernel, by decide +kernel, by decide +kernel⟩, ⟨1, 4,
    { dev := { (wPair .active 0).dev with pai.rxNext := 5 } }, by decide +kernel, by decide +kernel,
    by decide +kernel⟩, ⟨1, wPair .active 0, by decide +kernel, by decide +kernel, by decide +kernel⟩, ⟨3, wPacket
    0, by decide +kernel⟩, ⟨4, wTx, wPacket 20000, by decide +kernel, by decide +kernel, by decide +kernel,
    by decide +kernel⟩, ⟨1, wPair .active 0, by decide +kernel, by decide +kernel⟩, ⟨1, wPair .active 0,
    by decide +kernel, by decide +kernel⟩, ⟨0, wPair .active 0, by decide +kernel, by decide +kernel,
    by decide +kernel⟩, ⟨wPair .active 0, by decide +kernel, by decide +kernel⟩,
    ⟨{ pend := wPend, detail := 0, seq := 0, till := 5 },
    { dev := { (wHeard .active 5 4 0).dev with pai.shipping := true, pai.waits := [{ pend := wPend, detail := 0, seq := 0, till := 5 }] } },
    by decide +kernel, by decide +kernel, by decide +kernel⟩, ⟨wRun, by decide +kernel⟩, ⟨0, wPend,
    { dev := { (wPair .listen 20000).dev with pai.claim := some (some wPend, 0) } }, by decide +kernel,
    by decide +kernel, by decide +kernel⟩, ⟨0, wPend,
    { dev := { (wPair .listen 20000).dev with cfg.mode := .loaded, pai.claim := some (some wPend, 0) } },
    by decide +kernel, by decide +kernel, by decide +kernel, by decide +kernel⟩, ⟨wRun, by decide +kernel⟩, ⟨5,
    { dev := { (wPair .listen 5).dev with pai.listenUntil := some 5 } }, by decide +kernel⟩, ⟨0,
    { dev := { (wHeard .active 10000000 4 0).dev with pai.shipping := true, pai.resetAt := some 0 } },
    by decide +kernel, by decide +kernel, by decide +kernel⟩, ⟨wRun, by decide +kernel⟩, ⟨{},
    { dev := { (wHeard .orphan 5 2 0).dev with pai.peerInfo := some ([0, 0, 0], 0, 0, 0), saf.mode := .run, tim.mode := .free } },
    by decide +kernel, by decide +kernel, by decide +kernel, by decide +kernel, by decide +kernel,
    by decide +kernel, by decide +kernel⟩, ⟨{}, wPair .active 0, by decide +kernel, by decide +kernel,
    by decide +kernel⟩, ⟨{}, { dev := { (wHeard .active 0 4 0).dev with pai.shipping := true } }, by decide +kernel,
    by decide +kernel, by decide +kernel, by decide +kernel, by decide +kernel, by decide +kernel⟩, ⟨wRun,
    by decide +kernel⟩, ⟨wPend, 0, none,
    { dev := { (wPair .active 20000000).dev with pai.switch := some (wPend, 0, none) } }, by decide +kernel,
    by decide +kernel, by decide +kernel⟩, ⟨{}, wPair .synced 0, by decide +kernel, by decide +kernel,
    by decide +kernel⟩, ⟨{ bufLen := 64, bufAddr := 4 }, { bytes := wBeat 2 0, at_ := 0, ck := 0 }, wHeard .synced 0
    2 0, by decide +kernel, by decide +kernel, by decide +kernel⟩, ⟨{}, wRun, by decide +kernel, by decide +kernel⟩,
    ⟨{ p0 := 31 }, wRun, by decide +kernel, by decide +kernel⟩⟩

/-- The hypotheses of Obligations.SecurityAndTap can be met, clause by clause. -/
theorem witness_SecurityAndTap :
  (∃ (d : Desc) (s : State), (canStart d s.dev = true) ∧ (badField { bufMin := 32, bufMax := 16777216 } [(3 <
    d.target.toNat, 8)] d = none) ∧ (s.dev.sec.lockUntil ≤ s.dev.tim.ck)) ∧
  (∃ (d : Desc) (s : State), (canStart d s.dev = true) ∧ (badField { bufMin := 32, bufMax := 16777216 } [(3 <
    d.target.toNat, 8)] d = none) ∧ (s.dev.tim.ck < s.dev.sec.lockUntil)) ∧
  (∃ (d : Desc) (v : List Byte) (s : State), (canStart d s.dev = true) ∧ (badField
    { target := false, bufMin := 3088, bufMax := 16777216 } [] d = none) ∧ (d.buf.acc = .ok) ∧ (s.dev.sec.lockUntil
    ≤ s.dev.tim.ck) ∧ (validNonce s.dev = some v) ∧ (fld 4 4 d.buf.bytes ≠ 0) ∧ (fld 4 4 d.buf.bytes ≤ maxOpenS
    s.dev)) ∧
  (∃ (dur : Nat), (0 < dur)) ∧
  (∃ (s : Device), (2 ≤ s.sec.fails) ∧ (s.sec.fails < 255)) ∧
  (∃ (d : Desc) (s : State), (canStart d s.dev = true) ∧ (badField { target := false, pmask := 0x1F } [(d.p4.toNat =
    0 || maxOpenS s.dev < d.p4.toNat, 40)] d = none) ∧ ((passwordHash s.dev).isSome = true) ∧ (s.dev.sec.lockUntil ≤
    s.dev.tim.ck)) ∧
  (∃ (d : Desc) (s : State), (canStart d s.dev = true) ∧ (badField { target := false, pmask := 1 } [(15 <
    d.p0.toNat, 24)] d = none)) ∧
  (∃ (k : Nat), (k ≤ 3)) ∧
  (∃ (k : Nat) (till : Nat) (s : State), (tfind s.dev.sec.scopes k = some till)) ∧
  (∃ (v : List Byte) (t : Nat) (s : State), (s.dev.sec.nonce = some (v, t))) ∧
  (∃ (d : Desc) (s : State), (canStart d s.dev = true) ∧ (badField
    { target := false, pmask := 0xFF, bufMin := 1544, bufMax := 16777216 } [] d = none)) ∧
  (∃ (d : Desc) (s : State), (canStart d s.dev = true) ∧ (badField
    { target := false, bufMin := 3104, bufMax := 16777216 } [] d = none)) ∧
  (∃ (d : Desc) (s : State), (canStart d s.dev = true) ∧ ((windowOf s.dev 0x1701).isSome = true) ∧ (badField
    { pmask := 1 } [(d.target.toNat = 0 || 3 < d.target.toNat, 8), (d.p0 = 0 || maxImage d.target.toNat <
    d.p0.toNat, 24)] d = none) ∧ (needMaint (started d s.dev) = false) ∧ (refusal 6 0 0 (started d s.dev) = none)) ∧
  (∃ (d : Desc) (s : State), (canStart d s.dev = true) ∧ (windowOf s.dev 0x1701 = none)) ∧
  (∃ (s : State), (s.dev.sec.staging = none)) ∧
  (∃ (kind : Nat) (len : Nat) (s : State), (s.dev.sec.staging = some (kind, len)) ∧ (windowOf s.dev 0x1701 = none)) ∧
  (∃ (kind : Nat) (len : Nat) (w : Nat) (s : State), (s.dev.sec.staging = some (kind, len)) ∧ (windowOf s.dev 0x1701
    = some w) ∧ ((winOf s.dev w).bad = false) ∧ (((winOf s.dev w).rx.map List.length).sum < len)) ∧
  (∃ (kind : Nat) (len : Nat) (w : Nat) (img : List Byte) (s : State), (s.dev.sec.staging = some (kind, len)) ∧
    (windowOf s.dev 0x1701 = some w) ∧ ((winOf s.dev w).bad = false) ∧ (len ≤ ((winOf s.dev w).rx.map
    List.length).sum) ∧ ((imageOf 0x1701 { p0 := BitVec.ofNat 32 len } s.dev).1 = some img)) ∧
  (∃ (d : Desc) (s : State), (canStart d s.dev = true) ∧ (badField {} [(d.target.toNat = 0 || 3 < d.target.toNat,
    8)] d = none) ∧ (needMaint (started d s.dev) = false) ∧ ((bootUse s.dev d.target.toNat).trial = true)) ∧
  (∃ (d : Desc) (s : State), (canStart d s.dev = true) ∧ (scopeOpen (started d s.dev) 3 = true) ∧ (d.target.toNat =
    1) ∧ (d.p0.toNat ≤ 15) ∧ (badField { pmask := 1 } [] d = none) ∧ (d.buf.acc = .ok) ∧ (3 < d.p0.toNat ∨ keyUsable
    s.dev d.p0.toNat = false ∨ otherBoot s.dev d.p0.toNat = true)) ∧
  (∃ (d : Desc) (s : State), (canStart d s.dev = true) ∧ (d.target.toNat = 2) ∧ (d.p0.toNat ≤ 3) ∧ (badField
    { pmask := 1, bufMin := 32, bufMax := 32 } [] d = none) ∧ (scopeOpen (started d s.dev) 3 = false)) ∧
  (∃ (s : State), (s.dev.btr.spireUp = true) ∧ (s.dev.sec.lockUntil ≤ s.dev.tim.ck)) ∧
  (∃ (s : State), (s.dev.btr.spireUp = true)) ∧
  (∃ (code : Nat), (tapCodes.contains (code % 256) = false) ∧ (code % 256 ≠ 0xFF)) :=
  ⟨⟨{ target := 3, bufLen := 32, bufAddr := 4 }, wAuth 5, by decide +kernel, by decide +kernel, by decide +kernel⟩,
    ⟨{ target := 3, bufLen := 32, bufAddr := 4 }, wAuth 4, by decide +kernel, by decide +kernel, by decide +kernel⟩,
    ⟨{ bufLen := 3088, bufAddr := 4, buf := { bytes := le 4 2 ++ le 4 60 } }, [], wAuth 5, by decide +kernel,
    by decide +kernel, by decide +kernel, by decide +kernel, by decide +kernel, by decide +kernel,
    by decide +kernel⟩, ⟨1, by decide +kernel⟩, ⟨{ sec.fails := 2 }, by decide +kernel, by decide +kernel⟩,
    ⟨{ p4 := 60 }, { dev := { (wAuth 5).dev with sec.otp.passwords := [(3, [])] } }, by decide +kernel,
    by decide +kernel, by decide +kernel, by decide +kernel⟩, ⟨{ p0 := 15 }, wAuth 0, by decide +kernel,
    by decide +kernel⟩, ⟨3, by decide +kernel⟩, ⟨3, 5, wAuth 5, by decide +kernel⟩, ⟨[], 5, wAuth 0,
    by decide +kernel⟩, ⟨{ bufLen := 1544, bufAddr := 4 }, wRun, by decide +kernel, by decide +kernel⟩,
    ⟨{ bufLen := 3104, bufAddr := 4 }, wRun, by decide +kernel, by decide +kernel⟩, ⟨{ target := 3, p0 := 64 },
    { dev := { wWin.dev with sec.scopes := [(2, 2 ^ 60)] } }, by decide +kernel, by decide +kernel,
    by decide +kernel, by decide +kernel, by decide +kernel⟩, ⟨{ target := 3 }, wRun, by decide +kernel,
    by decide +kernel⟩, ⟨wRun, by decide +kernel⟩, ⟨3, 64, { dev := { wRun.dev with sec.staging := some (3, 64) } },
    by decide +kernel, by decide +kernel⟩, ⟨3, 64, 14, { dev := { wWin.dev with sec.staging := some (3, 64) } },
    by decide +kernel, by decide +kernel, by decide +kernel, by decide +kernel⟩, ⟨3, 2, 14, [1, 2],
    { dev := { wWin.dev with hif.windows := [(14, { enable := true, segLog2 := 12, countM1 := 1, bound := some 0x1701, rx := [[1], [2]] })], sec.staging := some (3, 2) } },
    by decide +kernel, by decide +kernel, by decide +kernel, by decide +kernel, by decide +kernel⟩,
    ⟨{ target := 3 }, { dev := { wMaint.dev with sec.boot := [(3, { trial := true, svn := 9 })] } },
    by decide +kernel, by decide +kernel, by decide +kernel, by decide +kernel⟩, ⟨{ target := 1, p0 := 15 }, wAuth
    0, by decide +kernel, by decide +kernel, by decide +kernel, by decide +kernel, by decide +kernel,
    by decide +kernel, by decide +kernel⟩, ⟨{ target := 2, bufLen := 32, bufAddr := 4 }, wRun, by decide +kernel,
    by decide +kernel, by decide +kernel, by decide +kernel, by decide +kernel⟩, ⟨wAuth 5, by decide +kernel,
    by decide +kernel⟩, ⟨wAuth 5, by decide +kernel⟩, ⟨0x21, by decide +kernel, by decide +kernel⟩⟩

/-- The hypotheses of Obligations.ResetLeaves can be met, clause by clause. -/
theorem witness_ResetLeaves :
  (∃ (d : Device), (d = { State.reset.dev with btr.spireUp := true })) :=
  ⟨{ State.reset.dev with btr.spireUp := true }, by decide +kernel⟩

/-- The hypotheses of Obligations.SafeOffKept can be met, clause by clause. -/
theorem witness_SafeOffKept :
  (∃ (s : State) (t : State), (SafeOff s) ∧ (step s = .next t)) :=
  ⟨{}, { dev := clockCycle {} }, by unfold SafeOff; decide +kernel, rfl⟩

/-- The hypotheses of Obligations.OthersCannotDrive can be met, clause by clause. -/
theorem witness_OthersCannotDrive :
  (∃ (opcode : Nat) (got : List SlotRead) (bad : List Nat) (p : Pend) (s : Device) (t : Device), (opcode / 256 ≠
    0x0E) ∧ ((match commandBody got bad opcode p s with | .done _ _ _ u => u = t | .wait u => u = t))) :=
  ⟨0x0101, [], [], wPend, {}, wRefused, by decide, rfl⟩

/-! ## Ill-formed commands, which WellFormed refuses -/

/-- Every command of a list is refused. -/
def allRefused (l : List Instr) : Bool := l.all (fun c => !c.wf)

/-- Bus widths other than 1, 2, 4 and 8, and offsets beyond BAR0 (R51). -/
theorem test_illformed_bus : allRefused [.ringDoorbell 0 ⟨0, 3, 0⟩, .windowConfigWrite 0 ⟨0, 16, 0⟩, .eventRingDoorbell ⟨2 ^ 21, 4, 0⟩,
    .registerWrite .bar0 ⟨0, 0, 0⟩, .registerWrite .bar4 ⟨0, 3, 0⟩, .lpeLaneEnWrite ⟨0, 5, 0⟩, .clkforceWrite ⟨0, 6, 0⟩, .clkRailEvtClear ⟨0, 7, 0⟩] = true := by decide

/-- A buffer longer than BUF_LEN, a read that failed with success, a slot of 63 bytes, a segment without a header. -/
theorem test_illformed_parts : allRefused [.nop { buf := { bytes := [0] } }, .commandDispatch {} [.fail .ok] [],
    .descriptorFetch 0 [.bytes (List.replicate 63 0)], .windowDoorbell 0 ⟨0, 4, 0⟩ [{ bytes := List.replicate 31 0 }]] = true := by decide

/-- A descriptor of ring 32 (R53). -/
theorem test_illformed_desc1 : allRefused [
    .unsupportedOpcode { ring := 32 }, .nop { ring := 32 }, .ringResume { ring := 32 } [], .windowBind { ring := 32 },
    .windowRelease { ring := 32 }, .cfgLoadBase { ring := 32 }, .cfgRun { ring := 32 }, .cfgStop { ring := 32 },
    .cfgOverlayLoad { ring := 32 }, .cfgOverlayArm { ring := 32 }, .cfgOverlayDisarm { ring := 32 }, .cfgOverlayDelete { ring := 32 },
    .cfgReadRecord { ring := 32 }, .dptReadTask { ring := 32 }, .dptClearCounters { ring := 32 }, .dptCheckLoad { ring := 32 },
    .lpeSetMode { ring := 32 }, .lpeSetCoef { ring := 32 }, .lpeSetLimit { ring := 32 }, .lpeSetSp { ring := 32 },
    .lpeSetOutput { ring := 32 }, .lpeReadState { ring := 32 }, .lpeClearCounters { ring := 32 }, .ltnTraceSet { ring := 32 },
    .ltnTraceArm { ring := 32 }, .ltnTraceForce { ring := 32 }, .ltnTraceStop { ring := 32 }, .ltnTraceRead { ring := 32 },
    .adcUrgent { ring := 32 }, .adcCalibrate { ring := 32 }, .adcReadCal { ring := 32 }, .adcClearCounters { ring := 32 },
    .dacSet { ring := 32 }, .dioSet { ring := 32 }, .dioPosPreset { ring := 32 }, .dioClearCounters { ring := 32 },
    .motMove { ring := 32 }, .motStop { ring := 32 }, .motHome { ring := 32 }, .motSetPos { ring := 32 },
    .motReadState { ring := 32 }, .motClearCounters { ring := 32 }, .ccrClearFault { ring := 32 }, .pgmLoad { ring := 32 },
    .pgmExchange { ring := 32 }, .pgmRestart { ring := 32 }, .pgmReadInstance { ring := 32 }, .pgmClearCounters { ring := 32 },
    .fblLoad { ring := 32 }, .fblRead { ring := 32 }] = true := by decide

/-- A descriptor of ring 32 (R53). -/
theorem test_illformed_desc2 : allRefused [
    .ethReadStation { ring := 32 }, .ethReparam { ring := 32 }, .ethCbReset { ring := 32 }, .ethClearCounters { ring := 32 },
    .timSetTime { ring := 32 }, .timSelect { ring := 32 }, .timRestep { ring := 32 }, .timSetUtc { ring := 32 },
    .timReadDomain { ring := 32 }, .timClearCounters { ring := 32 }, .canTxSet { ring := 32 }, .canTxAbort { ring := 32 },
    .canRecover { ring := 32 }, .canSetMode { ring := 32 }, .canClearCounters { ring := 32 }, .safLoadConfig { ring := 32 },
    .safConfirm { ring := 32 }, .safSetRequest { ring := 32 }, .safFaultReset { ring := 32 }, .safClearCounters { ring := 32 },
    .kepRestart { ring := 32 }, .kepReadImage { ring := 32 }, .kepClearCounters { ring := 32 }, .paiJoin { ring := 32 },
    .paiSwitchover { ring := 32 }, .paiLeave { ring := 32 }, .paiReadPeer { ring := 32 }, .paiClearCounters { ring := 32 },
    .ltnReadChannel { ring := 32 }, .ltnClearCounters { ring := 32 }, .evrExport { ring := 32 } [], .evrReadLastgasp { ring := 32 },
    .evrClearLastgasp { ring := 32 }, .evrClearCounters { ring := 32 }, .sprReserveSwap { ring := 32 }, .sprKeepScrub { ring := 32 },
    .sprDramRepair { ring := 32 }, .sprClearCounters { ring := 32 }, .secChallenge { ring := 32 }, .secOpen { ring := 32 },
    .secOpenPw { ring := 32 }, .secClose { ring := 32 }, .secQuote { ring := 32 }, .secReadIdentity { ring := 32 },
    .secFwStage { ring := 32 }, .secSvnCommit { ring := 32 }, .secProvision { ring := 32 }] = true := by decide

/-- Operands one beyond their range. -/
theorem test_illformed_range1 : allRefused [
    .ringDoorbell 32 ⟨0, 4, 0⟩, .windowDoorbell 16 ⟨0, 4, 0⟩ [], .descriptorFetch 32 [], .qresumeContinue 32,
    .qresumeFlush 32 [], .ringEnable 32 0, .ringEnable 0 (2 ^ 32), .ringDisable 32 0,
    .ringDisable 0 (2 ^ 32), .eventRingEnable (2 ^ 32), .eventRingDisable (2 ^ 32), .windowConfigWrite 16 ⟨0, 4, 0⟩,
    .msixVectorUnmask 64, .interruptCoalesceTimeout 64, .segmentHandback 16, .windowFlushTimeout 16,
    .pcieLinkDown .flr 256 0, .perstNAssert 256 0, .tokenArrival 65536 0 0, .tokenArrival 0 4096 0,
    .tokenArrival 0 0 8, .primaryWaitExpiry 4096, .freshWaitExpiry 4096, .loopEvaluation 18,
    .laneError 18 0, .laneError 0 3, .epochMarkerTimeout 65536 0 0, .epochMarkerTimeout 0 4096 0,
    .epochMarkerTimeout 0 0 8, .taskCapture 4096, .dptCutPending 4096, .disabledTaskOperandExpiry 4096,
    .conversionEnd 34 0 0, .scanStart 34, .urgentPinRequest ⟨34, false⟩, .adcRangeWrite 256 0,
    .adcRangeWrite 0 (2 ^ 32), .rangeSettleExpiry 256, .calibrationTakeover 34, .calibrationTableFit 34 0 0 0] = true := by decide

/-- Operands one beyond their range. -/
theorem test_illformed_range2 : allRefused [
    .calibrationTableFit 0 0 (2 ^ 24) 0, .calibrationHandback 34, .dacOutputArrival 32, .dacHoldLatch 32,
    .dacOeWrite (2 ^ 32), .dioOeWrite 3 0, .dioOeWrite 0 (2 ^ 32), .dioInputAccept 96 false 0,
    .dioRawExcursionSuppress 96, .pwmCodeArrival 96, .pwmPeriodStart 96, .pulseEdge 16 ⟨false, 0⟩,
    .pulseSample 16, .quadratureTransition 8 false false, .zIndexEdge 8 false false, .ssiFrame 8 0 false false 0,
    .positionSample 8, .uartRxByte 4 ⟨0, false⟩ 0 0, .uartRxByte 0 ⟨0, false⟩ 8 0, .uartRxIdle 4,
    .uartTxDone 4, .dioPstatClear 16 0, .dioPstatClear 0 (2 ^ 32), .servoTick 64,
    .limitPinChange 64 false, .limitQualification 64 false, .ccrPwmPeriod 16 [] [], .fullStepLoad 16,
    .setpointLossExpiry 16, .holdDelayExpiry 16, .ccrOeWrite (2 ^ 32), .programCycleStart 9,
    .programCycleEnd 9, .cycleOverrun 9, .cycleAbort 9, .programFault 9,
    .coreError 9, .programInstruction 9, .fbTon 9, .fbTof 9] = true := by decide

/-- Operands one beyond their range. -/
theorem test_illformed_range3 : allRefused [
    .fbTp 9, .fbRtrig 9, .fbFtrig 9, .fbCtu 9,
    .fbCtd 9, .fbNow 9, .fbNowh 9, .programExchangeBoundary 256,
    .frameReceive 8 0 [], .hostFrameQueue 8, .frameLaunch 8, .gateCycleStart 8,
    .nzRequestBuild 128, .nzResponse 128, .nzResponseDeadline 128, .paramAck 128,
    .nzParamPieceTimeout 128, .delayResp 128, .probeReply 128, .nzProbeTimer 128,
    .ethLinkUp 8, .ethLinkDown 8, .prpSupervisionTimer 8, .ethPortEnWrite (2 ^ 32),
    .syncMeasurement 2, .announceReceive 2, .pdelayReqReceive 2, .masterSyncTransmit 2,
    .domainLossTimeout 2, .triggerFiring 64, .canFrameReceive 8 {}, .canTxStart 8,
    .canTxEnd 8 .sent 0, .canTxEnd 0 .sent 256, .periodicBufferFiring 8 0, .periodicBufferFiring 0 16,
    .canTxLate 8 0, .canTxLate 0 16, .busOffRecoveryDone 8, .ttReferenceSend 8] = true := by decide

/-- Operands one beyond their range. -/
theorem test_illformed_range4 : allRefused [
    .ttRefLost 8, .ttWindow 8 0, .ttWindow 0 16, .canEnWrite (2 ^ 32),
    .safInputSample false (2 ^ 32) 0, .safInputSample false 0 256, .discrepancyTimeout 16, .testPulse 8 false false false,
    .feedbackTimeout 8 false, .channelFault 8 0, .channelFault 0 16, .safeFrameProduce 16,
    .sfWatchdogTimeout 16, .singleLanTimeout 16, .cutPartReady 32 [], .spireWarmRestart 256,
    .heartbeatReceive 2 [] false false, .pairPacketReceive 2 none [] false, .paiLaneDown 2, .eventRaise 65536 [],
    .summaryTimeout 65536, .flitCrcError 2 0, .flitCrcError 0 16, .replayTimeout 2 0,
    .replayTimeout 0 16, .retrainEnd 32, .crossingHandshake 16, .spireFatal 256 0,
    .spireFatal 0 65536, .sidebandReadTimeout (2 ^ 21) 0, .memUe 5 0 0 0 0 0, .memUe 0 0 256 0 0 0,
    .memUe 0 0 0 65536 0 0, .memUe 0 0 0 0 (2 ^ 32) 0, .memUe 0 0 0 0 0 256, .swapChangeover 256,
    .pmcSelWrite 640 0, .pmcSelWrite 0 (2 ^ 32), .pmcSnapWrite (2 ^ 32), .pmcDumpCfgWrite (2 ^ 32)] = true := by decide

/-- Operands one beyond their range. -/
theorem test_illformed_range5 : allRefused [
    .pmcDumpMaskWrite (2 ^ 32), .scopeExpiry 4, .bypass 256, .railOutOfWindow 15,
    .referenceLoss 3, .adcUrgentTimeout 34, .pgmExchangeTimeout 256, .ccrSetpointArrival 16,
    .ptpDelayResponse 2, .pdelayReqTimer 2, .streamRecoveryReset 256, .railReturn 15,
    .paiLaneUp 2, .canBusIdle 8] = true := by decide


/-! ## The spec's worked numbers -/

/-- The loop of the fixed-point example (05): KP, KI, KOUT and their shifts, OMAX 100 %, ORATE 0.5 %, a set-point of 400.0. -/
def exLoop : LoopCfg := loopCfg (
  le 4 4 ++ le 12 1 ++
  (le 4 0x40000000 ++ le 12 0 ++ le 4 0x50000000 ++ le 4 671089 ++ le 12 0 ++ le 4 42949673 ++ le 12 0) ++
  ([30, 0, 0, 0, 29, 31, 0, 0, 0, 31, 0, 0, 0, 0, 0, 0].flatMap (le 1)) ++
  (le 4 0 ++ le 4 0x7FFFFFFF ++ le 4 0 ++ le 4 0 ++ le 4 6553600 ++ le 4 0 ++ le 4 6553600 ++ le 4 32768 ++ le 4 0 ++
   le 4 0 ++ le 4 26214400))

def exState : LoopSt := { modeAct := 4, first := false, i := 150323855360, outLast := 2569011, spLast := 26214400 }
def exOps : List OpIn := [{ idx := 0, value := 26103014 }]
def exLaw (mode : Nat) : Law := ((runLaw exLoop exState exOps { mode }).run {}).1

/-- Steps 1 to 6: e, P, I48, the integrator term, v and the code (05, worked example: fixed point). -/
theorem test_fixed_point : let l := exLaw 4
    (l.e.m, l.p.m, l.integ.m, l.i.m, l.v.m, l.code) =
      (111386, 278465, 150326136547, 2293795, 2572260, 51445) := by decide

/-- The TRACK evaluation from HOLD sets the integrator and emits the code already held (05). -/
theorem test_track : ((exLaw 1).integ.m, (exLaw 1).code) = (2290546 * 65536, 51380) := by decide

/-- Error, P, sum and code of the block-floating example (05). -/
theorem test_block_floating :
    ((sumA 3 true [⟨6553600, 4⟩, numNeg ⟨6448742, 4⟩]).run {}).1 = ⟨6710912, -2⟩ ∧
    ((mulA 4 true ⟨6291456, 2⟩ 0 ⟨6710912, -2⟩).run {}).1 = ⟨5033184, 0⟩ ∧
    ((sumA 6 true [⟨5033184, 0⟩, ⟨7549747, -1⟩]).run {}).1 = ⟨4404029, 1⟩ ∧
    ((mulA 7 true ⟨6710886, 14⟩ 0 ⟨4404029, 1⟩).run {}).1 = ⟨7046446, 14⟩ ∧
    ((toCode 7 true ⟨7046446, 14⟩).run {}).1 = 13763 := by decide

/-- The average, the data word and the time words of the gas box (07, worked example). -/
theorem test_adc_record : rshiftConv 1638395 4 = 102400 ∧ dataWord 102400 1 false false = 0x04019000 ∧
    nsLow (nsT 7204123456789) = 0x57383515 ∧ 7204123456789 / 2 ^ 32 = 0x68D := by decide

/-- +4,150 ppb gives RATE 17,824 (12). -/
theorem test_rate : rateOf 4150 1 = 17824 := by decide

/-- HIF_QFAIL5 of a BAD_FIELD at slot 11 reads 0x0002_000B (02, the example of a halt). -/
theorem test_qfail : readReg (0x1018 + 0x40 * 5)
    { btr.spireUp := true, hif.rings := [(5, { halted := true, failIndex := 11, failStatus := 2 })] } = 0x0002000B := by decide

/-- The check values of the two CRCs over "123456789" (PRESUMED polynomials, log 3). -/
theorem test_crc : crc32c (("123456789".toList).map (fun c => BitVec.ofNat 8 c.toNat)) = 0xE3069283 ∧
    crc32e (("123456789".toList).map (fun c => BitVec.ofNat 8 c.toNat)) = 0xCBF43926 := by decide

/-- An empty queue lets one CK_TIME cycle pass: the working time of the Dome counter advances by 1 ns (R473, log 2). -/
theorem test_idle : (match step State.reset with | .next t => t.dev.tim.dome | _ => 0) = State.reset.dev.tim.dome + 2 ^ 32 := by decide

/-- The command at the front of the queue runs, and the rest of the queue stays (first in, first out). -/
theorem test_queue : (match step { pending := [.hifStatusRead, .alignmentStrobe], dev := {} } with
    | .next t => t.pending | _ => []) = [.alignmentStrobe] := by decide

/-- The 64 bytes 0, 1, …, 63 as a descriptor: each field stands where Table HIF-3 puts it, little-endian (R2, R60). -/
theorem test_descriptor_bytes :
    let d := descOf 3 ((List.range 64).map (BitVec.ofNat 8))
    d.opcode = 0x0100 ∧ d.flags = 0x0302 ∧ d.tag = 0x07060504 ∧ d.target = 0x0B0A0908 ∧ d.bufLen = 0x0F0E0D0C ∧
    d.bufAddr = 0x1716151413121110 ∧ d.p0 = 0x1B1A1918 ∧ d.p7 = 0x37363534 ∧ d.resv = 0x3F3E3D3C3B3A3938 := by decide

/-- A narrower read of BAR0 returns the addressed bytes of the word (R51), and every BAR2 read returns 0 (R52). -/
theorem test_narrow_read : hostRead .bar0 0x1012 1 { btr.spireUp := true, hif.rings := [(0, { enable := true })] } % 2 = 1 ∧
    hostRead .bar2 0 4 {} = 0 := by decide


end Sys2Proof.Tests
end

section
/-!
Tokens, waits and the dispatch tick (04_dispatch_matching).
-/
namespace Sys2Proof.Proofs.DispatchMatching
open Sys2Proof Sys2Proof.Machine Sys2Proof.Laws

/-! ## Task slots -/

@[simp] theorem taskOf_modTask_same (slot : Nat) (f : Task → Task) (s : Device) :
    taskOf (modTask slot f s) slot = f (taskOf s slot) := by
  simp [taskOf, modTask]

/-- A wait that expires for a WAITING task makes it READY; no firing is owed (R166). -/
theorem expire_of_waiting {e : ReadyEntry} {s : Device} (h : (taskOf s e.slot).run = .waiting) :
    expire e s = makeReady e s := by
  simp [expire, h]

/-! ## Tokens -/

theorem tokenArrival_of_find {source slot operand : Nat} {t : Token} {s : Device}
    (h : s.dpt.inflight.find? (fun x => x.source == source && x.slot == slot && x.operand == operand) = some t) :
    tokenArrival source slot operand s = tokenArrive t
      { s with dpt.inflight := s.dpt.inflight.eraseP
                 (fun x => x.source == source && x.slot == slot && x.operand == operand) } := by
  simp [tokenArrival, h]

theorem tokenArrival_of_inflight_nil (source slot operand : Nat) {s : Device} (h : s.dpt.inflight = []) :
    tokenArrival source slot operand s = s := by
  simp [tokenArrival, h]

/-! ## Waits -/

/-- The primary wait of a WAITING task expires with no primary held: a stale firing at the next instant (R160). -/
theorem primaryWaitExpiry_of_due {slot w b : Nat} {s : Device} (hw : (taskOf s slot).primWait = some w)
    (hb : waitBase (taskOf s slot) = some b) (hrun : s.dpt.run = true) (hdue : w ≤ nowS s)
    (hprim : (taskOf s slot).prim = []) (hwait : (taskOf s slot).run = .waiting)
    (hen : enabledFor (modTask slot (fun k => { k with primWait := none }) s) slot (b + (taskPW s slot).1) = true) :
    primaryWaitExpiry slot s =
      makeReady { slot, at_ := 0, time := b + (taskPW s slot).1, stalePrim := true, expired := some w }
        (modTask slot (fun k => { k with primWait := none }) s) := by
  have hpast : ¬nowS s < w := Nat.not_lt.mpr hdue
  simp [primaryWaitExpiry, hw, hb, hrun, hprim, hwait, hpast, hen, expire_of_waiting]

theorem primaryWaitExpiry_of_stopped (slot : Nat) {s : Device} (h : s.dpt.run = false) :
    primaryWaitExpiry slot s = s := by
  simp only [primaryWaitExpiry]
  split <;> simp [h]

/-- The oldest primary of a task is not ready while an operand of its record's is missing (R157). -/
theorem primReady_of_recAt {slot : Nat} {p : Token} {t : Task} {b : List Byte} {s : Device}
    (h : recAt s 0x02 1 slot p.time = some b) : primReady s slot p t = operandsReady b t := by
  simp [primReady, h]

/-- The FRESH wait of a WAITING task expires while operands of its oldest primary are missing: they fire stale (R161). -/
theorem freshWaitExpiry_of_due {slot : Nat} {p : Token} {rest : List Token} {b : List Byte} {s : Device}
    (hprim : (taskOf s slot).prim = p :: rest) (hrun : s.dpt.run = true)
    (hdue : p.time + (taskPW s slot).2 ≤ nowS s) (hrec : recAt s 0x02 1 slot p.time = some b)
    (hmiss : operandsReady b (taskOf s slot) = false) (hwait : (taskOf s slot).run = .waiting) :
    freshWaitExpiry slot s =
      makeReady {
        slot, at_ := 0, time := p.time, expired := some (p.time + (taskPW s slot).2)
        stales := missingOps b (taskOf s slot) p (taskPW s slot) } s := by
  have hready : primReady s slot p (taskOf s slot) = false := (primReady_of_recAt hrec).trans hmiss
  have hpast : ¬nowS s < p.time + (taskPW s slot).2 := Nat.not_lt.mpr hdue
  simp [freshWaitExpiry, hprim, hrun, hpast, hready, hrec, expire_of_waiting, hwait]

theorem freshWaitExpiry_of_stopped (slot : Nat) {s : Device} (h : s.dpt.run = false) :
    freshWaitExpiry slot s = s := by
  simp only [freshWaitExpiry]
  split <;> simp [h]

/-! ## The tick and the expiry of a disabled task's operands -/

/-- A tick with nothing delayed only notes its boundary (R169). -/
theorem dptTick_of_delay_nil {s : Device} (hrun : s.dpt.run = true) (htick : s.dpt.tick ≠ 0)
    (hlast : s.dpt.lastTick < nowS s / usT s.dpt.tick * usT s.dpt.tick) (hdelay : s.dpt.delay = []) :
    dptTick s = { s with dpt.lastTick := nowS s / usT s.dpt.tick * usT s.dpt.tick } := by
  have hnew : ¬nowS s / usT s.dpt.tick * usT s.dpt.tick ≤ s.dpt.lastTick := Nat.not_le.mpr hlast
  simp [dptTick, hrun, htick, hnew, hdelay]

theorem dptTick_of_stopped {s : Device} (h : s.dpt.run = false) : dptTick s = s := by
  simp [dptTick, h]

/-- The operands of a task disabled longer than the version keep time are forgotten (R159). -/
theorem disabledExpiry_of_due {slot k : Nat} {s : Device} (hk : (taskOf s slot).disabledAt = some k)
    (hdue : k + usT s.cfg.keepUs ≤ nowS s) :
    disabledExpiry slot s = modTask slot (fun k => { k with prim := [], ops := [], disabledAt := none }) s := by
  simp [disabledExpiry, hk, hdue]

/-! ## The statement -/

/-- Settles O20, row by row: arriving tokens, the two waits, the tick, a disabled task's operands, and Dispatch stopped. -/
theorem tokensArriveAndWaitsExpire : Obligations.TokensArriveAndWaitsExpire := by
  unfold Obligations.TokensArriveAndWaitsExpire
  refine ⟨?arrives, ?nothing, ?primary, ?fresh, ?tick, ?disabled, ?stopped⟩
  case arrives =>
    intro source slot operand k s hfind
    rw [exec_tokenArrival, execTokenArrival, tokenArrival_of_find hfind]
  case nothing =>
    intro source slot operand s hnil
    rw [exec_tokenArrival, execTokenArrival, tokenArrival_of_inflight_nil _ _ _ hnil]
  case primary =>
    intro slot w b s hw hb hrun hdue hprim hwait hen
    rw [exec_primaryWaitExpiry, execPrimaryWaitExpiry, primaryWaitExpiry_of_due hw hb hrun hdue hprim hwait hen]
  case fresh =>
    intro slot p rest b s hprim hrun hdue hrec hmiss hwait
    rw [exec_freshWaitExpiry, execFreshWaitExpiry, freshWaitExpiry_of_due hprim hrun hdue hrec hmiss hwait]
  case tick =>
    intro s hrun htick hlast hdelay
    rw [exec_dptTick, execDptTick, dptTick_of_delay_nil hrun htick hlast hdelay]
  case disabled =>
    intro slot k s hk hdue
    rw [exec_disabledTaskOperandExpiry, execDisabledTaskOperandExpiry, disabledExpiry_of_due hk hdue]
  case stopped =>
    intro slot s hstop
    refine ⟨?_, ?_, ?_⟩
    · rw [exec_primaryWaitExpiry, execPrimaryWaitExpiry, primaryWaitExpiry_of_stopped _ hstop]
    · rw [exec_freshWaitExpiry, execFreshWaitExpiry, freshWaitExpiry_of_stopped _ hstop]
    · rw [exec_dptTick, execDptTick, dptTick_of_stopped hstop]

end Sys2Proof.Proofs.DispatchMatching
end

section
/-!
Dispatch, evaluation and the errors of lanes and cores (04_dispatch_matching, 05_loop_engine, 10_program_execution).
-/
namespace Sys2Proof.Proofs.DispatchMatching
open Sys2Proof Sys2Proof.Machine Sys2Proof.Laws

/-! ## What the reserves may change -/

/-- `t` differs from `s` at most in what `Touches` allows and in the draws, Dispatch, the converters, the reserves, and the
cores in service or spare: all that ending an activity or substituting a unit writes (R234, R712 to R720). -/
def Substitutes (s t : Device) : Prop :=
  ∃ (o : List Out) (n : Nat) (h : Hif) (d : Dpt) (a : Adc) (e : Evr) (p : Pmc) (r : Spr) (cs : Tab Nat) (sp : Nat),
    t = { s with out := o, draws := n, hif := h, dpt := d, adc := a, evr := e, pmc := p, spr := r,
                 pgm.cores := cs, pgm.spare := sp }

theorem Substitutes.refl (s : Device) : Substitutes s s := ⟨_, _, _, _, _, _, _, _, _, _, rfl⟩

theorem Substitutes.trans {s t u : Device} (h : Substitutes s t) (k : Substitutes t u) : Substitutes s u := by
  obtain ⟨_, _, _, _, _, _, _, _, _, _, rfl⟩ := h
  obtain ⟨_, _, _, _, _, _, _, _, _, _, rfl⟩ := k
  exact ⟨_, _, _, _, _, _, _, _, _, _, rfl⟩

theorem Substitutes.of_touches {s t : Device} (h : Touches s t) : Substitutes s t := by
  obtain ⟨_, _, _, _, rfl⟩ := h
  exact ⟨_, _, _, _, _, _, _, _, _, _, rfl⟩

theorem Substitutes.dpt (s : Device) (d : Dpt) : Substitutes s { s with dpt := d } := ⟨_, _, _, _, _, _, _, _, _, _, rfl⟩
theorem Substitutes.spr (s : Device) (r : Spr) : Substitutes s { s with spr := r } := ⟨_, _, _, _, _, _, _, _, _, _, rfl⟩

theorem Substitutes.lpe {s t : Device} (h : Substitutes s t) : t.lpe = s.lpe := by
  obtain ⟨_, _, _, _, _, _, _, _, _, _, rfl⟩ := h; rfl

theorem Substitutes.coreErr {s t : Device} (h : Substitutes s t) : t.pgm.coreErr = s.pgm.coreErr := by
  obtain ⟨_, _, _, _, _, _, _, _, _, _, rfl⟩ := h; rfl

theorem Substitutes.ite {c : Prop} [Decidable c] {s x y : Device} (h : Substitutes s x) (k : Substitutes s y) :
    Substitutes s (if c then x else y) := by
  split <;> assumption

theorem raise_substitutes (c : Nat) (fs : List (Nat × Nat)) (s : Device) : Substitutes s (raise c fs s) :=
  .of_touches (raise_touches c fs s)

theorem poolNotice_substitutes (pool : Nat) (s : Device) : Substitutes s (poolNotice pool s) := by
  unfold poolNotice
  split
  · exact raise_substitutes _ _ _
  · exact Substitutes.trans (t := (draw s).2) ⟨_, _, _, _, _, _, _, _, _, _, rfl⟩ (raise_substitutes _ _ _)
  · exact .refl s

theorem retestLoad_substitutes (s : Device) : Substitutes s (retestLoad s) := by
  unfold retestLoad
  split
  · exact .dpt _ _
  · exact (Substitutes.dpt _ _).trans (raise_substitutes _ _ _)

theorem fillLanes_substitutes (n : Nat) (s : Device) : Substitutes s (fillLanes n s) := by
  induction n generalizing s with
  | zero => exact .refl s
  | succ n ih =>
    unfold fillLanes
    refine .ite (.refl s) ?_
    split
    · exact .refl s
    · exact (Substitutes.dpt _ _).trans (ih _)

theorem refillLanes_substitutes (before : Nat) (s : Device) : Substitutes s (refillLanes before s) := by
  have hfill := fillLanes_substitutes 18 s
  have hnotice : Substitutes s (if (spares (fillLanes 18 s) 0).length < (spares s 0).length
      then poolNotice 0 (fillLanes 18 s) else fillLanes 18 s) :=
    .ite (hfill.trans (poolNotice_substitutes _ _)) hfill
  exact .ite hnotice (hnotice.trans (retestLoad_substitutes _))

theorem admitActivity_substitutes (code kind unit cause : Nat) (spare : Option Nat) (s : Device) :
    Substitutes s (admitActivity code kind unit cause spare s).2 := by
  unfold admitActivity
  split
  · exact .spr _ _
  · exact .spr _ _

theorem startSwap_substitutes (kind unit cause : Nat) (s : Device) : Substitutes s (startSwap kind unit cause s).2 := by
  have hadmit := admitActivity_substitutes 1 kind unit cause (spares s (poolOf kind unit)).head? s
  simp only [startSwap]
  split
  · split
    · exact hadmit.trans ⟨_, _, _, _, _, _, _, _, _, _, rfl⟩
    · exact hadmit
  · exact hadmit

theorem resubmit_substitutes (ks : List Nat) (s : Device) : Substitutes s (resubmit ks s) := by
  induction ks generalizing s with
  | nil => exact .refl s
  | cons k rest ih =>
    have hstart := startSwap_substitutes (k / 65536) (k % 65536) 2 s
    unfold resubmit
    split
    next heq => rw [heq] at hstart; exact hstart.trans ((Substitutes.spr _ _).trans (ih _))
    next heq => rw [heq] at hstart; exact hstart.trans (ih _)

theorem endActivity_substitutes (slot status : Nat) (s : Device) : Substitutes s (endActivity slot status s) := by
  unfold endActivity
  split
  · exact .refl s
  next a _ =>
    have hfreed : Substitutes s { s with spr.acts := tdel s.spr.acts slot } := .spr _ _
    have hfill := Substitutes.ite (c := a.code = 1 ∧ a.kind = 0)
      (hfreed.trans (refillLanes_substitutes s.dpt.active _)) hfreed
    refine .ite ?_ (hfill.trans (.spr _ _))
    exact hfill.trans ((raise_substitutes _ _ _).trans (resubmit_substitutes _ _))

theorem endOf_substitutes (code kind unit status : Nat) (s : Device) : Substitutes s (endOf code kind unit status s) := by
  unfold endOf
  split
  · exact endActivity_substitutes _ _ _
  · exact .refl s

theorem retire_substitutes (kind unit : Nat) (s : Device) : Substitutes s (retire kind unit s) := .spr _ _

theorem leavePool_substitutes (kind spare : Nat) (s : Device) : Substitutes s (leavePool kind spare s) := by
  unfold leavePool
  split
  · exact .dpt _ _
  · exact ⟨_, _, _, _, _, _, _, _, _, _, rfl⟩
  · exact .spr _ _
  · exact .spr _ _
  · exact .refl s

theorem swapDone_substitutes (kind unit spare cause : Nat) (s : Device) : Substitutes s (swapDone kind unit spare cause s) :=
  (Substitutes.spr _ _).trans ((retire_substitutes _ _ _).trans (raise_substitutes _ _ _))

theorem takeSpare_substitutes (kind unit : Nat) (s : Device) : Substitutes s (takeSpare kind unit s).2 := by
  simp only [takeSpare]
  split
  · exact leavePool_substitutes _ _ _
  · split
    · exact .refl s
    · split
      · exact (leavePool_substitutes _ _ _).trans (endActivity_substitutes _ _ _)
      · exact leavePool_substitutes _ _ _

/-- A fault-driven swap changes no more than that where putting the spare in service does not (R712). -/
theorem faultSwap_substitutes (kind unit : Nat) {install : Nat → Device → Device} (s : Device)
    (h : ∀ x u, Substitutes u (install x u)) : Substitutes s (faultSwap kind unit install s).2 := by
  have htake := (Substitutes.spr s { s.spr with deferred := s.spr.deferred.erase (unitKey kind unit) }).trans
    (takeSpare_substitutes kind unit _)
  unfold faultSwap
  split
  next x t heq =>
    rw [heq] at htake
    exact htake.trans ((h x t).trans ((swapDone_substitutes _ _ _ _ _).trans (poolNotice_substitutes _ _)))
  next t heq =>
    rw [heq] at htake
    have hretire : Substitutes t (if kind = 5 then t else retire kind unit t) :=
      .ite (.refl t) (retire_substitutes _ _ _)
    have hraise := raise_substitutes Ev.sprPoolEmpty [(1, kind), (2, unit)] (if kind = 5 then t else retire kind unit t)
    exact (htake.trans hretire).trans hraise

theorem faultLane_substitutes (l : Nat) (s : Device) : Substitutes s (faultLane l s) := by
  unfold faultLane
  refine .ite (.refl s) ?_
  refine (endOf_substitutes 1 0 l 1 s).trans (Substitutes.trans ?_ (refillLanes_substitutes _ _))
  exact (Substitutes.dpt _ _).trans (faultSwap_substitutes 0 l _ fun _ _ => .dpt _ _)

/-! ## Dispatch -/

theorem firingDispatch_of_empty {s : Device} (h : s.dpt.ready = []) : firingDispatch s = s := by
  simp [firingDispatch, h]

/-- The firing of the first entry that may leave takes the free lane (R171). -/
theorem firingDispatch_of_canLeave {e : ReadyEntry} {f : Firing} {l : Nat} {s u : Device}
    (hfind : s.dpt.ready.find? (canLeave s) = some e)
    (hloop : taskEngine { s with dpt.ready := s.dpt.ready.erase e } e.slot ≠ 6)
    (hlane : freeLane { s with dpt.ready := s.dpt.ready.erase e } s.dpt.active = some l) (hnew : e.again = none)
    (hbuild : buildFiring e { s with dpt.ready := s.dpt.ready.erase e } = (some f, u)) :
    firingDispatch s = { loopStarts e.slot u with dpt.lanes := tset u.dpt.lanes l f } := by
  simp only [firingDispatch, hfind, if_neg hloop, hlane, hnew, hbuild]

theorem tfind_tmap {α : Type} (t : Tab α) (f : Nat → α → α) (k : Nat) : tfind (tmap t f) k = (tfind t k).map (f k) := by
  induction t with
  | nil => rfl
  | cons x rest ih =>
    by_cases h : x.1 = k
    · simp [tmap, tfind, h]
    · simpa [tmap, tfind, h] using ih

/-- A dispatch hands the lanes their loops' records: which lanes have a firing is as the firing leaves it (R173). -/
theorem dispatchFiring_lanes_isSome (s : Device) (l : Nat) :
    (tfind (dispatchFiring s).dpt.lanes l).isSome = (tfind (firingDispatch s).dpt.lanes l).isSome := by
  simp [dispatchFiring, tfind_tmap]

theorem dispatchFiring_ready (s : Device) : (dispatchFiring s).dpt.ready = (firingDispatch s).dpt.ready := rfl

theorem dispatchFiring_of_empty {s : Device} (hready : s.dpt.ready = []) (hlanes : s.dpt.lanes = []) :
    dispatchFiring s = s := by
  have hkeep : (tmap s.dpt.lanes fun _ f => if f.cfg.isEmpty then captureLoop f s else f) = s.dpt.lanes := by
    rw [hlanes]; rfl
  simp only [dispatchFiring, firingDispatch_of_empty hready, hkeep]

/-! ## Evaluation -/

theorem loopEvaluation_of_idle {lane : Nat} {s : Device} (h : tfind s.dpt.lanes lane = none) :
    loopEvaluation lane s = s := by
  simp [loopEvaluation, h]

theorem loopEvaluation_of_firing {lane : Nat} {f : Firing} {s : Device} (h : tfind s.dpt.lanes lane = some f) :
    loopEvaluation lane s = pmcEdge 0x03 0x81 lane (evalLane lane heldValue s) := by
  simp [loopEvaluation, h]

/-- A firing that has lost its record is dropped, and its lane is free (R132). -/
theorem evalLane_of_lost {lane : Nat} {f : Firing} {s : Device} (h : tfind s.dpt.lanes lane = some f) (hcfg : f.cfg = []) :
    evalLane lane heldValue s = completeLane lane (versionDrop 0x03 f.version s) := by
  simp [evalLane, h, hcfg]

/-! ## Lane errors -/

theorem laneError_of_idle {l : Nat} (check : Nat) {s : Device} (h : tfind s.dpt.lanes l = none) : laneError l check s = s := by
  simp [laneError, h]

theorem laneError_of_first {l : Nat} (check : Nat) {f : Firing} {s : Device} (h : tfind s.dpt.lanes l = some f)
    (hfirst : f.reissued = false) :
    laneError l check s = dropLane l (reissueFlight l { f with reissued := true, failed := some l }
      (modTask f.slot (fun k => { k with run := .reissue })
        { laneErrorNoted l check f s with dpt.reissue := s.dpt.reissue + 1 })) := by
  simp [laneError, h, hfirst, laneErrorNoted]

@[simp] theorem modTask_reissue (slot : Nat) (f : Task → Task) (s : Device) :
    (modTask slot f s).dpt.reissue = s.dpt.reissue := rfl

@[simp] theorem reissueFlight_lpe (l : Nat) (f : Firing) (s : Device) : (reissueFlight l f s).lpe = s.lpe := by
  unfold reissueFlight
  split <;> simp [setReady]

@[simp] theorem reissueFlight_reissue (l : Nat) (f : Firing) (s : Device) :
    (reissueFlight l f s).dpt.reissue = s.dpt.reissue := by
  unfold reissueFlight
  split <;> simp [setReady]

/-! ## Core errors -/

theorem coreError_of_idle {c : Nat} {s : Device} (h : (coreOf s c).cyc = none) : coreError c s = s := by
  simp [coreError, h]

@[simp] theorem modProg_coreErr (p : Nat) (f : Prog → Prog) (s : Device) : (modProg p f s).pgm.coreErr = s.pgm.coreErr := rfl

@[simp] theorem modCore_coreErr (c : Nat) (f : Core → Core) (s : Device) : (modCore c f s).pgm.coreErr = s.pgm.coreErr := rfl

@[simp] theorem rollback_coreErr (y : Cycle) (s : Device) : (rollback y s).pgm.coreErr = s.pgm.coreErr := by
  unfold rollback
  split
  · split <;> simp
  · simp

@[simp] theorem enterNext_coreErr (c : Nat) (y : Cycle) (s : Device) : (enterNext c y s).pgm.coreErr = s.pgm.coreErr := by
  unfold enterNext
  split <;> simp [draw]

@[simp] theorem cycleAgain_coreErr (c : Nat) (y : Cycle) (s : Device) : (cycleAgain c y s).pgm.coreErr = s.pgm.coreErr := by
  simp [cycleAgain, draw]

@[simp] theorem faultProgram_coreErr (c cause : Nat) (y : Cycle) (s : Device) :
    (faultProgram c cause y s).pgm.coreErr = s.pgm.coreErr := by
  simp [faultProgram, freeCore]

@[simp] theorem loseCore_coreErr (c : Nat) (y : Cycle) (s : Device) : (loseCore c y s).pgm.coreErr = s.pgm.coreErr := by
  simp only [loseCore, raise_pgm]
  refine List.foldlRecOn (motive := fun t : Device => t.pgm.coreErr = s.pgm.coreErr) _ _ (by simp) fun t ht p _ => ?_
  split
  · exact ht
  · simpa using ht

/-- Either way, rerun on a spare or lost, the cycle's end counts no further error (R405). -/
theorem coreMoved_coreErr (c : Nat) (y : Cycle) (r : Option Nat × Device) :
    (coreMoved c y r).pgm.coreErr = r.2.pgm.coreErr := by
  obtain ⟨_ | x, s⟩ := r
  · simp only [coreMoved, loseCore_coreErr]
  · simp only [coreMoved, cycleAgain_coreErr]

theorem coreSwap_substitutes (c : Nat) (s : Device) : Substitutes s (coreSwap c s).2 :=
  faultSwap_substitutes _ _ _ fun _ _ => ⟨_, _, _, _, _, _, _, _, _, _, rfl⟩

/-- An error of a core with a cycle under way is counted once (R405, PGM_CORE_ERR). -/
theorem coreError_coreErr {c : Nat} {y : Cycle} {s : Device} (h : (coreOf s c).cyc = some y) :
    (coreError c s).pgm.coreErr = s.pgm.coreErr + 1 := by
  have hnoted : (coreErrorNoted c y s).pgm.coreErr = s.pgm.coreErr + 1 := by
    rw [coreErrorNoted, (endOf_substitutes _ _ _ _ _).coreErr, raise_pgm]
  simp only [coreError, h]
  rw [coreMoved_coreErr, (coreSwap_substitutes c _).coreErr, hnoted]

/-! ## The enables of the lanes -/

/-- What a write of LPE_LANE_EN from `old` to `new` does to lane `l` (R234). -/
def laneEnChange (old new : Nat) (s : Device) (l : Nat) : Device :=
  if bit l old && !bit l new then
    if bit l s.dpt.active then faultLane l s
    else if bit l s.dpt.spare then poolNotice 0 { s with dpt.spare := s.dpt.spare - 2 ^ l }
    else s
  else if !bit l old && bit l new && !bit l s.dpt.active && !bit l s.dpt.spare then
    { s with dpt.spare := s.dpt.spare + 2 ^ l, spr.retired := s.spr.retired.erase (unitKey 0 l) }
  else s

theorem laneEnChange_same (m : Nat) (s : Device) (l : Nat) : laneEnChange m m s l = s := by
  simp [laneEnChange]

theorem laneEnChange_substitutes (old new : Nat) (s : Device) (l : Nat) : Substitutes s (laneEnChange old new s l) := by
  unfold laneEnChange
  refine .ite (.ite (faultLane_substitutes l s) (.ite ?_ (.refl s))) (.ite ?_ (.refl s))
  · exact (Substitutes.dpt _ _).trans (poolNotice_substitutes _ _)
  · exact ⟨_, _, _, _, _, _, _, _, _, _, rfl⟩

/-- A write of 32 or 64 bits at offset 0 carries its low 32 bits (R52). -/
theorem doorbellWord_of_valid {b : BusWrite} (hoff : b.off = 0) (hwidth : b.width = 4 ∨ b.width = 8) :
    doorbellWord b = some (b.value.toNat % 2 ^ 32) :=
  if_pos ⟨hoff, hwidth⟩

theorem laneEnWrite_of_word {b : BusWrite} {v : Nat} {s : Device} (hword : doorbellWord b = some v)
    (hup : s.btr.spireUp = true) :
    laneEnWrite b s = refillLanes s.dpt.active ((List.range 18).foldl (laneEnChange s.lpe.laneEn (v % 2 ^ 18))
      (hazard 0x3000C { s with lpe.laneEn := v % 2 ^ 18 })) := by
  simp only [laneEnWrite, hword, spireWrite, if_pos hup]
  rfl

theorem hazard_lpe (off : Nat) (s : Device) : (hazard off s).lpe = s.lpe := by
  unfold hazard
  split <;> rfl

theorem laneEnWrite_laneEn {b : BusWrite} {v : Nat} {s : Device} (hword : doorbellWord b = some v)
    (hup : s.btr.spireUp = true) : (laneEnWrite b s).lpe.laneEn = v % 2 ^ 18 := by
  rw [laneEnWrite_of_word hword hup, (refillLanes_substitutes _ _).lpe]
  have hfold : Substitutes (hazard 0x3000C { s with lpe.laneEn := v % 2 ^ 18 })
      ((List.range 18).foldl (laneEnChange s.lpe.laneEn (v % 2 ^ 18))
        (hazard 0x3000C { s with lpe.laneEn := v % 2 ^ 18 })) :=
    List.foldlRecOn _ _ (.refl _) fun t ht l _ => ht.trans (laneEnChange_substitutes _ _ t l)
  rw [hfold.lpe, hazard_lpe]

/-- A write that changes no bit counts as a write of a hazard register and fills what stands empty (R234, R751). -/
theorem laneEnWrite_of_same {b : BusWrite} {v : Nat} {s : Device} (hword : doorbellWord b = some v)
    (hup : s.btr.spireUp = true) (hsame : v % 2 ^ 18 = s.lpe.laneEn) :
    laneEnWrite b s = refillLanes s.dpt.active (hazard 0x3000C s) := by
  have hfold : ∀ t, (List.range 18).foldl (laneEnChange s.lpe.laneEn s.lpe.laneEn) t = t := fun t =>
    List.foldlRecOn (motive := (· = t)) _ _ rfl fun u hu l _ => (laneEnChange_same _ u l).trans hu
  rw [laneEnWrite_of_word hword hup, hsame, hfold]

/-! ## The statement -/

/-- Settles O21, row by row. What an error of a core or a write of LPE_LANE_EN sets off in the reserves stays within
`Substitutes`, so that PGM_CORE_ERR and the enables keep what the row itself has written. -/
theorem firingsRun : Obligations.FiringsRun := by
  unfold Obligations.FiringsRun
  refine ⟨?empty, ?leaves, ?lost, ?evaluates, ?first, ?idleLane, ?idleCore, ?core, ?same, ?written⟩
  case empty =>
    intro s hready hlanes
    rw [exec_firingDispatch, execFiringDispatch, dispatchFiring_of_empty hready hlanes]
  case leaves =>
    intro e f l u s hfind hloop hlane hnew hbuild
    refine ⟨dispatchFiring s.dev, rfl, ?_⟩
    rw [dispatchFiring_ready, dispatchFiring_lanes_isSome, firingDispatch_of_canLeave hfind hloop hlane hnew hbuild]
    simp [loopStarts]
  case lost =>
    intro lane f s hf hcfg
    rw [exec_loopEvaluation, execLoopEvaluation, loopEvaluation_of_firing hf, evalLane_of_lost hf hcfg]
  case evaluates =>
    intro lane f s hf _
    refine ⟨evalLane lane heldValue s.dev, ?_, rfl⟩
    rw [exec_loopEvaluation, execLoopEvaluation, loopEvaluation_of_firing hf]
  case first =>
    intro l check f s hf hfirst
    refine ⟨_, by rw [exec_laneError, execLaneError, laneError_of_first check hf hfirst], ?_⟩
    simp only [reissueFlight_lpe, reissueFlight_reissue, modTask_lpe, modTask_reissue, laneErrorNoted, raise_lpe, raise_dpt,
      and_self]
  case idleLane =>
    intro l check s hidle
    constructor
    · rw [exec_laneError, execLaneError, laneError_of_idle check hidle]
    · rw [exec_loopEvaluation, execLoopEvaluation, loopEvaluation_of_idle hidle]
  case idleCore =>
    intro c s hidle
    rw [exec_coreError, execCoreError, coreError_of_idle hidle]
  case core =>
    intro c y s hcyc
    exact ⟨coreError c s.dev, rfl, coreError_coreErr hcyc⟩
  case same =>
    intro b s hoff hwidth hup hsame
    have hbits : b.value.toNat % 2 ^ 32 % 2 ^ 18 = s.dev.lpe.laneEn :=
      (Nat.mod_mod_of_dvd _ (by decide)).trans hsame
    rw [exec_lpeLaneEnWrite, execLpeLaneEnWrite,
      laneEnWrite_of_same (doorbellWord_of_valid hoff (.inl hwidth)) hup hbits]
  case written =>
    intro b s hoff hwidth hup
    refine ⟨laneEnWrite b s.dev, rfl, ?_⟩
    exact (laneEnWrite_laneEn (doorbellWord_of_valid hoff hwidth) hup).trans (Nat.mod_mod_of_dvd _ (by decide))

end Sys2Proof.Proofs.DispatchMatching
end

section
/-!
The opening, the parts and the report of a cut (04_dispatch_matching, 15_keep_restart).
-/
namespace Sys2Proof.Proofs.DispatchMatching
open Sys2Proof Sys2Proof.Machine Sys2Proof.Laws

/-! ## The boundary of an epoch -/

/-- A boundary not handled yet opens the cut of the next epoch, for Dispatch and for the Keep (R178, R596). -/
theorem epochBoundary_of_due {s : Device} (hj : s.kep.journalOn = true) (hm : s.cfg.mode = .running)
    (hup : s.btr.spireUp = true) (hcut : s.kep.cut = none) (hfull : s.kep.needFull = false) (hlen : epochLen s ≠ 0)
    (hlast : s.kep.lastBoundary < nowS s / epochLen s * epochLen s) :
    (epochBoundary s).dpt.cut = some { epoch := s.kep.nextEpoch, te := nowS s / epochLen s * epochLen s } ∧
    (epochBoundary s).kep.nextEpoch = s.kep.nextEpoch + 1 ∧
    (epochBoundary s).kep.lastBoundary = nowS s / epochLen s * epochLen s ∧
    (epochBoundary s).kep.cut.isSome = true ∧ (epochBoundary s).saf = s.saf ∧ (epochBoundary s).hif = s.hif := by
  have hnew : ¬nowS s / epochLen s * epochLen s ≤ s.kep.lastBoundary := Nat.not_le.mpr hlast
  simp [epochBoundary, hj, hm, hup, hcut, hfull, hlen, hnew]

theorem epochBoundary_of_open {s : Device} (h : s.kep.cut.isSome = true) : epochBoundary s = s := by
  simp [epochBoundary, h]

/-! ## Markers and captures -/

/-- The marker of a silent stream that is no program's passes once no token of it is on its way (R178, R808). -/
theorem markerTimeout_of_due {source slot operand : Nat} {c : DptCut} {s : Device} (hcut : s.dpt.cut = some c)
    (hdue : (srcStreams s c.te).any
      (fun q => q.key == streamKey source slot operand && q.prod.isNone && decide (q.due ≤ nowS s)) = true)
    (hfly : s.dpt.inflight = []) (hsrc : source / 256 ≠ 4) :
    markerTimeout source slot operand s = passMarker (streamKey source slot operand) s := by
  have hbusy : (source / 256 == 4) = false := by simpa using hsrc
  simp only [markerTimeout, hcut, hdue, hfly, hbusy]
  simp

/-- A capturable data task is captured, and the lane counts 80,000 ps of BUSY (R179). -/
theorem taskCapture_of_capturable {slot l : Nat} {c : DptCut} {s : Device} (hcut : s.dpt.cut = some c)
    (hlane : freeLane s s.dpt.active = some l) (hen : taskEnabled (recNow s 0x02 1 slot) = true)
    (hdata : taskProgram (recNow s 0x02 1 slot) = false) (hnot : (taskOf s slot).captured = false)
    (hcap : capturable s c slot = true) :
    taskCapture slot s =
      { modTask slot (fun k => { k with captured := true }) (captureTask c slot s) with
        pmc.cum := tmod (modTask slot (fun k => { k with captured := true }) (captureTask c slot s)).pmc.cum
          (pmcKey 0x03 0x80 l true) 0 (· + 80000) } := by
  simp [taskCapture, hcut, hlane, hen, hdata, hnot, hcap]

/-! ## The report of Dispatch -/

/-- With every data task captured and every marker passed, the dispatch part is reported (R180). -/
theorem cutReport_of_ready {c : DptCut} {s : Device} (hcut : s.dpt.cut = some c) (hrep : c.reported = false)
    (htasks : (dataTasks s).all (fun n => (taskOf s n).captured) = true)
    (hstreams : (srcStreams s c.te).all (streamPassed s c) = true) :
    (cutReport s).dpt.epoch = BitVec.ofNat 32 c.epoch ∧
    (cutReport s).dpt.cut = some { c with reported := true } := by
  simp only [cutReport, hcut, hrep, htasks, hstreams]
  simp

/-- A WAITING task that holds a primary older than T_e one epoch after T_e is named once (R180). -/
theorem cutPending_of_due {slot : Nat} {c : DptCut} {s : Device} (hcut : s.dpt.cut = some c)
    (hnew : c.pending.contains slot = false) (hdue : c.te + epochLen s ≤ nowS s)
    (hwait : (taskOf s slot).run = .waiting) (hold : (taskOf s slot).prim.any (fun p => decide (p.time < c.te)) = true) :
    cutPending slot s = raise Ev.dptCutPending [lo32 c.epoch, (2, slot)]
      { s with dpt.cut := some { c with pending := c.pending ++ [slot] } } := by
  have hpast : ¬nowS s < c.te + epochLen s := Nat.not_lt.mpr hdue
  simp only [cutPending, hcut, hnew, hwait, hold]
  simp [hpast]

/-! ## The parts -/

/-- `t` differs from `s` at most in the image that the open cut holds and in which programs are captured. -/
def TakesImage (s t : Device) : Prop :=
  ∃ (i : KepCut → KepImage) (g : Tab Prog),
    t = { s with kep.cut := s.kep.cut.map (fun k => { k with img := i k }), pgm.progs := g }

theorem TakesImage.refl (s : Device) : TakesImage s s := ⟨KepCut.img, s.pgm.progs, by simp⟩

theorem TakesImage.trans {s t u : Device} (h : TakesImage s t) (k : TakesImage t u) : TakesImage s u := by
  obtain ⟨i, g, rfl⟩ := h
  obtain ⟨j, g', rfl⟩ := k
  exact ⟨fun k => j { k with img := i k }, g', by simp [Function.comp_def]⟩

theorem TakesImage.dpt {s t : Device} (h : TakesImage s t) : t.dpt = s.dpt := by obtain ⟨_, _, rfl⟩ := h; rfl

theorem TakesImage.journal {s t : Device} (h : TakesImage s t) : t.kep.journal = s.kep.journal := by
  obtain ⟨_, _, rfl⟩ := h; rfl

theorem TakesImage.cut {s t : Device} {k : KepCut} (h : TakesImage s t) (hk : s.kep.cut = some k) :
    ∃ i, t.kep.cut = some { k with img := i } := by
  obtain ⟨i, _, rfl⟩ := h
  exact ⟨i k, by simp [hk]⟩

theorem modCut_takesImage (f : KepImage → KepImage) (s : Device) : TakesImage s (modCut f s) :=
  ⟨fun k => f k.img, s.pgm.progs, rfl⟩

theorem capturePgm_takesImage (p : Nat) (s : Device) : TakesImage s (capturePgm p s) := by
  unfold capturePgm
  split
  · exact .refl s
  next k hk =>
    dsimp only
    split
    · exact .refl s
    · exact ⟨fun k => { k.img with progs := tset k.img.progs p _ }, _, by rw [hk]; rfl⟩

/-- Whatever the part, taking it changes nothing but the image of the open cut and the marks of its programs (R593). -/
theorem takePart_takesImage (blk : Nat) (s : Device) : TakesImage s (takePart blk s) := by
  unfold takePart
  split
  · exact modCut_takesImage _ _
  · exact modCut_takesImage _ _
  · exact List.foldlRecOn _ _ (.refl s) fun t ht p _ => ht.trans (capturePgm_takesImage p t)
  · exact ⟨_, s.pgm.progs, rfl⟩
  · exact modCut_takesImage _ _
  · exact .refl s

/-- Drawing a part changes the open cut alone: the part joins those that are ready (R594). -/
theorem drawPart_of_cut (blk : Nat) {k : KepCut} {s : Device} (hk : s.kep.cut = some k) :
    ∃ ps, drawPart blk s = { s with kep.cut := some { k with ready := k.ready ++ [blk], parts := ps } } := by
  simp only [drawPart, hk]
  exact ⟨_, rfl⟩

theorem cutPart_of_not_ready {blk : Nat} (bad : List Nat) {k : KepCut} {s : Device} (hk : s.kep.cut = some k)
    (h : k.ready.contains blk = true ∨ partReady blk k s = false) : cutPart blk bad s = s := by
  simp only [cutPart, hk]
  rw [if_pos (by simpa using h)]

/-- A part that is ready joins the cut, whose epoch, T_e and kind stay; journal and Dispatch stay (R593, R594). -/
theorem cutPart_of_ready {blk : Nat} {k : KepCut} {s : Device} (hk : s.kep.cut = some k)
    (hnew : k.ready.contains blk = false) (hready : partReady blk k s = true) :
    ∃ q, (cutPart blk [] s).kep.cut = some q ∧ q.ready = k.ready ++ [blk] ∧ q.epoch = k.epoch ∧ q.te = k.te ∧
      q.full = k.full ∧ (cutPart blk [] s).kep.journal = s.kep.journal ∧ (cutPart blk [] s).dpt = s.dpt := by
  have htake := takePart_takesImage blk s
  obtain ⟨i, hcut⟩ := htake.cut hk
  obtain ⟨ps, hdraw⟩ := drawPart_of_cut blk hcut
  have hpart : cutPart blk [] s = drawPart blk (takePart blk s) := by
    simp only [cutPart, hk, hnew, hready]
    simp
  rw [hpart, hdraw]
  exact ⟨_, rfl, rfl, rfl, rfl, rfl, htake.journal, htake.dpt⟩

/-! ## The statement -/

/-- Settles O24, row by row. Taking a part adds to the image of the cut alone (`TakesImage`), so that its epoch, T_e and kind
stay as the boundary set them. -/
theorem cutsOpenAndClose : Obligations.CutsOpenAndClose := by
  unfold Obligations.CutsOpenAndClose
  refine ⟨?opens, ?isOpen, ?marker, ?capture, ?report, ?pending, ?stays, ?joins⟩
  case opens =>
    intro s hj hm hup hcut hfull hlen hlast
    exact ⟨epochBoundary s.dev, rfl, epochBoundary_of_due hj hm hup hcut hfull hlen hlast⟩
  case isOpen =>
    intro s hcut
    rw [exec_epochBoundary, execEpochBoundary, epochBoundary_of_open hcut]
  case marker =>
    intro source slot operand c s hcut hdue hfly hsrc
    rw [exec_epochMarkerTimeout, execEpochMarkerTimeout, markerTimeout_of_due hcut hdue hfly hsrc]
  case capture =>
    intro slot l c s hcut hlane hen hdata hnot hcap
    refine ⟨_, ?_, rfl⟩
    rw [exec_taskCapture, execTaskCapture, taskCapture_of_capturable hcut hlane hen hdata hnot hcap]
  case report =>
    intro c s hcut hrep htasks hstreams
    exact ⟨cutReport s.dev, rfl, cutReport_of_ready hcut hrep htasks hstreams⟩
  case pending =>
    intro slot c s hcut hnew hdue hwait hold
    rw [exec_dptCutPending, execDptCutPending, cutPending_of_due hcut hnew hdue hwait hold]
  case stays =>
    intro blk bad k s hk h
    rw [exec_cutPartReady, execCutPartReady, cutPart_of_not_ready bad hk h]
  case joins =>
    intro blk k s hk hnew hready
    obtain ⟨q, hq⟩ := cutPart_of_ready hk hnew hready
    exact ⟨cutPart blk [] s.dev, q, rfl, hq⟩

end Sys2Proof.Proofs.DispatchMatching
end

section
/-!
Servo ticks, firings of the motion engine and limit switches (09_motion).
-/
namespace Sys2Proof.Proofs.Motion
open Sys2Proof Sys2Proof.Machine Sys2Proof.Laws

/-! ## Axes and their limits -/

@[simp] theorem axisOf_modAxis_same (a : Nat) (f : Axis → Axis) (s : Device) :
    axisOf (modAxis a f s) a = f (axisOf s a) := by
  simp [axisOf, modAxis]

@[simp] theorem axisOf_raise (a c : Nat) (fs : List (Nat × Nat)) (s : Device) :
    axisOf (raise c fs s) a = axisOf s a := by
  simp [axisOf]

@[simp] theorem axisOf_setAxMode (a : Nat) (m : AxMode) (s : Device) :
    axisOf (setAxMode a m s) a = { axisOf s a with mode := m } := by
  simp only [setAxMode]
  split
  next h => rw [← h]
  next => simp

@[simp] theorem setAxMode_ccr (a : Nat) (m : AxMode) (s : Device) : (setAxMode a m s).ccr = s.ccr := by
  simp only [setAxMode]
  split
  · rfl
  · simp

@[simp] theorem axLim_modLim_same (a : Nat) (pos : Bool) (f : Limit → Limit) (s : Device) :
    axLim (axisOf (modLim a pos f s) a) pos = f (axLim (axisOf s a) pos) := by
  cases pos <;> simp [axLim, modLim]

@[simp] theorem axisOf_limIgn (a : Nat) (n : Word) (s : Device) :
    axisOf { s with mot.limIgn := n } a = axisOf s a := rfl

@[simp] theorem pinLevel_modLim (a n : Nat) (pos : Bool) (f : Limit → Limit) (s : Device) :
    pinLevel (modLim a pos f s) n = pinLevel s n := rfl

/-! ## The servo tick -/

/-- A period start that is due sends the axis its tick (R340). -/
theorem servoTick_of_due {a : Nat} {s : Device} (hrec : axRec s a ≠ []) (hmode : s.cfg.mode ≠ .unconfigured)
    (hdue : nowD s / servo (axRec s a) * servo (axRec s a) ≠ (axisOf s a).tickAt) :
    servoTick a s = sendToken {
        time := nowD s / servo (axRec s a) * servo (axRec s a)
        version := versionAt s (nowD s / servo (axRec s a) * servo (axRec s a))
        slot := axisSlot s a, operand := 0, source := 0x0B80 + a, value := 0 }
      (modAxis a (fun x => { x with tickAt := nowD s / servo (axRec s a) * servo (axRec s a) }) s) := by
  simp [servoTick, hrec, hmode, hdue]

theorem servoTick_of_no_record {a : Nat} {s : Device} (h : axRec s a = []) : servoTick a s = s := by
  simp [servoTick, h]

/-! ## The stages of a period that leave an axis at rest alone

Each names the one field of the axis, or of its record, that keeps its stage from acting. -/

section Stages
variable {a : Nat} {s : Device} (b : List Byte) (t : STime)

theorem advanceAxis_of_no_plan (h : (axisOf s a).plan = none) : advanceAxis a b t s = s := by
  simp [advanceAxis, h]

theorem endOfPlan_of_disabled (h : (axisOf s a).mode = .disabled) : endOfPlan a b t s = s := by
  simp [endOfPlan, h]

/-- ENABLE takes a DISABLED axis to STANDSTILL (Table MOT-3). -/
theorem enableAxis_of_disabled {b : List Byte} (hen : bit 0 (fld 0 1 b) = true) (h : (axisOf s a).mode = .disabled) :
    enableAxis a b t s = setAxMode a .standstill s := by
  simp [enableAxis, hen, h]

theorem stopAxis_of_no_request (h : (axisOf s a).stopReq = none) : stopAxis a b t s = s := by
  simp [stopAxis, h]

theorem feedbackAxis_of_no_source {b : List Byte} (op : Option OpIn) (h : fld 2 1 b = 0) :
    feedbackAxis a b t op s = s := by
  simp [feedbackAxis, h]

theorem latchLimit_of_unqualified {pos : Bool} (h : (axLim (axisOf s a) pos).qual = none) :
    latchLimit a b t pos s = s := by
  simp [latchLimit, h]

theorem clearLatch_of_unlatched {pos : Bool} (h : (axLim (axisOf s a) pos).latch = none) :
    clearLatch a b pos s = s := by
  simp [clearLatch, h]

theorem stallAxis_of_no_stall (h : (axisOf s a).stall = none) : stallAxis a b t s = s := by
  simp [stallAxis, h]

theorem targetAxis_of_no_operand : targetAxis a b none s = s := by
  simp [targetAxis]

theorem replanAxis_of_standstill (hmode : (axisOf s a).mode = .standstill) (hplan : (axisOf s a).plan = none)
    (htarget : (axisOf s a).target = none) : replanAxis a b t s = s := by
  have hclamp : reclamp a b s = s := by simp [reclamp, htarget]
  simp [replanAxis, emRunning, hmode, hplan, hclamp, replanMove, htarget]

end Stages

/-! ## The set-point -/

/-- Without a destination the set-point only enters the axis: its state stays, and no drive sees it (R343, R359). -/
theorem emitAxis_of_no_destination (a : Nat) {b : List Byte} (t : STime) (ver : Nat) (s : Device) (h : fld 1 1 b = 0) :
    (axisOf (emitAxis a b t ver s) a).mode = (axisOf s a).mode ∧
    (axisOf (emitAxis a b t ver s) a).q = ssat 32 (fRoundInt (fSub (axisOf s a).p (axisOf s a).hofs)) ∧
    (emitAxis a b t ver s).ccr = s.ccr := by
  simp [emitAxis, h]

/-! ## The end of a firing -/

theorem makeReady_changes_dpt (e : ReadyEntry) (s : Device) : ∃ d, makeReady e s = { s with dpt := d } := ⟨_, rfl⟩

theorem checkReady_changes_dpt (slot : Nat) (s : Device) : ∃ d, checkReady slot s = { s with dpt := d } := by
  simp only [checkReady]
  split
  · exact ⟨s.dpt, rfl⟩
  · split
    · exact makeReady_changes_dpt _ _
    · exact ⟨s.dpt, rfl⟩

/-- The end of a firing moves its task on and nothing outside Dispatch (R157, R166). -/
theorem afterFiring_changes_dpt (slot : Nat) (s : Device) : ∃ d, afterFiring slot s = { s with dpt := d } := by
  simp only [afterFiring]
  split
  · split
    · exact makeReady_changes_dpt _ _
    · exact checkReady_changes_dpt _ _
  · exact checkReady_changes_dpt _ _

@[simp] theorem axisOf_afterFiring (slot a : Nat) (s : Device) : axisOf (afterFiring slot s) a = axisOf s a := by
  obtain ⟨d, h⟩ := afterFiring_changes_dpt slot s
  rw [h]; rfl

@[simp] theorem afterFiring_ccr (slot : Nat) (s : Device) : (afterFiring slot s).ccr = s.ccr := by
  obtain ⟨d, h⟩ := afterFiring_changes_dpt slot s
  rw [h]

/-! ## Firings of the motion engine -/

theorem motionFiring_of_empty {s : Device} (h : s.dpt.mot = []) : motionFiring s = s := by
  simp [motionFiring, h]

section Firing
variable {f : Firing} {rest : List Firing} {s : Device}

/-- A firing that has lost its record is dropped by version (R132). -/
theorem motionFiring_of_lost (hmot : s.dpt.mot = f :: rest)
    (hrec : recAt s 0x06 1 (fld 2 2 (recNow s 0x02 1 f.slot)) f.time = none) :
    motionFiring s = afterFiring f.slot (versionDrop 0x06 f.version { s with dpt.mot := rest }) := by
  have hlost : recAt { s with dpt.mot := rest } 0x06 1 (fld 2 2 (recNow s 0x02 1 f.slot)) f.time = none := hrec
  simp [motionFiring, hmot, hlost]

/-- The first firing of an enabled axis without feedback or operands: of all the stages of the period only ENABLE and
the set-point act (R343, Table MOT-3). -/
theorem motionFiring_of_first {a : Nat} {b : List Byte} (hmot : s.dpt.mot = f :: rest)
    (ha : fld 2 2 (recNow s 0x02 1 f.slot) = a) (hrec : recAt s 0x06 1 a f.time = some b)
    (hen : bit 0 (fld 0 1 b) = true) (hfb : fld 2 1 b = 0) (hax : axisOf s a = {}) (hops : f.ops = []) :
    motionFiring s = afterFiring f.slot (emitAxis a b f.time f.version
      (setAxMode a .standstill { s with dpt.mot := rest })) := by
  have hkept : recAt { s with dpt.mot := rest } 0x06 1 a f.time = some b := hrec
  have hreset : axisOf { s with dpt.mot := rest } a = {} := hax
  have hop : ∀ n, opOf f.ops n = none := fun n => by rw [hops]; rfl
  simp only [motionFiring, hmot, ha, hkept, hop]
  have hstand : axisOf (setAxMode a .standstill { s with dpt.mot := rest }) a = { mode := .standstill } := by
    rw [axisOf_setAxMode, hreset]
  rw [advanceAxis_of_no_plan b f.time (by rw [hreset]), ite_self,
    endOfPlan_of_disabled b f.time (by rw [hreset]), enableAxis_of_disabled f.time hen (by rw [hreset]),
    stopAxis_of_no_request b f.time (by rw [hstand]), feedbackAxis_of_no_source f.time none hfb,
    latchLimit_of_unqualified b f.time (pos := false) (by rw [hstand]; rfl),
    latchLimit_of_unqualified b f.time (pos := true) (by rw [hstand]; rfl),
    clearLatch_of_unlatched b (pos := false) (by rw [hstand]; rfl),
    clearLatch_of_unlatched b (pos := true) (by rw [hstand]; rfl),
    stallAxis_of_no_stall b f.time (by rw [hstand]), targetAxis_of_no_operand,
    replanAxis_of_standstill b f.time (by rw [hstand]) (by rw [hstand]) (by rw [hstand])]

end Firing

/-! ## Limit switches -/

section PinChange
variable {a : Nat} {pos : Bool} {s : Device} (hrec : axRec s a ≠ []) (hpin : limPin (axRec s a) pos ≠ 0xFF)
  (hnew : (axLim (axisOf s a) pos).seen < (pinOf s (limPin (axRec s a) pos)).edgeAt)
include hrec hpin hnew

theorem limitPinGuard_eq_false : (axRec s a = [] || limPin (axRec s a) pos = 0xFF ||
    (pinOf s (limPin (axRec s a) pos)).edgeAt ≤ (axLim (axisOf s a) pos).seen : Bool) = false := by
  simp [hrec, hpin, hnew]

theorem limitPinChange_of_active (hlatch : (axLim (axisOf s a) pos).latch = none)
    (hlevel : pinLevel s (limPin (axRec s a) pos) = true) :
    limitPinChange a pos s = modLim a pos (fun l => { l with pend := some (pinOf s (limPin (axRec s a) pos)).edgeAt })
      (modLim a pos (fun l => { l with seen := (pinOf s (limPin (axRec s a) pos)).edgeAt }) s) := by
  simp [limitPinChange, limitPinGuard_eq_false hrec hpin hnew, hlatch, hlevel]

/-- An activation that ends before its qualification is counted as chatter (R355). -/
theorem limitPinChange_of_ended {e : STime} (hlatch : (axLim (axisOf s a) pos).latch = none)
    (hlevel : pinLevel s (limPin (axRec s a) pos) = false) (hpend : (axLim (axisOf s a) pos).pend = some e) :
    limitPinChange a pos s = modLim a pos (fun l => { l with pend := none })
      { modLim a pos (fun l => { l with seen := (pinOf s (limPin (axRec s a) pos)).edgeAt }) s with
        mot.limChat := s.mot.limChat + 1 } := by
  simp only [limitPinChange, limitPinGuard_eq_false hrec hpin hnew, hlatch, pinLevel_modLim, hlevel, hpend]
  rfl

theorem limitPinChange_of_latched {p : Int} (hlatch : (axLim (axisOf s a) pos).latch = some p) :
    limitPinChange a pos s =
      { modLim a pos (fun l => { l with seen := (pinOf s (limPin (axRec s a) pos)).edgeAt }) s with
        mot.limIgn := s.mot.limIgn + 1 } := by
  simp only [limitPinChange, limitPinGuard_eq_false hrec hpin hnew, hlatch]
  rfl

end PinChange

section Qualification
variable {a : Nat} {pos : Bool} {s : Device}

theorem limitQualify_of_due {e : STime} (hpend : (axLim (axisOf s a) pos).pend = some e)
    (hdue : e + usT (fld 46 2 (axRec s a)) ≤ nowD s) (hlevel : pinLevel s (limPin (axRec s a) pos) = true) :
    limitQualify a pos s = modLim a pos (fun l => { l with pend := none, qual := some e }) s := by
  simp [limitQualify, hpend, hlevel, Nat.not_lt.mpr hdue]

theorem limitQualify_of_early {e : STime} (hpend : (axLim (axisOf s a) pos).pend = some e)
    (hearly : nowD s < e + usT (fld 46 2 (axRec s a))) : limitQualify a pos s = s := by
  simp [limitQualify, hpend, hearly]

end Qualification

/-! ## The statement -/

/-- Settles O41, row by row. For the first firing every stage of the period but ENABLE and the set-point finds nothing
to do (`motionFiring_of_first`), and position and HOFS are still 0. -/
theorem axesMove : Obligations.AxesMove := by
  unfold Obligations.AxesMove
  refine ⟨?tick, ?noRecord, ?noFiring, ?lost, ?first, ?begins, ?ends, ?latched, ?qualifies, ?early⟩
  case tick =>
    intro a s hrec hmode hdue
    rw [exec_servoTick, execServoTick, servoTick_of_due hrec hmode hdue]
  case noRecord =>
    intro a s hrec
    rw [exec_servoTick, execServoTick, servoTick_of_no_record hrec]
  case noFiring =>
    intro s hmot
    rw [exec_motionFiring, execMotionFiring, motionFiring_of_empty hmot]
  case lost =>
    intro f rest s hmot hrec
    rw [exec_motionFiring, execMotionFiring, motionFiring_of_lost hmot hrec]
  case first =>
    intro f rest a b s hmot ha hrec hen hdest hfb hax hops
    refine ⟨_, by rw [exec_motionFiring, execMotionFiring, motionFiring_of_first hmot ha hrec hen hfb hax hops], ?_⟩
    have hreset : axisOf { s.dev with dpt.mot := rest } a = {} := hax
    obtain ⟨hmode, hq, hccr⟩ := emitAxis_of_no_destination a f.time f.version
      (setAxMode a .standstill { s.dev with dpt.mot := rest }) hdest
    rw [axisOf_afterFiring, afterFiring_ccr, hmode, hq, hccr, axisOf_setAxMode, hreset, setAxMode_ccr]
    exact ⟨rfl, by decide, rfl⟩
  case begins =>
    intro a pos s hrec hpin hnew hlatch hlevel
    rw [exec_limitPinChange, execLimitPinChange, limitPinChange_of_active hrec hpin hnew hlatch hlevel]
  case ends =>
    intro a pos e s hrec hpin hnew hlatch hlevel hpend
    refine ⟨limitPinChange a pos s.dev, rfl, ?_⟩
    rw [limitPinChange_of_ended hrec hpin hnew hlatch hlevel hpend, axLim_modLim_same]
    exact ⟨rfl, rfl⟩
  case latched =>
    intro a pos l s hrec hpin hnew hlatch
    refine ⟨limitPinChange a pos s.dev, rfl, ?_⟩
    rw [limitPinChange_of_latched hrec hpin hnew hlatch, axisOf_limIgn, axLim_modLim_same]
    exact ⟨rfl, hlatch⟩
  case qualifies =>
    intro a pos e s hpend hdue hlevel
    rw [exec_limitQualification, execLimitQualification, limitQualify_of_due hpend hdue hlevel]
  case early =>
    intro a pos e s hpend hearly
    rw [exec_limitQualification, execLimitQualification, limitQualify_of_early hpend hearly]

end Sys2Proof.Proofs.Motion
end

section
/-!
The instructions of a core: the row that runs one, and the function blocks (10_program_execution).
-/
namespace Sys2Proof.Proofs.ProgramExecution
open Sys2Proof Sys2Proof.Machine Sys2Proof.Laws

/-! ## One instruction -/

theorem runInstr_of_idle {c : Nat} (want : Rv → Bool) {s : Device} (h : (coreOf s c).cyc = none) :
    runInstr c want s = s := by
  simp [runInstr, h]

/-- The row of a wanted instruction that does not fault gives what the instruction gives (R385). -/
theorem runInstr_of_ok {c rd v pc len : Nat} {want : Rv → Bool} {i : Rv} {y : Cycle} {ws : List (Nat × List Byte)}
    {s : Device} (hcyc : (coreOf s c).cyc = some y) (hend : y.ended = false)
    (hfetch : fetchInstr (progOf s y.prog) y = .ok (i, len)) (hwant : want i = true)
    (hexec : cpuExec (progOf s y.prog) y (coreOf s c) i len = .ok rd v pc ws) :
    runInstr c want s = applyInstr c y rd v pc ws s := by
  simp [runInstr, hcyc, hend, hfetch, hwant, hexec]

/-- The row of a function-block instruction runs the one that stands at the pc (R407). -/
theorem runInstr_of_fb {c f f7 rd rd' a b len v pc : Nat} {y : Cycle} {ws : List (Nat × List Byte)} {s : Device}
    (hcyc : (coreOf s c).cyc = some y) (hend : y.ended = false)
    (hfetch : fetchInstr (progOf s y.prog) y = .ok (.fb f f7 rd a b, len))
    (hexec : fbExec (progOf s y.prog) y f f7 rd (xreg (coreOf s c) a) (xreg (coreOf s c) b)
      ((y.pc + len) % 2 ^ 32) = .ok rd' v pc ws) :
    runInstr c (isFbOf f f7) s = applyInstr c y rd' v pc ws s :=
  runInstr_of_ok hcyc hend hfetch (by simp [isFbOf]) hexec

/-! ## The halves of S -/

theorem fbExec_now (g : Prog) (y : Cycle) (rd a clk next : Nat) :
    fbExec g y 4 0 rd a clk next = .ok rd (cycleNs y % 2 ^ 32) next [] := rfl

theorem fbExec_nowh (g : Prog) (y : Cycle) (rd a clk next : Nat) :
    fbExec g y 4 1 rd a clk next = .ok rd (cycleNs y / 2 ^ 32 % 2 ^ 32) next [] := rfl

/-! ## Members -/

section Members
variable (g : Prog) (y : Cycle) {f : Nat} (f7 rd : Nat) {a : Nat} (clk next : Nat) (hf : f ≤ 2)
include hf

theorem fbExec_of_misaligned (ha : a % (if f = 0 then 8 else 4) ≠ 0) : fbExec g y f f7 rd a clk next = .fault 3 := by
  obtain rfl | rfl | rfl : f = 0 ∨ f = 1 ∨ f = 2 := by omega
  all_goals simp_all [fbExec]

theorem fbExec_of_unreadable (ha : a % (if f = 0 then 8 else 4) = 0)
    (hread : memRead g y a (if f = 0 then 16 else if f = 1 then 1 else 9) = none) :
    fbExec g y f f7 rd a clk next = .fault 2 := by
  obtain rfl | rfl | rfl : f = 0 ∨ f = 1 ∨ f = 2 := by omega
  all_goals simp_all [fbExec]

/-- The member at the address is read, takes its step with S, and is written back (R408, R409). -/
theorem fbExec_of_member {b : List Byte} (ha : a % (if f = 0 then 8 else 4) = 0)
    (hread : memRead g y a (if f = 0 then 16 else if f = 1 then 1 else 9) = some b)
    (hwrite : (memWrite g y a (fbMember f f7 (cycleNs y) (clk != 0) b).2).isSome = true) :
    fbExec g y f f7 rd a clk next = .ok rd (fbMember f f7 (cycleNs y) (clk != 0) b).1 next
      [(a, (fbMember f f7 (cycleNs y) (clk != 0) b).2)] := by
  have hpermitted := Option.isSome_iff_ne_none.mp hwrite
  obtain rfl | rfl | rfl : f = 0 ∨ f = 1 ∨ f = 2 := by omega
  all_goals simp_all [fbExec]

end Members

/-! ## Timers -/

section Timers
variable (s u : Nat) {t : TimerMem}

theorem timTon_of_low (t : TimerMem) : timTon s u t false = { t with run := false, q := false, inLast := false } := rfl

theorem timTof_of_high (t : TimerMem) : timTof s u t true = { t with run := false, q := true, inLast := true } := rfl

/-- A timer whose START is S has elapsed only where its preset is 0 (R409). -/
theorem elapsed_at_start {pt : Nat} (i q r : Bool) (h : pt * u ≠ 0) : elapsed s u ⟨s, pt, i, q, r⟩ = false := by
  simp only [elapsed, decide_eq_false_iff_not]
  omega

theorem timTon_of_rising (hin : t.inLast = false) (hpt : t.pt * u ≠ 0) :
    timTon s u t true = { t with start := s, run := true, inLast := true } := by
  simp [timTon, hin, elapsed_at_start s u _ _ _ hpt]

theorem timTp_of_rising (hin : t.inLast = false) (hpt : t.pt * u ≠ 0) (hq : t.q = false) :
    timTp s u t true = { t with start := s, q := true, inLast := true } := by
  simp [timTp, hin, hq, elapsed_at_start s u _ _ _ hpt]

theorem timTof_of_falling (hin : t.inLast = true) (hpt : t.pt * u ≠ 0) :
    timTof s u t false = { t with start := s, run := true, inLast := false } := by
  simp [timTof, hin, elapsed_at_start s u _ _ _ hpt]

theorem timTon_of_running (hin : t.inLast = true) (hrun : t.run = true) :
    (timTon s u t true).q = (t.q || decide (t.start + t.pt * u ≤ s)) ∧
    (timTon s u t true).run = !decide (t.start + t.pt * u ≤ s) := by
  by_cases h : t.start + t.pt * u ≤ s <;> simp [timTon, elapsed, hin, hrun, h]

theorem timTof_of_running (hin : t.inLast = false) (hrun : t.run = true) :
    (timTof s u t false).q = (t.q && !decide (t.start + t.pt * u ≤ s)) ∧
    (timTof s u t false).run = !decide (t.start + t.pt * u ≤ s) := by
  by_cases h : t.start + t.pt * u ≤ s <;> simp [timTof, elapsed, hin, hrun, h]

/-- A pulse under way keeps its START and lasts until its preset has elapsed, whatever its input (R409). -/
theorem timTp_of_pulse (i : Bool) (hq : t.q = true) :
    (timTp s u t i).start = t.start ∧ ((timTp s u t i).q = true ↔ s < t.start + t.pt * u) := by
  by_cases h : t.start + t.pt * u ≤ s <;> simp [timTp, elapsed, hq, h, ← Nat.not_le]

end Timers

/-! ## Edges and counters -/

theorem edgeStep_of_invalid {b : Nat} (clk rising : Bool) (h : bit 1 b = false) : (edgeStep b clk rising).1 = false := by
  simp [edgeStep, h]

theorem edgeStep_of_valid {b : Nat} (clk : Bool) (h : bit 1 b = true) :
    (edgeStep b clk true).1 = (clk && !bit 0 b) ∧ (edgeStep b clk false).1 = (!clk && bit 0 b) := by
  simp [edgeStep, h, Bool.and_comm]

theorem edgeStep_byte (b : Nat) (clk rising : Bool) : (edgeStep b clk rising).2 = b / 4 * 4 + 2 + flag 0 clk := by
  unfold edgeStep
  split <;> rfl

/-- The new byte of an edge member holds CLK as PREV, and is VALID (R409). -/
theorem edgeStep_remembers (b : Nat) (clk rising : Bool) :
    bit 0 (edgeStep b clk rising).2 = clk ∧ bit 1 (edgeStep b clk rising).2 = true := by
  rw [edgeStep_byte]
  cases clk <;> simp [bit, flag] <;> omega

theorem edgeStep_of_low (b : Nat) : (edgeStep b false true).1 = false := by
  simp [edgeStep]

/-- The result of a counter: its count, moved where CLK has a rising edge, against its limit (R409). -/
theorem fbMember_counter (f7 s : Nat) (clk : Bool) (b : List Byte) :
    (fbMember 2 f7 s clk b).1 =
      let cv := if (edgeStep (fld 8 1 b) clk true).1 then
          ssat 32 (if f7 = 0 then sfld 0 4 b + 1 else sfld 0 4 b - 1) else sfld 0 4 b
      if (if f7 = 0 then sfld 4 4 b ≤ cv else cv ≤ 0) then 1 else 0 := by
  simp [fbMember]

theorem fbMember_counter_of_edge (s : Nat) {b : List Byte} (hvalid : bit 1 (fld 8 1 b) = true)
    (hprev : bit 0 (fld 8 1 b) = false) :
    (fbMember 2 0 s true b).1 = (if sfld 4 4 b ≤ ssat 32 (sfld 0 4 b + 1) then 1 else 0) ∧
    (fbMember 2 1 s true b).1 = (if ssat 32 (sfld 0 4 b - 1) ≤ 0 then 1 else 0) := by
  have hedge : (edgeStep (fld 8 1 b) true true).1 = true := by rw [(edgeStep_of_valid true hvalid).1, hprev]; rfl
  simp [fbMember_counter, hedge]

theorem fbMember_counter_of_low (s : Nat) (b : List Byte) :
    (fbMember 2 0 s false b).1 = (if sfld 4 4 b ≤ sfld 0 4 b then 1 else 0) ∧
    (fbMember 2 1 s false b).1 = (if sfld 0 4 b ≤ 0 then 1 else 0) := by
  simp [fbMember_counter, edgeStep_of_low]

/-! ## The statement -/

/-- Settles O50, row by row. The nine rows are one (`runInstr_of_fb`); the members, timers, edges and counters follow the
cases of R409. -/
theorem functionBlocks : Obligations.FunctionBlocks := by
  unfold Obligations.FunctionBlocks
  refine ⟨?ton, ?tof, ?tp, ?rtrig, ?ftrig, ?ctu, ?ctd, ?now, ?nowh, ?member, ?misaligned, ?unreadable, ?reset, ?starts,
    ?tofStarts, ?tonRuns, ?tofRuns, ?pulse, ?invalid, ?valid, ?remembers, ?counts, ?compares⟩
  case ton =>
    intro c rd a b len v pc y ws s hcyc hend hfetch hexec
    rw [exec_fbTon, execFbTon, runInstr_of_fb hcyc hend hfetch hexec]
  case tof =>
    intro c rd a b len v pc y ws s hcyc hend hfetch hexec
    rw [exec_fbTof, execFbTof, runInstr_of_fb hcyc hend hfetch hexec]
  case tp =>
    intro c rd a b len v pc y ws s hcyc hend hfetch hexec
    rw [exec_fbTp, execFbTp, runInstr_of_fb hcyc hend hfetch hexec]
  case rtrig =>
    intro c rd a b len v pc y ws s hcyc hend hfetch hexec
    rw [exec_fbRtrig, execFbRtrig, runInstr_of_fb hcyc hend hfetch hexec]
  case ftrig =>
    intro c rd a b len v pc y ws s hcyc hend hfetch hexec
    rw [exec_fbFtrig, execFbFtrig, runInstr_of_fb hcyc hend hfetch hexec]
  case ctu =>
    intro c rd a b len v pc y ws s hcyc hend hfetch hexec
    rw [exec_fbCtu, execFbCtu, runInstr_of_fb hcyc hend hfetch hexec]
  case ctd =>
    intro c rd a b len v pc y ws s hcyc hend hfetch hexec
    rw [exec_fbCtd, execFbCtd, runInstr_of_fb hcyc hend hfetch hexec]
  case now =>
    intro c rd len y s hcyc hend hfetch
    rw [exec_fbNow, execFbNow, runInstr_of_fb hcyc hend hfetch (fbExec_now ..)]
  case nowh =>
    intro c rd len y s hcyc hend hfetch
    rw [exec_fbNowh, execFbNowh, runInstr_of_fb hcyc hend hfetch (fbExec_nowh ..)]
  case member => exact fun g y f f7 rd a clk next b hf => fbExec_of_member g y f7 rd clk next hf
  case misaligned => exact fun g y f f7 rd a clk next hf => fbExec_of_misaligned g y f7 rd clk next hf
  case unreadable => exact fun g y f f7 rd a clk next hf => fbExec_of_unreadable g y f7 rd clk next hf
  case reset => exact fun s u t => ⟨timTon_of_low s u t, timTof_of_high s u t⟩
  case starts => exact fun s u t hin hpt => ⟨timTon_of_rising s u hin hpt, timTp_of_rising s u hin hpt⟩
  case tofStarts => exact fun s u t => timTof_of_falling s u
  case tonRuns => exact fun s u t => timTon_of_running s u
  case tofRuns => exact fun s u t => timTof_of_running s u
  case pulse => exact fun s u t => timTp_of_pulse s u
  case invalid => exact fun b => edgeStep_of_invalid
  case valid => exact fun b => edgeStep_of_valid
  case remembers => exact edgeStep_remembers
  case counts => exact fun s b => fbMember_counter_of_edge s
  case compares => exact fbMember_counter_of_low

end Sys2Proof.Proofs.ProgramExecution
end

section
/-!
The cycles of a program: faults, overruns, the end of a cycle and its start (10_program_execution).
-/
namespace Sys2Proof.Proofs.ProgramExecution
open Sys2Proof Sys2Proof.Machine Sys2Proof.Laws

/-! ## Programs and cores -/

@[simp] theorem progOf_modProg_same (p : Nat) (f : Prog → Prog) (s : Device) :
    progOf (modProg p f s) p = f (progOf s p) := by
  simp [progOf, modProg]

@[simp] theorem coreOf_modCore_same (c : Nat) (f : Core → Core) (s : Device) :
    coreOf (modCore c f s) c = f (coreOf s c) := by
  simp [coreOf, modCore]

@[simp] theorem coreOf_modProg (p c : Nat) (f : Prog → Prog) (s : Device) : coreOf (modProg p f s) c = coreOf s c := rfl

@[simp] theorem pgm_overrun_modProg (p : Nat) (f : Prog → Prog) (s : Device) :
    (modProg p f s).pgm.overrun = s.pgm.overrun := rfl

@[simp] theorem pgm_faults_modProg (p : Nat) (f : Prog → Prog) (s : Device) :
    (modProg p f s).pgm.faults = s.pgm.faults := rfl

@[simp] theorem pgm_overrun_modCore (c : Nat) (f : Core → Core) (s : Device) :
    (modCore c f s).pgm.overrun = s.pgm.overrun := rfl

@[simp] theorem cyc_freeCore (c slot : Nat) (s : Device) : (coreOf (freeCore c slot s) c).cyc = none := by
  simp [freeCore, coreOf, modTask, modCore]

@[simp] theorem progOf_freeCore (p c slot : Nat) (s : Device) : progOf (freeCore c slot s) p = progOf s p := rfl

@[simp] theorem freeCore_cfg (c slot : Nat) (s : Device) : (freeCore c slot s).cfg = s.cfg := rfl

@[simp] theorem pgm_faults_freeCore (c slot : Nat) (s : Device) : (freeCore c slot s).pgm.faults = s.pgm.faults := rfl

@[simp] theorem pgm_overrun_freeCore (c slot : Nat) (s : Device) : (freeCore c slot s).pgm.overrun = s.pgm.overrun := rfl

/-- Programs and cores are read off the state of PGM. -/
theorem progOf_congr {s t : Device} (h : t.pgm = s.pgm) (p : Nat) : progOf t p = progOf s p := by
  rw [progOf, progOf, h]

theorem coreOf_congr {s t : Device} (h : t.pgm = s.pgm) (c : Nat) : coreOf t c = coreOf s c := by
  rw [coreOf, coreOf, h]

@[simp] theorem progOf_raise (p code : Nat) (fs : List (Nat × Nat)) (s : Device) :
    progOf (raise code fs s) p = progOf s p := progOf_congr (raise_pgm ..) p

@[simp] theorem coreOf_raise (c code : Nat) (fs : List (Nat × Nat)) (s : Device) :
    coreOf (raise code fs s) c = coreOf s c := coreOf_congr (raise_pgm ..) c

/-- Records are read off the configuration and the Dome's working time. -/
theorem recNow_congr {s t : Device} (hcfg : t.cfg = s.cfg) (htim : t.tim = s.tim) (blk kind obj : Nat) :
    recNow t blk kind obj = recNow s blk kind obj := by
  have hnow : nowD t = nowD s := by rw [nowD, nowD, htim]
  rw [recNow, recNow, hnow, recAt, recAt, cfgObj, cfgObj, hcfg]

/-! ## What the end and the fault of a cycle leave as they were -/

/-- `t` has the configuration, the clocks and PGM_OVERRUN of `s`, and program `p` the image and the published words. -/
structure KeepsProgram (p : Nat) (s t : Device) : Prop where
  cfg : t.cfg = s.cfg
  tim : t.tim = s.tim
  overrun : t.pgm.overrun = s.pgm.overrun
  image : (progOf t p).image = (progOf s p).image
  out : (progOf t p).out = (progOf s p).out

namespace KeepsProgram
variable {p : Nat} {s t u : Device}

theorem refl (p : Nat) (s : Device) : KeepsProgram p s s := ⟨rfl, rfl, rfl, rfl, rfl⟩

theorem trans (h : KeepsProgram p s t) (k : KeepsProgram p t u) : KeepsProgram p s u :=
  ⟨k.cfg.trans h.cfg, k.tim.trans h.tim, k.overrun.trans h.overrun, k.image.trans h.image, k.out.trans h.out⟩

theorem ite {c : Prop} [Decidable c] (h : KeepsProgram p s t) (k : KeepsProgram p s u) :
    KeepsProgram p s (if c then t else u) := by
  split <;> assumption

/-- What leaves the configuration, the clocks and PGM alone keeps every program. -/
theorem of_parts (hcfg : t.cfg = s.cfg) (htim : t.tim = s.tim) (hpgm : t.pgm = s.pgm) : KeepsProgram p s t :=
  ⟨hcfg, htim, by rw [hpgm], by rw [progOf_congr hpgm], by rw [progOf_congr hpgm]⟩

theorem of_touches (h : Touches s t) : KeepsProgram p s t := of_parts h.cfg h.tim h.pgm

theorem pgmRec (h : KeepsProgram p s t) (q : Nat) : pgmRec t q = Machine.pgmRec s q := recNow_congr h.cfg h.tim ..

end KeepsProgram

/-! ## Publication -/

section Publication
variable (p : Nat)

theorem modStn_keepsProgram (n : Nat) (f : Station → Station) (s : Device) : KeepsProgram p s (modStn n f s) :=
  .of_parts rfl rfl rfl

theorem report_keepsProgram (o : OutItem) (f : Fate) (t : STime) (s : Device) : KeepsProgram p s (report o f t s) :=
  .ite (.of_parts rfl rfl rfl) (.refl p s)

theorem supersede_keepsProgram (st w : Nat) (o : OutItem) (s : Device) : KeepsProgram p s (supersede st w o s) := by
  unfold supersede
  dsimp only
  split
  · exact report_keepsProgram p _ _ _ s
  · exact .ite (modStn_keepsProgram p _ _ s) (.refl p s)

theorem cutWord_keepsProgram (o : OutItem) (s : Device) : KeepsProgram p s (cutWord o s) := by
  unfold cutWord
  split
  · exact .refl p s
  · exact .ite (.of_parts rfl rfl rfl) (.refl p s)

theorem stationWrite_keepsProgram (o : OutItem) (s : Device) : KeepsProgram p s (stationWrite o s) := by
  unfold stationWrite
  refine .ite ?_ ?_
  · refine .trans (.trans ?_ (.of_touches (raise_touches _ _ _))) (report_keepsProgram p _ _ _ _)
    exact .of_parts rfl rfl rfl
  · have hcut := cutWord_keepsProgram p o s
    refine .trans ?_ (modStn_keepsProgram p _ _ _)
    split
    · refine .trans ?_ (supersede_keepsProgram p _ _ _ _)
      exact .ite (hcut.trans (.of_parts rfl rfl rfl)) hcut
    · exact .ite (hcut.trans (.of_parts rfl rfl rfl)) hcut

theorem sendOutput_keepsProgram (o : OutItem) (s : Device) : KeepsProgram p s (sendOutput o s) :=
  .ite (stationWrite_keepsProgram p o s) (.of_parts rfl rfl rfl)

theorem sendToken_keepsProgram (t : Token) (s : Device) : KeepsProgram p s (sendToken t s) := by
  obtain ⟨d, hd⟩ := sendToken_dpt t s
  rw [hd]
  exact .of_parts rfl rfl rfl

theorem cutOutput_keepsProgram (key : Nat) (code : Int) (held : Option STime) (new : STime) (s : Device) :
    KeepsProgram p s (cutOutput key code held new s) := by
  unfold cutOutput
  split
  · exact .refl p s
  · exact .ite (.of_parts rfl rfl rfl) (.refl p s)

theorem pinWrite_keepsProgram (n : Nat) (level : Bool) (t : STime) (s : Device) :
    KeepsProgram p s (pinWrite n level t s) := by
  refine .ite (.refl p s) (.ite (.of_parts rfl rfl rfl) ?_)
  exact (cutOutput_keepsProgram p _ _ _ _ s).trans (.of_parts rfl rfl rfl)

theorem publishWord_keepsProgram (y : Cycle) (e : MapEntry) (v : Nat) (s : Device) :
    KeepsProgram p s (publishWord p y e v s) := by
  unfold publishWord
  split
  · exact pinWrite_keepsProgram p _ _ _ s
  · exact sendOutput_keepsProgram p _ s
  · exact sendOutput_keepsProgram p _ s
  · exact sendToken_keepsProgram p _ s
  · exact sendToken_keepsProgram p _ s
  · exact .refl p s

theorem undeliveredTo_keepsProgram (y : Cycle) (ws : List (MapEntry × Nat)) (st : Nat) (s : Device) :
    KeepsProgram p s (undeliveredTo p y ws st s) := by
  refine .ite (.refl p s) (.trans ?_ (.of_touches (raise_touches _ _ _)))
  exact ⟨rfl, rfl, rfl, by rw [progOf_modProg_same]; rfl, by rw [progOf_modProg_same]; rfl⟩

/-- Publishing changes no record, no clock, no image and no published word of the program; those follow at the end. -/
theorem cyclePublish_keepsProgram (y : Cycle) (ws : List (MapEntry × Nat)) (s : Device) :
    KeepsProgram y.prog s (cyclePublish y ws s) := by
  unfold cyclePublish
  refine List.foldlRecOn _ _ ?_ fun t ht st _ => ht.trans (undeliveredTo_keepsProgram _ y ws st t)
  exact List.foldlRecOn _ _ (.refl _ s) fun t ht w _ => ht.trans (publishWord_keepsProgram _ y w.1 w.2 t)

end Publication

/-! ## Faults -/

theorem programFault_of_idle {c : Nat} {s : Device} (h : (coreOf s c).cyc = none) : programFault c s = s := by
  simp [programFault, h]

theorem programFault_of_unfetched {c cause : Nat} {y : Cycle} {s : Device} (hcyc : (coreOf s c).cyc = some y)
    (hend : y.ended = false) (hfetch : fetchInstr (progOf s y.prog) y = .error cause) :
    programFault c s = faultProgram c cause y s := by
  simp [programFault, hcyc, hend, hfetch]

theorem programFault_of_fault {c cause len : Nat} {i : Rv} {y : Cycle} {s : Device} (hcyc : (coreOf s c).cyc = some y)
    (hend : y.ended = false) (hfetch : fetchInstr (progOf s y.prog) y = .ok (i, len))
    (hexec : cpuExec (progOf s y.prog) y (coreOf s c) i len = .fault cause) :
    programFault c s = faultProgram c cause y s := by
  simp [programFault, hcyc, hend, hfetch, hexec]

/-- Undoing a cycle writes its program's data and PGM's count of rollbacks, and may raise an event (R404). -/
theorem rollback_parts (y : Cycle) (s : Device) :
    (rollback y s).cfg = s.cfg ∧ (rollback y s).tim = s.tim ∧ (rollback y s).pgm.faults = s.pgm.faults := by
  unfold rollback
  split
  · split <;> simp
  · simp

/-- A program that faults is in FAULT with its cause, or DISABLED where a commit has disabled it, counted, and off its core;
configuration and Belfry stay (R388, R403, Table PGM-5). -/
theorem faultProgram_leaves (c cause : Nat) (y : Cycle) (s : Device) :
    (progOf (faultProgram c cause y s) y.prog).mode =
      (if bit 0 (fld 0 1 (pgmRec s y.prog)) then .fault else .disabled) ∧
    (progOf (faultProgram c cause y s) y.prog).cause = cause ∧ (coreOf (faultProgram c cause y s) c).cyc = none ∧
    (faultProgram c cause y s).pgm.faults = s.pgm.faults + 1 ∧ (faultProgram c cause y s).cfg = s.cfg ∧
    (faultProgram c cause y s).saf = s.saf := by
  obtain ⟨hcfg, htim, hfaults⟩ := rollback_parts y s
  have hrec : pgmRec (freeCore c (pgmSlot s y.prog) (rollback y s)) y.prog = pgmRec s y.prog := recNow_congr hcfg htim ..
  refine ⟨?mode, ?cause, ?core, ?count, ?cfg, ?saf⟩
  case mode => simp [faultProgram, hrec]
  case cause => simp [faultProgram]
  case core =>
    rw [faultProgram, coreOf_raise, coreOf_modProg]
    exact cyc_freeCore c (pgmSlot s y.prog) (rollback y s)
  case count => simp [faultProgram, hfaults]
  case cfg => simp [faultProgram, hcfg]
  case saf => simp

/-! ## Overruns and aborts -/

section Bounds
variable {c : Nat} {y : Cycle} {b : List Byte} {s : Device}

theorem cycleOverrun_of_idle (h : (coreOf s c).cyc = none) : cycleOverrun c s = s := by
  simp [cycleOverrun, h]

theorem cycleAbort_of_idle (h : (coreOf s c).cyc = none) : cycleAbort c s = s := by
  simp [cycleAbort, h]

variable (hcyc : (coreOf s c).cyc = some y) (hend : y.ended = false) (hrec : recAt s 0x04 1 y.prog y.start = some b)
include hcyc hrec

theorem cycleOverrun_of_early (hearly : nowS s < y.release + usT (fld 12 4 b)) : cycleOverrun c s = s := by
  simp [cycleOverrun, hcyc, hrec, hearly]

include hend

theorem cycleOverrun_of_due (hfirst : y.overran = false) (hdue : y.release + usT (fld 12 4 b) ≤ nowS s) :
    cycleOverrun c s = overrun c y (fld 12 4 b) s := by
  simp [cycleOverrun, hcyc, hrec, hend, hfirst, Nat.not_lt.mpr hdue]

theorem cycleAbort_of_due (hdue : y.release + usT (fld 16 4 b) ≤ nowS s) : cycleAbort c s = faultProgram c 5 y s := by
  simp [cycleAbort, hcyc, hrec, hend, Nat.not_lt.mpr hdue]

end Bounds

/-- An overrun marks the cycle and is counted (R402). -/
theorem overrun_leaves (c tmax : Nat) (y : Cycle) (s : Device) :
    (coreOf (overrun c y tmax s) c).cyc = some { y with overran := true } ∧
    (overrun c y tmax s).pgm.overrun = s.pgm.overrun + 1 := by
  simp [overrun]

/-- But for its count, an overrun changes nothing that the end of the cycle reads. -/
theorem overrun_keepsProgram (p c tmax : Nat) (y : Cycle) (s : Device) :
    KeepsProgram p { s with pgm.overrun := s.pgm.overrun + 1 } (overrun c y tmax s) := by
  refine .trans ?_ (.of_touches (raise_touches _ _ _))
  exact ⟨rfl, rfl, rfl, rfl, rfl⟩

/-! ## The end of a cycle -/

/-- At its end the cycle is past T_MAX_US (R402). -/
def endsLate (y : Cycle) (tmax : Nat) (s : Device) : Bool := decide (y.release + usT tmax < nowS s)

/-- The cycle as its end judges it: late, or marked before (R402). -/
def judged (y : Cycle) (tmax : Nat) (s : Device) : Cycle := { y with overran := y.overran || endsLate y tmax s }

@[simp] theorem judged_prog (y : Cycle) (tmax : Nat) (s : Device) : (judged y tmax s).prog = y.prog := rfl

/-- The block with a lateness that the end finds first noted (R402). -/
def latenessNoted (c tmax : Nat) (y : Cycle) (s : Device) : Device :=
  if endsLate y tmax s && !y.overran then overrun c y tmax s else s

theorem latenessNoted_keepsProgram (p c tmax : Nat) (y : Cycle) (s : Device) :
    KeepsProgram p { s with pgm.overrun := s.pgm.overrun + (if !y.overran && endsLate y tmax s then 1 else 0) }
      (latenessNoted c tmax y s) := by
  unfold latenessNoted
  rw [Bool.and_comm]
  split
  · exact overrun_keepsProgram p c tmax y s
  · exact ⟨rfl, rfl, by simp, rfl, rfl⟩

theorem cycleEnd_of_idle {c : Nat} {s : Device} (h : (coreOf s c).cyc = none) : cycleEnd c s = s := by
  simp [cycleEnd, h]

theorem cycleEnd_of_kept {c : Nat} {y : Cycle} {b : List Byte} {s : Device} (hcyc : (coreOf s c).cyc = some y)
    (hend : y.ended = true) (hrec : recAt s 0x04 1 y.prog y.start = some b) :
    ∃ ws, cycleEnd c s =
      cycleClose c (judged y (fld 12 4 b) s)
        (cyclePublish (judged y (fld 12 4 b) s) ws (latenessNoted c (fld 12 4 b) y s)) := by
  simp only [cycleEnd, hcyc, hend, hrec]
  exact ⟨_, rfl⟩

/-- Releasing a program again changes nothing of PGM (R401). -/
@[simp] theorem enterRelease_pgm (slot : Nat) (t : STime) (s : Device) : (enterRelease slot t s).pgm = s.pgm := by
  unfold enterRelease
  split
  · dsimp only
    split <;> rfl
  · rfl

/-- The program of a closed cycle is off its core, IDLE or DISABLED, with its words published unless it overran (R401). -/
theorem cycleClose_leaves (c : Nat) (y : Cycle) (s : Device) :
    (coreOf (cycleClose c y s) c).cyc = none ∧
    (progOf (cycleClose c y s) y.prog).mode = (if bit 0 (fld 0 1 (pgmRec s y.prog)) then .idle else .disabled) ∧
    (progOf (cycleClose c y s) y.prog).out =
      (if y.overran then (progOf s y.prog).out else publishedWords (progOf s y.prog) y) ∧
    (cycleClose c y s).pgm.overrun = s.pgm.overrun := by
  have hpgm : ∀ (q : Bool) (slot : Nat) (t : STime) (u : Device),
      (if q then enterRelease slot t u else u).pgm = u.pgm := fun q _ _ _ => by cases q <;> simp
  unfold cycleClose
  refine ⟨?core, ?mode, ?out, ?count⟩
  case core => rw [coreOf_congr (hpgm ..), coreOf_congr (pmcEdge_pgm ..), cyc_freeCore]
  case mode => rw [progOf_congr (hpgm ..), progOf_congr (pmcEdge_pgm ..), progOf_freeCore, progOf_modProg_same]
  case out => rw [progOf_congr (hpgm ..), progOf_congr (pmcEdge_pgm ..), progOf_freeCore, progOf_modProg_same]
  case count => rw [hpgm, pmcEdge_pgm, pgm_overrun_freeCore, pgm_overrun_modProg]

/-- The words published depend on the image, the words before and the cycle's output image. -/
theorem publishedWords_congr {g g' : Prog} {y y' : Cycle} (himage : g'.image = g.image) (hout : g'.out = g.out)
    (houtput : y'.output = y.output) : publishedWords g' y' = publishedWords g y := by
  simp only [publishedWords, outMap, himage, hout, houtput]

theorem cycleEnd_leaves {c : Nat} {y : Cycle} {b : List Byte} {s : Device} (hcyc : (coreOf s c).cyc = some y)
    (hend : y.ended = true) (hrec : recAt s 0x04 1 y.prog y.start = some b) :
    (coreOf (cycleEnd c s) c).cyc = none ∧
    (progOf (cycleEnd c s) y.prog).mode = (if bit 0 (fld 0 1 (pgmRec s y.prog)) then .idle else .disabled) ∧
    (progOf (cycleEnd c s) y.prog).out =
      (if y.overran || endsLate y (fld 12 4 b) s then (progOf s y.prog).out else publishedWords (progOf s y.prog) y) ∧
    (cycleEnd c s).pgm.overrun = s.pgm.overrun + (if !y.overran && endsLate y (fld 12 4 b) s then 1 else 0) := by
  obtain ⟨ws, hws⟩ := cycleEnd_of_kept hcyc hend hrec
  have hkeeps := (latenessNoted_keepsProgram y.prog c (fld 12 4 b) y s).trans
    (cyclePublish_keepsProgram (judged y (fld 12 4 b) s) ws _)
  obtain ⟨hcore, hmode, hout, hcount⟩ := cycleClose_leaves c (judged y (fld 12 4 b) s)
    (cyclePublish (judged y (fld 12 4 b) s) ws (latenessNoted c (fld 12 4 b) y s))
  rw [hws]
  refine ⟨hcore, ?mode, ?out, hcount.trans hkeeps.overrun⟩
  case mode => exact hmode.trans (by rw [hkeeps.pgmRec]; rfl)
  case out =>
    refine hout.trans ?_
    rw [judged_prog, hkeeps.out, publishedWords_congr hkeeps.image hkeeps.out rfl]
    rfl

/-! ## The start of a cycle -/

theorem cycleStart_of_not_ready {c : Nat} {s : Device}
    (h : tget s.dpt.coreReady c [] = [] ∨ s.cfg.mode ≠ .running ∨ envCores (envelope s) ≤ c) : cycleStart c s = s := by
  unfold cycleStart
  split
  next hready _ =>
    have hguard : s.cfg.mode ≠ .running ∨ envCores (envelope s) ≤ c := by simpa [hready] using h
    rw [if_pos (by rcases hguard with h | h <;> simp [h])]
  next => rfl

@[simp] theorem enterNext_dpt (c : Nat) (y : Cycle) (s : Device) : (enterNext c y s).dpt = s.dpt := by
  unfold enterNext
  split <;> rfl

@[simp] theorem progOf_enterNext (p c : Nat) (y : Cycle) (s : Device) : progOf (enterNext c y s) p = progOf s p := by
  unfold enterNext
  split <;> rfl

/-- Entering an entry, or ending for want of one, the cycle keeps its program, its release, its S and its mark. -/
theorem cyc_enterNext (c : Nat) (y : Cycle) (s : Device) :
    (coreOf (enterNext c y s) c).cyc.map (fun z => (z.prog, z.release, z.start, z.overran)) =
      some (y.prog, y.release, y.start, y.overran) := by
  unfold enterNext
  split <;> simp

theorem foldl_raise_touches {α : Type} (code : Nat) (fs : α → List (Nat × Nat)) (l : List α) (s : Device) :
    Touches s (l.foldl (fun s x => raise code (fs x) s) s) :=
  List.foldlRecOn _ _ (.refl s) fun _ ht _ _ => ht.trans (raise_touches _ _ _)

theorem captureDue_dpt {q : Prop} [Decidable q] (p : Nat) (s : Device) : (if q then capturePgm p s else s).dpt = s.dpt := by
  split
  · exact (DispatchMatching.capturePgm_takesImage p s).dpt
  · rfl

/-- A ready IDLE program of a free core runs from now: its record notes the start, and a start that was pending is taken
(R399, Table PGM-5). -/
theorem cycleStart_of_ready {c slot : Nat} {release : STime} {rest : List (STime × Nat)} {s : Device}
    (hready : tget s.dpt.coreReady c [] = (release, slot) :: rest) (hfree : (coreOf s c).cyc = none)
    (hmode : s.cfg.mode = .running) (hrun : s.dpt.run = true) (hcore : c < envCores (envelope s))
    (hlost : bit c s.pgm.lost = false) (hidle : (progOf s (programOf s slot)).mode = .idle) :
    ∃ (y : Cycle) (u : Device), cycleStart c s = enterNext c y u ∧ y.prog = programOf s slot ∧ y.release = release ∧
      y.start = nowS s ∧ y.overran = false ∧ (progOf u (programOf s slot)).mode = .running ∧
      (progOf u (programOf s slot)).ran = true ∧ (progOf u (programOf s slot)).pend = none ∧
      (progOf u (programOf s slot)).last = some (nowS s) ∧ tget u.dpt.coreReady c [] = rest := by
  have hguard : (s.cfg.mode != .running || !s.dpt.run || envCores (envelope s) ≤ c || bit c s.pgm.lost) = false := by
    simp [hmode, hrun, Nat.not_le.mpr hcore, hlost]
  generalize ht : cycleStart c s = t
  unfold cycleStart at ht
  simp -zeta only [hready, hfree, hguard] at ht
  rw [if_neg (by decide)] at ht
  extract_lets _ released p now captured g₀ g from_ err ret i main entries y noted busy counted reported lost returned at ht
  have hstands : ((progOf released p).mode != .idle) = false := by
    rw [show (progOf released p).mode = .idle from hidle]; rfl
  rw [hstands, if_neg (by decide)] at ht
  have hraised : Touches counted returned :=
    ((Touches.ite (raise_touches _ _ _) (.refl _)).trans (foldl_raise_touches _ _ _ _)).trans (foldl_raise_touches _ _ _ _)
  have hprog : progOf returned p = { g with mode := .running, ran := true, last := some now, undelivered := [] } :=
    (progOf_congr hraised.pgm p).trans (show progOf noted p = _ from progOf_modProg_same p _ _)
  have hpend : g.pend = none := by
    simp only [g]
    cases hpend : g₀.pend <;> simp [hpend]
  have hrest : tget returned.dpt.coreReady c [] = rest := by
    rw [hraised.dpt]
    exact (congrArg (fun d : Dpt => tget d.coreReady c []) (captureDue_dpt p released)).trans (tget_tset_same ..)
  refine ⟨y, returned, ht.symm, rfl, rfl, rfl, rfl, ?_⟩
  rw [show programOf s slot = p from rfl, hprog]
  exact ⟨rfl, rfl, hpend, rfl, hrest⟩

/-! ## Instructions of RV32 (PRESUMED from the RISC-V manuals, log 33) -/

theorem xreg_zero (k : Core) : xreg k 0 = 0 := rfl

theorem cpuExec_add (g : Prog) (y : Cycle) (k : Core) (rd a b len : Nat) :
    cpuExec g y k (.op 0 0 rd a b) len = .ok rd ((xreg k a + xreg k b) % 2 ^ 32) ((y.pc + len) % 2 ^ 32) [] := rfl

@[simp] theorem length_le (n v : Nat) : (le n v).length = n := by
  induction n generalizing v with
  | zero => rfl
  | succ n ih => rw [le, List.length_cons, ih]

/-- A write within the program's data region is permitted (Table PGM-1). -/
theorem memWrite_of_region (g : Prog) (y : Cycle) {a : Nat} {d : List Byte} (hlow : 0x20000000 ≤ a)
    (hhigh : a + d.length ≤ 0x20000000 + imgInstSize g.image) : (memWrite g y a d).isNone = false := by
  unfold memWrite
  rw [if_pos ⟨hlow, hhigh⟩]
  rfl

theorem cpuExec_store_word {g : Prog} (y : Cycle) {k : Core} {a : Nat} (b len : Nat) {imm : Int}
    (halign : wrapInt 32 (xreg k a + imm) % 4 = 0) (hlow : 0x20000000 ≤ wrapInt 32 (xreg k a + imm))
    (hhigh : wrapInt 32 (xreg k a + imm) + 4 ≤ 0x20000000 + imgInstSize g.image) :
    cpuExec g y k (.store 2 a b imm) len =
      .ok 0 0 ((y.pc + len) % 2 ^ 32) [(wrapInt 32 (xreg k a + imm), le 4 (xreg k b))] := by
  have hpermitted := memWrite_of_region g y (d := le 4 (xreg k b)) hlow (by simpa using hhigh)
  simp [cpuExec, halign, hpermitted]

theorem rvMul_zero (a : Nat) : rvMul 4 a 0 = 2 ^ 32 - 1 ∧ rvMul 6 a 0 = a := ⟨rfl, rfl⟩

/-! ## The statement -/

/-- Settles O51, row by row. Publication and the noting of a lateness keep what the end of a cycle reads (`KeepsProgram`);
from a start only the entry into the first of the cycle's entries follows (`cycleStart_of_ready`). -/
theorem cyclesRun : Obligations.CyclesRun := by
  unfold Obligations.CyclesRun
  refine ⟨?instruction, ?idle, ?unfetched, ?faults, ?fault, ?early, ?overruns, ?overrun, ?aborts, ?ends, ?starts,
    ?notReady, ?rv32, ?store, ?zero⟩
  case instruction =>
    intro c rd v pc len i y ws s hcyc hend hfetch hbase hexec
    rw [exec_programInstruction, execProgramInstruction, runInstr_of_ok hcyc hend hfetch (by rw [hbase]; rfl) hexec]
  case idle =>
    intro c s hidle
    refine ⟨?_, ?_, ?_, ?_, ?_⟩
    · rw [exec_programInstruction, execProgramInstruction, runInstr_of_idle _ hidle]
    · rw [exec_programFault, execProgramFault, programFault_of_idle hidle]
    · rw [exec_cycleOverrun, execCycleOverrun, cycleOverrun_of_idle hidle]
    · rw [exec_cycleAbort, execCycleAbort, cycleAbort_of_idle hidle]
    · rw [exec_programCycleEnd, execProgramCycleEnd, cycleEnd_of_idle hidle]
  case unfetched =>
    intro c cause y s hcyc hend hfetch
    rw [exec_programFault, execProgramFault, programFault_of_unfetched hcyc hend hfetch]
  case faults =>
    intro c cause len i y s hcyc hend hfetch hexec
    rw [exec_programFault, execProgramFault, programFault_of_fault hcyc hend hfetch hexec]
  case fault => exact faultProgram_leaves
  case early =>
    intro c y b s hcyc _ hrec hearly
    rw [exec_cycleOverrun, execCycleOverrun, cycleOverrun_of_early hcyc hrec hearly]
  case overruns =>
    intro c y b s hcyc hend hrec hfirst hdue
    rw [exec_cycleOverrun, execCycleOverrun, cycleOverrun_of_due hcyc hend hrec hfirst hdue]
  case overrun => exact overrun_leaves
  case aborts =>
    intro c y b s hcyc hend hrec hdue
    rw [exec_cycleAbort, execCycleAbort, cycleAbort_of_due hcyc hend hrec hdue]
  case ends =>
    intro c y b s hcyc hend hrec
    exact ⟨cycleEnd c s.dev, rfl, cycleEnd_leaves hcyc hend hrec⟩
  case starts =>
    intro c slot release rest s hready hfree hmode hrun hcore hlost hidle
    obtain ⟨y, u, hstart, hprog, hrelease, hnow, hmark, hleft⟩ :=
      cycleStart_of_ready hready hfree hmode hrun hcore hlost hidle
    refine ⟨enterNext c y u, by rw [exec_programCycleStart, execProgramCycleStart, hstart], ?_⟩
    rw [progOf_enterNext, enterNext_dpt, cyc_enterNext, hprog, hrelease, hnow, hmark]
    obtain ⟨hrunning, hran, hpend, hlast, hrest⟩ := hleft
    exact ⟨hrunning, hran, hpend, hlast, rfl, hrest⟩
  case notReady =>
    intro c s h
    rw [exec_programCycleStart, execProgramCycleStart, cycleStart_of_not_ready h]
  case rv32 => exact fun g y k rd a b len => ⟨cpuExec_add g y k rd a b len, rfl, rfl⟩
  case store => exact fun g y k a b len imm => cpuExec_store_word y b len
  case zero => exact fun k a => ⟨xreg_zero k, rvMul_zero a⟩

end Sys2Proof.Proofs.ProgramExecution
end

section
/-!
Ports, frames, gates and links (11_ethernet_nelzer).
-/
namespace Sys2Proof.Proofs.Ethernet
open Sys2Proof Sys2Proof.Machine Sys2Proof.Laws

/-! ## Ports -/

@[simp] theorem eportOf_modEport_same (p : Nat) (f : EthPort → EthPort) (s : Device) :
    eportOf (modEport p f s) p = f (eportOf s p) := by
  simp [eportOf, modEport]

theorem eportOf_modEport_other {p q : Nat} (f : EthPort → EthPort) (s : Device) (h : q ≠ p) :
    eportOf (modEport p f s) q = eportOf s q :=
  tget_tset_other _ _ _ _ _ h

/-- Ports are read off the state of ETH. -/
theorem eportOf_congr {s t : Device} (h : t.eth = s.eth) (p : Nat) : eportOf t p = eportOf s p := by
  rw [eportOf, eportOf, h]

@[simp] theorem hazard_eth (off : Nat) (s : Device) : (hazard off s).eth = s.eth := by
  unfold hazard
  split <;> rfl

/-! ## Frames received (R433, R434) -/

/-- The domain of a message is read off the records and the clocks. -/
theorem forDomain_congr {s t : Device} (hcfg : t.cfg = s.cfg) (htim : t.tim = s.tim) (d : Nat) (f : RxFrame) :
    forDomain t d f = forDomain s d f := by
  have hrec : domRec t d = domRec s d := ProgramExecution.recNow_congr hcfg htim ..
  simp [forDomain, domKind, domPorts, hrec]

theorem nzEtype_congr {s t : Device} (hcfg : t.cfg = s.cfg) (htim : t.tim = s.tim) : nzEtype t = nzEtype s := by
  have hrec : ethGlobal t = ethGlobal s := ProgramExecution.recNow_congr hcfg htim ..
  simp [nzEtype, hrec]

@[simp] theorem forDomain_modEport (p d : Nat) (f : EthPort → EthPort) (m : RxFrame) (s : Device) :
    forDomain (modEport p f s) d m = forDomain s d m := forDomain_congr rfl rfl d m

@[simp] theorem forDomain_pmcEdge (blk sig idx d : Nat) (m : RxFrame) (s : Device) :
    forDomain (pmcEdge blk sig idx s) d m = forDomain s d m := forDomain_congr rfl rfl d m

@[simp] theorem nzEtype_modEport (p : Nat) (f : EthPort → EthPort) (s : Device) :
    nzEtype (modEport p f s) = nzEtype s := nzEtype_congr rfl rfl

@[simp] theorem nzEtype_pmcEdge (blk sig idx : Nat) (s : Device) : nzEtype (pmcEdge blk sig idx s) = nzEtype s :=
  nzEtype_congr rfl rfl

/-- A good frame is counted, in ETH_RXFRp and in its activity count. -/
def rxCounted (p : Nat) (s : Device) : Device :=
  modEport p (fun q => { q with rxFr := q.rxFr + 1 }) (pmcEdge 0x0C 0x81 p s)

@[simp] theorem rxCounted_tim (p : Nat) (s : Device) : (rxCounted p s).tim = s.tim := rfl
@[simp] theorem rxCounted_saf (p : Nat) (s : Device) : (rxCounted p s).saf = s.saf := rfl
@[simp] theorem rxCounted_rxFr (p : Nat) (s : Device) :
    (eportOf (rxCounted p s) p).rxFr = (eportOf s p).rxFr + 1 :=
  congrArg EthPort.rxFr (eportOf_modEport_same ..)

section Receive
variable {p : Nat} {t : STime} {bytes : List Byte} {s : Device}

theorem frameReceive_of_down (h : (eportOf s p).link = false) : frameReceive p t bytes s = s := by
  simp [frameReceive, h]

theorem frameReceive_of_bad (hlink : (eportOf s p).link = true) (hbad : frameGood bytes = false) :
    frameReceive p t bytes s = modEport p (fun q => { q with rxErr := q.rxErr + 1 }) s := by
  simp [frameReceive, hlink, hbad]

/-- A good time message for a domain is counted and joins TIM's messages. -/
theorem frameReceive_of_time (hlink : (eportOf s p).link = true) (hgood : frameGood bytes = true)
    (htype : etherType (bytes.take (bytes.length - 4)) = 0x88F7) (hnz : nzEtype s ≠ 0x88F7)
    (htaken : ptpTaken { port := p, at_ := t, ck := s.tim.ck, bytes := bytes.take (bytes.length - 4) } = true)
    (hdom : forDomain s 0 { port := p, at_ := t, ck := s.tim.ck, bytes := bytes.take (bytes.length - 4) } = true ∨
      forDomain s 1 { port := p, at_ := t, ck := s.tim.ck, bytes := bytes.take (bytes.length - 4) } = true) :
    frameReceive p t bytes s = { rxCounted p s with
      tim.rx := s.tim.rx ++
        [{ port := p, at_ := t, ck := s.tim.ck, bytes := bytes.take (bytes.length - 4) }] } := by
  simp [frameReceive, rxCounted, hlink, hgood, htype, hnz.symm, htaken, hdom]

end Receive

/-! ## Host frames (R437) -/

/-- A segment without errors gives its payload and changes nothing (R89). -/
theorem readSegment_of_good {n : Nat} {g : HostSeg} {s : Device} (h : segCheck (winOf s n) g = 0) :
    readSegment n g s = (some ((g.bytes.drop 32).take (fld 8 4 g.bytes)), s) := by
  simp [readSegment, h]

theorem hostFrameQueue_of_fit {p w : Nat} {g : HostSeg} {rest : List HostSeg} {s : Device}
    (hwin : windowOf s (0x0C08 + p) = some w) (hhold : (winOf s w).hold = g :: rest)
    (hgood : segCheck (winOf s w) g = 0)
    (hfit : framesFit s p (frameRecords 4096 ((g.bytes.drop 32).take (fld 8 4 g.bytes))) = true) :
    hostFrameQueue p s = returnSegment w (modWin w (fun q => { q with hold := rest })
      ((frameRecords 4096 ((g.bytes.drop 32).take (fld 8 4 g.bytes))).foldl (fun u r => queueHost p r u) s)) := by
  simp [hostFrameQueue, hwin, hhold, hfit, readSegment_of_good hgood]

theorem hostFrameQueue_of_no_window {p : Nat} {s : Device} (h : windowOf s (0x0C08 + p) = none) :
    hostFrameQueue p s = s := by
  simp [hostFrameQueue, h]

/-! ## Launches and gates (R440, R442) -/

theorem frameLaunch_of_idle {p : Nat} {s : Device}
    (h : (eportOf s p).link = false ∨ nowS s < (eportOf s p).busy) : frameLaunch p s = s := by
  rcases h with h | h <;> simp [frameLaunch, h]

/-- Class 7 goes before every other. -/
theorem frameLaunch_of_class7 {p : Nat} {s : Device} (hlink : (eportOf s p).link = true)
    (hidle : (eportOf s p).busy ≤ nowS s) (hmay : canLaunch s p 7 = true) :
    frameLaunch p s = launchHead p 7 s := by
  simp [frameLaunch, hlink, Nat.not_lt.mpr hidle, hmay]

theorem gateCycleStart_of_gates {p : Nat} {s : Device} (hcycle : nsT (fld 0 4 (recNow s 0x0C 2 p)) ≠ 0)
    (hphase : nsT (fld 4 4 (recNow s 0x0C 2 p)) ≤ nowS s) :
    gateCycleStart p s = modEport p (fun q => { q with
      gateAt := max q.gateAt ((nowS s - nsT (fld 4 4 (recNow s 0x0C 2 p))) / nsT (fld 0 4 (recNow s 0x0C 2 p)) *
        nsT (fld 0 4 (recNow s 0x0C 2 p)) + nsT (fld 4 4 (recNow s 0x0C 2 p))) }) s := by
  simp [gateCycleStart, hcycle, Nat.not_lt.mpr hphase]

theorem gateCycleStart_of_no_gates {p : Nat} {s : Device} (h : nsT (fld 0 4 (recNow s 0x0C 2 p)) = 0) :
    gateCycleStart p s = s := by
  simp [gateCycleStart, h]

/-! ## Links (R459, R469) -/

theorem ethLinkUp_of_permitted {p : Nat} {s : Device} (hp : p ≤ 7) (hdown : (eportOf s p).link = false)
    (hen : bit p s.eth.portEn = true) (hmode : fld 0 1 (ethRec s p) % 8 ≠ 0) (hup : s.btr.spireUp = true) :
    ethLinkUp p s = raise Ev.ethLinkUp [(1, p), (1, speedCode (fld 0 1 (ethRec s p)))]
      (modEport p (fun q => { q with link := true, speed := speedCode (fld 0 1 (ethRec s p)) }) s) := by
  simp [ethLinkUp, Nat.not_lt.mpr hp, hdown, hen, hmode, hup]

theorem ethLinkDown_of_down {p : Nat} {s : Device} (h : (eportOf s p).link = false) : ethLinkDown p s = s := by
  simp [ethLinkDown, h]

@[simp] theorem prpPair_raise (p code : Nat) (fs : List (Nat × Nat)) (s : Device) :
    prpPair (raise code fs s) p = prpPair s p := by
  rw [prpPair, prpPair, ethRec, ethRec, ProgramExecution.recNow_congr (raise_cfg ..) (raise_tim ..)]

@[simp] theorem prpPair_modEport (p q : Nat) (f : EthPort → EthPort) (s : Device) :
    prpPair (modEport q f s) p = prpPair s p := rfl

theorem ethLinkDown_of_single {p : Nat} {s : Device} (hup : (eportOf s p).link = true)
    (hsingle : prpPair s p = false) :
    ethLinkDown p s = linkLosses p
      (raise Ev.ethLinkDown [(1, p)] (modEport p (fun q => { q with link := false, speed := 0 }) s)) := by
  simp [ethLinkDown, hup, hsingle]

/-! ## Supervision (R432)

Queueing a frame leaves the configuration and every port's instant of supervision as they were. -/

/-- `t` has the configuration of `s`, and port `e` the instant of its last supervision frame. -/
structure KeepsSupervision (e : Nat) (s t : Device) : Prop where
  supAt : (eportOf t e).supAt = (eportOf s e).supAt
  cfg : t.cfg = s.cfg

namespace KeepsSupervision
variable {e : Nat} {s t u : Device}

theorem refl (e : Nat) (s : Device) : KeepsSupervision e s s := ⟨rfl, rfl⟩

theorem trans (h : KeepsSupervision e s t) (k : KeepsSupervision e t u) : KeepsSupervision e s u :=
  ⟨k.supAt.trans h.supAt, k.cfg.trans h.cfg⟩

theorem ite {c : Prop} [Decidable c] (h : KeepsSupervision e s t) (k : KeepsSupervision e s u) :
    KeepsSupervision e s (if c then t else u) := by
  split <;> assumption

theorem of_touches (h : Touches s t) : KeepsSupervision e s t := ⟨by rw [eportOf_congr h.eth], h.cfg⟩

end KeepsSupervision

section Queueing
variable (e p c : Nat) (s : Device)

theorem modEport_keepsSupervision (f : EthPort → EthPort) (h : ∀ q, (f q).supAt = q.supAt := by intro; rfl) :
    KeepsSupervision e s (modEport p f s) := by
  refine ⟨?_, rfl⟩
  by_cases hpe : e = p
  · rw [hpe, eportOf_modEport_same, h]
  · rw [eportOf_modEport_other f s hpe]

theorem modClass_keepsSupervision (f : EthClass → EthClass) : KeepsSupervision e s (modClass p c f s) :=
  modEport_keepsSupervision e p s _

/-- The frames dropped at the head only count and raise (R441, R443). -/
theorem settleHead_keepsSupervision (fs : List QFrame) : KeepsSupervision e s (settleHead p c s fs) := by
  induction fs generalizing s with
  | nil => exact modClass_keepsSupervision e p c s _
  | cons f rest ih =>
    unfold settleHead
    split
    · exact ((modEport_keepsSupervision e p s _).trans (.of_touches (raise_touches _ _ _))).trans (ih _)
    · split
      · exact (modEport_keepsSupervision e p s _).trans (ih _)
      · exact modClass_keepsSupervision e p c s _

theorem enqueueFrame_keepsSupervision (f : QFrame) : KeepsSupervision e s (enqueueFrame p c f s) := by
  have hcredit : KeepsSupervision e s (creditUpdate p c s) := modClass_keepsSupervision e p c s _
  exact .ite (hcredit.trans (settleHead_keepsSupervision e p c _ _)) (hcredit.trans (modClass_keepsSupervision e p c _ _))

theorem queuePair_keepsSupervision (both : Bool) (build : Nat → QFrame) :
    KeepsSupervision e s (queuePair p c both build s) := by
  refine .ite ?_ (enqueueFrame_keepsSupervision e p c s _)
  refine .trans ?_ (enqueueFrame_keepsSupervision e _ c _ _)
  exact (modEport_keepsSupervision e _ s _).trans (enqueueFrame_keepsSupervision e _ c _ _)

end Queueing

theorem prpPair_even (s : Device) (p : Nat) : prpPair s (p / 2 * 2) = prpPair s p := by
  have heven : p / 2 * 2 / 2 * 2 = p / 2 * 2 := by omega
  rw [prpPair, prpPair, heven]

theorem prpSupervision_of_single {p : Nat} {s : Device} (h : prpPair s p = false) : prpSupervision p s = s := by
  simp [prpSupervision, prpPair_even, h]

/-- A pair that has never sent its supervision frame notes the instant and sends it. -/
theorem prpSupervision_of_never {p : Nat} {s : Device} (hpair : prpPair s p = true)
    (hnever : (eportOf s (p / 2 * 2)).supAt = none) :
    ∃ build, prpSupervision p s = queuePair (p / 2 * 2) 0 true build
      (modEport (p / 2 * 2) (fun q => { q with supAt := some (nowS s) }) s) :=
  ⟨_, if_neg (by simp [prpPair_even, hpair, hnever])⟩

theorem prpSupervision_notes {p : Nat} {s : Device} (hpair : prpPair s p = true)
    (hnever : (eportOf s (p / 2 * 2)).supAt = none) :
    (eportOf (prpSupervision p s) (p / 2 * 2)).supAt = some (nowS s) ∧ (prpSupervision p s).cfg = s.cfg := by
  obtain ⟨build, hsent⟩ := prpSupervision_of_never hpair hnever
  rw [hsent]
  obtain ⟨hsup, hcfg⟩ := queuePair_keepsSupervision (p / 2 * 2) (p / 2 * 2) 0
    (modEport (p / 2 * 2) (fun q => { q with supAt := some (nowS s) }) s) true build
  exact ⟨hsup.trans (congrArg EthPort.supAt (eportOf_modEport_same ..)), hcfg⟩

/-! ## Streams (R444) -/

theorem recoveryReset_of_none {k : Nat} {s : Device} (h : (tget s.eth.streams k {}).seq = none) :
    recoveryReset k s = s := by
  simp [recoveryReset, h]

theorem recoveryReset_of_due {k n : Nat} {s : Device} (hseq : (tget s.eth.streams k {}).seq = some n)
    (hdue : (tget s.eth.streams k {}).at_ + msT (fld 12 2 (recNow s 0x0C 7 k)) ≤ nowS s) :
    recoveryReset k s = { s with
      eth.streams := tset s.eth.streams k { tget s.eth.streams k {} with seq := none, hist := [] } } := by
  simp [recoveryReset, hseq, hdue]

/-! ## ETH_PORT_EN (R466) -/

theorem spireWrite_of_up {f : Device → Device} {s : Device} (h : s.btr.spireUp = true) : spireWrite f s = f s := by
  simp [spireWrite, h]

theorem spireWrite_of_down {f : Device → Device} {s : Device} (h : s.btr.spireUp = false) :
    spireWrite f s = accError s := by
  simp [spireWrite, h]

/-- Where every port barred is down already, the enables are all that the write changes. -/
theorem portEnWrite_of_down {v : Nat} {s : Device} (h : ∀ p < 8, bit p v = true ∨ (eportOf s p).link = false) :
    portEnWrite v s = { hazard 0xC0004 s with eth.portEn := v % 256, eth.portEnCopy := v % 256 } := by
  refine List.foldlRecOn (motive := (· = _)) _ _ rfl fun u hu p hp => ?_
  rcases h p (List.mem_range.mp hp) with hen | hdown
  · rw [if_pos hen, hu]
  · have hport : (eportOf u p).link = false := by
      rw [hu]
      exact (congrArg EthPort.link (eportOf_congr (hazard_eth ..) p)).trans hdown
    rw [ethLinkDown_of_down hport, hu, ite_self]

/-! ## The statement -/

/-- Settles O47, row by row. Of the rows that hand a frame on only the supervision frame of a pair needs more than its own
conditions: its two copies pass the queues of both ports (`queuePair_keepsSupervision`). -/
theorem framesPass : Obligations.FramesPass := by
  unfold Obligations.FramesPass
  refine ⟨?unlinked, ?bad, ?time, ?queued, ?noWindow, ?idle, ?launched, ?gates, ?noGates, ?linkUp, ?stillDown, ?linkDown,
    ?single, ?supervised, ?noRecovery, ?recovery, ?enables, ?allEnabled, ?dieDown, ?noneEnabled⟩
  case unlinked =>
    intro p t bytes s hdown
    rw [exec_frameReceive, execFrameReceive, frameReceive_of_down hdown]
  case bad =>
    intro p t bytes s hlink hbad
    rw [exec_frameReceive, execFrameReceive, frameReceive_of_bad hlink hbad]
  case time =>
    intro p t bytes s hlink hgood htype hnz htaken hdom
    refine ⟨_, rfl, ?_⟩
    rw [frameReceive_of_time hlink hgood htype hnz htaken hdom]
    exact ⟨rfl, rxCounted_rxFr p s.dev, rfl⟩
  case queued =>
    intro p w g rest s hwin hhold hgood hfit
    rw [exec_hostFrameQueue, execHostFrameQueue, hostFrameQueue_of_fit hwin hhold hgood hfit]
  case noWindow =>
    intro p s hnone
    rw [exec_hostFrameQueue, execHostFrameQueue, hostFrameQueue_of_no_window hnone]
  case idle =>
    intro p s h
    rw [exec_frameLaunch, execFrameLaunch, frameLaunch_of_idle h]
  case launched =>
    intro p s hlink hidle hmay
    rw [exec_frameLaunch, execFrameLaunch, frameLaunch_of_class7 hlink hidle hmay]
  case gates =>
    intro p s hcycle hphase
    rw [exec_gateCycleStart, execGateCycleStart, gateCycleStart_of_gates hcycle hphase]
  case noGates =>
    intro p s hcycle
    rw [exec_gateCycleStart, execGateCycleStart, gateCycleStart_of_no_gates hcycle]
  case linkUp =>
    intro p s hp hdown hen hmode hup
    rw [exec_ethLinkUp, execEthLinkUp, ethLinkUp_of_permitted hp hdown hen hmode hup]
  case stillDown =>
    intro p s hdown
    rw [exec_ethLinkDown, execEthLinkDown, ethLinkDown_of_down hdown]
  case linkDown =>
    intro p s hup hsingle
    rw [exec_ethLinkDown, execEthLinkDown, ethLinkDown_of_single hup hsingle]
  case single =>
    intro p s hsingle
    rw [exec_prpSupervisionTimer, execPrpSupervisionTimer, prpSupervision_of_single hsingle]
  case supervised =>
    intro p s hpair hnever
    exact ⟨prpSupervision p s.dev, rfl, prpSupervision_notes hpair hnever⟩
  case noRecovery =>
    intro k s hnone
    rw [exec_streamRecoveryReset, execStreamRecoveryReset, recoveryReset_of_none hnone]
  case recovery =>
    intro k n s hseq hdue
    rw [exec_streamRecoveryReset, execStreamRecoveryReset, recoveryReset_of_due hseq hdue]
  case enables =>
    intro v s hup
    rw [exec_ethPortEnWrite, execEthPortEnWrite, spireWrite_of_up hup]
    rfl
  case allEnabled =>
    intro v s hup hv
    have hen : ∀ p < 8, bit p 255 = true := by decide
    rw [exec_ethPortEnWrite, execEthPortEnWrite, spireWrite_of_up hup, hv,
      portEnWrite_of_down fun p hp => .inl (hen p hp)]
  case dieDown =>
    intro v s hdown
    rw [exec_ethPortEnWrite, execEthPortEnWrite, spireWrite_of_down hdown]
  case noneEnabled =>
    intro s hup hdown
    rw [exec_ethPortEnWrite, execEthPortEnWrite, spireWrite_of_up hup,
      portEnWrite_of_down fun p hp => .inr (hdown p hp)]

end Sys2Proof.Proofs.Ethernet
end

section
/-!
The cycle of a Nelzer station: requests, responses, parameterisation and probes (11_ethernet_nelzer).
-/
namespace Sys2Proof.Proofs.Ethernet
open Sys2Proof Sys2Proof.Machine Sys2Proof.Laws

/-! ## Stations -/

@[simp] theorem stnOf_modStn_same (n : Nat) (f : Station → Station) (s : Device) :
    stnOf (modStn n f s) n = f (stnOf s n) := by
  simp [stnOf, modStn]

theorem stnOf_modStn_other {n k : Nat} (f : Station → Station) (s : Device) (h : k ≠ n) :
    stnOf (modStn n f s) k = stnOf s k :=
  tget_tset_other _ _ _ _ _ h

/-- Stations are read off the state of ETH. -/
theorem stnOf_congr {s t : Device} (h : t.eth = s.eth) (n : Nat) : stnOf t n = stnOf s n := by
  rw [stnOf, stnOf, h]

@[simp] theorem stnOf_raise (n code : Nat) (fs : List (Nat × Nat)) (s : Device) :
    stnOf (raise code fs s) n = stnOf s n := stnOf_congr (raise_eth ..) n

@[simp] theorem nowS_modStn (n : Nat) (f : Station → Station) (s : Device) : nowS (modStn n f s) = nowS s := rfl

@[simp] theorem losses_modStn (n : Nat) (f : Station → Station) (s : Device) :
    (modStn n f s).eth.losses = s.eth.losses := rfl

/-- The state of a station and ETH_LOSSES are held apart. -/
theorem stnOf_modStn_losses (n : Nat) (f : Station → Station) (x : Word) (s : Device) :
    stnOf { modStn n f s with eth.losses := x } n = f (stnOf s n) :=
  stnOf_modStn_same n f s

/-- While a cut is open a station enters the cut, and nothing of ETH changes (R592). -/
@[simp] theorem cutStation_eth (st : Nat) (t : STime) (s : Device) : (cutStation st t s).eth = s.eth := by
  unfold cutStation
  split
  · rfl
  · split <;> rfl

/-! ## Frames received -/

/-- The oldest frame is taken where it meets the test. -/
theorem takeNz_of_head {t : RxFrame → Bool} {f : RxFrame} {rest : List RxFrame} {s : Device}
    (hrx : s.eth.rx = f :: rest) (ht : t f = true) : takeNz t s = (some f, { s with eth.rx := rest }) := by
  simp [takeNz, hrx, ht]

theorem takeNz_of_rx_nil {s : Device} (h : s.eth.rx = []) (t : RxFrame → Bool) :
    takeNz t s = (none, { s with eth.rx := [] }) := by
  simp [takeNz, h]

section NothingReceived
variable (st : Nat) {s : Device} (h : s.eth.rx = [])
include h

theorem nzResponse_of_rx_nil : nzResponse st s = s := by rw [nzResponse, takeNz_of_rx_nil h]
theorem paramAck_of_rx_nil : paramAck st s = s := by rw [paramAck, takeNz_of_rx_nil h]
theorem delayResp_of_rx_nil : delayResp st s = s := by rw [delayResp, takeNz_of_rx_nil h]
theorem probeReply_of_rx_nil : probeReply st s = s := by rw [probeReply, takeNz_of_rx_nil h]

end NothingReceived

/-! Taking a frame leaves the stations, their records and the clocks as they were. -/

section Taken
variable (st : Nat) (s : Device) (rx : List RxFrame)

@[simp] theorem stnOf_rx : stnOf { s with eth.rx := rx } st = stnOf s st := rfl
@[simp] theorem stnRec_rx : stnRec { s with eth.rx := rx } st = stnRec s st := rfl
@[simp] theorem nzBlock_rx : nzBlock { s with eth.rx := rx } st = nzBlock s st := rfl
@[simp] theorem nowS_rx : nowS { s with eth.rx := rx } = nowS s := rfl

end Taken

/-! ## Requests (R449) -/

theorem requestBuild_of_no_cycle {st : Nat} {s : Device} (h : (stnOf s st).next = none) : requestBuild st s = s := by
  simp [requestBuild, h]

/-- A datum whose record of its time is kept is handled under that record (R129). -/
theorem underRec_of_recAt {blk kind obj : Nat} {t : STime} {b : List Byte} {s : Device}
    (h : recAt s blk kind obj t = some b) (f : List Byte → Device → Device) : underRec blk kind obj t f s = f b s := by
  rw [underRec, h]

/-- Launch of the cycle at `l` on a LAN, D before it; on a pair the first of the two (R449). -/
def launchOf (q : Station) (l : STime) (lan : Nat) : STime := ((l : Int) - 256 * stnD q lan).toNat

def firstLaunch (s : Device) (st : Nat) (l : STime) : STime :=
  if stnPaired s (stnRec s st) then min (launchOf (stnOf s st) l 0) (launchOf (stnOf s st) l 1)
  else launchOf (stnOf s st) l 0

section Request
variable {st m : Nat} {l : STime} {b : List Byte} {s : Device} (hnext : (stnOf s st).next = some m)
  (hl : m * stnCycle (stnRec s st) + stnPhase (stnRec s st) = l) (hrec : recAt s 0x0C 3 st l = some b)
include hnext hl hrec

theorem requestBuild_of_early (hearly : nowS s + usT 1 < firstLaunch s st l) : requestBuild st s = s := by
  rw [firstLaunch] at hearly
  simp only [requestBuild, hnext, hl, underRec_of_recAt hrec]
  exact if_pos (Bool.or_eq_true_iff.mpr (.inr (decide_eq_true hearly)))

/-- The request of cycle `m` carries the words held, of which the new ones await its departure (R449, R451). -/
theorem requestBuild_of_due (hen : bit 0 (fld 0 1 b) = true) (hactive : s.pai.standby = false)
    (hdue : firstLaunch s st l ≤ nowS s + usT 1) :
    requestBuild st s = nzSend st 1 (m % 2 ^ 32) (nsLow l) (launchOf (stnOf s st) l)
      ((List.range (fld 10 2 b)).flatMap fun w => le 4 (tget (stnOf s st).outs w {}).value.toNat)
      (modStn st (fun q => { q with
        next := some (m + 1)
        open_ := q.open_ ++
          [{ m, words := (stnOf s st).outs.filter (fun w => w.2.fresh && decide (w.1 < fld 10 2 b)) }]
        outs := q.outs.map (fun w =>
          (w.1, if w.1 < fld 10 2 b then { w.2 with fresh := false, item := none } else w.2)) }) s) := by
  have hnow : ¬nowS s + usT 1 < firstLaunch s st l := Nat.not_lt.mpr hdue
  rw [firstLaunch] at hnow
  simp only [requestBuild, hnext, hl, underRec_of_recAt hrec]
  exact if_neg (by simpa [hen, hactive, launchOf] using hnow)

end Request

/-! ## Responses (R452) -/

section Response
variable {st : Nat} {f : RxFrame} {rest : List RxFrame} {s : Device} (hrx : s.eth.rx = f :: rest)
  (htype : nzType f = 2) (hst : nzStation f = st) (hlive : (stnOf s st).mode = .live)
  (hsrc : nzSrc f = stnMac (stnRec s st)) (hwords : nzWords f = fld 8 2 (stnRec s st)) (hcrc : nzCrcOk f = true)
  (hpcrc : fld 16 4 (nzOf f) = (stnOf s st).pcrc.toNat)
include hrx htype hst hlive hsrc hwords hcrc hpcrc

theorem nzResponse_of_open_cycle {c : NzCycle}
    (hopen : (stnOf s st).open_.find? (fun c => c.m % 2 ^ 32 == fld 4 4 (nzOf f)) = some c)
    (hintime : f.at_ ≤ c.m * stnCycle (stnRec s st) + stnPhase (stnRec s st) + stnResp (stnRec s st))
    (hkeep : bit 0 (fld 12 2 (nzOf f)) = false) :
    nzResponse st s = useResponse st c f { s with eth.rx := rest } := by
  rw [nzResponse, takeNz_of_head hrx (by simp [htype, hst])]
  simp [hlive, hsrc, hwords, hcrc, hpcrc, hopen, Nat.not_lt.mpr hintime, hkeep, -Nat.reducePow]

theorem nzResponse_of_no_open_cycle (hopen : (stnOf s st).open_ = []) :
    nzResponse st s = { s with eth.rx := rest, eth.late := s.eth.late + 1 } := by
  rw [nzResponse, takeNz_of_head hrx (by simp [htype, hst])]
  simp [hlive, hsrc, hwords, hcrc, hpcrc, hopen]

end Response

/-! ## Deadlines (R452)

Concluding a cycle leaves the state of its station, its misses and ETH_MISS as they were. -/

/-- `t` has the ETH_MISS of `s`, and station `st` its mode and its misses. -/
structure KeepsStation (st : Nat) (s t : Device) : Prop where
  mode : (stnOf t st).mode = (stnOf s st).mode
  misses : (stnOf t st).misses = (stnOf s st).misses
  miss : t.eth.miss = s.eth.miss

namespace KeepsStation
variable {st : Nat} {s t u : Device}

theorem refl (st : Nat) (s : Device) : KeepsStation st s s := ⟨rfl, rfl, rfl⟩

theorem trans (h : KeepsStation st s t) (k : KeepsStation st t u) : KeepsStation st s u :=
  ⟨k.mode.trans h.mode, k.misses.trans h.misses, k.miss.trans h.miss⟩

theorem ite {c : Prop} [Decidable c] (h : KeepsStation st s t) (k : KeepsStation st s u) :
    KeepsStation st s (if c then t else u) := by
  split <;> assumption

theorem of_eth (h : t.eth = s.eth) : KeepsStation st s t :=
  ⟨by rw [stnOf_congr h], by rw [stnOf_congr h], by rw [h]⟩

end KeepsStation

theorem report_eth (o : OutItem) (f : Fate) (t : STime) (s : Device) : (report o f t s).eth = s.eth := by
  unfold report
  split <;> rfl

theorem ltnEnqueue_eth (r : LtnIn) (s : Device) : (ltnEnqueue r s).eth = s.eth := by
  simp only [ltnEnqueue]
  split
  · rfl
  · split
    · rfl
    · split
      · split
        · rw [raise_eth]; rfl
        · rfl
      · rfl

theorem ltnRecord_eth (kind index node : Nat) (t : STime) (version : Nat) (value : Word) (aux flags : Nat) (s : Device) :
    (ltnRecord kind index node t version value aux flags s).eth = s.eth :=
  List.foldlRecOn (motive := fun u : Device => u.eth = s.eth) _ _ rfl fun _ hu _ _ => (ltnEnqueue_eth _ _).trans hu

section Conclusion
variable (st : Nat) (s : Device)

theorem modStn_keepsStation (n : Nat) {f : Station → Station} (hmode : ∀ q, (f q).mode = q.mode)
    (hmisses : ∀ q, (f q).misses = q.misses) : KeepsStation st s (modStn n f s) := by
  by_cases h : st = n
  · subst h
    exact ⟨by rw [stnOf_modStn_same, hmode], by rw [stnOf_modStn_same, hmisses], rfl⟩
  · exact ⟨by rw [stnOf_modStn_other f s h], by rw [stnOf_modStn_other f s h], rfl⟩

theorem wordBack_keepsStation (w : Nat × StWord) : KeepsStation st s (wordBack st w s) := by
  unfold wordBack
  refine .ite (modStn_keepsStation st s st (fun _ => rfl) fun _ => rfl) ?_
  have hcount : KeepsStation st s { s with eth.supersede := s.eth.supersede + 1 } := ⟨rfl, rfl, rfl⟩
  split
  · exact hcount.trans (.of_eth (report_eth ..))
  · exact hcount

theorem slipCheck_keepsStation (slip : STime) : KeepsStation st s (slipCheck st slip s) := by
  unfold slipCheck
  refine .ite (modStn_keepsStation st s st (fun _ => rfl) fun _ => rfl) ?_
  have hslip : KeepsStation st s
      (modStn st (fun q => { q with slipped := true }) { s with eth.slip := s.eth.slip + 1 }) :=
    .trans (t := { s with eth.slip := s.eth.slip + 1 }) ⟨rfl, rfl, rfl⟩
      (modStn_keepsStation st _ st (fun _ => rfl) fun _ => rfl)
  exact .ite hslip (hslip.trans (.of_eth (raise_eth ..)))

theorem concludeCycle_keepsStation (c : NzCycle) (lan : Option Nat) :
    KeepsStation st s (concludeCycle st c lan s) := by
  unfold concludeCycle
  dsimp only
  split
  · refine .trans (List.foldlRecOn _ _ (.ite (slipCheck_keepsStation st s _) (.refl st s)) fun t ht w _ => ?_)
      (.of_eth rfl)
    refine ht.trans (.of_eth ?_)
    split
    · rw [report_eth, ltnRecord_eth]
    · rw [ltnRecord_eth]
  · exact .trans (List.foldlRecOn _ _ (.refl st s) fun t ht w _ => ht.trans (wordBack_keepsStation st t w)) (.of_eth rfl)

end Conclusion

section Deadline
variable {st : Nat} {c : NzCycle} {rest : List NzCycle} {s : Device} (hopen : (stnOf s st).open_ = c :: rest)
include hopen

theorem responseDeadline_of_early
    (h : nowS s ≤ c.m * stnCycle (stnRec s st) + stnPhase (stnRec s st) + stnResp (stnRec s st)) :
    responseDeadline st s = s := by
  simp [responseDeadline, hopen, h]

/-- A miss of a station in PARAM is counted and loses nothing: only a LIVE station is lost by its misses (R459). -/
theorem responseDeadline_of_param
    (hlate : c.m * stnCycle (stnRec s st) + stnPhase (stnRec s st) + stnResp (stnRec s st) < nowS s)
    (hparam : (stnOf s st).mode = .param) :
    responseDeadline st s = modStn st
      (fun q => { q with open_ := rest, misses := q.misses + 1, missRun := min 15 (q.missRun + 1) })
      (concludeCycle st c none { s with eth.miss := s.eth.miss + 1 }) := by
  have hmode : (stnOf (concludeCycle st c none { s with eth.miss := s.eth.miss + 1 }) st).mode = .param :=
    (concludeCycle_keepsStation st _ c none).mode.trans hparam
  simp only [responseDeadline, hopen, if_neg (Nat.not_le.mpr hlate)]
  refine if_neg fun ⟨hlive, _⟩ => ?_
  rw [stnOf_modStn_same] at hlive
  exact absurd (hmode.symm.trans hlive) (by decide)

theorem responseDeadline_counts
    (hlate : c.m * stnCycle (stnRec s st) + stnPhase (stnRec s st) + stnResp (stnRec s st) < nowS s)
    (hparam : (stnOf s st).mode = .param) :
    (stnOf (responseDeadline st s) st).misses = (stnOf s st).misses + 1 ∧
      (stnOf (responseDeadline st s) st).open_ = rest ∧ (responseDeadline st s).eth.miss = s.eth.miss + 1 ∧
      (stnOf (responseDeadline st s) st).mode = .param := by
  obtain ⟨hmode, hmisses, hmiss⟩ := concludeCycle_keepsStation st { s with eth.miss := s.eth.miss + 1 } c none
  rw [responseDeadline_of_param hopen hlate hparam, stnOf_modStn_same]
  exact ⟨congrArg (· + 1) hmisses, rfl, hmiss, hmode.trans hparam⟩

end Deadline

/-! ## Parameterisation (R461) -/

section Acknowledged
variable {st : Nat} {f : RxFrame} {k : NzParam} {rest : List RxFrame} {s : Device} (hrx : s.eth.rx = f :: rest)
  (htype : nzType f = 4) (hst : nzStation f = st) (hsrc : nzSrc f = stnMac (stnRec s st))
  (hparam : (stnOf s st).param = some k) (hdelays : k.delays = false) (hcrc : nzCrcOk f = true)
  (hoffset : fld 4 4 (nzOf f) = k.offset)
include hrx htype hst hsrc hparam hdelays hcrc hoffset

theorem paramAck_of_last (hlast : (nzBlock s st).length ≤ k.offset + 1024)
    (hblock : fld 16 4 (nzOf f) = (crc32c (nzBlock s st)).toNat) :
    paramAck st s = sendDelay st 0
      (modParam st (fun k => { k with delays := true, lan := 0, tries := 1, sentAt := nowS s, left := none })
        (modStn st (fun q => { q with latch := fld 8 4 (nzOf f), pcrc := crc32c (nzBlock s st) })
          { s with eth.rx := rest })) := by
  rw [paramAck, takeNz_of_head hrx (by simp [htype, hst, hsrc])]
  simp [hparam, hdelays, hcrc, hoffset, hlast, hblock]

theorem paramAck_of_more (hmore : k.offset + 1024 < (nzBlock s st).length) :
    paramAck st s = sendPiece st (k.offset + 1024)
      (modParam st (fun k => { k with offset := k.offset + 1024, tries := 1, sentAt := nowS s })
        { s with eth.rx := rest }) := by
  rw [paramAck, takeNz_of_head hrx (by simp [htype, hst, hsrc])]
  simp [hparam, hdelays, hcrc, hoffset, Nat.not_le.mpr hmore]

end Acknowledged

/-- A station without open cycles enters LOST, its parameterisation ends and the loss is counted (R459). -/
theorem nzLoss_of_no_open_cycle {st : Nat} {s : Device} (h : (stnOf s st).open_ = []) (cause : Nat) (t : STime) :
    (stnOf (nzLoss st cause t s) st).mode = .lost ∧ (stnOf (nzLoss st cause t s) st).param = none ∧
      (nzLoss st cause t s).eth.losses = s.eth.losses + 1 := by
  simp only [nzLoss, h, List.foldl_nil, stnOf_raise, raise_eth, stnOf_modStn_losses, losses_modStn,
    cutStation_eth, and_self]

section Unacknowledged
variable {st : Nat} {k : NzParam} {s : Device} (hparam : (stnOf s st).param = some k)
include hparam

theorem paramTimeout_of_early (h : nowS s < k.sentAt + msT 1) : paramTimeout st s = s := by
  simp [paramTimeout, hparam, h]

theorem paramTimeout_of_repeat (hdue : k.sentAt + msT 1 ≤ nowS s) (htries : k.tries ≤ 2)
    (hdelays : k.delays = false) :
    paramTimeout st s = sendPiece st k.offset
      (modParam st (fun k => { k with tries := k.tries + 1, sentAt := nowS s, left := none }) s) := by
  have hmay : ¬3 ≤ k.tries := by omega
  simp [paramTimeout, hparam, Nat.not_lt.mpr hdue, hmay, hdelays]

/-- After the third attempt the station is lost, with a cause that is a free value. -/
theorem paramTimeout_of_third (hdue : k.sentAt + msT 1 ≤ nowS s) (htries : 3 ≤ k.tries) :
    ∃ cause t u, paramTimeout st s = nzLoss st cause t u ∧ u.eth = s.eth := by
  refine ⟨(Config.nzParamCause (draw s).1).toNat, nowS s,
    raise Ev.nzParamFail [(1, st), (2, if k.delays then 0xFFFF else k.offset)] (draw s).2, ?_, raise_eth ..⟩
  rw [paramTimeout, hparam]
  exact (if_neg (Nat.not_lt.mpr hdue)).trans (if_pos htries)

end Unacknowledged

/-! ## Delays and probes (R455, R458, R460) -/

/-- The first reply of a LAN leaves exchanges to come: the next begins. -/
theorem delayResp_of_first {st : Nat} {f : RxFrame} {rest : List RxFrame} {k : NzParam} {t0 : STime} {s : Device}
    (hrx : s.eth.rx = f :: rest) (htype : nzType f = 8) (hst : nzStation f = st)
    (hsrc : nzSrc f = stnMac (stnRec s st)) (hparam : (stnOf s st).param = some k) (hleft : k.left = some t0)
    (hdelays : k.delays = true) (hcrc : nzCrcOk f = true) (hgot : k.got = []) :
    delayResp st s = sendDelay st k.lan
      (modParam st (fun x => { x with
        lan := k.lan, got := [(k.lan, twiceDelay f t0)], tries := 1, sentAt := nowS s, left := none })
        { s with eth.rx := rest }) := by
  rw [delayResp, takeNz_of_head hrx (by simp [htype, hst, hsrc])]
  simp [hparam, hleft, hdelays, hcrc, hgot]

theorem probeReply_of_lost {st : Nat} {f : RxFrame} {rest : List RxFrame} {s : Device} (hrx : s.eth.rx = f :: rest)
    (hsrc : nzSrc f = stnMac (stnRec s st)) (hlost : (stnOf s st).mode = .lost) :
    probeReply st s = startParam st true { s with eth.rx := rest } := by
  rw [probeReply, takeNz_of_head hrx (by simp [hsrc, hlost])]
  simp [wakeStation, hlost]

theorem probeTimer_of_not_lost {st : Nat} {s : Device} (h : (stnOf s st).mode ≠ .lost) : probeTimer st s = s := by
  simp [probeTimer, h]

theorem probeTimer_of_due {st : Nat} {s : Device} (hlost : (stnOf s st).mode = .lost)
    (hdue : (stnOf s st).probeAt + usT (fld 32 4 (stnRec s st)) ≤ nowS s) :
    probeTimer st s = nzSend st 5 0 0 (fun _ => 0) [] (modStn st (fun q => { q with probeAt := nowS s }) s) := by
  simp [probeTimer, hlost, Nat.not_lt.mpr hdue]

/-! ## The statement -/

/-- Settles O48, row by row. A miss needs that concluding the cycle keeps its station (`concludeCycle_keepsStation`); the
loss after the third attempt ends the parameterisation whatever cause is drawn (`nzLoss_of_no_open_cycle`). -/
theorem stationsCycle : Obligations.StationsCycle := by
  unfold Obligations.StationsCycle
  refine ⟨?noCycle, ?builds, ?early, ?noFrame, ?used, ?late, ?beforeDeadline, ?miss, ?lastPiece, ?nextPiece,
    ?beforeRepeat, ?repeats, ?lost, ?delay, ?returns, ?notLost, ?probes⟩
  case noCycle =>
    intro st s hnone
    rw [exec_nzRequestBuild, execNzRequestBuild, requestBuild_of_no_cycle hnone]
  case builds =>
    intro st m l b s hnext hl hrec hen hactive hdue
    rw [exec_nzRequestBuild, execNzRequestBuild, requestBuild_of_due hnext hl hrec hen hactive hdue]
    rfl
  case early =>
    intro st m l b s hnext hl hrec hearly
    rw [exec_nzRequestBuild, execNzRequestBuild, requestBuild_of_early hnext hl hrec hearly]
  case noFrame =>
    intro st s hnil
    refine ⟨?_, ?_, ?_, ?_⟩
    · rw [exec_nzResponse, execNzResponse, nzResponse_of_rx_nil st hnil]
    · rw [exec_paramAck, execParamAck, paramAck_of_rx_nil st hnil]
    · rw [exec_delayResp, execDelayResp, delayResp_of_rx_nil st hnil]
    · rw [exec_probeReply, execProbeReply, probeReply_of_rx_nil st hnil]
  case used =>
    intro st f rest c s hrx htype hst hlive hsrc hwords hcrc hpcrc hopen hintime hkeep
    rw [exec_nzResponse, execNzResponse,
      nzResponse_of_open_cycle hrx htype hst hlive hsrc hwords hcrc hpcrc hopen hintime hkeep]
  case late =>
    intro st f rest s hrx htype hst hlive hsrc hwords hcrc hpcrc hopen
    rw [exec_nzResponse, execNzResponse,
      nzResponse_of_no_open_cycle hrx htype hst hlive hsrc hwords hcrc hpcrc hopen]
  case beforeDeadline =>
    intro st c rest s hopen hearly
    rw [exec_nzResponseDeadline, execNzResponseDeadline, responseDeadline_of_early hopen hearly]
  case miss =>
    intro st c rest s hopen hlate hparam
    exact ⟨responseDeadline st s.dev, rfl, responseDeadline_counts hopen hlate hparam⟩
  case lastPiece =>
    intro st f k rest s hrx htype hst hsrc hparam hlast hdelays hcrc hoffset hblock
    rw [exec_paramAck, execParamAck,
      paramAck_of_last hrx htype hst hsrc hparam hdelays hcrc hoffset hlast hblock]
  case nextPiece =>
    intro st f k rest s hrx htype hst hsrc hparam hmore hdelays hcrc hoffset
    rw [exec_paramAck, execParamAck, paramAck_of_more hrx htype hst hsrc hparam hdelays hcrc hoffset hmore]
  case beforeRepeat =>
    intro st k s hparam hearly
    rw [exec_nzParamPieceTimeout, execNzParamPieceTimeout, paramTimeout_of_early hparam hearly]
  case repeats =>
    intro st k s hparam hdue htries hdelays
    rw [exec_nzParamPieceTimeout, execNzParamPieceTimeout, paramTimeout_of_repeat hparam hdue htries hdelays]
  case lost =>
    intro st k s hparam hdue htries hopen
    obtain ⟨cause, t, u, heq, heth⟩ := paramTimeout_of_third hparam hdue htries
    refine ⟨nzLoss st cause t u, by rw [exec_nzParamPieceTimeout, execNzParamPieceTimeout, heq], ?_⟩
    rw [← heth]
    exact nzLoss_of_no_open_cycle (by rw [stnOf_congr heth, hopen]) cause t
  case delay =>
    intro st f rest k t0 s hrx htype hst hsrc hparam hleft hdelays hcrc hgot
    rw [exec_delayResp, execDelayResp, delayResp_of_first hrx htype hst hsrc hparam hleft hdelays hcrc hgot]
  case returns =>
    intro st f rest s hrx hsrc hlost
    rw [exec_probeReply, execProbeReply, probeReply_of_lost hrx hsrc hlost]
  case notLost =>
    intro st s h
    rw [exec_nzProbeTimer, execNzProbeTimer, probeTimer_of_not_lost h]
  case probes =>
    intro st s hlost hdue
    rw [exec_nzProbeTimer, execNzProbeTimer, probeTimer_of_due hlost hdue]

end Sys2Proof.Proofs.Ethernet
end

section
/-!
Working time, its strobe, PPS and the trigger table (12_time).
-/
namespace Sys2Proof.Proofs.Time
open Sys2Proof Sys2Proof.Machine Sys2Proof.Laws

/-! ## One CK_TIME cycle (R34, R473, R479) -/

theorem step_of_idle (d : Device) : step { pending := [], dev := d } = .next { pending := [], dev := clockCycle d } := rfl

theorem clockCycle_of_held {d : Device} (h : d.clk.held.isSome = true) :
    clockCycle d = { d with tim.ck := d.tim.ck + 1 } := by
  simp [clockCycle, h]

theorem clockCycle_of_running {d : Device} (h : d.clk.held = none) :
    clockCycle d = pmcTick { d with
      tim.ck := d.tim.ck + 1
      tim.dome := d.tim.dome + (2 ^ 32 + d.tim.rate).toNat
      tim.spire := d.tim.spire + (2 ^ 32 + d.tim.rate).toNat } := by
  simp [clockCycle, h]

/-- ADDEND lies within 200 ppm of a nanosecond while RATE does (R473). -/
theorem addend_bounds {rate : Int} (hlo : -858993 ≤ rate) (hhi : rate ≤ 858993) :
    9998 * 2 ^ 32 / 10000 ≤ (2 ^ 32 + rate).toNat ∧ (2 ^ 32 + rate).toNat ≤ 10002 * 2 ^ 32 / 10000 := by
  omega

/-- Settles O4: the LEVEL signals count beside working time and change nothing of it. -/
theorem idleCycle : Obligations.IdleCycle := by
  unfold Obligations.IdleCycle
  refine ⟨?running, ?held⟩
  case running =>
    intro d hrun
    refine ⟨clockCycle d, step_of_idle d, ?_⟩
    rw [clockCycle_of_running hrun]
    refine ⟨rfl, rfl, rfl, fun hlo hhi => ?_, rfl, rfl, rfl, rfl⟩
    obtain ⟨hmin, hmax⟩ := addend_bounds hlo hhi
    exact ⟨Nat.add_le_add_left hmin _, Nat.add_le_add_left hmax _⟩
  case held =>
    intro d hheld
    rw [step_of_idle, clockCycle_of_held hheld]

/-! ## The alignment strobe (R475, R479, R480) -/

/-- With the link up a strobe ends with the copy equal to the Dome counter (R475). -/
def strobeAlign (s : Device) : Device := if s.btr.linkUp then { s with tim.spire := s.tim.dome } else s

theorem alignmentStrobe_of_early {s : Device} (h : s.tim.ck / 1048576 = s.tim.lastStrobe / 1048576) :
    alignmentStrobe s = s := by
  simp [alignmentStrobe, h]

theorem alignmentStrobe_of_due {s : Device} (h : s.tim.lastStrobe / 1048576 < s.tim.ck / 1048576) :
    alignmentStrobe s = strobeAlign (strobeRate (strobeSteps (strobeCopy { s with tim.lastStrobe := s.tim.ck }))) :=
  if_neg (Nat.not_le.mpr h)

theorem strobeAlign_of_down {s : Device} (h : s.btr.linkUp = false) : strobeAlign s = s := by
  simp [strobeAlign, h]

theorem strobeAlign_of_up {s : Device} (h : s.btr.linkUp = true) :
    strobeAlign s = { s with tim.spire := s.tim.dome } := by
  simp [strobeAlign, h]

theorem strobeCopy_of_down {s : Device} (h : s.btr.linkUp = false) : strobeCopy s = s := by
  simp [strobeCopy, h]

/-- Comparing the copy changes the copy, that it is set, and TIM_COPY_ERR, and raises (R475, R496). -/
theorem strobeCopy_touches (s : Device) : ∃ spire set err,
    Touches { s with tim.spire := spire, tim.copySet := set, tim.copyErr := err } (strobeCopy s) := by
  unfold strobeCopy
  split
  · exact ⟨_, _, _, .refl s⟩
  · extract_lets diff bad far t
    split
    · exact ⟨_, _, _, raise_touches ..⟩
    · exact ⟨_, _, _, .refl t⟩

theorem strobeSteps_of_none {s : Device} (hstep : s.tim.nextStep = none) (hset : s.tim.setTime = none) :
    strobeSteps s = s := by
  simp [strobeSteps, hstep, hset]

theorem strobeRate_of_due {r : Int} {s : Device} (hrate : s.tim.nextRate = some r) (hfree : s.tim.nextFree = none) :
    strobeRate s = { s with tim.rate := r, tim.nextRate := none } := by
  simp [strobeRate, hrate, hfree]

/-- A strobe changes RATE and what was due for it, and nothing else (R475, R479). -/
theorem strobeRate_eq (s : Device) : ∃ rate next free,
    strobeRate s = { s with tim.rate := rate, tim.nextRate := next, tim.nextFree := free } := by
  unfold strobeRate
  cases s.tim.nextRate with
  | none => dsimp only; split <;> exact ⟨_, _, _, rfl⟩
  | some r => dsimp only; split <;> exact ⟨_, _, _, rfl⟩

/-- With the link down a strobe without a step takes the rate that is due (R475). -/
theorem alignmentStrobe_of_rate {r : Int} {s : Device} (hdue : s.tim.lastStrobe / 1048576 < s.tim.ck / 1048576)
    (hlink : s.btr.linkUp = false) (hstep : s.tim.nextStep = none) (hset : s.tim.setTime = none)
    (hrate : s.tim.nextRate = some r) (hfree : s.tim.nextFree = none) :
    alignmentStrobe s = { s with tim.lastStrobe := s.tim.ck, tim.rate := r, tim.nextRate := none } := by
  rw [alignmentStrobe_of_due hdue, strobeCopy_of_down (s := { s with tim.lastStrobe := s.tim.ck }) hlink,
    strobeSteps_of_none (s := { s with tim.lastStrobe := s.tim.ck }) hstep hset,
    strobeRate_of_due (s := { s with tim.lastStrobe := s.tim.ck }) hrate hfree]
  exact strobeAlign_of_down hlink

/-! ## The step of UNSET (R478, R480)

What a strobe does before and after the step leaves the Dome counter and the account of its steps alone. -/

/-- `t` has the link, the Dome counter and the account of its steps as `s` has them. -/
structure KeepsStep (s t : Device) : Prop where
  btr : t.btr = s.btr
  dome : t.tim.dome = s.tim.dome
  steps : t.tim.steps = s.tim.steps
  stepNs : t.tim.stepNs = s.tim.stepNs
  nextStep : t.tim.nextStep = s.tim.nextStep

theorem KeepsStep.trans {s t u : Device} (h : KeepsStep s t) (k : KeepsStep t u) : KeepsStep s u :=
  ⟨k.btr.trans h.btr, k.dome.trans h.dome, k.steps.trans h.steps, k.stepNs.trans h.stepNs, k.nextStep.trans h.nextStep⟩

theorem strobeRate_keepsStep (s : Device) : KeepsStep s (strobeRate s) := by
  obtain ⟨rate, next, free, hrate⟩ := strobeRate_eq s
  rw [hrate]
  exact ⟨rfl, rfl, rfl, rfl, rfl⟩

theorem strobeAlign_keepsStep (s : Device) : KeepsStep s (strobeAlign s) := by
  unfold strobeAlign
  split <;> exact ⟨rfl, rfl, rfl, rfl, rfl⟩

theorem stepped_btr (step cause : Nat) (s : Device) : (stepped step cause s).btr = s.btr :=
  raise_btr ..

theorem stepped_tim (step cause : Nat) (s : Device) : (stepped step cause s).tim = { s.tim with
    stepNs := step, steps := s.tim.steps + 1, ppsFrom := domeNs s
    trigs := tmap s.tim.trigs (fun _ e => { e with from_ := nowD s, last := none })
    mode := if s.tim.sel = 2 then .free else .tracking
    nextFree := if s.tim.sel = 2 then some (freePpb s) else s.tim.nextFree } := by
  simp only [stepped, raise_tim]

/-- The Dome counter after the step has a name of its own, `dome`: the kernel would count its literal down. -/
theorem strobeSteps_of_due {n cause dome : Nat} {s : Device} (hmode : s.tim.mode = .unset)
    (hstep : s.tim.nextStep = some (n, cause)) (hset : s.tim.setTime = none)
    (hdome : s.tim.dome + n * 4294967296 = dome) :
    ∃ t, strobeSteps s = stepped n cause t ∧ t.btr = s.btr ∧ t.tim.dome = dome ∧ t.tim.steps = s.tim.steps ∧
      t.tim.nextStep = none := by
  refine ⟨{ s with tim.dome := dome, tim.nextStep := none }, ?_, rfl, rfl, rfl, rfl⟩
  rw [strobeSteps, hstep]
  dsimp only
  rw [if_pos (by rw [hmode]; rfl), hdome]
  split
  · next g hg =>
    rw [stepped_tim] at hg
    cases hset.symm.trans hg
  · rfl

/-- In UNSET a strobe takes the step that is due, and with the link up sets the copy (R475, R480). -/
theorem alignmentStrobe_of_step {n cause : Nat} {s : Device}
    (hdue : s.tim.lastStrobe / 1048576 < s.tim.ck / 1048576) (hmode : s.tim.mode = .unset)
    (hstep : s.tim.nextStep = some (n, cause)) (hset : s.tim.setTime = none) :
    (alignmentStrobe s).tim.dome = s.tim.dome + n * 4294967296 ∧
    (alignmentStrobe s).tim.steps = s.tim.steps + 1 ∧ (alignmentStrobe s).tim.stepNs = n ∧
    (alignmentStrobe s).tim.nextStep = none ∧
    (s.btr.linkUp = true → (alignmentStrobe s).tim.spire = (alignmentStrobe s).tim.dome) := by
  generalize hdome : s.tim.dome + n * 4294967296 = dome
  obtain ⟨spire, set, err, hcopied⟩ := strobeCopy_touches { s with tim.lastStrobe := s.tim.ck }
  rw [alignmentStrobe_of_due hdue]
  generalize strobeCopy { s with tim.lastStrobe := s.tim.ck } = u at hcopied
  have htim := hcopied.tim
  have hbefore : u.tim.dome = s.tim.dome := by rw [htim]
  have hcount : u.tim.steps = s.tim.steps := by rw [htim]
  obtain ⟨v, hstepped, hbtr, hafter, hsame, hnone⟩ := strobeSteps_of_due (s := u)
    (by rw [htim, hmode]) (by rw [htim, hstep]) (by rw [htim, hset]) (hbefore ▸ hdome)
  have hkeeps := (strobeRate_keepsStep (stepped n cause v)).trans (strobeAlign_keepsStep _)
  rw [hstepped]
  refine ⟨?_, ?_, ?_, ?_, fun hlink => ?_⟩
  · rw [hkeeps.dome, stepped_tim, hafter]
  · rw [hkeeps.steps, stepped_tim, hsame, hcount]
  · rw [hkeeps.stepNs, stepped_tim]
  · rw [hkeeps.nextStep, stepped_tim, hnone]
  · rw [strobeAlign_of_up]
    rw [(strobeRate_keepsStep _).btr, stepped_btr, hbtr, hcopied.btr, hlink]

/-! ## PPS (R487, R501) -/

theorem ppsOffset_bounds (e : Int) :
    -500000000 < ppsOffset e ∧ ppsOffset e ≤ 500000000 ∧ (e - ppsOffset e) % 1000000000 = 0 := by
  unfold ppsOffset
  dsimp only
  split <;> omega

@[simp] theorem ppsDomain_ppsIn (ns : Nat) (s : Device) : ppsDomain { s with tim.ppsIn := ns } = ppsDomain s := rfl

theorem ppsInEdge_of_no_domain {t : STime} {s : Device} (h : ppsDomain s = none) :
    ppsInEdge t s = { s with tim.ppsIn := t / 256 } := by
  simp [ppsInEdge, h]

theorem ppsInEdge_of_domain {t : STime} {d : Nat} {s : Device} (hdom : ppsDomain s = some d)
    (hset : s.tim.setTime = none) :
    ppsInEdge t s = measure d (ppsOffset ((t / 256 : Nat) - sfld 12 4 (domRec s d)))
      ((t / 256 : Nat) - ppsOffset ((t / 256 : Nat) - sfld 12 4 (domRec s d))) s.tim.ck true
      { s with tim.ppsIn := t / 256 } := by
  simp only [ppsInEdge, ppsDomain_ppsIn, hdom]
  split
  · next g hg => cases hset.symm.trans hg
  · rfl

theorem ppsOutEdge_of_unset {s : Device} (hmode : s.tim.mode = .unset) (hhigh : s.tim.ppsOut = true) :
    ppsOutEdge s = { s with tim.ppsOut := false, out := s.out ++ [.pin 0x0B00 false] } := by
  simp [ppsOutEdge, emit, hmode, hhigh]

/-- PPS_OUT rises at a whole second of which it runs (R501). -/
theorem ppsOutEdge_of_rise {s : Device} (hmode : s.tim.mode ≠ .unset) (hen : bit 3 (fld 0 1 (timRec s)) = true)
    (hwidth : domeNs s % 1000000000 < 1000 * fld 28 4 (timRec s)) (hlow : s.tim.ppsOut = false)
    (hfrom : s.tim.ppsFrom ≤ domeNs s / 1000000000 * 1000000000)
    (hdue : (recAt s 0x0B 0 0 (nsT (domeNs s / 1000000000 * 1000000000))).any (fun r => bit 3 (fld 0 1 r)) = true) :
    ppsOutEdge s = { s with
      tim.ppsOut := true, tim.ppsRise := nsT (domeNs s / 1000000000 * 1000000000)
      out := s.out ++ [.pin 0x0B00 true] } := by
  simp [ppsOutEdge, emit, hmode, hen, hwidth, hlow, hfrom, hdue]

/-! ## Scans that the trigger table starts (R269) -/

theorem beginScan_dpt (c : Nat) (s : Device) : (beginScan c s).dpt = s.dpt := by
  refine List.foldlRecOn (motive := fun (u : Device) => u.dpt = s.dpt) _ _ rfl fun u hu k _ => ?_
  split
  · exact hu
  · exact hu

theorem scanRequest_dpt (c : Nat) (s : Device) : (scanRequest c s).dpt = s.dpt := by
  simp only [scanRequest]
  split
  · rfl
  · split
    · exact beginScan_dpt c s
    · split
      · exact raise_dpt ..
      · rfl

@[simp] theorem scanTriggered_dpt (e : Nat) (s : Device) : (scanTriggered e s).dpt = s.dpt := by
  refine List.foldlRecOn (motive := fun (u : Device) => u.dpt = s.dpt) _ _ rfl fun u hu c _ => ?_
  split
  · exact (scanRequest_dpt c u).trans hu
  · exact hu

theorem scanTriggered_of_no_converters {e : Nat} {s : Device} (h : objsOf s 0x08 1 = []) : scanTriggered e s = s := by
  simp [scanTriggered, h]

/-! ## The trigger table (R477, R503, R504) -/

/-- Entry `e` has fired at `t`: it counts and notes its instant (R503). -/
def trigFired (e : Nat) (t : STime) (s : Device) : Device :=
  { s with tim.trigs := tset s.tim.trigs e { trigOf s e with count := (trigOf s e).count + 1, last := some t } }

section Firing
variable {e : Nat} {t : STime} {s : Device}

theorem triggerFiring_of_none (h : nextFiring (recNow s 0x0B 2 e) (trigFrom s e) = none) : triggerFiring e s = s := by
  simp [triggerFiring, h]

theorem triggerFiring_of_early (hnext : nextFiring (recNow s 0x0B 2 e) (trigFrom s e) = some t) (h : nowS s < t) :
    triggerFiring e s = s := by
  simp [triggerFiring, hnext, h]

theorem triggerFiring_of_unset (h : s.tim.mode = .unset) : triggerFiring e s = s := by
  cases hnext : nextFiring (recNow s 0x0B 2 e) (trigFrom s e) with
  | none => exact triggerFiring_of_none hnext
  | some t => simp [triggerFiring, hnext, h]

theorem triggerFiring_of_due (hnext : nextFiring (recNow s 0x0B 2 e) (trigFrom s e) = some t) (hdue : t ≤ nowS s)
    (hmode : s.tim.mode ≠ .unset) :
    triggerFiring e s =
      if fld 1 1 (recNow s 0x0B 2 e) = 1 ∧ s.dpt.run = true then
        trigRelease (fld 2 2 (recNow s 0x0B 2 e)) t (scanTriggered e (trigFired e t s))
      else scanTriggered e (trigFired e t s) := by
  simp only [triggerFiring, hnext]
  rw [if_neg (by simp [Nat.not_lt.mpr hdue, hmode])]
  refine ite_congr (propext ?_) (fun _ => rfl) (fun _ => rfl)
  simp only [Bool.and_eq_true, decide_eq_true_eq, scanTriggered_dpt]

end Firing

/-! ## The statement -/

/-- Settles O44, row by row. The strobe's step passes the comparison of the copy and the change of RATE, which leave the
Dome counter alone (`strobeCopy_touches`, `strobeRate_eq`); a firing reads whether the engine runs after the converters have
had it, which do not change that (`scanTriggered_dpt`). -/
theorem timeAdvances : Obligations.TimeAdvances := by
  unfold Obligations.TimeAdvances
  refine ⟨?between, ?rate, ?step, ?noDomain, ?edge, ?offset, ?falls, ?rises, ?noFiring, ?early, ?noted, ?fires, ?unset,
    ?now⟩
  case between =>
    intro s hearly
    rw [exec_alignmentStrobe, execAlignmentStrobe, alignmentStrobe_of_early hearly]
  case rate =>
    intro r s hdue hlink hstep hset hrate hfree
    rw [exec_alignmentStrobe, execAlignmentStrobe, alignmentStrobe_of_rate hdue hlink hstep hset hrate hfree]
  case step =>
    intro n cause s hdue hmode hstep hset
    exact ⟨alignmentStrobe s.dev, rfl, alignmentStrobe_of_step hdue hmode hstep hset⟩
  case noDomain =>
    intro t s hnone
    rw [exec_ppsInEdge, execPpsInEdge, ppsInEdge_of_no_domain hnone]
  case edge =>
    intro t d s hdom hset
    rw [exec_ppsInEdge, execPpsInEdge, ppsInEdge_of_domain hdom hset]
  case offset => exact ppsOffset_bounds
  case falls =>
    intro s hmode hhigh
    rw [exec_ppsOutEdge, execPpsOutEdge, ppsOutEdge_of_unset hmode hhigh]
  case rises =>
    intro s hmode hen hwidth hlow hfrom hdue
    rw [exec_ppsOutEdge, execPpsOutEdge, ppsOutEdge_of_rise hmode hen hwidth hlow hfrom hdue]
  case noFiring =>
    intro e s hnone
    rw [exec_triggerFiring, execTriggerFiring, triggerFiring_of_none hnone]
  case early =>
    intro e t s hnext hearly
    rw [exec_triggerFiring, execTriggerFiring, triggerFiring_of_early hnext hearly]
  case noted =>
    intro e t s hnext hdue hmode haction hnone
    have hconv : objsOf (trigFired e t s.dev) 0x08 1 = [] := hnone
    rw [exec_triggerFiring, execTriggerFiring, triggerFiring_of_due hnext hdue hmode,
      if_neg (by simp [haction]), scanTriggered_of_no_converters hconv, trigFired]
  case fires =>
    intro e t s hnext hdue hmode
    rw [exec_triggerFiring, execTriggerFiring, triggerFiring_of_due hnext hdue hmode, trigFired]
  case unset =>
    intro e s hmode
    rw [exec_triggerFiring, execTriggerFiring, triggerFiring_of_unset hmode]
  case now =>
    intro s
    rfl

end Sys2Proof.Proofs.Time
end

section
/-!
Messages and measurements of the time domains (12_time).
-/
namespace Sys2Proof.Proofs.Time
open Sys2Proof Sys2Proof.Machine Sys2Proof.Laws

/-! ## Domains and their records -/

@[simp] theorem domOf_modDom_same (d : Nat) (f : TimDomain → TimDomain) (s : Device) :
    domOf (modDom d f s) d = f (domOf s d) := by
  simp [domOf, modDom]

/-- Domains are read off the state of TIM. -/
theorem domOf_congr {s t : Device} (h : t.tim = s.tim) (d : Nat) : domOf t d = domOf s d := by
  rw [domOf, domOf, h]

@[simp] theorem domOf_raise (d code : Nat) (fs : List (Nat × Nat)) (s : Device) :
    domOf (raise code fs s) d = domOf s d := domOf_congr (raise_tim ..) d

@[simp] theorem modDom_rx (d : Nat) (f : TimDomain → TimDomain) (s : Device) :
    (modDom d f s).tim.rx = s.tim.rx := rfl

@[simp] theorem modDom_sel (d : Nat) (f : TimDomain → TimDomain) (s : Device) :
    (modDom d f s).tim.sel = s.tim.sel := rfl

@[simp] theorem modDom_mode (d : Nat) (f : TimDomain → TimDomain) (s : Device) :
    (modDom d f s).tim.mode = s.tim.mode := rfl

@[simp] theorem selAuto_modDom (d : Nat) (f : TimDomain → TimDomain) (s : Device) :
    selAuto (modDom d f s) = selAuto s := rfl

@[simp] theorem domPorts_modDom (d e : Nat) (f : TimDomain → TimDomain) (s : Device) :
    domPorts (modDom e f s) d = domPorts s d := rfl

/-- `t` has the configuration and the Dome counter of `s`: the records in force are the same. -/
structure KeepsRecords (s t : Device) : Prop where
  cfg : t.cfg = s.cfg
  dome : t.tim.dome = s.tim.dome

namespace KeepsRecords
variable {s t u : Device}

theorem refl (s : Device) : KeepsRecords s s := ⟨rfl, rfl⟩

theorem ite {c : Prop} [Decidable c] (h : KeepsRecords s t) (k : KeepsRecords s u) :
    KeepsRecords s (if c then t else u) := by
  split <;> assumption

theorem recNow (h : KeepsRecords s t) (blk kind obj : Nat) : recNow t blk kind obj = recNow s blk kind obj := by
  have hnow : nowD t = nowD s := by rw [nowD, nowD, h.dome]
  rw [Machine.recNow, Machine.recNow, hnow, recAt, recAt, cfgObj, cfgObj, h.cfg]

theorem domKind (h : KeepsRecords s t) (d : Nat) : domKind t d = domKind s d := by
  rw [Machine.domKind, Machine.domKind, domRec, domRec, h.recNow]

/-! ### A measurement leaves the records as they were (R486 to R494) -/

theorem modDom (h : KeepsRecords s t) (d : Nat) (f : TimDomain → TimDomain) : KeepsRecords s (modDom d f t) :=
  ⟨h.cfg, h.dome⟩

theorem raise (h : KeepsRecords s t) (code : Nat) (fs : List (Nat × Nat)) : KeepsRecords s (raise code fs t) :=
  ⟨(raise_cfg ..).trans h.cfg, (congrArg Tim.dome (raise_tim ..)).trans h.dome⟩

theorem unlockDomain (h : KeepsRecords s t) (d : Nat) : KeepsRecords s (unlockDomain d t) := by
  unfold Machine.unlockDomain
  extract_lets q u
  have hu : KeepsRecords s u := h.modDom d _
  refine .ite (.raise ?_ _ _) hu
  exact ⟨hu.cfg, hu.dome⟩

theorem farCheck (h : KeepsRecords s t) (d : Nat) : KeepsRecords s (farCheck d t) := by
  unfold Machine.farCheck
  refine .ite h (.ite (.unlockDomain (.raise ?far _ _) d) (.ite (.raise ?near _ _) h))
  case far => exact ⟨h.cfg, h.dome⟩
  case near => exact ⟨h.cfg, h.dome⟩

theorem followState (h : KeepsRecords s t) (d : Nat) : KeepsRecords s (followState d t) := by
  unfold Machine.followState
  cases t.tim.mode with
  | holdover => exact ⟨h.cfg, h.dome⟩
  | tracking =>
    refine .ite (.raise ?_ _ _) h
    exact ⟨h.cfg, h.dome⟩
  | unset | locked | free => exact h

theorem followSelection (h : KeepsRecords s t) (old new : Nat) : KeepsRecords s (followSelection old new t) := by
  unfold Machine.followSelection
  have htracking : KeepsRecords s { t with tim.mode := .tracking } := ⟨h.cfg, h.dome⟩
  refine .ite h (.ite ?_ (.followState (.ite (htracking.farCheck new) htracking) new))
  exact ⟨h.cfg, h.dome⟩

theorem selectDomain (h : KeepsRecords s t) (new cause : Nat) : KeepsRecords s (selectDomain new cause t) := by
  unfold Machine.selectDomain
  refine .followSelection (.raise ?_ _ _) _ _
  exact ⟨h.cfg, h.dome⟩

theorem lockCheck (h : KeepsRecords s t) (d : Nat) : KeepsRecords s (lockCheck d t) := by
  unfold Machine.lockCheck
  extract_lets q near u
  have hu : KeepsRecords s u := h.modDom d _
  exact .ite (.ite (hu.unlockDomain d) hu) (.ite (hu.modDom d _) hu)

theorem findStep (h : KeepsRecords s t) (d : Nat) : KeepsRecords s (findStep d t) := by
  unfold Machine.findStep
  cases (domOf t d).agree with
  | nil => exact h
  | cons o rest => exact .ite h (.ite (h.raise _ _) (.ite h ⟨h.cfg, h.dome⟩))

theorem timServo (h : KeepsRecords s t) (d : Nat) : KeepsRecords s (timServo d t) := by
  unfold Machine.timServo
  extract_lets q tc lim total cap fast u
  have hu : KeepsRecords s u := .ite (h.raise _ _) h
  exact ⟨hu.cfg, hu.dome⟩

theorem measure (h : KeepsRecords s t) (d : Nat) (o domTime : Int) (ck : Nat) (pps : Bool) :
    KeepsRecords s (Machine.measure d o domTime ck pps t) := by
  unfold Machine.measure
  extract_lets near beyond u v
  have hu : KeepsRecords s u := h.modDom d _
  have hv : KeepsRecords s v := .ite (hu.selectDomain d 1) hu
  exact .ite (hv.lockCheck d) (.ite ((hv.lockCheck d).findStep d)
    ((((hv.farCheck d).lockCheck d).followState d).timServo d))

end KeepsRecords

/-! ## Messages received (R486, R495, R498) -/

theorem takeTime_of_head {test : RxFrame → Bool} {f : RxFrame} {rest : List RxFrame} {s : Device}
    (hrx : s.tim.rx = f :: rest) (h : test f = true) : takeTime test s = (some f, { s with tim.rx := rest }) := by
  simp [takeTime, hrx, h]

section Received
variable {d : Nat} {f : RxFrame} {rest : List RxFrame} {s : Device}

theorem syncMeasurement_of_rx_nil (d : Nat) (h : s.tim.rx = []) : syncMeasurement d s = s := by
  simp [syncMeasurement, takeTime, h]

theorem announceReceive_of_rx_nil (d : Nat) (h : s.tim.rx = []) : announceReceive d s = s := by
  simp [announceReceive, takeTime, h]

theorem pdelayReqReceive_of_rx_nil (d : Nat) (h : s.tim.rx = []) : pdelayReqReceive d s = s := by
  simp [pdelayReqReceive, takeTime, h]

theorem delayResponse_of_rx_nil (d : Nat) (h : s.tim.rx = []) : delayResponse d s = s := by
  simp [delayResponse, takeTime, h]

theorem syncMeasurement_of_one_step (hrx : s.tim.rx = f :: rest) (hdom : forDomain s d f = true)
    (htype : ptpType f = ptpSync) (hone : ptpTwoStep f = false) :
    syncMeasurement d s = useSync d f (ptpTime f) (ptpCorr f) { s with tim.rx := rest } := by
  unfold syncMeasurement
  dsimp only
  rw [takeTime_of_head hrx (by simp [hdom, htype, hone])]
  simp [hone]

/-- A P2P slave measures; only an E2E one asks for the delay after it (R486, R497). -/
theorem useSync_of_p2p_slave {origin corr : Int} (hslave : domSlave s d = true) (hfirst : (domOf s d).lastSeq = none)
    (hkind : domKind s d = 2) :
    useSync d f origin corr s =
      measure d (rxNs f - origin - corr - (domOf s d).mpd - sfld 16 4 (domRec s d))
        (rxNs f - (rxNs f - origin - corr - (domOf s d).mpd - sfld 16 4 (domRec s d))) f.ck false
        (modDom d (fun q => { q with lastSeq := some (ptpSeq f), sync := rxNs f - origin - corr }) s) := by
  unfold useSync
  rw [if_neg (by simp [hslave, hfirst, seqLater])]
  extract_lets diff o t u
  have hafter : domKind u d = 2 :=
    ((((KeepsRecords.refl s).modDom d _).measure d _ _ _ _).domKind d).trans hkind
  rw [if_neg (by simp [hafter])]

/-- The first Announce of a domain that is not selected names its grandmaster only (R495). -/
theorem announceReceive_of_first (hrx : s.tim.rx = f :: rest) (hdom : forDomain s d f = true)
    (htype : ptpType f = ptpAnnounce) (hslave : domSlave s d = true) (hsel : s.tim.sel ≠ d)
    (hfirst : (domOf s d).gmid = 0) :
    announceReceive d s =
      modDom d (fun q => { q with gmid := BitVec.ofNat 64 (fldBe 53 8 (ptpOf f)) }) { s with tim.rx := rest } := by
  have hslave' : domSlave { s with tim.rx := rest } d = true := hslave
  have hfirst' : (domOf { s with tim.rx := rest } d).gmid = 0 := hfirst
  unfold announceReceive
  rw [takeTime_of_head hrx (by simp [hdom, htype])]
  simp [hslave', hfirst', modDom, hsel]

theorem pdelayReqReceive_of_p2p (hrx : s.tim.rx = f :: rest) (hdom : forDomain s d f = true)
    (htype : ptpType f = ptpPdelayReq) (hkind : domKind s d = 2) :
    pdelayReqReceive d s = sendTime f.port d ptpPdelayResp (ptpSeq f) 0x0200 0x7F
      (ptpStamp (rxNs f).toNat ++ ptpSource f) { s with tim.rx := rest } := by
  unfold pdelayReqReceive
  rw [takeTime_of_head hrx (by simp [hdom, htype])]
  exact if_pos (.inl hkind)

/-- A Delay_Resp to the last request ends the request and sets the mean path delay (R486). -/
theorem delayResponse_of_request {t3 : STime} (hrx : s.tim.rx = f :: rest) (hdom : forDomain s d f = true)
    (htype : ptpType f = ptpDelayResp) (hreq : ptpRequester f = portId s f.port)
    (hlast : (domOf s d).delayReq = some (ptpSeq f, t3)) :
    delayResponse d s = setMpd d (((domOf s d).sync + ptpTime f - (t3 / 256 : Nat) - ptpCorr f) / 2)
      (modDom d (fun q => { q with delayReq := none }) { s with tim.rx := rest }) := by
  unfold delayResponse
  dsimp only
  rw [takeTime_of_head hrx (by simp [hdom, htype, hreq, hlast]), hlast]

end Received

/-! ## What a domain sends (R497, R498) -/

theorem masterSync_of_no_master {d : Nat} {s : Device}
    (h : domMaster s d = false ∨ domKind s d = 0 ∨ 1 < d) : masterSync d s = s := by
  rcases h with h | h | h <;> simp [masterSync, h]

/-- A master without ports that has never sent notes both instants and takes two sequence numbers. -/
theorem masterSync_of_never {d : Nat} {s : Device} (hd : d ≤ 1) (hkind : domKind s d ≠ 0)
    (hmaster : domMaster s d = true) (hports : domPorts s d = []) (hsync : (domOf s d).lastSync = none)
    (hann : (domOf s d).lastAnnounce = none) :
    (domOf (masterSync d s) d).lastSync = some (nowS s) ∧ (domOf (masterSync d s) d).lastAnnounce = some (nowS s) ∧
    (domOf (masterSync d s) d).txSeq = ((domOf s d).txSeq + 2) % 65536 := by
  simp [masterSync, Nat.not_lt.mpr hd, hkind, hmaster, hports, hsync, hann]

theorem pdelayTimer_of_no_slave {d : Nat} {s : Device} (h : domSlave s d = false) : pdelayTimer d s = s := by
  simp [pdelayTimer, h]

theorem pdelayTimer_of_never {d : Nat} {s : Device} (hslave : domSlave s d = true) (hkind : domKind s d = 2)
    (hnever : (domOf s d).lastPdelay = none) :
    pdelayTimer d s = (domPorts s d).foldl
      (fun u p => sendTime p d ptpPdelayReq (domOf s d).txSeq 0 0 (ptpStamp 0 ++ List.replicate 10 0#8) u)
      (modDom d (fun k => { k with lastPdelay := some (nowS s), txSeq := (k.txSeq + 1) % 65536 }) s) := by
  simp [pdelayTimer, hslave, hkind, hnever]

/-! ## Loss of a domain (R489, R492) -/

theorem domainLoss_of_no_slave {d : Nat} {s : Device} (h : domSlave s d = false) : domainLoss d s = s := by
  simp [domainLoss, h]

/-- Outside LOCKED a domain that leaves LOCKED changes nothing of working time (R489). -/
theorem unlockDomain_of_tracking {d : Nat} {s : Device} (h : s.tim.mode = .tracking) :
    unlockDomain d s = modDom d (fun q => { q with locked := false, good := 0 }) s := by
  simp [unlockDomain, modDom, h]

/-- A domain lost while working time tracks it: it leaves LOCKED, and HOLDOVER keeps its frequency (R492). -/
theorem domainLoss_of_tracking {d : Nat} {s : Device} (hslave : domSlave s d = true) (hvalid : domValid s d = false)
    (hlost : lossMs s * 1000000 ≤ s.tim.ck) (hsel : s.tim.sel = d) (hmode : s.tim.mode = .tracking)
    (hauto : selAuto s = false) :
    domainLoss d s = raise Ev.timeHoldover [(1, d), (1, 0)]
      { modDom d (fun q => { q with locked := false, good := 0 }) s with
        tim.mode := .holdover, tim.nextRate := some (rateOf (domOf s d).ff 1), tim.rateFf := (domOf s d).ff } := by
  unfold domainLoss
  rw [if_neg (by simp [hslave, hvalid, hlost]), unlockDomain_of_tracking hmode]
  simp [hsel, hmode, hauto]

/-! ## The statement -/

/-- Settles O45, row by row. That a P2P slave asks for no delay after its measurement is read off its record, which the
measurement leaves as it was (`KeepsRecords.measure`). -/
theorem domainsMeasure : Obligations.DomainsMeasure := by
  unfold Obligations.DomainsMeasure
  refine ⟨?nothing, ?oneStep, ?measures, ?announce, ?answers, ?delay, ?noMaster, ?master, ?asks, ?noSlave, ?loss⟩
  case nothing =>
    intro d s hnil
    refine ⟨?_, ?_, ?_, ?_⟩
    · rw [exec_syncMeasurement, execSyncMeasurement, syncMeasurement_of_rx_nil d hnil]
    · rw [exec_announceReceive, execAnnounceReceive, announceReceive_of_rx_nil d hnil]
    · rw [exec_pdelayReqReceive, execPdelayReqReceive, pdelayReqReceive_of_rx_nil d hnil]
    · rw [exec_ptpDelayResponse, execPtpDelayResponse, delayResponse_of_rx_nil d hnil]
  case oneStep =>
    intro d f rest s hrx hdom htype hone
    rw [exec_syncMeasurement, execSyncMeasurement, syncMeasurement_of_one_step hrx hdom htype hone]
  case measures =>
    intro d f s hslave hfirst hkind
    exact useSync_of_p2p_slave hslave hfirst hkind
  case announce =>
    intro d f rest s hrx hdom htype hslave hsel hfirst
    rw [exec_announceReceive, execAnnounceReceive, announceReceive_of_first hrx hdom htype hslave hsel hfirst]
  case answers =>
    intro d f rest s hrx hdom htype hkind
    rw [exec_pdelayReqReceive, execPdelayReqReceive, pdelayReqReceive_of_p2p hrx hdom htype hkind]
  case delay =>
    intro d f rest seq t3 s hrx hdom htype hreq hlast hseq
    subst hseq
    refine ⟨delayResponse d s.dev, rfl, ?_⟩
    rw [delayResponse_of_request hrx hdom htype hreq hlast]
    simp [setMpd]
  case noMaster =>
    intro d s hno
    rw [exec_masterSyncTransmit, execMasterSyncTransmit, masterSync_of_no_master hno]
  case master =>
    intro d s hd hkind hmaster hports hsync hann
    exact ⟨masterSync d s.dev, rfl, masterSync_of_never hd hkind hmaster hports hsync hann⟩
  case asks =>
    intro d s hslave hkind hnever
    rw [exec_pdelayReqTimer, execPdelayReqTimer, pdelayTimer_of_never hslave hkind hnever]
  case noSlave =>
    intro d s hno
    exact ⟨by rw [exec_pdelayReqTimer, execPdelayReqTimer, pdelayTimer_of_no_slave hno],
      by rw [exec_domainLossTimeout, execDomainLossTimeout, domainLoss_of_no_slave hno]⟩
  case loss =>
    intro d s hslave hvalid hlost hsel hmode hauto
    refine ⟨domainLoss d s.dev, rfl, ?_⟩
    rw [domainLoss_of_tracking hslave hvalid hlost hsel hmode hauto, raise_tim, domOf_raise]
    exact ⟨rfl, by simp [domOf, modDom], rfl, hsel⟩

end Sys2Proof.Proofs.Time
end

section
/-!
The journal, the two slots and the gap of the Keep (15_keep_restart).
-/
namespace Sys2Proof.Proofs.Keep
open Sys2Proof Sys2Proof.Machine Sys2Proof.Laws

/-! ## Shipping to a peer (R625, R632, R634) -/

/-- `t` differs from `s` at most in the state of the pair and where `Touches` allows it. -/
def Ships (s t : Device) : Prop := ∃ p, Touches { s with pai := p } t

namespace Ships
variable {s t u : Device}

theorem refl (s : Device) : Ships s s := ⟨s.pai, .refl s⟩

theorem trans (h : Ships s t) (k : Ships t u) : Ships s u := by
  obtain ⟨p, o, h', e, m, rfl⟩ := h
  obtain ⟨p', o', h'', e', m', rfl⟩ := k
  exact ⟨p', o', h'', e', m', rfl⟩

theorem pai (s : Device) (p : Pai) : Ships s { s with pai := p } := ⟨p, .refl _⟩

theorem of_touches (h : Touches s t) : Ships s t := ⟨s.pai, h⟩

theorem ite {c : Prop} [Decidable c] (h : Ships s t) (k : Ships s u) : Ships s (if c then t else u) := by
  split <;> assumption

theorem kep (h : Ships s t) : t.kep = s.kep := by obtain ⟨p, o, h', e, m, rfl⟩ := h; rfl

theorem dpt (h : Ships s t) : t.dpt = s.dpt := by obtain ⟨p, o, h', e, m, rfl⟩ := h; rfl

end Ships

theorem sendPacket_ships (bs : List Byte) (tag : ShipTag) (s : Device) : Ships s (sendPacket bs tag s) := by
  unfold sendPacket
  exact .ite ⟨_, _, _, _, _, rfl⟩ (.pai s _)

theorem foldl_sendPacket_ships (part : Nat → List Byte) (ks : List Nat) (s : Device) :
    Ships s (ks.foldl (fun s k => sendPacket (part k) .other s) s) := by
  induction ks generalizing s with
  | nil => exact .refl s
  | cons k ks ih => exact (sendPacket_ships _ _ s).trans (ih _)

theorem sendMessage_ships (bs : List Byte) (tag : ShipTag) (s : Device) : Ships s (sendMessage bs tag s).2 :=
  (foldl_sendPacket_ships _ _ s).trans (sendPacket_ships ..)

theorem resync_ships (cause : Nat) (s : Device) : Ships s (resync cause s) := by
  unfold resync
  exact .ite ((Ships.pai s _).trans (.of_touches (raise_touches ..))) (.refl s)

/-- A record that is shipped leaves the Keep and Dispatch as they are (R632). -/
theorem shipRecord_ships (r : KepRec) (s : Device) : Ships s (shipRecord r s) := by
  unfold shipRecord
  have hsent := (Ships.pai s { s.pai with backlog := s.pai.backlog + r.len }).trans
    (sendMessage_ships (Config.recordWire r) (.record r.epoch r.len) _)
  exact .ite (.refl s) (.ite (hsent.trans (resync_ships ..)) hsent)

/-! ## Slots -/

@[simp] theorem kepSlot_putKepSlot_same (n : Nat) (q : KepSlot) (s : Device) : kepSlot (putKepSlot n q s) n = q :=
  tget_tset_same ..

/-- Slots are read off the table of slots. -/
theorem kepSlot_congr {s t : Device} (h : t.kep.slots = s.kep.slots) (n : Nat) : kepSlot t n = kepSlot s n := by
  rw [kepSlot, kepSlot, h]

/-! ## Commit (R595, R598, R600) -/

/-- The cut `k` is the last one committed, and none is open. -/
structure Committed (k : KepCut) (s : Device) : Prop where
  epoch : s.kep.epoch = k.epoch
  kepCut : s.kep.cut = none
  dptCut : s.dpt.cut = none

namespace Committed
variable {k : KepCut} {s : Device}

theorem journalWrite (n : Nat) (h : Committed k s) : Committed k (journalWrite n s) := ⟨h.epoch, h.kepCut, h.dptCut⟩

theorem slot (n : Nat) (q : KepSlot) (c : Bool) (h : Committed k s) :
    Committed k { putKepSlot n q s with kep.copy := c } := ⟨h.epoch, h.kepCut, h.dptCut⟩

theorem journal (rs : List KepRec) (h : Committed k s) : Committed k { s with kep.journal := rs } :=
  ⟨h.epoch, h.kepCut, h.dptCut⟩

theorem stretches (n : Nat) (h : Committed k s) : Committed k { s with kep.stretches := n } :=
  ⟨h.epoch, h.kepCut, h.dptCut⟩

theorem raise (code : Nat) (fs : List (Nat × Nat)) (h : Committed k s) : Committed k (raise code fs s) :=
  ⟨by rw [raise_kep, h.epoch], by rw [raise_kep, h.kepCut], by rw [raise_dpt, h.dptCut]⟩

theorem shipRecord (r : KepRec) (h : Committed k s) : Committed k (shipRecord r s) :=
  ⟨by rw [(shipRecord_ships r s).kep, h.epoch], by rw [(shipRecord_ships r s).kep, h.kepCut],
    by rw [(shipRecord_ships r s).dpt, h.dptCut]⟩

theorem ite {c : Prop} [Decidable c] {t : Device} (h : Committed k s) (h' : Committed k t) :
    Committed k (if c then s else t) := by
  split <;> assumption

end Committed

/-- The epoch and the end of the cut are noted first; the write, the record's place, a stretched epoch and the shipping
leave them. -/
theorem commitCut_committed (k : KepCut) (n : Nat) (s : Device) : Committed k (commitCut k n s) := by
  unfold commitCut
  refine .shipRecord _ (.ite ?same (.raise _ _ (.stretches _ ?same)))
  case same =>
    refine .ite (.slot _ _ _ ?noted) (.journal _ ?noted)
    case noted => exact .journalWrite _ ⟨rfl, rfl, rfl⟩

/-- A complete cut that is not full commits once its record has room and its write time has passed (R595, R598). -/
theorem cutCommit_of_room {k : KepCut} {s : Device} (hcut : s.kep.cut = some k)
    (hparts : cutBlocks.all (fun b => k.ready.contains b) = true) (hpower : s.clk.pwrfail = false)
    (hfull : k.full = false)
    (hroom : (s.kep.journal.map (·.len)).sum + (80 + (k.parts.map List.length).sum) ≤ ringBytes)
    (htime : k.te + 640 * (80 + (k.parts.map List.length).sum) ≤ nowS s) :
    cutCommit [] s = commitCut k (80 + (k.parts.map List.length).sum) s := by
  unfold cutCommit
  rw [hcut]
  dsimp only
  rw [hparts, hpower, hfull]
  have hring : ¬ringBytes < (s.kep.journal.map (·.len)).sum + (80 + (k.parts.map List.length).sum) :=
    Nat.not_lt.mpr hroom
  have hlen : ¬ringBytes < 80 + (k.parts.map List.length).sum := by omega
  simp [hring, hlen, Nat.not_lt.mpr htime, hcut]

/-! ## Application (R605) -/

/-- The first step of an application: the slot becomes APPLYING. -/
theorem recordApply_of_idle {r : KepRec} {n : Nat} {s : Device} (hnext : nextApply s = some (r, n))
    (hpower : s.clk.pwrfail = false) (hidle : (kepSlot s n).state ≠ 1) :
    recordApply s = putKepSlot n { kepSlot s n with state := 1 } s := by
  simp [recordApply, hnext, hpower, hidle]

/-- The second step: the slot holds what the record makes of it. -/
theorem kepSlot_recordApply {r : KepRec} {n : Nat} {s : Device} (hnext : nextApply s = some (r, n))
    (hpower : s.clk.pwrfail = false) (happlying : (kepSlot s n).state = 1) :
    kepSlot (recordApply s) n = applyRecord (kepSlot s n) r := by
  have hslots : (recordApply s).kep.slots = (putKepSlot n (applyRecord (kepSlot s n) r) s).kep.slots := by
    simp [recordApply, hnext, hpower, happlying, hotWrite]
  rw [kepSlot_congr hslots, kepSlot_putKepSlot_same]

theorem recordApply_of_pwrfail {s : Device} (h : s.clk.pwrfail = true) : recordApply s = s := by
  unfold recordApply
  split
  · rfl
  · exact if_pos h

/-! ## The copy (R606) -/

/-- The copy makes slot 1 equal to slot 0, and no copy waits any longer. -/
theorem slotCopy_of_waiting {s : Device} (hcopy : s.kep.copy = true) (hvalid : (kepSlot s 0).state = 2)
    (hread : s.kep.read = none) (hpower : s.clk.pwrfail = false) :
    kepSlot (slotCopy s) 1 = kepSlot s 0 ∧ (slotCopy s).kep.copy = false := by
  have hdone : (slotCopy s).kep.slots = (putKepSlot 1 (kepSlot s 0) s).kep.slots ∧ (slotCopy s).kep.copy = false := by
    unfold slotCopy
    dsimp only
    rw [if_neg (by simp [hcopy, hvalid, hread, hpower])]
    exact ⟨rfl, rfl⟩
  obtain ⟨hslots, hcopied⟩ := hdone
  exact ⟨by rw [kepSlot_congr hslots, kepSlot_putKepSlot_same], hcopied⟩

theorem slotCopy_of_pwrfail {s : Device} (h : s.clk.pwrfail = true) : slotCopy s = s := by
  simp [slotCopy, h]

/-! ## The gap (R590) -/

/-- The two writes of a move are one. Stated of any counts: with the model's own, the kernel would count them down one by
one. -/
theorem gap_then_hotWrites (due written : Nat) (s : Device) :
    (let t := { s with kep.gapBytes := s.kep.gapBytes - due, kep.gap := (s.kep.gap + 1) % 337 }
     { t with kep.hotWrites := t.kep.hotWrites + written }) =
    { s with
      kep.gapBytes := s.kep.gapBytes - due, kep.gap := (s.kep.gap + 1) % 337
      kep.hotWrites := s.kep.hotWrites + written } := rfl

theorem gapMove_of_due {s : Device} (hbytes : 268435456 ≤ s.kep.gapBytes) (hhot : s.spr.hotFails = 0)
    (hpower : s.clk.pwrfail = false) :
    gapMove s = { s with
      kep.gapBytes := s.kep.gapBytes - 268435456, kep.gap := (s.kep.gap + 1) % 337
      kep.hotWrites := s.kep.hotWrites + 65536 } := by
  have hdue : ¬s.kep.gapBytes < 268435456 := Nat.not_lt.mpr hbytes
  unfold gapMove
  exact (if_neg (by simp [hdue, hhot, hpower])).trans (gap_then_hotWrites 268435456 65536 s)

theorem gapMove_of_pwrfail {s : Device} (h : s.clk.pwrfail = true) : gapMove s = s := by
  simp [gapMove, h]

/-! ## The statement -/

/-- Settles O25, row by row: the commit and what it leaves (`commitCut_committed`), the two steps of an application, the copy
and the move of the gap; a power failure holds the last three back. -/
theorem journalAndSlots : Obligations.JournalAndSlots := by
  unfold Obligations.JournalAndSlots
  refine ⟨?commits, ?committed, ?applying, ?applied, ?copied, ?moved, ?power⟩
  case commits =>
    intro bad k s hcut hparts hpower hfull hroom htime hbad
    subst hbad
    rw [exec_cutCommit, execCutCommit, cutCommit_of_room hcut hparts hpower hfull hroom htime]
  case committed =>
    intro k n s
    obtain ⟨hepoch, hkep, hdpt⟩ := commitCut_committed k n s
    exact ⟨hepoch, hkep, hdpt⟩
  case applying =>
    intro r n s hnext hpower hidle
    rw [exec_journalRecordApply, execJournalRecordApply, recordApply_of_idle hnext hpower hidle]
  case applied =>
    intro r n s hnext hpower happlying
    exact ⟨recordApply s.dev, rfl, kepSlot_recordApply hnext hpower happlying⟩
  case copied =>
    intro s hcopy hvalid hread hpower
    exact ⟨slotCopy s.dev, rfl, slotCopy_of_waiting hcopy hvalid hread hpower⟩
  case moved =>
    intro s hbytes hhot hpower
    rw [exec_gapMove, execGapMove, gapMove_of_due hbytes hhot hpower]
  case power =>
    intro s hpower
    refine ⟨?_, ?_, ?_⟩
    · rw [exec_journalRecordApply, execJournalRecordApply, recordApply_of_pwrfail hpower]
    · rw [exec_slotCopy, execSlotCopy, slotCopy_of_pwrfail hpower]
    · rw [exec_gapMove, execGapMove, gapMove_of_pwrfail hpower]

end Sys2Proof.Proofs.Keep
end

section
/-!
Raising, admission and summaries of events (17_recording_events).
-/
namespace Sys2Proof.Proofs.RecordingEvents
open Sys2Proof Sys2Proof.Machine Sys2Proof.Laws

/-! ## Raising (R664, R665, R668) -/

/-- A code that no block's table lists raises nothing. -/
theorem eventRaise_of_unknown {code : Nat} (payload : List Byte) (s : Device) (h : sevOf code = 0) :
    Machine.eventRaise code payload s = s := if_pos h

/-- A code that the rate limit leaves alone is counted as an activity and waits for admission. -/
theorem raiseAt_of_unlimited {code : Nat} (t : STime) (payload : List Byte) (s : Device) (h : unlimited code = true) :
    raiseAt t code payload s =
      evEnqueue ⟨{ time := t, code := code, sev := sevOf code, payload := padTo 8 payload }, evBlock code⟩
        (pmcEdge (evBlock code) (code % 2048) 0 s) := if_pos h

/-- HIF, block 0, stands on the Spire die, so no Dome code is one of its. -/
theorem evBlock_ne_zero_of_dome {code : Nat} (h : spireCode code = false) : evBlock code ≠ 0 := by
  intro hblock
  simp [spireCode, hblock] at h

/-- An event of a Dome block takes the Dome time and signals no vector (R92). -/
theorem eventRaise_of_dome {code : Nat} (payload : List Byte) (s : Device) (hsev : sevOf code ≠ 0)
    (hdome : spireCode code = false) :
    Machine.eventRaise code payload s = raiseAt (nowD s) code payload s := by
  simp [Machine.eventRaise, hsev, hdome, evBlock_ne_zero_of_dome hdome]

/-! ## Admission (R666, R670, R671) -/

/-- The device once the record `w` has left the recorder's queue. -/
def dequeued (w : EvWait) (s : Device) : Device := { s with evr.queue := s.evr.queue.erase w }

/-- The choice of a slot does not look at the queue. -/
theorem slotFor_dequeued (w : EvWait) (s : Device) (sev : Nat) : slotFor (dequeued w s) sev = slotFor s sev := rfl

/-- A record whose write verifies is stamped, put into the slot found for it and offered to the event ring. -/
theorem admitRecord_of_slot {r : EvRec} {k : Nat} {s : Device} (unread : List Nat) (h : slotFor s r.sev = some k) :
    admitRecord r true unread s =
      offerEvent (stampRec r true s).1 (putSlot k (stampRec r true s).1 (stampRec r true s).2) := by
  simp [admitRecord, h]

section Admission
variable {ok : Bool} {unread : List Nat} {w : EvWait} {s : Device}

/-- Until working time has passed its stamp, an earlier record may still arrive. -/
theorem eventAdmission_of_not_past (hnext : evNext s.evr.queue = some w) (hstamp : nowD s ≤ w.rec_.time) :
    Machine.eventAdmission ok unread s = s := by
  simp [Machine.eventAdmission, hnext, hstamp]

/-- What becomes of the next record once its stamp has passed turns on the stamp of the last one admitted. -/
theorem eventAdmission_of_past (hnext : evNext s.evr.queue = some w) (hpast : w.rec_.time < nowD s) :
    Machine.eventAdmission ok unread s =
      if w.rec_.time < s.evr.lastTime then
        { dequeued w s with evr.xlost := s.evr.xlost + 1, evr.dropsOwed := true }
      else admitRecord w.rec_ ok unread (dequeued w s) := by
  unfold Machine.eventAdmission
  rw [hnext]
  exact if_neg (Nat.not_le.mpr hpast)

/-- The next record, not older than the last one admitted, is admitted where a slot is found for it. -/
theorem eventAdmission_of_slot {k : Nat} (hnext : evNext s.evr.queue = some w) (hpast : w.rec_.time < nowD s)
    (horder : s.evr.lastTime ≤ w.rec_.time) (hslot : slotFor s w.rec_.sev = some k) :
    Machine.eventAdmission true unread s =
      offerEvent (stampRec w.rec_ true (dequeued w s)).1
        (putSlot k (stampRec w.rec_ true (dequeued w s)).1 (stampRec w.rec_ true (dequeued w s)).2) := by
  rw [eventAdmission_of_past hnext hpast, if_neg (Nat.not_lt.mpr horder)]
  exact admitRecord_of_slot unread ((slotFor_dequeued w s _).trans hslot)

end Admission

/-! ## Summaries (R669) -/

theorem summaryTimeout_of_none {code : Nat} {s : Device} (h : tfind s.evr.sums code = none) :
    Machine.summaryTimeout code s = s := by
  simp [Machine.summaryTimeout, h]

/-- One second after its first occurrence a summary is issued, stamped with that instant. -/
theorem summaryTimeout_of_due {code : Nat} {q : EvSum} {s : Device} (h : tfind s.evr.sums code = some q)
    (hdue : q.first + secT 1 ≤ nowD s) :
    Machine.summaryTimeout code s = issueSummary code (q.first + secT 1) s := by
  simp [Machine.summaryTimeout, h, hdue]

/-! ## The statement -/

/-- Settles O32, row by row: a Dome event (`eventRaise_of_dome`), admission before and after the stamp has passed
(`eventAdmission_of_past`), with a slot found (`eventAdmission_of_slot`), and the summary. -/
theorem eventsRecorded : Obligations.EventsRecorded := by
  unfold Obligations.EventsRecorded
  refine ⟨?raised, ?unknown, ?early, ?late, ?admitted, ?noSummary, ?summary⟩
  case raised =>
    intro code payload s hsev hunlimited hdome
    rw [exec_eventRaise, execEventRaise, eventRaise_of_dome payload s.dev hsev hdome,
      raiseAt_of_unlimited _ payload s.dev hunlimited]
  case unknown =>
    intro code payload s hsev
    rw [exec_eventRaise, execEventRaise, eventRaise_of_unknown payload s.dev hsev]
  case early =>
    intro ok unread w s hnext hstamp
    rw [exec_eventAdmission, execEventAdmission, eventAdmission_of_not_past hnext hstamp]
  case late =>
    intro ok unread w s hnext hpast hlate
    rw [exec_eventAdmission, execEventAdmission, eventAdmission_of_past hnext hpast, if_pos hlate, dequeued]
  case admitted =>
    intro unread k w s hnext hpast horder hslot
    refine ⟨(stampRec w.rec_ true (dequeued w s.dev)).1, (stampRec w.rec_ true (dequeued w s.dev)).2, ?_,
      rfl, rfl, rfl, rfl, rfl, rfl, rfl⟩
    rw [exec_eventAdmission, execEventAdmission, eventAdmission_of_slot hnext hpast horder hslot]
  case noSummary =>
    intro code s hnone
    rw [exec_summaryTimeout, execSummaryTimeout, summaryTimeout_of_none hnone]
  case summary =>
    intro code q s hsum hdue
    rw [exec_summaryTimeout, execSummaryTimeout, summaryTimeout_of_due hsum hdue]

end Sys2Proof.Proofs.RecordingEvents
end

section
/-!
Errors of the Buttress link, the supervision of the dies, and errors of DRAM (18_errors_ordering).
-/
namespace Sys2Proof.Proofs.ErrorsOrdering
open Sys2Proof Sys2Proof.Machine Sys2Proof.Laws

/-! ## One direction of the link -/

@[simp] theorem btrDir_modDir_same (d : Nat) (f : BtrDir → BtrDir) (s : Device) :
    btrDir (modDir d f s) d = f (btrDir s d) := tget_tmod_same ..

/-- Directions are read off the table of directions. -/
theorem btrDir_congr {s t : Device} (h : t.btr = s.btr) (d : Nat) : btrDir t d = btrDir s d := by
  rw [btrDir, btrDir, h]

/-- A change that spares the lanes of its own direction spares those of both. -/
theorem lanes_modDir {f : BtrDir → BtrDir} (hf : ∀ b, (f b).lanes = b.lanes) (d k : Nat) (s : Device) :
    (btrDir (modDir d f s) k).lanes = (btrDir s k).lanes := by
  by_cases hk : k = d
  · subst hk
    rw [btrDir_modDir_same, hf]
  · exact congrArg BtrDir.lanes (tget_tmod_other _ _ _ _ _ _ hk)

/-- Whether a direction is short of lanes is read off the lanes in use. -/
theorem linkShort_congr {s t : Device} (h : ∀ d, (btrDir t d).lanes = (btrDir s d).lanes) :
    linkShort t = linkShort s := by
  simp [linkShort, h]

/-! ## Replay (R28, R684) -/

/-- The first replay of a flit: it is counted, and its instant noted. -/
def firstReplay (d : Nat) (s : Device) : Device :=
  modDir d (fun b => { b with tries := b.tries + 1, recent := [nowD s] }) { s with btr.replays := s.btr.replays + 1 }

@[simp] theorem firstReplay_replays (d : Nat) (s : Device) : (firstReplay d s).btr.replays = s.btr.replays + 1 := rfl

@[simp] theorem btrDir_firstReplay_same (d : Nat) (s : Device) :
    btrDir (firstReplay d s) d = { btrDir s d with tries := (btrDir s d).tries + 1, recent := [nowD s] } :=
  btrDir_modDir_same ..

/-- A flit that no replay has repeated yet is far from the four tries and the 16 replays that begin a retraining. -/
theorem replay_of_first {d : Nat} {s : Device} (hup : s.btr.linkUp = true) (hsend : s.btr.retraining = false) (hd : d < 2)
    (htries : (btrDir s d).tries = 0) (hrecent : (btrDir s d).recent = []) :
    replay d 0 s = raise Ev.btrReplay [(1, d), (1, (btrDir s d).seq)] (firstReplay d s) := by
  simp [replay, firstReplay, hup, hsend, Nat.not_le.mpr hd, htries, hrecent]

/-! ## Retraining (R685) -/

/-- The end of a retraining as the link keeps it: it is counted, and the direction starts with no replay. -/
def retrained (d : Nat) (s : Device) : Device :=
  modDir d (fun b => { b with tries := 0, recent := [] }) { s with
    btr.retraining := false, btr.retrain := none, btr.retrains := s.btr.retrains + 1
    btr.failedRetrains := s.btr.failedRetrains + 1 }

@[simp] theorem retrained_retraining (d : Nat) (s : Device) : (retrained d s).btr.retraining = false := rfl

@[simp] theorem retrained_retrains (d : Nat) (s : Device) : (retrained d s).btr.retrains = s.btr.retrains + 1 := rfl

/-- Ending a retraining takes no lane out of use. -/
theorem linkShort_retrained (d : Nat) (s : Device) : linkShort (retrained d s) = linkShort s := by
  refine linkShort_congr (fun k => ?_)
  unfold retrained
  rw [lanes_modDir]
  · rfl
  · exact fun _ => rfl

theorem linkShort_raise (code : Nat) (fs : List (Nat × Nat)) (s : Device) : linkShort (raise code fs s) = linkShort s :=
  linkShort_congr (fun k => by rw [btrDir_congr (raise_btr code fs s)])

theorem bit_zero_right (k : Nat) : bit k 0 = false := by
  simp [bit]

/-- A fold whose step keeps the state ends in it. -/
theorem foldl_keeping {α β : Type} (b : β) (l : List α) : l.foldl (fun b _ => b) b = b := by
  induction l with
  | nil => rfl
  | cons _ _ ih => exact ih

theorem retrainEnd_of_early {d from_ : Nat} (failed : Nat) {s : Device} (h : s.btr.retrain = some (d, from_))
    (hearly : nowD s < from_ + usT 4) : retrainEnd failed s = s := by
  simp [retrainEnd, h, hearly]

/-- Where no lane has failed none is spared, and the lanes suffice afterwards as they did before. -/
theorem retrainEnd_of_none_failed {d from_ : Nat} {s : Device} (h : s.btr.retrain = some (d, from_))
    (hdue : from_ + usT 4 ≤ nowD s) (hlanes : linkShort s = false) :
    retrainEnd 0 s = raise Ev.btrRetrain [(1, d), (1, 0), (4, (nowD s - from_) / 256)] (retrained d s) := by
  have hshort (fs : List (Nat × Nat)) : ¬linkShort (raise Ev.btrRetrain fs (retrained d s)) = true := by
    simp [linkShort_raise, linkShort_retrained, hlanes]
  unfold retrainEnd
  rw [h]
  simp only [if_neg (Nat.not_lt.mpr hdue), bit_zero_right, Bool.false_and, Bool.false_eq_true, if_false,
    foldl_keeping, Nat.zero_div, Nat.zero_mod]
  exact if_neg (hshort _)

/-! ## Idle link and crossings (R687, R690) -/

theorem linkIdle_of_due {s : Device} (hup : s.btr.linkUp = true) (hdue : s.btr.lastFlit + usT 100 ≤ nowD s) :
    linkIdle s = linkDown 3 s := by
  simp [linkIdle, hup, Nat.not_lt.mpr hdue]

theorem crossingHandshake_of_ready {k : Nat} {s : Device} (hreset : s.btr.xreset.contains k = true)
    (hready : crossingReady s k = true) :
    crossingHandshake k s = { s with btr.xreset := s.btr.xreset.filter (· != k) } :=
  if_pos (by rw [hreset, hready]; rfl)

/-! ## Supervision (R692 to R695) -/

theorem spireWatchdog_of_due {s : Device} (hlink : s.btr.linkUp = true) (hup : s.btr.spireUp = true)
    (hdue : s.btr.heartbeat + msT 1 ≤ nowD s) : spireWatchdog s = spireRestart 0 5 1 false s := by
  simp [spireWatchdog, hlink, hup, Nat.not_lt.mpr hdue]

theorem domeWatchdog_of_due {s : Device} (hheld : s.clk.held = none) (hdue : s.btr.houseSignal + msT 10 ≤ nowD s) :
    domeWatchdog s = resetDevice 3 6 none none { s with kep.lossCause := 6 } := by
  simp [domeWatchdog, hheld, Nat.not_lt.mpr hdue]

theorem fatalError_of_code {code : Nat} (detail : Nat) {s : Device} (hspire : s.btr.spireHeld = false)
    (hheld : s.clk.held = none) (hlo : 2 ≤ code) (hhi : code ≤ 6) :
    fatalError code detail s = spireFatal code detail false s := by
  simp [fatalError, hspire, hheld, Nat.not_lt.mpr hlo, Nat.not_lt.mpr hhi]

/-! ## Sideband reads (R704) -/

theorem sidebandTimeout_of_no_repeat (off : Nat) {s : Device} (h : s.btr.linkUp = false) :
    sidebandTimeout off 0 s = { s with out := s.out ++ [.abort off], btr.rdAbort := s.btr.rdAbort + 1 } := by
  simp [sidebandTimeout, h]

theorem sidebandTimeout_of_repeats (off : Nat) {repeats : Nat} {s : Device} (h : s.btr.linkUp = false)
    (hrep : repeats ≠ 0) :
    sidebandTimeout off repeats s =
      { raise Ev.btrSidebandErr [(2, repeats)] s with
        out := (raise Ev.btrSidebandErr [(2, repeats)] s).out ++ [.abort off]
        btr.rdAbort := (raise Ev.btrSidebandErr [(2, repeats)] s).btr.rdAbort + 1 } := by
  simp [sidebandTimeout, h, hrep]

/-! ## The statement about the link -/

/-- Settles O27, row by row: a first replay (`replay_of_first`), the end of a retraining, which leaves the lanes as they
are (`linkShort_retrained`), the idle link, a crossing, the two watchdogs, a fatal error and a sideband read. -/
theorem buttressLink : Obligations.ButtressLink := by
  unfold Obligations.ButtressLink
  refine ⟨?replay, ?early, ?retrained, ?idle, ?crossing, ?spire, ?dome, ?fatal, ?abort, ?repeats⟩
  case replay =>
    intro d s hup hsend hd htries hrecent
    refine ⟨firstReplay d s.dev, ?_, firstReplay_replays d s.dev, by simp [htries], rfl⟩
    rw [exec_flitCrcError, execFlitCrcError, replay_of_first hup hsend hd htries hrecent]
  case early =>
    intro failed d from_ s hretrain hearly
    rw [exec_retrainEnd, execRetrainEnd, retrainEnd_of_early failed hretrain hearly]
  case retrained =>
    intro d from_ s hretrain hdue hlanes
    refine ⟨retrainEnd 0 s.dev, rfl, ?_⟩
    rw [retrainEnd_of_none_failed hretrain hdue hlanes, raise_btr]
    exact ⟨retrained_retraining d s.dev, retrained_retrains d s.dev⟩
  case idle =>
    intro s hup hdue
    rw [exec_linkIdleTimeout, execLinkIdleTimeout, linkIdle_of_due hup hdue]
  case crossing =>
    intro k s hreset hready
    rw [exec_crossingHandshake, execCrossingHandshake, crossingHandshake_of_ready hreset hready]
  case spire =>
    intro s hlink hup hdue
    rw [exec_spireWatchdog, execSpireWatchdog, spireWatchdog_of_due hlink hup hdue]
  case dome =>
    intro s hheld hdue
    rw [exec_domeWatchdog, execDomeWatchdog, domeWatchdog_of_due hheld hdue]
  case fatal =>
    intro code detail s hspire hheld hlo hhi
    rw [exec_spireFatal, execSpireFatal, fatalError_of_code detail hspire hheld hlo hhi]
  case abort =>
    intro off s hdown
    rw [exec_sidebandReadTimeout, execSidebandReadTimeout, sidebandTimeout_of_no_repeat off hdown]
  case repeats =>
    intro off repeats s hdown hrep
    refine ⟨raise Ev.btrSidebandErr [(2, repeats)] s.dev, ?_, rfl⟩
    rw [exec_sidebandReadTimeout, execSidebandReadTimeout, sidebandTimeout_of_repeats off hdown hrep]

/-! ## Scrubbing (R698) -/

theorem dramScrub_of_not_last (row : Nat) (addrs : List Nat) {s : Device} (hup : s.btr.spireUp = true)
    (hawake : s.mem.selfRefresh = false) :
    dramScrub row addrs false s = addrs.foldl (fun t a => correctedError row a t) s := by
  simp [dramScrub, hup, hawake]

theorem dramScrub_of_end_of_pass (row : Nat) {s : Device} (hup : s.btr.spireUp = true)
    (hawake : s.mem.selfRefresh = false) :
    dramScrub row [] true s =
      raise Ev.memScrubDone [(4, (s.mem.scrubPass + 1).toNat), (2, s.mem.passErrors)]
        { s with mem.scrubPass := s.mem.scrubPass + 1, mem.passErrors := 0 } := by
  simp [dramScrub, hup, hawake]

/-! ## Uncorrected errors (R700, R701) -/

/-- An uncorrected error is counted, its address kept, and reported with its place. -/
def noteUe (region addr window segment off : Nat) (s : Device) : Device :=
  raise Ev.memUe [(1, region), (1, window), (2, segment), (4, off)]
    { s with mem.ue := s.mem.ue + 1, mem.ueAddr := BitVec.ofNat 64 addr }

section Uncorrected
variable {s : Device} (hup : s.btr.spireUp = true) (hawake : s.mem.selfRefresh = false)
include hup hawake

theorem memUe_of_window {region : Nat} (hregion : region = 1 ∨ region = 2) (addr window segment off prog : Nat) :
    memUe region addr window segment off prog s = noteUe region addr window segment off s := by
  obtain rfl | rfl := hregion <;> simp [memUe, noteUe, hup, hawake]

/-- Code and control memory belong to no window, and the window number reads 0xFF. -/
theorem memUe_of_code {prog : Nat} (himage : (progOf s prog).image ≠ []) (addr window segment off : Nat) :
    memUe 3 addr window segment off prog s = codeError prog (noteUe 3 addr 0xFF segment off s) := by
  simp [memUe, noteUe, hup, hawake, himage]

theorem memUe_of_control (addr window segment off prog : Nat) :
    memUe 4 addr window segment off prog s = spireFatal 3 0 false (noteUe 4 addr 0xFF segment off s) := by
  simp [memUe, noteUe, hup, hawake]

end Uncorrected

/-! ## The statement about DRAM -/

/-- Settles O28, region by region: what follows the note of an uncorrected error (`noteUe`) is the region's own. -/
theorem memoryErrors : Obligations.MemoryErrors := by
  unfold Obligations.MemoryErrors
  refine ⟨?pass, ?row, ?code, ?window, ?control⟩
  case pass =>
    intro row s hup hawake
    rw [exec_dramScrub, execDramScrub, dramScrub_of_end_of_pass row hup hawake]
  case row =>
    intro row addrs s hup hawake
    rw [exec_dramScrub, execDramScrub, dramScrub_of_not_last row addrs hup hawake]
  case code =>
    intro addr window segment off prog s hup hawake himage
    rw [exec_memUe, execMemUe, memUe_of_code hup hawake himage, noteUe]
  case window =>
    intro region addr window segment off prog s hup hawake hregion
    rw [exec_memUe, execMemUe, memUe_of_window hup hawake hregion, noteUe]
  case control =>
    intro addr window segment off prog s hup hawake
    rw [exec_memUe, execMemUe, memUe_of_control hup hawake, noteUe]

end Sys2Proof.Proofs.ErrorsOrdering
end

section
/-!
Performance counters, snapshots and dumps (20_counters_registers).
-/
namespace Sys2Proof.Proofs.Counters
open Sys2Proof Sys2Proof.Machine Sys2Proof.Laws

/-! ## Bits of a written word -/

theorem bits_of_lt {hi v : Nat} (h : v < 2 ^ (hi + 1)) : bits hi 0 v = v := by
  simp [bits, Nat.mod_eq_of_lt h]

theorem bits_above {lo v : Nat} (hi : Nat) (h : v < 2 ^ lo) : bits hi lo v = 0 := by
  simp [bits, Nat.div_eq_of_lt h]

theorem bit_above {k v : Nat} (h : v < 2 ^ k) : bit k v = false := by
  simp [bit, Nat.div_eq_of_lt h]

theorem bit_zero_of_odd {v : Nat} (h : v % 2 = 1) : bit 0 v = true := by
  simp [bit, h]

/-! ## A page of the Spire die (R705) -/

theorem spireWrite_of_up (f : Device → Device) {s : Device} (h : s.btr.spireUp = true) : spireWrite f s = f s := if_pos h

/-! ## Selections (R731, R735) -/

/-- A value of SIGNAL and BLOCK alone, with no INDEX and MODE EDGE, is taken as it stands. -/
theorem selection_of_lt {v : Nat} (h : v < 2 ^ 13) :
    bits 12 0 v + flag 15 (bit 15 v) + bits 23 16 v * 65536 = v := by
  rw [bits_of_lt h, bit_above (k := 15) (by omega), bits_above (lo := 16) 23 (by omega)]
  simp [flag]

section Selection
variable {n v : Nat} {s : Device} (hup : s.btr.spireUp = true) (hn : n ≤ 639) (hv : v < 2 ^ 13)
include hup hn hv

theorem pmcSelWrite_of_valid (h : selValid v = true) :
    pmcSelWrite n v s = { s with
      pmc.sel := tset s.pmc.sel n (BitVec.ofNat 32 v), pmc.start := tset s.pmc.start n (cumOf s v) } := by
  rw [pmcSelWrite, selection_of_lt hv, spireWrite_of_up _ hup]
  simp [Nat.not_lt.mpr hn, h]

theorem pmcSelWrite_of_invalid (h : selValid v = false) :
    pmcSelWrite n v s = { s with pmc.cfgErr := true } := by
  rw [pmcSelWrite, selection_of_lt hv, spireWrite_of_up _ hup]
  simp [Nat.not_lt.mpr hn, h]

end Selection

/-- A counter counts from its start. -/
theorem pmcCount_of_start {n v : Nat} {s : Device} (hsel : pmcSel s n = v) (hstart : tget s.pmc.start n 0 = cumOf s v) :
    pmcCount s n = 0 := by
  simp [pmcCount, hsel, hstart]

/-! ## Snapshots (R737, R738) -/

theorem pmcSnapWrite_of_free {v : Nat} {s : Device} (hup : s.btr.spireUp = true) (hgo : v % 2 = 1)
    (hfree : s.pmc.snapAt = none) :
    pmcSnapWrite v s = { s with pmc.snapAt := some (ceilTo (nsT 1000) (inCycles s 4000)) } := by
  rw [pmcSnapWrite, spireWrite_of_up _ hup]
  simp [bit_zero_of_odd hgo, hfree]

theorem pmcSnapWrite_of_open {v : Nat} {t : STime} {s : Device} (hup : s.btr.spireUp = true) (hgo : v % 2 = 1)
    (hopen : s.pmc.snapAt = some t) : pmcSnapWrite v s = { s with pmc.overrun := true } := by
  rw [pmcSnapWrite, spireWrite_of_up _ hup]
  simp [bit_zero_of_odd hgo, hopen]

theorem snapshotInstant_of_early {t : STime} {s : Device} (h : s.pmc.snapAt = some t) (hearly : nowS s < t) :
    snapshotInstant s = s := by
  simp [snapshotInstant, h, hearly]

theorem snapshotInstant_of_due {t : STime} {s : Device} (h : s.pmc.snapAt = some t) (hdue : t ≤ nowS s) :
    snapshotInstant s = { s with
      pmc.snapAt := none, pmc.snapSeq := s.pmc.snapSeq + 1, pmc.snapT := t / 256
      pmc.hLtnWr := s.ltn.wr, pmc.hLtnRd := s.ltn.rd, pmc.hEvrSeq := s.evr.seq.toNat, pmc.hKepEp := s.kep.epoch
      pmc.hAdcWr := (List.range 32).map (fun c => (c, (tget s.adc.bufs c {}).wr))
      pmc.hold := (List.range 640).map (fun n => (n, pmcCount s n)) } := by
  unfold snapshotInstant
  rw [h]
  exact if_neg (Nat.not_lt.mpr hdue)

/-! ## Dumps (R739, R743) -/

section Period
variable {v : Nat} {s : Device} (hup : s.btr.spireUp = true) (hv : v < 2 ^ 20)
include hup hv

theorem dumpCfgWrite_of_valid (hlo : v = 0 ∨ 100 ≤ v) (hhi : v ≤ 1000000) :
    dumpCfgWrite v s = { s with pmc.period := v, pmc.dumpFrom := nowS s } := by
  have hvalid : ¬((1 ≤ v ∧ v < 100) ∨ 1000000 < v) := by omega
  rw [dumpCfgWrite, spireWrite_of_up _ hup, bits_of_lt hv]
  exact if_neg (by simpa using hvalid)

theorem dumpCfgWrite_of_invalid (h : (1 ≤ v ∧ v < 100) ∨ 1000000 < v) :
    dumpCfgWrite v s = { s with pmc.cfgErr := true } := by
  rw [dumpCfgWrite, spireWrite_of_up _ hup, bits_of_lt hv]
  exact if_pos (by simpa using h)

theorem dumpMaskWrite_of_lt : dumpMaskWrite v s = { s with pmc.mask := v } := by
  rw [dumpMaskWrite, spireWrite_of_up _ hup, bits_of_lt hv]

end Period

theorem dumpInstant_of_due {s : Device} (hup : s.btr.spireUp = true) (hperiod : s.pmc.period ≠ 0)
    (hdue : nextMul (usT s.pmc.period) s.pmc.dumpFrom ≤ nowS s) :
    dumpInstant s = writeDump (nextMul (usT s.pmc.period) s.pmc.dumpFrom)
      { s with pmc.dumpFrom := nextMul (usT s.pmc.period) s.pmc.dumpFrom } := by
  simp [dumpInstant, hup, hperiod, Nat.not_lt.mpr hdue]

/-! ## PMC_STATUS (R705, R746) -/

theorem pmcStatusRead_of_up {s : Device} (h : s.btr.spireUp = true) :
    pmcStatusRead s = { s with
      pmc.cfgErr := false, pmc.overrun := false, out := s.out ++ [.reg 0x160000 (pmcStatus s)] } := if_pos h

theorem pmcStatusRead_of_down {s : Device} (h : s.btr.spireUp = false) :
    pmcStatusRead s = { s with out := s.out ++ [.reg 0x160000 0] } :=
  if_neg (by rw [h]; decide)

/-! ## The statement -/

/-- Settles O34, row by row. A selection below 2 ^ 13 is taken whole (`selection_of_lt`), as are the 20 bits of a dump
period and of a dump mask (`bits_of_lt`). -/
theorem countersAndDumps : Obligations.CountersAndDumps := by
  unfold Obligations.CountersAndDumps
  refine ⟨?selected, ?zero, ?refused, ?go, ?overrun, ?latched, ?early, ?period, ?badPeriod, ?mask, ?dump, ?status, ?down⟩
  case selected =>
    intro n v s hup hn hv hvalid
    rw [exec_pmcSelWrite, execPmcSelWrite, pmcSelWrite_of_valid hup hn hv hvalid]
  case zero =>
    intro n v s hsel hstart
    exact pmcCount_of_start hsel hstart
  case refused =>
    intro n v s hup hn hv hinvalid
    rw [exec_pmcSelWrite, execPmcSelWrite, pmcSelWrite_of_invalid hup hn hv hinvalid]
  case go =>
    intro v s hup hgo hfree
    rw [exec_pmcSnapWrite, execPmcSnapWrite, pmcSnapWrite_of_free hup hgo hfree]
  case overrun =>
    intro v t s hup hgo hopen
    rw [exec_pmcSnapWrite, execPmcSnapWrite, pmcSnapWrite_of_open hup hgo hopen]
  case latched =>
    intro t s hsnap hdue
    refine ⟨snapshotInstant s.dev, rfl, ?_⟩
    simp only [snapshotInstant_of_due hsnap hdue, and_self]
  case early =>
    intro t s hsnap hearly
    rw [exec_snapshotInstant, execSnapshotInstant, snapshotInstant_of_early hsnap hearly]
  case period =>
    intro v s hup hv hlo hhi
    rw [exec_pmcDumpCfgWrite, execPmcDumpCfgWrite, dumpCfgWrite_of_valid hup hv hlo hhi]
  case badPeriod =>
    intro v s hup hv hinvalid
    rw [exec_pmcDumpCfgWrite, execPmcDumpCfgWrite, dumpCfgWrite_of_invalid hup hv hinvalid]
  case mask =>
    intro v s hup hv
    rw [exec_pmcDumpMaskWrite, execPmcDumpMaskWrite, dumpMaskWrite_of_lt hup hv]
  case dump =>
    intro s hup hperiod hdue
    rw [exec_dumpInstant, execDumpInstant, dumpInstant_of_due hup hperiod hdue]
  case status =>
    intro s hup
    rw [exec_pmcStatusRead, execPmcStatusRead, pmcStatusRead_of_up hup]
  case down =>
    intro s hdown
    rw [exec_pmcStatusRead, execPmcStatusRead, pmcStatusRead_of_down hdown]

end Sys2Proof.Proofs.Counters
end

section
/-!
What reset leaves (20_counters_registers).
-/
namespace Sys2Proof.Proofs.Counters
open Sys2Proof Sys2Proof.Machine Sys2Proof.Laws

/-! ## Pages and banks (R3, R51) -/

theorem readReg_hif_of_up {off : Nat} {s : Device} (hoff : off < 65536) (h : s.btr.spireUp = true) :
    readReg off s = readHif s (off / 4 * 4) := by
  simp [readReg, h, Nat.mod_eq_of_lt hoff, Nat.div_eq_of_lt hoff]

/-- While the Spire die is down the HIF page reads as after reset (R705). -/
theorem readReg_hif_of_down {off : Nat} {s : Device} (hoff : off < 65536) (h : s.btr.spireUp = false) :
    readReg off s = readHif Device.reset (off / 4 * 4) := by
  simp [readReg, spirePage, h, hoff, Nat.mod_eq_of_lt hoff, Nat.div_eq_of_lt hoff]

theorem firstReg_of_some {o v : Nat} {f : Nat → Option Nat} {l : List (Nat → Option Nat)} (h : f o = some v) :
    firstReg o (f :: l) = v := by
  simp [firstReg, h]

theorem firstReg_of_none {o : Nat} {f : Nat → Option Nat} {l : List (Nat → Option Nat)} (h : f o = none) :
    firstReg o (f :: l) = firstReg o l := by
  simp [firstReg, h]

theorem regs_above {l : List (Nat × Nat)} {o : Nat} (h : ∀ e ∈ l, e.1 < o) : regs l o = none := by
  have hne : ∀ e ∈ l, e.1 ≠ o := fun e he => Nat.ne_of_lt (h e he)
  simpa [regs, List.find?_eq_none] using hne

theorem regs64_above {l : List (Nat × Nat)} {o : Nat} (h : ∀ e ∈ l, e.1 + 4 < o) : regs64 l o = none := by
  refine List.findSome?_eq_none_iff.mpr fun e he => ?_
  have := h e he
  simp [show o ≠ e.1 by omega, show o ≠ e.1 + 4 by omega]

theorem bank_entry {base stride count n : Nat} (f : Nat → Nat) (hstride : 0 < stride) (hn : n < count) :
    bank base stride count f (base + stride * n) = some (f n % 2 ^ 32) := by
  simp [bank, hstride, hn]

theorem bank_off_stride {base stride count o : Nat} (f : Nat → Nat) (h : (o - base) % stride ≠ 0) :
    bank base stride count f o = none := if_neg fun hb => h hb.2.1

theorem bank64_off_stride {base stride count o : Nat} (f : Nat → Nat) (hlow : (o - base) % stride ≠ 0)
    (hhigh : (o - (base + 4)) % stride ≠ 0) : bank64 base stride count f o = none := by
  rw [bank64, bank_off_stride _ hlow]
  exact bank_off_stride _ hhigh

/-- HIF_QCFG of ring `n` (Table HIF-10). -/
theorem readHif_qcfg {n : Nat} (s : Device) (hn : n < 32) :
    readHif s (0x1010 + 0x40 * n) = ((ringOf s n).sizeLog2 + (ringOf s n).vector * 2 ^ 8 + flag 16 (ringOf s n).enable +
      flag 17 (ringOf s n).prio) % 2 ^ 32 := by
  rw [readHif, firstReg_of_none (regs_above ?header), firstReg_of_none (regs64_above ?eventRing),
    firstReg_of_none (bank64_off_stride _ ?low1 ?high1), firstReg_of_none (bank64_off_stride _ ?low2 ?high2)]
  exact firstReg_of_some (bank_entry _ (by decide) hn)
  case header => simp; omega
  case eventRing => simp; omega
  all_goals omega

/-! ## Registers after reset -/

/-- The registers at the offsets of `l` read as `l` says. -/
def ReadAs (l : List (Nat × Nat)) (d : Device) : Prop := l.all (fun e => readReg e.1 d == e.2) = true

theorem ReadAs.append {l m : List (Nat × Nat)} {d : Device} (hl : ReadAs l d) (hm : ReadAs m d) :
    ReadAs (l ++ m) d := by
  rw [ReadAs, List.all_append, hl, hm, Bool.and_self]

/-- HIF_ID, HIF_ERRVEC, HIF_EVQCFG and three reserved offsets (Tables HIF-9 to HIF-12). -/
theorem hifPage_of_down {d : Device} (h : d.btr.spireUp = false) :
    ReadAs [(0x0, 0x96800100), (0x20, 0x31), (0x108, 0x22000), (0x1FD0, 0), (0x1FC, 0), (0x117C, 0)] d := by
  have hpage : ∀ off < 65536, readReg off d = readHif Device.reset (off / 4 * 4) :=
    fun _ hoff => readReg_hif_of_down hoff h
  simp (disch := decide) only [ReadAs, List.all_cons, List.all_nil, hpage]
  decide

/-- Registers of TIM, EVR, BTR, CLK, TST, FBL, SAF and PAI, whose pages are on the Dome die. -/
theorem domePages_reset :
    ReadAs [(0xB8000, 0x20), (0x120004, 1), (0x120008, 0x10000), (0x138004, 0xF0F), (0x180000, 3), (0x180004, 0x7FFF),
      (0x180018, 0x56E), (0x190004, 0xFF), (0x19000C, 0x288), (0x50000, 0), (0xE0000, 0), (0x100000, 0)]
      State.reset.dev := by
  unfold ReadAs
  decide

/-- The block as reset leaves it, once the Spire die is up. -/
def resetUp : Device := { State.reset.dev with btr.spireUp := true }

/-- Registers of CFG, DPT, LPE and PGM, whose pages are on the Spire die. -/
theorem enginePages_reset :
    ReadAs [(0x10000, 0), (0x1001C, 0x800000), (0x1002C, 2000), (0x20008, 0xFFFF), (0x2000C, 0x30000), (0x20034, 10),
      (0x3000C, 0x3FFFF), (0x40004, 0x76543210), (0x40008, 0x100)] resetUp := by
  unfold ReadAs
  decide

theorem spares_softRows_length (s : Device) : (spares s 6).length = 64 - s.spr.softRows.length := by
  simp [spares]

theorem spares_hardRows_length {s : Device} (h : s.spr.hardUsed = []) : (spares s 7).length = 256 := by
  have hfree : ∀ k ∈ List.range 256, (!s.spr.hardUsed.contains k) = true := fun k _ => by rw [h]; rfl
  rw [spares, List.filter_eq_self.mpr hfree, List.length_range]
  all_goals decide

theorem readReg_sprPool1 {s : Device} (h : s.btr.spireUp = true) : readReg 0x150024 s = sprPool1 s % 2 ^ 32 := by
  simp [readReg, h, readSpr, firstReg, regs]

/-- 128 sectors of the Keep, 64 rows of soft and 256 rows of hard DRAM repair are free (Table SPR-10). -/
theorem sprPool1_reset : readReg 0x150024 resetUp = 0x1004080 := by
  rw [readReg_sprPool1 rfl, sprPool1, spares_softRows_length, spares_hardRows_length rfl]
  rfl

theorem sprPage_reset : ReadAs [(0x150004, 0x3F), (0x150020, 0x11212), (0x150024, 0x1004080)] resetUp := by
  simp only [ReadAs, List.all_cons, List.all_nil, sprPool1_reset]
  decide

/-- PMC_DUMP_MASK and the selections 0 and 100, whose reset values are those of Table PMC-3 (R736). -/
theorem pmcPage_reset : ReadAs [(0x160024, 0xFFFFF), (0x161000, 0x8380), (0x161190, 0x11380)] resetUp := by
  unfold ReadAs
  decide

/-! ## Rings after reset -/

theorem ringOf_resetUp (n : Nat) : ringOf resetUp n = { vector := n } := rfl

/-- Ring `n` signals vector `n` until it is configured (Table HIF-9). -/
theorem qcfg_reset {n : Nat} (hn : n < 32) : readReg (0x1010 + 0x40 * n) resetUp = n * 0x100 := by
  have hword : (0x1010 + 0x40 * n) / 4 * 4 = 0x1010 + 0x40 * n := by omega
  rw [readReg_hif_of_up (by omega) rfl, hword, readHif_qcfg _ hn, ringOf_resetUp]
  simp [flag]
  omega

/-! ## The statement -/

/-- Settles O58, page by page: the HIF page is read as reset leaves it because the Spire die is down
(`hifPage_of_down`), and the registers HIF_QCFG of the 32 rings with the die up are one bank (`readHif_qcfg`). -/
theorem resetLeaves : Obligations.ResetLeaves := by
  unfold Obligations.ResetLeaves
  refine ⟨?queue, ?down, ?up, ?blocks⟩
  case queue =>
    exact ⟨rfl, fun _ => ⟨rfl, rfl, rfl⟩, List.forall_mem_nil _⟩
  case down =>
    exact (hifPage_of_down rfl).append domePages_reset
  case up =>
    rintro d rfl
    exact ⟨enginePages_reset.append (sprPage_reset.append pmcPage_reset), fun n hn => qcfg_reset hn⟩
  case blocks =>
    exact ⟨rfl, rfl, rfl, rfl, rfl, rfl, rfl, rfl, fun n => ⟨rfl, rfl⟩⟩

end Sys2Proof.Proofs.Counters
end

section
/-!
The queue of the commands that wait (02_host_rings_windows).
-/
namespace Sys2Proof.Proofs.Steps
open Sys2Proof Sys2Proof.Machine Sys2Proof.Laws

/-- A command answers a next state in which the same commands wait: only the block may change (R64, R66). -/
theorem exec_next (c : Instr) (s : State) : ∃ d : Device, exec c s = .next { s with dev := d } := by
  cases c <;> exact ⟨_, rfl⟩

/-- A step takes the front command out of the queue and puts none in. -/
theorem step_pending {s t : State} (h : step s = .next t) : t.pending = s.pending.tail := by
  unfold step at h
  split at h
  next c rest hpending =>
    obtain ⟨d, hd⟩ := exec_next c { s with pending := rest }
    rw [hd] at h
    cases h
    rw [hpending, List.tail_cons]
  next hpending =>
    cases h
    rw [hpending, List.tail_nil]

/-- Settles O3: what waits after a step waited before it (`step_pending`). -/
theorem queueStaysWellFormed : Obligations.QueueStaysWellFormed := by
  unfold Obligations.QueueStaysWellFormed
  intro s t hok hstep c hc
  rw [step_pending hstep] at hc
  exact hok c (List.mem_of_mem_tail hc)

end Sys2Proof.Proofs.Steps
end

section
/-!
Supplies, resets, the reference clock and temperature (22_pins_power_startup).
-/
namespace Sys2Proof.Proofs.PowerStartup
open Sys2Proof Sys2Proof.Machine Sys2Proof.Laws Sys2Proof.Proofs.DispatchMatching
open Sys2Proof.Proofs.ErrorsOrdering (bit_zero_right foldl_keeping)

/-! ## The command rings

An event raised, an item sent to the host and a change of the lanes leave the command rings as they were. -/

/-- The command rings of `t` are those of `s`. -/
structure KeepsRings (s t : Device) : Prop where
  rings : t.hif.rings = s.hif.rings

section Rings
variable {s t u : Device}

theorem KeepsRings.refl (s : Device) : KeepsRings s s := ⟨rfl⟩

theorem KeepsRings.ite {c : Prop} [Decidable c] (h : KeepsRings s t) (k : KeepsRings s u) :
    KeepsRings s (if c then t else u) := by
  split <;> assumption

theorem KeepsRings.of_hif (h : KeepsRings s t) (hif : u.hif = t.hif) : KeepsRings s u := ⟨by rw [hif, h.rings]⟩

theorem KeepsRings.held (h : KeepsRings s t) (l : List EvRec) : KeepsRings s { t with hif.evqHeld := l } := ⟨h.rings⟩

variable (h : KeepsRings s t)
include h

theorem toHost_keepsRings (o : Out) : KeepsRings s (toHost o t) := .ite ⟨h.rings⟩ ⟨h.rings⟩

theorem fireVector_keepsRings (v : Nat) : KeepsRings s (fireVector v t) := by
  unfold fireVector
  refine .ite ?_ (toHost_keepsRings ?_ _)
  · exact ⟨h.rings⟩
  · exact ⟨h.rings⟩

theorem signalVector_keepsRings (v : Nat) : KeepsRings s (signalVector v t) :=
  .ite (fireVector_keepsRings h v) ⟨h.rings⟩

theorem evEnqueue_keepsRings (w : EvWait) : KeepsRings s (evEnqueue w t) :=
  .ite ⟨h.rings⟩ (.ite ⟨h.rings⟩ (.ite ⟨h.rings⟩ ⟨h.rings⟩))

theorem issueSummary_keepsRings (code : Nat) (at_ : STime) : KeepsRings s (issueSummary code at_ t) := by
  unfold issueSummary
  split
  · exact h
  next q _ =>
    refine KeepsRings.of_hif (t := evEnqueue _ _) (evEnqueue_keepsRings ?_ _) rfl
    exact h.of_hif rfl

theorem raiseAt_keepsRings (at_ : STime) (code : Nat) (payload : List Byte) : KeepsRings s (raiseAt at_ code payload t) := by
  unfold raiseAt
  refine .ite (evEnqueue_keepsRings ?_ _) (.ite (evEnqueue_keepsRings (issueSummary_keepsRings ?_ _ _) _) ?_)
  all_goals exact h.of_hif rfl

theorem raise_keepsRings (code : Nat) (fs : List (Nat × Nat)) : KeepsRings s (raise code fs t) := by
  unfold raise
  exact .ite (signalVector_keepsRings (raiseAt_keepsRings h _ _ _) _) (raiseAt_keepsRings h _ _ _)

theorem poolNotice_keepsRings (pool : Nat) : KeepsRings s (poolNotice pool t) := by
  unfold poolNotice
  split
  · exact raise_keepsRings h _ _
  · refine raise_keepsRings ?_ _ _
    exact h.of_hif rfl
  · exact h

theorem retestLoad_keepsRings : KeepsRings s (retestLoad t) := by
  unfold retestLoad
  split
  · exact h.of_hif rfl
  · refine raise_keepsRings ?_ _ _
    exact h.of_hif rfl

theorem fillLanes_keepsRings (n : Nat) : KeepsRings s (fillLanes n t) := by
  induction n generalizing t with
  | zero => exact h
  | succ n ih =>
    unfold fillLanes
    refine .ite h ?_
    split
    · exact h
    · exact ih (h.of_hif rfl)

theorem refillLanes_keepsRings (before : Nat) : KeepsRings s (refillLanes before t) := by
  have hfill := fillLanes_keepsRings h 18
  have hnotice : KeepsRings s (if (spares (fillLanes 18 t) 0).length < (spares t 0).length
      then poolNotice 0 (fillLanes 18 t) else fillLanes 18 t) := .ite (poolNotice_keepsRings hfill 0) hfill
  exact .ite hnotice (retestLoad_keepsRings hnotice)

theorem fitLanes_keepsRings (n : Nat) : KeepsRings s (fitLanes n t) := by
  induction n generalizing t with
  | zero => exact h
  | succ n ih =>
    simp only [fitLanes]
    split
    · split
      · exact ih (h.of_hif rfl)
      · exact refillLanes_keepsRings h _
    · split
      · split
        · exact ih (h.of_hif rfl)
        · exact h
      · exact h

theorem missEvents_keepsRings (rs : List EvRec) : KeepsRings s (missEvents rs t) := by
  cases rs
  · exact h
  · exact ⟨h.rings⟩

theorem offerEvent_keepsRings (r : EvRec) : KeepsRings s (offerEvent r t) := by
  simp only [offerEvent]
  split
  · split
    · exact ⟨h.rings⟩
    · exact h
  · split
    · exact h
    · split
      · exact missEvents_keepsRings h _
      · exact (missEvents_keepsRings h _).held _

theorem admitRecord_keepsRings (r : EvRec) (unread : List Nat) : KeepsRings s (admitRecord r true unread t) := by
  unfold admitRecord
  split
  · refine offerEvent_keepsRings ?_ _
    exact h.of_hif rfl
  · refine offerEvent_keepsRings ?_ _
    exact h.of_hif rfl

theorem evrBoot_keepsRings (cause : Nat) : KeepsRings s (evrBoot cause t) := by
  refine admitRecord_keepsRings ?_ _ _
  exact h.of_hif rfl

end Rings

/-! ## What else the steps of a reset leave as it was -/

theorem fitLanes_substitutes (n : Nat) (s : Device) : Substitutes s (fitLanes n s) := by
  induction n generalizing s with
  | zero => exact .refl s
  | succ n ih =>
    simp only [fitLanes]
    split
    · split
      · exact (Substitutes.dpt _ _).trans (ih _)
      · exact refillLanes_substitutes _ _
    · split
      · split
        · exact (Substitutes.dpt _ _).trans (ih _)
        · exact .refl s
      · exact .refl s

theorem missEvents_touches (rs : List EvRec) (s : Device) : Touches s (missEvents rs s) := by
  cases rs
  · exact .refl s
  · exact .hif _ _

theorem offerEvent_touches (r : EvRec) (s : Device) : Touches s (offerEvent r s) := by
  simp only [offerEvent]
  split
  · split
    · exact .hif _ _
    · exact .refl s
  · split
    · exact .refl s
    · split
      · exact missEvents_touches _ s
      · exact (missEvents_touches _ s).trans (.hif _ _)

/-- A record whose write verifies reaches the event log and the event ring alone (R666, R670). -/
theorem admitRecord_touches (r : EvRec) (unread : List Nat) (s : Device) : Touches s (admitRecord r true unread s) := by
  unfold admitRecord
  split
  · refine Touches.trans ?_ (offerEvent_touches _ _)
    exact .evr _ _
  · refine Touches.trans ?_ (offerEvent_touches _ _)
    exact .evr _ _

theorem evrBoot_touches (cause : Nat) (s : Device) : Touches s (evrBoot cause s) :=
  (Touches.evr _ _).trans (admitRecord_touches _ _ _)

theorem storeImage_clk (p : Nat) (i : List Byte) (s : Device) : (storeImage p i s).2.clk = s.clk := by
  unfold storeImage
  split <;> rfl

theorem dropExchanges_clk (s : Device) : (dropExchanges s).clk = s.clk :=
  List.foldlRecOn (motive := fun u : Device => u.clk = s.clk) _ _ rfl fun _ hu _ _ => (storeImage_clk _ _ _).trans hu

theorem stageFails_clk (s : Device) : (stageFails s).clk = s.clk := by
  unfold stageFails
  split
  · rfl
  · simp only
    split <;> rfl

/-! ## A device reset -/

/-- `t` is `s` after a reset of the device: the supplies and the reference stand as they were, working time is 0, the Spire
die is down, no command ring is configured, and Belfry keeps its configuration (R39, R479, R546, R609). -/
structure Restarted (s t : Device) : Prop where
  rails : t.clk.rails = s.clk.rails
  refOk : t.clk.refOk = s.clk.refOk
  dome : t.tim.dome = 0
  spireUp : t.btr.spireUp = false
  rings : t.hif.rings = []
  safCfg : t.saf.cfg = s.saf.cfg

theorem Restarted.of_substitutes {s t u : Device} (h : Restarted s t) (k : Substitutes t u) (r : KeepsRings t u) :
    Restarted s u := by
  obtain ⟨hrings⟩ := r
  obtain ⟨_, _, _, _, _, _, _, _, _, _, rfl⟩ := k
  exact ⟨h.rails, h.refOk, h.dome, h.spireUp, hrings.trans h.rings, h.safCfg⟩

theorem Restarted.of_touches {s t u : Device} (h : Restarted s t) (k : Touches t u) (r : KeepsRings t u) :
    Restarted s u := h.of_substitutes (.of_touches k) r

/-- Where a configuration in the Keep sets the clock, the step to its mode is reported. -/
theorem Restarted.stepped {s t : Device} {fs : List (Nat × Nat)} (h : Restarted s t) :
    Restarted s (if t.tim.mode == .unset then t else raise Ev.timeStepped fs { t with tim.steps := 1 }) := by
  split
  · exact h
  · refine Restarted.of_touches (t := { t with tim.steps := 1 }) ?_ (raise_touches _ _ _) (raise_keepsRings (.refl _) _ _)
    exact ⟨h.rails, h.refOk, h.dome, h.spireUp, h.rings, h.safCfg⟩

theorem Restarted.supervised {s t : Device} (h : Restarted s t) (a b : STime) :
    Restarted s { t with btr.heartbeat := a, btr.houseSignal := b } :=
  ⟨h.rails, h.refOk, h.dome, h.spireUp, h.rings, h.safCfg⟩

theorem Restarted.timeMode {s t : Device} (h : Restarted s t) (rate : Int) (sel : Nat) (mode : TimeMode) :
    Restarted s { t with tim.rate := rate, tim.sel := sel, tim.mode := mode } :=
  ⟨h.rails, h.refOk, h.dome, h.spireUp, h.rings, h.safCfg⟩

theorem Restarted.resetLanes {s t : Device} (h : Restarted s t) : Restarted s (Machine.resetLanes t) := by
  refine Restarted.of_substitutes ?_ (fitLanes_substitutes _ _) (fitLanes_keepsRings (.refl _) _)
  exact ⟨h.rails, h.refOk, h.dome, h.spireUp, h.rings, h.safCfg⟩

theorem deviceReset_restarted (cause : Nat) (kind : Option Nat) (s : Device) : Restarted s (deviceReset cause kind s) := by
  have hclk : (traceLose (returnLanes (dropExchanges (stageFails s)))).2.clk = s.clk :=
    (dropExchanges_clk _).trans (stageFails_clk s)
  have hsaf : (traceLose (returnLanes (dropExchanges (stageFails s)))).2.saf = s.saf := by simp
  have hrails := congrArg Clk.rails hclk
  have href := congrArg Clk.refOk hclk
  have hcfg := congrArg Saf.cfg hsaf
  unfold deviceReset
  generalize traceLose (returnLanes (dropExchanges (stageFails s))) = p at hrails href hcfg
  obtain ⟨mask, u⟩ := p
  refine Restarted.stepped (.of_touches (.supervised ?_ _ _) (evrBoot_touches _ _) (evrBoot_keepsRings (.refl _) _))
  split
  · refine .resetLanes ?_
    exact ⟨hrails, href, rfl, rfl, rfl, hcfg⟩
  · refine .timeMode (.resetLanes ?_) _ _ _
    exact ⟨hrails, href, rfl, rfl, rfl, hcfg⟩

theorem Restarted.clocked {s t : Device} (h : Restarted s t) (cause : Nat) (held : Option Nat) :
    Restarted s { t with clk.cause := cause, clk.held := held } :=
  ⟨h.rails, h.refOk, h.dome, h.spireUp, h.rings, h.safCfg⟩

theorem Restarted.of_congr {r s t : Device} (h : Restarted r t) (hclk : r.clk = s.clk) (hsaf : r.saf = s.saf) :
    Restarted s t :=
  ⟨hclk ▸ h.rails, hclk ▸ h.refOk, h.dome, h.spireUp, h.rings, hsaf ▸ h.safCfg⟩

theorem resetDevice_restarted (clkCause cause : Nat) (kind held : Option Nat) (s : Device) :
    Restarted s (resetDevice clkCause cause kind held s) :=
  (deviceReset_restarted cause kind s).clocked clkCause held

theorem resetN_restarted (testMode : Bool) (s : Device) : Restarted s (resetN testMode s) :=
  (resetDevice_restarted ..).of_congr rfl rfl

theorem powerLoss_restarted (clkCause : Nat) (held : Option Nat) (s : Device) :
    Restarted s (powerLoss clkCause held s) :=
  (resetDevice_restarted ..).of_congr rfl rfl

/-- A rail that is out goes before whatever else would hold the device (R795). -/
theorem powerLoss_held {held : Option Nat} {s : Device} (clkCause : Nat) (h : s.clk.held ≠ some 4) :
    (powerLoss clkCause held s).clk.held = held :=
  if_neg (by simp [h])

theorem resetN_held {s : Device} (testMode : Bool) (h : s.clk.held ≠ some 4) :
    (resetN testMode s).clk.held =
      if testMode then some 2 else if s.clk.held ≠ some 2 then s.clk.held else if s.clk.refOk then none else some 5 := by
  have h4 : ¬(s.clk.held == some 4) = true := by simp [h]
  exact (if_neg h4).trans (by simp)

theorem powerOn_clk (s : Device) : (powerOn s).clk.rails = 0x7FFF ∧ (powerOn s).clk.railEvt = 0 ∧
    (powerOn s).clk.pwrfail = false ∧ (powerOn s).clk.refOk = true ∧ (powerOn s).clk.held = none := by
  refine ⟨rfl, rfl, rfl, rfl, ?_⟩
  unfold powerOn
  dsimp only
  split <;> rfl

/-- What a power-on adds to the reset as after a loss of power is CLK's and SEC's alone. -/
theorem powerOn_restarts (s : Device) : (powerOn s).tim.dome = 0 ∧ (powerOn s).btr.spireUp = false := by
  obtain ⟨_, _, hdome, hspire, _, _⟩ := powerLoss_restarted 1 none s
  unfold powerOn
  generalize powerLoss 1 none s = t at *
  dsimp only
  split
  · exact ⟨hdome, hspire⟩
  · exact ⟨hdome, hspire⟩

/-! ## Power failures (R788) -/

@[simp] theorem raiseGasp_clk (code : Nat) (fs : List (Nat × Nat)) (s : Device) : (raiseGasp code fs s).clk = s.clk :=
  raise_clk code fs s

theorem pwrfailAssert_of_first {s : Device} (h : s.clk.pwrfail = false) :
    pwrfailAssert s = raiseGasp Ev.clkPwrfail [(4, (s.clk.pwrfails + 1).toNat)]
      { s with clk.pwrfail := true, clk.pwrfails := s.clk.pwrfails + 1 } := by
  simp [pwrfailAssert, h]

theorem pwrfailAssert_of_failing {s : Device} (h : s.clk.pwrfail = true) : pwrfailAssert s = s := if_pos h

theorem pwrfailRelease_of_rails {s : Device} (h : s.clk.rails = 0x7FFF) :
    pwrfailRelease s = { s with clk.pwrfail := false } := if_pos h

/-! ## Rails (R787) -/

section Rail
variable {r : Nat} {s : Device}

section Out
variable (hr : r ≤ 14) (hin : bit r s.clk.rails = true)
include hr hin

/-- Of a device that is held, only a rail that resets the device changes what holds it (R795). -/
theorem railOut_of_held (hheld : s.clk.held.isSome = true) :
    railOut r s = { s with
      clk.rails := s.clk.rails - 2 ^ r
      clk.held := if r < 7 ∨ r = 9 ∨ r = 10 then s.clk.held else some 4 } := by
  simp only [railOut, hin, hheld, Nat.not_lt.mpr hr, Bool.not_true, Bool.false_eq_true, or_self, if_false, if_true]
  split <;> rfl

/-- Of a device that runs, a rail that leaves is noted and reported before its own effect. -/
theorem railOut_of_running (hheld : s.clk.held = none) :
    railOut r s =
      let t := raise Ev.clkRailFault [(1, r)]
        { s with clk.rails := s.clk.rails - 2 ^ r, clk.railEvt := s.clk.railEvt ||| 2 ^ r }
      if r < 3 then spireRail false t
      else if r < 7 then spireRail true t
      else if r = 9 then channelFault 4 0 t
      else if r = 10 then channelFault 4 1 t
      else { powerLoss 4 (some 4) t with clk.railEvt := 2 ^ r } := by
  simp only [railOut, hin, hheld, Nat.not_lt.mpr hr, Bool.not_true, Bool.false_eq_true, or_self, if_false,
    Option.isSome_none]

end Out

theorem clk_with_railEvt {rails evt : Nat} {held : Option Nat} {t : Device} (hheld : t.clk.held = held)
    (hrails : t.clk.rails = rails) :
    { t with clk.railEvt := evt }.clk.held = held ∧ { t with clk.railEvt := evt }.clk.railEvt = evt ∧
      { t with clk.railEvt := evt }.clk.rails = rails :=
  ⟨hheld, rfl, hrails⟩

/-- A rail of the Dome die that is not one of Belfry's resets the device, and is left as the one rail event. -/
theorem railOut_of_dome (hdome : r = 7 ∨ r = 8 ∨ (11 ≤ r ∧ r ≤ 14)) (hin : bit r s.clk.rails = true)
    (hheld : s.clk.held = none) :
    (railOut r s).clk.held = some 4 ∧ (railOut r s).clk.railEvt = 2 ^ r ∧
      (railOut r s).clk.rails = s.clk.rails - 2 ^ r := by
  rw [railOut_of_running (by omega) hin hheld, if_neg (by omega), if_neg (by omega), if_neg (by omega),
    if_neg (by omega)]
  refine clk_with_railEvt (powerLoss_held 4 ?_) ?_
  · simp [hheld]
  · rw [(powerLoss_restarted _ _ _).rails, raise_clk]

theorem railReturn_of_out (hr : r ≤ 14) (hout : bit r s.clk.rails = false) :
    railReturn r s =
      if (s.clk.rails + 2 ^ r) % 128 = 127 then { s with clk.rails := s.clk.rails + 2 ^ r, clk.railWait := none }
      else { s with clk.rails := s.clk.rails + 2 ^ r } := by
  simp [railReturn, hout, Nat.not_lt.mpr hr]

end Rail

/-! ## The reference (R792) -/

theorem referenceLoss_of_good {why : Nat} {s : Device} (hgood : s.clk.refOk = true) (hheld : s.clk.held ≠ some 4)
    (hlo : 1 ≤ why) (hhi : why ≤ 2) :
    (referenceLoss why s).clk.held = some 5 ∧ (referenceLoss why s).clk.cause = 5 ∧
      (referenceLoss why s).clk.refOk = false := by
  have hnow : ¬((!s.clk.refOk) = true ∨ why < 1 ∨ 2 < why) := by
    rintro (hbad | hless | hmore)
    · rw [hgood] at hbad
      exact absurd hbad (by decide)
    · omega
    · omega
  unfold referenceLoss
  rw [if_neg hnow]
  refine ⟨powerLoss_held 5 ?_, rfl, (powerLoss_restarted _ _ _).refOk.trans ?_⟩
  · rw [raiseGasp_clk]
    exact hheld
  · rw [raiseGasp_clk]

theorem referenceBack_of_held {s : Device} (h : s.clk.held = some 5) :
    referenceBack s = { s with clk.refOk := true, clk.held := none } := by
  simp [referenceBack, h]

/-! ## Temperature (R799) -/

section Thermal
variable {a b : Int} {s : Device}

theorem thermalSample_of_early (h : s.tim.ck < s.clk.sampleAt + 1000000) : thermalSample a b s = s := if_pos h

section Due
variable (hdue : s.clk.sampleAt + 1000000 ≤ s.tim.ck)
include hdue

theorem thermalSample_of_cooled (hheld : s.clk.held = some 6) (hcool : b < 880) :
    thermalSample a b s = { s with
      clk.sampleAt := s.tim.ck, clk.tempS := a, clk.tempD := b
      clk.maxS := max s.clk.maxS a, clk.maxD := max s.clk.maxD b, clk.held := none } := by
  simp [thermalSample, Nat.not_lt.mpr hdue, hheld, hcool]

theorem thermalSample_of_running (hheld : s.clk.held = none) (hspire : a < 1000) (hdome : b < 1000) :
    thermalSample a b s = thermWarn 1 b (thermWarn 0 a { s with
      clk.sampleAt := s.tim.ck, clk.tempS := a, clk.tempD := b
      clk.maxS := max s.clk.maxS a, clk.maxD := max s.clk.maxD b }) := by
  simp [thermalSample, Nat.not_lt.mpr hdue, hheld, Int.not_le.mpr hspire, Int.not_le.mpr hdome]

end Due
end Thermal

/-! ## Register writes (R749, R751) -/

theorem doorbellWord_of_word {b : BusWrite} (hoff : b.off = 0) (hwidth : b.width = 4) :
    doorbellWord b = some (b.value.toNat % 2 ^ 32) := if_pos ⟨hoff, .inl hwidth⟩

theorem clkForce_of_word {b : BusWrite} {s : Device} (hoff : b.off = 0) (hwidth : b.width = 4) :
    clkForce b s =
      let t := hazard 0x180030 { s with clk.forceLow := bit 0 (b.value.toNat % 2 ^ 32) }
      if s.cfg.mode = .running then retestLoad t else t := by
  have hmode (t : Device) : (hazard 0x180030 t).cfg = t.cfg := by
    unfold hazard
    split <;> rfl
  simp [clkForce, doorbellWord_of_word hoff hwidth, hmode]

/-- The rail events `e` after a write of the word `v`, which clears those whose bits are 1. -/
def railEvtAfter (v e : Nat) : Nat := (List.range 15).foldl (fun e r => if bit r v && bit r e then e - 2 ^ r else e) e

theorem railEvtClear_of_word {b : BusWrite} {s : Device} (hoff : b.off = 0) (hwidth : b.width = 4) :
    railEvtClear b s = { s with clk.railEvt := railEvtAfter (b.value.toNat % 2 ^ 32) s.clk.railEvt } := by
  simp [railEvtClear, doorbellWord_of_word hoff hwidth, railEvtAfter]

theorem bit_two_pow (k r : Nat) : bit k (2 ^ r) = decide (r = k) := by
  rw [bit, ← Nat.testBit_two_pow, Nat.testBit_eq_decide_div_mod_eq]
  rfl

/-- A single bit of the word clears its own event alone. -/
theorem foldl_clear_two_pow (r : Nat) {ks : List Nat} (hks : ks.Nodup) (e : Nat) :
    ks.foldl (fun e k => if bit k (2 ^ r) && bit k e then e - 2 ^ k else e) e =
      if r ∈ ks ∧ bit r e = true then e - 2 ^ r else e := by
  induction ks generalizing e with
  | nil => simp
  | cons k ks ih =>
    obtain ⟨hk, hks⟩ := List.nodup_cons.mp hks
    rw [List.foldl_cons, ih hks, bit_two_pow]
    by_cases hkr : r = k
    · subst hkr
      simp [hk]
    · simp [hkr]

theorem railEvtAfter_two_pow {r : Nat} (hr : r < 15) (e : Nat) :
    railEvtAfter (2 ^ r) e = if bit r e then e - 2 ^ r else e := by
  rw [railEvtAfter, foldl_clear_two_pow r List.nodup_range]
  simp [hr]

theorem railEvtAfter_zero (e : Nat) : railEvtAfter 0 e = e := by
  simp only [railEvtAfter, bit_zero_right, Bool.false_and, Bool.false_eq_true, if_false, foldl_keeping]

/-! ## The statement -/

/-- Settles O29, row by row. What a reset leaves is said once (`Restarted`): it comes with RESET_N, at power-on, and after
the loss of a Dome rail or of the reference. The CLK_RAIL_FAULT payload is the number of the rail (log 72). -/
theorem suppliesAndReference : Obligations.SuppliesAndReference := by
  unfold Obligations.SuppliesAndReference
  refine ⟨?powerOn, ?reset, ?released, ?failure, ?failing, ?restored, ?heldRail, ?spireRail, ?domeRail, ?back, ?allBack,
    ?lost, ?qualified, ?cooled, ?sampled, ?early, ?force, ?forceRunning, ?clearOne, ?clearNone, ?clearLast⟩
  case powerOn =>
    intro s
    obtain ⟨hrails, hevt, hfail, href, hheld⟩ := powerOn_clk s.dev
    obtain ⟨hdome, hspire⟩ := powerOn_restarts s.dev
    exact ⟨powerOn s.dev, rfl, hrails, hevt, hfail, href, hheld, hdome, hspire⟩
  case reset =>
    intro s hrail
    have h := resetN_restarted true s.dev
    exact ⟨resetN true s.dev, rfl, (resetN_held true hrail).trans rfl, rfl, h.dome, h.rings, h.safCfg⟩
  case released =>
    intro s hheld
    have h := resetN_restarted false s.dev
    refine ⟨resetN false s.dev, rfl, ?_, rfl, h.dome, h.safCfg⟩
    rw [resetN_held false (by simp [hheld])]
    simp [hheld]
  case failure =>
    intro s hfirst
    rw [exec_pwrfailNAssert, execPwrfailNAssert, pwrfailAssert_of_first hfirst]
  case failing =>
    intro s hfailing
    rw [exec_pwrfailNAssert, execPwrfailNAssert, pwrfailAssert_of_failing hfailing]
  case restored =>
    intro s hrails
    rw [exec_pwrfailNRelease, execPwrfailNRelease, pwrfailRelease_of_rails hrails]
  case heldRail =>
    intro r s hr hin hheld
    rw [exec_railOutOfWindow, execRailOutOfWindow, railOut_of_held hr hin hheld]
  case spireRail =>
    intro r s hr hin hheld
    rw [exec_railOutOfWindow, execRailOutOfWindow, railOut_of_running (by omega) hin hheld, if_pos hr]
  case domeRail =>
    intro r s hdome hin hheld
    exact ⟨railOut r s.dev, rfl, railOut_of_dome hdome hin hheld⟩
  case back =>
    intro r s hr hout hmore
    rw [exec_railReturn, execRailReturn, railReturn_of_out hr hout, if_neg hmore]
  case allBack =>
    intro r s hr hout hall
    rw [exec_railReturn, execRailReturn, railReturn_of_out hr hout, if_pos hall]
  case lost =>
    intro why s hgood hrail hlo hhi
    exact ⟨referenceLoss why s.dev, rfl, referenceLoss_of_good hgood hrail hlo hhi⟩
  case qualified =>
    intro s hheld
    rw [exec_referenceRequalified, execReferenceRequalified, referenceBack_of_held hheld]
  case cooled =>
    intro a b s hdue hheld hcool
    rw [exec_thermalSample, execThermalSample, thermalSample_of_cooled hdue hheld hcool]
  case sampled =>
    intro a b s hdue hheld hspire hdome
    rw [exec_thermalSample, execThermalSample, thermalSample_of_running hdue hheld hspire hdome]
  case early =>
    intro a b s hearly
    rw [exec_thermalSample, execThermalSample, thermalSample_of_early hearly]
  case force =>
    intro b s hoff hwidth hmode
    rw [exec_clkforceWrite, execClkforceWrite, clkForce_of_word hoff hwidth, if_neg hmode]
  case forceRunning =>
    intro b s hoff hwidth hmode
    rw [exec_clkforceWrite, execClkforceWrite, clkForce_of_word hoff hwidth, if_pos hmode]
  case clearOne =>
    intro r b s hr hoff hwidth hone
    rw [exec_clkRailEvtClear, execClkRailEvtClear, railEvtClear_of_word hoff hwidth, hone, railEvtAfter_two_pow hr]
  case clearNone =>
    intro b s hoff hwidth hnone
    rw [exec_clkRailEvtClear, execClkRailEvtClear, railEvtClear_of_word hoff hwidth, hnone, railEvtAfter_zero]
  case clearLast =>
    intro s hlast
    refine ⟨railEvtClear { off := 0, width := 4, value := 0x4000#64 } s.dev, rfl, ?_⟩
    have hword : (0x4000#64).toNat % 2 ^ 32 = 2 ^ 14 := by decide
    have hcleared : railEvtAfter (2 ^ 14) (2 ^ 14) = 0 := by
      rw [railEvtAfter_two_pow (by decide), bit_two_pow]
      simp
    rw [railEvtClear_of_word rfl rfl, hlast, hword, hcleared]

end Sys2Proof.Proofs.PowerStartup
end

section
/-!
Access scopes, quotes, firmware staging, provisioning and the test access port (21_security_access).
-/
namespace Sys2Proof.Proofs.SecurityAccess
open Sys2Proof Sys2Proof.Machine Sys2Proof.Laws
open Sys2Proof.Proofs.DispatchMatching Sys2Proof.Proofs.PowerStartup

/-! ## Tables without an entry -/

theorem tfind_tdel_same {α : Type} (t : Tab α) (k : Nat) : tfind (tdel t k) k = none := by
  induction t with
  | nil => rfl
  | cons e rest ih =>
    by_cases h : e.1 = k
    · simpa [tdel, h] using ih
    · simpa [tdel, h, tfind] using ih

theorem tfind_tdel_other {α : Type} (t : Tab α) {j k : Nat} (h : j ≠ k) : tfind (tdel t k) j = tfind t j := by
  induction t with
  | nil => rfl
  | cons e rest ih =>
    by_cases hk : e.1 = k
    · have hj : e.1 ≠ j := fun hj => h (hj ▸ hk)
      simpa [tdel, hk, tfind, hk ▸ hj] using ih
    · by_cases hj : e.1 = j
      · simp [tdel, tfind, hj, h]
      · simpa [tdel, hk, tfind, hj] using ih

theorem length_tset_of_new {α : Type} (t : Tab α) {k : Nat} (v : α) (h : tfind t k = none) :
    (tset t k v).length = t.length + 1 := by
  induction t with
  | nil => rfl
  | cons e rest ih =>
    by_cases hk : e.1 = k
    · simp [tfind, hk] at h
    · simp only [tfind, hk, if_false] at h
      simp only [tset, hk, if_false]
      split
      · rfl
      · simp [ih h]

theorem key_mem_of_tfind {α : Type} (t : Tab α) {k : Nat} (h : tfind t k ≠ none) : k ∈ t.map Prod.fst := by
  induction t with
  | nil => exact absurd rfl h
  | cons e rest ih =>
    by_cases hk : e.1 = k
    · simp [hk]
    · simp only [tfind, hk, if_false] at h
      exact List.mem_cons_of_mem _ (ih h)

/-- A list that holds each of some distinct elements is at least as long. -/
theorem length_le_of_nodup_subset {ks l : List Nat} (hks : ks.Nodup) (h : ks ⊆ l) : ks.length ≤ l.length := by
  induction ks generalizing l with
  | nil => exact Nat.zero_le _
  | cons k ks ih =>
    obtain ⟨hk, hks⟩ := List.nodup_cons.mp hks
    have hmem : k ∈ l := h List.mem_cons_self
    have hrest : ks ⊆ l.erase k := by
      intro j hj
      have hne : j ≠ k := fun heq => hk (heq ▸ hj)
      exact (List.mem_erase_of_ne hne).mpr (h (List.mem_cons_of_mem _ hj))
    have hle := ih hks hrest
    have hpos := List.length_pos_of_mem hmem
    rw [List.length_erase_of_mem hmem] at hle
    rw [List.length_cons]
    omega

/-- Of `n` keys a table of fewer entries lacks one. -/
theorem exists_new_key {α : Type} (t : Tab α) {n : Nat} (h : t.length < n) :
    ∃ k, (List.range n).find? (fun k => (tfind t k).isNone) = some k ∧ tfind t k = none := by
  cases hk : (List.range n).find? (fun k => (tfind t k).isNone) with
  | some k => exact ⟨k, rfl, by simpa using List.find?_some hk⟩
  | none =>
    have hall : List.range n ⊆ t.map Prod.fst := fun k hmem =>
      key_mem_of_tfind t (by simpa using List.find?_eq_none.mp hk k hmem)
    have hle := length_le_of_nodup_subset List.nodup_range hall
    simp only [List.length_range, List.length_map] at hle
    omega

/-! ## Commands that start -/

section Start
variable (d : Desc) (s : Device)

@[simp] theorem started_sec : (started d s).sec = s.sec := rfl
@[simp] theorem started_tim : (started d s).tim = s.tim := rfl
@[simp] theorem pendOf_desc : (pendOf d s).desc = d := rfl
@[simp] theorem maxOpenS_started : maxOpenS (started d s) = maxOpenS s := rfl
@[simp] theorem lockLeft_started : lockLeft (started d s) = lockLeft s := rfl
@[simp] theorem passwordHash_started : passwordHash (started d s) = passwordHash s := rfl

end Start

section Checks
variable {d : Desc}

theorem firstFail_nil : firstFail d [] = none := rfl

theorem firstFail_bad {f : Form} {extra : List (Bool × Nat)} (h : badField f extra d = none) (cs : List Check) :
    firstFail d (.bad f extra :: cs) = firstFail d cs := by
  simp [firstFail, checkFails, h]

theorem firstFail_when_false {c : Bool} (h : c = false) (st : Status) (detail : Nat) (cs : List Check) :
    firstFail d (.when c st detail :: cs) = firstFail d cs := by
  simp [firstFail, checkFails, h]

theorem firstFail_when_true {c : Bool} (h : c = true) (st : Status) (detail : Nat) (cs : List Check) :
    firstFail d (.when c st detail :: cs) = some (st, detail) := by
  simp [firstFail, checkFails, h]

theorem firstFail_buffer (h : d.buf.acc = .ok) (cs : List Check) : firstFail d (.buffer :: cs) = firstFail d cs := by
  simp [firstFail, checkFails, h]

end Checks

theorem ring_not_halted_of_canStart {d : Desc} {s : Device} (h : canStart d s = true) :
    (ringOf s d.ring).halted = false := by
  simp only [canStart, Bool.and_eq_true, Bool.not_eq_true'] at h
  obtain ⟨⟨_, hhalted⟩, _⟩ := h
  exact hhalted

/-- A command that starts and whose work ends at once completes. -/
theorem runCmd_of_done {body : Pend → Device → CmdEnd} {d : Desc} {s t : Device} {st : Status} {detail : Nat}
    {buf : List Byte} (hstart : canStart d s = true)
    (hbody : body (pendOf d s) (started d s) = .done st detail buf t) :
    runCmd body d s = completed d s st detail buf t := by
  simp only [canStart, Bool.and_eq_true, Bool.not_eq_true'] at hstart
  obtain ⟨⟨⟨⟨hup, hd3⟩, henable⟩, hhalted⟩, hbusy⟩ := hstart
  have hruns : ¬(!s.btr.spireUp || s.hif.d3hot ||
      ((ringOf s d.ring).enable && ((ringOf s d.ring).halted || (ringOf s d.ring).busy))) = true := by
    simp [hup, hd3, hhalted, hbusy]
  unfold runCmd
  refine (if_neg hruns).trans ?_
  dsimp only
  generalize hend : body _ _ = e
  obtain rfl : e = .done st detail buf t := hend.symm.trans hbody
  rfl

theorem ringOf_congr {s t : Device} (h : KeepsRings s t) (n : Nat) : ringOf t n = ringOf s n := by
  rw [ringOf, ringOf, h.rings]

theorem ringOf_modRing_same (n : Nat) (f : Ring → Ring) (s : Device) : ringOf (modRing n f s) n = f (ringOf s n) :=
  tget_tset_same ..

/-- The completion of a command that ends OK leaves its ring as the step of the ring does (R63, R70). -/
theorem writeCompletion_ok_ring (n tag : Nat) (int_ : Bool) (detail : Nat) (s : Device) :
    ringOf (writeCompletion n tag int_ .ok detail s) n = stepRing (ringOf s n) := by
  have hsent : ∀ u : Device, KeepsRings u (if int_ then signalVector (ringOf u n).vector u else u) :=
    fun u => .ite (signalVector_keepsRings (.refl u) _) (.refl u)
  refine (ringOf_congr (hsent _) n).trans ?_
  refine (ringOf_modRing_same n stepRing _).trans (congrArg stepRing ?_)
  exact ringOf_congr (toHost_keepsRings (.refl s) _) n

theorem writeLateCompletion_ok_ring (p : Pend) (detail : Nat) (s : Device) :
    ringOf (writeLateCompletion p .ok detail s) p.desc.ring = { ringOf s p.desc.ring with busy := false } := by
  have hsent : ∀ u : Device,
      KeepsRings u (if bit 0 p.desc.flags.toNat then signalVector (ringOf u p.desc.ring).vector u else u) :=
    fun u => .ite (signalVector_keepsRings (.refl u) _) (.refl u)
  refine (ringOf_congr (hsent _) _).trans ?_
  refine (ringOf_modRing_same p.desc.ring (fun r => { r with busy := false }) _).trans ?_
  rw [ringOf_congr (toHost_keepsRings (.refl s) _)]

/-- A ring that is not halted is not halted by a command that completes OK (R70). -/
theorem finish_ok_not_halted {p : Pend} {s : Device} (detail : Nat) (buf : List Byte)
    (h : (ringOf s p.desc.ring).halted = false) :
    (ringOf (finish p .ok detail buf s) p.desc.ring).halted = false := by
  have hbuf : KeepsRings s (if buf.isEmpty = true then s else toHost (.write p.desc.bufAddr.toNat buf) s) :=
    .ite (.refl s) (toHost_keepsRings (.refl s) _)
  unfold finish
  split
  · dsimp only
    generalize (if buf.isEmpty = true then s else toHost (.write p.desc.bufAddr.toNat buf) s) = t at hbuf
    split
    · rw [writeCompletion_ok_ring, ringOf_congr hbuf]
      exact h
    · rw [writeLateCompletion_ok_ring, ringOf_congr hbuf]
      exact h
  · exact h

/-! ## Scopes, lockout and nonces (R767 to R772) -/

theorem length_padTo (n : Nat) (bs : List Byte) : (padTo n bs).length = n := by
  simp [padTo]

theorem validNonce_of_fresh {s : Device} {v : List Byte} {t : Nat} (h : s.sec.nonce = some (v, t)) :
    validNonce s = if s.tim.ck < t + 60000000000 then some v else none := by
  simp [validNonce, h]

theorem scopeOpen_of_till {s : Device} {k till : Nat} (h : tfind s.sec.scopes k = some till) :
    scopeOpen s k = decide (s.tim.ck < till) := by
  rw [scopeOpen, h, Option.any_some]

theorem tfind_openScope (k method dur : Nat) (s : Device) :
    tfind (openScope k method dur s).sec.scopes k = some (s.tim.ck + dur * 1000000000) := by
  rw [openScope, raise_sec, tfind_tset_same]

theorem openScope_tim (k method dur : Nat) (s : Device) : (openScope k method dur s).tim = s.tim := raise_tim ..

theorem openScope_open (k method : Nat) {dur : Nat} (s : Device) (h : 0 < dur) :
    scopeOpen (openScope k method dur s) k = true := by
  rw [scopeOpen_of_till (tfind_openScope k method dur s), openScope_tim]
  exact decide_eq_true (by omega)

theorem openFails_counts (k method : Nat) {s : Device} (hlo : 2 ≤ s.sec.fails) (hhi : s.sec.fails < 255) :
    (openFails k method s).sec = { s.sec with
      fails := s.sec.fails + 1
      lockUntil := s.tim.ck + min (2 ^ (s.sec.fails - 2)) 86400 * 1000000000 } := by
  have hsat : sat 8 (s.sec.fails + 1) = s.sec.fails + 1 := by
    unfold sat
    omega
  have hthird : 3 ≤ s.sec.fails + 1 := by omega
  have hexp : s.sec.fails + 1 - 3 = s.sec.fails - 2 := by omega
  simp only [openFails, raise_sec, hsat, if_pos hthird, hexp]

/-- A response given in time is checked, and the nonce is consumed whatever comes of it (R768, R769; log 71). -/
theorem respond_of_valid {b v : List Byte} {s : Device} (hlock : s.sec.lockUntil ≤ s.tim.ck)
    (hnonce : validNonce s = some v) (hdur : fld 4 4 b ≠ 0) (hmax : fld 4 4 b ≤ maxOpenS s) :
    respond b s =
      if responseOk s v b then
        (.ok, fld 4 4 b, openScope (fld 0 1 b) 0 (fld 4 4 b) { s with sec.nonce := none })
      else (.dataError, 0, openFails (fld 0 1 b) 0 { s with sec.nonce := none }) := by
  have hrange : ¬(fld 4 4 b = 0 ∨ maxOpenS { s with sec.nonce := none } < fld 4 4 b) := by
    rintro (h | h)
    · exact hdur h
    · exact absurd hmax (Nat.not_le.mpr h)
  simp only [respond, hnonce, if_neg (Nat.not_lt.mpr hlock), if_neg hrange]
  rfl

/-- One scope closes where the mask names it and it is open (R771). -/
def closeScope (mask cause : Nat) (s : Device) (k : Nat) : Device :=
  if !bit k mask || (tfind s.sec.scopes k).isNone then s
  else
    let s := { s with sec.scopes := tdel s.sec.scopes k }
    let s := if k = 1 then { s with tst.ir := 0xFF, tst.bypassed := false } else s
    raise Ev.secScopeClose [(1, k), (1, cause)] s

theorem closeScopes_eq_foldl (mask cause : Nat) (s : Device) :
    closeScopes mask cause s = [0, 1, 2, 3].foldl (closeScope mask cause) s := rfl

theorem closeScope_of_kept {mask k : Nat} (cause : Nat) {s : Device}
    (h : bit k mask = false ∨ tfind s.sec.scopes k = none) : closeScope mask cause s k = s := by
  refine if_pos ?_
  simpa using h

theorem closeScope_scopes {mask k : Nat} (cause : Nat) {s : Device} (hbit : bit k mask = true)
    (hopen : tfind s.sec.scopes k ≠ none) : (closeScope mask cause s k).sec.scopes = tdel s.sec.scopes k := by
  have hcloses : ¬(!bit k mask || (tfind s.sec.scopes k).isNone) = true := by simp [hbit, hopen]
  simp only [closeScope, if_neg hcloses, raise_sec]
  split
  · rfl
  · rfl

theorem tfind_closeScope (mask cause k j : Nat) (s : Device) :
    tfind (closeScope mask cause s j).sec.scopes k =
      if k = j ∧ bit k mask = true then none else tfind s.sec.scopes k := by
  by_cases hkept : bit j mask = false ∨ tfind s.sec.scopes j = none
  · rw [closeScope_of_kept cause hkept]
    split
    next h =>
      obtain ⟨rfl, hbit⟩ := h
      simpa [hbit] using hkept
    next => rfl
  · obtain ⟨hbit, hopen⟩ := not_or.mp hkept
    rw [Bool.not_eq_false] at hbit
    rw [closeScope_scopes cause hbit hopen]
    by_cases hk : k = j
    · subst hk
      simp [hbit, tfind_tdel_same]
    · simp [hk, tfind_tdel_other _ hk]

theorem tfind_foldl_closeScope (mask cause k : Nat) (ks : List Nat) (s : Device) :
    tfind (ks.foldl (closeScope mask cause) s).sec.scopes k =
      if k ∈ ks ∧ bit k mask = true then none else tfind s.sec.scopes k := by
  induction ks generalizing s with
  | nil => simp
  | cons j ks ih =>
    rw [List.foldl_cons, ih, tfind_closeScope]
    by_cases hbit : bit k mask = true
    · simp only [hbit, and_true, List.mem_cons]
      by_cases hk : k = j
      · simp [hk]
      · simp [hk]
    · simp [hbit]

theorem tfind_closeScopes (mask cause : Nat) {k : Nat} (s : Device) (hk : k ≤ 3) :
    tfind (closeScopes mask cause s).sec.scopes k = if bit k mask then none else tfind s.sec.scopes k := by
  have hmem : k ∈ [0, 1, 2, 3] := by
    simp only [List.mem_cons, List.not_mem_nil, or_false]
    omega
  rw [closeScopes_eq_foldl, tfind_foldl_closeScope]
  simp [hmem]

section Authentication
variable {d : Desc} {s : Device}

section Challenge
variable (hfields : badField { bufMin := 32, bufMax := 16777216 } [(3 < d.target.toNat, 8)] d = none)
include hfields

theorem secChallenge_of_free (hlock : s.sec.lockUntil ≤ s.tim.ck) :
    secChallenge (pendOf d s) (started d s) =
      .done .ok 0 (issueNonce (started d s)).1 (issueNonce (started d s)).2 := by
  refine checked_none _ _ _ _ ?_
  rw [pendOf_desc, firstFail_bad hfields, started_sec, started_tim,
    firstFail_when_false (decide_eq_false (Nat.not_lt.mpr hlock)), firstFail_nil]

theorem secChallenge_of_locked (hlock : s.tim.ck < s.sec.lockUntil) :
    secChallenge (pendOf d s) (started d s) = .done .rejectedState (lockLeft s) [] (started d s) := by
  refine checked_some _ _ _ _ _ _ ?_
  rw [pendOf_desc, firstFail_bad hfields, started_sec, started_tim, firstFail_when_true (decide_eq_true hlock),
    lockLeft_started]

end Challenge

/-- SEC_OPEN with a nonce to answer, outside a lockout and with a duration in range, turns on the response alone. -/
theorem secOpen_of_valid {v : List Byte}
    (hfields : badField { target := false, bufMin := 3088, bufMax := 16777216 } [] d = none)
    (hread : d.buf.acc = .ok) (hlock : s.sec.lockUntil ≤ s.tim.ck) (hnonce : validNonce s = some v)
    (hdur : fld 4 4 d.buf.bytes ≠ 0) (hmax : fld 4 4 d.buf.bytes ≤ maxOpenS s) :
    secOpen (pendOf d s) (started d s) =
      if responseOk (started d s) v d.buf.bytes then
        .done .ok (fld 4 4 d.buf.bytes) []
          (openScope (fld 0 1 d.buf.bytes) 0 (fld 4 4 d.buf.bytes) { started d s with sec.nonce := none })
      else .done .dataError 0 [] (openFails (fld 0 1 d.buf.bytes) 0 { started d s with sec.nonce := none }) := by
  have hchecks : firstFail d [.bad { target := false, bufMin := 3088, bufMax := 16777216 } [], .buffer] = none := by
    rw [firstFail_bad hfields, firstFail_buffer hread, firstFail_nil]
  simp only [secOpen, pendOf_desc, hchecks, openAnswer, respond_of_valid (s := started d s) hlock hnonce hdur hmax]
  by_cases hproved : responseOk (started d s) v d.buf.bytes = true
  · simp only [if_pos hproved]
  · simp only [if_neg hproved]

/-- SEC_OPEN_PW with a password set and outside a lockout turns on the hash of the password alone (R770). -/
theorem secOpenPw_of_free
    (hfields : badField { target := false, pmask := 0x1F } [(d.p4.toNat = 0 || maxOpenS s < d.p4.toNat, 40)] d = none)
    (hset : (passwordHash s).isSome = true) (hlock : s.sec.lockUntil ≤ s.tim.ck) :
    secOpenPw (pendOf d s) (started d s) =
      if passwordHash s = some (shake256 32 (deviceId ++ [d.p0, d.p1, d.p2, d.p3].flatMap (fun w => le 4 w.toNat))) then
        .done .ok d.p4.toNat [] (openScope 2 1 d.p4.toNat (started d s))
      else .done .dataError 0 [] (openFails 2 1 (started d s)) := by
  dsimp only [secOpenPw]
  refine (checked_none _ _ _ _ ?_).trans ?_
  · rw [pendOf_desc, maxOpenS_started, firstFail_bad hfields, passwordHash_started,
      firstFail_when_false (by simpa using hset), started_sec, started_tim,
      firstFail_when_false (decide_eq_false (Nat.not_lt.mpr hlock)), firstFail_nil]
  · simp only [beq_iff_eq, passwordHash_started, pendOf_desc]
    rfl

theorem secClose_of_mask (hfields : badField { target := false, pmask := 1 } [(15 < d.p0.toNat, 24)] d = none) :
    secClose (pendOf d s) (started d s) =
      .done .ok (([0, 1, 2, 3].map (fun k => flag k (bit k d.p0.toNat && (tfind s.sec.scopes k).isSome))).sum) []
        (closeScopes d.p0.toNat 2 (started d s)) := by
  dsimp only [secClose]
  refine checked_none _ _ _ _ ?_
  rw [pendOf_desc, firstFail_bad hfields, firstFail_nil]

end Authentication

theorem scopeExpiry_of_due {k till : Nat} {s : Device} (h : tfind s.sec.scopes k = some till) (hdue : till ≤ s.tim.ck) :
    scopeExpiry k s = closeScopes (2 ^ k) 1 s := by
  simp [scopeExpiry, h, hdue]

theorem scopeExpiry_of_early {k till : Nat} {s : Device} (h : tfind s.sec.scopes k = some till)
    (hearly : s.tim.ck < till) : scopeExpiry k s = s := by
  simp [scopeExpiry, h, Nat.not_le.mpr hearly]

theorem nonceExpiry_of_due {v : List Byte} {t : Nat} {s : Device} (h : s.sec.nonce = some (v, t))
    (hdue : t + 60000000000 ≤ s.tim.ck) : nonceExpiry s = { s with sec.nonce := none } := by
  rw [nonceExpiry, validNonce_of_fresh h, if_neg (Nat.not_lt.mpr hdue)]
  rfl

theorem nonceExpiry_of_early {v : List Byte} {t : Nat} {s : Device} (h : s.sec.nonce = some (v, t))
    (hearly : s.tim.ck < t + 60000000000) : nonceExpiry s = s := by
  rw [nonceExpiry, validNonce_of_fresh h, if_pos hearly]
  rfl

/-! ## Identity (R765, R766) -/

theorem secQuote_of_fields {d : Desc} {s : Device}
    (hfields : badField { target := false, pmask := 0xFF, bufMin := 1544, bufMax := 16777216 } [] d = none) :
    secQuote (pendOf d s) (started d s) =
      .done .ok 1544
        (quoteHead (started d s) ((pwords d).flatMap (fun w => le 4 w.toNat)) ++
          sigField 6 (Config.falconSign (draw (started d s)).1
            (quoteHead (started d s) ((pwords d).flatMap (fun w => le 4 w.toNat)))))
        (draw (started d s)).2 := by
  refine checked_none _ _ _ _ ?_
  rw [pendOf_desc, firstFail_bad hfields, firstFail_nil]

theorem secReadIdentity_of_fields {d : Desc} {s : Device}
    (hfields : badField { target := false, bufMin := 3104, bufMax := 16777216 } [] d = none) :
    secReadIdentity (pendOf d s) (started d s) = .done .ok 3104 identityRecord (started d s) := by
  refine checked_none _ _ _ _ ?_
  rw [pendOf_desc, firstFail_bad hfields, firstFail_nil]

/-! ## The boot flash -/

theorem flashState_congr {s t : Device} (h : t.sec.flash = s.sec.flash) (kind slot : Nat) :
    flashState t kind slot = flashState s kind slot := by
  rw [flashState, flashState, h]

theorem flashState_setFlash_same (kind slot state : Nat) (s : Device) :
    flashState (setFlash kind slot state s) kind slot = state := by
  have hnone : (s.sec.flash.filter (fun e => !(e.kind == kind && e.slot == slot))).find?
      (fun e => e.kind == kind && e.slot == slot) = none := by
    rw [List.find?_eq_none]
    intro e he
    have hother := (List.mem_filter.mp he).2
    rw [Bool.not_eq_true'] at hother
    rw [hother]
    decide
  simp only [flashState, setFlash, List.find?_append, hnone]
  simp

/-- Ending an activity is no matter of SEC. -/
theorem endOf_sec (code kind unit status : Nat) (s : Device) : (endOf code kind unit status s).sec = s.sec := by
  obtain ⟨_, _, _, _, _, _, _, _, _, _, h⟩ := endOf_substitutes code kind unit status s
  rw [h]

theorem stageFails_staging (s : Device) : (stageFails s).sec.staging = none := by
  unfold stageFails
  split
  next h => exact h
  next =>
    dsimp only
    split <;> rfl

theorem stageBad_staging (s : Device) : (stageBad s).sec.staging = none := by
  rw [stageBad, endOf_sec, stageFails_staging]

/-! ## Firmware staging (R762) -/

/-- An activity that nothing refuses is added to those that run, in a slot that is free (R719, R720). -/
theorem admitActivity_of_admitted {code kind unit : Nat} (cause : Nat) (spare : Option Nat) {s : Device}
    (h : refusal code kind unit s = none) :
    ∃ (n : Nat) (p : Spr), admitActivity code kind unit cause spare s = (.ok n, { s with spr := p }) ∧
      p.acts.length = s.spr.acts.length + 1 := by
  have hroom : s.spr.acts.length < 4 := by
    refine Nat.lt_of_not_le fun hfull => ?_
    rw [refusal, if_pos hfull] at h
    exact absurd h (by decide)
  obtain ⟨slot, hslot, hnew⟩ := exists_new_key s.spr.acts hroom
  refine ⟨s.spr.handle % 255 + 1, { s.spr with
    handle := s.spr.handle % 255 + 1
    acts := tset s.spr.acts slot
      { code, kind, unit, handle := s.spr.handle % 255 + 1, cause, spare, from_ := s.tim.ck } },
    ?_, length_tset_of_new _ _ hnew⟩
  simp only [admitActivity, h, hslot, Option.getD_some]

theorem fwStage_of_no_window {d : Desc} {s : Device} (h : windowOf s 0x1701 = none) :
    fwStage (pendOf d s) (started d s) = .done .notFound 0 [] (started d s) := by
  dsimp only [fwStage]
  refine checked_some _ _ _ _ _ _ ?_
  rw [pendOf_desc, firstFail_when_true]
  have hstarted : windowOf (started d s) 0x1701 = none := h
  rw [hstarted]
  rfl

/-- An admitted FIRMWARE_STAGE begins the staging of the image announced. -/
theorem fwStage_of_admitted {d : Desc} {s : Device} (hwindow : (windowOf s 0x1701).isSome = true)
    (hfields : badField { pmask := 1 }
      [(d.target.toNat = 0 || 3 < d.target.toNat, 8), (d.p0 = 0 || maxImage d.target.toNat < d.p0.toNat, 24)] d = none)
    (hscope : needMaint (started d s) = false) (hfree : refusal 6 0 0 (started d s) = none) :
    ∃ (n : Nat) (p : Spr), p.acts.length = s.spr.acts.length + 1 ∧
      fwStage (pendOf d s) (started d s) =
        .done .ok n [] { started d s with spr := p, sec.staging := some (d.target.toNat, d.p0.toNat) } := by
  obtain ⟨n, p, hadmit, hacts⟩ := admitActivity_of_admitted 3 none hfree
  refine ⟨n, p, hacts, ?_⟩
  have hhere : (windowOf (started d s) 0x1701).isNone = false := by
    have hsome : (windowOf (started d s) 0x1701).isSome = true := hwindow
    simpa using hsome
  dsimp only [fwStage]
  refine (checked_none _ _ _ _ ?_).trans ?_
  · rw [pendOf_desc, firstFail_when_false hhere, firstFail_bad hfields, firstFail_when_false hscope, firstFail_nil]
  · rw [hadmit]
    rfl

section StageDone
variable {written : Bool} {s : Device}

theorem stageDone_of_idle (h : s.sec.staging = none) : stageDone written s = s := by
  rw [stageDone, h]

theorem imageOf_window_of_none {src : Nat} {d : Desc} (hbuf : d.bufLen = 0) (h : windowOf s src = none) :
    imageOf src d s = (none, s) := by
  simp [imageOf, hbuf, h]

/-- Taking an image from its window is HIF's matter. -/
theorem imageOf_sec (src : Nat) (d : Desc) : (imageOf src d s).2.sec = s.sec := by
  unfold imageOf
  split
  · rfl
  · split <;> rfl

section Announced
variable {kind len : Nat} (hstaging : s.sec.staging = some (kind, len))
include hstaging

theorem stageDone_of_no_window (h : windowOf s 0x1701 = none) : stageDone written s = stageBad s := by
  simp [stageDone, hstaging, h, imageOf_window_of_none]

variable {w : Nat} (hwindow : windowOf s 0x1701 = some w)
include hwindow

theorem stageDone_of_short (hgood : (winOf s w).bad = false)
    (hshort : ((winOf s w).rx.map List.length).sum < len) : stageDone written s = s := by
  simp [stageDone, hstaging, hwindow, hgood, hshort]

/-- An image received whole ends the staging; verified and written, it stands in TRIAL in the slot that was free. -/
theorem stageDone_of_whole {img : List Byte} (hwhole : len ≤ ((winOf s w).rx.map List.length).sum)
    (himg : (imageOf 0x1701 { p0 := BitVec.ofNat 32 len } s).1 = some img) :
    (stageDone true s).sec.staging = none ∧
      ∀ n, bootFault (imageOf 0x1701 { p0 := BitVec.ofNat 32 len } s).2 kind img = none →
        stageSlot (imageOf 0x1701 { p0 := BitVec.ofNat 32 len } s).2 kind = some n →
        flashState (stageDone true s) kind n = 2 ∧ (stageDone true s).sec.gen = s.sec.gen + 1 := by
  have hsec := imageOf_sec (s := s) 0x1701 { p0 := BitVec.ofNat 32 len }
  simp only [stageDone, hstaging, hwindow, Nat.not_lt.mpr hwhole, decide_false, Bool.false_and, Bool.false_eq_true,
    if_false]
  generalize imageOf 0x1701 { p0 := BitVec.ofNat 32 len } s = p at himg hsec
  obtain ⟨o, u⟩ := p
  dsimp only at himg hsec
  subst himg
  dsimp only
  split
  next c hbad => exact ⟨stageBad_staging _, fun n hgood => absurd (hbad.symm.trans hgood) (by simp)⟩
  next hnone =>
    split
    next n hslot _ =>
      refine ⟨by rw [endOf_sec, raise_sec]; rfl, fun m _ hm => ?_⟩
      obtain rfl : n = m := Option.some.inj (hslot.symm.trans hm)
      refine ⟨?_, by rw [endOf_sec, raise_sec, ← hsec]; rfl⟩
      rw [flashState_congr (congrArg Sec.flash ((endOf_sec ..).trans (raise_sec ..))), flashState_setFlash_same]
    next hother => exact ⟨stageBad_staging _, fun n _ hn => absurd rfl (hother n hn)⟩

end Announced
end StageDone

/-! ## Committing a TRIAL image (R763) -/

/-- The commit of the image that runs from TRIAL: it runs as committed, its counter does not fall, and no rollback is kept. -/
structure SvnCommitted (kind : Nat) (s t : Device) : Prop where
  trial : (bootUse t kind).trial = false
  svn : tget t.sec.otp.svn (kind - 1) 0 = max (tget s.sec.otp.svn (kind - 1) 0) (min 64 (bootUse s kind).svn)
  rollback : tfind t.sec.rollback kind = none

theorem SvnCommitted.of_sec {kind : Nat} {s t u : Device} (h : SvnCommitted kind s t) (k : u.sec = t.sec) :
    SvnCommitted kind s u := by
  obtain ⟨htrial, hsvn, hrollback⟩ := h
  exact ⟨by rwa [bootUse, k], by rwa [k], by rwa [k]⟩

theorem svnCommit_of_trial {d : Desc} {s : Device}
    (hfields : badField {} [(d.target.toNat = 0 || 3 < d.target.toNat, 8)] d = none)
    (hscope : needMaint (started d s) = false) (htrial : (bootUse s d.target.toNat).trial = true) :
    ∃ (n : Nat) (t : Device), svnCommit (pendOf d s) (started d s) = .done .ok n [] t ∧
      SvnCommitted d.target.toNat s t := by
  have hruns : (!(bootUse (started d s) d.target.toNat).trial) = false := by
    simpa [bootUse] using htrial
  dsimp only [svnCommit]
  rw [checked_none]
  · refine ⟨_, _, rfl, ?_⟩
    refine SvnCommitted.of_sec ?_ (raise_sec ..)
    split
    · exact ⟨congrArg BootUse.trial (tget_tset_same ..), tget_tset_same .., tfind_tdel_same ..⟩
    · exact ⟨congrArg BootUse.trial (tget_tset_same ..), tget_tset_same .., tfind_tdel_same ..⟩
  · rw [pendOf_desc, firstFail_bad hfields, firstFail_when_false hscope, firstFail_when_false hruns, firstFail_nil]

/-! ## Provisioning (R752) -/

theorem leastOffence_cons_eq_none {b : Bool} {o : Nat} {es : List (Bool × Nat)} :
    leastOffence ((b, o) :: es) = none ↔ b = false ∧ leastOffence es = none := by
  cases hrest : leastOffence es with
  | none => cases b <;> simp [leastOffence, hrest]
  | some m => simp [leastOffence, hrest]

theorem leastOffence_eq_none {es : List (Bool × Nat)} : leastOffence es = none ↔ ∀ e ∈ es, e.1 = false := by
  induction es with
  | nil => simp [leastOffence]
  | cons e es ih => rw [leastOffence_cons_eq_none, ih, List.forall_mem_cons]

/-- Fields a command adds that are in order change nothing of the test of the others. -/
theorem badField_with_good {f : Form} {extra : List (Bool × Nat)} {d : Desc} (h : badField f [] d = none)
    (hextra : ∀ e ∈ extra, e.1 = false) : badField f extra d = none := by
  rw [badField, List.append_nil, leastOffence_eq_none] at h
  rw [badField, leastOffence_eq_none]
  intro e he
  rcases List.mem_append.mp he with he | he
  · exact h e he
  · exact hextra e he

section Provision
variable {d : Desc} {s : Device}

/-- The revocation of a key slot carries no value, so that it needs no buffer (log 71). -/
theorem secProvision_of_revocation (hscope : scopeOpen (started d s) 3 = true) (hitem : d.target.toNat = 1)
    (hslot : d.p0.toNat ≤ 15) (hfields : badField { pmask := 1 } [] d = none) (hread : d.buf.acc = .ok)
    (hmay : 3 < d.p0.toNat ∨ keyUsable s d.p0.toNat = false ∨ otherBoot s d.p0.toNat = true) :
    secProvision (pendOf d s) (started d s) = .done .ok 0 []
      { started d s with sec.otp.revoked := s.sec.otp.revoked ||| 2 ^ d.p0.toNat } := by
  have hform : badField { pmask := 1, bufMin := itemSize 1, bufMax := itemSize 1 }
      [(3 < 1, 8), (itemCount 1 ≤ d.p0.toNat, 24)] d = none :=
    badField_with_good hfields (List.forall_mem_cons.mpr
      ⟨rfl, List.forall_mem_singleton.mpr (decide_eq_false (Nat.not_le.mpr (Nat.lt_succ_of_le hslot)))⟩)
  have hother : (1 == 1 && d.p0.toNat ≤ 3 && keyUsable (started d s) d.p0.toNat &&
      !otherBoot (started d s) d.p0.toNat) = false := by
    have hkey : keyUsable (started d s) d.p0.toNat = keyUsable s d.p0.toNat := rfl
    have hboot : otherBoot (started d s) d.p0.toNat = otherBoot s d.p0.toNat := rfl
    rw [hkey, hboot]
    obtain h | h | h := hmay
    · simp [Nat.not_le.mpr h]
    · simp [h]
    · simp [h]
  dsimp only [secProvision]
  rw [checked_none]
  · simp only [pendOf_desc, hitem]
    rfl
  · have hitems {j : Nat} (hj : 1 ≠ j) (b : Bool) : (1 == j && b) = false := by simp [hj]
    rw [pendOf_desc, hitem, firstFail_bad hform, firstFail_when_false (by simp [hscope]),
      firstFail_when_false (hitems (j := 0) (by decide) _), firstFail_when_false hother,
      firstFail_when_false (hitems (j := 2) (by decide) _), firstFail_buffer hread,
      firstFail_when_false (hitems (j := 3) (by decide) _), firstFail_nil]

theorem secProvision_of_closed (hitem : d.target.toNat = 2) (hslot : d.p0.toNat ≤ 3)
    (hfields : badField { pmask := 1, bufMin := 32, bufMax := 32 } [] d = none)
    (hscope : scopeOpen (started d s) 3 = false) :
    secProvision (pendOf d s) (started d s) = .done .authRequired 0 [] (started d s) := by
  have hform : badField { pmask := 1, bufMin := itemSize 2, bufMax := itemSize 2 }
      [(3 < 2, 8), (itemCount 2 ≤ d.p0.toNat, 24)] d = none :=
    badField_with_good hfields (List.forall_mem_cons.mpr
      ⟨rfl, List.forall_mem_singleton.mpr (decide_eq_false (Nat.not_le.mpr (Nat.lt_succ_of_le hslot)))⟩)
  dsimp only [secProvision]
  refine checked_some _ _ _ _ _ _ ?_
  rw [pendOf_desc, hitem, firstFail_bad hform, firstFail_when_true (by simp [hscope])]

end Provision

/-! ## The test access port (R773 to R775) -/

theorem tapRefuse_counts (code : Nat) (s : Device) :
    (tapRefuse code s).tst.bypassed = true ∧ (tapRefuse code s).tst.refused = s.tst.refused + 1 ∧
      (tapRefuse code s).saf = s.saf ∧ (tapRefuse code s).dio = s.dio := by
  obtain ⟨_, _, _, _, h⟩ := raise_touches Ev.secTapRefused [(1, code)]
    { s with tst.ir := code, tst.bypassed := true, tst.refused := s.tst.refused + 1 }
  rw [tapRefuse, h]
  exact ⟨rfl, rfl, rfl, rfl⟩

/-- The part number stands in [27:12] of IDCODE whatever the version and the manufacturer, and bit 0 reads 1 (R775). -/
theorem idcodeOf_fields {version maker : Nat} (hmaker : maker < 2 ^ 11) :
    idcodeOf version maker / 4096 % 65536 = 0x9680 ∧ idcodeOf version maker % 2 = 1 := by
  unfold idcodeOf
  omega

theorem idcodeValue_fields : idcodeValue / 4096 % 65536 = 0x9680 ∧ idcodeValue % 2 = 1 := by
  rw [idcodeValue]
  exact idcodeOf_fields Config.makerCode.isLt

theorem tapChallenge_of_free {s : Device} (hup : s.btr.spireUp = true) (hlock : s.sec.lockUntil ≤ s.tim.ck) :
    (tapChallenge s).tst.ir = 0x10 ∧ (tapChallenge s).sec.nonce.map (·.2) = some s.tim.ck ∧
      (tapChallenge s).sec.scopes = s.sec.scopes := by
  have hfree : ¬(!(tapLoad 0x10 s).btr.spireUp ||
      decide ((tapLoad 0x10 s).tim.ck < (tapLoad 0x10 s).sec.lockUntil)) = true := by
    simp [tapLoad, hup, Nat.not_lt.mpr hlock]
  rw [tapChallenge, if_neg hfree]
  exact ⟨rfl, rfl, rfl⟩

theorem tapResponse_of_up (b : List Byte) {s : Device} (hup : s.btr.spireUp = true) :
    tapResponse b s = (respond (padTo 3088 b) (tapLoad 0x11 s)).2.2 :=
  if_neg (by simp [tapLoad, hup])

theorem tapBypass_of_undefined {code : Nat} (s : Device) (h : tapCodes.contains (code % 256) = false)
    (hcode : code % 256 ≠ 0xFF) : tapBypass code s = { s with tst.ir := code % 256, tst.bypassed := true } := by
  have hother : (code % 256 != 0xFF) = true := bne_iff_ne.mpr hcode
  rw [tapBypass, h, hother]
  rfl

/-! ## The statement -/

/-- Settles O57, row by row. A command that starts completes as its body ends (`runCmd_of_done`), and each body is followed
where its checks pass. As the model's log 71 has it, the nonce is consumed in every outcome, the DETAIL of SEC_CLOSE names
the scopes of the mask that were open, and a key revocation carries no buffer. -/
theorem securityAndTap : Obligations.SecurityAndTap := by
  unfold Obligations.SecurityAndTap
  refine ⟨?challenge, ?nonce, ?locked, ?response, ?opens, ?fails, ?password, ?closes, ?closed, ?scope, ?stale, ?lockout,
    ?quote, ?identity, ?stage, ?noWindow, ?idle, ?windowGone, ?short, ?whole, ?commit, ?revoke, ?unauthorised,
    ?extest, ?intest, ?pulse, ?train, ?clamp, ?highz, ?refused, ?idcode, ?sample, ?tapChallenge, ?tapResponse, ?status,
    ?debug, ?bypass, ?undefined⟩
  case challenge =>
    intro d s hstart hfields hlock
    rw [exec_secChallenge, execSecChallenge, runCmd_of_done hstart (secChallenge_of_free hfields hlock)]
  case nonce =>
    exact fun s => ⟨length_padTo .., rfl, rfl, rfl⟩
  case locked =>
    intro d s hstart hfields hlock
    rw [exec_secChallenge, execSecChallenge, runCmd_of_done hstart (secChallenge_of_locked hfields hlock)]
  case response =>
    intro d v s hstart hfields hread hlock hnonce hdur hmax
    have hopen := secOpen_of_valid hfields hread hlock hnonce hdur hmax
    refine ⟨fun hproved => ?_, fun hrefuted => ?_⟩
    · rw [exec_secOpen, execSecOpen, runCmd_of_done hstart (hopen.trans (if_pos hproved))]
    · rw [exec_secOpen, execSecOpen, runCmd_of_done hstart (hopen.trans (if_neg (by simp [hrefuted]))), completed]
  case opens =>
    intro k m dur s hdur
    refine ⟨openScope_open k m s hdur, ?_, ?_⟩
    · rw [openScope, raise_sec]
    · rw [openScope, raise_sec]
  case fails =>
    intro k m s hlo hhi
    rw [openFails_counts k m hlo hhi]
    exact ⟨rfl, rfl, rfl⟩
  case password =>
    intro d s hstart hfields hset hlock
    have hopen := secOpenPw_of_free hfields hset hlock
    refine ⟨fun hproved => ?_, fun hrefuted => ?_⟩
    · rw [exec_secOpenPw, execSecOpenPw, runCmd_of_done hstart (hopen.trans (if_pos hproved))]
    · rw [exec_secOpenPw, execSecOpenPw, runCmd_of_done hstart (hopen.trans (if_neg hrefuted)), completed]
  case closes =>
    intro d s hstart hfields
    rw [exec_secClose, execSecClose, runCmd_of_done hstart (secClose_of_mask hfields)]
  case closed =>
    exact fun m cause k s hk => tfind_closeScopes m cause s hk
  case scope =>
    intro k till s hopen
    refine ⟨fun hdue => ?_, fun hearly => ?_⟩
    · rw [exec_scopeExpiry, execScopeExpiry, scopeExpiry_of_due hopen hdue]
    · rw [exec_scopeExpiry, execScopeExpiry, scopeExpiry_of_early hopen hearly]
  case stale =>
    intro v t s hnonce
    refine ⟨fun hdue => ?_, fun hearly => ?_⟩
    · rw [exec_nonceExpiry, execNonceExpiry, nonceExpiry_of_due hnonce hdue]
    · rw [exec_nonceExpiry, execNonceExpiry, nonceExpiry_of_early hnonce hearly]
  case lockout =>
    exact fun s => rfl
  case quote =>
    intro d s hstart hfields
    rw [exec_secQuote, execSecQuote, runCmd_of_done hstart (secQuote_of_fields hfields)]
  case identity =>
    intro d s hstart hfields
    rw [exec_secReadIdentity, execSecReadIdentity, runCmd_of_done hstart (secReadIdentity_of_fields hfields)]
  case stage =>
    intro d s hstart hwindow hfields hscope hfree
    obtain ⟨n, p, hacts, hstage⟩ := fwStage_of_admitted hwindow hfields hscope hfree
    refine ⟨_, by rw [exec_secFwStage, execSecFwStage, runCmd_of_done hstart hstage], ?_, ?_, ?_⟩
    · rw [completed, finish_sec]
    · exact finish_ok_not_halted n [] (ring_not_halted_of_canStart hstart)
    · rw [completed, finish_spr, hacts]
  case noWindow =>
    intro d s hstart hwindow
    rw [exec_secFwStage, execSecFwStage, runCmd_of_done hstart (fwStage_of_no_window hwindow)]
  case idle =>
    intro written s hidle
    rw [exec_fwStageDone, execFwStageDone, stageDone_of_idle hidle]
  case windowGone =>
    intro written kind len s hstaging hwindow
    rw [exec_fwStageDone, execFwStageDone, stageDone_of_no_window hstaging hwindow]
  case short =>
    intro written kind len w s hstaging hwindow hgood hshort
    rw [exec_fwStageDone, execFwStageDone, stageDone_of_short hstaging hwindow hgood hshort]
  case whole =>
    intro kind len w img s hstaging hwindow _ hwhole himg
    exact ⟨stageDone true s.dev, rfl, stageDone_of_whole hstaging hwindow hwhole himg⟩
  case commit =>
    intro d s hstart hfields hscope htrial
    obtain ⟨n, t, hbody, ht⟩ := svnCommit_of_trial hfields hscope htrial
    obtain ⟨hruns, hsvn, hrollback⟩ := ht.of_sec (finish_sec (pendOf d s.dev) .ok n [] t)
    refine ⟨_, ?_, hruns, hsvn, hrollback⟩
    rw [exec_secSvnCommit, execSecSvnCommit, runCmd_of_done hstart hbody, completed]
  case revoke =>
    intro d s hstart hscope hitem hslot hfields hread hmay
    rw [exec_secProvision, execSecProvision,
      runCmd_of_done hstart (secProvision_of_revocation hscope hitem hslot hfields hread hmay)]
  case unauthorised =>
    intro d s hstart hitem hslot hfields hscope
    rw [exec_secProvision, execSecProvision,
      runCmd_of_done hstart (secProvision_of_closed hitem hslot hfields hscope)]
  case extest => exact fun s => rfl
  case intest => exact fun s => rfl
  case pulse => exact fun s => rfl
  case train => exact fun s => rfl
  case clamp => exact fun s => rfl
  case highz => exact fun s => rfl
  case refused => exact tapRefuse_counts
  case idcode => exact fun s => ⟨rfl, idcodeValue_fields⟩
  case sample => exact fun sampled shifted s => rfl
  case tapChallenge =>
    intro s hup hlock
    exact ⟨tapChallenge s.dev, rfl, tapChallenge_of_free hup hlock⟩
  case tapResponse =>
    intro b s hup
    rw [exec_lockResponse, execLockResponse, tapResponse_of_up b hup, tapLoad]
  case status => exact fun s => rfl
  case debug => exact fun s => rfl
  case bypass => exact fun s => rfl
  case undefined =>
    intro code s hcode hother
    rw [exec_bypass, execBypass, tapBypass_of_undefined s.dev hcode hother]

end Sys2Proof.Proofs.SecurityAccess
end

section
/-!
What may touch Belfry, and the gates while it does not drive (14_belfry_safety).
-/
namespace Sys2Proof.Proofs.Belfry
open Sys2Proof Sys2Proof.Machine Sys2Proof.Laws

/-! ## Commands of other blocks -/

/-- Every command outside the SAF row of the table of commands leaves Belfry as it was (R545). -/
theorem commandsOf_keepsSaf (got : List SlotRead) (bad : List Nat) {block : Nat} (h : block ≠ 0x0E)
    (e : Nat × (Pend → Device → CmdEnd)) (he : e ∈ commandsOf got bad block) (p : Pend) (s : Device) :
    KeepsSaf s (e.2 p s).dev := by
  revert e
  unfold commandsOf
  split
  case h_15 => exact absurd rfl h
  all_goals simp

theorem commandBody_keepsSaf (got : List SlotRead) (bad : List Nat) {opcode : Nat} (h : opcode / 256 ≠ 0x0E)
    (p : Pend) (s : Device) : KeepsSaf s (commandBody got bad opcode p s).dev := by
  unfold commandBody
  cases hfind : (commandsOf got bad (opcode / 256)).lookup (opcode % 256) with
  | none => simp
  | some body =>
    obtain ⟨before, after, hrow, _⟩ := List.lookup_eq_some_iff.mp hfind
    exact commandsOf_keepsSaf got bad h (opcode % 256, body) (by simp [hrow]) p s

/-- Settles O60: no row of another block's commands writes Belfry's state (`commandsOf_keepsSaf`). -/
theorem othersCannotDrive : Obligations.OthersCannotDrive := by
  unfold Obligations.OthersCannotDrive
  intro opcode got bad p s t hblock hend
  have hkeeps := commandBody_keepsSaf got bad hblock p s
  generalize commandBody got bad opcode p s = e at hend hkeeps
  cases e with
  | done st detail buf u => exact hend ▸ hkeeps
  | wait u => exact hend ▸ hkeeps

@[simp] theorem raise_saf (code : Nat) (fs : List (Nat × Nat)) (s : Device) : (raise code fs s).saf = s.saf :=
  (raise_keepsSaf s code fs s).mpr rfl

/-! ## The gates of a Belfry that does not drive -/

/-- Belfry is in a state in which it drives nothing: INIT, UNCONFIGURED or SAFE_FAULT (R557). -/
def Undriven (s : Device) : Prop := s.saf.mode = .init ∨ s.saf.mode = .unconfigured ∨ s.saf.mode = .safeFault

/-- Every gate is low and no output stands as energised. -/
structure GatesLow (s : Device) : Prop where
  a : s.saf.a.gates = 0
  b : s.saf.b.gates = 0
  energised : s.saf.energised = 0

/-- The invariant of a block: low gates while Belfry does not drive (R575, R585). -/
def OffKept (s : Device) : Prop := Undriven s → GatesLow s

theorem safeOff_iff (s : State) : SafeOff s ↔ OffKept s.dev :=
  ⟨fun h hmode => let ⟨a, b, e⟩ := h hmode; ⟨a, b, e⟩, fun h hmode => let ⟨a, b, e⟩ := h hmode; ⟨a, b, e⟩⟩

/-- The state of Belfry, its gates and its energised outputs are those of `s`. -/
structure KeepsGates (s t : Device) : Prop where
  mode : t.saf.mode = s.saf.mode
  a : t.saf.a.gates = s.saf.a.gates
  b : t.saf.b.gates = s.saf.b.gates
  energised : t.saf.energised = s.saf.energised

section Gates
variable {s t u : Device}

theorem KeepsGates.refl (s : Device) : KeepsGates s s := ⟨rfl, rfl, rfl, rfl⟩

theorem KeepsGates.trans (h : KeepsGates s t) (k : KeepsGates t u) : KeepsGates s u :=
  ⟨k.mode.trans h.mode, k.a.trans h.a, k.b.trans h.b, k.energised.trans h.energised⟩

theorem KeepsGates.iff (h : KeepsGates t u) : KeepsGates s u ↔ KeepsGates s t :=
  ⟨fun k => k.trans ⟨h.mode.symm, h.a.symm, h.b.symm, h.energised.symm⟩, fun k => k.trans h⟩

theorem KeepsGates.of_keepsSaf (h : KeepsSaf s t) : KeepsGates s t := by
  unfold KeepsSaf at h
  exact ⟨by rw [h], by rw [h], by rw [h], by rw [h]⟩

theorem KeepsGates.foldl {α : Type} {g : Device → α → Device} (h : ∀ t x, KeepsGates t (g t x)) (l : List α) :
    ∀ s, KeepsGates s (l.foldl g s) := by
  induction l with
  | nil => exact .refl
  | cons x rest ih => exact fun s => (h s x).trans (ih _)

@[simp] theorem keepsGates_self (s : Device) : KeepsGates s s ↔ True := iff_true_intro (.refl s)

@[simp] theorem keepsGates_mk (s : Device) x0 x1 x2 x3 x4 x5 x6 x7 x8 x9 x10 x11 x12 x13 x14 x15 x16
    x17 x18 x19 x20 x21 x22 x23 x24 x25 x26 x27 x28 x29 x30 :
    KeepsGates s (Device.mk x0 x1 x2 x3 x4 x5 x6 x7 x8 x9 x10 x11 x12 x13 x14
      x15 x16 x17 x18 x19 x20 x21 x22 x23 x24 x25 x26 x27 x28 x29 x30) ↔
      x25.mode = s.saf.mode ∧ x25.a.gates = s.saf.a.gates ∧ x25.b.gates = s.saf.b.gates ∧
        x25.energised = s.saf.energised :=
  ⟨fun ⟨m, a, b, e⟩ => ⟨m, a, b, e⟩, fun ⟨m, a, b, e⟩ => ⟨m, a, b, e⟩⟩

@[simp] theorem keepsGates_ite {c : Prop} [Decidable c] :
    KeepsGates s (if c then t else u) ↔ (c → KeepsGates s t) ∧ (¬c → KeepsGates s u) := by
  split <;> simp [*]

@[simp] theorem keepsGates_foldl {α : Type} {g : Device → α → Device} (h : ∀ t x, KeepsGates t (g t x)) (l : List α) :
    KeepsGates s (l.foldl g t) ↔ KeepsGates s t :=
  (KeepsGates.foldl h l t).iff

@[simp] theorem raise_keepsGates (code : Nat) (fs : List (Nat × Nat)) :
    KeepsGates s (raise code fs t) ↔ KeepsGates s t :=
  KeepsGates.iff (.of_keepsSaf (by simp))

@[simp] theorem modCons_keepsGates (k : Nat) (f : SafCons → SafCons) :
    KeepsGates s (modCons k f t) ↔ KeepsGates s t :=
  KeepsGates.iff ⟨rfl, rfl, rfl, rfl⟩

/-- A change of a channel that does not set its gates. -/
@[simp] theorem modChanSaf_keepsGates (b : Bool) {f : SafChan → SafChan} (h : ∀ k, (f k).gates = k.gates) :
    KeepsGates s (modChanSaf b f t) ↔ KeepsGates s t := by
  refine KeepsGates.iff ?_
  cases b
  · exact ⟨rfl, h _, rfl, rfl⟩
  · exact ⟨rfl, rfl, h _, rfl⟩

theorem KeepsGates.undriven (h : KeepsGates s t) : Undriven t ↔ Undriven s := by
  unfold Undriven
  rw [h.mode]

theorem KeepsGates.low (h : KeepsGates s t) (k : GatesLow s) : GatesLow t :=
  ⟨h.a.trans k.a, h.b.trans k.b, h.energised.trans k.energised⟩

theorem KeepsGates.off (h : KeepsGates s t) (k : OffKept s) : OffKept t :=
  fun hmode => h.low (k (h.undriven.mp hmode))

theorem OffKept.of_low (h : GatesLow s) : OffKept s := fun _ => h

theorem OffKept.ite {c : Prop} [Decidable c] (h : OffKept s) (k : OffKept t) : OffKept (if c then s else t) := by
  split <;> assumption

end Gates

/-! ### Driving the gates -/

/-- The block with the outputs that both channels drive as the energised ones. -/
def energisedByGates (s : Device) : Device := { s with saf.energised := gatesBoth s }

theorem KeepsGates.energisedByGates {s t : Device} (h : KeepsGates s t) :
    KeepsGates (energisedByGates s) (energisedByGates t) :=
  ⟨h.mode, h.a, h.b, congrArg₂ (· &&& ·) h.a h.b⟩

/-- The outputs announced are those that both channels drive; the gates stay. -/
theorem announceOutputs_keepsGates (s : Device) : KeepsGates (energisedByGates s) (announceOutputs s) :=
  .foldl (fun _ _ => by simp) _ _

/-- A channel drives its gates, the other keeps its own, and the outputs that both drive stand as energised (R557). -/
theorem driveGates_gates (b : Bool) (g : Nat) (s : Device) :
    KeepsGates (energisedByGates (modChanSaf b (fun k => { k with gates := g }) s)) (driveGates b g s) := by
  unfold driveGates
  refine .trans (.energisedByGates (.trans ?_ (.foldl (fun u n => by simp) _ _))) (announceOutputs_keepsGates _)
  cases b <;> exact ⟨rfl, rfl, rfl, rfl⟩

theorem driveGates_mode (b : Bool) (g : Nat) (s : Device) : (driveGates b g s).saf.mode = s.saf.mode := by
  refine (driveGates_gates b g s).mode.trans ?_
  cases b <;> rfl

/-- Low gates stay low. -/
theorem driveGates_low (b : Bool) {s : Device} (h : GatesLow s) : GatesLow (driveGates b 0 s) := by
  refine (driveGates_gates b 0 s).low ?_
  cases b
  · exact ⟨rfl, h.b, by simp [energisedByGates, gatesBoth, modChanSaf]⟩
  · exact ⟨h.a, rfl, by simp [energisedByGates, gatesBoth, modChanSaf]⟩

theorem driveGates_zero_off (b : Bool) {s : Device} (h : OffKept s) : OffKept (driveGates b 0 s) := by
  intro hmode
  unfold Undriven at hmode
  rw [driveGates_mode] at hmode
  exact driveGates_low b (h hmode)

/-- A gate that stays or goes low keeps the invariant. -/
theorem driveGates_off {b : Bool} {g : Nat} {s : Device} (hg : Undriven s → g = 0) (h : OffKept s) :
    OffKept (driveGates b g s) := by
  intro hmode
  unfold Undriven at hmode
  rw [driveGates_mode] at hmode
  rw [hg hmode]
  exact driveGates_low b (h hmode)

theorem allOff_low (s : Device) : GatesLow (allOff s) := by
  have hfirst := driveGates_gates false 0 s
  have hlow := driveGates_gates true 0 (driveGates false 0 s)
  exact ⟨hlow.a.trans hfirst.a, hlow.b, hlow.energised.trans (Nat.and_zero _)⟩

end Sys2Proof.Proofs.Belfry
end

section
/-!
No command energises a safety output in INIT, UNCONFIGURED or SAFE_FAULT (14_belfry_safety).
-/
namespace Sys2Proof.Proofs.Belfry
open Sys2Proof Sys2Proof.Machine Sys2Proof.Laws

/-! ## Changes of state -/

theorem safShow_keepsGates (s : Device) : KeepsGates s (safShow s) := by
  unfold safShow
  simp

/-- A change of state keeps the gates low where it ends in SAFE_FAULT, which drops them, or in another undriven state
that was entered from one (R575). -/
theorem safState_off {m : SafMode} {cause : Nat} {s : Device} (h : OffKept s)
    (hm : m = .init ∨ m = .unconfigured → Undriven s) : OffKept (safState m cause s) := by
  unfold safState
  split
  · exact h
  · dsimp only
    split
    · exact .of_low ((safShow_keepsGates _).low (allOff_low _))
    next hsafe =>
      refine ((raise_keepsGates _ _).mpr (.refl _)).off fun hmode => ?_
      have hundriven : Undriven s := by
        obtain hinit | hunconfigured | hfault := hmode
        · exact hm (.inl hinit)
        · exact hm (.inr hunconfigured)
        · exact absurd hfault hsafe
      obtain ⟨ha, hb, he⟩ := h hundriven
      exact ⟨ha, hb, he⟩

theorem safState_safeFault_off {cause : Nat} {s : Device} (h : OffKept s) : OffKept (safState .safeFault cause s) :=
  safState_off h (by simp)

/-- A fault degrades Belfry, or ends in SAFE_FAULT (R574 to R576). -/
theorem safFault_off (cause attr : Nat) {s : Device} (h : OffKept s) : OffKept (safFault cause attr s) := by
  have hnamed : KeepsGates s (raise Ev.safChannelFault [(1, cause), (1, attr)]
      { s with saf.cause := cause, saf.attr := attr }) := by simp
  replace hnamed := hnamed.off h
  unfold safFault
  dsimp only
  generalize raise Ev.safChannelFault _ _ = t at hnamed
  have htimed : KeepsGates t { t with saf.degUntil := t.tim.ck + scTDeg t.saf.cfg * 1000000000 } := by simp
  replace htimed := htimed.off hnamed
  refine .ite hnamed ?_
  split
  · exact .ite (safState_off htimed (by simp)) (.ite (safState_off htimed (by simp)) (safState_safeFault_off hnamed))
  · exact safState_safeFault_off hnamed
  · exact safState_safeFault_off hnamed
  · exact hnamed

theorem channelFault_off (cause attr : Nat) {s : Device} (h : OffKept s) : OffKept (channelFault cause attr s) := by
  unfold channelFault
  split
  · exact safFault_off _ _ h
  · exact safFault_off _ _ h
  · exact safFault_off _ _ h
  · exact safFault_off _ _ h
  · exact safFault_off _ _ h
  · exact safFault_off _ _ h
  · exact h

theorem degradedTimeout_off {s : Device} (h : OffKept s) : OffKept (degradedTimeout s) :=
  .ite (safState_safeFault_off h) h

/-! ## Inputs, functions and frames: the gates stay -/

theorem sampleContact_gates (ck : Nat) (cfg : List Byte) (levels : Nat) (k : SafChan) (n : Nat) :
    (sampleContact ck cfg levels k n).gates = k.gates := by
  simp only [sampleContact]
  repeat' split
  all_goals rfl

@[simp] theorem foldl_sampleContact_gates (ck : Nat) (cfg : List Byte) (levels : Nat) (l : List Nat) (k : SafChan) :
    (l.foldl (sampleContact ck cfg levels) k).gates = k.gates := by
  induction l generalizing k with
  | nil => rfl
  | cons n rest ih => exact (ih _).trans (sampleContact_gates ..)

theorem discrepancies_keepsGates (s : Device) : KeepsGates s (discrepancies s) := by
  unfold discrepancies
  simp

theorem inputSample_keepsGates (b : Bool) (contacts fb : Nat) (s : Device) :
    KeepsGates s (inputSample b contacts fb s) := by
  unfold inputSample
  simp [(discrepancies_keepsGates _).iff]

theorem discTimeout_keepsGates (n : Nat) (s : Device) : KeepsGates s (discTimeout n s) := by
  unfold discTimeout
  split <;> simp

theorem fnEvents_keepsGates (b : Bool) (f : Nat) (old new : FnMode) (late : Option Nat) (s : Device) :
    KeepsGates s (fnEvents b f old new late s) := by
  unfold fnEvents
  cases late with
  | none => cases new <;> simp
  | some ms =>
    by_cases hb : (b && !chanOut s false) = true
    · cases new <;> simp [hb]
    · cases new <;> simp [hb]

theorem stepFns_keepsGates (b reset : Bool) (okAt : Tab Nat) (s : Device) : KeepsGates s (stepFns b reset okAt s) := by
  unfold stepFns
  simp [(fnEvents_keepsGates ..).iff]

theorem startConsumers_keepsGates (s : Device) : KeepsGates s (startConsumers s) := by
  unfold startConsumers
  simp

theorem pendingCrcs_keepsGates (s : Device) : KeepsGates s (pendingCrcs s) := by
  unfold pendingCrcs
  split <;> simp

theorem safeProduce_keepsGates (p : Nat) (s : Device) : KeepsGates s (safeProduce p s) := by
  unfold safeProduce
  simp [(KeepsGates.of_keepsSaf ((queuePair_keepsSaf ..).mpr (.refl _))).iff]

@[simp] theorem sfBad_keepsGates {s t : Device} (k reason : Nat) : KeepsGates s (sfBad k reason t) ↔ KeepsGates s t := by
  refine KeepsGates.iff ?_
  unfold sfBad
  simp

theorem consumeCopy_keepsGates (k : Nat) (lanB : Bool) (b : List Byte) (s : Device) :
    KeepsGates s (consumeCopy k lanB b s) := by
  unfold consumeCopy consSeen
  simp only [keepsGates_ite, sfBad_keepsGates, keepsGates_self, implies_true, true_and]
  intros
  split <;> simp

theorem trackProducer_keepsGates (b : List Byte) (s : Device) : KeepsGates s (trackProducer b s) := by
  unfold trackProducer
  split
  · exact .refl s
  · split <;> simp

theorem safeReceive_keepsGates (s : Device) : KeepsGates s (safeReceive s) := by
  unfold safeReceive
  split
  · exact .refl s
  · dsimp only
    split
    · simp
    · split <;> simp [(trackProducer_keepsGates ..).iff, (consumeCopy_keepsGates ..).iff]

theorem sfWatchdog_keepsGates (k : Nat) (s : Device) : KeepsGates s (sfWatchdog k s) := by
  unfold sfWatchdog
  simp

theorem singleTimeout_keepsGates (k : Nat) (s : Device) : KeepsGates s (singleTimeout k s) := by
  unfold singleTimeout
  simp

theorem frameReceive_keepsGates (p : Nat) (at_ : STime) (bytes : List Byte) (s : Device) :
    KeepsGates s (frameReceive p at_ bytes s) := by
  have hcounted : KeepsGates s (modEport p (fun q => { q with rxFr := q.rxFr + 1 }) (pmcEdge 0x0C 0x81 p s)) :=
    .of_keepsSaf (by simp)
  unfold frameReceive
  split
  · exact .refl s
  split
  · exact .of_keepsSaf (by simp)
  dsimp only
  generalize modEport p _ (pmcEdge 0x0C 0x81 p s) = t at hcounted
  split
  · exact hcounted
  split
  · exact hcounted.trans (.of_keepsSaf (by simp))
  split
  · exact hcounted.trans (.of_keepsSaf (by simp))
  split
  · exact hcounted.trans (by simp)
  · exact hcounted.trans (.of_keepsSaf (by simp))

theorem discardPending_keepsGates (s : Device) : KeepsGates s (discardPending s) := by
  unfold discardPending
  split <;> simp

theorem confirmTimeout_keepsGates (s : Device) : KeepsGates s (confirmTimeout s) := by
  unfold confirmTimeout
  split <;> simp [discardPending_keepsGates]

/-! ## Rows that drive the gates -/

theorem bits_cleared (n : Nat) : putBit n false 0 = 0 := by
  simp [putBit, flag]

/-- At the end of a cycle a Belfry that is not live applies nothing (R557). -/
theorem endCycle_off (b : Bool) {s : Device} (h : OffKept s) : OffKept (endCycle b s) := by
  have hdead : ∀ x : Nat, Undriven s → (if !safLive s then 0 else x) = 0 := by
    intro x hmode
    obtain hinit | hunconfigured | hfault := hmode
    · simp [safLive, hinit]
    · simp [safLive, hunconfigured]
    · simp [safLive, hfault]
  unfold endCycle
  dsimp only
  generalize (if s.pai.standby then if s.saf.clearReq then 0 else s.saf.req
    else (if s.saf.clearReq then 0 else s.saf.req) &&& (safChan s b).stage.gates) = req
  generalize (if s.pai.standby then (safChan s b).stage.gates else req) = want
  have hasked : KeepsGates s { s with saf.req := req, saf.clearReq := false } := by simp
  have hzero : Undriven { s with saf.req := req, saf.clearReq := false } → (if !safLive s then 0 else want) = 0 :=
    fun hmode => hdead want (hasked.undriven.mp hmode)
  replace hasked := hasked.off h
  generalize ({ s with saf.req := req, saf.clearReq := false } : Device) = t at hasked hzero
  generalize (if !safLive s then 0 else want) = g at hzero
  have hown : OffKept (driveGates b g t) := driveGates_off hzero hasked
  have hboth : OffKept (if chanOut (driveGates b g t) (!b) then driveGates (!b) g (driveGates b g t) else driveGates b g t) := by
    refine .ite (driveGates_off (fun hmode => hzero ?_) hown) hown
    unfold Undriven at hmode ⊢
    rwa [driveGates_mode] at hmode
  refine KeepsGates.off ?_ hboth
  simp

theorem keepsGates_consumers (b : Bool) (f : Nat → SafCons → SafCons) (s : Device) :
    KeepsGates s (if b then s else { s with saf.cons := tmap s.saf.cons f }) := by
  simp

theorem beginCycle_off (b : Bool) {s : Device} (h : OffKept s) : OffKept (beginCycle b s) := by
  unfold beginCycle
  refine .ite (safFault_off _ _ (KeepsGates.off (s := s) (.trans ?_ (keepsGates_consumers b _ _)) h))
    (KeepsGates.off (s := s) (.trans ?_ (keepsGates_consumers b _ _)) h)
  all_goals simp [(stepFns_keepsGates ..).iff, apply_ite SafChan.gates]

theorem safetyCycle_off (b : Bool) {s : Device} (h : OffKept s) : OffKept (safetyCycle b s) := by
  unfold safetyCycle
  refine .ite h ?_
  have hbegun : OffKept (beginCycle b (if (safChan s b).cycleAt.isSome then endCycle b s else s)) :=
    beginCycle_off b (.ite (endCycle_off b h) h)
  exact .ite ((safShow_keepsGates _).off hbegun) hbegun

theorem latchOutputFault_off (n : Nat) (low : Bool) (cause : Nat) {s : Device} (h : OffKept s) :
    OffKept (latchOutputFault n low cause s) := by
  have hdrop : ∀ t : Device, ∀ b : Bool, OffKept t →
      OffKept (driveGates b (putBit n false (safChan t b).gates) t) := by
    intro t b ht
    refine driveGates_off (fun hmode => ?_) ht
    have hlow := ht hmode
    cases b
    · exact (congrArg (putBit n false) hlow.a).trans (bits_cleared n)
    · exact (congrArg (putBit n false) hlow.b).trans (bits_cleared n)
  unfold latchOutputFault
  refine hdrop _ true (hdrop _ false (KeepsGates.off (s := s) ?_ h))
  simp

theorem feedbackTimeout_off (n : Nat) (low : Bool) {s : Device} (h : OffKept s) : OffKept (feedbackTimeout n low s) :=
  .ite h (latchOutputFault_off _ _ _ h)

theorem testPulse_off (n : Nat) (low off on_ : Bool) {s : Device} (h : OffKept s) :
    OffKept (testPulse n low off on_ s) := by
  unfold testPulse
  refine .ite h ?_
  have hnoted : OffKept (modChanSaf low (fun k => { k with changed := tset k.changed n s.tim.ck })
      { s with saf.pulseAt := tset s.saf.pulseAt (2 * n + flag 0 low) s.tim.ck }) :=
    KeepsGates.off (s := s) (by simp) h
  exact .ite hnoted (latchOutputFault_off _ _ _ hnoted)

theorem initDone_off (ok : Bool) {s : Device} (h : OffKept s) : OffKept (initDone ok s) := by
  unfold initDone
  have hcrcs : OffKept (pendingCrcs s) := (pendingCrcs_keepsGates s).off h
  split
  · exact h
  next hinit =>
    refine .ite (safState_safeFault_off h) (.ite (safState_off hcrcs fun _ => ?_) (safState_off ?_ (by simp)))
    · exact (pendingCrcs_keepsGates s).undriven.mpr (.inl (by simp at hinit; exact hinit.1.1))
    · exact (startConsumers_keepsGates _).off hcrcs

end Sys2Proof.Proofs.Belfry
end

section
/-!
The commands of Belfry and the rows of other blocks that reach it keep its gates low (14_belfry_safety).
-/
namespace Sys2Proof.Proofs.Belfry
open Sys2Proof Sys2Proof.Machine Sys2Proof.Laws

/-! ## Commands of SAF -/

theorem checked_off {cs : List Check} {body : Pend → Device → CmdEnd} {p : Pend} {s : Device} (h : OffKept s)
    (hbody : OffKept (body p s).dev) : OffKept (checked cs body p s).dev := by
  unfold checked
  split
  · exact h
  · exact hbody

/-- A write to the Keep goes on where its sectors hold and ends with DATA_ERROR where one fails; Belfry sees neither. -/
theorem keepWrite_cases (bad : List Nat) (f : Device → CmdEnd) (s : Device) :
    ∃ t, KeepsSaf s t ∧ (keepWrite bad f s = f t ∨ keepWrite bad f s = .fail .dataError 0 t) := by
  have hsectors : ∀ (l : List Nat) (r : Bool × Device), KeepsSaf s r.2 →
      KeepsSaf s (l.foldl (fun (r : Bool × Device) sec => (r.1 && (faultSector sec r.2).1, (faultSector sec r.2).2)) r).2 := by
    intro l
    induction l with
    | nil => exact fun _ hr => hr
    | cons sec rest ih => exact fun r hr => ih _ (by simpa using hr)
  refine ⟨_, hsectors (bad.filter storeSector) (true, s) (.refl s), ?_⟩
  unfold keepWrite
  dsimp only
  split
  · exact .inl rfl
  · exact .inr rfl

theorem keepWrite_off {bad : List Nat} {f : Device → CmdEnd} {s : Device} (h : OffKept s)
    (hf : ∀ t, OffKept t → OffKept (f t).dev) : OffKept (keepWrite bad f s).dev := by
  obtain ⟨t, ht, hend | hend⟩ := keepWrite_cases bad f s
  · rw [hend]
    exact hf t ((KeepsGates.of_keepsSaf ht).off h)
  · rw [hend]
    exact (KeepsGates.of_keepsSaf ht).off h

theorem runCmd_off {body : Pend → Device → CmdEnd} {d : Desc} {s : Device} (h : OffKept s)
    (hbody : ∀ p t, OffKept t → OffKept (body p t).dev) : OffKept (runCmd body d s) := by
  unfold runCmd
  refine .ite h ?_
  dsimp only
  generalize hp : Pend.mk d _ _ _ _ _ _ = p
  have hend := hbody p (pmcEdge 0x00 0x80 d.ring s) ((KeepsGates.of_keepsSaf (by simp)).off h)
  generalize body p (pmcEdge 0x00 0x80 d.ring s) = e at hend
  cases e with
  | done st detail buf t => exact (KeepsGates.of_keepsSaf (s := t) (by simp)).off hend
  | wait t => exact (KeepsGates.of_keepsSaf (s := t) (by simp)).off hend

theorem safLoad_off (bad : List Nat) (p : Pend) {s : Device} (h : OffKept s) : OffKept (safLoad bad p s).dev := by
  unfold safLoad
  refine checked_off h ?_
  dsimp only
  have hsigned := (checkSigned_keepsSaf s (p.desc.buf.bytes.take p.desc.bufLen.toNat) 1376 2 4 6 true s).mpr (.refl s)
  generalize checkSigned _ _ _ _ _ _ s = signed at hsigned
  have hoff : OffKept signed.2 := (KeepsGates.of_keepsSaf hsigned).off h
  obtain ⟨_ | _, t⟩ := signed
  · exact hoff
  have hrefused : ∀ record reason, OffKept { t with saf.errRecord := record, saf.errReason := reason } :=
    fun _ _ => KeepsGates.off (s := t) (by simp) hoff
  dsimp only
  split
  · exact hrefused _ _
  split
  · exact hoff
  split
  · exact hrefused _ _
  split
  · exact hoff
  split
  · exact hrefused _ _
  · refine keepWrite_off hoff fun u hu => KeepsGates.off (s := u) ?_ hu
    simp [okWith, CmdEnd.dev, (pendingCrcs_keepsGates _).iff]

theorem safConfirm_off (bad : List Nat) (p : Pend) {s : Device} (h : OffKept s) : OffKept (safConfirm bad p s).dev := by
  unfold safConfirm
  refine checked_off h ?_
  dsimp only
  split
  · exact h
  next c t _ => 
    have hdiscarded := (discardPending_keepsGates s).off h
    split
    · exact hdiscarded
    split
    · exact hdiscarded
    split
    · exact h
    refine keepWrite_off h fun u hu => ?_
    have hstarted : OffKept (raise Ev.safConfig [(4, fld 12 4 c), (1, 1)] (startConsumers { u with
        saf.cfg := c, saf.pend := none, saf.pcrcA := 0, saf.pcrcB := 0, saf.req := 0, saf.disc := 0, saf.discSeen := 0
        saf.discAt := [] })) :=
      KeepsGates.off (s := u) (by simp [(startConsumers_keepsGates _).iff]) hu
    exact .ite (safState_off hstarted (by simp)) hstarted

theorem setRequest_off (p : Pend) {s : Device} (h : OffKept s) : OffKept (setRequest p s).dev := by
  unfold setRequest
  exact checked_off h (KeepsGates.off (s := s) (by simp [okWith, CmdEnd.dev]) h)

theorem faultReset_off (p : Pend) {s : Device} (h : OffKept s) : OffKept (faultReset p s).dev := by
  unfold faultReset
  refine checked_off h (KeepsGates.off (s := s) ?_ h)
  simp [okWith, CmdEnd.dev]

theorem safClear_off (p : Pend) {s : Device} (h : OffKept s) : OffKept (safClear p s).dev := by
  unfold safClear
  exact checked_off h (KeepsGates.off (s := s) (by simp [okWith, CmdEnd.dev]) h)

/-! ## Resets, pairs and the dispatch of descriptors -/

theorem deviceReset_low (cause : Nat) (kind : Option Nat) (s : Device) : GatesLow (deviceReset cause kind s) := by
  have hreset : ∀ t : Device, GatesLow (safReset t) := fun _ => ⟨rfl, rfl, rfl⟩
  have hlanes : ∀ t : Device, GatesLow (resetLanes (sprDeviceReset (safReset t))) := fun t =>
    (KeepsGates.of_keepsSaf (by simp)).low (hreset t)
  unfold deviceReset
  dsimp only
  generalize hlow : resetLanes (sprDeviceReset (safReset _)) = t
  replace hlow : GatesLow t := hlow ▸ hlanes _
  refine KeepsGates.low (.of_keepsSaf (s := t) ?_) hlow
  split <;> simp

theorem resetDevice_low (clkCause cause : Nat) (kind held : Option Nat) (s : Device) :
    GatesLow (resetDevice clkCause cause kind held s) := by
  unfold resetDevice
  exact KeepsGates.low (by simp) (deviceReset_low cause kind s)

theorem heartbeatReceive_keepsGates (lane : Nat) (bytes : List Byte) (pact fenced : Bool) (s : Device) :
    KeepsGates s (heartbeatReceive lane bytes pact fenced s) := by
  have hacts : ∀ t : Device, KeepsGates t (beatActs t) := by
    intro t
    unfold beatActs
    dsimp only
    generalize hfence : (if t.pai.peerState ∈ [1, 3, 6] then _ else t) = u
    have hfenced : KeepsGates t u := hfence ▸ by simp
    refine hfenced.trans ?_
    split
    · generalize hclear : (if fld 2 1 _ % 8 = 0 then _ else u) = v
      have hcleared : KeepsGates u v := hclear ▸ by simp
      exact hcleared.trans (.of_keepsSaf (by simp))
    all_goals exact .of_keepsSaf (by simp)
  unfold heartbeatReceive
  split
  · exact .refl s
  · exact .trans (.of_keepsSaf (by simp)) (hacts _)

theorem takeoverEnable_keepsGates (s : Device) : KeepsGates s (takeoverEnable s) := by
  unfold takeoverEnable
  split
  · dsimp only
    generalize hresumed : takeoverCan (resumed _) = t
    have ht : KeepsSaf s t := by
      rw [← hresumed]
      cases s.kep.restored <;> simp
    refine (KeepsGates.of_keepsSaf ht).trans (.trans (t := takeoverSaf t) ?_ (.of_keepsSaf (by simp)))
    unfold takeoverSaf
    simp
  · exact .refl s

/-- The commands of SAF keep the gates low, and no other command sees them. -/
theorem commandBody_off (got : List SlotRead) (bad : List Nat) (opcode : Nat) (p : Pend) {s : Device} (h : OffKept s) :
    OffKept (commandBody got bad opcode p s).dev := by
  by_cases hblock : opcode / 256 = 0x0E
  · unfold commandBody
    rw [hblock]
    cases hfind : (commandsOf got bad 0x0E).lookup (opcode % 256) with
    | none => exact h
    | some body =>
      obtain ⟨before, after, hrow, _⟩ := List.lookup_eq_some_iff.mp hfind
      have hmem : (opcode % 256, body) ∈ commandsOf got bad 0x0E := by simp [hrow]
      simp only [commandsOf, List.mem_cons, Prod.mk.injEq, List.not_mem_nil, or_false] at hmem
      obtain ⟨-, rfl⟩ | ⟨-, rfl⟩ | ⟨-, rfl⟩ | ⟨-, rfl⟩ | ⟨-, rfl⟩ := hmem
      · exact safLoad_off bad p h
      · exact safConfirm_off bad p h
      · exact setRequest_off p h
      · exact faultReset_off p h
      · exact safClear_off p h
  · exact (KeepsGates.of_keepsSaf (commandBody_keepsSaf got bad hblock p s)).off h

theorem commandDispatch_off (buf : HostBuf) (got : List SlotRead) (bad : List Nat) {s : Device} (h : OffKept s) :
    OffKept (commandDispatch buf got bad s) := by
  unfold commandDispatch
  refine .ite h ?_
  split
  · exact h
  next prio n _ =>
    dsimp only
    generalize hlast : ({ s with hif.lastRing := _ } : Device) = t
    have ht : OffKept t := KeepsGates.off (s := s) (hlast ▸ by simp) h
    split
    · exact runCmd_off ht fun p u hu => commandBody_off got bad _ p hu
    · exact KeepsGates.off (.of_keepsSaf (by simp)) ht
    · exact ht

theorem spireWrite_off {f : Device → Device} {s : Device} (h : OffKept s) (hf : ∀ t, KeepsSaf t (f t)) :
    OffKept (spireWrite f s) :=
  KeepsGates.off (.of_keepsSaf ((spireWrite_keepsSaf s f s hf).mpr (.refl s))) h

theorem restartDelay_off {s : Device} (h : OffKept s) : OffKept (restartDelay s) := by
  unfold restartDelay
  split
  · exact h
  · refine .ite h (.ite (KeepsGates.off (s := s) (.of_keepsSaf (by simp)) h) (.of_low (deviceReset_low ..)))

theorem powerLoss_low (clkCause : Nat) (held : Option Nat) (s : Device) : GatesLow (powerLoss clkCause held s) :=
  resetDevice_low ..

theorem powerOn_low (s : Device) : GatesLow (powerOn s) := by
  unfold powerOn
  dsimp only
  generalize hlost : powerLoss 1 none s = t
  have ht : GatesLow t := hlost ▸ powerLoss_low ..
  refine KeepsGates.low (.of_keepsSaf ?_) ht
  split <;> simp

theorem railOut_off (r : Nat) {s : Device} (h : OffKept s) : OffKept (railOut r s) := by
  unfold railOut
  refine .ite h ?_
  extract_lets +onlyGivenNames _ t _ u
  have ht : OffKept t := KeepsGates.off (s := s) (by simp [t]) h
  have hu : OffKept u := KeepsGates.off (s := t) (by simp [u]) ht
  clear_value u t
  refine .ite (.ite ht (KeepsGates.off (s := t) (by simp) ht)) ?_
  refine .ite (KeepsGates.off (.of_keepsSaf (by simp)) hu) (.ite (KeepsGates.off (.of_keepsSaf (by simp)) hu) ?_)
  refine .ite (channelFault_off 4 0 hu) (.ite (channelFault_off 4 1 hu) (.of_low ?_))
  exact KeepsGates.low (s := powerLoss 4 (some 4) u) (by simp) (powerLoss_low ..)

theorem thermalSample_off (spire dome : Int) {s : Device} (h : OffKept s) : OffKept (thermalSample spire dome s) := by
  unfold thermalSample
  refine .ite h ?_
  extract_lets +onlyGivenNames _ t
  have ht : OffKept t := KeepsGates.off (s := s) (by simp [t]) h
  clear_value t
  split
  · exact .ite (KeepsGates.off (s := t) (by simp) ht) ht
  · exact ht
  · have hwarned : OffKept (thermWarn 1 dome (thermWarn 0 spire t)) := KeepsGates.off (.of_keepsSaf (by simp)) ht
    refine .ite (.of_low (powerLoss_low ..)) (.ite ?_ hwarned)
    exact KeepsGates.off (.of_keepsSaf (by simp)) hwarned

/-- Every row of the table of operations keeps the gates low while Belfry does not drive: those that do not reach Belfry
keep its state, and each of the others keeps the invariant. -/
theorem exec_off (c : Instr) (s : State) (h : OffKept s.dev) :
    ∃ d, exec c s = .next { s with dev := d } ∧ OffKept d := by
  cases c
  case commandDispatch buf got bad => exact ⟨_, rfl, commandDispatch_off buf got bad h⟩
  case frameReceive p at_ bytes => exact ⟨_, rfl, (frameReceive_keepsGates p at_ bytes s.dev).off h⟩
  case safInputSample b contacts fb => exact ⟨_, rfl, (inputSample_keepsGates b contacts fb s.dev).off h⟩
  case safetyCycle b => exact ⟨_, rfl, safetyCycle_off b h⟩
  case discrepancyTimeout n => exact ⟨_, rfl, (discTimeout_keepsGates n s.dev).off h⟩
  case testPulse n low off on_ => exact ⟨_, rfl, testPulse_off n low off on_ h⟩
  case feedbackTimeout n low => exact ⟨_, rfl, feedbackTimeout_off n low h⟩
  case channelFault cause attr => exact ⟨_, rfl, channelFault_off cause attr h⟩
  case degradedTimeout => exact ⟨_, rfl, degradedTimeout_off h⟩
  case safInitDone ok => exact ⟨_, rfl, initDone_off ok h⟩
  case safeFrameProduce p => exact ⟨_, rfl, (safeProduce_keepsGates p s.dev).off h⟩
  case safeFrameReceive => exact ⟨_, rfl, (safeReceive_keepsGates s.dev).off h⟩
  case sfWatchdogTimeout k => exact ⟨_, rfl, (sfWatchdog_keepsGates k s.dev).off h⟩
  case singleLanTimeout k => exact ⟨_, rfl, (singleTimeout_keepsGates k s.dev).off h⟩
  case confirmTimeout => exact ⟨_, rfl, (confirmTimeout_keepsGates s.dev).off h⟩
  case safLoadConfig d => exact ⟨_, rfl, runCmd_off h fun p _ hu => safLoad_off d.bad p hu⟩
  case safConfirm d => exact ⟨_, rfl, runCmd_off h fun p _ hu => safConfirm_off d.bad p hu⟩
  case safSetRequest d => exact ⟨_, rfl, runCmd_off h fun p _ hu => setRequest_off p hu⟩
  case safFaultReset d => exact ⟨_, rfl, runCmd_off h fun p _ hu => faultReset_off p hu⟩
  case safClearCounters d => exact ⟨_, rfl, runCmd_off h fun p _ hu => safClear_off p hu⟩
  case kepRestartDelayExpiry => exact ⟨_, rfl, restartDelay_off h⟩
  case heartbeatReceive lane bytes pact fenced =>
    exact ⟨_, rfl, (heartbeatReceive_keepsGates lane bytes pact fenced s.dev).off h⟩
  case takeoverEnable => exact ⟨_, rfl, (takeoverEnable_keepsGates s.dev).off h⟩
  case domeWatchdog => exact ⟨_, rfl, .ite h (.of_low (resetDevice_low ..))⟩
  case powerOn => exact ⟨_, rfl, .of_low (powerOn_low s.dev)⟩
  case resetNAssert testMode => exact ⟨_, rfl, .of_low (resetDevice_low ..)⟩
  case railOutOfWindow r => exact ⟨_, rfl, railOut_off r h⟩
  case referenceLoss why => exact ⟨_, rfl, .ite h (.of_low (resetDevice_low ..))⟩
  case thermalSample spire dome => exact ⟨_, rfl, thermalSample_off spire dome h⟩
  case unsupportedOpcode d => exact ⟨_, rfl, .ite (runCmd_off h fun _ _ hu => hu) h⟩
  case qresumeContinue n => exact ⟨_, rfl, spireWrite_off h (by simp)⟩
  case qresumeFlush n got => exact ⟨_, rfl, spireWrite_off h (by simp)⟩
  case ethPortEnWrite v => exact ⟨_, rfl, spireWrite_off h (by simp)⟩
  all_goals exact ⟨_, rfl, KeepsGates.off (.of_keepsSaf (by simp)) h⟩

/-- Settles O59: the invariant `OffKept` holds after every row (`exec_off`) and after an idle cycle. -/
theorem safeOffKept : Obligations.SafeOffKept := by
  unfold Obligations.SafeOffKept
  intro s t hs hstep
  rw [safeOff_iff] at hs ⊢
  unfold step at hstep
  split at hstep
  next c rest _ =>
    obtain ⟨d, hexec, hd⟩ := exec_off c { s with pending := rest } hs
    rw [hexec] at hstep
    cases hstep
    exact hd
  next =>
    cases hstep
    exact (KeepsGates.of_keepsSaf (s := s.dev) (by simp)).off hs

end Sys2Proof.Proofs.Belfry
end

section
/-!
The front of the queue and the answer of every command (02_host_rings_windows).
-/
namespace Sys2Proof.Proofs.Steps
open Sys2Proof Sys2Proof.Machine Sys2Proof.Laws

/-- Settles O1: a step takes the front command out of the queue and gives it the rest. -/
theorem stepTakesFront : Obligations.StepTakesFront := by
  unfold Obligations.StepTakesFront
  intro c rest d
  unfold step
  rfl

/-- Settles O2: each constructor's arm answers `next` with a new block (`exec_next`). -/
theorem everyCommandAnswers : Obligations.EveryCommandAnswers := by
  unfold Obligations.EveryCommandAnswers
  exact exec_next

end Sys2Proof.Proofs.Steps
end

section
/-!
Doorbells, completions and the state of the rings (02_host_rings_windows).
-/
namespace Sys2Proof.Proofs.HostRings
open Sys2Proof Sys2Proof.Machine Sys2Proof.Laws
open Sys2Proof.Proofs.DispatchMatching Sys2Proof.Proofs.SecurityAccess Sys2Proof.Proofs.PowerStartup

/-! ## Doorbells -/

theorem doorbellWord_eq_none {b : BusWrite} (h : b.off ≠ 0 ∨ (b.width ≠ 4 ∧ b.width ≠ 8)) : doorbellWord b = none := by
  unfold doorbellWord
  exact if_neg (by omega)

theorem ringDoorbell_of_index {n v : Nat} {b : BusWrite} {s : Device} (hn : n < 32) (hb : doorbellWord b = some v)
    (hring : (ringOf s n).enable = true) (h16 : v < 2 ^ 16) (hsize : v < 2 ^ (ringOf s n).sizeLog2) :
    ringDoorbell n b s = modRing n (fun r => { r with pi := v }) s := by
  have hlow : ¬65536 ≤ v := Nat.not_le.mpr h16
  simp [ringDoorbell, hb, hring, Nat.not_le.mpr hn, hlow, Nat.not_le.mpr hsize]

theorem ringDoorbell_of_range {n v : Nat} {b : BusWrite} {s : Device} (hn : n < 32) (hb : doorbellWord b = some v)
    (hring : (ringOf s n).enable = true) (hout : 2 ^ 16 ≤ v ∨ 2 ^ (ringOf s n).sizeLog2 ≤ v) :
    ringDoorbell n b s = raise Ev.doorbellRange [(2, 8 * n), (4, v)] s := by
  have haccepted : ¬(decide (32 ≤ n) || !(ringOf s n).enable) = true := by simpa [hring] using hn
  unfold ringDoorbell
  rw [hb]
  exact (if_neg haccepted).trans (if_pos (by simpa using hout))

theorem ringDoorbell_of_refused {n : Nat} {b : BusWrite} {s : Device}
    (h : (ringOf s n).enable = false ∨ b.off ≠ 0 ∨ (b.width ≠ 4 ∧ b.width ≠ 8)) : ringDoorbell n b s = accError s := by
  unfold ringDoorbell
  obtain hring | hword := h
  · split
    · rfl
    · simp [hring]
  · rw [doorbellWord_eq_none hword]

/-- Settles O5: a doorbell of valid width to an enabled ring (`doorbellWord_of_valid`), and one that is refused. -/
theorem ringDoorbellWrite : Obligations.RingDoorbellWrite := by
  unfold Obligations.RingDoorbellWrite
  refine ⟨?index, ?range, ?refused⟩
  case index =>
    intro n b s hn hoff hwidth hring h16 hsize
    rw [exec_ringDoorbell, execRingDoorbell, ringDoorbell_of_index hn (doorbellWord_of_valid hoff hwidth) hring h16 hsize]
  case range =>
    intro n b s hn hoff hwidth hring hout
    rw [exec_ringDoorbell, execRingDoorbell, ringDoorbell_of_range hn (doorbellWord_of_valid hoff hwidth) hring hout]
  case refused =>
    intro n b s h
    rw [exec_ringDoorbell, execRingDoorbell, ringDoorbell_of_refused h, accError]

/-- The event-ring slots from the consumer index up to `v` (R78). -/
def evqUpTo (s : Device) (v : Nat) : Nat := (v + 2 ^ s.hif.evqSize - s.hif.evqCons) % 2 ^ s.hif.evqSize

theorem eventRingDoorbell_of_index {v : Nat} {b : BusWrite} {s : Device} (hb : doorbellWord b = some v)
    (hring : s.hif.evqEnable = true) (hsize : v < 2 ^ s.hif.evqSize) (hused : evqUpTo s v ≤ evqUpTo s s.hif.evqProd) :
    eventRingDoorbell b s =
      if evqSpace { s with hif.evqCons := v } && !s.hif.evqGapOwed then raiseRingGap { s with hif.evqCons := v }
      else { s with hif.evqCons := v } := by
  unfold evqUpTo at hused
  simp [eventRingDoorbell, hb, hring, Nat.not_le.mpr hsize, Nat.not_lt.mpr hused]

theorem eventRingDoorbell_of_range {v : Nat} {b : BusWrite} {s : Device} (hb : doorbellWord b = some v)
    (hring : s.hif.evqEnable = true)
    (hout : 2 ^ s.hif.evqSize ≤ v ∨ evqUpTo s s.hif.evqProd < evqUpTo s v) :
    eventRingDoorbell b s = raise Ev.doorbellRange [(2, 0x100), (4, v)] s := by
  unfold evqUpTo at hout
  simp [eventRingDoorbell, hb, hring, hout]

theorem eventRingDoorbell_of_disabled {b : BusWrite} {s : Device} (h : s.hif.evqEnable = false) :
    eventRingDoorbell b s = accError s := by
  unfold eventRingDoorbell
  split
  · rfl
  · simp [h]

/-- Settles O6: an index between the consumer index and HIF_EVQ_PROD, one outside, and a disabled event ring. -/
theorem eventRingDoorbellWrite : Obligations.EventRingDoorbellWrite := by
  unfold Obligations.EventRingDoorbellWrite
  refine ⟨?index, ?range, ?disabled⟩
  case index =>
    intro b s hoff hwidth hring hsize hused
    rw [exec_eventRingDoorbell, execEventRingDoorbell,
      eventRingDoorbell_of_index (doorbellWord_of_valid hoff hwidth) hring hsize hused]
  case range =>
    intro b s hoff hwidth hring hout
    rw [exec_eventRingDoorbell, execEventRingDoorbell,
      eventRingDoorbell_of_range (doorbellWord_of_valid hoff hwidth) hring hout]
  case disabled =>
    intro b s h
    rw [exec_eventRingDoorbell, execEventRingDoorbell, eventRingDoorbell_of_disabled h, accError]

/-! ## Completions -/

theorem writeCompletion_ok (n tag detail : Nat) (s : Device) :
    writeCompletion n tag false .ok detail s = modRing n stepRing
      (toHost (.write ((ringOf s n).cpl.toNat + 16 * (ringOf s n).ci)
        (completionRec tag (ringOf s n).ci 0 (ringOf s n).phase (nowS s) detail)) s) := rfl

/-- A completion with another status halts the ring at the slot it completes (R70). -/
theorem ringOf_writeCompletion_of_failed (n tag detail : Nat) {st : Status} (s : Device) (h : st ≠ .ok) :
    ringOf (writeCompletion n tag false st detail s) n =
      { stepRing (ringOf s n) with halted := true, failIndex := (ringOf s n).ci, failStatus := st.code } := by
  unfold writeCompletion
  simp only [h, if_false, Bool.false_eq_true]
  unfold haltRing
  rw [ringOf_congr (raise_keepsRings (.refl _) _ _), ringOf_modRing_same, ringOf_modRing_same,
    ringOf_congr (toHost_keepsRings (.refl s) _)]

/-- Settles O8: the step of the ring on success, and the halt of the ring otherwise. That PI goes with CI where nothing else
is pending is the model's reading of a descriptor without a doorbell (log 49). -/
theorem commandCompletes : Obligations.CommandCompletes := by
  unfold Obligations.CommandCompletes
  refine ⟨?success, ?failure⟩
  case success =>
    intro n tag detail s
    rw [writeCompletion_ok]
    rfl
  case failure =>
    intro n tag st detail s h
    rw [ringOf_writeCompletion_of_failed n tag detail s h]
    exact ⟨rfl, rfl, rfl, rfl⟩

end Sys2Proof.Proofs.HostRings
end

section
/-!
Fetching and starting descriptors, and the run state of the rings (02_host_rings_windows).
-/
namespace Sys2Proof.Proofs.HostRings
open Sys2Proof Sys2Proof.Machine Sys2Proof.Laws
open Sys2Proof.Proofs.SecurityAccess Sys2Proof.Proofs.PowerStartup
open Sys2Proof.Proofs.ErrorsOrdering (foldl_keeping)

/-! ## Writes of one entry of a table -/

theorem tset_tset_same {α : Type} (t : Tab α) (k : Nat) (v w : α) : tset (tset t k v) k w = tset t k w := by
  induction t with
  | nil => simp [tset]
  | cons e rest ih =>
    by_cases hk : e.1 = k
    · simp [tset, hk]
    · by_cases hlt : k < e.1
      · simp [tset, hk, hlt]
      · simp [tset, hk, hlt, ih]

theorem modRing_modRing (n : Nat) (f g : Ring → Ring) (s : Device) :
    modRing n f (modRing n g s) = modRing n (fun r => f (g r)) s := by
  simp only [modRing, ringOf, tget_tset_same, tset_tset_same]

theorem modRing_congr {n : Nat} {f g : Ring → Ring} {s : Device} (h : f (ringOf s n) = g (ringOf s n)) :
    modRing n f s = modRing n g s := by
  simp only [modRing, h]

/-! ## Fetching -/

theorem foldl_toHost_keepsRings {α : Type} (f : α → Out) (l : List α) (s : Device) :
    KeepsRings s (l.foldl (fun t j => toHost (f j) t) s) := by
  induction l generalizing s with
  | nil => exact .refl s
  | cons j rest ih => exact ⟨(ih _).rings.trans (toHost_keepsRings (.refl s) (f j)).rings⟩

theorem descriptorFetch_of_images {n : Nat} {imgs : List (List Byte)} {s : Device} (hn : n < 32)
    (hring : (ringOf s n).enable = true) (hruns : (ringOf s n).halted = false) (hd0 : s.hif.d3hot = false)
    (hhead : (ringOf s n).prefetch = [] ∨ ∃ d rest, (ringOf s n).prefetch = .desc d :: rest)
    (hroom : (ringOf s n).prefetch.length + imgs.length ≤ 8)
    (hpending : (ringOf s n).prefetch.length + imgs.length ≤ pendingCount (ringOf s n)) :
    descriptorFetch n (imgs.map .bytes) s =
      modRing n (fun r => { r with prefetch := r.prefetch ++ imgs.map (fun b => .desc (descOf n b)) })
        ((List.range imgs.length).foldl (fun t j => toHost (.read ((ringOf s n).base.toNat + 64 *
          (((ringOf s n).ci + (ringOf s n).prefetch.length + j) % 2 ^ (ringOf s n).sizeLog2)) 64) t) s) := by
  have hguard : ¬(!(ringOf s n).enable || (ringOf s n).halted || s.hif.d3hot || decide (32 ≤ n)) = true := by
    simp [hring, hruns, hd0, hn]
  have hall : min imgs.length (min (pendingCount (ringOf s n) - (ringOf s n).prefetch.length)
      (8 - (ringOf s n).prefetch.length)) = imgs.length := by omega
  have hfetched : (imgs.map SlotRead.bytes).map (fetchedOf n) = imgs.map (fun b => .desc (descOf n b)) := by
    simp [Function.comp_def, fetchedOf]
  unfold descriptorFetch
  refine (if_neg hguard).trans ?_
  simp only [hfetched, List.length_map, hall]
  rw [List.take_of_length_le (by simp)]
  split
  next a ha =>
    rw [ringOf_modRing_same, ringOf_congr (foldl_toHost_keepsRings _ _ s)] at ha
    obtain hempty | ⟨d, rest, hdesc⟩ := hhead
    · cases imgs <;> simp [hempty] at ha
    · simp [hdesc] at ha
  next => rfl

theorem descriptorFetch_of_failed {n : Nat} {a : Access} {s : Device} (hn : n < 32)
    (hring : (ringOf s n).enable = true) (hruns : (ringOf s n).halted = false) (hidle : (ringOf s n).busy = false)
    (hd0 : s.hif.d3hot = false) (hnone : (ringOf s n).prefetch = []) (hpending : 1 ≤ pendingCount (ringOf s n)) :
    descriptorFetch n [.fail a] s =
      fetchFailed n a (modRing n (fun r => { r with prefetch := [.fail a] })
        (toHost (.read ((ringOf s n).base.toNat + 64 * ((ringOf s n).ci % 2 ^ (ringOf s n).sizeLog2)) 64) s)) := by
  have hguard : ¬(!(ringOf s n).enable || (ringOf s n).halted || s.hif.d3hot || decide (32 ≤ n)) = true := by
    simp [hring, hruns, hd0, hn]
  have hone : min 1 (min (pendingCount (ringOf s n) - 0) (8 - 0)) = 1 := by omega
  unfold descriptorFetch
  refine (if_neg hguard).trans ?_
  simp only [hnone, List.map_cons, List.map_nil, List.length_cons, List.length_nil, Nat.zero_add, hone,
    List.range_one, List.foldl_cons, List.foldl_nil, Nat.add_zero, List.take_succ_cons, List.take_zero, fetchedOf]
  rw [ringOf_modRing_same, ringOf_congr (toHost_keepsRings (.refl s) _), hnone]
  simp only [hidle, Bool.false_eq_true, if_false]
  exact congrArg (fetchFailed n a) (modRing_congr (by
    rw [ringOf_congr (toHost_keepsRings (.refl s) _), hnone, List.nil_append]))

/-! ## Starting -/

theorem commandDispatch_of_desc {prio : Bool} {n : Nat} {d : Desc} {rest : List Fetched} {buf : HostBuf}
    {got : List SlotRead} {bad : List Nat} {s : Device} (hup : s.btr.spireUp = true) (hd0 : s.hif.d3hot = false)
    (hserved : servedRing s = some (prio, n)) (hnext : (ringOf s n).prefetch = .desc d :: rest) :
    commandDispatch buf got bad s =
      runCmd (commandBody got bad d.opcode.toNat) { d with ring := n, buf := buf }
        { s with hif.lastRing := if prio then (n, s.hif.lastRing.2) else (s.hif.lastRing.1, n) } := by
  have hruns : ¬(!s.btr.spireUp || s.hif.d3hot) = true := by simp [hup, hd0]
  have hhead : (ringOf s n).prefetch.head? = some (.desc d) := by rw [hnext, List.head?_cons]
  unfold commandDispatch
  refine (if_neg hruns).trans ?_
  unfold ringOf at hhead ⊢
  simp only [hserved, hhead]

/-- A ready ring is among those that a search after the ring served last looks at. -/
theorem nextRing_isSome {s : Device} {prio : Bool} {a : Nat} (last : Nat) (ha : a < 32)
    (hready : ringReady s prio a = true) : ∃ n, nextRing s prio last = some n ∧ ringReady s prio n = true := by
  have hmem : a ∈ (List.range 32).map (fun k => (last + 1 + k) % 32) := by
    refine List.mem_map.mpr ⟨(a + 32 - (last + 1) % 32) % 32, List.mem_range.mpr (Nat.mod_lt _ (by omega)), ?_⟩
    omega
  have hsome : (nextRing s prio last).isSome = true := List.find?_isSome.mpr ⟨a, hmem, hready⟩
  obtain ⟨n, hn⟩ := Option.isSome_iff_exists.mp hsome
  exact ⟨n, hn, List.find?_some hn⟩

/-- The class of PRIO 1 is served before the other (R67). -/
theorem servedRing_of_first_class {s : Device} {a : Nat} (ha : a < 32) (hready : ringReady s true a = true) :
    ∃ n, servedRing s = some (true, n) ∧ ringReady s true n = true := by
  obtain ⟨n, hn, hnready⟩ := nextRing_isSome s.hif.lastRing.1 ha hready
  exact ⟨n, by simp [servedRing, hn], hnready⟩

/-- No command stands in the table of commands for these block IDs (R30, R745, R801). -/
theorem commandsOf_of_unassigned {block : Nat} (h : 0x1A ≤ block ∨ block = 0x16 ∨ block = 0x18 ∨ block = 0x19) :
    commandsOf [] [] block = [] := by
  unfold commandsOf
  split
  case h_22 => rfl
  all_goals omega

theorem unsupportedOpcode_of_unassigned {d : Desc} {s : Device} (hstart : canStart d s = true)
    (h : 0x1A ≤ d.opcode.toNat / 256 ∨ d.opcode.toNat / 256 = 0x16 ∨ d.opcode.toNat / 256 = 0x18 ∨
      d.opcode.toNat / 256 = 0x19) :
    unsupportedOpcode d s = completed d s .unsupported 0 [] (started d s) := by
  unfold unsupportedOpcode
  rw [commandsOf_of_unassigned h]
  exact (if_pos rfl).trans (runCmd_of_done hstart (show unsupportedBody (pendOf d s) _ = .done .unsupported 0 [] _ from rfl))

theorem nopBody_of_fields {d : Desc} {s t : Device} (h : badField { target := false } [] d = none) :
    nopBody (pendOf d s) t = .done .ok 0 [] t :=
  checked_none _ _ _ _ (by rw [pendOf_desc, firstFail_bad h, firstFail_nil])

theorem leastOffence_mem {l : List (Bool × Nat)} {o : Nat} (h : leastOffence l = some o) : ∃ e ∈ l, e.2 = o := by
  induction l generalizing o with
  | nil => simp [leastOffence] at h
  | cons e rest ih =>
    obtain ⟨offends, at_⟩ := e
    unfold leastOffence at h
    split at h
    next =>
      split at h
      · exact ⟨_, List.mem_cons_self, Option.some.inj h⟩
      · simp at h
    next m hm =>
      obtain ⟨e, he, heo⟩ := ih hm
      split at h
      · obtain hle | hle := Nat.le_total at_ m
        · exact ⟨_, List.mem_cons_self, by simpa [Nat.min_eq_left hle] using h⟩
        · exact ⟨e, List.mem_cons_of_mem _ he, by simpa [Nat.min_eq_right hle, heo] using h⟩
      · exact ⟨e, List.mem_cons_of_mem _ he, by simpa [heo] using h⟩

theorem leastOffence_skip (o : Nat) (l : List (Bool × Nat)) : leastOffence ((false, o) :: l) = leastOffence l := by
  rw [leastOffence]
  cases leastOffence l <;> rfl

/-- An offence before all others is the least. -/
theorem leastOffence_of_first {rest : List (Bool × Nat)} {o : Nat} (h : ∀ e ∈ rest, o ≤ e.2) :
    leastOffence ((true, o) :: rest) = some o := by
  unfold leastOffence
  split
  · rfl
  next m hm =>
    obtain ⟨e, he, rfl⟩ := leastOffence_mem hm
    simp [Nat.min_eq_left (h e he)]

/-- The least offence of a descriptor is that of TARGET where FLAGS is in order and TARGET is not (R809). -/
theorem badField_of_target {d : Desc} (hflags : d.flags.toNat / 2 = 0) (htarget : d.target ≠ 0) :
    badField { target := false } [] d = some 8 := by
  have hskip : (d.flags.toNat / 2 != 0) = false := by simp [hflags]
  have hoffends : (!false && d.target != 0) = true := by simpa using htarget
  unfold badField
  simp only [hskip, hoffends, List.cons_append]
  rw [leastOffence_skip]
  exact leastOffence_of_first (by simp [pOffends, pwords])

theorem nopBody_of_target {d : Desc} {s t : Device} (h : badField { target := false } [] d = some 8) :
    nopBody (pendOf d s) t = .done .badField 8 [] t :=
  checked_some _ _ _ _ .badField 8 (by simp [firstFail, checkFails, h])

/-- Settles O7, row by row. As the model's log 48 has it, an opcode that names no command completes before its fields are
looked at, and as its log 77 has it, the completion of a failed read signals no vector. -/
theorem descriptorsFetchAndStart : Obligations.DescriptorsFetchAndStart := by
  unfold Obligations.DescriptorsFetchAndStart
  refine ⟨?images, ?failed, ?starts, ?first, ?unassigned, ?nop, ?target⟩
  case images =>
    intro n imgs s hn hring hruns hd0 hhead hroom hpending
    rw [exec_descriptorFetch, execDescriptorFetch,
      descriptorFetch_of_images hn hring hruns hd0 hhead hroom hpending]
  case failed =>
    intro n a s hn hring hruns hidle hd0 hnone hpending
    rw [exec_descriptorFetch, execDescriptorFetch,
      descriptorFetch_of_failed hn hring hruns hidle hd0 hnone hpending, fetchFailed]
  case starts =>
    intro prio n d rest buf got bad s hup hd0 hserved hnext
    rw [exec_commandDispatch, execCommandDispatch, commandDispatch_of_desc hup hd0 hserved hnext]
  case first =>
    intro a b s ha _ hready _
    exact servedRing_of_first_class ha hready
  case unassigned =>
    intro d s hstart hblock
    rw [exec_unsupportedOpcode, execUnsupportedOpcode, unsupportedOpcode_of_unassigned hstart hblock]
  case nop =>
    intro d s hstart hfields
    rw [exec_nop, execNop, runCmd_of_done hstart (nopBody_of_fields hfields)]
  case target =>
    intro d s hstart hflags htarget _
    rw [exec_nop, execNop, runCmd_of_done hstart (nopBody_of_target (badField_of_target hflags htarget))]

end Sys2Proof.Proofs.HostRings
end

section
/-!
Resuming, enabling and disabling the command rings and the event ring (02_host_rings_windows).
-/
namespace Sys2Proof.Proofs.HostRings
open Sys2Proof Sys2Proof.Machine Sys2Proof.Laws
open Sys2Proof.Proofs.SecurityAccess Sys2Proof.Proofs.PowerStartup
open Sys2Proof.Proofs.Counters (spireWrite_of_up)

/-! ## Resuming -/

theorem resumeRing_continue (n : Nat) (s : Device) :
    resumeRing n false [] s = (0, raise Ev.ringResumed [(1, n), (1, 1), (2, 0)]
      (modRing n (fun r => { r with prefetch := [], halted := false }) s)) := rfl

theorem ringResume_of_halted {d : Desc} {got : List SlotRead} {s t : Device} (hn : d.target.toNat < 32)
    (hfields : badField { pmask := 1 } [(d.p0 != 1 && d.p0 != 2, 24)] d = none)
    (hring : (ringOf t d.target.toNat).enable = true) (hhalted : (ringOf t d.target.toNat).halted = true) :
    ringResume got (pendOf d s) t = .done .ok (resumeRing d.target.toNat (d.p0 == 2) got t).1 []
      (resumeRing d.target.toNat (d.p0 == 2) got t).2 := by
  dsimp only [ringResume]
  refine (checked_none _ _ _ _ ?_).trans ?_
  · rw [pendOf_desc, firstFail_when_false (by simpa using Nat.le_of_lt_succ hn), firstFail_bad hfields,
      firstFail_when_false (by simp [hring, hhalted]), firstFail_nil]
  · rfl

theorem qresume_of_halted {n : Nat} (flush : Bool) (got : List SlotRead) {s : Device} (hn : n < 32)
    (hring : (ringOf s n).enable = true) (hhalted : (ringOf s n).halted = true) :
    qresume n flush got s = (resumeRing n flush got s).2 := by
  simp [qresume, hring, hhalted, hn]

/-! ## Bits of a configuration word -/

/-- A word in which one bit was set or cleared: the bits above it, the bit, and the bits below it. -/
theorem putBit_eq (k : Nat) (b : Bool) (v : Nat) :
    putBit k b v = 2 ^ (k + 1) * (v / 2 ^ (k + 1)) + flag k b + v % 2 ^ k := by
  have hword : 2 ^ k * (v / 2 ^ k) + v % 2 ^ k = v := Nat.div_add_mod v _
  have hhigh : v / 2 ^ k = 2 * (v / 2 ^ (k + 1)) + v / 2 ^ k % 2 := by
    rw [pow_succ, ← Nat.div_div_eq_div_mul, Nat.div_add_mod]
  have hsplit : 2 ^ k * (v / 2 ^ k) = 2 ^ (k + 1) * (v / 2 ^ (k + 1)) + 2 ^ k * (v / 2 ^ k % 2) :=
    (congrArg (2 ^ k * ·) hhigh).trans (by ring)
  have hbit : flag k (bit k v) = 2 ^ k * (v / 2 ^ k % 2) := by
    obtain h | h := Nat.mod_two_eq_zero_or_one (v / 2 ^ k) <;> simp [flag, bit, h]
  unfold putBit
  omega

/-- A field reads only the bits up to its highest. -/
theorem bits_eq_mod {hi lo : Nat} (v : Nat) (h : lo ≤ hi + 1) : bits hi lo v = v % 2 ^ (hi + 1) / 2 ^ lo := by
  conv_rhs => rw [show 2 ^ (hi + 1) = 2 ^ lo * 2 ^ (hi + 1 - lo) by rw [← pow_add]; congr 1; omega]
  rw [Nat.mod_mul_right_div_self, bits]

theorem bits_mod {hi lo w : Nat} (v : Nat) (hlo : lo ≤ hi + 1) (h : hi < w) : bits hi lo (v % 2 ^ w) = bits hi lo v := by
  rw [bits_eq_mod _ hlo, bits_eq_mod _ hlo, Nat.mod_mod_of_dvd v (pow_dvd_pow 2 h)]

theorem bit_eq_bits (k v : Nat) : bit k v = (bits k k v == 1) := by simp [bit, bits]

theorem bit_mod {k w : Nat} (v : Nat) (h : k < w) : bit k (v % 2 ^ w) = bit k v := by
  rw [bit_eq_bits, bits_mod v (by omega) h, ← bit_eq_bits]

theorem bits_putBit_of_below {hi lo k : Nat} (b : Bool) (v : Nat) (hlo : lo ≤ hi + 1) (h : hi < k) :
    bits hi lo (putBit k b v) = bits hi lo v := by
  have hlow : putBit k b v % 2 ^ k = v % 2 ^ k := by
    have hflag : flag k b = 2 ^ k * flag 0 b := by cases b <;> simp [flag]
    rw [putBit_eq, hflag, pow_succ, mul_assoc, ← mul_add, Nat.mul_add_mod, Nat.mod_mod]
  rw [← bits_mod (w := k) (putBit k b v) hlo h, hlow, bits_mod v hlo h]

theorem putBit_div (k : Nat) (b : Bool) (v : Nat) : putBit k b v / 2 ^ (k + 1) = v / 2 ^ (k + 1) := by
  have hlow : v % 2 ^ k < 2 ^ k := Nat.mod_lt _ (Nat.two_pow_pos k)
  have hsmall : flag k b + v % 2 ^ k < 2 ^ (k + 1) := by rw [pow_succ]; cases b <;> simp [flag] <;> omega
  rw [putBit_eq, add_assoc, Nat.mul_add_div (Nat.two_pow_pos _), Nat.div_eq_of_lt hsmall, add_zero]

theorem bits_putBit_of_above {hi lo k : Nat} (b : Bool) (v : Nat) (h : k < lo) :
    bits hi lo (putBit k b v) = bits hi lo v := by
  have hdiv : putBit k b v / 2 ^ lo = v / 2 ^ lo := by
    rw [show lo = k + 1 + (lo - (k + 1)) by omega, pow_add, ← Nat.div_div_eq_div_mul, ← Nat.div_div_eq_div_mul, putBit_div]
  rw [bits, bits, hdiv]

theorem bit_putBit_of_above {j k : Nat} (b : Bool) (v : Nat) (h : k < j) : bit j (putBit k b v) = bit j v := by
  rw [bit_eq_bits, bits_putBit_of_above b v h, ← bit_eq_bits]

theorem bit_putBit_same (k : Nat) (b : Bool) (v : Nat) : bit k (putBit k b v) = b := by
  have hlow : v % 2 ^ k < 2 ^ k := Nat.mod_lt _ (Nat.two_pow_pos k)
  have hdiv : putBit k b v / 2 ^ k = 2 * (v / 2 ^ (k + 1)) + flag 0 b := by
    have hflag : flag k b = 2 ^ k * flag 0 b := by cases b <;> simp [flag]
    rw [putBit_eq, hflag, pow_succ, mul_assoc, ← mul_add, Nat.mul_add_div (Nat.two_pow_pos k),
      Nat.div_eq_of_lt hlow, add_zero]
  rw [bit, hdiv]
  cases b <;> simp [flag]

/-! ## Enabling and disabling a ring -/

theorem writeWord_of_hif {off : Nat} (v : Nat) {s : Device} (hup : s.btr.spireUp = true) (h : off < 65536) :
    writeWord off v s = hifWrite off v s := by
  simp [writeWord, hup, h]

theorem ringEnable_eq (v : Nat) (on_ : Bool) {n : Nat} {s : Device} (hn : n < 32) (hup : s.btr.spireUp = true) :
    Machine.ringEnable n v on_ s = qcfgWrite n (putBit 16 on_ (v % 2 ^ 32)) s := by
  have hring : (0x1010 + 0x40 * n - 0x1000) / 0x40 = n := by omega
  have hreg : (0x1010 + 0x40 * n) % 0x40 = 0x10 := by omega
  rw [Machine.ringEnable, if_neg (by omega), writeWord_of_hif _ hup (by omega), hifWrite, if_neg (by omega),
    if_neg (by omega), if_neg (by omega), if_pos (by omega), hring, hreg]
  rfl

theorem qcfgWrite_of_enable {n v : Nat} {s : Device} (hoff : (ringOf s n).enable = false) (hon : bit 16 v = true)
    (hlow : 6 ≤ bits 4 0 v) (hhigh : bits 4 0 v ≤ 16) :
    qcfgWrite n v s = modRing n (fun r => { r with
      sizeLog2 := bits 4 0 v, vector := bits 13 8 v, prio := bit 17 v, enable := true, ci := 0, pi := 0,
      phase := true, halted := false, prefetch := [], session := r.session + 1 }) s := by
  have hsize : ¬(bits 4 0 v < 6 ∨ 16 < bits 4 0 v) := by omega
  simp only [qcfgWrite, hoff, hon, Bool.false_and, Bool.false_eq_true, if_false, Bool.not_false, Bool.and_self,
    Bool.true_and, Bool.or_eq_true, decide_eq_true_eq, hsize, if_true, modRing_modRing]
  exact modRing_congr (by simp [hoff])

theorem qcfgWrite_of_disable {n v : Nat} {s : Device} (hring : (ringOf s n).enable = true) (hoff : bit 16 v = false)
    (hidle : (ringOf s n).busy = false) (hsize : bits 4 0 v = (ringOf s n).sizeLog2) :
    qcfgWrite n v s = modRing n (fun r => { r with
      vector := bits 13 8 v, prio := bit 17 v, enable := false, prefetch := [], pi := r.ci }) s := by
  simp only [qcfgWrite, hring, hoff, hsize, Bool.false_and, Bool.false_eq_true, if_false, Bool.not_false,
    Bool.true_and, bne_self_eq_false, Bool.and_false, if_true, modRing_modRing]
  exact modRing_congr (by simp [hring, hidle])

/-- Settles O9. Disabling compares SIZE_LOG2 with the one in force: an unchanged one is no error (log 49). -/
theorem ringRunState : Obligations.RingRunState := by
  unfold Obligations.RingRunState
  refine ⟨fun d got s hstart hn hfields hring hhalted => ?_, resumeRing_continue, fun n s hup hn hring hhalted => ?_,
    fun n got s hup hn hring hhalted => ?_, fun n v s hn hup hoff hlow hhigh => ?_,
    fun n v s hn hup hring hidle hsize => ?_⟩
  · rw [exec_ringResume, execRingResume, runCmd_of_done hstart (ringResume_of_halted hn hfields hring hhalted)]
  · rw [exec_qresumeContinue, execQresumeContinue, spireWrite_of_up _ hup, qresume_of_halted _ _ hn hring hhalted]
  · rw [exec_qresumeFlush, execQresumeFlush, spireWrite_of_up _ hup, qresume_of_halted _ _ hn hring hhalted]
  · have hword : bits 4 0 (putBit 16 true (v % 2 ^ 32)) = bits 4 0 v := by
      rw [bits_putBit_of_below _ _ (by omega) (by omega), bits_mod v (by omega) (by omega)]
    rw [exec_ringEnable, execRingEnable, ringEnable_eq v true hn hup,
      qcfgWrite_of_enable hoff (bit_putBit_same ..) (hword ▸ hlow) (hword ▸ hhigh), hword,
      bits_putBit_of_below _ _ (by omega) (by omega), bits_mod v (by omega) (by omega),
      bit_putBit_of_above _ _ (by omega), bit_mod v (by omega)]
  · have hword : bits 4 0 (putBit 16 false (v % 2 ^ 32)) = bits 4 0 v := by
      rw [bits_putBit_of_below _ _ (by omega) (by omega), bits_mod v (by omega) (by omega)]
    rw [exec_ringDisable, execRingDisable, ringEnable_eq v false hn hup,
      qcfgWrite_of_disable hring (bit_putBit_same ..) hidle (hword.trans hsize),
      bits_putBit_of_below _ _ (by omega) (by omega), bits_mod v (by omega) (by omega),
      bit_putBit_of_above _ _ (by omega), bit_mod v (by omega)]

/-! ## The event ring -/

theorem eventRingEnable_eq (v : Nat) (on_ : Bool) {s : Device} (hup : s.btr.spireUp = true) :
    Machine.eventRingEnable v on_ s = evqCfgWrite (putBit 5 on_ (v % 2 ^ 32)) s := by
  rw [Machine.eventRingEnable, writeWord_of_hif _ hup (by omega)]
  rfl

theorem evqCfgWrite_of_enable {v : Nat} {s : Device} (hoff : s.hif.evqEnable = false) (hon : bit 5 v = true)
    (hlow : 6 ≤ bits 4 0 v) (hhigh : bits 4 0 v ≤ 16) :
    evqCfgWrite v s = raiseRingGap { s with
      hif.evqSize := bits 4 0 v, hif.evqVector := bits 13 8 v, hif.evqMinSev := bits 18 16 v, hif.evqEnable := true,
      hif.evqProd := 0, hif.evqCons := 0, hif.evqPhase := true } := by
  have hsize : ¬(bits 4 0 v < 6 ∨ 16 < bits 4 0 v) := by omega
  simp [evqCfgWrite, hoff, hon, hsize]

theorem evqCfgWrite_of_disable {v : Nat} {s : Device} (hring : s.hif.evqEnable = true) (hoff : bit 5 v = false)
    (hsize : bits 4 0 v = s.hif.evqSize) (hheld : s.hif.evqHeld = []) (hgap : s.hif.evqGapRec = none) :
    evqCfgWrite v s = { s with
      hif.evqVector := bits 13 8 v, hif.evqMinSev := bits 18 16 v, hif.evqEnable := false,
      hif.evqGapOwed := false } := by
  simp [evqCfgWrite, hring, hoff, hsize, undelivered, hheld, hgap, missEvents]

theorem raiseRingGap_of_none {s : Device} (h : s.hif.evqMiss = none) : raiseRingGap s = s := by
  simp [raiseRingGap, h]

theorem eventDelivery_of_held {r : EvRec} {rest : List EvRec} {s : Device} (hring : s.hif.evqEnable = true)
    (hroom : evqSpace s = true) (hd0 : s.hif.d3hot = false) (hgap : s.hif.evqGapOwed = false)
    (hmiss : s.hif.evqMiss = none) (hheld : s.hif.evqHeld = r :: rest) :
    eventDelivery s = writeEvent r { s with hif.evqHeld := rest } := by
  simp [eventDelivery, hring, hroom, hd0, hgap, raiseRingGap_of_none hmiss, hheld]

theorem eventDelivery_of_stopped {s : Device} (h : evqSpace s = false ∨ s.hif.evqEnable = false) :
    eventDelivery s = s :=
  if_pos (by obtain h | h := h <;> simp [h])

/-- Settles O10. Disabling compares the size with the one in force: an unchanged one is no error (log 49). -/
theorem eventRingRunState : Obligations.EventRingRunState := by
  unfold Obligations.EventRingRunState
  refine ⟨fun v s hup hoff hlow hhigh => ?_, fun v s hup hring hsize hheld hgap => ?_,
    fun r rest s hring hroom hd0 hgap hmiss hheld => ?_, fun s h => ?_⟩
  · have hword : bits 4 0 (putBit 5 true (v % 2 ^ 32)) = bits 4 0 v := by
      rw [bits_putBit_of_below _ _ (by omega) (by omega), bits_mod v (by omega) (by omega)]
    rw [exec_eventRingEnable, execEventRingEnable, eventRingEnable_eq v true hup,
      evqCfgWrite_of_enable hoff (bit_putBit_same ..) (hword ▸ hlow) (hword ▸ hhigh), hword,
      bits_putBit_of_above _ _ (by omega), bits_mod v (by omega) (by omega),
      bits_putBit_of_above _ _ (by omega), bits_mod v (by omega) (by omega)]
  · have hword : bits 4 0 (putBit 5 false (v % 2 ^ 32)) = bits 4 0 v := by
      rw [bits_putBit_of_below _ _ (by omega) (by omega), bits_mod v (by omega) (by omega)]
    rw [exec_eventRingDisable, execEventRingDisable, eventRingEnable_eq v false hup,
      evqCfgWrite_of_disable hring (bit_putBit_same ..) (hword.trans hsize) hheld hgap,
      bits_putBit_of_above _ _ (by omega), bits_mod v (by omega) (by omega),
      bits_putBit_of_above _ _ (by omega), bits_mod v (by omega) (by omega)]
  · rw [exec_eventDelivery, execEventDelivery, eventDelivery_of_held hring hroom hd0 hgap hmiss hheld]
  · rw [exec_eventDelivery, execEventDelivery, eventDelivery_of_stopped h]

end Sys2Proof.Proofs.HostRings
end

section
/-!
Windows and interrupts (02_host_rings_windows).
-/
namespace Sys2Proof.Proofs.HostRings
open Sys2Proof Sys2Proof.Machine Sys2Proof.Laws
open Sys2Proof.Proofs.SecurityAccess

/-! ## Windows, as they read after a write -/

@[simp] theorem winOf_modWin_same (n : Nat) (f : Window → Window) (s : Device) :
    winOf (modWin n f s) n = f (winOf s n) := tget_tset_same ..

theorem modWin_congr {n : Nat} {f g : Window → Window} {s : Device} (h : f (winOf s n) = g (winOf s n)) :
    modWin n f s = modWin n g s := by
  simp only [modWin, h]

@[simp] theorem winOf_toHost (x : Out) (s : Device) (n : Nat) : winOf (toHost x s) n = winOf s n := by
  unfold toHost
  split <;> rfl

/-! ## Binding and release -/

theorem windowBind_of_free {d : Desc} {s : Device} (hn : d.target.toNat < 16)
    (hfields : badField { pmask := 0xF } [(1000000 < d.p2.toNat, 32)] d = none) (hp1 : d.p1 = 0)
    (hnodump : d.p0 ≠ 0x1600) (hdir : sourceDir d.p0.toNat = some (winOf s d.target.toNat).d2h)
    (hexists : sourceExists (started d s) d.p0.toNat = true) (hwin : (winOf s d.target.toNat).enable = true)
    (hfree : (winOf s d.target.toNat).bound = none) (hunbound : windowOf (started d s) d.p0.toNat = none) :
    windowBind (pendOf d s) (started d s) = .done .ok (segRoom (winOf s d.target.toNat)) []
      (modWin d.target.toNat (fun w => { w with
        bound := some d.p0.toNat, next := 0, owned := 0, starved := false, flushUs := d.p2.toNat,
        seq := if w.d2h then 0 else d.p3, fill := [], fillTime := none, idleFrom := nowS s, rx := [], hold := [],
        bad := false }) (started d s)) := by
  have hsource : d.p0.toNat ≠ 0x1600 := fun h => hnodump (BitVec.eq_of_toNat_eq h)
  have hwinOf : winOf (started d s) d.target.toNat = winOf s d.target.toNat := rfl
  dsimp only [windowBind]
  refine (checked_none _ _ _ _ ?_).trans ?_
  · rw [pendOf_desc, firstFail_when_false (by simpa using Nat.le_of_lt_succ hn), firstFail_bad hfields,
      firstFail_when_false (by simp [hdir]), firstFail_when_false (by simp [hp1, hexists]),
      firstFail_when_false (by simp [hwinOf, hdir]), firstFail_when_false (by simp [hwinOf, hwin, hfree, hunbound]),
      firstFail_nil]
  · rw [pendOf_desc, if_neg hsource]
    rfl

theorem windowBind_of_no_window {d : Desc} {s : Device} (t : Device) (hn : 16 ≤ d.target.toNat) :
    windowBind (pendOf d s) t = .fail .notFound 0 t := by
  unfold windowBind
  refine checked_some _ _ _ _ _ _ ?_
  rw [pendOf_desc, firstFail_when_true (by simpa using Nat.lt_of_succ_le hn)]

theorem windowRelease_of_no_window {d : Desc} {s : Device} (t : Device) (hn : 16 ≤ d.target.toNat) :
    windowRelease (pendOf d s) t = .fail .notFound 0 t := by
  unfold windowRelease
  refine checked_some _ _ _ _ _ _ ?_
  rw [pendOf_desc, firstFail_when_true (by simpa using Nat.lt_of_succ_le hn)]

theorem windowRelease_of_from_host {d : Desc} {s t : Device} (hn : d.target.toNat < 16)
    (hfields : badField plain [] d = none) (hbound : (winOf t d.target.toNat).bound.isSome = true)
    (hdir : (winOf t d.target.toNat).d2h = false) :
    windowRelease (pendOf d s) t = .done .ok ((winOf t d.target.toNat).seq - 1).toNat []
      (modWin d.target.toNat (fun w => { w with bound := none, hold := [], rx := [] }) t) := by
  dsimp only [windowRelease]
  refine (checked_none _ _ _ _ ?_).trans ?_
  · rw [pendOf_desc, firstFail_when_false (by simpa using Nat.le_of_lt_succ hn), firstFail_bad hfields,
      firstFail_when_false (by simpa [Option.isNone_iff_eq_none, Option.isSome_iff_ne_none] using hbound),
      firstFail_nil]
  · simp only [pendOf_desc, hdir, Bool.false_and, Bool.false_eq_true, if_false]
    rfl

/-! ## Configuration of a window -/

/-- A write to the registers of a bound window sets CFG_ERR (R106). -/
theorem windowWrite_of_bound {n : Nat} (base : DWord) (v : Nat) {s : Device}
    (hbound : (winOf s n).bound.isSome = true) : windowWrite n base v s = cfgErr s :=
  if_pos (by simp [hbound])

theorem windowWrite_of_disable {n : Nat} (base : DWord) {v : Nat} {s : Device} (hn : n < 16)
    (hfree : (winOf s n).bound = none) (hoff : bit 6 v = false) :
    windowWrite n base v s = modWin n (fun w => { w with
      base := base, segLog2 := bits 4 0 v, d2h := bit 5 v, enable := bit 6 v, vector := bits 13 8 v,
      countM1 := bits 27 16 v }) s :=
  if_neg (by simp [hfree, hoff, hn])

theorem windowConfigWrite_of_disable {n : Nat} {b : BusWrite} {s : Device} (hn : n < 16) (hup : s.btr.spireUp = true)
    (hwidth : b.width = 4) (hreg : b.off = 8) (hfree : (winOf s n).bound = none)
    (hoff : bit 6 (b.value.toNat % 2 ^ 32) = false) :
    windowConfigWrite n b s = modWin n (fun w => { w with
      segLog2 := bits 4 0 (b.value.toNat % 2 ^ 32), d2h := bit 5 (b.value.toNat % 2 ^ 32), enable := false,
      vector := bits 13 8 (b.value.toNat % 2 ^ 32), countM1 := bits 27 16 (b.value.toNat % 2 ^ 32) }) s := by
  have hok : ¬(!s.btr.spireUp || !(b.width = 4 || b.width = 8) || b.off % b.width != 0) = true := by
    simp [hup, hwidth, hreg]
  unfold windowConfigWrite
  rw [if_neg hok, if_neg (by omega), if_pos hreg, windowWrite_of_disable _ hn hfree hoff]
  exact modWin_congr (by rw [hoff])

theorem windowConfigWrite_of_bound {n : Nat} {b : BusWrite} {s : Device} (hup : s.btr.spireUp = true)
    (hwidth : b.width = 4) (hreg : b.off = 0 ∨ b.off = 4 ∨ b.off = 8) (hbound : (winOf s n).bound.isSome = true) :
    windowConfigWrite n b s = cfgErr s := by
  have hok : ¬(!s.btr.spireUp || !(b.width = 4 || b.width = 8) || b.off % b.width != 0) = true := by
    obtain h | h | h := hreg <;> simp [hup, hwidth, h]
  unfold windowConfigWrite
  refine (if_neg hok).trans ?_
  obtain h | h | h := hreg
  · exact (if_pos (Or.inl h)).trans (windowWrite_of_bound _ _ hbound)
  · exact (if_pos (Or.inr ⟨h, hwidth⟩)).trans (windowWrite_of_bound _ _ hbound)
  · exact (if_neg (by omega)).trans ((if_pos h).trans (windowWrite_of_bound _ _ hbound))

/-- Settles O11. A window from the device leaves P3 out (log 77); the bind also empties what the window held (log 51). -/
theorem windowsBoundAndReleased : Obligations.WindowsBoundAndReleased := by
  unfold Obligations.WindowsBoundAndReleased
  refine ⟨fun d s hstart hn hfields hp1 hnodump hdir hexists hwin hfree hunbound => ?_, fun d s hstart hn => ⟨?_, ?_⟩,
    fun d s hstart hn hfields hbound hdir => ?_, fun n b s hn hup hwidth hreg hfree hoff => ?_,
    fun n b s hn hup hwidth hreg hbound => ?_⟩
  · rw [exec_windowBind, execWindowBind, runCmd_of_done hstart
      (windowBind_of_free hn hfields hp1 hnodump hdir hexists hwin hfree hunbound)]
  · rw [exec_windowBind, execWindowBind, runCmd_of_done hstart (windowBind_of_no_window _ hn)]
  · rw [exec_windowRelease, execWindowRelease, runCmd_of_done hstart (windowRelease_of_no_window _ hn)]
  · rw [exec_windowRelease, execWindowRelease, runCmd_of_done hstart (windowRelease_of_from_host hn hfields hbound hdir)]
    rfl
  · rw [exec_windowConfigWrite, execWindowConfigWrite, windowConfigWrite_of_disable hn hup hwidth hreg hfree hoff]
  · rw [exec_windowConfigWrite, execWindowConfigWrite, windowConfigWrite_of_bound hup hwidth hreg hbound]
    rfl

/-! ## Doorbells of a window -/

/-- A doorbell of an enabled and bound window that names one of its segments, outside D3hot (R91). -/
theorem windowDoorbell_of_segment {n : Nat} {b : BusWrite} {v : Nat} (segs : List HostSeg) {s : Device}
    (hword : doorbellWord b = some v) (hn : n < 16) (hseg : v ≤ (winOf s n).countM1) (hwin : (winOf s n).enable = true)
    (hd0 : s.hif.d3hot = false) (hbound : (winOf s n).bound.isSome = true) :
    windowDoorbell n b segs s =
      if (winOf s n).d2h then modWin n (fun w => { w with
        owned := max w.owned (coveredSegs (winOf s n) v segs).length,
        starved := w.starved && (coveredSegs (winOf s n) v segs).isEmpty }) s
      else ((coveredSegs (winOf s n) v segs).drop (winOf s n).owned).foldl (takeSegment n) s := by
  have hisNone : (winOf s n).bound.isNone = false := by
    cases h : (winOf s n).bound <;> simp_all
  unfold windowDoorbell
  rw [hword]
  dsimp only
  rw [if_neg (by simp [hn, hwin]), if_neg (by omega), if_neg (by simp [hisNone]), if_neg (by simp [hd0])]

/-! ## Handing segments back -/

theorem handBack_of_empty {n : Nat} {s : Device} (hfill : (winOf s n).fill = []) (htime : (winOf s n).fillTime = none) :
    handBack n s = signalVector (winOf s n).vector (modWin n (fun w => { w with
        next := (w.next + 1) % (w.countM1 + 1), owned := w.owned - 1, seq := w.seq + 1, fill := [], fillTime := none,
        idleFrom := nowS s })
      (toHost (.write ((winOf s n).base.toNat + (winOf s n).next * 2 ^ (winOf s n).segLog2) [0#8])
        (toHost (.write ((winOf s n).base.toNat + (winOf s n).next * 2 ^ (winOf s n).segLog2 + 1)
          (segHeader 0 ((winOf s n).bound.getD 0) (winOf s n).seq.toNat [] (nowS s))) s))) := by
  simp [handBack, hfill, htime, nowS]

theorem handBackRing_of_no_ring {n : Nat} {s : Device} (h : ringSource s ((winOf s n).bound.getD 0) = none) :
    handBackRing n s = handBack n s := by
  simp [handBackRing, h]

theorem windowFlush_of_due {n : Nat} {s : Device} (hbound : (winOf s n).bound.isSome = true)
    (hdir : (winOf s n).d2h = true) (hflush : 0 < (winOf s n).flushUs)
    (hdue : flushFrom n s + usT (winOf s n).flushUs ≤ nowS s) (howned : 0 < (winOf s n).owned)
    (hd0 : s.hif.d3hot = false) : windowFlush n s = handBackPart n true s := by
  have hisNone : (winOf s n).bound.isNone = false := by
    cases h : (winOf s n).bound <;> simp_all
  have hgo : ¬((winOf s n).bound.isNone || !(winOf s n).d2h || (winOf s n).flushUs = 0 ||
      nowS s < flushFrom n s + usT (winOf s n).flushUs || s.hif.d3hot) = true := by
    simp [hisNone, hdir, hd0, hdue, Nat.ne_of_gt hflush]
  unfold windowFlush
  exact (if_neg hgo).trans (if_neg (Nat.ne_of_gt howned))

theorem handBackPart_of_no_ring {n : Nat} {s : Device} (h : ringSource s ((winOf s n).bound.getD 0) = none) :
    handBackPart n true s = handBack n s := by
  simp [handBackPart, h, handBackRing_of_no_ring h]

theorem windowFlush_of_unbound {n : Nat} {s : Device} (h : (winOf s n).bound = none) : windowFlush n s = s :=
  if_pos (by simp [h])

theorem segmentHandback_of_unbound {n : Nat} {s : Device} (h : (winOf s n).bound = none) : segmentHandback n s = s := by
  simp [segmentHandback, h]

theorem segmentHandback_of_ring {n typ src : Nat} {recs : List BufRec} {s : Device}
    (hbound : (winOf s n).bound = some src) (hdir : (winOf s n).d2h = true) (hwin : (winOf s n).enable = true)
    (hring : ringSource s src = some (typ, recs)) : segmentHandback n s = drainRing n typ recs s := by
  simp [segmentHandback, hbound, hdir, hwin, hring]

/-- The records that wait fit the segment: it holds them all, and is not handed back yet (R289, R662). -/
theorem drainRing_of_fitting {n : Nat} (typ : Nat) {recs : List BufRec} {s : Device} (hrecs : recs ≠ [])
    (hroom : recs.length < segRoom (winOf s n) / ringUnit typ) (howned : 0 < (winOf s n).owned)
    (hd0 : s.hif.d3hot = false) :
    drainRing n typ recs s = modWin n (fun w => { w with
      fill := recs.flatMap (·.bytes), fillType := typ, fillTime := recs.findSome? (·.time),
      fillAt := flushFrom n s }) s := by
  have hgo : ¬(recs.isEmpty || s.hif.d3hot) = true := by simp [hrecs, hd0]
  unfold drainRing
  rw [if_neg hgo, if_neg (Nat.ne_of_gt howned), List.take_of_length_le (Nat.le_of_lt hroom)]
  exact if_neg (Nat.ne_of_lt hroom)

/-- Settles O12. -/
theorem segmentsPassAndReturn : Obligations.SegmentsPassAndReturn := by
  unfold Obligations.SegmentsPassAndReturn
  refine ⟨fun n b segs s hn hoff hwidth hseg hwin hd0 hbound hdir => ?_,
    fun n b segs s hn hoff hwidth hseg hwin hd0 hbound hdir => ?_,
    fun n s hbound hdir hflush hdue howned hd0 => ?_,
    fun n s hbound hdir hflush hfill hring hdue howned hd0 => ?_,
    fun n s hfill htime => handBack_of_empty hfill htime, fun n s hfree => ⟨?_, ?_⟩,
    fun n typ src recs s hbound hdir hwin hring => ?_,
    fun n typ src recs s hbound hdir hwin hring hrecs hroom howned hd0 => ?_⟩
  · rw [exec_windowDoorbell, execWindowDoorbell,
      windowDoorbell_of_segment segs (if_pos ⟨hoff, .inl hwidth⟩) hn hseg hwin hd0 hbound, if_pos hdir]
  · rw [exec_windowDoorbell, execWindowDoorbell,
      windowDoorbell_of_segment segs (if_pos ⟨hoff, .inl hwidth⟩) hn hseg hwin hd0 hbound, if_neg (by simp [hdir])]
  · rw [exec_windowFlushTimeout, execWindowFlushTimeout, windowFlush_of_due hbound hdir hflush hdue howned hd0]
  · have hfrom : flushFrom n s.dev = (winOf s.dev n).idleFrom := by simp [flushFrom, hfill, hring]
    rw [exec_windowFlushTimeout, execWindowFlushTimeout,
      windowFlush_of_due hbound hdir hflush (hfrom ▸ hdue) howned hd0, handBackPart_of_no_ring hring]
  · rw [exec_segmentHandback, execSegmentHandback, segmentHandback_of_unbound hfree]
  · rw [exec_windowFlushTimeout, execWindowFlushTimeout, windowFlush_of_unbound hfree]
  · rw [exec_segmentHandback, execSegmentHandback, segmentHandback_of_ring hbound hdir hwin hring]
  · rw [exec_segmentHandback, execSegmentHandback, segmentHandback_of_ring hbound hdir hwin hring,
      drainRing_of_fitting typ hrecs hroom howned hd0]
    exact ⟨_, rfl, by simp⟩

/-! ## Interrupts -/

@[simp] theorem vecOf_modVec_same (v : Nat) (f : Vector → Vector) (s : Device) :
    vecOf (modVec v f s) v = f (vecOf s v) := tget_tset_same ..

theorem fireVector_of_unmasked {v : Nat} {s : Device} (h : (vecOf s v).masked = false) :
    fireVector v s = toHost (.msix v) (modVec v (fun q => { q with gathered := 0 }) s) := by
  simp [fireVector, h]

theorem coalesceTimeout_of_due {v : Nat} {s : Device} (hgathered : 0 < (vecOf s v).gathered)
    (hdue : (vecOf s v).firstAt + usT (if (vecOf s v).timeUs = 0 then 100 else (vecOf s v).timeUs) ≤ nowS s) :
    coalesceTimeout v s = fireVector v s := by
  unfold coalesceTimeout
  exact if_pos (by simp [hgathered, hdue])

theorem coalesceTimeout_of_none {v : Nat} {s : Device} (h : (vecOf s v).gathered = 0) : coalesceTimeout v s = s := by
  unfold coalesceTimeout
  exact if_neg (by simp [h])

/-- Settles O13. -/
theorem interruptsFire : Obligations.InterruptsFire := by
  unfold Obligations.InterruptsFire
  refine ⟨fun v s hgathered hdue hopen => ⟨modVec v (fun q => { q with gathered := 0 }) s.dev, ?_, by simp, rfl⟩,
    fun v s hnone => ?_, fun v s hmasked hkept => ?_, fun v s hmasked hnone => ?_⟩
  · rw [exec_interruptCoalesceTimeout, execInterruptCoalesceTimeout, coalesceTimeout_of_due hgathered hdue,
      fireVector_of_unmasked hopen]
  · rw [exec_interruptCoalesceTimeout, execInterruptCoalesceTimeout, coalesceTimeout_of_none hnone]
  · rw [exec_msixVectorUnmask, execMsixVectorUnmask, msixUnmask, if_pos (by simp [hmasked, hkept])]
  · rw [exec_msixVectorUnmask, execMsixVectorUnmask, msixUnmask, if_neg (by simp [hnone])]

end Sys2Proof.Proofs.HostRings
end

section
/-!
The link, its power states and register writes (02_host_rings_windows).
-/
namespace Sys2Proof.Proofs.HostRings
open Sys2Proof Sys2Proof.Machine Sys2Proof.Laws
open Sys2Proof.Proofs.Counters (spireWrite_of_up)

/-! ## What an event leaves in HIF -/

/-- The rings, the windows, the event ring's ENABLE and HIF_LOST_CPL of `t` are those of `s`. -/
structure KeepsHost (s t : Device) : Prop where
  rings : t.hif.rings = s.hif.rings
  windows : t.hif.windows = s.hif.windows
  evqEnable : t.hif.evqEnable = s.hif.evqEnable
  lostCpl : t.hif.lostCpl = s.hif.lostCpl

section KeepsHost
variable {s t u : Device}

theorem KeepsHost.refl (s : Device) : KeepsHost s s := ⟨rfl, rfl, rfl, rfl⟩

theorem KeepsHost.ite {c : Prop} [Decidable c] (h : KeepsHost s t) (k : KeepsHost s u) :
    KeepsHost s (if c then t else u) := by
  split <;> assumption

variable (h : KeepsHost s t)
include h

theorem KeepsHost.of_hif (hif : u.hif = t.hif) : KeepsHost s u :=
  ⟨hif ▸ h.rings, hif ▸ h.windows, hif ▸ h.evqEnable, hif ▸ h.lostCpl⟩

theorem KeepsHost.toHost (o : Out) : KeepsHost s (toHost o t) :=
  .ite ⟨h.rings, h.windows, h.evqEnable, h.lostCpl⟩ ⟨h.rings, h.windows, h.evqEnable, h.lostCpl⟩

theorem KeepsHost.modVec (v : Nat) (f : Vector → Vector) : KeepsHost s (modVec v f t) :=
  ⟨h.rings, h.windows, h.evqEnable, h.lostCpl⟩

theorem KeepsHost.linkUp (up : Bool) : KeepsHost s { t with hif.linkUp := up } :=
  ⟨h.rings, h.windows, h.evqEnable, h.lostCpl⟩

theorem KeepsHost.fireVector (v : Nat) : KeepsHost s (fireVector v t) := by
  unfold Machine.fireVector
  exact .ite ((h.modVec _ _).modVec _ _) ((h.modVec _ _).toHost _)

theorem KeepsHost.signalVector (v : Nat) : KeepsHost s (signalVector v t) := .ite (h.fireVector v) (h.modVec _ _)

theorem KeepsHost.evEnqueue (w : EvWait) : KeepsHost s (evEnqueue w t) :=
  .ite (h.of_hif rfl) (.ite (h.of_hif rfl) (.ite (h.of_hif rfl) (h.of_hif rfl)))

theorem KeepsHost.issueSummary (code : Nat) (at_ : STime) : KeepsHost s (issueSummary code at_ t) := by
  unfold Machine.issueSummary
  split
  · exact h
  next q _ =>
    refine KeepsHost.of_hif (t := Machine.evEnqueue _ _) (KeepsHost.evEnqueue ?_ _) rfl
    exact h.of_hif rfl

theorem KeepsHost.raiseAt (at_ : STime) (code : Nat) (payload : List Byte) : KeepsHost s (raiseAt at_ code payload t) := by
  unfold Machine.raiseAt
  refine .ite (KeepsHost.evEnqueue ?_ _) (.ite (KeepsHost.evEnqueue (KeepsHost.issueSummary ?_ _ _) _) ?_)
  all_goals exact h.of_hif rfl

theorem KeepsHost.raise (code : Nat) (fs : List (Nat × Nat)) : KeepsHost s (raise code fs t) := by
  unfold Machine.raise
  exact .ite ((h.raiseAt _ _ _).signalVector _) (h.raiseAt _ _ _)

theorem KeepsHost.crossingReset (k count : Nat) : KeepsHost s (crossingReset k count t) := by
  unfold Machine.crossingReset
  refine KeepsHost.raise ?_ _ _
  exact h.of_hif rfl

end KeepsHost

/-! ## The link -/

theorem missEvents_eq (rs : List EvRec) (s : Device) :
    ∃ gaps miss, missEvents rs s = { s with hif.evqGaps := gaps, hif.evqMiss := miss } := by
  cases rs with
  | nil => exact ⟨s.hif.evqGaps, s.hif.evqMiss, rfl⟩
  | cons r rest => exact ⟨_, _, rfl⟩

/-- A reset of HIF is a change of HIF alone, and leaves it without rings, windows and event ring (R99). -/
theorem hifReset_eq (s : Device) :
    ∃ h : Hif, hifReset s = { s with hif := h } ∧ h.rings = [] ∧ h.windows = [] ∧ h.evqEnable = false ∧
      h.lostCpl = s.hif.lostCpl := by
  obtain ⟨gaps, miss, hmiss⟩ := missEvents_eq (undelivered s) s
  unfold hifReset
  rw [hmiss]
  exact ⟨_, rfl, rfl, rfl, rfl, rfl⟩

/-- What follows the reset of HIF leaves HIF disabled, and every other block as it was but for the crossing (R99, R690). -/
theorem keepsHost_pcieLinkDown (why : LinkLoss) (ltssm lost : Nat) (s : Device) :
    KeepsHost (hifReset s) (pcieLinkDown why ltssm lost s) := by
  unfold pcieLinkDown
  exact (((KeepsHost.refl _).crossingReset _ _).raise _ _).linkUp _

theorem crossingReset_eq (k count : Nat) (s : Device) :
    ∃ o h e p b, crossingReset k count s = { s with out := o, hif := h, evr := e, pmc := p, btr := b } := by
  unfold crossingReset
  obtain ⟨o, h, e, p, hraise⟩ := raise_touches Ev.btrXingReset [(1, k), (2, count)] { s with
    btr.xdrop := tmod s.btr.xdrop k 0 (· + BitVec.ofNat 32 count)
    btr.xreset := if k ∈ s.btr.xreset then s.btr.xreset else s.btr.xreset ++ [k] }
  exact ⟨o, h, e, p, _, hraise⟩

/-- LINK_UP after a loss of the link: a Function Level Reset leaves the link up (R99). -/
def settleLink (why : LinkLoss) (s : Device) : Device := { s with hif.linkUp := s.hif.linkUp && why == .flr }

theorem pcieLinkDown_eq_settleLink (why : LinkLoss) (ltssm lost : Nat) (s : Device) :
    pcieLinkDown why ltssm lost s = settleLink why (raise Ev.pcieLinkDown
      [(1, ltssm), (2, (crossingReset 1 lost (hifReset s)).hif.lostCpl.toNat)]
      (crossingReset 1 lost (hifReset s))) := rfl

/-- A link-down reaches no block but HIF, the recorder of events, the counters and the crossing (R99, R690). -/
theorem pcieLinkDown_eq (why : LinkLoss) (ltssm lost : Nat) (s : Device) :
    ∃ o h e p b, pcieLinkDown why ltssm lost s = { s with out := o, hif := h, evr := e, pmc := p, btr := b } := by
  obtain ⟨h, hreset, -⟩ := hifReset_eq s
  obtain ⟨o1, h1, e1, p1, b1, hcrossing⟩ := crossingReset_eq 1 lost (hifReset s)
  obtain ⟨o2, h2, e2, p2, hraise⟩ := raise_touches Ev.pcieLinkDown
    [(1, ltssm), (2, (crossingReset 1 lost (hifReset s)).hif.lostCpl.toNat)] (crossingReset 1 lost (hifReset s))
  refine ⟨o2, { h2 with linkUp := h2.linkUp && why == .flr }, e2, p2, b1, ?_⟩
  rw [pcieLinkDown_eq_settleLink, hraise, hcrossing, hreset]
  rfl

/-- Settles O14. -/
theorem linkDownResetsHifAlone : Obligations.LinkDownResetsHifAlone := by
  unfold Obligations.LinkDownResetsHifAlone
  refine ⟨fun why ltssm lost s => ⟨pcieLinkDown why ltssm lost s.dev, ?_, ?_⟩, fun ltssm lost s => rfl⟩
  · rw [exec_pcieLinkDown, execPcieLinkDown]
  · obtain ⟨h, hreset, hrings, hwindows, hevq, hlost⟩ := hifReset_eq s.dev
    have hkeeps := keepsHost_pcieLinkDown why ltssm lost s.dev
    rw [hreset] at hkeeps
    refine ⟨hkeeps.rings.trans hrings, hkeeps.windows.trans hwindows, hkeeps.evqEnable.trans hevq,
      hkeeps.lostCpl.trans hlost, ?_⟩
    obtain ⟨o, h, e, p, b, hdown⟩ := pcieLinkDown_eq why ltssm lost s.dev
    simp [hdown]

/-! ## Power states -/

theorem d3hotExit_of_no_bells {s : Device} (hd3 : s.hif.d3hot = true) (hbells : s.hif.heldBells = []) :
    d3hotExit s = { s.hif.heldOut.foldl sendHost s with
      hif.heldOut := [], hif.heldBells := [], hif.d3hot := false } := by
  unfold d3hotExit
  rw [if_pos hd3, hbells]
  rfl

/-- Settles O15. What D3hot holds back is kept, and leaves in order at the return to D0 (logs 49 and 77). -/
theorem powerStatesOfTheLink : Obligations.PowerStatesOfTheLink := by
  unfold Obligations.PowerStatesOfTheLink
  refine ⟨fun s => ?_, fun o s hd3 => toHost_held o s hd3, fun s hd3 hbells => ?_, fun s hd0 => ?_, fun s hup => ?_,
    fun s hup hplls => ?_⟩
  · rw [exec_pcieD3hotEntry, execPcieD3hotEntry, d3hotEntry]
  · rw [exec_d3hotExit, execD3hotExit, d3hotExit_of_no_bells hd3 hbells]
  · rw [exec_d3hotExit, execD3hotExit, d3hotExit, if_neg (by simp [hd0])]
  · rw [exec_hifStatusRead, execHifStatusRead, hifStatusRead, if_pos hup]
  · rw [exec_pcieLinkUp, execPcieLinkUp, Machine.pcieLinkUp, if_pos (by simp [hup, hplls])]

/-! ## Register writes -/

/-- An aligned 32-bit write to BAR0 that no window's registers take (R51). -/
theorem registerWrite_of_word {b : BusWrite} (s : Device) (hwidth : b.width = 4) (halign : b.off % 4 = 0)
    (hwindow : ¬(0x2000 ≤ b.off ∧ b.off < 0x2400)) :
    Machine.registerWrite b s = writeWord b.off (b.value.toNat % 2 ^ 32) s := by
  have hok : ¬(!(b.width = 4 || b.width = 8) || b.off % b.width != 0) = true := by simp [hwidth, halign]
  unfold Machine.registerWrite
  exact (if_neg hok).trans ((if_neg hwindow).trans (if_pos hwidth))

theorem registerWrite_of_misplaced {b : BusWrite} (s : Device)
    (h : (b.width ≠ 4 ∧ b.width ≠ 8) ∨ b.off % b.width ≠ 0) : Machine.registerWrite b s = accError s := by
  unfold Machine.registerWrite
  refine if_pos ?_
  obtain ⟨h4, h8⟩ | h := h
  · simp [h4, h8]
  · simp [h]

theorem spirePage_of_first {off : Nat} (h : off < 65536) : spirePage off = true := by
  have hpage : off / 65536 = 0 := Nat.div_eq_of_lt h
  simp [spirePage, hpage]

theorem writeWord_of_down {off : Nat} (v : Nat) {s : Device} (h : off < 65536) (hdown : s.btr.spireUp = false) :
    writeWord off v s = accError s :=
  if_pos (by simp [spirePage_of_first h, hdown])

theorem doorbellSpaceWrite_of_reserved {b : BusWrite} (s : Device)
    (h : (0x108 ≤ b.off ∧ b.off < 0x200) ∨ 0x280 ≤ b.off) : doorbellSpaceWrite b s = accError s := by
  unfold doorbellSpaceWrite
  rw [if_neg (by omega), if_neg (by omega), if_neg (by omega)]

theorem tableWrite_of_mask {n : Nat} {b : BusWrite} (s : Device) (hn : n < 64) (hwidth : b.width = 4)
    (hoff : b.off = 16 * n + 12) (hmask : bit 0 (b.value.toNat % 2 ^ 32) = true) :
    tableWrite b s = modVec n (fun q => { q with masked := true }) s := by
  have hok : ¬(!(b.width = 4 || b.width = 8) || b.off % b.width != 0) = true := by
    have halign : b.off % 4 = 0 := by omega
    simp [hwidth, halign]
  have hvector : b.off / 16 = n := by omega
  have hword : b.off % 16 = 12 := by omega
  unfold tableWrite
  refine (if_neg hok).trans ((if_pos hwidth).trans ?_)
  unfold msixWrite
  refine (if_neg (by omega)).trans ?_
  simp only [hword, hvector, hmask, if_true]

/-- Settles O16. -/
theorem registerWrites : Obligations.RegisterWrites := by
  unfold Obligations.RegisterWrites
  refine ⟨fun b s hoff hwidth hup => ?_, fun b s h => ?_, fun b s hwidth halign hlow hdown => ?_, fun b s h => ?_,
    fun n b s hn hwidth hoff hmask => ?_⟩
  · rw [exec_registerWrite, execRegisterWrite, hostWrite, registerWrite_of_word _ hwidth (by omega) (by omega),
      writeWord_of_hif _ hup (by omega), hifWrite, if_pos hoff]
  · rw [exec_registerWrite, execRegisterWrite, hostWrite, registerWrite_of_misplaced _ h, accError]
  · rw [exec_registerWrite, execRegisterWrite, hostWrite, registerWrite_of_word _ hwidth halign (by omega),
      writeWord_of_down _ (by omega) hdown, accError]
  · rw [exec_registerWrite, execRegisterWrite, hostWrite, doorbellSpaceWrite_of_reserved _ h, accError]
  · rw [exec_registerWrite, execRegisterWrite, hostWrite, tableWrite_of_mask _ hn hwidth hoff hmask]

end Sys2Proof.Proofs.HostRings
end

section
/-!
Commands that start, go on and complete, for the commands of every block (02_host_rings_windows).
-/
namespace Sys2Proof.Proofs.Commands
open Sys2Proof Sys2Proof.Machine Sys2Proof.Laws
open Sys2Proof.Proofs.ErrorsOrdering (foldl_keeping)

/-! ## The block when a command starts -/

section Start
variable (d : Desc) (s : Device)

@[simp] theorem started_out : (started d s).out = s.out := rfl
@[simp] theorem started_draws : (started d s).draws = s.draws := rfl
@[simp] theorem started_hif : (started d s).hif = s.hif := rfl
@[simp] theorem started_cfg : (started d s).cfg = s.cfg := rfl
@[simp] theorem started_dpt : (started d s).dpt = s.dpt := rfl
@[simp] theorem started_lpe : (started d s).lpe = s.lpe := rfl
@[simp] theorem started_trc : (started d s).trc = s.trc := rfl
@[simp] theorem started_adc : (started d s).adc = s.adc := rfl
@[simp] theorem started_dac : (started d s).dac = s.dac := rfl
@[simp] theorem started_dio : (started d s).dio = s.dio := rfl
@[simp] theorem started_ltn : (started d s).ltn = s.ltn := rfl
@[simp] theorem started_evr : (started d s).evr = s.evr := rfl
@[simp] theorem started_btr : (started d s).btr = s.btr := rfl
@[simp] theorem started_mem : (started d s).mem = s.mem := rfl
@[simp] theorem started_mot : (started d s).mot = s.mot := rfl
@[simp] theorem started_ccr : (started d s).ccr = s.ccr := rfl
@[simp] theorem started_eth : (started d s).eth = s.eth := rfl
@[simp] theorem started_pgm : (started d s).pgm = s.pgm := rfl
@[simp] theorem started_pai : (started d s).pai = s.pai := rfl
@[simp] theorem started_kep : (started d s).kep = s.kep := rfl
@[simp] theorem started_fbl : (started d s).fbl = s.fbl := rfl
@[simp] theorem started_can : (started d s).can = s.can := rfl
@[simp] theorem started_saf : (started d s).saf = s.saf := rfl
@[simp] theorem started_spr : (started d s).spr = s.spr := rfl
@[simp] theorem started_clk : (started d s).clk = s.clk := rfl
@[simp] theorem started_tst : (started d s).tst = s.tst := rfl
@[simp] theorem started_outputs : (started d s).outputs = s.outputs := rfl
@[simp] theorem started_reports : (started d s).reports = s.reports := rfl
@[simp] theorem nowS_started : nowS (started d s) = nowS s := rfl
@[simp] theorem nowD_started : nowD (started d s) = nowD s := rfl

end Start

/-! ## How a command ends -/

/-- A command that starts and whose work goes on keeps its ring executing (R57, R64). -/
theorem runCmd_of_wait {body : Pend → Device → CmdEnd} {d : Desc} {s t : Device} (hstart : canStart d s = true)
    (hbody : body (pendOf d s) (started d s) = .wait t) :
    runCmd body d s = modRing d.ring (fun r => { r with busy := true }) t := by
  simp only [canStart, Bool.and_eq_true, Bool.not_eq_true'] at hstart
  obtain ⟨⟨⟨⟨hup, hd3⟩, henable⟩, hhalted⟩, hbusy⟩ := hstart
  have hruns : ¬(!s.btr.spireUp || s.hif.d3hot ||
      ((ringOf s d.ring).enable && ((ringOf s d.ring).halted || (ringOf s d.ring).busy))) = true := by
    simp [hup, hd3, hhalted, hbusy]
  unfold runCmd
  refine (if_neg hruns).trans ?_
  dsimp only
  generalize hend : body _ _ = e
  obtain rfl : e = .wait t := hend.symm.trans hbody
  exact if_pos henable

/-- A write to the Keep whose sectors all hold is made (R118). -/
theorem keepWrite_of_good {bad : List Nat} (f : Device → CmdEnd) (s : Device) (h : bad.filter storeSector = []) :
    keepWrite bad f s = f s := by
  simp [keepWrite, h]

/-- Outside a synced pair a command of the configuration completes at once (R634). -/
theorem syncOk_of_alone {s : Device} (detail : Nat) (p : Pend) (h : s.pai.synced = false) :
    syncOk detail p s = .done .ok detail [] s :=
  if_neg (by simp [h])

/-- A fold whose steps leave a field as it is leaves it as it is. -/
theorem foldl_field {α β γ : Type} {f : β → α → β} (g : β → γ) (h : ∀ b a, g (f b a) = g b) (l : List α) (b : β) :
    g (l.foldl f b) = g b :=
  (List.foldl_hom g (g₂ := fun x _ => x) (fun x y => (h x y).symm)).symm.trans (foldl_keeping _ _)

end Sys2Proof.Proofs.Commands
end

section
/-!
Loading, running and stopping a configuration (03_configuration).
-/
namespace Sys2Proof.Proofs.Configuration
open Sys2Proof Sys2Proof.Machine Sys2Proof.Laws
open Sys2Proof.Proofs.SecurityAccess Sys2Proof.Proofs.Commands

/-! ## What stopping leaves of the pair -/

theorem stnDisable_pai (st : Nat) (s : Device) : (stnDisable st s).pai = s.pai := modStn_pai ..

theorem rollback_pai (y : Cycle) (s : Device) : (rollback y s).pai = s.pai := by
  unfold rollback
  split
  · split
    · simp
    · rfl
  · simp

theorem stopEth_pai (s : Device) : (stopEth s).pai = s.pai :=
  foldl_field Device.pai (fun t st => stnDisable_pai st t) _ _

theorem stopPgm_pai (s : Device) : (stopPgm s).pai = s.pai :=
  foldl_field Device.pai (fun t y => (modProg_pai ..).trans (rollback_pai y t)) _ _

theorem haltEngines_pai (s : Device) : (haltEngines s).pai = s.pai := (stopEth_pai _).trans (stopPgm_pai s)

theorem fblDrive_pai (s : Device) : (fblDrive s).pai = s.pai := by
  unfold fblDrive
  split
  · rfl
  · refine foldl_field Device.pai (fun t k => ?_) _ _
    split
    · rfl
    · split
      · exact modPin_pai ..
      · split
        · rfl
        · rw [raise_pai]

theorem fblTake_pai (s : Device) : (fblTake s).pai = s.pai := by
  unfold fblTake
  split
  · rfl
  · split
    · rfl
    · rw [fblDrive_pai, raise_pai]

theorem enterLoaded_pai (s : Device) : (enterLoaded s).pai = s.pai := by
  unfold enterLoaded
  rw [fblTake_pai]
  split
  · exact (raise_pai ..).trans (haltEngines_pai s)
  · exact haltEngines_pai s

/-! ## The commands -/

theorem withdrawStaging_of_none {s : Device} (h : s.cfg.staging = []) : withdrawStaging s = s := by
  unfold withdrawStaging
  rw [h, List.foldl_nil, ← h]

section Commands
variable {d : Desc} {s : Device}

section Load
variable (hfields : badField { target := false, bufMin := 1, bufMax := 16777216 } [] d = none)
include hfields

theorem loadBase_of_good (hbuf : d.buf.acc = .ok) (hstopped : s.cfg.mode ≠ .running)
    (hgood : checkBase d.buf.bytes d.bufLen.toNat = .good)
    (hwriters : imageWriters (started d s) (imageObjects d.buf.bytes) = false)
    (hsectors : d.bad.filter storeSector = []) :
    loadBase d.bad (pendOf d s) (started d s) = .done .ok
      (baseLoaded (paiLoaded (applyImage d.buf.bytes (resync 3 (started d s))))).cfg.baseVersion []
      { baseLoaded (paiLoaded (applyImage d.buf.bytes (resync 3 (started d s)))) with kep.choice := false } := by
  unfold loadBase
  refine (checked_none _ _ _ _ ?_).trans ?_
  · rw [pendOf_desc, firstFail_bad hfields, firstFail_when_false (by simpa using hstopped), firstFail_buffer hbuf,
      firstFail_nil]
  · rw [pendOf_desc, hgood]
    dsimp only
    rw [hwriters, if_neg Bool.false_ne_true, keepWrite_of_good _ _ hsectors]
    rfl

theorem loadBase_of_running (bad : List Nat) (hrunning : s.cfg.mode = .running) :
    loadBase bad (pendOf d s) (started d s) = .done .rejectedState 0 [] (started d s) := by
  unfold loadBase
  refine checked_some _ _ _ _ _ _ ?_
  rw [pendOf_desc, firstFail_bad hfields, firstFail_when_true (by simpa using hrunning)]

end Load

section StopRun
variable (hfields : badField { target := false } [] d = none)
include hfields

theorem cfgStop_of_stopped (hstopped : s.cfg.mode ≠ .running) :
    cfgStop (pendOf d s) (started d s) = .done .rejectedState 0 [] (started d s) := by
  unfold cfgStop
  refine checked_some _ _ _ _ _ _ ?_
  rw [pendOf_desc, firstFail_bad hfields, firstFail_when_true (by simp [hstopped])]

theorem cfgStop_of_open (hrunning : s.cfg.mode = .running) (hopen : allOpen s = true) (hstaging : s.cfg.staging = [])
    (harmed : s.cfg.armed = []) (halone : s.pai.synced = false) :
    cfgStop (pendOf d s) (started d s) = .done .ok 0 [] (enterLoaded (started d s)) := by
  have hrest : allOpen (started d s) = true := hopen
  have hwithdrawn : withdrawStaging (started d s) = started d s := withdrawStaging_of_none hstaging
  have hdisarmed : { started d s with cfg.armed := [] } = started d s := by rw [← harmed]; rfl
  unfold cfgStop
  refine (checked_none _ _ _ _ ?_).trans ?_
  · rw [pendOf_desc, firstFail_bad hfields, firstFail_when_false (by simp [hrunning, hrest]), firstFail_nil]
  · rw [hwithdrawn]
    dsimp only
    rw [started_cfg, harmed]
    exact (congrArg (fun t => syncOk 0 (pendOf d s) (enterLoaded t)) hdisarmed).trans
      (syncOk_of_alone _ _ (by rw [enterLoaded_pai]; exact halone))

theorem cfgRun_of_not_loaded (hmode : s.cfg.mode ≠ .loaded) :
    cfgRun (pendOf d s) (started d s) = .done .rejectedState 0 [] (started d s) := by
  unfold cfgRun
  refine checked_some _ _ _ _ _ _ ?_
  rw [pendOf_desc, firstFail_bad hfields, firstFail_when_true (by simp [hmode])]

theorem cfgRun_of_loaded (hmode : s.cfg.mode = .loaded) (hsaf : s.saf.cfg ≠ []) (htime : s.tim.mode ≠ .unset)
    (hports : safPortsOk (started d s) = true) (hphase : s.kep.phase = .up) (hclaim : s.pai.claim = none)
    (halone : s.pai.mode = .off) :
    cfgRun (pendOf d s) (started d s) =
      .done .ok (goRunning (started d s)).cfg.version [] (goRunning (started d s)) := by
  unfold cfgRun
  dsimp only
  refine (checked_none _ _ _ _ ?_).trans ?_
  · rw [pendOf_desc, firstFail_bad hfields, firstFail_when_false (by simp [hmode, hsaf, htime, hports, hphase]),
      firstFail_when_false (by simp [hclaim, halone]), firstFail_nil]
  · rw [started_pai, halone]
    rfl

end StopRun
end Commands

/-- Settles O17. -/
theorem configurationMoves : Obligations.ConfigurationMoves := by
  unfold Obligations.ConfigurationMoves
  refine ⟨fun d s hstart hfields hbuf hstopped hgood hwriters hsectors => ?_, fun d s hstart hfields hrunning => ?_,
    fun d s hstart hfields hrunning hopen hstaging harmed halone => ?_, fun d s hstart hfields hstopped => ?_,
    fun d s hstart hfields hmode => ?_, fun d s hstart hfields hmode hsaf htime hports hphase hclaim halone => ?_⟩
  · rw [exec_cfgLoadBase, execCfgLoadBase,
      runCmd_of_done hstart (loadBase_of_good hfields hbuf hstopped hgood hwriters hsectors)]
  · rw [exec_cfgLoadBase, execCfgLoadBase, runCmd_of_done hstart (loadBase_of_running hfields d.bad hrunning)]
  · rw [exec_cfgStop, execCfgStop,
      runCmd_of_done hstart (cfgStop_of_open hfields hrunning hopen hstaging harmed halone)]
  · rw [exec_cfgStop, execCfgStop, runCmd_of_done hstart (cfgStop_of_stopped hfields hstopped)]
  · rw [exec_cfgRun, execCfgRun, runCmd_of_done hstart (cfgRun_of_not_loaded hfields hmode)]
  · rw [exec_cfgRun, execCfgRun,
      runCmd_of_done hstart (cfgRun_of_loaded hfields hmode hsaf htime hports hphase hclaim halone)]

end Sys2Proof.Proofs.Configuration
end

section
/-!
Storing, arming, disarming and deleting overlays (03_configuration).
-/
namespace Sys2Proof.Proofs.Configuration
open Sys2Proof Sys2Proof.Machine Sys2Proof.Laws
open Sys2Proof.Proofs.SecurityAccess Sys2Proof.Proofs.Commands

section Overlays
variable {d : Desc} {s : Device}

/-! ## The store -/

theorem overlayLoad_of_good (hslot : d.target.toNat < 512) (hsectors : d.bad.filter storeSector = [])
    (hfields : badField { bufMin := 1, bufMax := 65536 } [] d = none) (hbuf : d.buf.acc = .ok)
    (hmode : s.cfg.mode ≠ .unconfigured) (hunarmed : slotArmed (started d s) d.target.toNat = false)
    (hgood : overlayFault (started d s) d.buf.bytes d.bufLen.toNat = none)
    (hroom : (parseOverlay d.buf.bytes).length ≤
      storeFree { started d s with cfg.overlays := tdel s.cfg.overlays d.target.toNat })
    (halone : s.pai.synced = false) :
    overlayLoad d.bad (pendOf d s) (started d s) = .done .ok
      (storeFree { started d s with
        cfg.overlays := tset s.cfg.overlays d.target.toNat (parseOverlay d.buf.bytes) }) []
      { started d s with cfg.overlays := tset s.cfg.overlays d.target.toNat (parseOverlay d.buf.bytes) } := by
  unfold overlayLoad
  refine (checked_none _ _ _ _ ?_).trans ?_
  · rw [pendOf_desc, firstFail_when_false (by simpa using Nat.le_of_lt_succ hslot), firstFail_bad hfields,
      firstFail_when_false (by simp [hmode, hunarmed]), firstFail_buffer hbuf, firstFail_nil]
  · rw [pendOf_desc, hgood]
    exact (if_neg (Nat.not_lt.mpr hroom)).trans ((keepWrite_of_good _ _ hsectors).trans (syncOk_of_alone _ _ halone))

theorem overlayDelete_of_stored (hslot : d.target.toNat < 512) (hsectors : d.bad.filter storeSector = [])
    (hfields : badField plain [] d = none) (hstored : (tfind s.cfg.overlays d.target.toNat).isSome = true)
    (hunarmed : slotArmed (started d s) d.target.toNat = false) (halone : s.pai.synced = false) :
    overlayDelete d.bad (pendOf d s) (started d s) = .done .ok
      (storeFree { started d s with cfg.overlays := tdel s.cfg.overlays d.target.toNat }) []
      { started d s with cfg.overlays := tdel s.cfg.overlays d.target.toNat } := by
  unfold overlayDelete
  refine (checked_none _ _ _ _ ?_).trans ?_
  · rw [pendOf_desc, firstFail_when_false, firstFail_bad hfields, firstFail_when_false hunarmed, firstFail_nil]
    simpa [hslot, Nat.le_of_lt_succ hslot, Option.isSome_iff_ne_none] using hstored
  · exact (keepWrite_of_good _ _ hsectors).trans (syncOk_of_alone _ _ halone)

/-! ## Slots above the last -/

section NoSlot
variable (hslot : 512 ≤ d.target.toNat)
include hslot

theorem overlayLoad_of_no_slot :
    overlayLoad d.bad (pendOf d s) (started d s) = .done .notFound 0 [] (started d s) := by
  unfold overlayLoad
  refine checked_some _ _ _ _ _ _ ?_
  rw [pendOf_desc, firstFail_when_true (by simpa using Nat.lt_of_succ_le hslot)]

theorem overlayArm_of_no_slot : overlayArm (pendOf d s) (started d s) = .done .notFound 0 [] (started d s) := by
  unfold overlayArm
  refine checked_some _ _ _ _ _ _ ?_
  rw [pendOf_desc, firstFail_when_true (by simp [Nat.lt_of_succ_le hslot])]

theorem overlayDelete_of_no_slot :
    overlayDelete d.bad (pendOf d s) (started d s) = .done .notFound 0 [] (started d s) := by
  unfold overlayDelete
  refine checked_some _ _ _ _ _ _ ?_
  rw [pendOf_desc, firstFail_when_true (by simp [Nat.lt_of_succ_le hslot])]

end NoSlot

/-! ## Arming -/

theorem overlayArm_of_good (hslot : d.target.toNat < 512)
    (hstored : (tfind s.cfg.overlays d.target.toNat).isSome = true)
    (hfields : badField { pmask := 0xF } [(1000000000 ≤ d.p0.toNat, 24), (1 < d.p3.toNat, 36)] d = none)
    (hrunning : s.cfg.mode = .running) (hunarmed : slotArmed (started d s) d.target.toNat = false)
    (hlead : nowS s + usT 200 ≤ armCommit d)
    (hgood : armFault (started d s) (tget s.cfg.overlays d.target.toNat {}) (armCommit d) (bit 0 d.p3.toNat) = none) :
    overlayArm (pendOf d s) (started d s) = .wait { started d s with
      cfg.staging := s.cfg.staging ++
        [{ slot := d.target.toNat, commit := armCommit d, recv := nowS s, pend := pendOf d s }] } := by
  unfold overlayArm
  refine (checked_none _ _ _ _ ?_).trans ?_
  · rw [pendOf_desc, firstFail_when_false, firstFail_bad hfields,
      firstFail_when_false (by simp [hrunning, hunarmed]), firstFail_nil]
    simpa [hslot, Nat.le_of_lt_succ hslot, Option.isSome_iff_ne_none] using hstored
  · refine (if_neg (Nat.not_lt.mpr hlead)).trans ?_
    rw [pendOf_desc, started_cfg, hgood]
    rfl

theorem stagingDone_of_alone {g : Staging} {rest : List Staging} (hstaging : s.cfg.staging = g :: rest)
    (hunsent : g.seq = none) (hguard : nowS s + usT 20 < g.commit) (halone : s.pai.synced = false) :
    stagingDone s = armNow g s := by
  have hgo : ¬(pastGuard s g || g.seq.isSome) = true := by
    simp [pastGuard, hunsent, Nat.not_le.mpr hguard]
  unfold stagingDone
  rw [hstaging]
  exact (if_neg hgo).trans (if_neg (by simp [halone]))

/-- A staging that reaches its guard outside a synced pair is withdrawn and completes with TIMEOUT (R122). -/
theorem stageGuard_of_alone {g : Staging} (hstaging : s.cfg.staging = [g]) (halone : s.pai.synced = false)
    (hguard : g.commit ≤ nowS s + usT 20) :
    stageGuard s = finish g.pend .timeout 0 [] { s with cfg.staging := [] } := by
  have hpast : pastGuard s g = true := decide_eq_true hguard
  unfold stageGuard
  simp only [hstaging, List.filter_cons, hpast, if_true, List.filter_nil, Bool.not_true, Bool.false_eq_true, if_false,
    halone, Bool.and_false, List.foldl_cons, List.foldl_nil]

section Disarm
variable {a : Armed} (hfields : badField plain [] d = none) (harmed : s.cfg.armed.getLast? = some a)
  (hslot : a.slot = d.target.toNat)
include hfields harmed hslot

theorem overlayDisarm_of_early (hlead : nowS s + usT 50 ≤ a.commit) (halone : s.pai.synced = false) :
    overlayDisarm (pendOf d s) (started d s) = .done .ok a.version []
      (raise Ev.cfgDisarmed [(2, d.target.toNat), (2, a.version)]
        { started d s with cfg.armed := s.cfg.armed.dropLast }) := by
  unfold overlayDisarm
  refine (checked_none _ _ _ _ ?_).trans ?_
  · rw [pendOf_desc, firstFail_bad hfields, firstFail_when_false (by simp [harmed, hslot]), firstFail_nil]
  · rw [started_cfg, harmed]
    exact (if_neg (Nat.not_lt.mpr hlead)).trans (syncOk_of_alone _ _ (by rw [raise_pai]; exact halone))

theorem overlayDisarm_of_late (hlate : a.commit < nowS s + usT 50) :
    overlayDisarm (pendOf d s) (started d s) = .done .late 0 [] (started d s) := by
  unfold overlayDisarm
  refine (checked_none _ _ _ _ ?_).trans ?_
  · rw [pendOf_desc, firstFail_bad hfields, firstFail_when_false (by simp [harmed, hslot]), firstFail_nil]
  · rw [started_cfg, harmed]
    exact if_pos hlate

end Disarm
end Overlays

/-- Settles O18. An arming joins those that stage already (log 11); one that reaches its guard raises no event and leaves
no reason (log 52). -/
theorem overlaysStored : Obligations.OverlaysStored := by
  unfold Obligations.OverlaysStored
  refine ⟨fun d s hstart hslot hsectors hfields hbuf hmode hunarmed hgood hroom halone => ?_,
    fun d s hstart hslot => ⟨?_, ?_, ?_⟩,
    fun d s hstart hslot hstored hfields hrunning hunarmed hlead hgood => ?_,
    fun g rest s hstaging hunsent hguard halone => ?_, fun g s hstaging halone hguard => ?_,
    fun d a s hstart hfields harmed hslot hlead halone => ?_, fun d a s hstart hfields harmed hslot hlate => ?_,
    fun d s hstart hslot hsectors hfields hstored hunarmed halone => ?_⟩
  · rw [exec_cfgOverlayLoad, execCfgOverlayLoad, runCmd_of_done hstart
      (overlayLoad_of_good hslot hsectors hfields hbuf hmode hunarmed hgood hroom halone)]
  · rw [exec_cfgOverlayLoad, execCfgOverlayLoad, runCmd_of_done hstart (overlayLoad_of_no_slot hslot)]
  · rw [exec_cfgOverlayArm, execCfgOverlayArm, runCmd_of_done hstart (overlayArm_of_no_slot hslot)]
  · rw [exec_cfgOverlayDelete, execCfgOverlayDelete, runCmd_of_done hstart (overlayDelete_of_no_slot hslot)]
  · rw [exec_cfgOverlayArm, execCfgOverlayArm, runCmd_of_wait hstart
      (overlayArm_of_good hslot hstored hfields hrunning hunarmed hlead hgood)]
  · rw [exec_overlayStagingDone, execOverlayStagingDone, stagingDone_of_alone hstaging hunsent hguard halone]
  · rw [exec_stageGuardTimeout, execStageGuardTimeout, stageGuard_of_alone hstaging halone hguard]
  · rw [exec_cfgOverlayDisarm, execCfgOverlayDisarm,
      runCmd_of_done hstart (overlayDisarm_of_early hfields harmed hslot hlead halone)]
  · rw [exec_cfgOverlayDisarm, execCfgOverlayDisarm,
      runCmd_of_done hstart (overlayDisarm_of_late hfields harmed hslot hlate)]
  · rw [exec_cfgOverlayDelete, execCfgOverlayDelete,
      runCmd_of_done hstart (overlayDelete_of_stored hslot hsectors hfields hstored hunarmed halone)]

end Sys2Proof.Proofs.Configuration
end

section
/-!
Commits, kept records and reads of records (03_configuration). A commit changes CFG in one operation alone: every unit
that takes the new records in leaves CFG as it is.
-/
namespace Sys2Proof.Proofs.Configuration
open Sys2Proof Sys2Proof.Machine Sys2Proof.Laws
open Sys2Proof.Proofs.SecurityAccess Sys2Proof.Proofs.Commands

/-! ## What the units leave of CFG -/

@[simp] theorem ite_cfg (c : Prop) [Decidable c] (s t : Device) :
    (if c then s else t).cfg = if c then s.cfg else t.cfg := apply_ite Device.cfg c s t

@[simp] theorem foldl_cfg {α : Type} {f : Device → α → Device} (h : ∀ t a, (f t a).cfg = t.cfg) (l : List α)
    (s : Device) : (l.foldl f s).cfg = s.cfg := foldl_field Device.cfg h l s

@[simp] theorem pmcEdges_cfg (blk sig idx k : Nat) (s : Device) :
    (pmcEdges blk sig idx k s).cfg = s.cfg := by
  unfold pmcEdges
  simp

@[simp] theorem ltnLose_cfg (c : Nat) (t : STime) (s : Device) :
    (ltnLose c t s).cfg = s.cfg := rfl

@[simp] theorem ltnCount_cfg (s : Device) :
    (ltnCount s).cfg = s.cfg := by
  unfold ltnCount
  simp

@[simp] theorem ltnEnqueue_cfg (r : LtnIn) (s : Device) :
    (ltnEnqueue r s).cfg = s.cfg := by
  unfold ltnEnqueue
  simp

@[simp] theorem ltnRecord_cfg (kind index node : Nat) (t : STime) (version : Nat) (value : Word) (aux flags : Nat) (s : Device) :
    (ltnRecord kind index node t version value aux flags s).cfg = s.cfg := by
  unfold ltnRecord
  simp

@[simp] theorem report_cfg (o : OutItem) (f : Fate) (issue : STime) (s : Device) :
    (report o f issue s).cfg = s.cfg := by
  unfold report
  simp

@[simp] theorem setRelease_cfg (slot : Nat) (t : STime) (s : Device) :
    (setRelease slot t s).cfg = s.cfg := by
  unfold setRelease
  simp

@[simp] theorem commitTasks_cfg (t : STime) (old : Nat → List Byte) (s : Device) :
    (commitTasks t old s).cfg = s.cfg := by
  unfold commitTasks
  simp

@[simp] theorem beginScan_cfg (c : Nat) (s : Device) :
    (beginScan c s).cfg = s.cfg := by
  unfold beginScan
  simp

@[simp] theorem scanBoundary_cfg (c : Nat) (s : Device) :
    (scanBoundary c s).cfg = s.cfg := by
  unfold scanBoundary
  simp

@[simp] theorem convStartUp_cfg (c : Nat) (t : STime) (s : Device) :
    (convStartUp c t s).cfg = s.cfg := by
  unfold convStartUp
  simp

@[simp] theorem convShutDown_cfg (c : Nat) (s : Device) :
    (convShutDown c s).cfg = s.cfg := by
  unfold convShutDown
  dsimp only
  rw [foldl_cfg]
  · exact foldl_cfg (fun t k => modChan_cfg ..) _ s
  · intro t u
    split <;> simp

@[simp] theorem commitAdc_cfg (t : STime) (old : Nat → List Byte) (s : Device) :
    (commitAdc t old s).cfg = s.cfg := by
  unfold commitAdc
  simp

@[simp] theorem draw_cfg (s : Device) : (draw s).2.cfg = s.cfg := rfl

@[simp] theorem poolNotice_cfg (pool : Nat) (s : Device) :
    (poolNotice pool s).cfg = s.cfg := by
  unfold poolNotice
  split <;> simp

@[simp] theorem retestLoad_cfg (s : Device) :
    (retestLoad s).cfg = s.cfg := by
  unfold retestLoad
  split <;> simp

@[simp] theorem fillLanes_cfg (n : Nat) (s : Device) : (fillLanes n s).cfg = s.cfg := by
  induction n generalizing s with
  | zero => rfl
  | succ n ih =>
    unfold fillLanes
    split
    · rfl
    · split
      · rfl
      · exact ih _

@[simp] theorem refillLanes_cfg (before : Nat) (s : Device) :
    (refillLanes before s).cfg = s.cfg := by
  unfold refillLanes
  simp

@[simp] theorem fitLanes_cfg (n : Nat) (s : Device) : (fitLanes n s).cfg = s.cfg := by
  induction n generalizing s with
  | zero => rfl
  | succ n ih =>
    unfold fitLanes
    dsimp only
    split
    · split
      · exact ih _
      · exact refillLanes_cfg _ s
    · split
      · split
        · exact ih _
        · rfl
      · rfl

@[simp] theorem setGroup_cfg (g : TraceGroup) (s : Device) :
    (setGroup g s).cfg = s.cfg := by
  unfold setGroup
  simp

@[simp] theorem traceStop_cfg (g : TraceGroup) (cause : Nat) (s : Device) :
    (traceStop g cause s).cfg = s.cfg := by
  unfold traceStop
  simp

@[simp] theorem traceDisabled_cfg (loop : Nat) (s : Device) :
    (traceDisabled loop s).cfg = s.cfg := by
  refine foldl_cfg (fun t f => ?_) _ s
  split
  · simp
  · rfl

@[simp] theorem stopTraces_cfg (old : Nat → List Byte) (s : Device) :
    (stopTraces old s).cfg = s.cfg := by
  unfold stopTraces
  simp

@[simp] theorem commitLoops_cfg (a : Armed) (old : Nat → List Byte) (s : Device) :
    (commitLoops a old s).cfg = s.cfg := by
  unfold commitLoops
  simp

@[simp] theorem freshLoops_cfg (old : Nat → List Byte) (s : Device) :
    (freshLoops old s).cfg = s.cfg := by
  unfold freshLoops
  simp

@[simp] theorem commitDac_cfg (old : Nat → List Byte) (s : Device) :
    (commitDac old s).cfg = s.cfg := by
  unfold commitDac
  simp

@[simp] theorem commitDio_cfg (t : STime) (old2 old3 : Nat → List Byte) (s : Device) :
    (commitDio t old2 old3 s).cfg = s.cfg := by
  unfold commitDio
  simp

@[simp] theorem modBuf_cfg (n b : Nat) (f : CanBuf → CanBuf) (s : Device) :
    (modBuf n b f s).cfg = s.cfg := by
  unfold modBuf
  simp

@[simp] theorem commitCan_cfg (oldBuf oldFilter : Nat → List Byte) (s : Device) :
    (commitCan oldBuf oldFilter s).cfg = s.cfg := by
  unfold commitCan
  dsimp only
  rw [foldl_cfg, foldl_cfg]
  · simp
  · intro t o
    split
    · rfl
    · split <;> simp

@[simp] theorem modClass_cfg (p c : Nat) (f : EthClass → EthClass) (s : Device) :
    (modClass p c f s).cfg = s.cfg := by
  unfold modClass
  simp

@[simp] theorem creditUpdate_cfg (p c : Nat) (s : Device) :
    (creditUpdate p c s).cfg = s.cfg := by
  unfold creditUpdate
  simp

@[simp] theorem settleHead_cfg (p c : Nat) (s : Device) (fs : List QFrame) : (settleHead p c s fs).cfg = s.cfg := by
  induction fs generalizing s with
  | nil => exact modClass_cfg ..
  | cons f rest ih => unfold settleHead; simp [ih]

@[simp] theorem enqueueFrame_cfg (p c : Nat) (f : QFrame) (s : Device) :
    (enqueueFrame p c f s).cfg = s.cfg := by
  unfold enqueueFrame
  simp

@[simp] theorem queuePair_cfg (p c : Nat) (both : Bool) (build : Nat → QFrame) (s : Device) :
    (queuePair p c both build s).cfg = s.cfg := by
  unfold queuePair
  simp

@[simp] theorem unlockDomain_cfg (d : Nat) (s : Device) :
    (unlockDomain d s).cfg = s.cfg := by
  unfold unlockDomain
  simp

@[simp] theorem farCheck_cfg (d : Nat) (s : Device) :
    (farCheck d s).cfg = s.cfg := by
  unfold farCheck
  simp

@[simp] theorem followState_cfg (d : Nat) (s : Device) :
    (followState d s).cfg = s.cfg := by
  unfold followState
  split <;> simp

@[simp] theorem followSelection_cfg (old new : Nat) (s : Device) :
    (followSelection old new s).cfg = s.cfg := by
  unfold followSelection
  simp

@[simp] theorem selectDomain_cfg (new cause : Nat) (s : Device) :
    (selectDomain new cause s).cfg = s.cfg := by
  unfold selectDomain
  simp

@[simp] theorem commitTim_cfg (t : STime) (oldRec : List Byte) (oldTrig : Nat → List Byte) (s : Device) :
    (commitTim t oldRec oldTrig s).cfg = s.cfg := by
  unfold commitTim
  simp

@[simp] theorem nzSend_cfg (st typ cycle time : Nat) (launch : Nat → STime) (payload : List Byte) (s : Device) :
    (nzSend st typ cycle time launch payload s).cfg = s.cfg := by
  unfold nzSend
  simp

@[simp] theorem wordBack_cfg (st : Nat) (w : Nat × StWord) (s : Device) :
    (wordBack st w s).cfg = s.cfg := by
  unfold wordBack
  split <;> simp

@[simp] theorem laterReports_cfg (c : NzCycle) (s : Device) :
    (laterReports c s).cfg = s.cfg := by
  unfold laterReports
  simp

@[simp] theorem slipCheck_cfg (st : Nat) (slip : STime) (s : Device) :
    (slipCheck st slip s).cfg = s.cfg := by
  unfold slipCheck
  simp

@[simp] theorem concludeCycle_cfg (st : Nat) (c : NzCycle) (lan : Option Nat) (s : Device) :
    (concludeCycle st c lan s).cfg = s.cfg := by
  unfold concludeCycle
  dsimp only
  split
  · rw [laterReports_cfg, foldl_cfg]
    · simp
    · intro t w
      split <;> simp
  · simp

@[simp] theorem sendPiece_cfg (st off : Nat) (s : Device) :
    (sendPiece st off s).cfg = s.cfg := by
  unfold sendPiece
  simp

@[simp] theorem startParam_cfg (st : Nat) (fromLost : Bool) (s : Device) :
    (startParam st fromLost s).cfg = s.cfg := by
  unfold startParam
  simp

@[simp] theorem stnDisable_cfg (st : Nat) (s : Device) :
    (stnDisable st s).cfg = s.cfg := by
  unfold stnDisable
  simp

@[simp] theorem commitEth_cfg (old : Nat → List Byte) (s : Device) :
    (commitEth old s).cfg = s.cfg := by
  unfold commitEth
  simp

@[simp] theorem restartReleases_cfg (n : Nat) (old : List Byte) (s : Device) :
    (restartReleases n old s).cfg = s.cfg := by
  unfold restartReleases
  simp

@[simp] theorem commitPgm_cfg (old : Nat → List Byte) (s : Device) :
    (commitPgm old s).cfg = s.cfg := by
  unfold commitPgm
  simp

@[simp] theorem ltnPut_cfg (rs : List BufRec) (s : Device) :
    (ltnPut rs s).cfg = s.cfg := by
  unfold ltnPut
  simp

@[simp] theorem ltnFull_cfg (s : Device) :
    (ltnFull s).cfg = s.cfg := by
  unfold ltnFull
  simp

@[simp] theorem putStart_cfg (s : Device) :
    (putStart s).cfg = s.cfg := by
  unfold putStart
  split <;> simp

@[simp] theorem noteGap_cfg (c : Nat) (g : GapPend) (s : Device) :
    (noteGap c g s).cfg = s.cfg := by
  unfold noteGap
  simp

@[simp] theorem ltnWrite_cfg (c typ flags : Nat) (t : STime) (value : Word) (aux version : Nat) (limit : STime) (s : Device) :
    (ltnWrite c typ flags t value aux version limit s).cfg = s.cfg := by
  unfold ltnWrite
  dsimp only
  generalize (lchan (putStart s) c).gap.filter (fun g => g.first < limit) = gap
  cases gap <;> simp

@[simp] theorem closeWindow_cfg (c : Nat) (s : Device) :
    (closeWindow c s).cfg = s.cfg := by
  unfold closeWindow
  split <;> simp

@[simp] theorem stateRec_cfg (c : Nat) (on_ : Bool) (t : STime) (s : Device) :
    (stateRec c on_ t s).cfg = s.cfg := by
  unfold stateRec
  dsimp only
  split
  · simp
  · split <;> simp

@[simp] theorem setChannel_cfg (t : STime) (reload : Bool) (s : Device) (c : Nat) :
    (setChannel t reload s c).cfg = s.cfg := by
  unfold setChannel
  simp

@[simp] theorem commitLtn_cfg (t : STime) (s : Device) :
    (commitLtn t s).cfg = s.cfg := by
  unfold commitLtn
  simp

@[simp] theorem commitHeld_cfg (t : STime) (before : List CfgObj) (s : Device) :
    (commitHeld t before s).cfg = s.cfg := by
  unfold commitHeld
  simp

/-! ## Commits -/

theorem commitCfg_armed (a : Armed) (s : Device) : (commitCfg a s).cfg.armed = s.cfg.armed.drop 1 := by
  simp [commitCfg, (raiseAt_touches _ _ _ _).cfg]

theorem commitCfg_version (a : Armed) (s : Device) : (commitCfg a s).cfg.version = a.version := by
  simp [commitCfg, (raiseAt_touches _ _ _ _).cfg]

section Commit
variable {a : Armed} {rest : List Armed} {s : Device} (harmed : s.cfg.armed = a :: rest)
include harmed

theorem cfgCommit_of_early (h : nowD s < a.commit) : cfgCommit s = s := by
  unfold cfgCommit
  rw [harmed]
  exact if_pos (by simp [h])

theorem cfgCommit_cfg (hdue : a.commit ≤ nowD s) (hfree : holdsArmed s = false) :
    (cfgCommit s).cfg = (commitCfg a s).cfg := by
  unfold cfgCommit
  rw [harmed]
  refine (congrArg Device.cfg (if_neg (by simp [hfree, hdue]))).trans ?_
  extract_lets before old at_ s1 s2 s3 s4 s5 s6 s7 dpt s8 lanes s9
  have h1 : s1 = commitCfg a s := rfl
  have h2 : s2 = commitTasks at_ (old 0x02 1) s1 := rfl
  have h3 : s3 = stopTraces (old 0x02 1) (freshLoops (old 0x02 1) s2) := rfl
  have h4 : s4 = commitLoops a (old 0x03 1) s3 := rfl
  have h5 : s5 = commitEth (old 0x0C 3) s4 := rfl
  have h6 : s6 = commitPgm (old 0x04 1) s5 := rfl
  have h7 : s7 = commitHeld at_ before s6 := rfl
  clear_value s1 s2 s3 s4 s5 s6 s7
  have h8 : s8.cfg = s7.cfg := rfl
  have h9 : s9 = fitLanes 18 s8 := rfl
  rw [ite_cfg, retestLoad_cfg, ite_self, h9, fitLanes_cfg, h8, h7, commitHeld_cfg, h6, commitPgm_cfg, h5, commitEth_cfg,
    h4, commitLoops_cfg, h3, stopTraces_cfg, freshLoops_cfg, h2, commitTasks_cfg, h1]

end Commit

theorem cfgCommit_saf (s : Device) : (cfgCommit s).saf = s.saf :=
  (cfgCommit_keepsSaf s s).mpr (.refl s)

/-! ## Reads and expiry of records -/

theorem readRecord_of_kept {d : Desc} {o : CfgObj} {v : Nat} {b : List Byte} {s : Device}
    (hobj : cfgObj (started d s) d.p0.toNat d.p1.toNat d.target.toNat = some o)
    (hkept : recOfVersion (started d s) o d.p2.toNat = some (v, b))
    (hfields : badField { pmask := 7, bufMin := o.base.length, bufMax := 16777216 } [] d = none) :
    readRecord (pendOf d s) (started d s) = .done .ok v b (started d s) := by
  unfold readRecord
  dsimp only
  rw [pendOf_desc, hobj, Option.bind_some, hkept]
  refine (checked_none _ _ _ _ ?_).trans ?_
  · rw [pendOf_desc, firstFail_when_false Option.isNone_some, Option.map_some, Option.getD_some, firstFail_bad hfields,
      firstFail_nil]
  · rfl

/-- Settles O19. -/
theorem commitsAndRecords : Obligations.CommitsAndRecords := by
  unfold Obligations.CommitsAndRecords
  refine ⟨fun a rest s harmed hearly => ?_, fun a rest s harmed hdue hfree => ⟨cfgCommit s.dev, ?_, ?_, ?_, ?_⟩,
    fun d o v b s hstart hobj hkept hfields => ?_, fun s => ?_⟩
  · rw [exec_cfgCommit, execCfgCommit, cfgCommit_of_early harmed hearly]
  · rw [exec_cfgCommit, execCfgCommit]
  · rw [cfgCommit_cfg harmed hdue hfree, commitCfg_armed, harmed]
    rfl
  · rw [cfgCommit_cfg harmed hdue hfree, commitCfg_version]
  · rw [cfgCommit_saf]
  · rw [exec_cfgReadRecord, execCfgReadRecord, runCmd_of_done hstart (readRecord_of_kept hobj hkept hfields)]
  · rw [exec_versionRecordExpiry, execVersionRecordExpiry, recordExpiry]

end Sys2Proof.Proofs.Configuration
end

section
/-!
Commands by the checks that they make, in the order of the checks (R809).
-/
namespace Sys2Proof.Proofs.Commands
open Sys2Proof Sys2Proof.Machine Sys2Proof.Laws
open Sys2Proof.Proofs.SecurityAccess

section Checks
variable {cs : List Check} {body : Pend → Device → CmdEnd} {d : Desc} {s t : Device} {f : Form}
  {extra : List (Bool × Nat)} {c c' : Bool} {st st' : Status} {detail detail' : Nat}

/-- A command whose first check fails. -/
theorem checked_refused (h : c = true) : checked (.when c st detail :: cs) body (pendOf d s) t = .done st detail [] t :=
  checked_some _ _ _ _ _ _ (firstFail_when_true h _ _ _)

theorem checked_fields (h : badField f extra d = none) : checked [.bad f extra] body (pendOf d s) t = body (pendOf d s) t :=
  checked_none _ _ _ _ ((firstFail_bad h _).trans firstFail_nil)

theorem checked_when_fields (hc : c = false) (h : badField f extra d = none) :
    checked [.when c st detail, .bad f extra] body (pendOf d s) t = body (pendOf d s) t :=
  checked_none _ _ _ _ ((firstFail_when_false hc _ _ _).trans ((firstFail_bad h _).trans firstFail_nil))

theorem checked_fields_when (h : badField f extra d = none) (hc : c = false) :
    checked [.bad f extra, .when c st detail] body (pendOf d s) t = body (pendOf d s) t :=
  checked_none _ _ _ _ ((firstFail_bad h _).trans ((firstFail_when_false hc _ _ _).trans firstFail_nil))

theorem checked_fields_refused (h : badField f extra d = none) (hc : c = true) :
    checked (.bad f extra :: .when c st detail :: cs) body (pendOf d s) t = .done st detail [] t :=
  checked_some _ _ _ _ _ _ ((firstFail_bad h _).trans (firstFail_when_true hc _ _ _))

theorem checked_when_fields_when (hc : c = false) (h : badField f extra d = none) (hc' : c' = false) :
    checked [.when c st detail, .bad f extra, .when c' st' detail'] body (pendOf d s) t = body (pendOf d s) t :=
  checked_none _ _ _ _ ((firstFail_when_false hc _ _ _).trans ((firstFail_bad h _).trans
    ((firstFail_when_false hc' _ _ _).trans firstFail_nil)))

theorem checked_when_fields_refused (hc : c = false) (h : badField f extra d = none) (hc' : c' = true) :
    checked (.when c st detail :: .bad f extra :: .when c' st' detail' :: cs) body (pendOf d s) t = .done st' detail' [] t :=
  checked_some _ _ _ _ _ _ ((firstFail_when_false hc _ _ _).trans ((firstFail_bad h _).trans
    (firstFail_when_true hc' _ _ _)))

theorem checked_fields_when_when (h : badField f extra d = none) (hc : c = false) (hc' : c' = false) :
    checked [.bad f extra, .when c st detail, .when c' st' detail'] body (pendOf d s) t = body (pendOf d s) t :=
  checked_none _ _ _ _ ((firstFail_bad h _).trans ((firstFail_when_false hc _ _ _).trans
    ((firstFail_when_false hc' _ _ _).trans firstFail_nil)))

theorem checked_fields_when_refused (h : badField f extra d = none) (hc : c = false) (hc' : c' = true) :
    checked (.bad f extra :: .when c st detail :: .when c' st' detail' :: cs) body (pendOf d s) t = .done st' detail' [] t :=
  checked_some _ _ _ _ _ _ ((firstFail_bad h _).trans ((firstFail_when_false hc _ _ _).trans
    (firstFail_when_true hc' _ _ _)))

end Checks
end Sys2Proof.Proofs.Commands
end

section
/-!
The commands of DPT and of LPE (04_dispatch_matching, 05_control_loops).
-/
namespace Sys2Proof.Proofs.LoopCommands
open Sys2Proof Sys2Proof.Machine Sys2Proof.Laws
open Sys2Proof.Proofs.SecurityAccess Sys2Proof.Proofs.Commands

section Dispatch
variable {d : Desc} {s : Device}

theorem readTask_of_created (hobj : created (started d s) 0x02 1 d.target.toNat = true)
    (hfields : badField { bufMin := 64, bufMax := 16777216 } [] d = none) :
    readTask (pendOf d s) (started d s) =
      .done .ok (taskState (started d s) d.target.toNat) (taskStatus (started d s) d.target.toNat) (started d s) := by
  unfold readTask
  exact checked_when_fields (by rw [pendOf_desc, hobj, Bool.not_true]) hfields

theorem readTask_of_none (hobj : created (started d s) 0x02 1 d.target.toNat = false) :
    readTask (pendOf d s) (started d s) = .done .notFound 0 [] (started d s) := by
  unfold readTask
  exact checked_refused (by rw [pendOf_desc, hobj, Bool.not_false])

theorem dptClear_of_fields
    (hfields : badField { target := false, pmask := 1 } [(2 ^ 8 ≤ d.p0.toNat, 24)] d = none) :
    dptClear (pendOf d s) (started d s) = .done .ok 0 [] { started d s with
      dpt.stale := clr d.p0.toNat 0 s.dpt.stale, dpt.lateDrop := clr d.p0.toNat 1 s.dpt.lateDrop,
      dpt.primOvf := clr d.p0.toNat 2 s.dpt.primOvf, dpt.reissue := clr d.p0.toNat 3 s.dpt.reissue,
      dpt.seqGap := clr d.p0.toNat 4 s.dpt.seqGap, dpt.disDrop := clr d.p0.toNat 5 s.dpt.disDrop,
      dpt.waitMax := clrN d.p0.toNat 6 s.dpt.waitMax, dpt.readyMax := clrN d.p0.toNat 7 s.dpt.readyMax } := by
  unfold dptClear
  exact checked_fields hfields

theorem checkLoad_of_current
    (hfields : badField { target := false, pmask := 3 } [(2 < d.p0.toNat, 24), (1 < d.p1.toNat, 28)] d = none)
    (hmode : s.cfg.mode ≠ .unconfigured) (hp1 : d.p1 = 0) :
    checkLoad (pendOf d s) (started d s) = .done .ok
      (loadUnits (viewNow (started d s)) +
        (match firstFailingSlot (viewNow (started d s)) (envLanes d.p0.toNat) (clockQ d.p0.toNat false) with
          | some n => n + 1
          | none => 0) * 2 ^ 16) [] (started d s) := by
  unfold checkLoad
  rw [pendOf_desc]
  refine (checked_fields_when hfields (by simp [hmode])).trans ?_
  rw [hp1]
  rfl

end Dispatch

/-- Settles O22. -/
theorem dispatchCommands : Obligations.DispatchCommands := by
  unfold Obligations.DispatchCommands
  refine ⟨fun d s hstart hobj hfields => ?_, fun d s hstart hobj => ?_, fun d s hstart hfields => ?_,
    fun d s hstart hfields hmode hp1 => ?_⟩
  · rw [exec_dptReadTask, execDptReadTask, runCmd_of_done hstart (readTask_of_created hobj hfields)]
  · rw [exec_dptReadTask, execDptReadTask, runCmd_of_done hstart (readTask_of_none hobj)]
  · rw [exec_dptClearCounters, execDptClearCounters, runCmd_of_done hstart (dptClear_of_fields hfields)]
  · exact congrArg (fun t : Device => Host.Outcome.next { s with dev := t })
      (runCmd_of_done hstart (checkLoad_of_current hfields hmode hp1))

/-! ## Loops -/

section Loops
variable {d : Desc} {s : Device}

section Exists
variable (hloop : noLoop s d = false)
include hloop

theorem setMode_of_open (hfields : badField { pmask := 1 } [(4 < d.p0.toNat, 24)] d = none) (hmode : d.p0 ≠ 4) :
    setMode (pendOf d s) (started d s) = .done .ok (loopOf s d.target.toNat).modeAct []
      (modLoop d.target.toNat (fun l => { l with
          staleOpen := false, cause := 0,
          manSet := l.manSet && fld 0 1 (recNow s 0x03 1 d.target.toNat) % 8 == d.p0.toNat })
        (setRec (started d s) 0x03 1 d.target.toNat (overwrite 0 (le 1 d.p0.toNat)))) := by
  have hopen : (d.p0.toNat == 4 && armedCoef (started d s) d.target.toNat) = false := by
    have hp0 : d.p0.toNat ≠ 4 := fun h => hmode (BitVec.eq_of_toNat_eq h)
    simp [hp0]
  unfold setMode
  exact checked_when_fields_when hloop hfields hopen

theorem setCoef_of_open
    (hfields : badField { pmask := 7 } [(12 < d.p0.toNat, 24), (31 < d.p2.toNat || (d.p2 != 0 &&
      ((loopCfg (recNow s 0x03 1 d.target.toNat)).bf || d.p0.toNat ∈ [1, 3, 10, 12])), 32)] d = none)
    (hmode : (loopCfg (recNow s 0x03 1 d.target.toNat)).mode ≠ 4) :
    setCoef (pendOf d s) (started d s) =
      .done .ok (fld (16 + 4 * d.p0.toNat) 4 (recNow s 0x03 1 d.target.toNat)) []
        (setRec (started d s) 0x03 1 d.target.toNat (fun r => overwrite (68 + d.p0.toNat) (le 1 d.p2.toNat)
          (overwrite (16 + 4 * d.p0.toNat) (le 4 d.p1.toNat) r))) := by
  unfold setCoef
  exact checked_when_fields_when hloop hfields (beq_eq_false_iff_ne.mpr hmode)

theorem setLimit_of_fields
    (hfields : badField { pmask := 3 } [(10 < d.p0.toNat, 24), (decide (d.p0.toNat ≤ 10) &&
      !valuesOk (viewNow s) 0x03 1 d.target.toNat
        (overwrite (84 + 4 * d.p0.toNat) (le 4 d.p1.toNat) (recNow s 0x03 1 d.target.toNat)), 28)] d = none) :
    setLimit (pendOf d s) (started d s) =
      .done .ok (fld (84 + 4 * d.p0.toNat) 4 (recNow s 0x03 1 d.target.toNat)) []
        (setRec (started d s) 0x03 1 d.target.toNat (overwrite (84 + 4 * d.p0.toNat) (le 4 d.p1.toNat))) := by
  unfold setLimit
  exact checked_when_fields hloop hfields

theorem setSp_of_host (hfields : badField { pmask := 1 } [] d = none)
    (hsource : (loopCfg (recNow s 0x03 1 d.target.toNat)).spSrc = 4)
    (htask : taskEnabled (recNow s 0x02 1 (loopCfg (recNow s 0x03 1 d.target.toNat)).slot) = true) :
    setSp (pendOf d s) (started d s) = .done .ok 0 [] (tokenDirect {
        time := nowS s, version := versionAt s (nowS s), bf := (loopCfg (recNow s 0x03 1 d.target.toNat)).bf,
        slot := (loopCfg (recNow s 0x03 1 d.target.toNat)).slot, operand := 1,
        source := 0x0300 + d.target.toNat % 256, value := d.p0 } (started d s)) := by
  have hhost : ((loopCfg (recNow s 0x03 1 d.target.toNat)).spSrc != 4 ||
      !taskEnabled (recNow s 0x02 1 (loopCfg (recNow s 0x03 1 d.target.toNat)).slot)) = false := by
    simp [hsource, htask]
  unfold setSp
  exact checked_when_fields_when hloop hfields hhost

theorem setOutput_of_manual (hmode : (loopCfg (recNow s 0x03 1 d.target.toNat)).mode = 2)
    (hfields : badField { pmask := 1 } [(numLt (loopCfg (recNow s 0x03 1 d.target.toNat)).bf
        (ofWord (loopCfg (recNow s 0x03 1 d.target.toNat)).bf d.p0.toNat)
        ((loopCfg (recNow s 0x03 1 d.target.toNat)).l 5) ||
      numLt (loopCfg (recNow s 0x03 1 d.target.toNat)).bf ((loopCfg (recNow s 0x03 1 d.target.toNat)).l 6)
        (ofWord (loopCfg (recNow s 0x03 1 d.target.toNat)).bf d.p0.toNat), 24)] d = none) :
    setOutput (pendOf d s) (started d s) = .done .ok (loopOf s d.target.toNat).outLast.toNat []
      (modLoop d.target.toNat (fun l => { l with manOut := d.p0, manSet := true }) (started d s)) := by
  unfold setOutput
  exact checked_when_fields_when hloop hfields (bne_eq_false_iff_eq.mpr hmode)

theorem readLoop_of_fields (hfields : badField { bufMin := 64, bufMax := 16777216 } [] d = none) :
    readLoop (pendOf d s) (started d s) = .done .ok (loopOf s d.target.toNat).modeAct
      (loopRecord (loopCfg (recNow s 0x03 1 d.target.toNat)).bf (loopOf s d.target.toNat)) (started d s) := by
  unfold readLoop
  exact checked_when_fields hloop hfields

end Exists

theorem lpeClear_of_fields
    (hfields : badField { target := false, pmask := 1 } [(2 ^ 6 ≤ d.p0.toNat, 24)] d = none) :
    lpeClear (pendOf d s) (started d s) = .done .ok 0 [] { started d s with
      lpe.satCnt := clr d.p0.toNat 0 s.lpe.satCnt, lpe.bumpLim := clr d.p0.toNat 1 s.lpe.bumpLim,
      lpe.staleOpen := clr d.p0.toNat 2 s.lpe.staleOpen, lpe.laneErr := clr d.p0.toNat 3 s.lpe.laneErr,
      lpe.fmtOvf := clr d.p0.toNat 4 s.lpe.fmtOvf, lpe.orderDrift := clr d.p0.toNat 5 s.lpe.orderDrift } := by
  unfold lpeClear
  exact checked_fields hfields

end Loops

/-- Settles O23. The source of a set-point from the host is block 0x03 with the loop number modulo 256 (log 13); an output
set before the first MANUAL evaluation stands in it, which manSet notes (log 80). -/
theorem loopCommands : Obligations.LoopCommands := by
  unfold Obligations.LoopCommands
  refine ⟨fun d s hstart hloop hfields hmode => ?_, fun d s hstart hnone => ⟨?_, ?_, ?_, ?_, ?_, ?_⟩,
    fun d s hstart hloop hfields hmode => ?_, fun d s hstart hloop _ hfields => ?_,
    fun d s hstart hloop hfields hsource htask => ?_, fun d s hstart hloop hmode hfields => ?_,
    fun d s hstart hloop hfields => ?_, fun d s hstart hfields => ?_⟩
  · rw [exec_lpeSetMode, execLpeSetMode, runCmd_of_done hstart (setMode_of_open hloop hfields hmode)]
  · rw [exec_lpeSetMode, execLpeSetMode, runCmd_of_done hstart (by unfold setMode; exact checked_refused hnone)]
  · rw [exec_lpeSetCoef, execLpeSetCoef, runCmd_of_done hstart (by unfold setCoef; exact checked_refused hnone)]
  · rw [exec_lpeSetLimit, execLpeSetLimit, runCmd_of_done hstart (by unfold setLimit; exact checked_refused hnone)]
  · rw [exec_lpeSetSp, execLpeSetSp, runCmd_of_done hstart (by unfold setSp; exact checked_refused hnone)]
  · rw [exec_lpeSetOutput, execLpeSetOutput, runCmd_of_done hstart (by unfold setOutput; exact checked_refused hnone)]
  · rw [exec_lpeReadState, execLpeReadState, runCmd_of_done hstart (by unfold readLoop; exact checked_refused hnone)]
  · rw [exec_lpeSetCoef, execLpeSetCoef, runCmd_of_done hstart (setCoef_of_open hloop hfields hmode)]
  · rw [exec_lpeSetLimit, execLpeSetLimit, runCmd_of_done hstart (setLimit_of_fields hloop hfields)]
  · rw [exec_lpeSetSp, execLpeSetSp, runCmd_of_done hstart (setSp_of_host hloop hfields hsource htask)]
  · rw [exec_lpeSetOutput, execLpeSetOutput, runCmd_of_done hstart (setOutput_of_manual hloop hmode hfields)]
  · rw [exec_lpeReadState, execLpeReadState, runCmd_of_done hstart (readLoop_of_fields hloop hfields)]
  · rw [exec_lpeClearCounters, execLpeClearCounters, runCmd_of_done hstart (lpeClear_of_fields hfields)]

end Sys2Proof.Proofs.LoopCommands
end

section
/-!
The restart commands of KEP and the stages of a restart (15_keep_restart).
-/
namespace Sys2Proof.Proofs.Restarts
open Sys2Proof Sys2Proof.Machine Sys2Proof.Laws
open Sys2Proof.Proofs.SecurityAccess Sys2Proof.Proofs.Commands

section Commands
variable {d : Desc} {s : Device}

/-! ## Commands of KEP -/

section Restart
variable (hfields : badField { target := false, pmask := 1 } [(3 < d.p0.toNat, 24)] d = none)
include hfields

theorem kepRestart_of_access (haccess : needMaint (started d s) = false) (hmode : s.cfg.mode ≠ .unconfigured)
    (hnone : s.kep.restart = none) :
    kepRestart (pendOf d s) (started d s) = .done .ok (s.kep.epoch % 2 ^ 32) []
      { started d s with kep.restart := some (d.p0.toNat, 3, s.tim.ck + 100000) } := by
  unfold kepRestart
  refine (checked_none _ _ _ _ ?_).trans ?_
  · rw [pendOf_desc, firstFail_bad hfields, firstFail_when_false haccess, firstFail_when_false (by simp [hmode]),
      firstFail_nil]
  · rw [started_kep, hnone]
    rfl

theorem kepRestart_of_no_access (haccess : needMaint (started d s) = true) :
    kepRestart (pendOf d s) (started d s) = .done .authRequired 0 [] (started d s) := by
  unfold kepRestart
  exact checked_fields_refused hfields haccess

end Restart

theorem kepReadImage_of_valid (hslot : d.target.toNat < 2) (hfields : badField plain [] d = none)
    (hvalid : (kepSlot s d.target.toNat).state = 2) (hwindow : (windowOf s 0x0F10).isSome = true)
    (hidle : s.kep.read = none) :
    kepReadImage (pendOf d s) (started d s) =
      .wait { started d s with kep.read := some (d.target.toNat, 0, pendOf d s) } := by
  have hfree : ((kepSlot s d.target.toNat).state != 2 || (windowOf s 0x0F10).isNone || s.kep.read.isSome) = false := by
    simpa [hvalid, hidle, Option.isSome_iff_ne_none] using hwindow
  unfold kepReadImage
  exact checked_when_fields_when (decide_eq_false (Nat.not_lt.mpr (Nat.le_of_lt_succ hslot))) hfields hfree

theorem kepClear_of_fields (hfields : badField { target := false, pmask := 1 } [(8 ≤ d.p0.toNat, 24)] d = none) :
    kepClear (pendOf d s) (started d s) = .done .ok 0 [] { started d s with
      kep.stretches := clr d.p0.toNat 0 s.kep.stretches, kep.stretchMax := clrN d.p0.toNat 1 s.kep.stretchMax,
      kep.discards := clr d.p0.toNat 2 s.kep.discards } := by
  unfold kepClear
  exact checked_fields hfields

end Commands

/-! ## The delay of a restart -/

section Stages
variable {s : Device} {kind cause : Nat}

theorem restartDelay_of_due {k c t : Nat} (hrestart : s.kep.restart = some (k, c, t)) (hdue : t ≤ s.tim.ck) :
    restartDelay s = if k < 2 then spireRestart k c 1 false { s with kep.restart := none }
      else deviceReset c (some k) { s with kep.restart := none, kep.lossCause := c } := by
  unfold restartDelay
  rw [hrestart]
  exact if_neg (Nat.not_lt.mpr hdue)

theorem spireWarm_of_cause (hlow : 3 ≤ cause) (hhigh : cause ≤ 5) (hup : s.btr.spireUp = true) :
    spireWarm cause s = spireRestart 0 cause 1 false s := by
  have hgo : ¬(cause < 3 ∨ 5 < cause ∨ (!s.btr.spireUp) = true) := by
    simp [hup, Nat.not_lt.mpr hlow, Nat.not_lt.mpr hhigh]
  exact if_neg hgo

/-! ## The stages -/

theorem imageRestore_stage (ecc : Bool) (bad : List Nat) (b : Option (Nat × Nat))
    (hrunning : s.kep.running = some (kind, cause)) (hphase : s.kep.phase = .image) (hup : s.btr.spireUp = true) :
    (imageRestore ecc bad b s).kep.phase = .resume ∧ (imageRestore ecc bad b s).kep.restoring = false := by
  have hgo : ¬(s.kep.phase != .image || !s.btr.spireUp) = true := by simp [hphase, hup]
  unfold imageRestore
  rw [hrunning]
  dsimp only
  rw [if_neg hgo]
  exact ⟨rfl, rfl⟩

theorem controlResume_of_cold (hrunning : s.kep.running = some (kind, cause)) (hphase : s.kep.phase = .resume)
    (hup : s.btr.spireUp = true) (htakeover : s.pai.mode ≠ .takeover) (hspire : kind < 2)
    (hrestored : s.kep.restored = none) :
    controlResume s = enterRunning (resumed { resumeCold kind s with kep.restored := none }) := by
  have hgo : ¬(s.kep.phase != .resume || !s.btr.spireUp || s.pai.mode == .takeover ||
      (2 ≤ kind && s.tim.mode == .unset)) = true := by
    simp [hphase, hup, htakeover, Nat.not_le.mpr hspire]
  unfold controlResume
  rw [hrunning]
  dsimp only
  rw [if_neg hgo, hrestored]

section Device
variable (hphase : s.kep.phase = .reload) (hup : s.btr.spireUp = true)
include hphase hup

theorem deviceRestart_of_no_base (hbase : s.kep.base = []) :
    deviceRestart s = resumed { s with kep.runAtLoss := false } := by
  have hgo : ¬(s.kep.phase != .reload || !s.btr.spireUp) = true := by simp [hphase, hup]
  unfold deviceRestart
  exact (if_neg hgo).trans (if_pos (by rw [hbase, List.isEmpty_nil]))

theorem deviceRestart_of_stopped (hbase : s.kep.base ≠ []) (hstopped : s.kep.runAtLoss = false)
    (hasked : s.kep.running = none) :
    deviceRestart s =
      { resumed (nameReload (paiLoaded (baseLoaded (applyImage s.kep.base s)))) with kep.choice := true } := by
  have hgo : ¬(s.kep.phase != .reload || !s.btr.spireUp) = true := by simp [hphase, hup]
  unfold deviceRestart
  refine (if_neg hgo).trans ((if_neg (by simpa using hbase)).trans ?_)
  rw [hasked, hstopped]
  rfl

end Device

/-! ## Booting -/

theorem bootVerify_of_short {dirs : List (List Byte)} {imgs : List (Nat × Nat × List Byte)} (hboot : mayBoot s = true)
    (hshort : linkShort s = true) : bootVerify dirs imgs s = holdSpire s := by
  unfold bootVerify
  exact (if_neg (by simp [hboot])).trans (if_pos hshort)

theorem bootVerify_of_refused {dirs : List (List Byte)} {imgs : List (Nat × Nat × List Byte)}
    (hboot : mayBoot s = false) : bootVerify dirs imgs s = s := by
  unfold bootVerify
  exact if_pos (by simp [hboot])

/-- The boot of a device start takes the directory read and the images of all three kinds (R770). -/
theorem bootVerify_of_device {dirs : List (List Byte)} {imgs : List (Nat × Nat × List Byte)} {g : Nat}
    {es : List FlashEntry} {r : Bool × Device} (hboot : mayBoot s = true) (hlong : linkShort s = false)
    (hdir : chooseDirectory dirs = some (g, es)) (hasked : s.kep.running = none)
    (hkinds : bootKinds imgs [2, 3, 1] { s with
      sec.gen := BitVec.ofNat 32 g, sec.flash := es, btr.linkUp := true } = r) :
    bootVerify dirs imgs s =
      if r.1 then bootDone true { r.2 with sec.rollbackBoot := false } else { r.2 with btr.linkUp := false } := by
  unfold bootVerify
  refine (if_neg (by simp [hboot])).trans ((if_neg (by simp [hlong])).trans ?_)
  rw [hdir]
  dsimp only
  rw [hasked]
  dsimp only
  rw [if_pos rfl, hkinds]
  obtain ⟨ok, t⟩ := r
  cases ok
  · rfl
  · dsimp only
    rw [Bool.not_true, Bool.and_false]
    rfl

/-- A device start comes out of its boot with the Spire die and its link up, and goes on to the reload. -/
theorem bootDone_device (s : Device) : (bootDone true s).btr.spireUp = true ∧ (bootDone true s).btr.linkUp = true ∧
    (bootDone true s).kep.phase = .reload := ⟨rfl, rfl, rfl⟩

end Stages

/-- Settles O26. -/
theorem restartsProceed : Obligations.RestartsProceed := by
  unfold Obligations.RestartsProceed
  refine ⟨fun d s hstart hfields haccess hmode hnone => ?_, fun d s hstart hfields haccess => ?_,
    fun k c t s hrestart hdue hspire => ?_, fun k c t s hrestart hdue hdevice => ?_,
    fun d s hstart hslot hfields hvalid hwindow hidle => ?_, fun d s hstart hfields => ?_,
    fun cause s hlow hhigh hup => ?_, fun kind cause ecc bad b s hrunning hphase hup => ?_,
    fun kind cause s hrunning hphase hup htakeover hspire hrestored => ?_, fun s hphase hup hbase => ?_,
    fun s hphase hup hbase hstopped hasked => ?_, fun dirs imgs s hboot hshort => ?_,
    fun dirs imgs g es s hboot hlong hdir hasked => ?_, fun s => ?_, fun dirs imgs s hboot => ?_⟩
  · rw [exec_kepRestart, execKepRestart, runCmd_of_done hstart (kepRestart_of_access hfields haccess hmode hnone)]
  · rw [exec_kepRestart, execKepRestart, runCmd_of_done hstart (kepRestart_of_no_access hfields haccess)]
  · rw [exec_kepRestartDelayExpiry, execKepRestartDelayExpiry, restartDelay_of_due hrestart hdue, if_pos hspire]
  · rw [exec_kepRestartDelayExpiry, execKepRestartDelayExpiry, restartDelay_of_due hrestart hdue,
      if_neg (Nat.not_lt.mpr hdevice)]
  · rw [exec_kepReadImage, execKepReadImage,
      runCmd_of_wait hstart (kepReadImage_of_valid hslot hfields hvalid hwindow hidle)]
  · rw [exec_kepClearCounters, execKepClearCounters, runCmd_of_done hstart (kepClear_of_fields hfields)]
  · rw [exec_spireWarmRestart, execSpireWarmRestart, spireWarm_of_cause hlow hhigh hup]
  · exact ⟨_, exec_imageRestore .., imageRestore_stage ecc bad b hrunning hphase hup⟩
  · rw [exec_controlResume, execControlResume,
      controlResume_of_cold hrunning hphase hup htakeover hspire hrestored]
  · rw [exec_deviceRestart, execDeviceRestart, deviceRestart_of_no_base hphase hup hbase]
  · rw [exec_deviceRestart, execDeviceRestart, deviceRestart_of_stopped hphase hup hbase hstopped hasked]
  · rw [exec_bootVerify, execBootVerify, bootVerify_of_short hboot hshort]
  · rw [exec_bootVerify, execBootVerify, bootVerify_of_device hboot hlong hdir hasked rfl]
  · exact bootDone_device s
  · rw [exec_bootVerify, execBootVerify, bootVerify_of_refused hboot]

end Sys2Proof.Proofs.Restarts
end

section
/-!
What a started command reads, and the reserved and range checks of its fields (R809).
-/
namespace Sys2Proof.Proofs.Commands
open Sys2Proof Sys2Proof.Machine Sys2Proof.Laws

section Start
variable (d : Desc) (s : Device)

@[simp] theorem recNow_started (blk kind obj : Nat) : recNow (started d s) blk kind obj = recNow s blk kind obj := rfl
@[simp] theorem created_started (blk kind obj : Nat) : created (started d s) blk kind obj = created s blk kind obj := rfl
@[simp] theorem winOf_started (n : Nat) : winOf (started d s) n = winOf s n := rfl
@[simp] theorem windowOf_started (src : Nat) : windowOf (started d s) src = windowOf s src := rfl

end Start

theorem leastOffence_of_none {l : List (Bool × Nat)} (h : ∀ e ∈ l, e.1 = false) : leastOffence l = none := by
  induction l with
  | nil => rfl
  | cons e rest ih =>
    have hrest := ih fun e he => h e (List.mem_cons_of_mem _ he)
    simp [leastOffence, hrest, h e List.mem_cons_self]

theorem leastOffence_append_of_none {l rest : List (Bool × Nat)} (h : leastOffence rest = none) :
    leastOffence (l ++ rest) = leastOffence l := by
  induction l with
  | nil => exact h
  | cons e l ih => rw [List.cons_append, leastOffence, leastOffence, ih]

/-- A descriptor whose fields are in order, and that no further check of its command offends. -/
theorem badField_of_extra {f : Form} {extra : List (Bool × Nat)} {d : Desc} (h : badField f [] d = none)
    (hextra : ∀ e ∈ extra, e.1 = false) : badField f extra d = none := by
  unfold badField at h ⊢
  rw [leastOffence_append_of_none (leastOffence_of_none hextra)]
  rwa [List.append_nil] at h

end Sys2Proof.Proofs.Commands
end

section
/-!
Trace groups (06_recording_traces).
-/
namespace Sys2Proof.Proofs.Traces
open Sys2Proof Sys2Proof.Machine Sys2Proof.Laws
open Sys2Proof.Proofs.SecurityAccess Sys2Proof.Proofs.Commands
open Sys2Proof.Proofs.Counters (bits_of_lt bit_above)

section Traces
variable {d : Desc} {s : Device}

/-! ## Forming a group -/

/-- The fields of LTN_TRACE_SET as its operands give them, in range (Table LTN-4). -/
structure SetFields (d : Desc) (s : Device) : Prop where
  loop : d.p1.toNat ≤ 1023
  some : 1 ≤ d.p0.toNat
  buffers : d.p0.toNat ≤ 16
  nodes : (setNodes d).all (fun k => decide (k ≤ 16)) = true
  decimates : 1 ≤ d.p6.toNat
  decim : d.p6.toNat ≤ 256
  period : ((recPW (recNow s 0x02 1 (fld 10 2 (recNow s 0x03 1 d.p1.toNat)))).1 +
    (recPW (recNow s 0x02 1 (fld 10 2 (recNow s 0x03 1 d.p1.toNat)))).2) * d.p6.toNat < 2 ^ 40
  pre : d.p7.toNat ≤ 32767

theorem traceSet_of_fields (h : SetFields d s) (hloop : created s 0x03 1 d.p1.toNat = true)
    (hroom : d.target.toNat + d.p0.toNat ≤ 64) (hfields : badField { pmask := 0xFF } [] d = none)
    (hidle : s.trc.groups.any (fun e => overlapsGroup d.target.toNat d.p0.toNat e.2 &&
      (e.2.mode == .armed || e.2.mode == .triggered)) = false) :
    traceSet (pendOf d s) (started d s) = .done .ok 0 [] { started d s with
      trc.groups := tset (s.trc.groups.filter (fun e => !overlapsGroup d.target.toNat d.p0.toNat e.2)) d.target.toNat
        { first := d.target.toNat, count := d.p0.toNat, loop := d.p1.toNat, nodes := setNodes d, decim := d.p6.toNat,
          tunit := false, pre := d.p7.toNat } } := by
  have hcount : bits 4 0 d.p0.toNat = d.p0.toNat := bits_of_lt (Nat.lt_of_le_of_lt h.buffers (by decide))
  have hnumber : bits 9 0 d.p1.toNat = d.p1.toNat := bits_of_lt (Nat.lt_succ_of_le h.loop)
  have hdecim : bits 8 0 d.p6.toNat = d.p6.toNat := bits_of_lt (Nat.lt_of_le_of_lt h.decim (by decide))
  have hunit : bit 16 d.p6.toNat = false := bit_above (Nat.lt_of_le_of_lt h.decim (by decide))
  unfold traceSet
  dsimp only
  rw [pendOf_desc, hcount, hnumber, hdecim, hunit]
  refine checked_when_fields_when ?_ (badField_of_extra hfields ?_) hidle
  · simp [hloop, hroom]
  · obtain ⟨hp1, hsome, hbuffers, hnodes, hdecimates, hdecim', hperiod, hpre⟩ := h
    have hlevel : ∀ k < (setNodes d).length, (setNodes d).getD k 0 ≤ 16 := fun k hk => by
      rw [List.getD_eq_getElem _ _ hk]
      simpa using List.all_eq_true.mp hnodes _ (List.getElem_mem hk)
    intro e he
    obtain he | he := List.mem_append.mp he
    · simp only [List.mem_cons, List.not_mem_nil, or_false] at he
      obtain rfl | rfl | rfl | rfl := he
      · simp [Nat.ne_of_gt hsome, hbuffers]
      · simpa using hp1
      · simp only [recNow_started]
        simpa [Nat.ne_of_gt hdecimates, hdecim', flag] using hperiod
      · simpa using hpre
    · obtain ⟨k, hk, rfl⟩ := List.mem_map.mp he
      exact decide_eq_false (Nat.not_lt.mpr (hlevel k (List.mem_range.mp hk)))

/-! ## Arming, triggering and stopping -/

section Group
variable {g : TraceGroup} (hgroup : tfind s.trc.groups d.target.toNat = some g)
include hgroup

theorem traceArm_of_host (hmode : g.mode = .idle ∨ g.mode = .done ∨ g.mode = .stopped) (hkind : d.p0 = 0)
    (hfields : badField { pmask := 0x1F } [] d = none) :
    traceArm (pendOf d s) (started d s) = .done .ok 0 [] (setGroup
      { first := g.first, count := g.count, loop := g.loop, nodes := g.nodes, decim := g.decim, tunit := g.tunit,
        pre := g.pre, mode := .armed, kind := 0, a := d.p1, b := d.p2, trigVersion := d.p1.toNat,
        trigTime := nsT ((d.p3.toNat * 2 ^ 32 + d.p2.toNat) * 1000000000 + d.p1.toNat), ofGroup := d.p4.toNat }
      (started d s)) := by
  have hidle : (g.mode == .armed || g.mode == .triggered) = false := by
    obtain h | h | h := hmode <;> simp [h]
  have hword : d.p0.toNat = 0 := by rw [hkind]; rfl
  have hbits : ∀ hi lo, bits hi lo 0 = 0 := by simp [bits]
  unfold traceArm
  dsimp only
  rw [pendOf_desc, started_trc, hgroup, hword, hbits, hbits, hbits]
  refine (checked_none _ _ _ _ ?_).trans ?_
  · rw [pendOf_desc, firstFail_when_false (by simp), firstFail_bad (badField_of_extra hfields (by simp)),
      firstFail_when_false (by simpa using hidle), firstFail_when_false (by simp), firstFail_nil]
  · rfl

section Plain
variable (hfields : badField plain [] d = none)
include hfields

theorem traceForce_of_armed (hmode : g.mode = .armed) (hkind : g.kind = 0) :
    traceForce (pendOf d s) (started d s) =
      .done .ok (nsLow (nowS s)) [] (traceTrigger 64 d.target.toNat (nowS s) (started d s)) := by
  unfold traceForce
  exact checked_fields_when hfields (by simp [hgroup, hmode, hkind])

theorem traceForce_of_other (h : g.mode ≠ .armed ∨ g.kind ≠ 0) :
    traceForce (pendOf d s) (started d s) = .done .rejectedState 0 [] (started d s) := by
  unfold traceForce
  exact checked_fields_refused hfields (by obtain h | h := h <;> simp [hgroup, h])

theorem traceStopCmd_of_active (hmode : g.mode = .armed ∨ g.mode = .triggered) :
    traceStopCmd (pendOf d s) (started d s) = .done .ok (keptEntries g).length []
      (raise Ev.ltnTraceStopped [(1, g.first), (1, 1)] (setGroup { g with mode := .stopped } (started d s))) := by
  unfold traceStopCmd
  rw [pendOf_desc, started_trc, hgroup]
  exact checked_fields_when hfields (by obtain h | h := hmode <;> simp [h])

theorem traceRead_of_stopped {w : Nat} (hmode : g.mode = .done ∨ g.mode = .stopped)
    (hwindow : windowOf s 0x11C0 = some w) (hidle : s.trc.read = none) :
    traceRead (pendOf d s) (started d s) = .wait { started d s with
      trc.read := some (pendOf d s, 0, traceSegments (started d s) g (segRoom (winOf s w))) } := by
  have hwindow' : windowOf (started d s) 0x11C0 = some w := hwindow
  have hdone : (g.mode == .done || g.mode == .stopped) = true := by obtain h | h := hmode <;> simp [h]
  unfold traceRead
  dsimp only
  rw [pendOf_desc, started_trc, hgroup, hwindow', hidle]
  refine (checked_fields_when_when hfields (by simp [hdone]) rfl).trans ?_
  rw [hwindow']
  rfl

end Plain
end Group
end Traces

/-- Settles O30. A group that loses a buffer to the one formed is dropped whole (log 12). -/
theorem tracesCapture : Obligations.TracesCapture := by
  unfold Obligations.TracesCapture
  refine ⟨fun d s hstart hp1 hloop hroom hsome hbuffers hnodes hone hdecim hperiod hpre hfields hidle => ?_,
    fun d g s hstart hgroup hmode hkind hfields => ?_, fun d g s hstart hfields hgroup hmode hkind => ?_,
    fun d g s hstart hfields hgroup hother => ?_, fun d g s hstart hfields hgroup hmode => ?_,
    fun d g w s hstart hfields hgroup hmode hwindow hidle => ?_⟩
  · rw [exec_ltnTraceSet, execLtnTraceSet, runCmd_of_done hstart (traceSet_of_fields
      ⟨hp1, hsome, hbuffers, hnodes, hone, hdecim, hperiod, hpre⟩ hloop hroom hfields hidle)]
  · rw [exec_ltnTraceArm, execLtnTraceArm, runCmd_of_done hstart (traceArm_of_host hgroup hmode hkind hfields)]
  · rw [exec_ltnTraceForce, execLtnTraceForce,
      runCmd_of_done hstart (traceForce_of_armed hgroup hfields hmode hkind)]
  · rw [exec_ltnTraceForce, execLtnTraceForce, runCmd_of_done hstart (traceForce_of_other hgroup hfields hother)]
  · rw [exec_ltnTraceStop, execLtnTraceStop, runCmd_of_done hstart (traceStopCmd_of_active hgroup hfields hmode)]
  · rw [exec_ltnTraceRead, execLtnTraceRead,
      runCmd_of_wait hstart (traceRead_of_stopped hgroup hfields hmode hwindow hidle)]

end Sys2Proof.Proofs.Traces
end

section
/-!
The commands of EVR (16_events_faults_counters).
-/
namespace Sys2Proof.Proofs.EventCommands
open Sys2Proof Sys2Proof.Machine Sys2Proof.Laws
open Sys2Proof.Proofs.SecurityAccess Sys2Proof.Proofs.Commands Sys2Proof.Proofs.HostRings

section Events
variable {d : Desc} {s : Device}

/-- A host buffer that cannot be written ends the read before it gives its records (R61, R809). -/
theorem readLastGasp_of_failed_buffer
    (hfields : badField { target := false, bufMin := 512, bufMax := 16777216 } [] d = none) (hbuf : d.buf.acc = .error) :
    readLastGasp (pendOf d s) (started d s) = .done .dataError 0 [] (started d s) := by
  unfold readLastGasp
  refine checked_some _ _ _ _ _ _ ?_
  rw [pendOf_desc, firstFail_bad hfields]
  simp [firstFail, checkFails, hbuf]

/-- A command that fails its checks writes the completion of the slot that its ring executes (R57). -/
theorem completed_started_eq (hstart : canStart d s = true) (st : Status) (detail : Nat) :
    completed d s st detail [] (started d s) =
      writeCompletion d.ring d.tag.toNat (bit 0 d.flags.toNat) st detail (started d s) := by
  have henable : (pendOf d s).live = true := by
    simp only [canStart, Bool.and_eq_true] at hstart
    obtain ⟨⟨⟨_, henable⟩, _⟩, _⟩ := hstart
    exact henable
  have hlive : ((pendOf d s).live && (pendOf d s).gen == (started d s).hif.gen) = true := by
    rw [henable]
    exact beq_self_eq_true s.hif.gen
  unfold completed finish
  exact (if_pos hlive).trans (if_pos rfl)

/-- A command that fails its checks halts its ring (R70). -/
theorem completed_failed_halted (hstart : canStart d s = true) (hint : bit 0 d.flags.toNat = false) {st : Status}
    (hst : st ≠ .ok) (detail : Nat) :
    (ringOf (completed d s st detail [] (started d s)) d.ring).halted = true := by
  rw [completed_started_eq hstart, hint, ringOf_writeCompletion_of_failed _ _ _ _ hst]

/-- A command that completes OK does not (R70). -/
theorem completed_ok_not_halted (hstart : canStart d s = true) (detail : Nat) (buf : List Byte) :
    (ringOf (completed d s .ok detail buf (started d s)) d.ring).halted = false :=
  finish_ok_not_halted (p := pendOf d s) (s := started d s) detail buf (ring_not_halted_of_canStart hstart)

end Events

/-! ## The refutation -/

/-- An EVR_READ_LASTGASP with its fields in order, whose host buffer answers with an error. -/
def gaspRead : Desc := { bufLen := 512, buf := { acc := .error } }

/-- A block whose ring 0 is enabled and idle. -/
def gaspState : State := { dev := { btr.spireUp := true, hif.rings := [(0, { enable := true })] } }

/-- Refutes O33: a read of the last-gasp store whose host buffer cannot be reached completes with DATA_ERROR and halts its
ring, where the statement has it complete OK; a completion OK never halts the ring. -/
theorem not_eventCommands : ¬ Obligations.EventCommands := by
  unfold Obligations.EventCommands
  rintro ⟨-, -, hread, -⟩
  obtain ⟨d, s, hstart, hfields, hbuf, hint⟩ : ∃ (d : Desc) (s : State), canStart d s.dev = true ∧
      badField { target := false, bufMin := 512, bufMax := 16777216 } [] d = none ∧ d.buf.acc = .error ∧
      bit 0 d.flags.toNat = false := ⟨gaspRead, gaspState, rfl, by decide, rfl, rfl⟩
  have hrun := hread d s hstart hfields
  rw [exec_evrReadLastgasp, execEvrReadLastgasp,
    runCmd_of_done hstart (readLastGasp_of_failed_buffer hfields hbuf)] at hrun
  have hhalted := congrArg (fun u : State => (ringOf u.dev d.ring).halted) (Host.Outcome.next.inj hrun)
  dsimp only at hhalted
  rw [completed_failed_halted hstart hint (by decide), completed_ok_not_halted hstart] at hhalted
  exact Bool.noConfusion hhalted

end Sys2Proof.Proofs.EventCommands
end

section
/-!
Wear, swaps and the maintenance activities (18_reserves_maintenance).
-/
namespace Sys2Proof.Proofs.Maintenance
open Sys2Proof Sys2Proof.Machine Sys2Proof.Laws
open Sys2Proof.Proofs.SecurityAccess Sys2Proof.Proofs.Commands

/-! ## What the end of an activity leaves of the reserves -/

/-- The reserves of the Keep and of DRAM in `t` are those in `s`. -/
structure KeepsPools (s t : Device) : Prop where
  keepFree : t.spr.keepFree = s.spr.keepFree
  hardUsed : t.spr.hardUsed = s.spr.hardUsed
  softRows : t.spr.softRows = s.spr.softRows

theorem KeepsPools.of_spr {s t : Device} (h : t.spr = s.spr) : KeepsPools s t := by
  constructor <;> rw [h]

theorem KeepsPools.deferred (s : Device) (ks : List Nat) : KeepsPools s { s with spr.deferred := ks } := ⟨rfl, rfl, rfl⟩

theorem KeepsPools.trans {s t u : Device} (h : KeepsPools s t) (k : KeepsPools t u) : KeepsPools s u :=
  ⟨k.keepFree.trans h.keepFree, k.hardUsed.trans h.hardUsed, k.softRows.trans h.softRows⟩

theorem poolNotice_spr (pool : Nat) (s : Device) : (poolNotice pool s).spr = s.spr := by
  unfold poolNotice
  split
  · exact raise_spr ..
  · exact raise_spr ..
  · rfl

theorem retestLoad_spr (s : Device) : (retestLoad s).spr = s.spr := by
  unfold retestLoad
  split
  · rfl
  · exact raise_spr ..

theorem fillLanes_spr (n : Nat) (s : Device) : (fillLanes n s).spr = s.spr := by
  induction n generalizing s with
  | zero => rfl
  | succ n ih =>
    unfold fillLanes
    split
    · rfl
    · split
      · rfl
      · exact ih _

theorem refillLanes_spr (before : Nat) (s : Device) : (refillLanes before s).spr = s.spr := by
  unfold refillLanes
  simp only [apply_ite Device.spr, retestLoad_spr, poolNotice_spr, fillLanes_spr, ite_self]

theorem admitActivity_keepsPools (code kind unit cause : Nat) (spare : Option Nat) (s : Device) :
    KeepsPools s (admitActivity code kind unit cause spare s).2 := by
  unfold admitActivity
  split <;> exact ⟨rfl, rfl, rfl⟩

theorem startSwap_keepsPools (kind unit cause : Nat) (s : Device) : KeepsPools s (startSwap kind unit cause s).2 := by
  have hadmit := admitActivity_keepsPools 1 kind unit cause (spares s (poolOf kind unit)).head? s
  simp only [startSwap]
  split
  · split
    · exact hadmit.trans ⟨rfl, rfl, rfl⟩
    · exact hadmit
  · exact hadmit

theorem resubmit_keepsPools (ks : List Nat) (s : Device) : KeepsPools s (resubmit ks s) := by
  induction ks generalizing s with
  | nil => exact .of_spr rfl
  | cons k rest ih =>
    have hstart := startSwap_keepsPools (k / 65536) (k % 65536) 2 s
    unfold resubmit
    split
    next heq =>
      rw [heq] at hstart
      exact hstart.trans ((KeepsPools.deferred _ _).trans (ih _))
    next heq =>
      rw [heq] at hstart
      exact hstart.trans (ih _)

theorem endActivity_keepsPools (slot status : Nat) (s : Device) : KeepsPools s (endActivity slot status s) := by
  unfold endActivity
  split
  · exact .of_spr rfl
  next a _ =>
    have hfreed : KeepsPools s { s with spr.acts := tdel s.spr.acts slot } := ⟨rfl, rfl, rfl⟩
    have hfilled : KeepsPools s (if a.code = 1 ∧ a.kind = 0
        then refillLanes s.dpt.active { s with spr.acts := tdel s.spr.acts slot }
        else { s with spr.acts := tdel s.spr.acts slot }) := by
      split
      · exact hfreed.trans (.of_spr (refillLanes_spr _ _))
      · exact hfreed
    dsimp only
    generalize (if a.code = 1 ∧ a.kind = 0 then refillLanes s.dpt.active { s with spr.acts := tdel s.spr.acts slot }
      else { s with spr.acts := tdel s.spr.acts slot }) = u at hfilled
    split
    · exact hfilled.trans ((KeepsPools.of_spr (raise_spr ..)).trans (resubmit_keepsPools _ _))
    · exact hfilled.trans ⟨rfl, rfl, rfl⟩

/-! ## Wear and swaps -/

section Steps
variable {s : Device}

theorem wearEvaluate_of_early {readings : List (Nat × Nat × Nat × Nat)} (h : s.tim.ck < s.spr.wearAt + 10000000) :
    wearEvaluate readings s = s := by
  unfold wearEvaluate
  exact if_pos (by simp [h])

theorem wearEvaluate_of_no_readings (hup : s.btr.spireUp = true) (hdue : s.spr.wearAt + 10000000 ≤ s.tim.ck) :
    wearEvaluate [] s = ((List.range 34).filter (fun p => unitState s 2 p == 0)).foldl wearConverter
      { s with spr.wearAt := s.tim.ck } := by
  unfold wearEvaluate
  exact if_neg (by simp [hup, hdue])

section Swap
variable {slot spare : Nat} {a : Activity} (hact : tfind s.spr.acts slot = some a) (hcode : a.code = 1)
  (hspare : a.spare = some spare)
include hact hcode hspare

theorem swapChangeover_of_early (hdue : changeoverDue s a = false) : Machine.swapChangeover slot s = s := by
  unfold Machine.swapChangeover
  rw [hact]
  dsimp only
  rw [hcode, hspare]
  exact if_pos (by simp [hdue])

theorem swapChangeover_of_due (hkind : a.kind ≠ 4) (hdue : changeoverDue s a = true) :
    Machine.swapChangeover slot s = poolNotice (poolOf a.kind a.unit) (endActivity slot 0
      (swapDone a.kind a.unit spare a.cause (installSpare a.kind a.unit spare (leavePool a.kind spare s)))) := by
  unfold Machine.swapChangeover
  rw [hact]
  dsimp only
  rw [hcode, hspare]
  refine (if_neg (by simp [hdue])).trans ?_
  rw [if_neg hkind]

end Swap

/-! ## The Keep and DRAM -/

theorem keepScrubDone_of_no_bad {slot : Nat} (hact : actSlot s 3 0 0 = some slot) :
    Machine.keepScrubDone [] s = endActivity slot 0 s := by
  unfold Machine.keepScrubDone
  rw [hact]
  exact if_pos (endActivity_keepsPools slot 0 s).keepFree

theorem dramRepairDone_of_no_row {slot : Nat} (hact : actSlot s 4 0 0 = some slot) (hrows : s.spr.softRows = []) :
    Machine.dramRepairDone s = endActivity slot 0 s := by
  unfold Machine.dramRepairDone
  rw [hact]
  dsimp only
  rw [hrows, List.foldl_nil, hrows]
  exact if_pos (congrArg List.length (endActivity_keepsPools slot 0 s).hardUsed)

theorem dramRepairDone_of_row {slot row : Nat} (hact : actSlot s 4 0 0 = some slot) (hrows : s.spr.softRows = [row])
    (hfree : s.spr.hardUsed.contains (Config.rowBank row).toNat = false) :
    (Machine.dramRepairDone s).spr.hardUsed = s.spr.hardUsed ++ [(Config.rowBank row).toNat] ∧
      (Machine.dramRepairDone s).spr.softRows = [] := by
  have hrepaired : s.spr.softRows.erase row = [] := by rw [hrows, List.erase_cons_head]
  have hends := endActivity_keepsPools slot 0 { s with
    spr.hardUsed := s.spr.hardUsed ++ [(Config.rowBank row).toNat], spr.softRows := s.spr.softRows.erase row }
  have hspr : (Machine.dramRepairDone s).spr = (endActivity slot 0 { s with
      spr.hardUsed := s.spr.hardUsed ++ [(Config.rowBank row).toNat],
      spr.softRows := s.spr.softRows.erase row }).spr := by
    unfold Machine.dramRepairDone
    rw [hact]
    dsimp only
    rw [apply_ite Device.spr, poolNotice_spr, ite_self, hrows, List.foldl_cons, List.foldl_nil,
      hfree, if_neg Bool.false_ne_true, hrows, List.erase_cons_head]
    rfl
  rw [hspr]
  exact ⟨hends.hardUsed, hends.softRows.trans hrepaired⟩

theorem actSlot_of_none (code kind unit : Nat) (h : s.spr.acts = []) : actSlot s code kind unit = none := by
  simp [actSlot, h]

end Steps

/-! ## Admission -/

theorem admitActivity_ok {code kind unit : Nat} (cause : Nat) (spare : Option Nat) {s : Device}
    (h : refusal code kind unit s = none) : admitActivity code kind unit cause spare s =
      (.ok (s.spr.handle % 255 + 1), (admitActivity code kind unit cause spare s).2) := by
  unfold admitActivity
  rw [h]

theorem admitActivity_refused {code kind unit blocker : Nat} (cause : Nat) (spare : Option Nat) {s : Device}
    (h : refusal code kind unit s = some blocker) : admitActivity code kind unit cause spare s =
      (.error blocker, { s with spr.refused := s.spr.refused + 1 }) := by
  unfold admitActivity
  rw [h]

/-- An admission takes the next handle and counts no refusal (R719). -/
theorem admitActivity_handle {code kind unit : Nat} (cause : Nat) (spare : Option Nat) {s : Device}
    (h : refusal code kind unit s = none) :
    (admitActivity code kind unit cause spare s).2.spr.handle = s.spr.handle % 255 + 1 ∧
      (admitActivity code kind unit cause spare s).2.spr.refused = s.spr.refused := by
  unfold admitActivity
  rw [h]
  exact ⟨rfl, rfl⟩

/-- A swap of a lane is an activity with the first spare lane (R715). -/
theorem startSwap_lane (unit cause : Nat) (s : Device) :
    startSwap 0 unit cause s = admitActivity 1 0 unit cause (spares s 0).head? s := by
  unfold startSwap
  dsimp only [poolOf]
  obtain ⟨r, t⟩ := admitActivity 1 0 unit cause (spares s 0).head? s
  cases r <;> rfl

/-! ## Commands of SPR -/

/-- How a command that asks for an activity ends: with its handle, or refused with BUSY_CONFLICT (R719). -/
def activityEnd (r : Except Nat Nat × Device) : CmdEnd :=
  match r.1 with
  | .ok h => okWith h r.2
  | .error h => .fail .busyConflict h r.2

section Commands
variable {d : Desc} {s : Device}

section Lane
variable (hlane : d.target.toNat < 18) (hkind : d.p0 = 0) (hfields : badField { pmask := 1 } [] d = none)
  (hserves : unitState (started d s) 0 d.target.toNat = 0)
include hlane hkind hfields hserves

theorem reserveSwap_of_lane :
    reserveSwap (pendOf d s) (started d s) = activityEnd
      (admitActivity 1 0 d.target.toNat 3 (spares (started d s) 0).head? (started d s)) := by
  have hword : d.p0.toNat = 0 := by rw [hkind]; rfl
  have hcount : (decide (0 ≤ 4) && decide (unitCount 0 ≤ d.target.toNat)) = false := by
    simpa [unitCount] using hlane
  unfold reserveSwap
  dsimp only
  rw [pendOf_desc, hword]
  refine (checked_when_fields_when hcount (badField_of_extra hfields (by simp)) (by rw [hserves]; rfl)).trans ?_
  rw [startSwap_lane]
  obtain ⟨r, t⟩ := admitActivity 1 0 d.target.toNat 3 (spares (started d s) 0).head? (started d s)
  cases r <;> rfl

end Lane

theorem activityEnd_ok {code kind unit : Nat} (cause : Nat) (spare : Option Nat)
    (h : refusal code kind unit s = none) : activityEnd (admitActivity code kind unit cause spare s) =
      .done .ok (s.spr.handle % 255 + 1) [] (admitActivity code kind unit cause spare s).2 := by
  rw [admitActivity_ok cause spare h]
  rfl

theorem activityEnd_refused {code kind unit blocker : Nat} (cause : Nat) (spare : Option Nat)
    (h : refusal code kind unit s = some blocker) : activityEnd (admitActivity code kind unit cause spare s) =
      .done .busyConflict blocker [] { s with spr.refused := s.spr.refused + 1 } := by
  rw [admitActivity_refused cause spare h]
  rfl

section Plain
variable (hfields : badField { target := false } [] d = none)
include hfields

theorem keepScrub_of_fields : keepScrub (pendOf d s) (started d s) =
    activityEnd (admitActivity 3 0 0 3 (spares (started d s) 5).head? (started d s)) := by
  unfold keepScrub
  refine (checked_fields hfields).trans ?_
  obtain ⟨r, t⟩ := admitActivity 3 0 0 3 (spares (started d s) 5).head? (started d s)
  cases r <;> rfl

theorem dramRepair_of_rows (haccess : needMaint (started d s) = false) (hmode : s.cfg.mode ≠ .running)
    (hrows : s.spr.softRows ≠ []) : dramRepair (pendOf d s) (started d s) =
      activityEnd (admitActivity 4 0 0 3 none (started d s)) := by
  unfold dramRepair
  refine (checked_fields_when_when hfields haccess (by simp [hmode, hrows])).trans ?_
  obtain ⟨r, t⟩ := admitActivity 4 0 0 3 none (started d s)
  cases r <;> rfl

end Plain

theorem sprClear_of_fields (hfields : badField { target := false, pmask := 1 } [(8 ≤ d.p0.toNat, 24)] d = none) :
    sprClear (pendOf d s) (started d s) = .done .ok 0 [] { started d s with
      spr.swaps := if bit 0 d.p0.toNat then 0 else s.spr.swaps
      spr.refused := if bit 1 d.p0.toNat then 0 else s.spr.refused
      spr.deferredCnt := if bit 2 d.p0.toNat then 0 else s.spr.deferredCnt } := by
  unfold sprClear
  exact checked_fields hfields

end Commands

/-- Settles O35. -/
theorem maintenanceActivities : Obligations.MaintenanceActivities := by
  unfold Obligations.MaintenanceActivities
  refine ⟨fun readings s hearly => ?_, fun s hup hdue => ?_, fun slot spare a s hact hcode hspare hdue => ?_,
    fun slot spare a s hact hcode hspare hkind hdue => ?_, fun slot s hact => ?_, fun slot s hact hrows => ?_,
    fun slot row s hact hrows hfree => ?_, fun s hacts => ⟨?_, ?_⟩,
    fun d s hstart hlane hkind hfields hserves hadmit => ?_,
    fun d h s hstart hlane hkind hfields hserves hrefused => ?_, fun d s hstart hfields hadmit => ?_,
    fun d s hstart hfields haccess hmode hrows hadmit => ?_,
    fun code kind unit cause spare s hadmit => admitActivity_handle cause spare hadmit,
    fun d s hstart hfields => ?_⟩
  · rw [exec_wearMonitorEvaluation, execWearMonitorEvaluation, wearEvaluate_of_early hearly]
  · rw [exec_wearMonitorEvaluation, execWearMonitorEvaluation, wearEvaluate_of_no_readings hup hdue]
  · rw [exec_swapChangeover, execSwapChangeover, swapChangeover_of_early hact hcode hspare hdue]
  · rw [exec_swapChangeover, execSwapChangeover, swapChangeover_of_due hact hcode hspare hkind hdue]
  · rw [exec_keepScrubDone, execKeepScrubDone, keepScrubDone_of_no_bad hact]
  · rw [exec_dramRepairDone, execDramRepairDone, dramRepairDone_of_no_row hact hrows]
  · exact ⟨_, exec_dramRepairDone s, dramRepairDone_of_row hact hrows hfree⟩
  · rw [exec_keepScrubDone, execKeepScrubDone, Machine.keepScrubDone, actSlot_of_none _ _ _ hacts]
  · rw [exec_dramRepairDone, execDramRepairDone, Machine.dramRepairDone, actSlot_of_none _ _ _ hacts]
  · rw [exec_sprReserveSwap, execSprReserveSwap, runCmd_of_done hstart
      ((reserveSwap_of_lane hlane hkind hfields hserves).trans (activityEnd_ok _ _ hadmit)), started_spr]
  · rw [exec_sprReserveSwap, execSprReserveSwap, runCmd_of_done hstart
      ((reserveSwap_of_lane hlane hkind hfields hserves).trans (activityEnd_refused _ _ hrefused))]
    rfl
  · rw [exec_sprKeepScrub, execSprKeepScrub, runCmd_of_done hstart
      ((keepScrub_of_fields hfields).trans (activityEnd_ok _ _ hadmit)), started_spr]
  · rw [exec_sprDramRepair, execSprDramRepair, runCmd_of_done hstart
      ((dramRepair_of_rows hfields haccess hmode hrows).trans (activityEnd_ok _ _ hadmit)), started_spr]
  · rw [exec_sprClearCounters, execSprClearCounters, runCmd_of_done hstart (sprClear_of_fields hfields)]

end Sys2Proof.Proofs.Maintenance
end

section
/-!
Conversions, scans, urgent requests, ranges and calibration (06_analog_inputs).
-/
namespace Sys2Proof.Proofs.Converters
open Sys2Proof Sys2Proof.Machine Sys2Proof.Laws
open Sys2Proof.Proofs.SecurityAccess Sys2Proof.Proofs.Commands

/-! ## Converters and channels as they are read back -/

section Reads
variable (c n : Nat) (f : Conv → Conv) (g : AdcChan → AdcChan) (s : Device)

@[simp] theorem convOf_modConv_same : convOf (modConv c f s) c = f (convOf s c) := tget_tset_same ..
@[simp] theorem chanOf_modChan_same : chanOf (modChan n g s) n = g (chanOf s n) := tget_tset_same ..
@[simp] theorem chanOf_modConv : chanOf (modConv c f s) n = chanOf s n := rfl
@[simp] theorem convRec_modConv (k : Nat) : convRec (modConv c f s) k = convRec s k := rfl
@[simp] theorem convEnabled_modConv (k : Nat) : convEnabled (modConv c f s) k = convEnabled s k := rfl
@[simp] theorem convOf_started (d : Desc) : convOf (started d s) c = convOf s c := rfl
@[simp] theorem convEnabled_started (d : Desc) : convEnabled (started d s) c = convEnabled s c := rfl
@[simp] theorem nowD_modConv : nowD (modConv c f s) = nowD s := rfl

end Reads

theorem convOf_congr {s t : Device} (h : t.adc = s.adc) (c : Nat) : convOf t c = convOf s c :=
  congrArg (fun a : Adc => tget a.convs c { phys := c }) h

theorem convOf_raise (code : Nat) (fs : List (Nat × Nat)) (s : Device) (c : Nat) :
    convOf (raise code fs s) c = convOf s c := convOf_congr (raise_adc ..) c

variable {s : Device} {c : Nat}

/-! ## Conversions and sums (R262, R267, R272) -/

theorem conversionEnd_of_idle (raw : Int) (t : STime) (hurg : (convOf s c).urg = []) (hscan : (convOf s c).scan = []) :
    conversionEnd c raw t s = s := by
  unfold conversionEnd
  dsimp only
  rw [hurg, hscan]
  cases (convOf s c).urgRun <;> rfl

theorem conversionEnd_of_scan {k : Nat} {rest : List Nat} (raw : Int) (t : STime) (hurg : (convOf s c).urg = [])
    (hrun : (convOf s c).urgRun = false) (hscan : (convOf s c).scan = k :: rest)
    (hsettle : (chanOf s (8 * c + k)).settle = none) :
    conversionEnd c raw t s = scanBoundary c (nextConversion c (addSample (8 * c + k)
      (correct (calTable s (convOf s c).phys (tableOf k (chanOf s (8 * c + k)).range)) (clampI (-131072) 131071 raw)) t
      (pmcEdge 0x08 0x80 (convOf s c).phys s))) := by
  have hchan : (chanOf (pmcEdge 0x08 0x80 (convOf s c).phys s) (8 * c + k)).settle.isSome = false :=
    congrArg Option.isSome hsettle
  unfold conversionEnd
  dsimp only
  rw [hurg, hscan, hrun]
  exact congrArg (fun t => scanBoundary c (nextConversion c t)) (if_neg (ne_true_of_eq_false hchan))

theorem conversionEnd_of_urgent {u : Urgent} {rest : List Urgent} (raw : Int) (t : STime)
    (hurg : (convOf s c).urg = u :: rest) (hrun : (convOf s c).urgRun = true) :
    conversionEnd c raw t s = scanBoundary c (urgentResult c u
      (correct (calTable s (convOf s c).phys (tableOf u.chan (chanOf s (8 * c + u.chan)).range))
        (clampI (-131072) 131071 raw)) t (pmcEdge 0x08 0x80 (convOf s c).phys s)) := by
  unfold conversionEnd
  dsimp only
  rw [hurg, hrun]
  rfl

theorem selfTestBad_of_external {k : Nat} (h : k < 4) (v : Int) : selfTestBad k v = false := by
  have h4 : (k == 4) = false := beq_false_of_ne (by omega)
  have h5 : (k == 5) = false := beq_false_of_ne (by omega)
  simp [selfTestBad, h4, h5]

theorem selfTest_of_external {n : Nat} (h : n % 8 < 4) (v : Int) (s : Device) :
    selfTest n v s = modChan n (fun a => { a with testFail := false }) s := by
  unfold selfTest
  rw [selfTestBad_of_external h]
  rfl

theorem chanOf_addSample_first {n : Nat} {b : List Byte} {t : STime} (v : Int) (hn : (chanOf s n).n = 0)
    (hrec : recAt s 0x08 1 (n / 8) t = some b) (havg : (chanParams s n b).1 ≠ 0) (hext : n % 8 < 4) :
    chanOf (addSample n v t s) n =
      { chanOf s n with testFail := false, sum := v, n := 1, clip := atLimit v, stime := t } := by
  unfold addSample
  rw [selfTest_of_external hext]
  dsimp only
  rw [chanOf_modChan_same, if_pos hn,
    show recAt (modChan n (fun a => { a with testFail := false }) s) 0x08 1 (n / 8) t = some b from hrec]
  dsimp only [sumSample]
  rw [chanOf_modChan_same, if_neg (hn ▸ havg.symm), chanOf_modChan_same, chanOf_modChan_same]
  simp [hn]

/-! ## Scans (R269, R271) -/

theorem scanStart_of_other (h : convStart (convRec s c) ≠ 1) : scanStart c s = s := by
  unfold scanStart
  dsimp only
  cases lastPeriodic (convRec s c) (nowD s) with
  | none => rfl
  | some t => exact if_neg (by simp [h])

theorem scanRequest_of_free (hen : convEnabled s c = true) (hscan : (convOf s c).scan = [])
    (hrun : (convOf s c).urgRun = false) (hcal : (convOf s c).cal = none) (hswap : (convOf s c).swapTo = none) :
    scanRequest c s = beginScan c s := by
  unfold scanRequest
  refine (if_neg (by simp [hen])).trans (if_pos ?_)
  simp [hscan, hrun, handoverDue, hcal, hswap]

theorem scanRequest_of_running (hen : convEnabled s c = true) (hscan : (convOf s c).scan ≠ [])
    (hdef : (convOf s c).deferred = false) :
    scanRequest c s = modConv c (fun v => { v with deferred := true }) { s with adc.slip := s.adc.slip + 1 } := by
  unfold scanRequest
  refine (if_neg (by simp [hen])).trans ((if_neg (by simp [hscan])).trans (if_neg ?_))
  exact ne_true_of_eq_false hdef

section Due
variable {t : STime} (hdue : lastPeriodic (convRec s c) (nowD s) = some t) (hstart : convStart (convRec s c) = 1)
  (hen : convEnabled s c = true) (hfree : (convOf s c).lastStart.all (fun l => decide (l < t)) = true)
include hdue hstart hen hfree

theorem scanStart_of_due : scanStart c s = scanRequest c (modConv c (fun v => { v with lastStart := some t }) s) := by
  unfold scanStart
  dsimp only
  rw [hdue]
  exact if_pos (by simp only [hstart, hen, hfree, decide_true, Bool.and_self])

theorem scanStart_of_free (hscan : (convOf s c).scan = []) (hrun : (convOf s c).urgRun = false)
    (hcal : (convOf s c).cal = none) (hswap : (convOf s c).swapTo = none) :
    scanStart c s = beginScan c (modConv c (fun v => { v with lastStart := some t }) s) := by
  have hread : convOf (modConv c (fun v => { v with lastStart := some t }) s) c =
      { convOf s c with lastStart := some t } := convOf_modConv_same ..
  rw [scanStart_of_due hdue hstart hen hfree]
  exact scanRequest_of_free hen ((congrArg Conv.scan hread).trans hscan) ((congrArg Conv.urgRun hread).trans hrun)
    ((congrArg Conv.cal hread).trans hcal) ((congrArg Conv.swapTo hread).trans hswap)

theorem scanStart_of_running (hscan : (convOf s c).scan ≠ []) (hdef : (convOf s c).deferred = false) :
    ∃ u, scanStart c s = u ∧ u.adc.slip = s.adc.slip + 1 ∧ u.evr = s.evr ∧
      convOf u c = { convOf s c with lastStart := some t, deferred := true } := by
  have hread : convOf (modConv c (fun v => { v with lastStart := some t }) s) c =
      { convOf s c with lastStart := some t } := convOf_modConv_same ..
  refine ⟨_, (scanStart_of_due hdue hstart hen hfree).trans (scanRequest_of_running hen ?_ ?_), rfl, rfl, ?_⟩
  · rw [hread]
    exact hscan
  · rw [hread]
    exact hdef
  · exact (convOf_modConv_same ..).trans (congrArg (fun v : Conv => { v with deferred := true }) hread)

end Due

/-! ## Urgent requests (R276 to R279, R301) -/

theorem urgentRequest_of_full (k : Nat) (p : Option Pend) (h : (convOf s c).urg.length = 4) :
    urgentRequest c k p s = (false, { s with adc.urgOvf := s.adc.urgOvf + 1 }) :=
  if_pos h.ge

theorem urgentRequest_of_room (k : Nat) (p : Option Pend) (hlen : (convOf s c).urg.length < 4)
    (hidle : (convOf s c).scan = [] ∨ (convOf s c).urgRun = true) :
    urgentRequest c k p s = (true, modConv c (fun v => { v with
      urg := v.urg ++ [{ chan := k, pend := p, at_ := nowD s }], urgRun := true }) s) := by
  have habort : (!(convOf s c).scan.isEmpty && !(convOf s c).urgRun) = false := by
    rcases hidle with h | h <;> simp [h]
  unfold urgentRequest
  refine (if_neg (by omega)).trans ?_
  rw [habort]
  rfl

theorem urgentRequest_of_abort (k : Nat) (p : Option Pend) (hlen : (convOf s c).urg.length < 4)
    (hscan : (convOf s c).scan ≠ []) (hrun : (convOf s c).urgRun = false) :
    urgentRequest c k p s = (true, modConv c (fun v => { v with
      urg := v.urg ++ [{ chan := k, pend := p, at_ := nowD s }], urgRun := true })
      { s with adc.aborts := s.adc.aborts + 1 }) := by
  have habort : (!(convOf s c).scan.isEmpty && !(convOf s c).urgRun) = true := by simp [hscan, hrun]
  unfold urgentRequest
  refine (if_neg (by omega)).trans ?_
  rw [habort]
  rfl

theorem urgentPin_of_other {rising : Bool} (h : bit 3 (fld 15 1 (convRec s c)) = rising) : urgentPin c rising s = s :=
  if_pos (by simp [h])

theorem urgentPin_of_edge {rising : Bool} (hen : convEnabled s c = true) (hpin : fld 14 1 (convRec s c) ≠ 0xFF)
    (hedge : bit 3 (fld 15 1 (convRec s c)) ≠ rising) {t : Device}
    (hreq : urgentRequest c (fld 15 1 (convRec s c) % 8) none s = (true, t)) : urgentPin c rising s = t := by
  unfold urgentPin
  refine (if_neg (by simp [hen, hpin, hedge])).trans ?_
  dsimp only
  rw [hreq]

theorem urgentPin_of_full {rising : Bool} (hen : convEnabled s c = true) (hpin : fld 14 1 (convRec s c) ≠ 0xFF)
    (hedge : bit 3 (fld 15 1 (convRec s c)) ≠ rising) (hfull : (convOf s c).urg.length = 4) :
    urgentPin c rising s = raise Ev.adcUrgOvf [(1, 8 * c + fld 15 1 (convRec s c) % 8)]
      { s with adc.urgOvf := s.adc.urgOvf + 1 } := by
  unfold urgentPin
  refine (if_neg (by simp [hen, hpin, hedge])).trans ?_
  dsimp only
  rw [urgentRequest_of_full _ _ hfull]

section Command
variable {d : Desc} {t : Device}

theorem adcUrgent_of_request (hchan : d.target.toNat ≤ 255) (hfields : badField plain [] d = none)
    (hen : convEnabled s (d.target.toNat / 8) = true)
    (hreq : urgentRequest (d.target.toNat / 8) (d.target.toNat % 8) (some (pendOf d s)) (started d s) = (true, t)) :
    adcUrgent (pendOf d s) (started d s) = .wait t := by
  unfold adcUrgent
  refine (checked_when_fields_when (decide_eq_false hchan.not_gt) hfields (by simp [hen])).trans ?_
  rw [pendOf_desc, hreq]

theorem adcUrgent_of_absent (h : 255 < d.target.toNat) :
    adcUrgent (pendOf d s) (started d s) = .done .notFound 0 [] (started d s) := by
  unfold adcUrgent
  exact checked_refused (decide_eq_true h)

end Command

theorem urgentTimeout_of_none (hmute : (convOf s c).mute = []) (hurg : (convOf s c).urg = []) :
    urgentTimeout c s = s := by
  unfold urgentTimeout
  dsimp only
  rw [hmute, hurg]
  rfl

theorem urgentTimeout_of_late {u : Urgent} {p : Pend}
    (hfind : ((convOf s c).mute ++ (convOf s c).urg).find?
      (fun x => x.pend.isSome && decide (x.at_ + usT 100 ≤ nowD s)) = some u) (hp : u.pend = some p) :
    urgentTimeout c s = finish p .timeout 0 [] (modConv c (fun v => { v with
      mute := v.mute.filter (fun x => x != u)
      urg := v.urg.map (fun x => if x == u then { x with pend := none } else x) }) s) := by
  unfold urgentTimeout
  dsimp only
  rw [hfind]
  dsimp only
  rw [hp]

/-- Settles O36. -/
theorem conversionsRun : Obligations.ConversionsRun := by
  unfold Obligations.ConversionsRun
  refine ⟨fun c raw t s hurg hscan => ?_, fun c k rest raw t s hurg hrun hscan hsettle => ?_,
    fun c u rest raw t s hurg hrun => ?_, fun n v t b s hn hrec havg hext => ?_,
    fun c t s hdue hstart hen hfree hscan hrun hcal hswap => ?_, fun c t s hdue hstart hen hfree hscan hdef => ?_,
    fun c s hstart => ?_, fun c rising s hen hpin hedge hlen hidle => ?_,
    fun c rising s hen hpin hedge hlen hscan hrun => ?_, fun c rising s hedge => ?_,
    fun c rising s hen hpin hedge hfull => ?_, fun d s hstart hchan hfields hen hlen hidle => ?_,
    fun d s hstart hchan hfields hen hlen hscan hrun => ?_, fun d s hstart hchan => ?_,
    fun c s hmute hurg => ?_, fun c u p s hfind hp => ?_⟩
  · rw [exec_conversionEnd, execConversionEnd, conversionEnd_of_idle raw t hurg hscan]
  · rw [exec_conversionEnd, execConversionEnd, conversionEnd_of_scan raw t hurg hrun hscan hsettle]
  · rw [exec_conversionEnd, execConversionEnd, conversionEnd_of_urgent raw t hurg hrun]
  · rw [chanOf_addSample_first v hn hrec havg hext]
    exact ⟨rfl, rfl, rfl⟩
  · rw [exec_scanStart, execScanStart, scanStart_of_free hdue hstart hen hfree hscan hrun hcal hswap]
  · obtain ⟨u, hu, hslip, hevr, hconv⟩ := scanStart_of_running hdue hstart hen hfree hscan hdef
    refine ⟨u, ?_, hslip, ?_, ?_, ?_, hevr⟩
    · rw [exec_scanStart, execScanStart, hu]
    all_goals rw [hconv]
  · rw [exec_scanStart, execScanStart, scanStart_of_other hstart]
  · rw [exec_urgentPinRequest, execUrgentPinRequest,
      urgentPin_of_edge hen hpin hedge (urgentRequest_of_room _ _ hlen hidle)]
  · rw [exec_urgentPinRequest, execUrgentPinRequest,
      urgentPin_of_edge hen hpin hedge (urgentRequest_of_abort _ _ hlen hscan hrun)]
  · rw [exec_urgentPinRequest, execUrgentPinRequest, urgentPin_of_other hedge]
  · rw [exec_urgentPinRequest, execUrgentPinRequest, urgentPin_of_full hen hpin hedge hfull]
  · rw [exec_adcUrgent, execAdcUrgent,
      runCmd_of_wait hstart (adcUrgent_of_request hchan hfields hen (urgentRequest_of_room _ _ hlen hidle))]
    rfl
  · rw [exec_adcUrgent, execAdcUrgent,
      runCmd_of_wait hstart (adcUrgent_of_request hchan hfields hen (urgentRequest_of_abort _ _ hlen hscan hrun))]
    rfl
  · rw [exec_adcUrgent, execAdcUrgent, runCmd_of_done hstart (adcUrgent_of_absent hchan)]
  · rw [exec_adcUrgentTimeout, execAdcUrgentTimeout, urgentTimeout_of_none hmute hurg]
  · rw [exec_adcUrgentTimeout, execAdcUrgentTimeout, urgentTimeout_of_late hfind hp]

/-! ## Ranges (R263) -/

theorem convOf_hazard (off c : Nat) (s : Device) : convOf (hazard off s) c = convOf s c := by
  unfold hazard
  split <;> rfl

theorem chanOf_hazard (off n : Nat) (s : Device) : chanOf (hazard off s) n = chanOf s n := by
  unfold hazard
  split <;> rfl

theorem nowD_hazard (off : Nat) (s : Device) : nowD (hazard off s) = nowD s := by
  unfold hazard
  split <;> rfl

theorem rangeWrite_of_external {n v : Nat} (hheld : s.clk.held = none) (hn : n ≤ 255) (hext : n % 8 < 4) (hv : v % 8 ≤ 4) :
    rangeWrite n v s = raise Ev.adcRangeSet [(1, n), (1, (chanOf s n).range), (1, v % 8)] (modChan n (fun a => { a with
      range := v % 8, settle := some (nowD s + usT 20), paramOwed := true, sum := 0, n := 0, clip := false })
      (hazard (0x80200 + 4 * n) s)) := by
  unfold rangeWrite
  dsimp only
  rw [hheld, if_neg (by simp), if_neg (by simp; omega), chanOf_hazard, nowD_hazard]

theorem rangeWrite_of_other {n v : Nat} (hheld : s.clk.held = none) (h : 255 < n ∨ 4 ≤ n % 8 ∨ 5 ≤ v % 8) :
    rangeWrite n v s = hazard (0x80200 + 4 * n) s := by
  unfold rangeWrite
  dsimp only
  rw [hheld, if_neg (by simp), if_pos (by simp; omega)]

theorem rangeSettled_of_due {n : Nat} {t : STime} (h : (chanOf s n).settle = some t) (hdue : t ≤ nowD s) :
    rangeSettled n s = scanBoundary (n / 8) (modChan n (fun a => { a with settle := none }) s) := by
  unfold rangeSettled
  exact if_pos (by simp [h, hdue])

theorem rangeSettled_of_early {n : Nat} {t : STime} (h : (chanOf s n).settle = some t) (hearly : nowD s < t) :
    rangeSettled n s = s := by
  unfold rangeSettled
  exact if_neg (by simp [h, hearly])

/-! ## Calibration (R294 to R297) -/

theorem convEnabled_of_same {s t : Device} (hcfg : t.cfg = s.cfg) (htim : t.tim = s.tim) (c : Nat) :
    convEnabled t c = convEnabled s c := by
  unfold convEnabled convRec recNow recAt cfgObj nowD
  rw [hcfg, htim]

theorem scanBoundary_of_disabled (h : convEnabled s c = false) : scanBoundary c s = s :=
  if_pos (by simp [h])

theorem poolNotice_adc (pool : Nat) (s : Device) : (poolNotice pool s).adc = s.adc := by
  unfold poolNotice
  split
  · exact raise_adc ..
  · exact raise_adc ..
  · rfl

theorem handover_cfg (p : Nat) (s : Device) : (handover c p s).cfg = s.cfg := raise_cfg ..

theorem handover_tim (p : Nat) (s : Device) : (handover c p s).tim = s.tim := raise_tim ..

theorem handover_adc (p : Nat) (s : Device) :
    (handover c p s).adc = (modConv c (fun v => { v with phys := p, swapTo := none }) s).adc := raise_adc ..

theorem calTakeover_of_due {r : CalRun} (hcal : (convOf s c).cal = some r) (hstep : r.step = 0)
    (hscan : (convOf s c).scan = []) (hrun : (convOf s c).urgRun = false) (hen : convEnabled s c = false) :
    calTakeover c s = handover c r.spare (modConv c (fun v => { v with cal := some { r with step := 1 } }) s) := by
  unfold calTakeover
  dsimp only
  rw [hcal]
  refine (if_pos (by simp [hstep, hscan, hrun])).trans (scanBoundary_of_disabled ?_)
  exact (convEnabled_of_same (handover_cfg ..) (handover_tim ..) c).trans hen

theorem calibrationTakeover_adc (c : Nat) (s : Device) : (calibrationTakeover c s).adc = (calTakeover c s).adc := by
  unfold calibrationTakeover
  dsimp only
  split
  · rfl
  · exact poolNotice_adc ..

section Fit
variable {r : CalRun} {t : Nat} {ofs16 : Int} {g noise : Nat} (hcal : (convOf s c).cal = some r)
  (hleft : (List.range 5).find? (fun t => bit t r.left) = some t) (hstep : r.step = 1)
include hcal hleft hstep

theorem calFit_of_good (hfit : fitFault ofs16 g noise = none) :
    calFit c ofs16 g noise s = modConv c (fun v => { v with
      cal := some { r with left := r.left - 2 ^ t, step := if r.left - 2 ^ t = 0 then 2 else 1 } })
      { s with adc.cal := tset s.adc.cal (8 * r.owner + t) { ofs16, g } } := by
  unfold calFit
  rw [hcal]
  dsimp only
  rw [hleft]
  dsimp only
  rw [if_neg (by simp [hstep]), hfit]

theorem calFit_of_bad {why : Nat} (hfail : r.fail = none) (hfit : fitFault ofs16 g noise = some why) :
    calFit c ofs16 g noise s = modConv c (fun v => { v with
      cal := some { r with left := r.left - 2 ^ t, step := if r.left - 2 ^ t = 0 then 2 else 1,
                           fail := some (t, why) } }) s := by
  unfold calFit
  rw [hcal]
  dsimp only
  rw [hleft]
  dsimp only
  rw [if_neg (by simp [hstep]), hfit]
  dsimp only
  rw [hfail]

end Fit

theorem calFit_of_none (ofs16 : Int) (g noise : Nat) (h : (convOf s c).cal = none) : calFit c ofs16 g noise s = s := by
  unfold calFit
  rw [h]

theorem calibrationTakeover_of_none (h : (convOf s c).cal = none) : calibrationTakeover c s = s := by
  have ht : calTakeover c s = s := by
    unfold calTakeover
    dsimp only
    rw [h]
  unfold calibrationTakeover
  rw [ht]
  exact if_pos rfl

theorem calHandback_of_none (h : (convOf s c).cal = none) : calHandback c s = (false, s) := by
  unfold calHandback
  dsimp only
  rw [h]

/-- How a run of a calibration ended (Table ADC-10). -/
def calOutcome (c : Nat) (r : CalRun) (s : Device) : Device :=
  match r.fail with
  | some (t, why) => raise Ev.adcCalFail [(1, c), (1, r.owner), (1, t), (1, why)]
      { s with spr.calFailed := s.spr.calFailed ++ [r.owner] }
  | none => raise Ev.adcCalDone [(1, c), (1, r.owner), (1, r.mask)] s

theorem calOutcome_adc (r : CalRun) (s : Device) : (calOutcome c r s).adc = s.adc := by
  unfold calOutcome
  split <;> exact raise_adc ..

theorem calOutcome_acts (r : CalRun) (s : Device) : (calOutcome c r s).spr.acts = s.spr.acts := by
  unfold calOutcome
  split <;> rw [raise_spr]

theorem calOutcome_cfg (r : CalRun) (s : Device) : (calOutcome c r s).cfg = s.cfg := by
  unfold calOutcome
  split <;> exact raise_cfg ..

theorem calOutcome_tim (r : CalRun) (s : Device) : (calOutcome c r s).tim = s.tim := by
  unfold calOutcome
  split <;> exact raise_tim ..

/-- The converter handed back, with the report of the run. -/
def handedBack (c : Nat) (r : CalRun) (s : Device) : Device :=
  calOutcome c r (handover c r.owner (modConv c (fun v => { v with cal := none }) s))

theorem handedBack_adc (r : CalRun) (s : Device) : (handedBack c r s).adc =
    (modConv c (fun v => { v with phys := r.owner, swapTo := none }) (modConv c (fun v => { v with cal := none }) s)).adc :=
  (calOutcome_adc ..).trans (handover_adc ..)

theorem handedBack_acts (r : CalRun) (s : Device) : (handedBack c r s).spr.acts = s.spr.acts :=
  (calOutcome_acts ..).trans (congrArg Spr.acts (raise_spr ..))

theorem convEnabled_handedBack (r : CalRun) (s : Device) : convEnabled (handedBack c r s) c = convEnabled s c :=
  convEnabled_of_same ((calOutcome_cfg ..).trans (handover_cfg ..)) ((calOutcome_tim ..).trans (handover_tim ..)) c

theorem calHandback_of_due {r : CalRun} (hcal : (convOf s c).cal = some r) (hstep : r.step = 2)
    (hscan : (convOf s c).scan = []) (hrun : (convOf s c).urgRun = false) (hen : convEnabled s c = false) :
    calHandback c s = (true, handedBack c r s) := by
  unfold calHandback
  dsimp only
  rw [hcal]
  refine (if_pos (by simp [hstep, hscan, hrun])).trans (congrArg (Prod.mk true) ?_)
  exact scanBoundary_of_disabled ((convEnabled_handedBack ..).trans hen)

theorem endOf_of_none {code kind unit : Nat} (status : Nat) (h : actSlot s code kind unit = none) :
    endOf code kind unit status s = s := by
  unfold endOf
  rw [h]

theorem calibrationHandback_of_due {r : CalRun} (hcal : (convOf s c).cal = some r) (hstep : r.step = 2)
    (hscan : (convOf s c).scan = []) (hrun : (convOf s c).urgRun = false) (hact : actSlot s 2 0 c = none)
    (hen : convEnabled s c = false) : calibrationHandback c s = handedBack c r s := by
  have hact' : actSlot (handedBack c r s) 2 0 c = none := by
    unfold actSlot
    rw [handedBack_acts]
    exact hact
  unfold calibrationHandback
  rw [calHandback_of_due hcal hstep hscan hrun hen]
  exact endOf_of_none _ hact'

section Command
variable {d : Desc}

/-- The run of a calibration that ADC_CALIBRATE admits. -/
def calibrating (d : Desc) (s : Device) : Device :=
  modConv d.target.toNat (fun v => { v with cal := some {
    mask := if d.p0 = 0 then 31 else d.p0.toNat, left := if d.p0 = 0 then 31 else d.p0.toNat
    spare := (spares (started d s) 2).head?.getD 0, owner := physConv s d.target.toNat } })
    (admitActivity 2 0 d.target.toNat 3 none (started d s)).2

theorem adcCalibrate_of_admitted (hconv : d.target.toNat ≤ 31) (hmeasure : d.p1 = 0)
    (hfields : badField { pmask := 3 } [(32 ≤ d.p0.toNat, 24)] d = none)
    (hadmit : refusal 2 0 d.target.toNat (started d s) = none) :
    adcCalibrate (pendOf d s) (started d s) = .done .ok ((spares (started d s) 2).head?.getD 0) []
      (calibrating d s) := by
  have hkind : decide (2 ≤ d.p1.toNat) = false := by
    rw [hmeasure]
    rfl
  have hform : badField { pmask := 3 } [(32 ≤ d.p0.toNat, 24), (2 ≤ d.p1.toNat, 28)] d = none := by
    unfold badField at hfields ⊢
    rw [show [(decide (32 ≤ d.p0.toNat), 24), (decide (2 ≤ d.p1.toNat), 28)] =
        [(decide (32 ≤ d.p0.toNat), 24)] ++ [(decide (2 ≤ d.p1.toNat), 28)] from rfl, ← List.append_assoc,
      leastOffence_append_of_none (leastOffence_of_none (by simpa using hkind))]
    exact hfields
  have hphys : physConv (admitActivity 2 0 d.target.toNat 3 none (started d s)).2 d.target.toNat =
      physConv s d.target.toNat := by
    unfold admitActivity
    rw [hadmit]
    rfl
  unfold adcCalibrate
  refine (checked_when_fields (decide_eq_false hconv.not_gt) hform).trans ?_
  dsimp only
  rw [pendOf_desc, Maintenance.admitActivity_ok _ _ hadmit]
  dsimp only
  rw [if_neg (by simp [hmeasure]), hphys]
  rfl

theorem readCal_of_fields (hconv : d.target.toNat ≤ 31) (hfields : badField { bufMin := 48, bufMax := 16777216 } [] d = none) :
    readCal (pendOf d s) (started d s) = okBuf (convOf s d.target.toNat).phys
      (le 1 (convOf s d.target.toNat).phys ++
        le 1 ((List.range 5).map (fun t => flag t (tfind s.adc.cal (8 * (convOf s d.target.toNat).phys + t)).isSome)).sum ++
        le 6 0 ++ (List.range 5).flatMap (fun t =>
          le 4 (wrapInt 32 (calTable s (convOf s d.target.toNat).phys t).ofs16) ++
            le 4 (calTable s (convOf s d.target.toNat).phys t).g)) (started d s) := by
  unfold readCal
  exact checked_when_fields (decide_eq_false hconv.not_gt) hfields

theorem adcClear_of_fields (hfields : badField { target := false, pmask := 1 } [(2 ^ 6 ≤ d.p0.toNat, 24)] d = none) :
    adcClear (pendOf d s) (started d s) = okWith 0 { started d s with adc := { (started d s).adc with
      aborts := clr d.p0.toNat 0 s.adc.aborts, urgents := clr d.p0.toNat 1 s.adc.urgents
      urgOvf := clr d.p0.toNat 2 s.adc.urgOvf, slip := clr d.p0.toNat 3 s.adc.slip
      clips := clr d.p0.toNat 4 s.adc.clips, lost := clr d.p0.toNat 5 s.adc.lost } } := by
  unfold adcClear
  exact checked_fields hfields

end Command

/-- Settles O37. -/
theorem rangesAndCalibration : Obligations.RangesAndCalibration := by
  unfold Obligations.RangesAndCalibration
  refine ⟨fun n v s hheld hn hext hv => ?_, fun n v s hheld h => ?_, fun n t s hsettle hdue => ?_,
    fun n t s hsettle hearly => ?_, fun c s hcal => ⟨?_, ?_, ?_⟩, fun c r s hcal hstep hscan hrun _ _ hen => ?_,
    fun c t r ofs16 g noise s hcal hleft hstep hfit => ?_,
    fun c t r ofs16 g noise why s hcal hleft hstep hfail hfit => ?_,
    fun c r s hcal hstep hscan hrun hact hen => ?_, fun d s hstart hconv hmeasure hfields hadmit => ?_,
    fun d s hstart hconv hfields => ?_, fun d s hstart hfields => ?_⟩
  · rw [exec_adcRangeWrite, execAdcRangeWrite, rangeWrite_of_external hheld hn hext hv]
  · rw [exec_adcRangeWrite, execAdcRangeWrite, rangeWrite_of_other hheld h]
  · rw [exec_rangeSettleExpiry, execRangeSettleExpiry, rangeSettled_of_due hsettle hdue]
  · rw [exec_rangeSettleExpiry, execRangeSettleExpiry, rangeSettled_of_early hsettle hearly]
  · rw [exec_calibrationTakeover, execCalibrationTakeover, calibrationTakeover_of_none hcal]
  · rw [exec_calibrationHandback, execCalibrationHandback, calibrationHandback, calHandback_of_none hcal]
  · rw [exec_calibrationTableFit, execCalibrationTableFit, calFit_of_none _ _ _ hcal]
  · refine ⟨_, exec_calibrationTakeover c s, ?_⟩
    have hconv : convOf (calibrationTakeover c s.dev) c =
        { convOf s.dev c with cal := some { r with step := 1 }, phys := r.spare, swapTo := none } := by
      rw [convOf_congr ((calibrationTakeover_adc ..).trans
        ((congrArg Device.adc (calTakeover_of_due hcal hstep hscan hrun hen)).trans (handover_adc ..))),
        convOf_modConv_same, convOf_modConv_same]
    rw [hconv]
    exact ⟨rfl, rfl⟩
  · refine ⟨_, exec_calibrationTableFit c ofs16 g noise s, ?_⟩
    rw [calFit_of_good hcal hleft hstep hfit, convOf_modConv_same]
    exact ⟨tfind_tset_same .., rfl⟩
  · refine ⟨_, exec_calibrationTableFit c ofs16 g noise s, ?_⟩
    rw [calFit_of_bad hcal hleft hstep hfail hfit, convOf_modConv_same]
    exact ⟨rfl, rfl⟩
  · refine ⟨_, exec_calibrationHandback c s, ?_⟩
    rw [calibrationHandback_of_due hcal hstep hscan hrun hact hen, convOf_congr (handedBack_adc ..), handedBack_adc,
      convOf_modConv_same, convOf_modConv_same]
    exact ⟨rfl, rfl, rfl⟩
  · refine ⟨calibrating d s.dev, ?_, congrArg Conv.cal (convOf_modConv_same ..)⟩
    rw [exec_adcCalibrate, execAdcCalibrate,
      runCmd_of_done hstart (adcCalibrate_of_admitted hconv hmeasure hfields hadmit)]
  · rw [exec_adcReadCal, execAdcReadCal, runCmd_of_done hstart (readCal_of_fields hconv hfields)]
  · rw [exec_adcClearCounters, execAdcClearCounters, runCmd_of_done hstart (adcClear_of_fields hfields)]

end Sys2Proof.Proofs.Converters
end

section
/-!
What accompanies an effect: events, recorder entries, reports, tokens on their way and the frame of a cut. A device after them
differs from the device before in these alone.
-/
namespace Sys2Proof.Proofs.Notes
open Sys2Proof Sys2Proof.Machine Sys2Proof.Laws

/-- `t` is `s` but for events, the recorder, reports, tokens and the cut. -/
def Noted (s t : Device) : Prop :=
  ∃ o h e p l r k d w, t =
    { s with out := o, hif := h, evr := e, pmc := p, ltn := l, reports := r, kep := k, dpt := d, draws := w }

namespace Noted
variable {s t u : Device}

theorem refl (s : Device) : Noted s s := ⟨_, _, _, _, _, _, _, _, _, rfl⟩

theorem trans (h : Noted s t) (k : Noted t u) : Noted s u := by
  obtain ⟨_, _, _, _, _, _, _, _, _, rfl⟩ := h
  obtain ⟨_, _, _, _, _, _, _, _, _, rfl⟩ := k
  exact ⟨_, _, _, _, _, _, _, _, _, rfl⟩

theorem of_touches (h : Touches s t) : Noted s t := by
  obtain ⟨_, _, _, _, rfl⟩ := h
  exact ⟨_, _, _, _, _, _, _, _, _, rfl⟩

theorem ite {c : Prop} [Decidable c] (h : Noted s t) (k : Noted s u) : Noted s (if c then t else u) := by
  split <;> assumption

section Fields
variable (h : Noted s t)
include h

theorem cfg : t.cfg = s.cfg := by obtain ⟨_, _, _, _, _, _, _, _, _, rfl⟩ := h; rfl
theorem lpe : t.lpe = s.lpe := by obtain ⟨_, _, _, _, _, _, _, _, _, rfl⟩ := h; rfl
theorem adc : t.adc = s.adc := by obtain ⟨_, _, _, _, _, _, _, _, _, rfl⟩ := h; rfl
theorem dac : t.dac = s.dac := by obtain ⟨_, _, _, _, _, _, _, _, _, rfl⟩ := h; rfl
theorem dio : t.dio = s.dio := by obtain ⟨_, _, _, _, _, _, _, _, _, rfl⟩ := h; rfl
theorem tim : t.tim = s.tim := by obtain ⟨_, _, _, _, _, _, _, _, _, rfl⟩ := h; rfl
theorem btr : t.btr = s.btr := by obtain ⟨_, _, _, _, _, _, _, _, _, rfl⟩ := h; rfl
theorem mot : t.mot = s.mot := by obtain ⟨_, _, _, _, _, _, _, _, _, rfl⟩ := h; rfl
theorem ccr : t.ccr = s.ccr := by obtain ⟨_, _, _, _, _, _, _, _, _, rfl⟩ := h; rfl
theorem eth : t.eth = s.eth := by obtain ⟨_, _, _, _, _, _, _, _, _, rfl⟩ := h; rfl
theorem pgm : t.pgm = s.pgm := by obtain ⟨_, _, _, _, _, _, _, _, _, rfl⟩ := h; rfl
theorem pai : t.pai = s.pai := by obtain ⟨_, _, _, _, _, _, _, _, _, rfl⟩ := h; rfl
theorem fbl : t.fbl = s.fbl := by obtain ⟨_, _, _, _, _, _, _, _, _, rfl⟩ := h; rfl
theorem can : t.can = s.can := by obtain ⟨_, _, _, _, _, _, _, _, _, rfl⟩ := h; rfl
theorem saf : t.saf = s.saf := by obtain ⟨_, _, _, _, _, _, _, _, _, rfl⟩ := h; rfl
theorem spr : t.spr = s.spr := by obtain ⟨_, _, _, _, _, _, _, _, _, rfl⟩ := h; rfl
theorem clk : t.clk = s.clk := by obtain ⟨_, _, _, _, _, _, _, _, _, rfl⟩ := h; rfl
theorem outputs : t.outputs = s.outputs := by obtain ⟨_, _, _, _, _, _, _, _, _, rfl⟩ := h; rfl

theorem nowD : nowD t = Machine.nowD s := by obtain ⟨_, _, _, _, _, _, _, _, _, rfl⟩ := h; rfl
theorem nowS : nowS t = Machine.nowS s := by obtain ⟨_, _, _, _, _, _, _, _, _, rfl⟩ := h; rfl
theorem recAt (blk kind obj : Nat) (at_ : STime) : recAt t blk kind obj at_ = Machine.recAt s blk kind obj at_ := by
  obtain ⟨_, _, _, _, _, _, _, _, _, rfl⟩ := h; rfl
theorem recNow (blk kind obj : Nat) : recNow t blk kind obj = Machine.recNow s blk kind obj := by
  obtain ⟨_, _, _, _, _, _, _, _, _, rfl⟩ := h; rfl

end Fields
end Noted

theorem raise_noted (code : Nat) (fs : List (Nat × Nat)) (s : Device) : Noted s (raise code fs s) :=
  .of_touches (raise_touches ..)

theorem report_noted (o : OutItem) (f : Fate) (t : STime) (s : Device) : Noted s (report o f t s) := by
  unfold report
  split <;> exact ⟨_, _, _, _, _, _, _, _, _, rfl⟩

theorem ltnEnqueue_noted (r : LtnIn) (s : Device) : Noted s (ltnEnqueue r s) := by
  have hplain {s : Device} (l : Ltn) : Noted s { s with ltn := l } := ⟨_, _, _, _, _, _, _, _, _, rfl⟩
  unfold ltnEnqueue
  refine .ite (.refl s) (.ite (hplain _) (.ite ?_ ((hplain _).trans (hplain _))))
  exact .ite (((hplain _).trans ((hplain _).trans (hplain _))).trans (raise_noted ..))
    ((hplain _).trans ((hplain _).trans (hplain _)))

theorem ltnRecord_noted (kind index node : Nat) (t : STime) (version : Nat) (value : Word) (aux flags : Nat) (s : Device) :
    Noted s (ltnRecord kind index node t version value aux flags s) :=
  List.foldlRecOn (motive := fun u : Device => Noted s u) _ _ (.refl s) fun _ hu _ _ => hu.trans (ltnEnqueue_noted ..)

theorem cutOutput_noted (key : Nat) (code : Int) (held : Option STime) (new : STime) (s : Device) :
    Noted s (cutOutput key code held new s) := by
  unfold cutOutput
  split
  · exact .refl s
  · exact .ite ⟨_, _, _, _, _, _, _, _, _, rfl⟩ (.refl s)

theorem hazard_noted (off : Nat) (s : Device) : Noted s (hazard off s) :=
  .ite ⟨_, _, _, _, _, _, _, _, _, rfl⟩ (.refl s)

theorem sendToken_noted (t : Token) (s : Device) : Noted s (sendToken t s) := by
  obtain ⟨d, hd⟩ := sendToken_dpt t s
  rw [hd]
  exact ⟨_, _, _, _, _, _, _, _, _, rfl⟩

end Sys2Proof.Proofs.Notes
end

section
/-!
Analog outputs (07_outputs_digital_pulse).
-/
namespace Sys2Proof.Proofs.AnalogOutput
open Sys2Proof Sys2Proof.Machine Sys2Proof.Laws
open Sys2Proof.Proofs.SecurityAccess Sys2Proof.Proofs.Commands Sys2Proof.Proofs.Notes

theorem takeOutput_of_head {kind n : Nat} {o : OutItem} {rest : List OutItem} {s : Device}
    (houts : s.outputs = o :: rest) (hkind : o.kind = kind) (hindex : o.index = n) :
    takeOutput kind n s = (some o, { s with outputs := rest }) := by
  have hmine : (o.kind == kind && o.index == n) = true := by simp [hkind, hindex]
  unfold takeOutput
  dsimp only
  rw [houts]
  simp only [List.find?_cons, List.eraseP_cons, hmine]
  rfl

theorem takeOutput_of_none (kind n : Nat) {s : Device} (h : s.outputs = []) : (takeOutput kind n s).1 = none := by
  unfold takeOutput
  rw [h]
  rfl

theorem dacOf_congr {s t : Device} (h : t.dac = s.dac) (n : Nat) : dacOf t n = dacOf s n :=
  congrArg (fun a : Dac => tget a.chans n {}) h

@[simp] theorem dacOf_modDac_same (n : Nat) (f : DacCh → DacCh) (s : Device) : dacOf (modDac n f s) n = f (dacOf s n) :=
  tget_tset_same ..

@[simp] theorem dacOf_started (d : Desc) (n : Nat) (s : Device) : dacOf (started d s) n = dacOf s n := rfl

/-! ## Latching (R309) -/

section Latch
variable (o : OutItem) (s : Device)

/-- The channel as a code latches in it. -/
def latched (o : OutItem) (s : Device) : Device :=
  modDac o.index (fun c => { c with code := o.code, time := some o.time, issue := some (nowD s), wait := none })
    (cutOutput o.index (dacOf s o.index).code (dacOf s o.index).time o.time s)

theorem dacLatch_noted : Noted (latched o s) (dacLatch o s) :=
  (ltnRecord_noted ..).trans (report_noted ..)

theorem dacOf_latched : dacOf (latched o s) o.index =
    { code := o.code, time := some o.time, issue := some (nowD s), wait := none } := by
  rw [latched, dacOf_modDac_same]

theorem dacOf_dacLatch : dacOf (dacLatch o s) o.index =
    { code := o.code, time := some o.time, issue := some (nowD s), wait := none } :=
  (dacOf_congr (dacLatch_noted o s).dac _).trans (dacOf_latched o s)

theorem dacLatch_outputs : (dacLatch o s).outputs = s.outputs :=
  (dacLatch_noted o s).outputs.trans (show (latched o s).outputs = _ from (cutOutput_noted ..).outputs)

end Latch

variable {s : Device} {n : Nat}

theorem dacHold_of_empty (h : (dacOf s n).wait = none) : dacHold n s = s := by
  unfold dacHold
  dsimp only
  rw [h]

theorem dacFree_of_early {c : DacCh} {t : STime} (hissue : c.issue = some t) (h : nowD s < t + usT 1) :
    dacFree c s = false := by
  unfold dacFree
  rw [hissue, Option.all_some, decide_eq_false h.not_ge, Bool.false_and]

theorem dacHold_of_early {o : OutItem} {t : STime} (hwait : (dacOf s n).wait = some o)
    (hissue : (dacOf s n).issue = some t) (h : nowD s < t + usT 1) : dacHold n s = s := by
  unfold dacHold
  dsimp only
  rw [hwait]
  exact if_neg (ne_true_of_eq_false (dacFree_of_early hissue h))

theorem dacHold_of_due {o : OutItem} {t : STime} (hwait : (dacOf s n).wait = some o)
    (hissue : (dacOf s n).issue = some t) (h : t + usT 1 ≤ nowD s) (hfbl : s.fbl.control = false) :
    dacHold n s = dacLatch o s := by
  unfold dacHold
  dsimp only
  rw [hwait]
  refine if_pos ?_
  rw [dacFree, hissue, Option.all_some, decide_eq_true h, hfbl]
  rfl

/-! ## A code that meets its channel with none waiting (R308, R309) -/

section Accept
variable {o : OutItem} (hwait : (dacOf s o.index).wait = none)
include hwait

theorem dacAccept_of_older {t : STime} (htime : (dacOf s o.index).time = some t) (h : o.time < t) :
    dacAccept o s = dacDrop o s := by
  unfold dacAccept
  rw [dacHold_of_empty hwait]
  dsimp only
  rw [hwait]
  dsimp only
  rw [htime]
  exact if_pos (by simpa using h)

variable {b : List Byte} (horder : (dacOf s o.index).time.all (fun x => decide (x ≤ o.time)) = true)
  (hrec : recAt s 0x09 1 o.index o.time = some b)
include horder hrec

theorem dacAccept_of_kept : dacAccept o s =
    if dacFree (dacOf s o.index) s then dacLatch { o with code := clampI (dacLimits b).1 (dacLimits b).2 o.code } s
    else modDac o.index (fun c => { c with
      wait := some { o with code := clampI (dacLimits b).1 (dacLimits b).2 o.code } }) s := by
  have hnot : (dacOf s o.index).time.any (fun t => decide (o.time < t)) = false := by
    cases htime : (dacOf s o.index).time with
    | none => rfl
    | some t => simpa [htime] using horder
  unfold dacAccept
  rw [dacHold_of_empty hwait]
  dsimp only
  rw [hwait]
  dsimp only
  rw [hnot, if_neg Bool.false_ne_true, hrec]

theorem dacAccept_of_free (hfree : dacFree (dacOf s o.index) s = true) : dacAccept o s =
    dacLatch { o with code := clampI (dacLimits b).1 (dacLimits b).2 o.code } s :=
  (dacAccept_of_kept hwait horder hrec).trans (if_pos hfree)

theorem dacAccept_of_early {t : STime} (hissue : (dacOf s o.index).issue = some t) (h : nowD s < t + usT 1) :
    dacAccept o s = modDac o.index (fun c => { c with
      wait := some { o with code := clampI (dacLimits b).1 (dacLimits b).2 o.code } }) s :=
  (dacAccept_of_kept hwait horder hrec).trans (if_neg (ne_true_of_eq_false (dacFree_of_early hissue h)))

end Accept

theorem dacArrival_of_none (h : s.outputs = []) : dacArrival n s = s := by
  have htake : takeOutput 1 n s = (none, (takeOutput 1 n s).2) := Prod.ext (takeOutput_of_none 1 n h) rfl
  unfold dacArrival
  rw [htake]

theorem dacArrival_of_head {o : OutItem} {rest : List OutItem} (houts : s.outputs = o :: rest) (hkind : o.kind = 1)
    (hindex : o.index = n) : dacArrival n s =
      if dacHost s n then dacDrop o { s with outputs := rest } else dacAccept o { s with outputs := rest } := by
  unfold dacArrival
  rw [takeOutput_of_head houts hkind hindex]
  rfl

/-! ## DAC_OE and DAC_SET (R307, R311) -/

theorem dacOeWrite_of_running {v : Nat} (hheld : s.clk.held = none) (hv : v < 2 ^ 32) :
    dacOeWrite v s = { hazard 0x90000 s with dac.oe := v } := by
  unfold dacOeWrite domeWrite
  rw [hheld, Nat.mod_eq_of_lt hv]
  rfl

section Set
variable {d : Desc} (hchan : d.target.toNat ≤ 31) (hcreated : created s 0x09 1 d.target.toNat = true)
  (hfields : badField { pmask := 1 } [(sword d.p0 < (dacLimits (recNow s 0x09 1 d.target.toNat)).1 ||
    (dacLimits (recNow s 0x09 1 d.target.toNat)).2 < sword d.p0, 24)] d = none)
include hchan hcreated hfields

theorem dacSet_of_host (hhost : dacHost s d.target.toNat = true) : dacSet (pendOf d s) (started d s) =
    okWith (wrapInt 32 (dacOf s d.target.toNat).code) (dacAccept
      { kind := 1, index := d.target.toNat, code := sword d.p0, time := nowD s, version := versionAt s (nowD s) } (started d s)) := by
  have hfound : (decide (31 < d.target.toNat) || !created (started d s) 0x09 1 d.target.toNat) = false := by
    rw [created_started, hcreated, decide_eq_false hchan.not_gt]
    rfl
  have hserves : dacHost (started d s) d.target.toNat = true := hhost
  unfold dacSet
  exact checked_when_fields_when hfound hfields (by rw [pendOf_desc, hserves]; rfl)

theorem dacSet_of_engines (hhost : dacHost s d.target.toNat = false) : dacSet (pendOf d s) (started d s) =
    .done .rejectedState 0 [] (started d s) := by
  have hfound : (decide (31 < d.target.toNat) || !created (started d s) 0x09 1 d.target.toNat) = false := by
    rw [created_started, hcreated, decide_eq_false hchan.not_gt]
    rfl
  have hserves : dacHost (started d s) d.target.toNat = false := hhost
  unfold dacSet
  exact checked_when_fields_refused hfound hfields (by rw [pendOf_desc, hserves]; rfl)

end Set

/-- Settles O38. -/
theorem analogOutputs : Obligations.AnalogOutputs := by
  unfold Obligations.AnalogOutputs
  refine ⟨fun n s houts => ?_, fun n o rest b s houts hkind hindex hhost hwait horder hfree hrec => ?_,
    fun n o rest t0 b s houts hkind hindex hhost hwait horder hissue hearly hrec => ?_,
    fun n o rest s houts hkind hindex hhost => ?_, fun n o rest x s houts hkind hindex hwait htime hold => ?_,
    fun n o t0 s hwait hissue hdue hfbl => ?_, fun n o t0 s hwait hissue hearly => ?_, fun o s => ?_,
    fun v s hheld hv => ?_, fun d s hstart hchan hcreated hfields hhost => ?_,
    fun d s hstart hchan hcreated hfields hhost => ?_⟩
  · rw [exec_dacOutputArrival, execDacOutputArrival, dacArrival_of_none houts]
  · subst hindex
    refine ⟨_, exec_dacOutputArrival o.index s, ?_⟩
    rw [dacArrival_of_head houts hkind rfl, if_neg (ne_true_of_eq_false hhost),
      dacAccept_of_free (s := { s.dev with outputs := rest }) hwait horder hrec hfree, dacLatch_outputs]
    have hread := dacOf_dacLatch { o with code := clampI (dacLimits b).1 (dacLimits b).2 o.code }
      { s.dev with outputs := rest }
    exact ⟨congrArg DacCh.code hread, congrArg DacCh.time hread, congrArg DacCh.issue hread, rfl⟩
  · subst hindex
    refine ⟨_, exec_dacOutputArrival o.index s, ?_⟩
    rw [dacArrival_of_head houts hkind rfl, if_neg (ne_true_of_eq_false hhost),
      dacAccept_of_early (s := { s.dev with outputs := rest }) hwait horder hrec hissue hearly, dacOf_modDac_same]
    exact ⟨rfl, rfl⟩
  · rw [exec_dacOutputArrival, execDacOutputArrival, dacArrival_of_head houts hkind hindex, if_pos hhost]
  · subst hindex
    rw [exec_dacOutputArrival, execDacOutputArrival, dacArrival_of_head houts hkind rfl,
      dacAccept_of_older (s := { s.dev with outputs := rest }) hwait htime hold, ite_self]
  · rw [exec_dacHoldLatch, execDacHoldLatch, dacHold_of_due hwait hissue hdue hfbl]
  · rw [exec_dacHoldLatch, execDacHoldLatch, dacHold_of_early hwait hissue hearly]
  · rw [dacOf_dacLatch]
    exact ⟨rfl, rfl, rfl, rfl⟩
  · rw [exec_dacOeWrite, execDacOeWrite, dacOeWrite_of_running hheld hv]
  · rw [exec_dacSet, execDacSet, runCmd_of_done hstart (dacSet_of_host hchan hcreated hfields hhost)]
  · rw [exec_dacSet, execDacSet, runCmd_of_done hstart (dacSet_of_engines hchan hcreated hfields hhost)]

end Sys2Proof.Proofs.AnalogOutput
end

section
/-!
Digital pins and PWM (07_outputs_digital_pulse).
-/
namespace Sys2Proof.Proofs.DigitalIo
open Sys2Proof Sys2Proof.Machine Sys2Proof.Laws
open Sys2Proof.Proofs.SecurityAccess Sys2Proof.Proofs.Commands Sys2Proof.Proofs.Notes Sys2Proof.Proofs.AnalogOutput

theorem pinOf_congr {s t : Device} (h : t.dio = s.dio) (n : Nat) : pinOf t n = pinOf s n :=
  congrArg (fun a : Dio => tget a.pins n {}) h

@[simp] theorem pinOf_modPin_same (n : Nat) (f : Pin → Pin) (s : Device) : pinOf (modPin n f s) n = f (pinOf s n) :=
  tget_tset_same ..

@[simp] theorem pinOf_started (d : Desc) (n : Nat) (s : Device) : pinOf (started d s) n = pinOf s n := rfl

variable {s : Device} {n : Nat}

/-! ## The enables of the outputs (R313) -/

/-- A word of 32 bits put in place of the one at `w` reads back. -/
theorem bits_wordPut (w m : Nat) {v : Nat} (hv : v < 2 ^ 32) :
    bits (32 * w + 31) (32 * w) (m - bits (32 * w + 31) (32 * w) m * 2 ^ (32 * w) + v * 2 ^ (32 * w)) = v := by
  have hpos : 0 < 2 ^ (32 * w) := Nat.two_pow_pos _
  have hwidth : 32 * w + 31 + 1 - 32 * w = 32 := by omega
  unfold bits
  rw [hwidth]
  generalize 2 ^ (32 * w) = p at hpos
  have hle : m / p % 2 ^ 32 * p ≤ m :=
    (Nat.mul_le_mul_right p (Nat.mod_le ..)).trans (Nat.div_mul_le_self m p)
  have hdiv : (m - m / p % 2 ^ 32 * p) / p = m / p - m / p % 2 ^ 32 := by
    rw [mul_comm, Nat.sub_mul_div]
  rw [Nat.add_mul_div_right _ _ hpos, hdiv]
  omega

theorem dioOeWrite_of_running {w v : Nat} (hheld : s.clk.held = none) (hw : w ≤ 2) (hv : v < 2 ^ 32) :
    dioOeWrite w v s = { hazard (0xA0020 + 4 * w) s with
      dio.oe := s.dio.oe - bits (32 * w + 31) (32 * w) s.dio.oe * 2 ^ (32 * w) + v * 2 ^ (32 * w) } := by
  unfold dioOeWrite domeWrite
  rw [if_neg hw.not_gt, hheld, Nat.mod_eq_of_lt hv]
  rfl

/-! ## Accepted levels and excursions (R315, R316) -/

section Accept
variable {level : Bool} {t : STime} {b : List Byte} (hrec : recAt s 0x0A 1 n t = some b)
include hrec

theorem inputAccept_of_held (hmode : pinMode b ≠ 0) (hlevel : (pinOf s n).level ≠ level)
    (hdue : t + usT (fld 2 2 b) ≤ nowD s) : inputAccept n level t s =
      pinEdge n t b (modPin n (fun p => { p with level := level, edgeAt := t }) s) := by
  have hkept : recAt (modPin n (fun p => { p with level := level, edgeAt := t }) s) 0x0A 1 n t = some b := hrec
  unfold inputAccept underRec
  rw [hrec, hkept]
  exact if_neg (by simp [hmode, hlevel, hdue])

theorem inputAccept_of_not (h : pinMode b = 0 ∨ (pinOf s n).level = level ∨ nowD s < t + usT (fld 2 2 b)) :
    inputAccept n level t s = s := by
  unfold inputAccept
  rw [hrec]
  exact if_pos (by simpa [or_assoc] using h)

end Accept

theorem excursion_of_filtered (hmode : pinMode (recNow s 0x0A 1 n) ≠ 0) (hfilt : fld 2 2 (recNow s 0x0A 1 n) ≠ 0) :
    excursion n s =
      if (pinOf s n).chatAt.all (fun t => t + secT 1 ≤ nowD s) then
        raise Ev.dioChatter [(1, n), (4, ((pinOf s n).chat + 1).toNat)]
          (modPin n (fun p => { p with chat := p.chat + 1, chatAt := some (nowD s) }) s)
      else modPin n (fun p => { p with chat := p.chat + 1, chatAt := some (nowD s) }) s := by
  unfold excursion
  dsimp only
  rw [if_neg (by simp [hmode, hfilt]), pinOf_modPin_same]

/-! ## PWM (R320, R321) -/

theorem pwmArrival_of_next {o : OutItem} {rest : List OutItem} (houts : s.outputs = o :: rest) (hkind : o.kind = 2)
    (hindex : o.index = n) (hmode : pinMode (recNow s 0x0A 1 n) = 4) (hwait : (pinOf s n).pwmWait = none)
    (horder : (pinOf s n).pwmTime.all (fun x => decide (x ≤ o.time)) = true) : pwmArrival n s =
      modPin n (fun p => { p with pwmWait := some { o with code := clampI 0 65536 o.code } })
        { s with outputs := rest } := by
  have hpin : pinOf { s with outputs := rest } n = pinOf s n := rfl
  have hrec : recNow { s with outputs := rest } 0x0A 1 n = recNow s 0x0A 1 n := rfl
  have hnot : (pinOf s n).pwmTime.any (fun t => decide (o.time < t)) = false := by
    cases htime : (pinOf s n).pwmTime with
    | none => rfl
    | some t => simpa [htime] using horder
  unfold pwmArrival
  rw [takeOutput_of_head houts hkind hindex]
  dsimp only
  rw [hrec, hpin, if_neg (by simp [hmode]), hwait]
  dsimp only
  rw [hnot]
  rfl

theorem pwmStart_of_none (h : (pinOf s n).pwmWait = none) :
    pwmStart n s = modPin n (fun p => { p with pwmHigh := pwmHigh (recNow s 0x0A 1 n) p.pwm }) s := by
  unfold pwmStart
  rw [h]

theorem pwmLatch_noted {o : OutItem} (hfbl : s.fbl.control = false) (h : (pinOf s n).pwmWait = some o) :
    Noted (pwmLatch n o.code.toNat o.time (cutOutput (32 + n) (pinOf s n).pwm (pinOf s n).pwmTime o.time s))
      (pwmStart n s) := by
  unfold pwmStart
  rw [h, hfbl]
  exact (ltnRecord_noted ..).trans (report_noted ..)

theorem pinOf_pwmLatch (code : Nat) (t : STime) : pinOf (pwmLatch n code t s) n =
    { pinOf s n with pwm := code, pwmTime := some t, pwmHigh := pwmHigh (recNow s 0x0A 1 n) code, pwmWait := none } :=
  pinOf_modPin_same ..

theorem pinOf_pwmStart {o : OutItem} (hfbl : s.fbl.control = false) (h : (pinOf s n).pwmWait = some o) :
    pinOf (pwmStart n s) n = { pinOf s n with
      pwm := o.code.toNat, pwmTime := some o.time, pwmHigh := pwmHigh (recNow s 0x0A 1 n) o.code.toNat
      pwmWait := none } := by
  have hcut := cutOutput_noted (32 + n) (pinOf s n).pwm (pinOf s n).pwmTime o.time s
  rw [pinOf_congr (pwmLatch_noted hfbl h).dio, pinOf_pwmLatch, pinOf_congr hcut.dio, hcut.recNow]

/-! ## Written pins (R20, R335) -/

section Write
variable {level : Bool} {t : STime} (hfbl : s.fbl.control = false)
include hfbl

theorem pinWrite_of_newer (horder : (pinOf s n).outTime.all (fun x => decide (x ≤ t)) = true) :
    pinWrite n level t s = modPin n (fun p => { p with out := level, outTime := some t })
      (cutOutput (32 + n) (flag 0 (pinOf s n).out) (pinOf s n).outTime t s) := by
  have hnot : (pinOf s n).outTime.any (fun x => decide (t < x)) = false := by
    cases htime : (pinOf s n).outTime with
    | none => rfl
    | some x => simpa [htime] using horder
  unfold pinWrite
  rw [hfbl, hnot]
  rfl

theorem pinWrite_of_older {x : STime} (htime : (pinOf s n).outTime = some x) (h : t < x) :
    pinWrite n level t s = { s with dio.orderDrop := s.dio.orderDrop + 1 } := by
  unfold pinWrite
  rw [hfbl, htime]
  exact (if_neg Bool.false_ne_true).trans (if_pos (decide_eq_true h))

end Write

section Command
variable {d : Desc}

theorem dioSet_of_outputs (hw : d.target.toNat ≤ 2) (hfields : badField { pmask := 3 } [] d = none)
    (houts : (List.range 32).all (fun k => !bit k d.p0.toNat ||
      (pinIsOutput (recNow s 0x0A 1 (32 * d.target.toNat + k)) &&
        pinHost (recNow s 0x0A 1 (32 * d.target.toNat + k)))) = true) :
    dioSet (pendOf d s) (started d s) = okWith (pinWord d.target.toNat (fun n => (pinOf s n).out))
      ((List.range 32).foldl (fun u k => if bit k d.p0.toNat then
        pinWrite (32 * d.target.toNat + k) (bit k d.p1.toNat) (nowD s) u else u) (started d s)) := by
  unfold dioSet
  exact checked_when_fields_when (decide_eq_false hw.not_gt) hfields (congrArg not houts)

theorem dioClear_of_fields (hfields : badField { target := false, pmask := 1 } [(2 ^ 4 ≤ d.p0.toNat, 24)] d = none) :
    dioClear (pendOf d s) (started d s) = okWith 0 { started d s with
      dio.pins := tmap s.dio.pins (fun _ x => { x with chat := clr d.p0.toNat 0 x.chat })
      dio.ports := tmap s.dio.ports (fun _ x => { x with err := clr d.p0.toNat 1 x.err })
      dio.uarts := tmap s.dio.uarts (fun _ x => { x with lost := clr d.p0.toNat 2 x.lost })
      dio.pwmSupersede := clr d.p0.toNat 3 s.dio.pwmSupersede
      dac.supersede := clr d.p0.toNat 3 s.dac.supersede } := by
  unfold dioClear
  exact checked_fields hfields

end Command

/-- Settles O39. DIO_SET's DETAIL and bit 3 of DIO_CLEAR_COUNTERS are those of log 58; an older write counts by log 87. -/
theorem pinsAndPwm : Obligations.PinsAndPwm := by
  unfold Obligations.PinsAndPwm
  refine ⟨fun w v s hheld hw hv _ => ?_, fun w v s hw => ?_, fun n level t b s hrec hmode hlevel hdue => ?_,
    fun n level t b s hrec h => ?_, fun n s hmode hfilt hquiet => ?_, fun n t s hmode hfilt hchat hrecent => ?_,
    fun n o rest s houts hkind hindex hmode hwait horder => ?_, fun n s hwait => ?_, fun n o s hfbl hwait => ?_,
    fun d s hstart hw hfields houts => ?_, fun n level t s hfbl horder => ?_,
    fun n level t x s hfbl htime hold => pinWrite_of_older hfbl htime hold, fun d s hstart hfields => ?_⟩
  · refine ⟨_, exec_dioOeWrite w v s, ?_⟩
    rw [dioOeWrite_of_running hheld hw hv]
    have hpins : (hazard (0xA0020 + 4 * w) s.dev).dio.pins = s.dev.dio.pins := congrArg Dio.pins (hazard_noted ..).dio
    exact ⟨bits_wordPut w _ hv, hpins⟩
  · rw [exec_dioOeWrite, execDioOeWrite, dioOeWrite, if_pos hw]
  · rw [exec_dioInputAccept, execDioInputAccept, inputAccept_of_held hrec hmode hlevel hdue]
  · rw [exec_dioInputAccept, execDioInputAccept, inputAccept_of_not hrec h]
  · rw [exec_dioRawExcursionSuppress, execDioRawExcursionSuppress, excursion_of_filtered hmode hfilt, hquiet,
      Option.all_none, if_pos rfl]
  · rw [exec_dioRawExcursionSuppress, execDioRawExcursionSuppress, excursion_of_filtered hmode hfilt, hchat,
      Option.all_some, decide_eq_false hrecent.not_ge, if_neg Bool.false_ne_true]
  · rw [exec_pwmCodeArrival, execPwmCodeArrival, pwmArrival_of_next houts hkind hindex hmode hwait horder]
  · rw [exec_pwmPeriodStart, execPwmPeriodStart, pwmStart_of_none hwait]
  · refine ⟨_, exec_pwmPeriodStart n s, ?_⟩
    rw [pinOf_pwmStart hfbl hwait]
    exact ⟨rfl, rfl, rfl, rfl, (pwmLatch_noted hfbl hwait).dac.trans (cutOutput_noted ..).dac⟩
  · rw [exec_dioSet, execDioSet, runCmd_of_done hstart (dioSet_of_outputs hw hfields houts)]
  · rw [pinWrite_of_newer hfbl horder, pinOf_modPin_same]
    exact ⟨rfl, rfl⟩
  · rw [exec_dioClearCounters, execDioClearCounters, runCmd_of_done hstart (dioClear_of_fields hfields)]

end Sys2Proof.Proofs.DigitalIo
end

section
/-!
Pulse inputs, position ports and UARTs (07_outputs_digital_pulse).
-/
namespace Sys2Proof.Proofs.DigitalIo
open Sys2Proof Sys2Proof.Machine Sys2Proof.Laws
open Sys2Proof.Proofs.SecurityAccess Sys2Proof.Proofs.Commands Sys2Proof.Proofs.Notes Sys2Proof.Proofs.AnalogOutput

theorem pulseOf_congr {s t : Device} (h : t.dio = s.dio) (p : Nat) : pulseOf t p = pulseOf s p :=
  congrArg (fun a : Dio => tget a.pulses p {}) h

theorem portOf_congr {s t : Device} (h : t.dio = s.dio) (q : Nat) : portOf t q = portOf s q :=
  congrArg (fun a : Dio => tget a.ports q {}) h

section Reads
variable (n : Nat) (s : Device)

@[simp] theorem pulseOf_modPulse_same (f : Pulse → Pulse) : pulseOf (modPulse n f s) n = f (pulseOf s n) := tget_tset_same ..
@[simp] theorem portOf_modPort_same (f : Port → Port) : portOf (modPort n f s) n = f (portOf s n) := tget_tset_same ..
@[simp] theorem uartOf_modUart_same (f : Uart → Uart) : uartOf (modUart n f s) n = f (uartOf s n) := tget_tset_same ..

end Reads

variable {s : Device}

theorem underRec_of_kept {blk kind obj : Nat} {t : STime} {b : List Byte} (f : List Byte → Device → Device)
    (h : recAt s blk kind obj t = some b) : underRec blk kind obj t f s = f b s := by
  unfold underRec
  rw [h]

/-- An effect under a record that leaves pins and ports as they are leaves them so where the record has gone (R132). -/
theorem underRec_dio {blk kind obj : Nat} {t : STime} {f : List Byte → Device → Device}
    (hf : ∀ b, (f b s).dio = s.dio) : (underRec blk kind obj t f s).dio = s.dio := by
  unfold underRec
  split
  · exact hf _
  · split
    · exact raise_dio ..
    · rfl

/-! ## Pulse inputs (R322 to R324) -/

section Pulse
variable {p : Nat}

theorem checkOverspeed_cases (t : STime) (s : Device) : checkOverspeed p t s = s ∨
    checkOverspeed p t s = raise Ev.dioOverspeed [(1, p)] (modPulse p (fun u => { u with overspeed := true }) s) := by
  unfold checkOverspeed
  dsimp only
  split
  · exact .inr rfl
  · exact .inl rfl

theorem checkOverspeed_of_calm {t : STime} (h : (pulseOf s p).recent = []) : checkOverspeed p t s = s := by
  unfold checkOverspeed
  dsimp only
  rw [h]
  exact if_neg (by simp [overspeedNow])

theorem checkOverspeed_dpt (t : STime) (s : Device) : (checkOverspeed p t s).dpt = s.dpt := by
  rcases checkOverspeed_cases t s with h | h
  · rw [h]
  · rw [h, raise_dpt]
    rfl

/-- OVERSPEED is all of a pulse input that the check of its edges can change (R323). -/
theorem pulseOf_checkOverspeed (t : STime) (s : Device) :
    ∃ o, pulseOf (checkOverspeed p t s) p = { pulseOf s p with overspeed := o } := by
  rcases checkOverspeed_cases t s with h | h
  · exact ⟨(pulseOf s p).overspeed, by rw [h]⟩
  · exact ⟨true, by rw [h, pulseOf_congr (raise_dio ..), pulseOf_modPulse_same]⟩

theorem pulseEdge_of_counted {rising : Bool} {t : STime} (h : edgeCounts (recNow s 0x0A 2 p) rising = true) :
    pulseEdge p rising t s = checkOverspeed p t (modPulse p (fun u => { u with
      count := u.count + 1, recent := (t :: u.recent).take 6, n := u.n + 1
      firstEdge := if u.n = 0 then t else u.firstEdge, lastEdge := t }) s) := by
  unfold pulseEdge
  rw [h]
  rfl

theorem pulseEdge_of_not {rising : Bool} {t : STime} (h : edgeCounts (recNow s 0x0A 2 p) rising = false) :
    pulseEdge p rising t s = s := by
  unfold pulseEdge
  rw [h]
  rfl

theorem pulseSample_of_off (h : pulseOn s p = false) : pulseSample p s = s := by
  unfold pulseSample
  exact if_pos (by rw [h]; rfl)

theorem pulseSample_of_due {b : List Byte} (hon : pulseOn s p = true) {e : STime}
    (he : (pulseOf s p).sampleAt + nsT (fld 4 4 (recNow s 0x0A 2 p)) = e) (hdue : e ≤ nowD s)
    (hrec : recAt s 0x0A 2 p e = some b) : pulseSample p s =
      sendToken { time := e, version := versionAt s e, slot := fld 2 2 b % 4096, operand := fld 2 2 b / 4096 % 8
                  source := 0x0A60 + p, overspeed := (pulseOf s p).overspeed
                  value := BitVec.ofNat 32 (pulseValue (bit 1 (fld 0 1 b)) (pulseOf s p)) }
        (modPulse p (fun u => { u with n := 0, sampleAt := e }) s) := by
  have hrec' : recAt (modPulse p (fun u => { u with n := 0, sampleAt := e }) s) 0x0A 2 p e = some b := hrec
  unfold pulseSample
  dsimp only
  rw [he]
  refine (if_neg (by rw [hon, decide_eq_false hdue.not_gt]; decide)).trans ?_
  rw [underRec_of_kept _ hrec']
  rfl

theorem pstatClear_of_calm {v : Nat} (hheld : s.clk.held = none) (hv : v % 2 = 1) (hcalm : (pulseOf s p).recent = []) :
    pstatClear p v s = modPulse p (fun u => { u with overspeed := false }) s := by
  have hbit : bit 0 v = true := by simp [bit, hv]
  unfold pstatClear domeWrite
  rw [hbit, hheld]
  exact checkOverspeed_of_calm (by rw [pulseOf_modPulse_same]; exact hcalm)

end Pulse

/-! ## Position ports (R325 to R327) -/

section Port
variable {q : Nat}

section Abz
variable (habz : portAbz s q = true)
include habz

theorem quadrature_of_step {a b : Bool} (h : (portOf s q).a = a ∨ (portOf s q).b = b) : quadrature q a b s =
    modPort q (fun p => { p with
      a := a, b := b, pos := signed 32 (wrapInt 32 (p.pos + quadStep p.a p.b a b)), capture := nowD s }) s := by
  have hone : ((portOf s q).a != a && (portOf s q).b != b) = false := by
    rcases h with h | h <;> simp [h]
  unfold quadrature
  dsimp only
  rw [habz, hone]
  exact (if_neg (by decide)).trans (if_neg (by decide))

theorem quadrature_of_both {a b : Bool} (ha : (portOf s q).a ≠ a) (hb : (portOf s q).b ≠ b) : quadrature q a b s =
    raise Ev.dioQuadErr [(1, q), (4, ((portOf s q).err + 1).toNat)]
      (modPort q (fun p => { p with a := a, b := b, err := p.err + 1 }) s) := by
  have hboth : ((portOf s q).a != a && (portOf s q).b != b) = true := by simp [ha, hb]
  unfold quadrature
  dsimp only
  rw [habz, hboth, portOf_modPort_same]
  exact (if_neg (by decide)).trans (if_pos rfl)

theorem zEdge_of_latch (hlatch : bit 3 (fld 0 1 (recNow s 0x0A 3 q)) = true) :
    (portOf (zEdge q (portOf s q).a (portOf s q).b s) q).zlat =
      (portOf (zEdge q (portOf s q).a (portOf s q).b s) q).pos := by
  have hset (f : Port → Port) : (portAbz (modPort q f s) q && bit 3 (fld 0 1 (recNow (modPort q f s) 0x0A 3 q))) = true := by
    rw [show portAbz (modPort q f s) q = true from habz]
    exact hlatch
  unfold zEdge
  dsimp only
  rw [quadrature_of_step habz (.inl rfl), if_pos (hset _), portOf_modPort_same]

theorem portSsi_of_abz : portSsi s q = false := by
  unfold portAbz at habz
  unfold portSsi
  dsimp only at habz ⊢
  cases h : bit 1 (fld 0 1 (recNow s 0x0A 3 q))
  · exact Bool.and_false _
  · simp [h] at habz

end Abz

section Ssi
variable (hssi : portSsi s q = true)
include hssi

theorem ssiFrame_of_good {raw : Nat} {t : STime} {b : List Byte} (hrec : recAt s 0x0A 3 q t = some b)
    (hgray : bit 2 (fld 0 1 b) = false) : ssiFrame q raw true true t s = modPort q (fun p => { p with
      pos := signed (fld 1 1 b) (raw % 2 ^ fld 1 1 b), capture := t, good := true }) s := by
  unfold ssiFrame
  rw [hssi, underRec_of_kept _ hrec, if_neg (by decide), if_pos (by decide)]
  unfold ssiPosition
  dsimp only
  rw [hgray, if_neg Bool.false_ne_true]

theorem ssiFrame_of_bad {raw : Nat} {high low : Bool} {t : STime} (h : high = false ∨ low = false) :
    ssiFrame q raw high low t s = raise Ev.dioSsiErr [(1, q), (4, ((portOf s q).err + 1).toNat)]
      (modPort q (fun p => { p with err := p.err + 1, good := false }) s) := by
  have hbad : (high && low) = false := by rcases h with h | h <;> simp [h]
  unfold ssiFrame
  rw [hssi, hbad, if_neg (by decide), if_neg Bool.false_ne_true]
  dsimp only
  rw [portOf_modPort_same]

end Ssi

theorem positionSample_of_early (h : nowD s < (portOf s q).sampleAt + nsT (fld 4 4 (recNow s 0x0A 3 q))) :
    positionSample q s = s := by
  unfold positionSample
  exact if_pos (by rw [decide_eq_true h, Bool.or_true])

theorem positionSample_of_abz (habz : portAbz s q = true) {e : STime}
    (he : (portOf s q).sampleAt + nsT (fld 4 4 (recNow s 0x0A 3 q)) = e) (hdue : e ≤ nowD s) :
    portOf (positionSample q s) q = { portOf s q with sampleAt := e } := by
  have hssi := portSsi_of_abz habz
  have hssi' (f : Port → Port) : portSsi (modPort q f s) q = false := hssi
  unfold positionSample
  dsimp only
  rw [he, if_neg (by rw [habz, decide_eq_false hdue.not_gt]; exact Bool.false_ne_true),
    if_neg (by rw [hssi']; exact Bool.false_ne_true)]
  rw [portOf_congr (underRec_dio ?_) q]
  swap
  · exact fun b => (sendToken_noted ..).dio
  rw [portOf_modPort_same, portOf_modPort_same, hssi']
  rfl

end Port

/-! ## UARTs (R329 to R332) -/

section Uart
variable {u : Nat}

theorem uartRx_of_full {data : Byte} {parity : Bool} {flags : Nat} {t : STime} (hu : u ≤ 3) (hon : uartOn s u = true)
    (hde : uartDe s u = false) (hfull : 256 ≤ (uartOf s u).buf.length) : uartRx u data parity flags t s =
      raise Ev.dioUartLost [(1, u), (2, ((uartOf s u).lost + 1).toNat)]
        (modUart u (fun x => { x with lost := x.lost + 1, lostBefore := true })
          (modUart u (fun x => { x with lastRx := some t }) s)) := by
  unfold uartRx
  dsimp only
  rw [hon, hde, decide_eq_false hu.not_gt, if_neg (by decide), if_pos hfull, uartOf_modUart_same, uartOf_modUart_same]

theorem uartFlush_of_unbound (h : windowOf s (0x0A90 + u) = none) (k : Nat) : uartFlush u k s = s := by
  cases k with
  | zero => rfl
  | succ k =>
    unfold uartFlush
    rw [h]

theorem uartFlush_of_empty (h : (uartOf s u).buf = []) (k : Nat) : uartFlush u k s = s := by
  cases k with
  | zero => rfl
  | succ k =>
    unfold uartFlush
    rw [h]
    cases windowOf s (0x0A90 + u) <;> rfl

/-- The record of a received byte (Table DIO-6). -/
def uartRecord (u : Nat) (data : Byte) (parity : Bool) (flags : Nat) (t : STime) (s : Device) : BufRec :=
  { bytes := le 4 (nsLow t) ++ [frameData (recNow s 0x0A 4 u) data] ++
      le 1 (flag 0 ((frameParity (recNow s 0x0A 4 u) data).any (fun p => p != parity)) + flag 1 (bit 1 flags) +
        flag 2 (bit 2 flags) + flag 3 (uartOf s u).lostBefore) ++ le 2 0 }

theorem uartOf_uartRx_of_unbound {data : Byte} {parity : Bool} {flags : Nat} {t : STime} (hu : u ≤ 3)
    (hon : uartOn s u = true) (hde : uartDe s u = false) (hbuf : (uartOf s u).buf = [])
    (hwin : windowOf s (0x0A90 + u) = none) : uartOf (uartRx u data parity flags t s) u =
      { uartOf s u with lastRx := some t, buf := [uartRecord u data parity flags t s], lostBefore := false } := by
  unfold uartRx
  dsimp only
  rw [hon, hde, decide_eq_false hu.not_gt, if_neg (by decide), hbuf, if_neg (by decide)]
  refine (congrArg (uartOf · u) (uartFlush_of_unbound (s := modUart u _ (modUart u _ s)) hwin 257)).trans ?_
  rw [uartOf_modUart_same, uartOf_modUart_same, hbuf]
  rfl

theorem uartIdle_of_none (h : (uartOf s u).lastRx = none) : uartIdle u s = s := by
  unfold uartIdle
  dsimp only
  rw [h]

theorem uartIdle_of_filled {w : Nat} {t : STime} (hlast : (uartOf s u).lastRx = some t)
    (hwin : windowOf s (0x0A90 + u) = some w)
    (hdue : t + (frameBits (recNow s 0x0A 4 u) + fld 4 1 (recNow s 0x0A 4 u)) * bitTime (recNow s 0x0A 4 u) ≤ nowD s)
    (hbuf : (uartOf s u).buf = []) (hfill : (winOf s w).fill ≠ []) :
    uartIdle u s = handBack w (modUart u (fun x => { x with lastRx := none }) s) := by
  unfold uartIdle
  dsimp only
  rw [hlast, hwin]
  dsimp only
  rw [if_neg hdue.not_gt, uartFlush_of_empty hbuf, hbuf, if_pos (show ([] : List BufRec).isEmpty = true from rfl)]
  exact if_neg fun h => hfill (List.isEmpty_iff.mp h)

theorem uartTxDone_of_unbound (h : windowOf s (0x0A94 + u) = none) : uartTxDone u s = s := by
  unfold uartTxDone
  rw [h]

theorem uartSend_foldl (b : List Byte) (data : List Byte) (s : Device) : data.foldl (uartSend u b) s =
    { s with out := s.out ++ data.map (fun x => Out.uart u (frameData b x) (frameParity b x)) } := by
  induction data generalizing s with
  | nil => simp
  | cons x rest ih =>
    rw [List.foldl_cons, ih]
    simp [uartSend, emit]

/-- The device as the last byte of a transmit segment leaves it, before the segment is returned. -/
def uartSent (u w : Nat) (g : HostSeg) (rest : List HostSeg) (s : Device) : Device :=
  modUart u (fun x => { x with deUntil := nowD s + fld 3 1 (recNow s 0x0A 4 u) * bitTime (recNow s 0x0A 4 u) })
    (modWin w (fun v => { v with hold := rest })
      (((g.bytes.drop 32).take (fld 8 4 g.bytes)).foldl (uartSend u (recNow s 0x0A 4 u)) s))

section Sent
variable (w : Nat) (g : HostSeg) (rest : List HostSeg)

theorem uartOf_uartSent : uartOf (uartSent u w g rest s) u = { uartOf s u with
    deUntil := nowD s + fld 3 1 (recNow s 0x0A 4 u) * bitTime (recNow s 0x0A 4 u) } := by
  rw [uartSent, uartSend_foldl, uartOf_modUart_same]
  rfl

theorem winOf_uartSent : winOf (uartSent u w g rest s) w = { winOf s w with hold := rest } := by
  rw [uartSent, uartSend_foldl]
  exact HostRings.winOf_modWin_same w (fun v => { v with hold := rest }) _

theorem uartSent_out : (uartSent u w g rest s).out = s.out ++ ((g.bytes.drop 32).take (fld 8 4 g.bytes)).map
    (fun x => Out.uart u (frameData (recNow s 0x0A 4 u) x) (frameParity (recNow s 0x0A 4 u) x)) := by
  rw [uartSent, uartSend_foldl]
  rfl

end Sent

theorem uartTxDone_of_segment {w : Nat} {g : HostSeg} {rest : List HostSeg} (hwin : windowOf s (0x0A94 + u) = some w)
    (hhold : (winOf s w).hold = g :: rest) (hfield : fieldOn s = true) (hcheck : segCheck (winOf s w) g = 0)
    (hon : uartOn s u = true) : uartTxDone u s = returnSegment w (uartSent u w g rest s) := by
  have hread : readSegment w g s = (some ((g.bytes.drop 32).take (fld 8 4 g.bytes)), s) := by
    unfold readSegment
    dsimp only
    rw [hcheck]
  unfold uartTxDone
  rw [hwin]
  dsimp only
  rw [hhold]
  dsimp only
  rw [hfield, if_neg (by decide), hread]
  dsimp only
  rw [hon, if_pos rfl, uartSent, uartSend_foldl]
  rfl

end Uart

/-! ## DIO_POS_PRESET (R335) -/

section Command
variable {d : Desc}

theorem posPreset_of_abz (hport : d.target.toNat ≤ 7) (hfields : badField { pmask := 1 } [] d = none)
    (habz : portAbz s d.target.toNat = true) : posPreset (pendOf d s) (started d s) =
      okWith (wrapInt 32 (portOf s d.target.toNat).pos)
        (modPort d.target.toNat (fun x => { x with pos := sword d.p0 }) (started d s)) := by
  have hserves : portAbz (started d s) d.target.toNat = true := habz
  unfold posPreset
  exact checked_when_fields_when (decide_eq_false hport.not_gt) hfields (by rw [pendOf_desc, hserves]; rfl)

theorem posPreset_of_absent (h : 7 < d.target.toNat) :
    posPreset (pendOf d s) (started d s) = .done .notFound 0 [] (started d s) := by
  unfold posPreset
  exact checked_refused (decide_eq_true h)

end Command

/-- Settles O40. The OVERSPEED mark of a sample's token is that of log 86. -/
theorem pulsesPortsAndUarts : Obligations.PulsesPortsAndUarts := by
  unfold Obligations.PulsesPortsAndUarts
  refine ⟨fun p rising t s hcounts => ?_, fun p rising t s hcounts => ?_, fun p s hon => ?_,
    fun p b s hon hdue hrec => ?_, fun p v s hheld hv hcalm => ?_, fun q a b s habz hstep => ?_,
    fun q a b s habz ha hb => ?_, fun q s habz hlatch => ⟨_, exec_zIndexEdge .., zEdge_of_latch habz hlatch⟩,
    fun q raw t b s hssi hrec hgray => ?_, fun q raw high low t s hssi hbad => ?_, fun q s habz hdue => ?_,
    fun q s hearly => ?_, fun u data parity flags t s hu hon hde hfull => ?_,
    fun u data parity flags t s hu hon hde hbuf hwin => ?_, fun u s hlast => ?_,
    fun u w t s hlast hwin hdue hbuf hfill => ?_, fun u s hwin => ?_,
    fun u w g rest s hwin hhold hfield hcheck hon => ?_, fun d s hstart hport hfields habz => ?_,
    fun d s hstart hport => ?_⟩
  · obtain ⟨o, ho⟩ := pulseOf_checkOverspeed (p := p) t (modPulse p (fun u => { u with
      count := u.count + 1, recent := (t :: u.recent).take 6, n := u.n + 1
      firstEdge := if u.n = 0 then t else u.firstEdge, lastEdge := t }) s.dev)
    refine ⟨_, exec_pulseEdge p ⟨rising, t⟩ s, ?_⟩
    dsimp only
    rw [pulseEdge_of_counted hcounts, ho, pulseOf_modPulse_same, checkOverspeed_dpt]
    exact ⟨rfl, rfl, rfl, rfl⟩
  · rw [exec_pulseEdge, execPulseEdge, pulseEdge_of_not hcounts]
  · rw [exec_pulseSample, execPulseSample, pulseSample_of_off hon]
  · rw [exec_pulseSample, execPulseSample, pulseSample_of_due hon rfl hdue hrec]
  · rw [exec_dioPstatClear, execDioPstatClear, pstatClear_of_calm hheld hv hcalm]
  · rw [exec_quadratureTransition, execQuadratureTransition, quadrature_of_step habz hstep]
  · rw [exec_quadratureTransition, execQuadratureTransition, quadrature_of_both habz ha hb]
  · rw [exec_ssiFrame, execSsiFrame, ssiFrame_of_good hssi hrec hgray]
  · rw [exec_ssiFrame, execSsiFrame, ssiFrame_of_bad hssi hbad]
  · refine ⟨_, exec_positionSample q s, ?_⟩
    rw [positionSample_of_abz habz rfl hdue]
    exact ⟨rfl, rfl⟩
  · rw [exec_positionSample, execPositionSample, positionSample_of_early hearly]
  · rw [exec_uartRxByte, execUartRxByte, uartRx_of_full hu hon hde hfull]
  · refine ⟨_, exec_uartRxByte u ⟨data, parity⟩ flags t s, ?_⟩
    dsimp only
    rw [uartOf_uartRx_of_unbound hu hon hde hbuf hwin]
    exact ⟨rfl, rfl, rfl⟩
  · rw [exec_uartRxIdle, execUartRxIdle, uartIdle_of_none hlast]
  · rw [exec_uartRxIdle, execUartRxIdle, uartIdle_of_filled hlast hwin hdue hbuf hfill]
  · rw [exec_uartTxDone, execUartTxDone, uartTxDone_of_unbound hwin]
  · refine ⟨uartSent u w g rest s.dev, ?_, ?_⟩
    · rw [exec_uartTxDone, execUartTxDone, uartTxDone_of_segment hwin hhold hfield hcheck hon]
    · rw [uartOf_uartSent, winOf_uartSent, uartSent_out]
      exact ⟨rfl, rfl, rfl⟩
  · rw [exec_dioPosPreset, execDioPosPreset, runCmd_of_done hstart (posPreset_of_abz hport hfields habz)]
  · rw [exec_dioPosPreset, execDioPosPreset, runCmd_of_done hstart (posPreset_of_absent hport)]

end Sys2Proof.Proofs.DigitalIo
end

section
/-!
Commands of MOT (08_motion).
-/
namespace Sys2Proof.Proofs.AxisCommands
open Sys2Proof Sys2Proof.Machine Sys2Proof.Laws
open Sys2Proof.Proofs.SecurityAccess Sys2Proof.Proofs.Commands

variable {d : Desc} {s : Device}

@[simp] theorem axisOf_started (a : Nat) : axisOf (started d s) a = axisOf s a := rfl
@[simp] theorem noAxis_started : noAxis (started d s) d = noAxis s d := rfl

section Axis
variable (haxis : noAxis s d = false)
include haxis

theorem motMove_of_standstill (hfields : badField { pmask := 1 } [] d = none)
    (hsource : bit 2 (fld 2 1 (axRec s d.target.toNat)) = false) (hmode : (axisOf s d.target.toNat).mode = .standstill)
    (hneg : (axisOf s d.target.toNat).neg.latch = none) (hreq : bit 1 (fld 0 1 (axRec s d.target.toNat)) = false) :
    motMove (pendOf d s) (started d s) =
      okWith (wrapInt 32 (clampTarget (axRec s d.target.toNat) (axisOf s d.target.toNat) (sword d.p0)))
        (tokenDirect { time := nowS s, version := versionAt s (nowS s), slot := axisSlot s d.target.toNat, operand := 1
                       source := 0x0600 + d.target.toNat, value := d.p0 } (started d s)) := by
  have hrec : axRec (started d s) d.target.toNat = axRec s d.target.toNat := rfl
  unfold motMove
  refine (checked_when_fields_when haxis hfields ?_).trans ?_
  · rw [pendOf_desc, hrec, axisOf_started, hsource, hmode, hneg, hreq]
    rfl
  · rfl

theorem motStop_of_enabled (hfields : badField { pmask := 1 } [(1 < d.p0.toNat, 24)] d = none)
    (hmode : (axisOf s d.target.toNat).mode ≠ .disabled) : motStop (pendOf d s) (started d s) =
      okWith (wrapInt 32 (stopEnd (axRec s d.target.toNat) (axisOf s d.target.toNat) (d.p0 == 1) (nowS s)))
        (modAxis d.target.toNat (fun x => { x with stopReq := some (d.p0 == 1) }) (started d s)) := by
  unfold motStop
  refine (checked_when_fields_when haxis hfields ?_).trans rfl
  rw [pendOf_desc, axisOf_started]
  simpa using hmode

section Still
variable (hmode : (axisOf s d.target.toNat).mode = .standstill ∨ (axisOf s d.target.toNat).mode = .homingFailed)
include hmode

omit haxis in
theorem rests_of_mode : ((axisOf (started d s) d.target.toNat).mode != .standstill &&
    (axisOf (started d s) d.target.toNat).mode != .homingFailed) = false := by
  rw [axisOf_started]
  rcases hmode with h | h <;> rw [h] <;> rfl

theorem motHome_of_rest (hfields : badField plain [] d = none) : motHome (pendOf d s) (started d s) =
    okWith 0 (setAxMode d.target.toNat .homingSeek (modAxis d.target.toNat (fun x => { x with
      homed := false, homeReq := true, hofs0 := x.hofs, target := none, stall := none, velFrom := none })
      (started d s))) := by
  unfold motHome
  exact checked_when_fields_when haxis hfields (rests_of_mode hmode)

theorem motSetPos_of_rest (hfields : badField { pmask := 1 } [] d = none) : motSetPos (pendOf d s) (started d s) =
    okWith (wrapInt 32 (setPoint (axisOf s d.target.toNat))) (setAxMode d.target.toNat .standstill
      (modAxis d.target.toNat (fun x => { shiftAxis (fSub (fInt (sword d.p0)) (axisOf s d.target.toNat).p) x with
        p := fInt (sword d.p0), homed := true, target := none, askedAt := some (nowS s) }) (started d s))) := by
  unfold motSetPos
  exact checked_when_fields_when haxis hfields (rests_of_mode hmode)

end Still

theorem motHome_of_busy (hfields : badField plain [] d = none)
    (hmode : (axisOf s d.target.toNat).mode = .moving ∨ (axisOf s d.target.toNat).mode = .estop) :
    motHome (pendOf d s) (started d s) = .done .rejectedState 0 [] (started d s) := by
  unfold motHome
  refine checked_when_fields_refused haxis hfields ?_
  rw [pendOf_desc, axisOf_started]
  rcases hmode with h | h <;> rw [h] <;> rfl

theorem readAxis_of_fields (hfields : badField { bufMin := 64, bufMax := 16777216 } [] d = none) :
    readAxis (pendOf d s) (started d s) =
      okBuf (axCode (axisOf s d.target.toNat).mode) (axRecord s d.target.toNat) (started d s) := by
  unfold readAxis
  exact checked_when_fields haxis hfields

end Axis

section Absent
variable (haxis : noAxis s d = true)
include haxis

theorem motMove_of_absent : motMove (pendOf d s) (started d s) = .done .notFound 0 [] (started d s) := by
  unfold motMove
  exact checked_refused haxis

theorem motStop_of_absent : motStop (pendOf d s) (started d s) = .done .notFound 0 [] (started d s) := by
  unfold motStop
  exact checked_refused haxis

theorem motHome_of_absent : motHome (pendOf d s) (started d s) = .done .notFound 0 [] (started d s) := by
  unfold motHome
  exact checked_refused haxis

theorem motSetPos_of_absent : motSetPos (pendOf d s) (started d s) = .done .notFound 0 [] (started d s) := by
  unfold motSetPos
  exact checked_refused haxis

theorem readAxis_of_absent : readAxis (pendOf d s) (started d s) = .done .notFound 0 [] (started d s) := by
  unfold readAxis
  exact checked_refused haxis

end Absent

theorem motClear_of_fields (hfields : badField { target := false, pmask := 1 } [(2 ^ 6 ≤ d.p0.toNat, 24)] d = none) :
    motClear (pendOf d s) (started d s) = okWith 0 { started d s with mot := { (started d s).mot with
      estops := clr d.p0.toNat 0 s.mot.estops, clamps := clr d.p0.toNat 1 s.mot.clamps
      limIgn := clr d.p0.toNat 2 s.mot.limIgn, limChat := clr d.p0.toNat 3 s.mot.limChat
      replans := clr d.p0.toNat 4 s.mot.replans, follow := clr d.p0.toNat 5 s.mot.follow } } := by
  unfold motClear
  exact checked_fields hfields

/-- Settles O42. MOT_SET_POS shifts what refers to positions, as log 89 has it. -/
theorem axisCommands : Obligations.AxisCommands := by
  unfold Obligations.AxisCommands
  refine ⟨fun d s hstart haxis hfields hsource hmode hneg hreq => ?_, fun d s hstart haxis hfields hmode => ?_,
    fun d s hstart haxis hfields hmode => ?_, fun d s hstart haxis hfields hmode => ?_,
    fun d s hstart haxis hfields hmode => ?_, fun d s hstart haxis hfields => ?_,
    fun d s hstart haxis => ⟨?_, ?_, ?_, ?_, ?_⟩, fun d s hstart hfields => ?_⟩
  · rw [exec_motMove, execMotMove, runCmd_of_done hstart (motMove_of_standstill haxis hfields hsource hmode hneg hreq)]
  · rw [exec_motStop, execMotStop, runCmd_of_done hstart (motStop_of_enabled haxis hfields hmode)]
  · rw [exec_motHome, execMotHome, runCmd_of_done hstart (motHome_of_rest haxis hmode hfields)]
  · rw [exec_motSetPos, execMotSetPos, runCmd_of_done hstart (motSetPos_of_rest haxis hmode hfields)]
  · rw [exec_motHome, execMotHome, runCmd_of_done hstart (motHome_of_busy haxis hfields hmode)]
  · rw [exec_motReadState, execMotReadState, runCmd_of_done hstart (readAxis_of_fields haxis hfields)]
  · rw [exec_motMove, execMotMove, runCmd_of_done hstart (motMove_of_absent haxis)]
  · rw [exec_motStop, execMotStop, runCmd_of_done hstart (motStop_of_absent haxis)]
  · rw [exec_motHome, execMotHome, runCmd_of_done hstart (motHome_of_absent haxis)]
  · rw [exec_motSetPos, execMotSetPos, runCmd_of_done hstart (motSetPos_of_absent haxis)]
  · rw [exec_motReadState, execMotReadState, runCmd_of_done hstart (readAxis_of_absent haxis)]
  · rw [exec_motClearCounters, execMotClearCounters, runCmd_of_done hstart (motClear_of_fields hfields)]

end Sys2Proof.Proofs.AxisCommands
end

section
/-!
The coil current regulators and the reports of destinations (08_motion).
-/
namespace Sys2Proof.Proofs.Drives
open Sys2Proof Sys2Proof.Machine Sys2Proof.Laws
open Sys2Proof.Proofs.SecurityAccess Sys2Proof.Proofs.Commands Sys2Proof.Proofs.Notes Sys2Proof.Proofs.AnalogOutput

theorem driveOf_congr {s t : Device} (h : t.ccr = s.ccr) (m : Nat) : driveOf t m = driveOf s m :=
  congrArg (fun a : Ccr => tget a.drives m {}) h

@[simp] theorem driveOf_modDrive_same (m : Nat) (f : Drive → Drive) (s : Device) :
    driveOf (modDrive m f s) m = f (driveOf s m) := tget_tset_same ..

@[simp] theorem driveOf_started (d : Desc) (m : Nat) (s : Device) : driveOf (started d s) m = driveOf s m := rfl

@[simp] theorem driveAxis_modDrive (m k : Nat) (f : Drive → Drive) (s : Device) :
    driveAxis (modDrive m f s) k = driveAxis s k := rfl

/-- What leaves FAULT as it is leaves the drive regulating, or not, as it was (R379). -/
theorem driveOn_modDrive (m : Nat) {f : Drive → Drive} (s : Device) (h : (f (driveOf s m)).fault = (driveOf s m).fault) :
    driveOn (modDrive m f s) m = driveOn s m := by
  have hreleased : driveReleased (modDrive m f s) m = driveReleased s m := by
    unfold driveReleased
    rw [driveOf_modDrive_same, h]
    rfl
  unfold driveOn
  rw [hreleased]
  rfl

variable {s : Device} {m : Nat}

/-! ## Overcurrents (R374) -/

theorem setAxMode_ccr (a : Nat) (mode : AxMode) (s : Device) : (setAxMode a mode s).ccr = s.ccr := by
  unfold setAxMode
  dsimp only
  split
  · rfl
  · exact raise_ccr ..

theorem holdIfAxis_ccr (a : Option Nat) (s : Device) : (holdIfAxis a s).ccr = s.ccr := by
  cases a with
  | none => rfl
  | some a => exact setAxMode_ccr ..

theorem driveAxis_noted {s t : Device} (h : Noted s t) (k : Nat) : driveAxis t k = driveAxis s k := by
  obtain ⟨_, _, _, _, _, _, _, _, _, rfl⟩ := h
  rfl

/-- The drive with an overcurrent: FAULT, its outputs low, and the event that names it. -/
def faulted (m phase : Nat) (code : Int) (s : Device) : Device :=
  raise Ev.ccrOvercurrent [(1, m), (1, phase), sgn 2 code]
    (modDrive m (fun d => { d with fault := true, highA1 := 0, highA2 := 0, highB1 := 0, highB2 := 0 })
      { s with ccr.ovc := s.ccr.ovc + 1 })

theorem faulted_ccr (phase : Nat) (code : Int) (s : Device) : (faulted m phase code s).ccr =
    (modDrive m (fun d => { d with fault := true, highA1 := 0, highA2 := 0, highB1 := 0, highB2 := 0 })
      { s with ccr.ovc := s.ccr.ovc + 1 }).ccr :=
  raise_ccr ..

theorem faulted_mot (phase : Nat) (code : Int) (s : Device) : (faulted m phase code s).mot = s.mot := raise_mot ..

theorem overcurrent_eq (phase : Nat) (code : Int) (s : Device) :
    overcurrent m phase code s = holdIfAxis (driveAxis s m) (faulted m phase code s) :=
  congrArg (fun a => holdIfAxis a (faulted m phase code s)) (driveAxis_noted (raise_noted ..) m)

theorem overcurrent_ccr (phase : Nat) (code : Int) (s : Device) : (overcurrent m phase code s).ccr =
    (modDrive m (fun d => { d with fault := true, highA1 := 0, highA2 := 0, highB1 := 0, highB2 := 0 })
      { s with ccr.ovc := s.ccr.ovc + 1 }).ccr := by
  rw [overcurrent_eq, holdIfAxis_ccr, faulted_ccr]

theorem overcurrent_fault (phase : Nat) (code : Int) (s : Device) :
    (driveOf (overcurrent m phase code s) m).fault = true := by
  rw [driveOf_congr (overcurrent_ccr ..), driveOf_modDrive_same]

theorem overcurrent_ovc (phase : Nat) (code : Int) (s : Device) :
    (overcurrent m phase code s).ccr.ovc = s.ccr.ovc + 1 := by
  rw [overcurrent_ccr]
  rfl

theorem overcurrent_mot_of_free (phase : Nat) (code : Int) (h : driveAxis s m = none) :
    (overcurrent m phase code s).mot = s.mot := by
  rw [overcurrent_eq, h, holdIfAxis, faulted_mot]

/-! ## PWM periods (R366 to R374) -/

/-- The drive as the samples of a period are measured (R370). -/
def measured (m : Nat) (sa sb : List Int) (s : Device) : Device :=
  modDrive m (fun d => { d with
    overRange := sa.any (sampleOver (ccrRec s m)) || sb.any (sampleOver (ccrRec s m))
    imA := ssat 16 (qRound (meanCurrent (ccrRec s m) sa)), imB := ssat 16 (qRound (meanCurrent (ccrRec s m) sb)) }) s

theorem driveOn_measured (sa sb : List Int) : driveOn (measured m sa sb s) m = driveOn s m := driveOn_modDrive m s rfl

theorem driveOf_measured (sa sb : List Int) : driveOf (measured m sa sb s) m = { driveOf s m with
    overRange := sa.any (sampleOver (ccrRec s m)) || sb.any (sampleOver (ccrRec s m))
    imA := ssat 16 (qRound (meanCurrent (ccrRec s m) sa)), imB := ssat 16 (qRound (meanCurrent (ccrRec s m) sb)) } :=
  driveOf_modDrive_same ..

/-- `t` is the drive `m` of `s` with a period begun: position, tick and measured current are new (R366, R367, R370). -/
structure PeriodBegun (m : Nat) (sa : List Int) (s t : Device) : Prop where
  fault : (driveOf t m).fault = (driveOf s m).fault
  pos : (driveOf t m).pos = (drivePos (ccrRec s m) (driveOf s m) (nowD s)).1
  tick : (driveOf t m).tick = (driveOf s m).tick + 1
  imA : (driveOf t m).imA = ssat 16 (qRound (meanCurrent (ccrRec s m) sa))
  ovc : t.ccr.ovc = s.ccr.ovc
  mot : t.mot = s.mot
  axis : driveAxis t m = driveAxis s m

theorem PeriodBegun.of_measured {sa sb : List Int} {f : Drive → Drive} (hfault : ∀ d, (f d).fault = d.fault)
    (hpos : ∀ d, (f d).pos = (drivePos (ccrRec s m) (driveOf s m) (nowD s)).1)
    (htick : (f (driveOf (measured m sa sb s) m)).tick = (driveOf s m).tick + 1)
    (himA : ∀ d, (f d).imA = d.imA) : PeriodBegun m sa s (modDrive m f (measured m sa sb s)) := by
  constructor
  · rw [driveOf_modDrive_same, hfault, driveOf_measured]
  · rw [driveOf_modDrive_same, hpos]
  · rw [driveOf_modDrive_same, htick]
  · rw [driveOf_modDrive_same, himA, driveOf_measured]
  · rfl
  · rfl
  · rfl

/-- What the regulators compute for the next period leaves what the period began with. -/
theorem PeriodBegun.regulated {sa : List Int} {t : Device} (h : PeriodBegun m sa s t) {f : Drive → Drive}
    (hfault : ∀ d, (f d).fault = d.fault) (hpos : ∀ d, (f d).pos = d.pos) (htick : ∀ d, (f d).tick = d.tick)
    (himA : ∀ d, (f d).imA = d.imA) : PeriodBegun m sa s (modDrive m f t) where
  fault := by rw [driveOf_modDrive_same, hfault, h.fault]
  pos := by rw [driveOf_modDrive_same, hpos, h.pos]
  tick := by rw [driveOf_modDrive_same, htick, h.tick]
  imA := by rw [driveOf_modDrive_same, himA, h.imA]
  ovc := h.ovc
  mot := h.mot
  axis := h.axis

section Period
variable {sa sb : List Int}

theorem pwmPeriod_of_absent (h : ccrRec s m = []) : pwmPeriod m sa sb s = s := by
  unfold pwmPeriod
  exact if_pos (by rw [h]; rfl)

variable (hrec : ccrRec s m ≠ []) (hm : m ≤ 15)
include hrec hm

theorem pwmPeriod_of_off (hoff : driveOn s m = false) : pwmPeriod m sa sb s = measured m sa sb s := by
  have hpresent : ¬(decide (ccrRec s m = []) || decide (15 < m)) = true := by simp [hrec, hm]
  have hoff' : driveOn (measured m sa sb s) m = false := (driveOn_measured sa sb).trans hoff
  unfold pwmPeriod
  refine (if_neg hpresent).trans ?_
  exact if_pos (congrArg not hoff')

theorem pwmPeriod_of_pair (hon : driveOn s m = true) {c : Int} (hc : overPair (ccrRec s m) sa = some c) :
    ∃ t, PeriodBegun m sa s t ∧ pwmPeriod m sa sb s = overcurrent m 0 c t := by
  have hpresent : ¬(decide (ccrRec s m = []) || decide (15 < m)) = true := by simp [hrec, hm]
  have hon' : (!driveOn (measured m sa sb s) m) = false := congrArg not ((driveOn_measured sa sb).trans hon)
  unfold pwmPeriod
  dsimp only
  rw [hc]
  refine ⟨_, ?_, (if_neg hpresent).trans (if_neg (ne_true_of_eq_false hon'))⟩
  exact .of_measured (fun _ => rfl) (fun _ => rfl) (by rw [driveOf_measured]) fun _ => rfl

theorem pwmPeriod_of_calm (hon : driveOn s m = true) (hA : overPair (ccrRec s m) sa = none)
    (hB : overPair (ccrRec s m) sb = none) : PeriodBegun m sa s (pwmPeriod m sa sb s) := by
  have hpresent : ¬(decide (ccrRec s m = []) || decide (15 < m)) = true := by simp [hrec, hm]
  have hon' : (!driveOn (measured m sa sb s) m) = false := congrArg not ((driveOn_measured sa sb).trans hon)
  unfold pwmPeriod
  dsimp only
  rw [hA, hB, if_neg hpresent]
  refine Eq.mpr (congrArg _ (if_neg (ne_true_of_eq_false hon'))) ?_
  refine PeriodBegun.regulated ?_ (fun _ => rfl) (fun _ => rfl) (fun _ => rfl) fun _ => rfl
  exact .of_measured (fun _ => rfl) (fun _ => rfl) (by rw [driveOf_measured]) fun _ => rfl

end Period

/-! ## Full steps, losses and holds (R369, R373, R375) -/

theorem fullStep_of_quiet (h : driveOn s m = false ∨ (driveOf s m).strong = false ∨ (driveOf s m).eCnt = 0) :
    fullStep m s = s := by
  unfold fullStep
  refine if_pos ?_
  rcases h with h | h | h <;> simp [h]

theorem fullStep_of_no_threshold (hon : driveOn s m = true) (hstrong : (driveOf s m).strong = true)
    (hcnt : (driveOf s m).eCnt ≠ 0) (hthreshold : fld 18 2 (ccrRec s m) = 0) (hlow : (driveOf s m).low = 0) :
    ∃ load, fullStep m s = modDrive m (fun d => { d with load := load, low := 0, eSum := {}, eCnt := 0 })
      { s with draws := s.draws + 1 } := by
  unfold fullStep
  dsimp only [draw]
  rw [if_neg (by simp [hon, hstrong, hcnt]), hthreshold]
  simp only [Nat.not_lt_zero, if_false, hlow, decide_false, Bool.and_false, Bool.false_eq_true]
  exact ⟨_, rfl⟩

theorem setpointLoss_of_no_points (h : (driveOf s m).points = []) : setpointLoss m s = s := by
  unfold setpointLoss
  dsimp only
  rw [h]
  rfl

theorem setpointLoss_of_due {a : Nat} {p : STime × Int} (hlast : (driveOf s m).points.getLast? = some p)
    (haxis : driveAxis s m = some a) (hramp : (driveOf s m).ramp = none) {e : STime}
    (he : p.1 + 2 * servo (axRec s a) = e) (hdue : e ≤ nowD s) :
    ∃ fs, setpointLoss m s = raise Ev.ccrSpLoss fs (modDrive m (fun d => { d with
      ramp := some (e, (drivePos (ccrRec s m) (driveOf s m) e).1, (drivePos (ccrRec s m) (driveOf s m) e).2.1)
      extra := false }) { s with ccr.spLoss := s.ccr.spLoss + 1 }) := by
  unfold setpointLoss
  dsimp only
  rw [hlast, haxis]
  dsimp only
  rw [he, hramp]
  exact ⟨_, if_neg (by simpa using hdue)⟩

theorem holdDelay_of_due (hhold : (driveOf s m).hold = none)
    (hdue : (driveOf s m).since + msT (fld 10 2 (ccrRec s m)) ≤ nowD s) :
    holdDelay m s = modDrive m (fun d => { d with hold := some 0 }) s := by
  unfold holdDelay
  dsimp only
  rw [hhold]
  exact if_neg (by simpa using hdue)

theorem holdDelay_of_held {k : Nat} (hhold : (driveOf s m).hold = some k) : holdDelay m s = s := by
  unfold holdDelay
  dsimp only
  rw [hhold]
  exact if_pos rfl

theorem ccrOeWrite_of_running {v : Nat} (hheld : s.clk.held = none) (hv : v < 2 ^ 16) :
    ccrOeWrite v s = { hazard 0x70000 s with ccr.oe := v } := by
  unfold ccrOeWrite domeWrite
  rw [hheld, Nat.mod_eq_of_lt hv]
  rfl

/-! ## Set-points (R20, R367, R375) -/

section Setpoint
variable {o : OutItem} {rest : List OutItem} (houts : s.outputs = o :: rest) (hkind : o.kind = 6) (hindex : o.index = m)
include houts hkind hindex

theorem setpointArrival_of_older {t : STime} (htime : (driveOf s m).time = some t) (h : o.time < t) :
    setpointArrival m s =
      report o .discarded 0 { s with outputs := rest, ccr.orderDrop := s.ccr.orderDrop + 1 } := by
  have htime' : (driveOf { s with outputs := rest } m).time = some t := htime
  unfold setpointArrival
  rw [takeOutput_of_head houts hkind hindex]
  dsimp only
  rw [htime']
  exact if_pos (decide_eq_true h)

variable (horder : (driveOf s m).time.all (fun t => decide (t ≤ o.time)) = true)
include horder

omit houts hkind hindex in
theorem setpoint_in_order : (driveOf { s with outputs := rest } m).time.any (fun t => decide (o.time < t)) = false := by
  change (driveOf s m).time.any (fun t => decide (o.time < t)) = false
  cases htime : (driveOf s m).time with
  | none => rfl
  | some t => simpa [htime] using horder

theorem setpointArrival_of_idle (h : driveOn s m = false ∨ (driveOf s m).ramp ≠ none) :
    setpointArrival m s = report o .discarded 0 { s with outputs := rest } := by
  have hidle : (!driveOn { s with outputs := rest } m || (driveOf { s with outputs := rest } m).ramp.isSome) = true := by
    change (!driveOn s m || (driveOf s m).ramp.isSome) = true
    rcases h with h | h
    · rw [h]
      rfl
    · rw [Option.isSome_iff_ne_none.mpr h, Bool.or_true]
  unfold setpointArrival
  rw [takeOutput_of_head houts hkind hindex]
  dsimp only
  rw [setpoint_in_order horder, if_neg Bool.false_ne_true, hidle, if_pos rfl]

theorem setpointArrival_of_taken {b : List Byte} (hon : driveOn s m = true) (hramp : (driveOf s m).ramp = none)
    (hrec : recAt s 0x06 1 (o.axis.getD 0) o.time = some b) :
    setpointArrival m s = placeSetpoint m o b { s with outputs := rest } := by
  have htakes : (!driveOn { s with outputs := rest } m || (driveOf { s with outputs := rest } m).ramp.isSome) = false := by
    change (!driveOn s m || (driveOf s m).ramp.isSome) = false
    rw [hon, hramp]
    rfl
  have hrec' : recAt { s with outputs := rest } 0x06 1 (o.axis.getD 0) o.time = some b := hrec
  unfold setpointArrival
  rw [takeOutput_of_head houts hkind hindex]
  dsimp only
  rw [setpoint_in_order horder, if_neg Bool.false_ne_true, htakes, if_neg Bool.false_ne_true, hrec']

end Setpoint

theorem driveOf_placeSetpoint_fresh (o : OutItem) (b : List Byte) (h : driveOf s m = {}) :
    driveOf (placeSetpoint m o b s) m =
      { points := [(nowD s, 0), (o.time + servo b + usT 8, 256 * o.code)], time := some o.time } := by
  unfold placeSetpoint
  dsimp only
  rw [driveOf_congr (report_noted ..).ccr, driveOf_modDrive_same, h]
  rfl

/-! ## CCR_CLEAR_FAULT (R374, R382) -/

section Command
variable {d : Desc} (hdrive : d.target.toNat ≤ 15) (hfields : badField plain [] d = none)
include hdrive hfields

theorem clearFault_of_gone (hfault : (driveOf s d.target.toNat).fault = true)
    (hrange : (driveOf s d.target.toNat).overRange = false) (haxis : driveAxis s d.target.toNat = none) :
    clearFault (pendOf d s) (started d s) = okWith 0 (raise Ev.ccrFaultCleared [(1, d.target.toNat)]
      (modDrive d.target.toNat (fun x => { x with
        fault := false, pos := 256 * ((driveOf s d.target.toNat).pos / 256), points := [], ramp := none, extra := false
        time := none }) (started d s))) := by
  have haxis' : driveAxis (started d s) d.target.toNat = none := haxis
  unfold clearFault
  refine (checked_when_fields_when (decide_eq_false hdrive.not_gt) hfields ?_).trans ?_
  · rw [pendOf_desc, driveOf_started, hfault, hrange]
    rfl
  · rw [pendOf_desc, haxis']
    dsimp only
    rw [driveAxis_modDrive, haxis', driveOf_started]

theorem clearFault_of_sound (hfault : (driveOf s d.target.toNat).fault = false) :
    clearFault (pendOf d s) (started d s) = .done .rejectedState 0 [] (started d s) := by
  unfold clearFault
  refine checked_when_fields_refused (decide_eq_false hdrive.not_gt) hfields ?_
  rw [pendOf_desc, driveOf_started, hfault]
  rfl

end Command

/-! ## Reports of destinations (R229, R648) -/

section Report
variable {r : DestReport} {rest : List DestReport} (hreports : s.reports = r :: rest)
include hreports

theorem destinationReport_of_other (h : r.item.loop = none) :
    destinationReport s = recordReport r { s with reports := rest } := by
  unfold destinationReport
  rw [hreports]
  dsimp only
  rw [h]

theorem destinationReport_of_loop {n : Nat} (h : r.item.loop = some n) :
    destinationReport s = loopReport n r (recordReport r { s with reports := rest }) := by
  unfold destinationReport
  rw [hreports]
  dsimp only
  rw [h]

end Report

theorem destinationReport_of_none (h : s.reports = []) : destinationReport s = s := by
  unfold destinationReport
  rw [h]

/-- Settles O43. -/
theorem coilsRegulate : Obligations.CoilsRegulate := by
  unfold Obligations.CoilsRegulate
  refine ⟨fun m sa sb s hrec => ?_, fun m sa sb s hrec hm hoff => ?_, fun m sa sb c s hrec hm hon hpair haxis => ?_,
    fun m sa sb c s hrec hm hon hpair => ?_, fun m sa sb s hrec hm hon hA hB => ?_, fun m s h => ?_,
    fun m s hon hstrong hcnt hthreshold hlow => ?_, fun m a p s hlast haxis hramp hdue => ?_, fun m s hpoints => ?_,
    fun m s hhold hdue => ?_, fun m k s hhold => ?_, fun v s hheld hv => ?_,
    fun m o rest s houts hkind hindex horder hidle => ?_, fun m o rest t s houts hkind hindex htime hold => ?_,
    fun m o rest b s houts hkind hindex horder hon hramp hrec => ?_, fun m o b s hfresh => ?_,
    fun d s hstart hdrive hfields hfault hrange haxis => ?_, fun d s hstart hdrive hfields hfault => ?_,
    fun s hreports => ?_, fun r rest s hreports hloop => ?_, fun r n rest s hreports hloop => ?_⟩
  · rw [exec_ccrPwmPeriod, execCcrPwmPeriod, pwmPeriod_of_absent hrec]
  · rw [exec_ccrPwmPeriod, execCcrPwmPeriod, pwmPeriod_of_off hrec hm hoff, measured]
  · obtain ⟨t, ht, hover⟩ := pwmPeriod_of_pair (sb := sb) hrec hm hon hpair
    refine ⟨_, exec_ccrPwmPeriod m sa sb s, ?_⟩
    rw [hover, overcurrent_fault, overcurrent_ovc, overcurrent_mot_of_free _ _ (ht.axis.trans haxis), ht.ovc, ht.mot]
    exact ⟨rfl, rfl, rfl⟩
  · obtain ⟨t, ht, hover⟩ := pwmPeriod_of_pair (sb := sb) hrec hm hon hpair
    refine ⟨_, exec_ccrPwmPeriod m sa sb s, ?_⟩
    rw [hover, overcurrent_fault, overcurrent_ovc, ht.ovc]
    exact ⟨rfl, rfl⟩
  · have ht := pwmPeriod_of_calm hrec hm hon hA hB
    exact ⟨_, exec_ccrPwmPeriod m sa sb s, ht.pos, ht.tick, ht.fault, ht.imA, ht.ovc, ht.mot⟩
  · rw [exec_fullStepLoad, execFullStepLoad, fullStep_of_quiet h]
  · obtain ⟨load, hload⟩ := fullStep_of_no_threshold hon hstrong hcnt hthreshold hlow
    refine ⟨_, exec_fullStepLoad m s, ?_⟩
    rw [hload, driveOf_modDrive_same]
    exact ⟨rfl, rfl, rfl⟩
  · obtain ⟨fs, hloss⟩ := setpointLoss_of_due hlast haxis hramp rfl hdue
    refine ⟨_, exec_setpointLossExpiry m s, ?_⟩
    rw [hloss, driveOf_congr (raise_ccr ..), driveOf_modDrive_same, raise_ccr]
    exact ⟨rfl, rfl, rfl⟩
  · rw [exec_setpointLossExpiry, execSetpointLossExpiry, setpointLoss_of_no_points hpoints]
  · rw [exec_holdDelayExpiry, execHoldDelayExpiry, holdDelay_of_due hhold hdue]
  · rw [exec_holdDelayExpiry, execHoldDelayExpiry, holdDelay_of_held hhold]
  · rw [exec_ccrOeWrite, execCcrOeWrite, ccrOeWrite_of_running hheld hv]
  · rw [exec_ccrSetpointArrival, execCcrSetpointArrival, setpointArrival_of_idle houts hkind hindex horder hidle]
  · rw [exec_ccrSetpointArrival, execCcrSetpointArrival, setpointArrival_of_older houts hkind hindex htime hold]
  · rw [exec_ccrSetpointArrival, execCcrSetpointArrival, setpointArrival_of_taken houts hkind hindex horder hon hramp hrec]
  · rw [driveOf_placeSetpoint_fresh o b hfresh]
    exact ⟨rfl, rfl⟩
  · rw [exec_ccrClearFault, execCcrClearFault, runCmd_of_done hstart (clearFault_of_gone hdrive hfields hfault hrange haxis)]
  · rw [exec_ccrClearFault, execCcrClearFault, runCmd_of_done hstart (clearFault_of_sound hdrive hfields hfault)]
  · rw [exec_destinationReport, execDestinationReport, destinationReport_of_none hreports]
  · rw [exec_destinationReport, execDestinationReport, destinationReport_of_other hreports hloop]
  · rw [exec_destinationReport, execDestinationReport, destinationReport_of_loop hreports hloop]

end Sys2Proof.Proofs.Drives
end

section
/-!
Commands of TIM (10_time).
-/
namespace Sys2Proof.Proofs.TimeCommands
open Sys2Proof Sys2Proof.Machine Sys2Proof.Laws
open Sys2Proof.Proofs.SecurityAccess Sys2Proof.Proofs.Commands

variable {d : Desc} {s : Device}

@[simp] theorem started_tim : (started d s).tim = s.tim := rfl
@[simp] theorem domSlave_started (n : Nat) : domSlave (started d s) n = domSlave s n := rfl
@[simp] theorem utcDomain_started : utcDomain (started d s) = utcDomain s := rfl

/-! ## Setting the time (R484) -/

section Set
variable (hfields : badField { target := false, pmask := 0xF }
  [(1000000000 ≤ d.p0.toNat, 24), (1 < d.p3.toNat, 36)] d = none)
include hfields

theorem setTimeCmd_of_unset (hmode : s.tim.mode = .unset) (hpps : d.p3 = 0) (hnone : s.tim.setTime = none) :
    setTimeCmd (pendOf d s) (started d s) = .wait { started d s with tim.setTime := some {
      pend := pendOf d s, given := (d.p2.toNat * 4294967296 + d.p1.toNat) * 1000000000 + d.p0.toNat, pps := false
      from_ := s.tim.ck } } := by
  unfold setTimeCmd
  dsimp only
  rw [pendOf_desc, hpps]
  refine (checked_fields_when_when (hpps ▸ hfields) ?_ ?_).trans rfl
  · rw [started_tim, hmode]
    rfl
  · rw [started_tim, hnone]
    rfl

theorem setTimeCmd_of_set (hmode : s.tim.mode ≠ .unset) :
    setTimeCmd (pendOf d s) (started d s) = .done .rejectedState 0 [] (started d s) := by
  unfold setTimeCmd
  exact checked_fields_refused hfields (by simp [hmode])

end Set

theorem atPpsTimeout_of_late {g : SetTime} (hset : s.tim.setTime = some g) (hpps : g.pps = true)
    (hdue : g.from_ + 2000000000 ≤ s.tim.ck) :
    atPpsTimeout s = finish g.pend .timeout 0 [] { s with tim.setTime := none } := by
  unfold atPpsTimeout
  rw [hset]
  exact if_pos (by rw [hpps, decide_eq_true hdue]; rfl)

theorem atPpsTimeout_of_none (h : s.tim.setTime = none) : atPpsTimeout s = s := by
  unfold atPpsTimeout
  rw [h]

/-! ## Selecting a domain (R493) -/

theorem timSelect_of_slave (hfields : badField { target := false, pmask := 1 } [(2 < d.p0.toNat, 24)] d = none)
    (h : d.p0.toNat = 2 ∨ domSlave s d.p0.toNat = true) :
    timSelect (pendOf d s) (started d s) = okWith s.tim.sel (selectDomain d.p0.toNat 0 (started d s)) := by
  unfold timSelect
  refine (checked_fields_when hfields ?_).trans rfl
  rw [pendOf_desc, domSlave_started]
  rcases h with h | h <;> simp [h]

theorem selectDomain_dome (new cause : Nat) (s : Device) : (selectDomain new cause s).tim.dome = s.tim.dome :=
  (Time.KeepsRecords.selectDomain (.refl s) new cause).dome

theorem selectDomain_none_mode {cause : Nat} (hmode : s.tim.mode ≠ .unset) (hsel : s.tim.sel ≠ 2) :
    (selectDomain 2 cause s).tim.mode = .free := by
  unfold selectDomain followSelection
  rw [raise_tim]
  rw [if_neg (by simp [hmode, hsel]), if_pos rfl]

/-! ## TIM_RESTEP, TIM_SET_UTC and what is read (R485, R495, R506) -/

/-- Working time set back to UNSET in `u`, as of the time of `s`, and the activity of it ended. -/
def unsetTime (s u : Device) : Device :=
  endOf 5 0 0 0 (raise Ev.timeReset [lo32 (nsLow (nowD s))] { u with
    tim.mode := .unset, tim.far := false, tim.domains := tmap s.tim.domains (fun _ q => { q with agree := [] }) })

theorem unsetTime_of_tim {u : Device} (h : u.tim = s.tim) : unsetTime u u = unsetTime s u := by
  have hnow : nowD u = nowD s := by
    unfold nowD
    rw [h]
  unfold unsetTime
  rw [hnow, h]

theorem timRestep_of_admitted (hfields : badField { target := false } [] d = none)
    (haccess : needMaint (started d s) = false) (hmode : s.cfg.mode ≠ .running) (htime : s.tim.mode ≠ .unset)
    (hadmit : refusal 5 0 0 (started d s) = none) : timRestep (pendOf d s) (started d s) =
      okWith 0 (unsetTime s (admitActivity 5 0 0 3 none (started d s)).2) := by
  have htim : (admitActivity 5 0 0 3 none (started d s)).2.tim = s.tim := by
    unfold admitActivity
    rw [hadmit]
    rfl
  unfold timRestep
  refine (checked_fields_when_when hfields haccess (by simp [hmode, htime])).trans ?_
  rw [Maintenance.admitActivity_ok _ _ hadmit, ← unsetTime_of_tim htim]
  rfl

theorem setUtc_of_free (hfields : badField { target := false, pmask := 3 }
    [(sword d.p0 < -32767 || 32767 < sword d.p0, 24), (2 < d.p1.toNat, 28)] d = none) (hutc : utcDomain s = false) :
    setUtc (pendOf d s) (started d s) = okWith (wrapInt 32 s.tim.utc) { started d s with
      tim.utc := sword d.p0, tim.leap61 := bit 0 d.p1.toNat, tim.leap59 := bit 1 d.p1.toNat, tim.utcValid := true } := by
  unfold setUtc
  exact checked_fields_when hfields hutc

theorem readDomain_of_fields (hdom : d.target.toNat ≤ 1)
    (hfields : badField { bufMin := 64, bufMax := 16777216 } [] d = none) :
    readDomain (pendOf d s) (started d s) = okBuf (domState s d.target.toNat) (le 8 (domState s d.target.toNat) ++
      le 8 (wrapInt 64 (domOf s d.target.toNat).o) ++ le 4 (wrapInt 32 (domOf s d.target.toNat).ff) ++
      le 8 (domOf s d.target.toNat).gmid.toNat ++ le 4 (domOf s d.target.toNat).mpd ++
      le 4 (domOf s d.target.toNat).meas.toNat ++ le 4 (domOf s d.target.toNat).gmChanges.toNat ++
      List.replicate 24 0#8) (started d s) := by
  unfold readDomain
  exact checked_when_fields (decide_eq_false hdom.not_gt) hfields

theorem readDomain_of_absent (hdom : 1 < d.target.toNat) :
    readDomain (pendOf d s) (started d s) = .done .notFound 0 [] (started d s) := by
  unfold readDomain
  exact checked_refused (decide_eq_true hdom)

theorem timClear_of_fields (hfields : badField { target := false, pmask := 1 } [(8 ≤ d.p0.toNat, 24)] d = none) :
    timClear (pendOf d s) (started d s) = okWith 0 { started d s with tim := { (started d s).tim with
      copyErr := clr d.p0.toNat 0 s.tim.copyErr, txDrop := clr d.p0.toNat 1 s.tim.txDrop
      trigDrop := clr d.p0.toNat 2 s.tim.trigDrop } } := by
  unfold timClear
  exact checked_fields hfields

/-- Settles O46. -/
theorem timeCommands : Obligations.TimeCommands := by
  unfold Obligations.TimeCommands
  refine ⟨fun d s hstart hfields hmode hpps hnone => ?_, fun d s hstart hfields hmode => ?_,
    fun g s hset hpps hdue => ?_, fun s hset => ?_, fun d s hstart hfields h => ?_,
    fun new cause s => ⟨selectDomain_dome new cause s, fun hmode hnew hsel => ?_⟩,
    fun d s hstart hfields haccess hmode htime hadmit => ?_, fun d s hstart hfields hutc => ?_,
    fun d s hstart hdom hfields => ?_, fun d s hstart hdom => ?_, fun d s hstart hfields => ?_⟩
  · rw [exec_timSetTime, execTimSetTime, runCmd_of_wait hstart (setTimeCmd_of_unset hfields hmode hpps hnone)]
  · rw [exec_timSetTime, execTimSetTime, runCmd_of_done hstart (setTimeCmd_of_set hfields hmode)]
  · rw [exec_atPpsTimeout, execAtPpsTimeout, atPpsTimeout_of_late hset hpps hdue]
  · rw [exec_atPpsTimeout, execAtPpsTimeout, atPpsTimeout_of_none hset]
  · rw [exec_timSelect, execTimSelect, runCmd_of_done hstart (timSelect_of_slave hfields h)]
  · subst hnew
    exact selectDomain_none_mode hmode hsel
  · rw [exec_timRestep, execTimRestep, runCmd_of_done hstart (timRestep_of_admitted hfields haccess hmode htime hadmit),
      unsetTime]
  · rw [exec_timSetUtc, execTimSetUtc, runCmd_of_done hstart (setUtc_of_free hfields hutc)]
  · rw [exec_timReadDomain, execTimReadDomain, runCmd_of_done hstart (readDomain_of_fields hdom hfields)]
  · rw [exec_timReadDomain, execTimReadDomain, runCmd_of_done hstart (readDomain_of_absent hdom)]
  · rw [exec_timClearCounters, execTimClearCounters, runCmd_of_done hstart (timClear_of_fields hfields)]

end Sys2Proof.Proofs.TimeCommands
end

section
/-!
Commands of ETH (09_ethernet_nelzer).
-/
namespace Sys2Proof.Proofs.EthernetCommands
open Sys2Proof Sys2Proof.Machine Sys2Proof.Laws
open Sys2Proof.Proofs.SecurityAccess Sys2Proof.Proofs.Commands

variable {d : Desc} {s : Device}

@[simp] theorem stnOf_started (n : Nat) : stnOf (started d s) n = stnOf s n := rfl

section Station
variable (hstn : d.target.toNat ≤ 127) (hcreated : created s 0x0C 3 d.target.toNat = true)
include hstn hcreated

theorem station_found : (decide (127 < d.target.toNat) || !created (started d s) 0x0C 3 d.target.toNat) = false := by
  rw [created_started, hcreated, decide_eq_false hstn.not_gt]
  rfl

theorem readStation_of_fields (hfields : badField { bufMin := 64, bufMax := 16777216 } [] d = none) :
    readStation (pendOf d s) (started d s) = okBuf (stnCode (stnOf s d.target.toNat).mode)
      (le 1 (stnCode (stnOf s d.target.toNat).mode) ++ le 1 (stnOf s d.target.toNat).cause ++ le 2 0 ++
        le 4 (wrapInt 32 (stnOf s d.target.toNat).delayA) ++ le 4 (wrapInt 32 (stnOf s d.target.toNat).delayB) ++
        le 4 (stnOf s d.target.toNat).latch ++ le 4 (stnOf s d.target.toNat).lastCycle ++
        le 4 (stnOf s d.target.toNat).misses.toNat ++ le 4 (stnOf s d.target.toNat).losses.toNat ++
        List.replicate 36 0#8) (started d s) := by
  unfold readStation
  exact checked_when_fields (station_found hstn hcreated) hfields

variable (hfields : badField plain [] d = none)
include hfields

theorem reparam_of_live (hmode : (stnOf s d.target.toNat).mode = .live) (hrun : s.cfg.mode = .running) :
    reparam (pendOf d s) (started d s) = okWith 2
      (startParam d.target.toNat true (nzLoss d.target.toNat 5 (nowS s) (started d s))) := by
  unfold reparam
  refine (checked_when_fields_when (station_found hstn hcreated) hfields ?_).trans ?_
  · rw [pendOf_desc, stnOf_started, hmode, started_cfg, hrun]
    rfl
  · rw [pendOf_desc, stnOf_started, hmode, if_pos rfl]
    rfl

theorem reparam_of_param (hmode : (stnOf s d.target.toNat).mode = .param) :
    reparam (pendOf d s) (started d s) = .done .rejectedState 0 [] (started d s) := by
  unfold reparam
  refine checked_when_fields_refused (station_found hstn hcreated) hfields ?_
  rw [pendOf_desc, stnOf_started, hmode]
  rfl

end Station

section Absent
variable (habsent : created s 0x0C 3 d.target.toNat = false)
include habsent

theorem station_absent : (decide (127 < d.target.toNat) || !created (started d s) 0x0C 3 d.target.toNat) = true := by
  rw [created_started, habsent, Bool.not_false, Bool.or_true]

theorem readStation_of_absent : readStation (pendOf d s) (started d s) = .done .notFound 0 [] (started d s) := by
  unfold readStation
  exact checked_refused (station_absent habsent)

theorem reparam_of_absent : reparam (pendOf d s) (started d s) = .done .notFound 0 [] (started d s) := by
  unfold reparam
  exact checked_refused (station_absent habsent)

end Absent

theorem cbReset_of_absent (habsent : created s 0x0C 7 d.target.toNat = false) :
    cbReset (pendOf d s) (started d s) = .done .notFound 0 [] (started d s) := by
  unfold cbReset
  refine checked_refused ?_
  rw [pendOf_desc, created_started, habsent, Bool.not_false, Bool.or_true, Bool.true_or]

theorem cbReset_of_listener (hstream : d.target.toNat ≤ 63) (hcreated : created s 0x0C 7 d.target.toNat = true)
    (henabled : bit 0 (fld 8 1 (recNow s 0x0C 7 d.target.toNat)) = true)
    (hlistener : bit 2 (fld 8 1 (recNow s 0x0C 7 d.target.toNat)) = true) (hfields : badField plain [] d = none) :
    cbReset (pendOf d s) (started d s) = okWith 0 { started d s with
      eth.streams := tmod s.eth.streams d.target.toNat {} (fun q => { q with seq := none, hist := [] }) } := by
  unfold cbReset
  refine (checked_when_fields_when ?_ hfields ?_).trans rfl
  · rw [pendOf_desc, created_started, recNow_started, hcreated, henabled, decide_eq_false hstream.not_gt]
    rfl
  · rw [pendOf_desc, recNow_started, hlistener]
    rfl

section Clear
variable (hfields : badField { target := false, pmask := 1 } [(512 ≤ d.p0.toNat, 24)] d = none)
include hfields

theorem ethClear_of_low (hlow : d.p0.toNat < 256) : ethClear (pendOf d s) (started d s) =
    okWith 0 { started d s with eth := { (started d s).eth with
      miss := clr d.p0.toNat 0 s.eth.miss, bad := clr d.p0.toNat 1 s.eth.bad, late := clr d.p0.toNat 2 s.eth.late
      slip := clr d.p0.toNat 3 s.eth.slip, orderDrop := clr d.p0.toNat 4 s.eth.orderDrop
      supersede := clr d.p0.toNat 5 s.eth.supersede, delayDev := clr d.p0.toNat 6 s.eth.delayDev
      losses := clr d.p0.toNat 7 s.eth.losses } } := by
  have hports : bit 8 d.p0.toNat = false := Counters.bit_above hlow
  unfold ethClear
  refine (checked_fields hfields).trans ?_
  rw [pendOf_desc, hports]
  rfl

theorem ethClear_of_ports (hports : d.p0 = 256) : ethClear (pendOf d s) (started d s) =
    okWith 0 { started d s with eth.ports := tmap s.eth.ports (fun _ q => { q with
      txFr := 0, rxFr := 0, rxErr := 0, rxDrop := 0, late := 0, gateDrop := 0, prpDup := 0 }) } := by
  have hmask : d.p0.toNat = 256 := by
    rw [hports]
    rfl
  have hclear : ∀ k < 8, ∀ c : Word, clr 256 k c = c := by
    intro k hk c
    have hbit : bit k 256 = false := by decide +revert
    rw [clr, hbit]
    rfl
  unfold ethClear
  refine (checked_fields hfields).trans ?_
  rw [pendOf_desc, hmask]
  simp only [hclear _ (show 0 < 8 by decide), hclear _ (show 1 < 8 by decide), hclear _ (show 2 < 8 by decide),
    hclear _ (show 3 < 8 by decide), hclear _ (show 4 < 8 by decide), hclear _ (show 5 < 8 by decide),
    hclear _ (show 6 < 8 by decide), hclear _ (show 7 < 8 by decide)]
  rfl

end Clear

/-- Settles O49. -/
theorem ethernetCommands : Obligations.EthernetCommands := by
  unfold Obligations.EthernetCommands
  refine ⟨fun d s hstart hstn hcreated hfields => ?_, fun d s hstart hstn hcreated hfields hmode hrun => ?_,
    fun d s hstart hstn hcreated hfields hmode => ?_, fun d s hstart hstn hstream => ⟨?_, ?_, ?_⟩,
    fun d s hstart hstream hcreated henabled hlistener hfields => ?_, fun d s hstart hfields hlow => ?_,
    fun d s hstart hfields hports => ?_⟩
  · rw [exec_ethReadStation, execEthReadStation, runCmd_of_done hstart (readStation_of_fields hstn hcreated hfields)]
  · rw [exec_ethReparam, execEthReparam, runCmd_of_done hstart (reparam_of_live hstn hcreated hfields hmode hrun)]
  · rw [exec_ethReparam, execEthReparam, runCmd_of_done hstart (reparam_of_param hstn hcreated hfields hmode)]
  · rw [exec_ethReadStation, execEthReadStation, runCmd_of_done hstart (readStation_of_absent hstn)]
  · rw [exec_ethReparam, execEthReparam, runCmd_of_done hstart (reparam_of_absent hstn)]
  · rw [exec_ethCbReset, execEthCbReset, runCmd_of_done hstart (cbReset_of_absent hstream)]
  · rw [exec_ethCbReset, execEthCbReset,
      runCmd_of_done hstart (cbReset_of_listener hstream hcreated henabled hlistener hfields)]
  · rw [exec_ethClearCounters, execEthClearCounters, runCmd_of_done hstart (ethClear_of_low hfields hlow)]
  · rw [exec_ethClearCounters, execEthClearCounters, runCmd_of_done hstart (ethClear_of_ports hfields hports)]

end Sys2Proof.Proofs.EthernetCommands
end

section
/-!
Commands of PGM, and exchanges (14_programs).
-/
namespace Sys2Proof.Proofs.ProgramCommands
open Sys2Proof Sys2Proof.Machine Sys2Proof.Laws
open Sys2Proof.Proofs.SecurityAccess Sys2Proof.Proofs.Commands Sys2Proof.Proofs.Notes
open Sys2Proof.Proofs.ProgramExecution Sys2Proof.Proofs.PowerStartup

variable {d : Desc} {s : Device} {n : Nat}

section Checks
variable {body : Pend → Device → CmdEnd} {f : Form} {extra : List (Bool × Nat)} {c c' : Bool} {st st' : Status}
  {detail detail' : Nat} {t : Device}

theorem checked_when_fields_when_buffer (hc : c = false) (h : badField f extra d = none) (hc' : c' = false)
    (hbuf : d.buf.acc = .ok) : checked [.when c st detail, .bad f extra, .when c' st' detail', .buffer] body (pendOf d s) t =
      body (pendOf d s) t :=
  checked_none _ _ _ _ ((firstFail_when_false hc _ _ _).trans ((firstFail_bad h _).trans
    ((firstFail_when_false hc' _ _ _).trans ((firstFail_buffer hbuf _).trans firstFail_nil))))

theorem checked_fields_when_buffer (h : badField f extra d = none) (hc' : c' = false) (hbuf : d.buf.acc = .ok) :
    checked [.bad f extra, .when c' st' detail', .buffer] body (pendOf d s) t = body (pendOf d s) t :=
  checked_none _ _ _ _ ((firstFail_bad h _).trans ((firstFail_when_false hc' _ _ _).trans
    ((firstFail_buffer hbuf _).trans firstFail_nil)))

end Checks

/-! ## What the parts of a load leave as it was -/

theorem imageOf_noted (src : Nat) (d : Desc) (s : Device) : Noted s (imageOf src d s).2 := by
  unfold imageOf
  split
  · exact .refl s
  · split
    · exact .refl s
    · exact ⟨_, _, _, _, _, _, _, _, _, rfl⟩

theorem imageOf_keepsRings (src : Nat) (d : Desc) (s : Device) : KeepsRings s (imageOf src d s).2 := by
  unfold imageOf
  split
  · exact .refl s
  · split <;> exact ⟨rfl⟩

theorem storeImage_noted (n : Nat) (i : List Byte) (s : Device) : Noted s (storeImage n i s).2 := by
  unfold storeImage
  split <;> exact ⟨_, _, _, _, _, _, _, _, _, rfl⟩

theorem storeImage_hif (n : Nat) (i : List Byte) (s : Device) : (storeImage n i s).2.hif = s.hif := by
  unfold storeImage
  split <;> rfl

theorem setRelease_noted (slot : Nat) (t : STime) (s : Device) : Noted s (setRelease slot t s) :=
  ⟨_, _, _, _, _, _, _, _, _, rfl⟩

theorem finish_noted (p : Pend) (st : Status) (detail : Nat) (buf : List Byte) (s : Device) :
    Noted s (finish p st detail buf s) := .of_touches (finish_touches ..)

theorem checkSigned_true {img : List Byte} {off role svn kind : Nat} {required : Bool} {t : Device}
    (h : checkSigned img off role svn kind required s = (true, t)) : t = s := by
  unfold checkSigned at h
  dsimp only at h
  split at h
  · split at h
    · simp at h
    · exact (Prod.mk.inj h).2.symm
  · split at h
    · simp at h
    · exact (Prod.mk.inj h).2.symm

/-- A check that ends in an image leaves the device at `t`. -/
def OkAt (t : Device) (r : Except (Status × Nat) (List Byte) × Device) : Prop := ∀ i, r.1 = .ok i → r.2 = t

theorem okAt_error (t u : Device) (e : Status × Nat) : OkAt t (.error e, u) := fun _ h => nomatch h

theorem OkAt.ite {c : Prop} [Decidable c] {t : Device} {r q : Except (Status × Nat) (List Byte) × Device} (h : OkAt t r)
    (k : OkAt t q) : OkAt t (if c then r else q) := by
  split <;> assumption

/-- A program that passes the checks has changed no more than the window it came through (R396). -/
theorem checkProgram_okAt : OkAt (imageOf 0x0401 d s).2 (checkProgram n d s) := by
  unfold checkProgram
  split
  · exact okAt_error _ _ _
  · rename_i i t himage
    rw [himage]
    refine .ite (okAt_error _ _ _) (.ite (okAt_error _ _ _) (.ite (okAt_error _ _ _) (.ite (okAt_error _ _ _) ?_)))
    split
    · exact okAt_error _ _ _
    · rename_i u hsigned
      rw [checkSigned_true hsigned]
      exact .ite (okAt_error _ _ _) (.ite (okAt_error _ _ _) fun _ _ => rfl)

theorem checkProgram_of_ok {i : List Byte} (h : (checkProgram n d s).1 = .ok i) :
    checkProgram n d s = (.ok i, (imageOf 0x0401 d s).2) := Prod.ext h (checkProgram_okAt i h)

/-! ## PGM_LOAD and PGM_EXCHANGE (R396, R410) -/

section Found
variable (hprog : d.target.toNat ≤ 255) (hcreated : created s 0x04 1 d.target.toNat = true)
include hprog hcreated

theorem program_found : (decide (255 < d.target.toNat) || !created (started d s) 0x04 1 d.target.toNat) = false := by
  rw [created_started, hcreated, decide_eq_false hprog.not_gt]
  rfl

end Found

theorem program_absent (h : 255 < d.target.toNat) :
    (decide (255 < d.target.toNat) || !created (started d s) 0x04 1 d.target.toNat) = true := by
  rw [decide_eq_true h, Bool.true_or]

section Image
variable {bad : List Nat} {i : List Byte} (hbad : bad.filter storeSector = []) (hprog : d.target.toNat ≤ 255)
  (hcreated : created s 0x04 1 d.target.toNat = true) (hfields : badField (imageForm d) [] d = none)
  (hbuf : d.buf.acc = .ok) (halone : s.pai.synced = false)
  (hcheck : (checkProgram d.target.toNat d (started d s)).1 = .ok i)
include hbad hprog hcreated hfields hbuf halone hcheck

/-- The device with the image of a load in the Keep. -/
def stored (i : List Byte) (d : Desc) (s : Device) : Device :=
  (storeImage d.target.toNat i (imageOf 0x0401 d (started d s)).2).2

omit hbad hprog hcreated hfields hbuf halone hcheck in
theorem stored_noted : Noted (started d s) (stored i d s) := (imageOf_noted ..).trans (storeImage_noted ..)

omit hbad hprog hcreated hfields hbuf halone hcheck in
theorem stored_keepsRings : KeepsRings (started d s) (stored i d s) :=
  (imageOf_keepsRings ..).of_hif (storeImage_hif ..)

theorem pgmLoad_of_image
    (hmode : s.cfg.mode ≠ .running ∨ (progOf s d.target.toNat).mode ≠ .idle ∧ (progOf s d.target.toNat).mode ≠ .running) :
    ∃ g u, pgmLoad bad (pendOf d s) (started d s) = .done .ok (imgId i) [] u ∧
      Noted (modProg d.target.toNat g (stored i d s)) u ∧ KeepsRings (started d s) u ∧
      ∀ x, (g x).image = i ∧ (g x).inst = imgInit i ∧ (g x).pend = some (0, 0) ∧ (g x).ran = false ∧
        (g x).mode = if bit 0 (fld 0 1 (pgmRec s d.target.toNat)) then .idle else .disabled := by
  have hruns : ((started d s).cfg.mode == .running && ((progOf (started d s) d.target.toNat).mode == .idle ||
      (progOf (started d s) d.target.toNat).mode == .running)) = false := by
    have hprogOf : progOf (started d s) d.target.toNat = progOf s d.target.toNat := rfl
    rw [started_cfg, hprogOf]
    rcases hmode with h | ⟨h, k⟩ <;> simp_all
  have hrec : pgmRec (stored i d s) d.target.toNat = pgmRec s d.target.toNat :=
    (stored_noted (i := i)).recNow ..
  have hsync : (stored i d s).pai.synced = false := (congrArg Pai.synced (stored_noted (i := i)).pai).trans halone
  unfold pgmLoad
  rw [pendOf_desc]
  dsimp only
  rw [checked_when_fields_when_buffer (program_found hprog hcreated) hfields hruns hbuf,
    checkProgram_of_ok hcheck]
  dsimp only
  rw [keepWrite_of_good _ _ hbad]
  refine ⟨_, _, syncOk_of_alone _ _ ?_, .ite (setRelease_noted ..) (.refl _), ?_, fun x => ⟨rfl, rfl, rfl, rfl, ?_⟩⟩
  · rw [apply_ite Device.pai]
    exact (congrArg Pai.synced (ite_self _)).trans hsync
  · exact .ite (stored_keepsRings.of_hif rfl) (stored_keepsRings.of_hif rfl)
  · exact congrArg (fun b => if bit 0 (fld 0 1 b) = true then PgmMode.idle else PgmMode.disabled) hrec

theorem pgmExchange_of_image (hrun : s.cfg.mode = .running)
    (hmode : (progOf s d.target.toNat).mode = .idle ∨ (progOf s d.target.toNat).mode = .running)
    (hnone : (progOf s d.target.toNat).exch = none) :
    ∃ g, pgmExchange bad (pendOf d s) (started d s) = .wait (modProg d.target.toNat g (stored i d s)) ∧
      ∀ x, (g x).image = x.image ∧ (g x).exch = some (pendOf d s, i, nowS s) := by
  have hprogOf : progOf (started d s) d.target.toNat = progOf s d.target.toNat := rfl
  have hruns : ((started d s).cfg.mode != .running || (progOf (started d s) d.target.toNat).mode == .disabled ||
      (progOf (started d s) d.target.toNat).mode == .noImage || (progOf (started d s) d.target.toNat).exch.isSome) =
        false := by
    rw [started_cfg, hprogOf, hrun, hnone]
    rcases hmode with h | h <;> rw [h] <;> rfl
  have hsync : (stored i d s).pai.synced = false := (congrArg Pai.synced (stored_noted (i := i)).pai).trans halone
  have hnow : nowS (stored i d s) = nowS s := (stored_noted (i := i)).nowS
  unfold pgmExchange
  rw [pendOf_desc]
  dsimp only
  rw [checked_when_fields_when_buffer (program_found hprog hcreated) hfields hruns hbuf,
    checkProgram_of_ok hcheck]
  dsimp only
  rw [keepWrite_of_good _ _ hbad]
  refine ⟨_, congrArg CmdEnd.wait (if_neg (ne_true_of_eq_false hsync)), fun x => ⟨rfl, ?_⟩⟩
  exact congrArg (fun t => some (pendOf d s, i, t)) hnow

end Image

/-! ## Exchanges (R410, R413, R415) -/

section Exchange
variable {p : Pend} {i : List Byte} {t : STime}

theorem exchangeBoundary_of_none (h : (progOf s n).exch = none) : exchangeBoundary n s = s := by
  unfold exchangeBoundary
  dsimp only
  rw [h]

theorem exchangeTimeout_of_none (h : (progOf s n).exch = none) : exchangeTimeout n s = s := by
  unfold exchangeTimeout
  rw [h]

variable (hexch : (progOf s n).exch = some (p, i, t))
include hexch

theorem exchangeBoundary_of_running (hmode : (progOf s n).mode = .running) : exchangeBoundary n s = s := by
  unfold exchangeBoundary
  dsimp only
  rw [hexch, hmode]
  exact if_pos rfl

omit hexch in
theorem ships_pgm {u : Device} (h : Keep.Ships s u) : u.pgm = s.pgm := by
  obtain ⟨_, _, _, _, _, rfl⟩ := h
  rfl

omit hexch in
theorem shipUpdate_ships (c : PersistCfg) (tag : ShipTag) (s : Device) : Keep.Ships s (shipUpdate c tag s).2 :=
  Keep.sendMessage_ships ..

omit hexch in
/-- A cut takes of a program what it captures, and leaves it running as it is. -/
theorem progOf_capture (c : Prop) [Decidable c] :
    ∃ x, progOf (if c then capturePgm n s else s) n = { progOf s n with captured := x } := by
  split
  · unfold capturePgm
    split
    · exact ⟨(progOf s n).captured, rfl⟩
    · dsimp only
      split
      · exact ⟨(progOf s n).captured, rfl⟩
      · exact ⟨true, progOf_modProg_same ..⟩
  · exact ⟨(progOf s n).captured, rfl⟩

theorem exchangeBoundary_of_staged (hmode : (progOf s n).mode ≠ .running) (halone : s.pai.synced = false) :
    (progOf (exchangeBoundary n s) n).image = i ∧ (progOf (exchangeBoundary n s) n).exch = none ∧
      (progOf (exchangeBoundary n s) n).mode = (if (progOf s n).mode = .fault then .idle else (progOf s n).mode) ∧
      (progOf (exchangeBoundary n s) n).inst = carryOver (progOf s n).image i (progOf s n).inst := by
  have hgoes : ¬((progOf s n).mode == .running || (s.pai.synced && !(progOf s n).exchAck)) = true := by
    simp [hmode, halone]
  unfold exchangeBoundary
  dsimp only
  rw [hexch]
  dsimp only
  rw [if_neg hgoes, progOf_congr (finish_noted ..).pgm, progOf_congr (raise_noted ..).pgm,
    progOf_congr (Noted.ite (setRelease_noted ..) (.refl _)).pgm, progOf_modProg_same,
    progOf_congr (storeImage_noted ..).pgm]
  obtain ⟨x, hx⟩ := progOf_capture (s := s) (n := n) (s.kep.cut.any (fun k => k.te ≤ nowS s) = true)
  rw [hx]
  exact ⟨rfl, rfl, by simp, rfl⟩

theorem exchangeTimeout_of_late (hdue : t + usT (fld 16 4 (pgmRec s n)) + msT 10 ≤ nowS s) :
    (progOf (exchangeTimeout n s) n).exch = none ∧ (progOf (exchangeTimeout n s) n).image = (progOf s n).image := by
  unfold exchangeTimeout
  rw [hexch]
  dsimp only
  rw [if_neg hdue.not_gt, progOf_congr (finish_noted ..).pgm,
    progOf_congr (ships_pgm (.ite (shipUpdate_ships ..) (.refl _))), restoreImage, progOf_modProg_same,
    progOf_congr (storeImage_noted ..).pgm]
  exact ⟨rfl, rfl⟩

end Exchange

/-! ## PGM_RESTART, PGM_READ_INSTANCE and PGM_CLEAR_COUNTERS (R419, R424, R425) -/

section Command
variable (hprog : d.target.toNat ≤ 255) (hcreated : created s 0x04 1 d.target.toNat = true)
include hprog hcreated

/-- The program with the restart that PGM_RESTART asks for. -/
def restarting (d : Desc) (s : Device) : Device :=
  modProg d.target.toNat (fun g => { g with
    pend := some (if d.p0 = 0 then 1 else 0, 0), mode := if g.mode == .fault then .idle else g.mode }) (started d s)

theorem pgmRestart_of_mode (hfields : badField { pmask := 1 } [(1 < d.p0.toNat, 24)] d = none)
    (hmode : (progOf s d.target.toNat).mode ≠ .disabled ∧ (progOf s d.target.toNat).mode ≠ .noImage)
    (hnow : ((progOf s d.target.toNat).mode == .fault && pgmContinuous (pgmRec s d.target.toNat)) = false) :
    pgmRestart (pendOf d s) (started d s) =
      okWith (pgmCode (progOf s d.target.toNat).mode) (restarting d s) := by
  have hprogOf : progOf (started d s) d.target.toNat = progOf s d.target.toNat := rfl
  obtain ⟨hdisabled, himage⟩ := hmode
  unfold pgmRestart
  refine (checked_when_fields_when (program_found hprog hcreated) hfields ?_).trans ?_
  · rw [pendOf_desc, hprogOf]
    simp [hdisabled, himage]
  · rw [pendOf_desc, hprogOf]
    exact congrArg (okWith _) (if_neg (ne_true_of_eq_false hnow))

theorem readInstance_of_found {e : Inst}
    (hfind : (instances (progOf s d.target.toNat).image).find? (fun e => e.iid == d.p0.toNat) = some e)
    (hfields : badField { pmask := 1, bufMin := e.size, bufMax := 16777216 } [] d = none) :
    readInstance (pendOf d s) (started d s) =
      okBuf e.size (((instAtEnd s d.target.toNat).drop e.off).take e.size) (started d s) := by
  have hprogOf : progOf (started d s) d.target.toNat = progOf s d.target.toNat := rfl
  unfold readInstance
  dsimp only
  rw [pendOf_desc, hprogOf, hfind]
  refine (checked_when_fields ?_ hfields).trans rfl
  rw [program_found hprog hcreated]
  rfl

end Command

section Absent
variable (habsent : 255 < d.target.toNat)
include habsent

theorem pgmLoad_of_absent (bad : List Nat) :
    pgmLoad bad (pendOf d s) (started d s) = .done .notFound 0 [] (started d s) := by
  unfold pgmLoad
  exact checked_refused (program_absent habsent)

theorem pgmExchange_of_absent (bad : List Nat) :
    pgmExchange bad (pendOf d s) (started d s) = .done .notFound 0 [] (started d s) := by
  unfold pgmExchange
  exact checked_refused (program_absent habsent)

theorem pgmRestart_of_absent : pgmRestart (pendOf d s) (started d s) = .done .notFound 0 [] (started d s) := by
  unfold pgmRestart
  exact checked_refused (program_absent habsent)

theorem readInstance_of_absent : readInstance (pendOf d s) (started d s) = .done .notFound 0 [] (started d s) := by
  unfold readInstance
  refine checked_refused ?_
  rw [pendOf_desc, program_absent habsent, Bool.true_or]

end Absent

theorem pgmClear_of_fields (hfields : badField { target := false, pmask := 1 } [(64 ≤ d.p0.toNat, 24)] d = none) :
    pgmClear (pendOf d s) (started d s) = okWith 0 { started d s with pgm := { (started d s).pgm with
      overrun := clr d.p0.toNat 0 s.pgm.overrun, faults := clr d.p0.toNat 1 s.pgm.faults
      undelivered := clr d.p0.toNat 2 s.pgm.undelivered, coreErr := clr d.p0.toNat 3 s.pgm.coreErr
      rollback := clr d.p0.toNat 4 s.pgm.rollback, secCorr := clr d.p0.toNat 5 s.pgm.secCorr } } := by
  unfold pgmClear
  exact checked_fields hfields

end Sys2Proof.Proofs.ProgramCommands
end

section
/-!
The fallback logic (14_programs, 20_fallback).
-/
namespace Sys2Proof.Proofs.Fallback
open Sys2Proof Sys2Proof.Machine Sys2Proof.Laws
open Sys2Proof.Proofs.SecurityAccess Sys2Proof.Proofs.Commands Sys2Proof.Proofs.ProgramCommands

variable {d : Desc} {s : Device}

/-! ## The outputs that the map drives (R314, R428) -/

/-- `t` is `s` but for the pins, the entries ignored and what an event changes. -/
def Mapped (s t : Device) : Prop :=
  ∃ o h e p x l, t = { s with out := o, hif := h, evr := e, pmc := p, dio := x, fbl.ignored := l }

namespace Mapped
variable {t u : Device}

theorem refl (s : Device) : Mapped s s := ⟨_, _, _, _, _, _, rfl⟩

theorem trans (h : Mapped s t) (k : Mapped t u) : Mapped s u := by
  obtain ⟨_, _, _, _, _, _, rfl⟩ := h
  obtain ⟨_, _, _, _, _, _, rfl⟩ := k
  exact ⟨_, _, _, _, _, _, rfl⟩

theorem of_touches (h : Touches s t) : Mapped s t := by
  obtain ⟨_, _, _, _, rfl⟩ := h
  exact ⟨_, _, _, _, _, _, rfl⟩

theorem ite {c : Prop} [Decidable c] (h : Mapped s t) (k : Mapped s u) : Mapped s (if c then t else u) := by
  split <;> assumption

theorem cfg (h : Mapped s t) : t.cfg = s.cfg := by obtain ⟨_, _, _, _, _, _, rfl⟩ := h; rfl
theorem saf (h : Mapped s t) : t.saf = s.saf := by obtain ⟨_, _, _, _, _, _, rfl⟩ := h; rfl
theorem fbl (h : Mapped s t) : ∃ l, t.fbl = { s.fbl with ignored := l } := by
  obtain ⟨_, _, _, _, _, l, rfl⟩ := h
  exact ⟨l, rfl⟩

end Mapped

theorem fblDrive_mapped (s : Device) : Mapped s (fblDrive s) := by
  unfold fblDrive
  refine .ite (.refl s) (List.foldlRecOn (motive := fun u : Device => Mapped s u) _ _ (.refl s) fun u hu k _ => ?_)
  split
  · exact hu
  · refine .ite (hu.trans ⟨_, _, _, _, _, _, rfl⟩) (.ite hu (hu.trans ?_))
    exact .trans (t := { u with fbl.ignored := _ }) ⟨_, _, _, _, _, _, rfl⟩ (.of_touches (raise_touches ..))

/-! ## Scans (R424, R425) -/

theorem staleRaised_touches (l : List Nat) (s : Device) :
    Touches s (l.foldl (fun s k => raise Ev.fblCompareStale [(1, k)] s) s) :=
  List.foldlRecOn (motive := fun u : Device => Touches s u) _ _ (.refl s) fun _ hu _ _ => hu.trans (raise_touches ..)

/-- The latch of a scan raises what went stale, and keeps the comparisons and the levels (R424). -/
theorem fblLatch_eq (t : STime) (s : Device) : ∃ (u : Device) (cmp stale levels : Nat), Touches s u ∧
    (fblLatch t s).2 = { u with fbl.cmp := cmp, fbl.cmpStale := stale, fbl.levels := levels } := by
  unfold fblLatch
  extract_lets i stale cmp levels fresh
  have hraised := staleRaised_touches fresh s
  clear_value stale cmp levels fresh
  exact ⟨_, cmp, stale, levels, hraised, rfl⟩

/-- What the instructions of a scan leave, run on what the latch took (R424, R425). -/
def scanned (i : List Byte) (r : Latch × Device) : Device :=
  let c := (fblCode i).foldl (scanStep i r.1) { outs := r.2.fbl.outs, flags := r.2.fbl.flags, timers := r.2.fbl.timers }
  { r.2 with
    fbl.outs := c.outs, fbl.flags := c.flags, fbl.timers := c.timers, fbl.first := false
    fbl.scans := r.2.fbl.scans + 1, fbl.maxScan := max r.2.fbl.maxScan (c.done + 64) }

section Scan
variable {t : STime} (ht : nowD s / usT 50 * usT 50 = t)
include ht

theorem fblScan_of_scanned (h : t = s.fbl.scanAt) : fblScan s = s := by
  unfold fblScan
  rw [ht]
  exact if_pos (by rw [decide_eq_true h]; rfl)

theorem fblScan_of_due (hheld : s.clk.held = none) (hdue : t ≠ s.fbl.scanAt) (himage : s.fbl.image ≠ [])
    (hnext : s.fbl.next = none) :
    fblScan s = fblDrive (scanned s.fbl.image (fblLatch t { s with fbl.scanAt := t })) := by
  have hgoes : ¬(decide (t = s.fbl.scanAt) || s.clk.held.isSome) = true := by
    rw [decide_eq_false hdue, hheld]
    exact Bool.false_ne_true
  have hswap : fblSwap { s with fbl.scanAt := t } = { s with fbl.scanAt := t } := by
    unfold fblSwap
    dsimp only
    rw [hnext]
  have hempty : ¬s.fbl.image.isEmpty = true := by simpa using himage
  unfold fblScan
  rw [ht]
  refine (if_neg hgoes).trans ?_
  rw [hswap]
  exact if_neg hempty

end Scan

section Scanned
variable (t : STime) (s : Device)

theorem scanned_cfg : (scanned s.fbl.image (fblLatch t { s with fbl.scanAt := t })).cfg = s.cfg := by
  obtain ⟨u, cmp, stale, levels, hu, hlatch⟩ := fblLatch_eq t { s with fbl.scanAt := t }
  unfold scanned
  rw [hlatch]
  exact hu.cfg

theorem scanned_fbl : (scanned s.fbl.image (fblLatch t { s with fbl.scanAt := t })).fbl.scanAt = t ∧
    (scanned s.fbl.image (fblLatch t { s with fbl.scanAt := t })).fbl.scans = s.fbl.scans + 1 ∧
    (scanned s.fbl.image (fblLatch t { s with fbl.scanAt := t })).fbl.first = false ∧
    (scanned s.fbl.image (fblLatch t { s with fbl.scanAt := t })).fbl.image = s.fbl.image := by
  obtain ⟨u, cmp, stale, levels, hu, hlatch⟩ := fblLatch_eq t { s with fbl.scanAt := t }
  unfold scanned
  rw [hlatch]
  dsimp only
  rw [hu.fbl]
  exact ⟨rfl, rfl, rfl, rfl⟩

end Scanned

/-! ## Instructions (R425) -/

/-- The operation and the operand of an instruction word. -/
theorem word_fields {op v : Nat} (h : v < 1024) : (op * 1024 + v) / 1024 = op ∧ (op * 1024 + v) % 1024 = v := by
  omega

section Word
variable (i : List Byte) (l : Latch) (c : Scan) {v : Nat} (h : v < 1024)
include h

theorem scanExec_ld : scanExec i l (0x01 * 1024 + v) c =
    { c with done := c.done + 1, rlo := scanBit l { c with done := c.done + 1 } v } := by
  unfold scanExec
  dsimp only
  rw [(word_fields h).1, (word_fields h).2]
  rfl

theorem scanExec_and : (scanExec i l (0x03 * 1024 + v) c).rlo = (c.rlo && scanBit l c v) := by
  unfold scanExec
  dsimp only
  rw [(word_fields h).1, (word_fields h).2]
  rfl

theorem scanExec_st : scanExec i l (0x0B * 1024 + v) c = scanPut v c.rlo { c with done := c.done + 1 } := by
  unfold scanExec
  dsimp only
  rw [(word_fields h).1, (word_fields h).2]
  rfl

theorem scanExec_end : (scanExec i l (0x3F * 1024 + v) c).ended = true := by
  unfold scanExec
  dsimp only
  rw [(word_fields h).1, (word_fields h).2]
  rfl

theorem scanExec_jump : (scanExec i l (0x15 * 1024 + v) c).skip = v := by
  unfold scanExec
  dsimp only
  rw [(word_fields h).1, (word_fields h).2]
  rfl

end Word

/-! ## Control and the commands of FBL (R426 to R429) -/

theorem fblTake_of_cause {c : Nat} (hheld : s.clk.held = none) (hcause : fblCause s = some c)
    (hcontrol : s.fbl.control = false) : fblTake s = fblDrive (raise Ev.fblControl [(1, 1), (1, c)]
      { s with fbl.control := true, fbl.takeCause := c, fbl.takes := s.fbl.takes + 1 }) := by
  unfold fblTake
  rw [hcause]
  exact if_neg (by rw [hcontrol, hheld]; exact Bool.false_ne_true)

theorem fblTake_of_none (h : fblCause s = none ∨ s.fbl.control = true) : fblTake s = s := by
  unfold fblTake
  split
  · rfl
  · rename_i c hcause
    rcases h with h | h
    · exact nomatch hcause.symm.trans h
    · exact if_pos (by rw [h]; rfl)

section Load
variable {bad : List Nat} (hfields : badField { imageForm d with target := false } [] d = none)
include hfields

theorem fblLoad_of_control (h : s.fbl.control = true) :
    fblLoad bad (pendOf d s) (started d s) = .done .rejectedState 0 [] (started d s) := by
  unfold fblLoad
  exact checked_fields_refused hfields (by rw [started_fbl, h]; rfl)

theorem fblLoad_of_image (hbad : bad.filter storeSector = []) (hcontrol : s.fbl.control = false)
    (hcause : fblCause s = none) (hbuf : d.buf.acc = .ok) (halone : s.pai.synced = false) (hlen : d.bufLen ≠ 0)
    (hbytes : d.bufLen.toNat = d.buf.bytes.length) (hwhole : d.buf.bytes.length = fblLength d.buf.bytes)
    (hversion : fld 4 2 d.buf.bytes = 1) (hheader : fblHeaderOk d.buf.bytes d.buf.bytes.length = true)
    (hcrc : fld 28 4 d.buf.bytes = (crc32c (crcZeroed 28 d.buf.bytes)).toNat) (hsigned : appSigned s = false)
    (hfault : fblFault d.buf.bytes = none) :
    fblLoad bad (pendOf d s) (started d s) = okWith (fld 12 4 d.buf.bytes)
      (raise Ev.fblLoaded [lo32 (fld 12 4 d.buf.bytes)] { started d s with fbl.next := some d.buf.bytes }) := by
  have himage : imageOf 0x0501 d (started d s) = (some d.buf.bytes, started d s) := by
    unfold imageOf
    rw [if_pos (by simpa using hlen), hbytes, List.take_length]
  have htake : d.buf.bytes.take (fblLength d.buf.bytes) = d.buf.bytes := by rw [← hwhole, List.take_length]
  have hopen : checkSigned d.buf.bytes 0 1 3 5 (appSigned (started d s)) (started d s) = (true, started d s) := by
    have hpolicy : appSigned (started d s) = false := hsigned
    unfold checkSigned
    rw [hpolicy]
    rfl
  unfold fblLoad
  refine (checked_fields_when_buffer hfields ?_ hbuf).trans ?_
  · rw [started_fbl, hcontrol, show fblCause (started d s) = none from hcause]
    rfl
  · rw [pendOf_desc, himage]
    dsimp only
    rw [htake, if_neg (fun h => h.2 hversion), hheader, if_neg (by decide), if_neg (not_not.mpr hcrc), if_pos rfl, hopen]
    dsimp only
    rw [hfault]
    dsimp only
    rw [keepWrite_of_good _ _ hbad]
    exact syncOk_of_alone _ _ ((congrArg Pai.synced (raise_pai ..)).trans halone)

end Load

theorem fblRead_of_fields (hfields : badField { target := false, bufMin := 64, bufMax := 16777216 } [] d = none) :
    fblRead (pendOf d s) (started d s) = okBuf s.fbl.scans.toNat (le 32 s.fbl.flags ++ le 8 s.fbl.outs ++
      le 4 (mask32 (fun k => (tget s.fbl.timers k {}).q)) ++ le 4 s.fbl.cmp ++ le 12 s.fbl.levels ++ le 4 0)
      (started d s) := by
  unfold fblRead
  exact checked_fields hfields

/-- Settles O52. -/
theorem programsAndFallback : Obligations.ProgramsAndFallback := by
  unfold Obligations.ProgramsAndFallback
  refine ⟨fun d i s hstart hbad hprog hcreated hfields hmode hbuf halone hcheck => ?_,
    fun d i s hstart hbad hprog hcreated hfields hrun hmode hnone hbuf halone hcheck => ?_,
    fun n s hexch => ⟨?_, ?_⟩, fun n p i t s hexch hmode => ?_, fun n p i t s hexch hmode halone => ?_,
    fun n p i t s hexch hdue => ?_, fun d s hstart hprog hcreated hfields hmode => ?_,
    fun d s hstart hprog hcreated hfields hmode hcont => ?_, fun d e s hstart hprog hcreated hfind hfields => ?_,
    fun d s hstart habsent => ⟨?_, ?_, ?_, ?_⟩, fun d s hstart hfields => ?_, fun s hscanned => ?_,
    fun s hheld hdue himage hnext => ?_, fun i l c v hv => ⟨scanExec_ld i l c hv, scanExec_and i l c hv,
      scanExec_st i l c hv, scanExec_end i l c hv, scanExec_jump i l c hv⟩, fun c s hheld hcause hcontrol => ?_,
    fun s h => ?_,
    fun d s hstart hbad hfields hcontrol hcause hbuf halone hlen hbytes hwhole hversion hheader hcrc hsigned hfault => ?_,
    fun d s hstart hfields hcontrol => ?_, fun d s hstart hfields => ?_⟩
  · obtain ⟨g, u, hload, hu, hrings, hg⟩ := pgmLoad_of_image hbad hprog hcreated hfields hbuf halone hcheck hmode
    obtain ⟨himage, hinst, hpend, hran, hmode'⟩ := hg (progOf (stored i d s.dev) d.target.toNat)
    have hprogOf : progOf (completed d s.dev .ok (imgId i) [] u) d.target.toNat =
        g (progOf (stored i d s.dev) d.target.toNat) := by
      rw [completed, ProgramExecution.progOf_congr (finish_noted ..).pgm, ProgramExecution.progOf_congr hu.pgm,
        ProgramExecution.progOf_modProg_same]
    have hhalted := finish_ok_not_halted (p := pendOf d s.dev) (s := u) (imgId i) []
      ((congrArg Ring.halted (ringOf_congr hrings _)).trans (ring_not_halted_of_canStart hstart))
    refine ⟨completed d s.dev .ok (imgId i) [] u, ?_, ?_⟩
    · rw [exec_pgmLoad, execPgmLoad, runCmd_of_done hstart hload]
    · rw [hprogOf]
      exact ⟨himage, hinst, hpend, hran, hmode', hhalted⟩
  · obtain ⟨g, hexch, hg⟩ := pgmExchange_of_image hbad hprog hcreated hfields hbuf halone hcheck hrun hmode hnone
    obtain ⟨himage, hset⟩ := hg (progOf (stored i d s.dev) d.target.toNat)
    have hstored : progOf (stored i d s.dev) d.target.toNat = progOf s.dev d.target.toNat :=
      ProgramExecution.progOf_congr stored_noted.pgm _
    have hprogOf (f : Ring → Ring) : progOf (modRing d.ring f (modProg d.target.toNat g (stored i d s.dev)))
        d.target.toNat = g (progOf (stored i d s.dev) d.target.toNat) := ProgramExecution.progOf_modProg_same ..
    refine ⟨_, exec_pgmExchange d s, ?_⟩
    rw [runCmd_of_wait hstart hexch, hprogOf, ringOf_modRing_same, himage, hset, hstored]
    exact ⟨rfl, rfl, rfl⟩
  · rw [exec_programExchangeBoundary, execProgramExchangeBoundary, exchangeBoundary_of_none hexch]
  · rw [exec_pgmExchangeTimeout, execPgmExchangeTimeout, exchangeTimeout_of_none hexch]
  · rw [exec_programExchangeBoundary, execProgramExchangeBoundary, exchangeBoundary_of_running hexch hmode]
  · exact ⟨_, exec_programExchangeBoundary n s, exchangeBoundary_of_staged hexch hmode halone⟩
  · exact ⟨_, exec_pgmExchangeTimeout n s, exchangeTimeout_of_late hexch hdue⟩
  · rw [exec_pgmRestart, execPgmRestart, runCmd_of_done hstart (pgmRestart_of_mode hprog hcreated hfields
      (by rcases hmode with h | h <;> rw [h] <;> decide) (by rcases hmode with h | h <;> rw [h] <;> rfl)), restarting]
  · rw [exec_pgmRestart, execPgmRestart, runCmd_of_done hstart (pgmRestart_of_mode hprog hcreated hfields
      (by rw [hmode]; decide) (by rw [hcont, Bool.and_false])), restarting, hmode]
    rfl
  · rw [exec_pgmReadInstance, execPgmReadInstance,
      runCmd_of_done hstart (readInstance_of_found hprog hcreated hfind hfields)]
  · rw [exec_pgmLoad, execPgmLoad, runCmd_of_done hstart (pgmLoad_of_absent habsent _)]
  · rw [exec_pgmExchange, execPgmExchange, runCmd_of_done hstart (pgmExchange_of_absent habsent _)]
  · rw [exec_pgmRestart, execPgmRestart, runCmd_of_done hstart (pgmRestart_of_absent habsent)]
  · rw [exec_pgmReadInstance, execPgmReadInstance, runCmd_of_done hstart (readInstance_of_absent habsent)]
  · rw [exec_pgmClearCounters, execPgmClearCounters, runCmd_of_done hstart (pgmClear_of_fields hfields)]
  · rw [exec_fblScan, execFblScan, fblScan_of_scanned rfl hscanned]
  · refine ⟨_, exec_fblScan s, ?_⟩
    generalize ht : nowD s.dev / usT 50 * usT 50 = t at hdue ⊢
    have hcfg := scanned_cfg t s.dev
    obtain ⟨hat, hscans, hfirst, himage'⟩ := scanned_fbl t s.dev
    rw [fblScan_of_due ht hheld hdue himage hnext]
    generalize scanned s.dev.fbl.image (fblLatch t { s.dev with fbl.scanAt := t }) = u at hcfg hat hscans hfirst himage' ⊢
    obtain ⟨l, hl⟩ := (fblDrive_mapped u).fbl
    rw [hl, (fblDrive_mapped u).cfg]
    exact ⟨hat, hscans, hfirst, himage', hcfg⟩
  · refine ⟨_, exec_fblTakeControl s, ?_⟩
    have hdrive := fblDrive_mapped (raise Ev.fblControl [(1, 1), (1, c)]
      { s.dev with fbl.control := true, fbl.takeCause := c, fbl.takes := s.dev.fbl.takes + 1 })
    obtain ⟨l, hl⟩ := hdrive.fbl
    rw [fblTake_of_cause hheld hcause hcontrol, hl, hdrive.saf, raise_fbl, Notes.Noted.saf (Notes.raise_noted ..)]
    exact ⟨rfl, rfl, rfl, rfl⟩
  · rw [exec_fblTakeControl, execFblTakeControl, fblTake_of_none h]
  · rw [exec_fblLoad, execFblLoad, runCmd_of_done hstart (fblLoad_of_image hfields hbad hcontrol hcause hbuf halone hlen
      hbytes hwhole hversion hheader hcrc hsigned hfault)]
  · rw [exec_fblLoad, execFblLoad, runCmd_of_done hstart (fblLoad_of_control hfields hcontrol)]
  · rw [exec_fblRead, execFblRead, runCmd_of_done hstart (fblRead_of_fields hfields)]

end Sys2Proof.Proofs.Fallback
end

section
/-!
Commands of SAF (07_safety). The states in which a command is refused follow log 65.
-/
namespace Sys2Proof.Proofs.BelfryCommands
open Sys2Proof Sys2Proof.Machine Sys2Proof.Laws
open Sys2Proof.Proofs.SecurityAccess Sys2Proof.Proofs.Commands Sys2Proof.Proofs.Notes

variable {d : Desc} {s : Device}

/-! ## The pending configuration (R579 to R581) -/

theorem confirmTimeout_of_none (h : s.saf.pend = none) : confirmTimeout s = s := by
  unfold confirmTimeout
  rw [h]

section Pending
variable {c : List Byte} {t : Nat} (hpend : s.saf.pend = some (c, t))
include hpend

theorem confirmTimeout_of_late (hlate : t + 60000000000 < s.tim.ck) :
    confirmTimeout s = raise Ev.safConfig [(4, fld 12 4 c), (1, 2)]
      { s with saf.pend := none, saf.pcrcA := 0, saf.pcrcB := 0 } := by
  have hdrop : discardPending s = raise Ev.safConfig [(4, fld 12 4 c), (1, 2)]
      { s with saf.pend := none, saf.pcrcA := 0, saf.pcrcB := 0 } := by
    unfold discardPending
    rw [hpend]
  unfold confirmTimeout
  rw [hpend]
  exact (if_pos hlate).trans hdrop

theorem confirmTimeout_of_early (hearly : s.tim.ck ≤ t + 60000000000) : confirmTimeout s = s := by
  unfold confirmTimeout
  rw [hpend]
  exact if_neg hearly.not_gt

end Pending

theorem pendingCrcs_saf {c : List Byte} {t : Nat} (h : s.saf.pend = some (c, t)) : pendingCrcs s =
    { s with saf.pcrcA := (crc32c ((c.drop 64).take 1312)).toNat, saf.pcrcB := (crc32e ((c.drop 64).take 1312)).toNat } := by
  unfold pendingCrcs
  rw [h]

theorem checkSigned_of_none {img : List Byte} {off role svn kind : Nat} {required : Bool} (hoff : off ≠ 0)
    (h : sigFault s img off role svn = none) : checkSigned img off role svn kind required s = (true, s) := by
  unfold checkSigned
  dsimp only
  rw [if_neg hoff, h]

theorem checkSigned_of_some {img : List Byte} {off role svn kind : Nat} {required : Bool} (hoff : off ≠ 0)
    (h : sigFault s img off role svn ≠ none) :
    ∃ why, checkSigned img off role svn kind required s =
      (false, raise Ev.secImageReject [(1, (Config.imageKindCode kind).toNat), (1, why)] s) := by
  obtain ⟨why, hwhy⟩ := Option.ne_none_iff_exists'.mp h
  refine ⟨why, ?_⟩
  unfold checkSigned
  dsimp only
  rw [if_neg hoff, hwhy]

section Load
variable {bad : List Nat}
  (hfields : badField { target := false, bufMax := 16777216 } [] d = none)
include hfields

theorem safLoad_of_closed (haccess : needMaint (started d s) = true) :
    safLoad bad (pendOf d s) (started d s) = .done .authRequired 0 [] (started d s) := by
  unfold safLoad
  exact checked_fields_refused hfields haccess

variable (haccess : needMaint (started d s) = false) (hoff : s.saf.energised = 0)
  (hmode : s.saf.mode ≠ .init ∧ s.saf.mode ≠ .safeFault) (hbuf : d.buf.acc = .ok)
  (hlen : d.bufLen.toNat = d.buf.bytes.length)
include haccess hoff hmode hbuf hlen

omit hlen in
/-- The checks of SAF_LOAD_CONFIG in their order: access, outputs and mode, the buffer. -/
theorem safLoad_checks : firstFail (pendOf d s).desc [.bad { target := false, bufMax := 16777216 } [],
      .when (needMaint (started d s)) .authRequired 0,
      .when ((started d s).saf.energised != 0 || (started d s).saf.mode == .init ||
        (started d s).saf.mode == .safeFault) .rejectedState 0, .buffer] = none := by
  have hstate : (s.saf.energised != 0 || s.saf.mode == .init || s.saf.mode == .safeFault) = false := by
    obtain ⟨hinit, hfault⟩ := hmode
    simp [hoff, hinit, hfault]
  rw [pendOf_desc, started_saf, firstFail_bad hfields, firstFail_when_false haccess, firstFail_when_false hstate, firstFail_buffer hbuf, firstFail_nil]

theorem safLoad_of_unsigned (hsig : sigFault (started d s) d.buf.bytes 1376 2 4 ≠ none) :
    ∃ why, safLoad bad (pendOf d s) (started d s) = .done .dataError 0 []
      (raise Ev.secImageReject [(1, (Config.imageKindCode 6).toNat), (1, why)] (started d s)) := by
  obtain ⟨why, hwhy⟩ := checkSigned_of_some (s := started d s) (kind := 6) (required := true) (by decide) hsig
  refine ⟨why, ?_⟩
  unfold safLoad
  refine (checked_none _ _ _ _ (safLoad_checks hfields haccess hoff hmode hbuf)).trans ?_
  dsimp only
  rewrite [pendOf_desc, hlen, List.take_length, hwhy]
  rfl

variable (hmagic : fld 0 4 d.buf.bytes = 0x46535A4B) (hversion : fld 4 2 d.buf.bytes = 1)
  (hheader : headerFault d.buf.bytes = false) (hsig : sigFault (started d s) d.buf.bytes 1376 2 4 = none)
include hmagic hversion hheader hsig

theorem safLoad_of_crc (hcrc : fld 16 4 d.buf.bytes ≠ (crc32c ((d.buf.bytes.drop 64).take 1312)).toNat) :
    safLoad bad (pendOf d s) (started d s) = .done .dataError 0 [] (started d s) := by
  have hsigned := checkSigned_of_none (s := started d s) (kind := 6) (required := true) (by decide) hsig
  unfold safLoad
  refine (checked_none _ _ _ _ (safLoad_checks hfields haccess hoff hmode hbuf)).trans ?_
  dsimp only
  rewrite [pendOf_desc, hlen, List.take_length, hsigned]
  dsimp only
  rw [if_neg (not_not_intro hmagic), if_neg (not_not_intro hversion), hheader, if_neg Bool.false_ne_true,
    if_pos (Or.inl hcrc)]
  rfl

theorem safLoad_of_image (hbad : bad.filter storeSector = []) (hconfig : configFault d.buf.bytes = none)
    (hcrc : fld 16 4 d.buf.bytes = (crc32c ((d.buf.bytes.drop 64).take 1312)).toNat)
    (hcrc' : fld 20 4 d.buf.bytes = (crc32e ((d.buf.bytes.drop 64).take 1312)).toNat) :
    safLoad bad (pendOf d s) (started d s) = .done .ok (fld 12 4 d.buf.bytes) []
      (raise Ev.safConfig [(4, fld 12 4 d.buf.bytes), (1, 0)] { started d s with
        saf.pend := some (d.buf.bytes, s.tim.ck), saf.pcrcA := fld 16 4 d.buf.bytes, saf.pcrcB := fld 20 4 d.buf.bytes }) := by
  have hsigned := checkSigned_of_none (s := started d s) (kind := 6) (required := true) (by decide) hsig
  unfold safLoad
  refine (checked_none _ _ _ _ (safLoad_checks hfields haccess hoff hmode hbuf)).trans ?_
  dsimp only
  rewrite [pendOf_desc, hlen, List.take_length, hsigned]
  dsimp only
  rw [if_neg (not_not_intro hmagic), if_neg (not_not_intro hversion), hheader, if_neg Bool.false_ne_true,
    if_neg (not_or.mpr ⟨not_not_intro hcrc, not_not_intro hcrc'⟩), hconfig, keepWrite_of_good _ _ hbad,
    pendingCrcs_saf rfl, hcrc, hcrc']
  rfl

end Load

section Confirm
variable {bad : List Nat} (hfields : badField { target := false, pmask := 7 } [] d = none)
  (haccess : needMaint (started d s) = false)
include hfields haccess

theorem safConfirm_of_none (hpend : s.saf.pend = none) :
    safConfirm bad (pendOf d s) (started d s) = .done .notFound 0 [] (started d s) := by
  unfold safConfirm
  refine (checked_fields_when hfields haccess).trans ?_
  rw [started_saf, hpend]
  rfl

/-- Belfry with the confirmed configuration `c` in force. -/
def confirmed (c : List Byte) (s : Device) : Device :=
  raise Ev.safConfig [(4, fld 12 4 c), (1, 1)] (startConsumers { s with
    saf.cfg := c, saf.pend := none, saf.pcrcA := 0, saf.pcrcB := 0, saf.req := 0, saf.disc := 0,
    saf.discSeen := 0, saf.discAt := [] })

omit hfields haccess in
theorem confirmed_saf (c : List Byte) (s : Device) : (confirmed c s).saf = (startConsumers { s with
    saf.cfg := c, saf.pend := none, saf.pcrcA := 0, saf.pcrcB := 0, saf.req := 0, saf.disc := 0,
    saf.discSeen := 0, saf.discAt := [] }).saf := (raise_noted ..).saf

theorem safConfirm_of_pending {c : List Byte} {t : Nat} (hbad : bad.filter storeSector = [])
    (hpend : s.saf.pend = some (c, t)) (htime : s.tim.ck ≤ t + 60000000000) (hoff : s.saf.energised = 0)
    (hgiven : confirmOffence d s c = none) :
    safConfirm bad (pendOf d s) (started d s) = .done .ok (fld 12 4 s.saf.cfg) []
      (if (confirmed c (started d s)).saf.mode = .unconfigured then safState .run 0 (confirmed c (started d s))
        else confirmed c (started d s)) := by
  have hgiven' : confirmOffence d (started d s) c = none := hgiven
  have htime' : (started d s).tim.ck ≤ t + 60000000000 := htime
  unfold safConfirm
  refine (checked_fields_when hfields haccess).trans ?_
  rw [started_saf, hpend, pendOf_desc]
  dsimp only
  rw [if_neg htime'.not_gt, hgiven', keepWrite_of_good _ _ hbad]
  exact if_neg (not_not_intro hoff)

end Confirm

theorem safState_run_saf (cause : Nat) (s : Device) : (safState .run cause s).saf = { s.saf with mode := .run } := by
  unfold safState
  split
  · next h => rw [← h]
  · rw [if_neg SafMode.noConfusion]
    exact (raise_noted ..).saf

/-! ## Requests and fault resets (R559, R562, R572) -/

section Request
variable (hfields : badField { target := false, pmask := 3 } [(256 ≤ d.p0.toNat, 24), (256 ≤ d.p1.toNat, 28)] d = none)
include hfields

theorem setRequest_of_permitted (hlive : safLive s = true) (hact : s.pai.standby = false)
    (hpermit : (List.range 8).all (fun n => !(bit n d.p0.toNat && bit n d.p1.toNat) || requestOk s n) = true) :
    setRequest (pendOf d s) (started d s) = .done .ok s.saf.req [] { started d s with
      saf.req := (List.range 8).foldl
        (fun r n => if bit n d.p0.toNat then putBit n (bit n d.p1.toNat) r else r) s.saf.req } := by
  have hnone : (List.range 8).any (fun n => bit n d.p0.toNat && bit n d.p1.toNat && !requestOk (started d s) n) = false := by
    rw [List.any_eq_false]
    intro n hn
    have hok := List.all_eq_true.mp hpermit n hn
    have hsame : requestOk (started d s) n = requestOk s n := rfl
    rw [hsame]
    revert hok
    cases bit n d.p0.toNat && bit n d.p1.toNat <;> cases requestOk s n <;> simp
  have hlive' : safLive (started d s) = true := hlive
  unfold setRequest
  refine (checked_fields_when hfields ?_).trans rfl
  rw [pendOf_desc, hlive', started_pai, hact, hnone]
  rfl

theorem setRequest_of_idle (h : safLive s = false ∨ s.pai.standby = true) :
    setRequest (pendOf d s) (started d s) = .done .rejectedState 0 [] (started d s) := by
  have hstate : (!safLive (started d s) || s.pai.standby) = true := by
    obtain h | h := h
    · have hlive : safLive (started d s) = false := h
      rw [hlive, Bool.not_false, Bool.true_or]
    · rw [h, Bool.or_true]
  unfold setRequest
  refine checked_fields_refused hfields ?_
  rw [started_pai, hstate, Bool.true_or]

end Request

section Reset
variable (hfields : badField { pmask := 1 } [(1 < d.p0.toNat, 24)] d = none)
include hfields

/-- The outputs after a fault reset: the gate of output `n` is staged anew in both channels. -/
def outputReset (n : Nat) (s : Device) : Device :=
  let s := { s with saf.outFault := putBit n false s.saf.outFault }
  let stage := fun (b : Bool) => modChanSaf b fun k =>
    { k with stage := { k.stage with gates := putBit n (outputAllowed s b n) k.stage.gates } }
  stage true (stage false s)

theorem faultReset_of_output (hkind : d.p0 = 0) (hout : d.target.toNat ≤ 7)
    (hfault : bit d.target.toNat s.saf.outFault = true) (ha : bit d.target.toNat s.saf.a.fb = false)
    (hb : bit d.target.toNat s.saf.b.fb = false) :
    faultReset (pendOf d s) (started d s) = .done .ok 0 [] (outputReset d.target.toNat (started d s)) := by
  have hcons : (d.p0 == 1) = false := by
    rw [hkind]
    rfl
  unfold faultReset
  refine (checked_when_fields_when ?_ hfields ?_).trans ?_
  · rw [pendOf_desc, hcons, decide_eq_false hout.not_gt]
    exact Bool.and_false _
  · rw [pendOf_desc, hcons, started_saf, hfault, ha, hb]
    rfl
  · rw [pendOf_desc, hcons, if_neg Bool.false_ne_true]
    rfl

theorem faultReset_of_consumer (hkind : d.p0 = 1) (hcons : d.target.toNat ≤ 15)
    (hmode : (consOf s d.target.toNat).mode = .fault) (ha : lanSilent s d.target.toNat false = false)
    (hb : lanSilent s d.target.toNat true = false) :
    faultReset (pendOf d s) (started d s) = .done .ok 0 []
      (modCons d.target.toNat (fun q => { q with mode := .dual }) (started d s)) := by
  have hconsumer : (d.p0 == 1) = true := by
    rw [hkind]
    rfl
  have hmode' : (consOf (started d s) d.target.toNat).mode = .fault := hmode
  have ha' : lanSilent (started d s) d.target.toNat false = false := ha
  have hb' : lanSilent (started d s) d.target.toNat true = false := hb
  unfold faultReset
  refine (checked_when_fields_when ?_ hfields ?_).trans ?_
  · rw [pendOf_desc, hconsumer, decide_eq_false hcons.not_gt]
    exact Bool.and_false _
  · rw [pendOf_desc, hconsumer, hmode', ha', hb']
    rfl
  · rw [pendOf_desc, hconsumer, if_pos rfl]
    rfl

end Reset

theorem safClear_of_fields (hfields : badField { target := false, pmask := 1 } [(64 ≤ d.p0.toNat, 24)] d = none) :
    safClear (pendOf d s) (started d s) = .done .ok 0 [] { started d s with saf := { (started d s).saf with
      demands := clr d.p0.toNat 0 s.saf.demands, discCnt := clr d.p0.toNat 1 s.saf.discCnt
      outFlt := clr d.p0.toNat 2 s.saf.outFlt, sfBad := clr d.p0.toNat 3 s.saf.sfBad
      sfMismatch := clr d.p0.toNat 4 s.saf.sfMismatch, sfTimeout := clr d.p0.toNat 5 s.saf.sfTimeout } } := by
  unfold safClear
  exact checked_fields hfields

theorem completed_saf (d : Desc) (s : Device) (st : Status) (detail : Nat) (buf : List Byte) (t : Device) :
    (completed d s st detail buf t).saf = t.saf := (ProgramCommands.finish_noted ..).saf

/-- Settles O55. SAF_SET_REQUEST is refused outside RUN and degraded, and in a standby, whatever bits it clears (log 65,
R583). -/
theorem belfryCommands : Obligations.BelfryCommands := by
  unfold Obligations.BelfryCommands
  refine ⟨fun s hpend => ?_, fun c t s hpend => ⟨fun hlate => ?_, fun hearly => ?_⟩,
    fun d s hstart hbad hfields haccess hoff hmode hbuf hlen hmagic hversion hheader hconfig => ?_,
    fun d s hstart hfields haccess => ?_,
    fun d c t s hstart hbad hfields haccess hpend htime hoff hgiven => ?_,
    fun d s hstart hfields haccess hpend => ?_,
    fun d s hstart hfields hlive hact hpermit => ?_, fun d s hstart hfields hidle => ?_,
    fun d s hstart hkind hout hfields hfault ha hb => ?_, fun d s hstart hkind hcons hfields hmode ha hb => ?_,
    fun d s hstart hfields => ?_⟩
  · rw [exec_confirmTimeout, execConfirmTimeout, confirmTimeout_of_none hpend]
  · rw [exec_confirmTimeout, execConfirmTimeout, confirmTimeout_of_late hpend hlate]
  · rw [exec_confirmTimeout, execConfirmTimeout, confirmTimeout_of_early hpend hearly]
  · rw [exec_safLoadConfig, execSafLoadConfig]
    refine ⟨_, rfl, fun hcrc hcrc' hsig => ?_, fun h => ?_⟩
    · rw [runCmd_of_done hstart
        (safLoad_of_image hfields haccess hoff hmode hbuf hlen hmagic hversion hheader hsig hbad hconfig hcrc hcrc'),
        completed_saf, (raise_noted ..).saf]
      exact ⟨rfl, rfl, rfl, rfl⟩
    · by_cases hsig : sigFault (started d s.dev) d.buf.bytes 1376 2 4 = none
      · have hcrc := h.resolve_right (not_not_intro hsig)
        rw [runCmd_of_done hstart
          (safLoad_of_crc hfields haccess hoff hmode hbuf hlen hmagic hversion hheader hsig hcrc), completed_saf, started_saf]
      · obtain ⟨why, hwhy⟩ := safLoad_of_unsigned (bad := d.bad) hfields haccess hoff hmode hbuf hlen hsig
        rw [runCmd_of_done hstart hwhy, completed_saf, (raise_noted ..).saf, started_saf]
  · rw [exec_safLoadConfig, execSafLoadConfig, runCmd_of_done hstart (safLoad_of_closed hfields haccess)]
  · rw [exec_safConfirm, execSafConfirm,
      runCmd_of_done hstart (safConfirm_of_pending hfields haccess hbad hpend htime hoff hgiven)]
    refine ⟨_, rfl, ?_⟩
    have hmode : (confirmed c (started d s.dev)).saf.mode = s.dev.saf.mode := by
      rw [confirmed_saf]
      rfl
    rw [completed_saf, hmode, apply_ite Device.saf, safState_run_saf, confirmed_saf]
    split <;> exact ⟨rfl, rfl, rfl, rfl, rfl⟩
  · rw [exec_safConfirm, execSafConfirm, runCmd_of_done hstart (safConfirm_of_none hfields haccess hpend)]
  · rw [exec_safSetRequest, execSafSetRequest, runCmd_of_done hstart (setRequest_of_permitted hfields hlive hact hpermit)]
  · rw [exec_safSetRequest, execSafSetRequest, runCmd_of_done hstart (setRequest_of_idle hfields hidle)]
  · rw [exec_safFaultReset, execSafFaultReset,
      runCmd_of_done hstart (faultReset_of_output hfields hkind hout hfault ha hb)]
    exact ⟨_, rfl, rfl, rfl, rfl, rfl, rfl⟩
  · rw [exec_safFaultReset, execSafFaultReset,
      runCmd_of_done hstart (faultReset_of_consumer hfields hkind hcons hmode ha hb)]
  · rw [exec_safClearCounters, execSafClearCounters, runCmd_of_done hstart (safClear_of_fields hfields)]

end Sys2Proof.Proofs.BelfryCommands
end

section
/-!
What Belfry does by itself: inputs, cycles, outputs and faults (14_belfry_safety).
-/
namespace Sys2Proof.Proofs.BelfryActs
open Sys2Proof Sys2Proof.Machine Sys2Proof.Laws
open Sys2Proof.Proofs.Belfry Sys2Proof.Proofs.Notes Sys2Proof.Proofs.HostRings

variable {s : Device} {b : Bool}

/-! ## Channels -/

@[simp] theorem safChan_modChanSaf (f : SafChan → SafChan) : safChan (modChanSaf b f s) b = f (safChan s b) := by
  cases b <;> rfl

@[simp] theorem modChanSaf_mode (f : SafChan → SafChan) : (modChanSaf b f s).saf.mode = s.saf.mode := by
  cases b <;> rfl

@[simp] theorem modChanSaf_clearReq (f : SafChan → SafChan) : (modChanSaf b f s).saf.clearReq = s.saf.clearReq := by
  cases b <;> rfl

theorem idle_of_live (h : safLive s = true) : (s.saf.mode == .init || s.saf.mode == .safeFault) = false := by
  revert h
  unfold safLive
  cases s.saf.mode <;> decide

/-! ## Inputs (R548, R549) -/

theorem inputSample_of_recent {contacts fb t : Nat} (h : (safChan s b).sampledAt = some t) (hrecent : s.tim.ck < t + 49000) :
    inputSample b contacts fb s = s := by
  unfold inputSample
  exact if_pos (by rw [h, Option.any_some, decide_eq_true hrecent])

theorem inputSample_of_first {contacts fb : Nat} (h : (safChan s b).sampledAt = none) :
    inputSample b contacts fb s = discrepancies (modChanSaf b (fun k =>
      { (List.range 16).foldl (sampleContact s.tim.ck s.saf.cfg contacts) k with
        sampledAt := some s.tim.ck, fb := if b then 0xFF - fb % 256 else fb % 256 }) s) := by
  unfold inputSample
  exact if_neg (by rw [h, Option.any_none]; exact Bool.false_ne_true)

section Contact
variable {ck n levels t : Nat} {cfg : List Byte} {k : SafChan} (hnew : bit n levels ≠ bit n k.acc)
include hnew

theorem sampleContact_of_first (h : tfind k.since n = none) :
    sampleContact ck cfg levels k n = { k with since := tset k.since n ck } := by
  unfold sampleContact
  dsimp only
  rw [if_neg hnew, h]

variable (h : tfind k.since n = some t)
include h

theorem sampleContact_of_stable (hheld : t + fld 2 2 (scIn cfg n) * 1000 ≤ ck) :
    bit n (sampleContact ck cfg levels k n).acc = bit n levels := by
  unfold sampleContact
  dsimp only
  rw [if_neg hnew, h]
  dsimp only
  rw [if_pos hheld]
  exact bit_putBit_same ..

theorem sampleContact_of_short (hshort : ck < t + fld 2 2 (scIn cfg n) * 1000) : sampleContact ck cfg levels k n = k := by
  unfold sampleContact
  dsimp only
  rw [if_neg hnew, h]
  exact if_neg hshort.not_ge

end Contact

theorem discTimeout_of_none {n : Nat} (h : tfind s.saf.discAt n = none) : discTimeout n s = s := by
  unfold discTimeout
  rw [h]

theorem discTimeout_of_long {n t : Nat} (h : tfind s.saf.discAt n = some t) (hnew : bit n s.saf.disc = false)
    (hlong : t + fld 4 2 (scIn s.saf.cfg n) * 1000000 < s.tim.ck) :
    discTimeout n s = raise Ev.safDiscrepancy [(1, n), (1, flag 0 (bit n s.saf.a.acc) + flag 1 (bit n s.saf.b.acc))]
      { s with saf.disc := putBit n true s.saf.disc, saf.discSeen := putBit n false s.saf.discSeen,
               saf.discCnt := s.saf.discCnt + 1 } := by
  unfold discTimeout
  rw [h]
  dsimp only
  rw [hnew, decide_eq_false hlong.not_ge]
  exact if_neg Bool.false_ne_true

/-! ## The safety cycle (R543, R552, R557) -/

theorem safetyCycle_of_idle (h : s.saf.mode = .init ∨ s.saf.mode = .safeFault) : safetyCycle b s = s := by
  have hidle : (s.saf.mode == .init || s.saf.mode == .safeFault) = true := by
    obtain h | h := h <;> rw [h] <;> rfl
  unfold safetyCycle
  dsimp only
  rw [hidle, Bool.true_or, Bool.true_or, if_pos rfl]

section Cycle
variable (hlive : safLive s = true) (hpart : chanOut s b = false)
include hlive hpart

theorem safetyCycle_of_first (h : (safChan s b).cycleAt = none) :
    safetyCycle b s = if b = chanOut (beginCycle b s) false then safShow (beginCycle b s) else beginCycle b s := by
  unfold safetyCycle
  dsimp only
  rw [idle_of_live hlive, hpart, h, Option.any_none, Bool.or_false, Bool.or_false, if_neg Bool.false_ne_true, Option.isSome_none,
    if_neg Bool.false_ne_true]

theorem safetyCycle_of_elapsed {t : Nat} (h : (safChan s b).cycleAt = some t) (helapsed : t + 980000 ≤ s.tim.ck) :
    safetyCycle b s = if b = chanOut (beginCycle b (endCycle b s)) false then safShow (beginCycle b (endCycle b s))
      else beginCycle b (endCycle b s) := by
  unfold safetyCycle
  dsimp only
  rw [idle_of_live hlive, hpart, h, Option.any_some, decide_eq_false helapsed.not_gt, Bool.or_false, Bool.or_false,
    if_neg Bool.false_ne_true,    Option.isSome_some, if_pos rfl]

end Cycle

/-! ### Driving the gates -/

/-- Belfry in `t` is that in `s` but for gates, the times of their changes and pulses, and the energised outputs. -/
def Driven (s t : Device) : Prop :=
  ∃ ga ca gb cb p e, t.saf = { s.saf with
    a := { s.saf.a with gates := ga, changed := ca }, b := { s.saf.b with gates := gb, changed := cb }
    pulseAt := p, energised := e }

namespace Driven
variable {t u : Device}

theorem of_saf (h : t.saf = s.saf) : Driven s t := ⟨_, _, _, _, _, _, h⟩

theorem trans (h : Driven s t) (k : Driven t u) : Driven s u := by
  obtain ⟨_, _, _, _, _, _, h⟩ := h
  obtain ⟨_, _, _, _, _, _, k⟩ := k
  rw [h] at k
  exact ⟨_, _, _, _, _, _, k⟩

theorem foldl {α : Type} {g : Device → α → Device} (h : ∀ t x, Driven t (g t x)) (l : List α) (s : Device) :
    Driven s (l.foldl g s) :=
  List.foldlRecOn l g (of_saf rfl) fun t ht x _ => ht.trans (h t x)

section Fields
variable (h : Driven s t)
include h

theorem outFault : t.saf.outFault = s.saf.outFault := by obtain ⟨_, _, _, _, _, _, h⟩ := h; rw [h]
theorem outFlt : t.saf.outFlt = s.saf.outFlt := by obtain ⟨_, _, _, _, _, _, h⟩ := h; rw [h]
theorem req : t.saf.req = s.saf.req := by obtain ⟨_, _, _, _, _, _, h⟩ := h; rw [h]
theorem clearReq : t.saf.clearReq = s.saf.clearReq := by obtain ⟨_, _, _, _, _, _, h⟩ := h; rw [h]
theorem mode : t.saf.mode = s.saf.mode := by obtain ⟨_, _, _, _, _, _, h⟩ := h; rw [h]
theorem cause : t.saf.cause = s.saf.cause := by obtain ⟨_, _, _, _, _, _, h⟩ := h; rw [h]
theorem attr : t.saf.attr = s.saf.attr := by obtain ⟨_, _, _, _, _, _, h⟩ := h; rw [h]

end Fields
end Driven

theorem announceOutputs_driven (s : Device) : Driven s (announceOutputs s) := by
  refine .trans ⟨_, _, _, _, _, _, rfl⟩ (.foldl (fun t n => ?_) _ _)
  split
  · exact .of_saf rfl
  · exact .of_saf (raise_saf ..)

theorem driveGates_driven (b : Bool) (g : Nat) (s : Device) : Driven s (driveGates b g s) := by
  unfold driveGates
  refine .trans (.trans ?_ (.foldl (fun t n => ?_) _ _)) (announceOutputs_driven _)
  · cases b <;> exact ⟨_, _, _, _, _, _, rfl⟩
  · split <;> exact ⟨_, _, _, _, _, _, rfl⟩

theorem safChan_gates_congr {t u : Device} (h : KeepsGates t u) (b : Bool) : (safChan u b).gates = (safChan t b).gates := by
  cases b
  · exact h.a
  · exact h.b

theorem driveGates_same (b : Bool) (g : Nat) (s : Device) : (safChan (driveGates b g s) b).gates = g := by
  refine (safChan_gates_congr (driveGates_gates b g s) b).trans ?_
  cases b <;> rfl

theorem driveGates_other (b : Bool) (g : Nat) (s : Device) :
    (safChan (driveGates (!b) g s) b).gates = (safChan s b).gates := by
  refine (safChan_gates_congr (driveGates_gates (!b) g s) b).trans ?_
  cases b <;> rfl

/-- The requests at the end of a cycle: those that the channel allows (R558). -/
def endRequests (b : Bool) (s : Device) : Nat :=
  let req := if s.saf.clearReq then 0 else s.saf.req
  if s.pai.standby then req else req &&& (safChan s b).stage.gates

/-- The gates that a channel drives at the end of its cycle (R557, R583). -/
def endGates (b : Bool) (s : Device) : Nat :=
  if !safLive s then 0 else if s.pai.standby then (safChan s b).stage.gates else endRequests b s

/-- The block when the channel has driven its gates. -/
def cycleDriven (b : Bool) (s : Device) : Device :=
  driveGates b (endGates b s) { s with saf.req := endRequests b s, saf.clearReq := false }

/-- The same with the gates of a channel that is out. -/
def bothDriven (b : Bool) (s : Device) : Device :=
  if chanOut (cycleDriven b s) (!b) then driveGates (!b) (endGates b s) (cycleDriven b s) else cycleDriven b s

theorem endCycle_eq (b : Bool) (s : Device) : endCycle b s =
    modChanSaf b (fun k => { k with exch := { k.stage with gates := endGates b s } }) (bothDriven b s) := rfl

theorem endCycle_gates (b : Bool) (s : Device) : (safChan (endCycle b s) b).gates = endGates b s := by
  rw [endCycle_eq, safChan_modChanSaf]
  change (safChan (bothDriven b s) b).gates = endGates b s
  unfold bothDriven
  split
  · exact (driveGates_other ..).trans (driveGates_same ..)
  · exact driveGates_same ..

theorem endCycle_clearReq (b : Bool) (s : Device) : (endCycle b s).saf.clearReq = false := by
  rw [endCycle_eq, modChanSaf_clearReq]
  unfold bothDriven
  split
  · exact (driveGates_driven ..).clearReq.trans (driveGates_driven ..).clearReq
  · exact (driveGates_driven ..).clearReq

/-! ## Functions (R552, R556) -/

section Function
variable {reset : Bool} {okAt : Tab Nat} {f : Nat} (htype : fnType (safChan s b).cfg f ≠ 3)
include htype

theorem fnNext_of_demand (h : fnDemand s b f = true) : (fnNext s b reset okAt f).1.mode = .demand := by
  unfold fnNext
  dsimp only
  rw [if_neg htype, h, if_pos rfl]

variable (h : fnDemand s b f = false)
include h

theorem fnNext_of_served (hmode : (fnOf (safChan s b) f).mode = .demand) :
    (fnNext s b reset okAt f).1.mode = if fnManual (safChan s b).cfg f then .resetWait else .permit := by
  unfold fnNext
  dsimp only
  rw [if_neg htype, h, if_neg Bool.false_ne_true, hmode]

theorem fnNext_of_resetWait (hmode : (fnOf (safChan s b) f).mode = .resetWait) :
    (fnNext s b reset okAt f).1.mode = if reset then .permit else .resetWait := by
  unfold fnNext
  dsimp only
  rw [if_neg htype, h, if_neg Bool.false_ne_true, hmode]

theorem fnNext_of_permit (hmode : (fnOf (safChan s b) f).mode = .permit) : (fnNext s b reset okAt f).1.mode = .permit := by
  unfold fnNext
  dsimp only
  rw [if_neg htype, h, if_neg Bool.false_ne_true, hmode]
  exact hmode

end Function

/-! ## Outputs (R560 to R562) -/

theorem latchOutputFault_fields (n : Nat) (low : Bool) (cause : Nat) (s : Device) :
    bit n (latchOutputFault n low cause s).saf.outFault = true ∧ bit n (latchOutputFault n low cause s).saf.a.gates = false ∧
      bit n (latchOutputFault n low cause s).saf.b.gates = false ∧ bit n (latchOutputFault n low cause s).saf.req = false ∧
      (latchOutputFault n low cause s).saf.outFlt = s.saf.outFlt + 1 := by
  unfold latchOutputFault
  dsimp only
  generalize hlatched : raise Ev.safOutputFault _ _ = t
  have hsaf := (congrArg Device.saf hlatched).symm.trans (raise_saf ..)
  have hfirst := driveGates_driven false (putBit n false t.saf.a.gates) t
  have hgates : (driveGates false (putBit n false t.saf.a.gates) t).saf.a.gates = putBit n false t.saf.a.gates :=
    driveGates_same false _ t
  generalize driveGates false _ t = u at hfirst hgates
  have hsecond := driveGates_driven true (putBit n false u.saf.b.gates) u
  have ha : (driveGates true (putBit n false u.saf.b.gates) u).saf.a.gates = u.saf.a.gates := driveGates_other false _ u
  have hb : (driveGates true (putBit n false u.saf.b.gates) u).saf.b.gates = putBit n false u.saf.b.gates :=
    driveGates_same true _ u
  rw [hsecond.outFault, hsecond.req, hsecond.outFlt, hfirst.outFault, hfirst.req, hfirst.outFlt, ha, hb, hgates, hsaf]
  exact ⟨bit_putBit_same .., bit_putBit_same .., bit_putBit_same .., bit_putBit_same .., rfl⟩

theorem testPulse_of_none {n : Nat} {low off on_ : Bool} (h : tfind s.saf.pulseAt (2 * n + flag 0 low) = none) :
    testPulse n low off on_ s = s := by
  have hdue : pulseDue s n low = false := by
    unfold pulseDue
    rw [h, Option.any_none]
  unfold testPulse
  rw [hdue, Bool.not_false, Bool.or_true, if_pos rfl]

theorem testPulse_of_due {n t : Nat} {low off on_ : Bool} (hn : n ≤ 7)
    (h : tfind s.saf.pulseAt (2 * n + flag 0 low) = some t) (hout : bit n s.saf.energised = true)
    (htime : t + fld 6 2 (scOut s.saf.cfg n) * 1000000 ≤ s.tim.ck) :
    testPulse n low off on_ s =
      if off && on_ then modChanSaf low (fun k => { k with changed := tset k.changed n s.tim.ck })
        { s with saf.pulseAt := tset s.saf.pulseAt (2 * n + flag 0 low) s.tim.ck }
      else latchOutputFault n low 2 (modChanSaf low (fun k => { k with changed := tset k.changed n s.tim.ck })
        { s with saf.pulseAt := tset s.saf.pulseAt (2 * n + flag 0 low) s.tim.ck }) := by
  have hdue : pulseDue s n low = true := by
    unfold pulseDue
    rw [h, Option.any_some, hout, decide_eq_true htime]
    rfl
  unfold testPulse
  rw [hdue, decide_eq_false hn.not_gt, if_neg (by decide)]

theorem feedbackTimeout_of_equal {n : Nat} {low : Bool} (h : bit n (safChan s low).fb = bit n (safChan s low).gates) :
    feedbackTimeout n low s = s := by
  unfold feedbackTimeout
  exact if_pos (by simp [h])

theorem feedbackTimeout_of_wrong {n : Nat} {low : Bool} (hn : n ≤ 7) (hlive : safLive s = true)
    (hpulse : pulseDue s n low = false) (hout : outOn s.saf.cfg n = true) (hfault : bit n s.saf.outFault = false)
    (hwrong : bit n (safChan s low).fb ≠ bit n (safChan s low).gates)
    (htime : tget (safChan s low).changed n 0 + fld 2 2 (scOut s.saf.cfg n) * 1000 < s.tim.ck) :
    feedbackTimeout n low s = latchOutputFault n low 1 s := by
  have hinit := (Bool.or_eq_false_iff.mp (idle_of_live hlive)).1
  unfold feedbackTimeout
  dsimp only
  rw [decide_eq_false hn.not_gt, hinit, hpulse, hout, hfault, beq_false_of_ne hwrong, decide_eq_false htime.not_ge]
  simp only [Bool.not_true, Bool.or_self, Bool.false_eq_true, if_false]

/-! ## Faults and states (R574 to R577) -/

theorem safState_of_ne {m : SafMode} {cause : Nat} (hnew : s.saf.mode ≠ m) (hsafe : m ≠ .safeFault) :
    (safState m cause s).saf = { s.saf with mode := m } := by
  unfold safState
  rw [if_neg hnew]
  dsimp only
  rw [if_neg hsafe, raise_saf]

/-- Belfry in SAFE_FAULT: nothing is driven or requested (R575). -/
structure FaultedFrom (s t : Device) : Prop where
  mode : t.saf.mode = .safeFault
  gates : GatesLow t
  req : t.saf.req = 0
  cause : t.saf.cause = s.saf.cause
  attr : t.saf.attr = s.saf.attr

theorem allOff_kept (s : Device) : (allOff s).saf.mode = s.saf.mode ∧ (allOff s).saf.req = 0 ∧
    (allOff s).saf.cause = s.saf.cause ∧ (allOff s).saf.attr = s.saf.attr := by
  have hdriven : Driven s (driveGates true 0 (driveGates false 0 s)) :=
    (driveGates_driven ..).trans (driveGates_driven ..)
  unfold allOff
  generalize driveGates true 0 (driveGates false 0 s) = t at hdriven
  exact ⟨hdriven.mode, rfl, hdriven.cause, hdriven.attr⟩

theorem safState_safeFault (cause : Nat) (h : s.saf.mode ≠ .safeFault) : FaultedFrom s (safState .safeFault cause s) := by
  unfold safState
  rw [if_neg h]
  dsimp only
  rw [if_pos rfl]
  generalize hraised : raise Ev.safState _ _ = t
  have hsaf := (congrArg Device.saf hraised).symm.trans (raise_saf ..)
  obtain ⟨hmode, hreq, hcause, hattr⟩ := allOff_kept t
  refine ⟨hmode.trans ?_, (safShow_keepsGates _).low (allOff_low _), hreq, hcause.trans ?_, hattr.trans ?_⟩ <;> rw [hsaf]

/-- A fault on record, before Belfry changes its state. -/
def faulted (cause attr : Nat) (s : Device) : Device :=
  raise Ev.safChannelFault [(1, cause), (1, attr)] { s with saf.cause := cause, saf.attr := attr }

theorem faulted_saf (cause attr : Nat) (s : Device) : (faulted cause attr s).saf =
    { s.saf with cause := cause, attr := attr } := raise_saf ..

theorem faulted_tim (cause attr : Nat) (s : Device) : (faulted cause attr s).tim = s.tim := (raise_noted ..).tim

section Fault
variable {cause attr : Nat}

theorem faulted_mode (cause attr : Nat) (s : Device) : (faulted cause attr s).saf.mode = s.saf.mode := by
  rw [faulted_saf]

theorem inDemandNow_faulted (cause attr : Nat) (s : Device) (b : Bool) :
    inDemandNow (faulted cause attr s) b = inDemandNow s b := by
  have hchan : safChan (faulted cause attr s) b = safChan s b := by
    unfold safChan
    rw [faulted_saf]
  unfold inDemandNow
  rw [hchan]

/-- A fault of no channel ends RUN (R574). -/
theorem safFault_of_both (h : s.saf.mode = .run) : safFault cause 0xE s = safState .safeFault cause (faulted cause 0xE s) := by
  unfold safFault
  rw [← faulted]
  dsimp only
  rw [faulted_mode, h]
  exact (if_neg (by decide)).trans ((if_neg (by simp)).trans (if_neg (by simp)))

theorem safFault_of_a (h : s.saf.mode = .run) (hdemand : inDemandNow s true = false) :
    safFault cause 0 s = safState .degradedB cause { faulted cause 0 s with
      saf.degUntil := s.tim.ck + scTDeg s.saf.cfg * 1000000000 } := by
  have hfit : 0 = 0 ∧ (!inDemandNow (faulted cause 0 s) true) = true := by
    rw [inDemandNow_faulted, hdemand]
    exact ⟨rfl, rfl⟩
  unfold safFault
  rw [← faulted]
  dsimp only
  rw [faulted_mode, h]
  refine (if_neg (by decide)).trans ((if_pos hfit).trans ?_)
  rw [faulted_tim, faulted_saf]

theorem safFault_of_degraded (h : s.saf.mode = .degradedA ∨ s.saf.mode = .degradedB) (hattr : attr ≠ 0xF) :
    safFault cause attr s = safState .safeFault cause (faulted cause attr s) := by
  unfold safFault
  rw [← faulted]
  dsimp only
  rw [faulted_mode]
  obtain h | h := h <;> rw [h] <;> exact if_neg hattr

end Fault

theorem degradedTimeout_of_due (h : s.saf.mode = .degradedA ∨ s.saf.mode = .degradedB) (hdue : s.saf.degUntil ≤ s.tim.ck) :
    degradedTimeout s = safState .safeFault 0 s := by
  have hmode : (s.saf.mode == .degradedA || s.saf.mode == .degradedB) = true := by
    obtain h | h := h <;> rw [h] <;> rfl
  unfold degradedTimeout
  rw [hmode, decide_eq_true hdue]
  rfl

theorem degradedTimeout_of_whole (h : s.saf.mode ≠ .degradedA ∧ s.saf.mode ≠ .degradedB) : degradedTimeout s = s := by
  have hmode : (s.saf.mode == .degradedA || s.saf.mode == .degradedB) = false := by
    rw [beq_false_of_ne h.1, beq_false_of_ne h.2]
    rfl
  unfold degradedTimeout
  rw [hmode]
  rfl

section Init
variable (h : s.saf.mode = .init) (ha : (tfind s.sec.boot 2).isSome = true) (hb : (tfind s.sec.boot 3).isSome = true)
include h ha hb

theorem initDone_ready : (s.saf.mode != .init || (tfind s.sec.boot 2).isNone || (tfind s.sec.boot 3).isNone) = false := by
  rw [h, Option.isNone_eq_false_iff.mpr ha, Option.isNone_eq_false_iff.mpr hb]
  rfl

theorem initDone_of_failed : initDone false s = safState .safeFault 0 s := by
  unfold initDone
  rw [initDone_ready h ha hb]
  exact (if_neg Bool.false_ne_true).trans (if_pos rfl)

theorem initDone_of_passed : initDone true s = if s.saf.cfg.isEmpty then safState .unconfigured 0 (pendingCrcs s)
    else safState .run 0 (startConsumers (pendingCrcs s)) := by
  unfold initDone
  rw [initDone_ready h ha hb]
  exact (if_neg Bool.false_ne_true).trans (if_neg Bool.false_ne_true)

end Init

end Sys2Proof.Proofs.BelfryActs
end

section
/-!
Safe frames and their consumers (R568 to R573), and Belfry's own acts together.
-/
namespace Sys2Proof.Proofs.SafeFrames
open Sys2Proof Sys2Proof.Machine Sys2Proof.Laws
open Sys2Proof.Proofs.Belfry Sys2Proof.Proofs.BelfryActs

variable {s : Device} {k : Nat}

/-! ## Producers (R568) -/

theorem queuePair_saf (p c : Nat) (both : Bool) (build : Nat → QFrame) (s : Device) :
    (queuePair p c both build s).saf = s.saf :=
  (queuePair_keepsSaf s p c both build s).mpr rfl

theorem safeProduce_of_barred {p : Nat} (h : safLive s = false ∨ s.pai.standby = true ∨ s.btr.linkUp = false) :
    safeProduce p s = s := by
  unfold safeProduce
  refine if_pos ?_
  obtain h | h | h := h <;> rw [h] <;> simp

theorem safeProduce_of_first {p : Nat} (hon : bit 0 (fld 0 1 (scProd s.saf.cfg p)) = true) (hlive : safLive s = true)
    (hact : s.pai.standby = false) (hup : s.btr.spireUp = true) (hlink : s.btr.linkUp = true)
    (hfirst : (tget s.saf.prods p {}).sentAt = none) :
    (safeProduce p s).saf = { s.saf with
      prods := tset s.saf.prods p { seq := (tget s.saf.prods p {}).seq + 1, sentAt := some s.tim.ck } } := by
  unfold safeProduce
  dsimp only
  rw [hon, hlive, hact, hup, hlink, hfirst, Option.any_none]
  simp only [Bool.not_true, Bool.or_self, Bool.false_eq_true, if_false, queuePair_saf]

/-! ## Received copies (R570, R571) -/

theorem safeReceive_of_none (h : s.saf.rx = []) : safeReceive s = s := by
  unfold safeReceive
  rw [h]

section Received
variable {f : RxFrame} {rest : List RxFrame} (h : s.saf.rx = f :: rest)
include h

theorem safeReceive_of_port (hport : f.port / 2 * 2 ≠ scPort s.saf.cfg) :
    safeReceive s = { s with saf.rx := rest } := by
  unfold safeReceive
  rw [h]
  exact if_pos (Or.inl hport)

theorem safeReceive_of_consumer (hport : f.port / 2 * 2 = scPort s.saf.cfg) (hcfg : s.saf.cfg ≠ [])
    (hfind : (List.range 16).find? (fun k => (consOf s k).mode != .off &&
      fld 2 4 (scCons s.saf.cfg k) == fld 2 4 ((f.bytes.drop (bodyAt f.bytes)).take 32) &&
      ((scCons s.saf.cfg k).drop 8).take 6 == f.bytes.take 6) = some k) :
    safeReceive s = consumeCopy k (f.port % 2 == 1) ((f.bytes.drop (bodyAt f.bytes)).take 32)
      (trackProducer ((f.bytes.drop (bodyAt f.bytes)).take 32) { s with saf.rx := rest }) := by
  have hmine : ¬(f.port / 2 * 2 ≠ scPort s.saf.cfg ∨ s.saf.cfg = []) := not_or.mpr ⟨not_not_intro hport, hcfg⟩
  unfold safeReceive
  rw [h]
  dsimp only
  rw [if_neg hmine]
  split
  · next j hj =>
    have hsame : j = k := Option.some.inj (hj.symm.trans hfind)
    rw [hsame]
  · next hnone => exact absurd (hnone.symm.trans hfind) (Option.some_ne_none k).symm

end Received

section Copy
variable {lanB : Bool} {b : List Byte} (hkind : fld 0 1 b = 0x11)
include hkind

theorem consumeCopy_of_crc (h : fld 24 4 b ≠ (crc32c (b.take 24)).toNat) : consumeCopy k lanB b s = sfBad k 1 s := by
  unfold consumeCopy
  dsimp only
  rw [if_neg (not_not_intro hkind), if_pos h]

variable (hcrc : fld 24 4 b = (crc32c (b.take 24)).toNat)
include hcrc

theorem consumeCopy_of_crc' (h : fld 28 4 b ≠ (crc32e (b.take 24)).toNat) : consumeCopy k lanB b s = sfBad k 2 s := by
  unfold consumeCopy
  dsimp only
  rw [if_neg (not_not_intro hkind), if_neg (not_not_intro hcrc), if_pos h]

theorem consumeCopy_of_first (hcrc' : fld 28 4 b = (crc32e (b.take 24)).toNat) (hlast : (consOf s k).last = none) :
    consumeCopy k lanB b s =
      consSeen k lanB (modCons k (fun q => { q with last := some (fld 8 4 b, lanB, b.take 24), bits := fld 12 4 b }) s) := by
  unfold consumeCopy
  dsimp only
  rw [if_neg (not_not_intro hkind), if_neg (not_not_intro hcrc), if_neg (not_not_intro hcrc'), hlast]

end Copy

@[simp] theorem consOf_modCons (f : SafCons → SafCons) : consOf (modCons k f s) k = f (consOf s k) := tget_tset_same ..

/-- The LAN of a copy is noted; what the copy said stays. -/
theorem consSeen_copy (lanB : Bool) : (consOf (consSeen k lanB s) k).bits = (consOf s k).bits ∧
    (consOf (consSeen k lanB s) k).last = (consOf s k).last := by
  unfold consSeen
  rw [consOf_modCons]
  cases lanB <;> simp only [Bool.false_eq_true, if_true, if_false] <;> split <;> exact ⟨rfl, rfl⟩

/-! ## Watchdogs (R572) -/

theorem sfWatchdog_of_silent (hmode : (consOf s k).mode = .dual ∨ (consOf s k).mode = .single)
    (ha : lanSilent s k false = true) (hb : lanSilent s k true = true) :
    sfWatchdog k s = raise Ev.sfTimeout [(1, k)] (modCons k (fun q => { q with mode := .fault, bits := 0 })
      { s with saf.sfTimeout := s.saf.sfTimeout + 1 }) := by
  have hserved : ((consOf s k).mode != .dual && (consOf s k).mode != .single) = false := by
    obtain h | h := hmode <;> rw [h] <;> rfl
  unfold sfWatchdog
  dsimp only
  rw [hserved, if_neg Bool.false_ne_true, ha, hb]
  exact if_pos rfl

theorem sfWatchdog_of_single (hmode : (consOf s k).mode = .dual) (ha : lanSilent s k false = false)
    (hb : lanSilent s k true = true) :
    sfWatchdog k s = raise Ev.sfLanSingle [(1, k), (1, 1)]
      (modCons k (fun q => { q with mode := .single, singleAt := s.tim.ck, missingB := true }) s) := by
  unfold sfWatchdog
  dsimp only
  rw [hmode, ha, hb]
  exact (if_neg (by decide)).trans ((if_neg (by decide)).trans (if_pos rfl))

theorem sfWatchdog_of_served (ha : lanSilent s k false = false) (hb : lanSilent s k true = false) : sfWatchdog k s = s := by
  unfold sfWatchdog
  dsimp only
  rw [ha, hb, Bool.or_self, Bool.and_self, Bool.and_false]
  exact (ite_eq_left_iff.mpr fun _ => (if_neg Bool.false_ne_true).trans (if_neg Bool.false_ne_true))

theorem singleTimeout_of_due (hmode : (consOf s k).mode = .single)
    (hdue : (consOf s k).singleAt + scTDeg s.saf.cfg * 1000000000 ≤ s.tim.ck) :
    singleTimeout k s = modCons k (fun q => { q with mode := .fault, bits := 0 }) s := by
  unfold singleTimeout
  dsimp only
  rw [hmode, beq_self_eq_true, Bool.true_and, if_pos (decide_eq_true hdue)]

theorem singleTimeout_of_other (hmode : (consOf s k).mode ≠ .single) : singleTimeout k s = s := by
  unfold singleTimeout
  dsimp only
  rw [beq_false_of_ne hmode, Bool.false_and]
  exact if_neg Bool.false_ne_true

/-! ## Faults of a channel (R574) -/

theorem channelFault_of_both (h : s.saf.mode = .run) :
    (channelFault 6 0 s).saf.mode = .safeFault ∧ (channelFault 6 0 s).saf.cause = 6 ∧ (channelFault 6 0 s).saf.attr = 0xE ∧
      (channelFault 6 0 s).saf.a.gates = 0 ∧ (channelFault 6 0 s).saf.b.gates = 0 ∧
      (channelFault 6 0 s).saf.energised = 0 := by
  have hmode : (faulted 6 0xE s).saf.mode ≠ .safeFault := by
    rw [faulted_mode, h]
    exact SafMode.noConfusion
  have hsafe := safState_safeFault 6 hmode
  have hcause := hsafe.cause
  have hattr := hsafe.attr
  rw [faulted_saf] at hcause hattr
  rw [channelFault, safFault_of_both h]
  exact ⟨hsafe.mode, hcause, hattr, hsafe.gates.a, hsafe.gates.b, hsafe.gates.energised⟩

theorem degradedB_fields {due : Nat} (h : s.saf.mode = .run) :
    (safState .degradedB 1 { faulted 1 0 s with saf.degUntil := due }).saf =
      { s.saf with mode := .degradedB, cause := 1, attr := 0, degUntil := due } := by
  have hmode : (faulted 1 0 s).saf.mode ≠ .degradedB := by
    rw [faulted_mode, h]
    exact SafMode.noConfusion
  rw [safState_of_ne (s := { faulted 1 0 s with saf.degUntil := due }) hmode SafMode.noConfusion]
  dsimp only
  rw [faulted_saf]

theorem channelFault_of_a (h : s.saf.mode = .run) (hdemand : inDemandNow s true = false) :
    (channelFault 1 0 s).saf = { s.saf with
      mode := .degradedB, cause := 1, attr := 0, degUntil := s.tim.ck + scTDeg s.saf.cfg * 1000000000 } := by
  rw [channelFault, safFault_of_a h hdemand, degradedB_fields h]

theorem channelFault_of_degraded (h : s.saf.mode = .degradedA ∨ s.saf.mode = .degradedB) :
    (channelFault 2 1 s).saf.mode = .safeFault ∧ (channelFault 2 1 s).saf.a.gates = 0 ∧
      (channelFault 2 1 s).saf.b.gates = 0 ∧ (channelFault 2 1 s).saf.req = 0 := by
  have hmode : (faulted 2 1 s).saf.mode ≠ .safeFault := by
    rw [faulted_mode]
    obtain h | h := h <;> rw [h] <;> exact SafMode.noConfusion
  have hsafe := safState_safeFault 2 hmode
  rw [channelFault, safFault_of_degraded h (by decide)]
  exact ⟨hsafe.mode, hsafe.gates.a, hsafe.gates.b, hsafe.req⟩

/-! ## What Belfry does together -/

/-- Settles O54. A sample and a cycle are due after 49 µs and 980 µs, the low ends of t_SAMP and of the cycle (log 65); the
field of a feedback's limit is FB_US (R560). -/
theorem belfryActs : Obligations.BelfryActs := by
  unfold Obligations.BelfryActs
  refine ⟨fun b contacts fb t s hsampled hrecent => ?_, fun b contacts fb s hfirst => ?_,
    fun ck n levels t cfg k hnew hsince => ⟨sampleContact_of_stable hnew hsince, sampleContact_of_short hnew hsince⟩,
    fun ck n levels cfg k hnew hsince => ?_, fun n s hnone => ?_, fun n t s hsince hnew hlong => ?_,
    fun b s hidle => ?_, fun b s hlive hpart hfirst => ?_, fun b t s hlive hpart hcycle helapsed => ?_,
    fun b s hdead => ?_, fun b s hlive hact => ?_,
    fun s b reset okAt f htype => ⟨fnNext_of_demand htype, fnNext_of_served htype, fnNext_of_resetWait htype,
      fnNext_of_permit htype⟩,
    fun n low off on_ s hnone => ?_, fun n t low s hn hpulse hout htime => ⟨?_, ?_⟩,
    fun n low s hn hlive hpulse hout hfault hwrong htime => ?_, fun n low s hequal => ?_,
    fun n cause low s => latchOutputFault_fields n low cause s, fun s hrun => ?_, fun s hrun hdemand => ?_,
    fun s hdegraded => ?_, fun s hdegraded hdue => ?_, fun s hwhole => ?_, fun s hinit ha hb => ⟨?_, ?_⟩,
    fun p s hbarred => ?_, fun p s hon hlive hact hup hlink hfirst => ?_, fun s hnone => ?_,
    fun k lanB b s hkind => ⟨consumeCopy_of_crc hkind, consumeCopy_of_crc' hkind⟩,
    fun k lanB b s hkind hcrc hcrc' hlast => ?_, fun f rest s hrx hport => ?_,
    fun k f rest s hrx hport hcfg hfind => ?_, fun k s hmode ha hb => ?_, fun k s hmode ha hb => ?_,
    fun k s ha hb => ?_, fun k s hmode hdue => ?_, fun k s hmode => ?_⟩
  · rw [exec_safInputSample, execSafInputSample, inputSample_of_recent hsampled hrecent]
  · rw [exec_safInputSample, execSafInputSample, inputSample_of_first hfirst]
  · rw [sampleContact_of_first hnew hsince]
    exact ⟨rfl, rfl⟩
  · rw [exec_discrepancyTimeout, execDiscrepancyTimeout, discTimeout_of_none hnone]
  · rw [exec_discrepancyTimeout, execDiscrepancyTimeout, discTimeout_of_long hsince hnew hlong]
  · rw [exec_safetyCycle, execSafetyCycle, safetyCycle_of_idle hidle]
  · rw [exec_safetyCycle, execSafetyCycle, safetyCycle_of_first hlive hpart hfirst]
  · rw [exec_safetyCycle, execSafetyCycle, safetyCycle_of_elapsed hlive hpart hcycle helapsed]
  · rw [endCycle_gates, endGates, hdead]
    rfl
  · refine ⟨?_, endCycle_clearReq b s⟩
    rw [endCycle_gates, endGates, endRequests, hlive, hact]
    rfl
  · rw [exec_testPulse, execTestPulse, testPulse_of_none hnone]
  · rw [exec_testPulse, execTestPulse, testPulse_of_due hn hpulse hout htime, Bool.and_self, if_pos rfl]
  · rw [exec_testPulse, execTestPulse, testPulse_of_due hn hpulse hout htime, Bool.false_and, if_neg Bool.false_ne_true]
  · rw [exec_feedbackTimeout, execFeedbackTimeout,
      feedbackTimeout_of_wrong hn hlive hpulse hout hfault hwrong htime]
  · rw [exec_feedbackTimeout, execFeedbackTimeout, feedbackTimeout_of_equal hequal]
  · rw [exec_channelFault, execChannelFault]
    exact ⟨_, rfl, channelFault_of_both hrun⟩
  · rw [exec_channelFault, execChannelFault]
    refine ⟨_, rfl, ?_⟩
    rw [channelFault_of_a hrun hdemand]
    exact ⟨rfl, rfl, rfl, rfl⟩
  · rw [exec_channelFault, execChannelFault]
    exact ⟨_, rfl, channelFault_of_degraded hdegraded⟩
  · rw [exec_degradedTimeout, execDegradedTimeout, degradedTimeout_of_due hdegraded hdue]
  · rw [exec_degradedTimeout, execDegradedTimeout, degradedTimeout_of_whole hwhole]
  · rw [exec_safInitDone, execSafInitDone, initDone_of_failed hinit ha hb]
  · rw [exec_safInitDone, execSafInitDone, initDone_of_passed hinit ha hb]
  · rw [exec_safeFrameProduce, execSafeFrameProduce, safeProduce_of_barred hbarred]
  · rw [exec_safeFrameProduce, execSafeFrameProduce]
    refine ⟨_, rfl, ?_⟩
    rw [safeProduce_of_first hon hlive hact hup hlink hfirst]
    dsimp only
    rw [tget_tset_same]
    exact ⟨rfl, rfl, rfl, rfl⟩
  · rw [exec_safeFrameReceive, execSafeFrameReceive, safeReceive_of_none hnone]
  · rw [consumeCopy_of_first hkind hcrc hcrc' hlast, (consSeen_copy lanB).1, (consSeen_copy lanB).2, consOf_modCons]
    exact ⟨rfl, rfl⟩
  · rw [exec_safeFrameReceive, execSafeFrameReceive, safeReceive_of_port hrx hport]
  · rw [exec_safeFrameReceive, execSafeFrameReceive, safeReceive_of_consumer hrx hport hcfg hfind]
  · rw [exec_sfWatchdogTimeout, execSfWatchdogTimeout, sfWatchdog_of_silent hmode ha hb]
  · rw [exec_sfWatchdogTimeout, execSfWatchdogTimeout, sfWatchdog_of_single hmode ha hb]
  · rw [exec_sfWatchdogTimeout, execSfWatchdogTimeout, sfWatchdog_of_served ha hb]
  · rw [exec_singleLanTimeout, execSingleLanTimeout, singleTimeout_of_due hmode hdue]
  · rw [exec_singleLanTimeout, execSingleLanTimeout, singleTimeout_of_other hmode]

end Sys2Proof.Proofs.SafeFrames
end

section
/-!
The CAN controllers (13_can): reception, transmission and the states of a controller. The steps of TEC and REC are those of
ISO 11898-1 (log 37).
-/
namespace Sys2Proof.Proofs.CanControllers
open Sys2Proof Sys2Proof.Machine Sys2Proof.Laws
open Sys2Proof.Proofs.Notes

variable {s t : Device} {n b k : Nat}

/-! ## A controller and its buffers -/

@[simp] theorem ctlOf_modCtl (f : CanCtl → CanCtl) : ctlOf (modCtl n f s) n = f (ctlOf s n) := tget_tset_same ..

@[simp] theorem canBuf_modBuf (f : CanBuf → CanBuf) : canBuf (modBuf n b f s) n b = f (canBuf s n b) := by
  unfold modBuf canBuf
  rw [ctlOf_modCtl]
  exact tget_tset_same ..

@[simp] theorem ctlOf_modBuf (f : CanBuf → CanBuf) : ctlOf (modBuf n b f s) n =
    { ctlOf s n with bufs := tset (ctlOf s n).bufs b (f (tget (ctlOf s n).bufs b {})) } := ctlOf_modCtl _

@[simp] theorem canFlag_modCtl (f : CanCtl → CanCtl) : canFlag (modCtl n f s) n k = canFlag s n k := rfl
@[simp] theorem bufMode_modCtl (f : CanCtl → CanCtl) : bufMode (modCtl n f s) n b = bufMode s n b := rfl

theorem modCtl_congr {f g : CanCtl → CanCtl} (h : f (ctlOf s n) = g (ctlOf s n)) : modCtl n f s = modCtl n g s := by
  unfold modCtl
  rw [h]

theorem canFilter_modCtl (f : CanCtl → CanCtl) (r : CanRx) : canFilter (modCtl n f s) n r = canFilter s n r := rfl

/-- `t` differs from `s` in CAN alone. -/
def OnlyCan (s t : Device) : Prop := ∃ c, t = { s with can := c }

namespace OnlyCan

theorem refl (s : Device) : OnlyCan s s := ⟨_, rfl⟩

theorem modCtl (h : OnlyCan s t) (n : Nat) (f : CanCtl → CanCtl) : OnlyCan s (modCtl n f t) := by
  obtain ⟨_, rfl⟩ := h
  exact ⟨_, rfl⟩

theorem modBuf (h : OnlyCan s t) (n b : Nat) (f : CanBuf → CanBuf) : OnlyCan s (modBuf n b f t) := h.modCtl n _

theorem dpt (h : OnlyCan s t) : t.dpt = s.dpt := by obtain ⟨_, rfl⟩ := h; rfl
theorem hif (h : OnlyCan s t) : t.hif = s.hif := by obtain ⟨_, rfl⟩ := h; rfl
theorem evr (h : OnlyCan s t) : t.evr = s.evr := by obtain ⟨_, rfl⟩ := h; rfl

end OnlyCan

theorem beq_of_live (h : canLive (ctlOf s n) = true) :
    ((ctlOf s n).mode == .off || (ctlOf s n).mode == .listenOnly) = false := by
  revert h
  unfold canLive
  cases (ctlOf s n).mode <;> decide

theorem canErrors_of_active (hmode : (ctlOf s n).mode = .errorActive) (htec : (ctlOf s n).tec < 128)
    (hrec : (ctlOf s n).rec_ < 128) : canErrors n s = s := by
  have hbus : ¬255 < (ctlOf s n).tec := by omega
  have hpassive : ¬(128 ≤ (ctlOf s n).tec ∨ 128 ≤ (ctlOf s n).rec_) := by omega
  unfold canErrors
  dsimp only
  rw [hmode]
  exact (if_neg hbus).trans (if_neg hpassive)

/-! ## Reception (R522 to R524, R526) -/

section Receive
variable {f : CanRx}

theorem canReceive_of_silent (h : (ctlOf s n).mode = .off ∨ (ctlOf s n).mode = .busOff) : canReceive n f s = s := by
  have hsilent : ((ctlOf s n).mode == .off || (ctlOf s n).mode == .busOff) = true := by
    obtain h | h := h <;> rw [h] <;> rfl
  unfold canReceive
  dsimp only
  rw [hsilent, if_pos rfl]

variable (hmode : (ctlOf s n).mode = .errorActive) (htec : (ctlOf s n).tec < 128)
include hmode htec

omit htec in
theorem receiving_of_active : ((ctlOf s n).mode == .off || (ctlOf s n).mode == .busOff) = false := by
  rw [hmode]
  rfl

theorem canReceive_of_error {j : Nat} (herr : f.err = some j) (hrec : (ctlOf s n).rec_ + j < 128) :
    canReceive n f s = modCtl n (fun c => { c with errFr := c.errFr + 1 })
      (modCtl n (fun c => { c with rec_ := c.rec_ + j }) s) := by
  have hcount : canRec' n f s = modCtl n (fun c => { c with rec_ := c.rec_ + j }) s := by
    have hmin : min 255 ((ctlOf s n).rec_ + j) = (ctlOf s n).rec_ + j := by omega
    unfold canRec'
    dsimp only
    rw [hmode, herr]
    refine (if_neg Bool.false_ne_true).trans (modCtl_congr ?_)
    rw [hmin]
  have hactive : canErrors n (modCtl n (fun c => { c with rec_ := c.rec_ + j }) s) = _ :=
    canErrors_of_active (by rw [ctlOf_modCtl]; exact hmode) (by rw [ctlOf_modCtl]; exact htec)
      (by rw [ctlOf_modCtl]; exact hrec)
  unfold canReceive
  dsimp only
  rw [receiving_of_active hmode, if_neg Bool.false_ne_true, herr, Option.isSome_some, if_pos rfl, hcount, hactive]

omit hmode htec in
/-- A controller that has received a good frame. -/
def received (n : Nat) (s : Device) : Device :=
  modCtl n (fun c => { c with rxFr := c.rxFr + 1, ackRun := 0, aloneRaised := false })
    (modCtl n (fun c => { c with rec_ := c.rec_ - 1 }) s)

omit hmode htec in
theorem received_ctl (n : Nat) (s : Device) : ctlOf (received n s) n = { ctlOf s n with
    rxFr := (ctlOf s n).rxFr + 1, ackRun := 0, aloneRaised := false, rec_ := (ctlOf s n).rec_ - 1 } := by
  unfold received
  rw [ctlOf_modCtl, ctlOf_modCtl]

omit hmode htec in
theorem received_onlyCan (n : Nat) (s : Device) : OnlyCan s (received n s) :=
  ((OnlyCan.refl s).modCtl n _).modCtl n _

variable (hrec : (ctlOf s n).rec_ < 128) (herr : f.err = none) (htt : canFlag s n 2 = false)
include hrec herr htt

omit htec htt in
theorem canRec'_of_good : canRec' n f s = modCtl n (fun c => { c with rec_ := c.rec_ - 1 }) s := by
  have hlow : ¬127 < (ctlOf s n).rec_ := by omega
  unfold canRec'
  dsimp only
  rw [hmode, herr]
  exact (if_neg Bool.false_ne_true).trans (if_neg hlow)

omit hmode htec hrec herr in
theorem canReference_of_plain : canReference n f (received n s) = received n s := by
  have hflag : canFlag (received n s) n 2 = false := htt
  unfold canReference
  dsimp only
  rw [hflag]
  refine if_pos ?_
  simp

omit htt in
/-- A good frame, before the filters. -/
theorem canReceive_step : canErrors n (canRec' n f s) = modCtl n (fun c => { c with rec_ := c.rec_ - 1 }) s := by
  rw [canRec'_of_good hmode hrec herr]
  refine canErrors_of_active ?_ ?_ ?_ <;> rw [ctlOf_modCtl]
  · exact hmode
  · exact htec
  · exact (Nat.sub_le ..).trans_lt hrec

theorem canReceive_of_unfiltered (hfilter : canFilter s n f = none) (hno : canFlag s n 7 = false) :
    canReceive n f s = modCtl n (fun c => { c with noMatch := c.noMatch + 1 }) (received n s) := by
  have hfilter' : canFilter (received n s) n f = none := hfilter
  have hno' : canFlag (received n s) n 7 = false := hno
  unfold canReceive
  dsimp only
  rw [receiving_of_active hmode, if_neg Bool.false_ne_true, herr, Option.isSome_none, if_neg Bool.false_ne_true,
    canReceive_step hmode htec hrec herr, ← received, canReference_of_plain htt, hfilter']
  dsimp only
  rw [hno', if_neg Bool.false_ne_true]

theorem canReceive_of_filter {r : List Byte} (hfilter : canFilter s n f = some k)
    (hkept : recAt s 0x0D 3 (32 * n + k) f.at_ = some r) :
    canReceive n f s =
      if bit 2 (fld 0 1 r) then
        canToken n k f r (if bit 1 (fld 0 1 r) then canToHost n k f (received n s) else received n s)
      else if bit 1 (fld 0 1 r) then canToHost n k f (received n s) else received n s := by
  have hfilter' : canFilter (received n s) n f = some k := hfilter
  have hkept' : recAt (received n s) 0x0D 3 (32 * n + k) f.at_ = some r := hkept
  unfold canReceive
  dsimp only
  rw [receiving_of_active hmode, if_neg Bool.false_ne_true, herr, Option.isSome_none, if_neg Bool.false_ne_true,
    canReceive_step hmode htec hrec herr, ← received, canReference_of_plain htt, hfilter']
  exact DigitalIo.underRec_of_kept _ hkept'

omit hmode htec hrec herr htt in
theorem received_fields (n : Nat) (s : Device) : (ctlOf (received n s) n).rxFr = (ctlOf s n).rxFr + 1 ∧
    (ctlOf (received n s) n).noMatch = (ctlOf s n).noMatch ∧ (received n s).dpt = s.dpt ∧ (received n s).hif = s.hif := by
  rw [received_ctl, (received_onlyCan n s).dpt, (received_onlyCan n s).hif]
  exact ⟨rfl, rfl, rfl, rfl⟩

omit hmode htec hrec herr htt in
/-- The destinations of a filter are two bits of its record (R523, R524). -/
theorem bit_of_destinations {v d : Nat} (h : bits 2 1 v = d) :
    bit 1 v = decide (d % 2 = 1) ∧ bit 2 v = decide (d / 2 = 1) := by
  unfold bits at h
  unfold bit
  rw [← Bool.beq_eq_decide_eq, ← Bool.beq_eq_decide_eq]
  constructor
  · rw [Bool.eq_iff_iff]
    simp
    omega
  · rw [Bool.eq_iff_iff]
    simp
    omega

theorem canReceive_of_destinations {r : List Byte} {d : Nat} (hfilter : canFilter s n f = some k)
    (hkept : recAt s 0x0D 3 (32 * n + k) f.at_ = some r) (hdest : bits 2 1 (fld 0 1 r) = d) :
    canReceive n f s =
      if d / 2 = 1 then
        canToken n k f r (if d % 2 = 1 then canToHost n k f (received n s) else received n s)
      else if d % 2 = 1 then canToHost n k f (received n s) else received n s := by
  obtain ⟨hhost, htoken⟩ := bit_of_destinations hdest
  rw [canReceive_of_filter hmode htec hrec herr htt hfilter hkept, hhost, htoken]
  simp only [decide_eq_true_eq]

end Receive

/-! ## Transmission (R516, R519 to R521) -/

theorem canTxStart_of_pick {f : CanFrame} (hpick : canPick s n = some (b, f)) (hlive : canLive (ctlOf s n) = true)
    (hidle : (ctlOf s n).sending = none) (hreq : (ctlOf s n).modeReq = none) (hdrives : canDrives s n = true) :
    canTxStart n s = emit (.can n (nowD s) f.id f.ctl f.data)
      (modBuf n b (fun q => { q with started := true }) (modCtl n (fun c => { c with sending := some b }) s)) := by
  unfold canTxStart
  dsimp only
  rw [hlive, hdrives, hidle, hreq, hpick]
  rfl

theorem canTxStart_of_none (h : canPick s n = none ∨ (ctlOf s n).sending.isSome = true ∨ s.pai.standby = true) :
    canTxStart n s = s := by
  unfold canTxStart
  dsimp only
  obtain h | h | h := h
  · rw [h]
    exact ite_self ..
  · rw [h, Bool.or_true, Bool.true_or, if_pos rfl]
  · have hdrives : canDrives s n = false := by
      unfold canDrives
      rw [h, Bool.not_true, Bool.and_false]
    rw [hdrives, Bool.not_false, Bool.or_true, Bool.true_or, Bool.true_or, if_pos rfl]

/-! ### The frame that starts (R516) -/

/-- One buffer more is looked at. -/
def pickStep (s : Device) (n : Nat) (a : Option (Nat × CanFrame)) (b : Nat) : Option (Nat × CanFrame) :=
  match canCandidate s n b, a with
  | some f, some (k, g) => if arbId f.id < arbId g.id then some (b, f) else some (k, g)
  | some f, none => some (b, f)
  | none, a => a

theorem canPick_eq (s : Device) (n : Nat) : canPick s n = (List.range 16).foldl (pickStep s n) none := rfl

/-- Of the buffers below `m`, `a` has the lowest identifier, then the lowest number. -/
structure BestBelow (s : Device) (n m : Nat) (a : Option (Nat × CanFrame)) : Prop where
  none_of_none : a = none → ∀ k < m, canCandidate s n k = none
  below : ∀ b f, a = some (b, f) → b < m ∧ canCandidate s n b = some f
  best : ∀ b f, a = some (b, f) → ∀ k < m, ∀ g, canCandidate s n k = some g →
    arbId f.id ≤ arbId g.id ∧ (arbId f.id = arbId g.id → b ≤ k)

/-- A buffer of a lower identifier than all before it. -/
theorem BestBelow.of_new {m : Nat} {f : CanFrame} (hcand : canCandidate s n m = some f)
    (hlower : ∀ k < m, ∀ g, canCandidate s n k = some g → arbId f.id < arbId g.id) : BestBelow s n (m + 1) (some (m, f)) := by
  refine ⟨fun ha => (nomatch ha), fun b' f' ha => ?_, fun b' f' ha k hk g hg => ?_⟩ <;>
    obtain ⟨rfl, rfl⟩ := Prod.mk.inj (Option.some.inj ha)
  · exact ⟨Nat.lt_succ_self m, hcand⟩
  · obtain hk | rfl := Nat.lt_succ_iff_lt_or_eq.mp hk
    · exact ⟨(hlower k hk g hg).le, fun heq => absurd heq (hlower k hk g hg).ne⟩
    · obtain rfl := Option.some.inj (hcand.symm.trans hg)
      exact ⟨le_rfl, fun _ => le_rfl⟩

theorem pickStep_best {m : Nat} {a : Option (Nat × CanFrame)} (h : BestBelow s n m a) :
    BestBelow s n (m + 1) (pickStep s n a m) := by
  unfold pickStep
  obtain hcand | ⟨f, hcand⟩ := Option.eq_none_or_eq_some (canCandidate s n m)
  · rw [hcand]
    dsimp only
    refine ⟨fun ha k hk => ?_, fun b f ha => ?_, fun b f ha k hk g hg => ?_⟩
    · obtain hk | rfl := Nat.lt_succ_iff_lt_or_eq.mp hk
      · exact h.none_of_none ha k hk
      · exact hcand
    · exact ⟨(h.below b f ha).1.trans (Nat.lt_succ_self m), (h.below b f ha).2⟩
    · obtain hk | rfl := Nat.lt_succ_iff_lt_or_eq.mp hk
      · exact h.best b f ha k hk g hg
      · exact absurd (hcand.symm.trans hg) (Option.some_ne_none g).symm
  · rw [hcand]
    cases a with
    | none => exact .of_new hcand fun k hk g hg => absurd ((h.none_of_none rfl k hk).symm.trans hg) (Option.some_ne_none g).symm
    | some c =>
      obtain ⟨b, g⟩ := c
      have hbest := h.best b g rfl
      dsimp only
      split
      · next hlower => exact .of_new hcand fun k hk q hq => hlower.trans_le (hbest k hk q hq).1
      · next hhigher =>
        refine ⟨fun ha => (nomatch ha), fun b' f' ha => ?_, fun b' f' ha k hk q hq => ?_⟩ <;>
          obtain ⟨rfl, rfl⟩ := Prod.mk.inj (Option.some.inj ha)
        · exact ⟨(h.below b g rfl).1.trans (Nat.lt_succ_self m), (h.below b g rfl).2⟩
        · obtain hk | rfl := Nat.lt_succ_iff_lt_or_eq.mp hk
          · exact hbest k hk q hq
          · obtain rfl := Option.some.inj (hcand.symm.trans hq)
            exact ⟨not_lt.mp hhigher, fun _ => (h.below b g rfl).1.le⟩

theorem foldl_pickStep_best (s : Device) (n m : Nat) : BestBelow s n m ((List.range m).foldl (pickStep s n) none) := by
  induction m with
  | zero => exact ⟨fun _ k hk => absurd hk (Nat.not_lt_zero k), fun _ _ h => (nomatch h), fun _ _ h => (nomatch h)⟩
  | succ m ih =>
    rw [List.range_succ, List.foldl_append, List.foldl_cons, List.foldl_nil]
    exact pickStep_best ih

theorem canPick_best (s : Device) (n : Nat) : BestBelow s n 16 (canPick s n) := foldl_pickStep_best s n 16

/-! ### The end of a frame (R520, R521) -/

/-- A controller whose frame of buffer `b` has ended, before what its end means for the buffer. -/
def txEnded (n b : Nat) (how : CanEnd) (tdc : Nat) (s : Device) : Device :=
  let ctl := ((canFrame s n b).map (·.ctl)).getD 0
  let err := how != .sent && how != .lost
  let s := modCtl n (fun c => { c with sending := none, tec := canTec c how, errFr := if err then c.errFr + 1 else c.errFr }) s
  if bit 4 ctl && bit 5 ctl then modCtl n (fun c => { c with tdc := tdc % 128 }) s else s

theorem txEnded_ctl (n b : Nat) (how : CanEnd) (tdc : Nat) (s : Device) : ∃ x, ctlOf (txEnded n b how tdc s) n =
    { ctlOf s n with
      sending := none, tec := canTec (ctlOf s n) how, tdc := x
      errFr := if how != .sent && how != .lost then (ctlOf s n).errFr + 1 else (ctlOf s n).errFr } := by
  unfold txEnded
  dsimp only
  split
  · rw [ctlOf_modCtl, ctlOf_modCtl]
    exact ⟨_, rfl⟩
  · rw [ctlOf_modCtl]
    exact ⟨_, rfl⟩

theorem txEnded_onlyCan (n b : Nat) (how : CanEnd) (tdc : Nat) (s : Device) : OnlyCan s (txEnded n b how tdc s) := by
  unfold txEnded
  dsimp only
  split
  · exact ((OnlyCan.refl s).modCtl n _).modCtl n _
  · exact (OnlyCan.refl s).modCtl n _

theorem canAborted_of_none {sent : Bool} (h : (ctlOf s n).aborts = []) :
    canAborted n sent s = modCtl n (fun c => { c with aborts := [] }) s := by
  unfold canAborted
  rw [h]
  rfl

theorem canIdle_of_buffer (hb : b ≠ 15) :
    canIdle n b s = modBuf n b (fun q => { q with pend := none, started := false }) s := if_neg hb

/-- The buffer has no frame any more, and no command waits for it. -/
def freed (n b : Nat) (s : Device) : Device :=
  modBuf n b (fun q => { q with pend := none, started := false }) (modCtl n (fun c => { c with aborts := [] }) s)

theorem freed_ctl (n b : Nat) (s : Device) : ∃ bufs, ctlOf (freed n b s) n = { ctlOf s n with aborts := [], bufs := bufs } := by
  rw [freed, ctlOf_modBuf, ctlOf_modCtl]
  exact ⟨_, rfl⟩

theorem freed_buf (n b : Nat) (s : Device) : canBuf (freed n b s) n b =
    { canBuf s n b with pend := none, started := false } := by
  rw [freed, canBuf_modBuf, canBuf, ctlOf_modCtl]
  rfl

theorem freed_of_none (h : (ctlOf s n).aborts = []) (sent : Bool) (hb : b ≠ 15) :
    canIdle n b (canAborted n sent s) = freed n b s := by
  rw [canAborted_of_none h, canIdle_of_buffer hb, freed]

theorem canTxEnd_of_idle {tdc : Nat} {how : CanEnd} (h : (ctlOf s n).sending = none) : canTxEnd n how tdc s = s := by
  unfold canTxEnd
  dsimp only
  rw [h]

section End
variable {tdc : Nat} (hsending : (ctlOf s n).sending = some b) (hb : b < 15)
include hsending hb

/-- The buffer after its frame was sent, before it is freed. -/
def counted (n b tdc : Nat) (s : Device) : Device :=
  modBuf n b (fun q => { q with collRaised := false, stopped := false }) (modBuf n b (fun q => { q with collRun := 0 })
    (modCtl n (fun c => { c with txFr := c.txFr + 1, ackRun := 0, aloneRaised := false }) (txEnded n b .sent tdc s)))

omit hsending hb in
theorem counted_ctl (n b tdc : Nat) (s : Device) : ∃ x bufs, ctlOf (counted n b tdc s) n = { ctlOf s n with
    sending := none, tec := (ctlOf s n).tec - 1, tdc := x, txFr := (ctlOf s n).txFr + 1, ackRun := 0, aloneRaised := false
    bufs := bufs } := by
  obtain ⟨x, hctl⟩ := txEnded_ctl n b .sent tdc s
  rw [counted, ctlOf_modBuf, ctlOf_modBuf, ctlOf_modCtl, hctl]
  exact ⟨x, _, rfl⟩

omit hsending hb in
theorem counted_buf (n b tdc : Nat) (s : Device) : (canBuf (counted n b tdc s) n b).collRun = 0 := by
  rw [counted, canBuf_modBuf, canBuf_modBuf]

theorem canTxEnd_of_sent (haborts : (ctlOf s n).aborts = []) :
    canTxEnd n .sent tdc s = canErrors n (freed n b (counted n b tdc s)) := by
  obtain ⟨_, _, hctl⟩ := counted_ctl n b tdc s
  rw [← freed_of_none (sent := true) (by rw [hctl]; exact haborts) hb.ne]
  unfold canTxEnd
  dsimp only
  rw [hsending]
  dsimp only
  rw [if_neg (by omega : b ≠ 16)]
  rfl

/-- The buffer after a frame that was not sent, with its bit errors counted anew (R528). -/
def uncounted (n b : Nat) (how : CanEnd) (tdc : Nat) (s : Device) : Device :=
  modBuf n b (fun q => { q with collRun := 0 }) (txEnded n b how tdc s)

omit hsending hb in
theorem uncounted_ctl (n b : Nat) (how : CanEnd) (tdc : Nat) (s : Device) : ∃ x bufs, ctlOf (uncounted n b how tdc s) n =
    { ctlOf s n with
      sending := none, tec := canTec (ctlOf s n) how, tdc := x, bufs := bufs
      errFr := if how != .sent && how != .lost then (ctlOf s n).errFr + 1 else (ctlOf s n).errFr } := by
  obtain ⟨x, hctl⟩ := txEnded_ctl n b how tdc s
  rw [uncounted, ctlOf_modBuf, hctl]
  exact ⟨x, _, rfl⟩

omit hsending hb in
theorem uncounted_pend (n b : Nat) (how : CanEnd) (tdc : Nat) (s : Device) :
    (canBuf (uncounted n b how tdc s) n b).pend = (canBuf s n b).pend := by
  obtain ⟨_, hctl⟩ := txEnded_ctl n b how tdc s
  rw [uncounted, canBuf_modBuf, canBuf, hctl]
  rfl

omit hsending hb in
theorem uncounted_aborts (how : CanEnd) : (ctlOf (uncounted n b how tdc s) n).aborts = (ctlOf s n).aborts := by
  obtain ⟨_, _, hctl⟩ := uncounted_ctl n b how tdc s
  rw [hctl]

omit hsending hb in
/-- What decides on a retransmission is not touched by the end itself. -/
theorem uncounted_keeps (how : CanEnd) : canStops (uncounted n b how tdc s) n b = canStops s n b ∧
    bufMode (uncounted n b how tdc s) n b = bufMode s n b := by
  obtain ⟨_, _, hctl⟩ := uncounted_ctl n b how tdc s
  obtain ⟨_, hcan⟩ := (txEnded_onlyCan n b how tdc s).modBuf n b (fun q => { q with collRun := 0 })
  have hrun : (ctlOf (uncounted n b how tdc s) n).ackRun = (ctlOf s n).ackRun := by
    rw [hctl]
  have hmode : bufMode (uncounted n b how tdc s) n b = bufMode s n b := by
    rw [uncounted, hcan]
    rfl
  refine ⟨?_, hmode⟩
  unfold canStops
  rw [hrun, hmode, uncounted, hcan]
  rfl

theorem canTxEnd_of_lost (haborts : (ctlOf s n).aborts = []) (hmode : bufMode s n b ≠ 2) (hstops : canStops s n b = false) :
    canTxEnd n .lost tdc s = canErrors n (uncounted n b .lost tdc s) := by
  have hretry : canRetry (uncounted n b .lost tdc s) n b = true := by
    unfold canRetry
    rw [uncounted_aborts, haborts, (uncounted_keeps _).1, hstops, (uncounted_keeps _).2, bne_iff_ne.mpr hmode]
    rfl
  unfold canTxEnd
  dsimp only
  rw [hsending]
  dsimp only
  rw [if_neg (by omega : b ≠ 16)]
  exact (if_neg CanEnd.noConfusion).trans (if_pos hretry)

theorem canTxEnd_of_tt (haborts : (ctlOf s n).aborts = []) (hmode : bufMode s n b = 2) :
    canTxEnd n .other tdc s = canErrors n (freed n b (uncounted n b .other tdc s)) := by
  have hretry : canRetry (uncounted n b .other tdc s) n b = false := by
    unfold canRetry
    rw [(uncounted_keeps _).2, hmode]
    simp
  have hstops : canStops (uncounted n b .other tdc s) n b = false := by
    unfold canStops
    rw [(uncounted_keeps _).2, hmode]
    simp
  have hstop : ((ctlOf (uncounted n b .other tdc s) n).aborts.isEmpty && canStops (uncounted n b .other tdc s) n b) = false := by
    rw [hstops, Bool.and_false]
  unfold canTxEnd
  dsimp only
  rw [hsending]
  dsimp only
  rw [if_neg (by omega : b ≠ 16), ← freed_of_none ((uncounted_aborts _).trans haborts) false hb.ne]
  refine (if_neg CanEnd.noConfusion).trans ((if_neg ?_).trans (if_neg ?_))
  · exact Bool.eq_false_iff.mp hretry
  · exact Bool.eq_false_iff.mp hstop

/-! What an end leaves on a controller that stays in ERROR_ACTIVE (R526). -/

section Fields
variable (haborts : (ctlOf s n).aborts = []) (hmode : (ctlOf s n).mode = .errorActive) (hrec : (ctlOf s n).rec_ < 128)
include haborts hmode hrec

theorem canTxEnd_sent_fields (htec : (ctlOf s n).tec < 128) :
    (ctlOf (canTxEnd n .sent tdc s) n).txFr = (ctlOf s n).txFr + 1 ∧
      (ctlOf (canTxEnd n .sent tdc s) n).tec = (ctlOf s n).tec - 1 ∧ (ctlOf (canTxEnd n .sent tdc s) n).sending = none ∧
      (canBuf (canTxEnd n .sent tdc s) n b).pend = none ∧ (canBuf (canTxEnd n .sent tdc s) n b).collRun = 0 ∧
      (canTxEnd n .sent tdc s).evr = s.evr := by
  obtain ⟨_, _, hcounted⟩ := counted_ctl n b tdc s
  obtain ⟨_, hfreed⟩ := freed_ctl n b (counted n b tdc s)
  rw [hcounted] at hfreed
  have hsame : canErrors n (freed n b (counted n b tdc s)) = freed n b (counted n b tdc s) := by
    refine canErrors_of_active ?_ ?_ ?_ <;> rw [hfreed]
    · exact hmode
    · exact (Nat.sub_le ..).trans_lt htec
    · exact hrec
  have honly : OnlyCan s (freed n b (counted n b tdc s)) :=
    (((((txEnded_onlyCan n b .sent tdc s).modCtl n _).modBuf n b _).modBuf n b _).modCtl n _).modBuf n b _
  rw [canTxEnd_of_sent hsending hb haborts, hsame, hfreed, freed_buf, honly.evr]
  exact ⟨rfl, rfl, rfl, rfl, counted_buf .., rfl⟩

theorem canTxEnd_lost_fields (hbuf : bufMode s n b ≠ 2) (hstops : canStops s n b = false) (htec : (ctlOf s n).tec < 128) :
    (ctlOf (canTxEnd n .lost tdc s) n).tec = (ctlOf s n).tec ∧ (ctlOf (canTxEnd n .lost tdc s) n).txFr = (ctlOf s n).txFr ∧
      (ctlOf (canTxEnd n .lost tdc s) n).sending = none ∧
      (canBuf (canTxEnd n .lost tdc s) n b).pend = (canBuf s n b).pend ∧ (canTxEnd n .lost tdc s).evr = s.evr := by
  obtain ⟨_, _, hctl⟩ := uncounted_ctl n b .lost tdc s
  have hsame : canErrors n (uncounted n b .lost tdc s) = uncounted n b .lost tdc s := by
    refine canErrors_of_active ?_ ?_ ?_ <;> rw [hctl]
    · exact hmode
    · exact htec
    · exact hrec
  have honly : OnlyCan s (uncounted n b .lost tdc s) := (txEnded_onlyCan n b .lost tdc s).modBuf n b _
  rw [canTxEnd_of_lost hsending hb haborts hbuf hstops, hsame, hctl, uncounted_pend, honly.evr]
  exact ⟨rfl, rfl, rfl, rfl, rfl⟩

theorem canTxEnd_tt_fields (hbuf : bufMode s n b = 2) (htec : (ctlOf s n).tec < 120) :
    (ctlOf (canTxEnd n .other tdc s) n).tec = (ctlOf s n).tec + 8 ∧
      (ctlOf (canTxEnd n .other tdc s) n).errFr = (ctlOf s n).errFr + 1 ∧
      (canBuf (canTxEnd n .other tdc s) n b).pend = none := by
  obtain ⟨_, _, huncounted⟩ := uncounted_ctl n b .other tdc s
  obtain ⟨_, hfreed⟩ := freed_ctl n b (uncounted n b .other tdc s)
  rw [huncounted] at hfreed
  have hsame : canErrors n (freed n b (uncounted n b .other tdc s)) = freed n b (uncounted n b .other tdc s) := by
    refine canErrors_of_active ?_ ?_ ?_ <;> rw [hfreed]
    · exact hmode
    · exact Nat.add_lt_of_lt_sub htec
    · exact hrec
  rw [canTxEnd_of_tt hsending hb haborts hbuf, hsame, hfreed, freed_buf]
  exact ⟨rfl, rfl, rfl⟩

end Fields

end End

end Sys2Proof.Proofs.CanControllers
end

section
/-!
The CAN controllers by themselves: buffers that fire, bus idle, recovery and time-triggered cycles (13_can).
-/
namespace Sys2Proof.Proofs.CanControllers
open Sys2Proof Sys2Proof.Machine Sys2Proof.Laws
open Sys2Proof.Proofs.Notes

variable {s : Device} {n b : Nat}

/-! ## Buffers that fire (R515, R519) -/

theorem canFire_of_other (h : bufMode s n b ≠ 1 ∨ canFiring (bufRec s n b) (nowD s) = none) : canFire n b s = s := by
  unfold canFire
  dsimp only
  obtain h | h := h
  · split
    · rfl
    · rw [bne_iff_ne.mpr h, Bool.or_true, Bool.true_or, Bool.true_or, if_pos rfl]
  · rw [h]

section Fire
variable {t : STime} (hfiring : canFiring (bufRec s n b) (nowD s) = some t) (hb : b ≤ 14) (hmode : bufMode s n b = 1)
  (hnew : t ≠ (canBuf s n b).fired) (hcreated : created s 0x0D 2 (16 * n + b) = true)
  (hdata : (canBuf s n b).data.isSome = true) (hlive : canLive (ctlOf s n) = true)
include hfiring hb hmode hnew hcreated hdata hlive

theorem canFire_of_due : canFire n b s =
    if (canBuf s n b).pend.isSome then
      modCtl n (fun c => { c with late := c.late + 1 }) (modBuf n b (fun q => { q with fired := t }) s)
    else modBuf n b (fun q => { q with pend := some t, started := false, stopped := false })
      (modBuf n b (fun q => { q with fired := t }) s) := by
  have hskip : (decide (14 < b) || bufMode s n b != 1 || decide (t = (canBuf s n b).fired) ||
      !created s 0x0D 2 (16 * n + b)) = false := by
    rw [decide_eq_false hb.not_gt, hmode, decide_eq_false hnew, hcreated]
    rfl
  have hstill : ((canBuf s n b).data.isNone || (ctlOf s n).mode == .off || (ctlOf s n).mode == .listenOnly) = false := by
    rw [Bool.or_assoc, beq_of_live hlive, Option.isNone_eq_false_iff.mpr hdata]
    rfl
  unfold canFire
  dsimp only
  rw [hfiring]
  dsimp only
  rw [hskip, if_neg Bool.false_ne_true, ctlOf_modBuf]
  dsimp only
  rw [hstill, if_neg Bool.false_ne_true]

theorem canFire_of_idle (hpend : (canBuf s n b).pend = none) : canFire n b s =
    modBuf n b (fun q => { q with pend := some t, started := false, stopped := false })
      (modBuf n b (fun q => { q with fired := t }) s) := by
  rw [canFire_of_due hfiring hb hmode hnew hcreated hdata hlive, hpend]
  rfl

theorem canFire_of_pending (hpend : (canBuf s n b).pend.isSome = true) : canFire n b s =
    modCtl n (fun c => { c with late := c.late + 1 }) (modBuf n b (fun q => { q with fired := t }) s) := by
  rw [canFire_of_due hfiring hb hmode hnew hcreated hdata hlive, hpend, if_pos rfl]

theorem canFire_fields : (canBuf (canFire n b s) n b).fired = t ∧
    ((canBuf s n b).pend = none → (canBuf (canFire n b s) n b).pend = some t ∧
      (ctlOf (canFire n b s) n).late = (ctlOf s n).late) ∧
    ((canBuf s n b).pend.isSome = true → (canBuf (canFire n b s) n b).pend = (canBuf s n b).pend ∧
      (ctlOf (canFire n b s) n).late = (ctlOf s n).late + 1) := by
  obtain hpend | ⟨x, hpend⟩ := Option.eq_none_or_eq_some (canBuf s n b).pend
  · rw [canFire_of_idle hfiring hb hmode hnew hcreated hdata hlive hpend, canBuf_modBuf, canBuf_modBuf, ctlOf_modBuf,
      ctlOf_modBuf, hpend]
    exact ⟨rfl, fun _ => ⟨rfl, rfl⟩, fun h => absurd h Bool.false_ne_true⟩
  · have hbuf : canBuf (modCtl n (fun c => { c with late := c.late + 1 }) (modBuf n b (fun q => { q with fired := t }) s)) n b =
        canBuf (modBuf n b (fun q => { q with fired := t }) s) n b := by
      rw [canBuf, ctlOf_modCtl]
      rfl
    rw [canFire_of_pending hfiring hb hmode hnew hcreated hdata hlive (Option.isSome_of_eq_some hpend), hbuf, canBuf_modBuf,
      ctlOf_modCtl, ctlOf_modBuf, hpend]
    exact ⟨rfl, fun h => absurd h (Option.some_ne_none x), fun _ => ⟨rfl, rfl⟩⟩

end Fire

theorem canTxLate_of_late {t : STime}
    (hlaunch : (if b = 15 then (ctlOf s n).queue.head?.map (·.launch) else
      if bufMode s n b = 1 then (canBuf s n b).pend else none) = some t)
    (hset : t ≠ 0) (hlate : t + msT 1 ≤ nowD s) (hwaits : (canBuf s n b).started = false) :
    canTxLate n b s = raise Ev.canTxLate [(1, n), (1, b)] (canIdle n b (modCtl n (fun c => { c with late := c.late + 1 }) s)) := by
  unfold canTxLate
  dsimp only
  rw [hlaunch]
  dsimp only
  rw [decide_eq_false hset, decide_eq_false hlate.not_gt, hwaits, Bool.or_self, Bool.or_self, if_neg Bool.false_ne_true]

/-! ## Recovery, bus idle and enables (R526, R538, R541) -/

theorem busOffDone_of_asked (hmode : (ctlOf s n).mode = .busOff)
    (hask : canFlag s n 5 = true ∨ (ctlOf s n).recovering = true) :
    busOffDone n s = raise Ev.canErrorActive [(1, n)]
      (modCtl n (fun c => { c with mode := .errorActive, tec := 0, rec_ := 0, recovering := false }) s) := by
  have hdone : ((ctlOf s n).mode == .busOff && (canFlag s n 5 || (ctlOf s n).recovering)) = true := by
    obtain h | h := hask <;> rw [hmode, h] <;> simp
  unfold busOffDone
  dsimp only
  rw [hdone, if_pos rfl]

theorem busOffDone_of_other
    (h : (ctlOf s n).mode ≠ .busOff ∨ (canFlag s n 5 = false ∧ (ctlOf s n).recovering = false)) : busOffDone n s = s := by
  have hdone : ((ctlOf s n).mode == .busOff && (canFlag s n 5 || (ctlOf s n).recovering)) = false := by
    obtain h | ⟨hflag, hrec⟩ := h
    · rw [beq_false_of_ne h, Bool.false_and]
    · rw [hflag, hrec, Bool.or_self, Bool.and_false]
  unfold busOffDone
  dsimp only
  rw [hdone, if_neg Bool.false_ne_true]

theorem canEnWrite_of_free {v : Nat} (h : s.clk.held = none) :
    canEnWrite v s = { hazard 0xD0000 s with can.en := v % 256 } := by
  unfold canEnWrite domeWrite
  rw [h]
  rfl

section Idle
variable (hidle : (ctlOf s n).sending = none)
include hidle

theorem canBusIdle_of_start (hpermit : canPermitted s n = true) (hmode : (ctlOf s n).mode = .off) :
    canBusIdle n s = modCtl n (fun c => { c with
      mode := if canFlag s n 4 || s.pai.standby then .listenOnly else .errorActive, tec := 0, rec_ := 0,
      refFrom := some (nowD s) }) s := by
  unfold canBusIdle
  dsimp only
  rw [hidle, Option.isSome_none, if_neg Bool.false_ne_true, hpermit, Bool.not_true, if_neg Bool.false_ne_true, hmode,
    beq_self_eq_true, if_pos rfl]

theorem canBusIdle_of_barred (hpermit : canPermitted s n = false) (hmode : (ctlOf s n).mode ≠ .off)
    (hreq : (ctlOf s n).modeReq = none) :
    canBusIdle n s = modCtl n (fun c => { c with
      mode := .off, modeReq := none, recovering := false, synced := false, refFrom := none }) s := by
  unfold canBusIdle
  dsimp only
  rw [hidle, Option.isSome_none, if_neg Bool.false_ne_true, hpermit, Bool.not_false, if_pos rfl, beq_false_of_ne hmode,
    if_neg Bool.false_ne_true, hreq]

theorem canBusIdle_of_request {listen : Bool} {p : Pend} (hpermit : canPermitted s n = true)
    (hmode : (ctlOf s n).mode = .errorActive) (hact : s.pai.standby = false)
    (hreq : (ctlOf s n).modeReq = some (listen, some p)) :
    canBusIdle n s = finish p .ok 1 [] (modCtl n (fun c => { c with
      mode := if listen then .listenOnly else .errorActive, modeReq := none }) s) := by
  unfold canBusIdle
  dsimp only
  rw [hidle, Option.isSome_none, if_neg Bool.false_ne_true, hpermit, Bool.not_true, if_neg Bool.false_ne_true, hmode,
    hact, hreq]
  rfl

end Idle

/-! ## Time-triggered communication (R530 to R533) -/

theorem ttReference_of_plain (h : canFlag s n 2 = false ∨ canFlag s n 3 = false) : ttReference n s = s := by
  unfold ttReference
  refine if_pos ?_
  obtain h | h := h <;> rw [h] <;> simp

theorem ttReference_of_cycle (htt : canFlag s n 2 = true) (hmaster : canFlag s n 3 = true)
    (hlive : canLive (ctlOf s n) = true) (hidle : (ctlOf s n).sending = none) (hbc : nsT (fld 24 4 (canRec s n)) ≠ 0)
    (hph : nsT (fld 28 4 (canRec s n)) ≤ nowD s) (hact : s.pai.standby = false)
    (hnew : (ctlOf s n).ttCycle ≠ some ((nowD s - nsT (fld 28 4 (canRec s n))) / nsT (fld 24 4 (canRec s n)))) :
    ∃ o k, ttReference n s = emit o (modCtl n (fun c => { c with
      ttCycle := k, ttRef := nowD s, synced := true, sending := some 16
      ttCount := (nowD s - nsT (fld 28 4 (canRec s n))) / nsT (fld 24 4 (canRec s n)) % max 1 (fld 20 1 (canRec s n)) })
        s) := by
  unfold ttReference
  dsimp only
  rw [htt, hmaster, hlive, hidle, decide_eq_false hbc, decide_eq_false hph.not_gt, hact]
  refine ⟨_, _, (if_neg ?_).trans (if_neg hnew)⟩
  exact Bool.false_ne_true

theorem ttRefLost_of_none (h : (ctlOf s n).refFrom = none) : ttRefLost n s = s := by
  unfold ttRefLost
  dsimp only
  rw [h]

theorem ttRefLost_of_silent {t : STime} (h : (ctlOf s n).refFrom = some t) (htt : canFlag s n 2 = true)
    (hslave : canFlag s n 3 = false) (hmode : (ctlOf s n).mode ≠ .off)
    (hsilent : t + 2 * nsT (fld 24 4 (canRec s n)) ≤ nowD s) :
    ttRefLost n s = raise Ev.ttRefLost [(1, n), (1, (ctlOf s n).ttCount)]
      (modCtl n (fun c => { c with synced := false, refFrom := none }) s) := by
  unfold ttRefLost
  dsimp only
  rw [h]
  dsimp only
  rw [htt, hslave, bne_iff_ne.mpr hmode, decide_eq_true hsilent, Bool.not_false, Bool.and_self, Bool.and_self, Bool.and_self,
    if_pos rfl]

section Window
variable (hb : b ≤ 14) (hmode : bufMode s n b = 2) (hcreated : created s 0x0D 2 (16 * n + b) = true)
include hb hmode hcreated

theorem ttWindow_serves : (decide (14 < b) || bufMode s n b != 2 || !created s 0x0D 2 (16 * n + b)) = false := by
  rw [decide_eq_false hb.not_gt, hmode, hcreated]
  rfl

theorem ttWindow_of_open (hpend : (canBuf s n b).pend = none) (hsynced : (ctlOf s n).synced = true)
    (hnew : (canBuf s n b).served ≠ some (ctlOf s n).ttRef)
    (hopen : (ctlOf s n).ttRef + usT (fld 28 2 (bufRec s n b)) ≤ nowD s)
    (hcycle : (ctlOf s n).ttCount % max 1 (fld 25 1 (bufRec s n b)) = fld 24 1 (bufRec s n b))
    (hdata : (canBuf s n b).data.isSome = true) (hoff : (ctlOf s n).mode ≠ .off) (hsends : (ctlOf s n).mode ≠ .listenOnly) :
    ttWindow n b s = modBuf n b (fun q => { q with
        pend := some ((ctlOf s n).ttRef + usT (fld 28 2 (bufRec s n b))), started := false })
      (modBuf n b (fun q => { q with served := some (ctlOf s n).ttRef }) s) := by
  unfold ttWindow
  dsimp only
  rw [ttWindow_serves hb hmode hcreated, if_neg Bool.false_ne_true, hpend]
  dsimp only
  rw [hsynced, decide_eq_false hnew, decide_eq_false hopen.not_gt, decide_eq_false (not_not_intro hcycle), Bool.not_true,
    Bool.or_self, Bool.or_self, Bool.or_self, if_neg Bool.false_ne_true, Option.isNone_eq_false_iff.mpr hdata,
    beq_false_of_ne hoff, beq_false_of_ne hsends, Bool.or_self, Bool.or_self, if_neg Bool.false_ne_true]

theorem ttWindow_of_passed {t : STime} (hpend : (canBuf s n b).pend = some t)
    (hplain : bit 3 (fld 0 1 (bufRec s n b)) = false) (hpassed : t + usT (fld 30 2 (bufRec s n b)) < nowD s)
    (hwaits : (ctlOf s n).sending ≠ some b) :
    ttWindow n b s = canIdle n b (modCtl n (fun c => { c with late := c.late + 1 }) s) := by
  have htill : ttTill s n b t = t + usT (fld 30 2 (bufRec s n b)) := by
    unfold ttTill
    dsimp only
    rw [hplain, if_neg Bool.false_ne_true]
  unfold ttWindow
  dsimp only
  rw [ttWindow_serves hb hmode hcreated, if_neg Bool.false_ne_true, hpend]
  dsimp only
  rw [htill, decide_eq_false hwaits, decide_eq_false hpassed.not_ge, Bool.or_self, if_neg Bool.false_ne_true]

end Window

end Sys2Proof.Proofs.CanControllers
end

section
/-!
Commands of CAN, and the CAN buses together (13_can).
-/
namespace Sys2Proof.Proofs.CanCommands
open Sys2Proof Sys2Proof.Machine Sys2Proof.Laws
open Sys2Proof.Proofs.SecurityAccess Sys2Proof.Proofs.Commands Sys2Proof.Proofs.Notes Sys2Proof.Proofs.CanControllers

variable {d : Desc} {s : Device}

@[simp] theorem ctlOf_started (n : Nat) : ctlOf (started d s) n = ctlOf s n := rfl
@[simp] theorem canBuf_started (n b : Nat) : canBuf (started d s) n b = canBuf s n b := rfl
@[simp] theorem bufMode_started (n b : Nat) : bufMode (started d s) n b = bufMode s n b := rfl

/-- A buffer by the number of its object. -/
theorem bufRec_of_target (t : Nat) : bufRec s (t / 16) (t % 16) = recNow s 0x0D 2 t := by
  unfold bufRec
  rw [Nat.div_add_mod]

theorem bufMode_modBuf (n b : Nat) (f : CanBuf → CanBuf) : bufMode (modBuf n b f s) n b = bufMode s n b := rfl

theorem canBuf_completed (n b : Nat) (st : Status) (detail : Nat) (buf : List Byte) (t : Device) :
    canBuf (completed d s st detail buf t) n b = canBuf t n b := by
  unfold canBuf ctlOf
  rw [completed, (ProgramCommands.finish_noted ..).can]

/-! ## CAN_TX_SET -/

section Set
variable (hbuf : d.target.toNat ≤ 127) (hown : d.target.toNat % 16 ≠ 15)
  (hcreated : created s 0x0D 2 d.target.toNat = true)
include hbuf hown hcreated

/-- Bytes of a buffer's frame, by its record (R510). -/
def frameBytes (d : Desc) (s : Device) : Nat :=
  dlcBytes (fld 4 4 (recNow s 0x0D 2 d.target.toNat)) (fld 8 1 (recNow s 0x0D 2 d.target.toNat))

/-- The buffer of a command with the bytes given. -/
def dataSet (d : Desc) (s : Device) : Device :=
  modBuf (d.target.toNat / 16) (d.target.toNat % 16)
    (fun q => { q with data := some (d.buf.bytes.take (frameBytes d s)) }) (started d s)

theorem canTxSet_of_live (hlive : canLive (ctlOf s (d.target.toNat / 16)) = true) (hacc : d.buf.acc = .ok)
    (hfields : badField { bufMin := frameBytes d s, bufMax := frameBytes d s } [] d = none)
    (hfree : bufMode s (d.target.toNat / 16) (d.target.toNat % 16) ≠ 0 ∨
      (canBuf s (d.target.toNat / 16) (d.target.toNat % 16)).pend = none) :
    canTxSet (pendOf d s) (started d s) = .done .ok 0 []
      (if bufMode s (d.target.toNat / 16) (d.target.toNat % 16) = 0 then
        modBuf (d.target.toNat / 16) (d.target.toNat % 16)
          (fun q => { q with pend := some 0, started := false, stopped := false }) (dataSet d s)
      else dataSet d s) := by
  have hfound : (decide (127 < d.target.toNat) || decide (d.target.toNat % 16 = 15) ||
      !created (started d s) 0x0D 2 d.target.toNat) = false := by
    rw [created_started, decide_eq_false hbuf.not_gt, decide_eq_false hown, hcreated]
    rfl
  have hstate : ((ctlOf s (d.target.toNat / 16)).mode == .off || (ctlOf s (d.target.toNat / 16)).mode == .listenOnly ||
      (bufMode s (d.target.toNat / 16) (d.target.toNat % 16) == 0 &&
        (canBuf s (d.target.toNat / 16) (d.target.toNat % 16)).pend.isSome)) = false := by
    rw [beq_of_live hlive, Bool.false_or]
    obtain h | h := hfree
    · rw [beq_false_of_ne h, Bool.false_and]
    · rw [h, Option.isSome_none, Bool.and_false]
  unfold canTxSet
  dsimp only
  rw [pendOf_desc, bufRec_of_target, recNow_started, ctlOf_started, bufMode_started, canBuf_started, ← frameBytes]
  exact ProgramCommands.checked_when_fields_when_buffer hfound hfields hstate hacc

omit hown in
theorem canTxAbort_found (hctl : created s 0x0D 1 (d.target.toNat / 16) = true) :
    (decide (127 < d.target.toNat) || !created (started d s) 0x0D 1 (d.target.toNat / 16) ||
      (d.target.toNat % 16 != 15 && !created (started d s) 0x0D 2 d.target.toNat)) = false := by
  rw [created_started, created_started, decide_eq_false hbuf.not_gt, hctl, hcreated, Bool.not_true, Bool.and_false]
  rfl

section Abort
variable (hctl : created s 0x0D 1 (d.target.toNat / 16) = true) (hfields : badField plain [] d = none)
  (hpend : (canBuf s (d.target.toNat / 16) (d.target.toNat % 16)).pend.isSome = true)
include hctl hfields hpend

theorem canTxAbort_of_waiting (hwaits : (ctlOf s (d.target.toNat / 16)).sending ≠ some (d.target.toNat % 16)) :
    canTxAbort (pendOf d s) (started d s) = .done .ok 0 [] (modBuf (d.target.toNat / 16) (d.target.toNat % 16)
      (fun q => { q with pend := none, started := false }) (started d s)) := by
  unfold canTxAbort
  dsimp only
  rw [pendOf_desc, if_neg hown, canBuf_started, hpend, ctlOf_started]
  refine (checked_when_fields_when (canTxAbort_found hbuf hcreated hctl) hfields rfl).trans ((if_neg hwaits).trans ?_)
  rw [canIdle_of_buffer hown]
  rfl

theorem canTxAbort_of_sending (hsends : (ctlOf s (d.target.toNat / 16)).sending = some (d.target.toNat % 16)) :
    canTxAbort (pendOf d s) (started d s) = .wait (modCtl (d.target.toNat / 16)
      (fun c => { c with aborts := c.aborts ++ [pendOf d s] }) (started d s)) := by
  unfold canTxAbort
  dsimp only
  rw [pendOf_desc, if_neg hown, canBuf_started, hpend, ctlOf_started]
  exact (checked_when_fields_when (canTxAbort_found hbuf hcreated hctl) hfields rfl).trans (if_pos hsends)

end Abort
end Set

/-! ## The other commands -/

section Controller
variable (hctl : d.target.toNat ≤ 7)
include hctl

section Recover
variable (hfields : badField plain [] d = none)
include hfields

theorem canRecover_of_busOff (hmode : (ctlOf s d.target.toNat).mode = .busOff) :
    canRecover (pendOf d s) (started d s) = .done .ok 0 []
      (modCtl d.target.toNat (fun c => { c with recovering := true }) (started d s)) := by
  unfold canRecover
  refine checked_when_fields_when (decide_eq_false hctl.not_gt) hfields ?_
  rw [pendOf_desc, ctlOf_started, hmode]
  rfl

theorem canRecover_of_other (hmode : (ctlOf s d.target.toNat).mode ≠ .busOff) :
    canRecover (pendOf d s) (started d s) = .done .rejectedState 0 [] (started d s) := by
  unfold canRecover
  exact checked_when_fields_refused (decide_eq_false hctl.not_gt) hfields (bne_iff_ne.mpr hmode)

end Recover

theorem canSetMode_of_free (hfields : badField { pmask := 1 } [(1 < d.p0.toNat, 24)] d = none)
    (hmode : (ctlOf s d.target.toNat).mode ≠ .off) (hact : s.pai.standby = false)
    (hreq : (ctlOf s d.target.toNat).modeReq = none) :
    canSetMode (pendOf d s) (started d s) = .wait (modCtl d.target.toNat
      (fun c => { c with modeReq := some (d.p0 == 1, some (pendOf d s)) }) (started d s)) := by
  have hstate : ((ctlOf s d.target.toNat).mode == .off || s.pai.standby) = false := by
    rw [beq_false_of_ne hmode, hact]
    rfl
  have hnone : (ctlOf s d.target.toNat).modeReq.isSome = false := by
    rw [hreq]
    rfl
  unfold canSetMode
  exact checked_none _ _ _ _ ((firstFail_when_false (decide_eq_false hctl.not_gt) _ _ _).trans
    ((firstFail_bad hfields _).trans ((firstFail_when_false hstate _ _ _).trans
      ((firstFail_when_false hnone _ _ _).trans firstFail_nil))))

theorem canClear_of_fields (hfields : badField { pmask := 1 } [(512 ≤ d.p0.toNat, 24)] d = none) :
    canClear (pendOf d s) (started d s) = .done .ok 0 [] (modCtl d.target.toNat (fun c => { c with
      txFr := clr d.p0.toNat 0 c.txFr, rxFr := clr d.p0.toNat 1 c.rxFr, errFr := clr d.p0.toNat 2 c.errFr
      noMatch := clr d.p0.toNat 3 c.noMatch, rxDrop := clr d.p0.toNat 4 c.rxDrop, short := clr d.p0.toNat 5 c.short
      late := clr d.p0.toNat 6 c.late, alone := clr d.p0.toNat 7 c.alone, coll := clr d.p0.toNat 8 c.coll })
        (started d s)) := by
  unfold canClear
  exact checked_when_fields (decide_eq_false hctl.not_gt) hfields

end Controller

section Absent
variable (h : 128 ≤ d.target.toNat)
include h

theorem canTxSet_of_absent : canTxSet (pendOf d s) (started d s) = .done .notFound 0 [] (started d s) := by
  unfold canTxSet
  refine checked_refused ?_
  rw [pendOf_desc, decide_eq_true (Nat.lt_of_succ_le h), Bool.true_or, Bool.true_or]

theorem canTxAbort_of_absent : canTxAbort (pendOf d s) (started d s) = .done .notFound 0 [] (started d s) := by
  unfold canTxAbort
  refine checked_refused ?_
  rw [pendOf_desc, decide_eq_true (Nat.lt_of_succ_le h), Bool.true_or, Bool.true_or]

theorem controller_absent : decide (7 < (pendOf d s).desc.target.toNat) = true := by
  rw [pendOf_desc]
  exact decide_eq_true (by omega)

theorem canRecover_of_absent : canRecover (pendOf d s) (started d s) = .done .notFound 0 [] (started d s) := by
  unfold canRecover
  exact checked_refused (controller_absent h)

theorem canSetMode_of_absent : canSetMode (pendOf d s) (started d s) = .done .notFound 0 [] (started d s) := by
  unfold canSetMode
  exact checked_refused (controller_absent h)

theorem canClear_of_absent : canClear (pendOf d s) (started d s) = .done .notFound 0 [] (started d s) := by
  unfold canClear
  exact checked_refused (controller_absent h)

end Absent

/-! ## The buses together -/

/-- Settles O53. The steps of TEC and REC follow ISO 11898-1 (log 37). -/
theorem canBuses : Obligations.CanBuses := by
  unfold Obligations.CanBuses
  refine ⟨fun n f s hsilent => ?_, fun n k f s hmode herr htec hrec => ?_,
    fun n f s hmode htec hrec herr htt hno hfilter => ?_,
    fun n k r f s hmode htec hrec herr htt hfilter hkept hdest => ?_,
    fun n k r f s hmode htec hrec herr htt hfilter hkept hdest => ?_,
    fun n k r f s hmode htec hrec herr htt hfilter hkept hdest => ?_,
    fun n k r f s hmode htec hrec herr htt hfilter hkept hdest => ?_,
    fun n b f s hpick hlive hidle hreq hdrives => ?_, fun n b k f g s hpick hk hcand => ?_,
    fun n s hnone => ?_, fun n b tdc s hsending hb haborts hmode htec hrec => ?_,
    fun n b tdc s hsending hb haborts hbuf hstops hmode htec hrec => ?_,
    fun n b tdc s hsending hb hbuf haborts hmode htec hrec => ?_, fun n tdc how s hidle => ?_,
    fun n b t s hfiring hb hmode hnew hcreated hdata hlive => ?_, fun n b s hother => ?_,
    fun n b t s hlaunch hset hlate hwaits => ?_, fun n s hmode hask => ?_, fun n s hother => ?_,
    fun n s htt hmaster hlive hidle hbc hph hact hnew => ?_, fun n s hplain => ?_,
    fun n t s hfrom htt hslave hmode hsilent => ?_, fun n s hnone => ?_,
    fun n b s hb hmode hcreated hpend hsynced hnew hopen hcycle hdata hoff hsends => ?_,
    fun n b t s hb hmode hcreated hpend hplain hpassed hwaits => ?_, fun v s hfree => ?_,
    fun n s hpermit hmode hidle => ?_, fun n s hpermit hmode hreq hidle => ?_,
    fun n listen p s hpermit hmode hidle hact hreq => ?_,
    fun d s hstart hbuf hown hcreated hmode hpend hlive hacc hfields => ?_,
    fun d s hstart hbuf hown hcreated hmode hlive hacc hfields => ?_,
    fun d s hstart hbuf hown hctl hcreated hfields hpend hwaits => ?_,
    fun d s hstart hbuf hown hctl hcreated hfields hpend hsends => ?_,
    fun d s hstart hctl hfields hmode => ?_, fun d s hstart hctl hfields hmode => ?_,
    fun d s hstart hctl hfields hmode hact hreq => ?_, fun d s hstart hctl hfields => ?_,
    fun d s hstart habsent => ⟨?_, ?_, ?_, ?_, ?_⟩⟩
  · rw [exec_canFrameReceive, execCanFrameReceive, canReceive_of_silent hsilent]
  · refine ⟨_, exec_canFrameReceive .., ?_⟩
    rw [canReceive_of_error hmode htec herr hrec, ctlOf_modCtl, ctlOf_modCtl]
    exact ⟨rfl, rfl, rfl, hmode, rfl, rfl⟩
  · refine ⟨_, exec_canFrameReceive .., ?_⟩
    rw [canReceive_of_unfiltered hmode htec hrec herr htt hfilter hno, ctlOf_modCtl, received_ctl]
    exact ⟨rfl, rfl, rfl, rfl, rfl, rfl⟩
  · refine ⟨received n s.dev, ?_, received_fields n s.dev⟩
    rw [exec_canFrameReceive, execCanFrameReceive,
      canReceive_of_destinations hmode htec hrec herr htt hfilter hkept hdest]
    rfl
  · refine ⟨received n s.dev, ?_, received_fields n s.dev⟩
    rw [exec_canFrameReceive, execCanFrameReceive,
      canReceive_of_destinations hmode htec hrec herr htt hfilter hkept hdest]
    rfl
  · refine ⟨received n s.dev, ?_, received_fields n s.dev⟩
    rw [exec_canFrameReceive, execCanFrameReceive,
      canReceive_of_destinations hmode htec hrec herr htt hfilter hkept hdest]
    rfl
  · refine ⟨received n s.dev, ?_, received_fields n s.dev⟩
    rw [exec_canFrameReceive, execCanFrameReceive,
      canReceive_of_destinations hmode htec hrec herr htt hfilter hkept hdest]
    rfl
  · rw [exec_canTxStart, execCanTxStart, canTxStart_of_pick hpick hlive hidle hreq hdrives]
  · obtain ⟨hle, hlow⟩ := (canPick_best s n).best b f hpick k hk g hcand
    exact ⟨hle, hlow, ((canPick_best s n).below b f hpick).2⟩
  · rw [exec_canTxStart, execCanTxStart, canTxStart_of_none hnone]
  · exact ⟨_, exec_canTxEnd .., canTxEnd_sent_fields hsending hb haborts hmode hrec htec⟩
  · exact ⟨_, exec_canTxEnd .., canTxEnd_lost_fields hsending hb haborts hmode hrec hbuf hstops htec⟩
  · exact ⟨_, exec_canTxEnd .., canTxEnd_tt_fields hsending hb haborts hmode hrec hbuf htec⟩
  · rw [exec_canTxEnd, execCanTxEnd, canTxEnd_of_idle hidle]
  · exact ⟨_, exec_periodicBufferFiring .., canFire_fields hfiring hb hmode hnew hcreated hdata hlive⟩
  · rw [exec_periodicBufferFiring, execPeriodicBufferFiring, canFire_of_other hother]
  · rw [exec_canTxLate, execCanTxLate, canTxLate_of_late hlaunch hset hlate hwaits]
  · rw [exec_busOffRecoveryDone, execBusOffRecoveryDone, busOffDone_of_asked hmode hask]
  · rw [exec_busOffRecoveryDone, execBusOffRecoveryDone, busOffDone_of_other hother]
  · obtain ⟨o, k, hsent⟩ := ttReference_of_cycle htt hmaster hlive hidle hbc hph hact hnew
    refine ⟨_, exec_ttReferenceSend .., ?_⟩
    have hctl (t : Device) : ctlOf (emit o t) n = ctlOf t n := rfl
    rw [hsent, hctl, ctlOf_modCtl]
    exact ⟨rfl, rfl, rfl, rfl⟩
  · rw [exec_ttReferenceSend, execTtReferenceSend, ttReference_of_plain hplain]
  · rw [exec_ttRefLost, execTtRefLost, ttRefLost_of_silent hfrom htt hslave hmode hsilent]
  · rw [exec_ttRefLost, execTtRefLost, ttRefLost_of_none hnone]
  · refine ⟨_, exec_ttWindow .., ?_⟩
    rw [ttWindow_of_open hb hmode hcreated hpend hsynced hnew hopen hcycle hdata hoff hsends, canBuf_modBuf, canBuf_modBuf]
    exact ⟨rfl, rfl⟩
  · rw [exec_ttWindow, execTtWindow, ttWindow_of_passed hb hmode hcreated hpend hplain hpassed hwaits]
  · rw [exec_canEnWrite, execCanEnWrite, canEnWrite_of_free hfree]
  · rw [exec_canBusIdle, execCanBusIdle, canBusIdle_of_start hidle hpermit hmode]
  · rw [exec_canBusIdle, execCanBusIdle, canBusIdle_of_barred hidle hpermit hmode hreq]
  · rw [exec_canBusIdle, execCanBusIdle, canBusIdle_of_request hidle hpermit hmode hact hreq]
  · refine ⟨_, exec_canTxSet .., ?_⟩
    have hfree := canTxSet_of_live hbuf hown hcreated hlive hacc hfields (.inr hpend)
    rw [if_pos hmode] at hfree
    rw [runCmd_of_done hstart hfree]
    refine ⟨?_, ?_, finish_ok_not_halted (p := pendOf d s.dev) _ _ (ring_not_halted_of_canStart hstart)⟩ <;>
      rw [canBuf_completed, canBuf_modBuf]
    rw [dataSet, canBuf_modBuf]
    rfl
  · rw [exec_canTxSet, execCanTxSet, runCmd_of_done hstart
      (canTxSet_of_live hbuf hown hcreated hlive hacc hfields (.inl hmode)), if_neg hmode]
    rfl
  · rw [exec_canTxAbort, execCanTxAbort,
      runCmd_of_done hstart (canTxAbort_of_waiting hbuf hown hcreated hctl hfields hpend hwaits)]
  · rw [exec_canTxAbort, execCanTxAbort,
      runCmd_of_wait hstart (canTxAbort_of_sending hbuf hown hcreated hctl hfields hpend hsends)]
  · rw [exec_canRecover, execCanRecover, runCmd_of_done hstart (canRecover_of_busOff hctl hfields hmode)]
  · rw [exec_canRecover, execCanRecover, runCmd_of_done hstart (canRecover_of_other hctl hfields hmode)]
  · rw [exec_canSetMode, execCanSetMode, runCmd_of_wait hstart (canSetMode_of_free hctl hfields hmode hact hreq)]
  · rw [exec_canClearCounters, execCanClearCounters, runCmd_of_done hstart (canClear_of_fields hctl hfields)]
  · rw [exec_canTxSet, execCanTxSet, runCmd_of_done hstart (canTxSet_of_absent habsent)]
  · rw [exec_canTxAbort, execCanTxAbort, runCmd_of_done hstart (canTxAbort_of_absent habsent)]
  · rw [exec_canRecover, execCanRecover, runCmd_of_done hstart (canRecover_of_absent habsent)]
  · rw [exec_canSetMode, execCanSetMode, runCmd_of_done hstart (canSetMode_of_absent habsent)]
  · rw [exec_canClearCounters, execCanClearCounters, runCmd_of_done hstart (canClear_of_absent habsent)]

end Sys2Proof.Proofs.CanCommands
end

section
/-!
The pair in a takeover (16_pair): every unit that resumes leaves the state of the pair as it is.
-/
namespace Sys2Proof.Proofs.PairFrame
open Sys2Proof Sys2Proof.Machine Sys2Proof.Laws
open Sys2Proof.Proofs.Commands Sys2Proof.Proofs.Configuration

@[simp] theorem ite_pai (c : Prop) [Decidable c] (s t : Device) :
    (if c then s else t).pai = if c then s.pai else t.pai := apply_ite Device.pai c s t

@[simp] theorem foldl_pai {α : Type} {f : Device → α → Device} (h : ∀ t a, (f t a).pai = t.pai) (l : List α)
    (s : Device) : (l.foldl f s).pai = s.pai := foldl_field Device.pai h l s

@[simp] theorem draw_pai (s : Device) : (draw s).2.pai = s.pai := rfl

@[simp] theorem pmcEdges_pai (blk sig idx k : Nat) (s : Device) : (pmcEdges blk sig idx k s).pai = s.pai := by
  unfold pmcEdges
  simp

@[simp] theorem ltnLose_pai (c : Nat) (t : STime) (s : Device) : (ltnLose c t s).pai = s.pai := rfl

@[simp] theorem setRelease_pai (slot : Nat) (t : STime) (s : Device) : (setRelease slot t s).pai = s.pai := rfl

@[simp] theorem beginScan_pai (c : Nat) (s : Device) : (beginScan c s).pai = s.pai := by
  unfold beginScan
  simp

@[simp] theorem scanBoundary_pai (c : Nat) (s : Device) : (scanBoundary c s).pai = s.pai := by
  unfold scanBoundary
  simp

@[simp] theorem convStartUp_pai (c : Nat) (t : STime) (s : Device) : (convStartUp c t s).pai = s.pai := by
  unfold convStartUp
  simp

@[simp] theorem convShutDown_pai (c : Nat) (s : Device) : (convShutDown c s).pai = s.pai := by
  unfold convShutDown
  dsimp only
  rw [foldl_pai]
  · exact foldl_pai (fun t k => modChan_pai ..) _ s
  · intro t u
    split <;> simp

@[simp] theorem commitAdc_pai (t : STime) (old : Nat → List Byte) (s : Device) : (commitAdc t old s).pai = s.pai := by
  unfold commitAdc
  simp

@[simp] theorem poolNotice_pai (pool : Nat) (s : Device) : (poolNotice pool s).pai = s.pai := by
  unfold poolNotice
  split <;> simp

@[simp] theorem retestLoad_pai (s : Device) : (retestLoad s).pai = s.pai := by
  unfold retestLoad
  split <;> simp

@[simp] theorem fillLanes_pai (n : Nat) (s : Device) : (fillLanes n s).pai = s.pai := by
  induction n generalizing s with
  | zero => rfl
  | succ n ih =>
    unfold fillLanes
    split
    · rfl
    · split
      · rfl
      · exact ih _

@[simp] theorem refillLanes_pai (before : Nat) (s : Device) : (refillLanes before s).pai = s.pai := by
  unfold refillLanes
  simp

@[simp] theorem commitDac_pai (old : Nat → List Byte) (s : Device) : (commitDac old s).pai = s.pai := by
  unfold commitDac
  simp

@[simp] theorem pwmLatch_pai (n code : Nat) (t : STime) (s : Device) : (pwmLatch n code t s).pai = s.pai := by
  unfold pwmLatch
  simp

@[simp] theorem commitDio_pai (t : STime) (old2 old3 : Nat → List Byte) (s : Device) :
    (commitDio t old2 old3 s).pai = s.pai := by
  unfold commitDio
  simp

@[simp] theorem modBuf_pai (n b : Nat) (f : CanBuf → CanBuf) (s : Device) : (modBuf n b f s).pai = s.pai := by
  unfold modBuf
  simp

@[simp] theorem commitCan_pai (oldBuf oldFilter : Nat → List Byte) (s : Device) :
    (commitCan oldBuf oldFilter s).pai = s.pai := by
  unfold commitCan
  dsimp only
  rw [foldl_pai, foldl_pai]
  · simp
  · intro t o
    split
    · rfl
    · split <;> simp

@[simp] theorem takeoverCan_pai (s : Device) : (takeoverCan s).pai = s.pai := by
  unfold takeoverCan
  simp

@[simp] theorem setAxMode_pai (a : Nat) (m : AxMode) (s : Device) : (setAxMode a m s).pai = s.pai := by
  unfold setAxMode
  simp

@[simp] theorem putPlan_pai (a : Nat) (t : STime) (k : Kin) (em : Bool) (stop rest : List Piece) (x : F64) (prof : List Byte) (s : Device) :
    (putPlan a t k em stop rest x prof s).pai = s.pai := by
  unfold putPlan
  simp

@[simp] theorem softStop_pai (a : Nat) (b : List Byte) (k : Kin) (s : Device) : (softStop a b k s).2.pai = s.pai := by
  unfold softStop
  dsimp only
  split
  · split <;> simp
  · rfl

@[simp] theorem planTo_pai (a : Nat) (b : List Byte) (t : STime) (k : Kin) (vl x : F64) (s : Device) :
    (planTo a b t k vl x s).pai = s.pai := by
  unfold planTo
  dsimp only
  split <;> simp

@[simp] theorem planStop_pai (a : Nat) (b : List Byte) (t : STime) (k : Kin) (s : Device) :
    (planStop a b t k s).pai = s.pai := by
  unfold planStop
  simp

@[simp] theorem putEstop_pai (a : Nat) (b : List Byte) (t : STime) (k : Kin) (s : Device) :
    (putEstop a b t k s).pai = s.pai := by
  unfold putEstop
  simp

@[simp] theorem planEstop_pai (a : Nat) (b : List Byte) (t : STime) (k : Kin) (s : Device) :
    (planEstop a b t k s).pai = s.pai := by
  unfold planEstop
  simp

@[simp] theorem holdAtStall_pai (a : Nat) (s : Device) : (holdAtStall a s).pai = s.pai :=
  modAxis_pai ..

@[simp] theorem homeStop_pai (a : Nat) (b : List Byte) (t : STime) (stop : Nat) (s : Device) :
    (homeStop a b t stop s).pai = s.pai := by
  unfold homeStop
  split <;> simp

@[simp] theorem restoreHofs_pai (a : Nat) (s : Device) : (restoreHofs a s).pai = s.pai :=
  modAxis_pai ..

theorem homeFail_eq (a : Nat) (b : List Byte) (t : STime) (reason stop : Nat) (s : Device) :
    homeFail a b t reason stop s = raise Ev.motHomeFail [(1, a), (1, reason)] (setAxMode a .homingFailed (modAxis a
      (fun x => { x with target := none, askedAt := some t, stall := none, velFrom := none, homeReq := false })
      (homeStop a b t stop (restoreHofs a s)))) := rfl

@[simp] theorem homeFail_pai (a : Nat) (b : List Byte) (t : STime) (reason stop : Nat) (s : Device) :
    (homeFail a b t reason stop s).pai = s.pai := by
  rw [homeFail_eq, raise_pai, setAxMode_pai, modAxis_pai, homeStop_pai, restoreHofs_pai]

@[simp] theorem modLim_pai (a : Nat) (pos : Bool) (f : Limit → Limit) (s : Device) : (modLim a pos f s).pai = s.pai := by
  unfold modLim
  simp

@[simp] theorem cfgState_pai (m : CfgMode) (s : Device) : (cfgState m s).pai = s.pai :=
  raise_pai ..

@[simp] theorem modClass_pai (p c : Nat) (f : EthClass → EthClass) (s : Device) : (modClass p c f s).pai = s.pai := by
  unfold modClass
  simp

@[simp] theorem creditUpdate_pai (p c : Nat) (s : Device) : (creditUpdate p c s).pai = s.pai := by
  unfold creditUpdate
  simp

@[simp] theorem settleHead_pai (p c : Nat) (s : Device) (fs : List QFrame) : (settleHead p c s fs).pai = s.pai := by
  induction fs generalizing s with
  | nil => exact modClass_pai ..
  | cons f rest ih => unfold settleHead; simp [ih]

@[simp] theorem enqueueFrame_pai (p c : Nat) (f : QFrame) (s : Device) : (enqueueFrame p c f s).pai = s.pai := by
  unfold enqueueFrame
  simp

@[simp] theorem queuePair_pai (p c : Nat) (both : Bool) (build : Nat → QFrame) (s : Device) :
    (queuePair p c both build s).pai = s.pai := by
  unfold queuePair
  simp

@[simp] theorem unlockDomain_pai (d : Nat) (s : Device) : (unlockDomain d s).pai = s.pai := by
  unfold unlockDomain
  simp

@[simp] theorem farCheck_pai (d : Nat) (s : Device) : (farCheck d s).pai = s.pai := by
  unfold farCheck
  simp

@[simp] theorem followState_pai (d : Nat) (s : Device) : (followState d s).pai = s.pai := by
  unfold followState
  split <;> simp

@[simp] theorem followSelection_pai (old new : Nat) (s : Device) : (followSelection old new s).pai = s.pai := by
  unfold followSelection
  simp

@[simp] theorem selectDomain_pai (new cause : Nat) (s : Device) : (selectDomain new cause s).pai = s.pai := by
  unfold selectDomain
  simp

@[simp] theorem commitTim_pai (t : STime) (oldRec : List Byte) (oldTrig : Nat → List Byte) (s : Device) :
    (commitTim t oldRec oldTrig s).pai = s.pai := by
  unfold commitTim
  simp

@[simp] theorem nzSend_pai (st typ cycle time : Nat) (launch : Nat → STime) (payload : List Byte) (s : Device) :
    (nzSend st typ cycle time launch payload s).pai = s.pai := by
  unfold nzSend
  simp

@[simp] theorem sendPiece_pai (st off : Nat) (s : Device) : (sendPiece st off s).pai = s.pai := by
  unfold sendPiece
  simp

@[simp] theorem startParam_pai (st : Nat) (fromLost : Bool) (s : Device) : (startParam st fromLost s).pai = s.pai := by
  unfold startParam
  simp

@[simp] theorem runEth_pai (s : Device) : (runEth s).pai = s.pai := by
  unfold runEth
  simp

@[simp] theorem runPgm_pai (s : Device) : (runPgm s).pai = s.pai := by
  unfold runPgm
  simp

@[simp] theorem fblYield_pai (s : Device) : (fblYield s).pai = s.pai := by
  unfold fblYield
  simp

@[simp] theorem ltnPut_pai (rs : List BufRec) (s : Device) : (ltnPut rs s).pai = s.pai := by
  unfold ltnPut
  simp

@[simp] theorem ltnFull_pai (s : Device) : (ltnFull s).pai = s.pai := by
  unfold ltnFull
  simp

@[simp] theorem putStart_pai (s : Device) : (putStart s).pai = s.pai := by
  unfold putStart
  split <;> simp

@[simp] theorem noteGap_pai (c : Nat) (g : GapPend) (s : Device) : (noteGap c g s).pai = s.pai := by
  unfold noteGap
  simp

@[simp] theorem ltnWrite_pai (c typ flags : Nat) (t : STime) (value : Word) (aux version : Nat) (limit : STime) (s : Device) :
    (ltnWrite c typ flags t value aux version limit s).pai = s.pai := by
  unfold ltnWrite
  dsimp only
  generalize (lchan (putStart s) c).gap.filter (fun g => g.first < limit) = gap
  cases gap <;> simp

@[simp] theorem closeWindow_pai (c : Nat) (s : Device) : (closeWindow c s).pai = s.pai := by
  unfold closeWindow
  split <;> simp

@[simp] theorem stateRec_pai (c : Nat) (on_ : Bool) (t : STime) (s : Device) : (stateRec c on_ t s).pai = s.pai := by
  unfold stateRec
  dsimp only
  split
  · simp
  · split <;> simp

@[simp] theorem setChannel_pai (t : STime) (reload : Bool) (s : Device) (c : Nat) :
    (setChannel t reload s c).pai = s.pai := by
  unfold setChannel
  simp

@[simp] theorem commitLtn_pai (t : STime) (s : Device) : (commitLtn t s).pai = s.pai := by
  unfold commitLtn
  simp

@[simp] theorem takeoverLtn_pai (s : Device) : (takeoverLtn s).pai = s.pai := by
  unfold takeoverLtn
  simp

@[simp] theorem sprResume_pai (s : Device) : (sprResume s).pai = s.pai := by
  have hraised : Touches { s with spr.endsDue := [] } (sprResume s) :=
    List.foldlRecOn s.spr.endsDue _ (.refl _) fun t ht e _ => ht.trans (raise_touches ..)
  exact hraised.pai

@[simp] theorem fitLanes_pai (n : Nat) (s : Device) : (fitLanes n s).pai = s.pai := by
  induction n generalizing s with
  | zero => rfl
  | succ n ih =>
    unfold fitLanes
    dsimp only
    split
    · split
      · exact ih _
      · exact refillLanes_pai _ s
    · split
      · split
        · exact ih _
        · rfl
      · rfl

@[simp] theorem runEngines_pai (s : Device) : (runEngines s).pai = s.pai := by
  unfold runEngines
  simp

@[simp] theorem startJournal_pai (s : Device) : (startJournal s).pai = s.pai := by
  unfold startJournal
  simp

@[simp] theorem startEngines_pai (s : Device) : (startEngines s).pai = s.pai := by
  unfold startEngines
  simp

@[simp] theorem enterRunning_pai (s : Device) : (enterRunning s).pai = s.pai := by
  unfold enterRunning
  simp

@[simp] theorem commitHeld_pai (t : STime) (before : List CfgObj) (s : Device) : (commitHeld t before s).pai = s.pai := by
  unfold commitHeld
  simp

@[simp] theorem resumeLoop_pai (s : Device) (n : Nat) : (resumeLoop s n).pai = s.pai :=
  modLoop_pai ..

@[simp] theorem resumeLimit_pai (a : Nat) (pos keep : Bool) (s : Device) : (resumeLimit a pos keep s).pai = s.pai := by
  unfold resumeLimit
  simp

@[simp] theorem resumeDrive_pai (s : Device) (a : Nat) : (resumeDrive s a).pai = s.pai := by
  unfold resumeDrive
  simp

@[simp] theorem heldTarget_pai (a : Nat) (t : STime) (s : Device) : (heldTarget a t s).pai = s.pai := by
  unfold heldTarget
  simp

@[simp] theorem heldAxis_pai (a : Nat) (t : STime) (kept : Int) (s : Device) : (heldAxis a t kept s).pai = s.pai := by
  unfold heldAxis
  simp

@[simp] theorem resumeAxis_pai (kind : Nat) (s : Device) (a : Nat) : (resumeAxis kind s a).pai = s.pai := by
  unfold resumeAxis
  dsimp only
  split
  · simp
  · cases (axisOf s a).mode <;> simp

@[simp] theorem resumeProgram_pai (kind : Nat) (img : KepImage) (te : STime) (s : Device) (n : Nat) :
    (resumeProgram kind img te s n).pai = s.pai := by
  unfold resumeProgram
  simp

@[simp] theorem resumeStation_pai (s : Device) (st : Nat) : (resumeStation s st).pai = s.pai := by
  unfold resumeStation
  dsimp only
  cases (stnOf s st).mode <;> simp

@[simp] theorem resumeTask_pai (s : Device) (slot : Nat) : (resumeTask s slot).pai = s.pai := by
  unfold resumeTask
  simp

@[simp] theorem resumeWarm_pai (kind : Nat) (q : KepSlot) (s : Device) : (resumeWarm kind q s).pai = s.pai := by
  unfold resumeWarm
  simp

@[simp] theorem resumeCold_pai (kind : Nat) (s : Device) : (resumeCold kind s).pai = s.pai := by
  unfold resumeCold
  simp

@[simp] theorem savedCfg_pai (s : Device) : (savedCfg s).pai = s.pai := by
  unfold savedCfg
  split <;> simp

@[simp] theorem writeOuts_pai (q : KepSlot) (s : Device) : (writeOuts q s).pai = s.pai := by
  unfold writeOuts
  simp

@[simp] theorem takeoverCfg_pai (q : KepSlot) (s : Device) : (takeoverCfg q s).pai = s.pai := by
  unfold takeoverCfg
  simp


end Sys2Proof.Proofs.PairFrame
end

section
/-!
The pair: heartbeats, packets and lanes (16_pair).
-/
namespace Sys2Proof.Proofs.Pairs
open Sys2Proof Sys2Proof.Machine Sys2Proof.Laws
open Sys2Proof.Proofs.Notes Sys2Proof.Proofs.PairFrame

variable {s : Device}

/-! ## States of the pair -/

/-- A change of state is named; nothing else of the pair changes (R626). -/
theorem paiState_noted (m : PaiMode) (s : Device) : Noted { s with pai.mode := m } (paiState m s) := by
  unfold paiState
  split
  · next h =>
    have hsame : ({ s with pai.mode := m } : Device) = s := by rw [← eq_of_beq h]
    rw [hsame]
    exact .refl s
  · exact raise_noted ..

theorem paiState_pai (m : PaiMode) (s : Device) : (paiState m s).pai = { s.pai with mode := m } := (paiState_noted m s).pai

/-! ## Heartbeats (R626, R635) -/

theorem heartbeatSend_of_early (h : s.pai.mode = .off ∨ nowD s / usT 100 * usT 100 ≤ s.pai.sentAt) :
    heartbeatSend s = s := by
  unfold heartbeatSend
  dsimp only
  obtain h | h := h
  · rw [h, beq_self_eq_true, Bool.true_or, if_pos rfl]
  · rw [decide_eq_true h, Bool.or_true, if_pos rfl]

theorem switchDone_of_none (h : s.pai.switch = none) : switchDone s = s := by
  unfold switchDone
  rw [h]

theorem heartbeatSend_of_due (hmode : s.pai.mode ≠ .off) (hdue : s.pai.sentAt < nowD s / usT 100 * usT 100)
    (hswitch : s.pai.switch = none) :
    heartbeatSend s = { s with
      pai.sentAt := nowD s / usT 100 * usT 100, pai.seq := s.pai.seq + 1
      pai.hbMiss := s.pai.hbMiss + BitVec.ofNat 32
        (([0, 1].filter (fun l => bit l s.pai.lanes)).countP (fun l => tget s.pai.laneBeat l 0 + 100000 < s.tim.ck))
      out := s.out ++ ([0, 1].filter (fun l => bit l s.pai.lanes)).map (fun l => Out.beat l (beatBytes s)) } := by
  unfold heartbeatSend
  dsimp only
  rw [beq_false_of_ne hmode, decide_eq_false hdue.not_ge, Bool.or_self, if_neg Bool.false_ne_true]
  split
  · rfl
  · exact switchDone_of_none hswitch

section Receive
variable {lane : Nat} {b : List Byte} {pact fenced : Bool}

theorem heartbeatReceive_of_bad (h : bit lane s.pai.lanes = false ∨ b.length ≠ 32 ∨
    fld 28 4 b ≠ (crc32c (b.take 28)).toNat) : heartbeatReceive lane b pact fenced s = s := by
  unfold heartbeatReceive
  refine if_pos (.inr ?_)
  obtain h | h | h := h
  · exact .inl (by rw [h]; rfl)
  · exact .inr (.inl h)
  · exact .inr (.inr (.inl h))

theorem heartbeatReceive_of_sound (hlane : lane ≤ 1) (hup : bit lane s.pai.lanes = true) (hlen : b.length = 32)
    (hcrc : fld 28 4 b = (crc32c (b.take 28)).toNat) (hmode : s.pai.mode ≠ .off) :
    heartbeatReceive lane b pact fenced s = beatActs { s with
      pai.peer := some { bytes := b, at_ := nowD s, ck := s.tim.ck }
      pai.laneBeat := tset s.pai.laneBeat lane s.tim.ck
      pai.pact := pact, pai.fenced := s.pai.fenced && fenced } := by
  unfold heartbeatReceive
  refine if_neg ?_
  rintro (h | h | h | h | h)
  · exact absurd hlane (Nat.not_le_of_gt h)
  · rw [hup] at h
    exact Bool.false_ne_true h
  · exact h hlen
  · exact h hcrc
  · exact hmode h

end Receive

theorem peerLost_of_synced (cause : Nat) (h : s.pai.mode = .synced) :
    Noted { s with pai.mode := .takeover, pai.fence := true, pai.tk := some (s.tim.ck, false, false) } (peerLost cause s) := by
  unfold peerLost
  rw [h]
  exact .trans (paiState_noted ..) (raise_noted ..)

section Beat
variable (hmode : s.pai.mode = .synced) (hpeer : s.pai.peerState = 2)
include hmode hpeer

theorem beatActs_of_synced :
    beatActs s = if bit 3 (fld 1 1 ((s.pai.peer.map (·.bytes)).getD [])) then peerLost 2 s else s := by
  unfold beatActs
  dsimp only
  rw [hpeer, if_neg (by decide), hmode]

theorem beatActs_of_yield (h : bit 3 (fld 1 1 ((s.pai.peer.map (·.bytes)).getD [])) = true) :
    (beatActs s).pai.mode = .takeover ∧ (beatActs s).pai.fence = true := by
  rw [beatActs_of_synced hmode hpeer, if_pos h, (peerLost_of_synced 2 hmode).pai]
  exact ⟨rfl, rfl⟩

theorem beatActs_of_steady (h : bit 3 (fld 1 1 ((s.pai.peer.map (·.bytes)).getD [])) = false) : beatActs s = s := by
  rw [beatActs_of_synced hmode hpeer, h, if_neg Bool.false_ne_true]

end Beat

section Loss
variable {pact : Bool} {b : PeerBeat} (hpeer : s.pai.peer = some b)
include hpeer

theorem heartbeatLoss_of_recent (h : s.tim.ck < b.ck + 1000000) : heartbeatLoss pact s = s := by
  unfold heartbeatLoss
  rw [hpeer, Option.all_some, decide_eq_true h, if_pos rfl]

theorem heartbeatLoss_of_synced (hlost : b.ck + 1000000 ≤ s.tim.ck) (hmode : s.pai.mode = .synced)
    (hlanes : s.pai.lanes % 4 ≠ 0) : heartbeatLoss pact s = peerLost 1 { s with pai.pact := pact } := by
  have hlink : lanesLost { s with pai.pact := pact } = false := by
    unfold lanesLost
    rw [decide_eq_false hlanes, Bool.false_and, Bool.false_and]
  unfold heartbeatLoss
  rw [hpeer, Option.all_some, decide_eq_false hlost.not_gt, if_neg Bool.false_ne_true]
  dsimp only
  split
  · next h => exact absurd (hmode.symm.trans h) PaiMode.noConfusion
  · exact if_neg (by rw [hlink]; exact Bool.false_ne_true)
  · next h => exact absurd hmode h

end Loss

/-! ## Packets (R625) -/

section Packet
variable {lane q : Nat}

theorem packetReceive_of_down {packet : Option (Nat × Option PairMsg)} {acks : List Nat} {crcOk : Bool}
    (h : bit lane s.pai.lanes = false ∨ crcOk = false) : packetReceive lane packet acks crcOk s = s := by
  unfold packetReceive
  refine if_pos ?_
  obtain h | h := h <;> rw [h] <;> simp

variable (hlane : lane ≤ 1) (hup : bit lane s.pai.lanes = true)
include hlane hup

theorem packetReceive_takes : (!bit lane s.pai.lanes || decide (1 < lane) || !true) = false := by
  rw [hup, decide_eq_false hlane.not_gt]
  rfl

theorem packetReceive_of_ack {t : PairTx} (hfind : s.pai.tx.find? (fun t => t.seq == q) = some t) (htag : t.tag = .other) :
    packetReceive lane none [q] true s = { s with pai.tx := s.pai.tx.filter (fun t => t.seq != q) } := by
  have hacked : acked s q = { s with pai.tx := s.pai.tx.filter (fun t => t.seq != q) } := by
    unfold acked
    rw [hfind]
    dsimp only
    rw [htag]
  unfold packetReceive
  rw [packetReceive_takes hlane hup, if_neg Bool.false_ne_true]
  exact hacked

theorem packetReceive_of_old {m : Option PairMsg} (hold : q < s.pai.rxNext) :
    packetReceive lane (some (q, m)) [] true s = { s with out := s.out ++ [.pairAck lane q] } := by
  unfold packetReceive
  rw [packetReceive_takes hlane hup, if_neg Bool.false_ne_true]
  exact if_pos hold

theorem packetReceive_of_info {v : List Nat} {i a b : Nat} (hbuf : s.pai.rxBuf = []) :
    packetReceive lane (some (s.pai.rxNext, some (.info v i a b))) [] true s = { s with
      out := s.out ++ [.pairAck lane s.pai.rxNext], pai.rxNext := s.pai.rxNext + 1, pai.peerInfo := some (v, i, a, b) } := by
  unfold packetReceive
  rw [packetReceive_takes hlane hup, if_neg Bool.false_ne_true]
  simp only [List.foldl_nil, lt_irrefl, if_false]
  rw [hbuf]
  simp [tset, deliverNext, tfind, tdel, deliver]

end Packet

theorem retransmit_of_none {q : Nat} (h : s.pai.tx.find? (fun t => t.seq == q) = none) : retransmit q s = s := by
  unfold retransmit
  rw [h]

theorem retransmit_of_late {q : Nat} {t : PairTx} (h : s.pai.tx.find? (fun t => t.seq == q) = some t)
    (hlate : t.sentAt + 20000 ≤ s.tim.ck) (hup : bit t.lane s.pai.lanes = true) (hlanes : s.pai.lanes % 4 ≠ 0) :
    retransmit q s = { s with
      pai.tx := s.pai.tx.map (fun u => if u.seq = q then { u with lane := t.lane, sentAt := s.tim.ck } else u)
      pai.retx := s.pai.retx + 1, out := s.out ++ [.pair t.lane q t.payload] } := by
  unfold retransmit
  rw [h]
  dsimp only
  rw [if_neg (not_or.mpr ⟨hlate.not_gt, hlanes⟩), if_pos hup]

/-! ## Lanes (R625) -/

section Lane
variable {l : Nat} (hl : l ≤ 1)
include hl

omit hl in
theorem laneUp_of_up (hup : bit l s.pai.lanes = true) : laneUp l s = s := if_pos (.inr hup)

theorem laneUp_of_down (hup : bit l s.pai.lanes = false) (hlanes : s.pai.lanes % 4 ≠ 0) :
    laneUp l s = { s with pai.lanes := s.pai.lanes + 2 ^ l, pai.laneBeat := tset s.pai.laneBeat l s.tim.ck } := by
  unfold laneUp
  rw [if_neg (not_or.mpr ⟨hl.not_gt, by rw [hup]; exact Bool.false_ne_true⟩)]
  exact if_neg hlanes

omit hl in
theorem laneDown_of_down (hup : bit l s.pai.lanes = false) : laneDown l s = s := by
  unfold laneDown
  rw [if_pos (.inr (by rw [hup]; rfl))]

theorem laneDown_of_up (hup : bit l s.pai.lanes = true) :
    (laneDown l s).pai.lanes = s.pai.lanes - 2 ^ l ∧ (laneDown l s).pai.tx = s.pai.tx := by
  have hdown : laneDown l s = raise Ev.paiLaneDown [(1, l)] (if (s.pai.lanes - 2 ^ l) % 4 = 0
      then { s with pai.lanes := s.pai.lanes - 2 ^ l, pai.downAt := s.tim.ck }
      else { s with pai.lanes := s.pai.lanes - 2 ^ l }) :=
    if_neg (not_or.mpr ⟨hl.not_gt, by rw [hup]; exact Bool.false_ne_true⟩)
  rw [hdown, raise_pai]
  split <;> exact ⟨rfl, rfl⟩

end Lane

end Sys2Proof.Proofs.Pairs
end

section
/-!
The takeover of a pair, its fences, claims and the acknowledgements that a command waits for (16_pair).
-/
namespace Sys2Proof.Proofs.Pairs
open Sys2Proof Sys2Proof.Machine Sys2Proof.Laws
open Sys2Proof.Proofs.Notes Sys2Proof.Proofs.PairFrame Sys2Proof.Proofs.Configuration

variable {s : Device}

/-! ## Takeover (R637 to R639) -/

section Outside
variable (h : s.pai.mode ≠ .takeover ∨ s.pai.tk = none)
include h

theorem fenceDone_of_outside : fenceDone s = s := by
  unfold fenceDone
  split
  · next hmode htk =>
    obtain h | h := h
    · exact absurd hmode h
    · exact absurd (h.symm.trans htk) (Option.some_ne_none _).symm
  · rfl

theorem fenceTimeout_of_outside : fenceTimeout s = s := by
  unfold fenceTimeout
  split
  · next hmode htk =>
    obtain h | h := h
    · exact absurd hmode h
    · exact absurd (h.symm.trans htk) (Option.some_ne_none _).symm
  · rfl

theorem takeoverEnable_of_outside : takeoverEnable s = s := by
  unfold takeoverEnable
  split
  · next hmode htk _ =>
    obtain h | h := h
    · exact absurd hmode h
    · exact absurd (h.symm.trans htk) (Option.some_ne_none _).symm
  · rfl

end Outside

theorem drainJournal_eq (slots : List Nat) (s : Device) :
    ∃ q, drainJournal slots none s = { s with kep.slots := q, kep.journal := [] } := by
  unfold drainJournal
  extract_lets base from_ rs u v q
  split
  · exact ⟨_, rfl⟩
  · exact ⟨_, rfl⟩

section Fence
variable {t : Nat} {x : Bool} (hmode : s.pai.mode = .takeover) (htk : s.pai.tk = some (t, false, x))
include hmode htk

theorem fenceDone_of_fenced : (fenceDone s).pai.tk = some (t, true, false) ∧ (fenceDone s).pai.pact = false ∧
    (fenceDone s).pai.mode = .takeover ∧ (fenceDone s).kep.phase = .image ∧ (fenceDone s).kep.journal = [] ∧
    (fenceDone s).kep.askedAt = s.tim.ck := by
  obtain ⟨q, hdrained⟩ := drainJournal_eq [] { s with pai.pact := false, pai.rxBuf := [], pai.tk := some (t, true, false) }
  unfold fenceDone
  rw [hmode, htk]
  dsimp only at hdrained ⊢
  rw [hdrained]
  exact ⟨rfl, rfl, hmode, rfl, rfl, rfl⟩

theorem fenceTimeout_of_early (h : s.tim.ck < t + 100000) : fenceTimeout s = s := by
  unfold fenceTimeout
  rw [hmode, htk]
  exact if_pos h

theorem fenceTimeout_of_late (h : t + 100000 ≤ s.tim.ck) : fenceTimeout s =
    raise Ev.paiFenceFail [(4, (s.tim.ck - t) / 1000)]
      (paiState .orphan { s with pai.pact := true, pai.tk := none, pai.fence := false }) := by
  unfold fenceTimeout
  rw [hmode, htk]
  exact if_neg h.not_gt

end Fence

theorem resumed_pai (s : Device) : (resumed s).pai = { s.pai with resetAt := none } := by
  unfold resumed
  rw [sprResume_pai]
  split
  · rfl
  · dsimp only
    rw [raise_pai]

theorem takeoverSaf_pai (s : Device) : (takeoverSaf s).pai = s.pai := rfl

theorem takeoverEnable_of_restored {t : Nat} {x : Bool} (hmode : s.pai.mode = .takeover)
    (htk : s.pai.tk = some (t, true, x)) (hphase : s.kep.phase = .resume) :
    ∃ us, (takeoverEnable s).pai = { s.pai with
      tk := none, takeovers := s.pai.takeovers + 1, lastTk := us, yield := false, mode := .active, resetAt := none } := by
  unfold takeoverEnable
  rw [hmode, htk, hphase]
  dsimp only
  rw [ite_pai, enterRunning_pai, enterLoaded_pai, ite_self, raise_pai, takeoverLtn_pai, takeoverSaf_pai, takeoverCan_pai,
    resumed_pai]
  cases s.kep.restored with
  | none =>
    dsimp only
    rw [resumeCold_pai, paiState_pai]
    exact ⟨_, rfl⟩
  | some q =>
    have houts : (writeOuts q (takeoverCfg q s)).pai = s.pai := (writeOuts_pai ..).trans (takeoverCfg_pai ..)
    dsimp only
    rw [resumeWarm_pai, paiState_pai]
    generalize writeOuts q (takeoverCfg q s) = u at houts
    dsimp only
    rw [houts]
    exact ⟨_, rfl⟩

/-! ## The fence against this device (R630) -/

theorem fencedAssert_of_passive (h : s.pai.mode ≠ .active) : fencedAssert s = { s with pai.fenced := true } := by
  unfold fencedAssert
  exact if_pos (bne_iff_ne.mpr h)

@[simp] theorem rollback_cfg (y : Cycle) (s : Device) : (rollback y s).cfg = s.cfg := by
  unfold rollback
  split
  · split
    · simp
    · rfl
  · simp

theorem haltEngines_cfg (s : Device) : (haltEngines s).cfg = s.cfg := by
  have heth : (stopEth (stopPgm s)).cfg = (stopPgm s).cfg := by
    unfold stopEth
    exact foldl_cfg (fun t st => stnDisable_cfg st t) _ _
  have hpgm : (stopPgm s).cfg = s.cfg := by
    unfold stopPgm
    exact foldl_cfg (fun t y => (modProg_cfg ..).trans (rollback_cfg y t)) _ s
  exact heth.trans hpgm

theorem fblTake_cfg (s : Device) : (fblTake s).cfg = s.cfg := by
  unfold fblTake
  split
  · rfl
  · split
    · rfl
    · rw [(Fallback.fblDrive_mapped _).cfg, raise_cfg]

/-- A change of the configuration's state is named; nothing else of the device changes (R146). -/
theorem cfgState_noted (m : CfgMode) (s : Device) : Noted { s with cfg.mode := m } (cfgState m s) := by
  unfold cfgState
  exact raise_noted ..

theorem cfgState_mode (m : CfgMode) (s : Device) : (cfgState m s).cfg.mode = m :=
  congrArg Cfg.mode (cfgState_noted m s).cfg

theorem enterLoaded_of_running (h : s.cfg.mode = .running) : (enterLoaded s).cfg.mode = .loaded := by
  have hhalt : ({ haltEngines s with kep.runAtLoss := false } : Device).cfg.mode = .running :=
    (congrArg Cfg.mode (haltEngines_cfg s)).trans h
  unfold enterLoaded
  dsimp only at hhalt ⊢
  rw [fblTake_cfg, hhalt, beq_self_eq_true, if_pos rfl, cfgState_mode]

theorem fencedAssert_of_active (h : s.pai.mode = .active) :
    (fencedAssert s).pai = { s.pai with fenced := true, shipping := false, yield := false, mode := .fenced } ∧
      (s.cfg.mode = .running → (fencedAssert s).cfg.mode = .loaded) ∧ (fencedAssert s).saf = s.saf := by
  have hnoted : Noted { s with pai.fenced := true, pai.shipping := false, pai.yield := false, pai.mode := .fenced }
      (raise Ev.paiFenced [(1, paiCode .active)]
        (paiState .fenced { s with pai.fenced := true, pai.shipping := false, pai.yield := false })) :=
    (paiState_noted ..).trans (raise_noted ..)
  unfold fencedAssert
  dsimp only
  rw [bne_eq_false_iff_eq.mpr h, if_neg Bool.false_ne_true]
  generalize raise Ev.paiFenced _ _ = t at hnoted
  have hsaf : (enterLoaded t).saf = t.saf := (enterLoaded_keepsSaf t t).mpr (.refl t)
  split
  · next hmode =>
    refine ⟨hnoted.pai, fun hrun => ?_, hnoted.saf⟩
    rw [hnoted.cfg] at hmode
    exact absurd (hrun.symm.trans (eq_of_beq hmode)) CfgMode.noConfusion
  · refine ⟨(enterLoaded_pai t).trans hnoted.pai, fun hrun => enterLoaded_of_running ?_, hsaf.trans hnoted.saf⟩
    rw [hnoted.cfg]
    exact hrun

/-! ## Acknowledgements, claims and the listening (R628, R629, R634, R640) -/

theorem resync_kept (cause : Nat) (s : Device) : (resync cause s).pai.waits = s.pai.waits ∧ (resync cause s).tim = s.tim ∧
    (resync cause s).cfg = s.cfg := by
  unfold resync
  split
  · rw [raise_pai, raise_tim, raise_cfg]
    exact ⟨rfl, rfl, rfl⟩
  · exact ⟨rfl, rfl, rfl⟩

section Acks
variable (hstaging : s.cfg.staging = [])
include hstaging

theorem syncTimeout_of_none (hwaits : s.pai.waits = []) : syncTimeout s = s := by
  unfold syncTimeout
  dsimp only
  rw [hstaging, hwaits]
  rfl

theorem syncTimeout_of_late {w : SyncWait} (hwaits : s.pai.waits = [w]) (hlate : w.till ≤ s.tim.ck) :
    syncTimeout s = finish w.pend .ok w.detail [] { resync 1 s with pai.waits := [] } := by
  obtain ⟨hkept, htim, -⟩ := resync_kept 1 s
  have hdue : [w].filter (fun w => decide (w.till ≤ s.tim.ck)) = [w] := by simp [hlate]
  have hrest : [w].filter (fun w => decide (s.tim.ck < w.till)) = [] := by simp [hlate]
  unfold syncTimeout
  dsimp only
  rw [hstaging, hwaits, List.find?_nil, hdue]
  refine (if_neg Bool.false_ne_true).trans ?_
  dsimp only
  rw [hkept, htim, hwaits, hrest]
  rfl

end Acks

theorem claimExpiry_of_none {pact : Bool} (h : s.pai.claim = none) : claimExpiry pact s = s := by
  unfold claimExpiry
  rw [h]

section Claim
variable {t : Nat} {p : Pend} (h : s.pai.claim = some (some p, t)) (hdue : t + 20000 ≤ s.tim.ck)
include h hdue

theorem claimExpiry_of_refused (hunit : pairUnit s = 1) :
    claimExpiry true s = finish p .rejectedState 0 [] { s with pai.claim := none, pai.pact := true } := by
  have hunit' : pairUnit { s with pai.claim := none, pai.pact := true } = 1 := hunit
  unfold claimExpiry
  rw [h]
  dsimp only
  rw [if_neg hdue.not_gt, hunit']
  exact if_pos rfl

theorem claimExpiry_of_granted (hup : s.btr.spireUp = true) (hmode : s.cfg.mode = .loaded) :
    claimExpiry false s = finish p .ok
      (goRunning (paiState .active { s with pai.claim := none, pai.pact := false })).cfg.version []
      (goRunning (paiState .active { s with pai.claim := none, pai.pact := false })) := by
  unfold claimExpiry
  rw [h]
  dsimp only
  rw [if_neg hdue.not_gt, hup, bne_eq_false_iff_eq.mpr hmode]
  exact if_neg Bool.false_ne_true

end Claim

theorem listenExpiry_of_none (h : s.pai.listenUntil = none) : listenExpiry s = s := by
  unfold listenExpiry
  rw [h]

section Listen
variable {t : Nat} (h : s.pai.listenUntil = some t)
include h

theorem listenExpiry_of_early (hearly : s.tim.ck < t) : listenExpiry s = s := by
  unfold listenExpiry
  rw [h]
  exact if_pos hearly

theorem listenExpiry_of_alone (hdue : t ≤ s.tim.ck) (hmode : s.pai.mode = .listen) (halone : activePeer s = false) :
    listenExpiry s = { s with pai.listenUntil := none, pai.claim := some (none, s.tim.ck) } := by
  unfold listenExpiry
  rw [h]
  dsimp only
  rw [if_neg hdue.not_gt, halone, beq_iff_eq.mpr hmode]
  exact if_pos rfl

end Listen

theorem yieldTimeout_of_due {t : Nat} (h : s.pai.resetAt = some t) (hdue : t + yieldMs s * 1000000 ≤ s.tim.ck)
    (hsynced : s.pai.synced = true) : yieldTimeout s = { s with pai.yield := true } := by
  unfold yieldTimeout
  rw [h]
  exact (if_pos hdue).trans (if_pos hsynced)

theorem yieldTimeout_of_alone (h : s.pai.resetAt = none ∨ s.pai.synced = false) : yieldTimeout s = s := by
  unfold yieldTimeout
  split
  · next t hreset =>
    obtain h | h := h
    · exact absurd (h.symm.trans hreset) (Option.some_ne_none t).symm
    · have hyield : setYield s = s := if_neg (by rw [h]; exact Bool.false_ne_true)
      rw [hyield, ite_self]
  · rfl

theorem switchTimeout_of_none (h : s.pai.switch = none) : switchTimeout s = s := by
  unfold switchTimeout
  rw [h]

theorem switchTimeout_of_late {p : Pend} {t : Nat} {e : Option Nat} (h : s.pai.switch = some (p, t, e))
    (hlate : t + 20000000 ≤ s.tim.ck) (hyield : s.pai.yield = false) :
    switchTimeout s = finish p .timeout 0 [] { s with pai.switch := none } := by
  unfold switchTimeout
  rw [h]
  dsimp only
  rw [decide_eq_false hlate.not_gt, hyield, Bool.or_self, if_neg Bool.false_ne_true]

end Sys2Proof.Proofs.Pairs
end

section
/-!
Commands of PAI, and the two devices of a pair together (16_pair).
-/
namespace Sys2Proof.Proofs.PairCommands
open Sys2Proof Sys2Proof.Machine Sys2Proof.Laws
open Sys2Proof.Proofs.SecurityAccess Sys2Proof.Proofs.Commands Sys2Proof.Proofs.Pairs

variable {d : Desc} {s : Device}

@[simp] theorem pairEn_started : pairEn (started d s) = pairEn s := rfl
@[simp] theorem activePeer_started : activePeer (started d s) = activePeer s := rfl
@[simp] theorem receives_started : receives (started d s) = receives s := rfl

/-! ## Joining and leaving (R631, R634, R643) -/

/-- A standby that the peer takes is JOINING with nothing of the shipment yet. -/
theorem tryJoin_of_matching (h : joinCheck s = 0) : tryJoin s =
    paiState .joining { s with pai.check := 0, pai.listenUntil := none, pai.gotConfig := false, pai.gotImage := false } := by
  unfold tryJoin
  rw [h]
  exact if_pos rfl

section Plain
variable (hfields : badField { target := false } [] d = none)
include hfields

theorem paiJoin_of_orphan (hen : pairEn s = true) (hmode : s.pai.mode = .orphan) (hpeer : activePeer s = true)
    (hclaim : s.pai.claim = none) (hcheck : joinCheck (started d s) = 0) :
    paiJoin (pendOf d s) (started d s) = okWith 0 (paiState .joining { started d s with
      pai.check := 0, pai.listenUntil := none, pai.gotConfig := false, pai.gotImage := false }) := by
  unfold paiJoin
  refine (checked_fields_when hfields ?_).trans ?_
  · rw [pairEn_started, activePeer_started, started_pai, hen, hmode, hpeer, hclaim]
    rfl
  · rw [tryJoin_of_matching hcheck]
    exact if_pos (by rw [paiState_pai])

theorem paiJoin_of_serving (hmode : s.pai.mode = .active ∨ s.pai.mode = .synced) :
    paiJoin (pendOf d s) (started d s) = .done .rejectedState 0 [] (started d s) := by
  unfold paiJoin
  refine checked_fields_refused hfields ?_
  rw [started_pai]
  obtain hmode | hmode := hmode <;> rw [hmode] <;> cases pairEn (started d s) <;> rfl

theorem paiSwitch_of_synced (hmaint : needMaint (started d s) = false) (hsynced : s.pai.synced = true)
    (hrun : s.cfg.mode = .running) (hswitch : s.pai.switch = none) :
    paiSwitch (pendOf d s) (started d s) =
      .wait { started d s with pai.switch := some (pendOf d s, s.tim.ck, none) } := by
  unfold paiSwitch
  refine (checked_fields_when_when hfields hmaint ?_).trans rfl
  rw [started_pai, started_cfg, hsynced, hrun, hswitch]
  rfl

theorem paiLeave_of_receiving (hmode : s.pai.mode = .joining ∨ s.pai.mode = .synced) :
    paiLeave (pendOf d s) (started d s) = okWith 0 (paiState .listen (started d s)) := by
  unfold paiLeave
  refine checked_fields_when hfields ?_
  rw [receives_started]
  unfold receives
  obtain hmode | hmode := hmode <;> rw [hmode] <;> rfl

end Plain

/-! ## PAI_READ_PEER and PAI_CLEAR_COUNTERS -/

theorem paiReadPeer_of_heard {b : PeerBeat} (hpeer : s.pai.peer = some b)
    (hfields : badField { target := false, bufMin := 64, bufMax := 16777216 } [] d = none) :
    paiReadPeer (pendOf d s) (started d s) = okBuf s.pai.peerState
      (padTo 64 (b.bytes.take 32 ++ le 8 (b.at_ / 256) ++ le 4 s.pai.check)) (started d s) := by
  unfold paiReadPeer
  refine (checked_when_fields ?_ hfields).trans ?_
  · rw [started_pai, hpeer]
    rfl
  · rw [started_pai, hpeer]

theorem paiReadPeer_of_silent (hpeer : s.pai.peer = none) :
    paiReadPeer (pendOf d s) (started d s) = .done .notFound 0 [] (started d s) := by
  unfold paiReadPeer
  refine checked_refused ?_
  rw [started_pai, hpeer]
  rfl

theorem paiClear_of_fields (hfields : badField { target := false, pmask := 1 } [(32 ≤ d.p0.toNat, 24)] d = none) :
    paiClear (pendOf d s) (started d s) = okWith 0 { started d s with
      pai.hbMiss := clr d.p0.toNat 0 s.pai.hbMiss, pai.retx := clr d.p0.toNat 1 s.pai.retx
      pai.resyncs := clr d.p0.toNat 2 s.pai.resyncs, pai.takeovers := clr d.p0.toNat 3 s.pai.takeovers
      pai.lastTk := clrN d.p0.toNat 4 s.pai.lastTk } := by
  unfold paiClear
  exact checked_fields hfields

/-- Settles O56. A heartbeat counts as sent with no lane up (log 97), PR_FENCE_N is released where the fence fails
(log 67), the bytes of the info message are opaque (log 46), and a switch-over waits the 20 ms of Table PAI-6. -/
theorem pairsKeepTogether : Obligations.PairsKeepTogether := by
  unfold Obligations.PairsKeepTogether
  refine ⟨fun s hearly => ?_, fun s hmode hdue hswitch => ?_, fun lane b pact fenced s hbad => ?_,
    fun lane b pact fenced s hlane hup hlen hcrc hmode => ?_,
    fun s hmode hpeer => ⟨beatActs_of_yield hmode hpeer, beatActs_of_steady hmode hpeer⟩,
    fun pact b s hpeer hrecent => ?_, fun pact b s hpeer hlost hmode hlanes => ?_, fun s hout => ⟨?_, ?_, ?_⟩,
    fun t x s hmode htk => ⟨_, exec_takeoverFenceDone .., fenceDone_of_fenced hmode htk⟩,
    fun t x s hmode htk => ⟨fun hearly => ?_, fun hlate => ?_⟩, fun t x s hmode htk hphase => ?_,
    fun s hmode => ?_, fun s hmode => ?_, fun lane q m acks s hdown => ?_, fun lane packet acks s => ?_,
    fun lane q t s hlane hup hfind htag => ?_, fun lane q m s hlane hup hold => ?_,
    fun lane v i a b s hlane hup hbuf => ?_, fun q s hnone => ?_, fun q t s hfind hlate hup hlanes => ?_,
    fun l s _ hup => ?_, fun l s hl hup => ⟨_, exec_paiLaneDown .., laneDown_of_up hl hup⟩,
    fun l s hl hdown hlanes => ⟨?_, ?_⟩, fun s hstaging hwaits => ?_, fun w s hstaging hwaits hlate => ?_,
    fun pact s hnone => ?_, fun t p s hclaim hdue hunit => ?_, fun t p s hclaim hdue hup hmode => ?_,
    fun s hnone => ?_, fun t s hlisten => ⟨fun hearly => ?_, fun hdue hmode halone => ?_⟩,
    fun t s hreset hdue hsynced => ?_, fun s halone => ?_,
    fun d s hstart hfields hen hmode hpeer hclaim hcheck => ?_, fun d s hstart hfields hmode => ?_,
    fun d s hstart hfields hmaint hsynced hrun hswitch => ?_, fun s hnone => ?_,
    fun p t e s hswitch hlate hyield => ?_, fun d s hstart hfields hmode => ?_,
    fun d b s hstart hfields hpeer => ?_, fun d s hstart hpeer => ?_, fun d s hstart hfields => ?_⟩
  · rw [exec_heartbeatSend, execHeartbeatSend, heartbeatSend_of_early hearly]
  · rw [exec_heartbeatSend, execHeartbeatSend, heartbeatSend_of_due hmode hdue hswitch]
  · rw [exec_heartbeatReceive, execHeartbeatReceive, heartbeatReceive_of_bad hbad]
  · rw [exec_heartbeatReceive, execHeartbeatReceive, heartbeatReceive_of_sound hlane hup hlen hcrc hmode]
  · rw [exec_heartbeatLoss, execHeartbeatLoss, heartbeatLoss_of_recent hpeer hrecent]
  · have hnoted := peerLost_of_synced (s := { s.dev with pai.pact := pact }) 1 hmode
    refine ⟨_, exec_heartbeatLoss .., ?_⟩
    rw [heartbeatLoss_of_synced hpeer hlost hmode hlanes, hnoted.pai, hnoted.saf]
    exact ⟨rfl, rfl, rfl, rfl, rfl⟩
  · rw [exec_takeoverFenceDone, execTakeoverFenceDone, fenceDone_of_outside hout]
  · rw [exec_fenceTimeout, execFenceTimeout, fenceTimeout_of_outside hout]
  · rw [exec_takeoverEnable, execTakeoverEnable, takeoverEnable_of_outside hout]
  · rw [exec_fenceTimeout, execFenceTimeout, fenceTimeout_of_early hmode htk hearly]
  · rw [exec_fenceTimeout, execFenceTimeout, fenceTimeout_of_late hmode htk hlate]
  · obtain ⟨us, hpai⟩ := takeoverEnable_of_restored hmode htk hphase
    have hgates := Belfry.takeoverEnable_keepsGates s.dev
    refine ⟨_, exec_takeoverEnable .., ?_⟩
    rw [hpai]
    exact ⟨rfl, rfl, rfl, rfl, hgates.a, hgates.b⟩
  · rw [exec_prFencedNAssert, execPrFencedNAssert, fencedAssert_of_passive hmode]
  · obtain ⟨hpai, hcfg, hsaf⟩ := fencedAssert_of_active hmode
    refine ⟨_, exec_prFencedNAssert .., ?_⟩
    rw [hpai, hsaf]
    exact ⟨rfl, rfl, rfl, hcfg, rfl, rfl⟩
  · rw [exec_pairPacketReceive, execPairPacketReceive, packetReceive_of_down (.inl hdown)]
  · rw [exec_pairPacketReceive, execPairPacketReceive, packetReceive_of_down (.inr rfl)]
  · rw [exec_pairPacketReceive, execPairPacketReceive, packetReceive_of_ack hlane hup hfind htag]
  · rw [exec_pairPacketReceive, execPairPacketReceive, packetReceive_of_old hlane hup hold]
  · rw [exec_pairPacketReceive, execPairPacketReceive, packetReceive_of_info hlane hup hbuf]
  · rw [exec_pairRetransmitTimeout, execPairRetransmitTimeout, retransmit_of_none hnone]
  · rw [exec_pairRetransmitTimeout, execPairRetransmitTimeout, retransmit_of_late hfind hlate hup hlanes]
  · rw [exec_paiLaneUp, execPaiLaneUp, laneUp_of_up hup]
  · rw [exec_paiLaneDown, execPaiLaneDown, laneDown_of_down hdown]
  · rw [exec_paiLaneUp, execPaiLaneUp, laneUp_of_down hl hdown hlanes]
  · rw [exec_syncAckTimeout, execSyncAckTimeout, syncTimeout_of_none hstaging hwaits]
  · rw [exec_syncAckTimeout, execSyncAckTimeout, syncTimeout_of_late hstaging hwaits hlate]
  · rw [exec_claimWaitExpiry, execClaimWaitExpiry, claimExpiry_of_none hnone]
  · rw [exec_claimWaitExpiry, execClaimWaitExpiry, claimExpiry_of_refused hclaim hdue hunit]
  · rw [exec_claimWaitExpiry, execClaimWaitExpiry, claimExpiry_of_granted hclaim hdue hup hmode]
  · rw [exec_powerUpListenExpiry, execPowerUpListenExpiry, listenExpiry_of_none hnone]
  · rw [exec_powerUpListenExpiry, execPowerUpListenExpiry, listenExpiry_of_early hlisten hearly]
  · rw [exec_powerUpListenExpiry, execPowerUpListenExpiry, listenExpiry_of_alone hlisten hdue hmode halone]
  · rw [exec_yieldTimeout, execYieldTimeout, yieldTimeout_of_due hreset hdue hsynced]
  · rw [exec_yieldTimeout, execYieldTimeout, yieldTimeout_of_alone halone]
  · rw [exec_paiJoin, execPaiJoin, runCmd_of_done hstart (paiJoin_of_orphan hfields hen hmode hpeer hclaim hcheck)]
  · rw [exec_paiJoin, execPaiJoin, runCmd_of_done hstart (paiJoin_of_serving hfields hmode)]
  · rw [exec_paiSwitchover, execPaiSwitchover,
      runCmd_of_wait hstart (paiSwitch_of_synced hfields hmaint hsynced hrun hswitch)]
  · rw [exec_switchoverTimeout, execSwitchoverTimeout, switchTimeout_of_none hnone]
  · rw [exec_switchoverTimeout, execSwitchoverTimeout, switchTimeout_of_late hswitch hlate hyield]
  · rw [exec_paiLeave, execPaiLeave, runCmd_of_done hstart (paiLeave_of_receiving hfields hmode)]
  · rw [exec_paiReadPeer, execPaiReadPeer, runCmd_of_done hstart (paiReadPeer_of_heard hpeer hfields)]
  · rw [exec_paiReadPeer, execPaiReadPeer, runCmd_of_done hstart (paiReadPeer_of_silent hpeer)]
  · rw [exec_paiClearCounters, execPaiClearCounters, runCmd_of_done hstart (paiClear_of_fields hfields)]

end Sys2Proof.Proofs.PairCommands
end
